-- ==== Sys2Proof/Word.lean ====
section
/-! DEFINITION. The plain words the F9600's records are made of, and tables: finite maps held as plain data. -/
namespace Sys2Proof

/-- One byte. -/
abbrev Byte := BitVec 8

/-- A finite map from indices to values, held as a list of pairs.
`find`, `put` and `erase` are its only operations; an index that is not listed has its unit's reset value. -/
abbrev Table (α : Type) := List (Nat × α)

/-- The value listed at `k`, if any. -/
def Table.find {α : Type} : Table α → Nat → Option α
  | [], _ => none
  | (j, v) :: r, k => if j = k then some v else Table.find r k

/-- `t` with `v` at `k`; the list stays in rising order of its indices when it was. -/
def Table.put {α : Type} : Table α → Nat → α → Table α
  | [], k, v => [(k, v)]
  | (j, w) :: r, k, v =>
    if k < j then (k, v) :: (j, w) :: r
    else if k = j then (k, v) :: r
    else (j, w) :: Table.put r k v

/-- `t` with nothing at `k`. -/
def Table.erase {α : Type} : Table α → Nat → Table α
  | [], _ => []
  | (j, w) :: r, k => if j = k then Table.erase r k else (j, w) :: Table.erase r k

/-- The value at `k`, `d` where none is listed. -/
def Table.getD {α : Type} (t : Table α) (k : Nat) (d : α) : α := (t.find k).getD d

/-- The indices of `t` rise strictly. -/
def Table.rising {α : Type} : Table α → Bool
  | [] => true
  | [_] => true
  | (j, _) :: (k, w) :: r => decide (j < k) && Table.rising ((k, w) :: r)

/-- Counters of one unit: the count at each counter's row of its table, 0 where nothing is listed. -/
abbrev Counts := Table Nat

end Sys2Proof
end

