-- ==== Sys2Proof/Syntax.lean ====
section
/-! DEFINITION. The commands of the block: every row of spec/opcode_table.json, one constructor each, with the
operands the outside supplies. Instants `t` are hive time in ns. Rows of mailbox commands name the function and the
mailbox whose MBX_REQ holds the request (12_commands_setup.md, Table 12-1). -/
namespace Sys2Proof

/-- A function, HP0 to HP3 (R268). -/
abbrev Fn := Fin 4
/-- A mailbox, MBX0 to MBX7 (Table 12-1). -/
abbrev Mbx := Fin 8
/-- A lane, L00 to L95. -/
abbrev LaneId := Fin 96
/-- A context ID (R114). -/
abbrev CtxId := Fin 256
/-- A comb. -/
abbrev CombId := Fin 24
/-- An assembler. -/
abbrev AsmId := Fin 8
/-- A device queue ID (R299). -/
abbrev QId := Fin 65536
/-- A valve port. -/
abbrev VPort := Fin 8
/-- An encoder or an emulation output. -/
abbrev EncId := Fin 8
/-- A router channel. -/
abbrev Chan := Fin 256
/-- A bank, numbered as Table 20-1. -/
abbrev BankId := Fin 62

/-- The PLLs of a quad (02_lane_physical_layer.md). -/
inductive Pll where
  | a | b
deriving DecidableEq, Repr

/-- How a training frame's marker was found (R35, R37). -/
inductive Marker where
  | found | inverted | missing
deriving DecidableEq, Repr

/-- A received training frame (Table 2-5): marker, control field (Table 2-6), status field (Table 2-7). -/
structure TrainFrame where
  marker : Marker
  control : BitVec 24
  status : BitVec 24
deriving DecidableEq, Repr

/-- What a coefficient request asks of the transmitter (R38). -/
inductive CoefTap where
  | pre | post | preset
deriving DecidableEq, Repr

/-- A defect in a packet's framing seen by the deframer (R66). -/
inductive PacketFlaw where
  | none | secondSop | invalidBlock | outsideData
deriving DecidableEq, Repr

/-- A packet as received between SOP and EOP (R65): 16 header bytes, payload, the CRC of the EOP block. -/
structure RxPacket where
  header : List Byte
  payload : List Byte
  crc : BitVec 32
  flaw : PacketFlaw
deriving DecidableEq, Repr

/-- One LINE segment (Table 3-3). -/
structure LineSeg where
  sensor : Fin 8
  band : Fin 4
  first : Bool
  last : Bool
  x : Nat
  lineNo : Nat
  tExp32 : Nat
  payload : List Byte
deriving DecidableEq, Repr

/-- Kinds of FMARK (Table 3-3). -/
inductive FmarkKind where
  | frameStart | frameEnd | linesSkipped
deriving DecidableEq, Repr

/-- How GVSP lays out the pixels of a mono format (Table 4-4): each in whole bytes (Mono10), bit after bit (Mono10p), or
two in three bytes (Mono10Packed). -/
inductive GvspLayout where
  | whole | p | packed
deriving DecidableEq, Repr

/-- A GVSP pixel format (Table 4-4). -/
inductive GvspFormat where
  | mono (bits : Nat) (layout : GvspLayout)
  | rgb8
  | bgr8
  | other
deriving DecidableEq, Repr

/-- A GVSP leader's content for one part (R101, R102). -/
structure GvspPart where
  format : GvspFormat
  width : Nat
  height : Nat
deriving DecidableEq, Repr

/-- The parts of a GVSP packet that the receiver acts on (R101-R109). -/
inductive GvspBody where
  | leader (payloadType : Nat) (timestamp : Nat) (parts : List GvspPart)
  | payload (part : Nat) (offset : Nat) (data : List Byte)
  | chunk (data : List Byte)
  | trailer (height : Nat)
  | other
deriving DecidableEq, Repr

/-- A GVSP packet (R101): extended-ID flag, 64-bit block ID, 32-bit packet ID. -/
structure GvspPacket where
  extended : Bool
  blockId : Nat
  packetId : Nat
  body : GvspBody
deriving DecidableEq, Repr

/-- A master's announced dataset, in the order in which the dataset comparison looks at it (R112). -/
structure PtpMaster where
  priority1 : Nat
  clockClass : Nat
  accuracy : Nat
  variance : Nat
  priority2 : Nat
  identity : Nat
deriving DecidableEq, Repr

/-- PTP messages as a port receives them (R110-R112); times in ns. -/
inductive PtpMsg where
  | delayReq (source : Nat) (seq : Nat)
  | announce (m : PtpMaster)
  | sync (identity : Nat) (seq : Nat) (origin : Option Nat) (interval : Nat)
  | followUp (identity : Nat) (seq : Nat) (origin : Nat)
  | delayResp (identity : Nat) (received : Nat)
  | other
deriving DecidableEq, Repr

/-- What a PTP master port sends on its own (R110, R111). -/
inductive PtpSend where
  | sync | announce | delayReq
deriving DecidableEq, Repr

/-- How a translation request was answered (R284). -/
inductive XlatResult where
  | granted (translated : Nat) (size : Nat)
  | refused
deriving DecidableEq, Repr

/-- Status of a completion for a DMA read (R288). -/
inductive CplStatus where
  | ok | ur | ca | poisoned
deriving DecidableEq, Repr

/-- What an idle port asks of its link (R292). -/
inductive IdleRequest where
  | l1 | l0p
deriving DecidableEq, Repr

/-- Time sources (Table 14-1). -/
inductive TimeSource where
  | none | hive | ptp | pps
deriving DecidableEq, Repr

/-- A hive message (Table 17-4). -/
structure HMsg where
  htype : Nat
  hsub : Nat
  flags : Nat
  hops : Nat
  dest : Nat
  src : Nat
  seq : Nat
  body : List Byte
deriving DecidableEq, Repr

/-- The straps as sampled at release (R456). -/
structure Straps where
  role : Nat
  compat : Bool
  bootSel : Nat
deriving DecidableEq, Repr

/-- What an uncorrectable word held (Table 20-3). -/
inductive BadWord where
  | bandLine (c : CtxId) (lineNo : Nat)
  | lineBank
  | windowOrCell (c : CtxId) (cell : Nat)
  | accumOrTag (c : CtxId) (object : Nat)
  | queueContext (q : QId)
  | pendingEntry (slot : Nat)
  | action (slot : Nat)
  | protectedCopy (c : CtxId)
  | keeperOther
deriving DecidableEq, Repr

/-- Why the keeper restarts (Table 22-4, KEEPER_RESTART). -/
inductive RestartCause where
  | command | fwActivate | lockstep | bankEcc | jtagHalt
deriving DecidableEq, Repr

/-- Supply windows (R512, R521). -/
inductive SupplyWindow where
  | warning | fault
deriving DecidableEq, Repr

/-- The conditions under which the trip latch can clear (R580). -/
inductive TripClear where
  | vddAonLost
  | cooled (railsInWindow : Bool) (coolFor1ms : Bool)
deriving DecidableEq, Repr

/-- Commands of the F9600 as a block: one constructor per row of spec/opcode_table.json. -/
inductive Instr where
  -- registers of BAR 0, BAR 2 and BAR 4
  | registerWrite (f : Fn) (bar : Fin 5) (off : Nat) (data : List (Option Byte))
  | hbTimeLoRead (f : Fn) (t : Nat)
  | mbxGo (f : Fn) (m : Mbx)
  | mbxAbort (f : Fn) (m : Mbx)
  | abortComplete (f : Fn) (m : Mbx)
  | qdbTailWrite (f : Fn) (idx : Fin 65536) (lo hi : Option Byte)
  | qdbCplHeadWrite (f : Fn) (idx : Fin 65536) (lo hi : Option Byte)
  | decisionApertureWrite (f : Fn) (off : Nat) (data : List Byte) (t : Nat)
  | pwCommitWrite (f : Fn) (w : Fin 16) (v : BitVec 32)
  | peerWindowWrite (f : Fn) (off : Nat) (data : List (Option Byte)) (t : Nat)
  | wgFireWrite (f : Fn) (r : Fin 8) (bits : BitVec 64) (wide : Bool) (t : Nat)
  -- device
  | devGetInfo (f : Fn) (m : Mbx)
  | devGetPortStatus (f : Fn) (m : Mbx)
  | devAssign (f : Fn) (m : Mbx)
  | devGetOwner (f : Fn) (m : Mbx)
  -- lanes
  | laneConfigure (f : Fn) (m : Mbx)
  | laneGetStatus (f : Fn) (m : Mbx)
  | laneSetPower (f : Fn) (m : Mbx)
  | laneEyeScan (f : Fn) (m : Mbx) (width height eye : Nat)
  | pllLock (q : Fin 24) (p : Pll) (t : Nat)
  | trainingFrameReceived (l : LaneId) (tf : TrainFrame) (t : Nat)
  | coefficientUpdate (l : LaneId) (tap : CoefTap) (t : Nat)
  | rxReady (l : LaneId) (eye : Nat) (t : Nat)
  | trainEndDone (l : LaneId) (t : Nat)
  | trainingTimerExpiry (l : LaneId)
  | trainFailRetry (l : LaneId)
  | lockTimeout (l : LaneId)
  | idleFreeze (l : LaneId) (eye : Nat) (t : Nat)
  | adaptationResume (l : LaneId) (t : Nat)
  | eyeWindow (l : LaneId) (eye : Nat) (t : Nat)
  | driftAdaptEnd (l : LaneId) (eye : Nat) (t : Nat)
  | losAssert (l : LaneId) (t : Nat)
  | losDeassert (l : LaneId) (t : Nat)
  | losRetrain (l : LaneId) (t : Nat)
  | lolAssert (l : LaneId) (t : Nat)
  | dozeSelfWake (l : LaneId) (t : Nat)
  | fastResumeTimeout (l : LaneId)
  -- Abaend link
  | fecFrameReceived (l : LaneId) (symbols : List (Fin 4)) (t : Nat)
  | huntPeriod (l : LaneId) (symbols : List (Fin 4)) (t : Nat)
  | controlBlockReceived (l : LaneId) (payload : BitVec 64) (t : Nat)
  | packetReceived (l : LaneId) (p : RxPacket) (t : Nat)
  | lineSegmentReceived (l : LaneId) (g : LineSeg) (t : Nat)
  | fmarkReceived (l : LaneId) (sensor : Fin 8) (kind : FmarkKind) (number count : Nat) (t : Nat)
  | cctlRequestReceived (l : LaneId) (write : Bool) (tag addr len : Nat) (data : List Byte) (t : Nat)
  | cctlAckReceived (l : LaneId) (write : Bool) (tag status : Nat) (data : List Byte) (t : Nat)
  | cctlTimeout (l : LaneId) (tag : Nat)
  | testPacketReceived (l : LaneId) (seq : Nat) (payload : List Byte)
  | eventBlockReceived (l : LaneId) (rep : Bool) (kind target seq time32 : Nat) (t : Nat)
  | creditBlockReceived (l : LaneId) (vc : Fin 16) (granted : BitVec 32)
  | creditRepeat (l : LaneId)
  | packetTransmit (l : LaneId)
  | generatedLine (l : LaneId) (t : Nat)
  | timeSyncSend (l : LaneId) (t256 : Nat)
  | timeBlockReceived (l : LaneId) (kind exch : Nat) (valid source : Bool) (stamp48 t256 : Nat)
  | timeExchangeMissed (l : LaneId)
  | lmsgReceived (l : LaneId) (code seq : Nat) (t : Nat)
  | powerExchangeTimeout (l : LaneId)
  | alignMarkSend (l : LaneId) (t : Nat)
  | alignMarkReceived (l : LaneId) (bfc : BitVec 32) (skew : Nat) (t : Nat)
  | linkDegrade (l : LaneId) (t : Nat)
  | alignDegradeReceived (l : LaneId) (mask : BitVec 4) (t : Nat)
  | alignRestripeReceived (l : LaneId) (mask : BitVec 4) (t : Nat)
  | bondLaneRestore (l : LaneId) (t : Nat)
  | alignRestoreReceived (l : LaneId) (mask : BitVec 4) (t : Nat)
  | descriptorRead (l : LaneId) (t : Nat)
  | descriptorReadRetry (l : LaneId)
  -- Ethernet camera ports
  | ethFrameReceived (l : LaneId) (frame : List Byte) (fcsOk fecOk : Bool) (t : Nat)
  | ethLinkUp (l : LaneId) (t : Nat)
  | arpIcmpAnswer (l : LaneId) (t : Nat)
  | tunnelOutSend (q : QId) (t : Nat)
  | gvspPacketReceived (l : LaneId) (ch : Fin 8) (p : GvspPacket) (t : Nat)
  | gvspBlockTimeout (l : LaneId) (ch : Fin 8)
  | ptpMessageSend (l : LaneId) (kind : PtpSend) (t : Nat)
  | ptpMessageReceived (l : LaneId) (msg : PtpMsg) (t : Nat)
  -- contexts, intake and combs
  | ctxCreate (f : Fn) (m : Mbx)
  | ctxSet (f : Fn) (m : Mbx)
  | ctxAssign (f : Fn) (m : Mbx)
  | ctxStart (f : Fn) (m : Mbx)
  | ctxStop (f : Fn) (m : Mbx)
  | ctxStopped (c : CtxId)
  | ctxRelease (f : Fn) (m : Mbx)
  | ctxDestroy (f : Fn) (m : Mbx)
  | ctxGetStatus (f : Fn) (m : Mbx)
  | intakeSetPartition (f : Fn) (m : Mbx)
  | combSetSpare (f : Fn) (m : Mbx)
  | combGetStatus (f : Fn) (m : Mbx)
  | lineTimeoutExpiry (c : CtxId) (lineNo : Nat)
  | frameTimeoutExpiry (c : CtxId)
  | stripeStart (k : CombId) (t : Nat)
  | combUngate (k : CombId) (t : Nat)
  | combLine (k : CombId) (t : Nat)
  | combFault (k : CombId) (t : Nat)
  | spareCopyDone (k : CombId) (t : Nat)
  -- corrections
  | corrSetNoise (f : Fn) (m : Mbx)
  | corrSetTemporal (f : Fn) (m : Mbx)
  | corrSetSpatial (f : Fn) (m : Mbx)
  | corrSetBlack (f : Fn) (m : Mbx)
  | corrSetRegistration (f : Fn) (m : Mbx)
  | corrSetEnable (f : Fn) (m : Mbx)
  | corrLoadTable (f : Fn) (m : Mbx)
  -- segmentation and cells
  | segSetBackground (f : Fn) (m : Mbx)
  | segSetThreshold (f : Fn) (m : Mbx)
  | segSetMorph (f : Fn) (m : Mbx)
  | segCaptureBackground (f : Fn) (m : Mbx)
  | bgCaptured (c : CtxId)
  | segLoadBackground (f : Fn) (m : Mbx)
  | cellSetFormat (f : Fn) (m : Mbx)
  | stitchConfigure (f : Fn) (m : Mbx)
  | asmObject (a : AsmId) (t : Nat)
  | stitchTimeout (g : Fin 32) (frag : Nat) (t : Nat)
  | unpairedWindowEnd (g : Fin 32) (objectId : Nat)
  | cellDelivery (q : QId) (t : Nat)
  -- pairing, flight and decisions
  | pgConfigure (f : Fn) (m : Mbx)
  | pgSetRow (f : Fn) (m : Mbx)
  | pgLoadRules (f : Fn) (m : Mbx)
  | rulesReadComplete (f : Fn) (m : Mbx) (data : Option (List Byte))
  | pgSetSteering (f : Fn) (m : Mbx)
  | pgGetStatus (f : Fn) (m : Mbx)
  | decisionRecordBind (q : QId) (t : Nat)
  | decisionDeadline (slot : Nat)
  | pendingEntryFree (slot : Nat)
  | ejectActionsReceived (src : Nat) (body : List Byte) (t : Nat)
  | ejectDecisionReceived (src : Nat) (body : List Byte) (t : Nat)
  -- valve ports
  | vpConfigure (f : Fn) (m : Mbx)
  | vpSetMode (f : Fn) (m : Mbx)
  | vpTestFire (f : Fn) (m : Mbx)
  | vpGetStatus (f : Fn) (m : Mbx)
  | vpClearFault (f : Fn) (m : Mbx)
  | valveFrameLatch (v : VPort)
  | feedbackFrameReceived (v : VPort) (bits : BitVec 40) (t : Nat)
  | feedbackMissed (v : VPort)
  | valvePortReadbackFault (v : VPort) (t : Nat)
  -- host ports
  | hostLinkUp (f : Fn) (width rate100 : Nat) (t : Nat)
  | hostLinkDown (f : Fn) (t : Nat)
  | steerRestore (isCtx : Bool) (id : Fin 256) (entry : Fin 16)
  | perstAssert (f : Fn) (t : Nat)
  | perstDeassert (f : Fn) (t : Nat)
  | configWrite (f : Fn) (off : Nat) (data : List (Option Byte)) (t : Nat)
  | flr (f : Fn) (t : Nat)
  | flrComplete (f : Fn) (t : Nat)
  | translationCompletion (f : Fn) (page : Nat) (r : XlatResult)
  | invalidationRequest (f : Fn) (base size itag : Nat)
  | readCompletionReceived (f : Fn) (tag : Nat) (st : CplStatus) (data : List Byte) (t : Nat)
  | completionTimeout (f : Fn) (tag : Nat)
  | tagQuarantineEnd (f : Fn) (tag : Nat)
  | linkL1Entry (f : Fn) (kind : IdleRequest) (t : Nat)
  | doeRequest (f : Fn) (object : List Byte)
  -- queues
  | qPartition (f : Fn) (m : Mbx)
  | qCreate (f : Fn) (m : Mbx)
  | qEnable (f : Fn) (m : Mbx)
  | qDisable (f : Fn) (m : Mbx)
  | qDisabled (q : QId)
  | qReset (f : Fn) (m : Mbx)
  | qDestroy (f : Fn) (m : Mbx)
  | qSetNotify (f : Fn) (m : Mbx)
  | qGetStatus (f : Fn) (m : Mbx)
  | descriptorFetchComplete (q : QId)
  | notifyCoalTimeout (q : QId)
  | sourcePacketSend (q : QId) (t : Nat)
  | frameRecordStart (c : CtxId) (t : Nat)
  | frameRecordClose (c : CtxId) (t : Nat)
  -- time and schedule
  | timeGetStatus (f : Fn) (m : Mbx)
  | timeSetSource (f : Fn) (m : Mbx)
  | timeSetExtOffset (f : Fn) (m : Mbx)
  | timeSetPps (f : Fn) (m : Mbx)
  | sourceValidityChange (src : TimeSource) (valid : Bool) (t : Nat)
  | sourcePromotion (t : Nat)
  | ppsEdge (rise : Bool) (t : Nat)
  | extOffsetApply
  | ppsOutRise (t : Nat)
  | ppsOutFall
  | schedAdd (f : Fn) (m : Mbx)
  | schedCancel (f : Fn) (m : Mbx)
  | schedGetStatus (f : Fn) (m : Mbx)
  | actionExecute (slot : Nat) (lateBy : Nat)
  -- waggle router
  | wgConfigure (f : Fn) (m : Mbx)
  | wgConnect (f : Fn) (m : Mbx)
  | wgSetGroup (f : Fn) (m : Mbx)
  | wgExport (f : Fn) (m : Mbx)
  | wgGetStatus (f : Fn) (m : Mbx)
  | producerOccurrence (producer : Nat) (rise : Bool) (t : Nat)
  | channelDelayFire (c : Chan)
  | wgImportReceived (src : Nat) (secure : Bool) (body : List Byte) (t : Nat)
  -- encoders and general I/O
  | encConfigure (f : Fn) (m : Mbx)
  | encSetCount (f : Fn) (m : Mbx)
  | encGetStatus (f : Fn) (m : Mbx)
  | emuConfigure (f : Fn) (m : Mbx)
  | gpioConfigure (f : Fn) (m : Mbx)
  | gpioWrite (f : Fn) (m : Mbx)
  | gpioGetStatus (f : Fn) (m : Mbx)
  | encoderEdge (e : EncId) (a b : Bool) (t : Nat)
  | encoderIndex (e : EncId) (t : Nat)
  | speedUpdate (e : EncId) (t : Nat)
  | standstill (e : EncId)
  | encoderHistorySample (e : EncId) (t : Nat)
  | ssiFrame (e : EncId) (idle : Bool) (bits : List Bool) (t : Nat)
  | emulationStep (o : EncId) (t : Nat)
  | gpioEdge (pin : Fin 64) (level : Bool) (t : Nat)
  -- hive
  | hiveGetStatus (f : Fn) (m : Mbx)
  | hiveListDevices (f : Fn) (m : Mbx)
  | hiveSetPolicy (f : Fn) (m : Mbx)
  | hiveResetDevice (f : Fn) (m : Mbx)
  | hiveResetDone (device : Nat) (status : Nat)
  | hiveRemote (f : Fn) (m : Mbx)
  | remoteReqReceived (src : Nat) (fn : Nat) (request : List Byte)
  | remoteRespReceived (src : Nat) (response : List Byte)
  | hiveRemoteTimeout (f : Fn) (m : Mbx)
  | hmsgForward (arrival : LaneId) (msg : HMsg)
  | hiveFormAlone
  | electionListenEnd
  | announceSend
  | announceReceived (l : LaneId) (serial prio seq hops : Nat)
  | electionWin
  | joinRequestSend (l : LaneId)
  | joinRequestReceived (l : LaneId) (serial role : Nat) (ups : List (Nat × Nat)) (nonce : List Byte)
  | joinChallengeReceived (l : LaneId) (nonce : List Byte) (managerSerial : Nat)
  | joinResponseReceived (l : LaneId) (serial : Nat) (signature cert : List Byte)
  | joinAcceptReceived (l : LaneId) (id depth parent uplink2 : Nat) (standby : Bool)
  | joinRefuseReceived (l : LaneId) (reason : Nat)
  | joinRetry
  | aliveSend (t : Nat)
  | aliveReceived (l : LaneId) (serial : Nat) (t : Nat)
  | uplinkLoss (t : Nat)
  | rerouteReceived (l : LaneId) (device : Nat) (restore : Bool)
  | uplinkRestore (t : Nat)
  | standbyTakeover (t : Nat)
  | standbyReady
  | mirrorReceived (pieces : List (Nat × Nat)) (extOffset extFrac extSince : Nat) (last : Bool)
  | extOffsetMsgReceived (offset : BitVec 64) (frac : BitVec 16) (since : Nat) (t : Nat)
  | cellServerReceived (arrival : LaneId) (device : Nat) (ctx : Nat)
  | cellForward (arrival : LaneId) (src : Nat) (packet : List Byte)
  | updateReceived (sub : Nat) (body : List Byte)
  | updateResultReceived (src : Nat) (status : Nat) (missing : List (Nat × Nat))
  | faultSummaryReceived (src : Nat) (sub : Nat) (body : List Byte)
  | honeySummaryReceived (src : Nat) (body : List Byte)
  | hiveResetReceived (kind : Nat)
  -- firmware and trust
  | fwGetStatus (f : Fn) (m : Mbx)
  | fwWrite (f : Fn) (m : Mbx)
  | fwPieceProgrammed
  | fwVerified (flashOk : Bool)
  | fwActivate (f : Fn) (m : Mbx)
  | fwCommitSvn (f : Fn) (m : Mbx) (burnt : Nat)
  | fwDistribute (f : Fn) (m : Mbx)
  | fwDistributed
  | trustSetOwnerPolicy (f : Fn) (m : Mbx) (burnOk : Bool)
  | trustGetCert (f : Fn) (m : Mbx)
  | trustSpdm (f : Fn) (m : Mbx)
  | trustChallenge (f : Fn) (m : Mbx)
  | nonceExpiry
  | debugUnlock (f : Fn) (m : Mbx)
  -- health and records
  | healthGetSensors (f : Fn) (m : Mbx)
  | logRead (f : Fn) (m : Mbx)
  | honeyRead (f : Fn) (m : Mbx)
  | honeyReset (f : Fn) (m : Mbx)
  | calRead (f : Fn) (m : Mbx)
  | calWrite (f : Fn) (m : Mbx)
  | flashWritten (item : Fin 4) (ok : Bool)
  -- power and reset
  | pwrSetBootOptions (f : Fn) (m : Mbx)
  | pwrSetState (f : Fn) (m : Mbx)
  | pwrEntryDone (t : Nat)
  | pwrWake (cause : Fin 6) (t : Nat)
  | pwrGetStatus (f : Fn) (m : Mbx)
  | devReset (f : Fn) (m : Mbx)
  -- compatibility and diagnostics
  | compatGetInfo (f : Fn) (m : Mbx)
  | diagPrbs (f : Fn) (m : Mbx)
  | diagDone (l : LaneId)
  | diagBankRead (f : Fn) (m : Mbx)
  | diagInject (f : Fn) (m : Mbx)
  | ctxSetLaunch (f : Fn) (m : Mbx)
  | compatLaneConfigure (f : Fn) (m : Mbx)
  | compatLaneGetStatus (f : Fn) (m : Mbx)
  | compatCtxCreate (f : Fn) (m : Mbx)
  | compatCtxAssign (f : Fn) (m : Mbx)
  | compatCtxStart (f : Fn) (m : Mbx)
  | compatCtxStop (f : Fn) (m : Mbx)
  | compatCtxRelease (f : Fn) (m : Mbx)
  | compatCtxDestroy (f : Fn) (m : Mbx)
  | compatCtxGetStatus (f : Fn) (m : Mbx)
  | compatIntakeSetPartition (f : Fn) (m : Mbx)
  | compatCorrSetBlack (f : Fn) (m : Mbx)
  | compatCorrSetEnable (f : Fn) (m : Mbx)
  | compatCorrLoadTable (f : Fn) (m : Mbx)
  | compatPgSetSteering (f : Fn) (m : Mbx)
  | compatQPartition (f : Fn) (m : Mbx)
  | compatQCreate (f : Fn) (m : Mbx)
  | compatQEnable (f : Fn) (m : Mbx)
  | compatQDisable (f : Fn) (m : Mbx)
  | compatQReset (f : Fn) (m : Mbx)
  | compatQDestroy (f : Fn) (m : Mbx)
  | compatQSetNotify (f : Fn) (m : Mbx)
  | compatQGetStatus (f : Fn) (m : Mbx)
  | compatTimeGetStatus (f : Fn) (m : Mbx)
  | compatTimeSetSource (f : Fn) (m : Mbx)
  | compatTimeSetExtOffset (f : Fn) (m : Mbx)
  | compatTimeSetPps (f : Fn) (m : Mbx)
  | compatSchedAdd (f : Fn) (m : Mbx)
  | compatSchedCancel (f : Fn) (m : Mbx)
  | compatSchedGetStatus (f : Fn) (m : Mbx)
  -- resets and boot
  | sysRstNAssert (lengthNs : Nat)
  | sysRstNRelease (straps : Straps)
  | bootOptionsRead (readable : Bool)
  | bootImageLoaded (readOk : Bool)
  | keeperReady (t : Nat)
  | softDeviceReset (combsPass : List Nat) (asmsPass : List Nat) (portsPass : List Nat) (t : Nat)
  | fullResetByHive (straps : Straps)
  | keeperRestart (cause : RestartCause) (t : Nat)
  | keeperFault (bank : Bool) (t : Nat)
  | fwTrialEnd
  | jtagInstruction (code : BitVec 8)
  -- on-chip memory
  | bankRetentionEntry (b : BankId)
  | bankWake (b : BankId)
  | eccCorrected (b : BankId) (word : Nat) (t : Nat)
  | eccUncorrectable (b : BankId) (word : Nat) (held : BadWord) (t : Nat)
  | writeLost (b : BankId) (word : Nat) (test : Bool)
  | backgroundTestWindow (b : BankId) (base len : Nat) (bad : Option (Nat × Nat)) (t : Nat)
  | testWindowSurrender (b : BankId) (t : Nat)
  | memValveGuard (valve : Fin 4096) (t : Nat)
  -- faults
  | assemblerFault (a : AsmId) (t : Nat)
  | clockLoss (clk : Fin 8) (t : Nat)
  | sysclkHoldoverEnd
  | supplyExcursion (rail : Fin 9) (w : SupplyWindow) (t : Nat)
  | flashFault (region : Nat) (t : Nat)
  | faultRaised
  | faultCleared (cls : Fin 13) (unit : Nat) (t : Nat)
  -- keeper, sensors, records, power
  | keeperSleep (t : Nat)
  | keeperTick
  | sensorSample (temps : List Int) (volts : List Nat) (railMw : List Nat)
  | logEntryProgram
  | honeySave
  | thermalTrip (sensor : Fin 32) (reading : Int)
  | thermalTripClear (c : TripClear)
  | vddAonRise
  | dozeResumeDone (l : LaneId) (t : Nat)
  | clockReturn (clk : Fin 8) (t : Nat)
  | supplyReturn (rail : Fin 9) (t : Nat)
deriving DecidableEq, Repr

end Sys2Proof
end

