-- ==== Sys2Proof/Config.lean ====
section
/-! DEFINITION. What the spec leaves open: constants without a body (free values), applied to what they depend on or to
the model's own counter. Nothing can be proved of their values. -/
namespace Sys2Proof.Config

/-- The SM3 digest of a byte string, 32 bytes; the standard is named and not reproduced (R473). -/
opaque sm3 : List Byte → List Byte
/-- Whether an SM2 signature verifies: identifier, public key, message, signature (R474, R481, R485). -/
opaque sm2Verify : List Byte → List Byte → List Byte → List Byte → Bool
/-- Serial and public key of a device identity certificate whose chain verifies to the Lutogen root (R439, R479):
intermediate, certificate. -/
opaque certKey : List Byte → List Byte → Option (Nat × List Byte)
/-- OTP: the Lutogen root key hash (Table 19-1). -/
opaque lutogenHash : List Byte
/-- OTP: the device identity certificate (Table 19-1, R479). -/
opaque identityCert : List Byte
/-- The boot ROM's SM3 digest (Table 19-6). -/
opaque romDigest : List Byte
/-- The SM2 signature of a message by the device's identity key (R470, R480). -/
opaque sm2Sign : List Byte → List Byte
/-- Random bytes: the n-th draw of the part's nonces (R366, R439). -/
opaque random : Nat → List Byte
/-- What the hardware does or measures where a command of the hive runs and no row says it: fuses that burn, an eye (R363):
the item, the model's counter. -/
opaque hwOutcome : Nat → Nat → Nat
/-- What a word of a bank holds where the spec does not say (R468, R503): bank, word, and the model's counter. -/
opaque bankWord : Nat → Nat → Nat → Nat

/-- What a receiver asks of the far transmitter in TRAIN_EQ, by its own adaptation (R40): lane, model's counter. -/
opaque coefAsk : Nat → Nat → Nat
/-- Whether a receiver asks for precoding, by its own choice (R40): lane, model's counter. -/
opaque precodeAsk : Nat → Nat → Bool

/-- RATE after a measurement, 10^-12, before its bound: the servo's control law is not given (R379): the offset in
2^-8 ns, the RATE in force, the model's counter. -/
opaque servoRate : Int → Int → Nat → Int
/-- A time the spec does not state (R163): the model's counter. -/
opaque openTime : Nat → Nat
/-- What a cell holds in a row of a lost line or of a line of wrong width, which the spec does not state (R135, R202):
the model's counter, line, column. -/
opaque gapPixel : Nat → Nat → Nat → Nat
/-- Payload bytes of a TEST packet, which the spec does not fix (R371): the model's counter. -/
opaque testLength : Nat → Nat
/-- Credits a receiver grants on a VC at lock: its buffer space is not given (R71). -/
opaque creditGrant : Nat → Nat

/-- A word of the descriptor block of a lane in CAM_TX that the spec leaves to the camera's design (Table 3-7): offset. -/
opaque txCamera : Nat → Nat

/-- Hops of the route to a device outside the own subtree, as the hive reports them (R406): own ID, destination, the
model's counter. -/
opaque routeHops : Nat → Nat → Nat → Nat
/-- FUNCTION and HB_STATUS of DEV_GET_INFO asked for by the hive, which has no function (R363, Table 12-8): own ID. -/
opaque hiveFunction : Nat → Nat × Nat
/-- The device ID of the member with a serial number, as the manager answers a device that asks (R449): serial, the
model's counter. -/
opaque memberId : Nat → Nat → Option Nat
/-- PRIORITY of a member that has STANDBY = 1 and is LOCKED on HIVE, none otherwise: how the manager learns of these is
not said (R438): serial, the model's counter. -/
opaque memberFit : Nat → Nat → Option Nat
/-- D of an export on another device, which its message does not carry (R407): source device, source channel. -/
opaque exportD : Nat → Nat → Nat
/-- MIN_GAP of the row of an EJECT message, µs, which the message does not carry (R234, R251): settling device, group. -/
opaque rowGap : Nat → Nat → Nat
/-- ACTIVE of FW_GET_STATUS where neither slot of flash is running (Table 13-11): the loader or slot 2. -/
opaque activeByte : Nat → Nat
/-- A header word that FW_GET_STATUS returns of a slot that holds no header: slot, offset. -/
opaque emptyHeader : Nat → Nat → Nat
/-- What a failed burn leaves in the owner key hash (R481): the hash asked for, the model's counter. -/
opaque failedBurn : List Byte → Nat → List Byte
/-- Whether a host is present at a member, and the firmware it runs, which no message of Table 17-5 tells the manager
(HIVE_LIST_DEVICES): serial, the model's counter. -/
opaque memberReport : Nat → Nat → Bool × Nat
/-- What a standby lists of a device beyond its serial and ID, which the mirror does not hold (HIVE_LIST_DEVICES): parent,
depth and role, flags, firmware: serial, the model's counter. -/
opaque standbyRecord : Nat → Nat → Nat × Nat × Nat × Nat
/-- Whether a flash write that a reset cut short had come to its end (R355): the model's counter. -/
opaque cutWrite : Nat → Bool

end Sys2Proof.Config
end

