-- ==== Sys2Proof/Machine/Bytes.lean ====
section
/-! DEFINITION. Byte strings: little-endian fields (R4), sign extension, and the check sums the spec names. -/
namespace Sys2Proof.Machine

/-- Byte `o` of `b` as a number; bytes past the end read 0. -/
def byteAt (b : List Byte) (o : Nat) : Nat := (b.getD o 0).toNat

/-- The `n`-byte little-endian number at offset `o` of `b` (R4). -/
def leAt (b : List Byte) (o : Nat) : Nat → Nat
  | 0 => 0
  | n + 1 => byteAt b o + 256 * leAt b (o + 1) n

/-- The u16 at `o`. -/
def u16At (b : List Byte) (o : Nat) : Nat := leAt b o 2
/-- The u32 at `o`. -/
def u32At (b : List Byte) (o : Nat) : Nat := leAt b o 4
/-- The u64 at `o`. -/
def u64At (b : List Byte) (o : Nat) : Nat := leAt b o 8

/-- `v` read as a two's-complement number of `w` bits. -/
def toSigned (w v : Nat) : Int :=
  let m := v % 2 ^ w
  if 2 ^ w ≤ 2 * m then (m : Int) - (2 ^ w : Nat) else m

/-- `i` in two's complement of `w` bits. -/
def fromSigned (w : Nat) (i : Int) : Nat := (i % ((2 ^ w : Nat) : Int)).toNat

/-- The s32 at `o`. -/
def s32At (b : List Byte) (o : Nat) : Int := toSigned 32 (u32At b o)
/-- The s64 at `o`. -/
def s64At (b : List Byte) (o : Nat) : Int := toSigned 64 (u64At b o)

/-- The `n` little-endian bytes of `v` (R4). -/
def leBytes : Nat → Nat → List Byte
  | 0, _ => []
  | n + 1, v => BitVec.ofNat 8 v :: leBytes n (v / 256)

/-- The bytes of a u16. -/
def b16 (v : Nat) : List Byte := leBytes 2 v
/-- The bytes of a u32. -/
def b32 (v : Nat) : List Byte := leBytes 4 v
/-- The bytes of a u64. -/
def b64 (v : Nat) : List Byte := leBytes 8 v
/-- One byte. -/
def b8 (v : Nat) : List Byte := leBytes 1 v
/-- `n` zero bytes. -/
def zeros (n : Nat) : List Byte := List.replicate n 0
/-- The bytes of an s32. -/
def bs32 (i : Int) : List Byte := leBytes 4 (fromSigned 32 i)
/-- The bytes of an s64. -/
def bs64 (i : Int) : List Byte := leBytes 8 (fromSigned 64 i)

/-- `n` bytes of `b` from offset `o`; bytes past the end read 0. -/
def sliceAt (b : List Byte) (o : Nat) : Nat → List Byte
  | 0 => []
  | n + 1 => b.getD o 0 :: sliceAt b (o + 1) n

/-- `old` with the bytes of `new` over its beginning; what lies beyond keeps its contents (R327). -/
def overlay : List Byte → List Byte → List Byte
  | old, [] => old
  | [], n => n
  | _ :: o, x :: n => x :: overlay o n

/-- `b` with `v` at offset `o`, lengthened with zero bytes where `o` lies beyond its end. -/
def putByte : List Byte → Nat → Byte → List Byte
  | [], 0, v => [v]
  | [], o + 1, v => 0 :: putByte [] o v
  | _ :: r, 0, v => v :: r
  | x :: r, o + 1, v => x :: putByte r o v

/-- `b` with the enabled bytes of `d` from offset `o` (R275: a write changes only the bytes it enables). -/
def putBytes (b : List Byte) (o : Nat) : List (Option Byte) → List Byte
  | [] => b
  | none :: r => putBytes b (o + 1) r
  | some v :: r => putBytes (putByte b o v) (o + 1) r

/-- `old` with the `n` bytes at `o` of a register replaced by the enabled bytes of `d` that reach them;
`d` starts at offset `off`, the register at `at`. -/
def mergeReg (old reg width off : Nat) (d : List (Option Byte)) : Nat :=
  leAt ((List.range width).map fun i =>
    let o := reg + i
    match (if off ≤ o then d.getD (o - off) none else none) with
    | some v => v
    | none => BitVec.ofNat 8 (old / 256 ^ i)) 0 width

/-- The enabled bits a write gives a register (0 where the byte is not enabled): for W1C, W1S and WO fields (R275). -/
def writtenBits (reg width off : Nat) (d : List (Option Byte)) : Nat := mergeReg 0 reg width off d

/-- Whether a write at `off` enables some byte of the register at `reg`. -/
def touches (reg width off : Nat) (d : List (Option Byte)) : Bool :=
  (List.range width).any fun i => decide (off ≤ reg + i) && (d.getD (reg + i - off) none).isSome

/-- Bit `n` of `v`. -/
def bit (v n : Nat) : Bool := v / 2 ^ n % 2 == 1
/-- Bits `lo .. lo + w - 1` of `v`. -/
def bits (v lo w : Nat) : Nat := v / 2 ^ lo % 2 ^ w
/-- A flag as a number. -/
def b2n (b : Bool) : Nat := if b then 1 else 0
/-- `v` with bit `n` set. -/
def setBit (v n : Nat) : Nat := if bit v n then v else v + 2 ^ n
/-- `v` with bit `n` clear. -/
def clearBit (v n : Nat) : Nat := if bit v n then v - 2 ^ n else v
/-- The number of set bits among the `w` lowest of `v`. -/
def popCount (w v : Nat) : Nat := ((List.range w).filter (bit v)).length
/-- The positions of the set bits among the `w` lowest of `v`. -/
def setBits (w v : Nat) : List Nat := (List.range w).filter (bit v)
/-- The map with the bits of `l` set. -/
def mapOf (w : Nat) (p : Nat → Bool) : Nat := (List.range w).foldl (fun a i => if p i then a + 2 ^ i else a) 0

/-- `⌈a / b⌉`. -/
def ceilDiv (a b : Nat) : Nat := (a + b - 1) / b
/-- `a` rounded up to a multiple of `b`. -/
def roundUp (a b : Nat) : Nat := ceilDiv a b * b
/-- `i` saturated to `lo .. hi`. -/
def clampInt (lo hi i : Int) : Int := if i < lo then lo else if hi < i then hi else i
/-- Division rounding half away from zero is not used; this is the floor of `i / d` for `d > 0`. -/
def floorDiv (i : Int) (d : Nat) : Int := Int.fdiv i d

/-- One bit of a reflected CRC. -/
def crcBitR (poly c : Nat) : Nat := if c % 2 = 1 then (c / 2) ^^^ poly else c / 2
/-- One byte of a reflected CRC. -/
def crcByteR (poly c : Nat) (x : Byte) : Nat :=
  let f := crcBitR poly
  f (f (f (f (f (f (f (f (c ^^^ x.toNat))))))))
/-- CRC-32C of a byte string (R66, R473): reflected, polynomial 0x1EDC_6F41, initial value and final XOR all ones. -/
def crc32c (b : List Byte) : Nat := (b.foldl (crcByteR 0x82F63B78) 0xFFFFFFFF) ^^^ 0xFFFFFFFF

/-- The frame check sequence of IEEE 802.3 (R94, R98): PRESUMED, the spec names it and does not reproduce it (log entry
4). -/
def fcs32 (b : List Byte) : Nat := (b.foldl (crcByteR 0xEDB88320) 0xFFFFFFFF) ^^^ 0xFFFFFFFF

end Sys2Proof.Machine
end

