-- ==== Sys2Proof/Machine/StateCtx.lean ====
section
/-! DEFINITION. State of contexts, intake and combs (05_contexts_intake_combs.md, 06_pixel_corrections.md) and of
segmentation, cells and assemblers (07_segmentation_and_cells.md). A line's place `pos` is its line number without the
wrap at 2^32: the number is `pos` modulo 2^32. -/
namespace Sys2Proof.Machine

/-- Context kinds (Table 5-1), in the order of their codes. -/
inductive CtxKind where
  | lineScan | areaScan | fullFrame | passthru
deriving DecidableEq, Repr

/-- Context states (Table 5-2). -/
inductive CtxState where
  | defined | admitted | running | stopping | faulted
deriving DecidableEq, Repr

/-- Settings of Table 5-3. -/
structure Geometry where
  width : Nat
  format : Nat
  height : Nat
  rate : Nat
  stripe : Nat := 64
  priority : Nat := 0
  relaxed : Bool := false
  gapBridge : Nat := 4
  /-- µs -/
  lineTimeout : Nat := 1000
  frameTimeout : Nat := 10000
deriving DecidableEq, Repr

/-- Settings of the corrections (Tables 6-2, 6-4, 6-5 and R164 to R175) at their values of R582. -/
structure CorrSet where
  nmBlack : List Nat := [0, 0, 0, 0]
  /-- u8.8 -/
  nmA : List Nat := [4096, 4096, 4096, 4096]
  nmB : List Nat := [1024, 1024, 1024, 1024]
  /-- 0 OFF, 1 RECURSIVE, 2 TDI -/
  tMode : Nat := 0
  alpha : Nat := 8
  kT : Nat := 48
  tdiRows : Nat := 0
  tdiReverse : Bool := false
  tdiMin : Nat := 0
  spHold : Bool := false
  kSp : Nat := 32
  kOut : Nat := 96
  blackTrack : Bool := false
  black : List Nat := [0, 0, 0, 0]
  darkX0 : List Nat := [0, 0, 0, 0]
  darkN : List Nat := [0, 0, 0, 0]
  pedestal : Nat := 0
  regHold : Nat := 0
  regV : List Nat := [0, 0, 0, 0]
  /-- 1/16 px -/
  regX0 : List Int := [0, 0, 0, 0]
  /-- u16.16 -/
  regScale : List Nat := [65536, 65536, 65536, 65536]
  enables : Nat := 0
deriving DecidableEq, Repr

/-- Settings of Table 7-1. -/
structure SegSet where
  segX0 : Nat := 0
  segX1 : Nat
  bgTrack : Bool := true
  trackDiv : Nat := 16
  /-- 0 OFF, 1 BRIGHT, 2 DARK, 3 BOTH -/
  pol : List Nat := [3, 0, 0, 0]
  weight : List Nat := [16, 16, 16, 16]
  /-- 0 MAX, 1 SUM, 2 MIN -/
  combine : Nat := 0
  tLow : Nat := 256
  tHigh : Nat := 512
  /-- 0 OFF, 1 ERODE, 2 DILATE, 3 OPEN, 4 CLOSE -/
  morph : Nat := 0
  minArea : Nat := 4
deriving DecidableEq, Repr

/-- Settings of Table 7-3. -/
structure CellFmt where
  storeBits : Nat := 8
  mask : Bool := true
  margin : Nat := 2
  splitLines : Nat := 4096
  quota : Nat := 1048576
  encoder : Option Nat := none
  waitLines : Nat := 0
deriving DecidableEq, Repr

/-- Every setting of a context that a comb works with. -/
structure Settings where
  corr : CorrSet := {}
  seg : SegSet
  gapBridge : Nat := 4
deriving DecidableEq, Repr

/-- A band's part of a context line in intake (R132): nothing yet, space reserved, stored, of wrong width. -/
inductive BandSlot where
  | none
  | opened
  | stored (t : Nat) (codes : List Nat)
  | wrong (t : Nat)
deriving DecidableEq, Repr

/-- What intake holds of a context, in line order (R123, R133, R142). -/
inductive Slot where
  /-- a context line: place, index in its frame, its bands, and the end of the wait of R133 once it runs -/
  | line (pos idx : Nat) (bands : List BandSlot) (deadline : Option Nat)
  /-- `count` lost lines from `pos`; `due` when they first numbered more than GAP_BRIDGE -/
  | lost (pos count : Nat) (due : Option Nat)
  /-- close of a frame, at its time -/
  | close (number : Nat) (short long : Bool) (due : Nat)
  /-- the stop point of CTX_STOP -/
  | stop (due : Nat)
deriving DecidableEq, Repr

/-- Work that waits for the comb, in order (R142). -/
inductive Work where
  | line (pos idx t due : Nat) (bands : List (List Nat))
  | wrong (pos t due : Nat)
  | lost (pos count : Nat) (due : Option Nat)
  | close (number : Nat) (short long : Bool) (due : Nat)
  | stop (due : Nat)
deriving DecidableEq, Repr

/-- What flows from stage to stage of a comb. -/
inductive Ev where
  /-- a line: place, exposure time, its bands' values, and the rows averaged into it (1 outside TDI) -/
  | line (pos t : Nat) (bands : List (List Nat)) (rows : Nat)
  /-- a line of wrong width: background (R136) -/
  | wrong (pos t : Nat)
  /-- lost lines; `long` for a gap longer than GAP_BRIDGE (R135) -/
  | lost (pos count : Nat) (long : Bool)
  /-- frame close -/
  | close (short long : Bool)
  /-- stop point -/
  | stop
deriving DecidableEq, Repr

/-- An accumulator of an output line of the TDI (R163): sums of v >> s, rows present, and the time of the row of its
own exposure. -/
structure TdiAcc where
  out : Nat
  count : Nat
  sums : List (List Nat)
  t : Option Nat
deriving DecidableEq, Repr

/-- An entry of a line memory: a line with its values, or a place without. -/
structure MemLine where
  pos : Nat
  t : Nat
  /-- none: lost (`wrong` false) or of wrong width -/
  bands : Option (List (List Nat))
  wrong : Bool
  rows : Nat
deriving DecidableEq, Repr

/-- A line in the morphology passes: its values, its low mask and its scores; none where absent (R189). -/
structure MorphLine where
  pos : Nat
  t : Nat
  bands : List (List Nat)
  wrong : Bool
  /-- none on a lost line or a line of wrong width -/
  mask : Option (List Bool)
  high : List Bool
  /-- a line on which tracking takes its step (R185) -/
  upd : Bool
  /-- context lines averaged into it -/
  rows : Nat := 1
deriving DecidableEq, Repr

/-- A run of object pixels of a line, with its label. -/
structure Run where
  x0 : Nat
  x1 : Nat
  label : Nat
deriving DecidableEq, Repr

/-- A segment of a line that belongs to an object. -/
structure Span where
  pos : Nat
  x0 : Nat
  x1 : Nat
deriving DecidableEq, Repr

/-- What the assembler cut of an object (R197 to R202). -/
structure CutCell where
  x0 : Nat
  width : Nat
  first : Nat
  height : Nat
  area : Nat
  perimeter : Nat
  cx : Nat
  cy : Nat
  mu20 : Nat
  mu02 : Nat
  mu11 : Int
  /-- mean, std, min, max per band, four bands -/
  bands : List (Nat × Nat × Nat × Nat)
  tFirst : Nat
  tLast : Nat
  payload : List Byte
deriving DecidableEq, Repr

/-- An object, live or closed (R191 to R201). -/
structure Obj where
  ctx : Nat
  first : Nat
  last : Nat
  spans : List Span
  high : Bool := false
  short : Bool := false
  long : Bool := false
  continued : Bool := false
  /-- a part of a split object: the tests of R195 are not applied -/
  part : Bool := false
  linesDropped : Bool := false
  resumed : Bool := false
  /-- the key of a part that continues, and the keys of the parts this object continues (R196) -/
  key : Nat := 0
  conts : List Nat := []
  /-- last-line spans of the part before, first-line spans of the part after (R196, perimeter) -/
  above : List Span := []
  below : List Span := []
  /-- first line that exists above it, and last line of its box once known (R200) -/
  top : Nat
  bottom : Option Nat := none
  cell : Option CutCell := none
  /-- chunk data of the record (R107) -/
  chunk : List Byte := []
  /-- first and last group line of contact with the left and the right seam (R210) -/
  left : Option (Nat × Nat) := none
  right : Option (Nat × Nat) := none
deriving DecidableEq, Repr

/-- A line in the brood window (R204, R205); `bands` is none for a line of wrong width. -/
structure WinLine where
  pos : Nat
  t : Nat
  bands : Option (List (List Nat))
deriving DecidableEq, Repr

/-- A background capture (R186): lines wanted and taken, the table so far in units of 16 DN. -/
structure Capture where
  want : Nat
  got : Nat
  table : List (List Nat)
deriving DecidableEq, Repr

/-- What a comb and the assembler's window hold of a context between lines; at its values after CTX_START. -/
structure Dyn where
  -- temporal (R161, R163)
  y : Option (List (List Nat)) := none
  tdi : List TdiAcc := []
  /-- next output line of the TDI -/
  tdiNext : Option Nat := none
  -- spatial window (R164), its lines and how many of them have left
  win5 : List MemLine := []
  left5 : Nat := 0
  -- TRACK black levels (R169)
  black : List Nat := [0, 0, 0, 0]
  -- registration (R174): step-3 outputs, newest last
  reg : List MemLine := []
  -- background (R183 to R186), in units of 16 DN
  bg : Option (List (List Nat)) := none
  trackCount : Nat := 0
  capture : Option Capture := none
  -- morphology passes (R190)
  pass1 : List MorphLine := []
  pass2 : List MorphLine := []
  -- labelling (R191 to R194)
  prev : List Run := []
  live : Table Obj := []
  closing : List Obj := []
  lostRun : Nat := 0
  /-- first line since the start, the move, the frame start or the long gap -/
  top : Option Nat := none
  /-- last line segmented, received or of wrong width -/
  segPos : Option Nat := none
  window : List WinLine := []
  /-- last lines of objects whose tag the window still holds (R193) -/
  tags : List Nat := []
  keys : Nat := 0
  /-- places taken in the context's first stripe on a spare (R148): from, to -/
  resumeFrom : Option Nat := none
  resumeTo : Option Nat := none
  resuming : Bool := false
  /-- last line taken from intake -/
  lastIn : Option Nat := none
deriving DecidableEq, Repr

/-- An open frame (R126, R127). -/
structure Frame where
  number : Nat
  index0 : Option Nat
  highest : Option Nat
  deadline : Nat
  /-- the leader's height on a stream channel -/
  leader : Option Nat
deriving DecidableEq, Repr

/-- A long frame whose report waits (R129): number, context lines discarded, the last of them, when FRAME_TIMEOUT ends. -/
structure LongFrame where
  number : Nat
  count : Nat
  lastLine : Option Nat
  deadline : Nat
deriving DecidableEq, Repr

/-- Chunk data of the newest closed blocks, for the record or cells of a line range (R107): first line, height, data. -/
structure Chunk where
  first : Nat
  height : Nat
  data : List Byte
deriving DecidableEq, Repr

/-- Where a FULL_FRAME record stands: its frame is open and its descriptors are not yet reserved, it is being written,
or it is not written for want of buffers (R314). -/
inductive RecPhase where
  | opened | writing | refused
deriving DecidableEq, Repr

/-- A FULL_FRAME record at the assembler (R314, R315). -/
structure FrameWrite where
  number : Nat
  phase : RecPhase := .opened
  queue : Nat := 0
  slot : Nat := 0
  tag : Nat := 0
  /-- addresses of the buffers, in order, and their length -/
  bufs : List Nat := []
  bufSize : Nat := 0
  /-- sequence of the frame ID -/
  seq : Nat := 0
  /-- place of index 0, once a line of the frame has come -/
  base : Option Nat := none
  tFirst : Nat := 0
  tLast : Nat := 0
  /-- indices of the rows written -/
  got : List Nat := []
  lost : Bool := false
  resumed : Bool := false
  /-- closed by the comb: SHORT, LONG -/
  closed : Option (Bool × Bool) := none
  /-- its completion entry has waited for a free slot -/
  waited : Bool := false
deriving DecidableEq, Repr

/-- A whole frame record held back (R538). -/
structure HeldFrame where
  queue : Nat
  entry : List Byte
  slots : Nat
deriving DecidableEq, Repr

/-- A context. -/
structure Ctx where
  kind : CtxKind
  owner : Nat
  lane : Nat
  channel : Option Nat
  bands : Nat
  /-- source entries: sensor and band -/
  src : List (Nat × Nat)
  geo : Geometry
  state : CtxState := .defined
  comb : Option Nat := none
  asm : Option Nat := none
  corr : CorrSet := {}
  seg : SegSet
  fmt : CellFmt := {}
  /-- the settings the comb works with, and the groups of changes that wait for the next stripe (R154) -/
  inForce : Settings
  waitGroups : List Nat := []
  /-- groups applied by a stripe that has not yet taken a line -/
  toReport : List Nat := []
  -- tables: in the line bank, waiting for a stripe (R173), protected copies (R146)
  flat : Option (List Byte) := none
  defects : List Byte := []
  bgTable : Option (List Byte) := none
  flatWait : Option (List Byte) := none
  defectsWait : Option (List Byte) := none
  bgWait : Option (List Byte) := none
  flatCopy : Option (List Byte) := none
  defectsCopy : Option (List Byte) := none
  bgCopy : Option (List Byte) := none
  -- intake
  /-- last number accepted per band, as a place; last number received -/
  last : List (Option Nat) := [none, none, none, none]
  lastRecv : Option Nat := none
  slots : List Slot := []
  /-- runs of lines reported by LINES_SKIPPED: first number, count -/
  skips : List (Nat × Nat) := []
  /-- place of the last line moved on or lost -/
  upTo : Option Nat := none
  /-- LINE_SCAN in STOPPING: the last line accepted -/
  stopAt : Option Nat := none
  frame : Option Frame := none
  longFrame : Option LongFrame := none
  chunks : List Chunk := []
  work : List Work := []
  -- comb
  dyn : Dyn := {}
  /-- a capture that has ended and is not yet reported: P1 of BG_CAPTURED and the last line -/
  captureEnd : Option (Nat × Nat) := none
  seq : Nat := 0
  /-- numbers reserved for the continuations of parts, by the part's key (R196) -/
  reserved : Table Nat := []
  /-- brood space in use (R206) -/
  used : Nat := 0
  -- frame records
  recs : List FrameWrite := []
  frameSeq : Nat := 0
  held : List HeldFrame := []
  /-- launch mode (R538): 0 immediate, 1 timed -/
  launchTimed : Bool := false
  /-- counters of Table 5-6, Table 6-7, Table 7-5, then CELL_REFUSED_CNT -/
  counts : Counts := []
deriving DecidableEq, Repr

/-- States of a comb (R145). -/
inductive CombState where
  | free | inUse | spare | failed
deriving DecidableEq, Repr

/-- A comb. -/
structure Comb where
  state : CombState := .free
  gated : Bool := true
  /-- context of the stripe under way, lines processed in it -/
  cur : Option Nat := none
  lines : Nat := 0
  /-- context of the last stripe -/
  lastCtx : Option Nat := none
  /-- tables of moved contexts are being copied (R147) -/
  copying : Bool := false
  /-- since when its clock runs, and for how long it ran before that in the present second, ns (Table 22-5) -/
  busyFrom : Nat := 0
  busyNs : Nat := 0
deriving DecidableEq, Repr

/-- A stitch group (R208). -/
structure Stitch where
  members : List Nat
  offsets : List Int
  tol : Nat
  /-- µs -/
  timeout : Nat
deriving DecidableEq, Repr

/-- A seam fragment that waits (R211), numbered within its group, since when. -/
structure Fragment where
  id : Nat
  member : Nat
  obj : Obj
  since : Nat
deriving DecidableEq, Repr

/-- A staging copy (R171): table 0 flat-field, 1 defect map, 2 background of context `ctx`, or 3, the calibration record,
staged by the caller `ctx` (R368); the bytes written, by offset. -/
structure StageCopy where
  ctx : Nat
  table : Nat
  size : Nat
  writes : List (Nat × List Byte)
deriving DecidableEq, Repr

end Sys2Proof.Machine
end

