-- ==== Sys2Proof/Machine/StateEth.lean ====
section
/-! DEFINITION. State of the Ethernet camera ports (04_ethernet_camera_ports.md). -/
namespace Sys2Proof.Machine

/-- Settings of a stream channel (Table 4-3), at their defaults. A part's destination is sensor + 256·band, or
0xFFFF_FFFF for UNUSED. -/
structure Channel where
  udpPort : Nat := 0
  sourceIp : Nat := 0
  partMap : List Nat := [0, 0xFFFFFFFF, 0xFFFFFFFF, 0xFFFFFFFF, 0xFFFFFFFF, 0xFFFFFFFF, 0xFFFFFFFF, 0xFFFFFFFF]
  /-- 0 PTP, 1 ARRIVAL -/
  tsMode : Nat := 0
  tsLatency : Nat := 0
  linePeriod : Nat := 10000
  chunk : Bool := false
deriving DecidableEq, Repr

/-- Ethernet and PTP settings of a lane (Table 12-9, Table 4-5), at the values of R583. -/
structure EthCfg where
  mac : Nat := 0
  ip : Nat := 0
  mask : Nat := 0
  mcast : List Nat := [0, 0, 0, 0]
  iface : Nat := 0
  an : Nat := 0
  abil : Nat := 0
  slave : Bool := false
  domain : Nat := 0
  logSync : Int := -3
  logAnnounce : Int := 0
  logMinDelay : Int := -3
  priority1 : Nat := 128
  priority2 : Nat := 128
  channels : List Channel := [{}, {}, {}, {}, {}, {}, {}, {}]
deriving DecidableEq, Repr

/-- The bytes received of one part of a block (R103). -/
structure PartBuf where
  /-- index of the part, and its destination: sensor and band -/
  part : Nat
  sensor : Nat
  band : Nat
  format : GvspFormat
  width : Nat
  height : Nat
  /-- received spans: offset and bytes -/
  spans : List (Nat × List Byte)
  /-- lines handed to intake or lost so far -/
  handed : Nat
deriving DecidableEq, Repr

/-- An open block of a stream (R103 to R109). -/
structure GvspBlock where
  id : Nat
  lastPkt : Nat
  /-- arrival of its last packet, ns -/
  seen : Nat
  firstLine : Nat
  height : Nat
  t : Nat
  /-- line period in ns, as numerator and denominator (R109) -/
  stepNum : Int
  stepDen : Nat
  parts : List PartBuf
  chunk : List Byte
  /-- its chunk data has been truncated and counted -/
  trunc : Bool
deriving DecidableEq, Repr

/-- Receiver of one stream channel. -/
structure Stream where
  block : Option GvspBlock := none
  lastId : Option Nat := none
  /-- first line number that follows the last block, and its height -/
  nextLine : Nat := 0
  lastHeight : Nat := 0
  /-- time, height and ID of the previous block (R109) -/
  prev : Option (Nat × Nat × Nat) := none
  /-- the last block was unsupported, was timed by arrival (R101, R108) -/
  unsup : Bool := false
  fellBack : Bool := false
  /-- the 11 stream counters of Table 4-6, in row order -/
  counts : Counts := []
deriving DecidableEq, Repr

/-- A frame the keeper answers (R97). -/
inductive KeeperFrame where
  | arp (mac ip : Nat)
  | echo (frame : List Byte)
deriving DecidableEq, Repr

/-- An Ethernet port. -/
structure Eth where
  cfg : EthCfg := {}
  linkUp : Bool := false
  streams : Table Stream := []
  /-- ETH_RX_ERR_CNT, ETH_DROP_CNT, ETH_TUNNEL_DROP_CNT, PTP_DROP_CNT -/
  counts : Counts := []
  answers : List KeeperFrame := []
  /-- instants of the echo and Delay_Req answers of the last second, ns -/
  echoAt : List Nat := []
  delayAt : List Nat := []
  syncSeq : Nat := 0
  announceSeq : Nat := 0
  delaySeq : Nat := 0
  /-- masters heard by the slave port and the one selected (identity) -/
  masters : List PtpMaster := []
  selected : Option Nat := none
  /-- a two-step Sync that waits for its Follow_Up: sequence and arrival, ns -/
  syncWait : Option (Nat × Nat) := none
  lastSync : Nat := 0
  syncInterval : Nat := 0
  /-- departure of the own Delay_Req, last Sync as (origin, arrival), mean path delay, ns -/
  delaySent : Option Nat := none
  lastPair : Option (Nat × Nat) := none
  pathDelay : Option Int := none
deriving DecidableEq, Repr

end Sys2Proof.Machine
end

