-- ==== Sys2Proof/Machine/StateFlight.lean ====
section
/-! DEFINITION. State of the schedule (14_hive_time_and_schedules.md, R386 to R391), the valve ports
(09_valve_ports.md), the pairing groups and pending entries (08_pairing_flight_decisions.md) and the assemblers
(07_segmentation_and_cells.md). -/
namespace Sys2Proof.Machine

/-- Action classes (Table 14-5), in the order of the codes of Table 13-8. -/
inductive ActClass where
  | trigger | gpio | waggle | valveOpen | valveClose | frameLaunch
deriving DecidableEq, Repr

/-- Who placed an action (R386): SCHED_ADD of a function, the scheduler or an EJECT message, VP_TEST_FIRE. -/
inductive Placer where
  | cmd (fn : Nat)
  | eject
  | testFire
deriving DecidableEq, Repr

/-- An action of the schedule (R386, Table 13-8). -/
structure Action where
  time : Nat
  cls : ActClass
  /-- DROP instead of EXECUTE_LATE -/
  drop : Bool := false
  tol : Nat := 0
  /-- TARGET word; for a valve action the global valve index -/
  target : Nat
  arg : Nat := 0
  placer : Placer
  /-- placement order (R388) -/
  order : Nat
  placedAt : Nat
  /-- pending entries that wait for it (R238) -/
  entries : List Nat := []
deriving DecidableEq, Repr

/-- The latest scheduled pulse of a valve (R234): its times, the slot of its close while not executed. -/
structure Pulse where
  opens : Nat
  closes : Nat
  closeSlot : Option Nat
deriving DecidableEq, Repr

/-- The schedule and its flight bank. -/
structure Flight where
  actions : Table Action := []
  /-- use counts of slots (R361) -/
  uses : Table Nat := []
  order : Nat := 0
  pulses : Table Pulse := []
  /-- late counts of the six classes, then dropped counts -/
  counts : Counts := []
deriving DecidableEq, Repr

/-- Port modes (Table 9-2), in the order of the codes of VP_SET_MODE. -/
inductive VpMode where
  | off | safe | run | test
deriving DecidableEq, Repr

/-- One valve of a port. -/
structure Valve where
  /-- internal state, and the state carried in the last frame -/
  open' : Bool := false
  sent : Bool := false
  inhibited : Bool := false
  /-- last feedback status; NOT_MEASURED before any report (log entry 40) -/
  status : Nat := 3
  /-- OPEN_LOAD or SHORT reported since the last OK (R263) -/
  faulted : Bool := false
  /-- T_k of the first frame of the present stretch that carried it open -/
  openAt : Nat := 0
  /-- ns since the last clear, and below 1 µs of the lifetime sum (R266) -/
  onNs : Nat := 0
  lifeNs : Nat := 0
  /-- PULSE_CNT, OPENLOAD_CNT, SHORT_CNT -/
  counts : Counts := []
deriving DecidableEq, Repr

/-- A valve port (09_valve_ports.md). -/
structure ValvePort where
  mode : VpMode := .off
  /-- mode asked for, in force at the next latch (R256) -/
  want : Option VpMode := none
  period : Nat := 50
  phase : Nat := 0
  inhibit : Bool := false
  /-- failed: readback mismatch (Table 21-1) -/
  failed : Bool := false
  /-- COUNTER of the next frame -/
  counter : Nat := 0
  /-- T_k of the last frame latched, none outside sending -/
  lastT : Option Nat := none
  /-- the newest frames, newest first: COUNTER and T_k -/
  sent : List (Nat × Nat) := []
  /-- frames not yet answered nor counted as missed, oldest first -/
  unanswered : List (Nat × Nat) := []
  /-- consecutive frames without valid feedback -/
  missRun : Nat := 0
  board : Nat := 0
  /-- frames since the last valid feedback -/
  sinceValid : Nat := 64
  /-- by bit 0–511 -/
  valves : Table Valve := []
  /-- valves whose inhibit is released at the next latch -/
  clearing : List Nat := []
  counts : Counts := []
deriving DecidableEq, Repr

/-- Settings of a pairing group (Table 8-1). -/
structure PgSet where
  zA : Nat := 0
  zB : Nat := 0
  u0A : Int := 0
  u0B : Int := 0
  pitchA : Int := 0
  pitchB : Int := 0
  dtMin : Nat := 0
  dtMax : Nat := 0
  uTol : Nat := 2000
  /-- µs -/
  slack : Nat := 100
  /-- 0 PAIRED, 1 ENCODER, 2 FIXED -/
  speedSrc : Nat := 0
  /-- 0 ENCODER, 1 FIXED -/
  fallback : Nat := 1
  enc : Option Nat := none
  encScale : Nat := 0
  vFixed : Nat := 3000000
  vMin : Nat := 500000
  vMax : Nat := 10000000
  g : Nat := 9806650
  a0 : Int := 0
  a1 : Int := 0
  latExtrap : Bool := false
  /-- 0 ACCEPT, 1 REJECT, 2 ALT -/
  dflt : Nat := 0
  /-- µs -/
  margin : Nat := 200
  /-- 0 ALL, 1 ABSTAIN_ONLY, 2 NONE -/
  send : Nat := 0
  /-- 0 FIXED, 1 SPREAD, 2 BY_RULE -/
  steerMode : Nat := 0
deriving DecidableEq, Repr

/-- Settings of a valve row (Table 8-2). -/
structure Row where
  device : Option Nat
  first : Nat
  count : Nat
  uRow : Int
  pitch : Nat
  dz : Nat := 0
  /-- µs -/
  lead : Nat := 1000
  pBase : Nat := 2000
  kSpan : Nat := 0
  widen : Nat := 0
  maxValves : Nat := 8
  minGap : Nat := 1000
deriving DecidableEq, Repr

/-- A steering entry (R244, R294): primary and backup queue (0xFFFF_FFFE forwards into the hive), whether it is on its
backup, and which of the two names a queue destroyed since (R323). -/
structure SteerEntry where
  primary : Nat
  backup : Option Nat
  onBackup : Bool := false
  primaryGone : Bool := false
  backupGone : Bool := false
deriving DecidableEq, Repr

/-- What a cell was cut from: the view word of a pairing group or stitch. -/
inductive View where
  | ctx (c : Nat)
  | stitch (g : Nat)
deriving DecidableEq, Repr

/-- A final object (R199, R212): what its cell header is made from. -/
structure Final where
  id : Nat
  /-- context whose counters and quota are concerned -/
  ctx : Nat
  stitch : Option Nat := none
  /-- 0 A, 1 B, 0xFF outside a pairing group -/
  view : Nat := 0xFF
  /-- flags of Table 11-11 but for those that pairing and steering set -/
  flags : Nat
  bands : Nat
  storeBits : Nat
  x0 : Nat
  width : Nat
  first : Nat
  height : Nat
  area : Nat
  perimeter : Nat
  cx : Nat
  cy : Nat
  mu20 : Nat
  mu02 : Nat
  mu11 : Int
  feats : List (Nat × Nat × Nat × Nat)
  tFirst : Nat
  tLast : Nat
  /-- extreme columns, first and last lines of the object itself -/
  xMin : Nat
  xMax : Nat
  lineFirst : Nat
  lineLast : Nat
  encNum : Nat := 0xFF
  encPos : Int := 0
  payload : List Byte
  /-- when it became final, ns -/
  finalAt : Nat
deriving DecidableEq, Repr

/-- An unpaired object in its list (R221, R222). -/
structure Unpaired where
  obj : Final
  ends : Nat
deriving DecidableEq, Repr

/-- A pairing group (R216 to R254). -/
structure PGroup where
  viewA : View
  viewB : Option View
  set : PgSet
  rows : List (Option Row) := [none, none]
  rules : List (List Byte) := []
  steer : List SteerEntry := []
  unpaired : List Unpaired := []
deriving DecidableEq, Repr

/-- A planned row of a pending entry: its valves (row indices), its crossing time. -/
structure RowPlan where
  valves : Option (Nat × Nat)
  tCross : Nat
deriving DecidableEq, Repr

/-- A pending entry (R236 to R240). -/
structure Pending where
  ids : List Nat
  group : Nat
  rows : List (Option RowPlan)
  /-- 0 ACCEPT, 1 REJECT, 2 ALT, 3 ABSTAIN; none NONE -/
  rule : Option Nat
  /-- functions, or 4 the hive, whose decisions are accepted besides the group's owner -/
  decider : Option Nat
  deadline : Nat
  /-- DEFAULT of the group when the entry was made (R218) -/
  dflt : Nat := 0
  settled : Bool := false
  /-- line span of the reference view, ns -/
  span : Nat
  /-- primary row's crossing time -/
  tCross : Nat
  /-- its settlement placed actions -/
  acted : Bool := false
deriving DecidableEq, Repr

/-- An item of an assembler's input queue (R207): an object of a comb, or a cell received for a CELL_PASSTHRU context. -/
inductive AsmItem where
  | obj (o : Obj)
  | cell (ctx : Nat) (data : List Byte)
deriving DecidableEq, Repr

/-- A finished cell in brood (R206). -/
structure BroodCell where
  ctx : Nat
  /-- context of its reference view (R313) -/
  ref : Nat
  space : Nat
  data : List Byte
  id : Nat
  group : Option Nat
  deadline : Nat
  /-- entry by which it was steered, of its group's table, else of its context's (R294) -/
  entry : Nat
deriving DecidableEq, Repr

/-- An assembler. -/
structure Asm where
  failed : Bool := false
  queue : List AsmItem := []
  cells : Table BroodCell := []
  nextCell : Nat := 0
deriving DecidableEq, Repr

end Sys2Proof.Machine
end

