-- ==== Sys2Proof/Machine/StateHive.lean ====
section
/-! DEFINITION. State of the hive engine (17_hive_hierarchy.md). -/
namespace Sys2Proof.Machine

/-- States of HIVE_GET_STATUS. -/
inductive HiveState where
  | standalone | joining | member | manager | standby
deriving DecidableEq, Repr

/-- A member as the manager knows it (R438, R440). -/
structure HiveMember where
  id : Nat
  serial : Nat
  parent : Nat
  depth : Nat
  worst : Nat
  role : Nat
  /-- parent through the second uplink on record -/
  parent2 : Option Nat
  faults : Nat
deriving DecidableEq, Repr

/-- A route to a member: downlink, the alternate one, and the device S whose bit selects between them (R443). -/
structure Route where
  dest : Nat
  link : Nat
  alt : Option Nat
  tag : Option Nat
  /-- hops to it on the path in force -/
  hops : Nat := 1
deriving DecidableEq, Repr

/-- A hive link: admitted or not, runs of exchanges beyond and within 200 ns (R433). -/
structure HiveLink where
  admitted : Bool := true
  beyond : Nat := 0
  within : Nat := 0
  /-- refused for another hive's manager (R437) -/
  foreign : Bool := false
deriving DecidableEq, Repr

/-- A join the manager has in progress (R439). -/
structure Join where
  serial : Nat
  link : Nat
  role : Nat
  /-- the device's hive links and the members at their far ends, the uplink first -/
  ups : List (Nat × Nat)
  nonce : List Byte
  since : Nat
deriving DecidableEq, Repr

/-- An ACCEPT that waits for the adoption conditions of R376: ID, depth, parent, lane of the second uplink, standby. -/
structure JoinAccept where
  id : Nat
  depth : Nat
  parent : Nat
  uplink2 : Option Nat
  standby : Bool
deriving DecidableEq, Repr

/-- A firmware image being received from the manager (R451). -/
structure UpdateRx where
  version : Nat
  secVersion : Nat
  length : Nat
  /-- parts of the image that have arrived, offset and length -/
  spans : List (Nat × Nat)
  /-- activation that END asked for: 0 none, 1 next SYS_RST_N, 2 now -/
  activate : Nat
deriving DecidableEq, Repr

/-- A distribution the manager runs (R451): target (none for all), workers done, failed, missing rounds. -/
structure Dist where
  /-- who is told the end, and the slot the image is read from -/
  fn : Nat
  slot : Nat
  target : Option Nat
  activate : Nat
  waiting : List Nat
  verified : Nat
  failed : Nat
  rounds : Table Nat
deriving DecidableEq, Repr

/-- A command that the hive has asked for (R363): the device that asked, its caller there, the request's header words and
payload, whether its answer lost entries of the log, and the mailbox that waits where the device asked itself. -/
structure RemoteCall where
  src : Nat
  fn : Nat
  op : Nat
  flags : Nat
  tag : Nat
  body : List Byte
  cut : Bool := false
  outer : Option (Nat × Nat) := none
deriving DecidableEq, Repr

/-- The hive engine. -/
structure Hive where
  state : HiveState := .standalone
  depth : Nat := 0
  worst : Nat := 0
  managerId : Nat := 0
  managerSerial : Nat := 0
  parentId : Nat := 0
  standbyId : Option Nat := none
  uplink : Option Nat := none
  uplink2 : Option Nat := none
  switched : Bool := false
  priority : Nat := 0
  willing : Bool := false
  /-- reason of the last refusal and when the device may ask again -/
  refusal : Nat := 0
  retryAt : Option Nat := none
  joinPending : Bool := false
  accepted : Option JoinAccept := none
  /-- first hive link in DATA: listening since; announcing since -/
  listenSince : Option Nat := none
  announceSince : Option Nat := none
  quiet : Bool := false
  annSeq : Nat := 0
  relayed : List (Nat × Nat) := []
  seq : Nat := 0
  links : Table HiveLink := []
  -- manager
  ids : List (Nat × Nat × Option Nat) := []
  members : List HiveMember := []
  joins : List Join := []
  maxWorst : Nat := 0
  dist : Option Dist := none
  /-- devices being reset (R466): the function that is told the end -/
  resets : Table Nat := []
  -- every device
  joinPath : List (Nat × Nat) := []
  routes : List Route := []
  /-- devices S whose alternate path is in force -/
  flipped : List Nat := []
  cellRoutes : Table Nat := []
  cellServer : Option Nat := none
  mirror : List (Nat × Nat) := []
  mirrorDone : Bool := false
  reportedReady : Bool := false
  /-- last ALIVE of the manager heard, ns; loss of the uplink detected, ns -/
  lastAlive : Nat := 0
  lostAt : Option Nat := none
  joinedSerial : Nat := 0
  update : Option UpdateRx := none
  /-- VC 3 messages that wait while the keeper restarts, with the link each came from (R442) -/
  vc3 : List (Nat × HMsg) := []
  /-- VC 3 credits of each link that the full buffer holds back (R442) -/
  vc3Owed : Table Nat := []
  /-- the command of the hive that has begun and not answered -/
  remote : Option RemoteCall := none
  /-- sequence of the next cell that leaves on a link -/
  cellSeq : Nat := 0
deriving DecidableEq, Repr

end Sys2Proof.Machine
end

