-- ==== Sys2Proof/Machine/StateHost.lean ====
section
/-! DEFINITION. State of the host ports (10_host_port.md), the queues (11_queues_and_records.md) and the mailboxes
(12_commands_setup.md). -/
namespace Sys2Proof.Machine

/-- An entry of a function's translation cache (R283): translated = untranslated base + offset. -/
structure AtsEntry where
  base : Nat
  size : Nat
  translated : Nat
deriving DecidableEq, Repr

/-- Why a read of host memory was issued. -/
inductive ReadFor where
  /-- descriptors or records of queue `q`: `n` ring entries from slot `slot` (R303) -/
  | ring (q slot n : Nat)
  /-- the packet or frame of the descriptor at `slot` of queue `q` (R98, R309) -/
  | buffer (q slot : Nat)
  /-- the rules of PG_LOAD_RULES in mailbox `mbx` (R350) -/
  | rules (mbx : Nat)
  /-- a queue that has failed, been reset or been destroyed since: the data is discarded -/
  | dead
deriving DecidableEq, Repr

/-- An outstanding read (R287, R288): its tag and why it was issued. -/
structure ReadTag where
  tag : Nat
  why : ReadFor
  issued : Nat
deriving DecidableEq, Repr

/-- One DMA request as the engine forms it, before translation (R282, R283). -/
inductive DmaOp where
  | write (addr : Nat) (data : List Byte)
  | read (addr len : Nat) (why : ReadFor)
deriving DecidableEq, Repr

/-- A peer window (Table 11-16). -/
structure PeerWin where
  base : Nat := 0
  size : Nat := 0
  target : Nat := 0
  active : Bool := false
  commitErr : Bool := false
  err : Nat := 0
  dropCnt : Nat := 0
  actBase : Nat := 0
  actSize : Nat := 0
  actTarget : Nat := 0
deriving DecidableEq, Repr

/-- Device power states of a function as a number: 0 D0, 3 D3hot (R290). -/
abbrev DState := Nat

/-- Link state of an idle port (R292). -/
inductive LinkPm where
  | l0 | l1 | l0p
deriving DecidableEq, Repr

/-- One function and its port (10_host_port.md). -/
structure HostPort where
  /-- link trained -/
  up : Bool := false
  width : Nat := 0
  rate100 : Nat := 0
  perst : Bool := true
  /-- an FLR or a port reset of the function is under way (R462) -/
  flr : Bool := false
  pm : LinkPm := .l0
  lastTlp : Nat := 0
  /-- bytes of configuration space that hold something other than their reset value (R272, R273) -/
  cfg : Table Byte := []
  /-- HB_INTX_STATUS and HB_INTX_MASK (Table 10-7) -/
  intxStatus : Nat := 0
  intxMask : Nat := 0x1FFF
  /-- the time captured by the last read of HB_TIME_LO, in 2^-16 ns (R277) -/
  captured : Nat := 0
  inta : Bool := false
  wake : Bool := false
  /-- RD_GEN and the Resource Directory as last written (R279) -/
  rdGen : Nat := 0
  rd : List Byte := []
  ats : List AtsEntry := []
  reads : List ReadTag := []
  /-- quarantined tags, when each becomes free, and whether a reset ended its read (R288, R463) -/
  quarantine : Table (Nat × Bool) := []
  /-- DMA requests that wait for a translation, by the queue (or mailbox) they belong to (R283) -/
  held : Table (List DmaOp) := []
  wins : Table PeerWin := []
  /-- since when the function has been available, ns (R295) -/
  availSince : Option Nat := none
  counts : Counts := []
deriving DecidableEq, Repr

/-- States of a queue (Table 11-3). -/
inductive QState where
  | disabled | enabled | draining | error
deriving DecidableEq, Repr

/-- Settings of a queue (Table 11-2). -/
structure QSettings where
  ringAddr : Nat := 0
  ringSize : Nat := 0
  cplAddr : Nat := 0
  cplSize : Nat := 0
  bufSize : Nat := 0
  /-- lane, or 0xFFFF_FFFF for ALL -/
  lane : Nat := 0
  subjects : Nat := 0
  aperture : Option Nat := none
  notifyAddr : Nat := 0
  notifyData : Nat := 0
  coalCount : Nat := 1
  coalTime : Nat := 0
deriving DecidableEq, Repr

/-- A cell steered to a queue that waits for a buffer or a completion slot (R311); `asm` and `cell` name the cell
in its assembler. -/
structure WaitCell where
  asm : Nat
  cell : Nat
  counted : Bool
deriving DecidableEq, Repr

/-- A queue (R299 to R325). -/
structure Queue where
  /-- type code of Table 11-1 -/
  kind : Nat
  owner : Nat
  settings : QSettings
  state : QState := .disabled
  /-- error reason of Table 11-12, 0 none -/
  reason : Nat := 0
  /-- runs of descriptors taken and not yet completed, in ring order: first slot and number -/
  inUse : List (Nat × Nat) := []
  /-- next slot to fetch -/
  fetch : Nat := 0
  /-- tail acted on -/
  tail : Nat := 0
  /-- last tail and completion head taken or recorded (R306) -/
  recTail : Nat := 0
  recHead : Nat := 0
  /-- last completion head acted on -/
  cplHead : Nat := 0
  cplTail : Nat := 0
  phase : Bool := true
  /-- fetched entries not yet completed: slot and its 16 B -/
  fetched : List (Nat × List Byte) := []
  /-- entries of the fetch on its way, 0 none -/
  flight : Nat := 0
  /-- ring entries that have arrived and are not yet checked (DESCRIPTOR_FETCH_COMPLETE) -/
  arrived : List (Nat × List Byte) := []
  /-- buffers that have arrived from host memory (TUNNEL_OUT, SOURCE), by slot -/
  buffers : List (Nat × List Byte) := []
  waiting : List WaitCell := []
  /-- entries written since the last notify and when the first of them was written (R307) -/
  unnotified : Nat := 0
  unnotifiedSince : Nat := 0
  /-- notify settings that the next entry written puts in force (R301): address, data, count, time -/
  nextNotify : Option (Nat × Nat × Nat × Nat) := none
  /-- the next event entry carries LOST (R305) -/
  lost : Bool := false
  /-- work waits for a slot of the completion ring, and CPL_FULL_CNT has counted this wait (R305) -/
  cplWait : Bool := false
  seq : Nat := 0
  counts : Counts := []
deriving DecidableEq, Repr

/-- STATE of a mailbox (Table 12-3). -/
inductive MbxState where
  | idle | busy | done
deriving DecidableEq, Repr

/-- A mailbox (Tables 12-1 to 12-3). -/
structure Mailbox where
  abort : Bool := false
  state : MbxState := .idle
  aborted : Bool := false
  gen : Nat := 0
  genGo : Nat := 0
  req : List Byte := []
  resp : List Byte := []
deriving DecidableEq, Repr

end Sys2Proof.Machine
end

