-- ==== Sys2Proof/Machine/StateIo.lean ====
section
/-! DEFINITION. State of encoders, emulation outputs and GPIO (16_encoders_and_io.md) and of the waggle router
(15_waggle_router.md). -/
namespace Sys2Proof.Machine

/-- A sample of an encoder's history (R420): time, count, speed and validity. -/
structure EncSample where
  t : Nat
  count : Int
  speed : Int
  valid : Bool
deriving DecidableEq, Repr

/-- An encoder (R410 to R422). -/
structure Enc where
  ssi : Bool := false
  filter : Nat := 5
  invert : Bool := false
  /-- µs -/
  standstill : Nat := 50000
  rezero : Bool := false
  indexPeriod : Nat := 0
  ssiBits : Nat := 8
  ssiGray : Bool := false
  ssiClk : Nat := 100
  ssiPeriod : Nat := 10
  a : Bool := false
  b : Bool := false
  /-- s48 -/
  count : Int := 0
  down : Bool := false
  /-- times of the edges kept since the last restart, newest first (R417) -/
  edges : List Nat := []
  /-- counts/s, 8 fractional bits -/
  speed : Int := 0
  valid : Bool := false
  still : Bool := false
  illegal : Bool := false
  lastEdge : Nat := 0
  cRef : Option Int := none
  /-- edge position of R423 -/
  pos : Int := 0
  /-- last SSI value and its latch -/
  ssiLast : Option (Nat × Nat) := none
  /-- newest first, at most 4,096 -/
  hist : List EncSample := []
  /-- ILLEGAL_CNT, INDEX_DEV_CNT, SSI_ERR_CNT -/
  counts : Counts := []
deriving DecidableEq, Repr

/-- An emulation output (R423 to R425). -/
structure Emu where
  source : Option Nat := none
  n : Nat := 1
  m : Nat := 1
  rate : Int := 0
  zEvery : Nat := 0
  enable : Bool := false
  /-- output position; source and output position when ENABLE became 1 -/
  o : Int := 0
  p0 : Int := 0
  o0 : Int := 0
  /-- phase of the virtual encoder, 10^-9 of a step, and when it held -/
  phase : Nat := 0
  phaseAt : Nat := 0
  lastStep : Option Nat := none
  a : Bool := false
  b : Bool := false
  z : Bool := false
deriving DecidableEq, Repr

/-- Modes of a pin (Table 16-2). -/
inductive PinMode where
  | input | capture | output | scheduled
deriving DecidableEq, Repr

/-- A GPIO pin (R426 to R428). -/
structure Pin where
  mode : PinMode := .input
  /-- level driven -/
  out : Bool := false
  /-- filtered level at the ball -/
  level : Bool := false
  filter : Nat := 0
  /-- 0 RISE, 1 FALL, 2 BOTH -/
  edge : Nat := 0
  capEnc : Option Nat := none
  openDrain : Bool := false
  capTime : Nat := 0
  capCount : Int := 0
  unread : Bool := false
  lastReport : Option Nat := none
  /-- CAP_CNT, CAP_LOST_CNT -/
  counts : Counts := []
deriving DecidableEq, Repr

/-- An export of a channel (R405, R406). -/
structure WgExport where
  device : Nat
  broadcast : Bool
  remote : Nat
  d : Nat
deriving DecidableEq, Repr

/-- A router channel (R393 to R397). -/
structure WgChan where
  producer : Option Nat := none
  /-- 0 RISE, 1 FALL, 2 BOTH -/
  edge : Nat := 0
  delay : Nat := 0
  divider : Nat := 1
  oneshot : Bool := false
  minInterval : Nat := 100
  secure : Bool := false
  enable : Bool := false
  /-- occurrences that have reached the divider since the last WG_CONFIGURE -/
  divSeen : Nat := 0
  lastPass : Option Nat := none
  /-- times at which occurrences held in the delay stage fire -/
  held : List Nat := []
  loop : Bool := false
  /-- the tick of the last occurrence, and the generations that have fired the channel in it (R401) -/
  occTick : Option Nat := none
  gens : List Nat := []
  lastFire : Nat := 0
  xport : Option WgExport := none
  lastImport : Nat := 0
  /-- FIRE, LOOP, RATE_LIMIT, EXPORTED, NO_ROUTE, IMPORT_DENIED -/
  counts : Counts := []
deriving DecidableEq, Repr

/-- A group of eight channels (R397). -/
structure WgGroup where
  onCh : Option Nat := none
  offCh : Option Nat := none
  enabled : Bool := true
deriving DecidableEq, Repr

/-- A consumer input (R399, R400): its two ports, its counters DELIVERED, COINC, DROP, its last delivery and the tick of
its last firing. -/
structure WgInput where
  a : Option Nat := none
  b : Option Nat := none
  counts : Counts := []
  last : Nat := 0
  lastTick : Option Nat := none
deriving DecidableEq, Repr

/-- An import that waits for its agreed time (R407). -/
structure WgImport where
  id : Nat
  chan : Nat
  due : Nat
  tol : Nat
deriving DecidableEq, Repr

/-- The waggle router. -/
structure Waggle where
  chans : Table WgChan := []
  groups : Table WgGroup := []
  /-- by consumer KIND · 2^16 + INDEX · 2^8 + input -/
  inputs : Table WgInput := []
  imports : List WgImport := []
  importIds : Nat := 0
  /-- generation tags given (R401) -/
  gen : Nat := 0
deriving DecidableEq, Repr

end Sys2Proof.Machine
end

