-- ==== Sys2Proof/Machine/StateLane.lean ====
section
/-! DEFINITION. State of the lanes (02_lane_physical_layer.md) and of the Abaend link on them (03_abaend_link.md). -/
namespace Sys2Proof.Machine

/-- Lane modes (Table 2-1), in the order of LANE_CONFIGURE's codes. -/
inductive LaneMode where
  | off | camRx | camTx | hive | ethCam | loop
deriving DecidableEq, Repr

/-- Training states (Table 2-8), `pll` while the lane waits for its PLL, `none` where nothing trains. -/
inductive Train where
  | none | pll | cdr | eq | tend | data | fail
deriving DecidableEq, Repr

/-- Lane power states (Table 2-11). -/
inductive LanePower where
  | active | doze | sleep | off
deriving DecidableEq, Repr

/-- The settings of LANE_CONFIGURE but for Ethernet (Table 12-9), at the values of R583. -/
structure LaneCfg where
  mode : LaneMode := .off
  rate : Nat := 0
  bond : Nat := 1
  /-- lowest lane of the bond the lane belongs to, as an offset below it -/
  bondIdx : Nat := 0
  pre : Nat := 0
  post : Nat := 8
  swing : Nat := 8
  preset : Nat := 2
  txInvert : Nat := 0
  rxInvert : Nat := 0
  eyeFloor : Nat := 20
  powerLock : Bool := false
  trigLead : Nat := 2000
  txSource : Nat := 0
  genWidth : Nat := 16
  genFormat : Nat := 0
  genRate : Nat := 1
  genValue : Nat := 0
deriving DecidableEq, Repr

/-- A power exchange under way on a lane (R83): the state asked for, its sequence byte and when it began. -/
structure PowerAsk where
  sleep : Bool
  seq : Nat
  since : Nat
deriving DecidableEq, Repr

/-- Training fields a lane sends (Tables 2-6 and 2-7), without CHK. -/
structure TrainTx where
  presetReq : Bool := false
  presetVal : Nat := 0
  preReq : Nat := 0
  postReq : Nat := 0
  precodeReq : Bool := false
  modReq : Bool := false
  preSts : Nat := 0
  postSts : Nat := 0
  presetAck : Bool := false
  rxReady : Bool := false
  precodeOn : Bool := false
  modAck : Bool := false
deriving DecidableEq, Repr

/-- What the lane last read in the far end's valid training frames. -/
structure TrainRx where
  presetReq : Bool := false
  presetVal : Nat := 0
  preReq : Nat := 0
  postReq : Nat := 0
  precodeReq : Bool := false
  modReq : Bool := false
  preSts : Nat := 0
  postSts : Nat := 0
  presetAck : Bool := false
  rxReady : Bool := false
  precodeOn : Bool := false
  modAck : Bool := false
  role : Nat := 0
deriving DecidableEq, Repr

/-- One lane at its reset values (R583: OFF). -/
structure Lane where
  cfg : LaneCfg := {}
  train : Train := .none
  /-- entry to TRAIN_CDR, ns: the training timer runs from here (R40) -/
  timerAt : Nat := 0
  /-- resuming from SLEEP with stored coefficients since this instant (R54) -/
  fastAt : Option Nat := none
  /-- entry to TRAIN_FAIL, ns -/
  failAt : Nat := 0
  /-- entry to DATA, ns -/
  dataAt : Nat := 0
  validRun : Nat := 0
  readyRun : Nat := 0
  roleRun : Nat := 0
  /-- training stopped on a ROLE mismatch until reconfigured (R39) -/
  mismatch : Bool := false
  tx : TrainTx := {}
  rx : TrainRx := {}
  /-- taps in force -/
  preTap : Nat := 0
  postTap : Nat := 8
  /-- inverted receive polarity found in training (R35) -/
  rxInverted : Bool := false
  eye : Nat := 0
  hFreeze : Nat := 0
  frozen : Bool := false
  /-- drift adaptation under way (R45) -/
  drifting : Bool := false
  lastLow : Bool := false
  los : Bool := false
  losAt : Nat := 0
  lol : Bool := false
  power : LanePower := .off
  ask : Option PowerAsk := none
  /-- a DOZE lane that wakes and discards data frames until its resume is done (R53) -/
  resuming : Bool := false
  stored : Option (Nat × Nat) := none
  /-- counters of Table 2-10, in row order -/
  counts : Counts := []
deriving DecidableEq, Repr

/-- A quad's PLL (R23, R25). -/
structure PllState where
  powered : Bool := false
  locked : Bool := false
  /-- tuned to: 0 56.1 GBd, 1 53.125 GBd, 2 25.78125 GBd -/
  tuned : Nat := 0
deriving DecidableEq, Repr

/-- An open LINE of one (sensor, band) on a link (R68): its number, the x its next segment must have, its time, its
place at intake (none where intake refused it), and whether it is already lost. -/
structure OpenLine where
  lineNo : Nat
  nextX : Nat
  tExp : Nat
  data : List Byte
  pos : Option Nat
  dead : Bool
deriving DecidableEq, Repr

/-- A packet that waits at a transmitter, with its TYPE and VC (R73). -/
structure TxPacket where
  ptype : Nat
  vc : Nat
  bytes : List Byte
  /-- assembler and cell whose brood space returns when the last packet of the cell has left (R206) -/
  brood : Option (Nat × Nat) := none
deriving DecidableEq, Repr

/-- A PRBS test on a link (R371): who asked, when it began and ends, SHARE in %, TEST packets sent and their blocks. -/
structure PrbsTest where
  fn : Nat
  since : Nat
  due : Nat
  share : Nat
  sent : Nat := 0
  blocks : Nat := 0
deriving DecidableEq, Repr

/-- An outstanding CCTL request (R76); the keeper's descriptor read is the only one the part makes (R124). -/
structure CctlReq where
  write : Bool
  addr : Nat
  len : Nat
  since : Nat
deriving DecidableEq, Repr

/-- A cell whose fragments arrive (R116, R450): its sequence and the bytes so far. -/
structure CellRx where
  seq : Nat
  bytes : List Byte
deriving DecidableEq, Repr

/-- The time exchange of a link (R81, R82): stamps in 2^-8 ns. -/
structure TimeEx where
  exch : Nat := 0
  /-- departure of the own SYNC and, from the far REPORT_RX, its arrival there -/
  depart : Option Nat := none
  arrivedFar : Option Nat := none
  /-- departure of the far SYNC from its REPORT_TX, and its arrival here -/
  departFar : Option Nat := none
  arrived : Option Nat := none
  farExch : Nat := 0
  farValid : Bool := false
  farSource : Bool := false
  /-- results of the last whole exchange, once there has been one, 2^-8 ns -/
  known : Bool := false
  theta : Int := 0
  delay : Int := 0
  /-- consecutive exchanges skipped or without TIME_VALID (Table 14-1) -/
  misses : Nat := 0
deriving DecidableEq, Repr

/-- The Abaend link on one lane; bond-wide items live on the bond's lowest lane. -/
structure Link where
  locked : Bool := false
  offset : Nat := 0
  /-- header mismatches of the last four periods per offset, newest first (R61) -/
  mis : List (List Nat) := []
  periods : Nat := 0
  hdrRun : Nat := 0
  uncorrRun : Nat := 0
  /-- content blocks of the last frame: header and payload; none where it was uncorrectable -/
  content : Option (List (Nat × Nat)) := none
  /-- granted and consumed credits per VC: as receiver, as transmitter (R71) -/
  rxGrant : Table Nat := []
  rxUsed : Table Nat := []
  txGrant : Table Nat := []
  txUsed : Table Nat := []
  txq : List TxPacket := []
  cellRr : Nat := 4
  cctl : Table CctlReq := []
  cctlTag : Nat := 0
  evSeq : Nat := 0
  /-- last EVENT SEQ acted on per TARGET -/
  evLast : Table Nat := []
  time : TimeEx := {}
  lmsgSeq : Nat := 0
  /-- sequence and code of the last LMSG answer given (R83) -/
  lmsgDone : Option (Nat × Nat) := none
  lines : Table OpenLine := []
  /-- descriptor block read at the latest link-up, and whether the read is complete -/
  desc : Option (List Byte) := none
  descPending : Bool := false
  genLine : Nat := 0
  /-- last precoded symbol received (R32) -/
  lastSym : Nat := 0
  /-- cells under reassembly, by source device (R116) -/
  cells : Table CellRx := []
  /-- last descriptor request, ns (R124) -/
  descAt : Nat := 0
  /-- LATE_TRIG_CNT of a CAM_TX lane's own descriptor (R77) -/
  lateTrig : Nat := 0
  /-- when the lane was deskewed outside the mask in force (R89) -/
  alignAt : Nat := 0
  /-- counters of Table 3-10, in row order -/
  counts : Counts := []
  -- bond (on its lowest lane)
  /-- masks in force: receive, transmit -/
  rxMask : Nat := 1
  txMask : Nat := 1
  /-- lanes whose MARK has been seen and deskewed -/
  deskewed : Nat := 0
  bondFrames : Nat := 0
  markFrame : Nat := 0
  sendingDegrade : Bool := false
  prbs : Option PrbsTest := none
deriving DecidableEq, Repr

end Sys2Proof.Machine
end

