-- ==== Sys2Proof/Machine/StateOut.lean ====
section
/-! DEFINITION. What leaves the part: the record of everything an observer outside sees, in order. -/
namespace Sys2Proof.Machine

/-- Errors logged through AER (R275, R288, R319). -/
inductive Aer where
  | completionTimeout | unexpectedCompletion | unsupportedRequest | malformedTlp
deriving DecidableEq, Repr

/-- Flash regions (19_trust_and_firmware.md). -/
inductive FlashRegion where
  | slotA | slotB | bootOptions | ownerPolicy | calibration | log | honey | certificates
deriving DecidableEq, Repr

/-- Something that left the part. `f` is a function, `l` a lane, `v` a valve port. -/
inductive Out where
  -- host ports
  | dmaWrite (f addr : Nat) (data : List Byte)
  | dmaRead (f tag addr len : Nat)
  | xlatRequest (f page : Nat)
  | invalDone (f itag : Nat)
  | readData (f value : Nat)
  | unsupported (f : Nat)
  | intx (f : Nat) (on : Bool)
  | pme (f : Nat)
  | wake (f : Nat) (low : Bool)
  | aer (f : Nat) (e : Aer)
  | linkRequest (f : Nat) (r : IdleRequest)
  | doe (f : Nat) (object : List Byte)
  | training (f : Nat)
  -- lanes
  | laneIdle (l : Nat)
  | trainingFrames (l : Nat)
  | coefRequest (l pre post preset : Nat)
  | block (l : Nat) (payload : Nat)
  | packet (l : Nat) (bytes : List Byte)
  | ethFrame (l : Nat) (frame : List Byte)
  | ptp (l : Nat) (kind seq time : Nat) (data : List Nat)
  -- valves and pins
  | valveFrame (v : Nat) (frame : List Bool)
  | valveStop (v : Nat)
  | gpio (pin : Nat) (level : Bool)
  | emu (o : Nat) (a b z : Bool)
  | ppsOut (level : Bool)
  | alertN (low : Bool)
  | thermTripN (low : Bool)
  | ssiClock (e n : Nat)
  -- flash
  | flashWrite (r : FlashRegion) (off : Nat) (data : List Byte)
  | flashErase (r : FlashRegion) (sector : Nat)
  -- JTAG
  | jtag (code : Nat)
deriving DecidableEq, Repr

end Sys2Proof.Machine
end

