-- ==== Sys2Proof/Machine/StateSys.lean ====
section
/-! DEFINITION. State of the device as a whole: boot and straps (18_resets_and_bring_up.md), ownership
(12_commands_setup.md), hive time and external time (14_hive_time_and_schedules.md), faults
(21_single_fault_guarantee.md), the keeper, its log and the honey counters (22_keeper_health_records.md) and the
device states (24_power_clocks_sleep.md). -/
namespace Sys2Proof.Machine

/-- Where the device stands between SYS_RST_N and READY (R455 to R460, R464, R465). -/
inductive Stage where
  /-- SYS_RST_N asserted -/
  | held
  /-- boot ROM running, boot options not yet read -/
  | rom
  /-- boot options read, merge applied -/
  | options
  /-- the loader serves HP0 (R459) -/
  | loader
  /-- no firmware runs (R460) -/
  | noFirmware
  /-- an image has been started, READY not yet 1 -/
  | starting
  /-- READY 1 -/
  | running
  /-- keeper restart under way (R465) -/
  | restarting
deriving DecidableEq, Repr

/-- DEVICE_PHASE (Table 22-4). -/
inductive Phase where
  | normal | startUp | test | recovery
deriving DecidableEq, Repr

/-- Device states of Table 24-3. -/
inductive DevState where
  | run | doze | sleep
deriving DecidableEq, Repr

/-- An operation that goes on after its command has answered or begun (R355): what it holds. -/
inductive Holding where
  /-- firmware slot -/
  | fwSlot (slot : Nat)
  /-- distribution -/
  | distribute
  /-- calibration record, boot options, owner policy being written to flash (FLASH_WRITTEN items 2, 1, 3) -/
  | flashItem (item : Nat)
  /-- a hive device being reset -/
  | device (id : Nat)
  /-- a lane under DIAG_PRBS -/
  | prbs (lane : Nat)
deriving DecidableEq, Repr

/-- A reset or restart that was answered and starts later (R365, R369, R466): kind 0 soft, 1 keeper restart, 2 FW_ACTIVATE,
3 full reset by the hive. -/
structure LaterReset where
  kind : Nat
  due : Nat
deriving DecidableEq, Repr

/-- The device (18, 12, 24). -/
structure Sys where
  stage : Stage := .held
  straps : Straps := { role := 0, compat := false, bootSel := 0 }
  ready : Bool := false
  /-- READY has been 1 since SYS_RST_N (R279, Table 10-3) -/
  everReady : Bool := false
  /-- when READY first became 1, ns (R431) -/
  readyAt : Nat := 0
  phase : Phase := .startUp
  devState : DevState := .run
  /-- the reset that ended last: 0 SYS_RST_N, 1 full reset by the hive (Table 22-4) -/
  resetKind : Nat := 0
  /-- slot booted: 0 A, 1 B, 2 held by the loader, 0xFF none -/
  slot : Nat := 0xFF
  fwVersion : Nat := 0
  secVersion : Nat := 0
  /-- ordering code: industrial grade -/
  gradeI : Bool := false
  serial : Nat := 0
  /-- the trusted function, 5 for none (R483) -/
  trusted : Nat := 0
  /-- owner of every unit R338 gives to the trusted function and nothing has moved: the trusted function at boot or at the
  last soft device reset, 5 (the keeper) where no function was trusted (R338, R482, R483) -/
  base : Nat := 0
  /-- the owner policy in force names the hive as trusted (R484) -/
  hiveTrusted : Bool := false
  /-- port merge in force: HP0 with HP1, HP2 with HP3 (R269) -/
  merge01 : Bool := false
  merge23 : Bool := false
  subVendor : Nat := 0x1F7E
  subId : Nat := 0
  /-- functions in units of 1,024 queue IDs (R300) -/
  qPart : List Nat := [16, 16, 16, 16]
  /-- owners that differ from the reset owner, by kind · 65536 + index (R338); 0-3 function, 4 hive, 5 keeper, 6 none -/
  owners : Table Nat := []
  holding : List Holding := []
  later : Option LaterReset := none
  /-- firmware pieces that wait to be programmed: slot, offset, data (R364) -/
  fwWaiting : List (Nat × Nat × List Byte) := []
deriving DecidableEq, Repr

/-- Servo states (Table 14-2). -/
inductive Servo where
  | freeRun | acquiring | locked | holdover
deriving DecidableEq, Repr

/-- A value of EXT_OFFSET that waits for its EXT_SINCE, with the reason of Table 14-6 (R381). -/
structure ExtChange where
  since : Nat
  offset : Int
  frac : Nat
  reason : Nat
deriving DecidableEq, Repr

/-- Time unit (14_hive_time_and_schedules.md). -/
structure Clock where
  /-- hive time in 2^-16 ns (R373) -/
  t16 : Nat := 0
  /-- what the last clock left over below 2^-16 ns, in 10^-12 of it (R374) -/
  acc : Int := 0
  /-- RATE, 10^-12 -/
  rate : Int := 0
  servo : Servo := .freeRun
  source : TimeSource := .none
  list : List TimeSource := [.none, .none]
  /-- sources that are valid now and since when, ns -/
  valid : List (TimeSource × Nat) := []
  /-- consecutive measurements within the lock criterion, and beyond the loss criterion (Table 14-3) -/
  goodRun : Nat := 0
  badRun : Nat := 0
  /-- consecutive measurements beyond 1 ms of a locked worker (R376) -/
  farRun : Nat := 0
  everLocked : Bool := false
  /-- the last offset fed, 2^-8 ns (OFFSET_EST) -/
  offsetEst : Int := 0
  extOffset : Int := 0
  extFrac : Nat := 0
  extValid : Bool := false
  extSince : Nat := 0
  /-- EXT_OFFSET has been set by some means (R385) -/
  extEver : Bool := false
  /-- values of EXT_OFFSET that wait for their EXT_SINCE, in order -/
  extWaiting : List ExtChange := []
  /-- measurement held by R382, ns -/
  heldE : Option Int := none
  /-- the far SYNC of the uplink carried TIME_SOURCE (R378) -/
  upTimeSource : Bool := false
  adopted : Bool := false
  ppsEdge : Nat := 0
  ppsDelay : Int := 0
  ppsLast : Option Nat := none
  ppsRejected : Bool := false
  outEnable : Bool := false
  outWidth : Nat := 100000000
  outBase : Nat := 0
  ppsOut : Bool := false
  ppsRise : Option Nat := none
deriving DecidableEq, Repr

/-- A fault not yet resolved (R515): class bit of Table 10-8, unit of R516, and since when it has been within its
limits again. -/
structure Fault' where
  cls : Nat
  unit : Nat
  okSince : Option Nat := none
deriving DecidableEq, Repr

/-- A FAULT_RAISED that the keeper has still to report (R514). -/
structure FaultReport where
  cls : Nat
  unit : Nat
  summary : Nat
  time : Nat
deriving DecidableEq, Repr

/-- Event log entry without its SEQ, which is its place (Table 22-3). -/
structure LogEntry where
  powerOn : Nat
  time : Nat
  code : Nat
  sev : Nat
  timeFree : Bool
  p0 : Nat
  p1 : Nat
  p2 : Nat
deriving DecidableEq, Repr

/-- The keeper and its records (22_keeper_health_records.md). -/
structure Keeper where
  asleep : Bool := false
  lastWork : Nat := 0
  ticks : Nat := 0
  heartbeat : Nat := 0
  temps : List Int := []
  volts : List Nat := []
  tempAlarm : Nat := 0
  voltAlarm : Nat := 0
  /-- sensors that have reported T_CRIT since they reached T_WARN -/
  crit : Nat := 0
  railMw : List Nat := []
  /-- consecutive readings of each rail over its maximum (R552) -/
  overRun : List Nat := []
  /-- SEQ of the oldest flashed log entry, and the flashed and buffered entries, oldest first (R522, R523) -/
  logBase : Nat := 0
  log : List LogEntry := []
  logBuf : List LogEntry := []
  logReplaced : Nat := 0
  /-- live honey counters by their byte offset in Table 22-5, and the snapshot of the last save -/
  honey : Table Nat := []
  snap : Table Nat := []
  saveSeq : Nat := 0
  savedAt : Nat := 0
  saveReason : Nat := 0
  lastSave : Nat := 0
  lastFaultSave : Option Nat := none
  faultSaveDue : Option Nat := none
  /-- calibration record in use: bytes; empty for none (R527) -/
  cal : List Byte := []
  calDefaults : Bool := false
  factoryTrims : List Byte := []
deriving DecidableEq, Repr

/-- Supply and clock monitors (R511, R512, R541). -/
structure Monitors where
  lostClocks : List Nat := []
  holdoverUntil : Option Nat := none
  /-- rails out of their warning and fault windows -/
  warnRails : List Nat := []
  faultRails : List Nat := []
  fabricCopy : Nat := 0
  keeperCopy : Nat := 0
  tripped : Bool := false
  /-- a fault-window excursion has stopped every valve port; the board must reset the device (R512) -/
  valvesStopped : Bool := false
  /-- figures of the manual no longer hold (R511) -/
  unguaranteed : Bool := false
  vddAon : Bool := true
  /-- 32.768 kHz ticks since VDD_AON rose, at hive time `aonAt` ns (R543) -/
  aonCount : Nat := 0
  aonAt : Nat := 0
  onSecondsAt : Nat := 0
deriving DecidableEq, Repr

/-- Entry to DOZE or SLEEP and the wake sources (R544 to R548). -/
structure Power where
  wakeMask : Nat := 0
  entering : Bool := false
  cause : Nat := 0
  /-- lanes that the entry moved -/
  moved : List Nat := []
  /-- lanes whose exchange the entry started and that have not answered -/
  asked : List Nat := []
  /-- lanes left ACTIVE by a NAK or no answer -/
  left : Nat := 0
deriving DecidableEq, Repr

end Sys2Proof.Machine
end

