-- ==== Sys2Proof/Machine/StateTrust.lean ====
section
/-! DEFINITION. State of firmware and trust (19_trust_and_firmware.md) and of the banks (20_on_chip_memory.md). -/
namespace Sys2Proof.Machine

/-- A firmware slot: the image as it stands in flash (or in the keeper bank, for slot 2), and whether it passed the
checks of Table 19-3 (R457, R474). -/
structure FwSlot where
  image : List Byte := []
  valid : Bool := false
deriving DecidableEq, Repr

/-- A slot being written (R364, R451): who is told the end (0 to 3 a function, 4 the hive, 5 the manager that distributes),
the bytes taken so far, and whether COMMIT came. -/
structure FwPush where
  fn : Nat
  taken : Nat
  committed : Bool
deriving DecidableEq, Repr

/-- The boot options (R369, R270): port merge, subsystem IDs, BOOT_SLOT. -/
structure BootOptions where
  merge : Nat
  subVendor : Nat
  subId : Nat
  slot : Nat
deriving DecidableEq, Repr

/-- A flash write of a command that is still under way (R526): item of FLASH_WRITTEN, who is told, contents. -/
structure FlashWrite where
  item : Nat
  fn : Nat
  data : List Byte
  opts : Option BootOptions
deriving DecidableEq, Repr

/-- A nonce of TRUST_CHALLENGE (R366): its purpose, the nonce, and when it expires. -/
structure Nonce where
  purpose : Nat
  bytes : List Byte
  until' : Nat
deriving DecidableEq, Repr

/-- An SPDM connection state (R480): how far the requester came (1 version, 2 capabilities, 3 algorithms), the algorithms
selected, the parts of the transcripts that signatures cover, and its last use. -/
structure SpdmConn where
  stage : Nat
  asym : Bool
  hash : Bool
  /-- version, capabilities and algorithms; digests and certificates; measurements since the last signature -/
  vca : List Byte
  certs : List Byte
  meas : List Byte
  used : Nat
deriving DecidableEq, Repr

/-- The trial of an activated image (R477): since when READY has held, and its restarts for a keeper fault. -/
structure Trial where
  since : Nat
  faults : Nat
deriving DecidableEq, Repr

/-- Firmware and trust. -/
structure Trust where
  slotA : FwSlot := {}
  slotB : FwSlot := {}
  /-- slot 2, held by the loader in the keeper bank -/
  slot2 : FwSlot := {}
  /-- slots being written, by slot -/
  writing : Table FwPush := []
  /-- an activation whose restart is still to come (R365), or the image the keeper restarts into -/
  nextSlot : Option Nat := none
  /-- the running image, header and body -/
  running : List Byte := []
  /-- boot options in flash -/
  opts : Option BootOptions := none
  /-- OTP: owner key hash, none while unprogrammed; anti-rollback fuses -/
  ownerHash : Option (List Byte) := none
  fuses : Nat := 0
  /-- owner policy in force, empty for a default policy, and the one in flash -/
  policy : List Byte := []
  policyFlash : List Byte := []
  /-- calibration record in flash -/
  calFlash : List Byte := []
  flashWrites : List FlashWrite := []
  nonce : Option Nonce := none
  /-- 0 locked, 1 unlocked by the Lutogen key, 2 by the owner key -/
  debug : Nat := 0
  spdm : Table SpdmConn := []
  trial : Option Trial := none
  /-- an activated slot whose first READY is still to come (R477), and the slot a revert has abandoned, to report -/
  activated : Option Nat := none
  reverted : Option Nat := none
  /-- the fall-back of R457 to report: slot booted, slot refused, status -/
  fallback : Option (Nat × Nat × Nat) := none
  /-- instruction in the JTAG instruction register -/
  jtag : Nat := 0xFF
  halted : Bool := false
deriving DecidableEq, Repr

/-- A bank of Table 20-1. -/
structure Bank where
  retention : Bool := false
  /-- when the last window was borrowed; consecutive surrenders of the window to retry, its base, and when it may be
  retried (R499, R500) -/
  lastWindow : Option Nat := none
  surrenders : Nat := 0
  retry : Option (Nat × Nat) := none
  /-- the pass under way has met a failing word or an uncorrectable read (Table 21-2) -/
  bad : Bool := false
  /-- words with an injected error: word offset and bad bits (R371) -/
  injected : Table Nat := []
deriving DecidableEq, Repr

/-- The window of the background test that is open (R499): bank, base, length, when it opened. -/
structure TestWindow where
  bank : Nat
  base : Nat
  len : Nat
  since : Nat
deriving DecidableEq, Repr

end Sys2Proof.Machine
end

