-- ==== Sys2Proof/Machine/State.lean ====
section
/-! DEFINITION. The whole state of the F9600 as a block, and its state at reset. -/
namespace Sys2Proof.Machine

/-- The model stops on no fault: every step of the block ends in a next state. The constructor is never raised;
safe (a closed type that names no stop). -/
inductive Fault where
  /-- raised by nothing; safe -/
  | none
deriving DecidableEq, Repr

/-- Reasons for a refusal. -/
inductive Refusal where
  /-- a row of the table without a meaning, by its mnemonic: raised by exec's refused arms only; safe -/
  | notModelled (mnemonic : String)
deriving DecidableEq, Repr

/-- What a mailbox command that has begun and not answered waits for (R343, R350, R349, R354). -/
inductive WaitFor where
  /-- LANE_SET_POWER: the far end's LMSG answer on the lane (R52) -/
  | power (lane : Nat) (state : Nat)
  /-- PG_LOAD_RULES: the read of the rules -/
  | rules (pg count : Nat)
  /-- a REMOTE_RESP from a hive device, SEQ of the request (R354, R363); `apply` tells which command asked -/
  | remote (device seq : Nat)
  /-- the owners of units of one kind on a hive device, asked one after the other (R230, R362): still to ask -/
  | owners (device kind : Nat) (left : List Nat)
deriving DecidableEq, Repr

/-- The command of the mailbox that the keeper has begun (R333: one at a time). -/
structure Waiting where
  fn : Nat
  mbx : Nat
  since : Nat
  what : WaitFor
deriving DecidableEq, Repr

/-- The F9600. Arrays of units are tables in which an unlisted index has its unit's reset value. -/
structure State where
  /-- commands that wait, first in, first out -/
  pending : List Instr
  /-- everything that has left the part, in order -/
  out : List Out
  /-- the model's own counter of free values -/
  freeCtr : Nat
  /-- last occurrence of each paced event (R581), by kind · 2^24 + object, ns -/
  pace : Table Nat
  sys : Sys
  clock : Clock
  keeper : Keeper
  mon : Monitors
  power : Power
  trust : Trust
  /-- banks of Table 20-1 -/
  banks : Table Bank
  window : Option TestWindow
  faults : List Fault'
  /-- HB_FAULT_SUMMARY (Table 10-8) -/
  faultBits : Nat
  faultReports : List FaultReport
  hps : Table HostPort
  mbxs : Table Mailbox
  /-- mailboxes whose GO was accepted and that are not answered, in the order of acceptance: 8·function + mailbox -/
  goOrder : List Nat
  waiting : Option Waiting
  /-- hive device ID, 0 standalone (R440) -/
  deviceId : Nat
  queues : Table Queue
  lanes : Table Lane
  links : Table Link
  plls : Table PllState
  eths : Table Eth
  hive : Hive
  -- contexts, intake, combs, assemblers
  ctxs : Table Ctx
  combs : Table Comb
  /-- intake partition of each lane in units of 16 KiB where it differs from 16 (R130) -/
  parts : Table Nat
  stitches : Table Stitch
  frags : Table (List Fragment)
  fragIds : Nat
  staging : List StageCopy
  asms : Table Asm
  -- pairing, flight, valves
  pgs : Table PGroup
  /-- counters of Table 8-6 of each pairing group, as PG_GET_STATUS returns them -/
  pgCounts : Table Counts
  /-- steering tables of contexts outside pairing groups -/
  ctxSteer : Table (List SteerEntry)
  pend : Table Pending
  flight : Flight
  vps : Table ValvePort
  -- encoders, I/O, router
  encs : Table Enc
  emus : Table Emu
  pins : Table Pin
  wag : Waggle
deriving DecidableEq, Repr

/-- The machine in reset: SYS_RST_N asserted, every register at its reset value. -/
def State.reset : State where
  pending := []
  out := []
  freeCtr := 0
  pace := []
  sys := {}
  clock := {}
  keeper := {}
  mon := {}
  power := {}
  trust := {}
  banks := []
  window := none
  faults := []
  faultBits := 0
  faultReports := []
  hps := []
  mbxs := []
  goOrder := []
  waiting := none
  deviceId := 0
  queues := []
  lanes := []
  links := []
  plls := []
  eths := []
  hive := {}
  ctxs := []
  combs := []
  parts := []
  stitches := []
  frags := []
  fragIds := 0
  staging := []
  asms := []
  pgs := []
  pgCounts := []
  ctxSteer := []
  pend := []
  flight := {}
  vps := []
  encs := []
  emus := []
  pins := []
  wag := {}

end Sys2Proof.Machine
end

