-- ==== Sys2Proof/Machine/Ops.lean ====
section
/-! DEFINITION. Operations every family shares: time, units of the state, counters, paced events, owners, the INTx
status, DMA, queue entries, events and the log. -/
namespace Sys2Proof.Machine

/-! ### Time (R373, R374) -/

/-- Hive time in ns, without its fraction. -/
def State.now (s : State) : Nat := s.clock.t16 / 65536

/-- Hive time reaches the instant `t` ns; it never runs backward (R374). -/
def advTo (t : Nat) (s : State) : State :=
  if s.clock.t16 < t * 65536 then { s with clock := { s.clock with t16 := t * 65536, acc := 0 } } else s

/-- One fabric clock: hive time advances by 1 ns × (1 + RATE) (R374). -/
def fabricClock (s : State) : State :=
  let u : Int := 65536 * (1000000000000 + s.clock.rate) + s.clock.acc
  { s with clock := { s.clock with
      t16 := s.clock.t16 + (Int.toNat (u / 1000000000000)), acc := u % 1000000000000 } }

/-- The value nearest to `now` whose low `w` bits are `v` (R69). -/
def extTime (w now v : Nat) : Nat :=
  let d := (v % 2 ^ w + 2 ^ w - now % 2 ^ w) % 2 ^ w
  if 2 * d < 2 ^ w then now + d else now + d - 2 ^ w

/-! ### What leaves the part, and free values -/

/-- `o` leaves the part. -/
def emit (o : Out) (s : State) : State := { s with out := s.out ++ [o] }

/-- The model's counter of free values moves on. -/
def bumpFree (s : State) : State := { s with freeCtr := s.freeCtr + 1 }

/-! ### Units -/

/-- Function `f`'s port. -/
def State.hp (s : State) (f : Nat) : HostPort := s.hps.getD f {}
/-- Change function `f`'s port. -/
def modHp (f : Nat) (g : HostPort → HostPort) (s : State) : State := { s with hps := s.hps.put f (g (s.hp f)) }
/-- Mailbox `m` of function `f`. -/
def State.mbx (s : State) (f m : Nat) : Mailbox := s.mbxs.getD (8 * f + m) {}
/-- Change mailbox `m` of function `f`. -/
def modMbx (f m : Nat) (g : Mailbox → Mailbox) (s : State) : State :=
  { s with mbxs := s.mbxs.put (8 * f + m) (g (s.mbx f m)) }
/-- Queue `q`, if it has been created. -/
def State.queue (s : State) (q : Nat) : Option Queue := s.queues.find q
/-- Put `v` as queue `q`. -/
def setQueue (q : Nat) (v : Queue) (s : State) : State := { s with queues := s.queues.put q v }
/-- Change queue `q` where it exists. -/
def modQueue (q : Nat) (g : Queue → Queue) (s : State) : State :=
  match s.queue q with
  | some v => setQueue q (g v) s
  | none => s
/-- Change the device's own record. -/
def modSys (g : Sys → Sys) (s : State) : State := { s with sys := g s.sys }
/-- Change the time unit. -/
def modClock (g : Clock → Clock) (s : State) : State := { s with clock := g s.clock }
/-- Change the keeper. -/
def modKeeper (g : Keeper → Keeper) (s : State) : State := { s with keeper := g s.keeper }

/-! ### Counters (R8) -/

/-- `c` plus `n`, holding at all ones of `w` bits (R8). -/
def satAdd (w c n : Nat) : Nat := min (c + n) (2 ^ w - 1)
/-- Counter `k` of `c`. -/
def cnt (c : Counts) (k : Nat) : Nat := c.getD k 0
/-- Counter `k` of `c` counts `n` in `w` bits. -/
def countN (w : Nat) (c : Counts) (k n : Nat) : Counts := c.put k (satAdd w (cnt c k) n)
/-- A 32-bit counter counts one. -/
def count (c : Counts) (k : Nat) : Counts := countN 32 c k 1
/-- The u32 counters `k, k + 1, …` of `c`, `n` of them, in row order (R337). -/
def cntBytes (c : Counts) (k n : Nat) : List Byte := (List.range n).flatMap fun i => b32 (cnt c (k + i))
/-- `c` with the `n` counters from `k` cleared. -/
def cntClear (c : Counts) (k n : Nat) : Counts := c.filter fun e => decide (e.1 < k ∨ k + n ≤ e.1)

/-- The counters of Table 10-12 and, after them, QUEUE_ERR_CNT, EVENT_NOQ_CNT, MBX_ERR_CNT and UNKNOWN_DEC_CNT, in the
order DEV_GET_PORT_STATUS returns them. -/
inductive HpCnt where
  | linkDown | downtrain | barDrop | cplTimeout | unexpCpl | atsInv | atsFault | dmaWriteDrop | cellPortDown
  | queueErr | eventNoq | mbxErr | unknownDec
/-- Count one on function `f`. -/
def countHp (f : Nat) (k : HpCnt) (s : State) : State := modHp f (fun h => { h with counts := count h.counts k.ctorIdx }) s
/-- Count `n` on function `f`. -/
def countHpN (f : Nat) (k : HpCnt) (n : Nat) (s : State) : State :=
  modHp f (fun h => { h with counts := countN 32 h.counts k.ctorIdx n }) s

/-- The counters of Table 11-19. -/
inductive QCnt where
  | cpl | notify | cplFull | nobuf | bufTrunc | decDrop | evtLost
/-- Count one on queue `q`. -/
def countQ (q : Nat) (k : QCnt) (s : State) : State := modQueue q (fun v => { v with counts := count v.counts k.ctorIdx }) s

/-! ### Honey counters (R524, Table 22-5), by their offset in the image -/

/-- The honey counter of `w` bits at `off` counts `n`. -/
def honeyN (w off n : Nat) (s : State) : State :=
  modKeeper (fun k => { k with honey := k.honey.put off (satAdd w (k.honey.getD off 0) n) }) s
/-- The 32-bit honey counter at `off` counts one. -/
def honey (off : Nat) (s : State) : State := honeyN 32 off 1 s
/-- HONEY_POWER_ON_SECONDS, HONEY_POWER_CYCLES and HONEY_RESET[i]. -/
def hoPowerOnSeconds : Nat := 0x40
def hoPowerCycles : Nat := 0x48
def hoReset (i : Nat) : Nat := 0x4C + 4 * i
/-- Field `o` of the lane record of lane `l` (Table 22-6). -/
def hoLane (l o : Nat) : Nat := 0x80 + 80 * l + o
/-- Field `o` of comb `k`'s record. -/
def hoComb (k o : Nat) : Nat := 0x1E80 + 48 * k + o
/-- Field `o` of temperature sensor `i`'s record. -/
def hoTemp (i o : Nat) : Nat := 0x2300 + 136 * i + o
/-- Field `o` of voltage monitor `i`'s record. -/
def hoVolt (i o : Nat) : Nat := 0x3400 + 16 * i + o
/-- Field `o` of host port `f`'s record: 0 link down, 4 down-train, 8 queue overflow, 12 mailbox errors. -/
def hoPort (f o : Nat) : Nat := 0x3580 + 16 * f + o
/-- HONEY_INDEX_DEV[b] of encoder `e`. -/
def hoEnc (e b : Nat) : Nat := 0x35C0 + 64 * e + 4 * b
/-- HONEY_DEC_LATE[b]. -/
def hoLate (b : Nat) : Nat := 0x37C0 + 8 * b
/-- Counter `o` of bank `b`. -/
def hoBank (b o : Nat) : Nat := 0x3870 + 24 * b + o
/-- Field `o` of the hive and flash record. -/
def hoHive (o : Nat) : Nat := 0x3E40 + o
/-- Field `o` of valve `v`'s record. -/
def hoValve (v o : Nat) : Nat := 0x3E80 + 24 * v + o

/-! ### Paced events (R581) -/

/-- Events reported "for the first after T without one": what paces them. -/
inductive Pace where
  | linkCredit | intakeOverflow | linesLost | lineWidth | labels | brood | asmOverrun | pairFull | speedFallback
  | pendingFull | actionsFull | decisionsLate | ethUnsupported | ethFrameLost | ethBlockGap | tsFallback
  | schedLate | schedDropped | wgLoop | wgRate | wgDenied | encIllegal | indexDev | gpioCapture | eccCorrected
  | ejectDenied | queueNoBuffer | alignSkew | other1 | emuLag | ssiErr
/-- The key of a paced event in `State.pace`. -/
def paceKey (k : Pace) (obj : Nat) : Nat := k.ctorIdx * 16777216 + obj
/-- An occurrence of a paced event now: whether it reports, and the state with the occurrence noted (R581). -/
def paced (k : Pace) (obj T : Nat) (s : State) : Bool × State :=
  let key := paceKey k obj
  ((match s.pace.find key with
    | none => true
    | some last => decide (last + T ≤ s.now)),
   { s with pace := s.pace.put key s.now })
/-- The occurrences of `obj` are forgotten: the object is new, or its counters were reset (R581). -/
def forgetPace (p : Nat → Bool) (s : State) : State := { s with pace := s.pace.filter fun e => !p e.1 }

/-! ### Owners (R9, R338) -/

/-- Owner codes: 0 to 3 a function, 4 the hive, 5 the keeper, 6 none. -/
def ownHive : Nat := 4
def ownKeeper : Nat := 5
def ownNone : Nat := 6
/-- KIND of DEV_ASSIGN. -/
inductive Kind where
  | lane | comb | stitch | pairing | valvePort | channel | encoder | gpio
/-- The key of unit `i` of kind `k`. -/
def ownKey (k : Kind) (i : Nat) : Nat := k.ctorIdx * 65536 + i
/-- The owner of a unit: as assigned, else that of R338. -/
def State.ownerOf (s : State) (k : Kind) (i : Nat) : Nat :=
  s.sys.owners.getD (ownKey k i) (match k with
    | .stitch | .pairing => ownNone
    | _ => s.sys.base)
/-- Give a unit an owner. -/
def setOwner (k : Kind) (i o : Nat) (s : State) : State :=
  modSys (fun y => { y with owners := y.owners.put (ownKey k i) o }) s
/-- A unit returns to its owner of R338. -/
def dropOwner (k : Kind) (i : Nat) (s : State) : State :=
  modSys (fun y => { y with owners := y.owners.erase (ownKey k i) }) s

/-- Whether function `f` exists: the higher port of a merged pair presents none (R269). -/
def State.present (s : State) (f : Nat) : Bool :=
  match f with
  | 0 | 2 => true
  | 1 => !s.sys.merge01
  | 3 => !s.sys.merge23
  | _ => false
/-- Whether function `f` serves a merged port. -/
def State.merged (s : State) (f : Nat) : Bool :=
  match f with
  | 0 => s.sys.merge01
  | 2 => s.sys.merge23
  | _ => false
/-- The functions that exist. -/
def State.functions (s : State) : List Nat := [0, 1, 2, 3].filter s.present

/-! ### Configuration space (R272, R273; the field places inside standard capabilities are those of the PCI Express
Base specification, which the spec refers to: PRESUMED, log entry 4) -/

/-- Reset value of a byte of configuration space that can be written. -/
def cfgReset (off : Nat) : Byte := if off = 0x3C then 0xFF else if off = 0x79 then 0x20 else if off = 0x10 ∨ off = 0x18 then 0x04 else if off = 0x20 then 0x0C else 0
/-- A byte of function `f`'s writable configuration space. -/
def HostPort.cfgByte (h : HostPort) (off : Nat) : Byte := h.cfg.getD off (cfgReset off)
/-- The `n`-byte configuration register at `off`. -/
def HostPort.cfgReg (h : HostPort) (off n : Nat) : Nat := leAt ((List.range n).map fun i => h.cfgByte (off + i)) 0 n
/-- Put the `n`-byte configuration register at `off`. -/
def HostPort.putCfg (h : HostPort) (off n v : Nat) : HostPort :=
  { h with cfg := ((List.range n).foldl (fun c i => c.put (off + i) (BitVec.ofNat 8 (v / 256 ^ i))) h.cfg) }
def HostPort.memSpace (h : HostPort) : Bool := bit (h.cfgReg 0x04 2) 1
def HostPort.busMaster (h : HostPort) : Bool := bit (h.cfgReg 0x04 2) 2
def HostPort.intDisable (h : HostPort) : Bool := bit (h.cfgReg 0x04 2) 10
def HostPort.dstate (h : HostPort) : Nat := bits (h.cfgReg 0x44 2) 0 2
def HostPort.pmeEn (h : HostPort) : Bool := bit (h.cfgReg 0x44 2) 8
def HostPort.pmeStatus (h : HostPort) : Bool := bit (h.cfgReg 0x44 2) 15
def HostPort.extTag (h : HostPort) : Bool := bit (h.cfgReg 0x78 2) 8
def HostPort.tag10 (h : HostPort) : Bool := bit (h.cfgReg 0x98 2) 12
def HostPort.atsEnable (h : HostPort) : Bool := bit (h.cfgReg 0x286 2) 15
/-- Max Payload Size in force, B. -/
def HostPort.maxPayload (h : HostPort) : Nat := min 1024 (128 * 2 ^ bits (h.cfgReg 0x78 2) 5 3)
/-- The completion timeout, ns (Table 10-10; R286). -/
def HostPort.cplTimeout (h : HostPort) : Nat :=
  match bits (h.cfgReg 0x98 2) 0 4 with
  | 1 => 100000
  | 2 => 10000000
  | 6 => 200000000
  | 9 => 900000000
  | 10 => 3500000000
  | _ => 50000000

/-- An error logged through AER (R288, R319): it leaves as a message, and the status bits of the capability at 0x100 are
set: unexpected completions and unsupported requests as advisory (R288, R319). -/
def logAer (f : Nat) (e : Aer) (s : State) : State :=
  let b := match e with
    | .completionTimeout => 14
    | .unexpectedCompletion => 16
    | .malformedTlp => 18
    | .unsupportedRequest => 20
  let advisory := match e with
    | .unexpectedCompletion | .unsupportedRequest => true
    | _ => false
  emit (.aer f e) (modHp f (fun h =>
    let h := h.putCfg 0x104 4 (setBit (h.cfgReg 0x104 4) b)
    if advisory then h.putCfg 0x110 4 (setBit (h.cfgReg 0x110 4) 13) else h) s)

/-- Whether function `f` is available (R293). -/
def State.available (s : State) (f : Nat) : Bool :=
  let h := s.hp f
  s.present f && h.up && !h.perst && h.dstate == 0 && h.busMaster && !h.flr
/-- A write to BAR memory that function `f` does not take: dropped, and in D3hot counted (R290). -/
def barLost (f : Nat) (s : State) : State :=
  let h := s.hp f
  if s.present f ∧ h.up ∧ !h.perst ∧ !h.flr ∧ h.dstate = 3 then countHp f .barDrop s else s
/-- A TLP passed on function `f`'s link: it is in L0 (R292). -/
def tlp (f : Nat) (s : State) : State := modHp f (fun h => { h with lastTlp := s.now, pm := .l0 }) s
/-- Whether function `f` answers memory requests: it exists, its link is up, it is in D0 with Memory Space set, and no
reset of it is under way (R275, R290, R462). -/
def State.decodes (s : State) (f : Nat) : Bool :=
  let h := s.hp f
  s.present f && h.up && !h.perst && h.dstate == 0 && h.memSpace && !h.flr

/-! ### HB_INTX_STATUS (R289, R291) -/

/-- Bits of Table 10-7 above MBX_DONE. -/
def intxReadyUp : Nat := 8
def intxReadyDown : Nat := 9
def intxFault : Nat := 10
def intxQueueError : Nat := 11
def intxSteer : Nat := 12

/-- The unmasked bits of HB_INTX_STATUS. -/
def HostPort.intxActive (h : HostPort) : Nat := h.intxStatus &&& (0x1FFF ^^^ (h.intxMask &&& 0x1FFF))

/-- INTA follows the unmasked bits and Interrupt Disable (R289). -/
def intxUpdate (f : Nat) (s : State) : State :=
  let h := s.hp f
  let want := h.intxActive != 0 && !h.intDisable
  if want = h.inta then s else emit (.intx f want) (modHp f (fun h => { h with inta := want }) s)

/-- PME for an unmasked bit that became 1 in D3hot or D3cold with PME_En set (R291). -/
def pmeRaise (f : Nat) (s : State) : State :=
  let h := s.hp f
  if h.pmeEn then
    if h.perst then
      emit (.wake f true) (modHp f (fun h => { (h.putCfg 0x44 2 (setBit (h.cfgReg 0x44 2) 15)) with wake := true }) s)
    else if h.dstate = 3 then
      emit (.pme f) (modHp f (fun h => h.putCfg 0x44 2 (setBit (h.cfgReg 0x44 2) 15)) s)
    else s
  else s

/-- Hardware sets bit `b` of HB_INTX_STATUS of function `f`. -/
def setIntx (f b : Nat) (s : State) : State :=
  if s.present f then
    let h := s.hp f
    let s1 := modHp f (fun h => { h with intxStatus := setBit h.intxStatus b }) s
    let s2 := if !bit h.intxStatus b && !bit h.intxMask b then pmeRaise f s1 else s1
    intxUpdate f s2
  else s
/-- Hardware sets bit `b` on every function. -/
def setIntxAll (b : Nat) (s : State) : State := [0, 1, 2, 3].foldl (fun s f => setIntx f b s) s

/-! ### DMA (R282 to R288) -/

/-- Tags the DMA engine may take (R287). -/
def HostPort.tagRange (h : HostPort) : Nat × Nat :=
  if h.tag10 then (0x100, 768) else if h.extTag then (0, 256) else (0, 32)
/-- The lowest free tag, if any (R287, R288). -/
def HostPort.freeTag (h : HostPort) : Option Nat :=
  let (lo, n) := h.tagRange
  ((List.range n).map (lo + ·)).find? fun t => !(h.reads.any fun r => r.tag == t) && (h.quarantine.find t).isNone
/-- The translation of an address (R283). -/
def HostPort.translate (h : HostPort) (a : Nat) : Option Nat :=
  if h.atsEnable then
    (h.ats.find? fun e => decide (e.base ≤ a ∧ a < e.base + e.size)).map fun e => e.translated + (a - e.base)
  else some a
/-- The 4 KiB pages that `len` bytes at `a` touch. -/
def pagesOf (a len : Nat) : List Nat :=
  (List.range ((a + max len 1 - 1) / 4096 - a / 4096 + 1)).map fun i => (a / 4096 + i) * 4096
/-- The first page of a request that has no translation. -/
def HostPort.missing (h : HostPort) (a len : Nat) : Option Nat := (pagesOf a len).find? fun p => (h.translate p).isNone
/-- A write cut at page boundaries, each piece at its translated address (R283). -/
def HostPort.pieces (h : HostPort) (a : Nat) (d : List Byte) : List (Nat × List Byte) :=
  if h.atsEnable then
    (pagesOf a d.length).map fun p =>
      let lo := max p a
      ((h.translate lo).getD lo, (d.drop (lo - a)).take (p + 4096 - lo))
  else [(a, d)]

/-- Send one DMA request; none where it must wait for a translation or a tag (R283, R287). -/
def dmaIssue (f : Nat) (op : DmaOp) (s : State) : Option State :=
  let h := s.hp f
  match op with
  | .write a d =>
    if (h.missing a d.length).isSome then none
    else some (tlp f ((h.pieces a d).foldl (fun s p => emit (.dmaWrite f p.1 p.2) s) s))
  | .read a n why =>
    if (h.missing a n).isSome then none
    else match h.freeTag with
      | none => none
      | some t => some (emit (.dmaRead f t ((h.translate a).getD a) n)
          (modHp f (fun h => { h with reads := h.reads ++ [{ tag := t, why := why, issued := s.now }] }) (tlp f s)))

/-- The address and length of a DMA request. -/
def DmaOp.span : DmaOp → Nat × Nat
  | .write a d => (a, d.length)
  | .read a n _ => (a, n)

/-- A Translation Request for the first page of `op` that misses (R283). -/
def askXlat (f : Nat) (op : DmaOp) (s : State) : State :=
  match (s.hp f).missing op.span.1 op.span.2 with
  | some p => emit (.xlatRequest f p) s
  | none => s

/-- A DMA request of `key` (a queue, or 65536 + a mailbox): it follows what of the same key waits, and waits itself
where it misses the translation cache or finds no tag (R282, R283, R287). An unavailable function sends nothing (R293). -/
def dma (f key : Nat) (op : DmaOp) (s : State) : State :=
  let h := s.hp f
  let wait := fun (s : State) => modHp f (fun h => { h with held := h.held.put key (h.held.getD key [] ++ [op]) }) s
  if !s.available f then s
  else if !(h.held.getD key []).isEmpty then wait s
  else match dmaIssue f op s with
    | some s' => s'
    | none => wait (askXlat f op s)

/-- Send what can be sent of a list of held requests; what remains. -/
def dmaFlushList (f : Nat) : List DmaOp → State → List DmaOp × State
  | [], s => ([], s)
  | op :: r, s =>
    match dmaIssue f op s with
    | some s' => dmaFlushList f r s'
    | none => (op :: r, askXlat f op s)

/-- Held requests of every key of function `f` go out as far as they can. -/
def dmaFlush (f : Nat) (s : State) : State :=
  if !s.available f then s else
  (s.hp f).held.foldl (fun s e =>
    let (rest, s') := dmaFlushList f e.2 s
    modHp f (fun h => { h with held := if rest.isEmpty then h.held.erase e.1 else h.held.put e.1 rest }) s') s

/-- The requests of `key` that wait are dropped. -/
def dmaDrop (f key : Nat) (s : State) : State := modHp f (fun h => { h with held := h.held.erase key }) s

/-! ### Completion rings and notify writes (R304, R305, R307) -/

/-- Completion entries outstanding beyond the last head (R305). -/
def Queue.cplUsed (v : Queue) : Nat := (v.cplTail + v.settings.cplSize - v.cplHead) % (max v.settings.cplSize 1)
/-- Whether the completion ring has no free slot (R305). -/
def Queue.cplFull (v : Queue) : Bool := decide (v.settings.cplSize ≤ v.cplUsed + 1)

/-- Notify settings that waited for the next entry come into force (R301). -/
def Queue.applyNotify (v : Queue) : Queue :=
  match v.nextNotify with
  | some (a, d, c, t) => { v with
      settings := { v.settings with notifyAddr := a, notifyData := d, coalCount := c, coalTime := t }, nextNotify := none }
  | none => v
/-- The notify write of queue `q`, covering every entry not yet notified (R307). -/
def notify (q : Nat) (s : State) : State :=
  match s.queue q with
  | none => s
  | some v =>
    if v.unnotified = 0 then s
    else
      let s1 := setQueue q { v with unnotified := 0 } s
      if v.settings.notifyAddr = 0 then s1
      else countQ q .notify (dma v.owner q (.write v.settings.notifyAddr (b32 v.settings.notifyData)) s1)

/-- Write one 32 B entry, `e` with PHASE clear, into the completion ring of queue `q`, then the notify write where it
is due (R304, R307). -/
def writeEntry (q : Nat) (e : List Byte) (s : State) : State :=
  match s.queue q with
  | none => s
  | some v =>
    let v := v.applyNotify
    let e' := if v.phase then e.set 3 (BitVec.ofNat 8 (setBit (byteAt e 3) 7)) else e
    let next := v.cplTail + 1
    let wrap := decide (v.settings.cplSize ≤ next)
    let v' := { v with
      cplTail := if wrap then 0 else next
      phase := if wrap then !v.phase else v.phase
      unnotified := v.unnotified + 1
      unnotifiedSince := if v.unnotified = 0 then s.now else v.unnotifiedSince
      counts := count v.counts QCnt.cpl.ctorIdx }
    let s1 := setQueue q v' (dma v.owner q (.write (v.settings.cplAddr + 32 * v.cplTail) e') s)
    if v.settings.coalTime = 0 ∨ v.settings.coalCount ≤ v'.unnotified
        ∨ v'.unnotifiedSince + 1000 * v.settings.coalTime ≤ s.now then notify q s1 else s1

/-- A wait or loss of queue `q` at a full completion ring is counted (R305). -/
def countCplFull (q : Nat) (s : State) : State :=
  match s.queue q with
  | none => s
  | some v => honey (hoPort v.owner 8) (countQ q .cplFull s)

/-! ### Event log (R522, R523) -/

/-- Whether the log's TIME_FREE flag is set now (Table 22-3). -/
def State.timeFree (s : State) : Bool := !(s.clock.servo == .locked || s.clock.servo == .holdover)

/-- Replace the newest entry of `l` (newest last) that satisfies `p` by nothing; whether there was one. -/
def dropNewest (p : LogEntry → Bool) (l : List LogEntry) : Bool × List LogEntry :=
  match l.reverse.findIdx? p with
  | some i => (true, (l.reverse.eraseIdx i).reverse)
  | none => (false, l)

/-- Work for the keeper: it wakes (R518). -/
def keeperWork (s : State) : State := modKeeper (fun k => { k with asleep := false, lastWork := s.now }) s
/-- An entry of the event log goes into the keeper's buffer (R523). -/
def logAt (time code sev p0 p1 p2 : Nat) (s : State) : State :=
  let e : LogEntry :=
    { powerOn := s.keeper.honey.getD hoPowerCycles 0, time := time, code := code, sev := sev, timeFree := s.timeFree,
      p0 := p0 % 2 ^ 32, p1 := p1 % 2 ^ 32, p2 := p2 % 2 ^ 32 }
  modKeeper (fun k0 =>
    let k := { k0 with asleep := false, lastWork := s.now }
    if k.logBuf.length < 4096 then { k with logBuf := k.logBuf ++ [e] }
    else
      let w := dropNewest (fun x => x.sev == 1) k.logBuf
      let r := if sev = 2 ∧ !w.1 then dropNewest (fun x => x.sev == 2) k.logBuf else w
      if r.1 then { k with logBuf := r.2 ++ [e], logReplaced := k.logReplaced + 1 }
      else { k with logReplaced := k.logReplaced + 1 }) s
/-- A log-only entry now (Table 22-4). -/
def logNow (code sev p0 p1 p2 : Nat) (s : State) : State := logAt s.now code sev p0 p1 p2 s

/-! ### Events (R320, Table 11-17) -/

/-- Severities. -/
def sevI : Nat := 0
def sevW : Nat := 1
def sevE : Nat := 2

/-- The hive device ID, 0 standalone, is kept in the first argument so that this file does not depend on the hive. -/
def eventBytes (dev code sev seq time p0 p1 p2 : Nat) (lost : Bool) : List Byte :=
  b16 code ++ b8 sev ++ b8 (if lost then 0x40 else 0) ++ b16 dev ++ b16 seq ++ b64 time ++ b32 p0 ++ b32 p1 ++ b64 p2

/-- An event is lost at queue `q` (R305, R320). -/
def eventLost (q : Nat) (s : State) : State := modQueue q (fun v => { v with lost := true }) (countQ q .evtLost s)

/-- An event entry for queue `q` (R304, R305, R320). -/
def eventTo (dev code sev time p0 p1 p2 q : Nat) (s : State) : State :=
  match s.queue q with
  | none => s
  | some v =>
    if !s.available v.owner then eventLost q s
    else if v.cplFull then eventLost q (countCplFull q s)
    else
      let e := eventBytes dev code sev v.seq time p0 p1 p2 v.lost
      writeEntry q e (setQueue q { v with seq := (v.seq + 1) % 65536, lost := false } s)

/-- The ENABLED EVENT queues of function `f` whose SUBJECTS has the subject of `code` (R320). -/
def State.eventQueues (s : State) (f code : Nat) : List Nat :=
  (s.queues.filter fun e => e.2.kind == 4 && e.2.owner == f && e.2.state == .enabled
    && bit e.2.settings.subjects (code / 256)).map (·.1)

/-- An event to one recipient function, not to queue `but`. -/
def eventToFn (but : Option Nat) (dev code sev time p0 p1 p2 f : Nat) (s : State) : State :=
  if !s.present f then s
  else match (s.eventQueues f code).filter fun q => some q != but with
    | [] => countHp f .eventNoq s
    | qs => qs.foldl (fun s q => eventTo dev code sev time p0 p1 p2 q s) s

/-- An event at `time` to the recipient functions `rs`, each once; a W or E event is logged once (R320, R522). -/
def raiseAt (time : Nat) (code sev p0 p1 p2 : Nat) (rs : List Nat) (s : State) (but : Option Nat := none) : State :=
  let s1 := (rs.filter (· < 4)).eraseDups.foldl (fun s f => eventToFn but s.deviceId code sev time p0 p1 p2 f s) s
  if 1 ≤ sev then logAt time code sev p0 p1 p2 s1 else s1
/-- An event now. -/
def raise (code sev p0 p1 p2 : Nat) (rs : List Nat) (s : State) : State := raiseAt s.now code sev p0 p1 p2 rs s
/-- The trusted function and the owner of a unit. -/
def State.toOwner (s : State) (k : Kind) (i : Nat) : List Nat := [s.sys.trusted, s.ownerOf k i]

end Sys2Proof.Machine
end

