-- ==== Sys2Proof/Machine/LaneOps.lean ====
section
/-! DEFINITION. Operations on lanes and links that other families use: bonds, links in DATA, blocks and packets sent,
credits. -/
namespace Sys2Proof.Machine

/-- Lane `l`. -/
def State.lane (s : State) (l : Nat) : Lane := s.lanes.getD l {}
/-- Change lane `l`. -/
def modLane (l : Nat) (g : Lane → Lane) (s : State) : State := { s with lanes := s.lanes.put l (g (s.lane l)) }
/-- The link of lane `l`. -/
def State.link (s : State) (l : Nat) : Link := s.links.getD l {}
/-- Change the link of lane `l`. -/
def modLink (l : Nat) (g : Link → Link) (s : State) : State := { s with links := s.links.put l (g (s.link l)) }
/-- The Ethernet port of lane `l`. -/
def State.eth (s : State) (l : Nat) : Eth := s.eths.getD l {}
/-- Change the Ethernet port of lane `l`. -/
def modEth (l : Nat) (g : Eth → Eth) (s : State) : State := { s with eths := s.eths.put l (g (s.eth l)) }
/-- PLL `p` of quad `q`. -/
def State.pll (s : State) (q p : Nat) : PllState := s.plls.getD (2 * q + p) {}
/-- Change PLL `p` of quad `q`. -/
def modPll (q p : Nat) (g : PllState → PllState) (s : State) : State :=
  { s with plls := s.plls.put (2 * q + p) (g (s.pll q p)) }

/-- The counters of Table 2-10. -/
inductive LaneCnt where
  | los | lol | retrain | trainFail | trainChk | driftUnfreeze | eyeLow | dozeLoss | fastResumeFail
/-- The counters of Table 3-10. -/
inductive LinkCnt where
  | corrSym | corrFrame | uncorr | lockLoss | hdrErr | ctrlUnk | crcErr | framingErr | typeErr | segErr | creditErr
  | cctlTimeout | timeMiss | testErr | bondSkew | degrade
  /-- UNBOUND_LINE_CNT, which LANE_GET_STATUS returns after Table 3-10 -/
  | unboundLine
/-- The lane counters of Table 4-6 that are not a stream's. -/
inductive EthCnt where
  | rxErr | drop | tunnelDrop | ptpDrop
/-- The stream counters of Table 4-6. -/
inductive StreamCnt where
  | drop | unsup | format | part | order | missPkt | lostLine | noLeader | blockGap | chunkTrunc | tsFallback
/-- Count one on lane `l`. -/
def countLane (l : Nat) (k : LaneCnt) (s : State) : State := modLane l (fun v => { v with counts := count v.counts k.ctorIdx }) s
/-- Count `n` on the link of lane `l`; FEC_CORR_SYM_CNT has 48 bits (R90). -/
def countLinkN (l : Nat) (k : LinkCnt) (n : Nat) (s : State) : State :=
  modLink l (fun v => { v with counts := countN (match k with | .corrSym => 48 | _ => 32) v.counts k.ctorIdx n }) s
/-- Count one on the link of lane `l`. -/
def countLink (l : Nat) (k : LinkCnt) (s : State) : State := countLinkN l k 1 s
/-- Count one on the Ethernet port of lane `l`. -/
def countEth (l : Nat) (k : EthCnt) (s : State) : State := modEth l (fun v => { v with counts := count v.counts k.ctorIdx }) s

/-- The lowest lane of the bond that lane `l` belongs to. -/
def State.head (s : State) (l : Nat) : Nat := l - (s.lane l).cfg.bondIdx
/-- The lanes of the bond whose lowest lane is `h`. -/
def State.bondLanes (s : State) (h : Nat) : List Nat := (List.range (s.lane h).cfg.bond).map (h + ·)
/-- Whether lane `l` belongs to a bond of more than one lane. -/
def State.bonded (s : State) (l : Nat) : Bool := decide (1 < (s.lane (s.head l)).cfg.bond)
/-- An Abaend mode with training (Table 2-1). -/
def LaneMode.abaend : LaneMode → Bool
  | .camRx | .camTx | .hive => true
  | _ => false
/-- Whether the lane is in DATA and its receiver locked. -/
def State.carries (s : State) (l : Nat) : Bool := (s.lane l).train == .data && (s.link l).locked
/-- Whether the link of lowest lane `h` is up: every lane of a bond's mask in force carries traffic and has been deskewed
(R85, R88). -/
def State.linkUp (s : State) (h : Nat) : Bool :=
  if s.bonded h then
    let i := setBits (s.lane h).cfg.bond (s.link h).rxMask
    !i.isEmpty && i.all fun i => bit (s.link h).deskewed i && s.carries (h + i)
  else s.carries h
/-- The bond mask of LANE_GET_STATUS (Table 12-10). -/
def State.bondMask (s : State) (h : Nat) : Nat :=
  if (s.lane h).cfg.mode = .ethCam then b2n (s.eth h).linkUp
  else if s.bonded h then
    mapOf (s.lane h).cfg.bond fun i => s.carries (h + i) && bit (s.link h).deskewed i && bit (s.link h).rxMask i
  else b2n (s.carries h)

/-- Symbols of the baud rate and the modulation of a rate code (Table 2-1): PAM4 or NRZ. -/
def pam4 (rate : Nat) : Bool := rate == 0 || rate == 1 || rate == 3 || rate == 4

/-- A block of 8 payload bytes as the number whose bit D[j] is bit j (R56). -/
def blockOf (b : List Byte) : Nat := leAt b 0 8
/-- A control block leaves on lane `l` (Table 3-2). -/
def sendBlock (l : Nat) (b : List Byte) (s : State) : State := emit (.block l (blockOf b)) s
/-- A stream block leaves on the link of lowest lane `h`. -/
def sendStream (h : Nat) (b : List Byte) (s : State) : State := sendBlock h b s

/-- Bytes of an EVENT block (Table 3-2). -/
def eventBlock (rep : Bool) (kind target seq time32 : Nat) : List Byte :=
  b8 0x66 ++ b8 (128 * b2n rep + 16 * kind + target) ++ b16 (seq % 4096) ++ b32 (time32 % 2 ^ 32)
/-- An EVENT block is sent twice with one SEQ, which then advances (R79). -/
def sendEvent (h kind target time : Nat) (s : State) : State :=
  let q := (s.link h).evSeq
  let s1 := sendStream h (eventBlock true kind target q time) (sendStream h (eventBlock false kind target q time) s)
  modLink h (fun v => { v with evSeq := (q + 1) % 4096 }) s1
/-- A CREDIT block with the cumulative grant of a VC (R71). -/
def sendCredit (h vc : Nat) (s : State) : State :=
  sendStream h (b8 0x78 ++ b8 vc ++ b16 0 ++ b32 ((s.link h).rxGrant.getD vc 0)) s
/-- An LMSG block (R83). -/
def sendLmsg (h code seq : Nat) (s : State) : State := sendBlock h (b8 0x99 ++ b8 code ++ b8 seq ++ zeros 5) s
/-- An ALIGN block on lane `l` (Table 3-2, R84, R87). -/
def sendAlign (l width idx kind mask bfc : Nat) (s : State) : State :=
  sendBlock l (b8 0x87 ++ b8 (4 * (if width = 4 then 2 else 1) + idx) ++ b8 kind ++ b8 mask ++ b32 bfc) s

/-- Credits a packet costs (R70). -/
def creditCost (payload : Nat) : Nat := ceilDiv (16 + payload) 64
/-- Types of Table 3-3. -/
def ptLine : Nat := 1
def ptCell : Nat := 2
def ptHmsg : Nat := 3
def ptCctl : Nat := 4
def ptFmark : Nat := 5
def ptTest : Nat := 6
/-- Whether packets of a type are under credit (R70). -/
def credited (ptype : Nat) : Bool := ptype == ptCell || ptype == ptHmsg || ptype == ptCctl
/-- A packet joins the packets waiting at the transmitter of link `h` (R73). -/
def queuePacket (h : Nat) (p : TxPacket) (s : State) : State := modLink h (fun v => { v with txq := v.txq ++ [p] }) s
/-- A packet leaves on the link of lowest lane `h`: header, payload and CRC (R65). -/
def sendPacket (h : Nat) (b : List Byte) (s : State) : State := emit (.packet h (b ++ b32 (crc32c b))) s
/-- The first four bytes of a packet header (R67). -/
def pktHead (ptype vc flags len : Nat) : List Byte := b8 (16 * ptype + vc) ++ b8 flags ++ b16 len

end Sys2Proof.Machine
end

