-- ==== Sys2Proof/Machine/HiveOps.lean ====
section
/-! DEFINITION. Sending and routing hive messages (17_hive_hierarchy.md, R441 to R444), and the reporting of faults
(21_single_fault_guarantee.md, R514, R515), which tells the manager. -/
namespace Sys2Proof.Machine

/-- Change the hive engine. -/
def modHive (g : Hive → Hive) (s : State) : State := { s with hive := g s.hive }

/-- Lowest lanes of the hive links in DATA. -/
def State.hiveLinks (s : State) : List Nat :=
  (s.lanes.filter fun e => e.2.cfg.mode == .hive && e.2.cfg.bondIdx == 0 && s.linkUp e.1).map (·.1)
/-- A hive link's record. -/
def State.hiveLink (s : State) (h : Nat) : HiveLink := s.hive.links.getD h {}
/-- Whether a hive link is admitted (R433, R437). -/
def State.admitted (s : State) (h : Nat) : Bool := (s.hiveLink h).admitted && !(s.hiveLink h).foreign
/-- Whether the device is a member of a hive: it has a device ID and a hive time that is not its own alone. -/
def State.inHive (s : State) : Bool :=
  match s.hive.state with
  | .member | .standby | .manager => true
  | _ => false
/-- Whether the device is a member other than the manager. -/
def State.isMember (s : State) : Bool :=
  match s.hive.state with
  | .member | .standby => true
  | _ => false
/-- The uplink in force, if it carries traffic (R434, R443). -/
def State.uplinkInForce (s : State) : Option Nat :=
  match (if s.hive.switched then s.hive.uplink2 else s.hive.uplink) with
  | some h => if s.linkUp h && s.admitted h then some h else none
  | none => none

/-- VC of a message type (Table 17-5). -/
def hmsgVc (htype hsub : Nat) : Nat :=
  if htype = 2 ∨ htype = 3 ∨ htype = 6 ∨ (htype = 5 ∧ hsub ≤ 2) then 2 else 3
/-- The 16 B header and the body of a hive message (Table 17-4). -/
def hmsgBytes (m : HMsg) : List Byte :=
  b8 m.htype ++ b8 m.hsub ++ b8 m.flags ++ b8 m.hops ++ b16 m.dest ++ b16 m.src ++ b32 m.seq ++ b16 m.body.length
    ++ b16 0 ++ m.body
/-- A hive message leaves on hive link `h`. -/
def hsendOn (h : Nat) (m : HMsg) (s : State) : State :=
  let vc := hmsgVc m.htype m.hsub
  let pl := hmsgBytes m
  queuePacket h { ptype := ptHmsg, vc := vc, bytes := pktHead ptHmsg vc 0 pl.length ++ zeros 12 ++ pl } s

/-- HFLAGS bits. -/
def hfBroadcast : Nat := 1
def hfUp : Nat := 2
def hfSecure : Nat := 4

/-- The downlink toward a member, by the path in force (R443). -/
def State.routeTo (s : State) (dest : Nat) : Option Nat :=
  match s.hive.routes.find? fun r => r.dest == dest with
  | some r =>
    match r.tag, r.alt with
    | some t, some a => if s.hive.flipped.contains t then some a else some r.link
    | _, _ => some r.link
  | none => none
/-- Every downlink in force. -/
def State.downlinks (s : State) : List Nat := (s.hive.routes.filterMap fun r => s.routeTo r.dest).eraseDups
/-- A dropped hive message (R443). -/
def hmsgDrop (s : State) : State := honey (hoHive 0) s

/-- Forward a message that has its header complete; whether it had a route (R443). A BROADCAST goes up to the manager, which
sends it down every downlink; on the way down no device sends it back on `from?`. -/
def hroute (m : HMsg) (from? : Option Nat) (s : State) : Bool × State :=
  let mgr := s.hive.state == .manager
  if bit m.flags 0 then
    let downs := s.downlinks.filter fun h => some h != from?
    if mgr then (true, s.downlinks.foldl (fun s h => hsendOn h m s) s)
    else
      match s.uplinkInForce with
      | some u =>
        if from? = some u then (true, downs.foldl (fun s h => hsendOn h m s) s)
        else (true, hsendOn u m s)
      | none => (false, s)
  else if bit m.flags 1 then
    if mgr then (true, s)
    else match s.uplinkInForce with
      | some u => (true, hsendOn u m s)
      | none => (false, s)
  else if m.dest = s.deviceId then (true, s)
  else match s.routeTo m.dest with
    | some h => (true, hsendOn h m s)
    | none =>
      if mgr then (false, hmsgDrop s)
      else match s.uplinkInForce with
        | some u => (true, hsendOn u m s)
        | none => (false, s)

/-- Originate a message: SRC and SEQ are the device's (Table 17-4); whether it had a route. -/
def hsend (htype hsub flags dest : Nat) (body : List Byte) (s : State) : Bool × State :=
  let m : HMsg := { htype := htype, hsub := hsub, flags := flags, hops := 0, dest := dest, src := s.deviceId,
                    seq := s.hive.seq, body := body }
  hroute m none (modHive (fun h => { h with seq := (h.seq + 1) % 2 ^ 32 }) s)
/-- A message to the manager; nothing where the device is the manager or has no way to it. -/
def toManager (htype hsub : Nat) (body : List Byte) (s : State) : State :=
  if s.isMember then (hsend htype hsub hfUp 0 body s).2 else s

/-- Hops of the route in force to a device (R406, R444): from the member list on the manager, from the route table in
the own subtree, else as the hive reports them. -/
def State.hops (s : State) (dest : Nat) : Nat :=
  if s.hive.state = .manager then (match s.hive.members.find? fun m => m.id == dest with
    | some m => m.depth
    | none => 0)
  else match s.hive.routes.find? fun r => r.dest == dest with
    | some r => r.hops
    | none => min 8 (Config.routeHops s.deviceId dest s.freeCtr)
/-- Hops of the longest route to any device (R406). -/
def State.hopsAll (s : State) : Nat :=
  if s.hive.state = .manager then (s.hive.members.map (·.depth)).foldl max 0
  else min 8 (Config.routeHops s.deviceId 65536 s.freeCtr)
/-- A REMOTE_REQ with a request header and payload (R363, Table 17-5); whether it had a route. -/
def sendRemote (device fn op flags tag : Nat) (payload : List Byte) (s : State) : Bool × State :=
  hsend 5 4 0 device (b8 fn ++ b16 op ++ b16 flags ++ b32 tag ++ b32 payload.length ++ b32 0 ++ payload) s

/-! ### Faults (R514, R515) -/

/-- Fault classes: their bits in HB_FAULT_SUMMARY (Table 10-8). -/
def clsLane : Nat := 0
def clsBonded : Nat := 1
def clsHive : Nat := 2
def clsHost : Nat := 3
def clsComb : Nat := 4
def clsAsm : Nat := 5
def clsMemory : Nat := 6
def clsClock : Nat := 7
def clsSupply : Nat := 8
def clsKeeper : Nat := 9
def clsManager : Nat := 10
def clsValve : Nat := 11
def clsFlash : Nat := 12

/-- The unit of fault events (R516): a flash fault keeps its region, and has unit 0. -/
def faultWord (cls unit : Nat) : Nat := if cls = clsFlash then 0 else unit
/-- FAULT SUMMARY to the manager: the bits gained and the bits now (Table 17-5). -/
def sendFaultSummary (gained : Nat) (s : State) : State := toManager 6 0 (b16 gained ++ b16 s.faultBits) s

/-- A fault is detected (R514): the class bit and FAULT on every function, ALERT_N, FAULT SUMMARY; the keeper's
report waits for FAULT_RAISED. A second fault of a class whose bit is 1 changes no bit but is reported (R515). -/
def detectFault (cls unit : Nat) (s : State) : State :=
  let gained := !bit s.faultBits cls
  let bits' := setBit s.faultBits cls
  let f : Fault' := { cls := cls, unit := unit }
  let s1 := { s with
    faults := (s.faults.filter fun x => !(x.cls == cls && x.unit == unit)) ++ [f]
    faultBits := bits'
    faultReports := s.faultReports ++ [{ cls := cls, unit := unit, summary := bits', time := s.now }] }
  if gained then
    let s2 := setIntxAll intxFault s1
    let s3 := if s.faultBits = 0 then emit (.alertN true) s2 else s2
    sendFaultSummary (2 ^ cls) s3
  else s1

/-- A fault's unit is within its limits again, or leaves them again. -/
def faultOk (cls unit : Nat) (since : Option Nat) (s : State) : State :=
  { s with faults := s.faults.map fun x => if x.cls == cls && x.unit == unit then { x with okSince := since } else x }

/-- A write and read-back of flash region `r` has succeeded (Table 21-2). -/
def flashOk (r : Nat) (s : State) : State := faultOk clsFlash r (some s.now) s
/-- The recipients of fault events: the trusted function, and the owner of the unit where one exists (R516). -/
def faultTo (cls unit : Nat) (s : State) : List Nat :=
  if cls ≤ 2 then s.toOwner .lane unit
  else if cls = 4 then s.toOwner .comb unit
  else if cls = 11 then s.toOwner .valvePort unit
  else if cls = 3 then [s.sys.trusted, unit]
  else [s.sys.trusted]

/-- One fault is resolved (R515): with the last of its class the bit clears, FAULT_CLEARED is reported and FAULT
SUMMARY sent; ALERT_N rises with the last bit. -/
def resolveFault (cls unit : Nat) (s : State) : State :=
  let s1 := { s with faults := s.faults.filter fun x => !(x.cls == cls && x.unit == unit) }
  if bit s.faultBits cls && !(s1.faults.any fun x => x.cls == cls) then
    let s2 := { s1 with faultBits := clearBit s.faultBits cls }
    let s3 := if s2.faultBits = 0 then emit (.alertN false) s2 else s2
    raise 0x0C21 sevI cls (faultWord cls unit) s3.faultBits (faultTo cls unit s3) (sendFaultSummary 0 s3)
  else s1

end Sys2Proof.Machine
end

