-- ==== Sys2Proof/Machine/Directory.lean ====
section
/-! DEFINITION. The Resource Directory of each function (10_host_port.md, R279, R280) and the ranges of queue IDs
(11_queues_and_records.md, R299, R300). -/
namespace Sys2Proof.Machine

/-- First device queue ID of function `f`'s range (R300). -/
def State.qBase (s : State) (f : Nat) : Nat := 1024 * (s.sys.qPart.take f).foldl (· + ·) 0
/-- Queues in function `f`'s range. -/
def State.qCount (s : State) (f : Nat) : Nat := 1024 * s.sys.qPart.getD f 0
/-- The map of units of a kind that function `f` owns. -/
def State.ownMap (s : State) (f : Nat) (k : Kind) (n : Nat) : Nat := mapOf n fun i => s.ownerOf k i == f
/-- RD_FUNCTION and LU_PORT_INFO: port, MERGED, TRUSTED, COMPAT. -/
def State.fnWord (s : State) (f : Nat) : Nat :=
  f + 4 * b2n (s.merged f) + 8 * b2n (f == s.sys.trusted) + 16 * b2n s.sys.straps.compat
/-- RD_FEATURES: ATS, DOE, hive present, manager, valve ports fitted; the last three 0 in compatibility (Table 23-1). -/
def State.rdFeatures (s : State) : Nat :=
  3 + (if s.sys.straps.compat then 0 else 4 * b2n s.inHive + 8 * b2n (s.hive.state == .manager) + 16)
/-- The Resource Directory of function `f` but for RD_GEN (Table 10-9). -/
def rdBody (f : Nat) (s : State) : List Byte :=
  let compat := s.sys.straps.compat
  let ctxs := mapOf 256 fun c => match s.ctxs.find c with | some x => x.owner == f | none => false
  let head := b32 0x4452554C ++ b32 0x00010000 ++ b32 0x200 ++ b32 0
  let b := head ++ b32 (s.fnWord f) ++ b32 s.sys.fwVersion ++ b32 s.rdFeatures ++ b32 (s.deviceId % 65536)
    ++ b32 0x100000 ++ b32 0x400000 ++ b32 (if compat then 0 else 0x4000000) ++ b32 0
    ++ b32 (s.qBase f) ++ b32 (s.qCount f) ++ b32 (if compat then 0 else 4096) ++ b32 0
    ++ leBytes 16 (s.ownMap f .lane 96) ++ leBytes 32 ctxs ++ b32 (s.ownMap f .comb 24)
    ++ b32 (s.ownMap f .stitch 32) ++ b32 (s.ownMap f .pairing 32)
    ++ b32 (s.ownMap f .valvePort 8 + 256 * s.ownMap f .encoder 8) ++ b64 (s.ownMap f .gpio 64)
    ++ leBytes 32 (s.ownMap f .channel 256)
  b ++ zeros (0x200 - b.length)
/-- The keeper rewrites function `f`'s directory: RD_GEN rises before and after (R279). -/
def rdRewrite (f : Nat) (s : State) : State :=
  if s.present f then modHp f (fun h => { h with rd := rdBody f s, rdGen := (h.rdGen + 2) % 2 ^ 32 }) s else s
/-- The directories whose contents have changed are rewritten. -/
def rdRefresh (s : State) : State :=
  if !s.sys.ready then s
  else s.functions.foldl (fun s f => if (s.hp f).rd = rdBody f s then s else rdRewrite f s) s

end Sys2Proof.Machine
end

