-- ==== Sys2Proof/Machine/Mailbox.lean ====
section
/-! DEFINITION. The mailbox protocol (12_commands_setup.md): requests, the order of checks (R334), answers (R327),
CHECK_ONLY (R328), and the service of one command at a time in the order of acceptance (R333). -/
namespace Sys2Proof.Machine

/-- A request as the keeper takes it: the caller (a function, or 4 the hive, R363), its mailbox, RFLAGS, TAG and the
LENGTH bytes of payload. -/
structure Req where
  fn : Nat
  mbx : Nat
  flags : Nat
  tag : Nat
  body : List Byte
deriving DecidableEq, Repr

/-- RFLAGS.CLEAR. -/
def Req.clear (r : Req) : Bool := bit r.flags 0
/-- RFLAGS.CHECK_ONLY. -/
def Req.checkOnly (r : Req) : Bool := bit r.flags 1
/-- u32 word at payload offset `o`. -/
def Req.u32 (r : Req) (o : Nat) : Nat := u32At r.body o

/-- A failing status: code, DETAIL, FIELD and any payload that comes with it. -/
structure Fail where
  code : Nat
  detail : Nat := 0
  field : Nat := 0
  payload : List Byte := []
deriving DecidableEq, Repr

/-- Status codes of Table 12-6. -/
def stOk : Nat := 0x00
def stInProgress : Nat := 0x01
def stBadOpcode : Nat := 0x10
def stBadLength : Nat := 0x11
def stBadField : Nat := 0x12
def stNoResource : Nat := 0x13
def stBusy : Nat := 0x14
def stDenied : Nat := 0x15
def stState : Nat := 0x16
def stNotInMode : Nat := 0x17
def stTimeout : Nat := 0x20
def stHiveUnreachable : Nat := 0x21
def stAuthFail : Nat := 0x30
def stRollback : Nat := 0x31
def stHwFault : Nat := 0x40

/-- BAD_FIELD for the payload field at offset `o` of its layout (R334: FIELD reads 0x10 + o). -/
def badField (o : Nat) : Fail := { code := stBadField, field := 0x10 + o }
/-- No entry of a list, `w` bytes each from offset `o`, repeats an earlier one: a repeat is the offending field. -/
def laterDups {α : Type} [BEq α] (l : List α) (o w : Nat) : List (Bool × Fail) :=
  (List.range l.length).zip l |>.map fun e => (!(l.take e.1).contains e.2, badField (o + w * e.1))
/-- NO_RESOURCE with the DETAIL of Table 12-7. -/
def noResource (d : Nat) : Fail := { code := stNoResource, detail := d }
/-- A status without DETAIL or FIELD. -/
def failSt (c : Nat) : Fail := { code := c }

/-- What a command's checks and commit come to. -/
inductive Answer where
  /-- committed: the state after, and the response payload -/
  | ok (s : State) (payload : List Byte)
  /-- a long operation committed its start (R354) -/
  | started (s : State) (payload : List Byte)
  /-- a check failed: nothing changed (R329) -/
  | fail (f : Fail)
  /-- a check failed, with the effect its rule gives even so -/
  | failWith (s : State) (f : Fail)
  /-- begun: the answer comes when the far end, the host or a hive device answers; `always`: with CHECK_ONLY too -/
  | wait (s : State) (always : Bool)

/-- A mailbox command: its opcode, whether LENGTH fits, whether it only reads (CHECK_ONLY ignored, R328), checks 4
and 5 of R334, and what follows check 6. -/
structure Cmd where
  op : Nat
  len : List Byte → Bool
  reads : Bool
  named : Req → State → Option Fail
  run : Req → State → Answer

/-- The opcodes of the part (12, 13, 23). -/
def knownOps : List Nat :=
  [0x0001, 0x0002, 0x0003, 0x0004, 0x0101, 0x0102, 0x0103, 0x0104,
   0x0201, 0x0202, 0x0203, 0x0204, 0x0205, 0x0206, 0x0207, 0x0208, 0x0210, 0x0211, 0x0212,
   0x0301, 0x0302, 0x0303, 0x0304, 0x0305, 0x0306, 0x0307,
   0x0401, 0x0402, 0x0403, 0x0404, 0x0405, 0x0406, 0x0410,
   0x0501, 0x0502, 0x0503, 0x0504, 0x0505, 0x0510, 0x0511, 0x0512, 0x0513, 0x0514,
   0x0601, 0x0602, 0x0603, 0x0604, 0x0605, 0x0606, 0x0607, 0x0608,
   0x0701, 0x0702, 0x0703, 0x0704, 0x0710, 0x0711, 0x0712,
   0x0801, 0x0802, 0x0803, 0x0804, 0x0805,
   0x0901, 0x0902, 0x0903, 0x0910, 0x0920, 0x0921, 0x0922,
   0x0A01, 0x0A02, 0x0A03, 0x0A04, 0x0A05,
   0x0B01, 0x0B02, 0x0B03, 0x0B04, 0x0B05, 0x0B06, 0x0B07, 0x0B08, 0x0B09, 0x0B0A,
   0x0C01, 0x0C02, 0x0C03, 0x0C04, 0x0C05, 0x0C06, 0x0D01, 0x0D02, 0x0D03, 0x0D04, 0x0E00,
   0x0F01, 0x0F02, 0x0F03]
/-- The F4800 opcodes (Table 23-2) but 0x0E00. -/
def compatOps : List Nat :=
  [0x0E01, 0x0E02, 0x0E10, 0x0E11, 0x0E12, 0x0E13, 0x0E14, 0x0E15, 0x0E16, 0x0E17, 0x0E20, 0x0E21, 0x0E22, 0x0E30,
   0x0E40, 0x0E41, 0x0E42, 0x0E43, 0x0E44, 0x0E45, 0x0E46, 0x0E47, 0x0E50, 0x0E51, 0x0E52, 0x0E53,
   0x0E58, 0x0E59, 0x0E5A, 0x0E60]
/-- Opcodes the loader serves (R459). -/
def loaderOps : List Nat := [0x0001, 0x0B01, 0x0B02, 0x0B03]

/-- Check 6 as far as the opcode decides it: the loader (R459), F4800 compatibility (R536) and native operation. -/
def State.opInMode (s : State) (op : Nat) : Bool :=
  if s.sys.stage == .loader then loaderOps.contains op
  else if s.sys.straps.compat then [0x00, 0x0B, 0x0C, 0x0D, 0x0E, 0x0F].contains (op / 256)
  else op / 256 != 0x0E || op == 0x0E00
/-- Check 1 (R334, R459, R536): whether some command has this opcode now; and the status where none has. -/
def State.opKnown (_ : State) (op : Nat) : Bool :=
  knownOps.contains op || (compatOps.contains op)
/-- The status of an opcode that names no command. -/
def State.unknownStatus (s : State) (op : Nat) : Nat := if s.opInMode op then stBadOpcode else stNotInMode

/-- The mailbox's request header and payload (Table 12-4). -/
def Mailbox.opcode (m : Mailbox) : Nat := u16At m.req 0
def Mailbox.rflags (m : Mailbox) : Nat := u16At m.req 2
def Mailbox.tag (m : Mailbox) : Nat := u32At m.req 4
def Mailbox.length (m : Mailbox) : Nat := u32At m.req 8
/-- The request of a mailbox as function `f` issued it. -/
def Mailbox.request (m : Mailbox) (f mbx : Nat) : Req :=
  { fn := f, mbx := mbx, flags := m.rflags, tag := m.tag, body := sliceAt m.req 16 m.length }

/-- A response header and payload (Table 12-5). -/
def respBytes (status gen detail tag field : Nat) (payload : List Byte) : List Byte :=
  b8 status ++ b8 gen ++ b16 detail ++ b32 tag ++ b32 payload.length ++ b32 field ++ payload

/-- The device answers mailbox `m` of function `f` (R327): the response, DONE, then the MBX_DONE bit. A response whose
generation has passed is discarded unwritten (R330). -/
def respondMbx (f m : Nat) (status detail field : Nat) (payload : List Byte) (s : State) : State :=
  let b := s.mbx f m
  let s1 := keeperWork { s with goOrder := s.goOrder.filter (· != 8 * f + m) }
  if b.state = .busy ∧ b.gen = b.genGo then
    let r := respBytes status b.genGo detail b.tag field payload
    setIntx f m (modMbx f m (fun b => { b with resp := overlay b.resp r, state := .done }) s1)
  else s1
/-- The answer to a command of the hive (R363): REMOTE_RESP with at most 2,016 B of payload. The generation byte, which has
no mailbox here, says whether the answer is cut. Where the device asked itself the answer is the outer mailbox's. -/
def remoteAnswer (c : RemoteCall) (status detail field : Nat) (payload : List Byte) (s : State) : State :=
  let cut := b2n (c.cut || decide (2016 < payload.length))
  let inner := fun g => respBytes status g detail c.tag field (payload.take 2016)
  match c.outer with
  | some (f, m) => respondMbx f m stOk cut 0 (inner 0) s
  | none => (hsend 5 5 0 c.src (b8 c.fn ++ inner cut) (keeperWork s)).2
/-- The answer to a caller: a mailbox's, or the hive's command that has begun (`f` is then the hive). -/
def respond (f m : Nat) (status detail field : Nat) (payload : List Byte) (s : State) : State :=
  if f = ownHive then
    match s.hive.remote with
    | some c => remoteAnswer c status detail field payload (modHive (fun h => { h with remote := none }) s)
    | none => s
  else respondMbx f m status detail field payload s
/-- Answer with a failing status. -/
def respondFail (f m : Nat) (e : Fail) (s : State) : State := respond f m e.code e.detail e.field e.payload s

/-- The keeper answers every waiting request at the front whose opcode names no command (R334 check 1). -/
def drainUnknown : Nat → State → State
  | 0, s => s
  | n + 1, s =>
    match s.goOrder with
    | [] => s
    | k :: _ =>
      let b := s.mbx (k / 8) (k % 8)
      if s.sys.ready && s.waiting.isNone && !s.opKnown b.opcode then
        drainUnknown n (respond (k / 8) (k % 8) (s.unknownStatus b.opcode) 0 0 [] s)
      else s
/-- The keeper goes on to the next request. -/
def nextRequest (s : State) : State := drainUnknown s.goOrder.length s

/-- Checks 2 to 6 of R334: LENGTH, reserved RFLAGS, existence, ownership, mode. -/
def Cmd.precheck (c : Cmd) (r : Req) (s : State) : Option Fail :=
  if !c.len r.body ∨ 1968 < r.body.length then some (failSt stBadLength)
  else if r.flags / 4 % 2 ^ 14 ≠ 0 then some { code := stBadField, field := 0x02 }
  else match c.named r s with
    | some e => some e
    | none => if s.opInMode c.op then none else some (failSt stNotInMode)

/-- Every check and the commit of a command; with CHECK_ONLY the answer without the effect (R328). -/
def Cmd.answer (c : Cmd) (r : Req) (s : State) : Answer :=
  match c.precheck r s with
  | some e => .fail e
  | none =>
    match c.run r s, r.checkOnly && !c.reads with
    | a, false => a
    | .ok _ p, true => .ok s p
    | .started _ p, true => .ok s p
    | .fail e, true => .fail e
    | .failWith _ e, true => .fail e
    | .wait s' true, true => .wait s' true
    | .wait _ false, true => .ok s []

/-- Whether the keeper takes up mailbox `m` of function `f` now: READY, nothing begun, the oldest accepted request. -/
def State.serves (s : State) (f m : Nat) : Bool :=
  s.sys.ready && s.waiting.isNone && s.goOrder.head? == some (8 * f + m) && (s.mbx f m).state == .busy

/-- The keeper's answer goes into the mailbox; the directories follow a change of ownership or queue range (R279). -/
def conclude (f m : Nat) (s : State) : Answer → State
  | .ok s' p => nextRequest (respond f m stOk 0 0 p (rdRefresh s'))
  | .started s' p => nextRequest (respond f m stInProgress 0 0 p (rdRefresh s'))
  | .fail e => nextRequest (respondFail f m e s)
  | .failWith s' e => nextRequest (respondFail f m e s')
  | .wait s' _ => s'

/-- The keeper executes the command of mailbox `m` of function `f` where it is `c` (R333); a request too long for the
area fails with BAD_LENGTH. A row whose request is not there, or not the next, changes nothing. -/
def serve (c : Cmd) (f m : Nat) (s : State) : State :=
  if s.serves f m && (s.mbx f m).opcode == c.op then
    let b := s.mbx f m
    if 1968 < b.length then nextRequest (respondFail f m (failSt stBadLength) s)
    else conclude f m s (c.answer (b.request f m) s)
  else s

/-- The begun command's answer has come: conclude it. -/
def finishWait (w : Waiting) (a : Answer) (s : State) : State := conclude w.fn w.mbx { s with waiting := none } a

/-! ### Checks that commands share -/

/-- Whether a caller passes as the trusted function (R10, R363). -/
def State.isTrusted (s : State) (fn : Nat) : Bool := fn == s.sys.trusted || (fn == ownHive && s.sys.hiveTrusted)
/-- Whether a caller owns a unit (R9, R363). -/
def State.owns (s : State) (fn : Nat) (k : Kind) (i : Nat) : Bool := s.ownerOf k i == fn
/-- The first failing check of a list of (holds, failure). -/
def firstFail : List (Bool × Fail) → Option Fail
  | [] => none
  | (b, e) :: r => if b then firstFail r else some e
/-- Go on with `a` where no check of the list fails. -/
def checked (l : List (Bool × Fail)) (a : Unit → Answer) : Answer :=
  match firstFail l with
  | some e => .fail e
  | none => a ()
/-- DENIED unless the caller is trusted. -/
def needTrusted (r : Req) (s : State) : Bool × Fail := (s.isTrusted r.fn, failSt stDenied)
/-- LENGTH exactly `n`. -/
def lenIs (n : Nat) (b : List Byte) : Bool := b.length == n
/-- Whether an operation of R355 holds a resource. -/
def State.holds (s : State) (h : Holding) : Bool := s.sys.holding.contains h
/-- An operation begins to hold, and ceases. -/
def hold (h : Holding) (s : State) : State := modSys (fun y => { y with holding := y.holding ++ [h] }) s
def release (h : Holding) (s : State) : State := modSys (fun y => { y with holding := y.holding.filter (· != h) }) s

end Sys2Proof.Machine
end

