-- ==== Sys2Proof/Machine/IoOps.lean ====
section
/-! DEFINITION. Encoders, emulation outputs and GPIO (16_encoders_and_io.md): what edges, reads and writes do. -/
namespace Sys2Proof.Machine

/-- Encoder `e`. -/
def State.enc (s : State) (e : Nat) : Enc := s.encs.getD e {}
/-- Change encoder `e`. -/
def modEnc (e : Nat) (g : Enc → Enc) (s : State) : State := { s with encs := s.encs.put e (g (s.enc e)) }
/-- Emulation output `o`. -/
def State.emu (s : State) (o : Nat) : Emu := s.emus.getD o {}
/-- Change emulation output `o`. -/
def modEmu (o : Nat) (g : Emu → Emu) (s : State) : State := { s with emus := s.emus.put o (g (s.emu o)) }
/-- Pin `p`. -/
def State.pin (s : State) (p : Nat) : Pin := s.pins.getD p {}
/-- Change pin `p`. -/
def modPin (p : Nat) (g : Pin → Pin) (s : State) : State := { s with pins := s.pins.put p (g (s.pin p)) }

/-- Counters of an encoder and of a pin. -/
inductive EncCnt where
  | illegal | indexDev | ssiErr
inductive PinCnt where
  | cap | capLost
/-- Count one on encoder `e`. -/
def countEnc (e : Nat) (k : EncCnt) (s : State) : State := modEnc e (fun v => { v with counts := count v.counts k.ctorIdx }) s
/-- Count one on pin `p`. -/
def countPin (p : Nat) (k : PinCnt) (s : State) : State := modPin p (fun v => { v with counts := count v.counts k.ctorIdx }) s

/-- A count wraps modulo 2^48 and reads sign-extended (R412). -/
def wrap48 (i : Int) : Int := toSigned 48 (fromSigned 48 i)

/-! ### Speed (R417 to R419) -/

/-- Intervals used by the average: steps on while the span stays within 1 ms. -/
def speedSpan (e : List Nat) : Nat → Nat → Nat
  | 0, n => n
  | k + 1, n =>
    if n + 1 < e.length ∧ n < 255 ∧ e.getD 0 0 - e.getD (n + 1) 0 ≤ 1000000 then speedSpan e k (n + 1) else n
/-- s and its validity from the edges kept (R417). -/
def speedOf (e : List Nat) (down : Bool) (now : Nat) : Int × Bool :=
  if e.length < 2 then (0, false)
  else
    let n := speedSpan e 256 1
    let gap := now - e.getD 0 0
    let v := if e.getD 0 0 - e.getD 1 0 < gap then 256000000000 / gap else 256000000000 * n / (e.getD 0 0 - e.getD n 0)
    (if down then -(v : Int) else v, true)
/-- The estimator restarts with the edges `keep` (R419). -/
def Enc.restart (v : Enc) (keep : List Nat) : Enc := { v with edges := keep, speed := 0, valid := false }
/-- The estimate is recomputed; a valid speed ends a standstill (R417, R418). -/
def Enc.estimate (v : Enc) (now : Nat) : Enc :=
  let s := speedOf v.edges v.down now
  { v with speed := s.1, valid := s.2, still := v.still && !s.2 }
/-- A counted edge enters the estimator: a reversal restarts it (R419). -/
def Enc.edge (v : Enc) (down : Bool) (t : Nat) : Enc :=
  if down = v.down then ({ v with edges := (t :: v.edges).take 257, lastEdge := t } : Enc).estimate t
  else ({ v with down := down, lastEdge := t } : Enc).restart [t]
/-- The place of (A, B) in Table 16-1. -/
def quadPlace (a b : Bool) : Nat :=
  match a, b with
  | false, false => 0
  | true, false => 1
  | true, true => 2
  | false, true => 3
/-- (A, B) at place `i`. -/
def quadLevels (i : Nat) : Bool × Bool := (i == 1 || i == 2, i == 2 || i == 3)

/-- Events of an encoder or of an emulation output reach its owner (R429). -/
def State.encTo (s : State) (e : Nat) : List Nat := [s.ownerOf .encoder e]

/-- A paced event at the encoder's owner (R581). -/
def pacedEnc (k : Pace) (e code p1 p2 : Nat) (s : State) : State :=
  let p := paced k e 1000000 s
  if p.1 then raise code sevW e p1 p2 (s.encTo e) p.2 else p.2

/-- ENCODER_EDGE (R412, R413, R419). -/
def execEncoderEdge (e : EncId) (a b : Bool) (t : Nat) (s : State) : Host.Outcome State Fault Refusal :=
  let s := advTo t s
  let v := s.enc e
  .next (if v.ssi ∨ (v.a = a ∧ v.b = b) then s
  else if v.a ≠ a ∧ v.b ≠ b then
    pacedEnc .encIllegal e 0x0901 0 (fromSigned 64 v.count)
      (countEnc e .illegal (modEnc e (fun v => ({ v with a := a, b := b, illegal := true } : Enc).restart []) s))
  else
    let up := (quadPlace a b == (quadPlace v.a v.b + 1) % 4) != v.invert
    let d : Int := if up then 1 else -1
    modEnc e (fun v => ({ v with a := a, b := b, count := wrap48 (v.count + d), pos := v.pos + d } : Enc).edge (!up) t) s)

/-- The honey bin of an index deviation (Table 22-5). -/
def devBin (d : Nat) : Nat := min 15 (Nat.log2 d)
/-- The deviation of R416. -/
def indexDev (c ref : Int) (p : Nat) : Int :=
  let m := (c - ref) % (p : Int)
  if (p : Int) ≤ 2 * m then m - p else m

/-- ENCODER_INDEX (R415, R416). -/
def execEncoderIndex (e : EncId) (t : Nat) (s : State) : Host.Outcome State Fault Refusal :=
  let s := advTo t s
  let v := s.enc e
  .next (if v.ssi then s
  else
    let zero := fun (s : State) => if v.rezero then modEnc e (fun v => { v with count := 0, cRef := some 0 }) s else s
    match v.cRef with
    | none => zero (modEnc e (fun v => { v with cRef := some v.count }) s)
    | some r =>
      let d := if v.indexPeriod = 0 then 0 else indexDev v.count r v.indexPeriod
      zero (if d = 0 then s
        else pacedEnc .indexDev e 0x0902 (fromSigned 32 d) (fromSigned 64 v.count)
          (honey (hoEnc e (devBin d.natAbs)) (countEnc e .indexDev s))))

/-- SPEED_UPDATE (R417). -/
def execSpeedUpdate (e : EncId) (t : Nat) (s : State) : Host.Outcome State Fault Refusal :=
  let s := advTo t s
  .next (if (s.enc e).ssi then s else modEnc e (fun v => v.estimate s.now) s)

/-- STANDSTILL (R418): STANDSTILL µs after the last counted edge. -/
def execStandstill (e : EncId) (s : State) : Host.Outcome State Fault Refusal :=
  let v := s.enc e
  .next (if v.still then s
  else
    let s := advTo (v.lastEdge + 1000 * v.standstill) s
    modEnc e (fun v => ({ v with still := true } : Enc).restart []) s)

/-- ENCODER_HISTORY_SAMPLE (R420). -/
def execEncoderHistorySample (e : EncId) (t : Nat) (s : State) : Host.Outcome State Fault Refusal :=
  let s := advTo t s
  .next (modEnc e (fun v => { v with
    hist := ({ t := s.now, count := v.count, speed := v.speed, valid := v.valid } :: v.hist).take 4096 }) s)

/-- Count, speed and validity of an encoder at hive time `t` (R420). -/
def State.encAt (s : State) (e t : Nat) : Int × Int × Bool :=
  let v := s.enc e
  let moved := fun (x : EncSample) =>
    x.count + Int.fdiv (2 * (x.speed * ((t : Int) - (x.t : Int))) + 256000000000) 512000000000
  if s.now ≤ t then (v.count, v.speed, v.valid)
  else match v.hist.find? fun x => decide (x.t ≤ t) with
    | some x => (moved x, x.speed, x.valid)
    | none => match v.hist.getLast? with
      | some x => (moved x, x.speed, false)
      | none => (v.count, v.speed, false)

/-! ### SSI (R421, R422) -/

/-- The number of bits most significant first, decoded from Gray code where asked. -/
def ssiValue (gray : Bool) (l : List Bool) : Nat :=
  (l.foldl (fun (p : Nat × Bool) b =>
    let x := if gray then b != p.2 else b
    (2 * p.1 + b2n x, x)) (0, false)).1
/-- An SSI read fails (R421, R422). -/
def ssiError (e raw : Nat) (s : State) : State := pacedEnc .ssiErr e 0x0903 (raw % 2 ^ 32) 0 (countEnc e .ssiErr s)

/-- SSI_FRAME (R421, R422). -/
def execSsiFrame (e : EncId) (idle : Bool) (bits : List Bool) (t : Nat) (s : State) : Host.Outcome State Fault Refusal :=
  let s := advTo t s
  let v := s.enc e
  .next (if !v.ssi then s
  else if !idle then ssiError e 0 s
  else
    let s := emit (.ssiClock e (v.ssiBits + 1)) s
    let raw := ssiValue false (bits.take v.ssiBits)
    let x := ssiValue v.ssiGray (bits.take v.ssiBits)
    if bits.getD v.ssiBits true then ssiError e raw s
    else match v.ssiLast with
      | none => modEnc e (fun v => { v with ssiLast := some (x, t), count := wrap48 x }) s
      | some (old, at') =>
        let d := toSigned v.ssiBits (x + 2 ^ v.ssiBits - old)
        if 2 ^ (v.ssiBits - 2) < d.natAbs then ssiError e raw s
        else if d = 0 then modEnc e (fun v => { v with ssiLast := some (x, t) }) s
        else modEnc e (fun v =>
          let w := ({ v with ssiLast := some (x, t), count := wrap48 (v.count + d) } : Enc).edge (decide (d < 0)) t
          if w.valid then { w with speed := d * 256000000000 / ((t : Int) - (at' : Int)) } else w) s)

/-! ### Emulation outputs (R423 to R425) -/

/-- ENABLE of output `o` changes (R423). -/
def setEmu (o : Nat) (on : Bool) (s : State) : State :=
  let v := s.emu o
  if on = v.enable then s
  else modEmu o (fun v => { v with
    enable := on, o0 := v.o, phaseAt := s.now
    p0 := match v.source with | some e => (s.enc e).pos | none => v.p0 }) s
/-- The position an output follows: none where it is not to move. -/
def emuTarget (s : State) (v : Emu) : Option Int :=
  v.source.map fun e => v.o0 + Int.fdiv ((v.n : Int) * ((s.enc e).pos - v.p0)) v.m
/-- The direction of the step that output `v` owes now: 0 none. -/
def emuOwes (s : State) (v : Emu) : Int :=
  if !v.enable then 0
  else match emuTarget s v with
    | some x => if v.o < x then 1 else if x < v.o then -1 else 0
    | none => if v.phase + v.rate.natAbs * (s.now - v.phaseAt) < 1000000000 then 0 else if 0 < v.rate then 1 else -1
/-- The output moves one step (R423 to R425). -/
def emuMove (o : Nat) (d : Int) (s : State) : State :=
  let v := s.emu o
  let i := (v.o + d) % 4
  let ab := quadLevels i.toNat
  let z := decide (0 < v.zEvery) && (v.o + d) % (v.zEvery : Int) == 0
  let ph := if v.source.isSome then (v.phase, v.phaseAt)
    else (v.phase + v.rate.natAbs * (s.now - v.phaseAt) - 1000000000, s.now)
  emit (.emu o ab.1 ab.2 z) (modEmu o (fun v => { v with
    o := v.o + d, a := ab.1, b := ab.2, z := z, lastStep := some s.now, phase := ph.1, phaseAt := ph.2 }) s)

/-- EMULATION_STEP (R423 to R425): a step due less than 40 ns after the last one is delayed. -/
def execEmulationStep (o : EncId) (t : Nat) (s : State) : Host.Outcome State Fault Refusal :=
  let s := advTo t s
  let v := s.emu o
  let d := emuOwes s v
  .next (if d = 0 then s
  else
    let soon := match v.lastStep with | some l => decide (s.now < l + 40) | none => false
    let s1 := match v.lastStep with | some l => advTo (l + 40) s | none => s
    emuMove o d (if soon then pacedEnc .emuLag o 0x0904 0 0 s1 else s1))

/-! ### GPIO (R426 to R428) -/

/-- Whether a mode drives the pin (Table 16-2). -/
def PinMode.drives : PinMode → Bool
  | .output | .scheduled => true
  | _ => false
/-- The level that reads back at a pin (Table 16-2). -/
def Pin.reads (v : Pin) : Bool := if v.mode.drives then (if v.openDrain then v.out && v.level else v.out) else v.level
/-- A driven pin takes a level. -/
def setPin (p : Nat) (level : Bool) (s : State) : State := emit (.gpio p level) (modPin p (fun v => { v with out := level }) s)

/-- A capture (R427). -/
def capture (p : Nat) (s : State) : State :=
  let v := s.pin p
  let c := match v.capEnc with | some e => (s.enc e).count | none => 0
  let s1 := countPin p .cap (if v.unread then countPin p .capLost s else s)
  let report := match v.lastReport with | some l => decide (l + 10000 ≤ s.now) | none => true
  let s2 := modPin p (fun w => { w with
    capTime := s.now, capCount := c, unread := true, lastReport := if report then some s.now else w.lastReport }) s1
  if report then raise 0x0905 sevI p (v.capEnc.getD 0xFFFFFFFF) (fromSigned 64 c) [s.ownerOf .gpio p] s2 else s2

/-- GPIO_EDGE (R410, R426, R427). -/
def execGpioEdge (pin : Fin 64) (level : Bool) (t : Nat) (s : State) : Host.Outcome State Fault Refusal :=
  let s := advTo t s
  let v := s.pin pin
  .next (if v.level = level then s
  else
    let s1 := modPin pin (fun v => { v with level := level }) s
    if v.mode = .capture ∧ (v.edge = 2 ∨ (v.edge = 0 ∧ level) ∨ (v.edge = 1 ∧ !level)) then capture pin s1 else s1)

/-! ### Commands (Table 12-17, R353) -/

/-- An index of the request at `o` lies below `n` (R334 check 4). -/
def named (n o : Nat) (r : Req) : Bool × Fail := (decide (r.u32 o < n), badField o)
/-- A field of the request is in range (R334 check 10). -/
def field (ok : Bool) (o : Nat) : Bool × Fail := (ok, badField o)
/-- The caller owns a unit (R334 check 5). -/
def ownedBy (r : Req) (s : State) (k : Kind) (i : Nat) : Bool × Fail := (s.owns r.fn k i, failSt stDenied)
/-- NONE of a request word (R336). -/
def wordNone : Nat := 0xFFFFFFFF
/-- A word that names an index or NONE. -/
def optWord (v : Nat) : Option Nat := if v = wordNone then none else some v

/-- Whether a pairing group takes its speed from encoder `e` and has a member in one of the states `p`. -/
def State.encUsed (s : State) (e : Nat) (p : CtxState → Bool) : Bool :=
  s.pgs.any fun g => (g.2.set.speedSrc == 1 || g.2.set.fallback == 0) && g.2.set.enc == some e
    && ([some g.2.viewA, g.2.viewB].any fun v => match v with
      | some (.ctx c) => (match s.ctxs.find c with | some x => p x.state | none => false)
      | some (.stitch k) => (match s.stitches.find k with
        | some st => st.members.any fun c => match s.ctxs.find c with | some x => p x.state | none => false
        | none => false)
      | none => false)

/-- 0x0901 ENC_CONFIGURE. -/
def cmdEncConfigure : Cmd where
  op := 0x0901
  len := lenIs 44
  reads := false
  named := fun r s => firstFail [named 8 0 r, ownedBy r s .encoder (r.u32 0)]
  run := fun r s =>
    let e := r.u32 0
    let v := s.enc e
    let ssi := r.u32 4 == 1
    let inR := fun (o lo hi : Nat) => field (decide (lo ≤ r.u32 o ∧ r.u32 o ≤ hi)) o
    checked ([((r.u32 4 == 0 || r.u32 4 == 1) && ssi != v.ssi && s.encUsed e (· == .running) |> not, failSt stState),
      field (decide (r.u32 4 ≤ 1)) 4]
      ++ (if ssi then [inR 0x10 1000 1000000, inR 0x1C 8 48, inR 0x20 0 1, inR 0x24 100 10000, inR 0x28 1 10000,
            field (decide ((r.u32 0x1C + 1) * 1000 < r.u32 0x28 * r.u32 0x24)) 0x28]
          else [inR 8 5 20000, inR 0xC 0 1, inR 0x10 1000 1000000, inR 0x14 0 1])) fun _ =>
      let base := ({ v with ssi := ssi, standstill := r.u32 0x10, cRef := none, ssiLast := none } : Enc).restart []
      .ok (modEnc e (fun _ =>
        if ssi then { base with
          ssiBits := r.u32 0x1C, ssiGray := r.u32 0x20 == 1, ssiClk := r.u32 0x24, ssiPeriod := r.u32 0x28 }
        else { base with
          filter := r.u32 8, invert := r.u32 0xC == 1, rezero := r.u32 0x14 == 1, indexPeriod := r.u32 0x18 }) s) []
/-- ENC_CONFIGURE. -/
def execEncConfigure (f : Fn) (m : Mbx) (s : State) : Host.Outcome State Fault Refusal := .next (serve cmdEncConfigure f m s)

/-- 0x0902 ENC_SET_COUNT. -/
def cmdEncSetCount : Cmd where
  op := 0x0902
  len := lenIs 16
  reads := false
  named := fun r s => firstFail [named 8 0 r, ownedBy r s .encoder (r.u32 0)]
  run := fun r s =>
    let e := r.u32 0
    let c := s64At r.body 8
    checked [(!(s.enc e).ssi, failSt stNotInMode), field (r.u32 4 == 0) 4, field (wrap48 c == c) 8] fun _ =>
      .ok (modEnc e (fun v => { v with count := c, cRef := none }) s) []
/-- ENC_SET_COUNT. -/
def execEncSetCount (f : Fn) (m : Mbx) (s : State) : Host.Outcome State Fault Refusal := .next (serve cmdEncSetCount f m s)

/-- 0x0903 ENC_GET_STATUS. -/
def cmdEncGetStatus : Cmd where
  op := 0x0903
  len := lenIs 4
  reads := true
  named := fun r s => firstFail [named 8 0 r, ownedBy r s .encoder (r.u32 0)]
  run := fun r s =>
    let e := r.u32 0
    let v := s.enc e
    let p := bs64 v.count ++ bs64 v.speed ++ b32 (b2n v.valid + 2 * b2n v.down + 4 * b2n v.still + 8 * b2n v.illegal)
      ++ b32 0 ++ b64 v.lastEdge ++ cntBytes v.counts 0 3
    .ok (if r.clear then modEnc e (fun v => { v with counts := cntClear v.counts 0 3, illegal := false }) s else s) p
/-- ENC_GET_STATUS. -/
def execEncGetStatus (f : Fn) (m : Mbx) (s : State) : Host.Outcome State Fault Refusal := .next (serve cmdEncGetStatus f m s)

/-- 0x0910 EMU_CONFIGURE. -/
def cmdEmuConfigure : Cmd where
  op := 0x0910
  len := lenIs 28
  reads := false
  named := fun r s =>
    let src := r.u32 4
    firstFail [named 8 0 r, field (decide (src < 8 ∨ src = wordNone)) 4, ownedBy r s .encoder (r.u32 0),
      (src == wordNone || s.owns r.fn .encoder src, failSt stDenied)]
  run := fun r s =>
    let o := r.u32 0
    let src := optWord (r.u32 4)
    let rate := s32At r.body 0x10
    let follows := src.isSome
    let inR := fun (k : Nat) => field (!follows || decide (1 ≤ r.u32 k ∧ r.u32 k ≤ 65535)) k
    checked [(match src with | some e => !(s.enc e).ssi | none => true, failSt stNotInMode),
      inR 8, inR 0xC, field (!follows || decide (r.u32 8 ≤ r.u32 0xC)) 8,
      field (follows || decide (rate.natAbs ≤ 25000000)) 0x10, field (decide (r.u32 0x18 ≤ 1)) 0x18] fun _ =>
      let v := s.emu o
      let anew := src != v.source || (follows && (r.u32 8 != v.n || r.u32 0xC != v.m))
      let carried := if v.source.isNone && v.enable then v.phase + v.rate.natAbs * (s.now - v.phaseAt) else v.phase
      let w : Emu := { v with
        source := src, zEvery := r.u32 0x14, phase := carried, phaseAt := s.now
        n := if follows then r.u32 8 else v.n
        m := if follows then r.u32 0xC else v.m
        rate := if follows then v.rate else rate
        p0 := if anew then (match src with | some e => (s.enc e).pos | none => v.p0) else v.p0
        o0 := if anew then v.o else v.o0 }
      .ok (setEmu o (r.u32 0x18 == 1) (modEmu o (fun _ => w) s)) []
/-- EMU_CONFIGURE. -/
def execEmuConfigure (f : Fn) (m : Mbx) (s : State) : Host.Outcome State Fault Refusal := .next (serve cmdEmuConfigure f m s)

/-- Pin modes by code. -/
def pinMode : Nat → PinMode
  | 0 => .input | 1 => .capture | 2 => .output | _ => .scheduled
/-- 0x0920 GPIO_CONFIGURE. -/
def cmdGpioConfigure : Cmd where
  op := 0x0920
  len := lenIs 28
  reads := false
  named := fun r s =>
    let cap := r.u32 4 == 1 && r.u32 0x14 != wordNone
    firstFail [named 64 0 r, (!cap || decide (r.u32 0x14 < 8), badField 0x14), ownedBy r s .gpio (r.u32 0),
      (!cap || s.owns r.fn .encoder (r.u32 0x14), failSt stDenied)]
  run := fun r s =>
    let p := r.u32 0
    let md := pinMode (r.u32 4)
    let cap := r.u32 4 == 1
    checked [field (decide (r.u32 4 ≤ 3)) 4, field (!md.drives || decide (r.u32 8 ≤ 1)) 8,
      field (decide (r.u32 0xC ≤ 20000)) 0xC, field (!cap || decide (r.u32 0x10 ≤ 2)) 0x10,
      field (!md.drives || decide (r.u32 0x18 ≤ 1)) 0x18] fun _ =>
      let s1 := modPin p (fun v => { v with
        mode := md, filter := r.u32 0xC
        edge := if cap then r.u32 0x10 else v.edge
        capEnc := if cap then optWord (r.u32 0x14) else v.capEnc
        openDrain := if md.drives then r.u32 0x18 == 1 else v.openDrain }) s
      .ok (if md.drives then setPin p (r.u32 8 == 1) s1 else s1) []
/-- GPIO_CONFIGURE. -/
def execGpioConfigure (f : Fn) (m : Mbx) (s : State) : Host.Outcome State Fault Refusal := .next (serve cmdGpioConfigure f m s)

/-- 0x0921 GPIO_WRITE. -/
def cmdGpioWrite : Cmd where
  op := 0x0921
  len := lenIs 16
  reads := false
  named := fun r s => firstFail [((setBits 64 (u64At r.body 0)).all fun p => s.owns r.fn .gpio p, failSt stDenied)]
  run := fun r s =>
    let l := setBits 64 (u64At r.body 0)
    checked [(l.all fun p => (s.pin p).mode == .output, failSt stNotInMode)] fun _ =>
      .ok (l.foldl (fun s p => setPin p (bit (u64At r.body 8) p) s) s) []
/-- GPIO_WRITE. -/
def execGpioWrite (f : Fn) (m : Mbx) (s : State) : Host.Outcome State Fault Refusal := .next (serve cmdGpioWrite f m s)

/-- 0x0922 GPIO_GET_STATUS. -/
def cmdGpioGetStatus : Cmd where
  op := 0x0922
  len := lenIs 4
  reads := true
  named := fun r s =>
    let p := r.u32 0
    firstFail [field (decide (p < 64 ∨ p = wordNone)) 0, (p == wordNone || s.owns r.fn .gpio p, failSt stDenied)]
  run := fun r s =>
    let lv := b64 (mapOf 64 fun p => s.owns r.fn .gpio p && (s.pin p).reads)
    match optWord (r.u32 0) with
    | none => .ok s lv
    | some p =>
      let v := s.pin p
      .ok (modPin p (fun v => { v with unread := false, counts := if r.clear then cntClear v.counts 0 2 else v.counts }) s)
        (lv ++ b64 v.capTime ++ bs64 v.capCount ++ cntBytes v.counts 0 2)
/-- GPIO_GET_STATUS. -/
def execGpioGetStatus (f : Fn) (m : Mbx) (s : State) : Host.Outcome State Fault Refusal := .next (serve cmdGpioGetStatus f m s)

end Sys2Proof.Machine
end

