-- ==== Sys2Proof/Machine/Pixel.lean ====
section
/-! DEFINITION. The correction stages of a comb (06_pixel_corrections.md), each a function of its settings and its line
memory, from the events of one stage to those of the next. -/
namespace Sys2Proof.Machine

/-! ### Packing (R68, R155) -/

/-- The number whose bits are `n` bits of a bit stream from bit `o`, least significant bit first. -/
def streamBits (b : List Byte) (o n : Nat) : Nat :=
  bits (leAt (b.drop (o / 8)) 0 ((o % 8 + n + 7) / 8)) (o % 8) n
/-- Pixel codes of a byte stream: `n` codes of `w` bits (R68). -/
def unpackCodes (w : Nat) (n : Nat) (b : List Byte) : List Nat := (List.range n).map fun k => streamBits b (k * w) w
/-- One byte stream of `w`-bit values, least significant bit first, unused bits of the last byte 0 (R68, R202). -/
def packCodes (w : Nat) (v : List Nat) : List Byte :=
  let rec go (acc n : Nat) : List Nat → List Byte
    | [] => if n = 0 then [] else leBytes ((n + 7) / 8) acc
    | x :: r =>
      let a := acc + (x % 2 ^ w) * 2 ^ n
      let m := n + w
      leBytes (m / 8) a ++ go (a / 2 ^ (8 * (m / 8))) (m % 8) r
  go 0 0 v
/-- Bits of a FORMAT code (Table 5-3). -/
def formatBits (f : Nat) : Nat := 8 + 2 * f
/-- A code as an internal value (R155). -/
def internalDn (b c : Nat) : Nat := c * 2 ^ (16 - b)

/-! ### Noise model (R156, R157) -/

/-- ⌊√v⌋ for v < 2^36, bit by bit. -/
def isqrt (v : Nat) : Nat :=
  (List.range 18).foldl (fun r i => let b := 2 ^ (17 - i); if (r + b) * (r + b) ≤ v then r + b else r) 0
/-- √(n ÷ d) rounded to nearest. -/
def sqrtRatio (n d : Nat) : Nat :=
  let r := isqrt (n / d)
  if (4 * r * r + 4 * r + 1) * d ≤ 4 * n then r + 1 else r
/-- σ(v) of band `k`, u12.4 (R156). -/
def sigma (c : CorrSet) (k v : Nat) : Nat :=
  min 65535 (sqrtRatio (c.nmA.getD k 0 * (v - c.nmBlack.getD k 0) + 256 * c.nmB.getD k 0) 1)
/-- Enable bits of CORR_SET_ENABLE. -/
def CorrSet.defect (c : CorrSet) : Bool := bit c.enables 0
def CorrSet.temporal (c : CorrSet) : Bool := bit c.enables 1
def CorrSet.outlier (c : CorrSet) : Bool := bit c.enables 2
def CorrSet.spatial (c : CorrSet) : Bool := bit c.enables 3
def CorrSet.blackOn (c : CorrSet) : Bool := bit c.enables 4
def CorrSet.flatOn (c : CorrSet) : Bool := bit c.enables 5
def CorrSet.regH (c : CorrSet) : Bool := bit c.enables 6
/-- S_t in 1/256, for a line of `rows` rows (R157). -/
def noiseScale (c : CorrSet) (rows : Nat) : Nat :=
  match c.tMode with
  | 1 => if c.temporal then sqrtRatio (65536 * c.alpha) (32 - c.alpha) else 256
  | 2 => sqrtRatio 65536 (max rows 1)
  | _ => 256
/-- σ′, u12.4 (R157). -/
def sigma' (c : CorrSet) (k v rows : Nat) : Nat := min 65535 ((sigma c k v * noiseScale c rows + 128) / 256)

/-! ### Defect replacement (R158, R159) -/

/-- Entry `i` of a defect map. -/
def defectEntry (m : List Byte) (i : Nat) : Nat := u64At m (8 * i)
/-- Columns of band `k` that the map marks on a line of index `idx`. -/
def defectColumns (m : List Byte) (k idx : Nat) : List Nat :=
  (List.range (m.length / 8)).filterMap fun i =>
    let e := defectEntry m i
    if bit e (58 + k) && (bits e 62 2 == 0 || (bits e 62 2 == 1 && bits e 32 16 == idx)) then some (bits e 0 15) else none
/-- The nearest column that is not defective, stepping by `step`, within 4 columns. -/
def nearGood (d : List Nat) (v : List Nat) (x : Nat) (right : Bool) : Option Nat :=
  (List.range 4).findSome? fun i =>
    if right then (if x + i + 1 < v.length ∧ !d.contains (x + i + 1) then v[x + i + 1]? else none)
    else (if i + 1 ≤ x ∧ !d.contains (x - (i + 1)) then v[x - (i + 1)]? else none)
/-- One band line with its defective pixels replaced, and whether one stayed (R159). -/
def replaceDefects (d : List Nat) (v : List Nat) : List Nat × Bool :=
  d.foldl (fun (p : List Nat × Bool) x =>
    match nearGood d v x false, nearGood d v x true with
    | some a, some b => (p.1.set x ((a + b) / 2), p.2)
    | some a, none => (p.1.set x a, p.2)
    | none, some b => (p.1.set x b, p.2)
    | none, none => (p.1, p.2 || decide (x < v.length))) (v, false)
/-- Defect replacement of a line. -/
def defectLine (c : CorrSet) (m : List Byte) (idx : Nat) (b : List (List Nat)) : List (List Nat) × Bool :=
  if c.defect then
    let r := (b.zip (List.range b.length)).map fun (p : List Nat × Nat) => replaceDefects (defectColumns m p.2 idx) p.1
    (r.map (·.1), r.any (·.2))
  else (b, false)

/-! ### Temporal stage (R160 to R163) -/

/-- One pixel of the recursive filter (R161). -/
def recursePixel (c : CorrSet) (k y x : Nat) : Nat :=
  let d : Int := (x : Int) - (y : Int)
  if d.natAbs * 16 ≤ c.kT * sigma c k y / 16 then ((y : Int) + (d * c.alpha + 8) / 16).toNat else x
/-- One line of the recursive filter. -/
def recurseLine (c : CorrSet) (y x : List (List Nat)) : List (List Nat) :=
  ((y.zip x).zip (List.range x.length)).map fun (p : (List Nat × List Nat) × Nat) =>
    List.zipWith (recursePixel c p.2) p.1.1 p.1.2

/-- s of R163: ⌈log2 R⌉. -/
def tdiShift (rows : Nat) : Nat := if rows ≤ 2 then 1 else if rows ≤ 4 then 2 else if rows ≤ 8 then 3 else 4
/-- The output line to which input line `n` contributes (R162). -/
def tdiOut (c : CorrSet) (n : Nat) : Nat :=
  let e := n / c.tdiRows
  let r := n % c.tdiRows
  if c.tdiReverse then e + r else e + (c.tdiRows - 1) - r
/-- The input line whose contribution to output `o` is the last. -/
def tdiLastIn (c : CorrSet) (o : Nat) : Nat := if c.tdiReverse then o * c.tdiRows else o * c.tdiRows + (c.tdiRows - 1)
/-- Add a row to its accumulator. -/
def tdiAdd (c : CorrSet) (n t : Nat) (b : List (List Nat)) (l : List TdiAcc) : List TdiAcc :=
  let o := tdiOut c n
  let v := b.map (·.map (· / 2 ^ tdiShift c.tdiRows))
  let t' := if n / c.tdiRows = o then some t else none
  if l.any fun a => a.out == o then
    l.map fun a => if a.out == o then
      { a with count := a.count + 1, sums := List.zipWith (List.zipWith (· + ·)) a.sums v, t := t' <|> a.t } else a
  else l ++ [{ out := o, count := 1, sums := v, t := t' }]
/-- The output line `o` (R163): its event, and whether it is a line lost for too few rows. The exposure time of an
output whose own row is lost is not stated: a free value. -/
def tdiEmit (c : CorrSet) (free o : Nat) (l : List TdiAcc) : Ev × Bool :=
  match l.find? fun a => a.out == o with
  | some a =>
    if c.tdiMin ≤ a.count then
      (.line o (a.t.getD (Config.openTime free)) (a.sums.map (·.map fun x =>
        (x * 2 ^ tdiShift c.tdiRows + a.count / 2) / a.count)) a.count, false)
    else (.lost o 1 false, true)
  | none => (.lost o 1 false, true)
/-- The output lines whose last contribution is input line `n` or an earlier one not yet judged, at most `k`. -/
def tdiDue (c : CorrSet) (next : Nat) (n : Nat) : Nat → List Nat
  | 0 => []
  | k + 1 => if tdiLastIn c next ≤ n then next :: tdiDue c (next + 1) n k else []

/-- The result of a stage: its line memory, what flows on, and how many lines it counted. -/
structure Staged where
  dyn : Dyn
  out : List Ev
  counted : Nat := 0

/-- The temporal stage (R161 to R163). `gap` is GAP_BRIDGE, `free` the model's counter. -/
def temporalStage (c : CorrSet) (free : Nat) (d : Dyn) (e : Ev) : Staged :=
  match c.tMode with
  | 1 =>
    match e with
    | .line p t b r =>
      if c.temporal then
        let y := match d.y with
          | some y => recurseLine c y b
          | none => b
        { dyn := { d with y := some y }, out := [.line p t y r] }
      else { dyn := { d with y := none }, out := [e] }
    | .lost _ _ long => { dyn := if long then { d with y := none } else d, out := [e] }
    | .close _ _ => { dyn := { d with y := none }, out := [e] }
    | .stop => { dyn := { d with y := none }, out := [e] }
    | .wrong _ _ => { dyn := d, out := [e] }
  | 2 =>
    let judge := fun (d : Dyn) (n : Nat) =>
      let first := d.tdiNext.getD (n / c.tdiRows)
      let due := tdiDue c first n (n / c.tdiRows + 2 - first)
      let evs := due.map fun o => tdiEmit c free o d.tdi
      ({ dyn := { d with
            tdiNext := some (first + due.length)
            tdi := d.tdi.filter fun a => decide (first + due.length ≤ a.out) }
         out := evs.map (·.1)
         counted := (evs.filter (·.2)).length } : Staged)
    match e with
    | .line p t b _ => judge { d with tdi := tdiAdd c p t b d.tdi } p
    | .wrong p _ => judge d p
    | .lost p n false => judge { d with tdiNext := some (d.tdiNext.getD (p / c.tdiRows)) } (p + n - 1)
    | .lost p n true =>
      -- a long gap: the outputs that hold a row are judged, those after them are lost together
      let first := d.tdiNext.getD (p / c.tdiRows)
      let total := (p + n - 1 - (if c.tdiReverse then 0 else c.tdiRows - 1)) / c.tdiRows + 1 - first
      let k := min total c.tdiRows
      let evs := (List.range k).map fun i => tdiEmit c free (first + i) d.tdi
      { dyn := { d with tdiNext := some (first + total), tdi := d.tdi.filter fun a => decide (first + total ≤ a.out) }
        out := evs.map (·.1) ++ [.lost (first + k) (total - k) true]
        counted := (evs.filter (·.2)).length + (total - k) }
    | .close _ _ => { dyn := { d with tdi := [], tdiNext := none }, out := [e] }
    | .stop => { dyn := { d with tdi := [], tdiNext := none }, out := [e] }
  | _ => { dyn := d, out := [e] }

/-! ### Outlier replacement and spatial filter (R164 to R167) -/

/-- Insertion into a sorted list. -/
def insertSorted (x : Nat) : List Nat → List Nat
  | [] => [x]
  | y :: r => if x ≤ y then x :: y :: r else y :: insertSorted x r
/-- A list sorted. -/
def sortNat (l : List Nat) : List Nat := l.foldr insertSorted []
/-- The median of the neighbours; the mean of the two middle values rounded down (R165). -/
def median (l : List Nat) : Nat :=
  let s := sortNat l
  let n := s.length
  if n % 2 = 1 then s.getD (n / 2) 0 else (s.getD (n / 2 - 1) 0 + s.getD (n / 2) 0) / 2
/-- The centre after outlier replacement, and whether it was replaced (R165). -/
def outlierPixel (c : CorrSet) (k rows xc : Nat) (near : List Nat) : Nat × Bool :=
  if near.length < 2 then (xc, false)
  else
    let m := median near
    if ((near.all fun n => decide (n < xc)) || (near.all fun n => decide (xc < n)))
        && decide (c.kOut * sigma' c k m rows < 256 * ((xc : Int) - (m : Int)).natAbs) then (m, true)
    else (xc, false)
/-- The value of a band at column `x + dx`, where present. -/
def nearAt (v : List Nat) (x : Nat) (dx : Int) : Option Nat :=
  let p : Int := (x : Int) + dx
  if p < 0 then none else v[p.toNat]?
/-- One pixel through outlier replacement and spatial filter with a window; `rowsAt` are the five lines m − 2 to m + 2,
none where absent (R164 to R166). -/
def windowPixel (c : CorrSet) (k rows x : Nat) (lines : List (Option (List Nat))) : Nat × Bool :=
  let xc := (((lines.getD 2 none).getD [])[x]?).getD 0
  let near := ([-1, 0, 1].flatMap fun dy => [-1, 0, 1].filterMap fun dx =>
    if dy = 0 ∧ dx = 0 then none
    else (lines.getD (Int.toNat (2 + dy)) none).bind fun v => nearAt v x dx)
  let o := if c.outlier then outlierPixel c k rows xc near else (xc, false)
  if c.spatial then
    let thr := c.kSp * sigma' c k o.1 rows
    let g : List Nat := [1, 4, 6, 4, 1]
    let terms := ([0, 1, 2, 3, 4].flatMap fun (i : Nat) => [0, 1, 2, 3, 4].filterMap fun (j : Nat) =>
      if i = 2 ∧ j = 2 then some (36, o.1)
      else ((lines.getD i none).bind fun v => nearAt v x ((j : Int) - 2)).bind fun v =>
        if 256 * ((v : Int) - (o.1 : Int)).natAbs ≤ thr then some (g.getD i 0 * g.getD j 0, v) else none)
    let den := (terms.map (·.1)).foldl (· + ·) 0
    let num := (terms.map fun (p : Nat × Nat) => p.1 * p.2).foldl (· + ·) 0
    ((2 * num + den) / (2 * den), o.2)
  else o
/-- One line with the outlier test among horizontal neighbours (k_sp = 0, R165). -/
def outlierLine (c : CorrSet) (k rows : Nat) (v : List Nat) : List (Nat × Bool) :=
  (v.zip (List.range v.length)).map fun (p : Nat × Nat) =>
    if c.outlier then outlierPixel c k rows p.1 ([-2, -1, 1, 2].filterMap fun dx => nearAt v p.2 dx) else (p.1, false)

/-- The line at index `i` of the window leaves: its event, and the pixels replaced. -/
def windowEmit (c : CorrSet) (w : List MemLine) (i : Nat) : Ev × Nat :=
  match w[i]? with
  | none => (.lost 0 0 false, 0)
  | some m =>
    match m.bands with
    | none => if m.wrong then (.wrong m.pos m.t, 0) else (.lost m.pos 1 false, 0)
    | some b =>
      let out := (List.range b.length).map fun k =>
        let lines := (List.range 5).map fun j =>
          if i + j < 2 then none
          else (w[i + j - 2]?).bind fun (l : MemLine) => l.bands.map (fun (x : List (List Nat)) => x.getD k [])
        (List.range (b.getD k []).length).map fun x => windowPixel c k m.rows x lines
      (.line m.pos m.t (out.map (·.map (·.1))) m.rows, (out.map fun l => (l.filter (·.2)).length).foldl (· + ·) 0)
/-- The lines still held leave as though the lines after them were absent (R167). -/
def windowFlush (c : CorrSet) (d : Dyn) : Staged :=
  let evs := (List.range (d.win5.length - d.left5)).map fun j => windowEmit c d.win5 (d.left5 + j)
  { dyn := { d with win5 := [], left5 := 0 }, out := evs.map (·.1), counted := (evs.map (·.2)).foldl (· + ·) 0 }
/-- A line enters the window; the line two before it leaves. -/
def windowPush (c : CorrSet) (d : Dyn) (m : MemLine) : Staged :=
  let w := d.win5 ++ [m]
  if w.length < d.left5 + 3 then { dyn := { d with win5 := w }, out := [] }
  else
    let e := windowEmit c w d.left5
    if 5 ≤ w.length then { dyn := { d with win5 := w.drop 1, left5 := d.left5 }, out := [e.1], counted := e.2 }
    else { dyn := { d with win5 := w, left5 := d.left5 + 1 }, out := [e.1], counted := e.2 }
/-- Lines without values enter the window, one by one. -/
def windowPushLost (c : CorrSet) : Nat → Nat → Dyn → Staged
  | 0, _, d => { dyn := d, out := [] }
  | n + 1, p, d =>
    let a := windowPush c d { pos := p, t := 0, bands := none, wrong := false, rows := 1 }
    let b := windowPushLost c n (p + 1) a.dyn
    { dyn := b.dyn, out := a.out ++ b.out, counted := a.counted + b.counted }

/-- Outlier replacement and the spatial filter (R164 to R167); counted: pixels replaced. -/
def spatialStage (c : CorrSet) (d : Dyn) (e : Ev) : Staged :=
  if c.spHold then
    match e with
    | .line p t b r => windowPush c d { pos := p, t := t, bands := some b, wrong := false, rows := r }
    | .wrong p t => windowPush c d { pos := p, t := t, bands := none, wrong := true, rows := 1 }
    | .lost p n false => windowPushLost c n p d
    | _ =>
      let f := windowFlush c d
      { f with out := f.out ++ [e] }
  else
    match e with
    | .line p t b r =>
      let out := (b.zip (List.range b.length)).map fun (q : List Nat × Nat) => outlierLine c q.2 r q.1
      { dyn := d, out := [.line p t (out.map (·.map (·.1))) r]
        counted := (out.map fun l => (l.filter (·.2)).length).foldl (· + ·) 0 }
    | _ => { dyn := d, out := [e] }

/-! ### Black level and flat-field (R168, R169) -/

/-- One pixel of step 3, and whether it was clamped (R168). -/
def step3Pixel (c : CorrSet) (black v word : Nat) : Nat × Bool :=
  let off : Int := if c.flatOn then toSigned 16 word else 0
  let gain : Int := if c.flatOn then bits word 16 16 else 16384
  let t : Int := (v : Int) - (if c.blackOn then black else 0) - off
  let y : Int := (t * gain + 8192) / 16384 + c.pedestal
  ((clampInt 0 65535 y).toNat, decide (y < 0 ∨ 65535 < y))
/-- black_k of a band (Table 6-5). -/
def blackOf (c : CorrSet) (d : Dyn) (k : Nat) : Nat := (if c.blackTrack then d.black else c.black).getD k 0
/-- TRACK: black_k after a line (R169). -/
def trackBlack (c : CorrSet) (d : Dyn) (b : List (List Nat)) : List Nat :=
  (List.range 4).map fun k =>
    let n := c.darkN.getD k 0
    let cur := d.black.getD k 0
    if k < b.length ∧ 0 < n then
      let mean := (((b.getD k []).drop (c.darkX0.getD k 0)).take n).foldl (· + ·) 0 / n
      ((cur : Int) + ((mean : Int) - (cur : Int) + 32) / 64).toNat
    else cur
/-- Step 3 (R168, R169); counted: lines with a clamped pixel. -/
def step3Stage (c : CorrSet) (flat : Option (List Byte)) (w : Nat) (d : Dyn) (e : Ev) : Staged :=
  match e with
  | .line p t b r =>
    let out := (b.zip (List.range b.length)).map fun (q : List Nat × Nat) =>
      let tab := (flat.getD []).drop (4 * q.2 * w)
      (q.1.zip (List.range q.1.length)).map fun (v : Nat × Nat) =>
        step3Pixel c (blackOf c d q.2) v.1 (u32At tab (4 * v.2))
    { dyn := if c.blackTrack then { d with black := trackBlack c d b } else d
      out := [.line p t (out.map (·.map (·.1))) r]
      counted := b2n (out.any (·.any (·.2))) }
  | _ => { dyn := d, out := [e] }

/-! ### Band registration (R174, R175) -/

/-- One pixel of the horizontal stage (R175). -/
def regPixel (v : List Nat) (x0 : Int) (scale x : Nat) : Nat :=
  let p16 : Int := (x0 * 4096 + (x * scale : Nat)) / 4096
  let last := v.length - 1
  if p16 < 0 then v.getD 0 0
  else if (16 * last : Nat) < p16.toNat then v.getD last 0
  else
    let i := p16.toNat / 16
    let f := p16.toNat % 16
    ((16 - f) * v.getD i 0 + f * v.getD (min (i + 1) last) 0 + 8) / 16
/-- The horizontal stage on band `k`. -/
def regLine (c : CorrSet) (k : Nat) (v : List Nat) : List Nat :=
  if c.regH then (List.range v.length).map (regPixel v (c.regX0.getD k 0) (c.regScale.getD k 65536)) else v
/-- The line memory entry at `pos`, where held. -/
def regFind (l : List MemLine) (pos : Nat) : Option MemLine := l.find? fun m => m.pos == pos
/-- Corrected line `m` from the held lines (R174); and whether it counts REG_LOST_CNT. -/
def regEmit (c : CorrSet) (nb : Nat) (l : List MemLine) (m : MemLine) : Ev × Bool :=
  let srcs := (List.range nb).map fun k =>
    let v := c.regV.getD k 0
    if m.pos < v then none else regFind l (m.pos - v)
  let ownLost := m.bands.isNone && !m.wrong
  if srcs.any fun s => match s with
      | none => true
      | some x => x.bands.isNone && !x.wrong then (.lost m.pos 1 false, !ownLost)
  else
    let t := if ownLost then (match srcs.getD 0 none with | some x => x.t | none => m.t) else m.t
    if srcs.any fun s => match s with | some x => x.wrong | none => false then (.wrong m.pos t, false)
    else (.line m.pos t ((List.range nb).map fun k =>
      match srcs.getD k none with
      | some x => regLine c k (((x.bands).getD []).getD k [])
      | none => []) m.rows, false)
/-- A step-3 line enters the held lines; its corrected line leaves. -/
def regPush (c : CorrSet) (nb : Nat) (d : Dyn) (m : MemLine) : Staged :=
  let l := (d.reg ++ [m]).filter fun x => decide (m.pos ≤ x.pos + c.regHold)
  let e := regEmit c nb l m
  { dyn := { d with reg := l }, out := [e.1], counted := b2n e.2 }
/-- Lost lines enter one by one, as far as a held line can still matter; the rest are lost. -/
def regPushLost (c : CorrSet) (nb : Nat) (long : Bool) : Nat → Nat → Nat → Dyn → Staged
  | 0, p, rest, d => { dyn := d, out := if rest = 0 ∧ !long then [] else [.lost p rest long] }
  | n + 1, p, rest, d =>
    let a := regPush c nb d { pos := p, t := 0, bands := none, wrong := false, rows := 1 }
    let b := regPushLost c nb long n (p + 1) rest a.dyn
    { dyn := b.dyn, out := a.out ++ b.out, counted := a.counted + b.counted }
/-- Band registration (R174); counted: REG_LOST_CNT. -/
def regStage (c : CorrSet) (nb : Nat) (d : Dyn) (e : Ev) : Staged :=
  match e with
  | .line p t b r => regPush c nb d { pos := p, t := t, bands := some b, wrong := false, rows := r }
  | .wrong p t => regPush c nb d { pos := p, t := t, bands := none, wrong := true, rows := 1 }
  | .lost p n long => regPushLost c nb long (min n 8) p (n - min n 8) d
  | .close _ _ => { dyn := { d with reg := [] }, out := [e] }
  | .stop => { dyn := { d with reg := [] }, out := [e] }

/-! ### The corrections in order (R152) -/

/-- What the correction stages count on one line. -/
structure CorrCount where
  unrepl : Nat := 0
  outlier : Nat := 0
  tdiShort : Nat := 0
  clip : Nat := 0
  regLost : Nat := 0

/-- Feed a list of events to a stage. -/
def feed (f : Dyn → Ev → Staged) : Dyn → List Ev → Staged
  | d, [] => { dyn := d, out := [] }
  | d, e :: r =>
    let a := f d e
    let b := feed f a.dyn r
    { dyn := b.dyn, out := a.out ++ b.out, counted := a.counted + b.counted }

/-- Steps 2b to 4 on one event. -/
def corrStages (c : CorrSet) (flat : Option (List Byte)) (w nb free : Nat) (d : Dyn) (e : List Ev) :
    Dyn × List Ev × CorrCount :=
  let a := feed (temporalStage c free) d e
  let b := feed (spatialStage c) a.dyn a.out
  let f := feed (step3Stage c flat w) b.dyn b.out
  let g := feed (regStage c nb) f.dyn f.out
  (g.dyn, g.out, { outlier := b.counted, tdiShort := a.counted, clip := f.counted, regLost := g.counted })
/-- A flush of the window alone, run through the stages after it (R167). -/
def corrFlush (c : CorrSet) (flat : Option (List Byte)) (w nb : Nat) (d : Dyn) : Dyn × List Ev × CorrCount :=
  let b := windowFlush c d
  let f := feed (step3Stage c flat w) b.dyn b.out
  let g := feed (regStage c nb) f.dyn f.out
  (g.dyn, g.out, { outlier := b.counted, clip := f.counted, regLost := g.counted })

end Sys2Proof.Machine
end

