-- ==== Sys2Proof/Machine/Segment.lean ====
section
/-! DEFINITION. Segmentation, labelling, features and cell cutting (07_segmentation_and_cells.md), as functions of the
settings and of what the comb and the window hold. -/
namespace Sys2Proof.Machine

/-- Places of line numbers start here: a multiple of 2^32 and of every number of TDI rows. -/
def posBase : Nat := 720720 * 4294967296
/-- The line number of a place. -/
def lineNo (pos : Nat) : Nat := pos % 4294967296

/-! ### Background (R183 to R187) -/

/-- A table of u16 words as background values (R184). -/
def bgOfTable (w nb : Nat) (t : List Byte) : List (List Nat) :=
  (List.range nb).map fun k =>
    let b := t.drop (2 * k * w)
    (List.range w).map fun x => u16At b (2 * x) / 16
/-- Background values as a table of words. -/
def tableOfBg (b : List (List Nat)) : List Byte := b.flatMap fun l => l.flatMap fun v => b16 (16 * v)
/-- y_k(x) >> 4 for every band and column. -/
def bgFirst (y : List (List Nat)) : List (List Nat) := y.map (·.map (· / 16))
/-- One tracking step of a column (R185). -/
def trackStep (b y : Nat) : Nat :=
  let r := 16 * b
  let b1 := if r + 8 < y ∧ b < 4095 then b + 1 else b
  if y + 8 < r ∧ 0 < b1 then b1 - 1 else b1
/-- The tracking step of a line; `obj` marks columns left out. -/
def trackLine (bg y : List (List Nat)) (obj : List Bool) : List (List Nat) :=
  (bg.zip y).map fun (p : List Nat × List Nat) =>
    ((p.1.zip p.2).zip obj).map fun (q : (Nat × Nat) × Bool) => if q.2 then q.1.1 else trackStep q.1.1 q.1.2
/-- The background that a start, a move or a change to TRACK gives (R184, R185): none waits for the first line. -/
def bgStart (s : SegSet) (w nb : Nat) (t : Option (List Byte)) : Option (List (List Nat)) :=
  match t with
  | some t => some (bgOfTable w nb t)
  | none => if s.bgTrack then none else some (List.replicate nb (List.replicate w 0))

/-! ### Scores (R188) -/

/-- Weighted excess of a band, none where the band takes no part. -/
def excess (pol weight y b : Nat) : Option Nat :=
  let d : Int := (y : Int) - 16 * (b : Int)
  match pol with
  | 1 => some (d.toNat * weight / 16)
  | 2 => some ((-d).toNat * weight / 16)
  | 3 => some (d.natAbs * weight / 16)
  | _ => none
/-- The score of a pixel from its bands' values and backgrounds; none where every band is OFF. -/
def score (s : SegSet) (y b : List Nat) : Option Nat :=
  let w := ((y.zip b).zip (List.range y.length)).filterMap fun (p : (Nat × Nat) × Nat) =>
    excess (s.pol.getD p.2 0) (s.weight.getD p.2 16) p.1.1 p.1.2
  match w with
  | [] => none
  | a :: r => some (min 65535 (match s.combine with
    | 1 => r.foldl (· + ·) a
    | 2 => r.foldl min a
    | _ => r.foldl max a))
/-- Column `x` of every band. -/
def column (b : List (List Nat)) (x : Nat) : List Nat := b.map fun l => l.getD x 0
/-- Low and high marks of a line; columns outside SEG_X0 to SEG_X1 are background (R182). -/
def marks (s : SegSet) (y bg : List (List Nat)) (w : Nat) : List Bool × List Bool :=
  let sc := (List.range w).map fun x => if s.segX0 ≤ x ∧ x ≤ s.segX1 then score s (column y x) (column bg x) else none
  let test := fun (t : Nat) => sc.map fun v => match v with | some v => decide (t ≤ v) | none => false
  (test s.tLow, test s.tHigh)

/-! ### Morphology (R189, R190) -/

/-- One pixel of a pass over the present neighbours. -/
def morphPixel (dilate : Bool) (s : SegSet) (above cur below : Option (List Bool)) (x : Nat) : Bool :=
  let self := (cur.getD []).getD x false
  if x < s.segX0 ∨ s.segX1 < x then false
  else
    let cols := [x, x + 1] ++ (if 0 < x then [x - 1] else [])
    let cols := cols.filter fun i => decide (s.segX0 ≤ i ∧ i ≤ s.segX1)
    let at' := fun (l : Option (List Bool)) (cs : List Nat) => match l with
      | some m => cs.map fun i => m.getD i false
      | none => []
    let near := at' above cols ++ at' below cols ++ at' cur (cols.filter (· != x))
    if dilate then self || near.any id else self && near.all id
/-- A line leaves a pass: its mask from the lines around it. -/
def morphLine (dilate : Bool) (s : SegSet) (a : Option MorphLine) (m : MorphLine) (b : Option MorphLine) : MorphLine :=
  match m.mask with
  | none => m
  | some c =>
    { m with mask := some ((List.range c.length).map (morphPixel dilate s (a.bind (·.mask)) (some c) (b.bind (·.mask)))) }
/-- A line enters a pass: the pass's new contents and what leaves (R190). -/
def passPush (dilate : Bool) (s : SegSet) (l : List MorphLine) (m : MorphLine) : List MorphLine × List MorphLine :=
  match l with
  | [] => ([m], [])
  | [c] => ([c, m], [morphLine dilate s none c (some m)])
  | a :: c :: _ => ([c, m], [morphLine dilate s (some a) c (some m)])
/-- What a pass holds leaves as though nothing followed. -/
def passFlush (dilate : Bool) (s : SegSet) (l : List MorphLine) : List MorphLine :=
  match l with
  | [] => []
  | [c] => [morphLine dilate s none c none]
  | a :: c :: _ => [morphLine dilate s (some a) c none]
/-- Feed lines to a pass. -/
def passFeed (dilate : Bool) (s : SegSet) : List MorphLine → List MorphLine → List MorphLine × List MorphLine
  | l, [] => (l, [])
  | l, m :: r =>
    let a := passPush dilate s l m
    let b := passFeed dilate s a.1 r
    (b.1, a.2 ++ b.2)
/-- Lines enter the passes of MORPH. -/
def morphPush (s : SegSet) (d : Dyn) (m : MorphLine) : Dyn × List MorphLine :=
  match s.morph with
  | 1 => let a := passPush false s d.pass1 m; ({ d with pass1 := a.1 }, a.2)
  | 2 => let a := passPush true s d.pass1 m; ({ d with pass1 := a.1 }, a.2)
  | 3 =>
    let a := passPush false s d.pass1 m
    let b := passFeed true s d.pass2 a.2
    ({ d with pass1 := a.1, pass2 := b.1 }, b.2)
  | 4 =>
    let a := passPush true s d.pass1 m
    let b := passFeed false s d.pass2 a.2
    ({ d with pass1 := a.1, pass2 := b.1 }, b.2)
  | _ => (d, [m])
/-- The passes are flushed (R190). -/
def morphFlush (s : SegSet) (d : Dyn) : Dyn × List MorphLine :=
  let clear := { d with pass1 := [], pass2 := [] }
  match s.morph with
  | 1 => (clear, passFlush false s d.pass1)
  | 2 => (clear, passFlush true s d.pass1)
  | 3 =>
    let b := passFeed true s d.pass2 (passFlush false s d.pass1)
    (clear, b.2 ++ passFlush true s b.1)
  | 4 =>
    let b := passFeed false s d.pass2 (passFlush true s d.pass1)
    (clear, b.2 ++ passFlush false s b.1)
  | _ => (d, [])

/-! ### Cutting (R197 to R202) -/

/-- A member's part of what a cell is cut from: its segmented columns, its first stitched column, its line offset, its
window, and the spans of its fragment. An unstitched context is one view with its own columns. -/
structure CutView where
  seg0 : Nat
  seg1 : Nat
  base : Nat
  offset : Int
  window : List WinLine
  spans : List Span
  above : List Span := []
  below : List Span := []

/-- A span in stitched columns and group lines (R209). -/
def CutView.toGroup (v : CutView) (p : Span) : Span :=
  { pos := ((p.pos : Int) + v.offset).toNat, x0 := p.x0 - v.seg0 + v.base, x1 := p.x1 - v.seg0 + v.base }
/-- Whether a view has column `x`. -/
def CutView.covers (v : CutView) (x : Nat) : Bool := decide (v.base ≤ x ∧ x ≤ v.base + (v.seg1 - v.seg0))
/-- The window line of a view at group line `l`. -/
def CutView.lineAt (v : CutView) (l : Nat) : Option WinLine :=
  v.window.find? fun w => ((w.pos : Int) + v.offset).toNat == l
/-- The view of a column. -/
def viewAt (vs : List CutView) (x : Nat) : Option CutView := vs.find? (·.covers x)
/-- Whether the line `l` exists at column `x`. -/
def lineExists (vs : List CutView) (l x : Nat) : Bool :=
  match viewAt vs x with
  | some v => (v.lineAt l).isSome
  | none => false
/-- The value of band `k` at a pixel; not stated on a line without pixels (R135, R136). -/
def pixelAt (vs : List CutView) (free k l x : Nat) : Nat :=
  match viewAt vs x with
  | some v =>
    match (v.lineAt l).bind (·.bands) with
    | some b => (b.getD k []).getD (x - v.base + v.seg0) 0
    | none => Config.gapPixel free l x % 65536
  | none => Config.gapPixel free l x % 65536
/-- Whether spans hold a pixel. -/
def inSpans (s : List Span) (l x : Nat) : Bool := s.any fun p => p.pos == l && decide (p.x0 ≤ x ∧ x ≤ p.x1)
/-- The pixels of spans. -/
def spanPixels (s : List Span) : List (Nat × Nat) :=
  s.flatMap fun p => (List.range (p.x1 - p.x0 + 1)).map fun i => (p.pos, p.x0 + i)
/-- n ÷ d rounded to nearest, ties up. -/
def roundDiv (n : Int) (d : Nat) : Int := Int.fdiv (2 * n + d) (2 * d)
/-- A u32 feature. -/
def sat32 (i : Int) : Nat := (clampInt 0 4294967295 i).toNat
/-- Sum of a list. -/
def sumList (l : List Nat) : Nat := l.foldl (· + ·) 0

/-- Pixel sides that count to the perimeter (R197, R198). -/
def perimeterOf (vs : List CutView) (top lo hi : Nat) (spans skip : List Span) : Nat :=
  sumList ((spanPixels spans).map fun (p : Nat × Nat) =>
    let l := p.1
    let x := p.2
    let side := fun (l' x' : Nat) (ok : Bool) => b2n (ok && !inSpans spans l' x' && !inSpans skip l' x')
    side l (x - 1) (decide (lo < x)) + side l (x + 1) (decide (x < hi))
      + side (l - 1) x (decide (top ≤ l - 1) && lineExists vs (l - 1) x) + side (l + 1) x (lineExists vs (l + 1) x))

/-- The cell of an object (R197 to R202): from its views, the first line that exists, the last line of the box, the
columns that exist, the settings. -/
def cutCell (f : CellFmt) (nb free : Nat) (vs : List CutView) (top bottom lo hi tFirst tLast : Nat) (chunk : List Byte) :
    CutCell :=
  let spans := vs.flatMap fun v => v.spans.map v.toGroup
  let skip := vs.flatMap fun v => (v.above ++ v.below).map v.toGroup
  let n := max 1 (sumList (spans.map fun p => p.x1 - p.x0 + 1))
  let px := spanPixels spans
  let first := (spans.map (·.pos)).foldl min ((spans.map (·.pos)).headD 0)
  let xmin := (spans.map (·.x0)).foldl min ((spans.map (·.x0)).headD 0)
  let xmax := (spans.map (·.x1)).foldl max 0
  let bx0 := max lo (xmin - f.margin)
  let bx1 := min hi (xmax + f.margin)
  let by0 := max top (first - f.margin)
  let w := bx1 - bx0 + 1
  let h := bottom + 1 - by0
  let sx := sumList (px.map (·.2))
  let sy := sumList (px.map fun p => p.1 - first)
  let sxx := sumList (px.map fun p => p.2 * p.2)
  let syy := sumList (px.map fun p => (p.1 - first) * (p.1 - first))
  let sxy := sumList (px.map fun p => p.2 * (p.1 - first))
  let feats := (List.range 4).map fun k =>
    if k < nb then
      let v := px.map fun p => pixelAt vs free k p.1 p.2
      let sv := sumList v
      let svv := sumList (v.map fun x => x * x)
      (min 65535 (roundDiv sv n).toNat, min 65535 (sqrtRatio (n * svv - sv * sv) (n * n)),
        v.foldl min (v.headD 0), v.foldl max 0)
    else (0, 0, 0, 0)
  let rows := (List.range h).map (by0 + ·)
  let cols := (List.range w).map (bx0 + ·)
  let planes := (List.range nb).flatMap fun k =>
    packCodes f.storeBits (rows.flatMap fun l => cols.map fun x => pixelAt vs free k l x / 2 ^ (16 - f.storeBits))
  let mask := if f.mask then packCodes 1 (rows.flatMap fun l => cols.map fun x => b2n (inSpans spans l x)) else []
  { x0 := bx0, width := w, first := by0, height := h, area := n % 2 ^ 32
    perimeter := sat32 (perimeterOf vs top lo hi spans skip)
    cx := sat32 (roundDiv (16 * ((sx : Int) - n * bx0)) n)
    cy := sat32 (roundDiv (16 * ((sy : Int) + n * ((first : Int) - by0))) n)
    mu20 := sat32 (roundDiv (16 * ((n * sxx : Nat) - (sx * sx : Nat) : Int)) (n * n))
    mu02 := sat32 (roundDiv (16 * ((n * syy : Nat) - (sy * sy : Nat) : Int)) (n * n))
    mu11 := clampInt (-2147483648) 2147483647 (roundDiv (16 * ((n * sxy : Nat) - (sx * sy : Nat) : Int)) (n * n))
    bands := feats, tFirst := tFirst, tLast := tLast, payload := planes ++ mask ++ chunk }

/-! ### Labelling (R191 to R196) -/

/-- Runs of a mask: first and last columns. -/
def maskRuns (m : List Bool) : List (Nat × Nat) :=
  let r := (m.zip (List.range m.length)).foldl (fun (p : List (Nat × Nat) × Option (Nat × Nat)) (q : Bool × Nat) =>
    match q.1, p.2 with
    | true, some (a, _) => (p.1, some (a, q.2))
    | true, none => (p.1, some (q.2, q.2))
    | false, some x => (p.1 ++ [x], none)
    | false, none => (p.1, none)) ([], none)
  r.1 ++ (match r.2 with | some x => [x] | none => [])

/-- What labelling carries through a line. -/
structure LabelSt where
  live : Table Obj
  runs : List Run
  /-- labels merged away on this line, with what they became -/
  merged : List (Nat × Nat)
  closing : List Obj
  keys : Nat
  exhausted : Nat
  split : Nat

/-- The label that `l` has become. -/
def LabelSt.resolve (s : LabelSt) (l : Nat) : Nat :=
  match s.merged.find? fun p => p.1 == l with
  | some p => p.2
  | none => l
/-- Two objects become one (R192, R196). -/
def mergeObj (a b : Obj) : Obj :=
  { a with
    first := min a.first b.first, last := max a.last b.last, spans := a.spans ++ b.spans, high := a.high || b.high
    part := a.part || b.part, linesDropped := a.linesDropped || b.linesDropped, resumed := a.resumed || b.resumed
    conts := a.conts ++ b.conts, above := a.above ++ b.above, top := min a.top b.top }
/-- Merge label `b` into label `a`. -/
def LabelSt.merge (s : LabelSt) (a b : Nat) : LabelSt :=
  match s.live.find a, s.live.find b with
  | some x, some y =>
    { s with
      live := (s.live.erase b).put a (mergeObj x y)
      merged := (b, a) :: s.merged.map fun p => if p.2 = b then (p.1, a) else p }
  | _, _ => s
/-- Of two labels the one that is kept (R192): the earlier first line, then the lower number. -/
def LabelSt.better (s : LabelSt) (a b : Nat) : Nat :=
  match s.live.find a, s.live.find b with
  | some x, some y => if x.first < y.first ∨ (x.first = y.first ∧ a ≤ b) then a else b
  | _, _ => a
/-- An object whose span has reached SPLIT_LINES ends as a part and goes on as a new object (R196). -/
def LabelSt.splitFull (s : LabelSt) (lines pos l : Nat) : LabelSt :=
  match s.live.find l with
  | some o =>
    if o.first + lines ≤ pos then
      let k := s.keys + 1
      let part := { o with continued := true, part := true, key := k }
      let next : Obj := { ctx := o.ctx, first := pos, last := pos, spans := [], part := true, conts := [k]
                          above := o.spans.filter fun p => p.pos == o.last, top := o.top }
      { s with live := s.live.put l next, closing := s.closing ++ [part], keys := k, split := s.split + 1 }
    else s
  | none => s
/-- A run of object pixels is labelled (R191 to R193). -/
def labelRun (ctx lines pos top tagsUsed : Nat) (resumed : Bool) (prev : List Run) (high : List Bool) (s : LabelSt)
    (r : Nat × Nat) : LabelSt :=
  let hit := (prev.filter fun p => decide (r.1 ≤ p.x1 + 1 ∧ p.x0 ≤ r.2 + 1)).map (·.label)
  let s := hit.foldl (fun s l => s.splitFull lines pos (s.resolve l)) s
  let ls := (hit.map s.resolve).eraseDups
  let hi := (List.range (r.2 - r.1 + 1)).any fun i => high.getD (r.1 + i) false
  let sp : Span := { pos := pos, x0 := r.1, x1 := r.2 }
  match ls with
  | [] =>
    let free := (List.range 4096).find? fun l => (s.live.find l).isNone && !(s.merged.any fun p => p.1 == l)
    match free with
    | some l =>
      if s.live.length + tagsUsed < 65535 then
        { s with
          live := s.live.put l { ctx := ctx, first := pos, last := pos, spans := [sp], high := hi, resumed := resumed, top := top }
          runs := s.runs ++ [{ x0 := r.1, x1 := r.2, label := l }] }
      else { s with exhausted := s.exhausted + 1 }
    | none => { s with exhausted := s.exhausted + 1 }
  | a :: rest =>
    let keep := rest.foldl s.better a
    let s := (ls.filter (· != keep)).foldl (fun s l => s.merge keep l) s
    match s.live.find keep with
    | some o =>
      { s with
        live := s.live.put keep { o with spans := o.spans ++ [sp], last := pos, high := o.high || hi }
        runs := s.runs ++ [{ x0 := r.1, x1 := r.2, label := keep }] }
    | none => s

/-- What segmentation yields on one event: objects whose cells are cut, and what it counts. -/
structure SegOut where
  dyn : Dyn
  handed : List Obj := []
  weak : Nat := 0
  small : Nat := 0
  split : Nat := 0
  /-- lines with runs left unlabelled: place and runs -/
  exhausted : List (Nat × Nat) := []
  /-- a capture completed: its table and last line -/
  captured : Option (List (List Nat) × Nat) := none

/-- What segmentation needs to know of the context. -/
structure SegCtx where
  id : Nat
  width : Nat
  nb : Nat
  set : SegSet
  fmt : CellFmt
  gapBridge : Nat
  /-- a member of a stitch group with a neighbour on the left, on the right; `stitched`: cells are cut later -/
  leftN : Bool
  rightN : Bool
  stitched : Bool
  table : Option (List Byte)
  chunks : List Chunk
  free : Nat

/-- Lines of the window (R204). -/
def CellFmt.hWin (f : CellFmt) : Nat := f.splitLines + 2 * f.margin + 8 + f.waitLines
/-- A line enters the window; a line leaves it H_WIN lines after it entered (R205). -/
def windowAdd (f : CellFmt) (w : List WinLine) (l : WinLine) : List WinLine :=
  (w ++ [l]).filter fun x => decide (l.pos < x.pos + f.hWin)
/-- Whether spans hold a pixel in column `x`, and their first and last lines there. -/
def seamLines (s : List Span) (x : Nat) : Option (Nat × Nat) :=
  match (s.filter fun p => decide (p.x0 ≤ x ∧ x ≤ p.x1)).map (·.pos) with
  | [] => none
  | a :: r => some (r.foldl min a, r.foldl max a)
/-- Exposure time of a line in the window. -/
def timeAt (w : List WinLine) (pos : Nat) : Nat :=
  match w.find? fun l => l.pos == pos with
  | some l => l.t
  | none => 0
/-- The view of an unstitched context. -/
def plainView (c : SegCtx) (d : Dyn) (o : Obj) : CutView :=
  { seg0 := c.set.segX0, seg1 := c.set.segX1, base := c.set.segX0, offset := 0, window := d.window, spans := o.spans
    above := o.above, below := o.below }
/-- The cell of a closed object is cut, or left to the assembler where a seam decides (R201, R210). -/
def handOver (c : SegCtx) (d : Dyn) (bottom : Nat) (o : Obj) : Obj :=
  let n := lineNo o.first
  let data := match c.chunks.find? fun k => decide ((n + 4294967296 - k.first) % 4294967296 < k.height) with
    | some k => k.data
    | none => []
  let o := { o with bottom := some bottom
                    chunk := data
                    left := if c.leftN then seamLines o.spans c.set.segX0 else none
                    right := if c.rightN then seamLines o.spans c.set.segX1 else none }
  if c.stitched then o
  else { o with cell := some (cutCell c.fmt c.nb c.free [plainView c d o] o.top bottom c.set.segX0 c.set.segX1
    (timeAt d.window o.first) (timeAt d.window o.last) o.chunk) }
/-- The tests of R195, which parts and seam fragments skip: 0 kept, 1 weak, 2 small. -/
def closeTest (c : SegCtx) (o : Obj) : Nat :=
  let seam := (c.leftN && (seamLines o.spans c.set.segX0).isSome) || (c.rightN && (seamLines o.spans c.set.segX1).isSome)
  if o.part || seam then 0
  else if !o.high then 1
  else if sumList (o.spans.map fun p => p.x1 - p.x0 + 1) < c.set.minArea then 2
  else 0
/-- Objects close (R194, R195): those kept wait for their cut. -/
def closeObjs (c : SegCtx) (os : List Obj) (r : SegOut) : SegOut :=
  os.foldl (fun r o =>
    match closeTest c o with
    | 0 => { r with dyn := { r.dyn with closing := r.dyn.closing ++ [o] } }
    | 1 => { r with weak := r.weak + 1 }
    | _ => { r with small := r.small + 1 }) { r with dyn := { r.dyn with tags := r.dyn.tags ++ os.map (·.last) } }
/-- Closed objects whose rows have all been segmented are cut (R201). -/
def cutDue (c : SegCtx) (r : SegOut) : SegOut :=
  let p := r.dyn.segPos.getD 0
  let due := r.dyn.closing.filter fun o => decide (o.last + max 1 c.fmt.margin ≤ p)
  { r with
    dyn := { r.dyn with closing := r.dyn.closing.filter fun o => !decide (o.last + max 1 c.fmt.margin ≤ p) }
    handed := r.handed ++ due.map fun o => handOver c r.dyn (o.last + c.fmt.margin) o }
/-- Every closed object is cut now: its box ends with the last line received (R200). -/
def cutAll (c : SegCtx) (r : SegOut) : SegOut :=
  let p := r.dyn.segPos.getD 0
  { r with
    dyn := { r.dyn with closing := [] }
    handed := r.handed ++ r.dyn.closing.map fun o => handOver c r.dyn (min (o.last + c.fmt.margin) (max p o.last)) o }
/-- Every live object closes without a closing line (R194), and the labels start anew. -/
def endRun (c : SegCtx) (short long dropped : Bool) (r : SegOut) : SegOut :=
  let os := r.dyn.live.map fun e =>
    { e.2 with short := short, long := long, linesDropped := e.2.linesDropped || dropped }
  let r := cutAll c (closeObjs c os r)
  { r with dyn := { r.dyn with live := [], prev := [], top := none } }

/-- The live objects close at the last line labelled, with the lines below them still to come (R186). -/
def endLabels (c : SegCtx) (r : SegOut) : SegOut :=
  let r := closeObjs c (r.dyn.live.map (·.2)) r
  cutDue c { r with dyn := { r.dyn with live := [], prev := [] } }

/-- A line leaves the passes: tracking, then labelling (R185, R191 to R196, R205). -/
def labelLine (c : SegCtx) (r : SegOut) (m : MorphLine) : SegOut :=
  let d := r.dyn
  match m.mask, m.wrong with
  | none, false =>
    -- a lost line within a gap
    let run := d.lostRun + 1
    let r : SegOut := { r with dyn := { d with lostRun := run } }
    if run = c.gapBridge + 1 then endRun c false false true r else r
  | mk, _ =>
    let live := if d.lostRun = 0 then d.live else d.live.map fun e => (e.1, { e.2 with linesDropped := true })
    let top := d.top.getD m.pos
    let win := windowAdd c.fmt d.window { pos := m.pos, t := m.t, bands := mk.map fun _ => m.bands }
    let tags := d.tags.filter fun p => decide (m.pos < p + c.fmt.hWin)
    let mask := mk.getD []
    let bg := if m.upd && c.set.bgTrack then d.bg.map fun b => trackLine b m.bands mask else d.bg
    let resumed := (match d.resumeFrom with | some a => decide (a ≤ m.pos) | none => false)
      && (match d.resumeTo with | some b => decide (m.pos ≤ b) | none => true)
    let st := (maskRuns mask).foldl (labelRun c.id c.fmt.splitLines m.pos top tags.length resumed d.prev m.high)
      { live := live, runs := [], merged := [], closing := [], keys := d.keys, exhausted := 0, split := 0 }
    let runs := st.runs.map fun q => { q with label := st.resolve q.label }
    let gone := (st.live.filter fun e => !(runs.any fun q => q.label == e.1)).map (·.2)
    let stay := st.live.filter fun e => runs.any fun q => q.label == e.1
    -- a part's sides toward its continuation do not count (R196)
    let belowOf := fun (o : Obj) => (stay.filter fun e => e.2.conts.contains o.key).flatMap fun e =>
      e.2.spans.filter fun p => p.pos == m.pos
    let parts := st.closing.map fun o => { o with below := belowOf o }
    let r : SegOut := { r with
      dyn := { d with live := stay, prev := runs, lostRun := if mk.isSome then 0 else d.lostRun, top := some top, segPos := some m.pos, window := win
                      tags := tags, keys := st.keys, bg := bg }
      split := r.split + st.split
      exhausted := if st.exhausted = 0 then r.exhausted else r.exhausted ++ [(m.pos, st.exhausted)] }
    cutDue c (closeObjs c (gone ++ parts) r)

/-- A line with pixels enters segmentation: capture, first background, scores, passes (R185 to R190). -/
def segLine (c : SegCtx) (r : SegOut) (pos t : Nat) (b : List (List Nat)) (rows : Nat) : SegOut :=
  match r.dyn.capture with
  | some cap =>
    let tab := if cap.got = 0 then bgFirst b else trackLine cap.table b (List.replicate c.width false)
    let win := windowAdd c.fmt r.dyn.window { pos := pos, t := t, bands := some b }
    let d : Dyn := { r.dyn with window := win, segPos := some pos, prev := [], top := some (r.dyn.top.getD pos), lostRun := 0 }
    let r := cutDue c { r with dyn := d }
    if cap.want ≤ cap.got + 1 then
      { r with
        dyn := { r.dyn with capture := none, bg := some tab, trackCount := 0 }
        captured := some (tab, pos) }
    else { r with dyn := { r.dyn with capture := some { cap with got := cap.got + 1, table := tab } } }
  | none =>
    let fresh := r.dyn.bg.isNone
    let bg := r.dyn.bg.getD (bgFirst b)
    let n := if fresh then 0 else r.dyn.trackCount + 1
    let upd := decide (0 < n ∧ c.set.trackDiv ≤ n)
    let mk := marks c.set b bg c.width
    let d : Dyn := { r.dyn with bg := some bg, trackCount := if upd then 0 else n }
    let a := morphPush c.set d { pos := pos, t := t, bands := b, wrong := false, mask := some mk.1, high := mk.2, upd := upd, rows := rows }
    a.2.foldl (labelLine c) { r with dyn := a.1 }
/-- A line without pixels enters the passes. -/
def segBlank (c : SegCtx) (r : SegOut) (pos t : Nat) (wrong : Bool) : SegOut :=
  let a := morphPush c.set r.dyn { pos := pos, t := t, bands := [], wrong := wrong, mask := none, high := [], upd := false }
  a.2.foldl (labelLine c) { r with dyn := a.1 }
/-- The passes are emptied into labelling. -/
def segFlush (c : SegCtx) (r : SegOut) : SegOut :=
  let a := morphFlush c.set r.dyn
  a.2.foldl (labelLine c) { r with dyn := a.1 }
/-- Segmentation of one event. -/
def segStage (c : SegCtx) (r : SegOut) (e : Ev) : SegOut :=
  match e with
  | .line p t b n => segLine c r p t b n
  | .wrong p t => segBlank c r p t true
  | .lost p n false => (List.range n).foldl (fun r i => segBlank c r (p + i) 0 false) r
  | .lost _ n true =>
    let r := segFlush c r
    endRun c false false true { r with dyn := { r.dyn with lostRun := r.dyn.lostRun + n } }
  | .close short long =>
    let r := endRun c short long false (segFlush c r)
    { r with dyn := { r.dyn with lostRun := 0 } }
  | .stop =>
    let r := endRun c false false false (segFlush c r)
    { r with dyn := { r.dyn with lostRun := 0 } }

end Sys2Proof.Machine
end

