-- ==== Sys2Proof/Machine/Intake.lean ====
section
/-! DEFINITION. Intake (05_contexts_intake_combs.md, R121 to R137): band lines, context lines, frames and lost lines. -/
namespace Sys2Proof.Machine

/-! ### Contexts -/

/-- Context `c`, where it exists. -/
def State.ctx (s : State) (c : Nat) : Option Ctx := s.ctxs.find c
/-- Change context `c` where it exists. -/
def modCtx (c : Nat) (g : Ctx → Ctx) (s : State) : State :=
  match s.ctx c with
  | some x => { s with ctxs := s.ctxs.put c (g x) }
  | none => s
/-- Counters of Tables 5-6, 6-7 and 7-5 and CELL_REFUSED_CNT, in the order CTX_GET_STATUS returns them. -/
inductive CtxCnt where
  | intakeDrop | lostLine | camSkip | seqErr | widthErr | frameShort | frameLong | idleLine | combLate | objLost | stripe
  | switch
  | defectUnrepl | outlier | tdiShort | clip | regLost
  | obj | weak | small | labelExhaust | splitN | trunc | cellDrop | asmOverrun | stitchMerge | stitchTimeout
  | cellRefused
/-- A context's counter counts `n`. -/
def countCtxN (c : Nat) (k : CtxCnt) (n : Nat) (s : State) : State :=
  if n = 0 then s else modCtx c (fun x => { x with counts := countN 32 x.counts k.ctorIdx n }) s
/-- A context's counter counts one. -/
def countCtx (c : Nat) (k : CtxCnt) (s : State) : State := countCtxN c k 1 s
/-- An event to the owner of a context (R151, R215). -/
def raiseCtx (c code sev p0 p1 p2 : Nat) (s : State) : State :=
  match s.ctx c with
  | some x => raise code sev p0 p1 p2 [x.owner] s
  | none => s
/-- Bits of the context's codes (Table 5-3). -/
def Ctx.b (c : Ctx) : Nat := formatBits c.geo.format
/-- l of R131. -/
def Ctx.lineBytes (c : Ctx) : Nat := ceilDiv (c.geo.width * c.b) 8 + 32
/-- Whether a frame delimits the context's lines. -/
def Ctx.framed (c : Ctx) : Bool := c.kind == .areaScan || c.kind == .fullFrame
/-- The context and band to which a (source, sensor, band) is bound (R122). -/
def State.boundTo (s : State) (lane : Nat) (ch : Option Nat) (sensor band : Nat) : Option (Nat × Nat) :=
  s.ctxs.findSome? fun e =>
    if e.2.lane = lane ∧ e.2.channel = ch ∧ e.2.kind ≠ .passthru then
      ((e.2.src.take e.2.bands).findIdx? (· == (sensor, band))).map fun k => (e.1, k)
    else none

/-! ### Partitions (R130 to R132) -/

/-- The partition of lane `l`, B. -/
def State.laneSpace (s : State) (l : Nat) : Nat := 16384 * s.parts.getD l 16
/-- The partition of the link whose lowest lane is `h`: the sum of its lanes' (R130). -/
def State.linkSpace (s : State) (h : Nat) : Nat := ((s.bondLanes h).map s.laneSpace).foldl (· + ·) 0
/-- Band lines a band slot occupies. -/
def BandSlot.holds : BandSlot → Nat
  | .opened => 1
  | .stored _ _ => 1
  | _ => 0
/-- Band lines of a context in intake. -/
def Ctx.inIntake (c : Ctx) : Nat :=
  sumList (c.slots.map fun x => match x with
    | .line _ _ b _ => sumList (b.map BandSlot.holds)
    | _ => 0)
  + sumList (c.work.map fun x => match x with
    | .line _ _ _ _ _ => c.bands
    | _ => 0)
/-- Bytes in use in the partition of link `h`. -/
def State.intakeUsed (s : State) (h : Nat) : Nat :=
  sumList (s.ctxs.map fun e => if e.2.lane = h then e.2.inIntake * e.2.lineBytes else 0)

/-! ### Places and lost lines (R125, R133) -/

/-- The place of line number `n`: the one nearest to the highest known. -/
def Ctx.place (c : Ctx) (n : Nat) : Nat :=
  match c.upTo with
  | none => posBase + n
  | some u => ((u : Int) + toSigned 32 ((n : Int) - (lineNo u : Nat) + 4294967296).toNat).toNat
/-- Lines of `p, …, p + n − 1` that LINES_SKIPPED reported (R126). -/
def Ctx.skipped (c : Ctx) (p n : Nat) : Nat :=
  sumList (c.skips.map fun r => min (r.1 + r.2) (p + n) - max r.1 p)
/-- Append lost lines to waiting work, joining them to lost lines just before (R135, R142). -/
def addLost (gap now p n : Nat) (due : Option Nat) (w : List Work) : List Work :=
  let mark := fun (m : Nat) (d : Option Nat) => match d with
    | some x => some x
    | none => if gap < m then some now else none
  match w.reverse with
  | .lost q m d :: r =>
    if q + m = p then (.lost q (m + n) (mark (m + n) (match d with | some x => some x | none => due)) :: r).reverse
    else w ++ [.lost p n (mark n due)]
  | _ => w ++ [.lost p n (mark n due)]
/-- Whether a band slot is finished. -/
def BandSlot.done : BandSlot → Bool
  | .stored _ _ => true
  | .wrong _ => true
  | _ => false
/-- The work a finished context line makes (R123, R136); its exposure time is that of band 0. -/
def lineWork (nb now pos idx : Nat) (b : List BandSlot) : Work :=
  let t := match b.head? with
    | some (.stored t _) => t
    | some (.wrong t) => t
    | _ => 0
  if (b.take nb).any fun x => match x with | .wrong _ => true | _ => false then .wrong pos t now
  else .line pos idx t now ((b.take nb).map fun x => match x with | .stored _ v => v | _ => [])
/-- Slots whose fate is known move on, in order. -/
def moveOn (nb gap now : Nat) : List Slot → List Work → List Slot × List Work
  | [], w => ([], w)
  | .line p i b d :: r, w =>
    if (b.take nb).all BandSlot.done then moveOn nb gap now r (w ++ [lineWork nb now p i b])
    else (.line p i b d :: r, w)
  | .lost p n d :: r, w => moveOn nb gap now r (addLost gap now p n d w)
  | .close a x y d :: r, w => moveOn nb gap now r (w ++ [.close a x y d])
  | .stop d :: r, w => moveOn nb gap now r (w ++ [.stop d])
/-- A context's slots move on. -/
def Ctx.settle (c : Ctx) (now : Nat) : Ctx :=
  let r := moveOn c.bands c.geo.gapBridge now c.slots c.work
  { c with slots := r.1, work := r.2 }

/-- LOST_LINE_CNT counts `n`, reporting the first line concerned where R137 says so. -/
def countLost (c n first : Nat) (s : State) : State :=
  if n = 0 then s
  else
    let s := countCtxN c .lostLine n s
    let p := paced .linesLost c 1000000 s
    if p.1 then raiseCtx c 0x0206 sevE c (lineNo first) 0 p.2 else p.2
/-- A slot that a band passed by without delivering becomes lost; those that did not become so stay. -/
def passSlot (k pos : Nat) (x : Slot) : Slot :=
  match x with
  | .line p i b d =>
    if p < pos ∧ !(b.getD k .none).done then .lost p 1 none else .line p i b d
  | y => y
/-- Lines of a list of slots that became lost. -/
def newlyLost (a b : List Slot) : List Nat :=
  (a.zip b).filterMap fun q => match q with
    | (.line p _ _ _, .lost _ _ _) => some p
    | _ => none
/-- Band `k` delivers the line at `pos`: every line before it that this band has not delivered is lost (R125, R133). -/
def passBy (c k pos : Nat) (s : State) : State :=
  match s.ctx c with
  | none => s
  | some x =>
    let sl := x.slots.map (passSlot k pos)
    let old := newlyLost x.slots sl
    let gap := match x.upTo with
      | some u => if u + 1 < pos then some (u + 1, pos - (u + 1)) else none
      | none => none
    let sl := match gap with
      | some g => sl ++ [.lost g.1 g.2 (if x.geo.gapBridge < g.2 then some s.now else none)]
      | none => sl
    let n := sumList (old.map fun p => 1 - x.skipped p 1)
      + (match gap with | some g => g.2 - x.skipped g.1 g.2 | none => 0)
    let first := match old with
      | p :: _ => p
      | [] => match gap with | some g => g.1 | none => pos
    let up := match x.upTo with
      | some u => max u (pos - 1)
      | none => pos - 1
    countLost c n first (modCtx c (fun x => ({ x with slots := sl, upTo := some up } : Ctx).settle s.now) s)
/-- The context line at `pos` is lost where it is still in its slot. -/
def loseLine (c pos : Nat) (s : State) : State :=
  modCtx c (fun x => ({ x with slots := x.slots.map fun y => match y with
    | .line p i b d => if p = pos then .lost p 1 none else .line p i b d
    | z => z } : Ctx).settle s.now) s
/-- Whether the context line at `pos` still waits in its slot. -/
def Ctx.waits (c : Ctx) (pos : Nat) : Bool := c.slots.any fun y => match y with | .line p _ _ _ => p == pos | _ => false

/-! ### Frames (R126 to R129) -/

/-- The report of a long frame (R129). -/
def reportLong (c : Nat) (s : State) : State :=
  match (s.ctx c).bind (·.longFrame) with
  | some f =>
    raiseCtx c 0x0204 sevW c f.number f.count
      (countCtx c .frameLong (modCtx c (fun x => { x with longFrame := none }) s))
  | none => s
/-- The frame closes (R127 to R129): with the count FRAME_END carried, or as a long frame. -/
def closeFrame (c : Nat) (carried : Option Nat) (long : Bool) (s : State) : State :=
  match s.ctx c with
  | none => s
  | some x =>
    match x.frame with
    | none => s
    | some f =>
      let delivered := match carried, f.leader, f.highest with
        | some n, _, _ => n
        | none, some h, _ => h
        | none, none, some i => i + 1
        | none, none, none => 0
      let short := !long && decide (delivered < x.geo.height)
      let stop := if x.state = .stopping then [Slot.stop s.now] else []
      let s := modCtx c (fun x => ({ x with
        frame := none
        slots := x.slots ++ [.close f.number short long s.now] ++ stop
        longFrame := if long then some { number := f.number, count := 0, lastLine := none
                                         deadline := s.now + 1000 * x.geo.frameTimeout } else x.longFrame } : Ctx).settle s.now) s
      if short then raiseCtx c 0x0203 sevW c f.number delivered (countCtx c .frameShort s) else s
/-- A frame opens (R126, R127): the open one closes, a long one before it is reported. Where its first line number is known
(a stream channel), a jump to it stays a jump (R125). -/
def openFrame (c number : Nat) (index0 leader : Option Nat) (s : State) : State :=
  match s.ctx c with
  | none => s
  | some x =>
    if !x.framed ∨ !(x.state = .running ∨ (x.state = .stopping ∧ x.frame.isSome)) then s
    else
      let s := reportLong c (closeFrame c none false s)
      match s.ctx c with
      | none => s
      | some x =>
        if x.state ≠ .running then s
        else
          let i0 := match index0, x.lastRecv with
            | some n, _ => some n
            | none, some n => some ((n + 1) % 4294967296)
            | none, none => none
          modCtx c (fun x => { x with
            frame := some { number := number, index0 := i0, highest := none
                            deadline := s.now + 1000 * x.geo.frameTimeout, leader := leader }
            upTo := (match index0, x.upTo, i0 with
              | some _, some u, _ => some u
              | _, _, some n => some (x.place n - 1)
              | _, u, none => u)
            recs := if x.kind = .fullFrame then x.recs ++ [{ number := number }] else x.recs }) s

/-! ### Band lines (R118, R119, R122 to R136) -/

/-- What the first segment of a band line meets. -/
inductive Begin where
  | taken (pos : Nat)
  | refused
deriving DecidableEq, Repr

/-- The higher of two line numbers by their signed distance. -/
def laterNo (a : Option Nat) (n : Nat) : Nat :=
  match a with
  | some m => if bits (n + 4294967296 - m) 0 32 < 2147483648 then n else m
  | none => n
/-- Whether the context accepts lines at all (Table 5-2, R118, R119). -/
def Ctx.accepts (c : Ctx) (n : Nat) : Bool :=
  match c.state with
  | .running => !c.framed || c.frame.isSome
  | .stopping =>
    if c.framed then c.frame.isSome
    else match c.stopAt with
      | some p => decide (c.place n ≤ p)
      | none => false
  | _ => false

/-- Line `n` of band `k` is stored from here on, if the partition has room (R132). -/
def reserveLine (c k n idx : Nat) (s : State) : Begin × State :=
  match s.ctx c with
  | none => (.refused, s)
  | some x =>
    let pos := x.place n
    let s := modCtx c (fun x => { x with last := x.last.set k (some pos) }) (passBy c k pos s)
    match s.ctx c with
    | none => (.refused, s)
    | some x =>
      let isNew := (match x.upTo with | some u => decide (u < pos) | none => true)
      if !isNew ∧ !x.waits pos then (.refused, s)
      else if s.linkSpace x.lane < s.intakeUsed x.lane + x.lineBytes then
        let s := if isNew then
            modCtx c (fun x => ({ x with upTo := some pos, slots := x.slots ++ [.lost pos 1 none] } : Ctx).settle s.now) s
          else loseLine c pos s
        let s := countCtx c .intakeDrop s
        let p := paced .intakeOverflow c 1000000 s
        (.refused, if p.1 then raiseCtx c 0x0205 sevE c (lineNo pos) 0 p.2 else p.2)
      else if isNew then
        (.taken pos, modCtx c (fun x => { x with
          upTo := some pos
          slots := x.slots ++ [.line pos idx (([.none, .none, .none, .none] : List BandSlot).set k .opened) none] }) s)
      else
        (.taken pos, modCtx c (fun x => { x with slots := x.slots.map fun y => match y with
          | .line p i b d => if p = pos then .line p i (b.set k .opened) d else .line p i b d
          | z => z }) s)

/-- A context line beyond the frame's height is discarded; it counts once (R129). -/
def discardLong (c n : Nat) (s : State) : State :=
  let step := fun (f : LongFrame) =>
    if f.lastLine = some n then f else { f with count := f.count + 1, lastLine := some n }
  modCtx c (fun x => { x with longFrame := x.longFrame.map step }) s

/-- The first segment of line `n` of band `k` arrives for context `c`. -/
def beginLine (c k n : Nat) (s : State) : Begin × State :=
  match s.ctx c with
  | none => (.refused, s)
  | some x =>
    let s := modCtx c (fun x => { x with lastRecv := some (laterNo x.lastRecv n) }) s
    if x.state = .defined then (.refused, countLink x.lane .unboundLine s)
    else if !x.accepts n then
      if x.framed ∧ x.frame.isNone ∧ x.state = .running ∧ x.longFrame.isSome then (.refused, discardLong c n s)
      else (.refused, countCtx c .idleLine s)
    else
      -- index in the frame (R126)
      let i0 := match x.frame with
        | some f => f.index0.getD n
        | none => n
      let idx := bits (n + 4294967296 - i0) 0 32
      let s := match x.frame with
        | some f => if f.index0.isNone then modCtx c (fun x => { x with frame := some { f with index0 := some n } }) s else s
        | none => s
      if x.framed ∧ x.geo.height ≤ idx ∧ idx < 2147483648 then
        (.refused, discardLong c n (closeFrame c none true s))
      else
        let pos := x.place n
        let isNext := match x.last.getD k none with
          | some p => decide (p < pos)
          | none => !x.framed || decide (idx < 2147483648)
        if !isNext then (.refused, countCtx c .seqErr s)
        else
          let s := modCtx c (fun x => { x with frame := x.frame.map fun f => { f with
            highest := some (match f.highest with | some h => max h idx | none => idx)
            deadline := s.now + 1000 * x.geo.frameTimeout } }) s
          reserveLine c k n idx s

/-- A band line is complete, or of wrong width (R133, R136). -/
def finishLine (c k pos t : Nat) (codes : Option (List Nat)) (s : State) : State :=
  match s.ctx c with
  | none => s
  | some x =>
    if !x.waits pos then s
    else
      let v := match codes with
        | some l => BandSlot.stored t l
        | none => .wrong t
      let s := modCtx c (fun x => ({ x with slots := x.slots.map fun y => match y with
        | .line p i b d =>
          if p = pos then .line p i (b.set k v) (match d with | some e => some e | none => some (s.now + 1000 * x.geo.lineTimeout))
          else .line p i b d
        | z => z } : Ctx).settle s.now) s
      if codes.isNone then
        let s := countCtx c .widthErr s
        let p := paced .lineWidth c 1000000 s
        if p.1 then raiseCtx c 0x0207 sevE c (lineNo pos) 0 p.2 else p.2
      else s

/-- A band line that broke on its way: its context line is lost (R68, R134). -/
def breakLine (c pos : Nat) (s : State) : State :=
  match s.ctx c with
  | none => s
  | some x => if x.waits pos then countLost c (1 - x.skipped pos 1) pos (loseLine c pos s) else s

/-- LINES_SKIPPED: lines L − n to L − 1 are lost, each counted once in CAM_SKIP_CNT (R126). -/
def skipLines (c l n : Nat) (s : State) : State :=
  match s.ctx c with
  | none => s
  | some x =>
    if !(x.state = .running ∨ x.state = .stopping) then s
    else
      let hi := x.place l
      let from' := hi - n
      let fresh := n - min n (x.skipped from' n)
      let lost := x.slots.filterMap fun y => match y with
        | .line p _ _ _ => if from' ≤ p ∧ p < hi then some p else none
        | _ => none
      let s := modCtx c (fun x => { x with skips := (x.skips.filter fun r =>
          match x.upTo with | some u => decide (u < r.1 + r.2 + 65536) | none => true) ++ (if fresh = 0 then [] else [(from', n)]) }) s
      countCtxN c .camSkip fresh (lost.foldl (fun s p => loseLine c p s) s)

end Sys2Proof.Machine
end

