-- ==== Sys2Proof/Machine/QueueOps.lean ====
section
/-! DEFINITION. Operations on queues (11_queues_and_records.md): rings and doorbells, fetching, completion entries,
errors, and the brood space of cells (07_segmentation_and_cells.md, R206). -/
namespace Sys2Proof.Machine

/-! ### Brood space (R206) -/

/-- Assembler `a`. -/
def State.asm (s : State) (a : Nat) : Asm := s.asms.getD a {}
/-- Change assembler `a`. -/
def modAsm (a : Nat) (g : Asm → Asm) (s : State) : State := { s with asms := s.asms.put a (g (s.asm a)) }
/-- A cell leaves brood: its space returns to its context. -/
def freeCell (a c : Nat) (s : State) : State :=
  match (s.asm a).cells.find c with
  | none => s
  | some x => modCtx x.ctx (fun y => { y with used := y.used - x.space }) (modAsm a (fun v => { v with cells := v.cells.erase c }) s)
/-- A cell that its queue refuses (R313). -/
def refuseCell (w : WaitCell) (s : State) : State :=
  match (s.asm w.asm).cells.find w.cell with
  | none => s
  | some x => countCtx x.ref .cellRefused (freeCell w.asm w.cell s)

/-! ### Rings (R303 to R306) -/

/-- Queue types (Table 11-1). -/
def qtCell : Nat := 1
def qtFrame : Nat := 2
def qtDecision : Nat := 3
def qtEvent : Nat := 4
def qtTunnelIn : Nat := 5
def qtTunnelOut : Nat := 6
def qtSource : Nat := 7
/-- A slot `n` after `a` in a ring of `size`. -/
def slotAdd (size a n : Nat) : Nat := (a + n) % max size 1
/-- The slot of the first entry that is not in use. -/
def Queue.nextFree (v : Queue) : Nat :=
  match v.fetched, v.arrived with
  | e :: _, _ => e.1
  | [], e :: _ => e.1
  | [], [] => slotAdd v.settings.ringSize v.fetch (v.settings.ringSize - v.flight)
/-- HEAD (R306). -/
def Queue.headNow (v : Queue) : Nat :=
  match v.inUse with
  | e :: _ => e.1
  | [] => v.nextFree
/-- Posted entries that are not in use. -/
def Queue.posted (v : Queue) : Nat := slotAdd v.settings.ringSize v.tail (v.settings.ringSize - v.nextFree)
/-- Types that fetch nothing while the completion ring is full (Table 11-4). -/
def holdsBack (kind : Nat) : Bool := kind == qtDecision || kind == qtTunnelOut || kind == qtSource
/-- Work of a queue that a full completion ring holds back (Table 11-4). -/
def Queue.held (v : Queue) : Bool :=
  if v.kind = qtCell then !v.waiting.isEmpty
  else holdsBack v.kind && (!v.fetched.isEmpty || !v.arrived.isEmpty || v.fetch != v.tail)
/-- A queue that begins to wait for a completion slot counts the wait, once (R305). -/
def noteWait (q : Nat) (s : State) : State :=
  match s.queue q with
  | some v =>
    if (v.state = .enabled ∨ v.state = .draining) ∧ v.cplFull ∧ !v.cplWait ∧ v.held then
      countCplFull q (setQueue q { v with cplWait := true } s)
    else s
  | none => s
/-- The device fetches the next posted entries, up to 8 (R303). -/
def fetchMore (q : Nat) (s : State) : State :=
  match s.queue q with
  | none => s
  | some v =>
    if v.state = .enabled ∧ v.kind ≠ qtEvent ∧ v.flight = 0 ∧ v.arrived.isEmpty ∧ v.fetch ≠ v.tail ∧ s.available v.owner
        ∧ !(holdsBack v.kind && v.cplFull) then
      let z := v.settings.ringSize
      let n := min 8 (min (slotAdd z v.tail (z - v.fetch)) (z - v.fetch))
      dma v.owner q (.read (v.settings.ringAddr + 16 * v.fetch) (16 * n) (.ring q v.fetch n))
        (setQueue q { v with fetch := slotAdd z v.fetch n, flight := n } s)
    else noteWait q s
/-- Cells that wait at a queue are refused (R302, R313). -/
def refuseWaiting (q : Nat) (s : State) : State :=
  match s.queue q with
  | none => s
  | some v => v.waiting.foldl (fun s w => refuseCell w s) (setQueue q { v with waiting := [] } s)
/-- Frame records under way in a queue go on no further. -/
def endFrames (q : Nat) (s : State) : State :=
  { s with ctxs := s.ctxs.map fun e => (e.1, { e.2 with
      recs := e.2.recs.map (fun r => if r.phase = .writing ∧ r.queue = q then { r with phase := .refused } else r)
      held := e.2.held.filter fun h => h.queue != q }) }
/-- Reads of a queue that are on their way deliver nothing any more (R321, R288). -/
def deadReads (q : Nat) (s : State) : State :=
  match s.queue q with
  | none => s
  | some v => modHp v.owner (fun h => { h with reads := h.reads.map fun r =>
      match r.why with
      | .ring p _ _ => if p = q then { r with why := .dead } else r
      | .buffer p _ => if p = q then { r with why := .dead } else r
      | _ => r }) s
/-- A queue enters ERROR (R321). -/
def queueError (q reason : Nat) (s : State) : State :=
  match s.queue q with
  | none => s
  | some v =>
    if v.state = .error then s
    else
      let next := if v.fetched.isEmpty then v.nextFree else v.fetch
      let s := setQueue q { v with state := .error, reason := reason, arrived := [], flight := 0, fetch := next } s
      let s := endFrames q (refuseWaiting q (dmaDrop v.owner q (deadReads q s)))
      raiseAt s.now 0x0601 sevE q reason 0 [v.owner] (setIntx v.owner intxQueueError (countHp v.owner .queueErr s)) (some q)
/-- A doorbell value that acts: the new tail (R306). -/
def actTail (q n : Nat) (s : State) : State :=
  match s.queue q with
  | none => s
  | some v =>
    if v.settings.ringSize ≤ n then queueError q 5 s else fetchMore q (setQueue q { v with tail := n } s)
/-- A doorbell value that acts: the new completion head (R306). -/
def actHead (q n : Nat) (s : State) : State :=
  match s.queue q with
  | none => s
  | some v =>
    let z := v.settings.cplSize
    if z ≤ n ∨ v.cplUsed < slotAdd z n (z - v.cplHead) then queueError q 5 s
    else fetchMore q (setQueue q { v with cplHead := n, cplWait := v.cplWait && n == v.cplHead } s)
/-- The value of a [15:0] field of which a write enables some bytes (R306). -/
def mergeHalf (old : Nat) (lo hi : Option Byte) : Nat :=
  (match lo with | some b => b.toNat | none => old % 256) + 256 * (match hi with | some b => b.toNat | none => old / 256 % 256)
/-- A write to QDB_TAIL of queue `q` (R306, Table 11-3). -/
def tailWrite (q : Nat) (lo hi : Option Byte) (s : State) : State :=
  match s.queue q with
  | none => s
  | some v =>
    if v.kind = qtEvent then countHp v.owner .barDrop s
    else if v.state = .error then s
    else
      let n := mergeHalf v.recTail lo hi
      let s := setQueue q { v with recTail := n } s
      if v.state = .enabled then actTail q n s else s
/-- A write to QDB_CPL_HEAD of queue `q` (R306, Table 11-3). -/
def headWrite (q : Nat) (lo hi : Option Byte) (s : State) : State :=
  match s.queue q with
  | none => s
  | some v =>
    if v.state = .error then s
    else
      let n := mergeHalf v.recHead lo hi
      let s := setQueue q { v with recHead := n } s
      if v.state = .enabled then actHead q n s else s

/-! ### Completion entries (R304, R305, Table 11-7) -/

/-- Status codes of Table 11-8. -/
def cstOk : Nat := 0x00
def cstTruncated : Nat := 0x01
def cstLate : Nat := 0x02
def cstBadLength : Nat := 0x10
def cstDenied : Nat := 0x11
def cstBadPacket : Nat := 0x12
def cstLinkDown : Nat := 0x13
/-- A completion entry with PHASE clear. -/
def cplBytes (slot status count tag len info id time : Nat) : List Byte :=
  b16 slot ++ b8 status ++ b8 0 ++ b16 count ++ b16 tag ++ b32 len ++ b32 info ++ b64 id ++ b64 time
/-- The run of descriptors from `slot` has its completion entry. -/
def complete (q slot : Nat) (e : List Byte) (s : State) : State :=
  writeEntry q e (modQueue q (fun v => { v with inUse := v.inUse.filter fun r => r.1 != slot }) s)
/-- Fields of a descriptor (Table 11-6). -/
def descAddr (d : List Byte) : Nat := u64At d 0
def descLen (d : List Byte) : Nat := u32At d 8
def descTag (d : List Byte) : Nat := u16At d 0x0C
def descCtrl (d : List Byte) : Nat := u16At d 0x0E
/-- Whether a descriptor keeps Table 11-6. -/
def descOk (v : Queue) (d : List Byte) : Bool :=
  let a := descAddr d
  let n := descLen d
  if v.kind = qtCell then a % 64 == 0 && decide (256 ≤ n ∧ n ≤ 16777216) && n % 64 == 0
  else if v.kind = qtFrame then a % 64 == 0 && n == v.settings.bufSize
  else if v.kind = qtTunnelIn then a % 8 == 0 && decide (64 ≤ n) && n % 8 == 0
  else if v.kind = qtTunnelOut then decide (60 ≤ n ∧ n ≤ 16124)
  else if v.kind = qtSource then decide (16 ≤ n ∧ n ≤ 16400)
  else true
/-- Take the first fetched descriptor of a queue. -/
def takeDesc (q : Nat) (s : State) : Option (Nat × List Byte) × State :=
  match s.queue q with
  | none => (none, s)
  | some v =>
    match v.fetched with
    | [] => (none, s)
    | e :: r => (some e, setQueue q { v with fetched := r, inUse := v.inUse ++ [(e.1, 1)] } s)

end Sys2Proof.Machine
end

