-- ==== Sys2Proof/Machine/Frames.lean ====
section
/-! DEFINITION. Cell headers (11_queues_and_records.md, R310) and the frame records of FULL_FRAME contexts (R314, R315,
R537, R538). -/
namespace Sys2Proof.Machine

/-- What a cell header says (Table 11-10), but for MAGIC. -/
structure Hdr where
  flags : Nat
  bands : Nat
  storeBits : Nat
  id : Nat
  tFirst : Nat
  tLast : Nat
  encPos : Int := 0
  encNum : Nat := 0xFF
  first : Nat
  view : Nat := 0xFF
  stitch : Nat := 0xFF
  x0 : Nat := 0
  width : Nat
  height : Nat := 0
  area : Nat
  perimeter : Nat
  speed : Nat := 0
  cx : Nat := 0
  cy : Nat := 0
  mu20 : Nat := 0
  mu02 : Nat := 0
  mu11 : Int := 0
  feats : List (Nat × Nat × Nat × Nat) := []
  ejectOfs : Nat := 0
  firstValve : Nat := 0xFFFF
  valveCount : Nat := 0
  ruleVerdict : Nat := 0xFF
  ruleIndex : Nat := 0xFF
  payloadLen : Nat
/-- The code of STORE_BITS. -/
def storeCode (s : Nat) : Nat := if s = 10 then 1 else if s = 12 then 2 else if s = 16 then 3 else 0
/-- The 128 B header (Table 11-10). -/
def Hdr.bytes (h : Hdr) (magic : Nat) : List Byte :=
  b16 magic ++ b8 1 ++ b8 0x80 ++ b16 h.flags ++ b8 (h.bands + 16 * storeCode h.storeBits) ++ b8 0 ++ b64 h.id
    ++ b64 h.tFirst ++ b64 h.tLast ++ leBytes 6 (fromSigned 48 h.encPos) ++ b8 h.encNum ++ b8 0 ++ b32 h.first
    ++ b8 h.view ++ b8 h.stitch
    ++ leBytes 6 (h.x0 % 131072 + 131072 * ((h.width - 1) % 131072) + 17179869184 * (h.height % 16384))
    ++ b32 h.area ++ b32 h.perimeter ++ b32 h.speed ++ b32 h.cx ++ b32 h.cy ++ b32 h.mu20 ++ b32 h.mu02 ++ bs32 h.mu11
    ++ (List.range 4).flatMap (fun k =>
        let f := h.feats.getD k (0, 0, 0, 0)
        b16 f.1 ++ b16 f.2.1 ++ b16 f.2.2.1 ++ b16 f.2.2.2)
    ++ b32 h.ejectOfs ++ b16 h.firstValve ++ b8 h.valveCount ++ b8 h.ruleVerdict ++ b8 h.ruleIndex ++ leBytes 3 h.payloadLen
/-- Bits of Table 11-11. -/
def flShort : Nat := 0x0001
def flLong : Nat := 0x0002
def flTruncated : Nat := 0x0004
def flContinued : Nat := 0x0008
def flPaired : Nat := 0x0010
def flUnpaired : Nat := 0x0020
def flViewB : Nat := 0x0040
def flDropped : Nat := 0x0080
def flResumed : Nat := 0x0100
def flEdgeLeft : Nat := 0x0200
def flEdgeRight : Nat := 0x0400
def flMask : Nat := 0x0800
def flRule : Nat := 0x1000
def flEject : Nat := 0x2000
def flFullFrame : Nat := 0x4000
def flCompat : Nat := 0x8000
/-- The flag where it holds. -/
def flagIf (b : Bool) (f : Nat) : Nat := if b then f else 0
/-- MAGIC of native operation, and of compatibility (R537). -/
def magicNative : Nat := 0xCE11
def magicCompat : Nat := 0xF480
/-- Device ID, context ID and sequence (R199, R315). -/
def objectId (dev c seq : Nat) : Nat := dev % 65536 * 2 ^ 48 + c % 256 * 2 ^ 40 + seq % 2 ^ 40

/-! ### Layout of a frame record (R314) -/

/-- S_row. -/
def Ctx.rowStride (c : Ctx) : Nat := roundUp (ceilDiv (c.geo.width * c.fmt.storeBits) 8) 64
/-- M. -/
def Ctx.mapLen (c : Ctx) : Nat := roundUp (ceilDiv c.geo.height 8) 64
/-- Offset of the line map. -/
def Ctx.mapAt (c : Ctx) : Nat := 128 + c.bands * c.geo.height * c.rowStride
/-- Whether a context's stream channel keeps chunk data (R107). -/
def Ctx.chunkOn (c : Ctx) (s : State) : Bool :=
  match c.channel with
  | some k => ((s.eth c.lane).cfg.channels.getD k {}).chunk
  | none => false
/-- R_f. -/
def Ctx.recordLen (c : Ctx) (s : State) : Nat := c.mapAt + c.mapLen + (if c.chunkOn s then 1024 else 0)
/-- The queue to which a context of its own steering table steers: entry 0 (R243, R294). -/
def State.steerQueue (s : State) (c : Nat) : Option Nat :=
  ((s.ctxSteer.getD c []).head?).map fun e => if e.onBackup then e.backup.getD e.primary else e.primary
/-- Bytes at record offset `o` go into the buffers. -/
def recordWrite (f q size : Nat) (bufs : List Nat) : Nat → Nat → List Byte → State → State
  | 0, _, _, s => s
  | n + 1, o, d, s =>
    if d.isEmpty then s
    else
      let room := size - o % size
      recordWrite f q size bufs n (o + room) (d.drop room)
        (dma f q (.write (bufs.getD (o / size) 0 + o % size) (d.take room)) s)
/-- Change the first frame record that satisfies `p`. -/
def modRec (p : FrameWrite → Bool) (g : FrameWrite → FrameWrite) : List FrameWrite → List FrameWrite
  | [] => []
  | r :: l => if p r then g r :: l else r :: modRec p g l
/-- The frame a comb is in: the first that it has not closed. -/
def FrameWrite.isOpen (r : FrameWrite) : Bool := r.closed.isNone

/-! ### Start (R314) -/

/-- The record is not written. -/
def refuseRec (c : Nat) (s : State) : State :=
  modCtx c (fun x => { x with recs := modRec (·.phase == .opened) (fun r => { r with phase := .refused, seq := x.frameSeq }) x.recs
                              frameSeq := (x.frameSeq + 1) % 2 ^ 40 }) s
/-- The first D descriptors fetched become the record's. -/
def takeRec (c q d : Nat) (v : Queue) (s : State) : State :=
  let ds := v.fetched.take d
  let slot := (ds.head?.map (·.1)).getD 0
  let tag := (ds.head?.map fun e => descTag e.2).getD 0
  let s := setQueue q { v with fetched := v.fetched.drop d, inUse := v.inUse ++ [(slot, d)] } s
  fetchMore q (modCtx c (fun x => { x with
    recs := modRec (·.phase == .opened) (fun r => { r with
      phase := .writing, queue := q, slot := slot, tag := tag, bufs := ds.map fun e => descAddr e.2
      bufSize := v.settings.bufSize, seq := x.frameSeq }) x.recs
    frameSeq := (x.frameSeq + 1) % 2 ^ 40 }) s)
/-- FRAME_RECORD_START (R314): the buffers of the record are reserved, or the frame is lost. Where descriptors posted
have not yet arrived, the row waits for them. -/
def execFrameRecordStart (c : CtxId) (t : Nat) (s : State) : Host.Outcome State Fault Refusal :=
  let s := advTo t s
  match s.ctx c with
  | none => .next s
  | some x =>
    if !(x.recs.any (·.phase == .opened)) then .next s
    else match s.steerQueue c with
      | none => .next (refuseRec c s)
      | some q =>
        match s.queue q with
        | none => .next (refuseRec c s)
        | some v =>
          let d := ceilDiv (x.recordLen s) (max 1 v.settings.bufSize)
          if v.kind ≠ qtFrame ∨ v.state ≠ .enabled ∨ !s.available v.owner then .next (refuseRec c s)
          else if v.posted < d then
            .next (raise 0x0605 sevE q 0 (objectId s.deviceId c x.frameSeq) [v.owner] (countQ q .nobuf (refuseRec c s)))
          else if v.fetched.length < d then .next (fetchMore q s)
          else .next (takeRec c q d v s)

/-! ### Rows (R115, R314) -/

/-- A corrected line of a FULL_FRAME context is written into the record. -/
def frameRow (c pos t : Nat) (bands : List (List Nat)) (s : State) : State :=
  match s.ctx c with
  | none => s
  | some x =>
    match x.recs.find? (·.isOpen) with
    | none => s
    | some r =>
      let base := if x.inForce.corr.tMode = 2 then r.base.getD pos / max 1 x.inForce.corr.tdiRows else r.base.getD pos
      let row := pos - base
      if r.phase ≠ .writing ∨ pos < base ∨ x.geo.height ≤ row then s
      else
        let owner := match s.queue r.queue with | some v => v.owner | none => 4
        let res := (match x.dyn.resumeFrom with | some a => decide (a ≤ pos) | none => false)
          && (match x.dyn.resumeTo with | some b => decide (pos ≤ b) | none => true)
        let s := (bands.zip (List.range bands.length)).foldl (fun s (p : List Nat × Nat) =>
          let o := 128 + (p.2 * x.geo.height + row) * x.rowStride
          let d := packCodes x.fmt.storeBits (p.1.map (· / 2 ^ (16 - x.fmt.storeBits)))
          recordWrite owner r.queue r.bufSize r.bufs (r.bufs.length + 1) o d s) s
        modCtx c (fun x => { x with recs := modRec (·.isOpen) (fun r => { r with
          tFirst := if r.got.isEmpty then t else r.tFirst
          resumed := r.resumed || (r.got.isEmpty && res)
          tLast := t, got := r.got ++ [row] }) x.recs }) s
/-- What a FULL_FRAME context's corrected events do at its assembler. -/
def frameEvent (c : Nat) (s : State) (e : Ev) : State :=
  match e with
  | .line p t b _ => frameRow c p t b s
  | .wrong _ _ => s
  | .lost _ n _ => if n = 0 then s else modCtx c (fun x => { x with recs := modRec (·.isOpen) (fun r => { r with lost := true }) x.recs }) s
  | .close sh lo => modCtx c (fun x => { x with recs := modRec (·.isOpen) (fun r => { r with closed := some (sh, lo) }) x.recs }) s
  | .stop => s

/-! ### Close (R314, R315, R537, R538) -/

/-- LAUNCH_EARLY_CNT lies behind the counters of CTX_GET_STATUS (Table 23-2). -/
def countLaunchEarly (c : Nat) (s : State) : State := modCtx c (fun x => { x with counts := count x.counts (CtxCnt.cellRefused.ctorIdx + 1) }) s
/-- The header of a frame record. -/
def frameHeader (x : Ctx) (c : Nat) (r : FrameWrite) (chunk : Nat) (s : State) : Hdr :=
  let cl := r.closed.getD (false, false)
  { flags := flFullFrame + flagIf s.sys.straps.compat flCompat + flagIf cl.1 flShort + flagIf cl.2 flLong
      + flagIf r.lost flDropped + flagIf r.resumed flResumed
    bands := x.bands, storeBits := x.fmt.storeBits, id := objectId s.deviceId c r.seq, tFirst := r.tFirst, tLast := r.tLast
    encNum := x.fmt.encoder.getD 0xFF
    encPos := match x.fmt.encoder with
      | some e => (s.encAt e r.tFirst).1
      | none => 0
    first := lineNo (r.base.getD 0), width := x.geo.width, area := r.got.length, perimeter := x.geo.height
    payloadLen := chunk }
/-- FRAME_RECORD_CLOSE (R314, R315): header, line map and chunk data are written, then the completion entry, which a
TIMED context of compatibility holds (R538). It waits for a free slot of the completion ring. -/
def execFrameRecordClose (c : CtxId) (t : Nat) (s : State) : Host.Outcome State Fault Refusal :=
  let s := advTo t s
  match s.ctx c with
  | none => .next s
  | some x =>
    match x.recs with
    | [] => .next s
    | r :: rest =>
      if r.isOpen ∨ r.phase = .opened then .next s
      else
        let done := modCtx c (fun x => { x with recs := rest }) s
        match r.phase, s.queue r.queue with
        | .writing, some v =>
          if !s.available v.owner then .next s
          else if v.cplFull then
            if r.waited then .next s
            else .next (countCplFull r.queue (modCtx c (fun x => { x with recs := { r with waited := true } :: rest }) s))
          else
            let n := lineNo (r.base.getD 0)
            let data := if x.chunkOn s then
                (match x.chunks.find? fun k => decide ((n + 4294967296 - k.first) % 4294967296 < k.height) with
                  | some k => k.data.take 1024
                  | none => [])
              else []
            let h := frameHeader x c r data.length s
            let map := (List.range x.mapLen).map fun i => BitVec.ofNat 8 (mapOf 8 fun j => r.got.contains (8 * i + j))
            let w := recordWrite v.owner r.queue r.bufSize r.bufs (r.bufs.length + 1)
            let s := w x.mapAt map (w 0 (h.bytes (if s.sys.straps.compat then magicCompat else magicNative)) done)
            let s := if data.isEmpty then s else w (x.mapAt + x.mapLen) data s
            let e := cplBytes r.slot cstOk r.bufs.length r.tag (x.recordLen s) h.flags h.id h.tFirst
            if x.launchTimed ∧ x.held.length < 16 then
              .next (modCtx c (fun x => { x with held := x.held ++ [{ queue := r.queue, entry := e, slots := r.slot }] }) s)
            else
              .next (complete r.queue r.slot e (if x.launchTimed then countLaunchEarly c s else s))
        | _, _ => .next done
/-- The oldest held frame of a context has its completion entry written (R539); false where none is held. Where
the completion ring is full the frame stays held. -/
def launchFrame (c : Nat) (s : State) : Bool × State :=
  match s.ctx c with
  | some x =>
    match x.held with
    | h :: r =>
      if (match s.queue h.queue with | some v => v.cplFull | none => false) then (true, countCplFull h.queue s)
      else (true, complete h.queue h.slots h.entry (modCtx c (fun x => { x with held := r }) s))
    | [] => (false, s)
  | none => (false, s)

end Sys2Proof.Machine
end

