-- ==== Sys2Proof/Machine/Comb.lean ====
section
/-! DEFINITION. Combs (05_contexts_intake_combs.md, R142 to R149): the choice of stripes, the processing of lines, and
the move to a spare. -/
namespace Sys2Proof.Machine

/-- Comb `k`. -/
def State.comb (s : State) (k : Nat) : Comb := s.combs.getD k {}
/-- Change comb `k`. -/
def modComb (k : Nat) (g : Comb → Comb) (s : State) : State := { s with combs := s.combs.put k (g (s.comb k)) }
/-- The contexts resident on comb `k`. -/
def State.residents (s : State) (k : Nat) : List (Nat × Ctx) := s.ctxs.filter fun e => e.2.comb == some k
/-- The stitch group of a context, and its place there. -/
def State.stitchOf (s : State) (c : Nat) : Option (Nat × Nat) :=
  s.stitches.findSome? fun e => (e.2.members.findIdx? (· == c)).map fun i => (e.1, i)

/-! ### Start state and static tables (R146, R178, R184) -/

/-- What a comb holds of a context that starts (R160 to R185). -/
def startDyn (x : Ctx) : Dyn :=
  { black := x.corr.black, bg := bgStart x.seg x.geo.width x.bands x.bgTable, keys := x.dyn.keys }
/-- Bytes of static tables of a context. -/
def Ctx.tableBytes (x : Ctx) : Nat := (x.flat.getD []).length + x.defects.length + (x.bgTable.getD []).length
/-- Bytes of its copies in the keeper bank. -/
def Ctx.copyBytes (x : Ctx) : Nat := (x.flatCopy.getD []).length + (x.defectsCopy.getD []).length + (x.bgCopy.getD []).length
/-- Whether a copy of `n` bytes finds room in the 4 MiB region (R146). -/
def State.copyRoom (s : State) (n : Nat) : Bool := decide (sumList (s.ctxs.map fun e => e.2.copyBytes) + n ≤ 4194304)
/-- The protected copy of table `k` (0 flat-field, 1 defect map, 2 background) is written, or the older one freed. -/
def writeCopy (c k : Nat) (d : List Byte) (s : State) : State :=
  let put := fun (v : Option (List Byte)) (x : Ctx) => match k with
    | 0 => { x with flatCopy := v }
    | 1 => { x with defectsCopy := v }
    | _ => { x with bgCopy := v }
  let s := modCtx c (put none) s
  if s.copyRoom d.length then modCtx c (put (some d)) s else s
/-- Whether a context is protected (R146). -/
def State.isProtected (s : State) (c : Nat) : Bool :=
  match s.ctx c with
  | none => false
  | some x =>
    decide (sumList ((s.residents (x.comb.getD 255)).map fun e => e.2.tableBytes) ≤ 524288)
      && ((x.flat.isNone && x.flatWait.isNone) || x.flatCopy.isSome)
      && ((x.defects.isEmpty && x.defectsWait.isNone) || x.defectsCopy.isSome)
      && ((x.bgTable.isNone && x.bgWait.isNone) || x.bgCopy.isSome)

/-! ### Results (R140, R147, R180, R207) -/

/-- An item goes to an assembler's input queue, or is lost there (R207). -/
def toAsm (c : Nat) (item : AsmItem) (s : State) : State :=
  match (s.ctx c).bind (·.asm) with
  | none => s
  | some a =>
    if (s.asm a).queue.length < 1024 then modAsm a (fun v => { v with queue := v.queue ++ [item] }) s
    else
      let p := paced .asmOverrun c 1000000 (countCtx c .asmOverrun s)
      if p.1 then raiseCtx c 0x0404 sevE c a 0 p.2 else p.2
/-- Objects leave the comb; late ones count (R140). `due`: when their bound began. -/
def handObjs (c due : Nat) (os : List Obj) (s : State) : State :=
  os.foldl (fun s o =>
    let late := match s.ctx c with
      | some x => !x.geo.relaxed && decide (due + 8000 < s.now)
      | none => false
    toAsm c (.obj o) (if late then countCtx c .combLate s else s)) s
/-- A capture ends (R186): its table is committed, or it ends unfinished. -/
def endCapture (c : Nat) (r : Option (List (List Nat) × Nat)) (s : State) : State :=
  match r with
  | none => s
  | some (tab, pos) =>
    let t := tableOfBg tab
    writeCopy c 2 t (modCtx c (fun x => { x with bgTable := some t, captureEnd := some (0, lineNo pos) }) s)
/-- A capture in progress ends unfinished (R186). -/
def abortCapture (c : Nat) (s : State) : State :=
  modCtx c (fun x =>
    if x.dyn.capture.isSome then
      { x with dyn := { x.dyn with capture := none }, captureEnd := some (1, lineNo (x.dyn.segPos.getD 0)) } else x) s
/-- Runs left unlabelled on a line (R193). -/
def countExhausted (c : Nat) (e : Nat × Nat) (s : State) : State :=
  let p := paced .labels c 1000000 (countCtxN c .labelExhaust e.2 s)
  if p.1 then raiseCtx c 0x0402 sevE c 0 (lineNo e.1) p.2 else p.2
/-- What segmentation of a context works with. -/
def State.segCtx (s : State) (c : Nat) (x : Ctx) : SegCtx :=
  let st := s.stitchOf c
  let n := match st with
    | some (g, _) => ((s.stitches.find g).map (·.members.length)).getD 0
    | none => 0
  { id := c, width := x.geo.width, nb := x.bands, set := x.inForce.seg, fmt := x.fmt, gapBridge := x.inForce.gapBridge
    leftN := match st with | some (_, i) => decide (0 < i) | none => false
    rightN := match st with | some (_, i) => decide (i + 1 < n) | none => false
    stitched := st.isSome, table := x.bgTable, chunks := x.chunks, free := s.freeCtr }
/-- The results of segmentation take effect. -/
def segResult (c due : Nat) (r : SegOut) (s : State) : State :=
  let s := modCtx c (fun x => { x with dyn := r.dyn }) s
  let s := countCtxN c .weak r.weak (countCtxN c .small r.small (countCtxN c .splitN r.split s))
  let s := r.exhausted.foldl (fun s e => countExhausted c e s) s
  handObjs c due r.handed (endCapture c r.captured s)
/-- Counters of the corrections. -/
def corrResult (c : Nat) (n : CorrCount) (s : State) : State :=
  countCtxN c .outlier n.outlier (countCtxN c .tdiShort n.tdiShort (countCtxN c .clip n.clip (countCtxN c .regLost n.regLost s)))
/-- What leaves the corrections goes to segmentation, or into the frame record (R115). -/
def afterCorr (c due : Nat) (r : Dyn × List Ev × CorrCount) (s : State) : State :=
  match s.ctx c with
  | none => s
  | some x =>
    let s := corrResult c r.2.2 s
    if x.kind = .fullFrame then
      r.2.1.foldl (frameEvent c) (modCtx c (fun x => { x with dyn := r.1 }) s)
    else
      let sc := s.segCtx c x
      segResult c due (r.2.1.foldl (segStage sc) { dyn := r.1 }) s
/-- One event of a context goes through corrections and segmentation; the model's counter moves on. -/
def combEvent (c due : Nat) (e : Ev) (s : State) : State :=
  match s.ctx c with
  | none => s
  | some x =>
    bumpFree (afterCorr c due (corrStages x.inForce.corr x.flat x.geo.width x.bands s.freeCtr x.dyn [e]) s)

/-! ### Stripes (R142, R143, R154) -/

/-- When a piece of work became waiting; none for lost lines that bridge (R142). -/
def Work.dueAt : Work → Option Nat
  | .line _ _ _ d _ => some d
  | .wrong _ _ d => some d
  | .lost _ _ d => d
  | .close _ _ _ d => some d
  | .stop d => some d
/-- The due time of a context on a comb (R142). -/
def Ctx.due (x : Ctx) : Option Nat :=
  if x.state = .running ∨ x.state = .stopping then
    (x.work.filterMap Work.dueAt).foldl (fun a d => match a with | some m => some (min m d) | none => some d) none
  else none
/-- Whether context `a` is served before `b` (R142). -/
def servedBefore (a b : Nat × Nat × Nat) : Bool :=
  decide (a.2.1 < b.2.1 ∨ (a.2.1 = b.2.1 ∧ (b.2.2 < a.2.2 ∨ (a.2.2 = b.2.2 ∧ a.1 < b.1))))
/-- The eligible context that comb `k` serves next: ID, due time, priority. -/
def State.nextServed (s : State) (k : Nat) : Option Nat :=
  let es := (s.residents k).filterMap fun e => e.2.due.map fun d => (e.1, d, e.2.geo.priority)
  (es.foldl (fun (a : Option (Nat × Nat × Nat)) e => match a with
    | none => some e
    | some b => if servedBefore e b then some e else some b) none).map (·.1)
/-- Waiting changes take effect on a context (R154, R173, R185 to R187). -/
def applyWaits (c : Nat) (s : State) : State :=
  match s.ctx c with
  | none => s
  | some x =>
    if x.waitGroups.isEmpty then s
    else
      let old := x.inForce
      let new : Settings := { corr := x.corr, seg := x.seg, gapBridge := x.geo.gapBridge }
      let bg := match x.bgWait with | some t => some t | none => x.bgTable
      let dyn := if x.bgWait.isSome ∨ new.seg.bgTrack ≠ old.seg.bgTrack then
          { x.dyn with bg := bgStart new.seg x.geo.width x.bands bg, trackCount := 0 } else x.dyn
      let dyn := if new.corr.blackTrack && !old.corr.blackTrack then { dyn with black := new.corr.black } else dyn
      let s := modCtx c (fun x => { x with
        inForce := new
        flat := (match x.flatWait with | some t => some t | none => x.flat), flatWait := none
        defects := x.defectsWait.getD x.defects, defectsWait := none
        bgTable := bg, bgWait := none, dyn := dyn
        toReport := x.toReport ++ x.waitGroups, waitGroups := [] }) s
      if new.corr.spatial ≠ old.corr.spatial then
        match s.ctx c with
        | some x => afterCorr c s.now (corrFlush x.inForce.corr x.flat x.geo.width x.bands x.dyn) s
        | none => s
      else s
/-- STRIPE_START (R142, R143, R154): the next stripe is chosen, or the comb gates itself. -/
def execStripeStart (k : CombId) (t : Nat) (s : State) : Host.Outcome State Fault Refusal :=
  let s := advTo t s
  let b := s.comb k
  if b.state ≠ .inUse ∨ b.gated ∨ b.copying ∨ b.cur.isSome then .next s
  else match s.nextServed k with
    | none => .next (modComb k (fun b => { b with gated := true, busyNs := b.busyNs + (s.now - b.busyFrom) }) s)
    | some c =>
      let s := if b.lastCtx = some c then s else countCtx c .switch s
      let s := modComb k (fun b => { b with cur := some c, lines := 0, lastCtx := some c }) (countCtx c .stripe s)
      -- GAP_BRIDGE takes effect at the start of the stripe (R120)
      .next (applyWaits c (modCtx c (fun x => { x with inForce := { x.inForce with gapBridge := x.geo.gapBridge } }) s))
/-- COMB_UNGATE (R143): a gated comb ungates when a context becomes eligible. -/
def execCombUngate (k : CombId) (t : Nat) (s : State) : Host.Outcome State Fault Refusal :=
  let s := advTo t s
  let b := s.comb k
  if b.state = .inUse ∧ b.gated ∧ !b.copying ∧ (s.nextServed k).isSome then
    .next (modComb k (fun b => { b with gated := false, busyFrom := s.now }) s)
  else .next s
/-- Whether a complete line waits. -/
def Ctx.lineWaits (x : Ctx) : Bool :=
  x.work.any fun w => match w with
    | .line _ _ _ _ _ => true
    | .wrong _ _ _ => true
    | _ => false
/-- The comb acts on the marks before the next line; whether a frame closed (R143). -/
def actMarks (c : Nat) : Nat → State → Bool × State
  | 0, s => (false, s)
  | n + 1, s =>
    match s.ctx c with
    | none => (false, s)
    | some x =>
      let rest := modCtx c (fun x => { x with work := x.work.drop 1 }) s
      match x.work with
      | .lost p m d :: r =>
        if d.isNone ∧ r.isEmpty then (false, s)
        else actMarks c n (combEvent c (d.getD s.now) (.lost p m (decide (x.inForce.gapBridge < m))) rest)
      | .close _ sh lo d :: _ => (true, combEvent c d (.close sh lo) rest)
      | .stop d :: _ => actMarks c n (abortCapture c (combEvent c d .stop rest))
      | _ => (false, s)
/-- CORR_APPLIED for the changes that the stripe of this line applied (R154). -/
def reportApplied (c pos : Nat) (s : State) : State :=
  match s.ctx c with
  | none => s
  | some x =>
    x.toReport.foldl (fun s g => raiseCtx c 0x0301 sevI c g (lineNo pos) s) (modCtx c (fun x => { x with toReport := [] }) s)
/-- A line is taken from intake. -/
def takeLine (c pos : Nat) (s : State) : State :=
  reportApplied c pos (modCtx c (fun x => { x with work := x.work.drop 1, dyn := { x.dyn with lastIn := some pos } }) s)
/-- The next line is processed; whether there was one. -/
def oneLine (c : Nat) (s : State) : Bool × State :=
  match s.ctx c with
  | none => (false, s)
  | some x =>
    match x.work with
    | .line p idx t d codes :: _ =>
      let v := codes.map (·.map (internalDn x.b))
      let r := defectLine x.inForce.corr x.defects idx v
      let s := if r.2 then countCtx c .defectUnrepl s else s
      let s := modCtx c (fun x => { x with recs := modRec (·.isOpen) (fun f =>
        { f with base := some (f.base.getD (p - idx)) }) x.recs }) (takeLine c p s)
      (true, combEvent c d (.line p t r.1 1) s)
    | .wrong p t d :: _ => (true, combEvent c d (.wrong p t) (takeLine c p s))
    | _ => (false, s)
/-- A stripe ends; the first stripe on a spare ends what RESUMED covers (R148). -/
def endStripe (k c : Nat) (s : State) : State :=
  modComb k (fun b => { b with cur := none })
    (modCtx c (fun x => if x.dyn.resuming then
        { x with dyn := { x.dyn with
            resuming := false
            resumeTo := some (x.dyn.lastIn.getD 0 / (if x.inForce.corr.tMode = 2 then max 1 x.inForce.corr.tdiRows else 1)) } }
      else x) s)
/-- COMB_LINE (R143, R152): marks before the next line, then the line; the stripe ends where due. A FULL_FRAME context
whose record has not yet been started waits for FRAME_RECORD_START. -/
def execCombLine (k : CombId) (t : Nat) (s : State) : Host.Outcome State Fault Refusal :=
  let s := advTo t s
  let b := s.comb k
  match b.cur with
  | none => .next s
  | some c =>
    match s.ctx c with
    | none => .next (modComb k (fun b => { b with cur := none }) s)
    | some x =>
      if b.state ≠ .inUse ∨ (x.kind = .fullFrame ∧ ((x.recs.find? (·.isOpen)).map (·.phase)) = some .opened) then .next s
      else
        let m := actMarks c x.work.length s
        if m.1 then .next (endStripe k c m.2)
        else
          let l := oneLine c m.2
          let s := if l.1 then modComb k (fun b => { b with lines := b.lines + 1 }) l.2 else l.2
          let more := match s.ctx c with
            | some x => x.lineWaits && decide ((s.comb k).lines < x.geo.stripe)
            | none => false
          .next (if more then s else endStripe k c s)

/-! ### Faults and spares (R145 to R149) -/

/-- Lines a comb holds unfinished: places and rows (R148). -/
def Dyn.unfinished (d : Dyn) (c : CorrSet) : List (Nat × Nat) :=
  let v := c.regV.foldl max 0
  let newest := (d.reg.map (·.pos)).foldl max 0
  let l := (d.win5.drop d.left5).filterMap (fun m => m.bands.map fun _ => (m.pos, m.rows))
    ++ d.reg.filterMap (fun m => if newest < m.pos + v then m.bands.map fun _ => (m.pos, m.rows) else none)
    ++ (d.pass1.getLast?.toList ++ d.pass2.getLast?.toList).filterMap (fun m => m.mask.map fun _ => (m.pos, m.rows))
    ++ d.tdi.map (fun a => (a.out, a.count))
  l.foldl (fun acc p => if acc.any (·.1 == p.1) then acc else acc ++ [p]) []
/-- What a failed comb loses of a context (R148): live objects and unfinished lines; closed objects are cut. -/
def loseDyn (c : Nat) (s : State) : State :=
  match s.ctx c with
  | none => s
  | some x =>
    let un := x.dyn.unfinished x.inForce.corr
    let n := sumList (un.map (·.2))
    let r := cutAll (s.segCtx c x) { dyn := x.dyn }
    let s := if x.kind = .fullFrame then s else handObjs c s.now r.handed s
    let s := countCtxN c .objLost x.dyn.live.length s
    countLost c n ((un.map (·.1)).foldl min ((un.map (·.1)).headD 0)) (abortCapture c s)
/-- A context enters FAULTED; `unit` is the comb that failed, 0xFFFF_FFFF none (R149, R510). -/
def ctxFaulted (c unit : Nat) (s : State) : State :=
  raiseCtx c 0x0209 sevE c unit 0 (modCtx c (fun x => { x with state := .faulted, slots := [], work := [], frame := none }) s)
/-- A comb fault (R147 to R149). -/
def combFault (k : Nat) (s : State) : State :=
  if (s.comb k).state = .failed then s
  else
    let owner := s.ownerOf .comb k
    let res := s.residents k
    let spare := (List.range 24).find? fun j => decide (j ≠ k) && (s.comb j).state == .spare
    let safe := res.filter fun e => s.isProtected e.1
    let s := detectFault clsComb k s
    let s := res.foldl (fun s e => loseDyn e.1 s) s
    let moved := if spare.isSome then safe.map (·.1) else []
    let s := setOwner .comb k ownKeeper (modComb k (fun _ => { state := .failed }) s)
    let s := match spare with
      | some j =>
        if moved.isEmpty then s
        else
          let s := setOwner .comb j owner (modComb j (fun _ => { state := .inUse, gated := false, copying := true, busyFrom := s.now }) s)
          let s := moved.foldl (fun s c => modCtx c (fun x => { x with comb := some j }) s) s
          let p2 := leAt ((moved ++ List.replicate 8 255).map (BitVec.ofNat 8)) 0 8
          raise 0x0208 sevW k j p2 [owner] (honey (hoComb k 40) s)
      | none => s
    (res.filter fun e => !moved.contains e.1).foldl (fun s e => ctxFaulted e.1 k s) s
/-- COMB_FAULT. -/
def execCombFault (k : CombId) (t : Nat) (s : State) : Host.Outcome State Fault Refusal := .next (combFault k (advTo t s))
/-- SPARE_COPY_DONE (R147, R178): the static tables are in the spare's line bank; the moved contexts start afresh. -/
def execSpareCopyDone (k : CombId) (t : Nat) (s : State) : Host.Outcome State Fault Refusal :=
  let s := advTo t s
  if !(s.comb k).copying then .next s
  else
    let start := fun (x : Ctx) =>
      let x := { x with flat := x.flatCopy, flatWait := none, defects := x.defectsCopy.getD [], defectsWait := none
                        bgTable := x.bgCopy, bgWait := none }
      { x with dyn := { startDyn x with resumeFrom := some 0, resuming := true } }
    .next (modComb k (fun b => { b with copying := false })
      ((s.residents k).foldl (fun s e => modCtx e.1 start s) s))

/-! ### Timers of intake and the end of a stop (R127, R133, R119) -/

/-- LINE_TIMEOUT_EXPIRY (R133): a line still incomplete at the end of its wait is lost. -/
def execLineTimeoutExpiry (c : CtxId) (lineNo : Nat) (s : State) : Host.Outcome State Fault Refusal :=
  match s.ctx c with
  | none => .next s
  | some x =>
    match x.slots.findSome? fun y => match y with
        | .line p _ _ (some d) => if Machine.lineNo p = lineNo then some (p, d) else none
        | _ => none with
    | none => .next s
    | some (p, d) => .next (breakLine c p (advTo d s))
/-- FRAME_TIMEOUT_EXPIRY (R127, R129): the open frame closes; without one, a long frame is reported. -/
def execFrameTimeoutExpiry (c : CtxId) (s : State) : Host.Outcome State Fault Refusal :=
  match s.ctx c with
  | none => .next s
  | some x =>
    match x.frame, x.longFrame with
    | some f, _ => .next (closeFrame c none false (advTo f.deadline s))
    | none, some f => .next (reportLong c (advTo f.deadline s))
    | none, none => .next s
/-- CTX_STOPPED (R119): no line of the context is left in intake or comb. -/
def execCtxStopped (c : CtxId) (s : State) : Host.Outcome State Fault Refusal :=
  match s.ctx c with
  | none => .next s
  | some x =>
    let busy := match x.comb with
      | some k => (s.comb k).cur == some c.val
      | none => false
    if x.state = .stopping ∧ x.slots.isEmpty ∧ x.work.isEmpty ∧ x.frame.isNone ∧ !busy then
      .next (raiseCtx c 0x0201 sevI c 0 0 (modCtx c (fun x => { x with state := .admitted, stopAt := none }) s))
    else .next s
/-- BG_CAPTURED (R186): the end of a capture is reported. -/
def execBgCaptured (c : CtxId) (s : State) : Host.Outcome State Fault Refusal :=
  match (s.ctx c).bind (·.captureEnd) with
  | none => .next s
  | some (p, l) => .next (raiseCtx c 0x0401 sevI c p l (modCtx c (fun x => { x with captureEnd := none }) s))

end Sys2Proof.Machine
end

