-- ==== Sys2Proof/Machine/Waggle.lean ====
section
/-! DEFINITION. The waggle router (15_waggle_router.md). One step of the block is one origin, or all the origins of one
register write, in one tick; what takes effect at the end of the tick does so at the end of the step. -/
namespace Sys2Proof.Machine

/-- Channel `c`. -/
def State.chan (s : State) (c : Nat) : WgChan := s.wag.chans.getD c {}
/-- Change channel `c`. -/
def modChan (c : Nat) (g : WgChan → WgChan) (s : State) : State :=
  { s with wag := { s.wag with chans := s.wag.chans.put c (g (s.chan c)) } }
/-- Group `g`. -/
def State.wgGroup (s : State) (g : Nat) : WgGroup := s.wag.groups.getD g {}
/-- Change group `g`. -/
def modWgGroup (g : Nat) (h : WgGroup → WgGroup) (s : State) : State :=
  { s with wag := { s.wag with groups := s.wag.groups.put g (h (s.wgGroup g)) } }
/-- The key of input `i` of a consumer (R399). -/
def wgKey (kind index i : Nat) : Nat := kind * 65536 + index * 256 + i
/-- A consumer input. -/
def State.wgInput (s : State) (k : Nat) : WgInput := s.wag.inputs.getD k {}
/-- Change a consumer input. -/
def modWgInput (k : Nat) (g : WgInput → WgInput) (s : State) : State :=
  { s with wag := { s.wag with inputs := s.wag.inputs.put k (g (s.wgInput k)) } }
/-- The counters of a channel, and of a consumer input. -/
inductive WgCnt where
  | fire | loop | rate | exported | noRoute | importDenied
inductive WgInCnt where
  | delivered | coinc | dropped
/-- Count one on channel `c`. -/
def countChan (c : Nat) (k : WgCnt) (s : State) : State := modChan c (fun v => { v with counts := count v.counts k.ctorIdx }) s
/-- Count one on a consumer input. -/
def countInput (k : Nat) (n : WgInCnt) (s : State) : State := modWgInput k (fun v => { v with counts := count v.counts n.ctorIdx }) s

/-- The tick of the present: the first at or after it (R393: 0.8 ns). -/
def State.tick (s : State) : Nat := ceilDiv (5 * s.now) 4
/-- Channel events reach the owner; those of a hive-owned channel the trusted function (R404, R409). -/
def State.chanTo (s : State) (c : Nat) : List Nat :=
  let o := s.ownerOf .channel c
  [if o = ownHive then s.sys.trusted else o]
/-- The owner of a consumer (Table 15-3). -/
def State.consumerOwner (s : State) (kind index : Nat) : Nat :=
  match kind with
  | 1 => s.ownerOf .gpio index
  | 2 => index
  | 3 => s.ownerOf .lane index
  | 4 => s.ownerOf .encoder index
  | 5 => s.ownerOf .encoder index
  | 7 => s.ownerOf .channel index
  | _ => s.sys.trusted
/-- Whether a consumer's resource is in the required mode (Table 15-3). -/
def State.consumerReady (s : State) (kind index : Nat) : Bool :=
  match kind with
  | 1 => (s.pin index).mode.drives
  | 2 => s.present index
  | 3 => (s.lane index).cfg.mode == .camRx
  | 5 => !(s.enc index).ssi
  | _ => true

/-- What takes effect at the end of the tick, or whose order within the tick the spec fixes (R397, R399). -/
inductive TickEnd where
  | pin (p i : Nat)
  | stamp (f c : Nat)
  | group (g : Nat) (on : Bool)
  | oneshot (c : Nat)
deriving DecidableEq, Repr

/-- Occurrences still to be taken up within the tick: channel and generation. -/
abbrev WgWork := List (Nat × Nat)

/-- A firing reaches a consumer input (R400). -/
def deliver (key c gen : Nat) (w : WgWork) (e : List TickEnd) (s : State) : WgWork × List TickEnd × State :=
  let kind := key / 65536
  let index := key / 256 % 256
  let i := key % 256
  let v := s.wgInput key
  if v.lastTick = some s.tick then
    let e' := if kind = 2 then e ++ [.stamp index c] else e
    (w, e', countInput key .coinc s)
  else if !s.consumerReady kind index ∨ s.consumerOwner kind index ≠ s.ownerOf .channel c ∧ kind ≠ 8 then
    (w, e, countInput key .dropped s)
  else
    let s := countInput key .delivered (modWgInput key (fun v => { v with last := s.now, lastTick := some s.tick }) s)
    match kind with
    | 1 => (w, e ++ [.pin index i], s)
    | 2 => (w, e ++ [.stamp index c], s)
    | 3 => (w, e, sendEvent (s.head index) 1 i s.now s)
    | 4 => (w, e, setEmu index (i == 0) s)
    | 5 => (w, e, modEnc index (fun v => { v with count := 0, cRef := none }) s)
    | 7 => (w ++ [(index, gen)], e, s)
    | 8 => (w, e, { s with vps := (match s.vps.find index with
        | some v => s.vps.put index { v with want := if v.mode = .off then v.want else some .safe }
        | none => s.vps) })
    | _ => (w, e, s)

/-- Deliver to a list of inputs. -/
def deliverAll (c gen : Nat) : List Nat → WgWork → List TickEnd → State → WgWork × List TickEnd × State
  | [], w, e, s => (w, e, s)
  | k :: r, w, e, s =>
    let x := deliver k c gen w e s
    deliverAll c gen r x.1 x.2.1 x.2.2

/-- An exported channel's firing goes into the hive with its agreed time (R405, R406). -/
def wgSend (c : Nat) (s : State) : State :=
  match (s.chan c).xport with
  | none => s
  | some x =>
    let flags := (if x.broadcast then hfBroadcast else 0) + (if (s.chan c).secure then hfSecure else 0)
    let r := hsend 2 0 flags x.device (b64 (s.now + x.d) ++ b8 x.remote ++ b8 c ++ zeros 6) s
    if r.1 then countChan c .exported r.2
    else
      raise 0x0804 sevE c (if x.broadcast then wordNone else x.device) 0 (s.chanTo c) (countChan c .noRoute s)

/-- A channel fires (R393, R395, R397, R405). -/
def fireChan (c gen : Nat) (w : WgWork) (e : List TickEnd) (s : State) : WgWork × List TickEnd × State :=
  let s := countChan c .fire (modChan c (fun v => { v with lastFire := s.now, gens := v.gens ++ [gen] }) s)
  let groups := (s.wag.groups.filterMap fun g => if g.2.onCh = some c then some (TickEnd.group g.1 true) else none)
    ++ (s.wag.groups.filterMap fun g => if g.2.offCh = some c then some (TickEnd.group g.1 false) else none)
  let keys := (s.wag.inputs.filter fun k => k.2.a == some c || k.2.b == some c).map (·.1)
  deliverAll c gen keys w (e ++ groups) (wgSend c s)

/-- LOOP_CNT or RATE_LIMIT_CNT counts, with the event of R402. -/
def wgLimit (c : Nat) (k : WgCnt) (p : Pace) (code : Nat) (s : State) : State :=
  let s := countChan c k s
  let r := paced p c 1000000 s
  if r.1 then raise code sevW c 0 0 (s.chanTo c) r.2 else r.2

/-- An occurrence of generation `gen` reaches channel `c` and passes the stages of Table 15-1. -/
def occur (c gen : Nat) (w : WgWork) (e : List TickEnd) (s : State) : WgWork × List TickEnd × State :=
  let v := s.chan c
  let same := v.occTick == some s.tick
  if same && v.gens.contains gen then
    (w, e, wgLimit c .loop .wgLoop 0x0801 (modChan c (fun v => { v with loop := true }) s))
  else if same then (w, e, s)
  else
    let s := modChan c (fun v => { v with occTick := some s.tick, gens := [] }) s
    if !v.enable ∨ !(s.wgGroup (c / 8)).enabled then (w, e, s)
    else
      let s := modChan c (fun v => { v with divSeen := v.divSeen + 1 }) s
      if v.divSeen % (max 1 v.divider) ≠ 0 then (w, e, s)
      else if (match v.lastPass with | some l => decide (s.now < l + v.minInterval) | none => false) then
        (w, e, wgLimit c .rate .wgRate 0x0802 s)
      else
        let s := modChan c (fun v => { v with lastPass := some s.now }) s
        let e := if v.oneshot then e ++ [.oneshot c] else e
        if v.delay = 0 then fireChan c gen w e s
        else (w, e, modChan c (fun v => { v with held := if v.held.length < 64 then v.held ++ [s.now + v.delay] else v.held }) s)

/-- Take up occurrences until none is left (R401: each propagation fires each channel at most once). -/
def propagate : Nat → WgWork → List TickEnd → State → List TickEnd × State
  | 0, _, e, s => (e, s)
  | _ + 1, [], e, s => (e, s)
  | n + 1, (c, gen) :: r, e, s =>
    let x := occur c gen r e s
    propagate n x.1 x.2.1 x.2.2

/-- A pin's firings of one tick apply in the order CLEAR, SET, TOGGLE (Table 15-3). -/
def endPin (p : Nat) (e : List TickEnd) (s : State) : State :=
  let has := fun i => e.contains (.pin p i)
  let s := if has 1 then setPin p false s else s
  let s := if has 0 then setPin p true s else s
  if has 2 then setPin p (!(s.pin p).out) s else s
/-- The event of a stamp input: the channels of its ports that fired (Table 15-7). -/
def endStamp (f : Nat) (e : List TickEnd) (s : State) : State :=
  let v := s.wgInput (wgKey 2 f 0)
  let port := fun (x : Option Nat) => match x with
    | some c => if e.contains (.stamp f c) then c else wordNone
    | none => wordNone
  raise 0x0803 sevI (port v.a) (port v.b) s.now [f] s
/-- The end of the tick (R394, R397, R399). -/
def endTick (e : List TickEnd) (s : State) : State :=
  let pins := (e.filterMap fun x => match x with | .pin p _ => some p | _ => none).eraseDups
  let stamps := (e.filterMap fun x => match x with | .stamp f _ => some f | _ => none).eraseDups
  let s := pins.foldl (fun s p => endPin p e s) s
  let s := stamps.foldl (fun s f => endStamp f e s) s
  let grp := fun (on : Bool) (s : State) => e.foldl (fun s x => match x with
    | .group g o => if o = on then modWgGroup g (fun v => { v with enabled := on }) s else s
    | _ => s) s
  let s := grp false (grp true s)
  e.foldl (fun s x => match x with
    | .oneshot c => modChan c (fun v => { v with enable := false }) s
    | _ => s) s

/-- Origins at the channels `cs` in one tick: `merged` for one origin that reaches them all (a producer), else each
channel an origin of its own (R401, R403). -/
def originate (cs : List Nat) (merged : Bool) (s : State) : State :=
  let g := s.wag.gen
  let w := cs.zip (if merged then List.replicate cs.length g else (List.range cs.length).map (g + ·))
  let s := { s with wag := { s.wag with gen := g + (if merged then 1 else cs.length) } }
  let x := propagate (1024 * (cs.length + 1)) w [] s
  endTick x.1 x.2

/-- Whether a producer code names a level producer (Table 15-2). -/
def wgLevel (p : Nat) : Bool := p / 65536 == 1 || p / 65536 == 3

/-- PRODUCER_OCCURRENCE (R394, R396): every channel fed by the producer whose EDGE it satisfies. -/
def execProducerOccurrence (producer : Nat) (rise : Bool) (t : Nat) (s : State) : Host.Outcome State Fault Refusal :=
  let s := advTo t s
  let cs := (s.wag.chans.filter fun c => c.2.producer == some producer
    && (!wgLevel producer || c.2.edge == 2 || (c.2.edge == 0 && rise) || (c.2.edge == 1 && !rise))).map (·.1)
  .next (if cs.isEmpty then s else originate cs true s)

/-- CHANNEL_DELAY_FIRE (R394, R401): the earliest occurrence of the delay stage fires as a new origin. -/
def execChannelDelayFire (c : Chan) (s : State) : Host.Outcome State Fault Refusal :=
  .next (match (s.chan c).held with
    | [] => s
    | h :: r =>
      let s := advTo h (modChan c (fun v => { v with held := r }) s)
      let g := s.wag.gen
      let s := { s with wag := { s.wag with gen := g + 1 } }
      let x := fireChan c g [] [] (modChan c (fun v => { v with
        gens := if v.occTick = some s.tick then v.gens else [], occTick := some s.tick }) s)
      let y := propagate 1024 x.1 x.2.1 x.2.2
      endTick y.1 y.2)

/-- A write of function `f` fires its channels of `cs` in one tick, each an origin of its own; a channel that is not its own,
or SECURE and not the trusted function's, makes the write count once (R403, R9). In compatibility the registers are
reserved (Table 23-1). -/
def wgFire (f : Nat) (cs : List Nat) (s : State) : State :=
  let ok := fun c => s.owns f .channel c && (!(s.chan c).secure || f == s.sys.trusted)
  if s.sys.straps.compat then s
  else
    let s1 := if cs.all ok then s else countHp f .barDrop s
    let l := cs.filter ok
    if l.isEmpty then s1 else originate l false s1
/-- WG_FIRE_WRITE (R403, R9): `bits` of WG_FIREr, and of the next register where `wide`. -/
def execWgFireWrite (f : Fn) (r : Fin 8) (bits : BitVec 64) (wide : Bool) (t : Nat) (s : State) :
    Host.Outcome State Fault Refusal :=
  let s := advTo t s
  let n := if wide && decide (r.val < 7) then 64 else 32
  .next (if s.decodes f then wgFire f ((setBits n bits.toNat).map (32 * r.val + ·)) (tlp f s) else barLost f s)

/-- An import is denied, dropped at a full queue, or held for its agreed time (R407). -/
def wgImport (src : Nat) (secure : Bool) (body : List Byte) (s : State) : State :=
  let c := byteAt body 8
  let due := u64At body 0
  if s.ownerOf .channel c ≠ ownHive ∨ ((s.chan c).secure && !secure) then countChan c .importDenied s
  else if 1024 ≤ s.wag.imports.length then
    raise 0x0711 sevE (2 + 256 * 2) 0 c [s.sys.trusted]
      { s with flight := { s.flight with counts := count s.flight.counts (6 + 2) } }
  else
    modChan c (fun v => { v with lastImport := due }) { s with wag := { s.wag with
      imports := s.wag.imports ++ [{ id := s.wag.importIds, chan := c, due := due, tol := Config.exportD src (byteAt body 9) }]
      importIds := s.wag.importIds + 1 } }
/-- WG_IMPORT_RECEIVED (R407). -/
def execWgImportReceived (src : Nat) (secure : Bool) (body : List Byte) (t : Nat) (s : State) :
    Host.Outcome State Fault Refusal :=
  .next (wgImport src secure body (advTo t s))

/-! ### Commands (Table 13-9, R362) -/

/-- A producer word that Table 15-2 lists and whose resource is in the mode given (R398). -/
def State.producerOk (s : State) (p : Nat) : Bool :=
  let sub := p / 256 % 256
  let i := p % 256
  match p / 65536 with
  | 1 => sub == 0 && decide (i < 64) && !(s.pin i).mode.drives
  | 2 => sub == 0 && decide (i < 8)
  | 3 => sub == 0 && decide (i < 8)
  | 4 => decide (sub < 16) && decide (i < 96) && (s.lane i).cfg.mode == .camRx
  | 5 => decide (sub < 16) && decide (i < 96) && (s.lane i).cfg.mode == .camTx
  | 6 => sub == 0 && (s.ctxs.find i).isSome
  | 7 => decide (sub < 2) && decide (i < 32)
  | 8 => sub == 0 && decide (i < 8)
  | 9 => sub == 0 && i == 0
  | 10 => sub == 0 && i == 0
  | 11 => sub == 0 && i == 0
  | _ => false
/-- Whether the caller owns the resource of a producer (Table 15-2). -/
def State.producerOwned (s : State) (fn p : Nat) : Bool :=
  let i := p % 256
  match p / 65536 with
  | 1 => s.owns fn .gpio i
  | 2 => s.owns fn .encoder i
  | 3 => s.owns fn .encoder i
  | 4 => s.owns fn .lane i
  | 5 => s.owns fn .lane i
  | 6 => (match s.ctxs.find i with | some x => x.owner == fn | none => true)
  | 7 => s.owns fn .pairing i
  | 8 => s.owns fn .valvePort i
  | 9 => s.isTrusted fn
  | 11 => s.isTrusted fn
  | _ => true
/-- A command on a SECURE channel needs the trusted function (R362). -/
def secureOk (r : Req) (s : State) (c : Nat) (extra : Bool) : Bool × Fail :=
  (!((s.chan c).secure || extra) || s.isTrusted r.fn, failSt stDenied)

/-- 0x0801 WG_CONFIGURE. -/
def cmdWgConfigure : Cmd where
  op := 0x0801
  len := lenIs 36
  reads := false
  named := fun r s =>
    let c := r.u32 0
    let p := r.u32 4
    firstFail [named 256 0 r, field (p == wordNone || s.producerOk p) 4, ownedBy r s .channel c,
      (p == wordNone || s.producerOwned r.fn p, failSt stDenied), secureOk r s c (r.u32 0x1C == 1)]
  run := fun r s =>
    let c := r.u32 0
    let p := optWord (r.u32 4)
    let inR := fun (o lo hi : Nat) => field (decide (lo ≤ r.u32 o ∧ r.u32 o ≤ hi)) o
    checked [inR 8 0 2, inR 0xC 0 10000000, inR 0x10 1 65535, inR 0x14 0 1, inR 0x18 8 1000000000,
      inR 0x1C 0 1, inR 0x20 0 1, field (decide (r.u32 0xC ≤ 64 * r.u32 0x18)) 0xC,
      field (p.map (· / 65536) != some 11 || r.u32 0x1C == 1) 4] fun _ =>
      .ok (modChan c (fun v => { v with
        producer := p, edge := r.u32 8, delay := r.u32 0xC, divider := r.u32 0x10, oneshot := r.u32 0x14 == 1,
        minInterval := r.u32 0x18, secure := r.u32 0x1C == 1, enable := r.u32 0x20 == 1, divSeen := 0 }) s) []
/-- WG_CONFIGURE. -/
def execWgConfigure (f : Fn) (m : Mbx) (s : State) : Host.Outcome State Fault Refusal := .next (serve cmdWgConfigure f m s)

/-- Indices and inputs of a consumer kind (Table 15-3). -/
def consumerShape : Nat → Option (Nat × Nat)
  | 1 => some (64, 3)
  | 2 => some (4, 1)
  | 3 => some (96, 16)
  | 4 => some (8, 2)
  | 5 => some (8, 1)
  | 7 => some (256, 1)
  | 8 => some (8, 1)
  | _ => none
/-- A CONSUMER word that may be connected (R399). -/
def consumerOk (w : Nat) : Bool :=
  match consumerShape (w / 65536) with
  | some x => w / 256 % 256 == 0 && decide (w % 256 < x.1)
  | none => false

/-- 0x0802 WG_CONNECT. -/
def cmdWgConnect : Cmd where
  op := 0x0802
  len := lenIs 12
  reads := false
  named := fun r s =>
    let w := r.u32 0
    let c := r.u32 8
    firstFail [field (consumerOk w) 0, field (decide (c < 256 ∨ c = wordNone)) 8,
      (s.consumerOwner (w / 65536) (w % 256) == r.fn || (w / 65536 == 8 && s.isTrusted r.fn), failSt stDenied),
      (c == wordNone || s.owns r.fn .channel c, failSt stDenied),
      (c == wordNone || (secureOk r s c false).1, failSt stDenied)]
  run := fun r s =>
    let w := r.u32 0
    let i := r.u32 4
    let c := optWord (r.u32 8)
    let key := wgKey (w / 65536) (w % 256) (i / 2)
    checked [field (match consumerShape (w / 65536) with | some x => decide (i < 2 * x.2) | none => false) 4,
      field (w / 65536 != 1 || (s.pin (w % 256)).mode.drives) 0,
      field (w / 65536 != 3 || (s.lane (w % 256)).cfg.mode == .camRx) 0,
      field (w / 65536 != 5 || !(s.enc (w % 256)).ssi) 0,
      field (w / 65536 != 8 || (match c with | some c => (s.chan c).secure | none => true)) 8] fun _ =>
      .ok (modWgInput key (fun v => if i % 2 = 0 then { v with a := c } else { v with b := c }) s) []
/-- WG_CONNECT. -/
def execWgConnect (f : Fn) (m : Mbx) (s : State) : Host.Outcome State Fault Refusal := .next (serve cmdWgConnect f m s)

/-- 0x0803 WG_SET_GROUP. -/
def cmdWgSetGroup : Cmd where
  op := 0x0803
  len := lenIs 16
  reads := false
  named := fun r s =>
    let g := r.u32 0
    let ch := fun o => field (decide (r.u32 o < 256 ∨ r.u32 o = wordNone)) o
    let own := fun o => (r.u32 o == wordNone || s.owns r.fn .channel (r.u32 o), failSt stDenied)
    firstFail [named 32 0 r, ch 4, ch 8, ((List.range 8).all fun i => s.owns r.fn .channel (8 * g + i), failSt stDenied),
      own 4, own 8, ((List.range 8).all fun i => (secureOk r s (8 * g + i) false).1, failSt stDenied)]
  run := fun r s =>
    checked [field (decide (r.u32 0xC ≤ 1)) 0xC] fun _ =>
      .ok (modWgGroup (r.u32 0) (fun _ => { onCh := optWord (r.u32 4), offCh := optWord (r.u32 8), enabled := r.u32 0xC == 1 }) s) []
/-- WG_SET_GROUP. -/
def execWgSetGroup (f : Fn) (m : Mbx) (s : State) : Host.Outcome State Fault Refusal := .next (serve cmdWgSetGroup f m s)

/-- The commit of WG_EXPORT. -/
def wgExportCommit (r : Req) (s : State) : State :=
  let c := r.u32 0
  let on := bit (r.u32 8) 1
  modChan c (fun v => { v with
    xport := if on then some { device := r.u32 4, broadcast := bit (r.u32 8) 0, remote := r.u32 0xC
                               d := if r.u32 0x10 = 0 then 4000 else r.u32 0x10 } else none }) s
/-- The first owner of `left` on a hive device is asked for by DEV_GET_OWNER (R230, R362). -/
def askOwner (r : Req) (device kind : Nat) (left : List Nat) (s : State) : Answer :=
  match left with
  | [] => .ok s []
  | i :: _ =>
    let x := sendRemote device r.fn 0x0004 0 r.tag (b32 kind ++ b32 i) s
    if x.1 then .wait { x.2 with
      waiting := some { fn := r.fn, mbx := r.mbx, since := s.now, what := .owners device kind left } } true
    else .fail (failSt stHiveUnreachable)

/-- 0x0804 WG_EXPORT. -/
def cmdWgExport : Cmd where
  op := 0x0804
  len := lenIs 20
  reads := false
  named := fun r s => firstFail [named 256 0 r, ownedBy r s .channel (r.u32 0), secureOk r s (r.u32 0) false]
  run := fun r s =>
    let bc := bit (r.u32 8) 0
    let on := bit (r.u32 8) 1
    let d := if r.u32 0x10 = 0 then 4000 else r.u32 0x10
    let hops := if bc then s.hopsAll else s.hops (r.u32 4)
    checked [(s.inHive, failSt stNotInMode), field (bc || decide (r.u32 4 < 65536)) 4, field (decide (r.u32 8 ≤ 3)) 8,
      field (decide (r.u32 0xC < 256)) 0xC, field (!on || decide (1500 * hops + 500 ≤ d)) 0x10] fun _ =>
      if !on ∨ bc then .ok (wgExportCommit r s) []
      else if r.u32 4 = s.deviceId then
        (if s.ownerOf .channel (r.u32 0xC) = ownHive then .ok (wgExportCommit r s) [] else .fail (failSt stDenied))
      else askOwner r (r.u32 4) 5 [r.u32 0xC] s
/-- WG_EXPORT. -/
def execWgExport (f : Fn) (m : Mbx) (s : State) : Host.Outcome State Fault Refusal := .next (serve cmdWgExport f m s)

/-- The consumer key of a WG_GET_STATUS word of view 0b01 (Table 15-6): bits 23:16 KIND, 15:8 INDEX, 7:0 INPUT. -/
def statusKey (w : Nat) : Nat := wgKey (bits w 16 8) (bits w 8 8) (bits w 0 8 / 2)
/-- 0x0805 WG_GET_STATUS. -/
def cmdWgGetStatus : Cmd where
  op := 0x0805
  len := lenIs 4
  reads := true
  named := fun r s =>
    let w := r.u32 0
    let view := bits w 30 2
    let shape := match consumerShape (bits w 16 8) with
      | some x => decide (bits w 8 8 < x.1 ∧ bits w 0 8 < 2 * x.2)
      | none => false
    if view = 1 then firstFail [field (bits w 24 6 == 0 && shape) 0,
      (s.consumerOwner (bits w 16 8) (bits w 8 8) == r.fn || (bits w 16 8 == 8 && s.isTrusted r.fn), failSt stDenied)]
    else firstFail [field (view != 3 && bits w 8 22 == 0) 0, ownedBy r s .channel (bits w 0 8), secureOk r s (bits w 0 8) false]
  run := fun r s =>
    let w := r.u32 0
    if bits w 30 2 = 1 then
      let k := statusKey w
      let v := s.wgInput k
      .ok (if r.clear then modWgInput k (fun v => { v with counts := cntClear v.counts 0 3 }) s else s)
        (b32 (b2n v.a.isSome + 2 * b2n v.b.isSome) ++ cntBytes v.counts 0 3 ++ b64 v.last)
    else
      let c := bits w 0 8
      let v := s.chan c
      if bits w 30 2 = 0 then
        .ok (if r.clear then modChan c (fun v => { v with counts := cntClear v.counts 0 3, loop := false }) s else s)
          (b32 (b2n v.enable + 2 * b2n v.loop + 4 * b2n (s.wgGroup (c / 8)).enabled + 8 * b2n v.xport.isSome)
            ++ cntBytes v.counts 0 3 ++ b64 v.lastFire)
      else
        .ok (if r.clear then modChan c (fun v => { v with counts := cntClear v.counts 3 3 }) s else s)
          (b32 (b2n v.xport.isSome + 2 * (match v.xport with | some x => b2n x.broadcast | none => 0))
            ++ cntBytes v.counts 3 3 ++ b64 v.lastImport)
/-- WG_GET_STATUS. -/
def execWgGetStatus (f : Fn) (m : Mbx) (s : State) : Host.Outcome State Fault Refusal := .next (serve cmdWgGetStatus f m s)

end Sys2Proof.Machine
end

