-- ==== Sys2Proof/Machine/FlightOps.lean ====
section
/-! DEFINITION. The flight bank (14_hive_time_and_schedules.md, R386 to R391) and the placing of pulses
(08_pairing_flight_decisions.md, R233 to R235). -/
namespace Sys2Proof.Machine

/-- Change the schedule. -/
def modFlight (g : Flight → Flight) (s : State) : State := { s with flight := g s.flight }
/-- Actions the flight bank holds (R386). -/
def flightSize : Nat := 262144
/-- Actions free in the flight bank. -/
def State.flightFree (s : State) : Nat := flightSize - s.flight.actions.length
/-- The lowest index from `i` on that a rising table does not list. -/
def lowestFree {α : Type} : Table α → Nat → Nat
  | [], i => i
  | (j, _) :: r, i => if j = i then lowestFree r (i + 1) else i
/-- An action is placed in the lowest free slot. -/
def placeAction (a : Action) (s : State) : Nat × State :=
  let n := lowestFree s.flight.actions 0
  (n, modFlight (fun f => { f with
    actions := f.actions.put n { a with order := f.order, placedAt := s.now }, order := f.order + 1 }) s)
/-- An action's slot is freed; its use count rises (R361, R386). -/
def freeAction (n : Nat) (s : State) : State :=
  modFlight (fun f => { f with actions := f.actions.erase n, uses := f.uses.put n ((f.uses.getD n 0 + 1) % 16384) }) s
/-- The handle of a slot (R361). -/
def State.handle (s : State) (n : Nat) : Nat := n + 262144 * s.flight.uses.getD n 0

/-- Class codes of Table 13-8. -/
def classCode : ActClass → Nat := ActClass.ctorIdx
/-- Who hears of a late or dropped action (R391). -/
def State.actTo (s : State) (a : Action) : List Nat :=
  match a.placer with
  | .cmd f => [f]
  | _ => s.toOwner .valvePort (a.target / 512)
/-- A late action is counted and may be reported (R389, R391). -/
def schedLate (cls late target : Nat) (fns : List Nat) (s : State) : State :=
  let s := modFlight (fun f => { f with counts := count f.counts cls }) s
  let p := paced .schedLate cls 1000000 s
  if p.1 then raise 0x0710 sevW cls (min late 0xFFFFFFFF) target fns p.2 else p.2
/-- A dropped action is counted and may be reported: reason 1 late, 2 TARGET (R389 to R391). -/
def schedDrop (cls reason late target : Nat) (fns : List Nat) (s : State) : State :=
  let s := modFlight (fun f => { f with counts := count f.counts (6 + cls) }) s
  let p := paced .schedDropped cls 1000000 s
  if p.1 then raise 0x0711 sevE (cls + 256 * reason) (min late 0xFFFFFFFF) target fns p.2 else p.2

/-! ### Valve ports and rows -/

/-- Valve port `v`. -/
def State.vp (s : State) (v : Nat) : ValvePort := s.vps.getD v {}
/-- Change valve port `v`. -/
def modVp (v : Nat) (g : ValvePort → ValvePort) (s : State) : State := { s with vps := s.vps.put v (g (s.vp v)) }
/-- A valve of a port. -/
def ValvePort.valve (p : ValvePort) (b : Nat) : Valve := p.valves.getD b {}
/-- Change a valve of a port. -/
def ValvePort.modValve (p : ValvePort) (b : Nat) (g : Valve → Valve) : ValvePort :=
  { p with valves := p.valves.put b (g (p.valve b)) }
/-- LEAD_TRIM of a valve, ns, 0 without a calibration record (R233). -/
def State.leadTrim (s : State) (valve : Nat) : Int :=
  if s.keeper.cal.isEmpty then 0 else s32At s.keeper.cal (0x3000 + 4 * valve)

/-- The counters of Table 8-6, in the order PG_GET_STATUS returns them. -/
inductive PgCnt where
  | paired | unpairedA | unpairedB | pairFull | speedFallback | flightRange | outOfRow | pulseClamp | merge | gapDelay
  | mergeSplit | actionFull | pendingFull | deadlinePassed | withheld | hostVerdict | ruleVerdict | defaultVerdict
  | defer | dup | late | notDecider | badDec | badOverride | altNoRow | ejectNoRoute | ejectDenied
/-- Count one on pairing group `g`. -/
def countPg (g : Nat) (k : PgCnt) (s : State) : State :=
  { s with pgCounts := s.pgCounts.put g (count (s.pgCounts.getD g []) k.ctorIdx) }
/-- Group events reach its owner (R254). -/
def State.pgTo (s : State) (g : Nat) : List Nat := [s.ownerOf .pairing g]

/-! ### Pulses (R233 to R235) -/

/-- Open and close of a pulse on a valve go into the schedule as a pair (R235); false where fewer than 2 are free. -/
def placePair (valve opens closes : Nat) (placer : Placer) (entries : List Nat) (s : State) : State :=
  let base : Action := { time := opens, cls := .valveOpen, tol := 100000, target := valve, placer := placer, order := 0
                         placedAt := 0, entries := entries }
  let a := placeAction base s
  let b := placeAction { base with time := closes, cls := .valveClose } a.2
  modFlight (fun f => { f with pulses := f.pulses.put valve { opens := opens, closes := closes, closeSlot := some b.1 } }) b.2
/-- A valve skipped for want of actions (R235). -/
def skipValve (g valve obj : Nat) (s : State) : State :=
  let p := paced .actionsFull g 1000000 (countPg g .actionFull s)
  if p.1 then raise 0x0504 sevE g valve obj (s.pgTo g) p.2 else p.2
/-- 20 ms, the longest a valve stays open (R233, R234). -/
def longestPulse : Nat := 20000000
/-- A new pair, or a skip where the bank has no room. -/
def placeOrSkip (g obj valve opens closes : Nat) (entries : List Nat) (s : State) : State :=
  if s.flightFree < 2 then skipValve g valve obj s else placePair valve opens closes .eject entries s
/-- The pending entry waits for an action that is there already (R238). -/
def alsoFor (slot : Nat) (entries : List Nat) (time : Nat) (s : State) : State :=
  modFlight (fun f => { f with actions := match f.actions.find slot with
    | some a => f.actions.put slot { a with time := time, entries := a.entries ++ entries }
    | none => f.actions }) s
/-- A pulse on a valve, kept apart from the valve's latest (R234). `gap` is MIN_GAP in µs. -/
def placePulse (g obj gap valve opens closes : Nat) (entries : List Nat) (s : State) : State :=
  let eff := max (1000 * gap) (200 * (s.vp (valve / 512)).period)
  match s.flight.pulses.find valve with
  | none => placeOrSkip g obj valve opens closes entries s
  | some q =>
    if q.closes + eff < opens then placeOrSkip g obj valve opens closes entries s
    else match q.closeSlot with
      | some cs =>
        let c := max q.closes closes
        let s := countPg g .merge s
        let lim := q.opens + longestPulse
        if lim < c then
          let s := alsoFor cs entries lim (modFlight (fun f => { f with
            pulses := f.pulses.put valve { q with closes := lim } }) (countPg g .mergeSplit s))
          if lim + eff < c then placeOrSkip g obj valve (lim + eff) c entries s else s
        else alsoFor cs entries c (modFlight (fun f => { f with pulses := f.pulses.put valve { q with closes := c } }) s)
      | none =>
        let o := q.closes + eff
        let s := countPg g .gapDelay s
        if closes < o + 500000 then s else placeOrSkip g obj valve o closes entries s

/-- Pulses of a row's valves: T_open before trims, pulse length in µs (R233, R251). -/
def placePulses (g obj gap tOpen pulse : Nat) (entries : List Nat) (valves : List Nat) (s : State) : State :=
  valves.foldl (fun s v =>
    let o := ((tOpen : Int) - s.leadTrim v).toNat
    placePulse g obj gap v o (o + 1000 * pulse) entries s) s

end Sys2Proof.Machine
end

