-- ==== Sys2Proof/Machine/Settle.lean ====
section
/-! DEFINITION. Pending entries and decisions (08_pairing_flight_decisions.md, R233, R237 to R240, R245 to R252):
binding, settlement, ejections on another device. -/
namespace Sys2Proof.Machine

/-- Verdict codes. -/
def vAccept : Nat := 0
def vReject : Nat := 1
def vAlt : Nat := 2
def vAbstain : Nat := 3
/-- The pending entry at a slot changes. -/
def modPend (n : Nat) (g : Pending → Pending) (s : State) : State :=
  match s.pend.find n with
  | some p => { s with pend := s.pend.put n (g p) }
  | none => s
/-- Row `i` of group `g`, where set. -/
def PGroup.row (g : PGroup) (i : Nat) : Option Row := (g.rows.getD i none)
/-- Pulse length in µs before its clamp (R233): line span of the reference view in ns, extension in µs. -/
def rawPulse (r : Row) (span : Nat) (ext : Int) : Int := (r.pBase : Int) + (span / 1000 * r.kSpan / 16 : Nat) + ext
/-- The clamp of R233. -/
def clampPulse (p : Int) : Nat := (clampInt 500 20000 p).toNat
/-- Whether a row is driven by this device. -/
def State.rowLocal (s : State) (r : Row) : Bool :=
  match r.device with
  | none => true
  | some d => s.inHive && d == s.deviceId
/-- EJECT ACTIONS to another device (R251, Table 17-7). -/
def ejectActions (g obj device tOpen pulse : Nat) (valves : List Nat) (s : State) : State :=
  let body := b64 obj ++ b64 tOpen ++ b32 pulse ++ b8 valves.length ++ b8 g ++ b16 0 ++ valves.flatMap b16
  let r := hsend 3 0 0 device body s
  if r.1 then r.2 else countPg g .ejectNoRoute r.2
/-- The pulses of a settled row (R233, R249, R251). -/
def placeRow (n : Nat) (p : Pending) (i : Nat) (ext : Int) (ovr : Option (Nat × Nat)) (s : State) : State :=
  match (s.pgs.find p.group).bind (·.row i), p.rows.getD i none with
  | some r, some plan =>
    let bad := match ovr with
      | some (f, c) => decide (c = 0 ∨ r.maxValves < c ∨ r.count < f + c)
      | none => false
    let s := if bad then countPg p.group .badOverride s else s
    match (if bad then plan.valves else ovr <|> plan.valves) with
    | none => s
    | some (first, count) =>
      let raw := rawPulse r p.span ext
      let pulse := clampPulse raw
      let s := if raw = (pulse : Int) then s else countPg p.group .pulseClamp s
      let tOpen := plan.tCross - 1000 * r.lead
      let valves := (List.range count).map fun k => r.first + first + k
      if s.rowLocal r then placePulses p.group (p.ids.getLastD 0) r.minGap tOpen pulse [n] valves s
      else ejectActions p.group (p.ids.getLastD 0) (r.device.getD 0) tOpen pulse valves s
  | _, _ => s
/-- An entry settles on a verdict (R249, R250). -/
def settle (n verdict : Nat) (ext : Int) (ovr : Option (Nat × Nat)) (s : State) : State :=
  match s.pend.find n with
  | none => s
  | some p =>
    let hasAlt := ((s.pgs.find p.group).bind (·.row 1)).isSome
    let s := if verdict = vReject then placeRow n p 0 ext ovr s
      else if verdict = vAlt then
        (if hasAlt then placeRow n p 1 ext ovr s else placeRow n p 0 ext ovr (countPg p.group .altNoRow s))
      else s
    modPend n (fun p => { p with settled := true, acted := s.flight.actions.any fun a => a.2.entries.contains n }) s
/-- An entry settles on its rule verdict, or on the group's default (R248). -/
def settleOwn (n : Nat) (s : State) : State :=
  match s.pend.find n with
  | none => s
  | some p =>
    match p.rule with
    | some v =>
      if v < 3 then settle n v 0 none (countPg p.group .ruleVerdict s)
      else settle n p.dflt 0 none (countPg p.group .defaultVerdict s)
    | none => settle n p.dflt 0 none (countPg p.group .defaultVerdict s)
/-- Bin of HONEY_DEC_LATE for a lateness in ns (R247). -/
def lateBin (ns : Nat) : Nat :=
  if ns < 1000 then 0
  else ((List.range 20).find? fun b => decide (ns < 1000 * 2 ^ (b + 1))).elim 21 (· + 1)
/-- Results of Table 11-15. -/
def brSettled : Nat := 0
def brDeferred : Nat := 1
def brLate : Nat := 2
def brDuplicate : Nat := 3
def brUnknown : Nat := 4
def brNotDecider : Nat := 5
def brBadVerdict : Nat := 6
def brForwarded : Nat := 7
/-- The slot of the entry that answers to an object ID. -/
def State.entryOf (s : State) (id : Nat) : Option (Nat × Pending) := s.pend.find? fun e => e.2.ids.contains id
/-- A decision that comes too late (R247, R248). -/
def lateDecision (p : Pending) (id : Nat) (s : State) : State :=
  let late := s.now - p.deadline
  let s := honeyN 64 (hoLate (lateBin late)) 1 (countPg p.group .late s)
  let q := paced .decisionsLate p.group 1000000 s
  if q.1 then raise 0x0505 sevW p.group (min late 0xFFFFFFFF) id (s.pgTo p.group) q.2 else q.2
/-- A decision record binds now (R247, Table 8-5): its result and the state after. `sender`: a function, or 4 the hive. -/
def bindDecision (sender : Nat) (rec : List Byte) (s : State) : Nat × State :=
  let id := u64At rec 0
  let v := byteAt rec 8
  let fl := byteAt rec 9
  if !(v ≤ 2 ∨ v = 0xFF) then
    (brBadVerdict, match s.entryOf id with | some e => countPg e.2.group .badDec s | none => s)
  else if id / 2 ^ 48 ≠ s.deviceId then
    let r := hsend 3 1 0 (id / 2 ^ 48) (sliceAt rec 0 16) s
    (brForwarded, if r.1 then r.2 else countPg 0 .ejectNoRoute r.2)
  else match s.entryOf id with
    | none => (brUnknown, if sender < 4 then countHp sender .unknownDec s else s)
    | some (n, p) =>
      if p.decider ≠ some sender ∧ s.ownerOf .pairing p.group ≠ sender then (brNotDecider, countPg p.group .notDecider s)
      else if p.deadline < s.now then (brLate, lateDecision p id s)
      else if p.settled then (brDuplicate, countPg p.group .dup s)
      else if v = 0xFF then (brDeferred, countPg p.group .defer s)
      else
        let ext := if bit fl 0 then toSigned 16 (u16At rec 0x0A) else 0
        let ovr := if bit fl 1 then some (u16At rec 0x0C, byteAt rec 0x0E) else none
        (brSettled, settle n v ext ovr (countPg p.group .hostVerdict s))
/-- DECISION_RECORD_BIND (R316): the first record fetched binds, and its completion entry is written; it waits for a
free slot of the completion ring. -/
def execDecisionRecordBind (q : QId) (t : Nat) (s : State) : Host.Outcome State Fault Refusal :=
  let s := advTo t s
  match s.queue q with
  | none => .next s
  | some v =>
    match v.fetched with
    | [] => .next s
    | (slot, rec) :: _ =>
      if v.kind ≠ qtDecision ∨ !(v.state = .enabled ∨ v.state = .draining) ∨ !s.available v.owner then .next s
      else if v.cplFull then .next (noteWait q s)
      else
        let t := (takeDesc q s).2
        let r := bindDecision v.owner rec t
        .next (fetchMore q (complete q slot
          (cplBytes slot cstOk 1 (byteAt rec 0x0F) 16 r.1 (u64At rec 0) s.now) r.2))
/-- DECISION_DEADLINE (R248): a WAITING entry settles at its deadline. -/
def execDecisionDeadline (slot : Nat) (s : State) : Host.Outcome State Fault Refusal :=
  match s.pend.find slot with
  | none => .next s
  | some p => if p.settled then .next s else .next (settleOwn slot (advTo p.deadline s))
/-- PENDING_ENTRY_FREE (R238): after the last action of the entry, or at the primary row's T_cross where it has none. -/
def execPendingEntryFree (slot : Nat) (s : State) : Host.Outcome State Fault Refusal :=
  match s.pend.find slot with
  | none => .next s
  | some p =>
    if !p.settled ∨ s.flight.actions.any (fun a => a.2.entries.contains slot) then .next s
    else .next { (if p.acted then s else advTo p.tCross s) with pend := s.pend.erase slot }
/-- A forwarded decision binds on arrival; its sender is the hive (R252). -/
def ejectDecision (src : Nat) (body : List Byte) (s : State) : State :=
  if body.length ≠ 16 ∨ u64At body 0 / 2 ^ 48 ≠ s.deviceId ∨ src = s.deviceId then s else (bindDecision ownHive body s).2
/-- EJECT_DECISION_RECEIVED (R252). -/
def execEjectDecisionReceived (src : Nat) (body : List Byte) (t : Nat) (s : State) : Host.Outcome State Fault Refusal :=
  .next (ejectDecision src body (advTo t s))
/-- A valve that the hive does not own is counted and reported to the manager (R251, R453). -/
def denyEject (pg obj : Nat) (s : State) (v : Nat) : State :=
  let s := countPg pg .ejectDenied s
  if s.hive.state = .manager then raise 0x0A0A sevE s.deviceId v obj [s.sys.trusted] s
  else toManager 6 1 (b16 v ++ b64 obj) s
/-- The pulses of an EJECT ACTIONS message are placed in this device's schedule; valves of ports that the hive does not
own are dropped (R251). -/
def ejectPulses (src : Nat) (body : List Byte) (s : State) : State :=
  let n := byteAt body 0x14
  if n < 1 ∨ 64 < n ∨ body.length ≠ 24 + 2 * n ∨ !s.inHive then s
  else
    let obj := u64At body 0
    let pg := byteAt body 0x15 % 32
    let valves := ((List.range n).map fun k => u16At body (0x18 + 2 * k)).filter (· < 4096)
    let mine := valves.filter fun v => s.ownerOf .valvePort (v / 512) == ownHive
    let s := (valves.filter fun v => s.ownerOf .valvePort (v / 512) != ownHive).foldl (denyEject pg obj) s
    placePulses pg obj (Config.rowGap src pg) (u64At body 8) (u32At body 0x10) [] mine s
/-- EJECT_ACTIONS_RECEIVED (R251). -/
def execEjectActionsReceived (src : Nat) (body : List Byte) (t : Nat) (s : State) : Host.Outcome State Fault Refusal :=
  .next (ejectPulses src body (advTo t s))

end Sys2Proof.Machine
end

