-- ==== Sys2Proof/Machine/Steer.lean ====
section
/-! DEFINITION. Cells in brood and their steering (07_segmentation_and_cells.md, R206; 08_pairing_flight_decisions.md,
R243 to R245; 10_host_port.md, R294, R295; 17_hive_hierarchy.md, R450). -/
namespace Sys2Proof.Machine

/-- A word of PG_SET_STEERING that forwards into the hive. -/
def steerHive : Nat := 0xFFFFFFFE
/-- Change the steering table of a pairing group, or of a context. -/
def modSteer (isCtx : Bool) (i : Nat) (g : List SteerEntry → List SteerEntry) (s : State) : State :=
  if isCtx then { s with ctxSteer := match s.ctxSteer.find i with | some l => s.ctxSteer.put i (g l) | none => s.ctxSteer }
  else { s with pgs := match s.pgs.find i with
    | some p => s.pgs.put i { p with steer := g p.steer }
    | none => s.pgs }
/-- The steering table of a target. -/
def State.steerOf (s : State) (isCtx : Bool) (i : Nat) : List SteerEntry :=
  if isCtx then s.ctxSteer.getD i [] else ((s.pgs.find i).map (·.steer)).getD []
/-- The queue an entry steers to now: none where it names a destroyed queue (R323). -/
def SteerEntry.queue (e : SteerEntry) : Option Nat :=
  if e.onBackup then (if e.backupGone then none else e.backup) else if e.primaryGone then none else some e.primary
/-- The event word of a steering target (Table 11-18, 0x0603). -/
def steerWord (isCtx : Bool) (i : Nat) : Nat := i + 256 * b2n isCtx
/-- The function whose range of queue IDs has `q`. -/
def State.fnOf (s : State) (q : Nat) : Option Nat :=
  s.functions.find? fun f => decide (s.qBase f ≤ q ∧ q < s.qBase f + s.qCount f)
/-- Whether an entry names a port: its primary or backup queue lies in function `f` (R298). -/
def SteerEntry.names (s : State) (f : Nat) (e : SteerEntry) : Bool :=
  (e.primary != steerHive && s.fnOf e.primary == some f) || (match e.backup with | some b => s.fnOf b == some f | none => false)
/-- The recipients of the events of port `f`: the trusted function, and every function that owns a steering table
naming the port (R298). -/
def State.linkTo (s : State) (f : Nat) : List Nat :=
  s.sys.trusted :: ((s.pgs.filter fun e => e.2.steer.any (·.names s f)).map (fun (e : Nat × PGroup) => s.ownerOf .pairing e.1)
    ++ (s.ctxSteer.filter fun e => e.2.any (·.names s f)).filterMap fun (e : Nat × List SteerEntry) => (s.ctx e.1).map (·.owner))
/-- STEER_FAILOVER or STEER_RESTORE of an entry: STEER is set on both functions (R294, R295, R298, Table 10-7). -/
def steerEvent (restore isCtx : Bool) (i n fromQ toQ : Nat) (s : State) : State :=
  let s := ([fromQ, toQ].filterMap s.fnOf).foldl (fun s f => setIntx f intxSteer s) s
  raise (if restore then 0x0604 else 0x0603) (if restore then sevI else sevW) (steerWord isCtx i) n
    (fromQ + 2 ^ 32 * toQ) (match s.fnOf (if restore then toQ else fromQ) with | some f => s.linkTo f | none => [s.sys.trusted]) s
/-- The function of a queue is available. -/
def State.queueUp (s : State) (q : Nat) : Bool :=
  match s.queue q with
  | some v => s.available v.owner
  | none => false

/-! ### Into a queue (R294, R311, R313) -/

/-- A cell's write to its host ends before it began: the port is down (R294). -/
def portDownCell (f a n : Nat) (s : State) : State := countHp f .cellPortDown (freeCell a n s)
/-- A cell in brood goes to queue `q`: it waits there for a buffer and a completion slot (R311, R305). -/
def cellToQueue (q a n : Nat) (s : State) : State :=
  match s.queue q with
  | none => refuseCell { asm := a, cell := n, counted := false } s
  | some v =>
    if !s.available v.owner then portDownCell v.owner a n s
    else if v.state ≠ .enabled ∨ v.kind ≠ qtCell then refuseCell { asm := a, cell := n, counted := false } s
    else
      let short := decide (v.posted ≤ v.waiting.length)
      let s := setQueue q { v with waiting := v.waiting ++ [{ asm := a, cell := n, counted := short }] } s
      noteWait q (if short then countQ q .nobuf s else s)
/-- Packets of a cell (Table 3-3), of at most `size` B of payload each. -/
def cellPackets (size vc src seq : Nat) (d : List Byte) : List (List Byte) :=
  let n := max 1 (ceilDiv d.length size)
  (List.range n).map fun i =>
    let p := (d.drop (size * i)).take size
    pktHead ptCell vc (128 * b2n (i == 0) + 64 * b2n (i + 1 == n)) p.length ++ b16 src ++ b16 0 ++ b32 seq ++ b32 (size * i) ++ p
/-- The longest payload of a packet on a lane's link (R67). -/
def State.maxPacket (s : State) (h : Nat) : Nat := if (s.lane h).cfg.mode = .hive then 2048 else 16384
/-- Queue packets of a cell on link `h`; the last one frees the cell's brood space. -/
def cellOnLink (h vc a n : Nat) (d : List Byte) (s : State) : State :=
  let ps := cellPackets (s.maxPacket h) vc s.deviceId s.hive.cellSeq d
  let s := modHive (fun x => { x with cellSeq := (x.cellSeq + 1) % 2 ^ 32 }) s
  (ps.zip (List.range ps.length)).foldl (fun s (p : List Byte × Nat) =>
    queuePacket h { ptype := ptCell, vc := vc, bytes := p.1, brood := if p.2 + 1 = ps.length then some (a, n) else none } s) s
/-- The lowest CELLS lane in DATA (R342). -/
def State.cellsLane (s : State) : Option Nat :=
  (s.lanes.find? fun e => e.2.cfg.mode == .camTx && e.2.cfg.txSource == 3 && e.2.cfg.bondIdx == 0 && s.linkUp e.1).map (·.1)
/-- A cell goes to hive forwarding (R244, R342, R450). -/
def cellToHive (a n : Nat) (s : State) : State :=
  match (s.asm a).cells.find n with
  | none => s
  | some x =>
    let vc := 4 + s.deviceId % 12
    match s.cellsLane with
    | some h => cellOnLink h vc a n x.data s
    | none =>
      match s.hive.cellServer, s.hive.cellRoutes.find s.deviceId with
      | some _, some h => cellOnLink h vc a n x.data s
      | _, _ =>
        raise 0x0A0B sevE x.ctx 0 x.id [s.sys.trusted] (honey (hoHive 8) (freeCell a n s))
/-- A cell goes where its entry steers (R244, R294, R313, R323). -/
def steerCell (e : Option SteerEntry) (a n : Nat) (s : State) : State :=
  match e with
  | none => refuseCell { asm := a, cell := n, counted := false } s
  | some e =>
    match e.queue with
    | none => refuseCell { asm := a, cell := n, counted := false } s
    | some q => if q = steerHive then cellToHive a n s else cellToQueue q a n s

/-! ### Into brood (R206) -/

/-- A cell is put into brood: its slot, none where it is dropped; `keep` gives the payload length written and whether it
was truncated, from which the header is made. -/
def broodCell (a ctx ref id : Nat) (group : Option Nat) (deadline : Nat) (entry : Nat)
    (header : Nat → Bool → List Byte) (payload : List Byte) (s : State) : Option Nat × State :=
  match s.ctx ctx with
  | none => (none, s)
  | some x =>
    let free := x.fmt.quota - x.used
    let full := 128 + payload.length
    let report := fun (s : State) =>
      let p := paced .brood ctx 1000000 s
      if p.1 then raiseCtx ctx 0x0403 sevE ctx 0 id p.2 else p.2
    let put := fun (n : Nat) (trunc : Bool) (s : State) =>
      let space := 128 + n
      let v := s.asm a
      let c : BroodCell :=
        { ctx := ctx, ref := ref, space := space, data := header n trunc ++ payload.take n, id := id, group := group
          deadline := deadline, entry := entry }
      (some v.nextCell, modCtx ctx (fun x => { x with used := x.used + space })
        (modAsm a (fun v => { v with cells := v.cells.put v.nextCell c, nextCell := v.nextCell + 1 }) s))
    if full ≤ free then put payload.length false s
    else if 192 ≤ free then
      put ((free - 128) / 64 * 64) true (report (countCtx ctx .trunc s))
    else (none, report (countCtx ctx .cellDrop s))

/-! ### CELL_DELIVERY (R307, R311, R312) -/

/-- A cell as a queue writes it into `len` bytes of buffer (R312): its bytes, and whether it was truncated there. -/
def fitCell (d : List Byte) (len : Nat) : List Byte × Bool :=
  if d.length ≤ len then (d, false)
  else
    let n := (len - 128) / 64 * 64
    let fl := u16At d 4
    let fl := if bit fl 2 then fl else fl + flTruncated
    (d.take 4 ++ b16 fl ++ (d.drop 6).take 0x77 ++ leBytes 3 n ++ (d.drop 128).take n, true)
/-- CELL_DELIVERY (R311): the first cell that waits at the queue is written, then its completion entry. -/
def execCellDelivery (q : QId) (t : Nat) (s : State) : Host.Outcome State Fault Refusal :=
  let s := advTo t s
  match s.queue q with
  | none => .next s
  | some v =>
    match v.waiting with
    | [] => .next s
    | w :: rest =>
      if v.state ≠ .enabled ∨ !s.available v.owner then .next s
      else if v.cplFull then
        .next (noteWait q s)
      else match v.fetched, (s.asm w.asm).cells.find w.cell with
        | _, none => .next (setQueue q { v with waiting := rest } s)
        | [], _ =>
          if w.counted ∨ 0 < v.posted then .next (fetchMore q s)
          else .next (countQ q .nobuf (setQueue q { v with waiting := { w with counted := true } :: rest } s))
        | (slot, desc) :: _, some x =>
          let s := (takeDesc q (setQueue q { v with waiting := rest } s)).2
          let d := fitCell x.data (descLen desc)
          let s := if d.2 then countQ q .bufTrunc s else s
          let s := freeCell w.asm w.cell (dma v.owner q (.write (descAddr desc) d.1) s)
          let e := cplBytes slot (if d.2 then cstTruncated else cstOk) 1 (descTag desc) d.1.length
            (u16At d.1 4 + 65536 * x.group.getD 255) x.id x.deadline
          .next (noteWait q (fetchMore q (complete q slot e s)))

end Sys2Proof.Machine
end

