-- ==== Sys2Proof/Machine/Pair.lean ====
section
/-! DEFINITION. Pairing, speed, flight and rules (08_pairing_flight_decisions.md, R216 to R244): what happens to a final
object. -/
namespace Sys2Proof.Machine

/-! ### Geometry and speed (R219 to R228) -/

/-- ⌊√v⌋ of a u64, bit by bit. -/
def isqrt64 (v : Nat) : Nat :=
  (List.range 32).foldl (fun r i => let b := 2 ^ (31 - i); if (r + b) * (r + b) ≤ v then r + b else r) 0
/-- Lateral position of X in 1/16 px, µm (R219). -/
def lateral (u0 pitch : Int) (x : Int) : Int := u0 + Int.fdiv (x * pitch) 16000
/-- Settings of the view of an object: u0 and pitch (B for view code 1). -/
def PgSet.viewOf (g : PgSet) (view : Nat) : Int × Int := if view = 1 then (g.u0B, g.pitchB) else (g.u0A, g.pitchA)
/-- u of the centroid. -/
def uCentre (g : PgSet) (o : Final) : Int :=
  lateral (g.viewOf o.view).1 (g.viewOf o.view).2 (16 * o.x0 + o.cx)
/-- u of the left and right edges, in order. -/
def uEdges (g : PgSet) (o : Final) : Int × Int :=
  let v := g.viewOf o.view
  let a := lateral v.1 v.2 (16 * o.xMin)
  let b := lateral v.1 v.2 (16 * (o.xMax + 1))
  if v.2 < 0 then (b, a) else (a, b)
/-- The gate of R220 for an A and a B object. -/
def passGate (g : PgSet) (a b : Final) : Bool :=
  let dt : Int := (b.tLast : Int) - (a.tLast : Int)
  decide ((g.dtMin : Int) ≤ dt ∧ dt ≤ (g.dtMax : Int)) && decide ((uCentre g b - uCentre g a).natAbs ≤ g.uTol)
/-- The measured speed of a pair, µm/s (R224). -/
def measuredSpeed (g : PgSet) (a b : Final) : Int :=
  let dt : Int := (b.tLast : Int) - (a.tLast : Int)
  Int.tdiv (((g.zA : Int) - (g.zB : Int)) * 1000000000) dt + Int.tdiv ((g.g : Int) * dt) 2000000000
/-- A replacement of a speed is counted and may be reported (R226). -/
def speedReplaced (g id : Nat) (v : Int) (s : State) : State :=
  let p := paced .speedFallback g 1000000 (countPg g .speedFallback s)
  if p.1 then raise 0x0502 sevW g ((clampInt 0 0xFFFFFFFF v).toNat) id (s.pgTo g) p.2 else p.2
/-- A speed lies in V_MIN to V_MAX. -/
def plausible (g : PgSet) (v : Int) : Bool := decide ((g.vMin : Int) ≤ v ∧ v ≤ (g.vMax : Int))
/-- The encoder as source (R225, R226). -/
def encoderSpeed (gi : Nat) (g : PgSet) (id tLast : Nat) (s : State) : Nat × State :=
  match g.enc with
  | none => (g.vFixed, s)
  | some e =>
    let x := s.encAt e tLast
    let v := x.2.1.natAbs * g.encScale / 256000
    if x.2.2 && plausible g v then (v, s) else (g.vFixed, speedReplaced gi id v s)
/-- FALLBACK as source. -/
def fallbackSpeed (gi : Nat) (g : PgSet) (id tLast : Nat) (s : State) : Nat × State :=
  if g.fallback = 0 then encoderSpeed gi g id tLast s else (g.vFixed, s)
/-- v_f (R225, R226). -/
def flightSpeed (gi : Nat) (g : PgSet) (pair : Option Int) (id tLast : Nat) (s : State) : Nat × State :=
  match g.speedSrc with
  | 0 =>
    match pair with
    | some v => if plausible g v then (v.toNat, s) else fallbackSpeed gi g id tLast (speedReplaced gi id v s)
    | none => fallbackSpeed gi g id tLast s
  | 1 => encoderSpeed gi g id tLast s
  | _ => (g.vFixed, s)
/-- tc of R228. -/
def crossDelay (g : PgSet) (v d : Nat) : Int :=
  let r := isqrt64 (v * v + 2 * g.g * d)
  let t : Int := ((r - v) * 1000000000 / max 1 g.g : Nat)
  t + g.a0 + Int.fdiv (t * g.a1) 16777216

/-! ### Valve mapping (R231, R232) -/

/-- The row valves of an object: first and count. -/
def mapValves (r : Row) (uLeft uRight uC drift : Int) : Option (Nat × Nat) :=
  let p : Nat := max 1 r.pitch
  let lo := uLeft - r.widen + drift
  let hi := uRight + r.widen + drift
  let first := floorDiv (lo - r.uRow) p
  let last := floorDiv (hi - r.uRow - 1) p
  if last < 0 ∨ (r.count : Int) ≤ first then none
  else
    let f := (max first 0).toNat
    let l := (min last ((r.count : Int) - 1)).toNat
    if r.maxValves < l + 1 - f then
      let c := floorDiv (uC + drift - r.uRow) p
      let f : Int := min (max (c - ((r.maxValves : Int) - 1) / 2) 0) ((r.count : Int) - (r.maxValves : Int))
      some (f.toNat, r.maxValves)
    else some (f, l + 1 - f)

/-! ### Rules (R241, R242) -/

/-- The value of a feature of an object (Table 8-4). -/
def featureOf (g : PgSet) (vf : Nat) (o : Final) (code : Nat) : Option Int :=
  let band := fun (k : Nat) => o.feats.getD k (0, 0, 0, 0)
  if code = 1 then some o.area
  else if code = 2 then some o.perimeter
  else if code = 3 then some ((o.xMax : Int) - o.xMin + 1)
  else if code = 4 then some ((o.lineLast : Int) - o.lineFirst + 1)
  else if code = 5 then some o.mu20
  else if code = 6 then some o.mu02
  else if code = 7 then some o.mu11
  else if 0x10 ≤ code ∧ code < 0x14 then some (band (code - 0x10)).1
  else if 0x14 ≤ code ∧ code < 0x18 then some (band (code - 0x14)).2.1
  else if 0x18 ≤ code ∧ code < 0x1C then some (band (code - 0x18)).2.2.1
  else if 0x1C ≤ code ∧ code < 0x20 then some (band (code - 0x1C)).2.2.2
  else if code = 0x20 then some (vf / 1000 : Nat)
  else if code = 0x21 then some (uCentre g o)
  else none
/-- Whether a condition holds on one object. -/
def condOn (g : PgSet) (vf : Nat) (feature mode : Nat) (lo hi : Int) (o : Final) : Bool :=
  let outside := bit mode 2
  if feature = 0x22 then
    ((o.flags &&& fromSigned 32 lo) == fromSigned 32 hi) != outside
  else match featureOf g vf o feature with
    | some v => decide (lo ≤ v ∧ v ≤ hi) != outside
    | none => false
/-- Condition `c` of a rule on the present views. -/
def condHolds (g : PgSet) (vf : Nat) (rule : List Byte) (c : Nat) (a b : Option Final) : Bool :=
  let feature := byteAt rec' 0
  let mode := byteAt rec' 1
  let lo := s32At rec' 4
  let hi := s32At rec' 8
  let on := fun (o : Final) => condOn g vf feature mode lo hi o
  if feature = 0 then true
  else match mode % 4 with
    | 0 => a.any on
    | 1 => b.any on
    | 2 => a.any on || b.any on
    | _ => a.all on && b.all on && (a.isSome || b.isSome)
where
  rec' : List Byte := (rule.drop (12 * c)).take 12
/-- The first rule that matches: its verdict, index and steering entry (R242). -/
def ruleVerdict (g : PgSet) (vf : Nat) (a b : Option Final) : List (List Byte) → Nat → Option (Nat × Nat × Nat)
  | [], _ => none
  | r :: l, i =>
    if [0, 1, 2, 3].all fun c => condHolds g vf r c a b then some (byteAt r 0x30, i, byteAt r 0x31)
    else ruleVerdict g vf a b l (i + 1)

/-! ### Plans and pending entries (R229, R231, R236 to R240, R246) -/

/-- One planned row: tc, T_cross and mapping, in the reference view. -/
structure Plan where
  row : Row
  tc : Int
  plan : RowPlan
/-- The plan of a row for an object (R228, R231, R232). `pair`: u(b) − u(a) and Δt. -/
def planRow (g : PgSet) (vf : Nat) (ref : Final) (pair : Option (Int × Int)) (r : Row) : Plan :=
  let z := if ref.view = 1 then g.zB else g.zA
  let tc := crossDelay g vf (z + r.dz)
  let drift := match pair with
    | some (du, dt) => if g.latExtrap then Int.tdiv (du * tc) dt else 0
    | none => 0
  let e := uEdges g ref
  { row := r, tc := tc
    plan := { valves := mapValves r e.1 e.2 (uCentre g ref) drift, tCross := ((ref.tLast : Int) + tc).toNat } }
/-- The earliest T_open of a plan's valves (R233, R246). -/
def Plan.earliest (p : Plan) (s : State) : Option Int :=
  p.plan.valves.map fun v =>
    let base : Int := (p.plan.tCross : Int) - 1000 * p.row.lead
    if s.rowLocal p.row then
      ((List.range v.2).map fun k => base - s.leadTrim (p.row.first + v.1 + k)).foldl min (base - s.leadTrim (p.row.first + v.1))
    else base
/-- The deadline of an entry (R246); where no valve is mapped, from the primary row's T_cross less LEAD. -/
def deadlineOf (g : PgSet) (ps : List Plan) (s : State) : Int :=
  let o := match ps.filterMap fun p => p.earliest s with
    | a :: r => r.foldl min a
    | [] => match ps with
      | p :: _ => (p.plan.tCross : Int) - 1000 * p.row.lead
      | [] => 0
  o - 1000 * g.margin
/-- Entries the pending table holds (R239). -/
def pendSize : Nat := 131072
/-- Whether an object lies outside what the flight bank can schedule (R229). -/
def outOfRange (ps : List Plan) (span now : Nat) : Bool :=
  (ps.any fun p => decide (p.tc < 0)) || ps.any fun p =>
    decide ((now : Int) + 2000000000 < (p.plan.tCross : Int) - 1000 * p.row.lead + 1000 * clampPulse (rawPulse p.row span 0) + 1500000)
/-- The pending entry of an object, where it gets one: its slot, and the plans of the group's rows (R229, R236, R239). -/
def makeEntry (gi : Nat) (pg : PGroup) (ids : List Nat) (ref : Final) (vf : Nat) (pair : Option (Int × Int)) (rule : Option Nat)
    (s : State) : (Option Nat × List Plan) × State :=
  match pg.row 0 with
  | none => ((none, []), s)
  | some r0 =>
    let ps := planRow pg.set vf ref pair r0 :: (match pg.row 1 with
      | some r1 => [planRow pg.set vf ref pair r1]
      | none => [])
    let span := ref.tLast - ref.tFirst
    let s := (ps.filter fun p => p.plan.valves.isNone).foldl (fun s _ => countPg gi .outOfRow s) s
    if outOfRange ps span s.now then ((none, ps), countPg gi .flightRange s)
    else if pendSize ≤ s.pend.length then
      let p := paced .pendingFull gi 1000000 (countPg gi .pendingFull s)
      ((none, ps), if p.1 then raise 0x0503 sevE gi 0 ref.id (s.pgTo gi) p.2 else p.2)
    else
      let n := lowestFree s.pend 0
      let e : Pending :=
        { ids := ids, group := gi, rows := ps.map fun p => some p.plan, rule := rule, decider := none
          deadline := (deadlineOf pg.set ps s).toNat, dflt := pg.set.dflt, span := span
          tCross := (ps.head?.map fun p => p.plan.tCross).getD 0 }
      ((some n, ps), { s with pend := s.pend.put n e })

/-! ### Emission (R227, R242 to R245, R248) -/

/-- The header of a final object's cell. -/
def Final.header (o : Final) (flags speed ejectOfs firstValve valveCount rv ri : Nat) (n : Nat) (trunc : Bool) : List Byte :=
  ({ flags := flags + flagIf trunc flTruncated, bands := o.bands, storeBits := o.storeBits, id := o.id, tFirst := o.tFirst
     tLast := o.tLast, encPos := o.encPos, encNum := o.encNum, first := lineNo o.first, view := o.view
     stitch := o.stitch.getD 0xFF, x0 := o.x0, width := o.width, height := o.height, area := o.area
     perimeter := o.perimeter, speed := speed, cx := o.cx, cy := o.cy, mu20 := o.mu20, mu02 := o.mu02, mu11 := o.mu11
     feats := o.feats, ejectOfs := ejectOfs, firstValve := firstValve, valveCount := valveCount, ruleVerdict := rv
     ruleIndex := ri, payloadLen := n } : Hdr).bytes magicNative
/-- The steering entry an object's cells take (R244). -/
def steerEntry (pg : PGroup) (seq : Nat) (rule : Option (Nat × Nat × Nat)) : Nat :=
  match pg.set.steerMode with
  | 1 => seq % max 1 pg.steer.length
  | 2 => match rule with
    | some (_, _, e) => if e < pg.steer.length then e else 0
    | none => 0
  | _ => 0
/-- The decider for an entry steered by `e` (R245). -/
def deciderOf (e : Option SteerEntry) (owner : Nat) (s : State) : Nat :=
  match e.bind (·.queue) with
  | some q => if q = steerHive then ownHive else match s.queue q with
    | some v => v.owner
    | none => owner
  | none => owner
/-- The objects of a group that are emitted together: A, B or both (R236, R242 to R248). `window`: they end unpaired. -/
def emitObjects (gi a : Nat) (va vb : Option Final) (unpaired : Bool) (s : State) : State :=
  match s.pgs.find gi with
  | none => s
  | some pg =>
    match (vb <|> va) with
    | none => s
    | some ref =>
      let isPair := va.isSome && vb.isSome
      let mark := fun (o : Final) => { o with flags := o.flags + flagIf isPair flPaired + flagIf unpaired flUnpaired + flagIf (o.view == 1) flViewB }
      let va := va.map mark
      let vb := vb.map mark
      let meas := match va, vb with
        | some x, some y => some (measuredSpeed pg.set x y)
        | _, _ => none
      let lat := match va, vb with
        | some x, some y => some (uCentre pg.set y - uCentre pg.set x, (y.tLast : Int) - (x.tLast : Int))
        | _, _ => none
      let sp := flightSpeed gi pg.set meas ref.id ref.tLast s
      let vf := sp.1
      let rule := ruleVerdict pg.set vf va vb pg.rules 0
      let rv := rule.map (·.1)
      let ids := (va.toList ++ vb.toList).map (·.id)
      let en := makeEntry gi pg ids ref vf lat rv sp.2
      let s := en.2
      let slot := en.1.1
      let withheld := pg.set.send == 2 || (pg.set.send == 1 && !(rv.isNone || rv == some vAbstain))
      let ei := steerEntry pg (ref.id % 2 ^ 40) rule
      let entry := pg.steer[ei]?
      let owner := s.ownerOf .pairing gi
      let s := match slot with
        | some n => modPend n (fun p => { p with decider := some (if withheld then owner else deciderOf entry owner s) }) s
        | none => s
      let deadline := match slot.bind s.pend.find with | some p => p.deadline | none => 0
      -- settled at creation (R240, R248)
      let s := match slot with
        | some n =>
          if deadline < s.now then settleOwn n (countPg gi .deadlinePassed s)
          else if withheld then settleOwn n s else s
        | none => s
      let tCross := if slot.isSome then en.1.2.head?.map fun p => p.plan.tCross else none
      let valves : Option (Nat × Nat) := en.1.2.head?.bind fun p => p.plan.valves.map fun (v : Nat × Nat) => (p.row.first + v.1, v.2)
      let speed := match meas with
        | some v => ((v * 256 + 500) / 1000).toNat % 2 ^ 32
        | none => if slot.isSome then (vf * 256 + 500) / 1000 % 2 ^ 32 else 0
      let ruled := !pg.rules.isEmpty
      let one := fun (s : State) (o : Final) =>
        if withheld then countPg gi .withheld s
        else
          let fl := o.flags + flagIf ruled flRule + flagIf slot.isSome flEject
          let ofs := match tCross with | some t => (t - o.tLast) % 2 ^ 32 | none => 0
          let h := o.header fl speed ofs ((valves.map (·.1)).getD 0xFFFF) ((valves.map (·.2)).getD 0)
            (if ruled then rv.getD 0xFF else 0xFF) (if ruled then (rule.map (·.2.1)).getD 0xFF else 0xFF)
          let b := broodCell a o.ctx ref.ctx o.id (some gi) deadline ei h o.payload s
          match b.1 with
          | some n => steerCell entry a n b.2
          | none => b.2
      (va.toList ++ vb.toList).foldl one s
/-- A final object outside any pairing group is steered by its context's own table (R243). -/
def emitPlain (a : Nat) (o : Final) (s : State) : State :=
  let h := o.header o.flags 0 0 0xFFFF 0 0xFF 0xFF
  let b := broodCell a o.ctx o.ctx o.id none 0 0 h o.payload s
  match b.1 with
  | some n => steerCell ((s.ctxSteer.getD o.ctx []).head?) a n b.2
  | none => b.2

/-! ### Matching (R221 to R223) -/

/-- Whether the listed object `x` is a better partner than `y` for `o` (R221). -/
def betterPartner (g : PgSet) (o x y : Final) : Bool :=
  let dx := (uCentre g x - uCentre g o).natAbs
  let dy := (uCentre g y - uCentre g o).natAbs
  decide (dx < dy ∨ (dx = dy ∧ (x.tLast < y.tLast ∨ (x.tLast = y.tLast ∧ x.id < y.id))))
/-- The partner a new final object of view `v` takes, if any. -/
def partnerOf (g : PgSet) (l : List Unpaired) (o : Final) : Option Final :=
  let ok := (l.map (·.obj)).filter fun x => x.view != o.view && (if o.view = 1 then passGate g x o else passGate g o x)
  ok.foldl (fun (a : Option Final) x => match a with
    | none => some x
    | some y => if betterPartner g o x y then some x else some y) none
/-- The lists of a group change. -/
def modUnpaired (gi : Nat) (f : List Unpaired → List Unpaired) (s : State) : State :=
  match s.pgs.find gi with
  | some p => { s with pgs := s.pgs.put gi { p with unpaired := f p.unpaired } }
  | none => s
/-- The pairing group and view code of what a cell was cut from. -/
def State.groupOf (s : State) (v : View) : Option (Nat × Nat) :=
  s.pgs.findSome? fun e =>
    if e.2.viewA = v then some (e.1, 0) else if e.2.viewB = some v then some (e.1, 1) else none
/-- A final object is matched, listed or emitted (R216, R221 to R223, R236). -/
def finalObject (a : Nat) (o : Final) (v : View) (s : State) : State :=
  match s.groupOf v with
  | none => emitPlain a o s
  | some (gi, view) =>
    match s.pgs.find gi with
    | none => s
    | some pg =>
      let o := { o with view := view }
      if pg.viewB.isNone then emitObjects gi a (some o) none false s
      else match partnerOf pg.set pg.unpaired o with
        | some x =>
          let s := modUnpaired gi (fun l => l.filter fun u => u.obj.id != x.id) (countPg gi .paired s)
          if view = 1 then emitObjects gi a (some x) (some o) false s else emitObjects gi a (some o) (some x) false s
        | none =>
          if 8192 ≤ pg.unpaired.length then
            let p := paced .pairFull gi 1000000 (countPg gi .pairFull s)
            let s := if p.1 then raise 0x0501 sevW gi view 0 (s.pgTo gi) p.2 else p.2
            if view = 1 then emitObjects gi a none (some o) true s else emitObjects gi a (some o) none true s
          else
            let ends := if view = 1 then o.finalAt + 1000 * pg.set.slack else o.tLast + pg.set.dtMax + 1000 * pg.set.slack
            modUnpaired gi (fun l => l ++ [{ obj := o, ends := ends }]) s
/-- The assembler of a context. -/
def State.asmOf (s : State) (c : Nat) : Nat := ((s.ctx c).bind (·.asm)).getD 0
/-- UNPAIRED_WINDOW_END (R222). -/
def execUnpairedWindowEnd (g : Fin 32) (objectId : Nat) (s : State) : Host.Outcome State Fault Refusal :=
  match (s.pgs.find g.val).bind fun p => p.unpaired.find? fun u => u.obj.id == objectId with
  | none => .next s
  | some u =>
    let s := modUnpaired g (fun l => l.filter fun x => x.obj.id != objectId) (advTo u.ends s)
    let a := s.asmOf u.obj.ctx
    if u.obj.view = 1 then .next (emitObjects g a none (some u.obj) true (countPg g .unpairedB s))
    else .next (emitObjects g a (some u.obj) none true (countPg g .unpairedA s))

end Sys2Proof.Machine
end

