-- ==== Sys2Proof/Machine/Asm.lean ====
section
/-! DEFINITION. Assemblers (07_segmentation_and_cells.md, R199, R207 to R213): object IDs, the merging of seam fragments,
and the cells that pass through. -/
namespace Sys2Proof.Machine

/-! ### Object IDs (R196, R199) -/

/-- A final object of context `c` takes its sequence number: a reserved one where it continues a part, else the next;
a part that continues reserves the next number for its continuation. -/
def takeSeq (c : Nat) (o : Obj) (s : State) : Nat × State :=
  match s.ctx c with
  | none => (0, s)
  | some x =>
    let mine := o.conts.filterMap x.reserved.find
    let n := match mine with
      | a :: r => r.foldl min a
      | [] => x.seq
    let next := if mine.isEmpty then (x.seq + 1) % 2 ^ 40 else x.seq
    let left := o.conts.foldl (fun (t : Table Nat) k => t.erase k) x.reserved
    let x' := if o.continued then { x with reserved := left.put o.key next, seq := (next + 1) % 2 ^ 40 }
      else { x with reserved := left, seq := next }
    (n, { s with ctxs := s.ctxs.put c x' })
/-- Flags an object carries from its comb (Table 7-4). -/
def Obj.baseFlags (o : Obj) (mask : Bool) : Nat :=
  flagIf o.short flShort + flagIf o.long flLong + flagIf o.continued flContinued + flagIf o.linesDropped flDropped
    + flagIf o.resumed flResumed + flagIf mask flMask
/-- A final object from its cell: ID, extents in the columns and lines of its view, encoder at t_first. -/
def finalOf (c : Nat) (x : Ctx) (st : Option Nat) (flags seq : Nat) (k : CutCell) (spans : List Span) (s : State) : Final :=
  { id := objectId s.deviceId c seq, ctx := c, stitch := st, flags := flags, bands := x.bands, storeBits := x.fmt.storeBits
    x0 := k.x0, width := k.width, first := k.first, height := k.height, area := k.area, perimeter := k.perimeter
    cx := k.cx, cy := k.cy, mu20 := k.mu20, mu02 := k.mu02, mu11 := k.mu11, feats := k.bands
    tFirst := k.tFirst, tLast := k.tLast
    xMin := (spans.map (·.x0)).foldl min ((spans.map (·.x0)).headD 0), xMax := (spans.map (·.x1)).foldl max 0
    lineFirst := (spans.map (·.pos)).foldl min ((spans.map (·.pos)).headD 0), lineLast := (spans.map (·.pos)).foldl max 0
    encNum := x.fmt.encoder.getD 0xFF
    encPos := (match x.fmt.encoder with | some e => (s.encAt e k.tFirst).1 | none => 0)
    payload := k.payload, finalAt := s.now }
/-- An object of a context outside any stitch group is final. -/
def plainFinal (a : Nat) (o : Obj) (s : State) : State :=
  match s.ctx o.ctx, o.cell with
  | some x, some k =>
    let n := takeSeq o.ctx o s
    let fl := o.baseFlags x.fmt.mask + flagIf (o.spans.any fun p => p.x0 == x.seg.segX0) flEdgeLeft
      + flagIf (o.spans.any fun p => p.x1 == x.seg.segX1) flEdgeRight
    finalObject a (finalOf o.ctx x none fl n.1 k o.spans n.2) (.ctx o.ctx) (countCtx o.ctx .obj n.2)
  | _, _ => s

/-! ### Seams (R209 to R212) -/

/-- X_j of each member (R209). -/
def stitchBases (s : State) (l : List Nat) : List Nat :=
  (l.foldl (fun (p : List Nat × Nat) c =>
    let w := match s.ctx c with | some x => x.seg.segX1 - x.seg.segX0 + 1 | none => 0
    (p.1 ++ [p.2], p.2 + w)) ([], 0)).1
/-- The stitched width. -/
def stitchWidth (s : State) (l : List Nat) : Nat :=
  sumList (l.map fun c => match s.ctx c with | some x => x.seg.segX1 - x.seg.segX0 + 1 | none => 0)
/-- A member line as a group line. -/
def Stitch.group (g : Stitch) (m pos : Nat) : Nat := ((pos : Int) + g.offsets.getD m 0).toNat
/-- Contact lines in group lines. -/
def Stitch.contact (g : Stitch) (m : Nat) (c : Option (Nat × Nat)) : Option (Nat × Nat) :=
  c.map fun p => (g.group m p.1, g.group m p.2)
/-- Whether two ranges of contact lines meet within SEAM_TOL (R210). -/
def rangesMeet (tol : Nat) (a b : Option (Nat × Nat)) : Bool :=
  match a, b with
  | some x, some y => decide (x.1 ≤ y.2 + tol ∧ y.1 ≤ x.2 + tol)
  | _, _ => false
/-- Whether two fragments merge (R210). -/
def Stitch.joins (g : Stitch) (a b : Fragment) : Bool :=
  (a.member + 1 == b.member && rangesMeet g.tol (g.contact a.member a.obj.right) (g.contact b.member b.obj.left))
    || (b.member + 1 == a.member && rangesMeet g.tol (g.contact b.member b.obj.right) (g.contact a.member a.obj.left))
/-- Fragments joined, over any number of steps, to those of `l` (R210). -/
def Stitch.closure (g : Stitch) (all : List Fragment) : Nat → List Fragment → List Fragment
  | 0, l => l
  | n + 1, l =>
    let more := all.filter fun f => !(l.any fun x => x.id == f.id) && l.any fun x => g.joins x f
    if more.isEmpty then l else g.closure all n (l ++ more)
/-- An object of a neighbour that a fragment's contact meets: seam column `col` of the neighbour, on side `right`. -/
def meetsObj (g : Stitch) (m : Nat) (contact : Option (Nat × Nat)) (col : Nat) (o : Obj) : Bool :=
  rangesMeet g.tol contact (g.contact m (seamLines o.spans col))
/-- Whether a fragment still waits for its neighbour `m` across one seam (R211). -/
def seamWaits (s : State) (g : Stitch) (m : Nat) (contact : Option (Nat × Nat)) (left : Bool) : Bool :=
  match contact with
  | none => false
  | some (_, last) =>
    match (g.members[m]?).bind s.ctx with
    | none => false
    | some x =>
      let c := g.members.getD m 0
      let col := if left then x.seg.segX1 else x.seg.segX0
      let done := match x.dyn.segPos with
        | some p => decide (last + g.tol ≤ g.group m p)
        | none => false
      let queued := (s.asm (x.asm.getD 0)).queue.any fun i => match i with
        | .obj o => o.ctx == c && meetsObj g m contact col o
        | .cell _ _ => false
      x.state == .running && (!done || x.dyn.live.any (fun e => meetsObj g m contact col e.2)
        || x.dyn.closing.any (meetsObj g m contact col) || queued)
/-- Whether a fragment waits (R211). -/
def fragWaits (s : State) (g : Stitch) (f : Fragment) : Bool :=
  (decide (0 < f.member) && seamWaits s g (f.member - 1) (g.contact f.member f.obj.left) true)
    || seamWaits s g (f.member + 1) (g.contact f.member f.obj.right) false
/-- The views a stitched cell is cut from, with the fragments' pixels. -/
def stitchViews (s : State) (g : Stitch) (fs : List Fragment) : List CutView :=
  let bases := stitchBases s g.members
  (List.range g.members.length).filterMap fun m =>
    ((g.members[m]?).bind s.ctx).map fun x =>
      let mine := fs.filter fun f => f.member == m
      { seg0 := x.seg.segX0, seg1 := x.seg.segX1, base := bases.getD m 0, offset := g.offsets.getD m 0
        window := x.dyn.window, spans := mine.flatMap (·.obj.spans), above := mine.flatMap (·.obj.above)
        below := mine.flatMap (·.obj.below) }
/-- Fragments become one final object (R195, R199, R212, R213). `timedOut`: unmerged under R211. -/
def mergeFinal (a gi : Nat) (g : Stitch) (fs : List Fragment) (timedOut : Bool) (s : State) : State :=
  let lead := fs.foldl (fun (x : Option Fragment) f => match x with
    | none => some f
    | some y => if f.member < y.member then some f else some y) none
  match lead with
  | none => s
  | some lf =>
    let c := lf.obj.ctx
    match s.ctx c with
    | none => s
    | some x =>
      let s := countCtxN c .stitchMerge (fs.length - 1) s
      let area := sumList (fs.flatMap fun f => f.obj.spans.map fun p => p.x1 - p.x0 + 1)
      let part := fs.any (·.obj.part)
      if !part && !(fs.any (·.obj.high)) then countCtx c .weak s
      else if !part && decide (area < x.inForce.seg.minArea) then countCtx c .small s
      else
        let views := stitchViews s g fs
        let width := stitchWidth s g.members
        let times := fs.map fun f =>
          let w := ((s.ctx f.obj.ctx).map (·.dyn.window)).getD []
          (timeAt w f.obj.first, timeAt w f.obj.last)
        let tops := fs.map fun f => g.group f.member f.obj.top
        let bottoms := fs.map fun f => g.group f.member (f.obj.bottom.getD f.obj.last)
        let firstFrag := fs.foldl (fun (y : Fragment) f => if g.group f.member f.obj.first < g.group y.member y.obj.first then f else y) lf
        let k := cutCell x.fmt x.bands s.freeCtr views (tops.foldl min (tops.headD 0)) (bottoms.foldl max 0) 0 (width - 1)
          ((times.map (·.1)).foldl min ((times.map (·.1)).headD 0)) ((times.map (·.2)).foldl max 0) firstFrag.obj.chunk
        let o := fs.foldl (fun (o : Obj) f => { o with
            short := o.short || f.obj.short, long := o.long || f.obj.long, continued := o.continued || f.obj.continued
            linesDropped := o.linesDropped || f.obj.linesDropped, resumed := o.resumed || f.obj.resumed }) lf.obj
        let spans := views.flatMap fun v => v.spans.map v.toGroup
        let own := fun (f : Fragment) => (s.ctx f.obj.ctx).map (·.seg)
        let eLeft := if timedOut then fs.any fun f => f.obj.spans.any fun p => some p.x0 == (own f).map (·.segX0)
          else spans.any fun p => p.x0 == 0
        let eRight := if timedOut then fs.any fun f => f.obj.spans.any fun p => some p.x1 == (own f).map (·.segX1)
          else spans.any fun p => p.x1 + 1 == width
        let n := takeSeq c o s
        let fl := o.baseFlags x.fmt.mask + flagIf eLeft flEdgeLeft + flagIf eRight flEdgeRight
        finalObject a (finalOf c x (some gi) fl n.1 k spans n.2) (.stitch gi) (bumpFree (countCtx c .obj n.2))
/-- The fragments of a group change. -/
def modFrags (gi : Nat) (f : List Fragment → List Fragment) (s : State) : State :=
  { s with frags := s.frags.put gi (f (s.frags.getD gi [])) }
/-- Fragments of group `gi` whose wait is over become final, oldest first (R211). -/
def settleSeams (a gi : Nat) : Nat → State → State
  | 0, s => s
  | n + 1, s =>
    match s.stitches.find gi with
    | none => s
    | some g =>
      let all := s.frags.getD gi []
      let ready := fun (f : Fragment) => (g.closure all all.length [f]).all fun x => !fragWaits s g x
      match all.find? ready with
      | none => s
      | some f =>
        let fs := g.closure all all.length [f]
        settleSeams a gi n (mergeFinal a gi g fs false (modFrags gi (fun l => l.filter fun x => !(fs.any fun y => y.id == x.id)) s))
/-- An object cut in two below line `pos` (R196, R212): the part above and what goes on. -/
def splitObj (pos key : Nat) (o : Obj) : Obj × Obj :=
  let hi := o.spans.filter fun p => decide (p.pos ≤ pos)
  let lo := o.spans.filter fun p => decide (pos < p.pos)
  ({ o with spans := hi, last := pos, continued := true, part := true, key := key
            below := lo.filter fun p => p.pos == pos + 1 },
   { o with spans := lo, first := pos + 1, part := true, conts := [key], top := pos + 1
            above := hi.filter fun p => p.pos == pos })
/-- The live partners of a part split at the part's last group line (R212). -/
def splitPartners (g : Stitch) (f : Fragment) (s : State) : State :=
  let line := g.group f.member f.obj.last
  let one := fun (m : Nat) (contact : Option (Nat × Nat)) (left : Bool) (s : State) =>
    match (g.members[m]?).bind s.ctx with
    | none => s
    | some x =>
      let c := g.members.getD m 0
      let col := if left then x.seg.segX1 else x.seg.segX0
      let pos := ((line : Int) - g.offsets.getD m 0).toNat
      x.dyn.live.foldl (fun s e =>
        if meetsObj g m contact col e.2 && decide (e.2.first ≤ pos ∧ pos < e.2.last) then
          countCtx c .splitN (modCtx c (fun x =>
            let k := x.dyn.keys + 1
            let p := splitObj pos k e.2
            { x with dyn := { x.dyn with live := x.dyn.live.put e.1 p.2, closing := x.dyn.closing ++ [p.1], keys := k } }) s)
        else s) s
  let s := if f.member = 0 then s else one (f.member - 1) (g.contact f.member f.obj.left) true s
  one (f.member + 1) (g.contact f.member f.obj.right) false s
/-- An object arrives at its assembler (R210). -/
def takeObject (a : Nat) (o : Obj) (s : State) : State :=
  match s.stitchOf o.ctx with
  | none => plainFinal a o s
  | some (gi, m) =>
    match s.stitches.find gi with
    | none => s
    | some g =>
      let f : Fragment := { id := s.fragIds, member := m, obj := o, since := s.now }
      if o.left.isNone && o.right.isNone then mergeFinal a gi g [f] false s
      else
        let s := modFrags gi (fun l => l ++ [f]) { s with fragIds := s.fragIds + 1 }
        if o.continued then splitPartners g f s else s
/-- A cell received for a CELL_PASSTHRU context is steered with its header and flags unchanged (R116). -/
def takeCell (a c : Nat) (d : List Byte) (s : State) : State :=
  let h := fun (n : Nat) (trunc : Bool) =>
    if trunc then d.take 4 ++ b16 (u16At d 4 ||| flTruncated) ++ (d.drop 6).take 0x77 ++ leBytes 3 n else d.take 128
  let b := broodCell a c c (u64At d 8) none 0 0 h (d.drop 128) s
  match b.1 with
  | some n => steerCell ((s.ctxSteer.getD c []).head?) a n b.2
  | none => b.2
/-- Seams of every stitch group on assembler `a`. -/
def settleAll (a : Nat) (s : State) : State :=
  s.stitches.foldl (fun s e =>
    if (e.2.members.head?.map s.asmOf) = some a then settleSeams a e.1 (s.frags.getD e.1 []).length s else s) s
/-- ASM_OBJECT (R207, R210 to R213): fragments whose wait is over become final; then the next item is taken. -/
def execAsmObject (a : AsmId) (t : Nat) (s : State) : Host.Outcome State Fault Refusal :=
  let s := advTo t s
  if (s.asm a).failed then .next s
  else
    let s := settleAll a s
    match (s.asm a).queue with
    | [] => .next s
    | i :: rest =>
      let s := modAsm a (fun v => { v with queue := rest }) s
      .next (settleAll a (match i with
        | .obj o => takeObject a o s
        | .cell c d => takeCell a c d s))
/-- The window limit of R211: one more group line would take a row of the fragment's box out of a member's window. -/
def windowEnds (s : State) (g : Stitch) (f : Fragment) : Bool :=
  let fs := g.closure (s.frags.getD ((s.stitchOf f.obj.ctx).elim 0 (·.1)) []) 8 [f]
  let row := fun (f : Fragment) => g.group f.member (max f.obj.top (f.obj.first - (((s.ctx f.obj.ctx).map (·.fmt.margin)).getD 0)))
  let need := (fs.map row).foldl min (row f)
  (List.range g.members.length).any fun m =>
    match (g.members[m]?).bind s.ctx with
    | some x => match x.dyn.segPos with
      | some p => decide (need + x.fmt.hWin ≤ g.group m p + 1)
      | none => false
    | none => false
/-- STITCH_TIMEOUT (R211): a fragment that has waited too long becomes final unmerged. -/
def execStitchTimeout (g : Fin 32) (frag : Nat) (t : Nat) (s : State) : Host.Outcome State Fault Refusal :=
  let s := advTo t s
  match s.stitches.find g.val, (s.frags.getD g.val []).find? fun f => f.id == frag with
  | some st, some f =>
    let a := s.asmOf f.obj.ctx
    if f.since + 1000 * st.timeout ≤ s.now ∨ windowEnds s st f then
      let s := modFrags g (fun l => l.filter fun x => x.id != frag) s
      let s := countCtx f.obj.ctx .stitchTimeout s
      let id := objectId s.deviceId f.obj.ctx (takeSeq f.obj.ctx f.obj s).1
      .next (raise 0x0405 sevW g f.obj.ctx id [s.ownerOf .stitch g] (mergeFinal a g st [f] true s))
    else .next s
  | _, _ => .next s

end Sys2Proof.Machine
end

