-- ==== Sys2Proof/Machine/Lanes.lean ====
section
/-! DEFINITION. The lane physical layer (02_lane_physical_layer.md): training, monitors, power states. -/
namespace Sys2Proof.Machine

/-- PRE and POST of a preset (Table 2-4). -/
def presetTaps (p : Nat) : Nat × Nat :=
  match p with
  | 0 => (0, 0) | 1 => (0, 4) | 2 => (0, 8) | 3 => (0, 12) | 4 => (2, 8) | 5 => (4, 12) | 6 => (4, 16) | _ => (4, 20)
/-- The PLL tuning a rate needs (R23): 56.1 and 28.05 GBd; 53.125 and 26.5625 GBd; 25.78125 GBd. -/
def pllGroup (rate : Nat) : Nat := if rate ≤ 2 then 0 else if rate ≤ 4 then 1 else 2
/-- The lane needs a PLL (R25). -/
def Lane.on (v : Lane) : Bool := v.cfg.mode != .off && v.power != .off
/-- ROLE of a mode (Tables 2-1 and 2-7). -/
def roleOf : LaneMode → Nat
  | .camTx => 1
  | .hive => 2
  | _ => 0
/-- ROLE pairings that train (R39). -/
def rolesPair (a b : Nat) : Bool := (a == 0 && b == 1) || (a == 1 && b == 0) || (a == 2 && b == 2)
/-- Lane events reach the lane's owner (R51). -/
def State.laneTo (s : State) (l : Nat) : List Nat := [s.ownerOf .lane l]

/-- The class of a lane's fault (R584, Table 21-1). -/
def State.laneClass (s : State) (l : Nat) : Nat :=
  if s.bonded l then clsBonded else if (s.lane l).cfg.mode = .hive then clsHive else clsLane
/-- A loss detected on a lane in DATA is a fault of its class (R584). -/
def laneFault (l : Nat) (s : State) : State :=
  if (s.lane l).train = .data then detectFault (s.laneClass l) l s else s

/-- The link of lowest lane `h` forgets what a lock gave it: credits start anew (R71), and a bond starts from its full
width again. -/
def linkLost (h : Nat) (s : State) : State :=
  let full := 2 ^ (s.lane h).cfg.bond - 1
  modLink h (fun k => { k with rxGrant := [], rxUsed := [], txGrant := [], txUsed := [], cells := [], rxMask := full,
                               txMask := full, sendingDegrade := false, time := {} }) s
/-- The receiver of lane `l` is out of lock: hunting restarts (R63); with the last lane of a bond its link is lost. -/
def unlockLink (l : Nat) (s : State) : State :=
  let h := s.head l
  let s1 := modLink l (fun k => { k with locked := false, mis := [], periods := 0, hdrRun := 0, uncorrRun := 0 }) s
  let s2 := modLink h (fun k => { k with deskewed := clearBit k.deskewed (l - h) }) s1
  if (s2.bondLanes h).any fun i => s2.carries i then s2 else linkLost h s2

/-- Entry to TRAIN_CDR (Table 2-8): the timer starts, training frames go out from the initial preset, or from the
stored coefficients after SLEEP (R34, R54). -/
def enterCdr (fast : Bool) (l : Nat) (s : State) : State :=
  let v := s.lane l
  let taps := if fast then v.stored.getD (presetTaps v.cfg.preset) else presetTaps v.cfg.preset
  emit (.trainingFrames l) (unlockLink l (modLane l (fun v => { v with
    train := .cdr, timerAt := s.now, fastAt := if fast then some s.now else none, validRun := 0, readyRun := 0,
    roleRun := 0, mismatch := false, tx := {}, rx := {}, preTap := taps.1, postTap := taps.2, frozen := false,
    drifting := false, power := .active, ask := none, resuming := false }) s))

/-- A lane in DATA returns to TRAIN_CDR: counted in RETRAIN_CNT (R41). -/
def retrain (l : Nat) (s : State) : State :=
  enterCdr false l (honey (hoLane l 8) (countLane l .retrain s))

/-- CHK of a training field holds (Tables 2-6, 2-7). -/
def chkOk (v : Nat) : Bool := bits v 0 8 == (bits v 16 8 ^^^ bits v 8 8)
/-- The fields of a valid frame (reserved tap requests act as hold). -/
def readFields (c t : Nat) : TrainRx :=
  let tap := fun n => if n = 3 then 0 else n
  { presetReq := bit c 23, presetVal := bits c 20 3, preReq := tap (bits c 18 2), postReq := tap (bits c 16 2),
    precodeReq := bit c 15, modReq := bit c 14,
    preSts := bits t 22 2, postSts := bits t 20 2, presetAck := bit t 19, rxReady := bit t 18, precodeOn := bit t 17,
    modAck := bit t 16, role := bits t 14 2 }

/-- What the sender's own fields become on a valid frame: statuses return to not updated when the far request
returned to hold, own requests to hold once answered (R38), the pattern and precoding follow the far requests. -/
def answerFields (p4 : Bool) (x : TrainTx) (r : TrainRx) : TrainTx :=
  { x with
    preSts := if r.preReq = 0 then 0 else x.preSts
    postSts := if r.postReq = 0 then 0 else x.postSts
    presetAck := x.presetAck && r.presetReq
    preReq := if r.preSts = 1 ∨ r.preSts = 2 then 0 else x.preReq
    postReq := if r.postSts = 1 ∨ r.postSts = 2 then 0 else x.postReq
    presetReq := x.presetReq && !r.presetAck
    precodeOn := p4 && r.precodeReq
    modAck := p4 && r.modReq }

/-- The receiver's own request in TRAIN_EQ, where none is open: a free choice (R40). -/
def askFields (c : Nat) (x : TrainTx) (r : TrainRx) : TrainTx :=
  { x with
    preReq := if x.preReq = 0 ∧ r.preSts = 0 then c % 4 % 3 else x.preReq
    postReq := if x.postReq = 0 ∧ r.postSts = 0 then c / 4 % 4 % 3 else x.postReq
    presetReq := x.presetReq || (!r.presetAck && bit c 4)
    presetVal := if x.presetReq then x.presetVal else c / 32 % 8 }

/-- The lane takes in a valid frame: counts of consecutive frames, and TRAIN_CDR to TRAIN_EQ (R38, R40). -/
def acceptFrame (l : Nat) (tf : TrainFrame) (s : State) : State :=
  let v := s.lane l
  let p4 := pam4 v.cfg.rate
  let r := readFields tf.control.toNat tf.status.toNat
  let bad := !rolesPair (roleOf v.cfg.mode) r.role
  let run := v.validRun + 1
  let x := answerFields p4 v.tx r
  let v1 := { v with
    rxInverted := tf.marker == .inverted, validRun := run, readyRun := if r.rxReady then v.readyRun + 1 else 0,
    roleRun := if bad then v.roleRun + 1 else 0, rx := r, tx := x }
  if bad && 8 ≤ v1.roleRun then
    raise 0x0104 sevE l (roleOf v.cfg.mode + 4 * r.role) 0 (s.laneTo l) (modLane l (fun _ => { v1 with mismatch := true }) s)
  else if v.train = .cdr ∧ 8 ≤ run then
    let x' := { x with modReq := p4, precodeReq := p4 && Config.precodeAsk l s.freeCtr }
    bumpFree (modLane l (fun _ => { v1 with train := .eq, lol := false, tx := x' }) s)
  else if v.train = .eq ∧ v.fastAt.isNone then
    bumpFree (modLane l (fun _ => { v1 with tx := askFields (Config.coefAsk l s.freeCtr) x r }) s)
  else modLane l (fun _ => v1) s

/-- TRAINING_FRAME_RECEIVED (R35 to R40). -/
def execTrainingFrameReceived (l : LaneId) (tf : TrainFrame) (t : Nat) (s : State) : Host.Outcome State Fault Refusal :=
  let s := advTo t s
  let v := s.lane l
  .next (if (v.train = .cdr ∨ v.train = .eq ∨ v.train = .tend) ∧ v.mismatch = false then
    if tf.marker = .missing ∨ !chkOk tf.control.toNat ∨ !chkOk tf.status.toNat then
      countLane l .trainChk (modLane l (fun v => { v with validRun := 0, readyRun := 0, roleRun := 0 }) s)
    else acceptFrame l tf s
  else s)

/-- One step of a FIR magnitude (R33, R38): request 1 raises, 2 lowers; status 1 updated, 2 AT_LIMIT. -/
def tapStep (req cur lim : Nat) : Nat × Nat :=
  if req = 1 then (if cur < lim then (cur + 1, 1) else (cur, 2))
  else if 0 < cur then (cur - 1, 1) else (cur, 2)

/-- COEFFICIENT_UPDATE (R38, R33): a change issued before the status returned to not updated is ignored. -/
def execCoefficientUpdate (l : LaneId) (tap : CoefTap) (t : Nat) (s : State) : Host.Outcome State Fault Refusal :=
  let s := advTo t s
  let v := s.lane l
  .next (if v.train = .cdr ∨ v.train = .eq ∨ v.train = .tend then
    match tap with
    | .preset =>
      if v.rx.presetReq && !v.tx.presetAck then
        let p := presetTaps v.rx.presetVal
        modLane l (fun v => { v with preTap := p.1, postTap := p.2, tx := { v.tx with presetAck := true } }) s
      else s
    | .pre =>
      if !v.rx.presetReq && v.rx.preReq != 0 && v.tx.preSts == 0 then
        let p := tapStep v.rx.preReq v.preTap 16
        modLane l (fun v => { v with preTap := p.1, tx := { v.tx with preSts := p.2 } }) s
      else s
    | .post =>
      if !v.rx.presetReq && v.rx.postReq != 0 && v.tx.postSts == 0 then
        let p := tapStep v.rx.postReq v.postTap 24
        modLane l (fun v => { v with postTap := p.1, tx := { v.tx with postSts := p.2 } }) s
      else s
  else s)

/-- A lane whose PLL has locked begins: training in an Abaend mode (Table 2-8), nothing in LOOP (R30), IEEE 802.3
auto-negotiation and training in ETH_CAM until its link is up (R42). -/
def startLane (l : Nat) (s : State) : State :=
  match (s.lane l).cfg.mode with
  | .camRx | .camTx | .hive => enterCdr false l s
  | .loop => modLane l (fun v => { v with train := .data, power := .active, dataAt := s.now }) s
  | .ethCam => modLane l (fun v => { v with train := .none, power := .active }) s
  | .off => s

/-- PLL_LOCK (R41, R23): every lane of the quad that waits for the PLL begins. -/
def execPllLock (q : Fin 24) (p : Pll) (t : Nat) (s : State) : Host.Outcome State Fault Refusal :=
  let s := advTo t s
  let i := match p with | .a => 0 | .b => 1
  let pl := s.pll q i
  .next (if pl.powered && !pl.locked then
    ((List.range 4).map (4 * q.val + ·)).foldl (fun s l =>
      let v := s.lane l
      if v.train = .pll ∧ pllGroup v.cfg.rate = pl.tuned then startLane l s else s)
      (modPll q i (fun x => { x with locked := true }) s)
  else s)

/-- RX_READY (R40): TRAIN_EQ ends with an eye of at least 30 mV. -/
def execRxReady (l : LaneId) (eye : Nat) (t : Nat) (s : State) : Host.Outcome State Fault Refusal :=
  let s := advTo t s
  .next (if (s.lane l).train = .eq ∧ (s.lane l).mismatch = false ∧ 30 ≤ eye then
    modLane l (fun v => { v with
      train := .tend, eye := eye
      tx := { v.tx with rxReady := true, preReq := 0, postReq := 0, presetReq := false } }) s
  else s)

/-- Entry to DATA (R40): the transmit frame count starts at 0 and hunting begins; when the link enters DATA, a camera's
descriptor is to be read (R124), and the line numbers its contexts received before no longer count (R126). -/
def enterData (l : Nat) (s : State) : State :=
  let h := s.head l
  let fresh := !((s.bondLanes h).any fun i => (s.lane i).train == .data)
  let s1 := modLink l (fun k => { k with lastSym := 0 })
    (unlockLink l (modLane l (fun v => { v with train := .data, dataAt := s.now, fastAt := none, power := .active }) s))
  if fresh then
    modLink h (fun k => { k with descPending := (s.lane h).cfg.mode == .camRx, cctl := [] })
      { s1 with ctxs := s1.ctxs.map fun (e : Nat × Ctx) => if e.2.lane = h then (e.1, { e.2 with lastRecv := none }) else e }
  else s1

/-- TRAIN_END_DONE (R40, R41). -/
def execTrainEndDone (l : LaneId) (t : Nat) (s : State) : Host.Outcome State Fault Refusal :=
  let s := advTo t s
  let v := s.lane l
  .next (if v.train = .tend ∧ 8 ≤ v.readyRun ∧ v.mismatch = false then enterData l s else s)

/-- TRAINING_TIMER_EXPIRY (R40): 45 ms after the entry to TRAIN_CDR. -/
def execTrainingTimerExpiry (l : LaneId) (s : State) : Host.Outcome State Fault Refusal :=
  let v := s.lane l
  .next (if (v.train = .cdr ∨ v.train = .eq ∨ v.train = .tend) ∧ v.mismatch = false then
    let s := advTo (v.timerAt + 45000000) s
    raise 0x0103 sevE l 0 0 (s.laneTo l) (countLane l .trainFail (emit (.laneIdle l)
      (modLane l (fun v => { v with train := .fail, failAt := s.now, fastAt := none }) s)))
  else s)

/-- TRAIN_FAIL_RETRY (R40): 10 ms after the entry to TRAIN_FAIL. -/
def execTrainFailRetry (l : LaneId) (s : State) : Host.Outcome State Fault Refusal :=
  let v := s.lane l
  .next (if v.train = .fail then enterCdr false l (advTo (v.failAt + 10000000) s) else s)

/-- LOCK_TIMEOUT (R63, R40): 100 µs in DATA without lock. -/
def execLockTimeout (l : LaneId) (s : State) : Host.Outcome State Fault Refusal :=
  let v := s.lane l
  .next (if v.train = .data ∧ v.cfg.mode.abaend ∧ (s.link l).locked = false then
    retrain l (advTo (v.dataAt + 100000) s)
  else s)

/-- Whether every content block of a frame is IDLE, TIME, CREDIT or ALIGN (R43). -/
def idleContent (c : List (Nat × Nat)) : Bool :=
  c.all fun b => b.1 == 2 && [0x1E, 0x55, 0x78, 0x87].contains (b.2 % 256)

/-- IDLE_FREEZE (R43, R46): the receiver of an Abaend lane freezes. -/
def execIdleFreeze (l : LaneId) (eye : Nat) (t : Nat) (s : State) : Host.Outcome State Fault Refusal :=
  let s := advTo t s
  let v := s.lane l
  .next (if v.train = .data ∧ v.cfg.mode.abaend ∧ v.frozen = false ∧ v.drifting = false then
    modLane l (fun v => { v with frozen := true, hFreeze := eye, eye := eye }) s
  else s)

/-- ADAPTATION_RESUME (R44). -/
def execAdaptationResume (l : LaneId) (t : Nat) (s : State) : Host.Outcome State Fault Refusal :=
  let s := advTo t s
  .next (if (s.lane l).frozen then modLane l (fun v => { v with frozen := false }) s else s)

/-- The eye fell below 60 % of H_freeze while frozen (R45). -/
def laneDrift (l eye : Nat) (s : State) : State :=
  let h := (s.lane l).hFreeze
  raise 0x0105 sevW l (eye % 65536 + 65536 * (h % 65536)) 0 (s.laneTo l)
    (honey (hoLane l 12) (countLane l .driftUnfreeze (modLane l (fun v => { v with frozen := false, drifting := true }) s)))

/-- EYE_WINDOW (R49, R45). -/
def execEyeWindow (l : LaneId) (eye : Nat) (t : Nat) (s : State) : Host.Outcome State Fault Refusal :=
  let s := advTo t s
  let v := s.lane l
  .next (if v.cfg.mode = .off ∨ v.power = .off ∨ v.power = .sleep then s
  else
    let low := decide (eye < v.cfg.eyeFloor)
    let s1 := modLane l (fun v => { v with eye := eye, lastLow := low }) s
    let s2 := if low then honey (hoLane l 0x48) (countLane l .eyeLow s1) else s1
    let s3 := if low && !v.lastLow then raise 0x0106 sevW l eye 0 (s.laneTo l) s2 else s2
    if v.frozen && decide (100 * eye < 60 * v.hFreeze) then laneDrift l eye s3 else s3)

/-- DRIFT_ADAPT_END (R45): a new H_freeze; frozen again if the frames are still idle. -/
def execDriftAdaptEnd (l : LaneId) (eye : Nat) (t : Nat) (s : State) : Host.Outcome State Fault Refusal :=
  let s := advTo t s
  .next (if (s.lane l).drifting then
    let idle := match (s.link l).content with | some c => idleContent c | none => false
    modLane l (fun v => { v with drifting := false, hFreeze := eye, eye := eye, frozen := idle }) s
  else s)

/-- LOS_ASSERT (R47, R584): counted and reported but in SLEEP and OFF; in DATA a fault of the lane's class; an
Ethernet link goes down with it. -/
def losDetected (l : Nat) (s : State) : State :=
  let v := s.lane l
  if v.los ∨ v.cfg.mode = .off ∨ v.cfg.mode = .loop then s
  else
    let s1 := modLane l (fun v => { v with los := true, losAt := s.now }) s
    if v.power = .sleep ∨ v.power = .off then s1
    else
      let s2 := raise 0x0101 sevE l 0 0 (s.laneTo l) (honey (hoLane l 0) (countLane l .los s1))
      laneFault l (if v.cfg.mode = .ethCam then modEth l (fun e => { e with linkUp := false }) s2 else s2)
def execLosAssert (l : LaneId) (t : Nat) (s : State) : Host.Outcome State Fault Refusal := .next (losDetected l (advTo t s))

/-- A lane leaves SLEEP: an Abaend lane by TRAIN_CDR with its stored coefficients (R54), an Ethernet lane by
auto-negotiation and training (R55). -/
def wakeSleeping (l : Nat) (s : State) : State :=
  if (s.lane l).cfg.mode.abaend then enterCdr true l s
  else modLane l (fun v => { v with power := .active }) s

/-- LOS_DEASSERT (R47, R54). -/
def execLosDeassert (l : LaneId) (t : Nat) (s : State) : Host.Outcome State Fault Refusal :=
  let s := advTo t s
  let v := s.lane l
  .next (if v.los then
    let s1 := modLane l (fun v => { v with los := false }) s
    if v.power = .sleep then wakeSleeping l s1 else s1
  else s)

/-- LOS_RETRAIN (R40): LOS for longer than 2 µs in DATA. -/
def execLosRetrain (l : LaneId) (t : Nat) (s : State) : Host.Outcome State Fault Refusal :=
  let s := advTo t s
  let v := s.lane l
  .next (if v.train = .data ∧ v.cfg.mode.abaend ∧ v.los ∧ v.losAt + 2000 < s.now then retrain l s else s)

/-- LOL_ASSERT (R48, R40, R584): not counted or reported where LOS explains it; DATA is left. -/
def execLolAssert (l : LaneId) (t : Nat) (s : State) : Host.Outcome State Fault Refusal :=
  let s := advTo t s
  let v := s.lane l
  .next (if v.lol ∨ v.cfg.mode = .off ∨ v.cfg.mode = .loop ∨ v.power = .sleep ∨ v.power = .off then s
  else
    let s1 := modLane l (fun v => { v with lol := true }) s
    let s2 := if v.los then s1
      else laneFault l (raise 0x0102 sevE l 0 0 (s.laneTo l) (honey (hoLane l 4) (countLane l .lol s1)))
    if v.train = .data ∧ v.cfg.mode.abaend then retrain l s2 else s2)

/-- Every lane of the bond of `l` (R29: they enter and leave power states together). -/
def State.bondOf (s : State) (l : Nat) : List Nat := s.bondLanes (s.head l)

/-- DOZE_SELF_WAKE (R53): the data frame that woke the lane is lost. -/
def execDozeSelfWake (l : LaneId) (t : Nat) (s : State) : Host.Outcome State Fault Refusal :=
  let s := advTo t s
  let v := s.lane l
  .next (if v.power = .doze ∧ v.resuming = false then
    countLane l .dozeLoss ((s.bondOf l).foldl (fun s i => modLane i (fun v => { v with resuming := true }) s) s)
  else s)

/-- DOZE_RESUME_DONE (R53): back in ACTIVE. -/
def execDozeResumeDone (l : LaneId) (t : Nat) (s : State) : Host.Outcome State Fault Refusal :=
  let s := advTo t s
  let v := s.lane l
  .next (if v.power = .doze ∧ v.resuming then
    (s.bondOf l).foldl (fun s i => modLane i (fun v => { v with power := .active, resuming := false }) s) s
  else s)

/-- FAST_RESUME_TIMEOUT (R54): 300 µs after the wake; full training goes on under the 45 ms timer. -/
def execFastResumeTimeout (l : LaneId) (s : State) : Host.Outcome State Fault Refusal :=
  let v := s.lane l
  .next (match v.fastAt with
  | some a =>
    if v.train = .data then s
    else
      let s := advTo (a + 300000) s
      let taps := presetTaps v.cfg.preset
      countLane l .fastResumeFail (modLane l (fun v => { v with fastAt := none, preTap := taps.1, postTap := taps.2 }) s)
  | none => s)

/-! ### Power states (R52 to R55, R83) -/

/-- A lane enters a power state. SLEEP keeps the coefficients and leaves DATA; OFF keeps nothing. -/
def enterPower1 (p : LanePower) (l : Nat) (s : State) : State :=
  match p with
  | .doze => modLane l (fun v => { v with power := .doze, ask := none, resuming := false }) s
  | .sleep =>
    let s1 := modLane l (fun v => { v with power := .sleep, ask := none, train := .none, frozen := false,
                                           drifting := false, stored := some (v.preTap, v.postTap) }) s
    modEth l (fun e => { e with linkUp := false }) (unlockLink l (emit (.laneIdle l) s1))
  | .off =>
    let s1 := modLane l (fun v => { v with power := .off, ask := none, train := .none, frozen := false,
                                           drifting := false, stored := none, fastAt := none }) s
    modEth l (fun e => { e with linkUp := false }) (unlockLink l (emit (.laneIdle l) s1))
  | .active => modLane l (fun v => { v with power := .active, ask := none }) s
/-- A quad whose last lane entered OFF powers down both PLLs (R25). -/
def pllTrim (q : Nat) (s : State) : State :=
  if (List.range 4).any fun i => (s.lane (4 * q + i)).on then s
  else { s with plls := (s.plls.erase (2 * q)).erase (2 * q + 1) }
/-- A bond enters a power state as one (R29). -/
def enterPower (p : LanePower) (h : Nat) (s : State) : State :=
  pllTrim (h / 4) ((s.bondLanes h).foldl (fun s l => enterPower1 p l s) s)

/-- A power exchange begins (R83): the request leaves on the lowest active lane. -/
def askPower (sleep : Bool) (h : Nat) (s : State) : State :=
  let q := ((s.link h).lmsgSeq + 1) % 256
  sendLmsg h (if sleep then 0x02 else 0x01) q
    (modLink h (fun k => { k with lmsgSeq := q })
      (modLane h (fun v => { v with ask := some { sleep := sleep, seq := q, since := s.now } }) s))

/-- A lane in DOZE is woken with WAKE and resumes (R53, R83). -/
def wakeDozing (h : Nat) (s : State) : State :=
  sendLmsg h 0x05 0 ((s.bondLanes h).foldl (fun s i => modLane i (fun v => { v with resuming := true }) s) s)

end Sys2Proof.Machine
end

