-- ==== Sys2Proof/Machine/PowerOps.lean ====
section
/-! DEFINITION. Banks in retention (R498) and the return of the device to RUN (R547, R548). -/
namespace Sys2Proof.Machine

/-- Bank `b` (Table 20-1). -/
def State.bank (s : State) (b : Nat) : Bank := s.banks.getD b {}
/-- Change bank `b`. -/
def modBank (b : Nat) (g : Bank → Bank) (s : State) : State := { s with banks := s.banks.put b (g (s.bank b)) }
/-- A bank wakes from retention (R498). -/
def wakeBank (b : Nat) (s : State) : State :=
  if (s.bank b).retention then modBank b (fun x => { x with retention := false }) s else s
/-- Every bank wakes (R548). -/
def wakeBanks (s : State) : State := (List.range 62).foldl (fun s b => wakeBank b s) s
/-- Numbers of the line bank of comb `k`, the brood bank of assembler `a` and the queue context bank of port `p`. -/
def lineBank (k : Nat) : Nat := 24 + k
def broodBank (a : Nat) : Nat := 48 + a
def queueBank (p : Nat) : Nat := 56 + p

/-- A lane that the entry to DOZE or SLEEP moved is woken (R548). -/
def wakeLane (h : Nat) (s : State) : State :=
  match (s.lane h).power with
  | .doze => if (s.lane h).resuming then s else wakeDozing h s
  | .sleep => (s.bondLanes h).foldl (fun s l => wakeSleeping l s) s
  | _ => s
/-- STATE codes of Table 24-3. -/
def devCode : DevState → Nat
  | .run => 0 | .doze => 1 | .sleep => 2
/-- PWR_STATE to every function (R553). -/
def raisePower (cause left : Nat) (s : State) : State := raise 0x0D01 sevI (devCode s.sys.devState) cause left s.functions s
/-- A wake returns the device to RUN (R548); during an entry it ends the entry, and the cause reads 7 (R545). -/
def wakeDevice (cause : Nat) (s : State) : State :=
  if s.sys.devState = .run then s
  else
    let c := if s.power.entering then 7 else cause
    let s1 := wakeBanks { modSys (fun y => { y with devState := .run }) s with
      power := { s.power with entering := false, moved := [], asked := [], cause := c } }
    raisePower c s.power.left (s.power.moved.foldl (fun s h => wakeLane h s) s1)

/-- Serve a command that returns the device to RUN before its checks, where `p` holds of its request (R547). -/
def serveWaking (c : Cmd) (p : Req → Bool) (f m : Nat) (s : State) : State :=
  let r := (s.mbx f m).request f m
  serve c f m (if s.serves f m && (s.mbx f m).opcode == c.op && !r.checkOnly && p r then wakeDevice 6 s else s)

end Sys2Proof.Machine
end

