-- ==== Sys2Proof/Machine/Ctxs.lean ====
section
/-! DEFINITION. Commands of contexts, intake and combs (12_commands_setup.md, R344, R345). -/
namespace Sys2Proof.Machine

/-! ### Footprint and admission (R131, R138, R139, R204) -/

/-- k_t of a temporal mode (Table 6-4). -/
def CorrSet.kt (c : CorrSet) : Nat := if c.tMode = 2 then c.tdiRows else if c.tMode = 1 then 1 else 0
/-- F of R138. -/
def Ctx.footprint (x : Ctx) : Nat :=
  let w := x.geo.width
  w * x.bands * (2 * ((if x.corr.spHold then 4 else 0) + x.corr.kt + x.corr.regHold) + 4)
    + (if x.kind = .fullFrame then 0 else 8 * w + 262144)
/-- P of R139. -/
def Ctx.lineCost (x : Ctx) : Nat := ceilDiv (x.geo.width * x.bands) 32
/-- Σ f·(P + 64 ÷ S) as a numerator and a denominator (R139). -/
def rateSum (l : List Ctx) : Nat × Nat :=
  let den := l.foldl (fun a x => a * x.geo.stripe) 1
  (sumList (l.map fun x => x.geo.rate * (x.lineCost * x.geo.stripe + 64) * (den / x.geo.stripe)), max den 1)
/-- L_c of the `i`-th of the residents (R139). -/
def latencyOf (l : List Ctx) (i : Nat) : Nat :=
  match l[i]? with
  | none => 0
  | some x => 800 + x.lineCost
      + sumList (((l.zip (List.range l.length)).filter fun e => e.2 != i).map fun e => e.1.geo.stripe * e.1.lineCost + 64)
/-- The worst L_c of the STRICT residents. -/
def worstLatency (l : List Ctx) : Nat :=
  ((l.zip (List.range l.length)).map fun e => if e.1.geo.relaxed then 0 else latencyOf l e.2).foldl max 0
/-- Q of R204. -/
def Ctx.broodSpace (x : Ctx) : Nat :=
  let row := ceilDiv (x.geo.width * x.bands * x.fmt.storeBits) 8
  match x.kind with
  | .passthru => x.fmt.quota
  | .fullFrame => 8 * row + x.fmt.quota
  | _ => x.fmt.hWin * (row + 2 * x.geo.width) + 393216 + x.fmt.quota
/-- Intake space that a context reserves: two context lines (R131). -/
def Ctx.intakeNeed (x : Ctx) : Nat := if x.kind = .passthru then 0 else 2 * x.bands * x.lineBytes
/-- Whether a context holds a reservation (R117). -/
def Ctx.reserves (x : Ctx) : Bool := x.state != .defined
/-- Contexts on an assembler. -/
def State.asmCtxs (s : State) (a : Nat) : List (Nat × Ctx) := s.ctxs.filter fun e => e.2.asm == some a
/-- Whether the reservations on the assembler of context `c` fit with `x` in its place (R203, R204). -/
def State.broodFits (s : State) (c : Nat) (x : Ctx) : Bool :=
  match x.asm with
  | none => true
  | some a =>
    decide (sumList (((s.asmCtxs a).filter fun e => e.1 != c).map fun e => e.2.broodSpace) + x.broodSpace ≤ 8388608)
/-- Whether the footprints on the comb of context `c` fit with `x` in its place (R120). -/
def State.footFits (s : State) (c : Nat) (x : Ctx) : Bool :=
  match x.comb with
  | none => true
  | some k =>
    decide (sumList (((s.residents k).filter fun e => e.1 != c).map fun e => e.2.footprint) + x.footprint ≤ 3145728)

/-! ### Shared checks -/

/-- The context a request names at 0x00 exists. -/
def ctxNamed (r : Req) (s : State) : Bool × Fail := ((s.ctx (r.u32 0)).isSome && decide (r.u32 0 < 256), badField 0)
/-- The caller owns it. -/
def ctxOwned (r : Req) (s : State) : Bool × Fail :=
  ((match s.ctx (r.u32 0) with | some x => x.owner == r.fn | none => false), failSt stDenied)
/-- Both checks. -/
def ctxCheck (r : Req) (s : State) : Option Fail := firstFail [ctxNamed r s, ctxOwned r s]
/-- Go on with the context a request names. -/
def withCtx (r : Req) (s : State) (g : Nat → Ctx → Answer) : Answer :=
  match s.ctx (r.u32 0) with
  | some x => g (r.u32 0) x
  | none => .fail (badField 0)
/-- Whether settings that need DEFINED or ADMITTED may change. -/
def Ctx.quiet (x : Ctx) : Bool := x.state == .defined || x.state == .admitted
/-- A number lies in a range. -/
def inR (lo hi v : Nat) : Bool := decide (lo ≤ v ∧ v ≤ hi)

/-! ### CTX_CREATE (R114, R121, R122, R344) -/

/-- The ten geometry words at `o` (Table 5-3): range checks of each. -/
def geoChecks (r : Req) (o : Nat) (kind : CtxKind) : List (Bool × Fail) :=
  [(inR 16 32768 (r.u32 o), badField o),
   (inR 0 4 (r.u32 (o + 4)), badField (o + 4)),
   ((if kind = .lineScan then r.u32 (o + 8) == 0 else inR 1 65535 (r.u32 (o + 8))), badField (o + 8)),
   (inR 1 10000000 (r.u32 (o + 12)), badField (o + 12)),
   (inR 16 256 (r.u32 (o + 16)), badField (o + 16)),
   (inR 0 7 (r.u32 (o + 20)), badField (o + 20)),
   (inR 0 1 (r.u32 (o + 24)), badField (o + 24)),
   (inR 0 16 (r.u32 (o + 28)), badField (o + 28)),
   (inR 10 10000 (r.u32 (o + 32)), badField (o + 32)),
   (inR 100 1000000 (r.u32 (o + 36)), badField (o + 36))]
/-- The geometry words. -/
def geoOf (r : Req) (o : Nat) : Geometry :=
  { width := r.u32 o, format := r.u32 (o + 4), height := r.u32 (o + 8), rate := r.u32 (o + 12), stripe := r.u32 (o + 16)
    priority := r.u32 (o + 20), relaxed := r.u32 (o + 24) == 1, gapBridge := r.u32 (o + 28)
    lineTimeout := r.u32 (o + 32), frameTimeout := r.u32 (o + 36) }
/-- Kind codes. -/
def ctxKind : Nat → CtxKind
  | 0 => .lineScan | 1 => .areaScan | 2 => .fullFrame | _ => .passthru
/-- Source entry `k` of a request. -/
def srcEntry (r : Req) (k : Nat) : Nat × Nat := (bits (r.u32 (0x14 + 4 * k)) 0 8, bits (r.u32 (0x14 + 4 * k)) 8 8)
/-- The lowest free context ID. -/
def State.freeCtx (s : State) : Option Nat := (List.range 256).find? fun c => (s.ctx c).isNone
/-- A context as CTX_CREATE makes it (R153, R582). -/
def newCtx (fn : Nat) (kind : CtxKind) (lane : Nat) (ch : Option Nat) (bands : Nat) (src : List (Nat × Nat)) (g : Geometry) : Ctx :=
  { kind := kind, owner := fn, lane := lane, channel := ch, bands := bands, src := src, geo := g
    seg := { segX1 := g.width - 1 }, inForce := { seg := { segX1 := g.width - 1 }, gapBridge := g.gapBridge } }
/-- CTX_CREATE (R344); `compat` for opcode 0x0E10, whose KIND must be 2 (Table 23-2). -/
def ctxCreate (compat : Bool) (r : Req) (s : State) : Answer :=
  let l := r.u32 8
  let mode := (s.lane l).cfg.mode
  let kind := ctxKind (r.u32 4)
  let pass := r.u32 4 == 3
  let nb := r.u32 0x10
  let ch := optWord (r.u32 0x0C)
  let src := (List.range nb).map (srcEntry r)
  let id := if r.u32 0 = wordNone then s.freeCtx else some (r.u32 0)
  checked ([((if pass then mode == .camRx && ch.isNone else mode == .camRx || mode == .ethCam), failSt stNotInMode),
      (r.u32 0 == wordNone || (decide (r.u32 0 < 256) && (s.ctx (r.u32 0)).isNone), badField 0),
      (if compat then r.u32 4 == 2 else inR 0 3 (r.u32 4), badField 4),
      (s.head l == l, badField 8),
      (pass || (if mode = .ethCam then (match ch with | some k => decide (k < 8) | none => false) else ch.isNone), badField 0x0C),
      (pass || mode != .ethCam || !(s.eth l).cfg.slave, badField 0x0C)]
    ++ (if pass then [] else
      [(inR 1 4 nb, badField 0x10)]
      ++ (List.range (min nb 4)).map (fun k =>
        let e := srcEntry r k
        (decide (r.u32 (0x14 + 4 * k) < 65536) && decide (e.1 < 8 ∧ e.2 < 4) && (s.boundTo l ch e.1 e.2).isNone, badField (0x14 + 4 * k)))
      ++ laterDups src 0x14 4 ++ geoChecks r 0x24 kind)
    ++ [(id.isSome && decide (s.ctxs.length < 256), noResource 9)]) fun _ =>
    let c := id.getD 0
    let x := if pass then newCtx r.fn .passthru l none 1 [] { width := 16, format := 0, height := 0, rate := 1 }
      else newCtx r.fn kind l ch nb src (geoOf r 0x24)
    let s := match ch with
      | some k => if pass then s else modEth l (fun e => { e with streams := e.streams.put k { counts := (e.streams.getD k {}).counts } }) s
      | none => s
    .ok { s with ctxs := s.ctxs.put c x } (b32 c)
/-- Existence and ownership of the source lane, or of every lane of the source bond (R114). -/
def ctxCreateNamed (r : Req) (s : State) : Option Fail :=
  firstFail [named 96 8 r, ((s.bondLanes (r.u32 8)).all fun l => s.owns r.fn .lane l, failSt stDenied)]
def cmdCtxCreate : Cmd where
  op := 0x0201
  len := lenIs 76
  reads := false
  named := ctxCreateNamed
  run := ctxCreate false
def execCtxCreate (f : Fn) (m : Mbx) (s : State) : Host.Outcome State Fault Refusal := .next (serve cmdCtxCreate f m s)

/-! ### CTX_SET (R120) -/

/-- Changes of settings that need DEFINED, in range (R334: out of range the state check is skipped). -/
def geoFixed (x : Ctx) (g : Geometry) : List Bool :=
  [g.width == x.geo.width, g.format == x.geo.format, g.height == x.geo.height, g.rate == x.geo.rate,
   g.stripe == x.geo.stripe, true, g.relaxed == x.geo.relaxed]
def cmdCtxSet : Cmd where
  op := 0x0202
  len := lenIs 44
  reads := false
  named := ctxCheck
  run r s := withCtx r s fun c x =>
    let g := geoOf r 4
    let checks := geoChecks r 4 x.kind
    if x.kind = .passthru then .ok s []
    else
      checked ([(x.state == .defined || ((geoFixed x g).zip checks).all fun e => e.1 || !e.2.1, failSt stState)] ++ checks) fun _ =>
        let y := { x with geo := g }
        let y := if g.width = x.geo.width then y else
          { y with
            seg := { y.seg with segX0 := 0, segX1 := g.width - 1 }
            flat := none, defects := [], bgTable := none, flatCopy := none, defectsCopy := none, bgCopy := none }
        .ok { s with ctxs := s.ctxs.put c (if x.state = .running then y else
          { y with inForce := { corr := y.corr, seg := y.seg, gapBridge := g.gapBridge } }) } []
/-- CTX_SET (R120). A change of WIDTH returns the segmented columns to their defaults and drops the tables. -/
def execCtxSet (f : Fn) (m : Mbx) (s : State) : Host.Outcome State Fault Refusal := .next (serve cmdCtxSet f m s)

/-! ### CTX_ASSIGN (R117, R139, R345) -/

/-- The 24 B payload, with the context added. -/
def assignFigures (s : State) (c k : Nat) (x : Ctx) (a : Nat) (prot : Bool) : List Byte :=
  let res := if x.kind = .passthru then [] else ((s.residents k).filter fun e => e.1 != c).map (·.2) ++ [x]
  let rate := rateSum res
  let q := sumList (((s.asmCtxs a).filter fun e => e.1 != c).map fun e => e.2.broodSpace) + x.broodSpace
  b32 (if x.kind = .passthru then 0 else x.footprint) ++ b32 (sumList (res.map Ctx.footprint))
    ++ b32 (min 4294967295 (rate.1 / rate.2)) ++ b32 (worstLatency res) ++ b32 q ++ b32 (b2n prot)
/-- The first check of R139 and R204 that fails, by its DETAIL. -/
def admission (s : State) (c k : Nat) (x : Ctx) (a : Nat) : Option Nat :=
  let res := ((s.residents k).filter fun e => e.1 != c).map (·.2) ++ [x]
  let rate := rateSum res
  let need := sumList ((s.ctxs.filter fun e => e.1 != c && e.2.lane == x.lane && e.2.reserves).map fun e => e.2.intakeNeed) + x.intakeNeed
  if x.kind = .passthru then (if s.broodFits c { x with asm := some a } then none else some 6)
  else if 8 < res.length then some 1
  else if 3145728 < sumList (res.map Ctx.footprint) then some 2
  else if 1125000000 * rate.2 < rate.1 then some 3
  else if 10000 < worstLatency res then some 4
  else if s.linkSpace x.lane < need then some 5
  else if s.broodFits c { x with asm := some a } then none else some 6
/-- CTX_ASSIGN. A comb that is SPARE or FAILED is the keeper's, and passes the check of ownership (R345). -/
def ctxAssignNamed (r : Req) (s : State) : Option Fail :=
  let k := r.u32 4
  firstFail [ctxNamed r s, (decide (k < 24) || k == wordNone, badField 4), (decide (r.u32 8 < 8), badField 8), ctxOwned r s,
    (k == wordNone || s.owns r.fn .comb k || (s.comb k).state == .spare || (s.comb k).state == .failed, failSt stDenied)]
def ctxAssign (r : Req) (s : State) : Answer := withCtx r s fun c x =>
  let k := r.u32 4
  let a := r.u32 8
  let pass := x.kind == .passthru
  checked [(k == wordNone || (s.comb k).state != .failed, failSt stHwFault), (!(s.asm a).failed, failSt stHwFault),
      (x.state == .defined, failSt stState), (k == wordNone || (s.comb k).state != .spare, failSt stState),
      (pass == (k == wordNone), badField 4)] fun _ =>
    match admission s c k x a with
    | some d => .fail { code := stNoResource, detail := d, payload := assignFigures s c k x a false }
    | none =>
      let y := { x with state := .admitted, comb := if pass then none else some k, asm := some a }
      let s' := wakeBank (broodBank a) (if pass then s else wakeBank (lineBank k) s)
      let s' := { s' with ctxs := s'.ctxs.put c y }
      let s' := if !pass && (s.comb k).state == .free then modComb k (fun _ => { state := .inUse }) s' else s'
      .ok s' (assignFigures s c k x a (s'.isProtected c))
def cmdCtxAssign : Cmd where
  op := 0x0203
  len := lenIs 12
  reads := false
  named := ctxAssignNamed
  run := ctxAssign
def execCtxAssign (f : Fn) (m : Mbx) (s : State) : Host.Outcome State Fault Refusal := .next (serve cmdCtxAssign f m s)

/-! ### CTX_START (R118, R124) -/

/-- The first item of the camera descriptor that differs: 1 width, 2 format, 3 bands (R124). -/
def descMismatch (x : Ctx) (d : List Byte) : Option Nat :=
  let src := x.src.take x.bands
  let word := fun (n o : Nat) => u32At d (0x80 + 16 * n + o)
  if src.any fun e => word e.1 0 != x.geo.width then some 1
  else if src.any fun e => bits (word e.1 8) 0 4 != x.geo.format then some 2
  else if src.any fun e => decide (bits (u32At d 0x60) 0 4 ≤ e.1 ∨ bits (word e.1 8) 4 4 ≤ e.2) then some 3
  else none
/-- The descriptor of a context's link, where the link is up (R124). -/
def State.descOf (s : State) (x : Ctx) : Option (List Byte) :=
  if x.channel.isNone ∧ x.kind ≠ .passthru ∧ s.linkUp x.lane ∧ !(s.link x.lane).descPending then (s.link x.lane).desc else none
/-- The context begins (R118, R153). -/
def startCtx (x : Ctx) : Ctx :=
  { x with
    state := .running, inForce := { corr := x.corr, seg := x.seg, gapBridge := x.geo.gapBridge }, waitGroups := []
    toReport := [], last := [none, none, none, none], slots := [], skips := [], upTo := none, stopAt := none, frame := none
    longFrame := none, work := [], dyn := startDyn x, recs := [] }
/-- The digits of a hexadecimal serial number as a camera descriptor's SERIAL holds them (R77). -/
def hexValue (b : List Byte) : Nat :=
  b.foldl (fun a x =>
    let v := x.toNat
    if 48 ≤ v ∧ v ≤ 57 then 16 * a + (v - 48)
    else if 65 ≤ v ∧ v ≤ 70 then 16 * a + (v - 55)
    else if 97 ≤ v ∧ v ≤ 102 then 16 * a + (v - 87) else a) 0
/-- "F9600 CAM_TX". -/
def camTxName : List Byte := [0x46, 0x39, 0x36, 0x30, 0x30, 0x20, 0x43, 0x41, 0x4D, 0x5F, 0x54, 0x58]
/-- The device ID of the hive member at the far end of link `h`, as the manager knows it by its serial (R449): from the
own table on the manager, else from the manager's answer. -/
def State.farMember (s : State) (h : Nat) : Option Nat :=
  match (s.link h).desc with
  | some d =>
    if s.inHive ∧ sliceAt d 0x30 12 = camTxName then
      let serial := hexValue (sliceAt d 0x50 16)
      if s.hive.state = .manager then (s.hive.ids.find? fun e => e.1 == serial).map (·.2.1)
      else Config.memberId serial s.freeCtr
    else none
  | none => none
/-- CELL SERVER to the member at the far end of the link of a CELL_PASSTHRU context that runs (R449). -/
def announceServer (c h : Nat) (s : State) : State :=
  match s.ctx c with
  | some x =>
    if x.kind = .passthru ∧ x.state = .running ∧ s.linkUp h then
      match s.farMember h with
      | some d => (hsend 4 0 0 d (b8 c ++ zeros 7) (bumpFree s)).2
      | none => s
    else s
  | none => s
def ctxStart (r : Req) (s : State) : Answer := withCtx r s fun c x =>
  checked [(x.state == .admitted, failSt stState)] fun _ =>
    match (s.descOf x).bind (descMismatch x) with
    | some d => .fail { badField 0 with detail := d }
    | none => .ok (announceServer c x.lane { s with ctxs := s.ctxs.put c (startCtx x) }) []
def cmdCtxStart : Cmd where
  op := 0x0204
  len := lenIs 4
  reads := false
  named := ctxCheck
  run := ctxStart
def execCtxStart (f : Fn) (m : Mbx) (s : State) : Host.Outcome State Fault Refusal := .next (serveWaking cmdCtxStart (fun _ => true) f m s)

/-! ### CTX_STOP, CTX_RELEASE, CTX_DESTROY (R119, R120, R146) -/

def ctxStop (r : Req) (s : State) : Answer := withCtx r s fun c x =>
  checked [(x.state == .running, failSt stState)] fun _ =>
    let stop := [Slot.stop s.now]
    let y : Ctx := match x.kind with
      | .lineScan => { x with state := .stopping, stopAt := x.upTo, slots := x.slots ++ stop }
      | .passthru => { x with state := .stopping }
      | _ => { x with state := .stopping, slots := if x.frame.isSome then x.slots else x.slots ++ stop }
    .started { s with ctxs := s.ctxs.put c (y.settle s.now) } []
def cmdCtxStop : Cmd where
  op := 0x0205
  len := lenIs 4
  reads := false
  named := ctxCheck
  run := ctxStop
def execCtxStop (f : Fn) (m : Mbx) (s : State) : Host.Outcome State Fault Refusal := .next (serve cmdCtxStop f m s)
/-- A comb without residents is FREE again, unless it has failed. -/
def freeComb (k : Nat) (s : State) : State :=
  if (s.residents k).isEmpty ∧ (s.comb k).state = .inUse then modComb k (fun _ => {}) s else s
def ctxRelease (r : Req) (s : State) : Answer := withCtx r s fun c x =>
  checked [(x.state == .admitted || x.state == .faulted, failSt stState)] fun _ =>
    let s' := { s with ctxs := s.ctxs.put c { x with state := .defined, comb := none, asm := none, slots := [], work := [], recs := [] } }
    .ok (match x.comb with | some k => freeComb k s' | none => s') []
def cmdCtxRelease : Cmd where
  op := 0x0206
  len := lenIs 4
  reads := false
  named := ctxCheck
  run := ctxRelease
def execCtxRelease (f : Fn) (m : Mbx) (s : State) : Host.Outcome State Fault Refusal := .next (serve cmdCtxRelease f m s)
/-- Kinds of paced events whose object is a context. -/
def ctxPaces : List Pace := [.intakeOverflow, .linesLost, .lineWidth, .labels, .brood, .asmOverrun]
/-- A context is gone, with its staging copies, its steering table and the memory of its paced events. -/
def removeCtx (c : Nat) (s : State) : State :=
  forgetPace (fun k => ctxPaces.any fun p => k == paceKey p c)
    { s with ctxs := s.ctxs.erase c, ctxSteer := s.ctxSteer.erase c, staging := s.staging.filter fun x => x.ctx != c }
def ctxDestroy (r : Req) (s : State) : Answer := withCtx r s fun c x =>
  checked [(x.state == .defined, failSt stState)] fun _ => .ok (removeCtx c s) []
def cmdCtxDestroy : Cmd where
  op := 0x0207
  len := lenIs 4
  reads := false
  named := ctxCheck
  run := ctxDestroy
def execCtxDestroy (f : Fn) (m : Mbx) (s : State) : Host.Outcome State Fault Refusal := .next (serve cmdCtxDestroy f m s)

/-! ### Status (Table 12-12) -/

/-- STATE codes. -/
def ctxStateCode (x : CtxState) : Nat := x.ctorIdx + 1
/-- Number of counters CTX_GET_STATUS returns. -/
def ctxCounters : Nat := 28
/-- CTX_GET_STATUS; `n` counters are returned. -/
def ctxStatus (n : Nat) (r : Req) (s : State) : Answer := withCtx r s fun c x =>
  let newest := ((x.last.filterMap id).foldl (fun (a : Option Nat) p => match a with | some m => some (max m p) | none => some p) none)
  .ok (if r.clear then modCtx c (fun x => { x with counts := cntClear x.counts 0 n }) s else s)
    (b8 (ctxStateCode x.state) ++ b8 x.kind.ctorIdx ++ b8 (x.comb.getD 255) ++ b8 (x.asm.getD 255)
      ++ b32 (b2n (x.comb.isSome && s.isProtected c)) ++ b32 (lineNo (newest.getD 0)) ++ b32 0 ++ cntBytes x.counts 0 n)
def cmdCtxGetStatus : Cmd where
  op := 0x0208
  len := lenIs 4
  reads := true
  named := ctxCheck
  run := ctxStatus ctxCounters
def execCtxGetStatus (f : Fn) (m : Mbx) (s : State) : Host.Outcome State Fault Refusal := .next (serve cmdCtxGetStatus f m s)

/-! ### INTAKE_SET_PARTITION (R130, R131) -/

/-- Lanes of quad `q` whose size a request changes. -/
def partChanged (r : Req) (s : State) : List Nat :=
  (List.range 4).filterMap fun i =>
    let l := 4 * r.u32 0 + i
    if r.u32 (4 + 4 * i) = s.parts.getD l 16 then none else some l
/-- Whether every link's partition holds two lines of each context with a reservation (R131). -/
def State.intakeFits (s : State) : Bool :=
  s.ctxs.all fun e => !e.2.reserves ||
    decide (sumList ((s.ctxs.filter fun x => x.2.lane == e.2.lane && x.2.reserves).map fun x => x.2.intakeNeed) ≤ s.linkSpace e.2.lane)
def setPartition (quads : Nat) (r : Req) (s : State) : Answer :=
  let ch := partChanged r s
  let busy := ch.any fun l => s.ctxs.any fun e =>
    e.2.lane == s.head l && (e.2.state == .running || e.2.state == .stopping)
  let s' := { s with parts := (List.range 4).foldl (fun p i => p.put (4 * r.u32 0 + i) (r.u32 (4 + 4 * i))) s.parts }
  checked ([(!busy, failSt stState), (decide (r.u32 0 < quads), badField 0)]
    ++ (List.range 4).map (fun i => (inR 0 64 (r.u32 (4 + 4 * i)), badField (4 + 4 * i)))
    ++ [(decide (r.u32 4 + r.u32 8 + r.u32 12 + r.u32 16 ≤ 64) && s'.intakeFits, noResource 5)]) fun _ => .ok s' []
def partitionNamed (r : Req) (s : State) : Option Fail :=
  firstFail [named 24 0 r, ((partChanged r s).all fun l => s.owns r.fn .lane l, failSt stDenied)]
def cmdIntakeSetPartition : Cmd where
  op := 0x0210
  len := lenIs 20
  reads := false
  named := partitionNamed
  run := setPartition 24
def execIntakeSetPartition (f : Fn) (m : Mbx) (s : State) : Host.Outcome State Fault Refusal := .next (serve cmdIntakeSetPartition f m s)

/-! ### COMB_SET_SPARE, COMB_GET_STATUS (R145, R345) -/

def cmdCombSetSpare : Cmd where
  op := 0x0211
  len := lenIs 8
  reads := false
  named r s := firstFail [named 24 0 r, needTrusted r s]
  run r s :=
    let k := r.u32 0
    let b := s.comb k
    checked [(b.state != .failed, failSt stHwFault),
        ((if r.u32 4 = 1 then b.state == .free else if r.u32 4 = 0 then b.state == .spare else true), failSt stState),
        (inR 0 1 (r.u32 4), badField 4)] fun _ =>
      if r.u32 4 = 1 then .ok (setOwner .comb k ownKeeper (modComb k (fun _ => { state := .spare }) s)) []
      else .ok (setOwner .comb k s.sys.trusted (modComb k (fun _ => {}) s)) []
/-- COMB_SET_SPARE (R145, R345). -/
def execCombSetSpare (f : Fn) (m : Mbx) (s : State) : Host.Outcome State Fault Refusal := .next (serve cmdCombSetSpare f m s)
def cmdCombGetStatus : Cmd where
  op := 0x0212
  len := lenIs 4
  reads := true
  named r s := firstFail [named 24 0 r, (s.owns r.fn .comb (r.u32 0) || s.isTrusted r.fn, failSt stDenied)]
  run r s :=
    let k := r.u32 0
    let res := s.residents k
    let rate := rateSum (res.map (·.2))
    .ok s (b8 (s.comb k).state.ctorIdx ++ b8 res.length ++ b16 0
      ++ ((res.map (fun (e : Nat × Ctx) => e.1) ++ List.replicate 8 255).take 8).flatMap b8
      ++ b32 (sumList (res.map fun e => e.2.footprint)) ++ b32 (min 4294967295 (rate.1 / rate.2)))
/-- COMB_GET_STATUS (Table 12-12). -/
def execCombGetStatus (f : Fn) (m : Mbx) (s : State) : Host.Outcome State Fault Refusal := .next (serve cmdCombGetStatus f m s)

end Sys2Proof.Machine
end

