-- ==== Sys2Proof/Machine/CorrCmds.lean ====
section
/-! DEFINITION. Commands of corrections, segmentation and cells (12_commands_setup.md, R346, R347; R153 to R187, R203,
R208). -/
namespace Sys2Proof.Machine

/-! ### When a change takes effect (R154) -/

/-- Settings of a context change by `g`, as group `k` of CORR_APPLIED: at the next stripe of a RUNNING context, else at
once and without event (R154). -/
def changeCtx (c k : Nat) (g : Ctx → Ctx) (s : State) : State :=
  match s.ctx c with
  | none => s
  | some x =>
    let s := modCtx c (fun x => let y := g x; { y with waitGroups := if y.waitGroups.contains k then y.waitGroups else y.waitGroups ++ [k] }) s
    if x.state = .running then s
    else modCtx c (fun y => { y with toReport := x.toReport, waitGroups := [] }) (applyWaits c s)
/-- Change the corrections of a context. -/
def changeCorr (c k : Nat) (n : CorrSet) (s : State) : Answer := .ok (changeCtx c k (fun x => { x with corr := n }) s) []
/-- Per-band words at `o` of a request for the context's bands; the others keep their values (R336). -/
def bandWords (r : Req) (x : Ctx) (o : Nat) (old : List Nat) : List Nat :=
  (List.range 4).map fun k => if k < x.bands then r.u32 (o + 4 * k) else old.getD k 0
/-- Range checks of per-band words. -/
def bandChecks (r : Req) (x : Ctx) (o lo hi : Nat) : List (Bool × Fail) :=
  (List.range (min x.bands 4)).map fun k => (inR lo hi (r.u32 (o + 4 * k)), badField (o + 4 * k))
/-- The first mailbox checks of a correction command. -/
def corrCmd (op n : Nat) (run : Req → State → Answer) : Cmd :=
  { op := op, len := lenIs n, reads := false, named := ctxCheck, run := run }

/-! ### Corrections (Table 12-13) -/

def cmdCorrSetNoise : Cmd := corrCmd 0x0301 52 fun r s => withCtx r s fun c x =>
  checked (bandChecks r x 4 0 65535 ++ bandChecks r x 0x14 0 65535 ++ bandChecks r x 0x24 0 65535) fun _ =>
    changeCorr c 1 { x.corr with
      nmBlack := bandWords r x 4 x.corr.nmBlack, nmA := bandWords r x 0x14 x.corr.nmA, nmB := bandWords r x 0x24 x.corr.nmB } s
/-- CORR_SET_NOISE (R156, Table 6-2). -/
def execCorrSetNoise (f : Fn) (m : Mbx) (s : State) : Host.Outcome State Fault Refusal := .next (serve cmdCorrSetNoise f m s)

/-- The new temporal settings: words that MODE does not use are ignored (R346); TDI needs the TEMPORAL bit (R160). -/
def temporalOf (r : Req) (c : CorrSet) : CorrSet :=
  match r.u32 4 with
  | 1 => { c with tMode := 1, alpha := r.u32 8, kT := r.u32 0x0C }
  | 2 => { c with tMode := 2, tdiRows := r.u32 0x10, tdiReverse := r.u32 0x14 == 1, tdiMin := r.u32 0x18, enables := setBit c.enables 1 }
  | _ => { c with tMode := 0 }
def cmdCorrSetTemporal : Cmd := corrCmd 0x0302 28 fun r s => withCtx r s fun c x =>
  let n := temporalOf r x.corr
  let fixed := n.tMode == x.corr.tMode
    && (n.tMode != 2 || (n.tdiRows == x.corr.tdiRows && n.tdiReverse == x.corr.tdiReverse))
  let ok := [(inR 0 2 (r.u32 4), badField 4)]
    ++ (if r.u32 4 = 1 then [(inR 1 16 (r.u32 8), badField 8), (inR 8 255 (r.u32 0x0C), badField 0x0C)] else [])
    ++ (if r.u32 4 = 2 then [(x.kind == .lineScan, badField 4), (inR 2 16 (r.u32 0x10), badField 0x10),
        (inR 0 1 (r.u32 0x14), badField 0x14), (inR 1 (r.u32 0x10) (r.u32 0x18), badField 0x18)] else [])
  checked ([(x.quiet || fixed || !(ok.all (·.1)), failSt stState)] ++ ok
      ++ [(x.state != .admitted || n.kt == x.corr.kt || s.footFits c { x with corr := n }, noResource 2)]) fun _ =>
    changeCorr c 2 n s
/-- CORR_SET_TEMPORAL (R154, R160, R346). -/
def execCorrSetTemporal (f : Fn) (m : Mbx) (s : State) : Host.Outcome State Fault Refusal := .next (serve cmdCorrSetTemporal f m s)

def cmdCorrSetSpatial : Cmd := corrCmd 0x0303 16 fun r s => withCtx r s fun c x =>
  let n := { x.corr with spHold := r.u32 4 == 1, kSp := r.u32 8, kOut := r.u32 0x0C }
  checked [(x.quiet || n.spHold == x.corr.spHold || !inR 0 1 (r.u32 4), failSt stState), (inR 0 1 (r.u32 4), badField 4),
      (inR 4 255 (r.u32 8), badField 8), (inR 32 255 (r.u32 0x0C), badField 0x0C),
      (x.state != .admitted || n.spHold == x.corr.spHold || s.footFits c { x with corr := n }, noResource 2)] fun _ =>
    changeCorr c 3 n s
/-- CORR_SET_SPATIAL (R154, R165, R166). -/
def execCorrSetSpatial (f : Fn) (m : Mbx) (s : State) : Host.Outcome State Fault Refusal := .next (serve cmdCorrSetSpatial f m s)

def cmdCorrSetBlack : Cmd := corrCmd 0x0304 60 fun r s => withCtx r s fun c x =>
  let track := r.u32 4 == 1
  let dark := if track then (List.range (min x.bands 4)).flatMap fun k =>
      [(inR 8 256 (r.u32 (0x28 + 4 * k)), badField (0x28 + 4 * k)),
       (decide (r.u32 (0x18 + 4 * k) + r.u32 (0x28 + 4 * k) ≤ x.geo.width), badField (0x18 + 4 * k))]
    else []
  checked ([(inR 0 1 (r.u32 4), badField 4)] ++ bandChecks r x 8 0 65535 ++ dark ++ [(inR 0 65535 (r.u32 0x38), badField 0x38)]) fun _ =>
    changeCorr c 4 { x.corr with
      blackTrack := track, black := bandWords r x 8 x.corr.black
      darkX0 := if track then bandWords r x 0x18 x.corr.darkX0 else x.corr.darkX0
      darkN := if track then bandWords r x 0x28 x.corr.darkN else x.corr.darkN
      pedestal := r.u32 0x38 } s
/-- CORR_SET_BLACK (R168, R169, Table 6-5). -/
def execCorrSetBlack (f : Fn) (m : Mbx) (s : State) : Host.Outcome State Fault Refusal := .next (serve cmdCorrSetBlack f m s)

def cmdCorrSetRegistration : Cmd := corrCmd 0x0305 56 fun r s => withCtx r s fun c x =>
  let v := bandWords r x 8 x.corr.regV
  let x0 := (List.range 4).map fun k => if k < x.bands then s32At r.body (0x18 + 4 * k) else x.corr.regX0.getD k 0
  let n := { x.corr with regHold := r.u32 4, regV := v, regX0 := x0, regScale := bandWords r x 0x28 x.corr.regScale }
  let ok := [(inR 0 8 (r.u32 4), badField 4)] ++ bandChecks r x 8 0 (min 8 (r.u32 4))
  checked ([(x.quiet || (n.regHold == x.corr.regHold && n.regV == x.corr.regV) || !(ok.all (·.1)), failSt stState)] ++ ok
      ++ (List.range (min x.bands 4)).map (fun k =>
        let p := s32At r.body (0x18 + 4 * k)
        (decide (-32768 ≤ p ∧ p ≤ 32767), badField (0x18 + 4 * k)))
      ++ bandChecks r x 0x28 57344 73728
      ++ [(x.state != .admitted || n.regHold == x.corr.regHold || s.footFits c { x with corr := n }, noResource 2)]) fun _ =>
    changeCorr c 5 n s
/-- CORR_SET_REGISTRATION (R154, R174, R175). -/
def execCorrSetRegistration (f : Fn) (m : Mbx) (s : State) : Host.Outcome State Fault Refusal := .next (serve cmdCorrSetRegistration f m s)

/-- CORR_SET_ENABLE with the bits that may be set (R160, R170; Table 23-2). -/
def setEnables (allowed : Nat) (r : Req) (s : State) : Answer := withCtx r s fun c x =>
  let e := r.u32 4
  let valid := decide (e < 128) && (setBits 7 e).all (bit allowed)
  checked [(!valid || x.corr.tMode != 2 || bit e 1, failSt stState),
      (!valid || !bit e 5 || x.flat.isSome || x.flatWait.isSome, failSt stState), (valid, badField 4)] fun _ =>
    changeCorr c 6 { x.corr with enables := e } s
def cmdCorrSetEnable : Cmd := corrCmd 0x0306 8 (setEnables 0x7F)
/-- CORR_SET_ENABLE (R160, R170). -/
def execCorrSetEnable (f : Fn) (m : Mbx) (s : State) : Host.Outcome State Fault Refusal := .next (serve cmdCorrSetEnable f m s)

/-! ### Tables (R158, R171 to R173, R187) -/

/-- Size of table `k` of a context: 0 flat-field, 1 defect map, 2 background. -/
def Ctx.tableSize (x : Ctx) (k : Nat) : Nat :=
  match k with
  | 0 => x.geo.width * x.bands * 4
  | 1 => 32768
  | _ => x.geo.width * x.bands * 2
/-- Bytes of the staging pool in use (R172). -/
def State.poolUsed (s : State) : Nat :=
  sumList (s.staging.map (·.size)) + sumList (s.sys.fwWaiting.map fun p => p.2.2.length)
/-- Whether entries of a defect map are sorted by KIND, LINE and X, of no reserved KIND, and PIXEL only where frames are
(R158). -/
def defectMapOk (kind : CtxKind) (m : List Byte) : Bool :=
  let es := (List.range (m.length / 8)).map (defectEntry m)
  let key := fun (e : Nat) => (bits e 62 2) * 2 ^ 32 + (bits e 32 16) * 65536 + bits e 0 15
  decide (es.length ≤ 4096) && (es.all fun e => bits e 62 2 == 0 || (bits e 62 2 == 1 && kind != .lineScan))
    && ((es.zip (es.drop 1)).all fun p => decide (key p.1 ≤ key p.2))
/-- The staged table (R171): written pieces over the table in force, or over the values that stand for none. -/
def buildTable (x : Ctx) (k : Nat) (w : List (Nat × List Byte)) : List Byte :=
  let put := fun (t : List Byte) (p : Nat × List Byte) => t.take p.1 ++ p.2 ++ t.drop (p.1 + p.2.length)
  match k with
  | 0 => w.foldl put (x.flat.getD ((List.range (x.geo.width * x.bands)).flatMap fun _ => b32 0x40000000))
  | 1 =>
    let n := roundUp ((w.map fun p => if p.2.isEmpty then 0 else p.1 + p.2.length).foldl max 0) 8
    w.foldl put (zeros n)
  | _ => w.foldl put (x.bgTable.getD (zeros (x.tableSize 2)))
/-- A commit takes effect (R173, R187). -/
def commitTable (c k : Nat) (t : List Byte) (s : State) : State :=
  let s := writeCopy c k t s
  changeCtx c (if k = 2 then 10 else 7 + k) (fun x => match k with
    | 0 => { x with flatWait := some t }
    | 1 => { x with defectsWait := some t }
    | _ => { x with bgWait := some t }) s
/-- One piece of a table (R171 to R173); `allowed` are the TABLE codes of the command. -/
def loadTable (allowed : Nat → Bool) (r : Req) (s : State) : Answer := withCtx r s fun c x =>
  let k := r.u32 4
  let fl := r.u32 8
  let first := bit fl 0
  let off := r.u32 0x0C
  let n := r.u32 0x10
  let data := r.body.drop 0x14
  let mine := fun (y : StageCopy) => y.ctx == c && y.table == k
  let old := s.staging.find? mine
  let others := s.staging.filter fun y => !mine y
  let writes := (if first then [] else (old.map (·.writes)).getD []) ++ [(off, data)]
  let table := buildTable x k writes
  let pool := sumList (others.map (·.size)) + sumList (s.sys.fwWaiting.map fun p => p.2.2.length)
  checked [(!(allowed k) || decide (4 ≤ fl) || first || old.isSome, failSt stState),
      (allowed k, badField 4), (decide (fl < 4), badField 8), (decide (off + n ≤ x.tableSize k), badField 0x0C),
      (decide (n ≤ 1024), badField 0x10),
      (!bit fl 1 || k != 1 || defectMapOk x.kind table, badField 0x14),
      (!first || decide (pool + x.tableSize k ≤ 2097152), noResource 10)] fun _ =>
    if bit fl 1 then
      let s' := commitTable c k table { s with staging := others }
      .ok s' (b32 table.length ++ b32 (b2n ((s'.ctx c).any fun y => y.comb.isSome && s'.isProtected c)))
    else .ok { s with staging := others ++ [{ ctx := c, table := k, size := x.tableSize k, writes := writes }] } []
/-- LENGTH 20 + LEN. -/
def pieceLen (b : List Byte) : Bool := decide (20 ≤ b.length) && b.length == 20 + u32At b 0x10
def cmdCorrLoadTable : Cmd where
  op := 0x0307
  len := pieceLen
  reads := false
  named := ctxCheck
  run := loadTable fun k => k == 0 || k == 1
/-- CORR_LOAD_TABLE (R158, R171 to R173). -/
def execCorrLoadTable (f : Fn) (m : Mbx) (s : State) : Host.Outcome State Fault Refusal := .next (serve cmdCorrLoadTable f m s)
def cmdSegLoadBackground : Cmd where
  op := 0x0405
  len := pieceLen
  reads := false
  named := ctxCheck
  run := loadTable fun k => k == 2
/-- SEG_LOAD_BACKGROUND (R187). -/
def execSegLoadBackground (f : Fn) (m : Mbx) (s : State) : Host.Outcome State Fault Refusal := .next (serve cmdSegLoadBackground f m s)

/-! ### Segmentation (Table 12-14, Table 7-1) -/

def cmdSegSetBackground : Cmd := corrCmd 0x0401 12 fun r s => withCtx r s fun c _ =>
  checked [(inR 0 1 (r.u32 4), badField 4), (inR 1 4096 (r.u32 8), badField 8)] fun _ =>
    .ok (changeCtx c 9 (fun x => { x with seg := { x.seg with bgTrack := r.u32 4 == 1, trackDiv := r.u32 8 } }) s) []
/-- SEG_SET_BACKGROUND (R183 to R185). -/
def execSegSetBackground (f : Fn) (m : Mbx) (s : State) : Host.Outcome State Fault Refusal := .next (serve cmdSegSetBackground f m s)
def cmdSegSetThreshold : Cmd := corrCmd 0x0402 60 fun r s => withCtx r s fun c x =>
  let x0 := r.u32 4
  let x1 := r.u32 8
  let okX := decide (x0 ≤ x1 ∧ x1 < x.geo.width)
  checked ([(x.quiet || (x0 == x.seg.segX0 && x1 == x.seg.segX1) || !okX, failSt stState), (decide (x0 ≤ x1 ∧ x0 < x.geo.width), badField 4),
        (okX, badField 8)]
      ++ bandChecks r x 0x0C 0 3 ++ bandChecks r x 0x1C 1 255
      ++ [(inR 0 2 (r.u32 0x2C), badField 0x2C), (inR 1 65535 (r.u32 0x30), badField 0x30),
        (inR 1 65535 (r.u32 0x34), badField 0x34), (decide (r.u32 0x30 ≤ r.u32 0x34), badField 0x30),
        (inR 1 65535 (r.u32 0x38), badField 0x38)]
      ++ [(x.state != .admitted || s.broodFits c x, noResource 6)]) fun _ =>
    .ok (changeCtx c 9 (fun x => { x with seg := { x.seg with
      segX0 := x0, segX1 := x1, pol := bandWords r x 0x0C x.seg.pol, weight := bandWords r x 0x1C x.seg.weight
      combine := r.u32 0x2C, tLow := r.u32 0x30, tHigh := r.u32 0x34, minArea := r.u32 0x38 } }) s) []
/-- SEG_SET_THRESHOLD (Table 7-1, R203). -/
def execSegSetThreshold (f : Fn) (m : Mbx) (s : State) : Host.Outcome State Fault Refusal := .next (serve cmdSegSetThreshold f m s)
def cmdSegSetMorph : Cmd := corrCmd 0x0403 8 fun r s => withCtx r s fun c x =>
  checked [(x.quiet || r.u32 4 == x.seg.morph || decide (4 < r.u32 4), failSt stState), (inR 0 4 (r.u32 4), badField 4)] fun _ =>
    .ok (changeCtx c 9 (fun x => { x with seg := { x.seg with morph := r.u32 4 } }) s) []
/-- SEG_SET_MORPH (R189, R203). -/
def execSegSetMorph (f : Fn) (m : Mbx) (s : State) : Host.Outcome State Fault Refusal := .next (serve cmdSegSetMorph f m s)
def cmdSegCaptureBackground : Cmd := corrCmd 0x0404 8 fun r s => withCtx r s fun c x =>
  checked [(x.state == .running, failSt stState), (inR 16 65535 (r.u32 4), badField 4)] fun _ =>
    let sc := s.segCtx c x
    let o := endLabels sc (segFlush sc { dyn := x.dyn })
    let s := if x.kind = .fullFrame then s else segResult c s.now o s
    .started (modCtx c (fun x => { x with dyn := { x.dyn with capture := some { want := r.u32 4, got := 0, table := [] } } }) s) []
/-- SEG_CAPTURE_BACKGROUND (R186): the live objects close at the line before. -/
def execSegCaptureBackground (f : Fn) (m : Mbx) (s : State) : Host.Outcome State Fault Refusal := .next (serve cmdSegCaptureBackground f m s)

/-! ### Cells and stitch groups (R203, R208, R347) -/

/-- The cell settings of a request. -/
def cellFmt (r : Req) : CellFmt :=
  { storeBits := r.u32 4, mask := r.u32 8 == 1, margin := r.u32 0x0C, splitLines := r.u32 0x10, quota := r.u32 0x14
    encoder := optWord (r.u32 0x18), waitLines := r.u32 0x1C }
/-- A context exists, the encoder too, and both are the caller's. -/
def cellNamed (r : Req) (s : State) : Option Fail :=
  firstFail [ctxNamed r s, (decide (r.u32 0x18 < 8) || r.u32 0x18 == wordNone, badField 0x18), ctxOwned r s,
    (r.u32 0x18 == wordNone || s.owns r.fn .encoder (r.u32 0x18), failSt stDenied)]
def cmdCellSetFormat : Cmd where
  op := 0x0406
  len := lenIs 32
  reads := false
  named := cellNamed
  run r s := withCtx r s fun c x =>
    let f := cellFmt r
    let ok := [([8, 10, 12, 16].contains (r.u32 4), badField 4), (inR 0 1 (r.u32 8), badField 8), (inR 0 16 (r.u32 0x0C), badField 0x0C),
      (inR 16 4096 (r.u32 0x10), badField 0x10),
      (inR 262144 8388608 (r.u32 0x14) && r.u32 0x14 % 65536 == 0, badField 0x14), (inR 0 65535 (r.u32 0x1C), badField 0x1C)]
    checked ([(x.quiet || f == x.fmt || !(ok.all (·.1)), failSt stState)] ++ ok
        ++ [(x.state != .admitted || s.broodFits c { x with fmt := f }, noResource 6)]) fun _ =>
      .ok { s with ctxs := s.ctxs.put c { x with fmt := f } } []
/-- CELL_SET_FORMAT (R203, Table 7-3). -/
def execCellSetFormat (f : Fn) (m : Mbx) (s : State) : Host.Outcome State Fault Refusal := .next (serve cmdCellSetFormat f m s)

/-- The members a STITCH_CONFIGURE names. -/
def stitchMembers (r : Req) : List Nat := (List.range (min 8 (r.u32 4))).map fun k => r.u32 (8 + 4 * k)
def stitchNamed (r : Req) (s : State) : Option Fail :=
  firstFail ([named 32 0 r]
    ++ (List.range (min 8 (r.u32 4))).map (fun k => (decide (r.u32 (8 + 4 * k) < 256) && (s.ctx (r.u32 (8 + 4 * k))).isSome, badField (8 + 4 * k)))
    ++ [(s.ownerOf .stitch (r.u32 0) == ownNone || s.owns r.fn .stitch (r.u32 0), failSt stDenied),
      ((stitchMembers r).all fun c => (s.ctx c).any fun x => x.owner == r.fn, failSt stDenied)])
/-- Whether a member shares with the first what R208 asks for. -/
def stitchAlike (s : State) (l : List Nat) (c : Nat) : Bool :=
  match l.head?.bind s.ctx, s.ctx c with
  | some a, some b => (a.kind == .lineScan || a.kind == .areaScan) &&
      b.kind == a.kind && b.bands == a.bands && b.fmt.storeBits == a.fmt.storeBits && b.fmt.margin == a.fmt.margin
        && b.fmt.splitLines == a.fmt.splitLines
  | _, _ => true
/-- Whether members sit on one assembler. -/
def sameAsm (s : State) (l : List Nat) : Bool :=
  match l.filterMap s.ctx with
  | [] => true
  | a :: r => a.asm.isSome && r.all fun b => b.asm == a.asm
def cmdStitchConfigure : Cmd where
  op := 0x0410
  len := lenIs 80
  reads := false
  named := stitchNamed
  run r s :=
    let g := r.u32 0
    let n := r.u32 4
    let l := stitchMembers r
    let old := ((s.stitches.find g).map (·.members)).getD []
    let quiet := fun (c : Nat) => match s.ctx c with | some x => x.quiet | none => true
    let off0 := s32At r.body 0x28
    let offs := (List.range l.length).map fun k => s32At r.body (0x28 + 4 * k)
    if n = 0 then
      checked [(old.all quiet, failSt stState)] fun _ =>
        .ok (dropOwner .stitch g { s with stitches := s.stitches.erase g, frags := s.frags.erase g }) []
    else
      let fits := fun (c : Nat) => (match s.stitchOf c with | some (h, _) => h == g | none => true) && stitchAlike s l c
      checked ([((old ++ l).all quiet, failSt stState), (inR 2 8 n, badField 4)] ++ laterDups l 8 4
        ++ ((List.range l.length).zip l).map (fun (e : Nat × Nat) => (fits e.2, badField (8 + 4 * e.1))) ++ [
          (decide (sumList ((l.filterMap s.ctx).map fun x => x.seg.segX1 - x.seg.segX0 + 1) ≤ 131072), badField 8),
          (off0 == 0, badField 0x28), (inR 0 4 (r.u32 0x48), badField 0x48), (inR 10 10000 (r.u32 0x4C), badField 0x4C),
          (sameAsm s l, noResource 14)]) fun _ =>
        .ok (setOwner .stitch g r.fn
          { s with stitches := s.stitches.put g { members := l, offsets := offs, tol := r.u32 0x48, timeout := r.u32 0x4C } }) []
/-- STITCH_CONFIGURE (R208, R347). -/
def execStitchConfigure (f : Fn) (m : Mbx) (s : State) : Host.Outcome State Fault Refusal := .next (serve cmdStitchConfigure f m s)

end Sys2Proof.Machine
end

