-- ==== Sys2Proof/Machine/Fec.lean ====
section
/-! DEFINITION. The symbol coding and the FEC of the Abaend link: precoding and Gray codes (R31, R32), the frame's
blocks (R56, R57), RS(560,528) (R58), the scrambler (R59) and the count of header mismatches (R61). -/
namespace Sys2Proof.Machine

/-! ### Symbols (R31, R32) -/

/-- The Gray codes of received symbol values: with precoding G(n) = (P(n) + P(n−1)) mod 4, `p` the last P (R32). -/
def unprecode (on : Bool) (p : Nat) : List (Fin 4) → List (Fin 4)
  | [] => []
  | x :: r => (if on then Fin.ofNat 4 (x.val + p) else x) :: unprecode on x.val r
/-- The symbols sent for Gray codes: P(n) = (G(n) − P(n−1)) mod 4 (R32). -/
def precode (on : Bool) (p : Nat) : List (Fin 4) → List (Fin 4)
  | [] => []
  | g :: r =>
    let x := if on then Fin.ofNat 4 (g.val + 4 - p % 4) else g
    x :: precode on x.val r
/-- Inverted polarity mirrors the levels (R35). -/
def flipLevel (x : Fin 4) : Fin 4 := Fin.ofNat 4 (3 - x.val)
/-- The bit pair of a Gray code (Table 2-2), first bit first. -/
def grayBits (g : Fin 4) : List Bool :=
  match g.val with
  | 0 => [false, false]
  | 1 => [false, true]
  | 2 => [true, true]
  | _ => [true, false]
/-- The bit of an NRZ symbol: 1 is sent at +3. -/
def nrzBit (x : Fin 4) : Bool := decide (2 ≤ x.val)

/-- The bits of received symbols. -/
def rxBits (p4 inverted pre : Bool) (p : Nat) (y : List (Fin 4)) : List Bool :=
  let y := if inverted then y.map flipLevel else y
  if p4 then (unprecode pre p y).flatMap grayBits else y.map nrzBit

/-! ### Blocks (R56, R57) -/

/-- The number whose bit j is the j-th of a list. -/
def lsbFirst : List Bool → Nat
  | [] => 0
  | b :: r => b2n b + 2 * lsbFirst r
/-- The number whose most significant bit is the first of a list. -/
def msbFirst (l : List Bool) : Nat := l.foldl (fun a b => 2 * a + b2n b) 0
/-- The `w` bits of a number, least significant first. -/
def bitsLsb : Nat → Nat → List Bool
  | 0, _ => []
  | w + 1, n => (n % 2 == 1) :: bitsLsb w (n / 2)
/-- The `w` bits of a number, most significant first. -/
def bitsMsb (w n : Nat) : List Bool := (bitsLsb w n).reverse
/-- A list in pieces of `n`, with at most `k` pieces. -/
def pieces {α : Type} (n : Nat) : Nat → List α → List (List α)
  | 0, _ => []
  | _ + 1, [] => []
  | k + 1, l => l.take n :: pieces n k (l.drop n)
/-- The 85 blocks of a frame: header H[0]H[1] as a number, and payload bits. -/
def frameBlocks (bits : List Bool) : List (Nat × List Bool) :=
  (pieces 66 85 bits).map fun b => (msbFirst (b.take 2), b.drop 2)
/-- Header mismatches of a frame (R61): slots 0 to 79 allow 01 and 10, slots 80 to 84 allow 11. -/
def mismatches (hs : List Nat) : Nat :=
  ((hs.take 80).filter fun h => !(h == 1 || h == 2)).length + ((hs.drop 80).filter fun h => h != 3).length

/-! ### RS(560,528) over GF(2^10) (R58) -/

/-- Multiplication by α: x^10 = x^3 + 1. -/
def gfX (a : Nat) : Nat := if 512 ≤ a then (2 * a) ^^^ 1033 else 2 * a
/-- Product in GF(2^10), over the bits of `b`. -/
def gfMulAux : Nat → Nat → Nat → Nat
  | 0, _, _ => 0
  | n + 1, a, b => (if b % 2 = 1 then a else 0) ^^^ gfMulAux n (gfX a) (b / 2)
/-- Product in GF(2^10). -/
def gfMul (a b : Nat) : Nat := gfMulAux 10 a b
/-- `a^n` by repeated product. -/
def gfPow (a : Nat) : Nat → Nat
  | 0 => 1
  | n + 1 => gfMul a (gfPow a n)
/-- `a^(2^k)`. -/
def gfSq (a : Nat) : Nat → Nat
  | 0 => a
  | k + 1 => gfMul (gfSq a k) (gfSq a k)
/-- The inverse: a^(2^10 − 2), the product of a^2, a^4, …, a^512. -/
def gfInv (a : Nat) : Nat := (List.range 9).foldl (fun p k => gfMul p (gfSq a (k + 1))) 1
/-- The powers α^0, α^1, …, `n` of them. -/
def alphaPows : Nat → Nat → List Nat
  | 0, _ => []
  | n + 1, a => a :: alphaPows n (gfX a)
/-- Value of a polynomial, highest coefficient first, at `x`. -/
def gfEval (c : List Nat) (x : Nat) : Nat := c.foldl (fun a k => gfMul a x ^^^ k) 0
/-- Value of a polynomial, lowest coefficient first. -/
def gfEvalLow (c : List Nat) (x : Nat) : Nat := gfEval c.reverse x
/-- The 32 syndromes of a word. -/
def syndromes (c : List Nat) : List Nat := (alphaPows 32 1).map (gfEval c)
/-- Sum of polynomials, lowest coefficient first. -/
def polyAdd : List Nat → List Nat → List Nat
  | [], b => b
  | a, [] => a
  | x :: a, y :: b => (x ^^^ y) :: polyAdd a b
/-- A polynomial times a constant. -/
def polyScale (k : Nat) (a : List Nat) : List Nat := a.map (gfMul k)
/-- State of the Berlekamp–Massey recursion. -/
structure Bm where
  lam : List Nat
  prev : List Nat
  len : Nat
  shift : Nat
  disc : Nat
/-- One step of Berlekamp–Massey at syndrome `i`. -/
def bmStep (syn : List Nat) (b : Bm) (i : Nat) : Bm :=
  let d := (List.range (b.len + 1)).foldl (fun a j =>
    if j ≤ i then a ^^^ gfMul (b.lam.getD j 0) (syn.getD (i - j) 0) else a) 0
  if d = 0 then { b with shift := b.shift + 1 }
  else
    let lam' := polyAdd b.lam (List.replicate b.shift 0 ++ polyScale (gfMul d (gfInv b.disc)) b.prev)
    if 2 * b.len ≤ i then { lam := lam', prev := b.lam, len := i + 1 - b.len, shift := 1, disc := d }
    else { b with lam := lam', shift := b.shift + 1 }
/-- The error locator and its length. -/
def errorLocator (syn : List Nat) : List Nat × Nat :=
  let b := (List.range 32).foldl (bmStep syn) { lam := [1], prev := [1], len := 0, shift := 1, disc := 1 }
  (b.lam, b.len)
/-- Formal derivative, lowest coefficient first (characteristic 2: the odd coefficients). -/
def polyDeriv (a : List Nat) : List Nat :=
  (List.range (a.length - 1)).map fun i => if i % 2 = 0 then a.getD (i + 1) 0 else 0
/-- The error evaluator S(x)·Λ(x) mod x^32. -/
def evaluator (syn lam : List Nat) : List Nat :=
  (List.range 32).map fun i => (List.range (i + 1)).foldl (fun a j => a ^^^ gfMul (lam.getD j 0) (syn.getD (i - j) 0)) 0
/-- Positions (powers of x) whose locator X = α^p makes Λ(X⁻¹) zero, with X⁻¹. -/
def errorPlaces (lam : List Nat) : List (Nat × Nat) :=
  ((List.range 560).zip ((alphaPows 560 1).map gfInv)).filter fun p => gfEvalLow lam p.2 == 0
/-- Decode a word of 560 symbols, coefficient of x^559 first: the corrected word and the number of corrected symbols;
none where more than 16 symbols are in error (R60). -/
def rsDecode (c : List Nat) : Option (List Nat × Nat) :=
  let syn := syndromes c
  if syn.all (· == 0) then some (c, 0)
  else
    let (lam, len) := errorLocator syn
    let places := errorPlaces lam
    if 16 < len ∨ places.length ≠ len then none
    else
      let om := evaluator syn lam
      let dl := polyDeriv lam
      let fixed := places.foldl (fun (c : List Nat) p =>
        let x := gfInv p.2
        let v := gfMul x (gfMul (gfEvalLow om p.2) (gfInv (gfEvalLow dl p.2)))
        c.set (559 - p.1) (c.getD (559 - p.1) 0 ^^^ v)) c
      if (syndromes fixed).all (· == 0) then some (fixed, len) else none

/-- The generator g(x) = (x − α^0) … (x − α^31), lowest coefficient first. -/
def rsGenerator : List Nat :=
  (alphaPows 32 1).foldl (fun g a => polyAdd (0 :: g) (polyScale a g)) [1]
/-- The remainder register of m(x)·x^32 mod g(x), highest coefficient first, fed one symbol. -/
def rsFeed (gHigh : List Nat) (r : List Nat) (m : Nat) : List Nat :=
  let f := m ^^^ r.getD 0 0
  ((r.drop 1 ++ [0]).zip gHigh).map fun (p : Nat × Nat) => p.1 ^^^ gfMul f p.2
/-- The 32 parity symbols of 528 message symbols (R58). -/
def rsParity (m : List Nat) : List Nat :=
  m.foldl (rsFeed (rsGenerator.take 32).reverse) (List.replicate 32 0)

/-! ### Scrambler (R59) -/

/-- One keystream bit and the next state. -/
def scramStep (s : Nat) : Bool × Nat :=
  let k := (s / 2 ^ 27 + s / 2 ^ 30) % 2
  (k == 1, (2 * s + k) % 2 ^ 31)
/-- Scrambling of a bit list from state `s`; descrambling is the same operation (R59). -/
def scramble : Nat → List Bool → List Bool
  | _, [] => []
  | s, b :: r => (b ^^ (scramStep s).1) :: scramble (scramStep s).2 r
/-- The state at the first content payload bit of a frame. -/
def scramInit : Nat := 2 ^ 31 - 1

/-! ### A whole frame -/

/-- The 560 code symbols of a frame's blocks: 528 of the content bits, 32 of the parity payloads. -/
def codeSymbols (blocks : List (Nat × List Bool)) : List Nat :=
  let content := (blocks.take 80).flatMap fun b => bitsMsb 2 b.1 ++ b.2
  let parity := (blocks.drop 80).flatMap (·.2)
  (pieces 10 528 content).map msbFirst ++ (pieces 10 32 parity).map msbFirst
/-- The content blocks of 528 corrected symbols, descrambled: header and payload, payload bit D[j] being bit j. -/
def contentOf (syms : List Nat) : List (Nat × Nat) :=
  let blocks := pieces 66 80 ((syms.take 528).flatMap (bitsMsb 10))
  let payload := scramble scramInit (blocks.flatMap (·.drop 2))
  (blocks.zip (pieces 64 80 payload)).map fun p => (msbFirst (p.1.take 2), lsbFirst p.2)
/-- A received frame: mismatches of its raw headers, and its content blocks with the number of corrected symbols
where it can be corrected. -/
def decodeFrame (bits : List Bool) : Nat × Option (List (Nat × Nat) × Nat) :=
  let b := frameBlocks bits
  (mismatches (b.map (·.1)), (rsDecode (codeSymbols b)).map fun r => (contentOf r.1, r.2))

/-! ### Hunting (R61) -/

/-- The headers that a frame beginning at symbol `c` would have in a period of `n` symbols (an array of header codes
at PAM4, of bits at NRZ). -/
def headersAt (p4 : Bool) (v : Array Nat) (n c : Nat) : List Nat :=
  (List.range 85).map fun b =>
    if p4 then v.getD ((c + 33 * b) % n) 0
    else 2 * v.getD ((c + 66 * b) % n) 0 + v.getD ((c + 66 * b + 1) % n) 0
/-- The mismatches of every offset in one frame period. -/
def huntMismatches (p4 inverted pre : Bool) (p : Nat) (y : List (Fin 4)) : List Nat :=
  let y := if inverted then y.map flipLevel else y
  let codes := if p4 then (unprecode pre p y).map fun g => msbFirst (grayBits g) else y.map fun x => b2n (nrzBit x)
  let v := codes.toArray
  (List.range y.length).map fun c => mismatches (headersAt p4 v y.length c)
/-- Sums of four periods per offset. -/
def huntSums (l : List (List Nat)) : List Nat :=
  match l with
  | [] => []
  | a :: r => r.foldl (fun acc x => List.zipWith (· + ·) acc x) a
/-- The least value of a list and its first place. -/
def leastAt : List Nat → Nat → Option (Nat × Nat)
  | [], _ => none
  | x :: r, i =>
    match leastAt r (i + 1) with
    | some (v, j) => if x ≤ v then some (x, i) else some (v, j)
    | none => some (x, i)

end Sys2Proof.Machine
end

