-- ==== Sys2Proof/Machine/LaneCmds.lean ====
section
/-! DEFINITION. Commands of lanes (12_commands_setup.md, R340 to R343, R583). -/
namespace Sys2Proof.Machine

/-! ### LANE_CONFIGURE (R23 to R30, R340, R341, Table 12-9) -/

/-- MODE codes. -/
def laneMode : Nat → LaneMode
  | 0 => .off | 1 => .camRx | 2 => .camTx | 3 => .hive | 4 => .ethCam | _ => .loop
def laneModeCode : LaneMode → Nat
  | .off => 0 | .camRx => 1 | .camTx => 2 | .hive => 3 | .ethCam => 4 | .loop => 5
/-- Whether a rate code stands in the row of a mode (Table 2-1, R26); OFF has none. -/
def rateFits (m : LaneMode) (rate : Nat) : Bool :=
  match m with
  | .off => true
  | .camRx | .camTx | .hive => decide (rate ≤ 2)
  | .ethCam => inR 3 5 rate
  | .loop => decide (rate ≤ 5)
/-- The sets of R84. -/
def bondSet (l n : Nat) : Bool := n == 1 || (n == 2 && l % 2 == 0) || (n == 4 && l % 4 == 0)
/-- The lanes a request's BOND names; its lane alone where BOND is out of range or the mode has no bonds. -/
def bondNamed (m : LaneMode) (l n : Nat) : List Nat :=
  if m.abaend && bondSet l n && decide (l + n ≤ 96) then (List.range n).map (l + ·) else [l]
/-- Whether a context, a bond or a hive link uses lane `l` (R27): a hive link in use is an uplink of the device or
carries a route of its subtree. -/
def State.laneUsed (s : State) (l : Nat) : Bool :=
  let h := s.head l
  (s.ctxs.any fun e => e.2.lane == h) || s.bonded l
    || ((s.lane l).cfg.mode == .hive && (s.hive.uplink == some h || s.hive.uplink2 == some h
      || s.hive.routes.any fun r => r.link == h || r.alt == some h))
/-- A signed word in a range. -/
def inS (lo hi : Int) (v : Nat) : Bool := decide (lo ≤ toSigned 32 v ∧ toSigned 32 v ≤ hi)

/-- CHANNEL[c] of a request (Table 4-3), at 0x090 + 56·c. -/
def chanOf (r : Req) (c : Nat) : Channel :=
  let o := 0x90 + 56 * c
  { udpPort := r.u32 o, sourceIp := r.u32 (o + 4), partMap := (List.range 8).map fun i => r.u32 (o + 8 + 4 * i),
    tsMode := r.u32 (o + 0x28), tsLatency := r.u32 (o + 0x2C), linePeriod := r.u32 (o + 0x30), chunk := r.u32 (o + 0x34) == 1 }
/-- Range checks of CHANNEL[c]. -/
def chanChecks (r : Req) (c : Nat) : List (Bool × Fail) :=
  let o := 0x90 + 56 * c
  let port := r.u32 o
  [(decide (port < 65536 ∧ port ≠ 319 ∧ port ≠ 320), badField o)]
    ++ (if port = 0 then [] else
      ((List.range 8).map fun i =>
        let v := r.u32 (o + 8 + 4 * i)
        (v == wordNone || decide (bits v 0 8 < 8 ∧ v / 256 < 4), badField (o + 8 + 4 * i)))
      ++ [(inR 0 1 (r.u32 (o + 0x28)), badField (o + 0x28)), (inR 0 1000000 (r.u32 (o + 0x2C)), badField (o + 0x2C)),
        (inR 1 1000000 (r.u32 (o + 0x30)), badField (o + 0x30)), (inR 0 1 (r.u32 (o + 0x34)), badField (o + 0x34))]
      ++ [(!((List.range c).any fun d => r.u32 (0x90 + 56 * d) == port), badField o)])
/-- The Ethernet and PTP words of a request; the words that a slave port does not use keep their values. -/
def ethOf (r : Req) (e : EthCfg) : EthCfg :=
  let slave := r.u32 0x74 == 1
  let log := fun (o : Nat) => toSigned 32 (r.u32 o)
  let e1 : EthCfg :=
    { e with
      mac := u64At r.body 0x48, ip := r.u32 0x50, mask := r.u32 0x54, mcast := (List.range 4).map fun i => r.u32 (0x58 + 4 * i)
      iface := r.u32 0x68, an := r.u32 0x6C, abil := r.u32 0x70, slave := slave, domain := r.u32 0x78
      channels := (List.range 8).map (chanOf r) }
  if slave then e1
  else { e1 with
    logSync := log 0x7C, logAnnounce := log 0x80, logMinDelay := log 0x84, priority1 := r.u32 0x88, priority2 := r.u32 0x8C }
/-- Checks of the Ethernet and PTP words (Tables 2-9, 4-3, 4-5, R93, R100, R112). -/
def ethChecks (r : Req) (s : State) (l : Nat) : List (Bool × Fail) :=
  let slave := r.u32 0x74 == 1
  [(decide (u64At r.body 0x48 < 2 ^ 48), badField 0x48), (inR 0 2 (r.u32 0x68) && (r.u32 0x68 != 2 || r.u32 8 == 3), badField 0x68),
   (inR 0 1 (r.u32 0x6C) && (r.u32 0x6C == 0 || r.u32 0x68 != 2), badField 0x6C), (decide (r.u32 0x70 < 8), badField 0x70),
   (inR 0 1 (r.u32 0x74) && !(slave && s.ctxs.any fun e => e.2.lane == l && e.2.channel.isSome), badField 0x74),
   (inR 0 127 (r.u32 0x78), badField 0x78)]
  ++ (if slave then [] else
    [(inS (-7) 0 (r.u32 0x7C), badField 0x7C), (inS (-3) 2 (r.u32 0x80), badField 0x80), (inS (-7) 2 (r.u32 0x84), badField 0x84),
     (inR 0 255 (r.u32 0x88), badField 0x88), (inR 0 255 (r.u32 0x8C), badField 0x8C)])
  ++ (List.range 8).flatMap (chanChecks r)
/-- Whether a stream channel bound to a context that is not DEFINED would change (R340). -/
def boundChange (r : Req) (s : State) (l : Nat) : Bool :=
  s.ctxs.any fun e => e.2.lane == l && e.2.state != .defined && (match e.2.channel with
    | some k => chanOf r k != (s.eth l).cfg.channels.getD k {}
    | none => false)
/-- The least TRIG_LEAD (R80, R341). -/
def State.leadMin (s : State) (h : Nat) : Nat :=
  match (s.link h).desc with
  | some d => u32At d 0x64
  | none => 0
/-- Range checks of the words that the mode uses (Table 12-9, R336). -/
def laneChecks (r : Req) (s : State) (m : LaneMode) : List (Bool × Fail) :=
  let l := r.u32 0
  let src := r.u32 0x34
  let gen := src == 1 || src == 2
  [(inR 0 5 (r.u32 4), badField 4)]
  ++ (if m = .off then [] else
    [(rateFits m (r.u32 8), badField 8),
     ((if m.abaend then bondSet l (r.u32 0xC) else r.u32 0xC == 1), badField 0xC),
     (inR 0 16 (r.u32 0x10), badField 0x10), (inR 0 24 (r.u32 0x14), badField 0x14), (inR 0 14 (r.u32 0x18), badField 0x18),
     (inR 0 7 (r.u32 0x1C), badField 0x1C), (inR 0 1 (r.u32 0x20), badField 0x20),
     (m != .ethCam || inR 0 1 (r.u32 0x24), badField 0x24), (inR 0 255 (r.u32 0x28), badField 0x28),
     (!m.abaend || inR 0 1 (r.u32 0x2C), badField 0x2C),
     (m != .camRx || (inR 500 100000 (r.u32 0x30) && decide (s.leadMin l ≤ r.u32 0x30)), badField 0x30)]
    ++ (if m = .camTx then
        [(inR 0 3 src, badField 0x34), (!gen || inR 16 32768 (r.u32 0x38), badField 0x38), (!gen || inR 0 4 (r.u32 0x3C), badField 0x3C),
         (!gen || inR 1 10000000 (r.u32 0x40), badField 0x40),
         (src != 2 || decide (r.u32 0x44 < 2 ^ formatBits (r.u32 0x3C)), badField 0x44)] else [])
    ++ (if m = .ethCam then ethChecks r s l else []))

/-- The PLL tunings that the lanes of quad `q` other than those of `but` need (R23). -/
def State.tunings (s : State) (q : Nat) (but : List Nat) : List Nat :=
  ((((List.range 4).map (4 * q + ·)).filter fun l => !but.contains l && (s.lane l).cfg.mode != .off).map
    fun l => pllGroup (s.lane l).cfg.rate).eraseDups
/-- A lane takes the PLL its rate needs: one tuned to it, else one that no lane in use needs, retuned (R23, R25). Where
that PLL is locked, the lane begins; otherwise it waits for PLL_LOCK. -/
def takePll (l : Nat) (s : State) : State :=
  let q := l / 4
  let g := pllGroup (s.lane l).cfg.rate
  let waits := modLane l (fun v => { v with train := .pll, power := .active })
  match [0, 1].find? fun i => (s.pll q i).powered && (s.pll q i).tuned == g with
  | some i => if (s.pll q i).locked then startLane l s else waits s
  | none =>
    let used := (((List.range 4).map (4 * q + ·)).filter fun k => k != l && (s.lane k).on).map fun k => pllGroup (s.lane k).cfg.rate
    let i := ([0, 1].find? fun i => !(s.pll q i).powered || !used.contains (s.pll q i).tuned).getD 1
    waits (modPll q i (fun _ => { powered := true, locked := false, tuned := g }) s)
/-- The faults of a lane that its owner took out of its mode are resolved (R584, Table 21-2). -/
def laneLeft (l : Nat) (s : State) : State :=
  [clsLane, clsBonded, clsHive].foldl (fun s c =>
    if s.faults.any fun x => x.cls == c && x.unit == l then resolveFault c l s else s) s
/-- The settings of lane `l`, the `i`-th of its bond, as a request gives them; words the mode does not use keep theirs. -/
def laneOf (r : Req) (m : LaneMode) (n i : Nat) (c : LaneCfg) : LaneCfg :=
  if m = .off then { c with mode := .off }
  else
    let c1 : LaneCfg :=
      { c with
        mode := m, rate := r.u32 8, bond := n, bondIdx := i, pre := r.u32 0x10, post := r.u32 0x14, swing := r.u32 0x18
        preset := r.u32 0x1C, txInvert := r.u32 0x20, eyeFloor := r.u32 0x28 }
    let c2 := if m = .ethCam then { c1 with rxInvert := r.u32 0x24 } else c1
    let c3 := if m.abaend then { c2 with powerLock := r.u32 0x2C == 1 } else c2
    let c4 := if m = .camRx then { c3 with trigLead := r.u32 0x30 } else c3
    if m = .camTx then
      let c5 := { c4 with txSource := r.u32 0x34 }
      if c5.txSource = 1 ∨ c5.txSource = 2 then
        { c5 with genWidth := r.u32 0x38, genFormat := r.u32 0x3C, genRate := r.u32 0x40
                  genValue := if c5.txSource = 2 then r.u32 0x44 else c5.genValue }
      else c5
    else c4
/-- Whether a change of settings restarts training (R340). -/
def restarts (a b : LaneCfg) : Bool :=
  a.mode != b.mode || a.rate != b.rate || a.bond != b.bond || a.pre != b.pre || a.post != b.post || a.swing != b.swing
    || a.preset != b.preset || a.txInvert != b.txInvert || a.rxInvert != b.rxInvert
/-- One lane takes its settings: it leaves its mode, or restarts training, or goes on. -/
def putLane (c : LaneCfg) (l : Nat) (s : State) : State :=
  let v := s.lane l
  let s1 := modLane l (fun v => { v with cfg := c }) s
  if !restarts v.cfg c then s1
  else
    let s2 := if v.cfg.mode = c.mode then s1
      else laneLeft l (modLink l (fun k => { counts := k.counts, desc := k.desc }) s1)
    let s3 := modLink l (fun k => { k with rxMask := 2 ^ c.bond - 1, txMask := 2 ^ c.bond - 1, deskewed := 0 }) s2
    if c.mode = .off then enterPower1 .off l s3
    else
      let s4 := if v.train = .data ∧ v.cfg.mode.abaend ∧ c.mode.abaend
        then honey (hoLane l 8) (countLane l .retrain s3) else s3
      takePll l (modEth l (fun e => { e with linkUp := false }) (unlockLink l
        (modLane l (fun v => { v with train := .none, fastAt := none, ask := none, frozen := false, drifting := false }) s4)))
/-- The Ethernet port takes its settings; a channel that changes begins anew, a port that is no slave hears no master. -/
def putEth (c : EthCfg) (l : Nat) (s : State) : State :=
  modEth l (fun e =>
    let streams := (List.range 8).foldl (fun (t : Table Stream) k =>
      if c.channels.getD k {} = e.cfg.channels.getD k {} then t else t.put k { counts := (t.getD k {}).counts }) e.streams
    let e1 := { e with cfg := c, streams := streams }
    if c.slave = e.cfg.slave ∧ c.domain = e.cfg.domain then e1
    else { e1 with masters := [], selected := none, syncWait := none, delaySent := none, lastPair := none, pathDelay := none }) s

/-- The commit of LANE_CONFIGURE: the bond's lanes, and those that leave it, take their settings. -/
def laneCommit (r : Req) (s : State) : State :=
  let l := r.u32 0
  let m := laneMode (r.u32 4)
  let now := bondNamed m l (r.u32 0xC)
  let left := (s.bondLanes l).filter fun k => !now.contains k
  let single := fun (c : LaneCfg) => { c with bond := 1, bondIdx := 0 }
  let s1 := left.foldl (fun s k => putLane (single (s.lane k).cfg) k s) s
  let s2 := (now.zip (List.range now.length)).foldl (fun s (e : Nat × Nat) =>
    let c := laneOf r m now.length e.2 (s.lane e.1).cfg
    putLane (if m = .off ∨ now.length = 1 then single c else c) e.1 s) s1
  let s3 := if m = .ethCam then putEth (ethOf r (s2.eth l).cfg) l s2 else s2
  pllTrim (l / 4) (if m = .off then s3 else wakeBank (l / 4) s3)
/-- R23, R28 and R112. -/
def laneCapacity (r : Req) (s : State) (m : LaneMode) (set : List Nat) : List (Bool × Fail) :=
  let l := r.u32 0
  let hives := ((s.lanes.filter fun e => e.2.cfg.mode == .hive && !set.contains e.1)).length + (if m = .hive then set.length else 0)
  let slaves := s.lanes.any fun e => e.1 != l && e.2.cfg.mode == .ethCam && (s.eth e.1).cfg.slave
  [(m == .off || decide (((pllGroup (r.u32 8) :: s.tunings (l / 4) set).eraseDups).length ≤ 2), noResource 7),
   (m != .hive || decide (hives ≤ 48), noResource 8),
   (!(m == .ethCam && r.u32 0x74 == 1) || !slaves, noResource 11)]
def laneConfigure (r : Req) (s : State) : Answer :=
  let l := r.u32 0
  let m := laneMode (r.u32 4)
  let set := bondNamed m l (r.u32 0xC)
  let known := inR 0 5 (r.u32 4) && rateFits m (r.u32 8)
  let moves := fun (k : Nat) => (s.lane k).cfg.mode != m || (m != .off && (s.lane k).cfg.rate != r.u32 8)
  let slave := m == .ethCam && r.u32 0x74 == 1
  checked ([(!(slave && (s.sys.straps.role == 1 || s.isMember)), failSt stNotInMode),
      (!(known && set.any fun k => moves k && s.laneUsed k), failSt stState),
      (!(known && m == .ethCam && boundChange r s l), failSt stState),
      (!((set ++ s.bondLanes l).any fun k => s.holds (.prbs k)), failSt stBusy),
      (s.head l == l, badField 0)]
    ++ laneChecks r s m ++ laneCapacity r s m set) fun _ => .ok (laneCommit r s) []
/-- The lane exists, and the caller owns every lane of the bond (R340). -/
def laneConfigureNamed (r : Req) (s : State) : Option Fail :=
  let l := r.u32 0
  firstFail [named 96 0 r,
    ((bondNamed (laneMode (r.u32 4)) l (r.u32 0xC) ++ s.bondLanes l).all fun k => s.owns r.fn .lane k, failSt stDenied)]
/-- 0x0101. -/
def cmdLaneConfigure : Cmd where
  op := 0x0101
  len := lenIs 592
  reads := false
  named := laneConfigureNamed
  run := laneConfigure
/-- LANE_CONFIGURE (R340). -/
def execLaneConfigure (f : Fn) (m : Mbx) (s : State) : Host.Outcome State Fault Refusal := .next (serve cmdLaneConfigure f m s)

/-! ### LANE_GET_STATUS (Table 12-10) -/

/-- The lane exists and is the caller's. -/
def laneNamed (r : Req) (s : State) : Option Fail := firstFail [named 96 0 r, ownedBy r s .lane (r.u32 0)]
/-- TRAIN codes. -/
def trainCode (v : Lane) : Nat :=
  match v.train with
  | .cdr => 0 | .eq => 1 | .tend => 2 | .data => 3 | .fail => 4 | .none | .pll => 0xFF
/-- POWER codes. -/
def powerCode : LanePower → Nat
  | .active => 0 | .doze => 1 | .sleep => 2 | .off => 3
/-- The stream counters of channel `c` (Table 4-6). -/
def streamBytes (e : Eth) (c : Nat) : List Byte := cntBytes (e.streams.getD c {}).counts 0 11
/-- The response. -/
def laneStatus (s : State) (l : Nat) : List Byte :=
  let v := s.lane l
  let k := s.link l
  b8 (laneModeCode v.cfg.mode) ++ b8 (trainCode v) ++ b8 (powerCode v.power)
    ++ b8 (b2n v.los + 2 * b2n v.lol + 4 * b2n k.locked + 8 * b2n v.frozen + 16 * (v.rx.role % 4))
    ++ b16 v.eye ++ b16 v.hFreeze ++ b8 (s.bondMask l) ++ zeros 7 ++ cntBytes v.counts 0 9
    ++ b64 (cnt k.counts 0) ++ cntBytes k.counts 1 16
    ++ (if v.cfg.mode = .ethCam then cntBytes (s.eth l).counts 0 4 ++ (List.range 8).flatMap (streamBytes (s.eth l)) else [])
/-- Every counter returned is cleared; the paced occurrences of the lane begin anew (R337, R581). -/
def laneClear (l : Nat) (s : State) : State :=
  let eth := (s.lane l).cfg.mode == .ethCam
  let s1 := modLink l (fun k => { k with counts := [] }) (modLane l (fun v => { v with counts := [] }) s)
  if eth then modEth l (fun e => { e with
    counts := [], streams := e.streams.map fun (x : Nat × Stream) => (x.1, { x.2 with counts := [] }) }) s1
  else s1
/-- 0x0102. -/
def cmdLaneGetStatus : Cmd where
  op := 0x0102
  len := lenIs 4
  reads := true
  named := laneNamed
  run r s :=
    let l := r.u32 0
    checked [(s.head l == l, badField 0)] fun _ => .ok (if r.clear then laneClear l s else s) (laneStatus s l)
/-- LANE_GET_STATUS (R51, R90, R113). -/
def execLaneGetStatus (f : Fn) (m : Mbx) (s : State) : Host.Outcome State Fault Refusal := .next (serve cmdLaneGetStatus f m s)

/-! ### LANE_SET_POWER (R52 to R55, R343) -/

/-- A lane or bond out of DATA, or an Ethernet lane, enters a state at once; ACTIVE wakes it. -/
def setPower (p : Nat) (h : Nat) (s : State) : State :=
  let v := s.lane h
  if p = 0 then
    match v.power with
    | .active => s
    | .doze => wakeLane h s
    | .sleep => wakeLane h s
    | .off => (s.bondLanes h).foldl (fun s l => takePll l s) s
  else if p = 1 then enterPower .doze h s
  else if p = 2 then enterPower .sleep h s
  else enterPower .off h s
/-- LANE_SET_POWER: in DATA an Abaend lane asks its far end for DOZE or SLEEP, and the answer ends the command; OFF needs no
exchange (R52, R343). -/
def laneSetPower (r : Req) (s : State) : Answer :=
  let h := r.u32 0
  let p := r.u32 4
  let v := s.lane h
  checked [(!(v.cfg.mode == .ethCam && p == 1) && v.cfg.mode != .off && !(v.cfg.mode == .loop && (p == 1 || p == 2)), failSt stNotInMode),
      (!s.holds (.prbs h), failSt stBusy), (s.head h == h, badField 0), (inR 0 3 p, badField 4)] fun _ =>
    if powerCode v.power = p then .ok s []
    else if (p = 1 ∨ p = 2) ∧ v.cfg.mode.abaend ∧ v.train = .data then
      .wait { askPower (p == 2) h s with waiting := some { fn := r.fn, mbx := r.mbx, since := s.now, what := .power h p } } false
    else .ok (setPower p h s) []
/-- 0x0103. -/
def cmdLaneSetPower : Cmd where
  op := 0x0103
  len := lenIs 8
  reads := false
  named := laneNamed
  run := laneSetPower
/-- LANE_SET_POWER (R52, R343, R547). -/
def execLaneSetPower (f : Fn) (m : Mbx) (s : State) : Host.Outcome State Fault Refusal :=
  .next (serveWaking cmdLaneSetPower (fun r => r.u32 4 == 0) f m s)

/-! ### LANE_EYE_SCAN (R50) -/

/-- 0x0104, with what the monitor sampler measured. -/
def cmdLaneEyeScan (width height eye : Nat) : Cmd where
  op := 0x0104
  len := lenIs 4
  reads := true
  named := laneNamed
  run r s :=
    let l := r.u32 0
    checked [((s.lane l).cfg.mode != .off && (s.lane l).power != .off, failSt stNotInMode), (s.head l == l, badField 0)] fun _ =>
      .ok s (b32 width ++ b32 height ++ b32 eye)
/-- LANE_EYE_SCAN (R50, R343): the traffic goes on. -/
def execLaneEyeScan (f : Fn) (m : Mbx) (width height eye : Nat) (s : State) : Host.Outcome State Fault Refusal :=
  .next (serve (cmdLaneEyeScan width height eye) f m s)

end Sys2Proof.Machine
end

