-- ==== Sys2Proof/Machine/TimeOps.lean ====
section
/-! DEFINITION. The time servo, the choice of source and EXT_OFFSET (14_hive_time_and_schedules.md). -/
namespace Sys2Proof.Machine

/-- SOURCE codes of Table 13-6. -/
def sourceCode : TimeSource → Nat
  | .none => 0 | .hive => 1 | .ptp => 2 | .pps => 3
/-- SERVO codes of Table 14-2. -/
def servoCode : Servo → Nat
  | .freeRun => 0 | .acquiring => 1 | .locked => 2 | .holdover => 3
/-- An offset in 2^-8 ns as s32 ps, saturating. -/
def psOf (e : Int) : Int := clampInt (-2147483648) 2147483647 (e * 1000 / 256)
/-- Time events reach every function (R392). -/
def raiseTime (code sev p0 p1 p2 : Nat) (s : State) : State := raise code sev p0 p1 p2 s.functions s

/-- The servo changes state; a change is reported (R379). FREE_RUN has RATE 0 (Table 14-2). -/
def setServo (v : Servo) (s : State) : State :=
  if s.clock.servo = v then s
  else
    raiseTime 0x0703 (if v = .locked then sevI else sevW) (servoCode v) (fromSigned 32 (psOf s.clock.offsetEst)) 0
      (modClock (fun c => { c with
        servo := v, goodRun := 0, badRun := 0, farRun := 0
        rate := if v = .freeRun then 0 else c.rate
        everLocked := c.everLocked || v == .locked }) s)

/-- A lock criterion of Table 14-3, in 2^-8 ns and consecutive measurements. -/
structure Criterion where
  lockAt : Nat
  lockRun : Nat
  lossAt : Nat
  lossRun : Nat
/-- Table 14-3. -/
def criterion : TimeSource → Criterion
  | .ptp => { lockAt := 25600, lockRun := 16, lossAt := 256000, lossRun := 4 }
  | .pps => { lockAt := 5120, lockRun := 8, lossAt := 256000, lossRun := 2 }
  | _ => { lockAt := 512, lockRun := 16, lossAt := 2560, lossRun := 4 }

/-- A measurement counts toward the criteria; the servo state follows (Table 14-3). -/
def servoJudge (e : Int) (s : State) : State :=
  let k := criterion s.clock.source
  let good := if e.natAbs ≤ k.lockAt then s.clock.goodRun + 1 else 0
  let bad := if k.lossAt < e.natAbs then s.clock.badRun + 1 else 0
  let s1 := modClock (fun c => { c with offsetEst := e, goodRun := good, badRun := bad }) s
  if s.clock.servo = .acquiring ∧ k.lockRun ≤ good then setServo .locked s1
  else if s.clock.servo = .locked ∧ k.lossRun ≤ bad then setServo .acquiring s1
  else s1

/-- A measurement, in 2^-8 ns, is fed to the servo (R379): RATE within ±100 ppm (R374), then the criteria. -/
def servoFeed (e : Int) (s : State) : State :=
  if s.clock.servo = .acquiring ∨ s.clock.servo = .locked then
    let r := clampInt (-100000000) 100000000 (Config.servoRate e s.clock.rate s.freeCtr)
    servoJudge e (bumpFree (modClock (fun c => { c with rate := r }) s))
  else modClock (fun c => { c with offsetEst := e }) s

/-! ### Sources (R377) -/

/-- Whether a source is valid now. -/
def Clock.isValid (c : Clock) (x : TimeSource) : Bool := c.valid.any fun p => p.1 == x
/-- The first valid source of the list, NONE where no listed one is valid; a member has only HIVE (R377). -/
def State.firstValid (s : State) : TimeSource :=
  if s.isMember then (if s.clock.isValid .hive then .hive else .none)
  else match s.clock.list.find? fun x => x != .none && s.clock.isValid x with
    | some x => x
    | none => .none
/-- The device takes source `x`; a change is reported and the servo follows Table 14-2. -/
def takeSource (x : TimeSource) (s : State) : State :=
  if x = s.clock.source then s
  else
    let s1 := raiseTime 0x0702 sevW (sourceCode x) (sourceCode s.clock.source) 0
      (modClock (fun c => { c with source := x, goodRun := 0, badRun := 0, farRun := 0, heldE := none }) s)
    if x = .none then setServo (if s1.clock.everLocked then .holdover else .freeRun) s1 else setServo .acquiring s1
/-- Place of a source in the list; the fallback NONE stands after every source. -/
def listPlace (l : List TimeSource) (x : TimeSource) : Nat :=
  if x = .none then l.length else (l.findIdx? (· == x)).getD l.length
/-- A source higher in the list than the one in use that has been valid for 10 s (R377). -/
def State.promotable (s : State) : Option TimeSource :=
  if s.isMember then none
  else s.clock.list.find? fun x =>
    x != .none && decide (listPlace s.clock.list x < listPlace s.clock.list s.clock.source)
      && s.clock.valid.any fun p => p.1 == x && decide (p.2 + 10000000000 ≤ s.now)
/-- The source is evaluated anew: the one in use stays while it is valid and listed; otherwise the first valid one. -/
def evalSource (s : State) : State :=
  let c := s.clock
  let stays := c.source != .none && c.isValid c.source
    && (if s.isMember then c.source == .hive else c.list.contains c.source)
  if stays then (match s.promotable with
    | some x => takeSource x s
    | none => s)
  else
    let s1 := if c.source != .none && (c.servo == .locked || c.servo == .acquiring) && !c.isValid c.source
      then (if c.everLocked || s.firstValid != .none then setServo .holdover s else s) else s
    takeSource s1.firstValid s1
/-- A source becomes valid or invalid (R377). -/
def setValid (x : TimeSource) (v : Bool) (s : State) : State :=
  if s.clock.isValid x = v then s
  else evalSource (modClock (fun c => { c with
    valid := if v then c.valid ++ [(x, s.now)] else c.valid.filter (fun p => p.1 != x) }) s)

/-! ### EXT_OFFSET (R381 to R383) -/

/-- D_EXT (R381). -/
def State.dExt (s : State) : Nat := max 4000 (1500 * s.hive.maxWorst + 500)
/-- A new value of EXT_OFFSET, held until its EXT_SINCE; the manager sends it through the hive (R381, R452). -/
def changeExt (off : Int) (frac reason : Nat) (s : State) : State :=
  let since := s.now + s.dExt
  let s1 := modClock (fun c => { c with extWaiting := c.extWaiting ++
    [{ since := since, offset := off, frac := frac, reason := reason }] }) s
  if s.hive.state = .manager then
    (hsend 5 2 hfBroadcast 0 (bs64 off ++ b16 frac ++ b64 since) s1).2
  else s1
/-- A value of EXT_OFFSET comes into force and is reported with EXT_SINCE as its time (R381). -/
def applyExt (x : ExtChange) (s : State) : State :=
  raiseAt x.since 0x0701 (if x.reason = 2 ∨ x.reason = 3 then sevW else sevI) x.reason x.frac
    (fromSigned 64 x.offset) s.functions
    (modClock (fun c => { c with
      extOffset := x.offset, extFrac := x.frac, extSince := x.since, extEver := true
      extValid := c.extValid || x.reason != 3 }) s)

/-- A measurement beyond 1 µs is held, confirms the held one, or replaces it (R382); `step` is the change of
EXT_OFFSET a confirmation makes. -/
def holdMeasure (reason : Nat) (e : Int) (s : State) : State :=
  let judged := fun (s : State) => servoJudge (e * 256) s
  match s.clock.heldE with
  | some h =>
    if (e - h).natAbs ≤ 1000 then
      changeExt (s.clock.extOffset + e) s.clock.extFrac reason
        (modClock (fun c => { c with heldE := none, badRun := 0 }) s)
    else judged (logNow 0x0C84 sevW (fromSigned 32 (clampInt (-2147483648) 2147483647 h)) 0 0
      (modClock (fun c => { c with heldE := some e }) s))
  | none => judged (modClock (fun c => { c with heldE := some e }) s)
/-- A measurement e, ns, of a PTP or PPS source (R382): corrected through RATE within 1 µs, else held. -/
def measure (reason : Nat) (e : Int) (s : State) : State :=
  if 1000 < e.natAbs then holdMeasure reason e s
  else
    let s1 := match s.clock.heldE with
      | some h => logNow 0x0C84 sevW (fromSigned 32 (clampInt (-2147483648) 2147483647 h)) 0 0
          (modClock (fun c => { c with heldE := none }) s)
      | none => s
    servoFeed (e * 256) s1

/-! ### Hive time from the exchange (R82, R376) -/

/-- Δ of the link whose lowest lane is `l`, 2^-8 ns, 0 without a calibration record (R82, R529). -/
def State.asym (s : State) (l : Nat) : Int :=
  if s.keeper.cal.isEmpty then 0 else s32At s.keeper.cal (0x1000 + 4 * l)
/-- Adoption of the parent's hive time (R376): the only load of the time unit, reported; FREE_RUN. -/
def adoptTime (parent : Nat) (theta256 : Int) (s : State) : State :=
  let old := s.now
  let t' : Int := (s.clock.t16 : Int) - theta256 * 256
  let s1 := modClock (fun c => { c with
    t16 := t'.toNat, acc := 0, rate := 0, servo := .freeRun, goodRun := 0, badRun := 0, adopted := true }) s
  raiseTime 0x0704 sevW parent 0 (fromSigned 64 ((s1.now : Int) - (old : Int))) s1

end Sys2Proof.Machine
end

