-- ==== Sys2Proof/Machine/Link.lean ====
section
/-! DEFINITION. The Abaend link on a lane (03_abaend_link.md): frames, hunting and lock, credits, the transmitter, camera
control, events, test packets and bonds. -/
namespace Sys2Proof.Machine

/-! ### Lock and loss of lock (R60 to R63) -/

/-- VCs on which a role receives credited packets (Tables 3-3, 3-5, R70). -/
def rxVcs : LaneMode → List Nat
  | .camRx => 1 :: (List.range 12).map (4 + ·)
  | .camTx => [1]
  | .hive => 2 :: 3 :: (List.range 12).map (4 + ·)
  | _ => []
/-- The receiver grants `n` more credits on a VC and says so (R71). -/
def grantMore (h vc n : Nat) (s : State) : State :=
  sendCredit h vc (modLink h (fun k => { k with rxGrant := k.rxGrant.put vc ((k.rxGrant.getD vc 0 + n) % 2 ^ 32) }) s)
/-- The link of lowest lane `h` begins to carry traffic: both counts start at 0, the receiver advertises (R71), and a
device in JOINING that sees its first hive link begins to listen (R436). -/
def linkStart (h : Nat) (s : State) : State :=
  let s := modHive (fun x => { x with vc3Owed := x.vc3Owed.erase h }) s
  let s1 := (rxVcs (s.lane h).cfg.mode).foldl (fun s vc => grantMore h vc (Config.creditGrant vc) s) (linkLost h s)
  let s2 := modLink h (fun k => { k with rxMask := (s.link h).rxMask, txMask := (s.link h).txMask }) s1
  if (s.lane h).cfg.mode = .hive ∧ s.hive.state = .joining ∧ s.hive.listenSince.isNone then
    modHive (fun x => { x with listenSince := some s.now }) s2
  else s2
/-- Receiver of lane `l` locks at `c` (R61): an unbonded lane's link starts and its fault is on its way to be resolved
(Table 21-2). -/
def lockLane (l c : Nat) (s : State) : State :=
  let s1 := modLink l (fun k => { k with locked := true, offset := c, mis := [], periods := 0, hdrRun := 0, uncorrRun := 0 }) s
  if s.bonded l then s1 else linkStart l (faultOk (s.laneClass l) l (some s.now) s1)
/-- Loss of lock (R63, R584). -/
def loseLock (l : Nat) (s : State) : State :=
  let s1 := laneFault l (raise 0x0107 sevE l 0 0 (s.laneTo l) (countLink l .lockLoss s))
  unlockLink l (modLane l (fun v => { v with dataAt := s.now }) s1)
/-- Whether frames of lane `l` are of interest: an Abaend lane in DATA. -/
def State.inData (s : State) (l : Nat) : Bool := (s.lane l).cfg.mode.abaend && (s.lane l).train == .data
/-- Symbols of a frame (R57). -/
def frameSymbols (rate : Nat) : Nat := if pam4 rate then 2805 else 5610
/-- The level of the last symbol of a frame, upright. -/
def lastUpright (inv : Bool) (y : List (Fin 4)) : Nat :=
  match y.getLast? with
  | some x => if inv then (flipLevel x).val else x.val
  | none => 0

/-- HUNT_PERIOD (R61, R62). -/
def execHuntPeriod (l : LaneId) (symbols : List (Fin 4)) (t : Nat) (s : State) : Host.Outcome State Fault Refusal :=
  let s := advTo t s
  let v := s.lane l
  let k := s.link l
  .next (if s.inData l && !k.locked && symbols.length == frameSymbols v.cfg.rate then
    let m := huntMismatches (pam4 v.cfg.rate) v.rxInverted (pam4 v.cfg.rate && v.rx.precodeOn) k.lastSym symbols
    let mis := (m :: k.mis).take 4
    let s1 := modLink l (fun k => { k with mis := mis, periods := min 4 (k.periods + 1), lastSym := lastUpright v.rxInverted symbols }) s
    if 4 ≤ k.periods + 1 then
      match leastAt (huntSums mis) 0 with
      | some (best, c) => if best ≤ 6 then lockLane l c s1 else s1
      | none => s1
    else s1
  else s)

/-- Place in HONEY_FEC_HIST of a number of corrected symbols (Table 22-6). -/
def fecBin (k : Nat) : Nat := if k = 0 then 0 else if k = 1 then 1 else if k ≤ 3 then 2 else if k ≤ 7 then 3 else if k ≤ 15 then 4 else 5
/-- A lane in DOZE that wakes discards data frames and counts them (R53). -/
def dozeFrame (l : Nat) (c : List (Nat × Nat)) (s : State) : State :=
  if (s.lane l).power = .doze ∧ !idleContent c then
    modLink l (fun k => { k with content := none }) (if (s.lane l).resuming then countLane l .dozeLoss s else s)
  else s
/-- A frame with its corrections counted, or one that is uncorrectable (R60, R63). -/
def takeFrame (l : Nat) (r : Option (List (Nat × Nat) × Nat)) (s : State) : State :=
  match r with
  | none =>
    modLink l (fun k => { k with content := none, uncorrRun := k.uncorrRun + 1 })
      (honeyN 64 (hoLane l 0x10) 1 (countLink l .uncorr s))
  | some (c, n) =>
    let bad := (c.filter fun b => b.1 == 0 || b.1 == 3).length
    let s1 := honeyN 64 (hoLane l (0x18 + 8 * fecBin n)) 1 (countLinkN l .hdrErr bad (countLinkN l .corrSym n s))
    let s2 := if n = 0 then s1 else countLink l .corrFrame s1
    dozeFrame l c (modLink l (fun k => { k with content := some c, uncorrRun := 0 }) s2)

/-- FEC_FRAME_RECEIVED (R56 to R63). -/
def execFecFrameReceived (l : LaneId) (symbols : List (Fin 4)) (t : Nat) (s : State) : Host.Outcome State Fault Refusal :=
  let s := advTo t s
  let v := s.lane l
  let k := s.link l
  .next (if s.inData l && k.locked && symbols.length == frameSymbols v.cfg.rate then
    let p4 := pam4 v.cfg.rate
    let d := decodeFrame (rxBits p4 v.rxInverted (p4 && v.rx.precodeOn) k.lastSym symbols)
    let s1 := takeFrame l d.2 (modLink l (fun k => { k with
      lastSym := lastUpright v.rxInverted symbols, hdrRun := if 24 < d.1 then k.hdrRun + 1 else 0 }) s)
    if 3 ≤ (s1.link l).hdrRun ∨ 4 ≤ (s1.link l).uncorrRun then loseLock l s1 else s1
  else s)

/-! ### Credits (R70 to R72) -/

/-- Whether `cost` more credits stay within a grant (R71). -/
def maySend (granted consumed cost : Nat) : Bool := decide (toSigned 32 ((granted + 2 ^ 33 - consumed - cost) % 2 ^ 32) ≥ 0)
/-- A credited packet of `cost` arrives on a VC: whether it lies within the grant (R72). -/
def useCredit (h vc cost : Nat) (s : State) : Bool × State :=
  let k := s.link h
  let ok := maySend (k.rxGrant.getD vc 0) (k.rxUsed.getD vc 0) cost
  let s1 := modLink h (fun k => { k with rxUsed := k.rxUsed.put vc ((k.rxUsed.getD vc 0 + cost) % 2 ^ 32) }) s
  let s2 := if ok then s1
    else
      let p := paced .linkCredit h 0 s1
      raise 0x0108 sevE h vc 0 (s.laneTo h) (countLink h .creditErr p.2)
  (ok, s2)

/-- CREDIT_BLOCK_RECEIVED (R71). -/
def creditBlock (l vc granted : Nat) (s : State) : State :=
  if s.inData l then modLink (s.head l) (fun k => { k with txGrant := k.txGrant.put vc granted }) s else s
def execCreditBlockReceived (l : LaneId) (vc : Fin 16) (granted : BitVec 32) (s : State) : Host.Outcome State Fault Refusal :=
  .next (creditBlock l vc granted.toNat s)
/-- CREDIT_REPEAT (R71): the count of every VC with a non-zero grant is repeated. -/
def execCreditRepeat (l : LaneId) (s : State) : Host.Outcome State Fault Refusal :=
  let h := s.head l
  .next (if s.linkUp h ∧ s.inData h then
    (s.link h).rxGrant.foldl (fun s e => if e.2 = 0 then s else sendCredit h e.1 s) s
  else s)

/-! ### The transmitter (R73) -/

/-- Whether a waiting packet may leave now. -/
def Link.eligible (k : Link) (p : TxPacket) : Bool :=
  !credited p.ptype || maySend (k.txGrant.getD p.vc 0) (k.txUsed.getD p.vc 0) (creditCost (p.bytes.length - 16))
/-- The first place in a list of packets of one that `q` accepts. -/
def Link.firstOf (k : Link) (q : TxPacket → Bool) : Option Nat := k.txq.findIdx? fun p => q p && k.eligible p
/-- The packet that leaves next (R73): its place among those that wait. TEST packets do not wait: a test in force makes one where
no other packet may leave. -/
def Link.choose (k : Link) : Option Nat :=
  let order : List (TxPacket → Bool) :=
    [fun p => p.ptype == ptHmsg && p.vc == 2, fun p => p.ptype == ptCctl, fun p => p.ptype == ptHmsg && p.vc == 3,
     fun p => p.ptype == ptLine || p.ptype == ptFmark]
    ++ ((List.range 12).map fun i => fun (p : TxPacket) => p.ptype == ptCell && p.vc == 4 + (k.cellRr - 4 + i) % 12)
  order.findSome? k.firstOf
/-- Whether the transmitter of a link waits for its resume (R53). -/
def State.asleep (s : State) (h : Nat) : Bool := (s.lane h).power == .doze
/-- ns of an FEC frame at a rate code (R57). -/
def frameNs (rate : Nat) : Nat := if rate = 0 then 50 else if rate = 1 then 100 else 200
/-- Bits of PRBS31 from a state (Table 3-4): the sequence of R59's generator. -/
def prbsBits : Nat → Nat → List Bool
  | 0, _ => []
  | n + 1, s => (scramStep s).1 :: prbsBits n (scramStep s).2
/-- A payload of `n` bytes of PRBS31. -/
def prbsPayload (n : Nat) : List Byte := (pieces 8 n (prbsBits (8 * n) scramInit)).map fun p => BitVec.ofNat 8 (lsbFirst p)
/-- The test of link `h` may send a packet: it lasts, and what it has sent is within its share of the content slots of the
frames since it began (R57, R371). -/
def State.prbsMay (s : State) (h : Nat) (p : PrbsTest) : Bool :=
  let v := (s.lane h).cfg
  decide (s.now < p.due ∧ 100 * p.blocks ≤ p.share * (80 * v.bond * ((s.now - p.since) / frameNs v.rate)))
/-- A TEST packet leaves (R67, Tables 3-3 and 3-4): sequence numbers from 0. -/
def sendTest (h : Nat) (p : PrbsTest) (s : State) : State :=
  let n := min (Config.testLength s.freeCtr) (s.maxPacket h)
  let head := pktHead ptTest 0 0 n ++ b32 (p.sent % 2 ^ 32) ++ zeros 8
  let q := { p with sent := p.sent + 1, blocks := p.blocks + 4 + ceilDiv n 8 }
  sendPacket h (head ++ prbsPayload n) (bumpFree (modLink h (fun k => { k with prbs := some q }) s))
/-- PACKET_TRANSMIT (R70 to R73): the packet chosen leaves; the last packet of a cell returns its brood space (R206). A
link in DOZE is woken first (R53). Where no packet may leave, a PRBS test sends one (R371). -/
def execPacketTransmit (l : LaneId) (s : State) : Host.Outcome State Fault Refusal :=
  let h := s.head l
  let k := s.link h
  .next (if !(s.inData h && s.linkUp h) then s
  else match k.choose with
  | none =>
    match k.prbs with
    | none => s
    | some p =>
      if !s.prbsMay h p then s
      else if s.asleep h then (if (s.lane h).resuming then s else wakeDozing h s)
      else sendTest h p s
  | some i =>
    match k.txq[i]? with
    | none => s
    | some p =>
      if s.asleep h then (if (s.lane h).resuming then s else wakeDozing h s)
      else
        let cost := if credited p.ptype then creditCost (p.bytes.length - 16) else 0
        let s1 := modLink h (fun k => { k with
          txq := k.txq.eraseIdx i
          txUsed := if cost = 0 then k.txUsed else k.txUsed.put p.vc ((k.txUsed.getD p.vc 0 + cost) % 2 ^ 32)
          cellRr := if p.ptype = ptCell then (if p.vc = 15 then 4 else p.vc + 1) else k.cellRr }) s
        let s2 := sendPacket h p.bytes s1
        match p.brood with
        | some (a, n) => freeCell a n s2
        | none => s2)

/-! ### Lines of CAM_TX (R68, R75) -/

/-- Pixels packed least significant bit first (R68). -/
def packPixels (b : Nat) (v : List Nat) : List Byte :=
  let bits := v.flatMap (bitsLsb b)
  (pieces 8 (bits.length / 8 + 1) bits).map fun p => BitVec.ofNat 8 (lsbFirst p)
/-- One segment of a line: 8,192 pixels at most. -/
def lineSegment (b n x lineNo t : Nat) (first last : Bool) (v : List Nat) : List Byte :=
  let p := packPixels b v
  pktHead ptLine 0 (128 * b2n first + 64 * b2n last) p.length ++ b8 (8 * n) ++ b8 0 ++ b16 x ++ b32 lineNo ++ b32 (t % 2 ^ 32) ++ p
/-- The pixels of a generated line: RAMP or FLAT. -/
def generated (c : LaneCfg) (lineNo : Nat) : List Nat :=
  (List.range c.genWidth).map fun x => if c.txSource = 1 then (x + lineNo) % 2 ^ formatBits c.genFormat else c.genValue
/-- GENERATED_LINE (R75): in segments of 8,192 pixels, from sensor 0, band 0. -/
def execGeneratedLine (l : LaneId) (t : Nat) (s : State) : Host.Outcome State Fault Refusal :=
  let s := advTo t s
  let h := s.head l
  let c := (s.lane h).cfg
  .next (if c.mode = .camTx ∧ (c.txSource = 1 ∨ c.txSource = 2) ∧ s.inData h ∧ s.linkUp h ∧ !s.asleep h then
    let n := (s.link h).genLine
    let v := generated c n
    let segs := ceilDiv c.genWidth 8192
    let s1 := (List.range segs).foldl (fun s i =>
      sendPacket h (lineSegment (formatBits c.genFormat) 0 (8192 * i) n s.now (i == 0) (i + 1 == segs) ((v.drop (8192 * i)).take 8192)) s) s
    modLink h (fun k => { k with genLine := (n + 1) % 2 ^ 32 }) s1
  else s)

/-! ### Camera control (R75 to R77, R124) -/

/-- A CCTL packet joins the transmitter's packets (Table 3-3). -/
def sendCctl (h op tag status addr len : Nat) (data : List Byte) (s : State) : State :=
  queuePacket h {
    ptype := ptCctl
    vc := 1
    bytes := pktHead ptCctl 1 0 data.length ++ b32 addr ++ b8 op ++ b8 tag ++ b8 status ++ b8 0 ++ b16 len ++ b16 0 ++ data } s
/-- A text field of a descriptor. -/
def textField (n : Nat) (b : List Nat) : List Byte := sliceAt (b.map (BitVec.ofNat 8)) 0 n
/-- The digit of a number below 16. -/
def hexDigit (v : Nat) : Nat := if v < 10 then 48 + v else 55 + v
/-- The descriptor block of a lane in CAM_TX (Table 3-7, R75); the fields fixed by the design that the spec does not give
are free values. -/
def txDescriptor (s : State) (h : Nat) : List Byte :=
  let c := (s.lane h).cfg
  let gen := c.txSource = 1 ∨ c.txSource = 2
  let free := fun (o : Nat) => b32 (Config.txCamera o)
  let locked := s.clock.servo == .locked
  b32 0xABAE5EED ++ b32 0x00010000 ++ b32 0x200 ++ b32 0x127
    ++ textField 32 [0x4C, 0x75, 0x74, 0x6F, 0x67, 0x65, 0x6E]
    ++ textField 32 [0x46, 0x39, 0x36, 0x30, 0x30, 0x20, 0x43, 0x41, 0x4D, 0x5F, 0x54, 0x58]
    ++ textField 16 ((List.range 16).map fun i => hexDigit (s.sys.serial / 16 ^ (15 - i) % 16))
    ++ (if gen then b32 1 else free 0x60) ++ free 0x64 ++ free 0x68 ++ free 0x6C ++ free 0x70
    ++ b32 (b2n locked + 65536 * min 65535 ((psOf s.clock.offsetEst).natAbs / 1000)) ++ b32 (s.link h).lateTrig ++ b32 (s.bondMask h)
    ++ (if gen then b32 c.genWidth ++ b32 c.genRate ++ b32 (c.genFormat + 16 + 256) ++ b32 0
        else (List.range 4).flatMap fun i => free (0x80 + 4 * i))
    ++ (List.range 28).flatMap (fun i => if gen then b32 0 else free (0x90 + 4 * i)) ++ zeros 256
/-- The answer of a SOURCE to a CCTL request (R76, R77, Table 3-6): status and data. -/
def cctlAnswer (s : State) (h : Nat) (write : Bool) (addr len : Nat) : Nat × List Byte :=
  if len < 4 ∨ 512 < len ∨ len % 4 ≠ 0 then (4, [])
  else if addr % 4 ≠ 0 then (1, [])
  else if write then (if addr < 0x200 then (2, []) else (1, []))
  else if addr + len ≤ 0x200 then (0, sliceAt (txDescriptor s h) addr len)
  else (1, [])
/-- CCTL_REQUEST_RECEIVED (R75 to R77): answered with the matching acknowledgement; a read of LATE_TRIG_CNT clears it. -/
def cctlRequest (l : Nat) (write : Bool) (tag addr len : Nat) (data : List Byte) (s : State) : State :=
  let h := s.head l
  if (s.lane h).cfg.mode = .camTx ∧ s.inData h then
    let n := if write then data.length else len
    let a := cctlAnswer s h write addr n
    let s1 := sendCctl h (if write then 0x82 else 0x81) tag a.1 addr (if write then 0 else n) a.2 s
    if !write ∧ a.1 = 0 ∧ addr ≤ 0x78 ∧ 0x78 < addr + n then modLink h (fun k => { k with lateTrig := 0 }) s1 else s1
  else s
def execCctlRequestReceived (l : LaneId) (write : Bool) (tag addr len : Nat) (data : List Byte) (t : Nat) (s : State) :
    Host.Outcome State Fault Refusal :=
  .next (cctlRequest l write tag addr len data (advTo t s))

/-- The keeper's read of the camera descriptor leaves (R124). -/
def askDescriptor (h : Nat) (s : State) : State :=
  let tag := ((List.range 256).find? fun i => ((s.link h).cctl.find ((s.link h).cctlTag + i)).isNone).map (((s.link h).cctlTag + ·)) |>.getD 0
  let tag := tag % 256
  sendCctl h 0x01 tag 0 0 512 [] (modLink h (fun k => { k with
    cctl := k.cctl.put tag { write := false, addr := 0, len := 512, since := s.now }, cctlTag := (tag + 1) % 256, descAt := s.now }) s)
/-- Whether a descriptor is to be read on link `h` and no read of it is under way. -/
def State.wantsDescriptor (s : State) (h : Nat) : Bool :=
  (s.lane h).cfg.mode == .camRx && s.linkUp h && (s.link h).descPending && (s.link h).cctl.isEmpty
/-- DESCRIPTOR_READ (R124). -/
def execDescriptorRead (l : LaneId) (t : Nat) (s : State) : Host.Outcome State Fault Refusal :=
  let s := advTo t s
  .next (if s.head l = l ∧ s.wantsDescriptor l then askDescriptor l s else s)
/-- DESCRIPTOR_READ_RETRY (R124): 10 ms after the read before. -/
def execDescriptorReadRetry (l : LaneId) (s : State) : Host.Outcome State Fault Refusal :=
  .next (if s.head l = l ∧ s.wantsDescriptor l then askDescriptor l (advTo ((s.link l).descAt + 10000000) s) else s)
/-- The link is up with its descriptor (R124): running contexts whose camera differs are reported; CELL_PASSTHRU contexts
make themselves known to a member at the far end (R449). -/
def descriptorRead (h : Nat) (d : List Byte) (s : State) : State :=
  let s1 := modLink h (fun k => { k with desc := some d, descPending := false }) s
  s1.ctxs.foldl (fun s (e : Nat × Ctx) =>
    if e.2.lane = h ∧ e.2.state = .running then
      if e.2.kind = .passthru then announceServer e.1 h s
      else match descMismatch e.2 d with
        | some i => raiseCtx e.1 0x0202 sevW e.1 i 0 s
        | none => s
    else s) s1
/-- CCTL_ACK_RECEIVED (R76, R124): an unknown TAG is discarded and counted. -/
def cctlAck (l : Nat) (write : Bool) (tag status : Nat) (data : List Byte) (s : State) : State :=
  let h := s.head l
  if (s.lane h).cfg.mode = .camRx ∧ s.inData h then
    match (s.link h).cctl.find tag with
    | none => countLink h .typeErr s
    | some q =>
      if q.write ≠ write then countLink h .typeErr s
      else
        let s1 := modLink h (fun k => { k with cctl := k.cctl.erase tag }) s
        if status = 0 ∧ data.length = q.len then descriptorRead h data s1 else s1
  else s
def execCctlAckReceived (l : LaneId) (write : Bool) (tag status : Nat) (data : List Byte) (t : Nat) (s : State) :
    Host.Outcome State Fault Refusal :=
  .next (cctlAck l write tag status data (advTo t s))
/-- CCTL_TIMEOUT (R76): 1 ms after the request. -/
def execCctlTimeout (l : LaneId) (tag : Nat) (s : State) : Host.Outcome State Fault Refusal :=
  let h := s.head l
  .next (match (s.link h).cctl.find tag with
  | some q => countLink h .cctlTimeout (modLink h (fun k => { k with cctl := k.cctl.erase tag }) (advTo (q.since + 1000000) s))
  | none => s)

/-! ### Events and test packets (R78, R79, Table 3-4) -/

/-- EVENT_BLOCK_RECEIVED (R78, R79): a copy is acted on once; a kind that the role does not accept is counted. Acting on
one makes it a producer of the waggle router at its time (PRODUCER_OCCURRENCE); a TRIGGER that comes late is counted for the
camera's descriptor (R80). -/
def eventReceived (l kind target seq time32 : Nat) (s : State) : State :=
  let h := s.head l
  let m := (s.lane h).cfg.mode
  if !s.inData h then s
  else if (m = .camTx ∧ kind ≤ 1) ∨ (m = .camRx ∧ kind = 2) then
    if (s.link h).evLast.find target = some seq then s
    else
      let late := m = .camTx ∧ kind = 0 ∧ extTime 32 s.now time32 < s.now
      modLink h (fun k => { k with
        evLast := k.evLast.put target seq, lateTrig := if late then satAdd 32 k.lateTrig 1 else k.lateTrig }) s
  else countLink h .ctrlUnk s
def execEventBlockReceived (l : LaneId) (_rep : Bool) (kind target seq time32 : Nat) (t : Nat) (s : State) :
    Host.Outcome State Fault Refusal :=
  .next (eventReceived l (kind % 8) (target % 16) (seq % 4096) time32 (advTo t s))

/-- TEST_PACKET_RECEIVED. -/
def testReceived (l : Nat) (payload : List Byte) (s : State) : State :=
  let h := s.head l
  if s.inData h ∧ (s.lane h).cfg.mode ≠ .camTx ∧ payload ≠ prbsPayload payload.length then countLink h .testErr s else s
def execTestPacketReceived (l : LaneId) (_seq : Nat) (payload : List Byte) (s : State) : Host.Outcome State Fault Refusal :=
  .next (testReceived l payload s)

/-! ### Lines and frame marks (R66 to R69, R122, R126) -/

/-- A line that broke its order is lost: counted once, and at intake a lost line (R68). -/
def segBroken (h c key : Nat) (lineNo : Nat) (pos : Option Nat) (s : State) : State :=
  let s1 := countLink h .segErr s
  let gone : OpenLine := { lineNo := lineNo, nextX := 0, tExp := 0, data := [], pos := none, dead := true }
  let s2 := modLink h (fun k => { k with lines := k.lines.put key gone }) s1
  match pos with
  | some p => breakLine c p s2
  | none => s2
/-- A line whose width cannot be the context's is finished as one of wrong width (R136); what follows of it is ignored. -/
def segWide (h c k key : Nat) (o : OpenLine) (s : State) : State :=
  let s1 := modLink h (fun x => { x with lines := x.lines.put key { o with data := [], dead := true } }) s
  match o.pos with
  | some p => finishLine c k p o.tExp none s1
  | none => s1
/-- A segment that stands where its line expects it. -/
def segTake (h c k key : Nat) (x : Ctx) (g : LineSeg) (o : OpenLine) (s : State) : State :=
  let bits' := 8 * g.payload.length
  let n := bits' / x.b
  if !g.last ∧ bits' % x.b ≠ 0 then segBroken h c key g.lineNo o.pos s
  else if x.geo.width < g.x + n then segWide h c k key o s
  else
    let o1 := { o with nextX := g.x + n, data := o.data ++ g.payload }
    if g.last then
      let s1 := modLink h (fun y => { y with lines := y.lines.erase key }) s
      match o.pos with
      | some p => finishLine c k p o.tExp (if g.x + n = x.geo.width then some (unpackCodes x.b x.geo.width o1.data) else none) s1
      | none => s1
    else modLink h (fun y => { y with lines := y.lines.put key o1 }) s
/-- LINE_SEGMENT_RECEIVED (R68, R122): the order check, then the store. -/
def lineReceived (l : Nat) (g : LineSeg) (s : State) : State :=
  let h := s.head l
  if !((s.lane h).cfg.mode = .camRx ∧ s.inData h ∧ s.linkUp h) ∨ s.asleep h then s
  else match s.boundTo h none g.sensor g.band with
  | none => if g.first then countLink h .unboundLine s else s
  | some (c, k) =>
    match s.ctx c with
    | none => s
    | some x =>
      let key := g.sensor.val * 4 + g.band.val
      let old := (s.link h).lines.find key
      if g.first then
        -- an open line ends lost
        let s1 := match old with
          | some o => if o.dead then s else segBroken h c key o.lineNo o.pos s
          | none => s
        if g.x ≠ 0 then segBroken h c key g.lineNo none s1
        else
          let b := beginLine c k g.lineNo s1
          let pos := match b.1 with
            | .taken p => some p
            | .refused => none
          segTake h c k key x g
            { lineNo := g.lineNo, nextX := 0, tExp := extTime 32 s.now g.tExp32, data := [], pos := pos, dead := false } b.2
      else match old with
        | none => segBroken h c key g.lineNo none s
        | some o =>
          if o.lineNo = g.lineNo then
            if o.dead then s
            else if g.x = o.nextX then segTake h c k key x g o s
            else segBroken h c key g.lineNo o.pos s
          else
            let s1 := if o.dead then s else segBroken h c key o.lineNo o.pos s
            segBroken h c key g.lineNo none s1
def execLineSegmentReceived (l : LaneId) (g : LineSeg) (t : Nat) (s : State) : Host.Outcome State Fault Refusal :=
  .next (lineReceived l g (advTo t s))

/-- FMARK_RECEIVED (R126 to R128): frames follow the marks of the sensor in source entry 0, skipped lines those of every
sensor named. -/
def fmarkReceived (l : Nat) (sensor : Nat) (kind : FmarkKind) (number n : Nat) (s : State) : State :=
  let h := s.head l
  if !((s.lane h).cfg.mode = .camRx ∧ s.inData h ∧ s.linkUp h) ∨ s.asleep h then s
  else s.ctxs.foldl (fun s (e : Nat × Ctx) =>
    let x := e.2
    let lead := (x.src.head?.map (·.1)) == some sensor
    if x.lane ≠ h ∨ x.channel.isSome ∨ x.kind = .passthru then s
    else match kind with
      | .frameStart => if lead && x.framed then openFrame e.1 number none none s else s
      | .frameEnd => if lead && x.framed then closeFrame e.1 (some n) false s else s
      | .linesSkipped => if (x.src.take x.bands).any fun p => p.1 == sensor then skipLines e.1 number n s else s) s
def execFmarkReceived (l : LaneId) (sensor : Fin 8) (kind : FmarkKind) (number count : Nat) (t : Nat) (s : State) :
    Host.Outcome State Fault Refusal :=
  .next (fmarkReceived l sensor kind number count (advTo t s))

/-! ### Bonds (R84 to R89) -/

/-- The lanes of a mask of the bond whose lowest lane is `h`. -/
def State.maskLanes (s : State) (h m : Nat) : List Nat := (setBits (s.lane h).cfg.bond m).map (h + ·)
/-- An ALIGN block of one kind with a mask leaves on every lane of the transmit mask. -/
def sendAlignAll (h kind mask : Nat) (s : State) : State :=
  (s.maskLanes h (s.link h).txMask).foldl (fun s l => sendAlign l (s.lane h).cfg.bond (l - h) kind mask (s.link h).bondFrames s) s
/-- ALIGN_MARK_SEND (R84): every 4,096 frames, with one bond frame count. -/
def execAlignMarkSend (l : LaneId) (t : Nat) (s : State) : Host.Outcome State Fault Refusal :=
  let s := advTo t s
  .next (if s.head l = l ∧ s.bonded l ∧ (s.bondLanes l).any (s.inData ·) then
    modLink l (fun k => { k with bondFrames := (k.bondFrames + 4096) % 2 ^ 32 }) (sendAlignAll l 0 (s.link l).txMask s)
  else s)
/-- ALIGN_MARK_RECEIVED (R85): lane `l` is deskewed, or stays outside the bond. -/
def alignMark (l bfc skew : Nat) (s : State) : State :=
  let h := s.head l
  if !(s.bonded l && s.carries l) then s
  else if 32 < skew then
    raise 0x0109 sevW l skew 0 (s.laneTo l) (countLink h .bondSkew
      (modLink h (fun k => { k with deskewed := clearBit k.deskewed (l - h) }) s))
  else
    let up := s.linkUp h
    let new := !bit (s.link h).deskewed (l - h)
    let s1 := modLink h (fun k => { k with deskewed := setBit k.deskewed (l - h), markFrame := bfc }) s
    let s2 := if new then modLink l (fun k => { k with alignAt := s.now }) s1 else s1
    if !up && s2.linkUp h && (s2.link h).rxGrant.isEmpty then linkStart h s2 else s2
def execAlignMarkReceived (l : LaneId) (bfc : BitVec 32) (skew : Nat) (t : Nat) (s : State) : Host.Outcome State Fault Refusal :=
  .next (alignMark l bfc.toNat skew (advTo t s))

/-- A power exchange under way ends as on a NAK (R83, R88): the command that asked answers BUSY, an entry to DOZE or SLEEP
leaves the lane ACTIVE. -/
def endExchange (h : Nat) (e : Fail) (s : State) : State :=
  let s1 := modLane h (fun v => { v with ask := none }) s
  let s2 := if s1.power.asked.contains h then
      { s1 with power := { s1.power with asked := s1.power.asked.filter (· != h), left := s1.power.left + 1 } }
    else s1
  match s2.waiting with
  | some w =>
    match w.what with
    | .power l _ => if l = h then finishWait w (.fail e) s2 else s2
    | _ => s2
  | none => s2
/-- A degrade to a mask (R87): the transmitter stripes over it after RESTRIPE; counted and reported. -/
def degradeTo (h mask : Nat) (s : State) : State :=
  let s1 := raise 0x010A sevW h mask 0 (s.laneTo h) (countLink h .degrade (modLink h (fun k => { k with txMask := mask }) s))
  sendAlignAll h 2 mask (if ((s.lane h).ask).isSome then endExchange h (failSt stBusy) s1 else s1)
/-- LINK_DEGRADE (R87, R88): lane `l` of a bond is lost; DEGRADE goes out on the lanes that remain until RESTRIPE comes. -/
def execLinkDegrade (l : LaneId) (t : Nat) (s : State) : Host.Outcome State Fault Refusal :=
  let s := advTo t s
  let h := s.head l
  let k := s.link h
  .next (if s.bonded l && !s.carries l && (bit k.rxMask (l - h) || bit k.txMask (l - h)) && !k.rxGrant.isEmpty then
    let mask := clearBit (k.txMask &&& k.rxMask) (l - h)
    if mask = 0 then linkLost h s
    else
      let s1 := modLink h (fun k => { k with txMask := mask, sendingDegrade := true }) s
      degradeTo h mask (sendAlignAll h 1 mask s1)
  else s)
/-- ALIGN_DEGRADE_RECEIVED (R87): the same for the own transmit direction; a repeated DEGRADE is answered again. -/
def alignDegrade (l mask : Nat) (s : State) : State :=
  let h := s.head l
  if !(s.bonded l && s.inData l) then s
  else
    let m := (s.link h).txMask &&& mask
    if m = 0 then s
    else if m = (s.link h).txMask then sendAlignAll h 2 m s
    else degradeTo h m s
def execAlignDegradeReceived (l : LaneId) (mask : BitVec 4) (t : Nat) (s : State) : Host.Outcome State Fault Refusal :=
  .next (alignDegrade l mask.toNat (advTo t s))
/-- ALIGN_RESTRIPE_RECEIVED (R87): the receiver destripes over the mask; DEGRADE is no longer sent. -/
def alignRestripe (l mask : Nat) (s : State) : State :=
  let h := s.head l
  if s.bonded l && s.inData l && mask % 2 ^ (s.lane h).cfg.bond != 0 then
    modLink h (fun k => { k with rxMask := mask % 2 ^ (s.lane h).cfg.bond, sendingDegrade := false }) s
  else s
def execAlignRestripeReceived (l : LaneId) (mask : BitVec 4) (t : Nat) (s : State) : Host.Outcome State Fault Refusal :=
  .next (alignRestripe l mask.toNat (advTo t s))
/-- BOND_LANE_RESTORE (R89): after 1 ms in DATA, locked and deskewed, the receiving end asks for the lane back; its fault
is resolved (Table 21-2). -/
def execBondLaneRestore (l : LaneId) (t : Nat) (s : State) : Host.Outcome State Fault Refusal :=
  let s := advTo t s
  let h := s.head l
  let k := s.link h
  .next (if s.bonded l && s.carries l && bit k.deskewed (l - h) && !bit k.rxMask (l - h)
      && decide ((s.link l).alignAt + 1000000 ≤ s.now) then
    faultOk clsBonded l (some (s.now - 1000000)) (sendAlignAll h 3 (setBit k.rxMask (l - h)) s)
  else s)
/-- ALIGN_RESTORE_RECEIVED (R89): RESTRIPE, then the wider mask. -/
def alignRestore (l mask : Nat) (s : State) : State :=
  let h := s.head l
  let m := mask % 2 ^ (s.lane h).cfg.bond
  if s.bonded l && s.inData l && m != 0 then
    modLink h (fun k => { k with txMask := m }) (sendAlignAll h 2 m s)
  else s
def execAlignRestoreReceived (l : LaneId) (mask : BitVec 4) (t : Nat) (s : State) : Host.Outcome State Fault Refusal :=
  .next (alignRestore l mask.toNat (advTo t s))

/-! ### Lane messages (R83, R52, R53) -/

/-- The power state an exchange leads to. -/
def askedState (sleep : Bool) : LanePower := if sleep then .sleep else .doze
/-- A bond enters the state both ends agreed on; one that an entry asked for and that the device no longer wants is woken
(R545). -/
def agreed (h : Nat) (sleep : Bool) (s : State) : State :=
  let entry := s.power.asked.contains h
  let mine := match s.waiting with
    | some w => (match w.what with | .power l _ => l == h | _ => false)
    | none => false
  let s1 := enterPower (askedState sleep) h s
  let s2 := if entry then
      { s1 with power := { s1.power with asked := s1.power.asked.filter (· != h), moved := s1.power.moved ++ [h] } }
    else s1
  match s2.waiting with
  | some w => if mine then finishWait w (.ok { s2 with waiting := none } []) s2 else if entry then s2 else wakeLane h s2
  | none => if entry then s2 else wakeLane h s2
/-- Whether credited packets wait on a link (R83). -/
def Link.creditWaits (k : Link) : Bool := k.txq.any fun p => credited p.ptype
/-- The answer to a power request (R83): a repeated sequence byte is answered again without a second change. -/
def answerPower (h code seq : Nat) (s : State) : State :=
  match (s.link h).lmsgDone with
  | some (q, a) =>
    if q = seq then sendLmsg h a seq s else fresh
  | none => fresh
where
  fresh : State :=
    let nak := (s.lane h).cfg.powerLock || (s.link h).creditWaits || (s.link h).sendingDegrade
    let a := if nak then 0x04 else 0x03
    let s1 := sendLmsg h a seq (modLink h (fun k => { k with lmsgDone := some (seq, a) }) s)
    if nak then s1 else enterPower (askedState (code == 2)) h s1
/-- LMSG_RECEIVED (R83, R52, R53). -/
def lmsgReceived (l code seq : Nat) (s : State) : State :=
  let h := s.head l
  if !s.inData h then s
  else if code = 1 ∨ code = 2 then answerPower h code seq s
  else if code = 3 ∨ code = 4 then
    match (s.lane h).ask with
    | some a =>
      if a.seq ≠ seq then s
      else if code = 3 then agreed h a.sleep s
      else endExchange h (failSt stBusy) s
    | none => s
  else if code = 5 then
    if (s.lane h).power = .doze then (s.bondLanes h).foldl (fun s i => modLane i (fun v => { v with resuming := true }) s) s else s
  else s
def execLmsgReceived (l : LaneId) (code seq : Nat) (t : Nat) (s : State) : Host.Outcome State Fault Refusal :=
  .next (lmsgReceived l code seq (advTo t s))
/-- POWER_EXCHANGE_TIMEOUT (R52): 20 µs without an answer; the lane stays as it is. -/
def execPowerExchangeTimeout (l : LaneId) (s : State) : Host.Outcome State Fault Refusal :=
  let h := s.head l
  .next (match (s.lane h).ask with
  | some a => endExchange h (failSt stTimeout) (advTo (a.since + 20000) s)
  | none =>
    match s.waiting with
    | some w =>
      match w.what with
      | .power k _ => if k = h then finishWait w (.fail (failSt stTimeout)) (advTo (w.since + 20000) s) else s
      | _ => s
    | none => s)

end Sys2Proof.Machine
end

