-- ==== Sys2Proof/Machine/Hive.lean ====
section
/-! DEFINITION. The hive engine (17_hive_hierarchy.md): election, join, uplinks and failover, and the messages that
hardware handles. -/
namespace Sys2Proof.Machine

/-! ### What a device knows of itself and of the hive -/

/-- Roles of Table 17-1. -/
def State.worker (s : State) : Bool := s.sys.straps.role == 1
def State.managerCapable (s : State) : Bool := s.sys.straps.role == 2
/-- A hive message of this device on one link, its header complete; SEQ advances. -/
def hsendLink (h htype hsub flags : Nat) (body : List Byte) (s : State) : State :=
  let m : HMsg := { htype := htype, hsub := hsub, flags := flags, hops := 0, dest := 0, src := s.deviceId, seq := s.hive.seq, body := body }
  hsendOn h m (modHive (fun x => { x with seq := (x.seq + 1) % 2 ^ 32 }) s)
/-- Hive links in DATA that are admitted (R433, R437). -/
def State.admittedLinks (s : State) : List Nat := s.hiveLinks.filter s.admitted
/-- The device ID of a serial as the manager's table has it, else as the hive answers. -/
def State.idOf (s : State) (serial : Nat) : Option Nat :=
  match s.hive.ids.find? fun e => e.1 == serial with
  | some e => some e.2.1
  | none => Config.memberId serial s.freeCtr
/-- Every device's directory follows its hive ID and role (R279). -/
def hiveChanged (s : State) : State := rdRefresh s

/-! ### The manager's tables (R435, R438, R440) -/

/-- The member with an ID. -/
def State.member (s : State) (id : Nat) : Option HiveMember := s.hive.members.find? fun m => m.id == id
/-- Worst depth of the manager or a member (R435). -/
def State.worstOf (s : State) (id : Nat) : Nat :=
  if id = s.deviceId then 0 else ((s.member id).map (·.worst)).getD 0
/-- Whether a device has a second uplink on record on some path from the manager to it (R435); `n` bounds the depth. -/
def State.pathSwitches (s : State) (id : Nat) : Nat → Bool
  | 0 => false
  | n + 1 =>
    match s.member id with
    | some m => m.parent2.isSome || s.pathSwitches m.parent n
    | none => false
/-- Whether `id` lies in the subtree of `top`; `n` bounds the depth. -/
def State.below (s : State) (top id : Nat) : Nat → Bool
  | 0 => id == top
  | n + 1 => id == top || (match s.member id with
    | some m => s.below top m.parent n
    | none => false)
/-- The first hive link of a joining device that may be its second uplink: to a member other than its parent, worst depths
within 4, and no other second uplink on any path (R434, R435). -/
def State.secondUplink (s : State) (parent : Nat) (ups : List (Nat × Nat)) : Option (Nat × Nat) :=
  ups.find? fun u => u.2 != parent && ((s.member u.2).isSome || u.2 == s.deviceId) && decide (s.worstOf u.2 < 4)
    && !s.pathSwitches u.2 4 && !s.pathSwitches parent 4
/-- The ID a serial receives (R440): its own, the lowest free one, or that of the serial absent longest, 10 s at least. -/
def State.pickId (s : State) (serial : Nat) : Option Nat :=
  match s.hive.ids.find? fun e => e.1 == serial with
  | some e => some e.2.1
  | none =>
    if s.hive.ids.length < 65536 then (List.range 65536).find? fun i => !(s.hive.ids.any fun e => e.2.1 == i)
    else
      let old := s.hive.ids.filterMap fun e => e.2.2.map fun t => (t, e.2.1)
      match old with
      | [] => none
      | x :: r =>
        let y := r.foldl (fun a b => if b.1 < a.1 then b else a) x
        if y.1 + 10000000000 ≤ s.now then some y.2 else none
/-- Record that a serial holds an ID and is present. -/
def recordId (serial id : Nat) (s : State) : State :=
  modHive (fun h => { h with ids := (h.ids.filter fun e => e.1 != serial && e.2.1 != id) ++ [(serial, id, none)] }) s
/-- The largest worst depth, W of R381. -/
def setWorst (s : State) : State := modHive (fun h => { h with maxWorst := (h.members.map (·.worst)).foldl max 0 }) s
/-- Body of a MIRROR message: whether it is the last, EXT_OFFSET with its EXT_SINCE, then serials and IDs (R438). -/
def mirrorBody (s : State) (last : Bool) (l : List (Nat × Nat)) : List Byte :=
  b8 l.length ++ b8 (b2n last) ++ bs64 s.clock.extOffset ++ b16 s.clock.extFrac ++ b64 s.clock.extSince
    ++ l.flatMap fun p => b64 p.1 ++ b16 p.2
/-- The manager mirrors its ID table to a standby in pieces of 190 entries (R438). -/
def sendMirror (dest : Nat) (s : State) : State :=
  let all := pieces 190 (s.hive.ids.length + 1) (s.hive.ids.map fun e => (e.1, e.2.1))
  let all := all.filter fun p => !p.isEmpty
  (all.zip (List.range all.length)).foldl (fun s (p : List (Nat × Nat) × Nat) =>
    (hsend 5 7 0 dest (mirrorBody s (p.2 + 1 == all.length) p.1) s).2) s
/-- Rank of R436: the higher PRIORITY, then the lower serial. -/
def outranks (p q : Nat × Nat) : Bool := decide (q.1 < p.1) || (p.1 == q.1 && decide (p.2 < q.2))
/-- The manager chooses its standby (R438): a depth-1 manager-capable member with STANDBY = 1, LOCKED, to which another
depth-1 member has its second uplink. -/
def chooseStandby (s : State) : State :=
  let ok := s.hive.members.filterMap fun m =>
    if m.depth = 1 ∧ m.role = 2 ∧ m.parent2.isNone
        ∧ (s.hive.members.any fun o => o.depth == 1 && o.id != m.id && o.parent2 == some m.id) then
      (Config.memberFit m.serial s.freeCtr).map fun p => (m.id, (p, m.serial))
    else none
  let best := ok.foldl (fun a (c : Nat × Nat × Nat) => match a with
    | none => some c
    | some (b : Nat × Nat × Nat) => if outranks c.2 b.2 then some c else some b) none
  let s := bumpFree s
  match best with
  | some b =>
    if s.hive.standbyId = some b.1 then s
    else sendMirror b.1 (modHive (fun h => { h with standbyId := some b.1, mirrorDone := false }) s)
  | none => modHive (fun h => { h with standbyId := none, mirrorDone := false }) s

/-! ### Leaving and losing (R445) -/

/-- The manager has lost members: each is reported, and its serial absent from now (R440, R445). -/
def loseMembers (l : List Nat) (s : State) : State :=
  let gone := s.hive.members.filter fun m => l.contains m.id
  let s := gone.foldl (fun s m => raise 0x0A05 sevW m.id 0 m.serial [s.sys.trusted] s) s
  let t := s.now
  setWorst (modHive (fun h => { h with
    members := h.members.filter fun m => !l.contains m.id
    routes := h.routes.filter fun r => !l.contains r.dest
    ids := h.ids.map fun (e : Nat × Nat × Option Nat) => if l.contains e.2.1 && e.2.2.isNone then (e.1, e.2.1, some t) else e
    standbyId := (match h.standbyId with | some i => if l.contains i then none else some i | none => none) }) s)
/-- The device leaves the hive with its subtree and enters JOINING (R445); what it held of the hive is forgotten, and its
subtree is told. -/
def leaveHive (s : State) : State :=
  let s := s.downlinks.foldl (fun s h => hsendLink h 1 5 hfBroadcast [] s) s
  let old := s.hive
  let fresh : Hive :=
    { state := .joining, priority := old.priority, willing := old.willing, seq := old.seq, links := old.links, ids := old.ids
      joinedSerial := old.joinedSerial, relayed := old.relayed, annSeq := old.annSeq, cellSeq := old.cellSeq
      lastAlive := old.lastAlive, listenSince := if s.hiveLinks.isEmpty then none else some s.now }
  hiveChanged (setValid .hive false { s with hive := fresh, deviceId := 0 })
/-- The device becomes manager of a hive of its own members (R431, R436, R440, R447). -/
def becomeManager (id : Nat) (s : State) : State :=
  let serial := s.sys.serial
  let t := s.now
  let s := modHive (fun h => { h with
    state := .manager, depth := 0, worst := 0, managerId := id, managerSerial := serial, uplink := none, uplink2 := none
    switched := false, listenSince := none, announceSince := none, joinPending := false, accepted := none, retryAt := none
    lostAt := none, quiet := false, standbyId := none, mirrorDone := false, reportedReady := false, joinedSerial := serial
    ids := (h.ids.filter fun e => e.1 != serial && e.2.1 != id).map (fun (e : Nat × Nat × Option Nat) =>
      (e.1, e.2.1, match e.2.2 with | none => some t | some x => some x)) ++ [(serial, id, none)] }) { s with deviceId := id }
  hiveChanged (evalSource (setValid .hive false s))
/-- A device without a recorded ID takes 0 (R440). -/
def foundHive (s : State) : State :=
  becomeManager (((s.hive.ids.find? fun e => e.1 == s.sys.serial).map (·.2.1)).getD 0) s
/-- An election completes: the MANAGER fault is resolved (Table 21-2). -/
def electionDone (s : State) : State :=
  ((s.faults.filter fun f => f.cls == clsManager).map (·.unit)).foldl (fun s u => resolveFault clsManager u s) s

/-! ### Election (R431, R436) -/

/-- HIVE_FORM_ALONE (R431). -/
def execHiveFormAlone (s : State) : Host.Outcome State Fault Refusal :=
  .next (if s.hive.state = .joining ∧ s.managerCapable ∧ s.sys.everReady ∧ s.hiveLinks.isEmpty then
    foundHive (advTo (s.sys.readyAt + 500000000) s)
  else s)
/-- ELECTION_LISTEN_END (R436): no ALIVE for 200 ms. -/
def execElectionListenEnd (s : State) : Host.Outcome State Fault Refusal :=
  .next (match s.hive.listenSince with
  | some t =>
    if s.hive.state = .joining ∧ s.managerCapable then
      let s := advTo (t + 200000000) s
      modHive (fun h => { h with listenSince := none, announceSince := some s.now, quiet := false }) s
    else s
  | none => s)
/-- ANNOUNCE_SEND (R436): on every hive link. -/
def execAnnounceSend (s : State) : Host.Outcome State Fault Refusal :=
  .next (if s.hive.state = .joining ∧ s.hive.announceSince.isSome then
    let q := s.hive.annSeq
    let m : HMsg := { htype := 5, hsub := 3, flags := 0, hops := 0, dest := 0, src := 0, seq := q
                      body := b64 s.sys.serial ++ b8 s.hive.priority }
    s.hiveLinks.foldl (fun s h => hsendOn h m s) (modHive (fun h => { h with
      annSeq := (q + 1) % 2 ^ 32, relayed := ((s.sys.serial, q) :: h.relayed).take 64 }) s)
  else s)
/-- An ANNOUNCE is relayed once on every other hive link, up to 8 hops, and silences a worse-ranked candidate (R436). -/
def announced (h serial prio seq hops : Nat) (s : State) : State :=
  let s1 := if s.hive.relayed.contains (serial, seq) then s
    else
      let s := modHive (fun x => { x with relayed := ((serial, seq) :: x.relayed).take 64 }) s
      if 8 ≤ hops then s
      else
        let m : HMsg := { htype := 5, hsub := 3, flags := 0, hops := hops + 1, dest := 0, src := 0, seq := seq
                          body := b64 serial ++ b8 prio }
        (s.hiveLinks.filter (· != h)).foldl (fun s k => hsendOn k m s) s
  if s1.hive.announceSince.isSome ∧ outranks (prio, serial) (s1.hive.priority, s1.sys.serial) then
    modHive (fun x => { x with announceSince := none, quiet := true }) s1
  else s1
def execAnnounceReceived (l : LaneId) (serial prio seq hops : Nat) (s : State) : Host.Outcome State Fault Refusal :=
  .next (if s.hive.state = .standalone then s else announced (s.head l) serial prio seq hops s)
/-- ELECTION_WIN (R436): 300 ms of announcing without a better one. -/
def execElectionWin (s : State) : Host.Outcome State Fault Refusal :=
  .next (match s.hive.announceSince with
  | some t => if s.hive.state = .joining then electionDone (foundHive (advTo (t + 300000000) s)) else s
  | none => s)

/-! ### Join (R376, R439, R440) -/

/-- A JOIN message toward a device without an ID: the body of Table 17-5, and the device's serial after it, by which the
join tables on the way find their link (R439). -/
def sendJoin (h hsub serial : Nat) (body : List Byte) (s : State) : State := hsendLink h 1 hsub 0 (body ++ b64 serial) s
/-- REQUEST's body: serial, role, and the device's hive links with the members at their far ends. -/
def requestBody (serial role : Nat) (ups : List (Nat × Nat)) : List Byte :=
  b64 serial ++ b8 role ++ b8 ups.length ++ ups.flatMap fun u => b8 u.1 ++ b16 u.2
/-- The device asks on hive link `h` (R439). -/
def requestJoin (h : Nat) (s : State) : State :=
  let ups := (h :: s.hiveLinks.filter (· != h)).map fun k => (k, 0xFFFF)
  hsendLink h 1 0 hfUp (requestBody s.sys.serial s.sys.straps.role ups)
    (modHive (fun x => { x with joinPending := true, uplink := some h, retryAt := none }) s)
/-- JOIN_REQUEST_SEND (R439): a worker at once, a manager-capable device once its election is settled. -/
def execJoinRequestSend (l : LaneId) (s : State) : Host.Outcome State Fault Refusal :=
  let h := s.head l
  .next (if s.hive.state = .joining ∧ s.admittedLinks.contains h ∧ !s.hive.joinPending ∧ s.hive.retryAt.isNone
      ∧ (s.worker ∨ (s.hive.listenSince.isNone ∧ s.hive.announceSince.isNone)) then requestJoin h s
  else s)
/-- The refusal of a join at the manager (Table 17-3). -/
def refuseJoin (h serial reason : Nat) (s : State) : State :=
  sendJoin h 4 serial (b8 reason)
    (raise 0x0A04 sevE reason 0 serial [s.sys.trusted] (honey (hoHive 12)
      (modHive (fun x => { x with joins := x.joins.filter fun j => j.serial != serial }) s)))
/-- The parent a request names: the member that first took it, or the manager itself. -/
def State.parentOf (s : State) (ups : List (Nat × Nat)) : Nat :=
  match ups with
  | u :: _ => if (s.member u.2).isSome then u.2 else s.deviceId
  | [] => s.deviceId
/-- A JOIN REQUEST from hive link `h` (R439): the manager checks capacity and topology and sends CHALLENGE; another member
notes the path, names itself where it is the parent, and forwards. -/
def joinRequest (h serial role : Nat) (ups : List (Nat × Nat)) (nonce : List Byte) (s : State) : State :=
  if s.hive.state = .manager then
    let s := modHive (fun x => { x with joins := x.joins.filter fun j => j.serial != serial }) s
    if 64 ≤ s.hive.joins.length then refuseJoin h serial 5 s
    else if 4 ≤ s.worstOf (s.parentOf ups) then refuseJoin h serial 2 s
    else sendJoin h 1 serial (nonce ++ b64 s.sys.serial) (modHive (fun x => { x with
      joins := x.joins ++ [{ serial := serial, link := h, role := role, ups := ups, nonce := nonce, since := s.now }] }) s)
  else if s.isMember then
    match s.uplinkInForce with
    | some u =>
      let ups := match ups with
        | (k, d) :: r => if d = 0xFFFF then (k, s.deviceId) :: r else (k, d) :: r
        | [] => [(0, s.deviceId)]
      hsendLink u 1 0 hfUp (requestBody serial role ups)
        (modHive (fun x => { x with joinPath := ((serial, h) :: x.joinPath.filter fun e => e.1 != serial).take 64 }) s)
    | none => s
  else s
def execJoinRequestReceived (l : LaneId) (serial role : Nat) (ups : List (Nat × Nat)) (nonce : List Byte) (s : State) :
    Host.Outcome State Fault Refusal :=
  .next (joinRequest (s.head l) serial role ups nonce s)
/-- The joining device signs the nonce (R439, R470). -/
def joinChallenge (h : Nat) (nonce : List Byte) (managerSerial : Nat) (s : State) : State :=
  if s.hive.state = .joining ∧ s.hive.joinPending ∧ s.hive.uplink = some h then
    hsendLink h 1 2 hfUp (b64 s.sys.serial ++ Config.sm2Sign (nonce ++ b64 s.sys.serial ++ b64 managerSerial) ++ Config.identityCert)
      (modHive (fun x => { x with managerSerial := managerSerial }) s)
  else s
def execJoinChallengeReceived (l : LaneId) (nonce : List Byte) (managerSerial : Nat) (s : State) :
    Host.Outcome State Fault Refusal :=
  .next (joinChallenge (s.head l) nonce managerSerial s)
/-- JOIN_RULE of the owner policy in force (R484): LIST admits the serials of ALLOW. -/
def State.policyAdmits (s : State) (serial : Nat) : Bool :=
  let p := s.trust.policy
  p.isEmpty || byteAt p 0x1A != 1 || (List.range (u32At p 0xA0)).any fun i => u64At p (0xA8 + 8 * i) == serial
/-- Section `kind` of a firmware image (Table 19-10). -/
def imageSection (image : List Byte) (kind : Nat) : List Byte :=
  let body := image.drop 0x100
  match (List.range (u32At body 0)).find? fun i => u32At body (16 + 16 * i) == kind with
  | some i => sliceAt body (u32At body (20 + 16 * i)) (u32At body (24 + 16 * i))
  | none => []
/-- The new member's route, and its path through its second uplink, tagged with the device whose bit selects (R443). -/
def addRoute (id parent link : Nat) (alt : Option Nat) (s : State) : State :=
  let r : Route := match s.hive.routes.find? fun r => r.dest == parent with
    | some p =>
      (match alt with
      | some _ => { dest := id, link := link, alt := alt, tag := some id, hops := p.hops + 1 }
      | none => { p with dest := id, hops := p.hops + 1 })
    | none => { dest := id, link := link, alt := alt, tag := alt.map fun _ => id, hops := 1 }
  modHive (fun x => { x with routes := (x.routes.filter fun y => y.dest != id) ++ [r], flipped := x.flipped.filter (· != id) }) s
/-- The manager admits a device (R435, R439, R440). -/
def acceptJoin (j : Join) (id : Nat) (s : State) : State :=
  let parent := s.parentOf j.ups
  let second := s.secondUplink parent j.ups.tail
  let worst := 1 + max (s.worstOf parent) ((second.map fun u => s.worstOf u.2).getD 0)
  let depth := 1 + ((s.member parent).map (·.depth)).getD 0
  let m : HiveMember :=
    { id := id, serial := j.serial, parent := parent, depth := depth, worst := worst, role := j.role
      parent2 := second.map (·.2), faults := 0 }
  let alt := match second with
    | some u => if u.2 = s.deviceId then none else s.routeTo u.2
    | none => none
  let s := recordId j.serial id (modHive (fun x => { x with joins := x.joins.filter fun k => k.serial != j.serial }) s)
  let s := setWorst (modHive (fun x => { x with members := (x.members.filter fun k => k.id != id && k.serial != j.serial) ++ [m] }) s)
  let s := addRoute id parent j.link alt s
  let s := raise 0x0A03 sevI id depth j.serial [s.sys.trusted] s
  let s := sendJoin j.link 3 j.serial (b16 id ++ b8 depth ++ b16 parent ++ b8 ((second.map (·.1)).getD 0xFF)) s
  chooseStandby s
/-- A JOIN RESPONSE from hive link `h` (R439): certificate chain, signature and policy decide; another member forwards. -/
def joinResponse (h serial : Nat) (signature cert : List Byte) (s : State) : State :=
  if s.hive.state = .manager then
    match s.hive.joins.find? fun j => j.serial == serial with
    | none => s
    | some j =>
      let ok := match Config.certKey (imageSection s.trust.running 2) cert with
        | some (n, key) => n == serial && Config.sm2Verify [] key (j.nonce ++ b64 serial ++ b64 s.sys.serial) signature
        | none => false
      if !ok then refuseJoin h serial 1 s
      else if !s.policyAdmits serial then refuseJoin h serial 4 s
      else match s.pickId serial with
        | none => refuseJoin h serial 3 s
        | some id => acceptJoin j id s
  else if s.isMember then
    match s.uplinkInForce with
    | some u => hsendLink u 1 2 hfUp (b64 serial ++ signature ++ cert) s
    | none => s
  else s
def execJoinResponseReceived (l : LaneId) (serial : Nat) (signature cert : List Byte) (s : State) :
    Host.Outcome State Fault Refusal :=
  .next (joinResponse (s.head l) serial signature cert s)

/-- The adoption conditions of R376. -/
def State.mayAdopt (s : State) : Bool :=
  s.flight.actions.isEmpty && !(s.ctxs.any fun e => e.2.state == .running || e.2.state == .stopping)
    && !(s.vps.any fun e => e.2.mode == .run || e.2.mode == .test)
/-- Whether the join needs adoption: another hive's time, or an offset above 1 ms (R376). -/
def State.mustAdopt (s : State) (h : Nat) : Bool :=
  s.hive.joinedSerial != s.hive.managerSerial || decide (256000000 < (s.link h).time.theta.natAbs)
/-- An accepted join completes once there is an exchange on the uplink and, where it needs adoption, the conditions of R376
hold: MEMBER or STANDBY is entered (Table 17-2). -/
def completeJoin (s : State) : State :=
  match s.hive.accepted, s.hive.uplink with
  | some a, some h =>
    if s.hive.state ≠ .joining ∨ !(s.link h).time.known ∨ (s.mustAdopt h ∧ !s.mayAdopt) then s
    else
      let s := if s.mustAdopt h then adoptTime a.parent (s.link h).time.theta s else s
      let mid := (s.idOf s.hive.managerSerial).getD wordNone
      let s := bumpFree (modHive (fun x => { x with
        state := if a.standby then .standby else .member
        depth := a.depth, worst := a.depth, parentId := a.parent, uplink2 := a.uplink2, switched := false, joinPending := false
        accepted := none, listenSince := none, announceSince := none, quiet := false, managerId := mid
        joinedSerial := x.managerSerial, lostAt := none, refusal := 0 }) { s with deviceId := a.id })
      let s := setValid .hive (s.link h).time.farValid (evalSource s)
      electionDone (hiveChanged (raise 0x0A02 sevI a.id a.parent a.depth s.functions s))
  | _, _ => s
/-- JOIN ACCEPT at the joining device (R439). -/
def joinAccept (h : Nat) (a : JoinAccept) (s : State) : State :=
  if s.hive.state = .joining ∧ s.hive.joinPending ∧ s.hive.uplink = some h then
    completeJoin (modHive (fun x => { x with accepted := some a }) s)
  else s
def execJoinAcceptReceived (l : LaneId) (id depth parent uplink2 : Nat) (standby : Bool) (s : State) :
    Host.Outcome State Fault Refusal :=
  .next (joinAccept (s.head l) { id := id, depth := depth, parent := parent
                                 uplink2 := if uplink2 < 96 then some uplink2 else none, standby := standby } s)
/-- JOIN REFUSE at the joining device (Table 17-3). -/
def joinRefuse (h reason : Nat) (s : State) : State :=
  if s.hive.state = .joining ∧ s.hive.joinPending ∧ s.hive.uplink = some h then
    raise 0x0A04 sevE reason 0 s.sys.serial [s.sys.trusted] (honey (hoHive 12) (modHive (fun x => { x with
      joinPending := false, accepted := none, refusal := reason
      retryAt := some (s.now + (if reason = 5 then 100000000 else 10000000000)) }) s))
  else s
def execJoinRefuseReceived (l : LaneId) (reason : Nat) (s : State) : Host.Outcome State Fault Refusal :=
  .next (joinRefuse (s.head l) reason s)
/-- JOIN_RETRY (Table 17-3). -/
def execJoinRetry (s : State) : Host.Outcome State Fault Refusal :=
  .next (match s.hive.retryAt, s.hive.uplink with
  | some t, some h =>
    let s := modHive (fun x => { x with retryAt := none }) (advTo t s)
    if s.hive.state = .joining ∧ s.admittedLinks.contains h then requestJoin h s else s
  | _, _ => s)
/-- A JOIN message toward a device without an ID passes a member of its path (R439): an ACCEPT writes the route entry, and
with ACCEPT or REFUSE the path is forgotten. -/
def passJoin (hsub serial : Nat) (body : List Byte) (s : State) : State :=
  match s.hive.joinPath.find? fun e => e.1 == serial with
  | none => s
  | some e =>
    let s := hsendLink e.2 1 hsub 0 (body ++ b64 serial) s
    let s := if hsub = 3 then addRoute (u16At body 0) (u16At body 3) e.2 none s else s
    if hsub = 3 ∨ hsub = 4 then modHive (fun x => { x with joinPath := x.joinPath.filter fun p => p.1 != serial }) s else s
/-- JOIN LEAVE: from the uplink the subtree follows (R445); at the manager the sender and its subtree are lost. -/
def joinLeave (h src : Nat) (s : State) : State :=
  if s.hive.state = .manager then
    loseMembers ((s.hive.members.filter fun m => s.below src m.id 8).map (·.id)) s
  else if s.isMember ∧ s.uplinkInForce = some h then leaveHive s
  else s

/-! ### ALIVE, uplinks and failover (R437, R445 to R448) -/

/-- ALIVE on a link (R447). -/
def sendAlive (serial h : Nat) (s : State) : State := hsendLink h 5 0 hfBroadcast (b64 serial) s
/-- ALIVE_SEND (R447). -/
def execAliveSend (t : Nat) (s : State) : Host.Outcome State Fault Refusal :=
  let s := advTo t s
  .next (if s.hive.state = .manager then s.hiveLinks.foldl (fun s h => sendAlive s.sys.serial h s) s else s)
/-- A hive link is refused: unused from now on (R433, R437). -/
def refuseLink (h reason p2 : Nat) (s : State) : State := raise 0x0A08 sevW h reason p2 [s.sys.trusted] s
/-- Change a hive link's record. -/
def modHiveLink (h : Nat) (g : HiveLink → HiveLink) (s : State) : State :=
  modHive (fun x => { x with links := x.links.put h (g (x.links.getD h {})) }) s
/-- The uplink that a device could put in force instead of a lost one (R445). -/
def State.otherUplink (s : State) : Option Nat :=
  match (if s.hive.switched then s.hive.uplink else s.hive.uplink2) with
  | some h => if s.linkUp h && s.admitted h then some h else none
  | none => none
/-- REROUTE for this device on link `h` (R445, R446). -/
def sendReroute (h : Nat) (restore : Bool) (s : State) : State :=
  hsendLink h 5 1 hfUp (b16 s.deviceId ++ b8 (b2n restore)) s
/-- A lost uplink gives way to the other one, or the device leaves the hive (R445). -/
def dropUplink (s : State) : State :=
  let s := modHive (fun x => { x with lostAt := none, state := if x.state = .standby then .member else x.state
                                      reportedReady := false }) s
  match s.otherUplink with
  | some h =>
    let back := s.hive.switched
    let s := modHive (fun x => { x with switched := !x.switched }) s
    let s := if back then s else honey (hoHive 4) s
    raise 0x0A06 sevW s.deviceId (h + 2147483648 * b2n back) 0 [s.sys.trusted] (sendReroute h back s)
  | none => leaveHive s
/-- Members whose every path from the manager is down. -/
def State.cutOff (s : State) : List Nat :=
  (s.hive.routes.filter fun r => !s.linkUp r.link && (match r.alt with | some a => !s.linkUp a | none => true)).map (·.dest)
/-- UPLINK_LOSS (R445, R447): a standby first waits for ALIVE; the manager loses the members it can no longer reach. -/
def execUplinkLoss (t : Nat) (s : State) : Host.Outcome State Fault Refusal :=
  let s := advTo t s
  .next (if s.hive.state = .manager then loseMembers s.cutOff s
  else if !s.isMember ∨ s.uplinkInForce.isSome then s
  else if s.hive.state = .standby then
    if s.hive.lostAt.isSome then s else modHive (fun x => { x with lostAt := some s.now }) s
  else dropUplink s)
/-- An ALIVE arrives on hive link `h` (R436, R437, R447): from another hive's manager it refuses the link, but on the uplink
in force it tells of a new manager (R448). -/
def alive (h serial : Nat) (s : State) : State :=
  match s.hive.state with
  | .standalone => s
  | .joining => modHive (fun x => { x with listenSince := none, announceSince := none, quiet := true, managerSerial := serial }) s
  | .manager =>
    if serial = s.sys.serial then modHiveLink h (fun k => { k with foreign := false }) s
    else if (s.hiveLink h).foreign then s
    else refuseLink h 2 serial (modHiveLink h (fun k => { k with foreign := true }) s)
  | _ =>
    let relay := fun (s : State) => (s.hiveLinks.filter (· != h)).foldl (fun s k => sendAlive serial k s) s
    if serial = s.hive.managerSerial then
      let s := modHive (fun x => { x with lastAlive := s.now }) (modHiveLink h (fun k => { k with foreign := false }) s)
      let s := if s.uplinkInForce = some h then relay s else s
      if s.hive.lostAt.isSome then dropUplink s else s
    else if s.uplinkInForce = some h then
      let old := s.hive.managerId
      let new := (s.idOf serial).getD wordNone
      let s := bumpFree (modHive (fun x => { x with managerSerial := serial, managerId := new, joinedSerial := serial, lastAlive := s.now }) s)
      relay (raise 0x0A07 sevW new old 0 s.functions s)
    else if (s.hiveLink h).foreign then s
    else refuseLink h 2 serial (modHiveLink h (fun k => { k with foreign := true }) s)
def execAliveReceived (l : LaneId) (serial : Nat) (t : Nat) (s : State) : Host.Outcome State Fault Refusal :=
  .next (alive (s.head l) serial (advTo t s))
/-- A REROUTE for device `device` arrives on link `h` (R445, R446): the device's bit follows the new path, and the message
goes on toward the manager unless the entry already points along it. -/
def reroute (h device : Nat) (restore : Bool) (s : State) : State :=
  if !s.inHive ∨ s.routeTo device = some h then s
  else
    let s := modHive (fun x => { x with
      flipped := if restore then x.flipped.filter (· != device) else x.flipped.filter (· != device) ++ [device] }) s
    let s := if s.routeTo device = some h then s
      else modHive (fun x => { x with routes := (x.routes.filter fun r => r.dest != device)
        ++ [{ dest := device, link := h, alt := none, tag := none }] }) s
    if s.hive.state = .manager then raise 0x0A06 sevW device (h + 2147483648 * b2n restore) 0 [s.sys.trusted] s
    else match s.uplinkInForce with
      | some u => hsendLink u 5 1 hfUp (b16 device ++ b8 (b2n restore)) s
      | none => s
def execRerouteReceived (l : LaneId) (device : Nat) (restore : Bool) (s : State) : Host.Outcome State Fault Refusal :=
  .next (reroute (s.head l) device restore s)
/-- UPLINK_RESTORE (R446): the uplink has been admitted and in DATA for 1 ms; faults of its lanes are resolved
(Table 21-2). -/
def execUplinkRestore (t : Nat) (s : State) : Host.Outcome State Fault Refusal :=
  let s := advTo t s
  .next (match s.hive.uplink with
  | some h =>
    if s.isMember ∧ s.hive.switched ∧ s.linkUp h ∧ s.admitted h ∧ (s.lane h).dataAt + 1000000 ≤ s.now then
      let s := sendReroute h true (modHive (fun x => { x with switched := false }) s)
      let s := (s.bondLanes h).foldl (fun s l => resolveFault (s.laneClass l) l s) s
      raise 0x0A06 sevW s.deviceId (h + 2147483648) 0 [s.sys.trusted] s
    else s
  | none => s)
/-- STANDBY_TAKEOVER (R447, R448, R384): the standby becomes manager with its mirrored table and the routes that the REROUTEs of its new subtree have
put in force. -/
def execStandbyTakeover (t : Nat) (s : State) : Host.Outcome State Fault Refusal :=
  let s := advTo t s
  .next (match s.hive.lostAt with
  | some d =>
    if s.hive.state = .standby ∧ s.hive.reportedReady ∧ d + 4000 ≤ s.now ∧ (s.hive.lastAlive ≤ d) then
      let old := s.hive.managerId
      let s := modHive (fun x => { x with ids := x.mirror.map fun p => (p.1, p.2, none) }) s
      let keep := s.hive.ids
      let s := becomeManager s.deviceId s
      let s := modHive (fun x => { x with
        ids := keep
        members := x.routes.filterMap fun r => (keep.find? fun e => e.2.1 == r.dest).map fun e =>
          { id := r.dest, serial := e.1, parent := s.deviceId, depth := r.hops, worst := r.hops, role := 1
            parent2 := none, faults := 0 } }) s
      let s := s.hiveLinks.foldl (fun s h => sendAlive s.sys.serial h s) (setWorst s)
      let s := raise 0x0A07 sevW s.deviceId old 0 s.functions s
      chooseStandby (detectFault clsManager old s)
    else s
  | none => s)
/-- STANDBY_READY (R438): on the standby the mirror is complete; on the manager its standby says so, which resolves a MANAGER
fault (Table 21-2). -/
def execStandbyReady (s : State) : Host.Outcome State Fault Refusal :=
  .next (if s.hive.state = .manager then
    if s.hive.standbyId.isSome then electionDone (modHive (fun x => { x with mirrorDone := true }) s) else s
  else if s.isMember ∧ s.managerCapable ∧ s.hive.willing ∧ s.hive.mirrorDone then
    hiveChanged (modHive (fun x => { x with state := .standby, standbyId := some s.deviceId, reportedReady := true }) s)
  else s)
/-- A MIRROR piece (R438). -/
def mirror (pieces : List (Nat × Nat)) (extOffset : Int) (extFrac extSince : Nat) (last : Bool) (s : State) : State :=
  if !s.isMember then s
  else
    let s := modHive (fun x => { x with
      mirror := (x.mirror.filter fun p => !(pieces.any fun q => q.1 == p.1)) ++ pieces
      mirrorDone := x.mirrorDone || last }) s
    if s.clock.extSince < extSince ∧ extSince ≤ s.now then
      modClock (fun c => { c with extOffset := extOffset, extFrac := extFrac, extSince := extSince, extEver := true }) s
    else s
def execMirrorReceived (pieces : List (Nat × Nat)) (extOffset extFrac extSince : Nat) (last : Bool) (s : State) :
    Host.Outcome State Fault Refusal :=
  .next (mirror pieces (toSigned 64 extOffset) extFrac extSince last s)
/-- MGMT EXT_OFFSET (R381, R452): held until EXT_SINCE, or applied at once and its lateness logged. -/
def extOffsetMsg (off : Int) (frac since : Nat) (s : State) : State :=
  if !s.isMember then s
  else
    let x : ExtChange := { since := since, offset := off, frac := frac, reason := 5 }
    if s.now < since then modClock (fun c => { c with extWaiting := c.extWaiting ++ [x] }) s
    else if s.now = since then applyExt x s
    else applyExt x (logNow 0x0C85 sevW (s.now - since) 0 0 s)
def execExtOffsetMsgReceived (offset : BitVec 64) (frac : BitVec 16) (since : Nat) (t : Nat) (s : State) :
    Host.Outcome State Fault Refusal :=
  .next (extOffsetMsg (toSigned 64 offset.toNat) frac.toNat since (advTo t s))

/-! ### Faults and records at the manager (R453) -/

/-- FAULT SUMMARY or EJECT_DENIED of a member. -/
def faultSummary (src sub : Nat) (body : List Byte) (s : State) : State :=
  if s.hive.state ≠ .manager then s
  else if sub = 1 then raise 0x0A0A sevE src (u16At body 0) (u64At body 2) [s.sys.trusted] s
  else
    raise 0x0A09 sevE src (u16At body 0 + 65536 * u16At body 2) 0 [s.sys.trusted] (modHive (fun x => { x with
      members := x.members.map fun m => if m.id = src then { m with faults := u16At body 2 } else m }) s)
def execFaultSummaryReceived (src : Nat) (sub : Nat) (body : List Byte) (s : State) : Host.Outcome State Fault Refusal :=
  .next (faultSummary src sub body s)
/-- HONEY SUMMARY of a member goes into the event log (R453, Table 22-4). -/
def honeySummary (src : Nat) (body : List Byte) (s : State) : State :=
  if s.hive.state ≠ .manager then s else logNow 0x0C86 sevI src (u32At body 8) (u16At body 0x18) s
def execHoneySummaryReceived (src : Nat) (body : List Byte) (s : State) : Host.Outcome State Fault Refusal :=
  .next (honeySummary src body s)

/-! ### Cells of other devices (R116, R449, R450) -/

/-- CELL SERVER passes this device or reaches it (R449): its cell route is recorded. -/
def cellServer (h device ctx : Nat) (s : State) : State :=
  if !s.inHive then s
  else modHive (fun x => { x with
    cellRoutes := x.cellRoutes.put device h
    cellServer := if device = s.deviceId then some ctx else x.cellServer }) s
def execCellServerReceived (arrival : LaneId) (device : Nat) (ctx : Nat) (s : State) : Host.Outcome State Fault Refusal :=
  let h := s.head arrival
  let s := cellServer h device ctx s
  .next (if s.inHive ∧ device ≠ s.deviceId then
    (hroute { htype := 4, hsub := 0, flags := 0, hops := 1, dest := device, src := 0, seq := 0, body := b8 ctx ++ zeros 7 } (some h) s).2
  else s)
/-- A fragment joins its cell; a cell whose fragments do not follow one another is gone, and `lost` says so (R116, R450). -/
def cellFragment (h c src : Nat) (pkt : List Byte) (lost : State → State) (s : State) : State :=
  let fl := byteAt pkt 1
  let seq := u32At pkt 8
  let off := u32At pkt 12
  let d := pkt.drop 16
  let have' := (s.link h).cells.find src
  let finish := fun (data : List Byte) (s : State) =>
    if bit fl 6 then
      let s := modLink h (fun k => { k with cells := k.cells.erase src }) s
      match (s.ctx c).bind (·.asm) with
      | some a => modAsm a (fun v => { v with queue := v.queue ++ [.cell c data] }) s
      | none => s
    else modLink h (fun k => { k with cells := k.cells.put src { seq := seq, bytes := data } }) s
  if bit fl 7 then finish d (if have'.isSome then lost s else s)
  else match have' with
    | some x =>
      if x.seq = seq ∧ off = x.bytes.length then finish (x.bytes ++ d) s
      else lost (modLink h (fun k => { k with cells := k.cells.erase src }) s)
    | none => s
/-- The running CELL_PASSTHRU context of a link (R116). -/
def State.passthruOn (s : State) (h : Nat) : Option Nat :=
  (s.ctxs.find? fun e => e.2.kind == .passthru && e.2.lane == h && e.2.state == .running).map (·.1)
/-- The context bound to the link of member `src`, at its cell server (R449, R450). -/
def State.serves' (s : State) (src : Nat) : Option (Nat × Nat) :=
  s.ctxs.findSome? fun e =>
    if e.2.kind = .passthru ∧ e.2.state = .running ∧ s.farMember e.2.lane = some src then some (e.1, e.2.lane) else none
/-- A forwarded CELL packet from hive link `h` (R450). -/
def forwardCell (h src : Nat) (pkt : List Byte) (s : State) : State :=
  let drop := honey (hoHive 8)
  if !s.inHive then s
  else match s.serves' src with
    | some (c, k) => cellFragment k c src pkt drop s
    | none =>
      match s.hive.cellRoutes.find src with
      | some k => if k = h then drop s else queuePacket k { ptype := ptCell, vc := byteAt pkt 0 % 16, bytes := pkt } s
      | none => drop s
def execCellForward (arrival : LaneId) (src : Nat) (packet : List Byte) (s : State) : Host.Outcome State Fault Refusal :=
  .next (forwardCell (s.head arrival) src packet s)

end Sys2Proof.Machine
end

