-- ==== Sys2Proof/Machine/PairCmds.lean ====
section
/-! DEFINITION. Commands of pairing groups (12_commands_setup.md, Table 12-15, R348 to R351; R216 to R218, R224, R230,
R241, R244, R246, R253). -/
namespace Sys2Proof.Machine

/-! ### PG_CONFIGURE -/

/-- A view word: context or stitch group (Table 12-15). -/
def viewWord (w : Nat) : Option View :=
  if bits w 8 22 ≠ 0 then none
  else if bits w 30 2 = 0 then some (.ctx (bits w 0 8))
  else if bits w 30 2 = 1 ∧ bits w 0 8 < 32 then some (.stitch (bits w 0 8))
  else none
/-- The member contexts of a view. -/
def State.viewMembers (s : State) : View → List Nat
  | .ctx c => [c]
  | .stitch g => ((s.stitches.find g).map (·.members)).getD []
/-- The member contexts of a pairing group. -/
def State.pgMembers (s : State) (p : PGroup) : List Nat :=
  s.viewMembers p.viewA ++ ((p.viewB.map s.viewMembers).getD [])
/-- Whether a member of the group is RUNNING or STOPPING. -/
def State.pgBusy (s : State) (p : PGroup) : Bool :=
  (s.pgMembers p).any fun c => match s.ctx c with | some x => x.state == .running || x.state == .stopping | none => false
/-- Whether a view exists and is the caller's. -/
def viewExists (s : State) : View → Bool
  | .ctx c => (s.ctx c).isSome
  | .stitch _ => true
/-- Whether the caller owns a view and its members. -/
def viewOwned (r : Req) (s : State) (v : View) : Bool :=
  (match v with | .ctx _ => true | .stitch g => s.owns r.fn .stitch g)
    && (s.viewMembers v).all fun c => match s.ctx c with | some x => x.owner == r.fn | none => true
/-- Offset of setting `i` of Table 8-1 in the request. -/
def pgAt (i : Nat) : Nat := 0x10 + 4 * i
/-- Group `g`'s entry of the calibration record, where it is present (R218, R529). -/
def State.pgCal (s : State) (g : Nat) : Option (List Byte) :=
  let b := sliceAt s.keeper.cal (0x2200 + 64 * g) 64
  if s.keeper.cal.isEmpty ∨ u32At b 0 = 0 then none else some b
/-- Settings the calibrated words replace (R218): the field of Table 8-1 and its offset in the entry. -/
def calWords : List (Nat × Nat) :=
  [(0, 4), (1, 8), (2, 0xC), (3, 0x10), (4, 0x14), (5, 0x18), (17, 0x1C), (18, 0x20), (19, 0x24)]
/-- Setting word `i` of the request, or of the calibration entry. -/
def pgWord (r : Req) (cal : Option (List Byte)) (i : Nat) : Nat :=
  match cal, calWords.find? fun e => e.1 == i with
  | some b, some e => u32At b e.2
  | _, _ => r.u32 (pgAt i)
/-- Whether the encoder is used as a source of speed. -/
def usesEnc (speed fallback : Nat) : Bool := speed == 1 || (speed == 0 && fallback == 0)
/-- The settings of a request; words its mode does not use keep their defaults (R336). -/
def pgSettings (w : Nat → Nat) (single : Bool) : PgSet :=
  let d : PgSet := {}
  let enc := usesEnc (w 10) (w 11)
  let two := fun (i : Nat) (v : Nat) => if single then v else w i
  { zA := w 0, zB := two 1 d.zB, u0A := toSigned 32 (w 2), u0B := if single then d.u0B else toSigned 32 (w 3)
    pitchA := toSigned 32 (w 4), pitchB := if single then d.pitchB else toSigned 32 (w 5)
    dtMin := two 6 d.dtMin, dtMax := two 7 d.dtMax, uTol := two 8 d.uTol, slack := two 9 d.slack
    speedSrc := w 10, fallback := if w 10 = 0 then w 11 else d.fallback
    enc := if enc then some (w 12) else none, encScale := if enc then w 13 else d.encScale
    vFixed := w 14, vMin := if w 10 = 2 then d.vMin else w 15, vMax := if w 10 = 2 then d.vMax else w 16
    g := w 17, a0 := toSigned 32 (w 18), a1 := toSigned 32 (w 19), latExtrap := w 20 == 1
    dflt := w 21, margin := w 22, send := w 23, steerMode := w 24 }
/-- Range checks of Table 8-1, in the table's order. -/
def pgChecks (w : Nat → Nat) (single : Bool) : List (Bool × Fail) :=
  let f := fun (i : Nat) (ok : Bool) => (ok, badField (pgAt i))
  let mag := fun (i : Nat) => inR 1000 10000000 (toSigned 32 (w i)).natAbs
  let enc := usesEnc (w 10) (w 11)
  let fast := w 10 != 2
  [f 0 (inR 1000 2000000 (w 0)), f 1 (single || inR 1000 2000000 (w 1)), f 4 (mag 4), f 5 (single || mag 5),
   f 6 (single || inR 100000 100000000 (w 6)), f 7 (single || inR (w 6) 100000000 (w 7)),
   f 8 (single || inR 0 100000 (w 8)), f 9 (single || inR 10 10000 (w 9)), f 10 (inR 0 2 (w 10)),
   f 11 (w 10 != 0 || inR 0 1 (w 11)), f 12 (!enc || decide (w 12 < 8)), f 13 (!enc || inR 1 1000000 (w 13)),
   f 14 (inR 100000 20000000 (w 14)), f 15 (!fast || decide (w 15 < w 16)), f 16 (!fast || decide (w 16 ≤ 20000000)),
   f 17 (inR 1000000 20000000 (w 17)),
   f 19 (decide (-4194304 ≤ toSigned 32 (w 19) ∧ toSigned 32 (w 19) ≤ 4194304)), f 20 (inR 0 1 (w 20)),
   f 21 (inR 0 2 (w 21)), f 22 (inR 20 10000 (w 22)), f 23 (inR 0 2 (w 23)), f 24 (inR 0 2 (w 24))]
/-- The settings marked "any" (Table 8-1) taken from `n`: what may change while a member runs. -/
def PgSet.anyOf (o n : PgSet) : PgSet := { o with dflt := n.dflt, margin := n.margin, send := n.send, steerMode := n.steerMode }
/-- A row's MARGIN condition (R246). -/
def marginOk (s : State) (margin : Nat) (row : Option Row) : Bool :=
  match row.bind (·.device) with
  | none => true
  | some d => d == s.deviceId || decide (40 + 3 * s.hops d ≤ 2 * margin)
/-- RFL and PFLAGS bits. -/
def pgRelease (r : Req) : Bool := bit (r.u32 4) 1
/-- Checks 4 and 5: the group, its views and its encoder exist and are the caller's or free (R216, R348). -/
def pgNamed (r : Req) (s : State) : Option Fail :=
  let free := s.ownerOf .pairing (r.u32 0) == ownNone || s.owns r.fn .pairing (r.u32 0)
  if pgRelease r then firstFail [named 32 0 r, (free, failSt stDenied)]
  else
    let view := fun (o : Nat) => match viewWord (r.u32 o) with | some v => viewExists s v | none => false
    let own := fun (o : Nat) => match viewWord (r.u32 o) with | some v => viewOwned r s v | none => true
    let enc := usesEnc (r.u32 (pgAt 10)) (r.u32 (pgAt 11))
    firstFail [named 32 0 r, (view 8, badField 8), (r.u32 0xC == wordNone || view 0xC, badField 0xC),
      (!enc || decide (r.u32 (pgAt 12) < 8), badField (pgAt 12)), (free, failSt stDenied),
      (own 8 && (r.u32 0xC == wordNone || own 0xC), failSt stDenied),
      (!enc || s.owns r.fn .encoder (r.u32 (pgAt 12)), failSt stDenied)]
/-- RELEASE (R348): a group without entries, none of whose members runs, is free again. -/
def pgFree (r : Req) (s : State) : Answer :=
  let g := r.u32 0
  let busy := match s.pgs.find g with | some p => s.pgBusy p | none => false
  checked [(!busy, failSt stState), (!(s.pend.any fun e => e.2.group == g), failSt stBusy)] fun _ =>
    .ok (dropOwner .pairing g { s with pgs := s.pgs.erase g }) []
/-- The group of a request, configured. -/
def pgSetup (r : Req) (s : State) : Answer :=
  let g := r.u32 0
  let va := (viewWord (r.u32 8)).getD (.ctx 0)
  let vb := if r.u32 0xC = wordNone then none else viewWord (r.u32 0xC)
  let single := vb.isNone
  let useCal := bit (r.u32 4) 0
  let cal := if useCal then s.pgCal g else none
  let w := pgWord r cal
  let set := pgSettings w single
  let old := s.pgs.find g
  let la := s.viewMembers va
  let lb := (vb.map s.viewMembers).getD []
  let l := la ++ lb
  let xs := l.filterMap s.ctx
  let others := (s.pgs.filter fun e => e.1 != g).flatMap fun e => s.pgMembers e.2
  let sameViews := match old with | some p => p.viewA == va && p.viewB == vb | none => false
  let quiet := xs.all Ctx.quiet && (match old with | some p => !s.pgBusy p | none => true)
  let stateOk := match old with
    | some p => if sameViews then p.set.anyOf set == set || !s.pgBusy p else quiet
    | none => quiet
  let rows := (old.map (·.rows)).getD [none, none]
  let ranges := (decide (r.u32 4 < 4), badField 4) :: (!useCal || cal.isSome, badField 4) :: pgChecks w single
  let kinds := fun (l : List Nat) => !l.isEmpty
    && l.all fun c => ((s.ctx c).any fun x => x.kind == .lineScan || x.kind == .areaScan) && !others.contains c
  let strict := fun (l : List Nat) => rows.head?.join.isNone || (l.filterMap s.ctx).all fun x => !x.geo.relaxed
  checked ([(stateOk || !(ranges.all (·.1)), failSt stState)] ++ ranges
      ++ [(kinds la && strict la, badField 8),
        (single || (kinds lb && strict lb && lb.all fun c => !la.contains c), badField 0xC),
        (set.speedSrc != 0 || (!single && decide (set.zB < set.zA)), badField (pgAt 10)),
        (rows.all (marginOk s set.margin), badField (pgAt 22)), (sameAsm s l, noResource 14)]) fun _ =>
    let p : PGroup := match old with
      | some p => { p with viewA := va, viewB := vb, set := set }
      | none => { viewA := va, viewB := vb, set := set }
    .ok (setOwner .pairing g r.fn { s with pgs := s.pgs.put g p }) []
def cmdPgConfigure : Cmd where
  op := 0x0501
  len := lenIs 116
  reads := false
  named := pgNamed
  run r s := if pgRelease r then pgFree r s else pgSetup r s
/-- PG_CONFIGURE (R216 to R218, R224, R348). -/
def execPgConfigure (f : Fn) (m : Mbx) (s : State) : Host.Outcome State Fault Refusal := .next (serve cmdPgConfigure f m s)

/-! ### PG_SET_ROW -/

/-- The row of a request (Table 8-2). -/
def rowOf (r : Req) : Row :=
  { device := optWord (r.u32 0x0C), first := r.u32 0x10, count := r.u32 0x14, uRow := s32At r.body 0x18, pitch := r.u32 0x1C
    dz := r.u32 0x20, lead := r.u32 0x24, pBase := r.u32 0x28, kSpan := r.u32 0x2C, widen := r.u32 0x30
    maxValves := r.u32 0x34, minGap := r.u32 0x38 }
/-- Ports that carry a valve of a row. -/
def Row.ports (w : Row) : List Nat :=
  (List.range 8).filter fun p => decide (0 < w.count ∧ w.first < 512 * (p + 1) ∧ 512 * p < w.first + w.count)
/-- Checks 4 and 5: the group is the caller's, and every port of a LOCAL row is its owner's (R230). -/
def rowNamed (r : Req) (s : State) : Option Fail :=
  let w := rowOf r
  firstFail [named 32 0 r, ownedBy r s .pairing (r.u32 0),
    (bit (r.u32 8) 0 || w.device.isSome || w.ports.all fun p => s.owns r.fn .valvePort p, failSt stDenied)]
/-- The commit of PG_SET_ROW. -/
def pgSetRowCommit (r : Req) (s : State) : State :=
  match s.pgs.find (r.u32 0) with
  | none => s
  | some p =>
    let w := if bit (r.u32 8) 0 then none else some (rowOf r)
    { s with pgs := s.pgs.put (r.u32 0) { p with rows := p.rows.set (r.u32 4) w } }
def cmdPgSetRow : Cmd where
  op := 0x0502
  len := lenIs 60
  reads := false
  named := rowNamed
  run r s :=
    match s.pgs.find (r.u32 0) with
    | none => .fail (failSt stDenied)
    | some p =>
      let alt := r.u32 4 == 1
      let del := bit (r.u32 8) 0
      let w := rowOf r
      let old := p.row (r.u32 4)
      let same := if del then old.isNone else old == some w
      let ranges := [(inR 0 1 (r.u32 4), badField 4), (inR 0 1 (r.u32 8), badField 8)]
        ++ (if del then [(alt || (p.row 1).isNone, badField 4)] else
          [(w.device.isNone || decide (r.u32 0x0C < 65536), badField 0x0C), (decide (w.first < 4096), badField 0x10),
           (inR 1 4096 w.count && decide (w.first + w.count ≤ 4096), badField 0x14), (inR 1000 50000 w.pitch, badField 0x1C),
           (if alt then inR 1 500000 w.dz else w.dz == 0, badField 0x20), (inR 0 20000 w.lead, badField 0x24),
           (inR 500 20000 w.pBase, badField 0x28), (inR 0 255 w.kSpan, badField 0x2C), (inR 0 50000 w.widen, badField 0x30),
           (inR 1 64 w.maxValves, badField 0x34), (inR 0 20000 w.minGap, badField 0x38),
           (!alt || (p.row 0).isSome, badField 4),
           (alt || ((s.pgMembers p).filterMap s.ctx).all fun x => !x.geo.relaxed, badField 0),
           (marginOk s p.set.margin (some w), badField 0x0C)])
      checked ([(same || !s.pgBusy p || !(ranges.all (·.1)), failSt stState)] ++ ranges) fun _ =>
        match w.device with
        | none => .ok (pgSetRowCommit r s) []
        | some d =>
          if del then .ok (pgSetRowCommit r s) []
          else if d = s.deviceId ∧ s.inHive then
            (if w.ports.all fun q => s.ownerOf .valvePort q == ownHive then .ok (pgSetRowCommit r s) [] else .fail (failSt stDenied))
          else askOwner r d 4 w.ports s
/-- PG_SET_ROW (R217, R230, R246, R349): a row on another device is checked there before the commit. -/
def execPgSetRow (f : Fn) (m : Mbx) (s : State) : Host.Outcome State Fault Refusal := .next (serve cmdPgSetRow f m s)

/-! ### Rules (R241, R350) -/

/-- A rule keeps Tables 8-3 and 8-4: no reserved feature, no reserved verdict, reserved fields 0. -/
def ruleOk (b : List Byte) : Bool :=
  (List.range 4).all (fun c =>
    let f := byteAt b (12 * c)
    (decide (f ≤ 7) || decide (0x10 ≤ f ∧ f ≤ 0x22)) && decide (byteAt b (12 * c + 1) < 8) && u16At b (12 * c + 2) == 0)
  && decide (byteAt b 0x30 ≤ 3 ∧ byteAt b 0x31 ≤ 15) && (List.range 14).all fun i => byteAt b (0x32 + i) == 0
/-- COUNT rules of 64 B. -/
def rulesOf (n : Nat) (b : List Byte) : List (List Byte) := (List.range n).map fun i => sliceAt b (64 * i) 64
/-- A group's rule set is replaced. -/
def setRules (g : Nat) (l : List (List Byte)) (s : State) : State :=
  match s.pgs.find g with
  | some p => { s with pgs := s.pgs.put g { p with rules := l } }
  | none => s
def cmdPgLoadRules : Cmd where
  op := 0x0503
  len := lenIs 16
  reads := false
  named r s := firstFail [named 32 0 r, ownedBy r s .pairing (r.u32 0)]
  run r s :=
    let n := r.u32 4
    let a := u64At r.body 8
    checked [(inR 0 64 n, badField 4), (a % 64 == 0, badField 8)] fun _ =>
      if n = 0 then .ok (setRules (r.u32 0) [] s) (b32 0)
      else if r.fn = ownHive then .fail (failSt stTimeout)
      else
        let s' := { s with waiting := some { fn := r.fn, mbx := r.mbx, since := s.now, what := .rules (r.u32 0) n } }
        .wait (if s.available r.fn then dma r.fn (65536 + r.mbx) (.read a (64 * n) (.rules r.mbx)) s' else s') true
/-- PG_LOAD_RULES (R241, R350): the rules are read from the caller's host memory; the hive has none. -/
def execPgLoadRules (f : Fn) (m : Mbx) (s : State) : Host.Outcome State Fault Refusal := .next (serve cmdPgLoadRules f m s)
/-- RULES_READ_COMPLETE (R241, R350): `none` for a read that failed or timed out; a set that breaks Table 8-3 fails
whole. -/
def execRulesReadComplete (f : Fn) (m : Mbx) (data : Option (List Byte)) (s : State) : Host.Outcome State Fault Refusal :=
  .next (match s.waiting with
  | none => s
  | some w =>
    if w.fn ≠ f.val ∨ w.mbx ≠ m.val then s
    else match w.what with
      | .rules g n =>
        let r := (s.mbx f.val m.val).request f.val m.val
        finishWait w (match data with
          | none => .fail (failSt stTimeout)
          | some b =>
            let l := rulesOf n b
            if l.all ruleOk then .ok (if r.checkOnly then { s with waiting := none } else setRules g l { s with waiting := none }) (b32 n)
            else .fail (badField 8)) s
      | _ => s)

/-! ### Steering (R244, R294, R314, R351) -/

/-- The target of a steering command: whether it is a context, and its ID. -/
def steerTarget (r : Req) : Bool × Nat := (bits (r.u32 0) 30 2 == 1, bits (r.u32 0) 0 8)
/-- PRIMARY and BACKUP of entry `n`. -/
def steerWords (r : Req) (n : Nat) : Nat × Nat := (r.u32 (8 + 8 * n), r.u32 (12 + 8 * n))
/-- The type of queue a target's entries name: FRAME for a FULL_FRAME context. -/
def steerKind (s : State) (t : Bool × Nat) : Nat :=
  if t.1 && (match s.ctx t.2 with | some x => x.kind == .fullFrame | none => false) then qtFrame else qtCell
/-- A queue of the wanted type exists. -/
def queueIs (s : State) (kind q : Nat) : Bool := match s.queue q with | some v => v.kind == kind | none => false
/-- Checks 4 and 5: the target exists and is the caller's; `frames` allows only FULL_FRAME contexts. -/
def steerNamed (r : Req) (s : State) : Option Fail :=
  let t := steerTarget r
  let w := r.u32 0
  firstFail [(bits w 8 22 == 0 && decide (bits w 30 2 < 2)
      && (if t.1 then (s.ctx t.2).isSome else decide (t.2 < 32)), badField 0),
    ((if t.1 then (match s.ctx t.2 with | some x => x.owner == r.fn | none => false) else s.owns r.fn .pairing t.2), failSt stDenied)]
/-- D of R314 fits the ring of queue `q`, and R_f is below 2^32. -/
def framesFit (s : State) (t : Bool × Nat) (q : Nat) : Bool :=
  match s.ctx t.2, s.queue q with
  | some x, some v =>
    let n := x.recordLen s
    decide (ceilDiv n (max 1 v.settings.bufSize) ≤ v.settings.ringSize - 1 ∧ n < 2 ^ 32)
  | _, _ => true
/-- The entry as it starts: on its backup where its primary's function is not available (R294, R351). -/
def newSteer (s : State) (w : Nat × Nat) : SteerEntry :=
  let b := optWord w.2
  { primary := w.1, backup := b, onBackup := w.1 != steerHive && b.isSome && !s.queueUp w.1 }
/-- STEER_FAILOVER for the entries that start on their backup. -/
def steerStarts (t : Bool × Nat) (l : List SteerEntry) (s : State) : State :=
  (l.zip (List.range l.length)).foldl (fun s (e : SteerEntry × Nat) =>
    if e.1.onBackup then steerEvent false t.1 t.2 e.2 e.1.primary (e.1.backup.getD 0) s else s) s
/-- PG_SET_STEERING; `framesOnly` for opcode 0x0E30: one entry, a FULL_FRAME context, a FRAME queue (Table 23-2). -/
def setSteering (framesOnly : Bool) (r : Req) (s : State) : Answer :=
  let t := steerTarget r
  let kind := steerKind s t
  let n := r.u32 4
  let ws := (List.range (min n 16)).map (steerWords r)
  let hive := ws.any fun w => w.1 == steerHive
  let entry := fun (i : Nat) (w : Nat × Nat) =>
    [((w.1 == steerHive && kind == qtCell) || queueIs s kind w.1, badField (8 + 8 * i)),
     (w.2 == wordNone || (queueIs s kind w.2
        && (match s.queue w.1, s.queue w.2 with | some a, some b => a.owner != b.owner | _, _ => true)), badField (12 + 8 * i))]
  let qs := ws.flatMap fun w => [w.1, w.2]
  checked ([(!hive || kind != qtCell || s.inHive, failSt stNotInMode), (!framesOnly || kind == qtFrame, badField 0), (inR 1 (if framesOnly then 1 else 16) n, badField 4)]
      ++ ((ws.zip (List.range ws.length)).flatMap fun (e : (Nat × Nat) × Nat) => entry e.2 e.1)
      ++ [(kind != qtFrame || qs.all (framesFit s t), noResource 12)]) fun _ =>
    let l := ws.map (newSteer s)
    let s' := if t.1 then { s with ctxSteer := s.ctxSteer.put t.2 l }
      else { s with pgs := match s.pgs.find t.2 with | some p => s.pgs.put t.2 { p with steer := l } | none => s.pgs }
    .ok (steerStarts t l s') []
/-- LENGTH of a steering request. -/
def steerLen (b : List Byte) : Bool := b.length == 8 + 8 * u32At b 4
def cmdPgSetSteering : Cmd where
  op := 0x0504
  len := steerLen
  reads := false
  named := steerNamed
  run := setSteering false
/-- PG_SET_STEERING (R244, R351). -/
def execPgSetSteering (f : Fn) (m : Mbx) (s : State) : Host.Outcome State Fault Refusal := .next (serve cmdPgSetSteering f m s)

/-! ### PG_GET_STATUS (R253) -/

def cmdPgGetStatus : Cmd where
  op := 0x0505
  len := lenIs 4
  reads := true
  named r s := firstFail [named 32 0 r, ownedBy r s .pairing (r.u32 0)]
  run r s :=
    let g := r.u32 0
    let l := ((s.pgs.find g).map (·.unpaired)).getD []
    let n := fun (v : Nat) => (l.filter fun u => u.obj.view == v).length
    let c := s.pgCounts.getD g []
    .ok (if r.clear then modHp r.fn (fun h => { h with counts := cntClear h.counts HpCnt.unknownDec.ctorIdx 1 })
          { s with pgCounts := s.pgCounts.put g (cntClear c 0 27) } else s)
      (b32 (n 0) ++ b32 (n 1) ++ b32 (s.pend.filter fun e => e.2.group == g).length ++ cntBytes c 0 27
        ++ b32 (cnt (s.hp r.fn).counts HpCnt.unknownDec.ctorIdx))
/-- PG_GET_STATUS (Table 12-15). -/
def execPgGetStatus (f : Fn) (m : Mbx) (s : State) : Host.Outcome State Fault Refusal := .next (serve cmdPgGetStatus f m s)

end Sys2Proof.Machine
end

