-- ==== Sys2Proof/Machine/Queues.lean ====
section
/-! DEFINITION. Queue commands and the steps of a queue's rings (11_queues_and_records.md; 13_commands_run.md, R355 to R357;
R98). -/
namespace Sys2Proof.Machine

/-! ### Destruction (R323) -/

/-- Steering entries that name queue `q` steer nowhere any more (R323). -/
def markGone (q : Nat) (l : List SteerEntry) : List SteerEntry :=
  l.map fun e => { e with primaryGone := e.primaryGone || e.primary == q, backupGone := e.backupGone || e.backup == some q }
/-- The device queue ID a window's target names. -/
def State.winQueue (s : State) (f target : Nat) : Nat := s.qBase f + bits target 0 16
/-- Peer windows of function `f` on queue `q` become inactive (R319). -/
def closeWindows (f q : Nat) (s : State) : State :=
  modHp f (fun h => { h with wins := h.wins.map fun e =>
    (e.1, if e.2.active ∧ s.winQueue f e.2.actTarget = q then { e.2 with active := false } else e.2) }) s
/-- A queue is removed: nothing in host memory is written (R323, R324). -/
def destroyQueue (q : Nat) (s : State) : State :=
  match s.queue q with
  | none => s
  | some v =>
    let s := endFrames q (refuseWaiting q (dmaDrop v.owner q (deadReads q s)))
    let s := closeWindows v.owner q s
    forgetPace (fun k => k == paceKey .queueNoBuffer q)
      { s with
        queues := s.queues.erase q
        pgs := s.pgs.map fun e => (e.1, { e.2 with steer := markGone q e.2.steer })
        ctxSteer := s.ctxSteer.map fun e => (e.1, markGone q e.2) }

/-! ### Shared checks -/

/-- The queue a request names exists and is the caller's. -/
def queueCheck (r : Req) (s : State) : Option Fail :=
  firstFail [((s.queue (r.u32 0)).isSome, badField 0),
    ((match s.queue (r.u32 0) with | some v => v.owner == r.fn | none => false), failSt stDenied)]
/-- Go on with the queue a request names. -/
def withQueue (r : Req) (s : State) (g : Nat → Queue → Answer) : Answer :=
  match s.queue (r.u32 0) with
  | some v => g (r.u32 0) v
  | none => .fail (badField 0)
/-- A power of two between 16 and 65,536. -/
def ringOk (n : Nat) : Bool := (List.range 13).any fun k => n == 16 * 2 ^ k

/-! ### Q_PARTITION (R300, R533) -/

/-- The counts of a request; the higher port of a merged pair gets 0. -/
def partitionOf (r : Req) (s : State) : List Nat :=
  (List.range 4).map fun p => if s.present p then r.u32 (4 * p) else 0
def qPartition (r : Req) (s : State) : Answer :=
  let l := partitionOf r s
  let total := sumList l
  let s' := modSys (fun y => { y with qPart := l }) s
  let changed := fun (p : Nat) => s'.qBase p != s.qBase p || s'.qCount p != s.qCount p
  let busy := s.queues.any fun e => changed e.2.owner
  let ok := decide (total ≤ if s.sys.straps.compat then 4 else 64)
  checked [(!busy || !ok, failSt stState), (ok, badField 0)] fun _ => .ok s' []
def cmdQPartition : Cmd where
  op := 0x0601
  len := lenIs 16
  reads := false
  named r s := firstFail [needTrusted r s]
  run := qPartition
/-- Q_PARTITION (R300). -/
def execQPartition (f : Fn) (m : Mbx) (s : State) : Host.Outcome State Fault Refusal := .next (serve cmdQPartition f m s)

/-! ### Q_CREATE (R301, R356) -/

/-- The lowest free aperture page of a function (R301). -/
def State.freePage (s : State) (f : Nat) : Option Nat :=
  let used := s.queues.filterMap fun e => if e.2.owner = f then e.2.settings.aperture else none
  (List.range (used.length + 1)).find? fun p => decide (p < 4096) && !used.contains p
/-- Whether a queue of type `k` names a lane: SOURCE always, TUNNEL_IN but for ALL. -/
def namesLane (k lane : Nat) : Bool := k == qtSource || (k == qtTunnelIn && lane != wordNone)
def qCreateNamed (r : Req) (s : State) : Option Fail :=
  let l := r.u32 0x24
  if namesLane (r.u32 4) l then
    firstFail [(decide (l < 96), badField 0x24),
      (if r.u32 4 = qtSource then (s.bondLanes l).all (s.owns r.fn .lane) else s.owns r.fn .lane l, failSt stDenied)]
  else none
def qCreate (compat : Bool) (r : Req) (s : State) : Answer :=
  let k := r.u32 4
  let l := r.u32 0x24
  let q := s.qBase r.fn + r.u32 0
  let ring := k != qtEvent
  let ap := k == qtDecision && r.u32 0x2C == 1
  let page := if ap then s.freePage r.fn else none
  let twin := s.queues.any fun e => e.2.kind == k && e.2.settings.lane == l
  checked [(k != qtSource || ((s.lane l).cfg.mode == .camTx && (s.lane l).cfg.txSource == 0), failSt stNotInMode),
      (k != qtTunnelIn || l == wordNone || (s.lane l).cfg.mode == .ethCam, failSt stNotInMode),
      (decide (r.fn < 4 ∧ r.u32 0 < s.qCount r.fn) && (s.queue q).isNone, badField 0),
      (if compat then k == 2 || k == 4 || k == 5 || k == 6 else inR 1 7 k, badField 4),
      (!ring || u64At r.body 8 % 64 == 0, badField 8), (!ring || ringOk (r.u32 0x10), badField 0x10),
      (ringOk (r.u32 0x14) && (!ring || decide (r.u32 0x10 ≤ r.u32 0x14)), badField 0x14), (u64At r.body 0x18 % 64 == 0, badField 0x18),
      (k != qtFrame || (inR 4096 16777216 (r.u32 0x20) && r.u32 0x20 % 4096 == 0), badField 0x20),
      (k != qtSource || s.head l == l, badField 0x24), (!(k == qtTunnelIn || k == qtSource) || !twin, badField 0x24),
      (k != qtEvent || decide (r.u32 0x28 < 65536), badField 0x28), (k != qtDecision || inR 0 1 (r.u32 0x2C), badField 0x2C),
      (u64At r.body 0x30 % 4 == 0, badField 0x30), (inR 1 1024 (r.u32 0x3C), badField 0x3C), (inR 0 1000 (r.u32 0x40), badField 0x40),
      (!ap || page.isSome, noResource 15)] fun _ =>
    let set : QSettings :=
      { ringAddr := if ring then u64At r.body 8 else 0, ringSize := if ring then r.u32 0x10 else 0
        cplAddr := u64At r.body 0x18, cplSize := r.u32 0x14, bufSize := if k = qtFrame then r.u32 0x20 else 0
        lane := l, subjects := r.u32 0x28, aperture := page, notifyAddr := u64At r.body 0x30, notifyData := r.u32 0x38
        coalCount := r.u32 0x3C, coalTime := r.u32 0x40 }
    .ok (setQueue q { kind := k, owner := r.fn, settings := set } (wakeBank (queueBank (q / 16384)) s)) (b32 q ++ b32 (page.getD wordNone))
def cmdQCreate : Cmd where
  op := 0x0602
  len := lenIs 68
  reads := false
  named := qCreateNamed
  run := qCreate false
/-- Q_CREATE (R301, R356). -/
def execQCreate (f : Fn) (m : Mbx) (s : State) : Host.Outcome State Fault Refusal := .next (serve cmdQCreate f m s)

/-! ### Q_ENABLE, Q_DISABLE, Q_RESET, Q_DESTROY (R302, R322, R323, R357, R540) -/

/-- The doorbell values recorded act (R357), tail first. -/
def actRecorded (q : Nat) (s : State) : State :=
  match s.queue q with
  | none => s
  | some v =>
    let s := if v.kind = qtEvent then s else actTail q v.recTail s
    match s.queue q with
    | some v => if v.state = .enabled then actHead q v.recHead s else s
    | none => s
def qEnable (r : Req) (s : State) : Answer := withQueue r s fun q v =>
  checked [(v.state == .disabled, failSt stState)] fun _ => .ok (actRecorded q (setQueue q { v with state := .enabled } s)) []
def cmdQEnable : Cmd where
  op := 0x0603
  len := lenIs 4
  reads := false
  named := queueCheck
  run := qEnable
/-- Q_ENABLE (R357). -/
def execQEnable (f : Fn) (m : Mbx) (s : State) : Host.Outcome State Fault Refusal := .next (serve cmdQEnable f m s)

/-- The frames held for a queue have their completion entries written, oldest first of each context (R540); one that
finds the completion ring full is lost. -/
def releaseHeld (q : Nat) (s : State) : State :=
  s.ctxs.foldl (fun s e =>
    (e.2.held.filter fun h => h.queue == q).foldl (fun s h =>
      if (match s.queue q with | some v => v.cplFull | none => true) then countCplFull q s else complete q h.slots h.entry s)
      (modCtx e.1 (fun x => { x with held := x.held.filter fun h => h.queue != q }) s)) s
def qDisable (r : Req) (s : State) : Answer := withQueue r s fun q v =>
  checked [(v.state == .enabled, failSt stState)] fun _ =>
    .started (releaseHeld q (refuseWaiting q (setQueue q { v with state := .draining } s))) []
def cmdQDisable : Cmd where
  op := 0x0604
  len := lenIs 4
  reads := false
  named := queueCheck
  run := qDisable
/-- Q_DISABLE (R302): the drain begins. -/
def execQDisable (f : Fn) (m : Mbx) (s : State) : Host.Outcome State Fault Refusal := .next (serve cmdQDisable f m s)

/-- Whether nothing of a draining queue's is under way any more (R302): reads, writes that wait for a translation,
frame records that can still be written. -/
def State.drained (s : State) (q : Nat) (v : Queue) : Bool :=
  let h := s.hp v.owner
  !(h.reads.any fun r => match r.why with | .ring p _ _ => p == q | .buffer p _ => p == q | _ => false)
    && (h.held.getD q []).isEmpty
    && (v.cplFull || !(s.ctxs.any fun e => e.2.recs.any fun r => r.phase == .writing && r.queue == q))
/-- A queue stops as it stands: what was fetched and not used is given up, so that HEAD names the first entry unused. -/
def Queue.stopped (v : Queue) : Queue :=
  { v with state := .disabled, fetch := v.headNow, inUse := [], fetched := [], arrived := [], buffers := [], flight := 0
           cplWait := false }
/-- Q_DISABLED (R302): the drain has ended. -/
def execQDisabled (q : QId) (s : State) : Host.Outcome State Fault Refusal :=
  .next (match s.queue q with
  | none => s
  | some v =>
    if v.state = .draining ∧ s.drained q v then
      let s := notify q (endFrames q s)
      let head := v.headNow
      raise 0x0602 sevI q head 0 [v.owner] (modQueue q Queue.stopped s)
    else s)

/-- A queue as Q_RESET leaves it (R322): its settings and counters stay. -/
def Queue.cleared (v : Queue) : Queue :=
  { kind := v.kind, owner := v.owner, settings := v.applyNotify.settings, lost := v.lost, seq := v.seq, counts := v.counts }
def qReset (r : Req) (s : State) : Answer := withQueue r s fun q v =>
  checked [(v.state == .error || v.state == .disabled, failSt stState)] fun _ =>
    .ok (setQueue q v.cleared (endFrames q (dmaDrop v.owner q (deadReads q s)))) []
def cmdQReset : Cmd where
  op := 0x0605
  len := lenIs 4
  reads := false
  named := queueCheck
  run := qReset
/-- Q_RESET (R322). -/
def execQReset (f : Fn) (m : Mbx) (s : State) : Host.Outcome State Fault Refusal := .next (serve cmdQReset f m s)

def qDestroy (r : Req) (s : State) : Answer := withQueue r s fun q v =>
  checked [(v.state == .error || v.state == .disabled, failSt stState)] fun _ => .ok (destroyQueue q s) (b32 v.headNow)
def cmdQDestroy : Cmd where
  op := 0x0606
  len := lenIs 4
  reads := false
  named := queueCheck
  run := qDestroy
/-- Q_DESTROY (R323). -/
def execQDestroy (f : Fn) (m : Mbx) (s : State) : Host.Outcome State Fault Refusal := .next (serve cmdQDestroy f m s)

/-! ### Q_SET_NOTIFY, Q_GET_STATUS -/

def qSetNotify (r : Req) (s : State) : Answer := withQueue r s fun q v =>
  checked [(r.u32 4 == 0, badField 4), (u64At r.body 8 % 4 == 0, badField 8), (inR 1 1024 (r.u32 0x14), badField 0x14),
      (inR 0 1000 (r.u32 0x18), badField 0x18)] fun _ =>
    let v := { v with nextNotify := some (u64At r.body 8, r.u32 0x10, r.u32 0x14, r.u32 0x18) }
    .ok (setQueue q (if v.unnotified = 0 then v.applyNotify else v) s) []
def cmdQSetNotify : Cmd where
  op := 0x0607
  len := lenIs 28
  reads := false
  named := queueCheck
  run := qSetNotify
/-- Q_SET_NOTIFY (R301): from the next entry written. -/
def execQSetNotify (f : Fn) (m : Mbx) (s : State) : Host.Outcome State Fault Refusal := .next (serve cmdQSetNotify f m s)

/-- State codes of Table 11-3. -/
def qStateCode : QState → Nat
  | .disabled => 1
  | .enabled => 2
  | .draining => 3
  | .error => 4
def qGetStatus (r : Req) (s : State) : Answer := withQueue r s fun q v =>
  .ok (if r.clear then setQueue q { v with counts := cntClear v.counts 0 7 } s else s)
    (b8 (qStateCode v.state) ++ b8 v.reason ++ b8 v.kind ++ b8 0 ++ b32 v.headNow ++ b32 v.tail
      ++ b32 (v.cplTail + 65536 * b2n v.phase) ++ b32 v.cplHead ++ cntBytes v.counts 0 7)
def cmdQGetStatus : Cmd where
  op := 0x0608
  len := lenIs 4
  reads := true
  named := queueCheck
  run := qGetStatus
/-- Q_GET_STATUS (Table 13-4). -/
def execQGetStatus (f : Fn) (m : Mbx) (s : State) : Host.Outcome State Fault Refusal := .next (serve cmdQGetStatus f m s)

/-! ### Steps of a queue -/

/-- The read of a TUNNEL_OUT or SOURCE buffer; one of a length out of range is not read (R308). -/
def readBuffer (q : Nat) (v : Queue) (e : Nat × List Byte) (s : State) : State :=
  if (v.kind = qtTunnelOut ∨ v.kind = qtSource) ∧ descOk v e.2 then
    dma v.owner q (.read (descAddr e.2) (descLen e.2) (.buffer q e.1)) s
  else s
/-- DESCRIPTOR_FETCH_COMPLETE (R303, R308): the entries fetched are checked and put in use. -/
def execDescriptorFetchComplete (q : QId) (s : State) : Host.Outcome State Fault Refusal :=
  .next (match s.queue q with
  | none => s
  | some v =>
    if v.state ≠ .enabled ∨ v.arrived.isEmpty then s
    else if (v.kind = qtCell ∨ v.kind = qtFrame ∨ v.kind = qtTunnelIn) ∧ !(v.arrived.all fun e => descOk v e.2) then queueError q 4 s
    else
      let s := setQueue q { v with fetched := v.fetched ++ v.arrived, arrived := [] } s
      fetchMore q (v.arrived.foldl (fun s e => readBuffer q v e s) s))
/-- NOTIFY_COAL_TIMEOUT (R307). -/
def execNotifyCoalTimeout (q : QId) (s : State) : Host.Outcome State Fault Refusal :=
  .next (match s.queue q with
  | none => s
  | some v =>
    if v.unnotified = 0 ∨ v.state = .error ∨ !s.available v.owner then s
    else notify q (advTo (v.unnotifiedSince + 1000 * v.settings.coalTime) s))

/-- A TUNNEL_OUT or SOURCE entry has its completion. -/
def finishEntry (q slot : Nat) (desc : List Byte) (status len lane time : Nat) (s : State) : State :=
  let s := modQueue q (fun v => { v with buffers := v.buffers.filter fun b => b.1 != slot }) (takeDesc q s).2
  fetchMore q (complete q slot (cplBytes slot status 1 (descTag desc) len lane 0 time) s)
/-- The entry at the front of a TUNNEL_OUT or SOURCE queue that may go now, with its buffer where its length is in
range: none while something is still to come. -/
def frontEntry (kind : Nat) (s : State) (v : Queue) : Option (Nat × List Byte × Option (List Byte)) :=
  match v.fetched with
  | [] => none
  | (slot, desc) :: _ =>
    if v.kind ≠ kind ∨ v.state ≠ .enabled ∨ !s.available v.owner then none
    else if !descOk v desc then some (slot, desc, none)
    else (v.buffers.find? fun b => b.1 == slot).map fun b => (slot, desc, some b.2)
/-- TUNNEL_OUT_SEND (R98, R308): the frame leaves unchanged with its FCS, or the entry completes with an error. -/
def execTunnelOutSend (q : QId) (t : Nat) (s : State) : Host.Outcome State Fault Refusal :=
  let s := advTo t s
  .next (match s.queue q with
  | none => s
  | some v =>
    match frontEntry qtTunnelOut s v with
    | none => s
    | some (slot, desc, b) =>
      let l := bits (descCtrl desc) 0 7
      if v.cplFull then noteWait q s
      else match b with
        | none => finishEntry q slot desc cstBadLength 0 l 0 s
        | some d =>
          if 96 ≤ l then finishEntry q slot desc cstBadLength 0 l 0 s
          else if s.ownerOf .lane l ≠ v.owner then finishEntry q slot desc cstDenied 0 l 0 s
          else if (s.lane l).cfg.mode ≠ .ethCam ∨ !(s.eth l).linkUp then finishEntry q slot desc cstLinkDown 0 l 0 s
          else finishEntry q slot desc cstOk d.length l s.now (emit (.ethFrame l (d ++ b32 (fcs32 d))) s))
/-- Whether a SOURCE buffer keeps R309. -/
def sourceOk (d : List Byte) : Bool :=
  (byteAt d 0 / 16 == ptLine || byteAt d 0 / 16 == ptFmark) && byteAt d 0 % 16 == 0 && u16At d 2 + 16 == d.length
    && decide (u16At d 2 ≤ 16384)
/-- SOURCE_PACKET_SEND (R309): the packet at the front leaves, a timed LINE not before its time. -/
def execSourcePacketSend (q : QId) (t : Nat) (s : State) : Host.Outcome State Fault Refusal :=
  let s := advTo t s
  .next (match s.queue q with
  | none => s
  | some v =>
    match frontEntry qtSource s v with
    | none => s
    | some (slot, desc, b) =>
      let l := v.settings.lane
      if v.cplFull then noteWait q s
      else match b with
        | none => finishEntry q slot desc cstBadLength 0 l 0 s
        | some d =>
          let timed := bit (descCtrl desc) 15 && byteAt d 0 / 16 == ptLine
          let due := extTime 32 s.now (u32At d 12)
          if !sourceOk d then finishEntry q slot desc cstBadPacket 0 l 0 s
          else if !s.linkUp l then finishEntry q slot desc cstLinkDown 0 l 0 s
          else if timed && decide (s.now < due) then s
          else finishEntry q slot desc (if timed && decide (due < s.now) then cstLate else cstOk) d.length l s.now (sendPacket l d s))

/-! ### Doorbells (R276, R306) and the decision aperture (R317) -/

/-- The queue at a function's local index, where it is the function's. -/
def State.localQueue (s : State) (f idx : Nat) : Option Nat :=
  let q := s.qBase f + idx
  if idx < s.qCount f then
    match s.queue q with
    | some v => if v.owner = f then some q else none
    | none => none
  else none
/-- A doorbell write that reaches no queue of the function is counted (R276). -/
def doorbell (f idx : Nat) (g : Nat → State → State) (s : State) : State :=
  match s.localQueue f idx with
  | some q => g q s
  | none => countHp f .barDrop s
/-- QDB_TAIL_WRITE (R306): nothing where the function does not decode (R290, R462). -/
def execQdbTailWrite (f : Fn) (idx : Fin 65536) (lo hi : Option Byte) (s : State) : Host.Outcome State Fault Refusal :=
  .next (if s.decodes f then doorbell f idx (fun q => tailWrite q lo hi) (tlp f s) else barLost f s)
/-- QDB_CPL_HEAD_WRITE (R306). -/
def execQdbCplHeadWrite (f : Fn) (idx : Fin 65536) (lo hi : Option Byte) (s : State) : Host.Outcome State Fault Refusal :=
  .next (if s.decodes f then doorbell f idx (fun q => headWrite q lo hi) (tlp f s) else barLost f s)
/-- Decision records bind in address order; those for other devices are forwarded (R316, R317). -/
def bindAll (sender : Nat) : Nat → List Byte → State → State
  | 0, _, s => s
  | n + 1, d, s => bindAll sender n (d.drop 16) (bindDecision sender (d.take 16) s).2
/-- A write of `len` bytes at `off` has the shape of R317. -/
def apertureShape (off len : Nat) : Bool := off % 16 == 0 && decide (16 ≤ len ∧ len ≤ 512) && len % 16 == 0
/-- A write of decision records for queue `q` (R317). -/
def apertureTo (q : Nat) (d : List Byte) (s : State) : State :=
  match s.queue q with
  | none => s
  | some v => if v.state = .enabled then bindAll v.owner (d.length / 16) d s else countQ q .decDrop s
/-- A write that crosses a 4 KiB boundary is a Malformed TLP (R317). -/
def crossesPage (off len : Nat) : Bool := off / 4096 != (off + len - 1) / 4096
/-- A write into the decision aperture: a page belongs to the DECISION queue that was given it (R317). -/
def apertureWrite (f off : Nat) (data : List Byte) (s : State) : State :=
  if s.sys.straps.compat ∨ 0x1000000 ≤ off then s
  else if !s.decodes f then barLost f s
  else if crossesPage off data.length then logAer f .malformedTlp s
  else
    let s := tlp f s
    if !apertureShape off data.length then countHp f .barDrop s
    else match s.queues.find? fun e => e.2.owner == f && e.2.settings.aperture == some (off / 4096) with
      | some e => apertureTo e.1 data s
      | none => countHp f .barDrop s
/-- DECISION_APERTURE_WRITE (R317). -/
def execDecisionApertureWrite (f : Fn) (off : Nat) (data : List Byte) (t : Nat) (s : State) :
    Host.Outcome State Fault Refusal :=
  .next (apertureWrite f off data (advTo t s))

end Sys2Proof.Machine
end

