-- ==== Sys2Proof/Machine/HostPorts.lean ====
section
/-! DEFINITION. The host ports: availability and failover, resets of a function, configuration space, translation, read
completions (10_host_port.md; 18_resets_and_bring_up.md, R461 to R463; 21_single_fault_guarantee.md). -/
namespace Sys2Proof.Machine

/-! ### Failover (R293, R294) -/

/-- Switch the entries of a table whose primary queue lies in function `f` to their backups. -/
def switchTable (f : Nat) (isCtx : Bool) (i : Nat) (l : List SteerEntry) (s : State) : State :=
  (l.zip (List.range l.length)).foldl (fun s (e : SteerEntry × Nat) =>
    match e.1.backup with
    | some b =>
      if !e.1.onBackup && e.1.primary != steerHive && !e.1.primaryGone && s.fnOf e.1.primary == some f then
        steerEvent false isCtx i e.2 e.1.primary b
          (modSteer isCtx i (fun l => l.modify e.2 fun x => { x with onBackup := true }) s)
      else s
    | none => s) s
/-- The entry by which a cell in brood was steered. -/
def State.entryFor (s : State) (x : BroodCell) : Option SteerEntry :=
  match x.group with
  | some g => (s.steerOf false g)[x.entry]?
  | none => (s.steerOf true x.ctx)[x.entry]?
/-- The decider of an object's pending entry becomes the owner of the queue its cells go to (R245, R294). -/
def redecide (id owner : Nat) (s : State) : State :=
  { s with pend := s.pend.map fun e => (e.1, if e.2.ids.contains id then { e.2 with decider := some owner } else e.2) }
/-- A cell that waited at a queue of an unavailable function: it goes to its entry's backup, or is lost (R294). -/
def moveCell (f : Nat) (w : WaitCell) (s : State) : State :=
  match (s.asm w.asm).cells.find w.cell with
  | none => s
  | some x =>
    match (s.entryFor x).bind fun e => if e.onBackup then e.queue else none with
    | some q => match s.queue q with
      | some v => if v.owner = f then portDownCell f w.asm w.cell s else cellToQueue q w.asm w.cell (redecide x.id v.owner s)
      | none => portDownCell f w.asm w.cell s
    | none => portDownCell f w.asm w.cell s
/-- Frame records part-written into a queue stay part-written and count (R294). -/
def cutFrames (f q : Nat) (s : State) : State :=
  let n := sumList (s.ctxs.map fun e => (e.2.recs.filter fun r => r.phase == .writing && r.queue == q).length)
  countHpN f .cellPortDown n (endFrames q s)
/-- Function `f` has become unavailable: entries switch, the cells that wait at its queues move or are lost. -/
def failover (f : Nat) (s : State) : State :=
  let s := s.pgs.foldl (fun s e => switchTable f false e.1 e.2.steer s) s
  let s := s.ctxSteer.foldl (fun s e => switchTable f true e.1 e.2 s) s
  (s.queues.filter fun e => e.2.owner == f).foldl (fun s e =>
    let s := e.2.waiting.foldl (fun s w => moveCell f w s) (modQueue e.1 (fun v => { v with waiting := [] }) s)
    cutFrames f e.1 s) s
/-- A change of function `f`'s port: what follows from its becoming available or unavailable (R293 to R295, R515). -/
def withAvail (f : Nat) (g : State → State) (s : State) : State :=
  let t := g s
  if s.available f ∧ !t.available f then
    faultOk clsHost f none (failover f (modHp f (fun h => { h with availSince := none }) t))
  else if !s.available f ∧ t.available f then
    let t := dmaFlush f (faultOk clsHost f (some t.now) (modHp f (fun h => { h with availSince := some t.now }) t))
    (t.queues.filter fun e => e.2.owner == f).foldl (fun s e => fetchMore e.1 s) t
  else t
/-- STEER_RESTORE (R295): the primary queue is enabled and its function has been available for 1 ms. -/
def execSteerRestore (isCtx : Bool) (id : Fin 256) (entry : Fin 16) (s : State) : Host.Outcome State Fault Refusal :=
  .next (match (s.steerOf isCtx id)[entry.val]? with
  | none => s
  | some e =>
    match s.queue e.primary, e.backup with
    | some v, some b =>
      match (s.hp v.owner).availSince with
      | some a =>
        if e.onBackup ∧ !e.primaryGone ∧ v.state = .enabled ∧ s.available v.owner then
          let s := advTo (a + 1000000) s
          steerEvent true isCtx id entry b e.primary
            (modSteer isCtx id (fun l => l.modify entry.val fun x => { x with onBackup := false }) s)
        else s
      | none => s
    | _, _ => s)

/-! ### Port reset and FLR (R461 to R463, Table 18-2) -/

/-- Writes among held requests. -/
def DmaOp.isWrite : DmaOp → Bool
  | .write _ _ => true
  | .read _ _ _ => false
/-- Every request not yet sent is given up: writes are counted, outstanding reads end, and their tags are quarantined
(R296, R462, R463). -/
def dropDma (f : Nat) (s : State) : State :=
  let h := s.hp f
  let n := sumList (h.held.map fun e => (e.2.filter DmaOp.isWrite).length)
  let until' := s.now + 2 * h.cplTimeout
  countHpN f .dmaWriteDrop n (modHp f (fun h => { h with
    held := [], reads := [], quarantine := h.reads.foldl (fun q r => q.put r.tag (until', false)) h.quarantine }) s)
/-- The keeper goes on to no request of function `f` any more: one that has begun has not committed (R331, R462). -/
def dropRequests (f : Nat) (s : State) : State :=
  nextRequest { s with
    goOrder := s.goOrder.filter fun k => k / 8 != f
    waiting := match s.waiting with
      | some w => if w.fn = f then none else some w
      | none => none }
/-- Configuration space after a reset of the function: PME_En and PME_Status are sticky (the Base specification). -/
def cfgAfterReset (h : HostPort) : Table Byte :=
  let b := h.cfgByte 0x45 &&& 0x81
  if b = 0 then [] else [(0x45, b)]
/-- The firmware writes of function `f` that have not come to COMMIT are discarded, with what of them waits (Table 18-2,
R355). -/
def dropPushes (f : Nat) (s : State) : State :=
  let gone := fun (slot : Nat) => match s.trust.writing.find slot with
    | some w => w.fn == f && !w.committed
    | none => false
  { modSys (fun y => { y with fwWaiting := y.fwWaiting.filter fun p => !gone p.1 }) s with
    trust := { s.trust with writing := s.trust.writing.filter fun e => !gone e.1 } }
/-- A reset of function `f` begins. -/
def startReset (f : Nat) (s : State) : State :=
  let s := dropRequests f (dropDma f s)
  let s := dropPushes f { s with
    staging := s.staging.filter fun x => x.ctx != 256 + f && (s.ctx x.ctx).all fun c => c.owner != f }
  intxUpdate f (modHp f (fun h => { h with
    flr := true, cfg := cfgAfterReset h, intxStatus := 0, intxMask := 0x1FFF, ats := []
    counts := cntClear h.counts HpCnt.queueErr.ctorIdx 4 }) s)
/-- FLR (R455, R462): ignored while PERSTp_N is asserted (R467). -/
def startFlr (f : Nat) (s : State) : State :=
  if s.present f ∧ !(s.hp f).perst then withAvail f (startReset f) s else s
def execFlr (f : Fn) (t : Nat) (s : State) : Host.Outcome State Fault Refusal := .next (startFlr f (advTo t s))
/-- A mailbox after a reset or a restart: a request under way has ended without a response, and MBX_GEN has risen once
(R330, R332, R462). -/
def Mailbox.ended (b : Mailbox) : Mailbox :=
  let b := { b with gen := (b.gen + 1) % 256, abort := false }
  if b.state = .busy then { b with state := .idle, aborted := true } else b
/-- The mailboxes of function `f` end what they hold. -/
def endMailboxes (f : Nat) (s : State) : State := (List.range 8).foldl (fun s m => modMbx f m Mailbox.ended s) s
/-- FLR_COMPLETE (R462, R461): the reset of the function is complete. -/
def execFlrComplete (f : Fn) (t : Nat) (s : State) : Host.Outcome State Fault Refusal :=
  let s := advTo t s
  .next (if (s.hp f).flr ∧ s.sys.ready then
    let s := (s.queues.filter fun e => e.2.owner == f.val).foldl (fun s e => destroyQueue e.1 s) s
    let s := endMailboxes f (modHp f (fun h => { h with wins := [] }) s)
    withAvail f (modHp f fun h => { h with flr := false }) (rdRewrite f s)
  else s)
/-- The link of function `f` goes down: counted, reported, a fault of the host link (R293, R296, Table 21-1). -/
def linkFails (f : Nat) (s : State) : State :=
  let s := honey (hoPort f 0) (countHp f .linkDown s)
  withAvail f (fun s => startReset f (modHp f (fun h => { h with up := false, pm := .l0 }) s))
    (detectFault clsHost f (raise 0x0001 sevE f 0 0 (s.linkTo f) s))
/-- HOST_LINK_DOWN (R293, R296). -/
def execHostLinkDown (f : Fn) (t : Nat) (s : State) : Host.Outcome State Fault Refusal :=
  let s := advTo t s
  .next (if s.present f ∧ (s.hp f).up then linkFails f s else s)
/-- Width and rate (in 100 MT/s) the port trains to at most. -/
def State.maxWidth (s : State) (f : Nat) : Nat := if s.merged f then 16 else 8
/-- HOST_LINK_UP (R268, R271, R298). -/
def execHostLinkUp (f : Fn) (width rate100 : Nat) (t : Nat) (s : State) : Host.Outcome State Fault Refusal :=
  let s := advTo t s
  let h := s.hp f
  .next (if s.present f ∧ !h.up ∧ !h.perst ∧ s.sys.stage ≠ .held ∧ s.sys.stage ≠ .rom then
    let s := withAvail f (modHp f fun h => { h with up := true, width := width, rate100 := rate100, pm := .l0, lastTlp := s.now }) s
    let low := decide (width < s.maxWidth f ∨ rate100 < 640)
    let s := if low then
        raise 0x0003 sevW f (width % 65536 + 65536 * (rate100 % 65536)) 0 (s.linkTo f) (honey (hoPort f 4) (countHp f .downtrain s))
      else s
    raise 0x0002 sevI f 0 0 (s.linkTo f) s
  else s)
/-- PERST_ASSERT (R461, R290): the function is in D3cold. -/
def execPerstAssert (f : Fn) (t : Nat) (s : State) : Host.Outcome State Fault Refusal :=
  let s := advTo t s
  let h := s.hp f
  .next (if s.present f ∧ !h.perst then
    let s := withAvail f (modHp f fun h => { h with perst := true }) s
    if h.up then linkFails f s else startReset f s
  else s)
/-- A host port begins to train where it may (R458). -/
def beginTraining (f : Nat) (s : State) : State :=
  let h := s.hp f
  if s.present f ∧ !h.perst ∧ !h.up then emit (.training f) s else s
/-- WAKEp_N is released (R291). -/
def endWake (f : Nat) (s : State) : State :=
  if (s.hp f).wake then emit (.wake f false) (modHp f (fun h => { h with wake := false }) s) else s
/-- PERST_DEASSERT (R291, R458). -/
def execPerstDeassert (f : Fn) (t : Nat) (s : State) : Host.Outcome State Fault Refusal :=
  let s := advTo t s
  .next (if s.present f ∧ (s.hp f).perst then
    let s := endWake f (modHp f (fun h => { h with perst := false }) s)
    if s.sys.stage = .held ∨ s.sys.stage = .rom then s else beginTraining f s
  else s)

/-! ### Configuration writes (R272, R273, R285, R289 to R291) -/

/-- The bits of a configuration byte that a write changes. The places inside the standard capabilities are those of the
Base specification (PRESUMED, log entry 4). -/
def cfgMask (compat : Bool) (off : Nat) : Nat :=
  if off = 0x04 then 0x06 else if off = 0x05 then 0x05
  else if off = 0x0C ∨ off = 0x3C then 0xFF
  else if off = 0x12 then 0xF0 else if 0x13 ≤ off ∧ off < 0x18 then 0xFF
  else if off = 0x1A then 0xC0 else if 0x1B ≤ off ∧ off < 0x20 then 0xFF
  else if off = 0x23 then (if compat then 0 else 0xFC)
  else if 0x24 ≤ off ∧ off < 0x28 then (if compat then 0 else 0xFF)
  else if off = 0x30 then 0x01 else if off = 0x32 then 0xF0 else if off = 0x33 then 0xFF
  else if off = 0x45 then 0x01
  else if off = 0x78 then 0xEF else if off = 0x79 then 0x71
  else if off = 0x80 then 0xCB else if off = 0x81 then 0x01
  else if off = 0x98 then 0x0F else if off = 0x99 then 0x14
  else if off = 0xA0 then 0x1F else if off = 0xA1 then 0x0F
  else if (0x108 ≤ off ∧ off < 0x110) ∨ (0x114 ≤ off ∧ off < 0x118) then 0xFF
  else if 0x278 ≤ off ∧ off < 0x27C then 0xFF
  else if off = 0x286 then 0x1F else if off = 0x287 then 0x80
  else if 0x28C ≤ off ∧ off < 0x290 then 0xFF
  else if 0x298 ≤ off ∧ off < 0x2A0 then 0xFF
  else 0
/-- The bits of a configuration byte that a 1 written clears. -/
def cfgW1c (off : Nat) : Nat :=
  if off = 0x45 then 0x80
  else if (0x104 ≤ off ∧ off < 0x108) ∨ (0x110 ≤ off ∧ off < 0x114) then 0xFF else 0
/-- One enabled byte of a configuration write. PowerState takes D0 and D3hot only. -/
def cfgWriteByte (compat : Bool) (off : Nat) (v : Byte) (h : HostPort) : HostPort :=
  let old := (h.cfgByte off).toNat
  let m := cfgMask compat off
  let n := (old &&& (0xFF ^^^ m)) ||| (v.toNat &&& m)
  let n := n &&& (0xFF ^^^ (v.toNat &&& cfgW1c off))
  let n := if off = 0x44 then (if v.toNat % 4 = 0 ∨ v.toNat % 4 = 3 then v.toNat % 4 else old) else n
  h.putCfg off 1 n
/-- The enabled bytes of a configuration write, in address order. -/
def cfgWriteAll (compat : Bool) : Nat → List (Option Byte) → HostPort → HostPort
  | _, [], h => h
  | off, none :: r, h => cfgWriteAll compat (off + 1) r h
  | off, some v :: r, h => cfgWriteAll compat (off + 1) r (cfgWriteByte compat off v h)
/-- CONFIG_WRITE: power state, Bus Master Enable, Interrupt Disable, ATS Enable, PME_Status and Initiate FLR act. -/
def execConfigWrite (f : Fn) (off : Nat) (data : List (Option Byte)) (t : Nat) (s : State) : Host.Outcome State Fault Refusal :=
  let s := advTo t s
  let h := s.hp f
  .next (if s.present f ∧ h.up ∧ !h.perst then
    let s := withAvail f (modHp f (cfgWriteAll s.sys.straps.compat off data)) (tlp f s)
    let s := if (s.hp f).atsEnable then s else modHp f (fun h => { h with ats := [] }) s
    let s := if (s.hp f).pmeStatus then s else endWake f s
    let s := dmaFlush f (intxUpdate f s)
    let flrBit := off ≤ 0x79 && (match data.getD (0x79 - off) none with | some b => bit b.toNat 7 | none => false)
    if flrBit then startFlr f s else s
  else s)

/-! ### Address translation (R283 to R285) -/

/-- The keys of held requests whose first request misses page `p`. -/
def HostPort.missingAt (h : HostPort) (p : Nat) : List Nat :=
  h.held.filterMap fun e => match e.2 with
    | op :: _ => if h.missing op.span.1 op.span.2 = some p then some e.1 else none
    | [] => none
/-- A refused translation: the queue goes to ERROR; a load of rules fails with TIMEOUT (R284, R350). -/
def refuseXlat (f key : Nat) (s : State) : State :=
  if key < 65536 then queueError key 1 s
  else
    let s := dmaDrop f key s
    match s.waiting with
    | some w => if w.fn = f ∧ 65536 + w.mbx = key then finishWait w (.fail (failSt stTimeout)) s else s
    | none => s
/-- TRANSLATION_COMPLETION (R283, R284): the oldest of 4,096 entries makes room. -/
def execTranslationCompletion (f : Fn) (page : Nat) (r : XlatResult) (s : State) : Host.Outcome State Fault Refusal :=
  let h := s.hp f
  .next (if !h.atsEnable then s
  else match r with
    | .granted tr size =>
      let z := min 1073741824 (max 4096 size)
      let b := page / z * z
      let e : AtsEntry := { base := b, size := z, translated := tr / z * z }
      dmaFlush f (modHp f (fun h => { h with ats := (h.ats ++ [e]).drop (h.ats.length + 1 - 4096) }) s)
    | .refused =>
      let keys := h.missingAt (page / 4096 * 4096)
      if keys.isEmpty then s else dmaFlush f (keys.foldl (fun s k => refuseXlat f k s) (countHp f .atsFault s)))
/-- INVALIDATION_REQUEST (R285). -/
def execInvalidationRequest (f : Fn) (base size itag : Nat) (s : State) : Host.Outcome State Fault Refusal :=
  .next (emit (.invalDone f itag) (countHp f .atsInv
    (modHp f (fun h => { h with ats := h.ats.filter fun e => !decide (e.base < base + size ∧ base < e.base + e.size) }) s)))

/-! ### Read completions (R287, R288, R463) -/

/-- Ring entries of 16 B that have arrived for slots from `slot`. -/
def ringEntries (size slot n : Nat) (d : List Byte) : List (Nat × List Byte) :=
  (List.range n).map fun i => (slotAdd size slot i, sliceAt d (16 * i) 16)
/-- A read's data goes where it was asked for (R303, R309); a queue that is not enabled any more drops it. -/
def takeRead (why : ReadFor) (d : List Byte) (s : State) : State :=
  match why with
  | .ring q slot n => modQueue q (fun v =>
      if v.state = .enabled then { v with flight := 0, arrived := ringEntries v.settings.ringSize slot n d }
      else { v with flight := 0, fetch := slot }) s
  | .buffer q slot => modQueue q (fun v => if v.state = .enabled then { v with buffers := v.buffers ++ [(slot, d)] } else v) s
  | .rules _ => s
  | .dead => s
/-- The queue that a read was for. -/
def ReadFor.queue? : ReadFor → Option Nat
  | .ring q _ _ => some q
  | .buffer q _ => some q
  | _ => none
/-- A read that failed puts its queue in ERROR. -/
def failRead (why : ReadFor) (reason : Nat) (s : State) : State :=
  match why.queue? with
  | some q => queueError q reason s
  | none => s
/-- READ_COMPLETION_RECEIVED (R288): a late one is discarded and counted, and logged unless a reset ended its read. -/
def execReadCompletionReceived (f : Fn) (tag : Nat) (st : CplStatus) (data : List Byte) (t : Nat) (s : State) :
    Host.Outcome State Fault Refusal :=
  let s := tlp f (advTo t s)
  let h := s.hp f
  .next (match h.reads.find? fun r => r.tag == tag with
  | none =>
    let s := countHp f .unexpCpl s
    match h.quarantine.find tag with
    | some (_, false) => s
    | _ => logAer f .unexpectedCompletion s
  | some r =>
    let s := modHp f (fun h => { h with reads := h.reads.filter fun r => r.tag != tag }) s
    dmaFlush f (match st with
      | .ok => takeRead r.why data s
      | _ => failRead r.why 3 s))
/-- COMPLETION_TIMEOUT (R288). -/
def execCompletionTimeout (f : Fn) (tag : Nat) (s : State) : Host.Outcome State Fault Refusal :=
  let h := s.hp f
  .next (match h.reads.find? fun r => r.tag == tag with
  | none => s
  | some r =>
    let s := advTo (r.issued + h.cplTimeout) s
    let s := modHp f (fun h => { h with
      reads := h.reads.filter fun r => r.tag != tag, quarantine := h.quarantine.put tag (s.now + 2 * h.cplTimeout, true) }) s
    failRead r.why 2 (logAer f .completionTimeout (countHp f .cplTimeout s)))
/-- TAG_QUARANTINE_END (R288, R463). -/
def execTagQuarantineEnd (f : Fn) (tag : Nat) (s : State) : Host.Outcome State Fault Refusal :=
  .next (match (s.hp f).quarantine.find tag with
  | none => s
  | some (due, _) => dmaFlush f (modHp f (fun h => { h with quarantine := h.quarantine.erase tag }) (advTo due s)))

/-! ### Idle link (R292) -/

/-- Whether cells or decisions keep function `f`'s port in L0. -/
def State.sorting (s : State) (f : Nat) : Bool :=
  (s.pgs.any fun e => e.2.steer.any (·.names s f)) || (s.ctxSteer.any fun e => e.2.any (·.names s f))
    || s.queues.any fun e => e.2.owner == f && e.2.kind == qtDecision && e.2.state == .enabled
/-- LINK_L1_ENTRY (R292): after 100 µs without a TLP. -/
def execLinkL1Entry (f : Fn) (kind : IdleRequest) (t : Nat) (s : State) : Host.Outcome State Fault Refusal :=
  let s := advTo t s
  let h := s.hp f
  .next (if s.present f ∧ h.up ∧ h.pm = .l0 ∧ h.lastTlp + 100000 ≤ s.now ∧ !s.sorting f then
    emit (.linkRequest f kind) (modHp f (fun h => { h with pm := match kind with | .l1 => .l1 | .l0p => .l0p }) s)
  else s)

/-! ### Peer windows (R318, R319) -/

/-- Window `w` of function `f`. -/
def State.win (s : State) (f w : Nat) : PeerWin := (s.hp f).wins.getD w {}
/-- Change window `w` of function `f`. -/
def modWin (f w : Nat) (g : PeerWin → PeerWin) (s : State) : State :=
  modHp f (fun h => { h with wins := h.wins.put w (g (h.wins.getD w {})) }) s
/-- The error code of a commit: 1 range, 2 overlap, 3 target, 0 none (R318). -/
def commitCheck (f w : Nat) (x : PeerWin) (s : State) : Nat :=
  let ok := match s.localQueue f (bits x.target 0 16) with
    | some q => (bits x.target 30 2 == 2) || (bits x.target 30 2 == 1 && (match s.queue q with | some v => v.kind == qtDecision | none => false))
    | none => false
  if x.base < 0x1000000 ∨ 0x4000000 < x.base + x.size ∨ x.size < 4096 ∨ 16777216 < x.size then 1
  else if (s.hp f).wins.any fun e => e.1 != w && e.2.active
      && decide (x.base < e.2.actBase + e.2.actSize ∧ e.2.actBase < x.base + x.size) then 2
  else if ok then 0 else 3
/-- COMMIT is written, with ENABLE: the shadows come into force, or the error is kept (R318). -/
def winCommit (f w : Nat) (enable : Bool) (s : State) : State :=
  let e := commitCheck f w (s.win f w) s
  modWin f w (fun x =>
    if e = 0 then { x with actBase := x.base, actSize := x.size, actTarget := x.target, active := enable, commitErr := false, err := 0 }
    else { x with commitErr := true, err := e }) s
/-- PW_COMMIT_WRITE (R318). -/
def execPwCommitWrite (f : Fn) (w : Fin 16) (v : BitVec 32) (s : State) : Host.Outcome State Fault Refusal :=
  .next (if s.sys.straps.compat then s
  else if !s.decodes f then barLost f s
  else if bit v.toNat 0 then winCommit f w (bit v.toNat 1) (tlp f s)
  else tlp f s)
/-- The half of a register of 2 bytes at `reg` that a write at `off` enables. -/
def halfBytes (off reg : Nat) (d : List (Option Byte)) : Option (Option Byte × Option Byte) :=
  let g := fun (i : Nat) => if off ≤ reg + i then d.getD (reg + i - off) none else none
  match g 0, g 1 with
  | none, none => none
  | a, b => some (a, b)
/-- A write of at most 8 B at `o` of a doorbell block acts on QDB_TAIL, then on QDB_CPL_HEAD (R306). -/
def doorbellBlock (f idx o : Nat) (d : List (Option Byte)) (s : State) : State :=
  let s := match halfBytes o 0 d with
    | some (a, b) => doorbell f idx (fun q => tailWrite q a b) s
    | none => s
  match halfBytes o 4 d with
  | some (a, b) => doorbell f idx (fun q => headWrite q a b) s
  | none => s
/-- A write keeps the size and alignment of R275. -/
def barShape (off len : Nat) : Bool := decide (1 ≤ len ∧ len ≤ 8 ∧ off / 8 = (off + len - 1) / 8)
/-- The range of a window: the one in force, or the shadows' where none has been committed. -/
def PeerWin.span (x : PeerWin) : Nat × Nat := if x.actSize = 0 then (x.base, x.size) else (x.actBase, x.actSize)
/-- A write into the peer-window range of BAR 4 (R319). -/
def peerWrite (f : Nat) (off : Nat) (data : List (Option Byte)) (s : State) : State :=
  if s.sys.straps.compat ∨ off < 0x1000000 ∨ 0x4000000 ≤ off then s
  else if !s.decodes f then barLost f s
  else if crossesPage off data.length then logAer f .malformedTlp s
  else
    let s := tlp f s
    let wins := (s.hp f).wins
    match wins.find? fun e => e.2.active && decide (e.2.actBase ≤ off ∧ off < e.2.actBase + e.2.actSize) with
    | some (w, x) =>
      let drop := modWin f w (fun x => { x with dropCnt := satAdd 32 x.dropCnt 1 })
      if bits x.actTarget 30 2 = 1 then
        if !apertureShape off data.length ∨ !(data.all Option.isSome) then countHp f .barDrop s
        else match s.localQueue f (bits x.actTarget 0 16) with
          | some q => apertureTo q (data.filterMap id) s
          | none => logAer f .unsupportedRequest (drop s)
      else if !barShape off data.length then countHp f .barDrop s
      else
        let o := off - x.actBase
        doorbellBlock f (bits x.actTarget 0 16 + o / 64) (o % 64) data s
    | none =>
      match wins.find? fun e => decide (e.2.span.1 ≤ off ∧ off < e.2.span.1 + e.2.span.2) with
      | some (w, _) => logAer f .unsupportedRequest (modWin f w (fun x => { x with dropCnt := satAdd 32 x.dropCnt 1 }) s)
      | none => logAer f .unsupportedRequest (countHp f .barDrop s)
/-- PEER_WINDOW_WRITE (R319): at offset `off` of BAR 4. -/
def execPeerWindowWrite (f : Fn) (off : Nat) (data : List (Option Byte)) (t : Nat) (s : State) : Host.Outcome State Fault Refusal :=
  .next (peerWrite f off data (advTo t s))

end Sys2Proof.Machine
end

