-- ==== Sys2Proof/Machine/Trust.lean ====
section
/-! DEFINITION. Firmware slots, anti-rollback, owner policy, certificates and debug unlock
(19_trust_and_firmware.md; 13_commands_run.md, R364 to R367, R368, R369). -/
namespace Sys2Proof.Machine

/-- Change firmware and trust. -/
def modTrust (g : Trust → Trust) (s : State) : State := { s with trust := g s.trust }
/-- Slot 0 A, 1 B, 2 of the loader. -/
def Trust.slot (t : Trust) (n : Nat) : FwSlot := if n = 0 then t.slotA else if n = 1 then t.slotB else t.slot2
/-- Change a slot. -/
def modSlot (n : Nat) (g : FwSlot → FwSlot) (s : State) : State :=
  modTrust (fun t => if n = 0 then { t with slotA := g t.slotA } else if n = 1 then { t with slotB := g t.slotB }
    else { t with slot2 := g t.slot2 }) s
/-- FUSE_SVN: consecutive programmed fuses from fuse 0 (R471). -/
def Trust.fuseSvn (t : Trust) : Nat := ((List.range 64).find? fun i => !bit t.fuses i).getD 64
/-- Bytes a slot can hold: 16 MiB, or 6 MiB in the keeper bank (R364, R459). -/
def slotSize (n : Nat) : Nat := if n = 2 then 6291456 else 16777216
/-- The flash region of a slot. -/
def slotRegion (n : Nat) : FlashRegion := if n = 0 then .slotA else .slotB
/-- The slot that is not running, A where neither of flash runs (R367, R451). -/
def State.inactive (s : State) : Nat := if s.sys.slot = 0 then 1 else 0

/-! ### Image checks (Tables 19-2, 19-3 and 19-10) -/

/-- VERSION and SVN of a header. -/
def imgVersion (im : List Byte) : Nat := u32At im 0x08
def imgSvn (im : List Byte) : Nat := u32At im 0x0C
/-- The `n` bytes at `o` are 0. -/
def zeroAt (b : List Byte) (o n : Nat) : Bool := (sliceAt b o n).all (· == 0)
/-- ASCII "LUTOGEN-F9600" and "F9600-OWNER". -/
def idLutogen : List Byte := [0x4C, 0x55, 0x54, 0x4F, 0x47, 0x45, 0x4E, 0x2D, 0x46, 0x39, 0x36, 0x30, 0x30]
def idOwner : List Byte := [0x46, 0x39, 0x36, 0x30, 0x30, 0x2D, 0x4F, 0x57, 0x4E, 0x45, 0x52]
/-- One entry of a section table: type, offset, length, and its last word. -/
structure Section where
  kind : Nat
  off : Nat
  len : Nat
  last : Nat
/-- The entries of a body's section table. -/
def sectionsOf (body : List Byte) : List Section :=
  (List.range (min 8 (u32At body 0))).map fun i =>
    { kind := u32At body (16 + 16 * i), off := u32At body (20 + 16 * i), len := u32At body (24 + 16 * i)
      last := u32At body (28 + 16 * i) }
/-- No section reaches into a later one of the list, nor the other way round. -/
def sectionsApart : List Section → Bool
  | [] => true
  | x :: r => (r.all fun y => decide (x.off + x.len ≤ y.off ∨ y.off + y.len ≤ x.off)) && sectionsApart r
/-- The section table follows R473. -/
def sectionTableOk (body : List Byte) : Bool :=
  let n := u32At body 0
  let l := sectionsOf body
  let of := fun (k : Nat) => l.filter fun x => x.kind == k
  let between := fun (lo hi : Nat) (x : Section) => decide (lo ≤ x.len ∧ x.len ≤ hi)
  decide (3 ≤ n ∧ n ≤ 8) && zeroAt body 4 12 && (l.all fun x => decide (1 ≤ x.kind ∧ x.kind ≤ 4) && x.last == 0
    && x.off % 16 == 0 && decide (16 + 16 * n ≤ x.off ∧ x.off + x.len ≤ body.length))
  && (of 1).length == 1 && (of 1).all (between 4096 1048576)
  && (of 2).length == 1 && (of 2).all (between 0 1024)
  && (of 3).length == 1 && (of 3).all (between 32 32)
  && decide ((of 4).length ≤ 1) && (of 4).all (between 0 358400)
  && sectionsApart l
/-- The status of an image of at most `size` bytes, header and body, against FUSE_SVN (Table 19-3, R474). -/
def imageStatus (size fuse : Nat) (im : List Byte) : Nat :=
  let len := u32At im 0x10
  let body := sliceAt im 0x100 len
  let ok := u32At im 0 == 0x4946554C && u16At im 4 == 1 && u16At im 6 == 0x100 && zeroAt im 0x14 12 && zeroAt im 0x90 48
    && decide (1 ≤ len ∧ len ≤ 16776960 ∧ 0x100 + len ≤ size)
    && sliceAt im 0x20 16 == idLutogen ++ zeros 3
    && Config.sm3 (sliceAt im 0x50 64) == Config.lutogenHash
    && Config.sm2Verify idLutogen (sliceAt im 0x50 64) (im.take 0xC0) (sliceAt im 0xC0 64)
    && Config.sm3 body == sliceAt im 0x30 32
    && sectionTableOk body
    && decide (imgSvn im ≤ 64)
  if !ok then stAuthFail else if imgSvn im < fuse then stRollback else stOk
/-- A slot as it reads back: bytes never programmed read as erased flash. -/
def readBack (im : List Byte) : List Byte := im ++ List.replicate (0x100 + u32At im 0x10 - im.length) 0xFF
/-- Every slot of flash whose image has fallen below FUSE_SVN becomes not valid (R478). -/
def dropOld (s : State) : State :=
  let g := fun (x : FwSlot) => if imgSvn x.image < s.trust.fuseSvn then { x with valid := false } else x
  modSlot 0 g (modSlot 1 g s)
/-- Slots left valid: [0] A, [1] B. -/
def Trust.validBits (t : Trust) : Nat := b2n t.slotA.valid + 2 * b2n t.slotB.valid

/-! ### FW_GET_STATUS, FW_WRITE and what follows it (R364, R476) -/

/-- A header word of a slot. -/
def slotWord (n o : Nat) (s : State) : Nat :=
  if (s.trust.slot n).image.length < 0x100 then Config.emptyHeader n o else u32At (s.trust.slot n).image o
/-- PREFERRED: BOOT_SLOT of the boot options, 2 with none (R457). -/
def Trust.preferred (t : Trust) : Nat := (t.opts.map (·.slot)).getD 2
def cmdFwGetStatus : Cmd where
  op := 0x0B01
  len := lenIs 0
  reads := true
  named _ _ := none
  run _ s := .ok s (b8 (if s.sys.slot ≤ 1 then s.sys.slot else Config.activeByte s.sys.slot) ++ b8 s.trust.preferred
    ++ b8 s.trust.validBits ++ b8 0 ++ b32 (slotWord 0 8 s) ++ b32 (slotWord 0 0xC s) ++ b32 (slotWord 1 8 s)
    ++ b32 (slotWord 1 0xC s) ++ b32 s.trust.fuseSvn)
/-- FW_GET_STATUS. -/
def execFwGetStatus (f : Fn) (m : Mbx) (s : State) : Host.Outcome State Fault Refusal := .next (serve cmdFwGetStatus f m s)

/-- Highest slot a command may name: 2 in the loader only (R459). -/
def State.topSlot (s : State) : Nat := if s.sys.stage = .loader then 2 else 1
/-- A flash erase counts in the honey counters: 0 slot A, 1 slot B, 2 calibration, 3 log, 4 honey, 5 other. -/
def countErase (i n : Nat) (s : State) : State := honeyN 32 (hoHive (16 + 4 * i)) n s
/-- A slot is marked invalid and its erase starts, sector by sector (R364, R526). -/
def eraseSlot (n : Nat) (s : State) : State :=
  let s := modSys (fun y => { y with fwWaiting := y.fwWaiting.filter fun p => p.1 != n }) (modSlot n (fun _ => {}) s)
  if n = 2 then s
  else countErase n 256 ((List.range 256).foldl (fun s i => emit (.flashErase (slotRegion n) i) s) s)
/-- Bytes of firmware pieces that wait. -/
def State.fwBytes (s : State) : Nat := sumList (s.sys.fwWaiting.map fun p => p.2.2.length)
def fwWriteRun (r : Req) (s : State) : Answer :=
  let slot := r.u32 0
  let fl := r.u32 4
  let off := r.u32 8
  let n := r.u32 0xC
  let first := bit fl 0
  let known := decide (slot ≤ s.topSlot) && decide (fl < 4)
  let push := s.trust.writing.find slot
  let taken := if first then 0 else (push.map (·.taken)).getD 0
  -- pieces that the erase of a FIRST piece does away with no longer count
  let gone := if first then sumList ((s.sys.fwWaiting.filter fun p => p.1 == slot).map fun p => p.2.2.length) else 0
  checked [(!known || slot != s.sys.slot, failSt stState), (!known || first || push.isSome, failSt stState),
      (!known || !s.holds (.fwSlot slot), failSt stBusy),
      (decide (s.fwBytes + n ≤ 1048576 + gone) && decide (s.poolUsed + n ≤ 2097152 + gone) || decide (1024 < n), failSt stBusy),
      (decide (slot ≤ s.topSlot), badField 0), (decide (fl < 4), badField 4),
      (decide (off = taken ∧ off + n ≤ slotSize slot), badField 8), (decide (n ≤ 1024), badField 0xC)] fun _ =>
    let s := if first then eraseSlot slot s else s
    let s := if n = 0 then s else modSys (fun y => { y with fwWaiting := y.fwWaiting ++ [(slot, off, r.body.drop 16)] }) s
    let s := modTrust (fun t => { t with writing := t.writing.put slot { fn := r.fn, taken := off + n, committed := bit fl 1 } }) s
    if bit fl 1 then .started (hold (.fwSlot slot) s) [] else .ok s []
def cmdFwWrite : Cmd where
  op := 0x0B02
  len b := decide (16 ≤ b.length) && b.length == 16 + u32At b 0xC
  reads := false
  named r s := firstFail [needTrusted r s]
  run := fwWriteRun
/-- FW_WRITE (R364). -/
def execFwWrite (f : Fn) (m : Mbx) (s : State) : Host.Outcome State Fault Refusal := .next (serve cmdFwWrite f m s)

/-- FW_PIECE_PROGRAMMED (R364, R526): the piece that has waited longest. -/
def execFwPieceProgrammed (s : State) : Host.Outcome State Fault Refusal :=
  .next (match s.sys.fwWaiting with
  | [] => s
  | (slot, off, data) :: rest =>
    let s := modSlot slot (fun x => { x with image := putBytes x.image off (data.map some) })
      (modSys (fun y => { y with fwWaiting := rest }) s)
    if slot = 2 then s else emit (.flashWrite (slotRegion slot) off data) s)

/-- The image of a slot is judged; the slot is valid with status OK (R364, R474). -/
def judgeSlot (slot : Nat) (flashOk : Bool) (s : State) : Nat × State :=
  let im := readBack (s.trust.slot slot).image
  let st := if !flashOk && slot != 2 then stHwFault else imageStatus (slotSize slot) s.trust.fuseSvn im
  (st, modSlot slot (fun x => { x with image := im, valid := st == stOk }) s)
/-- RESULT to the manager (Table 17-5): status, then missing ranges as offset and length. -/
def sendResult (st : Nat) (missing : List (Nat × Nat)) (s : State) : State :=
  toManager 8 3 (b8 st ++ missing.flatMap fun p => b32 p.1 ++ b32 p.2) s
/-- The twelve bytes the model writes for boot options; their layout in flash is not given. -/
def optBytes (o : BootOptions) : List Byte := b32 o.merge ++ b16 o.subVendor ++ b16 o.subId ++ b32 o.slot
/-- The boot options take a slot as BOOT_SLOT, those still on their way to flash too (R475). -/
def preferSlot (slot : Nat) (s : State) : State :=
  let old : BootOptions := s.trust.opts.getD { merge := 0, subVendor := 0x1F7E, subId := 0, slot := 2 }
  let new := { old with slot := slot }
  emit (.flashWrite .bootOptions 0 (optBytes new))
    (modTrust (fun t => { t with
      opts := some new
      flashWrites := t.flashWrites.map fun w => { w with opts := w.opts.map fun o => { o with slot := slot } } }) s)
/-- A restart into `slot` 100 µs from now (R365). -/
def restartInto (slot : Nat) (s : State) : State :=
  modTrust (fun t => { t with nextSlot := some slot }) (modSys (fun y => { y with later := some { kind := 2, due := s.now + 100000 } }) s)
/-- FW_ACTIVATE's effect on a valid slot (R365, R459, R475). -/
def activate (slot whenCode : Nat) (s : State) : State :=
  let s := modTrust (fun t => { t with activated := some slot }) (if slot = 2 then s else preferSlot slot s)
  if whenCode = 1 then restartInto slot s else s
/-- FW_VERIFIED (R364, R355, R451): the slot whose COMMIT came and whose pieces are all programmed. -/
def execFwVerified (flashOk : Bool) (s : State) : Host.Outcome State Fault Refusal :=
  .next (match s.trust.writing.find? fun (e : Nat × FwPush) => e.2.committed && !(s.sys.fwWaiting.any fun p => p.1 == e.1) with
  | none => s
  | some (slot, w) =>
    let (st, s) := judgeSlot slot flashOk s
    let s := if flashOk ∧ slot ≠ 2 then Machine.flashOk slot s else s
    let im := (s.trust.slot slot).image
    let s := modTrust (fun t => { t with writing := t.writing.erase slot }) s
    if w.fn = 5 then
      -- an image distributed by the manager: RESULT in place of the event, then the activation it asked for
      let act := (s.hive.update.map (·.activate)).getD 0
      let s := sendResult st [] (release (.fwSlot slot) (modHive (fun x => { x with update := none }) s))
      if st = stOk ∧ act ≠ 0 then activate slot (act - 1) s else s
    else
      let s := raise 0x0B01 (if st = stOk then sevI else sevE) slot st (imgVersion im + 2 ^ 32 * imgSvn im) [w.fn] s
      release (.fwSlot slot) s)

/-! ### FW_ACTIVATE and FW_COMMIT_SVN (R365, R475 to R478) -/

def cmdFwActivate : Cmd where
  op := 0x0B03
  len := lenIs 8
  reads := false
  named r s := firstFail [needTrusted r s]
  run r s :=
    let slot := r.u32 0
    let known := decide (slot ≤ s.topSlot)
    checked [(!known || s.holds (.fwSlot slot) || (s.trust.slot slot).valid, failSt stState),
        (!known || !s.holds (.fwSlot slot), failSt stBusy), (known, badField 0),
        (r.u32 4 == 1 || (r.u32 4 == 0 && s.sys.stage != .loader), badField 4)] fun _ =>
      .ok (activate slot (r.u32 4) s) []
/-- FW_ACTIVATE (R365, R459, R475). A held slot gives BUSY, though it is not valid (R476). -/
def execFwActivate (f : Fn) (m : Mbx) (s : State) : Host.Outcome State Fault Refusal := .next (serve cmdFwActivate f m s)

/-- The fuses from `lo`, `n` of them, programmed. -/
def burnFuses (lo n : Nat) (s : State) : State :=
  modTrust (fun t => { t with fuses := (List.range n).foldl (fun v i => setBit v (lo + i)) t.fuses }) s
/-- `burnt` of the fuses read back programmed before one does not (R478). -/
def cmdFwCommitSvn (burnt : Nat) : Cmd where
  op := 0x0B04
  len := lenIs 0
  reads := false
  named r s := firstFail [needTrusted r s]
  run r s :=
    let fuse := s.trust.fuseSvn
    let svn := min 64 (imgSvn s.trust.running)
    checked [(decide (fuse < svn) && s.trust.trial.isNone, failSt stState)] fun _ =>
      if r.checkOnly then .ok s []
      else if svn - fuse ≤ burnt then
        let s := dropOld (burnFuses fuse (svn - fuse) s)
        .ok (raise 0x0B07 sevI s.trust.fuseSvn s.trust.validBits 0 s.functions s) (b32 s.trust.fuseSvn)
      else .failWith (dropOld (burnFuses fuse burnt s)) (failSt stHwFault)
/-- FW_COMMIT_SVN (R365, R477, R478). -/
def execFwCommitSvn (f : Fn) (m : Mbx) (burnt : Nat) (s : State) : Host.Outcome State Fault Refusal :=
  .next (serve (cmdFwCommitSvn burnt) f m s)

/-! ### Owner policy (Table 19-7, R481, R482) -/

/-- Step 1 of R481: the layout, on a device with this serial and these functions. -/
def policyLayout (p : List Byte) (s : State) : Bool :=
  let n := u32At p 0xA0
  u32At p 0 == 0x4F50554C && u16At p 4 == 1 && u16At p 6 == p.length && decide (1 ≤ u32At p 8) && zeroAt p 0xC 4
    && (u64At p 0x10 == 0 || u64At p 0x10 == s.sys.serial) && decide (byteAt p 0x18 < 4) && s.present (byteAt p 0x18)
    && decide (byteAt p 0x19 < 16) && decide (byteAt p 0x1A ≤ 1) && zeroAt p 0x1B 5 && zeroAt p 0x60 64
    && decide (n ≤ 96) && zeroAt p 0xA4 4 && p.length == 0xA8 + 8 * n + 64
/-- OWNER_PUBKEY. -/
def policyKey (p : List Byte) : List Byte := sliceAt p 0x20 64
/-- Steps 2 and 3 of R481. -/
def policySigned (p : List Byte) (t : Trust) : Bool :=
  (match t.ownerHash with
  | some h => Config.sm3 (policyKey p) == h
  | none => bit (byteAt p 0x19) 3)
  && Config.sm2Verify idOwner (policyKey p) (p.take (p.length - 64)) (sliceAt p (p.length - 64) 64)
/-- SEQ of the policy in force, a default policy having 0. -/
def policySeq (p : List Byte) : Nat := if p.isEmpty then 0 else u32At p 8
/-- The policy comes into force: who is trusted (R482, R484). -/
def takePolicy (p : List Byte) (s : State) : State :=
  modSys (fun y => { y with trusted := byteAt p 0x18, hiveTrusted := bit (byteAt p 0x19) 0 })
    (modTrust (fun t => { t with policy := p }) s)
/-- The trusted port of TRUST_POLICY. -/
def State.trustedWord (s : State) : Nat := if s.sys.trusted < 4 then s.sys.trusted else 0xFFFFFFFF
/-- A flash write of a command begins: it holds its item (R355). -/
def startFlash (w : FlashWrite) (s : State) : State :=
  hold (.flashItem w.item) (modTrust (fun t => { t with flashWrites := t.flashWrites ++ [w] }) s)
/-- All-zero bytes stand for an unprogrammed hash (Table 19-1). -/
def hashOf (h : List Byte) : Option (List Byte) := if h.all (· == 0) then none else some h
/-- What is burnt where CLAIM is set and the hash is unprogrammed (R481). -/
def burnHash (p : List Byte) (s : State) : State :=
  if s.trust.ownerHash.isNone then modTrust (fun t => { t with ownerHash := hashOf (Config.sm3 (policyKey p)) }) s else s
def cmdTrustSetOwnerPolicy (burnOk : Bool) : Cmd where
  op := 0x0B06
  len b := decide (4 ≤ b.length) && b.length == 4 + u32At b 0
  reads := false
  named r s := firstFail [(s.isTrusted r.fn || s.sys.trusted == ownKeeper, failSt stDenied)]
  run r s :=
    let p := r.body.drop 4
    checked [(!s.holds (.flashItem 3), failSt stBusy), (inR 1 1024 (r.u32 0), badField 0), (policyLayout p s, badField 4),
        (policySigned p s.trust, failSt stAuthFail), (decide (policySeq s.trust.policy < u32At p 8), failSt stRollback)] fun _ =>
      if s.trust.ownerHash.isNone ∧ !burnOk ∧ !r.checkOnly then
        .failWith (bumpFree (modTrust (fun t => { t with
          ownerHash := hashOf (Config.failedBurn (Config.sm3 (policyKey p)) s.freeCtr) }) s)) (failSt stHwFault)
      else
        let s := takePolicy p (burnHash p s)
        let s := s.functions.foldl (fun s f => rdRewrite f s) s
        .started (startFlash { item := 3, fn := r.fn, data := p, opts := none }
          (raise 0x0B05 sevI 1 s.trustedWord (u32At p 8) s.functions s)) []
/-- TRUST_SET_OWNER_POLICY (R481 to R483). -/
def execTrustSetOwnerPolicy (f : Fn) (m : Mbx) (burnOk : Bool) (s : State) : Host.Outcome State Fault Refusal :=
  .next (serve (cmdTrustSetOwnerPolicy burnOk) f m s)

/-- FLASH_WRITTEN (R355, R368, R482, R526): the flash write of a command that is under way, in commit order. -/
def execFlashWritten (item : Fin 4) (ok : Bool) (s : State) : Host.Outcome State Fault Refusal :=
  .next (match s.trust.flashWrites with
  | [] => s
  | w :: rest =>
    if w.item ≠ item then s
    else
      let region : FlashRegion := if w.item = 1 then .bootOptions else if w.item = 2 then .calibration else .ownerPolicy
      let s := emit (.flashWrite region 0 (match w.opts with | some o => optBytes o | none => w.data)) (countErase (if w.item = 2 then 2 else 5) 1
        (modTrust (fun t => { t with flashWrites := rest }) s))
      let s := if ok then flashOk (if w.item = 1 then 2 else if w.item = 2 then 4 else 3) s else s
      let s := if !ok then (if w.item = 2 then modTrust (fun t => { t with calFlash := [] }) s else s)
        else modTrust (fun t =>
          if w.item = 1 then { t with opts := w.opts }
          else if w.item = 2 then { t with calFlash := w.data }
          else { t with policyFlash := w.data }) s
      release (.flashItem w.item) (raise 0x0C01 (if ok then sevI else sevE) w.item (if ok then 0 else stHwFault) 0 [w.fn] s))

def cmdPwrSetBootOptions : Cmd where
  op := 0x0D01
  len := lenIs 12
  reads := false
  named r s := firstFail [needTrusted r s]
  run r s :=
    checked [(!s.holds (.flashItem 1), failSt stBusy), (inR 0 3 (r.u32 0), badField 0), (inR 0 2 (r.u32 8), badField 8)] fun _ =>
      let o : BootOptions := { merge := r.u32 0, subVendor := r.u32 4 % 65536, subId := r.u32 4 / 65536, slot := r.u32 8 }
      .started (startFlash { item := 1, fn := r.fn, data := [], opts := some o } s) []
/-- PWR_SET_BOOT_OPTIONS (R369, R270, R475). -/
def execPwrSetBootOptions (f : Fn) (m : Mbx) (s : State) : Host.Outcome State Fault Refusal := .next (serve cmdPwrSetBootOptions f m s)

/-! ### Certificates, challenge and debug unlock (R366, R479, R485, R486) -/

/-- The item of TRUST_GET_CERT (R479). -/
def certItem (i : Nat) (s : State) : List Byte :=
  if i = 0 then Config.identityCert else if i = 1 then imageSection s.trust.running 2 else s.trust.policy
def cmdTrustGetCert : Cmd where
  op := 0x0B07
  len := lenIs 12
  reads := true
  named _ _ := none
  run r s := checked [(inR 0 2 (r.u32 0), badField 0), (inR 0 2000 (r.u32 8), badField 8)] fun _ =>
    let c := certItem (r.u32 0) s
    .ok s (b32 c.length ++ (c.drop (r.u32 4)).take (r.u32 8))
/-- TRUST_GET_CERT (R479). -/
def execTrustGetCert (f : Fn) (m : Mbx) (s : State) : Host.Outcome State Fault Refusal := .next (serve cmdTrustGetCert f m s)

def cmdTrustChallenge : Cmd where
  op := 0x0B09
  len := lenIs 4
  reads := false
  named r s := firstFail [needTrusted r s]
  run r s := checked [(inR 1 2 (r.u32 0), badField 0)] fun _ =>
    let n := sliceAt (Config.random s.freeCtr) 0 32
    .ok (bumpFree (modTrust (fun t => { t with
      nonce := some { purpose := r.u32 0, bytes := n, until' := s.now + 60000000000 } }) s)) n
/-- TRUST_CHALLENGE (R366). -/
def execTrustChallenge (f : Fn) (m : Mbx) (s : State) : Host.Outcome State Fault Refusal := .next (serve cmdTrustChallenge f m s)
/-- NONCE_EXPIRY (R366). -/
def execNonceExpiry (s : State) : Host.Outcome State Fault Refusal :=
  .next (match s.trust.nonce with
  | some n => modTrust (fun t => { t with nonce := none }) (advTo n.until' s)
  | none => s)
/-- The message that the nonce of a purpose makes, where one is valid (R366, R485). -/
def State.signedMessage (s : State) (purpose : Nat) : Option (List Byte) :=
  match s.trust.nonce with
  | some n => if n.purpose = purpose ∧ s.now < n.until' then some (b32 purpose ++ b64 s.sys.serial ++ n.bytes) else none
  | none => none
/-- The Lutogen root public key, from the running image (R485). -/
def State.lutogenKey (s : State) : List Byte := sliceAt s.trust.running 0x50 64
/-- The key that a signature of a purpose verifies under: 1 Lutogen, 2 owner (R485). -/
def State.unlockKey (s : State) (purpose : Nat) (sig : List Byte) : Option Nat :=
  match s.signedMessage purpose with
  | none => none
  | some msg =>
    let p := s.trust.policy
    let fl := if p.isEmpty then 0 else byteAt p 0x19
    if (purpose = 2 ∨ !bit fl 2) ∧ Config.sm2Verify idLutogen s.lutogenKey msg sig then some 1
    else if purpose = 1 ∧ bit fl 1 ∧ Config.sm2Verify idOwner (policyKey p) msg sig then some 2
    else none
/-- The nonce is used up (R366). -/
def useNonce (s : State) : State := modTrust (fun t => { t with nonce := none }) s
def cmdDebugUnlock : Cmd where
  op := 0x0B0A
  len := lenIs 64
  reads := false
  named r s := firstFail [needTrusted r s]
  run r s :=
    match s.unlockKey 1 r.body with
    | none => .failWith (useNonce s) (failSt stAuthFail)
    | some k => .ok (raise 0x0B06 sevW k 0 0 s.functions (modTrust (fun t => { t with debug := k }) (useNonce s))) []
/-- DEBUG_UNLOCK (R366, R485, R486). -/
def execDebugUnlock (f : Fn) (m : Mbx) (s : State) : Host.Outcome State Fault Refusal := .next (serve cmdDebugUnlock f m s)

end Sys2Proof.Machine
end

