-- ==== Sys2Proof/Machine/HiveCmds.lean ====
section
/-! DEFINITION. Hive commands (Table 13-10), resets of other devices (R452, R466) and the distribution of firmware (R367,
R451). -/
namespace Sys2Proof.Machine

/-- STATE codes of HIVE_GET_STATUS. -/
def hiveCode : HiveState → Nat
  | .standalone => 0 | .joining => 1 | .member => 2 | .manager => 3 | .standby => 4
/-- A word that may be absent. -/
def absentOr (o : Option Nat) : List Byte := b32 (o.getD wordNone)
def cmdHiveGetStatus : Cmd where
  op := 0x0A01
  len := lenIs 0
  reads := true
  named _ _ := none
  run _ s :=
    let h := s.hive
    let on := s.inHive
    let mgr := h.state == .manager
    .ok s (b8 (hiveCode h.state) ++ b8 h.depth ++ b8 s.hiveLinks.length ++ b8 0
      ++ absentOr (if on then some s.deviceId else none) ++ absentOr (if on then some h.managerId else none)
      ++ absentOr (if h.state = .standby then some s.deviceId else if mgr && h.mirrorDone then h.standbyId else none)
      ++ absentOr (if on then h.uplink else none) ++ absentOr (if on then h.uplink2 else none)
      ++ absentOr (if mgr then some (h.members.length + 1) else none))
/-- HIVE_GET_STATUS. -/
def execHiveGetStatus (f : Fn) (m : Mbx) (s : State) : Host.Outcome State Fault Refusal := .next (serve cmdHiveGetStatus f m s)

/-- A record of HIVE_LIST_DEVICES and the ID it is sorted by. -/
def listRecord (id parent depth role flags serial fw : Nat) : Nat × List Byte :=
  (id, b16 id ++ b16 parent ++ b8 depth ++ b8 role ++ b8 flags ++ b8 0 ++ b64 serial ++ b32 fw)
/-- Whether some host link of the device is up. -/
def State.hostPresent (s : State) : Bool := s.functions.any fun f => (s.hp f).up
/-- The records of the manager, or of the standby from its mirror. -/
def State.listDevices (s : State) : List (Nat × List Byte) :=
  if s.hive.state = .manager then
    let own := listRecord s.deviceId s.deviceId 0 1 (b2n s.hostPresent + 2 * b2n (s.faultBits != 0)) s.sys.serial s.sys.fwVersion
    own :: s.hive.members.map fun m =>
      let r := Config.memberReport m.serial s.freeCtr
      listRecord m.id m.parent m.depth (if s.hive.standbyId = some m.id ∧ s.hive.mirrorDone then 2 else 0)
        (b2n r.1 + 2 * b2n (m.faults != 0)) m.serial r.2
  else s.hive.mirror.map fun e =>
    let r := Config.standbyRecord e.1 s.freeCtr
    listRecord e.2 r.1 (r.2.1 % 256) (r.2.1 / 256 % 3) (r.2.2.1 % 4) e.1 r.2.2.2
/-- Put a record into a list sorted by ID. -/
def insertRecord (x : Nat × List Byte) : List (Nat × List Byte) → List (Nat × List Byte)
  | [] => [x]
  | y :: r => if x.1 ≤ y.1 then x :: y :: r else y :: insertRecord x r
def cmdHiveListDevices : Cmd where
  op := 0x0A02
  len := lenIs 8
  reads := true
  named _ _ := none
  run r s := checked [(s.hive.state == .manager || s.hive.state == .standby, failSt stNotInMode), (inR 1 100 (r.u32 4), badField 4)] fun _ =>
    let all := s.listDevices.foldl (fun l x => insertRecord x l) []
    let l := (all.drop (r.u32 0)).take (r.u32 4)
    .ok (bumpFree s) (b32 all.length ++ b32 l.length ++ l.flatMap (·.2))
/-- HIVE_LIST_DEVICES. -/
def execHiveListDevices (f : Fn) (m : Mbx) (s : State) : Host.Outcome State Fault Refusal := .next (serve cmdHiveListDevices f m s)

def cmdHiveSetPolicy : Cmd where
  op := 0x0A03
  len := lenIs 8
  reads := false
  named r s := firstFail [needTrusted r s]
  run r s := checked [(s.managerCapable, failSt stNotInMode), (inR 0 255 (r.u32 0), badField 0), (inR 0 1 (r.u32 4), badField 4)] fun _ =>
    .ok (modHive (fun h => { h with priority := r.u32 0, willing := r.u32 4 == 1 }) s) []
/-- HIVE_SET_POLICY (R436, R438). -/
def execHiveSetPolicy (f : Fn) (m : Mbx) (s : State) : Host.Outcome State Fault Refusal := .next (serve cmdHiveSetPolicy f m s)

/-! ### Resets of hive devices (R452, R466) -/

/-- A reset or restart begins `ns` from now. -/
def resetLater (kind ns : Nat) (s : State) : State := modSys (fun y => { y with later := some { kind := kind, due := s.now + ns } }) s
def cmdHiveResetDevice : Cmd where
  op := 0x0A04
  len := lenIs 8
  reads := false
  named r s := firstFail [needTrusted r s]
  run r s :=
    let d := r.u32 0
    let own := d == s.deviceId
    checked [(s.hive.state == .manager, failSt stNotInMode), (!own || r.u32 4 != 1, failSt stNotInMode),
        (!s.holds (.device d), failSt stBusy), (decide (d < 65536), badField 0), (inR 0 1 (r.u32 4), badField 4)] fun _ =>
      let begun := fun (s : State) => hold (.device d) (modHive (fun h => { h with resets := h.resets.put d r.fn }) s)
      if own then .started (resetLater 0 100000 (begun s)) []
      else if (s.member d).isNone then .fail (failSt stHiveUnreachable)
      else
        let x := hsend 5 6 0 d (b8 (r.u32 4)) s
        if x.1 then .started (begun x.2) [] else .fail (failSt stHiveUnreachable)
/-- HIVE_RESET_DEVICE (R466). -/
def execHiveResetDevice (f : Fn) (m : Mbx) (s : State) : Host.Outcome State Fault Refusal := .next (serve cmdHiveResetDevice f m s)
/-- HIVE_RESET_DONE (R452, R466): the device answers the manager again. -/
def execHiveResetDone (device : Nat) (status : Nat) (s : State) : Host.Outcome State Fault Refusal :=
  .next (match s.hive.resets.find device with
  | some fn =>
    if s.hive.state = .manager ∧ (s.member device).isSome ∧ s.sys.ready then
      release (.device device) (raise 0x0A01 sevI device status 0 [fn]
        (modHive (fun h => { h with resets := h.resets.erase device }) s))
    else s
  | none => s)
/-- MGMT RESET at the device it names (R466): the reset starts at once. -/
def hiveReset (kind : Nat) (s : State) : State :=
  if s.isMember then resetLater (if kind = 0 then 0 else 3) 0 s else s
def execHiveResetReceived (kind : Nat) (s : State) : Host.Outcome State Fault Refusal := .next (hiveReset kind s)

/-! ### Distribution (R367, R451) -/

/-- An UPDATE message to one worker, or down the tree. -/
def sendUpdate (target : Option Nat) (sub : Nat) (body : List Byte) (s : State) : State :=
  match target with
  | some d => (hsend 8 sub 0 d body s).2
  | none => (hsend 8 sub hfBroadcast 0 body s).2
/-- A range of the image in DATA pieces of at most 2,024 B. -/
def sendRange (target : Option Nat) (im : List Byte) (off len : Nat) (s : State) : State :=
  (List.range (ceilDiv len 2024)).foldl (fun s i =>
    let o := off + 2024 * i
    sendUpdate target 1 (b32 o ++ sliceAt im o (min 2024 (off + len - o))) s) s
/-- Bytes of a stored image, header and body. -/
def imageLen (im : List Byte) : Nat := 0x100 + u32At im 0x10
def cmdFwDistribute : Cmd where
  op := 0x0B05
  len := lenIs 8
  reads := false
  named r s := firstFail [needTrusted r s]
  run r s :=
    let d := r.u32 0
    let slot := s.inactive
    checked [(s.hive.state == .manager, failSt stNotInMode), ((s.trust.slot slot).valid, failSt stState),
        (!s.holds .distribute, failSt stBusy), ((decide (d < 65536) && d != s.deviceId) || d == wordNone, badField 0),
        (inR 0 2 (r.u32 4), badField 4)] fun _ =>
      if d ≠ wordNone ∧ (s.member d).isNone then .fail (failSt stHiveUnreachable)
      else
        let im := (s.trust.slot slot).image
        let target := if d = wordNone then none else some d
        let s := sendUpdate target 0 (b32 (imgVersion im) ++ b32 (imgSvn im) ++ b32 (imageLen im)) s
        let s := sendUpdate target 2 (b8 (r.u32 4)) (sendRange target im 0 (imageLen im) s)
        .started (hold .distribute (modHive (fun h => { h with
          dist := some { fn := r.fn, slot := slot, target := target, activate := r.u32 4
                         waiting := (match target with | some x => [x] | none => h.members.map (·.id))
                         verified := 0, failed := 0, rounds := [] } }) s)) []
/-- FW_DISTRIBUTE (R367, R451). -/
def execFwDistribute (f : Fn) (m : Mbx) (s : State) : Host.Outcome State Fault Refusal := .next (serve cmdFwDistribute f m s)
/-- FW_DISTRIBUTED (R367): every worker has answered or left; one that left has failed. -/
def execFwDistributed (s : State) : Host.Outcome State Fault Refusal :=
  .next (match s.hive.dist with
  | some d =>
    if s.sys.ready ∧ !(d.waiting.any fun i => (s.member i).isSome) then
      let bad := d.failed + d.waiting.length
      release .distribute (raise 0x0B02 (if bad = 0 then sevI else sevW) d.verified bad 0 [d.fn] (modHive (fun h => { h with dist := none }) s))
    else s
  | none => s)
/-- RESULT of a worker (R451): it counts as verified, or its missing ranges are sent again for up to 3 rounds, or it
counts as failed. -/
def updateResult (src status : Nat) (missing : List (Nat × Nat)) (s : State) : State :=
  match s.hive.dist with
  | none => s
  | some d =>
    let round := d.rounds.getD src 0
    if s.hive.state ≠ .manager ∨ !d.waiting.contains src then s
    else if !missing.isEmpty ∧ round < 3 then
      let im := (s.trust.slot d.slot).image
      let s := (missing.take 64).foldl (fun s p => sendRange (some src) im p.1 p.2 s) s
      sendUpdate (some src) 2 (b8 d.activate) (modHive (fun h => { h with dist := some { d with rounds := d.rounds.put src (round + 1) } }) s)
    else
      let ok := missing.isEmpty ∧ status = 0
      let d' : Dist := { d with
        waiting := d.waiting.filter (· != src)
        verified := if ok then d.verified + 1 else d.verified
        failed := if ok then d.failed else d.failed + 1 }
      modHive (fun h => { h with dist := some d' }) s
def execUpdateResultReceived (src : Nat) (status : Nat) (missing : List (Nat × Nat)) (s : State) : Host.Outcome State Fault Refusal :=
  .next (updateResult src status missing s)

/-- The parts of an image of `len` bytes, from `pos` on, that no span covers. -/
def gaps (spans : List (Nat × Nat)) (len : Nat) : Nat → Nat → List (Nat × Nat)
  | 0, _ => []
  | n + 1, pos =>
    if len ≤ pos then []
    else
      let ends := (spans.filter fun p => decide (p.1 ≤ pos ∧ pos < p.1 + p.2)).map fun p => p.1 + p.2
      if ends.isEmpty then
        let next := (spans.filter fun p => decide (pos < p.1)).foldl (fun a p => min a p.1) len
        (pos, next - pos) :: gaps spans len n next
      else gaps spans len n (ends.foldl max 0)
/-- An UPDATE message at a worker (R451, R476): OFFER starts the inactive slot, DATA fills it, END asks for its check. -/
def updateRx (sub : Nat) (body : List Byte) (s : State) : State :=
  let slot := s.inactive
  if !s.isMember ∨ !s.sys.ready then s
  else if sub = 0 then
    if s.holds (.fwSlot slot) && s.hive.update.isNone then sendResult stBusy [] s
    else if slotSize slot < u32At body 8 then sendResult stAuthFail [] s
    else
      let s := modTrust (fun t => { t with writing := t.writing.put slot { fn := 5, taken := 0, committed := false } })
        (hold (.fwSlot slot) (release (.fwSlot slot) (eraseSlot slot s)))
      let u : UpdateRx := { version := u32At body 0, secVersion := u32At body 4, length := u32At body 8, spans := [], activate := 0 }
      modHive (fun h => { h with update := some u }) s
  else match s.hive.update with
    | none => s
    | some u =>
      if sub = 1 then
        let off := u32At body 0
        let data := body.drop 4
        modHive (fun h => { h with update := some { u with spans := u.spans ++ [(off, data.length)] } })
          (modSys (fun y => { y with fwWaiting := y.fwWaiting ++ [(slot, off, data)] }) s)
      else
        let missing := (gaps u.spans u.length (2 * u.spans.length + 2) 0).take 64
        let s := modHive (fun h => { h with update := some { u with activate := byteAt body 0 } }) s
        if missing.isEmpty then modTrust (fun t => { t with
          writing := t.writing.put slot { fn := 5, taken := u.length, committed := true } }) s
        else sendResult stInProgress missing s
def execUpdateReceived (sub : Nat) (body : List Byte) (s : State) : Host.Outcome State Fault Refusal := .next (updateRx sub body s)

end Sys2Proof.Machine
end

