-- ==== Sys2Proof/Machine/Records.lean ====
section
/-! DEFINITION. The keeper at work: sleep and ticks, sensors, the event log, the honey counters and the calibration record
(22_keeper_health_records.md; 13_commands_run.md, R368). -/
namespace Sys2Proof.Machine

/-! ### Power-on seconds (R543) -/

/-- AON_COUNT now: 32.768 kHz ticks, or those of SYSCLK_IN ÷ 763 while XTAL_AON is lost (R511), in 48 bits. -/
def State.aonNow (s : State) : Nat :=
  let dt := s.now - s.mon.aonAt
  let ticks := if s.mon.lostClocks.contains 5 then dt * 25000000 / (763 * 1000000000) else dt * 32768 / 1000000000
  if s.mon.vddAon then (s.mon.aonCount + ticks) % 2 ^ 48 else 0
/-- AON_COUNT is settled at this instant, so that its rate or its time base may change. -/
def settleAon (s : State) : State := { s with mon := { s.mon with aonCount := s.aonNow, aonAt := s.now } }
/-- The keeper adds whole seconds of AON_COUNT to HONEY_POWER_ON_SECONDS (R543). -/
def addSeconds (s : State) : State :=
  let n := s.aonNow / 32768 - s.mon.onSecondsAt
  if n = 0 then s
  else honeyN 64 hoPowerOnSeconds n { s with mon := { s.mon with onSecondsAt := s.mon.onSecondsAt + n } }

/-! ### Honey counters (R524, R525, Table 22-5) -/

/-- Width in bytes of the counter at an offset of the image (Tables 22-5, 22-6). -/
def hoWidth (o : Nat) : Nat :=
  if o = hoPowerOnSeconds then 8
  else if o < 0x80 then 4
  else if o < 0x1E80 then (let r := (o - 0x80) % 80; if 0x10 ≤ r ∧ r < 0x48 then 8 else 4)
  else if o < 0x2300 then 4
  else if o < 0x3400 then (if (o - 0x2300) % 136 = 132 then 2 else 4)
  else if o < 0x3580 then (let r := (o - 0x3400) % 16; if r = 8 ∨ r = 10 then 2 else 4)
  else if o < 0x37C0 then 4
  else if o < 0x3870 then 8
  else if o < 0x3E80 then 4
  else (let r := (o - 0x3E80) % 24; if r = 0 ∨ r = 8 then 8 else 4)
/-- Bytes of the image before its CRC. -/
def honeyLen : Nat := 0x1BE80
/-- The image header: MAGIC to REASON. -/
def honeyHead (s : State) : List Byte :=
  b32 0x5948554C ++ b16 1 ++ b16 0x40 ++ b32 0x1BE84 ++ b32 s.keeper.saveSeq ++ b64 s.sys.serial ++ b64 s.keeper.savedAt
    ++ b8 s.keeper.saveReason
/-- Byte `o` of the counters of the snapshot. -/
def snapByte (t : Table Nat) (o : Nat) : Byte :=
  match t.find? fun (e : Nat × Nat) => decide (e.1 ≤ o ∧ o < e.1 + hoWidth e.1) with
  | some e => BitVec.ofNat 8 (e.2 / 256 ^ (o - e.1))
  | none => 0
/-- The snapshot without its CRC. -/
def honeyBody (s : State) : List Byte :=
  let h := honeyHead s
  h ++ (List.range (honeyLen - h.length)).map fun i => snapByte s.keeper.snap (h.length + i)
/-- The snapshot as HONEY_READ sees it. -/
def honeyImage (s : State) : List Byte := let b := honeyBody s; b ++ b32 (crc32c b)
/-- A save: the snapshot is taken and written into the copy that does not hold the latest one (R524); REASON 1 periodic,
2 orderly, 3 fault, 4 reset. -/
def saveHoney (reason : Nat) (s : State) : State :=
  let s := countErase 4 1 (addSeconds s)
  let s := modKeeper (fun k => { k with
    snap := k.honey, saveSeq := (k.saveSeq + 1) % 2 ^ 32, savedAt := s.now, saveReason := reason, lastSave := s.now }) s
  emit (.flashWrite .honey (s.keeper.saveSeq % 2) (honeyImage s)) (emit (.flashErase .honey (s.keeper.saveSeq % 2)) (flashOk 6 s))
/-- The highest HONEY_TEMP_MAX of the snapshot. -/
def State.highestTemp (s : State) : Int :=
  ((List.range 32).map fun i => toSigned 16 (s.keeper.honey.getD (hoTemp i 132) 0)).foldl max (-32768)
/-- HONEY SUMMARY to the manager (R453). -/
def sendHoneySummary (s : State) : State :=
  toManager 7 0 (b64 s.sys.serial ++ b32 s.keeper.saveSeq ++ b32 (s.keeper.honey.getD hoPowerCycles 0)
    ++ b64 (s.keeper.honey.getD hoPowerOnSeconds 0) ++ b16 s.faultBits ++ b8 s.keeper.saveReason ++ b8 0
    ++ leBytes 2 (fromSigned 16 s.highestTemp) ++ b16 0) s
/-- HONEY_SAVE (R524): the periodic save, or the one a fault asked for, whichever is due first. -/
def execHoneySave (s : State) : Host.Outcome State Fault Refusal :=
  let periodic := s.keeper.lastSave + 600000000000
  .next (if !s.sys.ready ∨ s.sys.stage = .loader then s
  else match s.keeper.faultSaveDue with
    | some d =>
      if d ≤ periodic then
        let s := advTo d s
        sendHoneySummary (saveHoney 3 (modKeeper (fun k => { k with faultSaveDue := none, lastFaultSave := some s.now }) s))
      else saveHoney 1 (advTo periodic s)
    | none => saveHoney 1 (advTo periodic s))

def cmdHoneyRead : Cmd where
  op := 0x0C03
  len := lenIs 8
  reads := true
  named _ _ := none
  run r s := checked [(inR 0 2000 (r.u32 4), badField 4)] fun _ =>
    .ok s (b32 0x1BE84 ++ b32 s.keeper.saveSeq ++ ((honeyImage s).drop (r.u32 0)).take (r.u32 4))
/-- HONEY_READ (R525). -/
def execHoneyRead (f : Fn) (m : Mbx) (s : State) : Host.Outcome State Fault Refusal := .next (serve cmdHoneyRead f m s)
/-- The counters that HONEY_RESET keeps (R525). -/
def keptHoney (o : Nat) : Bool := o == hoPowerOnSeconds || o == hoPowerCycles
def cmdHoneyReset : Cmd where
  op := 0x0C04
  len := lenIs 64
  reads := false
  named r s := firstFail [needTrusted r s]
  run r s :=
    match s.unlockKey 2 r.body with
    | none => .failWith (useNonce s) (failSt stAuthFail)
    | some _ =>
      let seq := s.keeper.saveSeq
      let s := modKeeper (fun k => { k with honey := k.honey.filter fun e => keptHoney e.1 }) (addSeconds (useNonce s))
      .ok (logNow 0x0C88 sevW seq 0 0 (saveHoney 4 s)) []
/-- HONEY_RESET (R366, R485, R525). -/
def execHoneyReset (f : Fn) (m : Mbx) (s : State) : Host.Outcome State Fault Refusal := .next (serve cmdHoneyReset f m s)

/-! ### Event log (R522, R523) -/

/-- A log entry with its SEQ (Table 22-3). -/
def logBytes (seq : Nat) (e : LogEntry) : List Byte :=
  b32 seq ++ b32 e.powerOn ++ b64 e.time ++ b16 e.code ++ b8 e.sev ++ b8 (b2n e.timeFree) ++ b32 e.p0 ++ b32 e.p1 ++ b32 e.p2
def cmdLogRead (most : Nat) : Cmd where
  op := 0x0C02
  len := lenIs 8
  reads := true
  named _ _ := none
  run r s := checked [(inR 1 63 (r.u32 4), badField 4)] fun _ =>
    let all := s.keeper.log ++ s.keeper.logBuf
    let start := max (r.u32 0) s.keeper.logBase
    let l := (all.drop (start - s.keeper.logBase)).take (min most (r.u32 4))
    .ok s (b32 (start + l.length) ++ b32 l.length ++ b32 s.keeper.logBase ++ b32 0
      ++ (l.zip (List.range l.length)).flatMap fun (e : LogEntry × Nat) => logBytes (start + e.2) e.1)
/-- LOG_READ. -/
def execLogRead (f : Fn) (m : Mbx) (s : State) : Host.Outcome State Fault Refusal := .next (serve (cmdLogRead 63) f m s)
/-- An entry goes into flash, SEQ last; a full ring loses its oldest sector first (R522, R523). -/
def programEntry (e : LogEntry) (s : State) : State :=
  let full := decide (131072 ≤ s.keeper.log.length)
  let sector := s.keeper.logBase % 131072 / 2048
  let s := if full then countErase 3 1 (emit (.flashErase .log sector) s) else s
  let k := s.keeper
  let base := if full then k.logBase + 2048 else k.logBase
  let log := if full then k.log.drop 2048 else k.log
  let seq := base + log.length
  let off := 32 * (seq % 131072)
  let b := logBytes seq e
  emit (.flashWrite .log off (b.take 4)) (emit (.flashWrite .log (off + 4) (b.drop 4))
    (flashOk 5 (modKeeper (fun k => { k with logBase := base, log := log ++ [e] }) s)))
/-- LOG_ENTRY_PROGRAM (R523): LOG_OVERFLOW where entries were replaced, else the oldest buffered entry. -/
def execLogEntryProgram (s : State) : Host.Outcome State Fault Refusal :=
  .next (if !s.sys.ready then s
  else if 0 < s.keeper.logReplaced then
    programEntry { powerOn := s.keeper.honey.getD hoPowerCycles 0, time := s.now, code := 0x0C87, sev := sevW
                   timeFree := s.timeFree, p0 := s.keeper.logReplaced, p1 := 0, p2 := 0 }
      (modKeeper (fun k => { k with logReplaced := 0 }) s)
  else match s.keeper.logBuf with
    | [] => s
    | e :: rest => programEntry e (modKeeper (fun k => { k with logBuf := rest }) s))

/-! ### Sleep and ticks (R518, Table 22-5) -/

/-- KEEPER_SLEEP (R518). -/
def execKeeperSleep (t : Nat) (s : State) : Host.Outcome State Fault Refusal :=
  let s := advTo t s
  .next (if s.sys.ready ∧ s.goOrder.isEmpty ∧ s.waiting.isNone ∧ s.keeper.logBuf.isEmpty ∧ s.faultReports.isEmpty
      ∧ s.keeper.lastWork + 10000 ≤ s.now then modKeeper (fun k => { k with asleep := true }) s else s)
/-- One second of each comb's load (Table 22-5): the share of it in which the comb's clock ran. -/
def combSecond (k : Nat) (s : State) : State :=
  let b := s.comb k
  let ns := b.busyNs + (if b.gated then 0 else s.now - b.busyFrom)
  modComb k (fun b => { b with busyNs := 0, busyFrom := s.now }) (honey (hoComb k (4 * min 9 (ns / 100000000))) s)
/-- One second of each temperature bin (Table 22-5). -/
def tempSecond (i : Nat) (s : State) : State :=
  match s.keeper.temps[i]? with
  | some v => honey (hoTemp i (4 * (clampInt 0 32 (floorDiv (v + 640) 80)).toNat)) s
  | none => s
/-- KEEPER_TICK (R518): HB_HEARTBEAT advances; once a second the seconds of Table 22-5 are counted. -/
def execKeeperTick (s : State) : Host.Outcome State Fault Refusal :=
  .next (if !s.sys.ready ∨ s.sys.stage = .loader then s
  else
    let s := keeperWork (modKeeper (fun k => { k with ticks := k.ticks + 1, heartbeat := (k.heartbeat + 1) % 2 ^ 32 }) s)
    if s.keeper.ticks % 1000 = 0 then
      addSeconds ((List.range 32).foldl (fun s i => tempSecond i s) ((List.range 24).foldl (fun s k => combSecond k s) s))
    else s)

/-! ### Sensors (R519 to R521, R530, R551, R552) -/

/-- T_WARN and T_CRIT, 1/16 °C (R520). -/
def State.tWarn (s : State) : Int := if s.sys.gradeI then 1600 else 1520
def State.tCrit (s : State) : Int := if s.sys.gradeI then 1680 else 1600
/-- The rail of a voltage monitor (Table 22-1): nominal, warning window, fault window, mV (Table 22-2). -/
structure RailWindow where
  nominal : Nat
  warnLo : Nat
  warnHi : Nat
  faultLo : Nat
  faultHi : Nat
def railWindow (m : Nat) : RailWindow :=
  if m < 6 ∨ m = 21 then { nominal := 750, warnLo := 728, warnHi := 772, faultLo := 705, faultHi := 795 }
  else if m < 13 ∨ m = 17 ∨ m = 18 then { nominal := 800, warnLo := 776, warnHi := 824, faultLo := 752, faultHi := 848 }
  else if m < 21 then { nominal := 1200, warnLo := 1164, warnHi := 1236, faultLo := 1128, faultHi := 1272 }
  else if m = 22 then { nominal := 1800, warnLo := 1746, warnHi := 1854, faultLo := 1692, faultHi := 1908 }
  else { nominal := 3300, warnLo := 3201, warnHi := 3399, faultLo := 3102, faultHi := 3498 }
/-- A reading with the factory trims in use applied (R519, Table 22-7). -/
def trimTemp (s : State) (i : Nat) (v : Int) : Int :=
  if s.keeper.factoryTrims.isEmpty then v
  else clampInt (-32768) 32767 (v + toSigned 16 (u16At s.keeper.factoryTrims (2 * i)))
def trimVolt (s : State) (i v : Nat) : Nat :=
  if s.keeper.factoryTrims.isEmpty then v
  else
    let t := s.keeper.factoryTrims
    (clampInt 0 65535 (((v * u16At t (0x40 + 4 * i) / 16384 : Nat) : Int) + toSigned 16 (u16At t (0x42 + 4 * i)))).toNat
/-- A temperature reading: ALARM, HEALTH_TEMP and HONEY_TEMP_MAX (R520, R530). -/
def tempReading (i : Nat) (v : Int) (s : State) : State :=
  let k := s.keeper
  let was := bit k.tempAlarm i
  let say := fun (sev level : Nat) (s : State) => raise 0x0C30 sev i level (fromSigned 16 v) [s.sys.trusted] s
  let top := toSigned 16 (k.honey.getD (hoTemp i 132) 0)
  let s := if top < v then modKeeper (fun k => { k with honey := k.honey.put (hoTemp i 132) (fromSigned 16 v) }) s else s
  let s := if !was ∧ s.tWarn ≤ v then say sevW 1 (modKeeper (fun k => { k with tempAlarm := setBit k.tempAlarm i }) s) else s
  let s := if !bit k.crit i ∧ s.tCrit ≤ v then say sevE 2 (modKeeper (fun k => { k with crit := setBit k.crit i }) s) else s
  if was ∧ v < s.tWarn - 80 then
    say sevI 0 (modKeeper (fun k => { k with tempAlarm := clearBit k.tempAlarm i, crit := clearBit k.crit i }) s)
  else s
/-- A voltage reading: ALARM, excursions, extremes (R521, Table 22-5). -/
def voltReading (i v : Nat) (s : State) : State :=
  let w := railWindow i
  let old := s.keeper.volts.getD i w.nominal
  let warn := fun (x : Nat) => decide (x < w.warnLo ∨ w.warnHi < x)
  let bad := fun (x : Nat) => decide (x < w.faultLo ∨ w.faultHi < x)
  let s := if warn v && !warn old then honey (hoVolt i 0) s else s
  let s := if bad v && !bad old then honey (hoVolt i 4) s else s
  modKeeper (fun k =>
    let lo := k.honey.getD (hoVolt i 8) 0
    let hi := k.honey.getD (hoVolt i 10) 0
    let h := if lo = 0 ∨ v < lo then k.honey.put (hoVolt i 8) v else k.honey
    { k with
      honey := if hi < v then h.put (hoVolt i 10) v else h
      voltAlarm := if warn v then setBit k.voltAlarm i else clearBit k.voltAlarm i }) s
/-- Maximum of each rail, mW (Table 1-5). -/
def railMax : List Nat := [81000, 14000, 30000, 23000, 9000, 6000, 200, 1800]
/-- A power reading: the third in a row over the maximum is reported (R552, R553). -/
def railReading (i mw : Nat) (s : State) : State :=
  let run := if railMax.getD i 0 < mw then min 4 (s.keeper.overRun.getD i 0 + 1) else 0
  let s := modKeeper (fun k => { k with overRun := (List.range 8).map fun j => if j = i then run else k.overRun.getD j 0 }) s
  if run = 3 then raise 0x0D02 sevW i mw 0 s.functions s else s
/-- SENSOR_SAMPLE (R519, R551), on every tenth tick: raw readings, 1/16 °C and mV; power per rail, mW. -/
def execSensorSample (temps : List Int) (volts : List Nat) (railMw : List Nat) (s : State) : Host.Outcome State Fault Refusal :=
  .next (if !s.sys.ready ∨ s.sys.stage = .loader ∨ s.keeper.ticks % 10 ≠ 0 then s
  else
    let ts := (List.range 32).map fun i => trimTemp s i (temps.getD i 0)
    let vs := (List.range 24).map fun i => trimVolt s i (volts.getD i (railWindow i).nominal)
    let ps := (List.range 8).map fun i => railMw.getD i 0
    let s := (ts.zip (List.range 32)).foldl (fun s (e : Int × Nat) => tempReading e.2 e.1 s) s
    let s := (vs.zip (List.range 24)).foldl (fun s (e : Nat × Nat) => voltReading e.2 e.1 s) s
    let s := (ps.zip (List.range 8)).foldl (fun s (e : Nat × Nat) => railReading e.2 e.1 s) s
    modKeeper (fun k => { k with temps := ts, volts := vs, railMw := ps }) s)
def cmdHealthGetSensors : Cmd where
  op := 0x0C01
  len := lenIs 0
  reads := true
  named _ _ := none
  run _ s := .ok s (((List.range 32).flatMap fun i => leBytes 2 (fromSigned 16 (s.keeper.temps.getD i 0)))
    ++ ((List.range 24).flatMap fun i => b16 (s.keeper.volts.getD i 0)) ++ b64 (s.keeper.tempAlarm + 2 ^ 32 * s.keeper.voltAlarm))
/-- HEALTH_GET_SENSORS. -/
def execHealthGetSensors (f : Fn) (m : Mbx) (s : State) : Host.Outcome State Fault Refusal := .next (serve cmdHealthGetSensors f m s)

/-! ### Calibration record (R368, R526 to R529) -/

/-- Whether a record is valid (R527). -/
def calValid (c : List Byte) (serial : Nat) : Bool :=
  c.length == 65536 && u32At c 0 == 0x4143554C && u16At c 4 == 1 && u64At c 8 == serial
    && crc32c (c.take 0xFFFC) == u32At c 0xFFFC
/-- The record of flash comes into use (R527, Table 18-2); `trims`: at SYS_RST_N, when its factory trims do too. -/
def readCal (trims : Bool) (s : State) : State :=
  let c := if calValid s.trust.calFlash s.sys.serial then s.trust.calFlash else []
  let s := modKeeper (fun k => { k with cal := c }) s
  if trims then
    let factory := bit (u16At c 6) 0
    modKeeper (fun k => { k with factoryTrims := if factory then sliceAt c 0x40 0xFC0 else [], calDefaults := !factory }) s
  else s
def cmdCalRead : Cmd where
  op := 0x0C05
  len := lenIs 8
  reads := true
  named _ _ := none
  run r s := checked [(inR 0 2000 (r.u32 4), badField 4)] fun _ =>
    let c := if s.keeper.cal.isEmpty then zeros 65536 else s.keeper.cal
    .ok s ((c.drop (r.u32 0)).take (r.u32 4))
/-- CAL_READ (R527). -/
def execCalRead (f : Fn) (m : Mbx) (s : State) : Host.Outcome State Fault Refusal := .next (serve cmdCalRead f m s)
/-- Whether every byte of the record has been staged. -/
def allStaged (w : List (Nat × List Byte)) : Bool :=
  (List.range 65536).all fun i => w.any fun p => decide (p.1 ≤ i ∧ i < p.1 + p.2.length)
/-- The staged record. -/
def stagedCal (w : List (Nat × List Byte)) : List Byte :=
  w.foldl (fun (t : List Byte) (p : Nat × List Byte) => t.take p.1 ++ p.2 ++ t.drop (p.1 + p.2.length)) (zeros 65536)
def cmdCalWrite : Cmd where
  op := 0x0C06
  len b := decide (16 ≤ b.length) && b.length == 16 + u32At b 0xC
  reads := false
  named r s := firstFail [needTrusted r s]
  run r s :=
    let fl := r.u32 4
    let first := bit fl 0
    let off := r.u32 8
    let n := r.u32 0xC
    let old := s.staging.find? fun y => y.table == 3
    let others := s.staging.filter fun y => y.table != 3
    let writes := (if first then [] else (old.map (·.writes)).getD []) ++ [(off, r.body.drop 16)]
    let pool := sumList (others.map (·.size)) + s.fwBytes
    checked [(decide (4 ≤ fl) || first || old.isSome, failSt stState), (!bit fl 1 || !s.holds (.flashItem 2), failSt stBusy),
        (r.u32 0 == 3, badField 0), (decide (fl < 4), badField 4), (decide (off + n ≤ 65536), badField 8),
        (decide (n ≤ 1024), badField 0xC),
        (!bit fl 1 || (allStaged writes && crc32c ((stagedCal writes).take 0xFFFC) == u32At (stagedCal writes) 0xFFFC), badField 0x10),
        (!first || decide (pool + 65536 ≤ 2097152), noResource 10)] fun _ =>
      if bit fl 1 then
        let c := stagedCal writes
        .started (startFlash { item := 2, fn := r.fn, data := c, opts := none }
          (modKeeper (fun k => { k with cal := c }) { s with staging := others })) []
      else .ok { s with staging := others ++ [{ ctx := 256 + r.fn, table := 3, size := 65536, writes := writes }] } []
/-- CAL_WRITE (R171, R172, R368, R529). -/
def execCalWrite (f : Fn) (m : Mbx) (s : State) : Host.Outcome State Fault Refusal := .next (serve cmdCalWrite f m s)

end Sys2Proof.Machine
end

