-- ==== Sys2Proof/Machine/Power.lean ====
section
/-! DEFINITION. Device states: entry to DOZE and SLEEP, wakes, the status of power (24_power_clocks_sleep.md; R369), and
DEV_RESET. -/
namespace Sys2Proof.Machine

/-- The bonds and single lanes, by their lowest lane, that `p` accepts. -/
def State.headsWhere (s : State) (p : Lane → Bool) : List Nat := (List.range 96).filter fun l => s.head l == l && p (s.lane l)
/-- A camera lane: CAM_RX or CAM_TX. -/
def Lane.camera (v : Lane) : Bool := v.cfg.mode == .camRx || v.cfg.mode == .camTx
/-- Camera lanes in DATA whose exchange the entry starts (R544). -/
def State.entryLanes (s : State) (sleep : Bool) : List Nat :=
  s.headsWhere fun v => v.camera && v.train == .data && (v.power == .active || (sleep && v.power == .doze))
/-- Ethernet lanes that enter SLEEP with the device: all but the PTP slave port (R544, R55). -/
def State.entryEths (s : State) : List Nat :=
  (List.range 96).filter fun l => (s.lane l).cfg.mode == .ethCam && (s.lane l).power == .active && !(s.eth l).cfg.slave
/-- Every comb's clock stops (Table 24-3). -/
def gateCombs (s : State) : State :=
  (List.range 24).foldl (fun s k =>
    let b := s.comb k
    if b.state = .inUse ∧ !b.gated then modComb k (fun b => { b with gated := true, busyNs := b.busyNs + (s.now - b.busyFrom) }) s else s) s
/-- Every bank but flight and keeper enters retention (Table 24-3). -/
def retainBanks (s : State) : State := (List.range 60).foldl (fun s b => modBank b (fun x => { x with retention := true }) s) s
/-- Ethernet lanes that SLEEP moved are active in DOZE (R544). -/
def wakeEths (s : State) : State :=
  (s.power.moved.filter fun l => (s.lane l).cfg.mode == .ethCam).foldl (fun s l => wakeLane l
    { s with power := { s.power with moved := s.power.moved.filter (· != l) } }) s
/-- The device commits DOZE or SLEEP (R544 to R546). -/
def enterDevice (sleep : Bool) (wake : Nat) (s : State) : State :=
  let ask := s.entryLanes sleep
  let s := { modSys (fun y => { y with devState := if sleep then .sleep else .doze }) (gateCombs s) with
    power := { s.power with wakeMask := wake, entering := true, cause := 0, left := 0 } }
  let s := if sleep then
      let eths := s.entryEths
      let s := eths.foldl (fun s l => enterPower .sleep l s) s
      retainBanks { s with power := { s.power with moved := s.power.moved ++ eths } }
    else wakeEths (wakeBanks s)
  let s := ask.foldl (fun s h => askPower sleep h s) { s with power := { s.power with asked := s.power.asked ++ ask } }
  if sleep then saveHoney 2 s else s
def cmdPwrSetState : Cmd where
  op := 0x0D02
  len := lenIs 8
  reads := false
  named r s := firstFail [needTrusted r s]
  run r s :=
    let down := r.u32 0 == 1 || r.u32 0 == 2
    let busy := (s.ctxs.any fun e => e.2.state == .running || e.2.state == .stopping)
      || ((List.range 8).any fun v => (s.vp v).mode == .run || (s.vp v).mode == .test)
    checked [(!down || !s.mon.lostClocks.contains 5, failSt stHwFault), (!down || !busy, failSt stState), (inR 0 2 (r.u32 0), badField 0),
        (decide (r.u32 4 < 32), badField 4)] fun _ =>
      .ok (if r.u32 0 = 0 then wakeDevice 6 s else enterDevice (r.u32 0 == 2) (r.u32 4) s) []
/-- PWR_SET_STATE (R369, R511, R544 to R547). -/
def execPwrSetState (f : Fn) (m : Mbx) (s : State) : Host.Outcome State Fault Refusal := .next (serve cmdPwrSetState f m s)
/-- PWR_ENTRY_DONE (R545, R553): lanes that have not answered stay ACTIVE. -/
def execPwrEntryDone (t : Nat) (s : State) : Host.Outcome State Fault Refusal :=
  let s := advTo t s
  .next (if s.power.entering ∧ s.sys.devState ≠ .run then
    let n := s.power.left + s.power.asked.length
    raisePower 0 n { s with power := { s.power with entering := false, asked := [], left := n } }
  else s)
/-- PWR_WAKE (R547, R548): a wake source of Table 24-4 that WAKE names; there is no sixth one. -/
def execPwrWake (cause : Fin 6) (t : Nat) (s : State) : Host.Outcome State Fault Refusal :=
  let s := advTo t s
  .next (if cause.val < 5 ∧ bit s.power.wakeMask cause.val then wakeDevice (cause.val + 1) s else s)
/-- Whether comb `k`'s clock stands still (R143, R145, Table 24-3). -/
def State.combGated (s : State) (k : Nat) : Bool := (s.comb k).gated || (s.comb k).state != .inUse
def cmdPwrGetStatus : Cmd where
  op := 0x0D03
  len := lenIs 0
  reads := true
  named _ _ := none
  run _ s :=
    let lanes := fun (p : LanePower) => b8 ((List.range 96).filter fun l => (s.lane l).power == p).length
    let rails := (List.range 8).map fun i => s.keeper.railMw.getD i 0
    .ok s (b8 (devCode s.sys.devState) ++ zeros 3 ++ b32 (mapOf 24 s.combGated)
      ++ lanes .active ++ lanes .doze ++ lanes .sleep ++ lanes .off ++ b32 0
      ++ b64 (mapOf 62 fun b => (s.bank b).retention) ++ rails.flatMap b32 ++ b32 (sumList rails))
/-- PWR_GET_STATUS (R544, R551). -/
def execPwrGetStatus (f : Fn) (m : Mbx) (s : State) : Host.Outcome State Fault Refusal := .next (serve cmdPwrGetStatus f m s)
def cmdDevReset : Cmd where
  op := 0x0D04
  len := lenIs 4
  reads := false
  named r s := firstFail [needTrusted r s]
  run r s := checked [(inR 0 1 (r.u32 0), badField 0)] fun _ => .ok (resetLater (r.u32 0) 100000 s) []
/-- DEV_RESET (R369): begins 100 µs after its answer. -/
def execDevReset (f : Fn) (m : Mbx) (s : State) : Host.Outcome State Fault Refusal := .next (serve cmdDevReset f m s)

end Sys2Proof.Machine
end

