-- ==== Sys2Proof/Machine/Boot.lean ====
section
/-! DEFINITION. Resets of the device, its boot and the restarts of its keeper (18_resets_and_bring_up.md; R13, R332, R355,
R472, R477, R483, R486, R515). What KEEPER_READY does is in Restart.lean, after the hive messages that waited for it. -/
namespace Sys2Proof.Machine

/-! ### What every reset of the device does -/

/-- DEVICE_PHASE codes of Table 22-4. -/
def phaseCode : Phase → Nat
  | .normal => 0 | .startUp => 1 | .test => 2 | .recovery => 3
/-- DEVICE_PHASE changes; each change is logged (R492). -/
def setPhase (p : Phase) (s : State) : State :=
  if s.sys.phase = p then s else logNow 0x0C82 sevI (phaseCode p) 0 0 (modSys (fun y => { y with phase := p }) s)
/-- READY falls (R13, R332): READY_DOWN on every function. -/
def readyFalls (s : State) : State :=
  if s.sys.ready then setIntxAll intxReadyDown (modSys (fun y => { y with ready := false }) s) else s
/-- Flash writes of commands end without their events; whether one had come to its end is open, but an owner policy cut
short leaves the earlier one (R355, R368, R482). -/
def cutFlash (s : State) : State :=
  s.trust.flashWrites.foldl (fun s w =>
    let fin := Config.cutWrite s.freeCtr
    bumpFree (modTrust (fun t => { t with
      opts := if w.item = 1 ∧ fin then w.opts else t.opts
      calFlash := if w.item = 2 then (if fin then w.data else []) else t.calFlash }) s))
    (modTrust (fun t => { t with flashWrites := [] }) s)
/-- Ports that send frames stop (R264): every driver board closes its valves. -/
def stopPorts (s : State) : State :=
  (List.range 8).foldl (fun s v => if (s.vp v).lastT.isSome ∧ !(s.vp v).failed then emit (.valveStop v) s else s) s
/-- Lane `l` stops sending. -/
def quietLane (s : State) (l : Nat) : State := if (s.lane l).power = .off ∨ (s.lane l).power = .sleep then s else emit (.laneIdle l) s
/-- What stays of an encoder, an emulation output and a pin when they take their defaults: the levels at the balls. -/
def bareEnc (e : Nat × Enc) : Nat × Enc := (e.1, { a := e.2.a, b := e.2.b })
def barePin (p : Nat × Pin) : Nat × Pin := (p.1, { level := p.2.level })
/-- The clock and supply faults that remain are detected again (R515). -/
def redetect (s : State) : State :=
  let s := s.mon.lostClocks.foldl (fun s c => detectFault clsClock c s) s
  let s := if s.mon.lostClocks.contains 0 then { s with mon := { s.mon with holdoverUntil := some (s.now + 10000000000) } } else s
  s.mon.faultRails.foldl (fun s r => detectFault clsSupply (min r 7) s) s

/-! ### SYS_RST_N and the full reset by the hive (R455, R456, Table 18-2) -/

/-- The device in reset: everything at its reset value but the OTP, flash, the always-on domain, the levels at the balls and
what the banks hold in error (Table 18-2, R468, R543). Honey counters since the last save are lost, the always-on counts
are not. -/
def wipe (s : State) : State :=
  let s := cutFlash (settleAon (addSeconds s))
  let k := s.keeper
  let kept := k.snap.filter fun e => e.1 != hoPowerOnSeconds && e.1 != hoPowerCycles
  let aon := k.honey.filter fun e => e.1 == hoPowerOnSeconds || e.1 == hoPowerCycles
  let s := (s.lanes.map (·.1)).foldl quietLane (stopPorts s)
  let s := s.hps.foldl (fun s e => if e.2.wake then emit (.wake e.1 false) s else s) s
  let s := if s.faultBits = 0 then s else emit (.alertN false) s
  let keeper : Keeper :=
    { logBase := k.logBase, log := k.log, honey := aon ++ kept, snap := k.snap, saveSeq := k.saveSeq, savedAt := k.savedAt
      saveReason := k.saveReason, lastFaultSave := none }
  let t := s.trust
  let trust : Trust :=
    { slotA := t.slotA, slotB := t.slotB, opts := t.opts, ownerHash := t.ownerHash, fuses := t.fuses, policyFlash := t.policyFlash
      calFlash := t.calFlash, activated := t.activated, jtag := t.jtag }
  { State.reset with
    pending := s.pending
    out := s.out
    freeCtr := s.freeCtr
    sys := { gradeI := s.sys.gradeI, serial := s.sys.serial }
    keeper := keeper
    mon := { s.mon with aonAt := 0, holdoverUntil := none, unguaranteed := false, valvesStopped := false }
    trust := trust
    banks := s.banks.filterMap fun e => if e.2.injected.isEmpty then none else some (e.1, { injected := e.2.injected })
    hps := s.hps.map fun e => (e.1, { perst := e.2.perst })
    hive := { ids := s.hive.ids }
    encs := s.encs.map bareEnc
    pins := s.pins.map barePin }
/-- SYS_RST_N_ASSERT (R455, R569): shorter than 1 µs it is filtered out. -/
def execSysRstNAssert (lengthNs : Nat) (s : State) : Host.Outcome State Fault Refusal :=
  .next (if lengthNs < 1000 ∨ s.sys.stage = .held then s else wipe (honey (hoReset 0) s))
/-- ROLE 0b11 is treated as 0b00 (Table 17-1). -/
def standaloneRole (x : Straps) : Bool := x.role % 4 == 0 || x.role % 4 == 3 || x.compat
/-- The straps are sampled, hive time starts at 0 and the boot ROM starts (R375, R430, R456, R458). -/
def releaseReset (kind : Nat) (straps : Straps) (s : State) : State :=
  let x : Straps := { role := straps.role % 4, compat := straps.compat, bootSel := straps.bootSel % 4 }
  let s := settleAon s
  let s := { modSys (fun y => { y with stage := .rom, straps := x, resetKind := kind }) s with
    clock := {}, mon := { s.mon with aonAt := 0 }, hive := { s.hive with state := if standaloneRole x then .standalone else .joining } }
  let s := logNow 0x0C82 sevI (phaseCode .startUp) 0 0 s
  let s := if x.role = 3 then logNow 0x0C83 sevW 1 0 0 s else s
  redetect (if x.bootSel = 3 then logNow 0x0C83 sevW 2 0 0 s else s)
/-- SYS_RST_N_RELEASE (R456, R458). A tripped device does not come up (R580). -/
def execSysRstNRelease (straps : Straps) (s : State) : Host.Outcome State Fault Refusal :=
  .next (if s.sys.stage = .held ∧ !s.mon.tripped then releaseReset 0 straps s else s)
/-- FULL_RESET_BY_HIVE (R455, R466): as SYS_RST_N, with the straps sampled again. -/
def execFullResetByHive (straps : Straps) (s : State) : Host.Outcome State Fault Refusal :=
  .next (match s.sys.later with
  | some x => if x.kind = 3 then releaseReset 1 straps (wipe (honey (hoReset 3) (advTo x.due s))) else s
  | none => s)

/-! ### Boot (R270, R457 to R460, R472, R533) -/

/-- Units of 1,024 queue IDs of each function by default (R299, R533). -/
def defaultPart (compat m01 m23 : Bool) : List Nat :=
  let n := if compat then 1 else 16
  [if m01 then 2 * n else n, if m01 then 0 else n, if m23 then 2 * n else n, if m23 then 0 else n]
/-- BOOT_OPTIONS_READ (R270, R458): options that cannot be read are no valid ones. -/
def execBootOptionsRead (readable : Bool) (s : State) : Host.Outcome State Fault Refusal :=
  .next (if s.sys.stage = .rom then
    let s := if readable ∨ s.trust.opts.isNone then s else detectFault clsFlash 2 (modTrust (fun t => { t with opts := none }) s)
    let merge := if s.sys.straps.bootSel = 2 then 0 else (s.trust.opts.map (·.merge)).getD 0
    let ids := (s.trust.opts.map fun o => (o.subVendor, o.subId)).getD (0x1F7E, 0)
    let s := modSys (fun y => { y with
      stage := .options, merge01 := bit merge 0, merge23 := bit merge 1, subVendor := ids.1, subId := ids.2
      qPart := defaultPart y.straps.compat (bit merge 0) (bit merge 1) }) s
    [0, 1, 2, 3].foldl (fun s f => beginTraining f s) s
  else s)
/-- The status that the boot ROM finds for a slot (R457, R472). -/
def State.slotStatus (s : State) (n : Nat) : Nat := imageStatus (slotSize n) s.trust.fuseSvn (readBack (s.trust.slot n).image)
/-- The slot that R457 takes first: BOOT_SLOT, or of the valid ones the newer, A where they are equal. -/
def State.firstSlot (s : State) : Nat :=
  let b := s.trust.preferred
  if b < 2 then b
  else if s.slotStatus 0 ≠ stOk then 1
  else if s.slotStatus 1 ≠ stOk then 0
  else if imgVersion (s.trust.slot 0).image < imgVersion (s.trust.slot 1).image then 1 else 0
/-- The slot to boot, and the one refused before it with its status (R457, R472); `readOk`: the body of the first slot read
has its digest. -/
def State.bootChoice (s : State) (readOk : Bool) : Option Nat × Option (Nat × Nat) :=
  let a := s.firstSlot
  let sa := if s.slotStatus a = stOk ∧ !readOk then stAuthFail else s.slotStatus a
  if sa = stOk then (some a, none)
  else (if s.slotStatus (1 - a) = stOk then some (1 - a) else none, some (a, sa))
/-- The loader serves HP0 (R459). -/
def enterLoader (s : State) : State :=
  let s := setPhase .normal (modSys (fun y => { y with stage := .loader, ready := true, trusted := 0, base := 0 }) s)
  rdRewrite 0 (setIntx 0 intxReadyUp s)
/-- The keeper starts on the image of a slot (R472). -/
def startImage (slot : Nat) (s : State) : State :=
  modTrust (fun t => { t with running := readBack (t.slot slot).image }) (modSys (fun y => { y with slot := slot }) s)
/-- BOOT_IMAGE_LOADED (R457, R459, R460, R472). -/
def execBootImageLoaded (readOk : Bool) (s : State) : Host.Outcome State Fault Refusal :=
  .next (if s.sys.stage = .options then
    if s.sys.straps.bootSel = 2 then enterLoader s
    else match s.bootChoice readOk with
      | (some n, refused) =>
        startImage n (modSys (fun y => { y with stage := .starting })
          (modTrust (fun t => { t with fallback := refused.map fun r => (n, r.1, r.2) }) s))
      | (none, _) =>
        if s.sys.straps.bootSel = 1 then enterLoader s
        else detectFault clsFlash s.firstSlot (modSys (fun y => { y with stage := .noFirmware }) s)
  else s)

/-! ### Keeper restart (R13, R332, R355, R365, R465, R480, Table 18-2) -/

/-- CAUSE of KEEPER_RESTART (Table 22-4). -/
def causeCode : RestartCause → Nat
  | .command => 1 | .fwActivate => 2 | .lockstep => 3 | .bankEcc => 4 | .jtagHalt => 5
/-- What the keeper alone held is gone: staging copies and firmware pieces, writes of slots, distributions and device resets
(R172, R355), SPDM connections (R480). -/
def keeperForgets (s : State) : State :=
  let s := modTrust (fun t => { t with writing := [], spdm := [] })
    (modSys (fun y => { y with
      fwWaiting := []
      holding := y.holding.filter fun h => match h with
        | .fwSlot _ | .distribute | .device _ => false
        | _ => true }) { s with staging := [], waiting := none })
  let told := s.hive.update.isSome
  let s := modHive (fun h => { h with dist := none, resets := [], update := none, remote := none }) s
  if told then sendResult stHwFault [] s else s
/-- The keeper restarts; the datapath goes on (R465). -/
def restartKeeper (cause : RestartCause) (s : State) : State :=
  let s := logNow 0x0C81 sevW (causeCode cause) 0 0 (honey (hoReset 2) s)
  let s := keeperForgets (readyFalls s)
  let s := modSys (fun y => { y with
    stage := .restarting
    later := match y.later with
      | some x => if x.kind = 1 ∨ x.kind = 2 then none else some x
      | none => none }) (modKeeper (fun k => { k with asleep := false }) s)
  match s.trust.nextSlot with
  | some n => startImage n (modTrust (fun t => { t with nextSlot := none }) s)
  | none => s
/-- KEEPER_RESTART: a restart that was answered for and is due, or the end of a halt through JTAG (R365, R369, R486). Restarts
for a keeper fault are KEEPER_FAULT. -/
def execKeeperRestart (cause : RestartCause) (t : Nat) (s : State) : Host.Outcome State Fault Refusal :=
  let due := fun (kind : Nat) => match s.sys.later with
    | some x => if x.kind = kind then restartKeeper cause (advTo x.due s) else s
    | none => s
  .next (match cause with
  | .command => due 1
  | .fwActivate => due 2
  | .jtagHalt =>
    if s.trust.halted ∧ s.trust.jtag ≠ 0x80 then restartKeeper cause (modTrust (fun t => { t with halted := false }) (advTo t s)) else s
  | .lockstep | .bankEcc => s)
/-- The third keeper fault of a trial: the restart goes into the other slot where that is valid (R477). -/
def trialFault (s : State) : State :=
  match s.trust.trial with
  | none => s
  | some x =>
    let other := 1 - s.sys.slot
    if 3 ≤ x.faults + 1 ∧ s.sys.slot < 2 ∧ (s.trust.slot other).valid then
      modTrust (fun t => { t with trial := none, nextSlot := some other, reverted := some s.sys.slot }) s
    else modTrust (fun t => { t with trial := some { x with faults := x.faults + 1 } }) s
/-- A keeper fault (R477, R509): the keeper restarts at once. -/
def keeperFault (bank : Bool) (s : State) : State :=
  restartKeeper (if bank then .bankEcc else .lockstep) (trialFault (detectFault clsKeeper 0 s))
/-- Whether the keeper runs its firmware. -/
def State.keeperRuns (s : State) : Bool := s.sys.stage == .running || s.sys.stage == .restarting || s.sys.stage == .starting
/-- KEEPER_FAULT. -/
def execKeeperFault (bank : Bool) (t : Nat) (s : State) : Host.Outcome State Fault Refusal :=
  let s := advTo t s
  .next (if s.keeperRuns then keeperFault bank s else s)
/-- FW_TRIAL_END (R477): READY has held for 10 minutes. -/
def execFwTrialEnd (s : State) : Host.Outcome State Fault Refusal :=
  .next (match s.trust.trial with
  | some x => if s.sys.ready then modTrust (fun t => { t with trial := none }) (advTo (x.since + 600000000000) s) else s
  | none => s)

/-! ### JTAG (R486, R492) -/

/-- The instruction that takes effect: a private one acts as BYPASS while the device is locked (Table 19-8). -/
def jtagEffect (s : State) (code : Nat) : Nat :=
  if code ≤ 2 ∨ ((code = 0x80 ∨ code = 0x81) ∧ s.trust.debug ≠ 0) then code else 0xFF
/-- JTAG_INSTRUCTION (R486, R492): KEEPER_DEBUG halts the keeper, whose release is KEEPER_RESTART; BANK_ACCESS is phase
TEST. -/
def execJtagInstruction (code : BitVec 8) (s : State) : Host.Outcome State Fault Refusal :=
  let e := jtagEffect s code.toNat
  let s := emit (.jtag e) (modTrust (fun t => { t with jtag := code.toNat }) s)
  .next (if e = 0x80 ∧ s.keeperRuns ∧ !s.trust.halted then
    modSys (fun y => { y with stage := .restarting }) (readyFalls (modTrust (fun t => { t with halted := true }) s))
  else if e = 0x81 then (if s.sys.phase = .normal then setPhase .test s else s)
  else if s.sys.phase = .test then setPhase .normal s
  else s)

/-! ### Soft device reset (R464, Table 18-2) -/

/-- A lane leaves the datapath with a soft reset unless it is a hive lane. -/
def softLane (s : State) (l : Nat) : State :=
  if (s.lane l).cfg.mode = .hive then
    modLink l (fun k => { k with counts := [], prbs := none }) (modLane l (fun v => { v with counts := [] }) s)
  else
    let s := quietLane s l
    laneLeft l { s with lanes := s.lanes.erase l, links := s.links.erase l, eths := s.eths.erase l }
/-- What the reset leaves of a function's port: its link, configuration space, INTx registers and port counters. -/
def softPort (h : HostPort) : HostPort :=
  { h with
    held := [], ats := [], wins := [], reads := h.reads.map fun r => { r with why := .dead }
    counts := cntClear h.counts HpCnt.queueErr.ctorIdx 4 }
/-- A unit that passed the keeper's test leaves FAILED, and its fault is resolved (Table 21-2). -/
def passed (cls u : Nat) (s : State) : State :=
  if s.faults.any fun x => x.cls == cls && x.unit == u then resolveFault cls u s else s
/-- The combs, assemblers and valve ports after the reset: those that failed and did not pass stay FAILED (R149, R464). -/
def softUnits (combs asms ports : List Nat) (s : State) : State :=
  let badCombs := (List.range 24).filter fun k => (s.comb k).state == .failed && !combs.contains k
  let badAsms := (List.range 8).filter fun a => (s.asm a).failed && !asms.contains a
  let badPorts := (List.range 8).filter fun v => (s.vp v).failed && !ports.contains v
  let s := { s with
    combs := badCombs.map fun k => (k, { state := .failed })
    asms := badAsms.map fun a => (a, { failed := true })
    vps := badPorts.map fun v => (v, { failed := true }) }
  let s := badCombs.foldl (fun s k => setOwner .comb k ownKeeper s) s
  let ok := fun (cls n : Nat) (bad : List Nat) (s : State) => ((List.range n).filter fun u => !bad.contains u).foldl (fun s u => passed cls u s) s
  ok clsValve 8 badPorts (ok clsAsm 8 badAsms (ok clsComb 24 badCombs s))
/-- The datapath returns to the state of Table 18-2. -/
def softDatapath (combs asms ports : List Nat) (s : State) : State :=
  let s := (s.lanes.map (·.1)).foldl softLane (stopPorts s)
  let s := (List.range 24).foldl (fun s q => pllTrim q s) s
  let s := { wakeBanks s with
    pace := [], power := {}, window := none, hps := s.hps.map fun e => (e.1, softPort e.2), queues := [], ctxs := [], parts := []
    stitches := [], frags := [], fragIds := 0, pgs := [], pgCounts := [], ctxSteer := [], pend := [], flight := {}
    encs := s.encs.map bareEnc, emus := [], pins := s.pins.map barePin, wag := {} }
  setValid .ptp false (softUnits combs asms ports
    (modSys (fun y => { y with devState := .run, base := y.trusted, owners := [], holding := [], later := none }) s))
/-- SOFT_DEVICE_RESET (R464, R355): `t` is when READY is 1 again. -/
def execSoftDeviceReset (combsPass asmsPass portsPass : List Nat) (t : Nat) (s : State) : Host.Outcome State Fault Refusal :=
  .next (match s.sys.later with
  | none => s
  | some x =>
    if x.kind ≠ 0 ∨ !s.keeperRuns then s
    else
      let s := setPhase .recovery (advTo x.due s)
      let s := saveHoney 2 (honey (hoReset 1) s)
      let s := cutFlash (keeperForgets (readyFalls s))
      let s := softDatapath combsPass asmsPass portsPass s
      let s := readCal false { s with goOrder := [] }
      let s := [0, 1, 2, 3].foldl (fun s f => endMailboxes f s) s
      let s := advTo t s
      let s := modTrust (fun y => { y with trial := y.trial.map fun z => { z with since := s.now } }) s
      setPhase .normal (rdRefresh (setIntxAll intxReadyUp (modSys (fun y => { y with ready := true, stage := .running }) s))))

end Sys2Proof.Machine
end

