-- ==== Sys2Proof/Machine/Eth.lean ====
section
/-! DEFINITION. The Ethernet camera ports (04_ethernet_camera_ports.md): received frames, the keeper's answers, stream
channels and PTP. -/
namespace Sys2Proof.Machine

/-! ### Frames (R92 to R97) -/

/-- A number of `n` bytes in network order at offset `o`. -/
def beAt (b : List Byte) (o : Nat) : Nat → Nat
  | 0 => 0
  | n + 1 => 256 ^ n * byteAt b o + beAt b (o + 1) n
/-- The `n` bytes of `v` in network order. -/
def beBytes (n v : Nat) : List Byte := (leBytes n v).reverse
/-- The sum of R96's checksums: one's complement over 16-bit words. -/
def onesSum : List Byte → Nat → Nat
  | [], a => a
  | [x], a => a + 256 * x.toNat
  | x :: y :: r, a => onesSum r (a + 256 * x.toNat + y.toNat)
/-- The sum folded to 16 bits. -/
def foldSum (a : Nat) : Nat :=
  let f := fun (a : Nat) => a % 65536 + a / 65536
  f (f (f a))
/-- Whether an Ethernet port's link is up. -/
def State.ethUp (s : State) (l : Nat) : Bool := (s.lane l).cfg.mode == .ethCam && (s.eth l).linkUp
/-- The MAC address of an IPv4 multicast group (R93). -/
def groupMac (ip : Nat) : Nat := 0x01005E000000 + ip % 2 ^ 23
/-- R93. -/
def EthCfg.takesMac (c : EthCfg) (m : Nat) : Bool :=
  m == c.mac || m == 2 ^ 48 - 1 || m == 0x01005E000181 || (c.mcast.any fun g => g != 0 && groupMac g == m)
/-- R96's destinations. -/
def EthCfg.takesIp (c : EthCfg) (ip : Nat) : Bool :=
  ip == c.ip || ip == 2 ^ 32 - 1 || ip == (c.ip &&& c.mask) + (2 ^ 32 - 1 - c.mask) || (c.mcast.any fun g => g != 0 && g == ip)
/-- An IPv4 datagram behind its Ethernet header. -/
structure Datagram where
  ihl : Nat
  total : Nat
  proto : Nat
  src : Nat
  dst : Nat
  body : List Byte
/-- The datagram of a frame's payload, where its header is one (R96). -/
def datagram (d : List Byte) : Option Datagram :=
  let ihl := byteAt d 0 % 16
  let total := beAt d 2 2
  let frag := beAt d 6 2
  if byteAt d 0 / 16 = 4 ∧ 5 ≤ ihl ∧ 4 * ihl ≤ total ∧ total ≤ d.length ∧ foldSum (onesSum (d.take (4 * ihl)) 0) = 65535
      ∧ frag % 16384 = 0 then
    some { ihl := ihl, total := total, proto := byteAt d 9, src := beAt d 12 4, dst := beAt d 16 4
           body := (d.take total).drop (4 * ihl) }
  else none
/-- Whether a UDP datagram is whole, with a checksum of 0 or a correct one (R96). -/
def udpOk (g : Datagram) : Bool :=
  let n := beAt g.body 4 2
  decide (8 ≤ n ∧ n ≤ g.body.length) && (beAt g.body 6 2 == 0
    || foldSum (onesSum (beBytes 4 g.src ++ beBytes 4 g.dst ++ beBytes 2 17 ++ beBytes 2 n ++ g.body.take n) 0) == 65535)
/-- UDP destination port, none for another protocol. -/
def Datagram.port (g : Datagram) : Option Nat := if g.proto = 17 then some (beAt g.body 2 2) else none
/-- R96 for a datagram. -/
def EthCfg.takesDatagram (c : EthCfg) (g : Datagram) : Bool :=
  let ptp := match g.port with | some p => p == 319 || p == 320 | none => false
  (c.takesIp g.dst || (ptp && g.dst == 0xE0000181)) && (g.proto != 17 || udpOk g)
/-- Rows of Table 4-2. -/
inductive Dispatch where
  | gvsp
  | ptp
  | keeper (k : KeeperFrame)
  | tunnel
/-- Table 4-2 for an accepted frame, its payload `d` behind EtherType `et`. -/
def dispatch (c : EthCfg) (frame : List Byte) (et : Nat) (d : List Byte) (g : Option Datagram) : Dispatch :=
  match g with
  | some g =>
    match g.port with
    | some p =>
      if c.channels.any fun x => x.udpPort != 0 && x.udpPort == p && x.sourceIp == g.src then .gvsp
      else if p = 319 ∨ p = 320 then .ptp
      else .tunnel
    | none =>
      if g.proto = 1 ∧ byteAt g.body 0 = 8 ∧ g.dst = c.ip ∧ g.total ≤ 1500 then .keeper (.echo frame) else .tunnel
  | none =>
    if et = 0x0806 ∧ beAt d 6 2 = 1 ∧ beAt d 24 4 = c.ip then .keeper (.arp (beAt d 8 6) (beAt d 14 4)) else .tunnel

/-- The TUNNEL_IN queue open for lane `l`: that bound to it, else that bound to ALL (Tables 4-2, 11-2). -/
def State.tunnelIn (s : State) (l : Nat) : Option Nat :=
  let o := s.ownerOf .lane l
  let ok := fun (w : Nat) (e : Nat × Queue) =>
    e.2.kind == qtTunnelIn && e.2.owner == o && e.2.state == .enabled && e.2.settings.lane == w
  if !s.available o then none
  else match s.queues.find? (ok l) with
    | some e => some e.1
    | none => (s.queues.find? (ok wordNone)).map (·.1)
/-- A frame goes to the tunnel (R97, Table 11-4). -/
def tunnelFrame (l : Nat) (frame : List Byte) (s : State) : State :=
  match s.tunnelIn l with
  | none => countEth l .tunnelDrop s
  | some q =>
    match s.queue q with
    | none => s
    | some v =>
      if v.cplFull then countQ q .nobuf (countCplFull q s)
      else match takeDesc q s with
        | (none, s) => countQ q .nobuf s
        | (some (slot, desc), s) =>
          let n := min frame.length (descLen desc)
          let short := decide (n < frame.length)
          let s1 := dma v.owner q (.write (descAddr desc) (frame.take n)) s
          let s2 := if short then countQ q .bufTrunc s1 else s1
          fetchMore q (complete q slot
            (cplBytes slot (if short then cstTruncated else cstOk) 1 (descTag desc) n l 0 s.now) s2)
/-- A frame that passed R94, its tag removed. -/
def takeEthFrame (l : Nat) (frame : List Byte) (s : State) : State :=
  let c := (s.eth l).cfg
  let et := beAt frame 12 2
  let d := frame.drop 14
  let go := fun (g : Option Datagram) => match dispatch c frame et d g with
    | .gvsp | .ptp => s
    | .keeper k => if s.sys.ready then modEth l (fun e => { e with answers := e.answers ++ [k] }) s else s
    | .tunnel => tunnelFrame l frame s
  if et = 0x0806 then go none
  else if et = 0x0800 then
    match datagram d with
    | some g => if c.takesDatagram g then go (some g) else countEth l .drop s
    | none => countEth l .drop s
  else countEth l .drop s
/-- ETH_FRAME_RECEIVED: `frame` from destination address to FCS (R92 to R97). GVSP packets and PTP messages go to their
engines, whose rows say what they do with them. -/
def execEthFrameReceived (l : LaneId) (frame : List Byte) (fcsOk fecOk : Bool) (t : Nat) (s : State) :
    Host.Outcome State Fault Refusal :=
  let s := advTo t s
  .next (if !s.ethUp l then s
  else if !fecOk then honeyN 64 (hoLane l 0x10) 1 (countLink l .uncorr s)
  else if frame.length < 64 ∨ 16128 < frame.length ∨ !fcsOk then countEth l .rxErr s
  else
    let f := frame.take (frame.length - 4)
    let et := beAt f 12 2
    let inner := beAt f 16 2
    if et = 0x8808 ∨ (et = 0x8100 ∧ inner = 0x8808) then countEth l .drop s
    else if !(s.eth l).cfg.takesMac (beAt f 0 6) then s
    else if et = 0x88A8 then countEth l .drop s
    else if et = 0x8100 then
      if inner = 0x8100 ∨ inner = 0x88A8 then countEth l .drop s else takeEthFrame l (f.take 12 ++ f.drop 16) s
    else takeEthFrame l f s)

/-- ETH_LINK_UP (R42, R55): the port's link is up and its fault is on its way to be resolved. -/
def execEthLinkUp (l : LaneId) (t : Nat) (s : State) : Host.Outcome State Fault Refusal :=
  let s := advTo t s
  let v := s.lane l
  .next (if v.cfg.mode = .ethCam ∧ v.power = .active ∧ v.train ≠ .pll ∧ !(s.eth l).linkUp then
    faultOk (s.laneClass l) l (some s.now)
      (modLane l (fun v => { v with dataAt := s.now }) (modEth l (fun e => { e with linkUp := true }) s))
  else s)

/-- The reply to an echo request: addresses exchanged, type 0, checksum recomputed. -/
def echoReply (f : List Byte) : List Byte :=
  let h := 14 + 4 * (byteAt f 14 % 16)
  let n := 14 + beAt f 16 2
  let data := (f.take n).drop (h + 4)
  let sum := 65535 - foldSum (onesSum ([0, 0, 0, 0] ++ data) 0)
  sliceAt f 6 6 ++ sliceAt f 0 6 ++ sliceAt f 12 14 ++ sliceAt f 30 4 ++ sliceAt f 26 4 ++ (f.take h).drop 34 ++ [0, 0] ++ beBytes 2 sum ++ data
/-- The reply to an ARP request. -/
def arpReply (c : EthCfg) (mac ip : Nat) : List Byte :=
  beBytes 6 mac ++ beBytes 6 c.mac ++ beBytes 2 0x0806 ++ beBytes 2 1 ++ beBytes 2 0x0800 ++ beBytes 1 6 ++ beBytes 1 4
    ++ beBytes 2 2 ++ beBytes 6 c.mac ++ beBytes 4 c.ip ++ beBytes 6 mac ++ beBytes 4 ip
/-- A frame leaves, padded to 60 B, with its FCS. -/
def sendEth (l : Nat) (f : List Byte) (s : State) : State :=
  let f := f ++ zeros (60 - f.length)
  emit (.ethFrame l (f ++ b32 (fcs32 f))) s
/-- Instants of the last second. -/
def lastSecond (now : Nat) (l : List Nat) : List Nat := l.filter fun t => decide (now < t + 1000000000)
/-- ARP_ICMP_ANSWER (Table 4-2): the keeper answers the first waiting request, at most 100 echoes a second. -/
def execArpIcmpAnswer (l : LaneId) (t : Nat) (s : State) : Host.Outcome State Fault Refusal :=
  let s := advTo t s
  let e := s.eth l
  .next (if !s.ethUp l ∨ !s.sys.ready then s
  else match e.answers with
    | [] => s
    | k :: r =>
      let s1 := modEth l (fun e => { e with answers := r }) s
      match k with
      | .arp mac ip => sendEth l (arpReply e.cfg mac ip) s1
      | .echo f =>
        let near := lastSecond s.now e.echoAt
        if near.length < 100 then sendEth l (echoReply f) (modEth l (fun e => { e with echoAt := near ++ [s.now] }) s1)
        else countEth l .drop s1)

/-! ### Stream channels (R100 to R109) -/

/-- A channel's counter counts `n`. -/
def countStreamN (l ch : Nat) (k : StreamCnt) (n : Nat) (s : State) : State :=
  if n = 0 then s
  else modEth l (fun e =>
    let v := e.streams.getD ch {}
    { e with streams := e.streams.put ch { v with counts := countN 32 v.counts k.ctorIdx n } }) s
/-- It counts one. -/
def countStream (l ch : Nat) (k : StreamCnt) (s : State) : State := countStreamN l ch k 1 s
/-- Change a stream's receiver. -/
def modStream (l ch : Nat) (g : Stream → Stream) (s : State) : State :=
  modEth l (fun e => { e with streams := e.streams.put ch (g (e.streams.getD ch {})) }) s
/-- A stream's receiver. -/
def State.stream (s : State) (l ch : Nat) : Stream := (s.eth l).streams.getD ch {}
/-- The context bound to a channel (R100, R121). -/
def State.channelCtx (s : State) (l ch : Nat) : Option Nat :=
  (s.ctxs.find? fun e => e.2.lane == l && e.2.channel == some ch && e.2.kind != .passthru).map (·.1)

/-- Significant bits of a pixel, and bits it occupies (Table 4-4). -/
def gvspDepth : GvspFormat → Nat × Nat
  | .mono b .whole => (b, if b = 8 then 8 else 16)
  | .mono b .p => (b, b)
  | .mono b .packed => (b, 12)
  | .rgb8 | .bgr8 => (8, 24)
  | .other => (0, 8)
/-- Whether the part accepts the format (Table 4-4). -/
def gvspKnown : GvspFormat → Bool
  | .other => false
  | _ => true
/-- Pixel `j` of a part from its bytes `d`, which begin at byte `o` of the part; `c` is the colour. -/
def pixelOf (f : GvspFormat) (d : List Byte) (o j c : Nat) : Nat :=
  match f with
  | .mono 8 .whole => byteAt d (j - o)
  | .mono b .whole => u16At d (2 * j - o) % 2 ^ b
  | .mono b .p => streamBits d (j * b - 8 * o) b
  | .mono b .packed =>
    let k := 3 * (j / 2) - o
    let low := byteAt d (k + 1)
    if j % 2 = 0 then byteAt d k * 2 ^ (b - 8) + low % 2 ^ (b - 8)
    else byteAt d (k + 2) * 2 ^ (b - 8) + low / 16 % 2 ^ (b - 8)
  | .rgb8 => byteAt d (3 * j + c - o)
  | .bgr8 => byteAt d (3 * j + (2 - c) - o)
  | .other => 0
/-- First byte of line `y` of a part and the byte after its last (R103); a packed pair lies whole in its line's bytes. -/
def PartBuf.lineSpan (p : PartBuf) (y : Nat) : Nat × Nat :=
  match p.format with
  | .mono _ .packed => (3 * (y * p.width / 2), 3 * ceilDiv ((y + 1) * p.width) 2)
  | f => (y * p.width * (gvspDepth f).2 / 8, ceilDiv ((y + 1) * p.width * (gvspDepth f).2) 8)
/-- The byte at `o` of a part, once it has arrived. -/
def PartBuf.at? (p : PartBuf) (o : Nat) : Option Byte :=
  match p.spans.find? fun x => decide (x.1 ≤ o ∧ o < x.1 + x.2.length) with
  | some x => x.2[o - x.1]?
  | none => none
/-- The bytes of line `y`, where all have arrived. -/
def PartBuf.lineBytes? (p : PartBuf) (y : Nat) : Option (List Byte) :=
  let (a, b) := p.lineSpan y
  let l := (List.range (b - a)).map fun i => p.at? (a + i)
  if l.all Option.isSome then some (l.filterMap id) else none
/-- Bands of the sensor that a part's pixels go to, with their colour: 0 to 2 of RGB8 and BGR8, else its own. -/
def PartBuf.targets (p : PartBuf) : List (Nat × Nat) :=
  match p.format with
  | .rgb8 | .bgr8 => [(0, 0), (1, 1), (2, 2)]
  | _ => [(p.band, 0)]
/-- Line `y` of a part's targets goes to intake, its codes or none for a line of wrong width (R102, R103). -/
def giveLine (l ch : Nat) (b : GvspBlock) (p : PartBuf) (y : Nat) (d : List Byte) (s : State) : State :=
  let n := (b.firstLine + y) % 2 ^ 32
  let o := (p.lineSpan y).1
  let t := (b.t : Int) + Int.fdiv ((y : Int) * b.stepNum) (max b.stepDen 1)
  p.targets.foldl (fun s q =>
    match s.boundTo l (some ch) p.sensor q.1 with
    | none => s
    | some (c, k) =>
      match s.ctx c with
      | none => s
      | some x =>
        let codes := if p.width = x.geo.width then some ((List.range p.width).map fun i => pixelOf p.format d o (y * p.width + i) q.2)
          else none
        match beginLine c k n s with
        | (.taken pos, s) => finishLine c k pos t.toNat codes s
        | (.refused, s) => s) s
/-- Lines of a part up to line `n` reach intake or, where a byte of them is missing, are lost (R103, R104). -/
def handLines (l ch : Nat) (b : GvspBlock) (p : PartBuf) : Nat → State → State
  | 0, s => s
  | n + 1, s =>
    let s := handLines l ch b p n s
    if n < p.handed then s
    else match p.lineBytes? n with
      | some d => giveLine l ch b p n d s
      | none => countStream l ch .lostLine s
/-- Every line before the end of a closed block that a band has not delivered is a lost line (R104). -/
def losePart (l ch : Nat) (b : GvspBlock) (p : PartBuf) (s : State) : State :=
  p.targets.foldl (fun s q =>
    match s.boundTo l (some ch) p.sensor q.1 with
    | none => s
    | some (c, k) =>
      match s.ctx c with
      | some x =>
        if (x.state = .running ∨ x.state = .stopping) ∧ (!x.framed ∨ x.frame.isSome) then
          passBy c k (x.place ((b.firstLine + min p.height (if x.framed then x.geo.height else p.height)) % 2 ^ 32)) s
        else s
      | none => s) s
/-- The open block closes (R105): lines not complete are lost, the frame closes. -/
def closeBlock (l ch : Nat) (s : State) : State :=
  match (s.stream l ch).block with
  | none => s
  | some b =>
    let s1 := modStream l ch (fun v => { v with block := none }) s
    match s.channelCtx l ch with
    | none => s1
    | some c =>
      closeFrame c none false (b.parts.foldl (fun s p => losePart l ch b p (handLines l ch b p p.height s)) s1)
/-- The open block is discarded whole (R101): the frame it opened closes. -/
def discardBlock (l ch : Nat) (s : State) : State :=
  match (s.stream l ch).block with
  | none => s
  | some _ =>
    let s1 := modStream l ch (fun v => { v with block := none }) s
    match s.channelCtx l ch with
    | some c => closeFrame c none false s1
    | none => s1
/-- An event of a channel to the owner of its lane (Table 11-17). -/
def raiseEth (l ch code sev p2 : Nat) (s : State) : State := raise code sev l ch p2 (s.laneTo l) s
/-- A new block ID is seen: blocks skipped before it are counted and reported (R105). -/
def noteBlock (l ch id : Nat) (s : State) : State :=
  let s1 := modStream l ch (fun v => { v with lastId := some id }) s
  match (s.stream l ch).lastId with
  | some i =>
    if i + 1 < id then raiseEth l ch 0x010D sevE (id - i - 1) (countStreamN l ch .blockGap (id - i - 1) s1) else s1
  | none => s1
/-- An unsupported block (R101). -/
def unsupported (l ch : Nat) (s : State) : State :=
  let s1 := countStream l ch .unsup s
  if (s.stream l ch).unsup then s1
  else raiseEth l ch 0x010B sevE 0 (modStream l ch (fun v => { v with unsup := true }) s1)
/-- The parts of a leader that are received: index, target and content (R101, R102). -/
def partBufs (c : Channel) (parts : List GvspPart) : List PartBuf :=
  (parts.take 8).mapIdx (fun i p => (i, p)) |>.filterMap fun (e : Nat × GvspPart) =>
    let w := c.partMap.getD e.1 wordNone
    if w = wordNone then none
    else some { part := e.1, sensor := w % 256, band := w / 256 % 256, format := e.2.format, width := e.2.width, height := e.2.height
                spans := [], handed := 0 }
/-- t_block of a leader that arrives now (R108), and whether it fell back to the arrival. -/
def blockTime (c : Channel) (ts now : Nat) : Nat × Bool :=
  if c.tsMode = 0 then
    if now ≤ ts + 10000000 ∧ ts ≤ now then (ts, false) else (now - c.tsLatency, true)
  else (now - c.tsLatency, false)
/-- The leader of an accepted block opens it (R103, R106, R108, R109). -/
def openBlock (l ch c id pkt ts : Nat) (parts : List GvspPart) (s : State) : State :=
  match s.ctx c with
  | none => s
  | some x =>
    let cfg := (s.eth l).cfg.channels.getD ch {}
    let v := s.stream l ch
    let bufs := partBufs cfg parts
    let height := match bufs with
      | p :: _ => p.height
      | [] => (parts.head?.map (·.height)).getD 0
    let first := match v.prev with
      | some p => (v.nextLine + (id - p.2.2 - 1) * v.lastHeight) % 2 ^ 32
      | none => 0
    let (t, back) := blockTime cfg ts s.now
    let step : Int × Nat := if x.kind ≠ .lineScan then (0, 1)
      else match v.prev with
        | some (pt, ph, pid) => if pid + 1 = id then ((t : Int) - pt, ph) else (cfg.linePeriod, 1)
        | none => (cfg.linePeriod, 1)
    let b : GvspBlock :=
      { id := id, lastPkt := pkt, seen := s.now, firstLine := first, height := height, t := t, stepNum := step.1
        stepDen := step.2, parts := bufs, chunk := [], trunc := false }
    let s1 := modStream l ch (fun v => { v with
      block := some b, unsup := false, fellBack := back, prev := some (t, height, id)
      nextLine := (first + height) % 2 ^ 32, lastHeight := height }) s
    let s2 := if back then
        (fun s => if v.fellBack then s else raiseEth l ch 0x010E sevW 0 s) (countStream l ch .tsFallback s1)
      else s1
    if x.framed then openFrame c (id % 2 ^ 32) (some first) (some height) s2
    else if x.state = .running then
      modCtx c (fun x => { x with upTo := some (x.upTo.getD (posBase + first - 1)) }) s2
    else s2
/-- A leader (R101, R102, R105). -/
def leader (l ch c : Nat) (p : GvspPacket) (kind ts : Nat) (parts : List GvspPart) (s : State) : State :=
  let s := noteBlock l ch p.blockId (closeBlock l ch s)
  let parts' := if kind = 0x000A then parts else parts.take 1
  let s := countStreamN l ch .part (parts'.length - 8) s
  match s.ctx c with
  | none => s
  | some x =>
    if !p.extended ∨ !(kind = 0x0001 ∨ kind = 0x4001 ∨ kind = 0x000A) ∨ !((parts'.take 8).all fun q => gvspKnown q.format) then
      unsupported l ch s
    else if !((partBufs ((s.eth l).cfg.channels.getD ch {}) parts').all fun q => (gvspDepth q.format).1 == x.b) then
      countStream l ch .format s
    else openBlock l ch c p.blockId p.packetId ts parts' s
/-- A packet of the open block passes the order of R104: none where it is discarded. -/
def inOrder (l ch : Nat) (b : GvspBlock) (pkt : Nat) (s : State) : Option State :=
  if pkt ≤ b.lastPkt then none
  else some (modStream l ch (fun v => { v with block := v.block.map fun b => { b with lastPkt := pkt, seen := s.now } })
    (countStreamN l ch .missPkt (pkt - b.lastPkt - 1) s))
/-- Payload bytes of a part: lines that they complete, or leave incomplete behind them, go to intake. -/
def payload (l ch part off : Nat) (d : List Byte) (s : State) : State :=
  match (s.stream l ch).block with
  | none => s
  | some b =>
    match b.parts.find? fun p => p.part == part with
    | none => s
    | some p =>
      let p1 := { p with spans := p.spans ++ [(off, d)] }
      let upto := (List.range (p.height + 1)).foldl (fun a y => if (p.lineSpan (y - 1)).2 ≤ off + d.length then max a y else a) p.handed
      let s1 := handLines l ch b p1 upto s
      let keep := (p.lineSpan upto).1
      let p2 := { p1 with handed := upto, spans := p1.spans.filter fun x => decide (keep < x.1 + x.2.length) }
      modStream l ch (fun v => { v with block := v.block.map fun b => { b with
        parts := b.parts.map fun q => if q.part = part then p2 else q } }) s1
/-- Chunk data is kept with the block, up to 1,024 B (R107), for the cells and records of its lines. -/
def chunkData (l ch : Nat) (d : List Byte) (s : State) : State :=
  match (s.stream l ch).block, s.channelCtx l ch with
  | some b, some c =>
    if !((s.eth l).cfg.channels.getD ch {}).chunk then s
    else
      let all := b.chunk ++ d
      let long := decide (1024 < all.length)
      let s1 := if long && !b.trunc then countStream l ch .chunkTrunc s else s
      let kept : Chunk := { first := b.firstLine, height := b.height, data := all.take 1024 }
      modCtx c (fun x => { x with chunks :=
          (x.chunks.filter fun k => k.first != b.firstLine && decide ((b.firstLine + 2 ^ 32 - k.first) % 2 ^ 32 < 131072)) ++ [kept] })
        (modStream l ch (fun v => { v with block := v.block.map fun b => { b with
          chunk := all.take 1024, trunc := b.trunc || long } }) s1)
  | _, _ => s
/-- GVSP_PACKET_RECEIVED (R100 to R109). -/
def gvspPacket (l ch : Nat) (p : GvspPacket) (s : State) : State :=
  match s.channelCtx l ch with
  | none => countStream l ch .drop s
  | some c =>
    let v := s.stream l ch
    let fresh := match v.lastId with
      | some i => decide (i < p.blockId)
      | none => true
    match p.body with
    | .leader kind ts parts => if fresh then leader l ch c p kind ts parts s else countStream l ch .order s
    | body =>
      match v.block with
      | some b =>
        if b.id = p.blockId then
          if !p.extended then unsupported l ch (discardBlock l ch s)
          else match inOrder l ch b p.packetId s with
            | none => countStream l ch .order s
            | some s =>
              match body with
              | .payload part off d => payload l ch part off d s
              | .chunk d => chunkData l ch d s
              | .trailer _ => closeBlock l ch s
              | _ => unsupported l ch (discardBlock l ch s)
        else if fresh then
          if !p.extended then unsupported l ch (noteBlock l ch p.blockId s)
          else raiseEth l ch 0x010C sevE 0 (countStream l ch .noLeader (noteBlock l ch p.blockId s))
        else s
      | none =>
        if !fresh then s
        else if !p.extended then unsupported l ch (noteBlock l ch p.blockId s)
        else raiseEth l ch 0x010C sevE 0 (countStream l ch .noLeader (noteBlock l ch p.blockId s))
def execGvspPacketReceived (l : LaneId) (ch : Fin 8) (p : GvspPacket) (t : Nat) (s : State) : Host.Outcome State Fault Refusal :=
  let s := advTo t s
  .next (if s.ethUp l ∧ ((s.eth l).cfg.channels.getD ch {}).udpPort ≠ 0 then gvspPacket l ch p s else s)
/-- GVSP_BLOCK_TIMEOUT (R105): no packet of the open block for 10 ms. -/
def execGvspBlockTimeout (l : LaneId) (ch : Fin 8) (s : State) : Host.Outcome State Fault Refusal :=
  .next (match (s.stream l ch).block with
  | some b => closeBlock l ch (advTo (b.seen + 10000000) s)
  | none => s)

/-! ### PTP (R110 to R112) -/

/-- TIME_SOURCE of R378. -/
def State.timeSource (s : State) : Bool :=
  s.clock.servo == .locked && (s.clock.source == .ptp || s.clock.source == .pps || (s.isMember && s.clock.upTimeSource))
/-- clockClass of Table 4-5. -/
def State.clockClass (s : State) : Nat :=
  if s.timeSource then 6 else if s.clock.servo = .holdover then 7 else 248
/-- A PTP message leaves port `l`: messageType, sequence, time, then domain and what the message carries. -/
def sendPtp (l kind seq time : Nat) (data : List Nat) (s : State) : State :=
  emit (.ptp l kind seq time ((s.eth l).cfg.domain :: data)) s
/-- PTP_MESSAGE_SEND (R110, R111): a master port's Sync with its Follow_Up, or Announce; the slave port's Delay_Req. -/
def execPtpMessageSend (l : LaneId) (kind : PtpSend) (t : Nat) (s : State) : Host.Outcome State Fault Refusal :=
  let s := advTo t s
  let e := s.eth l
  .next (if !s.ethUp l then s
  else match kind with
    | .sync =>
      if e.cfg.slave then s
      else modEth l (fun e => { e with syncSeq := (e.syncSeq + 1) % 65536 })
        (sendPtp l 8 e.syncSeq s.now [] (sendPtp l 0 e.syncSeq 0 [] s))
    | .announce =>
      if e.cfg.slave then s
      else modEth l (fun e => { e with announceSeq := (e.announceSeq + 1) % 65536 })
        (sendPtp l 11 e.announceSeq 0 [e.cfg.priority1, s.clockClass, e.cfg.priority2] s)
    | .delayReq =>
      if !e.cfg.slave ∨ e.selected.isNone then s
      else modEth l (fun e => { e with delaySeq := (e.delaySeq + 1) % 65536, delaySent := some s.now })
        (sendPtp l 1 e.delaySeq 0 [] s))

/-- The dataset comparison's order (R112). -/
def masterKey (m : PtpMaster) : List Nat := [m.priority1, m.clockClass, m.accuracy, m.variance, m.priority2, m.identity]
/-- Lexicographic order. -/
def lexLt : List Nat → List Nat → Bool
  | a :: r, b :: q => decide (a < b) || (a == b && lexLt r q)
  | _, _ => false
/-- The best of the masters heard. -/
def bestMaster : List PtpMaster → Option PtpMaster
  | [] => none
  | m :: r =>
    match bestMaster r with
    | some n => if lexLt (masterKey n) (masterKey m) then some n else some m
    | none => some m
/-- The slave port follows the best master; a new one starts its measurements anew. -/
def chooseMaster (l : Nat) (s : State) : State :=
  modEth l (fun e =>
    let best := (bestMaster e.masters).map (·.identity)
    if best = e.selected then e
    else { e with selected := best, syncWait := none, delaySent := none, lastPair := none, pathDelay := none }) s
/-- A measurement of the slave port with PTP in use (R382). -/
def ptpMeasure (origin arrival : Nat) (delay : Int) (s : State) : State :=
  if s.clock.source ≠ .ptp then s
  else if !s.clock.extValid then changeExt ((origin : Int) + delay - arrival) 0 1 s
  else measure 2 ((origin : Int) + delay - ((arrival : Int) + s.clock.extOffset)) s
/-- A Sync with its origin: the pair is kept, and measured once the path delay is known (Table 14-1). -/
def syncPair (l origin arrival : Nat) (s : State) : State :=
  let s1 := modEth l (fun e => { e with lastPair := some (origin, arrival), syncWait := none }) s
  match (s.eth l).pathDelay with
  | some d => ptpMeasure origin arrival d s1
  | none => s1
/-- PTP at the slave port (R112). -/
def slaveMessage (l : Nat) (m : PtpMsg) (s : State) : State :=
  let e := s.eth l
  match m with
  | .announce x => chooseMaster l (modEth l (fun e => { e with masters := (e.masters.filter fun y => y.identity != x.identity) ++ [x] }) s)
  | .sync id seq origin interval =>
    if e.selected = some id then
      let s1 := setValid .ptp true (modEth l (fun e => { e with lastSync := s.now, syncInterval := interval }) s)
      match origin with
      | some o => syncPair l o s.now s1
      | none => modEth l (fun e => { e with syncWait := some (seq, s.now) }) s1
    else s
  | .followUp id seq origin =>
    match e.syncWait with
    | some w => if e.selected = some id ∧ w.1 = seq then syncPair l origin w.2 s else s
    | none => s
  | .delayResp id received =>
    match e.delaySent, e.lastPair with
    | some t3, some p =>
      if e.selected = some id then
        modEth l (fun e => { e with
          delaySent := none, pathDelay := some (((p.2 : Int) - p.1 + ((received : Int) - t3)) / 2) }) s
      else s
    | _, _ => s
  | _ => s
/-- PTP_MESSAGE_RECEIVED (R110 to R112). -/
def execPtpMessageReceived (l : LaneId) (msg : PtpMsg) (t : Nat) (s : State) : Host.Outcome State Fault Refusal :=
  let s := advTo t s
  .next (if !s.ethUp l then s
  else if (s.eth l).cfg.slave then slaveMessage l msg s
  else match msg with
    | .delayReq src seq =>
      let near := lastSecond s.now (s.eth l).delayAt
      if near.length < 64 then
        sendPtp l 9 seq s.now [src] (modEth l (fun e => { e with delayAt := near ++ [s.now] }) s)
      else countEth l .ptpDrop s
    | _ => s)

end Sys2Proof.Machine
end

