-- ==== Sys2Proof/Machine/LinkTime.lean ====
section
/-! DEFINITION. The time exchange of the Abaend link (R64, R81, R82) and what the hive makes of it (R376, R378, R433). -/
namespace Sys2Proof.Machine

/-- Hive time reaches an instant in 2^-8 ns. -/
def advTo256 (t : Nat) (s : State) : State :=
  if s.clock.t16 < t * 256 then { s with clock := { s.clock with t16 := t * 256, acc := 0 } } else s
/-- Change the time exchange of a lane. -/
def modTimeEx (l : Nat) (g : TimeEx → TimeEx) (s : State) : State := modLink l (fun k => { k with time := g k.time }) s
/-- TIME_VALID (R378). -/
def State.timeValid (s : State) : Bool :=
  (s.hive.state == .manager || s.hive.state == .standalone) || s.clock.servo == .locked || s.clock.servo == .holdover
/-- A TIME block (Table 3-2): KIND, EXCH, and the six bytes after them. -/
def timeBlock (kind exch : Nat) (rest : List Byte) : List Byte := b8 0x55 ++ b8 (64 * kind + exch % 64) ++ rest

/-- TIME_SYNC_SEND (R81): the SYNC, then the reports of its departure and of the far SYNC's arrival. -/
def execTimeSyncSend (l : LaneId) (t256 : Nat) (s : State) : Host.Outcome State Fault Refusal :=
  let s := advTo256 t256 s
  let h := s.head l
  .next (if s.inData l ∧ (s.lane l).cfg.mode ≠ .loop ∧ !s.asleep h then
    let e := ((s.link l).time.exch + 1) % 64
    let dep := s.clock.t16 / 256
    let s := modTimeEx l (fun x => { x with exch := e, depart := some dep, arrivedFar := none }) s
    let s := sendBlock l (timeBlock 0 e (b8 (b2n s.timeValid + 2 * b2n s.timeSource) ++ zeros 5)) s
    let s := sendBlock l (timeBlock 1 e (leBytes 6 dep)) s
    match (s.link l).time.arrived with
    | some a => sendBlock l (timeBlock 2 (s.link l).time.farExch (leBytes 6 a)) s
    | none => s
  else s)

/-- A hive link's delay, 2^-8 ns, is judged (R433). -/
def judgeDelay (h : Nat) (delay : Int) (s : State) : State :=
  let k := s.hiveLink h
  if 51200 < delay then
    let s := modHiveLink h (fun k => { k with beyond := min 4 (k.beyond + 1), within := 0 }) s
    if k.admitted ∧ 4 ≤ k.beyond + 1 then
      refuseLink h 1 (delay * 1000 / 256).toNat (modHiveLink h (fun k => { k with admitted := false }) s)
    else s
  else modHiveLink h (fun k => { k with
    beyond := 0, within := min 16 (k.within + 1), admitted := k.admitted || decide (16 ≤ k.within + 1) }) s
/-- A member's measurement against its parent (R376, R377): an offset above 1 ms in four exchanges of a locked worker makes
it leave and join again; otherwise the servo takes it. -/
def feedHive (theta : Int) (s : State) : State :=
  let far := s.clock.servo == .locked && decide (256000000 < theta.natAbs)
  let run := if far then s.clock.farRun + 1 else 0
  if 4 ≤ run then leaveHive s
  else
    let s := modClock (fun c => { c with farRun := run }) s
    if s.clock.source = .hive then servoFeed theta s else modClock (fun c => { c with offsetEst := theta }) s
/-- An exchange is whole (R82): A is the far end, B this device. -/
def exchangeDone (l depart arrivedFar departFar arrived : Nat) (s : State) : State :=
  let d := s.asym l
  let there : Int := (arrived : Int) - departFar
  let back : Int := (arrivedFar : Int) - depart
  let theta := (there - back - d) / 2
  let delay := (there + back + d) / 2
  let valid := (s.link l).time.farValid
  let s := modTimeEx l (fun x => { x with
    depart := none, arrivedFar := none, departFar := none, arrived := none, known := true, theta := theta, delay := delay
    misses := if valid then 0 else x.misses + 1 }) s
  if (s.lane l).cfg.mode ≠ .hive ∨ s.head l ≠ l then s
  else
    let s := judgeDelay l delay s
    let s := if s.isMember ∧ s.uplinkInForce = some l ∧ valid then
        feedHive theta (modClock (fun c => { c with upTimeSource := (s.link l).time.farSource }) s)
      else s
    completeJoin s
/-- The exchange goes on where all four stamps are there. -/
def tryExchange (l : Nat) (s : State) : State :=
  let x := (s.link l).time
  match x.depart, x.arrivedFar, x.departFar, x.arrived with
  | some a, some b, some c, some d => exchangeDone l a b c d s
  | _, _, _, _ => s
/-- A TIME block arrives on lane `l` at `t256` (R64, R81): stamps are the low 48 bits of hive time in 2^-8 ns. -/
def timeBlockIn (l kind exch : Nat) (valid source : Bool) (stamp48 t256 : Nat) (s : State) : State :=
  let x := (s.link l).time
  let full := extTime 48 t256 stamp48
  if kind = 0 then
    modTimeEx l (fun x => { x with farExch := exch % 64, arrived := some t256, departFar := none, farValid := valid, farSource := source }) s
  else if kind = 1 then
    if x.arrived.isSome ∧ exch % 64 = x.farExch then tryExchange l (modTimeEx l (fun x => { x with departFar := some full }) s) else s
  else if kind = 2 then
    if x.depart.isSome ∧ exch % 64 = x.exch then tryExchange l (modTimeEx l (fun x => { x with arrivedFar := some full }) s) else s
  else s
/-- TIME_BLOCK_RECEIVED. -/
def execTimeBlockReceived (l : LaneId) (kind exch : Nat) (valid source : Bool) (stamp48 t256 : Nat) (s : State) :
    Host.Outcome State Fault Refusal :=
  let s := advTo256 t256 s
  .next (if s.inData l ∧ (s.link l).locked then timeBlockIn l kind exch valid source stamp48 t256 s else s)
/-- TIME_EXCHANGE_MISSED (R81, R378): a part has not come within 16 frames; an exchange without TIME_VALID is not counted. -/
def execTimeExchangeMissed (l : LaneId) (s : State) : Host.Outcome State Fault Refusal :=
  let x := (s.link l).time
  .next (if s.inData l ∧ (x.depart.isSome ∨ x.arrived.isSome) then
    let s := if x.arrived.isSome && !x.farValid then s else countLink l .timeMiss s
    modTimeEx l (fun x => { x with depart := none, arrivedFar := none, departFar := none, arrived := none, misses := x.misses + 1 }) s
  else s)

end Sys2Proof.Machine
end

