-- ==== Sys2Proof/Machine/TimeCmds.lean ====
section
/-! DEFINITION. Time commands (Tables 13-5, 13-6), sources, external time and the 1PPS pins (14_hive_time_and_schedules.md,
R377, R381 to R385). -/
namespace Sys2Proof.Machine

/-- NOT_IN_MODE but on a standalone device and on a manager (R358, R381). -/
def ownTime (s : State) : Bool × Fail := (s.hive.state == .standalone || s.hive.state == .manager, failSt stNotInMode)

def cmdTimeGetStatus : Cmd where
  op := 0x0701
  len := lenIs 0
  reads := true
  named _ _ := none
  run _ s :=
    let c := s.clock
    .ok s (b64 s.now ++ b16 (c.t16 % 65536) ++ b8 (sourceCode c.source) ++ b8 (servoCode c.servo) ++ bs32 c.rate
      ++ bs32 (psOf c.offsetEst) ++ b32 0 ++ bs64 c.extOffset ++ b16 c.extFrac ++ b8 (b2n c.extValid) ++ zeros 5 ++ b64 c.extSince)
/-- TIME_GET_STATUS. -/
def execTimeGetStatus (f : Fn) (m : Mbx) (s : State) : Host.Outcome State Fault Refusal := .next (serve cmdTimeGetStatus f m s)

/-- SOURCE codes of TIME_SET_SOURCE. -/
def sourceOf : Nat → TimeSource
  | 1 => .ptp | 2 => .pps | _ => .none
/-- Whether the device has a slave port (R112). -/
def State.hasSlave (s : State) : Bool := s.eths.any fun e => (s.lane e.1).cfg.mode == .ethCam && e.2.cfg.slave
def cmdTimeSetSource : Cmd where
  op := 0x0702
  len := lenIs 8
  reads := false
  named r s := firstFail [needTrusted r s]
  run r s :=
    let a := r.u32 0
    let b := r.u32 4
    checked [ownTime s, (s.hasSlave || (a != 1 && b != 1), failSt stState), (inR 0 2 a, badField 0), (inR 0 2 b, badField 4),
        (a == 0 || a != b, badField 4)] fun _ =>
      .ok (evalSource (modClock (fun c => { c with list := [sourceOf a, sourceOf b] }) s)) []
/-- TIME_SET_SOURCE (R358, R377). -/
def execTimeSetSource (f : Fn) (m : Mbx) (s : State) : Host.Outcome State Fault Refusal := .next (serve cmdTimeSetSource f m s)

def cmdTimeSetExtOffset : Cmd where
  op := 0x0703
  len := lenIs 12
  reads := false
  named r s := firstFail [needTrusted r s]
  run r s := checked [ownTime s, (s.clock.source != .ptp, failSt stState), (decide (r.u32 8 < 65536), badField 8)] fun _ =>
    .ok (changeExt (s64At r.body 0) (r.u32 8) 4 s) []
/-- TIME_SET_EXT_OFFSET (R359, R381): the change is made at commit and holds from its EXT_SINCE. -/
def execTimeSetExtOffset (f : Fn) (m : Mbx) (s : State) : Host.Outcome State Fault Refusal := .next (serve cmdTimeSetExtOffset f m s)

def cmdTimeSetPps : Cmd where
  op := 0x0704
  len := lenIs 20
  reads := false
  named r s := firstFail [needTrusted r s]
  run r s :=
    checked [(inR 0 1 (r.u32 0), badField 0), (inR 0 1000000 (r.u32 4), badField 4), (inR 0 1 (r.u32 8), badField 8),
        (inR 100 500000000 (r.u32 0xC), badField 0xC), (inR 0 1 (r.u32 0x10), badField 0x10)] fun _ =>
      .ok (modClock (fun c => { c with
        ppsEdge := r.u32 0, ppsDelay := r.u32 4, outEnable := r.u32 8 == 1, outWidth := r.u32 0xC, outBase := r.u32 0x10 }) s) []
/-- TIME_SET_PPS. -/
def execTimeSetPps (f : Fn) (m : Mbx) (s : State) : Host.Outcome State Fault Refusal := .next (serve cmdTimeSetPps f m s)

/-! ### Sources (Table 14-1, R377) -/

/-- Whether a source's condition of Table 14-1 has come to hold, or to fail. -/
def sourceTurned (src : TimeSource) (valid : Bool) (s : State) : Bool :=
  match src, valid with
  | .none, _ => false
  | .hive, true => s.isMember && (match s.uplinkInForce with | some h => (s.link h).time.farValid | none => false)
  | .hive, false => match s.uplinkInForce with
    | some h => !s.isMember || decide (4 ≤ (s.link h).time.misses)
    | none => true
  | .ptp, true => false
  | .ptp, false => !(s.eths.any fun e => e.2.cfg.slave && e.2.selected.isSome && decide (s.now < e.2.lastSync + 4 * e.2.syncInterval))
  | .pps, true => false
  | .pps, false => match s.clock.ppsLast with
    | some t => decide (t + 2000000000 ≤ s.now)
    | none => true
/-- The masters that a slave port followed until its Syncs stopped are forgotten, and it chooses anew. -/
def dropMaster (s : State) : State :=
  (s.eths.filter fun e => e.2.cfg.slave).foldl (fun s e => chooseMaster e.1 (modEth e.1 (fun x => { x with
    masters := x.masters.filter fun m => some m.identity != x.selected }) s)) s
/-- SOURCE_VALIDITY_CHANGE (R377, R384). PTP and PPS become valid with the message or edge that makes them so. -/
def execSourceValidityChange (src : TimeSource) (valid : Bool) (t : Nat) (s : State) : Host.Outcome State Fault Refusal :=
  let s := advTo t s
  .next (if sourceTurned src valid s ∧ s.clock.isValid src ≠ valid then
    setValid src valid (if src = .ptp then dropMaster s else s)
  else s)
/-- SOURCE_PROMOTION (R377). -/
def execSourcePromotion (t : Nat) (s : State) : Host.Outcome State Fault Refusal :=
  let s := advTo t s
  .next (match s.promotable with
  | some x => takeSource x s
  | none => s)

/-! ### PPS_IN (R383) -/

/-- e of a valid edge (R383). -/
def ppsError (te : Nat) (ext : Int) : Int :=
  let r := ((te : Int) + ext) % 1000000000
  if r < 500000000 then -r else 1000000000 - r
/-- A valid edge. -/
def ppsValid (te : Nat) (s : State) : State :=
  let s := modClock (fun c => { c with ppsLast := some te, ppsRejected := false }) s
  if s.clock.source = .pps then measure 3 (ppsError te s.clock.extOffset) s else s
/-- PPS_EDGE (R383). -/
def execPpsEdge (rise : Bool) (t : Nat) (s : State) : Host.Outcome State Fault Refusal :=
  let s := advTo t s
  let te := ((t : Int) - s.clock.ppsDelay).toNat
  .next (if rise ≠ (s.clock.ppsEdge == 0) then s
  else match s.clock.ppsLast with
    | none => ppsValid te s
    | some p =>
      let d := te - p
      if 2000000000 ≤ d then ppsValid te s
      else if d < 999000000 ∨ 1001000000 < d then
        if s.clock.ppsRejected then s
        else raiseTime 0x0705 sevW (min d 0xFFFFFFFF) 0 0 (modClock (fun c => { c with ppsRejected := true }) s)
      else ppsValid te (setValid .pps true s))

/-! ### EXT_OFFSET (R381) and PPS_OUT (R385) -/

/-- The waiting change with the earliest EXT_SINCE, the first of equals. -/
def earliestExt : List ExtChange → Option ExtChange
  | [] => none
  | x :: r =>
    match earliestExt r with
    | some y => if y.since < x.since then some y else some x
    | none => some x
/-- EXT_OFFSET_APPLY (R381). -/
def execExtOffsetApply (s : State) : Host.Outcome State Fault Refusal :=
  .next (match earliestExt s.clock.extWaiting with
  | some x => applyExt x (modClock (fun c => { c with extWaiting := c.extWaiting.erase x }) (advTo x.since s))
  | none => s)
/-- PPS_OUT_RISE (R385). -/
def execPpsOutRise (t : Nat) (s : State) : Host.Outcome State Fault Refusal :=
  let s := advTo t s
  let c := s.clock
  let whole := if c.outBase = 0 then t % 1000000000 == 0 else c.extEver && ((t : Int) + c.extOffset) % 1000000000 == 0
  let close := match c.ppsRise with
    | some r => decide (t < r + c.outWidth + 100)
    | none => false
  .next (if c.outEnable ∧ whole ∧ !close ∧ t = s.now then
    emit (.ppsOut true) (modClock (fun c => { c with ppsOut := true, ppsRise := some t }) s)
  else s)
/-- PPS_OUT_FALL (R385). -/
def execPpsOutFall (s : State) : Host.Outcome State Fault Refusal :=
  .next (match s.clock.ppsRise with
  | some r =>
    if s.clock.ppsOut then emit (.ppsOut false) (modClock (fun c => { c with ppsOut := false }) (advTo (r + s.clock.outWidth) s)) else s
  | none => s)

end Sys2Proof.Machine
end

