-- ==== Sys2Proof/Machine/Valves.lean ====
section
/-! DEFINITION. Valve ports (09_valve_ports.md): frames, feedback and their commands. -/
namespace Sys2Proof.Machine

/-- The counters of Table 9-9, and of a valve (Table 9-10) but for its time. -/
inductive VpCnt where
  | fbErr | fbMiss | offDrop | testDrop | inhibitDrop | subframe
inductive ValveCnt where
  | pulse | openLoad | short
/-- Count on port `v`. -/
def ValvePort.count (p : ValvePort) (k : VpCnt) : ValvePort := { p with counts := Machine.count p.counts k.ctorIdx }

/-! ### Frames (R257 to R259) -/

/-- One bit of CRC-16/CCITT, most significant bit first. -/
def crc16Bit (c : Nat) (b : Bool) : Nat :=
  let x := 2 * c % 65536
  if (bit c 15) != b then x ^^^ 0x1021 else x
/-- CRC-16/CCITT of a bit stream (R257). -/
def crc16 (l : List Bool) : Nat := l.foldl crc16Bit 0xFFFF
/-- `w` bits of `v`, most significant first. -/
def msbBits (w v : Nat) : List Bool := (List.range w).map fun i => bit v (w - 1 - i)
/-- MODE of the CONTROL word (Table 9-5). -/
def vpModeBits : VpMode → Nat
  | .run => 0
  | .test => 2
  | _ => 1
/-- The 560 bits of a frame (Table 9-4). -/
def valveFrameBits (counter period : Nat) (m : VpMode) (states : List Bool) : List Bool :=
  let body := msbBits 16 counter ++ msbBits 16 (16384 * vpModeBits m + period) ++ states
  body ++ msbBits 16 (crc16 body)

/-- The least frame time of the port's grid at or after `t` (R258). -/
def ValvePort.gridFrom (p : ValvePort) (t : Nat) : Nat :=
  if t ≤ p.phase then p.phase else p.phase + ceilDiv (t - p.phase) (100 * p.period) * (100 * p.period)
/-- The next frame time: the one after the last frame, or the first whose latch is still to come. -/
def ValvePort.nextT (p : ValvePort) (now : Nat) : Nat :=
  match p.lastT with
  | some t => p.gridFrom (t + 1)
  | none => p.gridFrom (now + 1600)

/-- Whether an action is a valve action of port `v`. -/
def Action.ofPort (a : Action) (v : Nat) : Bool :=
  (a.cls == .valveOpen || a.cls == .valveClose) && a.target / 512 == v
/-- The schedule's order (R388): due instant, class, placement. -/
def actBefore (a b : Nat × Action) : Bool :=
  let cls := fun (x : Action) => if x.cls == .valveClose then 0 else 1
  decide (a.2.time < b.2.time) || (a.2.time == b.2.time && (decide (cls a.2 < cls b.2)
    || (cls a.2 == cls b.2 && decide (a.2.order < b.2.order))))
/-- Insertion in the schedule's order. -/
def actInsert (x : Nat × Action) : List (Nat × Action) → List (Nat × Action)
  | [] => [x]
  | y :: r => if actBefore x y then x :: y :: r else y :: actInsert x r

/-- What one valve action does to its port at the latch of frame `T` (R259, R389, Table 9-2). -/
def latchAction (v T slot : Nat) (a : Action) (s : State) : State :=
  let p := s.vp v
  let b := a.target % 512
  let first := p.gridFrom a.time
  let late := T - first
  let s := freeAction slot s
  match a.cls with
  | .valveClose =>
    let s := if 0 < late then schedLate 4 late a.target (s.actTo a) s else s
    let s := modFlight (fun f => { f with pulses := match f.pulses.find a.target with
      | some q => if q.closeSlot = some slot then f.pulses.put a.target { q with closeSlot := none } else f.pulses
      | none => f.pulses }) s
    modVp v (fun p => p.modValve b (fun x => { x with open' := false })) s
  | _ =>
    let test := a.placer == .testFire
    match p.mode with
    | .off => modVp v (·.count .offDrop) s
    | .safe => modVp v (·.count .offDrop) s
    | m =>
      if m = .test ∧ !test then modVp v (·.count .testDrop) s
      else if m = .run ∧ test then s
      else if 0 < late ∧ a.tol < late then schedDrop 3 1 late a.target (s.actTo a) s
      else
        let s := if 0 < late then schedLate 3 late a.target (s.actTo a) s else s
        if (p.valve b).inhibited then modVp v (·.count .inhibitDrop) s
        else modVp v (fun p => p.modValve b (fun x => { x with open' := true })) s

/-- Valves of a port that an action of the list opened, from closed, and that a later one closed again (R259). -/
def subframePulses (before : ValvePort) (after : ValvePort) (l : List (Nat × Action)) : Nat :=
  ((l.filterMap fun x => if x.2.cls = .valveOpen then some (x.2.target % 512) else none).eraseDups.filter fun b =>
    !(before.valve b).open' && !(after.valve b).open'
      && (l.any fun x => x.2.cls == .valveClose && x.2.target % 512 == b)).length

/-- One valve is carried in a frame (R266). -/
def carryValve (p : ValvePort) (T : Nat) (on : Bool) (x : Valve) : Valve :=
  if on then { x with
    sent := true
    openAt := if x.sent then x.openAt else T
    onNs := x.onNs + 100 * p.period
    lifeNs := (x.lifeNs + 100 * p.period) % 1000
    counts := if x.sent then x.counts else count x.counts ValveCnt.pulse.ctorIdx }
  else { x with sent := false }
/-- The honey counters of a valve carried open (R266, Table 22-5). -/
def carryHoney (p : ValvePort) (g : Nat) (x : Valve) (s : State) : State :=
  let s := if x.sent then s else honeyN 64 (hoValve g 0) 1 s
  honeyN 64 (hoValve g 8) ((x.lifeNs + 100 * p.period) / 1000) s

/-- The mode asked for comes into force (R256). A port in OFF keeps no valve open: its frames begin anew and closes have
no effect there (Table 9-2; DEDUCED). -/
def vpEnter (m : VpMode) (p : ValvePort) : ValvePort :=
  let closed := p.valves.map fun e => (e.1, { e.2 with open' := false })
  let p := { p with want := none, mode := m }
  match m with
  | .off => { p with lastT := none, unanswered := [], valves := closed.map fun e => (e.1, { e.2 with sent := false }) }
  | .safe => { p with valves := closed }
  | _ => p

/-- Frame `T` of a port that sends (R257 to R259). -/
def sendFrame (v T : Nat) (s : State) : State :=
  -- inhibits released and applied
  let s := modVp v (fun p =>
    let ps := p.clearing.foldl (fun p b => p.modValve b (fun x => { x with inhibited := false })) p
    { ps with clearing := [], valves := ps.valves.map fun e => (e.1, if e.2.inhibited then { e.2 with open' := false } else e.2) }) s
  let before := s.vp v
  let due := ((s.flight.actions.filter fun e => e.2.ofPort v && decide (e.2.time ≤ T))).foldr actInsert []
  let s := due.foldl (fun s e => latchAction v T e.1 e.2 s) s
  let s := (List.range (subframePulses before (s.vp v) due)).foldl (fun s _ => modVp v (·.count .subframe) s) s
  let p := s.vp v
  let on := fun (b : Nat) => (p.mode == .run || p.mode == .test) && (p.valve b).open'
  let s := p.valves.foldl (fun s e => if on e.1 then carryHoney p (512 * v + e.1) e.2 s else s) s
  emit (.valveFrame v (valveFrameBits p.counter p.period p.mode ((List.range 512).map on)))
    (modVp v (fun p => { p with
      valves := p.valves.map fun e => (e.1, carryValve p T (on e.1) e.2)
      lastT := some T
      sent := ((p.counter, T) :: p.sent).take 4
      unanswered := p.unanswered ++ [(p.counter, T)]
      sinceValid := min 64 (p.sinceValid + 1)
      counter := (p.counter + 1) % 65536 }) s)

/-- VALVE_FRAME_LATCH (R256, R259): at T_k − 1,600 ns. -/
def execValveFrameLatch (v : VPort) (s : State) : Host.Outcome State Fault Refusal :=
  let p := s.vp v
  .next (if p.failed ∨ s.mon.valvesStopped ∨ (p.mode = .off ∧ (p.want = none ∨ p.want = some .off)) then
    modVp v (fun p => { p with want := none }) s
  else
    let T := p.nextT s.now
    let s := advTo (T - 1600) s
    match p.want with
    | some .off => emit (.valveStop v) (modVp v (vpEnter .off) s)
    | some m =>
      sendFrame v T (modVp v (fun p => vpEnter m (if p.mode = .off then { p with counter := 0, sent := [] } else p)) s)
    | none => sendFrame v T s)

/-! ### Feedback (R261 to R263) -/

/-- One bit of CRC-8, polynomial 0x07. -/
def crc8Bit (c : Nat) (b : Bool) : Nat :=
  let x := 2 * c % 256
  if (bit c 7) != b then x ^^^ 0x07 else x
/-- CRC-8 of a bit stream (Table 9-7). -/
def crc8 (l : List Bool) : Nat := l.foldl crc8Bit 0
/-- The recipients of valve events (R267). -/
def State.vpTo (s : State) (v : Nat) : List Nat := s.toOwner .valvePort v

/-- The status reported for one valve (R263); a fault the board reports sets VALVE_PORT (R513). -/
def valveStatus (v b st : Nat) (s : State) : State :=
  let p := s.vp v
  let x := p.valve b
  let g := 512 * v + b
  let s := modVp v (fun p => p.modValve b (fun x => { x with status := st
                                                             faulted := if st = 0 then false else x.faulted || st != 3 })) s
  if (st = 1 ∨ st = 2) ∧ !x.faulted then
    let k := if st = 1 then ValveCnt.openLoad else ValveCnt.short
    let s := honey (hoValve g (if st = 1 then 16 else 20)) (modVp v (fun p => p.modValve b (fun x => { x with
      counts := countN 16 x.counts k.ctorIdx 1, inhibited := x.inhibited || p.inhibit })) s)
    detectFault clsValve v (raise 0x0511 sevE g st 0 (s.vpTo v) s)
  else s

/-- FEEDBACK_FRAME_RECEIVED (R262, R263): `t` is the arrival of its SOF. -/
def execFeedbackFrameReceived (v : VPort) (bits : BitVec 40) (t : Nat) (s : State) : Host.Outcome State Fault Refusal :=
  let s := advTo t s
  let w := bits.toNat
  let p := s.vp v
  let frame := p.sent.find? fun f => decide (f.2 ≤ s.now)
  let okCrc := Machine.bits w 36 4 == 13 && crc8 (msbBits 28 (Machine.bits w 8 28)) == Machine.bits w 0 8
  .next (if p.failed then s
  else match frame with
    | some f =>
      if okCrc && Machine.bits w 28 8 == f.1 % 256 then
        let board := Machine.bits w 8 4
        let s := modVp v (fun p => { p with
          unanswered := p.unanswered.filter (· != f), missRun := 0, sinceValid := 0, board := board }) s
        let base := 8 * (f.1 % 64)
        let s := (List.range 8).foldl (fun s i => valveStatus v (base + i) (Machine.bits w (26 - 2 * i) 2) s) s
        if p.board = 0 ∧ board ≠ 0 then detectFault clsValve v (raise 0x0512 sevE v board 0 (s.vpTo v) s) else s
      else modVp v (·.count .fbErr) s
    | none => modVp v (·.count .fbErr) s)

/-- FEEDBACK_MISSED (R262): the oldest frame without an answer, 3,000 ns after its T_k. -/
def execFeedbackMissed (v : VPort) (s : State) : Host.Outcome State Fault Refusal :=
  let p := s.vp v
  .next (match p.unanswered with
    | [] => s
    | f :: r =>
      let s := advTo (f.2 + 3000) s
      let s := modVp v (fun p => { (p.count .fbMiss) with unanswered := r, missRun := p.missRun + 1 }) s
      if p.missRun + 1 = 64 then detectFault clsValve v (raise 0x0510 sevE v 0 0 (s.vpTo v) s) else s)

/-- VALVE_PORT_READBACK_FAULT (R513): the port stops and fails. -/
def execValvePortReadbackFault (v : VPort) (t : Nat) (s : State) : Host.Outcome State Fault Refusal :=
  let s := advTo t s
  .next (if (s.vp v).failed ∨ (s.vp v).mode = .off then s
  else
    detectFault clsValve v (emit (.valveStop v)
      (modVp v (fun p => { (vpEnter .off p) with failed := true }) s)))

/-! ### Commands (Table 12-15, R352) -/

/-- Modes by code. -/
def vpMode : Nat → VpMode
  | 0 => .off | 1 => .safe | 2 => .run | _ => .test
/-- The port of a request has not failed (R334 check 7, R513). -/
def vpOk (r : Req) (s : State) : Bool × Fail := (!(s.vp (r.u32 0)).failed, failSt stHwFault)
/-- Owner of the port or trusted (R255). -/
def vpAllowed (r : Req) (s : State) : Bool × Fail :=
  (s.isTrusted r.fn || s.owns r.fn .valvePort (r.u32 0), failSt stDenied)

/-- 0x0510 VP_CONFIGURE. -/
def cmdVpConfigure : Cmd where
  op := 0x0510
  len := lenIs 16
  reads := false
  named := fun r s => firstFail [named 8 0 r, needTrusted r s]
  run := fun r s =>
    let p := s.vp (r.u32 0)
    let changed := r.u32 4 != p.period || r.u32 8 != p.phase || (r.u32 0xC == 1) != p.inhibit
    checked [vpOk r s, (!changed || p.mode == .off || p.mode == .safe, failSt stState),
      field (decide (20 ≤ r.u32 4 ∧ r.u32 4 ≤ 200)) 4, field (decide (r.u32 8 < 100 * r.u32 4)) 8,
      field (decide (r.u32 0xC ≤ 1)) 0xC] fun _ =>
      .ok (modVp (r.u32 0) (fun p => { p with period := r.u32 4, phase := r.u32 8, inhibit := r.u32 0xC == 1 }) s) []
/-- VP_CONFIGURE. -/
def execVpConfigure (f : Fn) (m : Mbx) (s : State) : Host.Outcome State Fault Refusal := .next (serve cmdVpConfigure f m s)

/-- 0x0511 VP_SET_MODE. -/
def cmdVpSetMode : Cmd where
  op := 0x0511
  len := lenIs 8
  reads := false
  named := fun r s => firstFail [named 8 0 r, needTrusted r s]
  run := fun r s =>
    checked [vpOk r s, field (decide (r.u32 4 ≤ 3)) 4] fun _ =>
      .ok (modVp (r.u32 0) (fun p => { p with want := some (vpMode (r.u32 4)) }) s) []
/-- VP_SET_MODE. -/
def execVpSetMode (f : Fn) (m : Mbx) (s : State) : Host.Outcome State Fault Refusal :=
  .next (serveWaking cmdVpSetMode (fun r => vpMode (r.u32 4) == .run || r.u32 4 == 3) f m s)

/-- The valves that a VP_TEST_FIRE names. -/
def testValves (r : Req) : List Nat := (List.range (r.u32 4)).map fun i => u16At r.body (0x14 + 2 * i)
/-- 0x0512 VP_TEST_FIRE. -/
def cmdVpTestFire : Cmd where
  op := 0x0512
  len := fun b => decide (20 ≤ b.length) && b.length == 20 + 2 * u32At b 4
  reads := false
  named := fun r s => firstFail ([named 8 0 r]
    ++ ((List.range (r.u32 4)).zip (testValves r)).map (fun e => field (decide (e.2 < 512)) (0x14 + 2 * e.1)) ++ [vpAllowed r s])
  run := fun r s =>
    let v := r.u32 0
    let l := testValves r
    let start := u64At r.body 8
    let busy := fun b => s.flight.actions.any fun e => e.2.placer == .testFire && e.2.target == 512 * v + b
    checked ([vpOk r s, ((s.vp v).mode == .test, failSt stState), (!(l.any busy), failSt stBusy),
      field (decide (1 ≤ r.u32 4 ∧ r.u32 4 ≤ 64)) 4, field (decide (start ≤ s.now + 2000000000)) 8,
      field (decide (500 ≤ r.u32 0x10 ∧ r.u32 0x10 ≤ 20000)) 0x10] ++ laterDups l 0x14 2 ++
      [(decide (2 * l.length ≤ s.flightFree), noResource 13)]) fun _ =>
      let base : Action := { time := start, cls := .valveOpen, tol := 100000, target := 0, placer := .testFire, order := 0
                             placedAt := 0 }
      .ok (l.foldl (fun s b =>
        let a := placeAction { base with target := 512 * v + b } s
        (placeAction { base with time := start + 1000 * r.u32 0x10, cls := .valveClose, target := 512 * v + b } a.2).2) s) []
/-- VP_TEST_FIRE. -/
def execVpTestFire (f : Fn) (m : Mbx) (s : State) : Host.Outcome State Fault Refusal := .next (serve cmdVpTestFire f m s)

/-- MODE of VP_GET_STATUS (R513: 4 failed). -/
def ValvePort.modeCode (p : ValvePort) : Nat := if p.failed then 4 else p.mode.ctorIdx
/-- The record of a valve (Table 12-16). -/
def valveRecord (x : Valve) : List Byte :=
  b32 (cnt x.counts 0) ++ leBytes 6 (min (x.onNs / 1000) (2 ^ 48 - 1)) ++ b16 (cnt x.counts 1) ++ b16 (cnt x.counts 2)
    ++ b8 (x.status + 4 * b2n x.inhibited) ++ b8 (b2n x.sent)
/-- 0x0513 VP_GET_STATUS. -/
def cmdVpGetStatus : Cmd where
  op := 0x0513
  len := lenIs 12
  reads := true
  named := fun r s => firstFail [named 8 0 r, named 512 4 r,
    field (decide (r.u32 4 + r.u32 8 ≤ 512 ∨ 64 < r.u32 8)) 8, vpAllowed r s]
  run := fun r s =>
    checked [field (decide (r.u32 8 ≤ 64)) 8] fun _ =>
      let v := r.u32 0
      let p := s.vp v
      let l := (List.range (r.u32 8)).map (r.u32 4 + ·)
      let last := match p.sent with | f :: _ => f.1 | [] => 0
      let pl := b8 p.modeCode ++ b8 p.board ++ b8 (b2n (decide (p.sinceValid < 64))) ++ b8 0 ++ b32 last
        ++ cntBytes p.counts 0 6 ++ l.flatMap fun b => valveRecord (p.valve b)
      .ok (if r.clear then modVp v (fun p =>
          l.foldl (fun p b => p.modValve b (fun x => { x with counts := [], onNs := 0 })) { p with counts := [] }) s
        else s) pl
/-- VP_GET_STATUS. -/
def execVpGetStatus (f : Fn) (m : Mbx) (s : State) : Host.Outcome State Fault Refusal := .next (serve cmdVpGetStatus f m s)

/-- 0x0514 VP_CLEAR_FAULT. -/
def cmdVpClearFault : Cmd where
  op := 0x0514
  len := lenIs 8
  reads := false
  named := fun r s => firstFail [named 8 0 r, field (decide (r.u32 4 < 512 ∨ r.u32 4 = wordNone)) 4, vpAllowed r s]
  run := fun r s =>
    checked [vpOk r s] fun _ =>
      .ok (modVp (r.u32 0) (fun p => { p with
        clearing := p.clearing ++ (match optWord (r.u32 4) with | some b => [b] | none => p.valves.map (·.1)) }) s) []
/-- VP_CLEAR_FAULT. -/
def execVpClearFault (f : Fn) (m : Mbx) (s : State) : Host.Outcome State Fault Refusal := .next (serve cmdVpClearFault f m s)

end Sys2Proof.Machine
end

