-- ==== Sys2Proof/Machine/Schedule.lean ====
section
/-! DEFINITION. The schedule's commands (R360, R361) and the execution of actions (R387 to R391). -/
namespace Sys2Proof.Machine

/-! ### Execution (R387 to R390) -/

/-- The trigger lead of a lane (R80). -/
def State.leadOf (s : State) (h : Nat) : Nat := max (s.lane h).cfg.trigLead (s.leadMin h)
/-- The due instant of an action (Table 14-5). -/
def State.due (s : State) (a : Action) : Nat :=
  if a.cls = .trigger ∧ !bit a.target 12 then a.time - s.leadOf (s.head (a.target % 128)) else a.time
/-- Class order of R388. -/
def classRank : ActClass → Nat
  | .valveClose => 0 | .valveOpen => 1 | .gpio => 2 | .waggle => 3 | .trigger => 4 | .frameLaunch => 5
/-- Another action, not of a valve, with the same due instant comes first (R388). -/
def State.outranked (s : State) (slot : Nat) (a : Action) : Bool :=
  s.flight.actions.any fun e => e.1 != slot && e.2.cls != .valveOpen && e.2.cls != .valveClose && s.due e.2 == s.due a
    && (decide (classRank e.2.cls < classRank a.cls) || (e.2.cls == a.cls && decide (e.2.order < a.order)))
/-- Whether the placer still owns the unit (R390). -/
def Action.owned (a : Action) (s : State) (k : Kind) (i : Nat) : Bool :=
  match a.placer with
  | .cmd f => s.owns f k i
  | _ => true
/-- Whether the target takes the action (R390). -/
def State.targetOk (s : State) (a : Action) : Bool :=
  match a.cls with
  | .trigger =>
    let l := a.target % 128
    (s.lane l).cfg.mode == .camRx && s.inData l && (s.lane (s.head l)).power != .sleep && a.owned s .lane l
  | .gpio => (s.pin (a.target % 64)).mode == .scheduled && a.owned s .gpio (a.target % 64)
  | .waggle => a.owned s .channel (a.target % 256)
  | _ => true
/-- Two TRIGGERs that are sent as one (R388). -/
def sameTrigger (a b : Action) : Bool := a.cls == .trigger && b.cls == .trigger && a.time == b.time && a.target == b.target
/-- The effect of an action (Table 14-5); false where its target does not take it after all (R539). -/
def actEffect (a : Action) (s : State) : Bool × State :=
  match a.cls with
  | .trigger =>
    let twins := (s.flight.actions.filter fun e => sameTrigger e.2 a).map (·.1)
    (true, sendEvent (s.head (a.target % 128)) (if bit a.target 12 then 1 else 0) (bits a.target 8 4) a.time
      (twins.foldl (fun s n => freeAction n s) s))
  | .gpio =>
    let p := a.target % 64
    (true, setPin p (if a.arg = 2 then !(s.pin p).out else a.arg == 1) s)
  | .waggle => (true, originate [a.target % 256] false s)
  | .frameLaunch => launchFrame (a.target % 256) s
  | _ => (true, s)
/-- An action takes effect now, or is judged late or dropped (R387, R389, R390). -/
def runAction (slot : Nat) (a : Action) (s : State) : State :=
  let due := s.due a
  let cls := classCode a.cls
  let late := s.now - due
  let onTime := decide (a.placedAt + 1000 ≤ due) && late == 0
  let s := freeAction slot s
  if !s.targetOk a then schedDrop cls 2 late a.target (s.actTo a) s
  else if !onTime && (a.drop || decide (a.tol < late)) then schedDrop cls 1 late a.target (s.actTo a) s
  else
    let x := actEffect a s
    if !x.1 then schedDrop cls 2 late a.target (s.actTo a) s
    else if onTime then x.2 else schedLate cls late a.target (s.actTo a) x.2
/-- A TRIGGER action for a lane in DOZE wakes it and waits for its resume (R546). -/
def State.mustWake (s : State) (a : Action) : Bool :=
  a.cls == .trigger && (s.lane (a.target % 128)).cfg.mode == .camRx && (s.lane (s.head (a.target % 128))).power == .doze
/-- ACTION_EXECUTE (R387 to R390): `lateBy` ns after the due instant the action can first take effect. A valve action takes
effect at a latch; in OFF, where there is none, an open is dropped and a close has no effect (Table 9-2). -/
def execActionExecute (slot : Nat) (lateBy : Nat) (s : State) : Host.Outcome State Fault Refusal :=
  .next (match s.flight.actions.find slot with
  | none => s
  | some a =>
    if a.cls = .valveOpen ∨ a.cls = .valveClose then
      if (s.vp (a.target / 512)).mode = .off then latchAction (a.target / 512) a.time slot a (advTo (a.time + lateBy) s) else s
    else if s.outranked slot a then s
    else
      let s := advTo (s.due a + lateBy) s
      if s.mustWake a then
        let h := s.head (a.target % 128)
        if (s.lane h).resuming then s else wakeDozing h s
      else runAction slot a s)

/-! ### Commands (Tables 13-7, 13-8) -/

/-- Class of a record. -/
def classOf : Nat → ActClass
  | 0 => .trigger | 1 => .gpio | 2 => .waggle | 3 => .valveOpen | 4 => .valveClose | _ => .frameLaunch
/-- Actions placed by SCHED_ADD that a function holds. -/
def State.placedBy (s : State) (f : Nat) : Nat := (s.flight.actions.filter fun e => e.2.placer == .cmd f).length
/-- Check 4 and 5 for the action at offset `o`: its target exists and is the caller's; a SECURE channel is the trusted
function's (R360). -/
def actionNamed (r : Req) (s : State) (o : Nat) : List (Bool × Fail) :=
  let t := r.u32 (o + 0x10)
  match byteAt r.body (o + 8) with
  | 0 => [(decide (t % 128 < 96), badField (o + 0x10)), (s.owns r.fn .lane (t % 128), failSt stDenied)]
  | 1 => [(decide (t < 64), badField (o + 0x10)), (s.owns r.fn .gpio t, failSt stDenied)]
  | 2 => [(decide (t < 256), badField (o + 0x10)),
      (s.owns r.fn .channel t && (!(s.chan t).secure || s.isTrusted r.fn), failSt stDenied)]
  | 5 => [(!s.sys.straps.compat || (decide (t < 256) && (s.ctx t).isSome), badField (o + 0x10)),
      (!s.sys.straps.compat || ((s.ctx t).map (·.owner)) == some r.fn, failSt stDenied)]
  | _ => []
/-- Mode checks of the action at `o`. -/
def actionMode (r : Req) (s : State) (o : Nat) : Bool × Fail :=
  let t := r.u32 (o + 0x10)
  (match byteAt r.body (o + 8) with
  | 0 => (s.lane (t % 128)).cfg.mode == .camRx || s.sys.straps.compat
  | 1 => (s.pin (t % 64)).mode == .scheduled || s.sys.straps.compat
  | 5 => s.sys.straps.compat
  | _ => true, failSt stNotInMode)
/-- Fields of the action at `o` (Table 13-8); in compatibility only classes 1 and 5 (Table 23-2). -/
def actionFields (r : Req) (s : State) (o : Nat) : List (Bool × Fail) :=
  let c := byteAt r.body (o + 8)
  let t := r.u32 (o + 0x10)
  let g := r.u32 (o + 0x14)
  [(decide (u64At r.body o ≤ s.now + 60000000000), badField o),
   (if s.sys.straps.compat then c == 1 || c == 5 else decide (c ≤ 2) || c == 5, badField (o + 8)),
   (decide (byteAt r.body (o + 9) ≤ 1), badField (o + 9)), (u16At r.body (o + 0xA) == 0, badField (o + 0xA)),
   (c != 0 || (decide (t < 8192) && !bit t 7), badField (o + 0x10)),
   (if c = 1 then decide (g ≤ 2) else g == 0, badField (o + 0x14))]
/-- The action at `o`. -/
def actionAt (r : Req) (o : Nat) : Action :=
  { time := u64At r.body o, cls := classOf (byteAt r.body (o + 8)), drop := byteAt r.body (o + 9) == 1
    tol := r.u32 (o + 0xC), target := r.u32 (o + 0x10), arg := r.u32 (o + 0x14), placer := .cmd r.fn, order := 0, placedAt := 0 }
/-- Offsets of a request's actions. -/
def actionOffsets (r : Req) : List Nat := (List.range (min 64 (r.u32 0))).map fun i => 8 + 24 * i
/-- What a SCHED_ADD must meet (R360, R389). -/
def schedAddChecks (r : Req) (s : State) : List (Bool × Fail) :=
  let n := r.u32 0
  let os := actionOffsets r
  os.map (actionMode r s) ++ [(inR 1 64 n, badField 0), (r.u32 4 == 0, badField 4)] ++ os.flatMap (actionFields r s)
    ++ [(decide (n ≤ s.flightFree) && decide (s.placedBy r.fn + n ≤ 16384), noResource 13)]
/-- One more action placed: its slot goes at the end. -/
def placeNext (r : Req) (x : List Nat × State) (o : Nat) : List Nat × State :=
  let y := placeAction (actionAt r o) x.2
  (x.1 ++ [y.1], y.2)
/-- An action whose TIME has passed is judged at once (R389). -/
def judgeAction (s : State) (n : Nat) : State :=
  match s.flight.actions.find n with
  | some a => if a.time ≤ s.now ∧ !s.mustWake a then runAction n a s else s
  | none => s
/-- The actions of a SCHED_ADD are placed, in their order. -/
def schedPlace (r : Req) (s : State) : Answer :=
  let x := (actionOffsets r).foldl (placeNext r) ([], s)
  .ok (x.1.foldl judgeAction x.2) (x.1.flatMap fun n => b32 (x.2.handle n))
def cmdSchedAdd (op : Nat) : Cmd where
  op := op
  len b := decide (8 ≤ b.length) && b.length == 8 + 24 * u32At b 0
  reads := false
  named r s :=
    let l := (actionOffsets r).map (actionNamed r s)
    -- existence of every target before any ownership
    firstFail (l.flatMap (·.take 1) ++ l.flatMap (·.drop 1))
  run r s := checked (schedAddChecks r s) fun _ => schedPlace r s
/-- SCHED_ADD (R360, R389). -/
def execSchedAdd (f : Fn) (m : Mbx) (s : State) : Host.Outcome State Fault Refusal := .next (serve (cmdSchedAdd 0x0710) f m s)

/-- A handle matches an action of the caller whose time is still to come (R361). -/
def State.cancels (s : State) (f h : Nat) : Bool :=
  match s.flight.actions.find (h % 262144) with
  | some a => a.placer == .cmd f && s.handle (h % 262144) == h && decide (s.now < a.time)
  | none => false
/-- One more handle cancelled, where it is the caller's and still pending (R361). -/
def cancelNext (r : Req) (x : Nat × State) (i : Nat) : Nat × State :=
  let h := r.u32 (4 + 4 * i)
  if x.2.cancels r.fn h then (x.1 + 1, freeAction (h % 262144) x.2) else x
/-- The actions of a SCHED_CANCEL are cancelled, in their order. -/
def schedTake (r : Req) (s : State) : Answer :=
  let n := r.u32 0
  let x := (List.range n).foldl (cancelNext r) (0, s)
  .ok x.2 (b32 x.1 ++ b32 (n - x.1))
def cmdSchedCancel (op : Nat) : Cmd where
  op := op
  len b := decide (4 ≤ b.length) && b.length == 4 + 4 * u32At b 0
  reads := false
  named _ _ := none
  run r s := checked [(inR 1 64 (r.u32 0), badField 0)] fun _ => schedTake r s
/-- SCHED_CANCEL (R361). -/
def execSchedCancel (f : Fn) (m : Mbx) (s : State) : Host.Outcome State Fault Refusal := .next (serve (cmdSchedCancel 0x0711) f m s)

def cmdSchedGetStatus (op : Nat) : Cmd where
  op := op
  len := lenIs 0
  reads := true
  named _ _ := none
  run r s :=
    let c := s.flight.counts
    .ok (if r.clear then modFlight (fun f => { f with counts := cntClear f.counts 0 12 }) s else s)
      (b32 s.flightFree ++ b32 (s.placedBy r.fn) ++ (List.range 6).flatMap fun i => b32 (cnt c i) ++ b32 (cnt c (6 + i)))
/-- SCHED_GET_STATUS. -/
def execSchedGetStatus (f : Fn) (m : Mbx) (s : State) : Host.Outcome State Fault Refusal := .next (serve (cmdSchedGetStatus 0x0712) f m s)

end Sys2Proof.Machine
end

