-- ==== Sys2Proof/Machine/Compat.lean ====
section
/-! DEFINITION. F4800 compatibility (23_f4800_compatibility.md): the commands of group 0x0E (R536, Table 23-2). Each takes the
layout, checks and effect of its native command under the restrictions of the table; check 6 of R334 admits the group only in
compatibility. -/
namespace Sys2Proof.Machine

/-- 0x0E00 (R370). -/
def cmdCompatGetInfo : Cmd where
  op := 0x0E00
  len := lenIs 0
  reads := true
  named _ _ := none
  run _ s := .ok s (b32 (b2n s.sys.straps.compat))
/-- COMPAT_GET_INFO (R370). -/
def execCompatGetInfo (f : Fn) (m : Mbx) (s : State) : Host.Outcome State Fault Refusal := .next (serve cmdCompatGetInfo f m s)

/-! ### Lanes (R534) -/

/-- L00 to L47, OFF or ETH_CAM at 53.125 or 25.78125 Gb/s. -/
def compatLane (r : Req) : Bool :=
  decide (r.u32 0 < 48) && (r.u32 4 == 0 || (r.u32 4 == 4 && inR 4 5 (r.u32 8)))
/-- 0x0E01. -/
def cmdCompatLaneConfigure : Cmd :=
  { cmdLaneConfigure with
    op := 0x0E01
    run := fun r s => if compatLane r then laneConfigure r s else .fail (failSt stNotInMode) }
/-- COMPAT_LANE_CONFIGURE (R534). -/
def execCompatLaneConfigure (f : Fn) (m : Mbx) (s : State) : Host.Outcome State Fault Refusal :=
  .next (serve cmdCompatLaneConfigure f m s)

/-- 0x0E02. -/
def cmdCompatLaneGetStatus : Cmd := { cmdLaneGetStatus with op := 0x0E02 }
/-- COMPAT_LANE_GET_STATUS. -/
def execCompatLaneGetStatus (f : Fn) (m : Mbx) (s : State) : Host.Outcome State Fault Refusal :=
  .next (serve cmdCompatLaneGetStatus f m s)

/-! ### Contexts, intake, corrections, steering -/

/-- 0x0E10. -/
def cmdCompatCtxCreate : Cmd := { cmdCtxCreate with op := 0x0E10, run := ctxCreate true }
/-- COMPAT_CTX_CREATE: KIND 2, FULL_FRAME, on an ETH_CAM lane. -/
def execCompatCtxCreate (f : Fn) (m : Mbx) (s : State) : Host.Outcome State Fault Refusal :=
  .next (serve cmdCompatCtxCreate f m s)

/-- 0x0E11. -/
def cmdCompatCtxAssign : Cmd := { cmdCtxAssign with op := 0x0E11 }
/-- COMPAT_CTX_ASSIGN. -/
def execCompatCtxAssign (f : Fn) (m : Mbx) (s : State) : Host.Outcome State Fault Refusal :=
  .next (serve cmdCompatCtxAssign f m s)

/-- 0x0E12. -/
def cmdCompatCtxStart : Cmd := { cmdCtxStart with op := 0x0E12 }
/-- COMPAT_CTX_START. -/
def execCompatCtxStart (f : Fn) (m : Mbx) (s : State) : Host.Outcome State Fault Refusal :=
  .next (serveWaking cmdCompatCtxStart (fun _ => true) f m s)

/-- 0x0E13. -/
def cmdCompatCtxStop : Cmd := { cmdCtxStop with op := 0x0E13 }
/-- COMPAT_CTX_STOP. -/
def execCompatCtxStop (f : Fn) (m : Mbx) (s : State) : Host.Outcome State Fault Refusal :=
  .next (serve cmdCompatCtxStop f m s)

/-- 0x0E14. -/
def cmdCompatCtxRelease : Cmd := { cmdCtxRelease with op := 0x0E14 }
/-- COMPAT_CTX_RELEASE. -/
def execCompatCtxRelease (f : Fn) (m : Mbx) (s : State) : Host.Outcome State Fault Refusal :=
  .next (serve cmdCompatCtxRelease f m s)

/-- 0x0E15. -/
def cmdCompatCtxDestroy : Cmd := { cmdCtxDestroy with op := 0x0E15 }
/-- COMPAT_CTX_DESTROY. -/
def execCompatCtxDestroy (f : Fn) (m : Mbx) (s : State) : Host.Outcome State Fault Refusal :=
  .next (serve cmdCompatCtxDestroy f m s)

/-- 0x0E16. -/
def cmdCompatCtxGetStatus : Cmd := { cmdCtxGetStatus with op := 0x0E16, run := ctxStatus (ctxCounters + 1) }
/-- COMPAT_CTX_GET_STATUS: LAUNCH_EARLY_CNT follows the native counters. -/
def execCompatCtxGetStatus (f : Fn) (m : Mbx) (s : State) : Host.Outcome State Fault Refusal :=
  .next (serve cmdCompatCtxGetStatus f m s)

/-- 0x0E17. -/
def cmdCompatIntakeSetPartition : Cmd := { cmdIntakeSetPartition with op := 0x0E17, run := setPartition 12 }
/-- COMPAT_INTAKE_SET_PARTITION: quads Q00 to Q11. -/
def execCompatIntakeSetPartition (f : Fn) (m : Mbx) (s : State) : Host.Outcome State Fault Refusal :=
  .next (serve cmdCompatIntakeSetPartition f m s)

/-- 0x0E20. -/
def cmdCompatCorrSetBlack : Cmd := { cmdCorrSetBlack with op := 0x0E20 }
/-- COMPAT_CORR_SET_BLACK. -/
def execCompatCorrSetBlack (f : Fn) (m : Mbx) (s : State) : Host.Outcome State Fault Refusal :=
  .next (serve cmdCompatCorrSetBlack f m s)

/-- 0x0E21. -/
def cmdCompatCorrSetEnable : Cmd := { cmdCorrSetEnable with op := 0x0E21, run := setEnables 0x30 }
/-- COMPAT_CORR_SET_ENABLE: BLACK and FLAT alone. -/
def execCompatCorrSetEnable (f : Fn) (m : Mbx) (s : State) : Host.Outcome State Fault Refusal :=
  .next (serve cmdCompatCorrSetEnable f m s)

/-- 0x0E22. -/
def cmdCompatCorrLoadTable : Cmd := { cmdCorrLoadTable with op := 0x0E22, run := loadTable fun k => k == 0 }
/-- COMPAT_CORR_LOAD_TABLE: TABLE 0 alone. -/
def execCompatCorrLoadTable (f : Fn) (m : Mbx) (s : State) : Host.Outcome State Fault Refusal :=
  .next (serve cmdCompatCorrLoadTable f m s)

/-- 0x0E30. -/
def cmdCompatPgSetSteering : Cmd := { cmdPgSetSteering with op := 0x0E30, run := setSteering true }
/-- COMPAT_PG_SET_STEERING: one entry of a context, to a FRAME queue. -/
def execCompatPgSetSteering (f : Fn) (m : Mbx) (s : State) : Host.Outcome State Fault Refusal :=
  .next (serve cmdCompatPgSetSteering f m s)

/-- 0x0E60 (R538). -/
def cmdCtxSetLaunch : Cmd where
  op := 0x0E60
  len := lenIs 8
  reads := false
  named := ctxCheck
  run r s := withCtx r s fun c x =>
    checked [(x.quiet, failSt stState), (inR 0 1 (r.u32 4), badField 4)] fun _ =>
      .ok (modCtx c (fun x => { x with launchTimed := r.u32 4 == 1 }) s) []
/-- CTX_SET_LAUNCH (R538, Table 23-2). -/
def execCtxSetLaunch (f : Fn) (m : Mbx) (s : State) : Host.Outcome State Fault Refusal := .next (serve cmdCtxSetLaunch f m s)

/-! ### Queues -/

/-- 0x0E40. -/
def cmdCompatQPartition : Cmd := { cmdQPartition with op := 0x0E40 }
/-- COMPAT_Q_PARTITION (R533). -/
def execCompatQPartition (f : Fn) (m : Mbx) (s : State) : Host.Outcome State Fault Refusal :=
  .next (serve cmdCompatQPartition f m s)

/-- 0x0E41. -/
def cmdCompatQCreate : Cmd := { cmdQCreate with op := 0x0E41, run := qCreate true }
/-- COMPAT_Q_CREATE: types 2, 4, 5 and 6. -/
def execCompatQCreate (f : Fn) (m : Mbx) (s : State) : Host.Outcome State Fault Refusal :=
  .next (serve cmdCompatQCreate f m s)

/-- 0x0E42. -/
def cmdCompatQEnable : Cmd := { cmdQEnable with op := 0x0E42 }
/-- COMPAT_Q_ENABLE. -/
def execCompatQEnable (f : Fn) (m : Mbx) (s : State) : Host.Outcome State Fault Refusal :=
  .next (serve cmdCompatQEnable f m s)

/-- 0x0E43. -/
def cmdCompatQDisable : Cmd := { cmdQDisable with op := 0x0E43 }
/-- COMPAT_Q_DISABLE (R540). -/
def execCompatQDisable (f : Fn) (m : Mbx) (s : State) : Host.Outcome State Fault Refusal :=
  .next (serve cmdCompatQDisable f m s)

/-- 0x0E44. -/
def cmdCompatQReset : Cmd := { cmdQReset with op := 0x0E44 }
/-- COMPAT_Q_RESET. -/
def execCompatQReset (f : Fn) (m : Mbx) (s : State) : Host.Outcome State Fault Refusal :=
  .next (serve cmdCompatQReset f m s)

/-- 0x0E45. -/
def cmdCompatQDestroy : Cmd := { cmdQDestroy with op := 0x0E45 }
/-- COMPAT_Q_DESTROY. -/
def execCompatQDestroy (f : Fn) (m : Mbx) (s : State) : Host.Outcome State Fault Refusal :=
  .next (serve cmdCompatQDestroy f m s)

/-- 0x0E46. -/
def cmdCompatQSetNotify : Cmd := { cmdQSetNotify with op := 0x0E46 }
/-- COMPAT_Q_SET_NOTIFY. -/
def execCompatQSetNotify (f : Fn) (m : Mbx) (s : State) : Host.Outcome State Fault Refusal :=
  .next (serve cmdCompatQSetNotify f m s)

/-- 0x0E47. -/
def cmdCompatQGetStatus : Cmd := { cmdQGetStatus with op := 0x0E47 }
/-- COMPAT_Q_GET_STATUS. -/
def execCompatQGetStatus (f : Fn) (m : Mbx) (s : State) : Host.Outcome State Fault Refusal :=
  .next (serve cmdCompatQGetStatus f m s)

/-! ### Time and schedule -/

/-- 0x0E50. -/
def cmdCompatTimeGetStatus : Cmd := { cmdTimeGetStatus with op := 0x0E50 }
/-- COMPAT_TIME_GET_STATUS. -/
def execCompatTimeGetStatus (f : Fn) (m : Mbx) (s : State) : Host.Outcome State Fault Refusal :=
  .next (serve cmdCompatTimeGetStatus f m s)

/-- 0x0E51. -/
def cmdCompatTimeSetSource : Cmd := { cmdTimeSetSource with op := 0x0E51 }
/-- COMPAT_TIME_SET_SOURCE. -/
def execCompatTimeSetSource (f : Fn) (m : Mbx) (s : State) : Host.Outcome State Fault Refusal :=
  .next (serve cmdCompatTimeSetSource f m s)

/-- 0x0E52. -/
def cmdCompatTimeSetExtOffset : Cmd := { cmdTimeSetExtOffset with op := 0x0E52 }
/-- COMPAT_TIME_SET_EXT_OFFSET. -/
def execCompatTimeSetExtOffset (f : Fn) (m : Mbx) (s : State) : Host.Outcome State Fault Refusal :=
  .next (serve cmdCompatTimeSetExtOffset f m s)

/-- 0x0E53. -/
def cmdCompatTimeSetPps : Cmd := { cmdTimeSetPps with op := 0x0E53 }
/-- COMPAT_TIME_SET_PPS. -/
def execCompatTimeSetPps (f : Fn) (m : Mbx) (s : State) : Host.Outcome State Fault Refusal :=
  .next (serve cmdCompatTimeSetPps f m s)

/-- COMPAT_SCHED_ADD. -/
def execCompatSchedAdd (f : Fn) (m : Mbx) (s : State) : Host.Outcome State Fault Refusal :=
  .next (serve (cmdSchedAdd 0x0E58) f m s)

/-- COMPAT_SCHED_CANCEL. -/
def execCompatSchedCancel (f : Fn) (m : Mbx) (s : State) : Host.Outcome State Fault Refusal :=
  .next (serve (cmdSchedCancel 0x0E59) f m s)

/-- COMPAT_SCHED_GET_STATUS. -/
def execCompatSchedGetStatus (f : Fn) (m : Mbx) (s : State) : Host.Outcome State Fault Refusal :=
  .next (serve (cmdSchedGetStatus 0x0E5A) f m s)

end Sys2Proof.Machine
end

