-- ==== Sys2Proof/Machine/Device.lean ====
section
/-! DEFINITION. Mailbox doorbells (12_commands_setup.md, R326, R330, R331), device information and ownership (Table 12-8,
R338, R339), and the capture of hive time (R277). -/
namespace Sys2Proof.Machine

/-- READY as function `f` reads it: the loader serves HP0 alone (R459). -/
def State.readyFor (s : State) (f : Nat) : Bool := s.sys.ready && (s.sys.stage != .loader || f == 0)
/-- HB_STATUS (Table 10-6). -/
def State.hbStatus (s : State) (f : Nat) : Nat :=
  b2n (s.readyFor f) + 2 * b2n (f == s.sys.trusted) + 4 * b2n s.sys.straps.compat + 8 * b2n (s.merged f)
    + 16 * b2n s.keeper.calDefaults
/-- HB_TIME_LO_READ (R277): the capture, and the low word of the ns count. -/
def execHbTimeLoRead (f : Fn) (t : Nat) (s : State) : Host.Outcome State Fault Refusal :=
  let s := advTo t s
  .next (if !s.present f ∨ !(s.hp f).up ∨ (s.hp f).perst then s
  else if !s.decodes f then emit (.unsupported f) s
  else emit (.readData f (s.now % 2 ^ 32)) (modHp f (fun h => { h with captured := s.clock.t16 }) (tlp f s)))

/-! ### Doorbells of a mailbox -/

/-- A mailbox write that is not accepted (R326). -/
def mbxError (f : Nat) (s : State) : State := honey (hoPort f 12) (countHp f .mbxErr s)
/-- GO is written (R326). -/
def mbxGo (f m : Nat) (s : State) : State :=
  let b := s.mbx f m
  if b.state ≠ .busy ∧ s.readyFor f then
    nextRequest { modMbx f m (fun b => { b with state := .busy, aborted := false, genGo := b.gen }) (keeperWork s) with
      goOrder := s.goOrder ++ [8 * f + m] }
  else mbxError f s
/-- MBX_GO. -/
def execMbxGo (f : Fn) (m : Mbx) (s : State) : Host.Outcome State Fault Refusal :=
  .next (if s.decodes f then mbxGo f m (tlp f s) else barLost f s)
/-- ABORT is written (R331): a request under way has not committed and never will. -/
def mbxAbort (f m : Nat) (s : State) : State :=
  let b := s.mbx f m
  if b.state = .busy then
    let s := modMbx f m (fun b => { b with abort := true }) s
    nextRequest { s with
      goOrder := s.goOrder.filter (· != 8 * f + m)
      waiting := match s.waiting with
        | some w => if w.fn = f ∧ w.mbx = m then none else some w
        | none => none }
  else modMbx f m (fun b => { b with gen := (b.gen + 1) % 256, state := .idle }) s
/-- MBX_ABORT. -/
def execMbxAbort (f : Fn) (m : Mbx) (s : State) : Host.Outcome State Fault Refusal :=
  .next (if s.decodes f then mbxAbort f m (tlp f s) else barLost f s)
/-- ABORT_COMPLETE (R331): while the keeper restarts, the abort completes with the restart (R332). -/
def execAbortComplete (f : Fn) (m : Mbx) (s : State) : Host.Outcome State Fault Refusal :=
  let b := s.mbx f m
  .next (if b.abort ∧ b.state = .busy ∧ s.sys.ready then modMbx f m (fun b => { b with gen := (b.gen + 1) % 256, abort := false, state := .idle, aborted := true }) s else s)

/-! ### Device information (Table 12-8) -/

/-- Straps as DEV_GET_INFO returns them. -/
def strapWord (x : Straps) : Nat := x.role % 4 + 4 * b2n x.compat + 8 * (x.bootSel % 4)
def cmdDevGetInfo : Cmd where
  op := 0x0001
  len := lenIs 0
  reads := true
  named _ _ := none
  run r s :=
    let w := if r.fn < 4 then (s.fnWord r.fn % 16, s.hbStatus r.fn) else Config.hiveFunction s.deviceId
    .ok s (b32 0x9600 ++ b8 0xB0 ++ b8 (b2n s.sys.gradeI) ++ b16 0 ++ b64 s.sys.serial ++ b32 s.sys.fwVersion
      ++ b32 s.sys.secVersion ++ b32 (strapWord s.sys.straps) ++ b32 w.1 ++ b32 s.deviceId ++ b32 w.2)
/-- DEV_GET_INFO. -/
def execDevGetInfo (f : Fn) (m : Mbx) (s : State) : Host.Outcome State Fault Refusal := .next (serve cmdDevGetInfo f m s)

def cmdDevGetPortStatus : Cmd where
  op := 0x0002
  len := lenIs 4
  reads := true
  named r s := firstFail [named 4 0 r, (r.u32 0 == r.fn || s.isTrusted r.fn, failSt stDenied)]
  run r s :=
    let p := r.u32 0
    let h := s.hp p
    .ok (if r.clear then modHp p (fun h => { h with counts := cntClear h.counts 0 12 }) s else s)
      (b32 (b2n h.up + 2 * b2n (s.available p) + 4 * h.dstate + 256 * (h.width % 16) + 65536 * (h.rate100 % 65536))
        ++ b32 h.maxPayload ++ cntBytes h.counts 0 12)
/-- DEV_GET_PORT_STATUS. -/
def execDevGetPortStatus (f : Fn) (m : Mbx) (s : State) : Host.Outcome State Fault Refusal := .next (serve cmdDevGetPortStatus f m s)

/-! ### Ownership (R338, R339) -/

/-- KIND codes of units that move; contexts and queues do not. -/
def kindOf : Nat → Option (Kind × Nat)
  | 0 => some (.lane, 96) | 1 => some (.comb, 24) | 2 => some (.stitch, 32) | 3 => some (.pairing, 32)
  | 4 => some (.valvePort, 8) | 5 => some (.channel, 256) | 6 => some (.encoder, 8) | 7 => some (.gpio, 64)
  | _ => none
/-- An index exists for its kind (R334). -/
def unitExists (s : State) (k i : Nat) : Bool :=
  match kindOf k with
  | some x => decide (i < x.2)
  | none => if k = 8 then decide (i < 256) && (s.ctx i).isSome else if k = 9 then (s.queue i).isSome else true
/-- A unit that an object of its owner uses, or that may not move for its state (R339). -/
def unitUsed (s : State) (k i : Nat) : Bool :=
  if k = 0 then (s.ctxs.any fun e => (s.bondLanes (s.head e.2.lane)).contains i) || s.bonded i || (s.lane i).cfg.mode == .hive
  else if k = 1 then (s.comb i).state == .spare || (s.comb i).state == .failed || !(s.residents i).isEmpty
  else if k = 2 then (s.stitches.find i).isSome
  else if k = 3 then (s.pgs.find i).isSome
  else if k = 4 then (s.vp i).mode == .run || (s.vp i).mode == .test
  else if k = 6 then s.pgs.any fun e => e.2.set.enc == some i
  else false
/-- OWNER of a request: a function that exists, or the hive. -/
def ownerWord (s : State) (w : Nat) : Option Nat :=
  if w < 4 then (if s.present w then some w else none) else if w = 0xFFFFFFFE then some ownHive else none
def cmdDevAssign : Cmd where
  op := 0x0003
  len := lenIs 12
  reads := false
  named r s := firstFail [(unitExists s (r.u32 0) (r.u32 4), badField 4), needTrusted r s]
  run r s :=
    let i := r.u32 4
    checked [(!unitUsed s (r.u32 0) i, failSt stState), (!(r.u32 0 == 0 && s.holds (.prbs i)), failSt stBusy), ((kindOf (r.u32 0)).isSome, badField 0), ((ownerWord s (r.u32 8)).isSome, badField 8)] fun _ =>
      match kindOf (r.u32 0), ownerWord s (r.u32 8) with
      | some (k, _), some o => .ok (setOwner k i o s) []
      | _, _ => .fail (badField 0)
/-- DEV_ASSIGN (R339). -/
def execDevAssign (f : Fn) (m : Mbx) (s : State) : Host.Outcome State Fault Refusal := .next (serve cmdDevAssign f m s)

/-- The word of an owner. -/
def ownerCode (o : Nat) : Nat := if o < 4 then o else if o = ownHive then 0xFFFFFFFE else if o = ownKeeper then 0xFFFFFFFD else 0xFFFFFFFF
/-- The owner of a unit of any kind. -/
def unitOwner (s : State) (k i : Nat) : Nat :=
  match kindOf k with
  | some x => s.ownerOf x.1 i
  | none => if k = 8 then ((s.ctx i).map (·.owner)).getD ownNone else ((s.queue i).map (·.owner)).getD ownNone
def cmdDevGetOwner : Cmd where
  op := 0x0004
  len := lenIs 8
  reads := true
  named r s := firstFail [(unitExists s (r.u32 0) (r.u32 4), badField 4)]
  run r s := checked [(inR 0 9 (r.u32 0), badField 0)] fun _ => .ok s (b32 (ownerCode (unitOwner s (r.u32 0) (r.u32 4))))
/-- DEV_GET_OWNER. -/
def execDevGetOwner (f : Fn) (m : Mbx) (s : State) : Host.Outcome State Fault Refusal := .next (serve cmdDevGetOwner f m s)

end Sys2Proof.Machine
end

