-- ==== Sys2Proof/Machine/Memory.lean ====
section
/-! DEFINITION. The banks (20_on_chip_memory.md): retention, ECC, uncorrectable words, the background test and the valve
guard. -/
namespace Sys2Proof.Machine

/-- 64-bit words of bank `b` (Table 1-4). -/
def bankWords (b : Nat) : Nat :=
  if b < 24 then 131072 else if b < 48 then 393216 else if b < 56 then 1048576 else if b < 60 then 262144 else 1048576
/-- Counters of a bank's honey record, in the order of R504. -/
def memCorr : Nat := 0
def memUncorr : Nat := 4
def memWriteLost : Nat := 8
def memSurrender : Nat := 12
def memTestFail : Nat := 16
/-- The bank is used by no unit (R498). -/
def State.bankIdle (s : State) (b : Nat) : Bool :=
  if b < 24 then (List.range 4).all fun i => !(s.lane (4 * b + i)).on
  else if b < 48 then (s.comb (b - 24)).state == .free || (s.comb (b - 24)).state == .spare
  else if b < 56 then (s.asmCtxs (b - 48)).isEmpty
  else if b < 60 then !(s.queues.any fun e => e.1 / 16384 == b - 56)
  else false
/-- BANK_RETENTION_ENTRY (R498; in SLEEP, Table 24-3). -/
def execBankRetentionEntry (b : BankId) (s : State) : Host.Outcome State Fault Refusal :=
  .next (if b.val < 60 ∧ (s.bankIdle b ∨ s.sys.devState = .sleep) then modBank b (fun x => { x with retention := true }) s else s)
/-- BANK_WAKE (R498). -/
def execBankWake (b : BankId) (s : State) : Host.Outcome State Fault Refusal := .next (wakeBank b s)
/-- ECC_CORRECTED (R495): the corrected word is written back. -/
def execEccCorrected (b : BankId) (word : Nat) (t : Nat) (s : State) : Host.Outcome State Fault Refusal :=
  let s := honey (hoBank b memCorr) (modBank b (fun x => { x with injected := x.injected.erase word }) (advTo t s))
  let p := paced .eccCorrected b 1000000000 s
  .next (if p.1 then raise 0x0C10 sevI b word 0 [s.sys.trusted] p.2 else p.2)

/-! ### Uncorrectable words (R496, Table 20-3) -/

/-- A cell of assembler `a` that has not begun to leave is taken out of the queue or the link where it waits. -/
def unwait (a n : Nat) (s : State) : State :=
  { s with queues := s.queues.map fun e => (e.1, { e.2 with waiting := e.2.waiting.filter fun w => !(w.asm == a && w.cell == n) }) }
/-- Source and sequence of a CELL packet. -/
def TxPacket.cellId (p : TxPacket) : Nat × Nat := (u16At p.bytes 4, u32At p.bytes 8)
/-- The packets of a cell that wait at a transmitter. -/
def Link.cellWaits (k : Link) (a n : Nat) : Option (List TxPacket) :=
  (k.txq.find? fun p => p.brood == some (a, n)).map fun x => k.txq.filter fun p => p.ptype == ptCell && p.cellId == x.cellId
/-- A cell of assembler `a` is not written unless its write to a link has begun (R496, R510): CELL_DROP_CNT. -/
def dropCell (a n : Nat) (s : State) : State :=
  match (s.asm a).cells.find n with
  | none => s
  | some x =>
    match s.links.find? fun (e : Nat × Link) => (e.2.cellWaits a n).isSome with
    | some (h, k) =>
      let ps := (k.cellWaits a n).getD []
      if ps.length < max 1 (ceilDiv x.data.length (s.maxPacket h)) then s
      else
        let s := modLink h (fun k => { k with txq := k.txq.filter fun p => !ps.contains p }) s
        countCtx x.ctx .cellDrop (freeCell a n s)
    | none => countCtx x.ctx .cellDrop (freeCell a n (unwait a n s))
/-- A context line in intake is lost, whether it still waits for its bands or for the comb. -/
def loseStored (c n : Nat) (s : State) : State :=
  match s.ctx c with
  | none => s
  | some x =>
    match x.slots.findSome? fun y => match y with
        | .line p _ _ _ => if lineNo p = n then some p else none
        | _ => none with
    | some p => breakLine c p s
    | none =>
      match x.work.findSome? fun w => match w with
          | .line p _ _ _ _ => if lineNo p = n then some p else none
          | _ => none with
      | some p => countLost c 1 p (modCtx c (fun x => { x with work := x.work.map fun w => match w with
          | .line q i t d b => if q = p then .lost q 1 none else .line q i t d b
          | y => y }) s)
      | none => s
/-- An item of an assembler's input queue is lost (R496): OBJ_LOST_CNT of its context. -/
def loseItem (a i : Nat) (s : State) : State :=
  match (s.asm a).queue[i]? with
  | some (.obj o) => countCtx o.ctx .objLost (modAsm a (fun v => { v with queue := v.queue.eraseIdx i }) s)
  | _ => s
/-- An action of the schedule is dropped with reason TARGET (R496, R390). -/
def loseAction (slot : Nat) (s : State) : State :=
  match s.flight.actions.find slot with
  | none => s
  | some a =>
    let s := freeAction slot s
    let s := modFlight (fun f => { f with pulses := f.pulses.map fun e =>
      (e.1, if e.2.closeSlot = some slot then { e.2 with closeSlot := none } else e.2) }) s
    schedDrop (classCode a.cls) 2 0 a.target (s.actTo a) s
/-- The copies of a context's tables in the keeper bank are gone: it loses protection (R146). -/
def loseCopy (c : Nat) (s : State) : State := modCtx c (fun x => { x with flatCopy := none, defectsCopy := none, bgCopy := none }) s
/-- Whether a bank holds words of a kind (Table 20-3). -/
def holdsWord (b : Nat) : BadWord → Bool
  | .bandLine _ _ => decide (b < 24)
  | .lineBank => decide (24 ≤ b ∧ b < 48)
  | .windowOrCell _ _ | .accumOrTag _ _ => decide (48 ≤ b ∧ b < 56)
  | .queueContext _ => decide (56 ≤ b ∧ b < 60)
  | .pendingEntry _ | .action _ => decide (b = 60)
  | .protectedCopy _ | .keeperOther => decide (b = 61)
/-- P2 of MEM_ECC_UNCORR, and the owner who hears of it besides the trusted function (R504). -/
def wordSubject (s : State) : BadWord → Nat × Nat
  | .bandLine c _ | .windowOrCell c _ | .accumOrTag c _ | .protectedCopy c => (c.val, ((s.ctx c).map (·.owner)).getD ownNone)
  | .queueContext q => (q.val, ((s.queue q).map (·.owner)).getD ownNone)
  | .pendingEntry slot => (0xFFFF, ((s.pend.find slot).map fun p => s.ownerOf .pairing p.group).getD ownNone)
  | .action slot =>
    match s.flight.actions.find slot with
    | some a => (if a.cls = .valveOpen ∨ a.cls = .valveClose then a.target else 0xFFFF, ownNone)
    | none => (0xFFFF, ownNone)
  | .lineBank | .keeperOther => (0xFFFF, ownNone)
/-- The effect of Table 20-3. -/
def badWord (b : Nat) (held : BadWord) (s : State) : State :=
  match held with
  | .bandLine c n => loseStored c n s
  | .lineBank => combFault (b - 24) s
  | .windowOrCell _ n => dropCell (b - 48) n s
  | .accumOrTag _ i => loseItem (b - 48) i s
  | .queueContext q => queueError q 6 s
  | .pendingEntry slot =>
    { s with pend := s.pend.erase slot, flight := { s.flight with actions := s.flight.actions.map fun e =>
        (e.1, { e.2 with entries := e.2.entries.filter (· != slot) }) } }
  | .action slot => loseAction slot s
  | .protectedCopy c => loseCopy c s
  | .keeperOther => if s.keeperRuns then keeperFault true s else s
/-- ECC_UNCORRECTABLE (R496, R504). -/
def execEccUncorrectable (b : BankId) (word : Nat) (held : BadWord) (t : Nat) (s : State) : Host.Outcome State Fault Refusal :=
  let s := advTo t s
  .next (if holdsWord b held then
    let w := wordSubject s held
    let s := honey (hoBank b memUncorr) (modBank b (fun x => { x with bad := true }) s)
    badWord b held (raise 0x0C11 sevE b word w.1 [s.sys.trusted, w.2] (detectFault clsMemory b s))
  else s)

/-! ### Background test (R499 to R501) -/

/-- Whether a window is open in the device at this instant: it is held for at most 1 µs. -/
def State.windowOpen (s : State) : Bool :=
  match s.window with
  | some w => decide (s.now < w.since + 1000)
  | none => false
/-- The test abandons its window (R500): after 16 surrenders running it is skipped until the next pass, before that it may be
retried 100 µs later. -/
def surrenderWindow (w : TestWindow) (s : State) : State :=
  let b := s.bank w.bank
  let n := if b.retry.map (·.1) = some w.base then b.surrenders + 1 else 1
  honey (hoBank w.bank memSurrender) (modBank w.bank (fun x => { x with
    surrenders := if n < 16 then n else 0, retry := if n < 16 then some (w.base, s.now + 100000) else none }) { s with window := none })
/-- A failing word of a window (R501). -/
def testFail (b : Nat) (f : Nat × Nat) (s : State) : State :=
  detectFault clsMemory b (raise 0x0C12 sevE b f.1 f.2 [s.sys.trusted]
    (honey (hoBank b memTestFail) (modBank b (fun x => { x with bad := true }) s)))
/-- BACKGROUND_TEST_WINDOW (R499, R501): `bad` is a word that read back a wrong pattern, and its failing bits. A window at
word 0 begins a pass of its bank, one that reaches the last word ends it; a pass without a failing word or an uncorrectable
read resolves the bank's fault (Table 21-2). -/
def execBackgroundTestWindow (b : BankId) (base len : Nat) (bad : Option (Nat × Nat)) (t : Nat) (s : State) :
    Host.Outcome State Fault Refusal :=
  let s := advTo t s
  let x := s.bank b
  let rested : Bool := match x.lastWindow with
    | some l => decide (l + 10000 ≤ s.now)
    | none => true
  let due : Bool := match x.retry with
    | some (p, d) => decide (p ≠ base ∨ d ≤ s.now)
    | none => true
  .next (if s.sys.ready ∧ s.sys.stage = .running ∧ !s.windowOpen ∧ rested ∧ due ∧ !x.retention ∧ 1 ≤ len ∧ len ≤ 256
      ∧ base % 256 = 0 ∧ base + len ≤ bankWords b then
    let s := { modBank b (fun x => { x with lastWindow := some t, bad := x.bad && base != 0 }) s with
      window := some { bank := b, base := base, len := len, since := s.now } }
    let s := match bad with
      | some f => if base ≤ f.1 ∧ f.1 < base + len then testFail b f s else s
      | none => s
    if base + len = bankWords b ∧ !(s.bank b).bad then faultOk clsMemory b (some s.now) s else s
  else s)
/-- TEST_WINDOW_SURRENDER (R500). -/
def execTestWindowSurrender (b : BankId) (t : Nat) (s : State) : Host.Outcome State Fault Refusal :=
  let s := advTo t s
  .next (match s.window with
  | some w => if w.bank = b.val ∧ s.windowOpen then surrenderWindow w s else s
  | none => s)
/-- WRITE_LOST (R494): a test write that loses abandons its window. -/
def execWriteLost (b : BankId) (word : Nat) (test : Bool) (s : State) : Host.Outcome State Fault Refusal :=
  let s := honey (hoBank b memWriteLost) s
  .next (match s.window with
  | some w => if test ∧ w.bank = b.val ∧ w.base ≤ word ∧ word < w.base + w.len then surrenderWindow w s else s
  | none => s)

/-! ### Valve guard (R497) -/

/-- MEM_VALVE_GUARD: a valve that frames have carried open for 20 ms and two periods is closed at the next latch. -/
def execMemValveGuard (valve : Fin 4096) (t : Nat) (s : State) : Host.Outcome State Fault Refusal :=
  let s := advTo t s
  let p := s.vp (valve.val / 512)
  let v := p.valve (valve.val % 512)
  .next (if v.sent ∧ v.open' ∧ v.openAt + longestPulse + 200 * p.period ≤ s.now then
    let s := modVp (valve.val / 512) (fun p => p.modValve (valve.val % 512) (fun x => { x with open' := false })) s
    raise 0x0C13 sevE valve 0 v.openAt [s.sys.trusted] (modFlight (fun f => { f with counts := count f.counts (6 + classCode .valveClose) }) s)
  else s)

end Sys2Proof.Machine
end

