-- ==== Sys2Proof/Machine/Faults.lean ====
section
/-! DEFINITION. Faults (21_single_fault_guarantee.md): assemblers, clocks, supplies, flash, their reports and their resolution;
thermal trip and the always-on supply (26_electrical_characteristics.md, 24_power_clocks_sleep.md). -/
namespace Sys2Proof.Machine

/-! ### Assemblers (R510) -/

/-- What an assembler held is lost: objects in its queue, unpaired objects, waiting fragments, cells not yet under way. -/
def loseAsm (a : Nat) (s : State) : State :=
  let items := (s.asm a).queue
  let s := items.foldl (fun s i => match i with
    | .obj o => countCtx o.ctx .objLost s
    | .cell c _ => countCtx c .objLost s) (modAsm a (fun v => { v with queue := [] }) s)
  let s := s.pgs.foldl (fun s (e : Nat × PGroup) =>
    let gone := e.2.unpaired.filter fun u => s.asmOf u.obj.ctx == a
    gone.foldl (fun s u => countCtx u.obj.ctx .objLost s)
      { s with pgs := s.pgs.put e.1 { e.2 with unpaired := e.2.unpaired.filter fun u => s.asmOf u.obj.ctx != a } }) s
  let s := s.frags.foldl (fun s (e : Nat × List Fragment) =>
    let gone := e.2.filter fun f => s.asmOf f.obj.ctx == a
    gone.foldl (fun s f => countCtx f.obj.ctx .objLost s) (modFrags e.1 (fun l => l.filter fun f => s.asmOf f.obj.ctx != a) s)) s
  ((s.asm a).cells.map (·.1)).foldl (fun s n => dropCell a n s) s
/-- An assembler fails (R510). -/
def asmFault (a : Nat) (s : State) : State :=
  if (s.asm a).failed then s
  else
    let s := modAsm a (fun v => { v with failed := true }) (loseAsm a (detectFault clsAsm a s))
    (s.asmCtxs a).foldl (fun s e => ctxFaulted e.1 0xFFFFFFFF s) s
/-- ASSEMBLER_FAULT (R510). -/
def execAssemblerFault (a : AsmId) (t : Nat) (s : State) : Host.Outcome State Fault Refusal := .next (asmFault a (advTo t s))

/-! ### Clocks (R511) -/

/-- A lane of a lost reference clock: its loss is a LOL of its class, and it waits for its PLL (R511, R584). -/
def stopLane (s : State) (l : Nat) : State :=
  let v := s.lane l
  if !v.on ∨ v.power = .sleep ∨ v.train = .pll then s
  else
    let s := if v.los ∨ v.cfg.mode = .loop then s
      else laneFault l (raise 0x0102 sevE l 0 0 (s.laneTo l) (honey (hoLane l 4) (countLane l .lol s)))
    modEth l (fun e => { e with linkUp := false }) (unlockLink l (emit (.laneIdle l)
      (modLane l (fun v => { v with train := .pll, lol := true, frozen := false, drifting := false, fastAt := none }) s)))
/-- The reference clock of quads 6k to 6k + 5 is lost: their PLLs and lanes stop. -/
def loseLref (k : Nat) (s : State) : State :=
  let s := ((List.range 24).map (24 * k + ·)).foldl stopLane s
  { s with plls := s.plls.map fun e => (e.1, if e.1 / 12 = k then { e.2 with locked := false } else e.2) }
/-- CLOCK_LOSS (R511): 0 SYSCLK_IN, 1 to 4 LREFCLK0 to 3, 5 XTAL_AON, 6 fabric PLL, 7 keeper PLL. -/
def execClockLoss (clk : Fin 8) (t : Nat) (s : State) : Host.Outcome State Fault Refusal :=
  let s := advTo t s
  .next (if s.mon.lostClocks.contains clk.val then faultOk clsClock clk none s
  else
    let s := if clk.val = 5 then settleAon s else s
    let s := detectFault clsClock clk { s with mon := { s.mon with lostClocks := s.mon.lostClocks ++ [clk.val] } }
    if clk.val = 0 then { s with mon := { s.mon with holdoverUntil := some (s.now + 10000000000) } }
    else if clk.val ≤ 4 then loseLref (clk.val - 1) s
    else if clk.val = 6 then { s with mon := { s.mon with fabricCopy := 1 - s.mon.fabricCopy } }
    else if clk.val = 7 then { s with mon := { s.mon with keeperCopy := 1 - s.mon.keeperCopy } }
    else s)
/-- SYSCLK_HOLDOVER_END (R511): from here no figure of the manual holds. -/
def execSysclkHoldoverEnd (s : State) : Host.Outcome State Fault Refusal :=
  .next (match s.mon.holdoverUntil with
  | some u =>
    let s := advTo u s
    { s with mon := { s.mon with holdoverUntil := none, unguaranteed := true } }
  | none => s)
/-- CLOCK_RETURN (R511, Table 21-2). -/
def execClockReturn (clk : Fin 8) (t : Nat) (s : State) : Host.Outcome State Fault Refusal :=
  let s := advTo t s
  .next (if s.mon.lostClocks.contains clk.val then
    let s := if clk.val = 5 then settleAon s else s
    let s := { s with mon := { s.mon with lostClocks := s.mon.lostClocks.filter (· != clk.val) } }
    let s := if clk.val = 0 then { s with mon := { s.mon with holdoverUntil := none, unguaranteed := false } } else s
    faultOk clsClock clk (some s.now) s
  else s)

/-! ### Supplies (R512, R521) -/

/-- The unit of a rail: the row of Table 1-5; VDDIO_18 and VDDIO_33 share one. -/
def railUnit (r : Nat) : Nat := min r 7
/-- Rails whose fault stops the valve ports: VDD_CORE, VDD_SRAM, VDD_AON. -/
def stopsValves (r : Nat) : Bool := r == 0 || r == 1 || r == 6
/-- Every valve port stops its clock and drives its outputs low (R512). -/
def stopValves (s : State) : State :=
  let s := stopPorts s
  { s with vps := s.vps.map fun e => (e.1, vpEnter .off e.2), mon := { s.mon with valvesStopped := true } }
/-- SUPPLY_EXCURSION (R512, R521): one inside the fault window is masked. -/
def execSupplyExcursion (rail : Fin 9) (w : SupplyWindow) (t : Nat) (s : State) : Host.Outcome State Fault Refusal :=
  let s := advTo t s
  let add := fun (l : List Nat) => if l.contains rail.val then l else l ++ [rail.val]
  .next (match w with
  | .warning => faultOk clsSupply (railUnit rail) none { s with mon := { s.mon with warnRails := add s.mon.warnRails } }
  | .fault =>
    let s := detectFault clsSupply (railUnit rail)
      { s with mon := { s.mon with warnRails := add s.mon.warnRails, faultRails := add s.mon.faultRails } }
    if stopsValves rail then stopValves s else s)
/-- SUPPLY_RETURN (Table 21-2): the rail is inside its warning window again. -/
def execSupplyReturn (rail : Fin 9) (t : Nat) (s : State) : Host.Outcome State Fault Refusal :=
  let s := advTo t s
  let drop := fun (l : List Nat) => l.filter (· != rail.val)
  let s := { s with mon := { s.mon with warnRails := drop s.mon.warnRails, faultRails := drop s.mon.faultRails } }
  .next (if s.mon.warnRails.any fun r => railUnit r == railUnit rail then s else faultOk clsSupply (railUnit rail) (some s.now) s)

/-! ### Flash, reports and resolution (R514 to R516) -/

/-- FLASH_FAULT (Table 21-1): regions in the order slot A, slot B, boot options, owner policy, calibration, log, honey,
certificates. -/
def execFlashFault (region : Nat) (t : Nat) (s : State) : Host.Outcome State Fault Refusal :=
  let s := advTo t s
  .next (if region < 8 then detectFault clsFlash region s else s)
/-- FAULT_RAISED (R514, R515, R516): the keeper reports the oldest fault, at its time of detection; a save of the honey counters
follows, at most one a minute (R524). -/
def execFaultRaised (s : State) : Host.Outcome State Fault Refusal :=
  .next (match s.faultReports with
  | [] => s
  | r :: rest =>
    if !s.sys.ready ∨ s.sys.stage = .loader then s
    else
      let s := raiseAt r.time 0x0C20 sevE r.cls (faultWord r.cls r.unit) r.summary (faultTo r.cls r.unit s) { s with faultReports := rest }
      modKeeper (fun k => { k with faultSaveDue := match k.faultSaveDue with
        | some d => some d
        | none => some (max s.now ((k.lastFaultSave.map (· + 60000000000)).getD 0)) }) s)
/-- How long a unit must have been within its limits, ns (Table 21-2). -/
def faultRest (cls : Nat) : Nat :=
  if cls ≤ clsHost then 1000000 else if cls = clsClock ∨ cls = clsSupply then 1000000000 else 0
/-- FAULT_CLEARED (R515, Table 21-2): the keeper finds a fault resolved once it has reported it. -/
def execFaultCleared (cls : Fin 13) (unit : Nat) (t : Nat) (s : State) : Host.Outcome State Fault Refusal :=
  let s := advTo t s
  .next (match s.faults.find? fun x => x.cls == cls.val && x.unit == unit with
  | some x =>
    match x.okSince with
    | some a =>
      if s.sys.ready ∧ s.sys.stage ≠ .loader ∧ a + faultRest cls ≤ s.now
          ∧ !(s.faultReports.any fun r => r.cls == cls.val && r.unit == unit) then resolveFault cls unit s
      else s
    | none => s
  | none => s)

/-! ### Thermal trip and VDD_AON (R543, R579, R580) -/

/-- T_TRIP of the grade, 1/16 °C, 5 °C lower until the trims are applied at boot (R579). -/
def State.tTrip (s : State) : Int := (if s.sys.gradeI then 1840 else 1760) - (if s.sys.everReady then 0 else 80)
/-- THERMAL_TRIP (R579): the device stops; what it held is gone, and it stays in reset until the latch clears. -/
def execThermalTrip (_sensor : Fin 32) (reading : Int) (s : State) : Host.Outcome State Fault Refusal :=
  .next (if s.mon.tripped ∨ reading < s.tTrip then s
  else
    let s := wipe (emit (.thermTripN true) s)
    { s with mon := { s.mon with tripped := true } })
/-- The trip latch clears (R580). -/
def clearTrip (s : State) : State :=
  if s.mon.tripped then emit (.thermTripN false) { s with mon := { s.mon with tripped := false } } else s
/-- THERMAL_TRIP_CLEAR (R580, R543): a loss of VDD_AON also ends AON_COUNT, and with it everything that flash and OTP do not
hold. -/
def execThermalTripClear (c : TripClear) (s : State) : Host.Outcome State Fault Refusal :=
  .next (match c with
  | .vddAonLost =>
    let s := clearTrip (wipe s)
    { modKeeper (fun k => { k with honey := k.snap }) s with mon := { s.mon with vddAon := false, aonCount := 0, onSecondsAt := 0 } }
  | .cooled rails cool => if s.sys.stage = .held ∧ rails ∧ cool then clearTrip s else s)
/-- VDD_AON_RISE (R543): AON_COUNT starts at 0, and a power cycle is counted. -/
def execVddAonRise (s : State) : Host.Outcome State Fault Refusal :=
  .next (honey hoPowerCycles { s with mon := { s.mon with vddAon := true, aonCount := 0, aonAt := s.now, onSecondsAt := 0 } })

end Sys2Proof.Machine
end

