-- ==== Sys2Proof/Machine/Diag.lean ====
section
/-! DEFINITION. Diagnostic commands (13_commands_run.md, R371, Table 13-14; 20_on_chip_memory.md, R503). -/
namespace Sys2Proof.Machine

/-! ### DIAG_PRBS -/

/-- DIAG_PRBS: DURATION 0 ends the test in force; its DIAG_DONE follows. -/
def diagPrbs (r : Req) (s : State) : Answer :=
  let h := r.u32 0
  let ms := r.u32 4
  let m := (s.lane h).cfg.mode
  let held := s.holds (.prbs h)
  checked [(m == .camTx || m == .hive, failSt stNotInMode), (!held || ms == 0, failSt stBusy), (s.head h == h, badField 0),
      (decide (ms ≤ 3600000), badField 4), (ms == 0 || inR 1 100 (r.u32 8), badField 8)] fun _ =>
    if ms = 0 then
      .ok (modLink h (fun k => { k with prbs := k.prbs.map fun p => { p with due := min p.due s.now } }) s) []
    else
      let p : PrbsTest := { fn := r.fn, since := s.now, due := s.now + 1000000 * ms, share := r.u32 8 }
      .started (hold (.prbs h) (modLink h (fun k => { k with prbs := some p }) s)) []
/-- 0x0F01. -/
def cmdDiagPrbs : Cmd where
  op := 0x0F01
  len := lenIs 12
  reads := false
  named := laneNamed
  run := diagPrbs
/-- DIAG_PRBS (R371, R354, R355). -/
def execDiagPrbs (f : Fn) (m : Mbx) (s : State) : Host.Outcome State Fault Refusal := .next (serve cmdDiagPrbs f m s)
/-- DIAG_DONE (Table 13-15): the test has reached its end, and the lane is free of it. -/
def execDiagDone (l : LaneId) (s : State) : Host.Outcome State Fault Refusal :=
  .next (match (s.link l).prbs with
  | some p =>
    let s := advTo p.due s
    raise 0x0F01 sevI l (min p.sent (2 ^ 32 - 1)) 0 [p.fn] (release (.prbs l) (modLink l (fun k => { k with prbs := none }) s))
  | none => s)

/-! ### DIAG_BANK_READ -/

/-- Word `w` of bank `b`: the Resource Directories in the keeper bank (Table 20-1); elsewhere what the spec does not lay
out is a free value. A word with two bad bits is read as it stands (R503). -/
def bankRead (s : State) (b w : Nat) : Nat :=
  let a := 8 * w
  if b = 61 ∧ 0x1FF800 ≤ a ∧ a < 0x200000 ∧ (s.bank b).injected.getD w 0 < 2 then
    let f := (a - 0x1FF800) / 512
    let h := s.hp f
    u64At (overlay h.rd (zeros 12 ++ b32 h.rdGen ++ h.rd.drop 16)) (a % 512)
  else Config.bankWord b w s.freeCtr % 2 ^ 64
/-- The read makes the test give up a window that it touches (R500). -/
def touchWindow (b lo hi : Nat) (s : State) : State :=
  match s.window with
  | some w => if w.bank = b ∧ s.windowOpen ∧ w.base < hi ∧ lo < w.base + w.len then surrenderWindow w s else s
  | none => s
/-- 0x0F02. -/
def cmdDiagBankRead : Cmd where
  op := 0x0F02
  len := lenIs 12
  reads := true
  named r s := firstFail [named 62 0 r, needTrusted r s]
  run r s :=
    let b := r.u32 0
    let o := r.u32 4
    let n := r.u32 8
    let size := 8 * bankWords b
    checked [(o % 8 == 0 && decide (o < size), badField 4),
        (inR 8 2000 n && n % 8 == 0 && (decide (size ≤ o) || decide (o + n ≤ size)), badField 8)] fun _ =>
      .ok (bumpFree (touchWindow b (o / 8) ((o + n) / 8) (wakeBank b s)))
        ((List.range (n / 8)).flatMap fun i => b64 (bankRead s b (o / 8 + i)))
/-- DIAG_BANK_READ (R371, R503): no ECC error is counted or reported. -/
def execDiagBankRead (f : Fn) (m : Mbx) (s : State) : Host.Outcome State Fault Refusal := .next (serve cmdDiagBankRead f m s)

/-! ### DIAG_INJECT -/

/-- Units that TARGET may name, by KIND. -/
def injectUnits (kind : Nat) : Nat :=
  if kind = 1 ∨ kind = 2 then 62 else if kind = 3 then 24 else if kind = 4 then 96 else 8
/-- The fault, as the hardware meets it (R371): a bad word waits for its next read. -/
def inject (kind target arg : Nat) (s : State) : State :=
  match kind with
  | 1 => modBank target (fun b => { b with injected := b.injected.put arg 1 }) s
  | 2 => modBank target (fun b => { b with injected := b.injected.put arg 2 }) s
  | 3 => combFault target s
  | 4 => losDetected target s
  | _ => asmFault target s
/-- 0x0F03. -/
def cmdDiagInject : Cmd where
  op := 0x0F03
  len := lenIs 12
  reads := false
  named r s := firstFail [(!inR 1 5 (r.u32 0) || decide (r.u32 4 < injectUnits (r.u32 0)), badField 4), needTrusted r s,
    (s.trust.debug != 0, failSt stDenied)]
  run r s :=
    let k := r.u32 0
    checked [(inR 1 5 k, badField 0), (decide (3 ≤ k) || decide (r.u32 8 < bankWords (r.u32 4)), badField 8)] fun _ =>
      .ok (inject k (r.u32 4) (r.u32 8) s) []
/-- DIAG_INJECT (R371, R486). -/
def execDiagInject (f : Fn) (m : Mbx) (s : State) : Host.Outcome State Fault Refusal := .next (serve cmdDiagInject f m s)

end Sys2Proof.Machine
end

