-- ==== Sys2Proof/Machine/Spdm.lean ====
section
/-! DEFINITION. The SPDM responder (19_trust_and_firmware.md, Tables 19-5 and 19-6, R480) and its transports: DOE (R274),
TRUST_SPDM and the hive. The layouts of SPDM 1.2 messages and of DOE objects are those of DSP0274 and of the PCI Express
Base specification, which the spec names and does not reproduce: PRESUMED (log entry 7). -/
namespace Sys2Proof.Machine

/-! ### Connections (R480) -/

/-- The key of a function's DOE, of its TRUST_SPDM, and of a hive requester. -/
def connDoe (f : Nat) : Nat := f
def connLocal (f : Nat) : Nat := 4 + f
def connHive (device : Nat) : Nat := 16 + device
/-- DataTransferSize of a connection (Table 19-5). -/
def transferSize (k : Nat) : Nat := if k < 4 then 4088 else if k < 16 then 2032 else 2000
/-- The hive requester used least recently. -/
def oldestConn (l : Table SpdmConn) : Option Nat :=
  (l.foldl (fun a (e : Nat × SpdmConn) => match a with
    | none => some e
    | some (b : Nat × SpdmConn) => if e.2.used < b.2.used then some e else some b) none).map (·.1)
/-- Keep a connection state; a 17th hive requester replaces the one used least recently (R480). -/
def putConn (k : Nat) (c : SpdmConn) (s : State) : State :=
  let hive := s.trust.spdm.filter fun e => decide (16 ≤ e.1)
  let l := if 16 ≤ k ∧ (s.trust.spdm.find k).isNone ∧ 16 ≤ hive.length then
      (match oldestConn hive with | some o => s.trust.spdm.erase o | none => s.trust.spdm)
    else s.trust.spdm
  modTrust (fun t => { t with spdm := l.put k c }) s

/-! ### What is measured and certified (Tables 19-5, 19-6) -/

/-- The certificate chain of slot 0 as SPDM carries it. -/
def certChain (s : State) : List Byte :=
  let c := imageSection s.trust.running 3 ++ imageSection s.trust.running 2 ++ Config.identityCert
  b16 (4 + c.length) ++ b16 0 ++ c
/-- A digest, or 32 zero bytes where there is nothing to digest. -/
def digestOr (b : List Byte) : List Byte := if b.isEmpty then zeros 32 else Config.sm3 b
/-- Measurement 6: straps, owner key, merges. -/
def hwConfig (s : State) : Nat :=
  let x := s.sys.straps
  x.role % 4 + 4 * b2n x.compat + 8 * (x.bootSel % 4) + 256 * b2n s.trust.ownerHash.isSome
    + 512 * b2n s.sys.merge01 + 1024 * b2n s.sys.merge23
/-- Measurement `i` (Table 19-6): value type with [7] raw, and value. -/
def measurement (i : Nat) (s : State) : Nat × List Byte :=
  match i with
  | 1 => (0x00, Config.romDigest)
  | 2 => (0x01, Config.sm3 s.trust.running)
  | 3 => (0x86, b32 (imgVersion s.trust.running))
  | 4 => (0x87, b32 (imgSvn s.trust.running) ++ b32 s.trust.fuseSvn)
  | 5 => (0x03, digestOr s.trust.policy)
  | 6 => (0x82, b32 (hwConfig s))
  | 7 => (0x03, if s.keeper.calDefaults then zeros 32 else digestOr s.keeper.cal)
  | _ => (0x82, b8 s.trust.debug)
/-- A measurement block. -/
def measBlock (i : Nat) (s : State) : List Byte :=
  let v := measurement i s
  b8 i ++ b8 1 ++ b16 (3 + v.2.length) ++ b8 v.1 ++ b16 v.2.length ++ v.2

/-! ### Messages -/

/-- ASCII. -/
def ascii (x : String) : List Byte := x.toList.map fun c => BitVec.ofNat 8 c.toNat
/-- A signature over the hash of a transcript in a context, with the prefix of SPDM 1.2. -/
def spdmSign (context : String) (transcript : List Byte) : List Byte :=
  let p := ascii "dmtf-spdm-v1.2.*"
  Config.sm2Sign (p ++ p ++ p ++ p ++ zeros (36 - context.length) ++ ascii context ++ Config.sm3 transcript)
/-- ERROR. -/
def spdmError (code data : Nat) : List Byte := b8 0x12 ++ b8 0x7F ++ b8 code ++ b8 data
/-- Error codes. -/
def seInvalid : Nat := 0x01
def seUnexpected : Nat := 0x04
def seUnsupported : Nat := 0x07
def seVersion : Nat := 0x41
def seResynch : Nat := 0x43

/-- GET_VERSION. -/
def spdmVersion (k : Nat) (req : List Byte) (s : State) : List Byte × State :=
  let r := b8 0x10 ++ b8 0x04 ++ b16 0 ++ b8 0 ++ b8 1 ++ b16 0x1200
  (r, putConn k { stage := 1, asym := false, hash := false, vca := req ++ r, certs := [], meas := [], used := s.now } s)
/-- GET_CAPABILITIES: CERT_CAP, CHAL_CAP, MEAS_CAP signed, MEAS_FRESH_CAP; CTExponent 16 (Table 19-5). -/
def spdmCapabilities (k : Nat) (c : SpdmConn) (req : List Byte) (s : State) : List Byte × State :=
  if c.stage ≠ 1 then (spdmError seUnexpected 0, s)
  else if req.length < 20 then (spdmError seInvalid 0, s)
  else
    let r := b8 0x12 ++ b8 0x61 ++ b16 0 ++ b8 0 ++ b8 16 ++ b16 0 ++ b32 0x36 ++ b32 (transferSize k) ++ b32 (transferSize k)
    (r, putConn k { c with stage := 2, vca := c.vca ++ req ++ r } s)
/-- NEGOTIATE_ALGORITHMS: SM2 on P-256, SM3-256, DMTF measurements, each where the requester offers it (Table 19-5). -/
def spdmAlgorithms (k : Nat) (c : SpdmConn) (req : List Byte) (s : State) : List Byte × State :=
  if c.stage ≠ 2 then (spdmError seUnexpected 0, s)
  else if req.length < 32 then (spdmError seInvalid 0, s)
  else
    let spec := bit (byteAt req 6) 0
    let asym := bit (u32At req 8) 9
    let hash := bit (u32At req 12) 6
    let r := b8 0x12 ++ b8 0x63 ++ b16 0 ++ b16 36 ++ b8 (b2n spec) ++ b8 0 ++ b32 (if spec && hash then 128 else 0)
      ++ b32 (if asym then 512 else 0) ++ b32 (if hash then 64 else 0) ++ zeros 12 ++ b32 0
    (r, putConn k { c with stage := 3, asym := asym, hash := hash, vca := c.vca ++ req ++ r } s)
/-- GET_DIGESTS. -/
def spdmDigests (k : Nat) (c : SpdmConn) (req : List Byte) (s : State) : List Byte × State :=
  let r := b8 0x12 ++ b8 0x01 ++ b8 0 ++ b8 1 ++ Config.sm3 (certChain s)
  (r, putConn k { c with certs := c.certs ++ req ++ r } s)
/-- GET_CERTIFICATE of slot 0; a response beyond DataTransferSize answers ERROR InvalidRequest (Table 19-5). -/
def spdmCertificate (k : Nat) (c : SpdmConn) (req : List Byte) (s : State) : List Byte × State :=
  let chain := certChain s
  let part := (chain.drop (u16At req 4)).take (u16At req 6)
  if req.length < 8 ∨ byteAt req 2 ≠ 0 ∨ chain.length ≤ u16At req 4 ∨ transferSize k < 8 + part.length then
    (spdmError seInvalid 0, s)
  else
    let r := b8 0x12 ++ b8 0x02 ++ b16 0 ++ b16 part.length ++ b16 (chain.length - u16At req 4 - part.length) ++ part
    (r, putConn k { c with certs := c.certs ++ req ++ r } s)
/-- CHALLENGE, answered with a signed CHALLENGE_AUTH (R470). -/
def spdmChallenge (k : Nat) (c : SpdmConn) (req : List Byte) (s : State) : List Byte × State :=
  let kind := byteAt req 3
  if req.length < 36 ∨ byteAt req 2 ≠ 0 ∨ (kind ≠ 0 ∧ kind ≠ 1 ∧ kind ≠ 0xFF) then (spdmError seInvalid 0, s)
  else
    let summary := if kind = 0 then [] else Config.sm3 ((List.range 8).flatMap fun i => measBlock (i + 1) s)
    let r := b8 0x12 ++ b8 0x03 ++ b8 0 ++ b8 1 ++ Config.sm3 (certChain s) ++ sliceAt (Config.random s.freeCtr) 0 32
      ++ summary ++ b16 0
    let sig := spdmSign "responder-challenge_auth signing" (c.vca ++ c.certs ++ req ++ r)
    (r ++ sig, bumpFree (putConn k { c with certs := [] } s))
/-- GET_MEASUREMENTS: the number of blocks, all of them, or one, signed on request (Tables 19-5, 19-6, R470). -/
def spdmMeasurements (k : Nat) (c : SpdmConn) (req : List Byte) (s : State) : List Byte × State :=
  let signed := bit (byteAt req 2) 0
  let op := byteAt req 3
  let blocks := if op = 0xFF then (List.range 8).map (· + 1) else if 1 ≤ op ∧ op ≤ 8 then [op] else []
  let rec' := blocks.flatMap fun i => measBlock i s
  let r := b8 0x12 ++ b8 0x60 ++ b8 (if op = 0 then 8 else 0) ++ b8 0 ++ b8 blocks.length ++ leBytes 3 rec'.length ++ rec'
    ++ sliceAt (Config.random s.freeCtr) 0 32 ++ b16 0
  if (8 < op ∧ op ≠ 0xFF) ∨ req.length < (if signed then 37 else 4) ∨ (signed ∧ byteAt req 36 % 16 ≠ 0)
      ∨ transferSize k < r.length + (if signed then 64 else 0) then (spdmError seInvalid 0, s)
  else if signed then
    (r ++ spdmSign "responder-measurements signing" (c.vca ++ c.meas ++ req ++ r),
      bumpFree (putConn k { c with meas := [] } s))
  else (r, bumpFree (putConn k { c with meas := c.meas ++ req ++ r } s))

/-- One SPDM request on a connection: the response, and the state after (Table 19-5, R480). -/
def spdm (k : Nat) (req : List Byte) (s : State) : List Byte × State :=
  let code := byteAt req 1
  if code = 0x84 then
    if byteAt req 0 ≠ 0x10 then (spdmError seVersion 0, s)
    else if req.length < 4 then (spdmError seInvalid 0, s) else spdmVersion k req s
  else match s.trust.spdm.find k with
    | none => (spdmError seResynch 0, s)
    | some c0 =>
      let c := { c0 with used := s.now }
      let s := putConn k c s
      if byteAt req 0 ≠ 0x12 then (spdmError seVersion 0, s)
      else if req.length < 4 then (spdmError seInvalid 0, s)
      else if code = 0xE1 then spdmCapabilities k c req s
      else if code = 0xE3 then spdmAlgorithms k c req s
      else if code ≠ 0x81 ∧ code ≠ 0x82 ∧ code ≠ 0x83 ∧ code ≠ 0xE0 then (spdmError seUnsupported code, s)
      else if c.stage ≠ 3 then (spdmError seUnexpected 0, s)
      else if !c.hash || (!c.asym && (code == 0x83 || (code == 0xE0 && bit (byteAt req 2) 0))) then
        (spdmError seUnsupported code, s)
      else if code = 0x81 then spdmDigests k c req s
      else if code = 0x82 then spdmCertificate k c req s
      else if code = 0x83 then spdmChallenge k c req s
      else spdmMeasurements k c req s

/-! ### Transports -/

/-- A DOE data object: vendor ID 0x0001, protocol, length in DW, contents padded to whole DW. -/
def doeObject (protocol : Nat) (b : List Byte) : List Byte :=
  b16 1 ++ b8 protocol ++ b8 0 ++ b32 ((8 + roundUp b.length 4) / 4) ++ b ++ zeros (roundUp b.length 4 - b.length)
/-- DOE_REQUEST (R274): discarded while Busy, that is while the keeper does not run, and where the object is malformed or of
a protocol not supported. -/
def execDoeRequest (f : Fn) (object : List Byte) (s : State) : Host.Outcome State Fault Refusal :=
  let h := s.hp f
  let n := u32At object 4 % 2 ^ 18
  .next (if !s.present f ∨ !h.up ∨ h.perst ∨ !s.sys.ready ∨ s.sys.stage = .loader ∨ 4096 < object.length ∨ object.length < 12
      ∨ 4 * n ≠ object.length ∨ u16At object 0 ≠ 1 then s
  else if byteAt object 2 = 0 then
    let i := byteAt object 8
    emit (.doe f (doeObject 0 (if i < 2 then b16 1 ++ b8 i ++ b8 (1 - i) else b16 0xFFFF ++ b16 0))) (keeperWork s)
  else if byteAt object 2 = 1 then
    let (r, s) := spdm (connDoe f) (object.drop 8) s
    emit (.doe f (doeObject 1 r)) (keeperWork s)
  else s)

def cmdTrustSpdm : Cmd where
  op := 0x0B08
  len b := decide (8 ≤ b.length)
  reads := false
  named _ _ := none
  run r s :=
    let d := r.u32 0
    let req := r.body.drop 4
    if d = wordNone ∨ (d = s.deviceId ∧ s.inHive) then
      let (p, s) := spdm (if r.fn < 4 then connLocal r.fn else connHive r.mbx) req s
      .ok s p
    else checked [(s.inHive, failSt stNotInMode), (decide (d < 65536), badField 0)] fun _ =>
      let seq := s.hive.seq
      let x := sendRemote d r.fn 0x0B08 0 r.tag (b32 wordNone ++ req) s
      if x.1 then .wait { x.2 with
        waiting := some { fn := r.fn, mbx := r.mbx, since := s.now, what := .remote d seq } } false
      else .fail (failSt stHiveUnreachable)
/-- TRUST_SPDM (R354, R480). -/
def execTrustSpdm (f : Fn) (m : Mbx) (s : State) : Host.Outcome State Fault Refusal := .next (serve cmdTrustSpdm f m s)

end Sys2Proof.Machine
end

