-- ==== Sys2Proof/Machine/Remote.lean ====
section
/-! DEFINITION. Commands that travel over the hive (R354, R363; 17_hive_hierarchy.md, R452; 19_trust_and_firmware.md, R484). -/
namespace Sys2Proof.Machine

/-- Every command but HIVE_REMOTE, which the hive may not carry; LOG_READ gives at most 62 entries (R363). -/
def remoteCmds (s : State) : List Cmd :=
  let w := fun i => Config.hwOutcome i s.freeCtr
  [cmdCorrSetNoise, cmdCorrSetTemporal, cmdCorrSetSpatial, cmdCorrSetBlack, cmdCorrSetRegistration,
      cmdCorrSetEnable, cmdCorrLoadTable, cmdSegLoadBackground, cmdSegSetBackground, cmdSegSetThreshold,
      cmdSegSetMorph, cmdSegCaptureBackground]
  ++ [cmdCellSetFormat, cmdStitchConfigure, cmdCtxCreate, cmdCtxSet, cmdCtxAssign, cmdCtxStart, cmdCtxStop,
      cmdCtxRelease, cmdCtxDestroy, cmdCtxGetStatus, cmdIntakeSetPartition, cmdCombSetSpare]
  ++ [cmdCombGetStatus, cmdDevGetInfo, cmdDevGetPortStatus, cmdDevAssign, cmdDevGetOwner, cmdDiagPrbs,
      cmdDiagBankRead, cmdDiagInject, cmdHiveGetStatus, cmdHiveListDevices, cmdHiveSetPolicy, cmdHiveResetDevice]
  ++ [cmdFwDistribute, cmdEncConfigure, cmdEncSetCount, cmdEncGetStatus, cmdEmuConfigure, cmdGpioConfigure,
      cmdGpioWrite, cmdGpioGetStatus, cmdLaneConfigure, cmdLaneGetStatus, cmdLaneSetPower, cmdPgConfigure]
  ++ [cmdPgSetRow, cmdPgLoadRules, cmdPgSetSteering, cmdPgGetStatus, cmdPwrSetState, cmdPwrGetStatus, cmdDevReset,
      cmdQPartition, cmdQCreate, cmdQEnable, cmdQDisable, cmdQReset]
  ++ [cmdQDestroy, cmdQSetNotify, cmdQGetStatus, cmdHoneyRead, cmdHoneyReset, cmdHealthGetSensors, cmdCalRead,
      cmdCalWrite, cmdTrustSpdm, cmdTimeGetStatus, cmdTimeSetSource, cmdTimeSetExtOffset]
  ++ [cmdTimeSetPps, cmdFwGetStatus, cmdFwWrite, cmdFwActivate, cmdPwrSetBootOptions, cmdTrustGetCert,
      cmdTrustChallenge, cmdDebugUnlock, cmdVpConfigure, cmdVpSetMode, cmdVpTestFire, cmdVpGetStatus]
  ++ [cmdVpClearFault, cmdWgConfigure, cmdWgConnect, cmdWgSetGroup, cmdWgExport, cmdWgGetStatus, cmdLaneEyeScan (w
      0) (w 1) (w 2), cmdFwCommitSvn (w 3), cmdTrustSetOwnerPolicy (w 4 % 2 == 1), cmdLogRead 62, cmdSchedAdd
      0x0710, cmdSchedCancel 0x0711]
  ++ [cmdSchedGetStatus 0x0712, cmdCompatGetInfo]
/-- The request as the device named takes it: the hive is the caller. -/
def RemoteCall.req (c : RemoteCall) : Req := { fn := ownHive, mbx := c.src, flags := c.flags, tag := c.tag, body := c.body }
/-- The command of an opcode. -/
def remoteCmd (op : Nat) (s : State) : Option Cmd := (remoteCmds s).find? fun c => c.op == op
/-- Commands that return the device to RUN first (R547). -/
def remoteWakes (c : RemoteCall) : Bool :=
  let w := c.req.u32 4
  !c.req.checkOnly && (c.op == 0x0204 || (c.op == 0x0103 && w == 0)  || (c.op == 0x0511 && (vpMode w == .run || w == 3)))
/-- Checks and commit of the hive's command: an inner HIVE_REMOTE is no command here. -/
def remoteRun (c : RemoteCall) (s : State) : Answer :=
  if c.op = 0x0A05 then .fail (failSt stBadOpcode)
  else match remoteCmd c.op s with
    | none => .fail (failSt (s.unknownStatus c.op))
    | some k => k.answer c.req (bumpFree (if remoteWakes c then wakeDevice 6 s else s))
/-- The answer of the hive's command. -/
def remoteConclude (c : RemoteCall) (s : State) : Answer → State
  | .ok s' p => nextRequest (remoteAnswer c stOk 0 0 p (rdRefresh s'))
  | .started s' p => nextRequest (remoteAnswer c stInProgress 0 0 p (rdRefresh s'))
  | .fail e => nextRequest (remoteAnswer c e.code e.detail e.field e.payload s)
  | .failWith s' e => nextRequest (remoteAnswer c e.code e.detail e.field e.payload s')
  | .wait s' _ => modHive (fun h => { h with remote := some c }) s'
/-- More than 62 entries of the log answer a LOG_READ. -/
def logCut (c : RemoteCall) (s : State) : Bool :=
  c.op == 0x0C02 && (match (cmdLogRead 63).answer c.req s, (cmdLogRead 62).answer c.req s with
    | .ok _ a, .ok _ b => a.length != b.length
    | _, _ => false)
/-- The keeper takes up a command of the hive. -/
def remoteServe (c : RemoteCall) (s : State) : State :=
  let c := { c with cut := logCut c s }
  remoteConclude c s (remoteRun c s)
/-- The call that a REMOTE_REQ makes: inner header and payload (Table 12-4); a payload of another length than LENGTH is
BAD_LENGTH (R334). -/
def remoteCall (src fn : Nat) (request : List Byte) : RemoteCall :=
  { src := src, fn := fn, op := u16At request 0, flags := u16At request 2, tag := u32At request 4, body := request.drop 16 }
/-- LENGTH of an inner request is what follows its header. -/
def remoteFits (request : List Byte) : Bool := u32At request 8 == (request.drop 16).length
/-- The keeper may take the command up now: it only reads, or no other command has begun (R333). -/
def remoteMay (op : Nat) (s : State) : Bool :=
  s.waiting.isNone || (match remoteCmd op s with
    | some k => k.reads
    | none => true)
/-- A REMOTE_REQ reaches the device named. -/
def remoteReq (src fn : Nat) (request : List Byte) (s : State) : State :=
  let c := remoteCall src fn request
  if !s.inHive ∨ !s.sys.ready then s
  else if remoteFits request then remoteServe c s
  else remoteConclude c s (.fail (failSt stBadLength))
/-- The message in which a REMOTE_REQ came (Table 17-5). -/
def remoteMsg (src fn : Nat) (request : List Byte) (s : State) : HMsg :=
  { htype := 5, hsub := 4, flags := 0, hops := 0, dest := s.deviceId, src := src, seq := 0, body := b8 fn ++ request }
/-- Bytes of the VC 3 buffer in use (R442). -/
def Hive.vc3Used (h : Hive) : Nat := sumList (h.vc3.map fun e => 16 + e.2.body.length)
/-- A message waits for the keeper (R442). -/
def vc3Hold (h : Nat) (m : HMsg) (s : State) : State := modHive (fun x => { x with vc3 := x.vc3 ++ [(h, m)] }) s
/-- The VC 3 buffer of 64 KiB is full: VC 3 credits are not returned (R442). -/
def State.vc3Full (s : State) : Bool := decide (65536 ≤ s.hive.vc3Used)
/-- Credits that the full buffer held back are returned. -/
def vc3Settle (s : State) : State :=
  if s.vc3Full then s
  else s.hive.vc3Owed.foldl (fun s e => grantMore e.1 3 e.2 s) (modHive (fun x => { x with vc3Owed := [] }) s)
/-- REMOTE_REQ_RECEIVED (R363): one that cannot be taken up yet waits in the VC 3 buffer. -/
def execRemoteReqReceived (src : Nat) (fn : Nat) (request : List Byte) (s : State) : Host.Outcome State Fault Refusal :=
  .next (if !s.inHive then s
  else if s.sys.ready ∧ s.hive.vc3.isEmpty ∧ remoteMay (u16At request 0) s then remoteReq src fn request s
  else vc3Hold 0 (remoteMsg src fn request s) s)

/-! ### HIVE_REMOTE on the manager -/

/-- HIVE_REMOTE: the request leaves for the device named; the manager itself takes its own up at once. -/
def hiveRemote (r : Req) (s : State) : Answer :=
  let d := r.u32 0
  let inner := r.body.drop 8
  checked [(s.hive.state == .manager, failSt stNotInMode), (decide (d < 65536), badField 0), (r.u32 4 == 0, badField 4)] fun _ =>
    if d = s.deviceId then
      let c := { remoteCall d r.fn inner with outer := some (r.fn, r.mbx) }
      .wait (if remoteFits inner then remoteServe c s else remoteConclude c s (.fail (failSt stBadLength))) false
    else
      let seq := s.hive.seq
      let x := hsend 5 4 0 d (b8 r.fn ++ inner) s
      if x.1 then .wait { x.2 with
        waiting := some { fn := r.fn, mbx := r.mbx, since := s.now, what := .remote d seq } } false
      else .fail (failSt stHiveUnreachable)
/-- 0x0A05. -/
def cmdHiveRemote : Cmd where
  op := 0x0A05
  len b := decide (24 ≤ b.length ∧ b.length ≤ 1968)
  reads := false
  named r s := firstFail [needTrusted r s]
  run := hiveRemote
/-- HIVE_REMOTE (R354, R363). -/
def execHiveRemote (f : Fn) (m : Mbx) (s : State) : Host.Outcome State Fault Refusal := .next (serve cmdHiveRemote f m s)

/-- The opcode and the request of the command that waits. -/
def State.waitOp (s : State) (w : Waiting) : Nat :=
  if w.fn = ownHive then (match s.hive.remote with | some c => c.op | none => 0) else (s.mbx w.fn w.mbx).opcode
def State.waitReq (s : State) (w : Waiting) : Option Req :=
  if w.fn = ownHive then s.hive.remote.map (·.req) else some ((s.mbx w.fn w.mbx).request w.fn w.mbx)
/-- Every owner that the command asked for is the hive: it commits (R230, R362). -/
def ownersCommit (op : Nat) (r : Req) (s : State) : Answer :=
  let s := { s with waiting := none }
  if r.checkOnly then .ok s [] else .ok (if op = 0x0804 then wgExportCommit r s else pgSetRowCommit r s) []
/-- A REMOTE_RESP answers the command that waits for this device: it returns the inner response, or the SPDM response, or the
owner of a unit asked for. -/
def remoteResp (src : Nat) (response : List Byte) (s : State) : State :=
  match s.waiting with
  | none => s
  | some w =>
    match s.waitReq w with
    | none => s
    | some r =>
      let op := s.waitOp w
      let tag := if op = 0x0A05 then u32At r.body 12 else r.tag
      let status := byteAt response 0
      let payload := response.drop 16
      if u32At response 4 ≠ tag then s
      else match w.what with
        | .remote d _ =>
          if d ≠ src then s
          else if op = 0x0A05 then
            nextRequest (respond w.fn w.mbx stOk (byteAt response 1) 0 (overlay response (b8 status ++ b8 0)) { s with waiting := none })
          else if status = stOk then finishWait w (.ok { s with waiting := none } payload) s
          else finishWait w (.fail { code := status, detail := u16At response 2, field := u32At response 12, payload := payload }) s
        | .owners d kind left =>
          if d ≠ src then s
          else if status ≠ stOk ∨ u32At payload 0 ≠ 0xFFFFFFFE then finishWait w (.fail (failSt stDenied)) s
          else match left.drop 1 with
            | [] => finishWait w (ownersCommit op r s) s
            | rest =>
              match askOwner r d kind rest { s with waiting := none } with
              | .wait s' _ => s'
              | a => finishWait w a s
        | _ => s
/-- REMOTE_RESP_RECEIVED (R230, R354, R362, R363). -/
def execRemoteRespReceived (src : Nat) (response : List Byte) (s : State) : Host.Outcome State Fault Refusal :=
  .next (if s.inHive ∧ s.sys.ready then remoteResp src response s else s)
/-- HIVE_REMOTE_TIMEOUT (R354): 100 ms after the request left; a command of the hive that waits for another device ends with
it. -/
def execHiveRemoteTimeout (f : Fn) (m : Mbx) (s : State) : Host.Outcome State Fault Refusal :=
  .next (match s.waiting with
  | some w =>
    if (w.fn = f.val ∧ w.mbx = m.val) ∨ w.fn = ownHive then
      match w.what with
      | .remote _ _ => finishWait w (.fail (failSt stHiveUnreachable)) (advTo (w.since + 100000000) s)
      | .owners _ _ _ => finishWait w (.fail (failSt stHiveUnreachable)) (advTo (w.since + 100000000) s)
      | _ => s
    else s
  | none => s)

end Sys2Proof.Machine
end

