-- ==== Sys2Proof/Machine/Messages.lean ====
section
/-! DEFINITION. Hive messages as they arrive (17_hive_hierarchy.md, R441 to R443): lengths, routing, delivery, and the VC 3
buffer of the keeper (R442). -/
namespace Sys2Proof.Machine

/-- A body length that a type and subtype allow (R441, Tables 17-5 to 17-7; the lengths of JOIN, MIRROR and UPDATE bodies
are the model's where the table leaves them open). -/
def hmsgLen (m : HMsg) : Bool :=
  let n := m.body.length
  match m.htype, m.hsub with
  | 1, 0 => decide (10 ≤ n) && n == 10 + 3 * byteAt m.body 9
  | 1, 1 => n == 48
  | 1, 2 => decide (72 ≤ n ∧ n ≤ 2032)
  | 1, 3 => n == 14
  | 1, 4 => n == 9
  | 1, 5 => n == 0
  | 2, 0 => n == 16
  | 3, 0 => inR 1 64 (byteAt m.body 0x14) && n == 24 + 2 * byteAt m.body 0x14
  | 3, 1 => n == 16
  | 4, 0 => n == 8
  | 5, 0 => n == 8
  | 5, 1 => n == 3
  | 5, 2 => n == 18
  | 5, 3 => n == 9
  | 5, 4 => decide (17 ≤ n ∧ n ≤ 2032)
  | 5, 5 => decide (17 ≤ n ∧ n ≤ 2033)
  | 5, 6 => n == 1
  | 5, 7 => decide (20 ≤ n) && n == 20 + 10 * byteAt m.body 0
  | 6, 0 => n == 4
  | 6, 1 => n == 10
  | 7, 0 => n == 32
  | 8, 0 => n == 12
  | 8, 1 => decide (4 ≤ n ∧ n ≤ 2028)
  | 8, 2 => n == 1
  | 8, 3 => decide (1 ≤ n ∧ n ≤ 513) && (n - 1) % 8 == 0
  | _, _ => false
/-- Messages that each device handles and passes on itself: JOIN, ALIVE, REROUTE, ANNOUNCE and CELL SERVER. -/
def hopByHop (m : HMsg) : Bool := m.htype == 1 || m.htype == 4 || (m.htype == 5 && (m.hsub == 0 || m.hsub == 1 || m.hsub == 3))

/-- Pairs of words of a body from offset `o`. -/
def pairsAt (b : List Byte) (o n : Nat) : List (Nat × Nat) := (List.range n).map fun i => (u32At b (o + 8 * i), u32At b (o + 8 * i + 4))
/-- A JOIN message at a device (R439): the joining device is the one whose serial it carries. -/
def joinMsg (h : Nat) (m : HMsg) (s : State) : State :=
  let b := m.body
  let n := b.length
  let own := u64At b (n - 8) == s.sys.serial && s.hive.state == .joining
  let pass := passJoin m.hsub (u64At b (n - 8)) (b.take (n - 8)) s
  match m.hsub with
  | 0 =>
    let ups := (List.range (byteAt b 9)).map fun i => (byteAt b (10 + 3 * i), u16At b (11 + 3 * i))
    joinRequest h (u64At b 0) (byteAt b 8) ups (sliceAt (Config.random s.freeCtr) 0 32) (bumpFree s)
  | 1 => if own then joinChallenge h (b.take 32) (u64At b 32) s else pass
  | 2 => joinResponse h (u64At b 0) (sliceAt b 8 64) (b.drop 72) s
  | 3 =>
    if own then
      let up2 := byteAt b 5
      let a : JoinAccept :=
        { id := u16At b 0, depth := byteAt b 2, parent := u16At b 3, uplink2 := if up2 < 96 then some up2 else none, standby := false }
      joinAccept h a s
    else pass
  | 4 => if own then joinRefuse h (byteAt b 0) s else pass
  | _ => joinLeave h m.src s
/-- CELL SERVER on its way (R449). -/
def cellServerMsg (h : Nat) (m : HMsg) (s : State) : State :=
  let s := cellServer h m.dest (byteAt m.body 0) s
  if s.inHive ∧ m.dest ≠ s.deviceId then
    (if 8 ≤ m.hops then hmsgDrop s else (hroute { m with hops := m.hops + 1 } (some h) s).2)
  else s
/-- What a device does with a message that is for it (Table 17-5), from hive link `h`. -/
def hmsgDeliver (h : Nat) (m : HMsg) (s : State) : State :=
  let b := m.body
  match m.htype, m.hsub with
  | 1, _ => joinMsg h m s
  | 2, _ => wgImport m.src (bit m.flags 2) b s
  | 3, 0 => ejectPulses m.src b s
  | 3, _ => ejectDecision m.src b s
  | 4, _ => cellServerMsg h m s
  | 5, 0 => alive h (u64At b 0) s
  | 5, 1 => reroute h (u16At b 0) (bit (byteAt b 2) 0) s
  | 5, 2 => extOffsetMsg (s64At b 0) (u16At b 8) (u64At b 10) s
  | 5, 3 => announced h (u64At b 0) (byteAt b 8) m.seq m.hops s
  | 5, 4 => remoteReq m.src (byteAt b 0) (b.drop 1) s
  | 5, 5 => remoteResp m.src (b.drop 1) s
  | 5, 6 => hiveReset (byteAt b 0) s
  | 5, _ => mirror ((List.range (byteAt b 0)).map fun i => (u64At b (20 + 10 * i), u16At b (28 + 10 * i)))
      (s64At b 2) (u16At b 10) (u64At b 12) (byteAt b 1 == 1) s
  | 6, x => faultSummary m.src x b s
  | 7, _ => honeySummary m.src b s
  | 8, 3 => updateResult m.src (byteAt b 0) (pairsAt b 1 ((b.length - 1) / 8)) s
  | 8, x => updateRx x b s
  | _, _ => s
/-- Whether the keeper can take a message of VC 3 up now. -/
def keeperTakes (m : HMsg) (s : State) : Bool :=
  s.sys.ready && (m.htype != 5 || m.hsub != 4 || remoteMay (u16At m.body 1) s)
/-- A message for this device: hardware handles VC 2; the keeper VC 3, in order of arrival (R13, R442). -/
def arrive (h : Nat) (m : HMsg) (s : State) : State :=
  if hmsgVc m.htype m.hsub = 2 then hmsgDeliver h m s
  else if s.hive.vc3.isEmpty ∧ keeperTakes m s then hmsgDeliver h m (keeperWork s)
  else vc3Hold h m s
/-- The keeper takes the oldest message of the VC 3 buffer, if it can. -/
def takeVc3 (s : State) : State :=
  match s.hive.vc3 with
  | [] => s
  | (h, m) :: r =>
    if keeperTakes m s then hmsgDeliver h m (keeperWork (vc3Settle (modHive (fun x => { x with vc3 := r }) s))) else s
/-- A step with no command waiting: one fabric clock passes (R374), and the keeper may take a message up. -/
def idleTick (s : State) : State := takeVc3 (fabricClock s)
/-- The keeper takes what it can of the VC 3 buffer; `n` bounds the number. -/
def drainVc3 : Nat → State → State
  | 0, s => s
  | n + 1, s => if s.hive.vc3.isEmpty then s else drainVc3 n (takeVc3 s)

/-- Whether a message that arrived on link `h` is for this device (R443). -/
def State.forMe (s : State) (h : Nat) (m : HMsg) : Bool :=
  let mgr := s.hive.state == .manager
  if bit m.flags 0 then m.src != s.deviceId && (mgr || s.uplinkInForce == some h)
  else if bit m.flags 1 then mgr
  else m.dest == s.deviceId
/-- Whether it goes on from here. -/
def State.goesOn (s : State) (m : HMsg) : Bool :=
  if bit m.flags 0 then true
  else if bit m.flags 1 then s.hive.state != .manager
  else m.dest != s.deviceId
/-- A hive message arrives on hive link `h` (R441, R443). A link that is not admitted carries ALIVE and ANNOUNCE alone
(R433, R437). -/
def hmsgArrive (h : Nat) (m : HMsg) (s : State) : State :=
  if s.hive.state = .standalone then s
  else if !hmsgLen m then hmsgDrop s
  else if hopByHop m then
    (if s.admitted h ∨ (m.htype = 5 ∧ m.hsub ≠ 1) then arrive h m s else s)
  else if !s.inHive ∨ !s.admitted h then s
  else
    let s1 := if s.goesOn m then
        (if 8 ≤ m.hops then hmsgDrop s else (hroute { m with hops := m.hops + 1 } (some h) s).2)
      else s
    if s.forMe h m then arrive h m s1 else s1
/-- HMSG_FORWARD (R441 to R443). -/
def execHmsgForward (arrival : LaneId) (msg : HMsg) (s : State) : Host.Outcome State Fault Refusal :=
  .next (hmsgArrive (s.head arrival) msg s)

end Sys2Proof.Machine
end

