-- ==== Sys2Proof/Machine/Receive.lean ====
section
/-! DEFINITION. What an Abaend receiver does with a control block (R64) and with a packet taken from SOP to EOP
(03_abaend_link.md, R66, R67, R71, R72, Table 3-5). -/
namespace Sys2Proof.Machine

/-- An ALIGN block, deskewed as it arrives (R84 to R89). -/
def alignBlock (l : Nat) (b : List Byte) (s : State) : State :=
  let mask := byteAt b 3 % 16
  match byteAt b 2 with
  | 0 => alignMark l (u32At b 4) 0 s
  | 1 => alignDegrade l mask s
  | 2 => alignRestripe l mask s
  | 3 => alignRestore l mask s
  | _ => s
/-- A control block by its type (Table 3-2); `now256` is its instant in 2^-8 ns. IDLE does nothing, SOP and EOP are the
deframer's. -/
def controlBlock (l : Nat) (b : List Byte) (now256 : Nat) (s : State) : State :=
  let x := byteAt b 1
  match byteAt b 0 with
  | 0x1E | 0x2D | 0x4B => s
  | 0x55 => timeBlockIn l (x / 64) (x % 64) (bit (byteAt b 2) 0) (bit (byteAt b 2) 1) (leAt b 2 6) now256 s
  | 0x66 => eventReceived l (x / 16 % 8) (x % 16) (u16At b 2 % 4096) (u32At b 4) s
  | 0x78 => creditBlock l (x % 16) (u32At b 4) s
  | 0x87 => alignBlock l b s
  | 0x99 => lmsgReceived l x (byteAt b 2) s
  | _ => countLink (s.head l) .ctrlUnk s
/-- CONTROL_BLOCK_RECEIVED (R64). -/
def execControlBlockReceived (l : LaneId) (payload : BitVec 64) (t : Nat) (s : State) : Host.Outcome State Fault Refusal :=
  let s := advTo t s
  .next (if s.inData l ∧ (s.link l).locked then controlBlock l (leBytes 8 payload.toNat) (256 * t) s else s)

/-! ### Packets -/

/-- Packet types a role accepts (Table 3-5); a standalone device takes no hive message (R430). -/
def State.acceptsType (s : State) (m : LaneMode) (ptype : Nat) : Bool :=
  match m with
  | .camRx => [ptLine, ptFmark, ptCell, ptTest, ptCctl].contains ptype
  | .camTx => ptype == ptCctl
  | .hive => [ptCell, ptTest].contains ptype || (ptype == ptHmsg && s.hive.state != .standalone)
  | _ => false
/-- The longest payload on a link (R67); a REMOTE_RESP of 2,016 B of inner payload has one byte more (R363). -/
def State.payloadFits (s : State) (h ptype : Nat) (payload : List Byte) : Bool :=
  decide (payload.length ≤ s.maxPacket h)
    || ((s.lane h).cfg.mode == .hive && ptype == ptHmsg && payload.length == 2049 && byteAt payload 0 == 5 && byteAt payload 1 == 5)
/-- A hive message out of its packet (Table 17-4). -/
def hmsgOf (p : List Byte) : HMsg :=
  { htype := byteAt p 0, hsub := byteAt p 1, flags := byteAt p 2, hops := byteAt p 3, dest := u16At p 4, src := u16At p 6
    seq := u32At p 8, body := p.drop 16 }
/-- A CCTL packet: a SOURCE takes requests, a SINK acknowledgements (Tables 3-3 and 3-5). -/
def cctlIn (h : Nat) (hd payload : List Byte) (s : State) : State :=
  let op := byteAt hd 8
  let source := (s.lane h).cfg.mode == .camTx
  if source ∧ (op = 1 ∨ op = 2) then cctlRequest h (op == 2) (byteAt hd 9) (u32At hd 4) (u16At hd 12) payload s
  else if !source ∧ (op = 0x81 ∨ op = 0x82) then cctlAck h (op == 0x82) (byteAt hd 9) (byteAt hd 10) payload s
  else countLink h .typeErr s
/-- A packet that passed every check goes on by its type (Tables 3-3 and 3-4). -/
def packetBody (h : Nat) (hd payload : List Byte) (s : State) : State :=
  let ptype := byteAt hd 0 / 16
  let fl := byteAt hd 1
  let b4 := byteAt hd 4
  if ptype = ptLine then
    lineReceived h { sensor := Fin.ofNat 8 (b4 / 32), band := Fin.ofNat 4 (b4 / 8), first := bit fl 7, last := bit fl 6, x := u16At hd 6
                     lineNo := u32At hd 8, tExp32 := u32At hd 12, payload := payload } s
  else if ptype = ptFmark then
    match byteAt hd 5 with
    | 0 => fmarkReceived h (b4 / 32) .frameStart (u32At hd 8) (u32At payload 10) s
    | 1 => fmarkReceived h (b4 / 32) .frameEnd (u32At hd 8) (u32At payload 10) s
    | 2 => fmarkReceived h (b4 / 32) .linesSkipped (u32At hd 8) (u32At payload 10) s
    | _ => s
  else if ptype = ptCctl then cctlIn h hd payload s
  else if ptype = ptTest then testReceived h payload s
  else if ptype = ptHmsg then
    (if payload.length < 16 ∨ u16At payload 12 + 16 ≠ payload.length then hmsgDrop s else hmsgArrive h (hmsgOf payload) s)
  else if (s.lane h).cfg.mode = .hive then forwardCell h (u16At hd 4) (hd ++ payload) s
  else match s.passthruOn h with
    | some c => cellFragment h c (u16At hd 4) (hd ++ payload) id s
    | none => s
/-- The credits of a packet return, but on VC 3 while the keeper's buffer is full (R72, R442). -/
def returnCredit (h vc cost : Nat) (s : State) : State :=
  if vc = 3 ∧ s.vc3Full then modHive (fun x => { x with vc3Owed := x.vc3Owed.put h (x.vc3Owed.getD h 0 + cost) }) s
  else grantMore h vc cost s
/-- A packet is taken on a link: framing, CRC, length, type and credit, in that order; a packet discarded for any cause
returns its credits (R66, R67, R72). -/
def packetIn (h : Nat) (p : RxPacket) (s : State) : State :=
  let hd := p.header
  let ptype := byteAt hd 0 / 16
  let vc := byteAt hd 0 % 16
  let mode := (s.lane h).cfg.mode
  let whole := p.flaw == .none && hd.length == 16
  let crcOk := crc32c (hd ++ p.payload) == p.crc.toNat
  let fits := u16At hd 2 == p.payload.length && s.payloadFits h ptype p.payload
  let counter : Option LinkCnt :=
    if !whole then some .framingErr
    else if !crcOk then some .crcErr
    else if !fits then some .framingErr
    else if !s.acceptsType mode ptype then some .typeErr
    else none
  let flow := hd.length == 16 && credited ptype && ((rxVcs mode).contains vc || counter.isNone)
  let cost := creditCost p.payload.length
  let (within, s) := if flow then useCredit h vc cost s else (true, s)
  let s := match counter with
    | some k => countLink h k s
    | none => if within then packetBody h hd p.payload s else s
  if flow then returnCredit h vc cost s else s
/-- PACKET_RECEIVED (R65 to R67, R72). -/
def execPacketReceived (l : LaneId) (p : RxPacket) (t : Nat) (s : State) : Host.Outcome State Fault Refusal :=
  let s := advTo t s
  let h := s.head l
  .next (if !(s.inData h ∧ s.linkUp h) ∨ s.asleep h then s
  else if p.flaw = .outsideData then countLink h .framingErr s
  else packetIn h p s)

end Sys2Proof.Machine
end

