-- ==== Sys2Proof/Machine/Registers.lean ====
section
/-! DEFINITION. Writes to BAR 0, BAR 2 and BAR 4 as they reach a function (R5 to R9; 10_host_port.md, R275, R276, R289). -/
namespace Sys2Proof.Machine

/-- The bytes that a write at `off` enables, each with its offset. -/
def enabled (off : Nat) (d : List (Option Byte)) : List (Nat × Byte) :=
  (d.zip (List.range d.length)).filterMap fun (e : Option Byte × Nat) => e.1.map fun b => (off + e.2, b)
/-- The enabled bytes that fall on the register of 4 B at `reg`, in place; and the bits they cover. -/
def regBits (reg : Nat) (l : List (Nat × Byte)) : Nat :=
  sumList ((l.filter fun e => decide (reg ≤ e.1 ∧ e.1 < reg + 4)).map fun e => e.2.toNat * 2 ^ (8 * (e.1 - reg)))
def regMask (reg : Nat) (l : List (Nat × Byte)) : Nat :=
  sumList ((l.filter fun e => decide (reg ≤ e.1 ∧ e.1 < reg + 4)).map fun e => 255 * 2 ^ (8 * (e.1 - reg)))
/-- A field of 32 bits takes the enabled bits that may be written. -/
def putField (old writable reg : Nat) (l : List (Nat × Byte)) : Nat :=
  let m := regMask reg l &&& writable
  (old &&& (0xFFFFFFFF ^^^ m)) ||| (regBits reg l &&& m)

/-- The HB block (Tables 10-5 and 10-7): HB_INTX_STATUS is W1C, HB_INTX_MASK RW in its 13 bits, the rest RO. -/
def hbWrite (f : Nat) (l : List (Nat × Byte)) (s : State) : State :=
  intxUpdate f (modHp f (fun h => { h with
    intxStatus := h.intxStatus &&& (0xFFFFFFFF ^^^ regBits 0x008 l)
    intxMask := putField h.intxMask 0x1FFF 0x00C l }) s)
/-- Mailbox `m` (Tables 12-1 to 12-3): ABORT, GO, and the request area, which a BUSY mailbox does not take (R326). -/
def mbxWrite (f m : Nat) (l : List (Nat × Byte)) (s : State) : State :=
  let req := l.filter fun e => decide (0x040 ≤ e.1 ∧ e.1 < 0x800)
  let s := if req.isEmpty then s
    else if (s.mbx f m).state = .busy then mbxError f s
    else modMbx f m (fun b => { b with req := req.foldl (fun r e => putBytes r (e.1 - 0x040) [some e.2]) b.req }) s
  let s := if bit (regBits 0x000 l) 0 then mbxAbort f m s else s
  if bit (regBits 0x00C l) 0 then mbxGo f m s else s
/-- A peer window's registers (Table 11-16): the shadows, then COMMIT (R318). -/
def winWrite (f w : Nat) (l : List (Nat × Byte)) (s : State) : State :=
  let s := modWin f w (fun x => { x with
    base := putField x.base 0xFFFFF000 0x00 l, size := putField x.size 0xFFFFF000 0x04 l
    target := putField x.target 0xC000FFFF 0x08 l }) s
  let c := regBits 0x0C l
  if bit c 0 then winCommit f w (bit c 1) s else s
/-- A write to BAR 0 of the size and alignment of R275 (Table 10-4). -/
def bar0Write (f off : Nat) (d : List (Option Byte)) (s : State) : State :=
  let at' := fun (base : Nat) => enabled (off - base) d
  if off < 0x1000 then hbWrite f (enabled off d) s
  else if off < 0x9000 then mbxWrite f ((off - 0x1000) / 0x1000) (at' (off / 0x1000 * 0x1000)) s
  else if 0x10000 ≤ off ∧ off < 0x10020 then
    wgFire f ((at' 0x10000).flatMap fun e => (setBits 8 e.2.toNat).map (8 * e.1 + ·)) s
  else if 0x20000 ≤ off ∧ off < 0x20400 ∧ !s.sys.straps.compat then winWrite f ((off - 0x20000) / 64) (at' (off / 64 * 64)) s
  else s
/-- A write to a function's address spaces (R275, R276, Table 10-4). -/
def registerWrite (f bar off : Nat) (d : List (Option Byte)) (s : State) : State :=
  if bar = 4 then
    if 0x1000000 ≤ off then peerWrite f off d s
    else if d.all Option.isSome then apertureWrite f off (d.filterMap id) s
    else if s.sys.straps.compat then s
    else if s.decodes f then countHp f .barDrop (tlp f s) else barLost f s
  else if (bar = 0 ∧ off < 0x100000) ∨ (bar = 2 ∧ off < 0x400000) then
    if !s.decodes f then barLost f s
    else
      let s := tlp f s
      if !barShape off d.length then countHp f .barDrop s
      else if bar = 0 then bar0Write f off d s
      else doorbellBlock f (off / 64) (off % 64) d s
  else s
/-- REGISTER_WRITE (R5 to R9, R275, R276). -/
def execRegisterWrite (f : Fn) (bar : Fin 5) (off : Nat) (data : List (Option Byte)) (s : State) : Host.Outcome State Fault Refusal :=
  .next (if data.isEmpty then s else registerWrite f bar off data s)

end Sys2Proof.Machine
end

