-- ==== Sys2Proof/Machine/Restart.lean ====
section
/-! DEFINITION. READY (18_resets_and_bring_up.md, R458, R465; R13, R279, R332, R442, R477, R483). -/
namespace Sys2Proof.Machine

/-- The owner policy at boot (R483): that of flash, or the default one, which TRUST_POLICY reports. -/
def bootPolicy (s : State) : State :=
  let p := s.trust.policyFlash
  if policyLayout p s ∧ policySigned p s.trust then takePolicy p s
  else
    let open' := s.trust.ownerHash.isNone
    let s := modSys (fun y => { y with
      trusted := if open' then 0 else ownKeeper, hiveTrusted := open' && y.straps.role == 1 }) (modTrust (fun t => { t with policy := [] }) s)
    raise 0x0B05 sevW 2 s.trustedWord 0 s.functions s
/-- The image that fell back at boot is reported at the first READY (R457, R488). -/
def reportFallback (s : State) : State :=
  match s.trust.fallback with
  | some (now, refused, status) =>
    raise 0x0B03 sevW now refused status s.functions (modTrust (fun t => { t with fallback := none }) s)
  | none => s
/-- The certificates that the keeper keeps readable in flash at first boot (Table 19-1). -/
def storeCerts (s : State) : State :=
  emit (.flashWrite .certificates 0 (Config.identityCert ++ imageSection s.trust.running 2)) s
/-- What READY brings the first time since SYS_RST_N (Table 18-4): calibration and policy are in use, ownership is R338's, and
the Resource Directories are written. -/
def firstReady (s : State) : State :=
  let s := bootPolicy (readCal true s)
  let s := modSys (fun y => { y with base := y.trusted }) s
  let s := reportFallback (logNow 0x0C80 sevI (strapWord s.sys.straps) s.sys.resetKind s.sys.slot s)
  setPhase .normal (storeCerts (modSys (fun y => { y with everReady := true, readyAt := s.now }) s))
/-- The trial of an activated image begins at its first READY, or goes on from here (R477); a revert is completed and
reported. -/
def readyTrial (s : State) : State :=
  let now := s.now
  let s := match s.trust.activated with
    | some a =>
      let x : Trial := { since := now, faults := 0 }
      if a = s.sys.slot then modTrust (fun t => { t with activated := none, trial := some x }) s else s
    | none => modTrust (fun t => { t with trial := t.trial.map fun (x : Trial) => { since := now, faults := x.faults } }) s
  match s.trust.reverted with
  | some old =>
    raise 0x0B04 sevE s.sys.slot old 0 s.functions (preferSlot s.sys.slot (modTrust (fun t => { t with reverted := none }) s))
  | none => s
/-- READY rises: mailboxes that were BUSY have ended as by an abort, LU_FW_VERSION is the image's, READY_UP is set on every
function (R332, R465, Table 18-4); the keeper goes on to the hive messages that waited (R442). -/
def keeperReady (s : State) : State :=
  let s := if s.sys.everReady then [0, 1, 2, 3].foldl (fun s f => endMailboxes f s) { s with goOrder := [] } else firstReady s
  let im := s.trust.running
  let s := modSys (fun y => { y with ready := true, stage := .running, fwVersion := imgVersion im, secVersion := imgSvn im }) s
  let s := setIntxAll intxReadyUp (s.functions.foldl (fun s f => if (s.hp f).rd = rdBody f s then s else rdRewrite f s) s)
  let s := faultOk clsKeeper 0 (some s.now) (readyTrial s)
  drainVc3 s.hive.vc3.length (keeperWork s)
/-- KEEPER_READY (R13, R332, R458, R465). -/
def execKeeperReady (t : Nat) (s : State) : Host.Outcome State Fault Refusal :=
  let s := advTo t s
  .next (if (s.sys.stage = .starting ∨ s.sys.stage = .restarting) ∧ !s.trust.halted then keeperReady s else s)

end Sys2Proof.Machine
end

