-- ==== Sys2Proof/Machine/Dispatch.lean ====
section
/-! DEFINITION. What each command of the block does: one arm per row of spec/opcode_table.json. -/
namespace Sys2Proof.Machine

def exec (i : Instr) (s : State) : Host.Outcome State Fault Refusal :=
  match i with
  | .registerWrite f bar off data => Sys2Proof.Machine.execRegisterWrite f bar off data s
  | .hbTimeLoRead f t => Sys2Proof.Machine.execHbTimeLoRead f t s
  | .mbxGo f m => Sys2Proof.Machine.execMbxGo f m s
  | .mbxAbort f m => Sys2Proof.Machine.execMbxAbort f m s
  | .abortComplete f m => Sys2Proof.Machine.execAbortComplete f m s
  | .qdbTailWrite f idx lo hi => Sys2Proof.Machine.execQdbTailWrite f idx lo hi s
  | .qdbCplHeadWrite f idx lo hi => Sys2Proof.Machine.execQdbCplHeadWrite f idx lo hi s
  | .decisionApertureWrite f off data t => Sys2Proof.Machine.execDecisionApertureWrite f off data t s
  | .pwCommitWrite f w v => Sys2Proof.Machine.execPwCommitWrite f w v s
  | .peerWindowWrite f off data t => Sys2Proof.Machine.execPeerWindowWrite f off data t s
  | .wgFireWrite f r bits wide t => Sys2Proof.Machine.execWgFireWrite f r bits wide t s
  | .devGetInfo f m => Sys2Proof.Machine.execDevGetInfo f m s
  | .devGetPortStatus f m => Sys2Proof.Machine.execDevGetPortStatus f m s
  | .devAssign f m => Sys2Proof.Machine.execDevAssign f m s
  | .devGetOwner f m => Sys2Proof.Machine.execDevGetOwner f m s
  | .laneConfigure f m => Sys2Proof.Machine.execLaneConfigure f m s
  | .laneGetStatus f m => Sys2Proof.Machine.execLaneGetStatus f m s
  | .laneSetPower f m => Sys2Proof.Machine.execLaneSetPower f m s
  | .laneEyeScan f m width height eye => Sys2Proof.Machine.execLaneEyeScan f m width height eye s
  | .pllLock q p t => Sys2Proof.Machine.execPllLock q p t s
  | .trainingFrameReceived l tf t => Sys2Proof.Machine.execTrainingFrameReceived l tf t s
  | .coefficientUpdate l tap t => Sys2Proof.Machine.execCoefficientUpdate l tap t s
  | .rxReady l eye t => Sys2Proof.Machine.execRxReady l eye t s
  | .trainEndDone l t => Sys2Proof.Machine.execTrainEndDone l t s
  | .trainingTimerExpiry l => Sys2Proof.Machine.execTrainingTimerExpiry l s
  | .trainFailRetry l => Sys2Proof.Machine.execTrainFailRetry l s
  | .lockTimeout l => Sys2Proof.Machine.execLockTimeout l s
  | .idleFreeze l eye t => Sys2Proof.Machine.execIdleFreeze l eye t s
  | .adaptationResume l t => Sys2Proof.Machine.execAdaptationResume l t s
  | .eyeWindow l eye t => Sys2Proof.Machine.execEyeWindow l eye t s
  | .driftAdaptEnd l eye t => Sys2Proof.Machine.execDriftAdaptEnd l eye t s
  | .losAssert l t => Sys2Proof.Machine.execLosAssert l t s
  | .losDeassert l t => Sys2Proof.Machine.execLosDeassert l t s
  | .losRetrain l t => Sys2Proof.Machine.execLosRetrain l t s
  | .lolAssert l t => Sys2Proof.Machine.execLolAssert l t s
  | .dozeSelfWake l t => Sys2Proof.Machine.execDozeSelfWake l t s
  | .fastResumeTimeout l => Sys2Proof.Machine.execFastResumeTimeout l s
  | .fecFrameReceived l symbols t => Sys2Proof.Machine.execFecFrameReceived l symbols t s
  | .huntPeriod l symbols t => Sys2Proof.Machine.execHuntPeriod l symbols t s
  | .controlBlockReceived l payload t => Sys2Proof.Machine.execControlBlockReceived l payload t s
  | .packetReceived l p t => Sys2Proof.Machine.execPacketReceived l p t s
  | .lineSegmentReceived l g t => Sys2Proof.Machine.execLineSegmentReceived l g t s
  | .fmarkReceived l sensor kind number count t => Sys2Proof.Machine.execFmarkReceived l sensor kind number count t s
  | .cctlRequestReceived l write tag addr len data t => Sys2Proof.Machine.execCctlRequestReceived l write tag addr len data t s
  | .cctlAckReceived l write tag status data t => Sys2Proof.Machine.execCctlAckReceived l write tag status data t s
  | .cctlTimeout l tag => Sys2Proof.Machine.execCctlTimeout l tag s
  | .testPacketReceived l seq payload => Sys2Proof.Machine.execTestPacketReceived l seq payload s
  | .eventBlockReceived l rep kind target seq time32 t => Sys2Proof.Machine.execEventBlockReceived l rep kind target seq time32 t s
  | .creditBlockReceived l vc granted => Sys2Proof.Machine.execCreditBlockReceived l vc granted s
  | .creditRepeat l => Sys2Proof.Machine.execCreditRepeat l s
  | .packetTransmit l => Sys2Proof.Machine.execPacketTransmit l s
  | .generatedLine l t => Sys2Proof.Machine.execGeneratedLine l t s
  | .timeSyncSend l t256 => Sys2Proof.Machine.execTimeSyncSend l t256 s
  | .timeBlockReceived l kind exch valid source stamp48 t256 => Sys2Proof.Machine.execTimeBlockReceived l kind exch valid source stamp48 t256 s
  | .timeExchangeMissed l => Sys2Proof.Machine.execTimeExchangeMissed l s
  | .lmsgReceived l code seq t => Sys2Proof.Machine.execLmsgReceived l code seq t s
  | .powerExchangeTimeout l => Sys2Proof.Machine.execPowerExchangeTimeout l s
  | .alignMarkSend l t => Sys2Proof.Machine.execAlignMarkSend l t s
  | .alignMarkReceived l bfc skew t => Sys2Proof.Machine.execAlignMarkReceived l bfc skew t s
  | .linkDegrade l t => Sys2Proof.Machine.execLinkDegrade l t s
  | .alignDegradeReceived l mask t => Sys2Proof.Machine.execAlignDegradeReceived l mask t s
  | .alignRestripeReceived l mask t => Sys2Proof.Machine.execAlignRestripeReceived l mask t s
  | .bondLaneRestore l t => Sys2Proof.Machine.execBondLaneRestore l t s
  | .alignRestoreReceived l mask t => Sys2Proof.Machine.execAlignRestoreReceived l mask t s
  | .descriptorRead l t => Sys2Proof.Machine.execDescriptorRead l t s
  | .descriptorReadRetry l => Sys2Proof.Machine.execDescriptorReadRetry l s
  | .ethFrameReceived l frame fcsOk fecOk t => Sys2Proof.Machine.execEthFrameReceived l frame fcsOk fecOk t s
  | .ethLinkUp l t => Sys2Proof.Machine.execEthLinkUp l t s
  | .arpIcmpAnswer l t => Sys2Proof.Machine.execArpIcmpAnswer l t s
  | .tunnelOutSend q t => Sys2Proof.Machine.execTunnelOutSend q t s
  | .gvspPacketReceived l ch p t => Sys2Proof.Machine.execGvspPacketReceived l ch p t s
  | .gvspBlockTimeout l ch => Sys2Proof.Machine.execGvspBlockTimeout l ch s
  | .ptpMessageSend l kind t => Sys2Proof.Machine.execPtpMessageSend l kind t s
  | .ptpMessageReceived l msg t => Sys2Proof.Machine.execPtpMessageReceived l msg t s
  | .ctxCreate f m => Sys2Proof.Machine.execCtxCreate f m s
  | .ctxSet f m => Sys2Proof.Machine.execCtxSet f m s
  | .ctxAssign f m => Sys2Proof.Machine.execCtxAssign f m s
  | .ctxStart f m => Sys2Proof.Machine.execCtxStart f m s
  | .ctxStop f m => Sys2Proof.Machine.execCtxStop f m s
  | .ctxStopped c => Sys2Proof.Machine.execCtxStopped c s
  | .ctxRelease f m => Sys2Proof.Machine.execCtxRelease f m s
  | .ctxDestroy f m => Sys2Proof.Machine.execCtxDestroy f m s
  | .ctxGetStatus f m => Sys2Proof.Machine.execCtxGetStatus f m s
  | .intakeSetPartition f m => Sys2Proof.Machine.execIntakeSetPartition f m s
  | .combSetSpare f m => Sys2Proof.Machine.execCombSetSpare f m s
  | .combGetStatus f m => Sys2Proof.Machine.execCombGetStatus f m s
  | .lineTimeoutExpiry c lineNo => Sys2Proof.Machine.execLineTimeoutExpiry c lineNo s
  | .frameTimeoutExpiry c => Sys2Proof.Machine.execFrameTimeoutExpiry c s
  | .stripeStart k t => Sys2Proof.Machine.execStripeStart k t s
  | .combUngate k t => Sys2Proof.Machine.execCombUngate k t s
  | .combLine k t => Sys2Proof.Machine.execCombLine k t s
  | .combFault k t => Sys2Proof.Machine.execCombFault k t s
  | .spareCopyDone k t => Sys2Proof.Machine.execSpareCopyDone k t s
  | .corrSetNoise f m => Sys2Proof.Machine.execCorrSetNoise f m s
  | .corrSetTemporal f m => Sys2Proof.Machine.execCorrSetTemporal f m s
  | .corrSetSpatial f m => Sys2Proof.Machine.execCorrSetSpatial f m s
  | .corrSetBlack f m => Sys2Proof.Machine.execCorrSetBlack f m s
  | .corrSetRegistration f m => Sys2Proof.Machine.execCorrSetRegistration f m s
  | .corrSetEnable f m => Sys2Proof.Machine.execCorrSetEnable f m s
  | .corrLoadTable f m => Sys2Proof.Machine.execCorrLoadTable f m s
  | .segSetBackground f m => Sys2Proof.Machine.execSegSetBackground f m s
  | .segSetThreshold f m => Sys2Proof.Machine.execSegSetThreshold f m s
  | .segSetMorph f m => Sys2Proof.Machine.execSegSetMorph f m s
  | .segCaptureBackground f m => Sys2Proof.Machine.execSegCaptureBackground f m s
  | .bgCaptured c => Sys2Proof.Machine.execBgCaptured c s
  | .segLoadBackground f m => Sys2Proof.Machine.execSegLoadBackground f m s
  | .cellSetFormat f m => Sys2Proof.Machine.execCellSetFormat f m s
  | .stitchConfigure f m => Sys2Proof.Machine.execStitchConfigure f m s
  | .asmObject a t => Sys2Proof.Machine.execAsmObject a t s
  | .stitchTimeout g frag t => Sys2Proof.Machine.execStitchTimeout g frag t s
  | .unpairedWindowEnd g objectId => Sys2Proof.Machine.execUnpairedWindowEnd g objectId s
  | .cellDelivery q t => Sys2Proof.Machine.execCellDelivery q t s
  | .pgConfigure f m => Sys2Proof.Machine.execPgConfigure f m s
  | .pgSetRow f m => Sys2Proof.Machine.execPgSetRow f m s
  | .pgLoadRules f m => Sys2Proof.Machine.execPgLoadRules f m s
  | .rulesReadComplete f m data => Sys2Proof.Machine.execRulesReadComplete f m data s
  | .pgSetSteering f m => Sys2Proof.Machine.execPgSetSteering f m s
  | .pgGetStatus f m => Sys2Proof.Machine.execPgGetStatus f m s
  | .decisionRecordBind q t => Sys2Proof.Machine.execDecisionRecordBind q t s
  | .decisionDeadline slot => Sys2Proof.Machine.execDecisionDeadline slot s
  | .pendingEntryFree slot => Sys2Proof.Machine.execPendingEntryFree slot s
  | .ejectActionsReceived src body t => Sys2Proof.Machine.execEjectActionsReceived src body t s
  | .ejectDecisionReceived src body t => Sys2Proof.Machine.execEjectDecisionReceived src body t s
  | .vpConfigure f m => Sys2Proof.Machine.execVpConfigure f m s
  | .vpSetMode f m => Sys2Proof.Machine.execVpSetMode f m s
  | .vpTestFire f m => Sys2Proof.Machine.execVpTestFire f m s
  | .vpGetStatus f m => Sys2Proof.Machine.execVpGetStatus f m s
  | .vpClearFault f m => Sys2Proof.Machine.execVpClearFault f m s
  | .valveFrameLatch v => Sys2Proof.Machine.execValveFrameLatch v s
  | .feedbackFrameReceived v bits t => Sys2Proof.Machine.execFeedbackFrameReceived v bits t s
  | .feedbackMissed v => Sys2Proof.Machine.execFeedbackMissed v s
  | .valvePortReadbackFault v t => Sys2Proof.Machine.execValvePortReadbackFault v t s
  | .hostLinkUp f width rate100 t => Sys2Proof.Machine.execHostLinkUp f width rate100 t s
  | .hostLinkDown f t => Sys2Proof.Machine.execHostLinkDown f t s
  | .steerRestore isCtx id entry => Sys2Proof.Machine.execSteerRestore isCtx id entry s
  | .perstAssert f t => Sys2Proof.Machine.execPerstAssert f t s
  | .perstDeassert f t => Sys2Proof.Machine.execPerstDeassert f t s
  | .configWrite f off data t => Sys2Proof.Machine.execConfigWrite f off data t s
  | .flr f t => Sys2Proof.Machine.execFlr f t s
  | .flrComplete f t => Sys2Proof.Machine.execFlrComplete f t s
  | .translationCompletion f page r => Sys2Proof.Machine.execTranslationCompletion f page r s
  | .invalidationRequest f base size itag => Sys2Proof.Machine.execInvalidationRequest f base size itag s
  | .readCompletionReceived f tag st data t => Sys2Proof.Machine.execReadCompletionReceived f tag st data t s
  | .completionTimeout f tag => Sys2Proof.Machine.execCompletionTimeout f tag s
  | .tagQuarantineEnd f tag => Sys2Proof.Machine.execTagQuarantineEnd f tag s
  | .linkL1Entry f kind t => Sys2Proof.Machine.execLinkL1Entry f kind t s
  | .doeRequest f object => Sys2Proof.Machine.execDoeRequest f object s
  | .qPartition f m => Sys2Proof.Machine.execQPartition f m s
  | .qCreate f m => Sys2Proof.Machine.execQCreate f m s
  | .qEnable f m => Sys2Proof.Machine.execQEnable f m s
  | .qDisable f m => Sys2Proof.Machine.execQDisable f m s
  | .qDisabled q => Sys2Proof.Machine.execQDisabled q s
  | .qReset f m => Sys2Proof.Machine.execQReset f m s
  | .qDestroy f m => Sys2Proof.Machine.execQDestroy f m s
  | .qSetNotify f m => Sys2Proof.Machine.execQSetNotify f m s
  | .qGetStatus f m => Sys2Proof.Machine.execQGetStatus f m s
  | .descriptorFetchComplete q => Sys2Proof.Machine.execDescriptorFetchComplete q s
  | .notifyCoalTimeout q => Sys2Proof.Machine.execNotifyCoalTimeout q s
  | .sourcePacketSend q t => Sys2Proof.Machine.execSourcePacketSend q t s
  | .frameRecordStart c t => Sys2Proof.Machine.execFrameRecordStart c t s
  | .frameRecordClose c t => Sys2Proof.Machine.execFrameRecordClose c t s
  | .timeGetStatus f m => Sys2Proof.Machine.execTimeGetStatus f m s
  | .timeSetSource f m => Sys2Proof.Machine.execTimeSetSource f m s
  | .timeSetExtOffset f m => Sys2Proof.Machine.execTimeSetExtOffset f m s
  | .timeSetPps f m => Sys2Proof.Machine.execTimeSetPps f m s
  | .sourceValidityChange src valid t => Sys2Proof.Machine.execSourceValidityChange src valid t s
  | .sourcePromotion t => Sys2Proof.Machine.execSourcePromotion t s
  | .ppsEdge rise t => Sys2Proof.Machine.execPpsEdge rise t s
  | .extOffsetApply => Sys2Proof.Machine.execExtOffsetApply s
  | .ppsOutRise t => Sys2Proof.Machine.execPpsOutRise t s
  | .ppsOutFall => Sys2Proof.Machine.execPpsOutFall s
  | .schedAdd f m => Sys2Proof.Machine.execSchedAdd f m s
  | .schedCancel f m => Sys2Proof.Machine.execSchedCancel f m s
  | .schedGetStatus f m => Sys2Proof.Machine.execSchedGetStatus f m s
  | .actionExecute slot lateBy => Sys2Proof.Machine.execActionExecute slot lateBy s
  | .wgConfigure f m => Sys2Proof.Machine.execWgConfigure f m s
  | .wgConnect f m => Sys2Proof.Machine.execWgConnect f m s
  | .wgSetGroup f m => Sys2Proof.Machine.execWgSetGroup f m s
  | .wgExport f m => Sys2Proof.Machine.execWgExport f m s
  | .wgGetStatus f m => Sys2Proof.Machine.execWgGetStatus f m s
  | .producerOccurrence producer rise t => Sys2Proof.Machine.execProducerOccurrence producer rise t s
  | .channelDelayFire c => Sys2Proof.Machine.execChannelDelayFire c s
  | .wgImportReceived src secure body t => Sys2Proof.Machine.execWgImportReceived src secure body t s
  | .encConfigure f m => Sys2Proof.Machine.execEncConfigure f m s
  | .encSetCount f m => Sys2Proof.Machine.execEncSetCount f m s
  | .encGetStatus f m => Sys2Proof.Machine.execEncGetStatus f m s
  | .emuConfigure f m => Sys2Proof.Machine.execEmuConfigure f m s
  | .gpioConfigure f m => Sys2Proof.Machine.execGpioConfigure f m s
  | .gpioWrite f m => Sys2Proof.Machine.execGpioWrite f m s
  | .gpioGetStatus f m => Sys2Proof.Machine.execGpioGetStatus f m s
  | .encoderEdge e a b t => Sys2Proof.Machine.execEncoderEdge e a b t s
  | .encoderIndex e t => Sys2Proof.Machine.execEncoderIndex e t s
  | .speedUpdate e t => Sys2Proof.Machine.execSpeedUpdate e t s
  | .standstill e => Sys2Proof.Machine.execStandstill e s
  | .encoderHistorySample e t => Sys2Proof.Machine.execEncoderHistorySample e t s
  | .ssiFrame e idle bits t => Sys2Proof.Machine.execSsiFrame e idle bits t s
  | .emulationStep o t => Sys2Proof.Machine.execEmulationStep o t s
  | .gpioEdge pin level t => Sys2Proof.Machine.execGpioEdge pin level t s
  | .hiveGetStatus f m => Sys2Proof.Machine.execHiveGetStatus f m s
  | .hiveListDevices f m => Sys2Proof.Machine.execHiveListDevices f m s
  | .hiveSetPolicy f m => Sys2Proof.Machine.execHiveSetPolicy f m s
  | .hiveResetDevice f m => Sys2Proof.Machine.execHiveResetDevice f m s
  | .hiveResetDone device status => Sys2Proof.Machine.execHiveResetDone device status s
  | .hiveRemote f m => Sys2Proof.Machine.execHiveRemote f m s
  | .remoteReqReceived src fn request => Sys2Proof.Machine.execRemoteReqReceived src fn request s
  | .remoteRespReceived src response => Sys2Proof.Machine.execRemoteRespReceived src response s
  | .hiveRemoteTimeout f m => Sys2Proof.Machine.execHiveRemoteTimeout f m s
  | .hmsgForward arrival msg => Sys2Proof.Machine.execHmsgForward arrival msg s
  | .hiveFormAlone => Sys2Proof.Machine.execHiveFormAlone s
  | .electionListenEnd => Sys2Proof.Machine.execElectionListenEnd s
  | .announceSend => Sys2Proof.Machine.execAnnounceSend s
  | .announceReceived l serial prio seq hops => Sys2Proof.Machine.execAnnounceReceived l serial prio seq hops s
  | .electionWin => Sys2Proof.Machine.execElectionWin s
  | .joinRequestSend l => Sys2Proof.Machine.execJoinRequestSend l s
  | .joinRequestReceived l serial role ups nonce => Sys2Proof.Machine.execJoinRequestReceived l serial role ups nonce s
  | .joinChallengeReceived l nonce managerSerial => Sys2Proof.Machine.execJoinChallengeReceived l nonce managerSerial s
  | .joinResponseReceived l serial signature cert => Sys2Proof.Machine.execJoinResponseReceived l serial signature cert s
  | .joinAcceptReceived l id depth parent uplink2 standby => Sys2Proof.Machine.execJoinAcceptReceived l id depth parent uplink2 standby s
  | .joinRefuseReceived l reason => Sys2Proof.Machine.execJoinRefuseReceived l reason s
  | .joinRetry => Sys2Proof.Machine.execJoinRetry s
  | .aliveSend t => Sys2Proof.Machine.execAliveSend t s
  | .aliveReceived l serial t => Sys2Proof.Machine.execAliveReceived l serial t s
  | .uplinkLoss t => Sys2Proof.Machine.execUplinkLoss t s
  | .rerouteReceived l device restore => Sys2Proof.Machine.execRerouteReceived l device restore s
  | .uplinkRestore t => Sys2Proof.Machine.execUplinkRestore t s
  | .standbyTakeover t => Sys2Proof.Machine.execStandbyTakeover t s
  | .standbyReady => Sys2Proof.Machine.execStandbyReady s
  | .mirrorReceived pieces extOffset extFrac extSince last => Sys2Proof.Machine.execMirrorReceived pieces extOffset extFrac extSince last s
  | .extOffsetMsgReceived offset frac since t => Sys2Proof.Machine.execExtOffsetMsgReceived offset frac since t s
  | .cellServerReceived arrival device ctx => Sys2Proof.Machine.execCellServerReceived arrival device ctx s
  | .cellForward arrival src packet => Sys2Proof.Machine.execCellForward arrival src packet s
  | .updateReceived sub body => Sys2Proof.Machine.execUpdateReceived sub body s
  | .updateResultReceived src status missing => Sys2Proof.Machine.execUpdateResultReceived src status missing s
  | .faultSummaryReceived src sub body => Sys2Proof.Machine.execFaultSummaryReceived src sub body s
  | .honeySummaryReceived src body => Sys2Proof.Machine.execHoneySummaryReceived src body s
  | .hiveResetReceived kind => Sys2Proof.Machine.execHiveResetReceived kind s
  | .fwGetStatus f m => Sys2Proof.Machine.execFwGetStatus f m s
  | .fwWrite f m => Sys2Proof.Machine.execFwWrite f m s
  | .fwPieceProgrammed => Sys2Proof.Machine.execFwPieceProgrammed s
  | .fwVerified flashOk => Sys2Proof.Machine.execFwVerified flashOk s
  | .fwActivate f m => Sys2Proof.Machine.execFwActivate f m s
  | .fwCommitSvn f m burnt => Sys2Proof.Machine.execFwCommitSvn f m burnt s
  | .fwDistribute f m => Sys2Proof.Machine.execFwDistribute f m s
  | .fwDistributed => Sys2Proof.Machine.execFwDistributed s
  | .trustSetOwnerPolicy f m burnOk => Sys2Proof.Machine.execTrustSetOwnerPolicy f m burnOk s
  | .trustGetCert f m => Sys2Proof.Machine.execTrustGetCert f m s
  | .trustSpdm f m => Sys2Proof.Machine.execTrustSpdm f m s
  | .trustChallenge f m => Sys2Proof.Machine.execTrustChallenge f m s
  | .nonceExpiry => Sys2Proof.Machine.execNonceExpiry s
  | .debugUnlock f m => Sys2Proof.Machine.execDebugUnlock f m s
  | .healthGetSensors f m => Sys2Proof.Machine.execHealthGetSensors f m s
  | .logRead f m => Sys2Proof.Machine.execLogRead f m s
  | .honeyRead f m => Sys2Proof.Machine.execHoneyRead f m s
  | .honeyReset f m => Sys2Proof.Machine.execHoneyReset f m s
  | .calRead f m => Sys2Proof.Machine.execCalRead f m s
  | .calWrite f m => Sys2Proof.Machine.execCalWrite f m s
  | .flashWritten item ok => Sys2Proof.Machine.execFlashWritten item ok s
  | .pwrSetBootOptions f m => Sys2Proof.Machine.execPwrSetBootOptions f m s
  | .pwrSetState f m => Sys2Proof.Machine.execPwrSetState f m s
  | .pwrEntryDone t => Sys2Proof.Machine.execPwrEntryDone t s
  | .pwrWake cause t => Sys2Proof.Machine.execPwrWake cause t s
  | .pwrGetStatus f m => Sys2Proof.Machine.execPwrGetStatus f m s
  | .devReset f m => Sys2Proof.Machine.execDevReset f m s
  | .compatGetInfo f m => Sys2Proof.Machine.execCompatGetInfo f m s
  | .diagPrbs f m => Sys2Proof.Machine.execDiagPrbs f m s
  | .diagDone l => Sys2Proof.Machine.execDiagDone l s
  | .diagBankRead f m => Sys2Proof.Machine.execDiagBankRead f m s
  | .diagInject f m => Sys2Proof.Machine.execDiagInject f m s
  | .ctxSetLaunch f m => Sys2Proof.Machine.execCtxSetLaunch f m s
  | .compatLaneConfigure f m => Sys2Proof.Machine.execCompatLaneConfigure f m s
  | .compatLaneGetStatus f m => Sys2Proof.Machine.execCompatLaneGetStatus f m s
  | .compatCtxCreate f m => Sys2Proof.Machine.execCompatCtxCreate f m s
  | .compatCtxAssign f m => Sys2Proof.Machine.execCompatCtxAssign f m s
  | .compatCtxStart f m => Sys2Proof.Machine.execCompatCtxStart f m s
  | .compatCtxStop f m => Sys2Proof.Machine.execCompatCtxStop f m s
  | .compatCtxRelease f m => Sys2Proof.Machine.execCompatCtxRelease f m s
  | .compatCtxDestroy f m => Sys2Proof.Machine.execCompatCtxDestroy f m s
  | .compatCtxGetStatus f m => Sys2Proof.Machine.execCompatCtxGetStatus f m s
  | .compatIntakeSetPartition f m => Sys2Proof.Machine.execCompatIntakeSetPartition f m s
  | .compatCorrSetBlack f m => Sys2Proof.Machine.execCompatCorrSetBlack f m s
  | .compatCorrSetEnable f m => Sys2Proof.Machine.execCompatCorrSetEnable f m s
  | .compatCorrLoadTable f m => Sys2Proof.Machine.execCompatCorrLoadTable f m s
  | .compatPgSetSteering f m => Sys2Proof.Machine.execCompatPgSetSteering f m s
  | .compatQPartition f m => Sys2Proof.Machine.execCompatQPartition f m s
  | .compatQCreate f m => Sys2Proof.Machine.execCompatQCreate f m s
  | .compatQEnable f m => Sys2Proof.Machine.execCompatQEnable f m s
  | .compatQDisable f m => Sys2Proof.Machine.execCompatQDisable f m s
  | .compatQReset f m => Sys2Proof.Machine.execCompatQReset f m s
  | .compatQDestroy f m => Sys2Proof.Machine.execCompatQDestroy f m s
  | .compatQSetNotify f m => Sys2Proof.Machine.execCompatQSetNotify f m s
  | .compatQGetStatus f m => Sys2Proof.Machine.execCompatQGetStatus f m s
  | .compatTimeGetStatus f m => Sys2Proof.Machine.execCompatTimeGetStatus f m s
  | .compatTimeSetSource f m => Sys2Proof.Machine.execCompatTimeSetSource f m s
  | .compatTimeSetExtOffset f m => Sys2Proof.Machine.execCompatTimeSetExtOffset f m s
  | .compatTimeSetPps f m => Sys2Proof.Machine.execCompatTimeSetPps f m s
  | .compatSchedAdd f m => Sys2Proof.Machine.execCompatSchedAdd f m s
  | .compatSchedCancel f m => Sys2Proof.Machine.execCompatSchedCancel f m s
  | .compatSchedGetStatus f m => Sys2Proof.Machine.execCompatSchedGetStatus f m s
  | .sysRstNAssert lengthNs => Sys2Proof.Machine.execSysRstNAssert lengthNs s
  | .sysRstNRelease straps => Sys2Proof.Machine.execSysRstNRelease straps s
  | .bootOptionsRead readable => Sys2Proof.Machine.execBootOptionsRead readable s
  | .bootImageLoaded readOk => Sys2Proof.Machine.execBootImageLoaded readOk s
  | .keeperReady t => Sys2Proof.Machine.execKeeperReady t s
  | .softDeviceReset combsPass asmsPass portsPass t => Sys2Proof.Machine.execSoftDeviceReset combsPass asmsPass portsPass t s
  | .fullResetByHive straps => Sys2Proof.Machine.execFullResetByHive straps s
  | .keeperRestart cause t => Sys2Proof.Machine.execKeeperRestart cause t s
  | .keeperFault bank t => Sys2Proof.Machine.execKeeperFault bank t s
  | .fwTrialEnd => Sys2Proof.Machine.execFwTrialEnd s
  | .jtagInstruction code => Sys2Proof.Machine.execJtagInstruction code s
  | .bankRetentionEntry b => Sys2Proof.Machine.execBankRetentionEntry b s
  | .bankWake b => Sys2Proof.Machine.execBankWake b s
  | .eccCorrected b word t => Sys2Proof.Machine.execEccCorrected b word t s
  | .eccUncorrectable b word held t => Sys2Proof.Machine.execEccUncorrectable b word held t s
  | .writeLost b word test => Sys2Proof.Machine.execWriteLost b word test s
  | .backgroundTestWindow b base len bad t => Sys2Proof.Machine.execBackgroundTestWindow b base len bad t s
  | .testWindowSurrender b t => Sys2Proof.Machine.execTestWindowSurrender b t s
  | .memValveGuard valve t => Sys2Proof.Machine.execMemValveGuard valve t s
  | .assemblerFault a t => Sys2Proof.Machine.execAssemblerFault a t s
  | .clockLoss clk t => Sys2Proof.Machine.execClockLoss clk t s
  | .sysclkHoldoverEnd => Sys2Proof.Machine.execSysclkHoldoverEnd s
  | .supplyExcursion rail w t => Sys2Proof.Machine.execSupplyExcursion rail w t s
  | .flashFault region t => Sys2Proof.Machine.execFlashFault region t s
  | .faultRaised => Sys2Proof.Machine.execFaultRaised s
  | .faultCleared cls unit t => Sys2Proof.Machine.execFaultCleared cls unit t s
  | .keeperSleep t => Sys2Proof.Machine.execKeeperSleep t s
  | .keeperTick => Sys2Proof.Machine.execKeeperTick s
  | .sensorSample temps volts railMw => Sys2Proof.Machine.execSensorSample temps volts railMw s
  | .logEntryProgram => Sys2Proof.Machine.execLogEntryProgram s
  | .honeySave => Sys2Proof.Machine.execHoneySave s
  | .thermalTrip sensor reading => Sys2Proof.Machine.execThermalTrip sensor reading s
  | .thermalTripClear c => Sys2Proof.Machine.execThermalTripClear c s
  | .vddAonRise => Sys2Proof.Machine.execVddAonRise s
  | .dozeResumeDone l t => Sys2Proof.Machine.execDozeResumeDone l t s
  | .clockReturn clk t => Sys2Proof.Machine.execClockReturn clk t s
  | .supplyReturn rail t => Sys2Proof.Machine.execSupplyReturn rail t s

end Sys2Proof.Machine
end

