-- ==== Sys2Proof/Safety.lean ====
section
/-! DEFINITION. What counts as a safe run: one that never stops. -/
namespace Sys2Proof

/-- A step that ends in a next state. -/
def stepsOn (s : Machine.State) : Prop := ∃ t, Machine.step s = .next t

/-- A run of `k` steps that never stops. -/
def runsOn (k : Nat) (s : Machine.State) : Prop := ∃ t, core.run k s = .next t

end Sys2Proof

namespace Sys2Proof.Machine

/-- The fields of State, by name. -/
inductive Field where
  | pending | out | freeCtr | pace | sys | clock | keeper | mon
  | power | trust | banks | window | faults | faultBits | faultReports | hps
  | mbxs | goOrder | waiting | deviceId | queues | lanes | links | plls
  | eths | hive | ctxs | combs | parts | stitches | frags | fragIds
  | staging | asms | pgs | pgCounts | ctxSteer | pend | flight | vps
  | encs | emus | pins | wag
deriving DecidableEq, Repr

/-- A set of fields, one bit each. -/
def fieldSet (l : List Field) : Nat := l.foldl (fun n f => n ||| 2 ^ f.ctorIdx) 0

/-- `s` with the fields of the set `w` put to their reset values: what `s` is apart from them. -/
def State.mask (w : Nat) (s : State) : State where
  pending := if w.testBit 0 then [] else s.pending
  out := if w.testBit 1 then [] else s.out
  freeCtr := if w.testBit 2 then 0 else s.freeCtr
  pace := if w.testBit 3 then [] else s.pace
  sys := if w.testBit 4 then {} else s.sys
  clock := if w.testBit 5 then {} else s.clock
  keeper := if w.testBit 6 then {} else s.keeper
  mon := if w.testBit 7 then {} else s.mon
  power := if w.testBit 8 then {} else s.power
  trust := if w.testBit 9 then {} else s.trust
  banks := if w.testBit 10 then [] else s.banks
  window := if w.testBit 11 then none else s.window
  faults := if w.testBit 12 then [] else s.faults
  faultBits := if w.testBit 13 then 0 else s.faultBits
  faultReports := if w.testBit 14 then [] else s.faultReports
  hps := if w.testBit 15 then [] else s.hps
  mbxs := if w.testBit 16 then [] else s.mbxs
  goOrder := if w.testBit 17 then [] else s.goOrder
  waiting := if w.testBit 18 then none else s.waiting
  deviceId := if w.testBit 19 then 0 else s.deviceId
  queues := if w.testBit 20 then [] else s.queues
  lanes := if w.testBit 21 then [] else s.lanes
  links := if w.testBit 22 then [] else s.links
  plls := if w.testBit 23 then [] else s.plls
  eths := if w.testBit 24 then [] else s.eths
  hive := if w.testBit 25 then {} else s.hive
  ctxs := if w.testBit 26 then [] else s.ctxs
  combs := if w.testBit 27 then [] else s.combs
  parts := if w.testBit 28 then [] else s.parts
  stitches := if w.testBit 29 then [] else s.stitches
  frags := if w.testBit 30 then [] else s.frags
  fragIds := if w.testBit 31 then 0 else s.fragIds
  staging := if w.testBit 32 then [] else s.staging
  asms := if w.testBit 33 then [] else s.asms
  pgs := if w.testBit 34 then [] else s.pgs
  pgCounts := if w.testBit 35 then [] else s.pgCounts
  ctxSteer := if w.testBit 36 then [] else s.ctxSteer
  pend := if w.testBit 37 then [] else s.pend
  flight := if w.testBit 38 then {} else s.flight
  vps := if w.testBit 39 then [] else s.vps
  encs := if w.testBit 40 then [] else s.encs
  emus := if w.testBit 41 then [] else s.emus
  pins := if w.testBit 42 then [] else s.pins
  wag := if w.testBit 43 then {} else s.wag

/-- The fields that a command may change: those its rules name, and those that what it sets off may reach. -/
def mayChange : Instr → List Field
  | .creditRepeat _ =>
    [.out]
  | .hiveResetReceived _ =>
    [.sys]
  | .ppsOutRise _ | .ppsOutFall =>
    [.out, .clock]
  | .honeySummaryReceived _ _ =>
    [.keeper]
  | .keeperSleep _ =>
    [.clock, .keeper]
  | .sysclkHoldoverEnd =>
    [.clock, .mon]
  | .vddAonRise =>
    [.keeper, .mon]
  | .fwPieceProgrammed =>
    [.out, .sys, .trust]
  | .nonceExpiry | .fwTrialEnd =>
    [.clock, .trust]
  | .doeRequest _ _ =>
    [.out, .freeCtr, .keeper, .trust]
  | .bankRetentionEntry _ | .bankWake _ =>
    [.banks]
  | .writeLost _ _ _ =>
    [.keeper, .banks, .window]
  | .testWindowSurrender _ _ =>
    [.clock, .keeper, .banks, .window]
  | .bondLaneRestore _ _ =>
    [.out, .clock, .faults]
  | .logEntryProgram =>
    [.out, .keeper, .faults]
  | .clockReturn _ _ | .supplyReturn _ _ =>
    [.clock, .mon, .faults]
  | .pwCommitWrite _ _ _ =>
    [.hps]
  | .invalidationRequest _ _ _ _ =>
    [.out, .hps]
  | .hbTimeLoRead _ _ | .perstDeassert _ _ | .tagQuarantineEnd _ _ | .linkL1Entry _ _ _ =>
    [.out, .clock, .hps]
  | .jtagInstruction _ =>
    [.out, .sys, .keeper, .trust, .hps]
  | .abortComplete _ _ =>
    [.mbxs]
  | .notifyCoalTimeout _ =>
    [.out, .clock, .hps, .queues]
  | .sensorSample _ _ _ =>
    [.out, .keeper, .hps, .queues]
  | .tunnelOutSend _ _ | .sourcePacketSend _ _ | .sourcePromotion _ | .extOffsetApply | .extOffsetMsgReceived _ _ _ _ =>
    [.out, .clock, .keeper, .hps, .queues]
  | .pwrEntryDone _ =>
    [.out, .clock, .keeper, .power, .hps, .queues]
  | .eccCorrected _ _ _ =>
    [.out, .pace, .clock, .keeper, .banks, .hps, .queues]
  | .flashWritten _ _ =>
    [.out, .sys, .keeper, .trust, .faults, .hps, .queues]
  | .faultRaised =>
    [.out, .keeper, .faultReports, .hps, .queues]
  | .coefficientUpdate _ _ _ | .rxReady _ _ _ | .idleFreeze _ _ _ | .adaptationResume _ _ | .driftAdaptEnd _ _ _
  | .dozeSelfWake _ _ | .fastResumeTimeout _ | .dozeResumeDone _ _ =>
    [.clock, .lanes]
  | .trainingTimerExpiry _ | .eyeWindow _ _ _ =>
    [.out, .clock, .keeper, .hps, .queues, .lanes]
  | .trainingFrameReceived _ _ _ =>
    [.out, .freeCtr, .clock, .keeper, .hps, .queues, .lanes]
  | .testPacketReceived _ _ _ | .creditBlockReceived _ _ _ | .timeExchangeMissed _ =>
    [.links]
  | .cctlRequestReceived _ _ _ _ _ _ _ | .cctlTimeout _ _ | .eventBlockReceived _ _ _ _ _ _ _
  | .alignRestripeReceived _ _ _ | .descriptorRead _ _ | .descriptorReadRetry _ =>
    [.clock, .links]
  | .generatedLine _ _ | .timeSyncSend _ _ | .alignMarkSend _ _ | .alignRestoreReceived _ _ _ =>
    [.out, .clock, .links]
  | .diagDone _ =>
    [.out, .sys, .clock, .keeper, .hps, .queues, .links]
  | .trainFailRetry _ | .losDeassert _ _ =>
    [.out, .clock, .lanes, .links]
  | .lockTimeout _ | .losRetrain _ _ =>
    [.out, .clock, .keeper, .lanes, .links]
  | .pwrWake _ _ =>
    [.out, .sys, .clock, .keeper, .power, .banks, .hps, .queues, .lanes, .links]
  | .pllLock _ _ _ =>
    [.out, .clock, .lanes, .links, .plls]
  | .arpIcmpAnswer _ _ | .ptpMessageSend _ _ _ =>
    [.out, .clock, .eths]
  | .sourceValidityChange _ _ _ =>
    [.out, .clock, .keeper, .hps, .queues, .eths]
  | .ethLinkUp _ _ =>
    [.clock, .faults, .lanes, .eths]
  | .ethFrameReceived _ _ _ _ _ =>
    [.out, .clock, .keeper, .hps, .queues, .links, .eths]
  | .electionListenEnd | .mirrorReceived _ _ _ _ _ =>
    [.clock, .hive]
  | .joinRefuseReceived _ _ | .faultSummaryReceived _ _ _ =>
    [.out, .keeper, .hps, .queues, .hive]
  | .hiveResetDone _ _ | .fwDistributed =>
    [.out, .sys, .keeper, .hps, .queues, .hive]
  | .hiveFormAlone =>
    [.out, .clock, .keeper, .hps, .deviceId, .queues, .hive]
  | .announceSend | .announceReceived _ _ _ _ _ | .joinRequestSend _ | .joinChallengeReceived _ _ _ =>
    [.links, .hive]
  | .joinRetry | .aliveSend _ =>
    [.clock, .links, .hive]
  | .cellServerReceived _ _ _ | .updateResultReceived _ _ _ =>
    [.keeper, .links, .hive]
  | .updateReceived _ _ =>
    [.out, .sys, .keeper, .trust, .links, .hive]
  | .huntPeriod _ _ _ =>
    [.out, .clock, .faults, .links, .hive]
  | .honeySave =>
    [.out, .clock, .keeper, .mon, .faults, .links, .hive]
  | .flashFault _ _ =>
    [.out, .clock, .keeper, .faults, .faultBits, .faultReports, .hps, .links, .hive]
  | .sysRstNRelease _ =>
    [.out, .sys, .clock, .keeper, .mon, .faults, .faultBits, .faultReports, .hps, .links, .hive]
  | .bootOptionsRead _ | .bootImageLoaded _ =>
    [.out, .sys, .keeper, .trust, .faults, .faultBits, .faultReports, .hps, .links, .hive]
  | .mbxGo _ _ | .devGetInfo _ _ | .devGetPortStatus _ _ | .devGetOwner _ _ | .laneEyeScan _ _ _ _ _
  | .combGetStatus _ _ | .timeGetStatus _ _ | .hiveGetStatus _ _ | .hiveSetPolicy _ _ | .fwGetStatus _ _
  | .trustGetCert _ _ | .healthGetSensors _ _ | .logRead _ _ | .honeyRead _ _ | .calRead _ _ | .pwrGetStatus _ _
  | .compatGetInfo _ _ | .compatTimeGetStatus _ _ =>
    [.out, .keeper, .hps, .mbxs, .goOrder, .links, .hive]
  | .hiveListDevices _ _ =>
    [.out, .freeCtr, .keeper, .hps, .mbxs, .goOrder, .links, .hive]
  | .devAssign _ _ | .qPartition _ _ | .hiveResetDevice _ _ | .fwDistribute _ _ | .devReset _ _ | .diagPrbs _ _
  | .compatQPartition _ _ =>
    [.out, .sys, .keeper, .hps, .mbxs, .goOrder, .links, .hive]
  | .timeSetExtOffset _ _ | .timeSetPps _ _ | .compatTimeSetExtOffset _ _ | .compatTimeSetPps _ _ =>
    [.out, .clock, .keeper, .hps, .mbxs, .goOrder, .links, .hive]
  | .trustChallenge _ _ =>
    [.out, .freeCtr, .keeper, .trust, .hps, .mbxs, .goOrder, .links, .hive]
  | .fwWrite _ _ | .fwActivate _ _ | .pwrSetBootOptions _ _ =>
    [.out, .sys, .keeper, .trust, .hps, .mbxs, .goOrder, .links, .hive]
  | .diagBankRead _ _ =>
    [.out, .freeCtr, .keeper, .banks, .window, .hps, .mbxs, .goOrder, .links, .hive]
  | .honeyReset _ _ =>
    [.out, .keeper, .mon, .trust, .faults, .hps, .mbxs, .goOrder, .links, .hive]
  | .mbxAbort _ _ =>
    [.out, .keeper, .hps, .mbxs, .goOrder, .waiting, .links, .hive]
  | .hiveRemoteTimeout _ _ =>
    [.out, .clock, .keeper, .hps, .mbxs, .goOrder, .waiting, .links, .hive]
  | .trustSpdm _ _ =>
    [.out, .freeCtr, .keeper, .trust, .hps, .mbxs, .goOrder, .waiting, .links, .hive]
  | .joinRequestReceived _ _ _ _ _ | .rerouteReceived _ _ _ =>
    [.out, .keeper, .hps, .queues, .links, .hive]
  | .joinResponseReceived _ _ _ _ =>
    [.out, .freeCtr, .keeper, .hps, .queues, .links, .hive]
  | .alignMarkReceived _ _ _ _ =>
    [.out, .clock, .keeper, .hps, .queues, .links, .hive]
  | .cctlAckReceived _ _ _ _ _ _ | .ppsEdge _ _ =>
    [.out, .freeCtr, .clock, .keeper, .hps, .queues, .links, .hive]
  | .fwVerified _ =>
    [.out, .sys, .keeper, .trust, .faults, .hps, .queues, .links, .hive]
  | .standbyReady =>
    [.out, .keeper, .faults, .faultBits, .hps, .queues, .links, .hive]
  | .uplinkRestore _ | .faultCleared _ _ _ =>
    [.out, .clock, .keeper, .faults, .faultBits, .hps, .queues, .links, .hive]
  | .backgroundTestWindow _ _ _ _ _ =>
    [.out, .clock, .keeper, .banks, .window, .faults, .faultBits, .faultReports, .hps, .queues, .links, .hive]
  | .qSetNotify _ _ | .qGetStatus _ _ | .compatQSetNotify _ _ | .compatQGetStatus _ _ =>
    [.out, .keeper, .hps, .mbxs, .goOrder, .queues, .links, .hive]
  | .timeSetSource _ _ | .compatTimeSetSource _ _ =>
    [.out, .clock, .keeper, .hps, .mbxs, .goOrder, .queues, .links, .hive]
  | .fwCommitSvn _ _ _ | .debugUnlock _ _ =>
    [.out, .keeper, .trust, .hps, .mbxs, .goOrder, .queues, .links, .hive]
  | .trustSetOwnerPolicy _ _ _ =>
    [.out, .freeCtr, .sys, .keeper, .trust, .hps, .mbxs, .goOrder, .queues, .links, .hive]
  | .qCreate _ _ | .compatQCreate _ _ =>
    [.out, .keeper, .banks, .hps, .mbxs, .goOrder, .queues, .links, .hive]
  | .uplinkLoss _ =>
    [.out, .clock, .keeper, .hps, .deviceId, .queues, .links, .hive]
  | .aliveReceived _ _ _ =>
    [.out, .freeCtr, .clock, .keeper, .hps, .deviceId, .queues, .links, .hive]
  | .electionWin =>
    [.out, .clock, .keeper, .faults, .faultBits, .hps, .deviceId, .queues, .links, .hive]
  | .timeBlockReceived _ _ _ _ _ _ _ | .joinAcceptReceived _ _ _ _ _ _ =>
    [.out, .freeCtr, .clock, .keeper, .faults, .faultBits, .hps, .deviceId, .queues, .links, .hive]
  | .standbyTakeover _ =>
    [.out, .freeCtr, .clock, .keeper, .faults, .faultBits, .faultReports, .hps, .deviceId, .queues, .links, .hive]
  | .powerExchangeTimeout _ =>
    [.out, .clock, .keeper, .power, .hps, .mbxs, .goOrder, .waiting, .lanes, .links, .hive]
  | .lolAssert _ _ | .fecFrameReceived _ _ _ =>
    [.out, .clock, .keeper, .faults, .faultBits, .faultReports, .hps, .queues, .lanes, .links, .hive]
  | .linkDegrade _ _ | .alignDegradeReceived _ _ _ =>
    [.out, .clock, .keeper, .power, .hps, .mbxs, .goOrder, .waiting, .queues, .lanes, .links, .hive]
  | .ptpMessageReceived _ _ _ =>
    [.out, .freeCtr, .clock, .keeper, .hps, .queues, .links, .eths, .hive]
  | .laneGetStatus _ _ | .compatLaneGetStatus _ _ =>
    [.out, .keeper, .hps, .mbxs, .goOrder, .lanes, .links, .eths, .hive]
  | .losAssert _ _ =>
    [.out, .clock, .keeper, .faults, .faultBits, .faultReports, .hps, .queues, .lanes, .links, .eths, .hive]
  | .lmsgReceived _ _ _ _ =>
    [.out, .clock, .keeper, .power, .hps, .mbxs, .goOrder, .waiting, .lanes, .links, .plls, .eths, .hive]
  | .clockLoss _ _ =>
    [.out, .clock, .keeper, .mon, .faults, .faultBits, .faultReports, .hps, .queues, .lanes, .links, .plls, .eths, .hive]
  | .laneConfigure _ _ | .compatLaneConfigure _ _ =>
    [.out, .keeper, .banks, .faults, .faultBits, .hps, .mbxs, .goOrder, .queues, .lanes, .links, .plls, .eths, .hive]
  | .laneSetPower _ _ =>
    [.out, .sys, .keeper, .power, .banks, .hps, .mbxs, .goOrder, .waiting, .queues, .lanes, .links, .plls, .eths, .hive]
  | .controlBlockReceived _ _ _ =>
    [.out, .freeCtr, .clock, .keeper, .power, .faults, .faultBits, .hps, .mbxs, .goOrder, .waiting, .deviceId, .queues, .lanes, .links, .plls, .eths, .hive]
  | .ctxStopped _ | .bgCaptured _ | .qDisabled _ =>
    [.out, .keeper, .hps, .queues, .ctxs]
  | .fmarkReceived _ _ _ _ _ _ | .frameTimeoutExpiry _ | .frameRecordStart _ _ | .frameRecordClose _ _ =>
    [.out, .clock, .keeper, .hps, .queues, .ctxs]
  | .lineTimeoutExpiry _ _ =>
    [.out, .pace, .clock, .keeper, .hps, .queues, .ctxs]
  | .lineSegmentReceived _ _ _ =>
    [.out, .pace, .clock, .keeper, .hps, .queues, .links, .ctxs]
  | .trainEndDone _ _ =>
    [.clock, .lanes, .links, .ctxs]
  | .gvspPacketReceived _ _ _ _ | .gvspBlockTimeout _ _ =>
    [.out, .pace, .clock, .keeper, .hps, .queues, .links, .eths, .ctxs]
  | .ctxSet _ _ | .ctxStop _ _ | .ctxGetStatus _ _ | .cellSetFormat _ _ | .ctxSetLaunch _ _ | .compatCtxStop _ _
  | .compatCtxGetStatus _ _ =>
    [.out, .keeper, .hps, .mbxs, .goOrder, .links, .hive, .ctxs]
  | .qReset _ _ | .compatQReset _ _ =>
    [.out, .keeper, .hps, .mbxs, .goOrder, .queues, .links, .hive, .ctxs]
  | .ctxStart _ _ | .compatCtxStart _ _ =>
    [.out, .freeCtr, .sys, .keeper, .power, .banks, .hps, .mbxs, .goOrder, .queues, .lanes, .links, .hive, .ctxs]
  | .ctxCreate _ _ | .compatCtxCreate _ _ =>
    [.out, .keeper, .hps, .mbxs, .goOrder, .links, .eths, .hive, .ctxs]
  | .combUngate _ _ =>
    [.clock, .combs]
  | .keeperTick =>
    [.keeper, .mon, .combs]
  | .combSetSpare _ _ =>
    [.out, .sys, .keeper, .hps, .mbxs, .goOrder, .links, .hive, .combs]
  | .pwrSetState _ _ =>
    [.out, .sys, .keeper, .mon, .power, .banks, .faults, .hps, .mbxs, .goOrder, .queues, .lanes, .links, .plls, .eths, .hive, .combs]
  | .spareCopyDone _ _ =>
    [.clock, .ctxs, .combs]
  | .ctxRelease _ _ | .compatCtxRelease _ _ =>
    [.out, .keeper, .hps, .mbxs, .goOrder, .links, .hive, .ctxs, .combs]
  | .ctxAssign _ _ | .compatCtxAssign _ _ =>
    [.out, .keeper, .banks, .hps, .mbxs, .goOrder, .links, .hive, .ctxs, .combs]
  | .intakeSetPartition _ _ | .compatIntakeSetPartition _ _ =>
    [.out, .keeper, .hps, .mbxs, .goOrder, .links, .hive, .parts]
  | .stitchConfigure _ _ =>
    [.out, .sys, .keeper, .hps, .mbxs, .goOrder, .links, .hive, .stitches, .frags]
  | .calWrite _ _ =>
    [.out, .sys, .keeper, .trust, .hps, .mbxs, .goOrder, .links, .hive, .staging]
  | .keeperRestart _ _ =>
    [.out, .sys, .clock, .keeper, .trust, .hps, .waiting, .links, .hive, .staging]
  | .keeperFault _ _ =>
    [.out, .sys, .clock, .keeper, .trust, .faults, .faultBits, .faultReports, .hps, .waiting, .links, .hive, .staging]
  | .cellForward _ _ _ =>
    [.keeper, .links, .asms]
  | .qdbTailWrite _ _ _ _ | .qdbCplHeadWrite _ _ _ _ | .descriptorFetchComplete _ =>
    [.out, .keeper, .hps, .queues, .ctxs, .asms]
  | .cellDelivery _ _ | .readCompletionReceived _ _ _ _ _ | .completionTimeout _ _ =>
    [.out, .clock, .keeper, .hps, .queues, .ctxs, .asms]
  | .packetTransmit _ =>
    [.out, .freeCtr, .lanes, .links, .ctxs, .asms]
  | .qEnable _ _ | .qDisable _ _ | .compatQEnable _ _ | .compatQDisable _ _ =>
    [.out, .keeper, .hps, .mbxs, .goOrder, .queues, .links, .hive, .ctxs, .asms]
  | .corrSetNoise _ _ | .corrSetTemporal _ _ | .corrSetSpatial _ _ | .corrSetBlack _ _ | .corrSetRegistration _ _
  | .corrSetEnable _ _ | .segSetBackground _ _ | .segSetThreshold _ _ | .segSetMorph _ _ | .segCaptureBackground _ _
  | .compatCorrSetBlack _ _ | .compatCorrSetEnable _ _ =>
    [.out, .pace, .keeper, .hps, .mbxs, .goOrder, .queues, .links, .hive, .ctxs, .asms]
  | .translationCompletion _ _ _ =>
    [.out, .keeper, .hps, .mbxs, .goOrder, .waiting, .queues, .links, .hive, .ctxs, .asms]
  | .stripeStart _ _ =>
    [.out, .pace, .clock, .keeper, .hps, .queues, .ctxs, .combs, .asms]
  | .combLine _ _ =>
    [.out, .freeCtr, .pace, .clock, .keeper, .hps, .queues, .ctxs, .combs, .asms]
  | .combFault _ _ =>
    [.out, .pace, .sys, .clock, .keeper, .faults, .faultBits, .faultReports, .hps, .queues, .links, .hive, .ctxs, .combs, .asms]
  | .corrLoadTable _ _ | .segLoadBackground _ _ | .compatCorrLoadTable _ _ =>
    [.out, .pace, .keeper, .hps, .mbxs, .goOrder, .queues, .links, .hive, .ctxs, .staging, .asms]
  | .pgConfigure _ _ =>
    [.out, .sys, .keeper, .hps, .mbxs, .goOrder, .links, .hive, .pgs]
  | .pgSetRow _ _ | .pgLoadRules _ _ | .rulesReadComplete _ _ _ =>
    [.out, .keeper, .hps, .mbxs, .goOrder, .waiting, .links, .hive, .pgs]
  | .assemblerFault _ _ =>
    [.out, .clock, .keeper, .faults, .faultBits, .faultReports, .hps, .queues, .links, .hive, .ctxs, .frags, .asms, .pgs]
  | .diagInject _ _ =>
    [.out, .pace, .sys, .keeper, .banks, .faults, .faultBits, .faultReports, .hps, .mbxs, .goOrder, .queues, .lanes, .links, .eths, .hive, .ctxs, .combs, .frags, .asms, .pgs]
  | .pgGetStatus _ _ =>
    [.out, .keeper, .hps, .mbxs, .goOrder, .links, .hive, .pgCounts]
  | .ctxDestroy _ _ | .compatCtxDestroy _ _ =>
    [.out, .pace, .keeper, .hps, .mbxs, .goOrder, .links, .hive, .ctxs, .staging, .ctxSteer]
  | .steerRestore _ _ _ =>
    [.out, .clock, .keeper, .hps, .queues, .pgs, .ctxSteer]
  | .pgSetSteering _ _ | .compatPgSetSteering _ _ =>
    [.out, .keeper, .hps, .mbxs, .goOrder, .queues, .links, .hive, .pgs, .ctxSteer]
  | .qDestroy _ _ | .compatQDestroy _ _ =>
    [.out, .pace, .keeper, .hps, .mbxs, .goOrder, .queues, .links, .hive, .ctxs, .asms, .pgs, .ctxSteer]
  | .pendingEntryFree _ =>
    [.clock, .pend]
  | .hostLinkUp _ _ _ _ =>
    [.out, .clock, .keeper, .faults, .hps, .queues, .ctxs, .asms, .pgs, .ctxSteer, .pend]
  | .flrComplete _ _ =>
    [.out, .pace, .clock, .keeper, .faults, .hps, .mbxs, .queues, .ctxs, .asms, .pgs, .ctxSteer, .pend]
  | .configWrite _ _ _ _ | .flr _ _ =>
    [.out, .sys, .clock, .keeper, .trust, .faults, .hps, .mbxs, .goOrder, .waiting, .queues, .links, .hive, .ctxs, .staging, .asms, .pgs, .ctxSteer, .pend]
  | .hostLinkDown _ _ | .perstAssert _ _ =>
    [.out, .sys, .clock, .keeper, .trust, .faults, .faultBits, .faultReports, .hps, .mbxs, .goOrder, .waiting, .queues, .links, .hive, .ctxs, .staging, .asms, .pgs, .ctxSteer, .pend]
  | .vpTestFire _ _ | .schedCancel _ _ | .schedGetStatus _ _ | .compatSchedCancel _ _ | .compatSchedGetStatus _ _ =>
    [.out, .keeper, .hps, .mbxs, .goOrder, .links, .hive, .flight]
  | .ejectActionsReceived _ _ _ =>
    [.out, .pace, .clock, .keeper, .hps, .queues, .links, .hive, .pgCounts, .flight]
  | .eccUncorrectable _ _ _ _ =>
    [.out, .pace, .sys, .clock, .keeper, .trust, .banks, .faults, .faultBits, .faultReports, .hps, .waiting, .queues, .links, .hive, .ctxs, .combs, .staging, .asms, .pend, .flight]
  | .decisionApertureWrite _ _ _ _ | .decisionRecordBind _ _ | .decisionDeadline _ | .ejectDecisionReceived _ _ _ =>
    [.out, .pace, .clock, .keeper, .hps, .queues, .links, .hive, .pgCounts, .pend, .flight]
  | .peerWindowWrite _ _ _ _ =>
    [.out, .pace, .clock, .keeper, .hps, .queues, .links, .hive, .ctxs, .asms, .pgCounts, .pend, .flight]
  | .unpairedWindowEnd _ _ =>
    [.out, .pace, .clock, .keeper, .hps, .queues, .links, .hive, .ctxs, .asms, .pgs, .pgCounts, .pend, .flight]
  | .stitchTimeout _ _ _ =>
    [.out, .freeCtr, .pace, .clock, .keeper, .hps, .queues, .links, .hive, .ctxs, .frags, .asms, .pgs, .pgCounts, .pend, .flight]
  | .asmObject _ _ =>
    [.out, .freeCtr, .pace, .clock, .keeper, .hps, .queues, .links, .hive, .ctxs, .frags, .fragIds, .asms, .pgs, .pgCounts, .pend, .flight]
  | .valvePortReadbackFault _ _ =>
    [.out, .clock, .keeper, .faults, .faultBits, .faultReports, .hps, .links, .hive, .vps]
  | .supplyExcursion _ _ _ =>
    [.out, .clock, .keeper, .mon, .faults, .faultBits, .faultReports, .hps, .links, .hive, .vps]
  | .vpConfigure _ _ | .vpGetStatus _ _ | .vpClearFault _ _ =>
    [.out, .keeper, .hps, .mbxs, .goOrder, .links, .hive, .vps]
  | .feedbackFrameReceived _ _ _ | .feedbackMissed _ =>
    [.out, .clock, .keeper, .faults, .faultBits, .faultReports, .hps, .queues, .links, .hive, .vps]
  | .vpSetMode _ _ =>
    [.out, .sys, .keeper, .power, .banks, .hps, .mbxs, .goOrder, .queues, .lanes, .links, .hive, .vps]
  | .memValveGuard _ _ =>
    [.out, .clock, .keeper, .hps, .queues, .flight, .vps]
  | .valveFrameLatch _ =>
    [.out, .pace, .clock, .keeper, .hps, .queues, .flight, .vps]
  | .speedUpdate _ _ | .standstill _ | .encoderHistorySample _ _ =>
    [.clock, .encs]
  | .encoderEdge _ _ _ _ | .encoderIndex _ _ | .ssiFrame _ _ _ _ =>
    [.out, .pace, .clock, .keeper, .hps, .queues, .encs]
  | .encConfigure _ _ | .encSetCount _ _ | .encGetStatus _ _ =>
    [.out, .keeper, .hps, .mbxs, .goOrder, .links, .hive, .encs]
  | .emulationStep _ _ =>
    [.out, .pace, .clock, .keeper, .hps, .queues, .emus]
  | .emuConfigure _ _ =>
    [.out, .keeper, .hps, .mbxs, .goOrder, .links, .hive, .emus]
  | .gpioEdge _ _ _ =>
    [.out, .clock, .keeper, .hps, .queues, .pins]
  | .gpioConfigure _ _ | .gpioWrite _ _ | .gpioGetStatus _ _ =>
    [.out, .keeper, .hps, .mbxs, .goOrder, .links, .hive, .pins]
  | .wgConfigure _ _ | .wgConnect _ _ | .wgSetGroup _ _ | .wgGetStatus _ _ =>
    [.out, .keeper, .hps, .mbxs, .goOrder, .links, .hive, .wag]
  | .wgExport _ _ =>
    [.out, .keeper, .hps, .mbxs, .goOrder, .waiting, .links, .hive, .wag]
  | .remoteRespReceived _ _ =>
    [.out, .keeper, .hps, .mbxs, .goOrder, .waiting, .links, .hive, .pgs, .wag]
  | .wgImportReceived _ _ _ _ =>
    [.out, .clock, .keeper, .hps, .queues, .flight, .wag]
  | .wgFireWrite _ _ _ _ _ | .producerOccurrence _ _ _ | .channelDelayFire _ =>
    [.out, .pace, .clock, .keeper, .hps, .queues, .links, .hive, .vps, .encs, .emus, .pins, .wag]
  | .schedAdd _ _ | .compatSchedAdd _ _ =>
    [.out, .pace, .keeper, .hps, .mbxs, .goOrder, .queues, .links, .hive, .ctxs, .flight, .vps, .encs, .emus, .pins, .wag]
  | .actionExecute _ _ =>
    [.out, .pace, .clock, .keeper, .hps, .queues, .lanes, .links, .hive, .ctxs, .flight, .vps, .encs, .emus, .pins, .wag]
  | .hiveRemote _ _ | .remoteReqReceived _ _ _ =>
    [.out, .freeCtr, .pace, .sys, .clock, .keeper, .mon, .power, .trust, .banks, .window, .faults, .faultBits, .faultReports, .hps, .mbxs, .goOrder, .waiting, .queues, .lanes, .links, .plls, .eths, .hive, .ctxs, .combs, .parts, .stitches, .frags, .staging, .asms, .pgs, .pgCounts, .ctxSteer, .flight, .vps, .encs, .emus, .pins, .wag]
  | .registerWrite _ _ _ _ =>
    [.out, .pace, .keeper, .hps, .mbxs, .goOrder, .waiting, .queues, .links, .hive, .ctxs, .asms, .pgCounts, .pend, .flight, .vps, .encs, .emus, .pins, .wag]
  | .packetReceived _ _ _ | .hmsgForward _ _ | .keeperReady _ =>
    [.out, .freeCtr, .pace, .sys, .clock, .keeper, .mon, .power, .trust, .banks, .window, .faults, .faultBits, .faultReports, .hps, .mbxs, .goOrder, .waiting, .deviceId, .queues, .lanes, .links, .plls, .eths, .hive, .ctxs, .combs, .parts, .stitches, .frags, .staging, .asms, .pgs, .pgCounts, .ctxSteer, .pend, .flight, .vps, .encs, .emus, .pins, .wag]
  | .softDeviceReset _ _ _ _ =>
    [.out, .freeCtr, .pace, .sys, .clock, .keeper, .mon, .power, .trust, .banks, .window, .faults, .faultBits, .hps, .mbxs, .goOrder, .waiting, .queues, .lanes, .links, .plls, .eths, .hive, .ctxs, .combs, .parts, .stitches, .frags, .fragIds, .staging, .asms, .pgs, .pgCounts, .ctxSteer, .pend, .flight, .vps, .encs, .emus, .pins, .wag]
  | .sysRstNAssert _ | .fullResetByHive _ | .thermalTrip _ _ | .thermalTripClear _ =>
    [.out, .freeCtr, .pace, .sys, .clock, .keeper, .mon, .power, .trust, .banks, .window, .faults, .faultBits, .faultReports, .hps, .mbxs, .goOrder, .waiting, .deviceId, .queues, .lanes, .links, .plls, .eths, .hive, .ctxs, .combs, .parts, .stitches, .frags, .fragIds, .staging, .asms, .pgs, .pgCounts, .ctxSteer, .pend, .flight, .vps, .encs, .emus, .pins, .wag]

/-- `t` is `s` in every field but those of `l`. -/
def Unchanged (l : List Field) (s t : State) : Prop := t.mask (fieldSet l) = s.mask (fieldSet l)

/-! ### The mailbox protocol, as statements speak of it -/

/-- The request that mailbox `m` of function `f` holds. -/
def State.reqOf (s : State) (f m : Nat) : Req := (s.mbx f m).request f m
/-- A failing status. -/
def Answer.failed : Answer → Bool
  | .fail _ | .failWith _ _ => true
  | _ => false
/-- The keeper takes up the request of mailbox `m` of function `f`: it is READY, has begun nothing, the request is the oldest
accepted one and has `c`'s opcode, and its generation has not passed; every request accepted is a function's (R326, R330,
R333). -/
def Served (c : Cmd) (f m : Nat) (s : State) : Prop :=
  s.serves f m = true ∧ (s.mbx f m).opcode = c.op ∧ (s.mbx f m).gen = (s.mbx f m).genGo ∧ s.goOrder.all (· < 32) = true
/-- `Served`, CHECK_ONLY is clear, and no check of R334 fails. -/
def Accepted (c : Cmd) (f m : Nat) (s : State) : Prop :=
  Served c f m s ∧ (s.mbx f m).length ≤ 1968 ∧ (s.reqOf f m).checkOnly = false ∧ (c.answer (s.reqOf f m) s).failed = false
/-- Mailbox `m` of function `f` holds the answer to the request that it held in `s` (R327): DONE, and in the response area
STATUS, the request's generation and TAG, DETAIL, FIELD and the payload. -/
def Replied (s t : State) (f m status detail fld : Nat) (payload : List Byte) : Prop :=
  (t.mbx f m).state = .done ∧ (t.mbx f m).resp =
    overlay (s.mbx f m).resp (respBytes status (s.mbx f m).genGo detail (s.mbx f m).tag fld payload)
/-- The command is done: `t` follows `s` with OK and `payload` in the mailbox. -/
def Done (s t : State) (f m : Nat) (payload : List Byte) : Prop := Replied s t f m stOk 0 0 payload
/-- The fields that an answer to a function's mailbox may itself change (R13, R289, R327, R333). -/
def replyFields : List Field := [.out, .keeper, .hps, .mbxs, .goOrder]
/-- The command commits: it is answered OK with `payload`, and but for what the answer itself changes `t` is `x`, with the
Resource Directories rewritten where `x` has changed what they list (R279). -/
def Commits (s t : State) (f m : Nat) (payload : List Byte) (x : State) : Prop :=
  Done s t f m payload ∧ Unchanged replyFields x t
/-- A long operation commits its start (R354): IN_PROGRESS, and but for what the answer itself changes `t` is `x`. -/
def Starts (s t : State) (f m : Nat) (payload : List Byte) (x : State) : Prop :=
  Replied s t f m stInProgress 0 0 payload ∧ Unchanged replyFields x t

/-! ### The valve ports -/

/-- What holds of a valve port between steps: in OFF and SAFE no valve is open and the last frame carried none open
(R256, R258); a failed port is in OFF (R513); a port in OFF has no frame under way; and its settings keep the ranges that
VP_CONFIGURE checks (R352). -/
def ValvePort.Safe (p : ValvePort) : Prop :=
  (p.mode = .off ∨ p.mode = .safe → ∀ b, (p.valve b).open' = false ∧ (p.valve b).sent = false)
    ∧ (p.failed = true → p.mode = .off) ∧ (p.mode = .off → p.lastT = none ∧ p.unanswered = [])
    ∧ 20 ≤ p.period ∧ p.period ≤ 200 ∧ p.phase < 100 * p.period
/-- Every valve port is `Safe`. -/
def State.ValvesSafe (s : State) : Prop := ∀ v, (s.vp v).Safe

end Sys2Proof.Machine
end

