-- ==== Sys2Proof/Certificates/Slice0/Obligations.lean ====
section
/-! DEFINITION. The statements for the provers, family by family in the order of the command table. -/
set_option maxRecDepth 4000
open Sys2Proof Sys2Proof.Machine

/-- R33, R36, R37, R38, R40, R41, R63. -/
def Obligations.LaneTrainingEventsAct : Prop :=
  (∀ (q : Fin 24) (p : Pll) (t : Nat) (s : State), (s.pll q (match p with | .a => 0 | .b => 1)).powered = true → (s.pll q (match p with | .a => 0 | .b => 1)).locked = false →
      ∃ u, exec (.pllLock q p t) s = .next u ∧ (u.pll q (match p with | .a => 0 | .b => 1)).locked = true ∧
        ∀ l, (s.lane l).train ≠ .pll → u.lane l = s.lane l) ∧
  (∀ (l : LaneId) (x : TrainFrame) (t : Nat) (s : State), ((s.lane l).train = .cdr ∨ (s.lane l).train = .eq ∨ (s.lane l).train = .tend) → (s.lane l).mismatch = false → (x.marker = .missing ∨ chkOk x.control.toNat = false ∨ chkOk x.status.toNat = false) →
      ∃ u, exec (.trainingFrameReceived l x t) s = .next u ∧ u.lane l = { s.lane l with validRun := 0, readyRun := 0, roleRun := 0, counts := count (s.lane l).counts LaneCnt.trainChk.ctorIdx }) ∧
  (∀ (l : LaneId) (x : TrainFrame) (t : Nat) (s : State), (s.lane l).train = .cdr → (s.lane l).mismatch = false → x.marker ≠ .missing → chkOk x.control.toNat = true → chkOk x.status.toNat = true → rolesPair (roleOf (s.lane l).cfg.mode) (bits x.status.toNat 14 2) = true →
      ∃ u, exec (.trainingFrameReceived l x t) s = .next u ∧ (u.lane l).validRun = (s.lane l).validRun + 1 ∧ (u.lane l).rxInverted = (x.marker == .inverted) ∧
        (u.lane l).rx = readFields x.control.toNat x.status.toNat ∧
        (u.lane l).train = (if 8 ≤ (s.lane l).validRun + 1 then .eq else .cdr)) ∧
  (∀ (l : LaneId) (t : Nat) (s : State), (s.lane l).train = .eq → (s.lane l).rx.presetReq = false → (s.lane l).rx.preReq = 1 → (s.lane l).tx.preSts = 0 →
      ∃ u, exec (.coefficientUpdate l .pre t) s = .next u ∧ (u.lane l).preTap = (if (s.lane l).preTap < 16 then (s.lane l).preTap + 1 else (s.lane l).preTap) ∧
        (u.lane l).tx.preSts = (if (s.lane l).preTap < 16 then 1 else 2) ∧ (u.lane l).postTap = (s.lane l).postTap) ∧
  (∀ (l : LaneId) (t : Nat) (s : State), (s.lane l).train = .eq → (s.lane l).rx.presetReq = false → (s.lane l).rx.postReq = 2 → (s.lane l).tx.postSts = 0 →
      ∃ u, exec (.coefficientUpdate l .post t) s = .next u ∧ (u.lane l).postTap = (s.lane l).postTap - 1 ∧ (u.lane l).tx.postSts = (if 0 < (s.lane l).postTap then 1 else 2) ∧ (u.lane l).preTap = (s.lane l).preTap) ∧
  (∀ (l : LaneId) (t : Nat) (s : State), (s.lane l).train = .eq → (s.lane l).rx.presetReq = true → (s.lane l).tx.presetAck = false →
      ∃ u, exec (.coefficientUpdate l .preset t) s = .next u ∧ ((u.lane l).preTap, (u.lane l).postTap) = presetTaps (s.lane l).rx.presetVal ∧ (u.lane l).tx.presetAck = true) ∧
  (∀ (l : LaneId) (e t : Nat) (s : State), (s.lane l).train = .eq → (s.lane l).mismatch = false → 30 ≤ e →
      ∃ u, exec (.rxReady l e t) s = .next u ∧ (u.lane l).train = .tend ∧ (u.lane l).eye = e ∧ (u.lane l).tx.rxReady = true ∧ (u.lane l).tx.preReq = 0 ∧ (u.lane l).tx.postReq = 0) ∧
  (∀ (l : LaneId) (t : Nat) (s : State), (s.lane l).train = .tend → (s.lane l).mismatch = false → 8 ≤ (s.lane l).readyRun →
      ∃ u, exec (.trainEndDone l t) s = .next u ∧ (u.lane l).train = .data ∧ (u.lane l).dataAt = max s.now t ∧ (u.lane l).power = .active) ∧
  (∀ (l : LaneId) (s : State), ((s.lane l).train = .cdr ∨ (s.lane l).train = .eq ∨ (s.lane l).train = .tend) → (s.lane l).mismatch = false →
      ∃ u, exec (.trainingTimerExpiry l) s = .next u ∧ (u.lane l).train = .fail ∧ (u.lane l).failAt = u.now ∧ (s.lane l).timerAt + 45000000 ≤ u.now ∧
        (u.lane l).counts = count (s.lane l).counts LaneCnt.trainFail.ctorIdx) ∧
  (∀ (l : LaneId) (s : State), (s.lane l).train = .fail →
      ∃ u, exec (.trainFailRetry l) s = .next u ∧ (u.lane l).train = .cdr ∧ (u.lane l).timerAt = u.now ∧ (s.lane l).failAt + 10000000 ≤ u.now ∧
        ((u.lane l).preTap, (u.lane l).postTap) = presetTaps (s.lane l).cfg.preset) ∧
  (∀ (l : LaneId) (s : State), (s.lane l).train = .data → (s.lane l).cfg.mode.abaend = true → (s.link l).locked = false →
      ∃ u, exec (.lockTimeout l) s = .next u ∧ (u.lane l).train = .cdr ∧ (s.lane l).dataAt + 100000 ≤ u.now ∧ (u.lane l).counts = count (s.lane l).counts LaneCnt.retrain.ctorIdx)

/-- R40, R43, R44, R45, R47, R48, R49, R52, R53, R54. -/
def Obligations.LaneSignalEventsAct : Prop :=
  (∀ (l : LaneId) (e t : Nat) (s : State), (s.lane l).train = .data → (s.lane l).cfg.mode.abaend = true → (s.lane l).frozen = false → (s.lane l).drifting = false →
      ∃ u, exec (.idleFreeze l e t) s = .next u ∧ u.lane l = { s.lane l with frozen := true, hFreeze := e, eye := e }) ∧
  (∀ (l : LaneId) (t : Nat) (s : State), (s.lane l).frozen = true →
      ∃ u, exec (.adaptationResume l t) s = .next u ∧ u.lane l = { s.lane l with frozen := false }) ∧
  (∀ (l : LaneId) (e t : Nat) (s : State), (s.lane l).cfg.mode ≠ .off → (s.lane l).power = .active → (s.lane l).frozen = false →
      ∃ u, exec (.eyeWindow l e t) s = .next u ∧ (u.lane l).eye = e ∧ (u.lane l).lastLow = decide (e < (s.lane l).cfg.eyeFloor) ∧
        (u.lane l).counts = (if e < (s.lane l).cfg.eyeFloor then count (s.lane l).counts LaneCnt.eyeLow.ctorIdx else (s.lane l).counts)) ∧
  (∀ (l : LaneId) (e t : Nat) (s : State), (s.lane l).cfg.mode ≠ .off → (s.lane l).power = .active → (s.lane l).frozen = true → (s.lane l).cfg.eyeFloor ≤ e → 100 * e < 60 * (s.lane l).hFreeze →
      ∃ u, exec (.eyeWindow l e t) s = .next u ∧ (u.lane l).frozen = false ∧ (u.lane l).drifting = true ∧ (u.lane l).counts = count (s.lane l).counts LaneCnt.driftUnfreeze.ctorIdx) ∧
  (∀ (l : LaneId) (e t : Nat) (s : State), (s.lane l).drifting = true →
      ∃ u, exec (.driftAdaptEnd l e t) s = .next u ∧ u.lane l = { s.lane l with drifting := false, hFreeze := e, eye := e, frozen := (((s.link l).content).map idleContent).getD false }) ∧
  (∀ (l : LaneId) (t : Nat) (s : State), (s.lane l).los = false → (s.lane l).cfg.mode ≠ .off → (s.lane l).cfg.mode ≠ .loop → (s.lane l).power = .active →
      ∃ u, exec (.losAssert l t) s = .next u ∧ u.lane l = { s.lane l with los := true, losAt := max s.now t, counts := count (s.lane l).counts LaneCnt.los.ctorIdx }) ∧
  (∀ (l : LaneId) (t : Nat) (s : State), (s.lane l).los = true → (s.lane l).power ≠ .sleep →
      ∃ u, exec (.losDeassert l t) s = .next u ∧ u.lane l = { s.lane l with los := false }) ∧
  (∀ (l : LaneId) (t : Nat) (s : State), (s.lane l).los = true → (s.lane l).power = .sleep → (s.lane l).cfg.mode.abaend = true →
      ∃ u, exec (.losDeassert l t) s = .next u ∧ (u.lane l).los = false ∧ (u.lane l).train = .cdr ∧ (u.lane l).power = .active ∧ (u.lane l).fastAt = some u.now ∧
        ((u.lane l).preTap, (u.lane l).postTap) = (s.lane l).stored.getD (presetTaps (s.lane l).cfg.preset)) ∧
  (∀ (l : LaneId) (t : Nat) (s : State), (s.lane l).train = .data → (s.lane l).cfg.mode.abaend = true → (s.lane l).los = true → (s.lane l).losAt + 2000 < max s.now t →
      ∃ u, exec (.losRetrain l t) s = .next u ∧ (u.lane l).train = .cdr ∧ (u.lane l).counts = count (s.lane l).counts LaneCnt.retrain.ctorIdx) ∧
  (∀ (l : LaneId) (t : Nat) (s : State), (s.lane l).lol = false → (s.lane l).cfg.mode.abaend = true → (s.lane l).power = .active → (s.lane l).train = .data → (s.lane l).los = false →
      ∃ u, exec (.lolAssert l t) s = .next u ∧ (u.lane l).lol = true ∧ (u.lane l).train = .cdr ∧
        (u.lane l).counts = count (count (s.lane l).counts LaneCnt.lol.ctorIdx) LaneCnt.retrain.ctorIdx) ∧
  (∀ (l : LaneId) (t : Nat) (s : State), (s.lane l).power = .doze → (s.lane l).resuming = false →
      exec (.dozeSelfWake l t) s = .next (countLane l .dozeLoss ((s.bondOf l).foldl (fun s i => modLane i (fun v => { v with resuming := true }) s) (advTo t s)))) ∧
  (∀ (l : LaneId) (t : Nat) (s : State), (s.lane l).power = .doze → (s.lane l).resuming = true →
      exec (.dozeResumeDone l t) s = .next ((s.bondOf l).foldl (fun s i => modLane i (fun v => { v with power := .active, resuming := false }) s) (advTo t s))) ∧
  (∀ (l : LaneId) (a : Nat) (s : State), (s.lane l).fastAt = some a → (s.lane l).train ≠ .data →
      ∃ u, exec (.fastResumeTimeout l) s = .next u ∧ (u.lane l).fastAt = none ∧ ((u.lane l).preTap, (u.lane l).postTap) = presetTaps (s.lane l).cfg.preset ∧ a + 300000 ≤ u.now ∧
        (u.lane l).counts = count (s.lane l).counts LaneCnt.fastResumeFail.ctorIdx)

/-- R23, R25, R29, R50, R52, R340, R341, R343. -/
def Obligations.LaneCommandsComplete : Prop :=
  (∀ (f : Fn) (m : Mbx) (s : State), Accepted cmdLaneConfigure f m s →
      let r := s.reqOf f m
      ∃ u, exec (.laneConfigure f m) s = .next u ∧ Commits s u f m [] (laneCommit r s)) ∧
  (∀ (f : Fn) (m : Mbx) (s : State), Accepted cmdLaneGetStatus f m s →
      let r := s.reqOf f m
      ∃ u, exec (.laneGetStatus f m) s = .next u ∧ Commits s u f m (laneStatus s (r.u32 0)) (if r.clear then laneClear (r.u32 0) s else s)) ∧
  (∀ (f : Fn) (m : Mbx) (s : State), Accepted cmdLaneSetPower f m s → s.sys.devState = .run →
      let r := s.reqOf f m
      powerCode (s.lane (r.u32 0)).power ≠ r.u32 4 →
      ¬ ((r.u32 4 = 1 ∨ r.u32 4 = 2) ∧ (s.lane (r.u32 0)).cfg.mode.abaend = true ∧ (s.lane (r.u32 0)).train = .data) →
      ∃ u, exec (.laneSetPower f m) s = .next u ∧ Commits s u f m [] (setPower (r.u32 4) (r.u32 0) s)) ∧
  (∀ (f : Fn) (m : Mbx) (s : State), Accepted cmdLaneSetPower f m s → s.sys.devState = .run →
      let r := s.reqOf f m
      powerCode (s.lane (r.u32 0)).power ≠ r.u32 4 → (r.u32 4 = 1 ∨ r.u32 4 = 2) → (s.lane (r.u32 0)).cfg.mode.abaend = true →
      (s.lane (r.u32 0)).train = .data →
      ∃ u, exec (.laneSetPower f m) s = .next u ∧
        u.waiting = some { fn := f, mbx := m, since := s.now, what := .power (r.u32 0) (r.u32 4) } ∧
        u.lanes = (askPower (r.u32 4 == 2) (r.u32 0) s).lanes ∧ u.links = (askPower (r.u32 4 == 2) (r.u32 0) s).links ∧
        u.out = (askPower (r.u32 4 == 2) (r.u32 0) s).out ∧ u.mbxs = s.mbxs) ∧
  (∀ (f : Fn) (m : Mbx) (a b e : Nat) (s : State), Accepted (cmdLaneEyeScan a b e) f m s →
      ∃ u, exec (.laneEyeScan f m a b e) s = .next u ∧ Commits s u f m (b32 a ++ b32 b ++ b32 e) s)

/-- R60, R61, R63, R64, R65, R70, R71, R72, R73. -/
def Obligations.FrameAndCreditEventsAct : Prop :=
  (∀ (l : LaneId) (x : List (Fin 4)) (t : Nat) (s : State), s.inData l = true → (s.link l).locked = false → x.length = frameSymbols (s.lane l).cfg.rate → (s.link l).periods + 1 < 4 →
      ∃ u, exec (.huntPeriod l x t) s = .next u ∧ (u.link l).periods = min 4 ((s.link l).periods + 1) ∧ (u.link l).locked = false ∧
        (u.link l).mis = (huntMismatches (pam4 (s.lane l).cfg.rate) (s.lane l).rxInverted (pam4 (s.lane l).cfg.rate && (s.lane l).rx.precodeOn)
          (s.link l).lastSym x :: (s.link l).mis).take 4) ∧
  (∀ (l : LaneId) (x : List (Fin 4)) (t : Nat) (b c : Nat) (s : State), s.inData l = true → (s.link l).locked = false → x.length = frameSymbols (s.lane l).cfg.rate → 4 ≤ (s.link l).periods + 1 → leastAt (huntSums ((huntMismatches (pam4 (s.lane l).cfg.rate) (s.lane l).rxInverted (pam4 (s.lane l).cfg.rate && (s.lane l).rx.precodeOn)
          (s.link l).lastSym x :: (s.link l).mis).take 4)) 0 = some (b, c) → b ≤ 6 → s.bonded l = true →
      ∃ u, exec (.huntPeriod l x t) s = .next u ∧ (u.link l).locked = true ∧ (u.link l).offset = c) ∧
  (∀ (l : LaneId) (x : List (Fin 4)) (t n c : Nat) (v : List (Nat × Nat)) (s : State), s.inData l = true → (s.link l).locked = true → x.length = frameSymbols (s.lane l).cfg.rate → decodeFrame (rxBits (pam4 (s.lane l).cfg.rate) (s.lane l).rxInverted (pam4 (s.lane l).cfg.rate && (s.lane l).rx.precodeOn) (s.link l).lastSym x) = (n, some (v, c)) → n ≤ 24 → (s.lane l).power = .active → (∀ e ∈ v, e.1 = 1 ∨ e.1 = 2) →
      ∃ u, exec (.fecFrameReceived l x t) s = .next u ∧ (u.link l).locked = true ∧ (u.link l).content = some v ∧ (u.link l).hdrRun = 0 ∧ (u.link l).uncorrRun = 0 ∧
        cnt (u.link l).counts 0 = cnt (countN 48 (s.link l).counts 0 c) 0) ∧
  (∀ (l : LaneId) (v : Fin 16) (g : BitVec 32) (s : State), s.inData l = true →
      ∃ u, exec (.creditBlockReceived l v g) s = .next u ∧ (u.link (s.head l)).txGrant = (s.link (s.head l)).txGrant.put v g.toNat) ∧
  (∀ (l : LaneId) (s : State), s.linkUp (s.head l) = true → s.inData (s.head l) = true →
      exec (.creditRepeat l) s = .next ((s.link (s.head l)).rxGrant.foldl (fun x e => if e.2 = 0 then x else sendCredit (s.head l) e.1 x) s)) ∧
  (∀ (l : LaneId) (i : Nat) (p : TxPacket) (s : State), s.linkUp (s.head l) = true → s.inData (s.head l) = true → (s.link (s.head l)).choose = some i → (s.link (s.head l)).txq[i]? = some p → s.asleep (s.head l) = false → p.brood = none → credited p.ptype = true →
      ∃ u, exec (.packetTransmit l) s = .next u ∧ (u.link (s.head l)).txq = (s.link (s.head l)).txq.eraseIdx i ∧ u.out = s.out ++ [.packet (s.head l) (p.bytes ++ b32 (crc32c p.bytes))] ∧
        (u.link (s.head l)).txUsed.getD p.vc 0 = ((s.link (s.head l)).txUsed.getD p.vc 0 + creditCost (p.bytes.length - 16)) % 2 ^ 32) ∧
  (∀ (l : LaneId) (i : Nat) (p : TxPacket) (s : State), s.linkUp (s.head l) = true → s.inData (s.head l) = true → (s.link (s.head l)).choose = some i → (s.link (s.head l)).txq[i]? = some p → s.asleep (s.head l) = true → (s.lane (s.head l)).resuming = false →
      exec (.packetTransmit l) s = .next (wakeDozing (s.head l) s)) ∧
  (∀ (l : LaneId) (p : BitVec 64) (t : Nat) (s : State), s.inData l = true → (s.link l).locked = true →
      exec (.controlBlockReceived l p t) s = .next (controlBlock l (leBytes 8 p.toNat) (256 * t) (advTo t s))) ∧
  (∀ (l : LaneId) (p : RxPacket) (t : Nat) (s : State), s.inData (s.head l) = true → s.linkUp (s.head l) = true → s.asleep (s.head l) = false → p.flaw ≠ .outsideData →
      exec (.packetReceived l p t) s = .next (packetIn (s.head l) p (advTo t s))) ∧
  (∀ (l : LaneId) (p : RxPacket) (t : Nat) (s : State), s.inData (s.head l) = true → s.linkUp (s.head l) = true → s.asleep (s.head l) = false → p.flaw = .outsideData →
      ∃ u, exec (.packetReceived l p t) s = .next u ∧ (u.link (s.head l)).counts = count (s.link (s.head l)).counts LinkCnt.framingErr.ctorIdx)

/-- R68, R75, R76, R77, R78, R79, R122, R124, R126. -/
def Obligations.LinkPacketEventsAct : Prop :=
  (∀ (l : LaneId) (g : LineSeg) (t : Nat) (s : State), (s.lane (s.head l)).cfg.mode = .camRx → s.inData (s.head l) = true → s.linkUp (s.head l) = true → s.asleep (s.head l) = false → s.boundTo (s.head l) none g.sensor g.band = none → g.first = true →
      ∃ u, exec (.lineSegmentReceived l g t) s = .next u ∧ (u.link (s.head l)).counts = count (s.link (s.head l)).counts LinkCnt.unboundLine.ctorIdx ∧ u.ctxs = s.ctxs) ∧
  (∀ (l : LaneId) (g : LineSeg) (t c k : Nat) (x : Ctx) (o : OpenLine) (s : State), (s.lane (s.head l)).cfg.mode = .camRx → s.inData (s.head l) = true → s.linkUp (s.head l) = true → s.asleep (s.head l) = false → s.boundTo (s.head l) none g.sensor g.band = some (c, k) → s.ctx c = some x → g.first = false → (s.link (s.head l)).lines.find (g.sensor.val * 4 + g.band.val) = some o → o.lineNo = g.lineNo → o.dead = false → g.x = o.nextX →
      exec (.lineSegmentReceived l g t) s = .next (segTake (s.head l) c k (g.sensor.val * 4 + g.band.val) x g o (advTo t s))) ∧
  (∀ (l : LaneId) (n : Fin 8) (k : FmarkKind) (a b t h : Nat) (s : State), h = s.head l → (s.lane h).cfg.mode = .camRx → s.inData h = true → s.linkUp h = true → s.asleep h = false →
      exec (.fmarkReceived l n k a b t) s = .next (s.ctxs.foldl (fun s (e : Nat × Ctx) =>
        if e.2.lane ≠ h ∨ e.2.channel.isSome ∨ e.2.kind = .passthru then s
        else match k with
          | .frameStart => if (e.2.src.head?.map (·.1)) == some n.val && e.2.framed then openFrame e.1 a none none s else s
          | .frameEnd => if (e.2.src.head?.map (·.1)) == some n.val && e.2.framed then closeFrame e.1 (some b) false s else s
          | .linesSkipped => if (e.2.src.take e.2.bands).any fun p => p.1 == n.val then skipLines e.1 a b s else s) (advTo t s))) ∧
  (∀ (l : LaneId) (g a n t : Nat) (d : List Byte) (s : State), (s.lane (s.head l)).cfg.mode = .camTx → s.inData (s.head l) = true →
      ∃ u, exec (.cctlRequestReceived l true g a n d t) s = .next u ∧ (u.link (s.head l)).txq = (s.link (s.head l)).txq ++ [{ ptype := ptCctl, vc := 1, bytes := pktHead ptCctl 1 0 0 ++ b32 a ++ b8 0x82 ++ b8 g ++ b8 (if d.length < 4 ∨ 512 < d.length ∨ d.length % 4 ≠ 0 then 4 else if a % 4 ≠ 0 then 1 else if a < 0x200 then 2 else 1) ++ b8 0 ++ b16 0 ++ b16 0 ++ [] }]) ∧
  (∀ (l : LaneId) (w : Bool) (g st t : Nat) (d : List Byte) (s : State), (s.lane (s.head l)).cfg.mode = .camRx → s.inData (s.head l) = true → (s.link (s.head l)).cctl.find g = none →
      ∃ u, exec (.cctlAckReceived l w g st d t) s = .next u ∧ (u.link (s.head l)).counts = count (s.link (s.head l)).counts LinkCnt.typeErr.ctorIdx) ∧
  (∀ (l : LaneId) (w : Bool) (g st t : Nat) (d : List Byte) (q : CctlReq) (s : State), (s.lane (s.head l)).cfg.mode = .camRx → s.inData (s.head l) = true → (s.link (s.head l)).cctl.find g = some q → q.write = w → st ≠ 0 →
      ∃ u, exec (.cctlAckReceived l w g st d t) s = .next u ∧ (u.link (s.head l)).cctl = (s.link (s.head l)).cctl.erase g) ∧
  (∀ (l : LaneId) (g : Nat) (q : CctlReq) (s : State), (s.link (s.head l)).cctl.find g = some q →
      ∃ u, exec (.cctlTimeout l g) s = .next u ∧ (u.link (s.head l)).cctl = (s.link (s.head l)).cctl.erase g ∧ q.since + 1000000 ≤ u.now ∧
        (u.link (s.head l)).counts = count (s.link (s.head l)).counts LinkCnt.cctlTimeout.ctorIdx) ∧
  (∀ (l : LaneId) (r : Bool) (k g q n t : Nat) (s : State), s.inData (s.head l) = true → (s.lane (s.head l)).cfg.mode = .camRx → k % 8 = 2 → (s.link (s.head l)).evLast.find (g % 16) ≠ some (q % 4096) →
      ∃ u, exec (.eventBlockReceived l r k g q n t) s = .next u ∧ (u.link (s.head l)).evLast = (s.link (s.head l)).evLast.put (g % 16) (q % 4096)) ∧
  (∀ (l : LaneId) (r : Bool) (k g q n t : Nat) (s : State), s.inData (s.head l) = true → (s.lane (s.head l)).cfg.mode = .camRx → k % 8 ≠ 2 →
      ∃ u, exec (.eventBlockReceived l r k g q n t) s = .next u ∧ (u.link (s.head l)).counts = count (s.link (s.head l)).counts LinkCnt.ctrlUnk.ctorIdx ∧ (u.link (s.head l)).evLast = (s.link (s.head l)).evLast) ∧
  (∀ (l : LaneId) (q : Nat) (p : List Byte) (s : State), s.inData (s.head l) = true → (s.lane (s.head l)).cfg.mode ≠ .camTx → p ≠ prbsPayload p.length →
      ∃ u, exec (.testPacketReceived l q p) s = .next u ∧ (u.link (s.head l)).counts = count (s.link (s.head l)).counts LinkCnt.testErr.ctorIdx) ∧
  (∀ (l : LaneId) (t : Nat) (s : State), (s.lane (s.head l)).cfg.mode = .camTx → ((s.lane (s.head l)).cfg.txSource = 1 ∨ (s.lane (s.head l)).cfg.txSource = 2) → s.inData (s.head l) = true → s.linkUp (s.head l) = true → s.asleep (s.head l) = false →
      ∃ u, exec (.generatedLine l t) s = .next u ∧ (u.link (s.head l)).genLine = ((s.link (s.head l)).genLine + 1) % 2 ^ 32) ∧
  (∀ (l : LaneId) (t : Nat) (s : State), s.head l = l → s.wantsDescriptor l = true →
      exec (.descriptorRead l t) s = .next (askDescriptor l (advTo t s))) ∧
  (∀ (l : LaneId) (s : State), s.head l = l → s.wantsDescriptor l = true →
      exec (.descriptorReadRetry l) s = .next (askDescriptor l (advTo ((s.link l).descAt + 10000000) s)))

/-- R52, R81, R83, R84, R85, R87, R88, R89. -/
def Obligations.BondPowerAndTimeEventsAct : Prop :=
  (∀ (l : LaneId) (t : Nat) (s : State), s.head l = l → s.bonded l = true → ((s.bondLanes l).any (s.inData ·)) = true →
      exec (.alignMarkSend l t) s = .next (modLink l (fun k => { k with bondFrames := (k.bondFrames + 4096) % 2 ^ 32 }) (sendAlignAll l 0 (s.link l).txMask (advTo t s)))) ∧
  (∀ (l : LaneId) (c : BitVec 32) (k t : Nat) (s : State), s.bonded l = true → s.carries l = true → 32 < k →
      ∃ u, exec (.alignMarkReceived l c k t) s = .next u ∧ (u.link (s.head l)).deskewed = clearBit (s.link (s.head l)).deskewed (l - s.head l) ∧
        (u.link (s.head l)).counts = count (s.link (s.head l)).counts LinkCnt.bondSkew.ctorIdx) ∧
  (∀ (l : LaneId) (c : BitVec 32) (k t : Nat) (s : State), s.bonded l = true → s.carries l = true → k ≤ 32 → s.linkUp (s.head l) = true →
      ∃ u, exec (.alignMarkReceived l c k t) s = .next u ∧ (u.link (s.head l)).deskewed = setBit (s.link (s.head l)).deskewed (l - s.head l)) ∧
  (∀ (l : LaneId) (t : Nat) (k : Nat) (s : State), s.bonded l = true → s.carries l = false → (bit (s.link (s.head l)).rxMask (l - s.head l) || bit (s.link (s.head l)).txMask (l - s.head l)) = true → (s.link (s.head l)).rxGrant.isEmpty = false → k = clearBit ((s.link (s.head l)).txMask &&& (s.link (s.head l)).rxMask) (l - s.head l) → k ≠ 0 →
      exec (.linkDegrade l t) s = .next (degradeTo (s.head l) k (sendAlignAll (s.head l) 1 k (modLink (s.head l) (fun v => { v with txMask := k, sendingDegrade := true }) (advTo t s))))) ∧
  (∀ (l : LaneId) (m : BitVec 4) (t : Nat) (s : State), s.bonded l = true → s.inData l = true → (s.link (s.head l)).txMask &&& m.toNat ≠ 0 → (s.link (s.head l)).txMask &&& m.toNat ≠ (s.link (s.head l)).txMask →
      exec (.alignDegradeReceived l m t) s = .next (degradeTo (s.head l) ((s.link (s.head l)).txMask &&& m.toNat) (advTo t s))) ∧
  (∀ (l : LaneId) (m : BitVec 4) (t : Nat) (s : State), s.bonded l = true → s.inData l = true → m.toNat % 2 ^ (s.lane (s.head l)).cfg.bond ≠ 0 →
      ∃ u, exec (.alignRestripeReceived l m t) s = .next u ∧ (u.link (s.head l)).rxMask = m.toNat % 2 ^ (s.lane (s.head l)).cfg.bond ∧ (u.link (s.head l)).sendingDegrade = false) ∧
  (∀ (l : LaneId) (t : Nat) (s : State), s.bonded l = true → s.carries l = true → bit (s.link (s.head l)).deskewed (l - s.head l) = true → bit (s.link (s.head l)).rxMask (l - s.head l) = false → (s.link l).alignAt + 1000000 ≤ (advTo t s).now →
      exec (.bondLaneRestore l t) s = .next (faultOk clsBonded l (some ((advTo t s).now - 1000000)) (sendAlignAll (s.head l) 3 (setBit (s.link (s.head l)).rxMask (l - s.head l)) (advTo t s)))) ∧
  (∀ (l : LaneId) (m : BitVec 4) (t : Nat) (s : State), s.bonded l = true → s.inData l = true → m.toNat % 2 ^ (s.lane (s.head l)).cfg.bond ≠ 0 →
      exec (.alignRestoreReceived l m t) s = .next (modLink (s.head l) (fun k => { k with txMask := m.toNat % 2 ^ (s.lane (s.head l)).cfg.bond }) (sendAlignAll (s.head l) 2 (m.toNat % 2 ^ (s.lane (s.head l)).cfg.bond) (advTo t s)))) ∧
  (∀ (l : LaneId) (q t : Nat) (s : State), s.inData (s.head l) = true → (s.link (s.head l)).lmsgDone = none → (s.lane (s.head l)).cfg.powerLock = true →
      exec (.lmsgReceived l 1 q t) s = .next (sendLmsg (s.head l) 4 q (modLink (s.head l) (fun k => { k with lmsgDone := some (q, 4) }) (advTo t s)))) ∧
  (∀ (l : LaneId) (q t : Nat) (s : State), s.inData (s.head l) = true → (s.link (s.head l)).lmsgDone = none → (s.lane (s.head l)).cfg.powerLock = false → (s.link (s.head l)).creditWaits = false → (s.link (s.head l)).sendingDegrade = false →
      exec (.lmsgReceived l 1 q t) s = .next (enterPower .doze (s.head l) (sendLmsg (s.head l) 3 q (modLink (s.head l) (fun k => { k with lmsgDone := some (q, 3) }) (advTo t s))))) ∧
  (∀ (l : LaneId) (a : PowerAsk) (s : State), (s.lane (s.head l)).ask = some a →
      exec (.powerExchangeTimeout l) s = .next (endExchange (s.head l) (failSt stTimeout) (advTo (a.since + 20000) s))) ∧
  (∀ (l : LaneId) (t : Nat) (s : State), s.inData l = true → (s.lane l).cfg.mode ≠ .loop → s.asleep (s.head l) = false →
      ∃ u, exec (.timeSyncSend l t) s = .next u ∧ (u.link l).time.exch = ((s.link l).time.exch + 1) % 64 ∧ (u.link l).time.depart = some (u.clock.t16 / 256) ∧ (u.link l).time.arrivedFar = none) ∧
  (∀ (l : LaneId) (x p t : Nat) (v z : Bool) (s : State), s.inData l = true → (s.link l).locked = true →
      ∃ u, exec (.timeBlockReceived l 0 x v z p t) s = .next u ∧ (u.link l).time = { (s.link l).time with farExch := x % 64, arrived := some t, departFar := none, farValid := v, farSource := z }) ∧
  (∀ (l : LaneId) (d : Nat) (s : State), s.inData l = true → (s.link l).time.depart = some d → (s.link l).time.arrived = none →
      ∃ u, exec (.timeExchangeMissed l) s = .next u ∧ (u.link l).time.depart = none ∧ (u.link l).time.misses = (s.link l).time.misses + 1 ∧
        (u.link l).counts = count (s.link l).counts LinkCnt.timeMiss.ctorIdx)

/-- R42, R92, R93, R94, R96, R110, R111. -/
def Obligations.EthernetPortEventsAct : Prop :=
  (∀ (l : LaneId) (x : List Byte) (c : Bool) (t : Nat) (s : State), s.ethUp l = true →
      ∃ u, exec (.ethFrameReceived l x c false t) s = .next u ∧ (u.link l).counts = count (s.link l).counts LinkCnt.uncorr.ctorIdx ∧ (u.eth l).counts = (s.eth l).counts) ∧
  (∀ (l : LaneId) (x : List Byte) (c : Bool) (t : Nat) (s : State), s.ethUp l = true → (x.length < 64 ∨ 16128 < x.length ∨ c = false) →
      ∃ u, exec (.ethFrameReceived l x c true t) s = .next u ∧ (u.eth l).counts = count (s.eth l).counts EthCnt.rxErr.ctorIdx) ∧
  (∀ (l : LaneId) (x : List Byte) (t : Nat) (s : State), s.ethUp l = true → 64 ≤ x.length → x.length ≤ 16128 → (s.eth l).cfg.takesMac (beAt (x.take (x.length - 4)) 0 6) = true → beAt (x.take (x.length - 4)) 12 2 = 0x88A8 →
      ∃ u, exec (.ethFrameReceived l x true true t) s = .next u ∧ (u.eth l).counts = count (s.eth l).counts EthCnt.drop.ctorIdx) ∧
  (∀ (l : LaneId) (x : List Byte) (t : Nat) (s : State), s.ethUp l = true → 64 ≤ x.length → x.length ≤ 16128 → (s.eth l).cfg.takesMac (beAt (x.take (x.length - 4)) 0 6) = true → beAt (x.take (x.length - 4)) 12 2 ≠ 0x8808 → beAt (x.take (x.length - 4)) 12 2 ≠ 0x88A8 → beAt (x.take (x.length - 4)) 12 2 ≠ 0x8100 →
      exec (.ethFrameReceived l x true true t) s = .next (takeEthFrame l (x.take (x.length - 4)) (advTo t s))) ∧
  (∀ (l : LaneId) (t : Nat) (s : State), (s.lane l).cfg.mode = .ethCam → (s.lane l).power = .active → (s.lane l).train ≠ .pll → (s.eth l).linkUp = false →
      ∃ u, exec (.ethLinkUp l t) s = .next u ∧ (u.eth l).linkUp = true ∧ (u.lane l).dataAt = max s.now t) ∧
  (∀ (l : LaneId) (t a i : Nat) (r : List KeeperFrame) (s : State), s.ethUp l = true → s.sys.ready = true → (s.eth l).answers = .arp a i :: r →
      ∃ u, exec (.arpIcmpAnswer l t) s = .next u ∧ (u.eth l).answers = r ∧ u.out = s.out ++ [.ethFrame l ((arpReply (s.eth l).cfg a i ++ zeros 18) ++ b32 (fcs32 (arpReply (s.eth l).cfg a i ++ zeros 18)))]) ∧
  (∀ (l : LaneId) (t : Nat) (x : List Byte) (r : List KeeperFrame) (s : State), s.ethUp l = true → s.sys.ready = true → (s.eth l).answers = .echo x :: r → 100 ≤ (lastSecond (advTo t s).now (s.eth l).echoAt).length →
      ∃ u, exec (.arpIcmpAnswer l t) s = .next u ∧ (u.eth l).answers = r ∧ u.out = s.out ∧ (u.eth l).counts = count (s.eth l).counts EthCnt.drop.ctorIdx) ∧
  (∀ (l : LaneId) (t : Nat) (s : State), s.ethUp l = true → (s.eth l).cfg.slave = false →
      ∃ u, exec (.ptpMessageSend l .sync t) s = .next u ∧ (u.eth l).syncSeq = ((s.eth l).syncSeq + 1) % 65536 ∧
        u.out = s.out ++ [.ptp l 0 (s.eth l).syncSeq 0 [(s.eth l).cfg.domain], .ptp l 8 (s.eth l).syncSeq u.now [(s.eth l).cfg.domain]]) ∧
  (∀ (l : LaneId) (t : Nat) (s : State), s.ethUp l = true → (s.eth l).cfg.slave = false →
      ∃ u, exec (.ptpMessageSend l .announce t) s = .next u ∧ (u.eth l).announceSeq = ((s.eth l).announceSeq + 1) % 65536 ∧ u.out = s.out ++
        [.ptp l 11 (s.eth l).announceSeq 0 [(s.eth l).cfg.domain, (s.eth l).cfg.priority1, (advTo t s).clockClass, (s.eth l).cfg.priority2]]) ∧
  (∀ (l : LaneId) (t i : Nat) (s : State), s.ethUp l = true → (s.eth l).cfg.slave = true → (s.eth l).selected = some i →
      ∃ u, exec (.ptpMessageSend l .delayReq t) s = .next u ∧ (u.eth l).delaySeq = ((s.eth l).delaySeq + 1) % 65536 ∧ (u.eth l).delaySent = some u.now ∧ u.out = s.out ++ [.ptp l 1 (s.eth l).delaySeq 0 [(s.eth l).cfg.domain]]) ∧
  (∀ (l : LaneId) (t i q : Nat) (s : State), s.ethUp l = true → (s.eth l).cfg.slave = false → (lastSecond (advTo t s).now (s.eth l).delayAt).length < 64 →
      ∃ u, exec (.ptpMessageReceived l (.delayReq i q) t) s = .next u ∧ u.out = s.out ++ [.ptp l 9 q u.now [(s.eth l).cfg.domain, i]]) ∧
  (∀ (l : LaneId) (t i q : Nat) (s : State), s.ethUp l = true → (s.eth l).cfg.slave = false → 64 ≤ (lastSecond (advTo t s).now (s.eth l).delayAt).length →
      ∃ u, exec (.ptpMessageReceived l (.delayReq i q) t) s = .next u ∧ u.out = s.out ∧ (u.eth l).counts = count (s.eth l).counts EthCnt.ptpDrop.ctorIdx) ∧
  (∀ (l : LaneId) (t i r a : Nat) (p : Nat × Nat) (s : State), s.ethUp l = true → (s.eth l).cfg.slave = true → (s.eth l).delaySent = some a → (s.eth l).lastPair = some p → (s.eth l).selected = some i →
      ∃ u, exec (.ptpMessageReceived l (.delayResp i r) t) s = .next u ∧ (u.eth l).delaySent = none ∧ (u.eth l).pathDelay = some (((p.2 : Int) - p.1 + ((r : Int) - a)) / 2))

/-- R100, R104, R105, R107. -/
def Obligations.StreamPacketsAct : Prop :=
  (∀ (l : LaneId) (c : Fin 8) (p : GvspPacket) (t : Nat) (s : State), s.ethUp l = true → ((s.eth l).cfg.channels.getD c {}).udpPort ≠ 0 → s.channelCtx l c = none →
      ∃ u, exec (.gvspPacketReceived l c p t) s = .next u ∧ (u.stream l c).counts = count (s.stream l c).counts StreamCnt.drop.ctorIdx) ∧
  (∀ (l : LaneId) (c : Fin 8) (p : GvspPacket) (t i x k r : Nat) (q : List GvspPart) (s : State), s.ethUp l = true → ((s.eth l).cfg.channels.getD c {}).udpPort ≠ 0 → s.channelCtx l c = some x → (s.stream l c).lastId = some i → p.blockId ≤ i →
      ∃ u, exec (.gvspPacketReceived l c { p with body := .leader k r q } t) s = .next u ∧ (u.stream l c).counts = count (s.stream l c).counts StreamCnt.order.ctorIdx) ∧
  (∀ (l : LaneId) (c : Fin 8) (p : GvspPacket) (t x k : Nat) (b : GvspBlock) (y : State) (s : State), s.ethUp l = true → ((s.eth l).cfg.channels.getD c {}).udpPort ≠ 0 → s.channelCtx l c = some x → (s.stream l c).block = some b → b.id = p.blockId → p.extended = true → inOrder l c b p.packetId (advTo t s) = some y →
      exec (.gvspPacketReceived l c { p with body := .trailer k } t) s = .next (closeBlock l c y)) ∧
  (∀ (l : LaneId) (c : Fin 8) (p : GvspPacket) (t x n o : Nat) (d : List Byte) (b : GvspBlock) (y : State) (s : State), s.ethUp l = true → ((s.eth l).cfg.channels.getD c {}).udpPort ≠ 0 → s.channelCtx l c = some x → (s.stream l c).block = some b → b.id = p.blockId → p.extended = true → inOrder l c b p.packetId (advTo t s) = some y →
      exec (.gvspPacketReceived l c { p with body := .payload n o d } t) s = .next (payload l c n o d y)) ∧
  (∀ (l : LaneId) (c : Fin 8) (b : GvspBlock) (s : State), (s.stream l c).block = some b →
      exec (.gvspBlockTimeout l c) s = .next (closeBlock l c (advTo (b.seen + 10000000) s)))

/-- R114, R117, R118, R119, R120, R121, R344, R345. -/
def Obligations.ContextCommandsComplete : Prop :=
  (∀ (f : Fn) (m : Mbx) (s : State) (c : Nat), Accepted cmdCtxCreate f m s →
      let r := s.reqOf f m
      r.u32 4 ≠ 3 →
      r.u32 0x0C = wordNone →
      (if r.u32 0 = wordNone then s.freeCtx else some (r.u32 0)) = some c →
      ∃ u, exec (.ctxCreate f m) s = .next u ∧ Commits s u f m (b32 c) ({ s with ctxs := s.ctxs.put c (newCtx f (ctxKind (r.u32 4)) (r.u32 8) none (r.u32 0x10)
          ((List.range (r.u32 0x10)).map (srcEntry r)) (geoOf r 0x24)) })) ∧
  (∀ (f : Fn) (m : Mbx) (s : State) (c : Nat), Accepted cmdCtxCreate f m s →
      let r := s.reqOf f m
      r.u32 4 = 3 →
      r.u32 0x0C = wordNone →
      (if r.u32 0 = wordNone then s.freeCtx else some (r.u32 0)) = some c →
      ∃ u, exec (.ctxCreate f m) s = .next u ∧ Commits s u f m (b32 c) ({ s with ctxs := s.ctxs.put c (newCtx f .passthru (r.u32 8) none 1 [] { width := 16, format := 0, height := 0, rate := 1 }) })) ∧
  (∀ (f : Fn) (m : Mbx) (s : State) (c : Nat), Accepted cmdCtxCreate f m s →
      let r := s.reqOf f m
      r.u32 4 ≠ 3 →
      r.u32 0x0C ≠ wordNone →
      (if r.u32 0 = wordNone then s.freeCtx else some (r.u32 0)) = some c →
      ∃ u, exec (.ctxCreate f m) s = .next u ∧ Commits s u f m (b32 c) ({ modEth (r.u32 8) (fun e => { e with streams := e.streams.put (r.u32 0x0C) { counts := (e.streams.getD (r.u32 0x0C) {}).counts } }) s with ctxs := s.ctxs.put c (newCtx f (ctxKind (r.u32 4)) (r.u32 8) (some (r.u32 0x0C)) (r.u32 0x10)
          ((List.range (r.u32 0x10)).map (srcEntry r)) (geoOf r 0x24)) })) ∧
  (∀ (f : Fn) (m : Mbx) (s : State) (x : Ctx), Accepted cmdCtxSet f m s →
      let r := s.reqOf f m
      s.ctx (r.u32 0) = some x →
      x.kind = .passthru →
      ∃ u, exec (.ctxSet f m) s = .next u ∧ Commits s u f m [] (s)) ∧
  (∀ (f : Fn) (m : Mbx) (s : State) (x y : Ctx), Accepted cmdCtxSet f m s →
      let r := s.reqOf f m
      s.ctx (r.u32 0) = some x →
      x.kind ≠ .passthru →
      y = (if (geoOf r 4).width = x.geo.width then { x with geo := geoOf r 4 } else { x with geo := geoOf r 4, seg := { x.seg with segX0 := 0, segX1 := (geoOf r 4).width - 1 }, flat := none, defects := [], bgTable := none, flatCopy := none, defectsCopy := none, bgCopy := none }) →
      ∃ u, exec (.ctxSet f m) s = .next u ∧ Commits s u f m [] ({ s with ctxs := s.ctxs.put (r.u32 0) (if x.state = .running then y else { y with inForce := { corr := y.corr, seg := y.seg, gapBridge := (geoOf r 4).gapBridge } }) })) ∧
  (∀ (f : Fn) (m : Mbx) (s : State) (x : Ctx), Accepted cmdCtxSet f m s →
      let r := s.reqOf f m
      s.ctx (r.u32 0) = some x →
      x.kind ≠ .passthru →
      x.state = .defined →
      (geoOf r 4).width = x.geo.width →
      ∃ u, exec (.ctxSet f m) s = .next u ∧ Commits s u f m [] ({ s with ctxs := s.ctxs.put (r.u32 0) { x with geo := geoOf r 4, inForce := { corr := x.corr, seg := x.seg, gapBridge := (geoOf r 4).gapBridge } } })) ∧
  (∀ (f : Fn) (m : Mbx) (s : State) (x : Ctx) (y : State), Accepted cmdCtxAssign f m s →
      let r := s.reqOf f m
      s.ctx (r.u32 0) = some x →
      x.kind ≠ .passthru →
      (s.comb (r.u32 4)).state = .inUse →
      admission s (r.u32 0) (r.u32 4) x (r.u32 8) = none →
      y = { wakeBank (broodBank (r.u32 8)) (wakeBank (lineBank (r.u32 4)) s) with ctxs := (wakeBank (broodBank (r.u32 8)) (wakeBank (lineBank (r.u32 4)) s)).ctxs.put (r.u32 0) { x with state := .admitted, comb := some (r.u32 4), asm := some (r.u32 8) } } →
      ∃ u, exec (.ctxAssign f m) s = .next u ∧ Commits s u f m (assignFigures s (r.u32 0) (r.u32 4) x (r.u32 8) (y.isProtected (r.u32 0))) (y)) ∧
  (∀ (f : Fn) (m : Mbx) (s : State) (x : Ctx) (y : State), Accepted cmdCtxAssign f m s →
      let r := s.reqOf f m
      s.ctx (r.u32 0) = some x →
      x.kind ≠ .passthru →
      (s.comb (r.u32 4)).state = .free →
      admission s (r.u32 0) (r.u32 4) x (r.u32 8) = none →
      y = modComb (r.u32 4) (fun _ => { state := .inUse }) { wakeBank (broodBank (r.u32 8)) (wakeBank (lineBank (r.u32 4)) s) with ctxs := (wakeBank (broodBank (r.u32 8)) (wakeBank (lineBank (r.u32 4)) s)).ctxs.put (r.u32 0) { x with state := .admitted, comb := some (r.u32 4), asm := some (r.u32 8) } } →
      ∃ u, exec (.ctxAssign f m) s = .next u ∧ Commits s u f m (assignFigures s (r.u32 0) (r.u32 4) x (r.u32 8) (y.isProtected (r.u32 0))) (y)) ∧
  (∀ (f : Fn) (m : Mbx) (s : State) (x : Ctx) (y : State), Accepted cmdCtxAssign f m s →
      let r := s.reqOf f m
      s.ctx (r.u32 0) = some x →
      x.kind = .passthru →
      admission s (r.u32 0) (r.u32 4) x (r.u32 8) = none →
      y = { wakeBank (broodBank (r.u32 8)) s with ctxs := (wakeBank (broodBank (r.u32 8)) s).ctxs.put (r.u32 0) { x with state := .admitted, comb := none, asm := some (r.u32 8) } } →
      ∃ u, exec (.ctxAssign f m) s = .next u ∧ Commits s u f m (assignFigures s (r.u32 0) (r.u32 4) x (r.u32 8) (y.isProtected (r.u32 0))) (y)) ∧
  (∀ (f : Fn) (m : Mbx) (s : State) (x : Ctx), Accepted cmdCtxStart f m s → s.sys.devState = .run →
      let r := s.reqOf f m
      s.ctx (r.u32 0) = some x → (s.descOf x).bind (descMismatch x) = none →
      ∃ u, exec (.ctxStart f m) s = .next u ∧ Commits s u f m []
        (announceServer (r.u32 0) x.lane { s with ctxs := s.ctxs.put (r.u32 0) (startCtx x) })) ∧
  (∀ (f : Fn) (m : Mbx) (s : State) (x : Ctx), Accepted cmdCtxStop f m s →
      let r := s.reqOf f m
      s.ctx (r.u32 0) = some x →
      x.kind = .lineScan →
      ∃ u, exec (.ctxStop f m) s = .next u ∧ Starts s u f m [] ({ s with ctxs := s.ctxs.put (r.u32 0) (({ x with state := .stopping, stopAt := x.upTo, slots := x.slots ++ [Slot.stop s.now] } : Ctx).settle s.now) })) ∧
  (∀ (f : Fn) (m : Mbx) (s : State) (x : Ctx), Accepted cmdCtxStop f m s →
      let r := s.reqOf f m
      s.ctx (r.u32 0) = some x →
      x.kind = .passthru →
      ∃ u, exec (.ctxStop f m) s = .next u ∧ Starts s u f m [] ({ s with ctxs := s.ctxs.put (r.u32 0) (({ x with state := .stopping } : Ctx).settle s.now) })) ∧
  (∀ (f : Fn) (m : Mbx) (s : State) (x : Ctx), Accepted cmdCtxStop f m s →
      let r := s.reqOf f m
      s.ctx (r.u32 0) = some x →
      x.kind ≠ .passthru →
      x.kind ≠ .lineScan →
      ∃ u, exec (.ctxStop f m) s = .next u ∧ Starts s u f m [] ({ s with ctxs := s.ctxs.put (r.u32 0) (({ x with state := .stopping, slots := if x.frame.isSome then x.slots else x.slots ++ [Slot.stop s.now] } : Ctx).settle s.now) })) ∧
  (∀ (f : Fn) (m : Mbx) (s : State) (x : Ctx), Accepted cmdCtxRelease f m s →
      let r := s.reqOf f m
      s.ctx (r.u32 0) = some x →
      x.comb = none →
      ∃ u, exec (.ctxRelease f m) s = .next u ∧ Commits s u f m [] ({ s with ctxs := s.ctxs.put (r.u32 0) { x with state := .defined, comb := none, asm := none, slots := [], work := [], recs := [] } })) ∧
  (∀ (f : Fn) (m : Mbx) (s : State) (x : Ctx) (k : Nat), Accepted cmdCtxRelease f m s →
      let r := s.reqOf f m
      s.ctx (r.u32 0) = some x →
      x.comb = some k →
      ∃ u, exec (.ctxRelease f m) s = .next u ∧ Commits s u f m [] (freeComb k { s with ctxs := s.ctxs.put (r.u32 0) { x with state := .defined, comb := none, asm := none, slots := [], work := [], recs := [] } })) ∧
  (∀ (f : Fn) (m : Mbx) (s : State) (x : Ctx), Accepted cmdCtxDestroy f m s →
      let r := s.reqOf f m
      s.ctx (r.u32 0) = some x →
      ∃ u, exec (.ctxDestroy f m) s = .next u ∧ Commits s u f m [] (removeCtx (r.u32 0) s)) ∧
  (∀ (f : Fn) (m : Mbx) (s : State) (x : Ctx), Accepted cmdCtxGetStatus f m s →
      let r := s.reqOf f m
      s.ctx (r.u32 0) = some x →
      ∃ u, exec (.ctxGetStatus f m) s = .next u ∧ Commits s u f m (b8 (ctxStateCode x.state) ++ b8 x.kind.ctorIdx ++ b8 (x.comb.getD 255) ++ b8 (x.asm.getD 255)
        ++ b32 (b2n (x.comb.isSome && s.isProtected (r.u32 0))) ++ b32 (lineNo (((x.last.filterMap id).foldl (fun (a : Option Nat) p =>
          match a with | some m => some (max m p) | none => some p) none).getD 0)) ++ b32 0 ++ cntBytes x.counts 0 28) (if r.clear then modCtx (r.u32 0) (fun x => { x with counts := cntClear x.counts 0 28 }) s else s))

/-- R119, R127, R129, R131, R133, R142, R143, R145, R147, R186. -/
def Obligations.IntakeAndCombEventsAct : Prop :=
  (∀ (f : Fn) (m : Mbx) (s : State), Accepted cmdIntakeSetPartition f m s →
      let r := s.reqOf f m
      ∃ u, exec (.intakeSetPartition f m) s = .next u ∧ Commits s u f m [] ({ s with parts := (List.range 4).foldl (fun p i => p.put (4 * r.u32 0 + i) (r.u32 (4 + 4 * i))) s.parts })) ∧
  (∀ (f : Fn) (m : Mbx) (s : State), Accepted cmdCombSetSpare f m s →
      let r := s.reqOf f m
      r.u32 4 = 1 →
      ∃ u, exec (.combSetSpare f m) s = .next u ∧ Commits s u f m [] (setOwner .comb (r.u32 0) ownKeeper (modComb (r.u32 0) (fun _ => { state := .spare }) s))) ∧
  (∀ (f : Fn) (m : Mbx) (s : State), Accepted cmdCombSetSpare f m s →
      let r := s.reqOf f m
      r.u32 4 = 0 →
      ∃ u, exec (.combSetSpare f m) s = .next u ∧ Commits s u f m [] (setOwner .comb (r.u32 0) s.sys.trusted (modComb (r.u32 0) (fun _ => {}) s))) ∧
  (∀ (f : Fn) (m : Mbx) (s : State), Accepted cmdCombGetStatus f m s →
      let r := s.reqOf f m
      ∃ u, exec (.combGetStatus f m) s = .next u ∧ Commits s u f m (b8 (s.comb (r.u32 0)).state.ctorIdx ++ b8 (s.residents (r.u32 0)).length ++ b16 0
        ++ (((s.residents (r.u32 0)).map (fun (e : Nat × Ctx) => e.1) ++ List.replicate 8 255).take 8).flatMap b8
        ++ b32 (sumList ((s.residents (r.u32 0)).map fun e => e.2.footprint))
        ++ b32 (min 4294967295 ((rateSum ((s.residents (r.u32 0)).map (·.2))).1 / (rateSum ((s.residents (r.u32 0)).map (·.2))).2))) (s)) ∧
  (∀ (k : CombId) (t : Nat) (s : State), (s.comb k).state = .inUse → (s.comb k).gated = false → (s.comb k).copying = false →
      (s.comb k).cur = none → s.nextServed k = none →
      ∃ u, exec (.stripeStart k t) s = .next u ∧ (u.comb k).gated = true ∧
        (u.comb k).busyNs = (s.comb k).busyNs + (u.now - (s.comb k).busyFrom) ∧ u.ctxs = s.ctxs) ∧
  (∀ (k : CombId) (t c : Nat) (s : State), (s.comb k).state = .inUse → (s.comb k).gated = false → (s.comb k).copying = false →
      (s.comb k).cur = none → s.nextServed k = some c → (s.comb k).lastCtx = some c →
      exec (.stripeStart k t) s = .next (applyWaits c (modCtx c (fun x => { x with inForce := { x.inForce with gapBridge := x.geo.gapBridge } })
        (modComb k (fun b => { b with cur := some c, lines := 0, lastCtx := some c }) (countCtx c .stripe (advTo t s)))))) ∧
  (∀ (k : CombId) (t : Nat) (s : State), (s.comb k).state = .inUse → (s.comb k).gated = true → (s.comb k).copying = false →
      (s.nextServed k).isSome = true → ∃ u, exec (.combUngate k t) s = .next u ∧ (u.comb k).gated = false ∧ (u.comb k).busyFrom = max s.now t) ∧
  (∀ (k : CombId) (t c : Nat) (x : Ctx) (y z : State) (b d : Bool) (s : State), (s.comb k).state = .inUse → (s.comb k).cur = some c → s.ctx c = some x →
      x.kind ≠ .fullFrame → actMarks c x.work.length (advTo t s) = (false, y) → oneLine c y = (b, z) →
      d = (((if b then modComb k (fun b => { b with lines := b.lines + 1 }) z else z).ctx c).any fun x =>
        x.lineWaits && decide (((if b then modComb k (fun b => { b with lines := b.lines + 1 }) z else z).comb k).lines < x.geo.stripe)) →
      exec (.combLine k t) s = .next (if d then (if b then modComb k (fun b => { b with lines := b.lines + 1 }) z else z)
        else endStripe k c (if b then modComb k (fun b => { b with lines := b.lines + 1 }) z else z))) ∧
  (∀ (k : CombId) (t : Nat) (s : State),
      exec (.combFault k t) s = .next (combFault k (advTo t s))) ∧
  (∀ (k : CombId) (t : Nat) (s : State), (s.comb k).copying = true →
      ∃ u, exec (.spareCopyDone k t) s = .next u ∧ (u.comb k).copying = false) ∧
  (∀ (c : CtxId) (n : Nat) (x : Ctx) (q : Nat × Nat) (s : State), s.ctx c = some x → (x.slots.findSome? fun y => match y with
        | .line p _ _ (some d) => if lineNo p = n then some (p, d) else none
        | _ => none) = some q →
      exec (.lineTimeoutExpiry c n) s = .next (breakLine c q.1 (advTo q.2 s))) ∧
  (∀ (c : CtxId) (x : Ctx) (v : Frame) (s : State), s.ctx c = some x → x.frame = some v →
      exec (.frameTimeoutExpiry c) s = .next (closeFrame c none false (advTo v.deadline s))) ∧
  (∀ (c : CtxId) (x : Ctx) (s : State), s.ctx c = some x → x.state = .stopping → x.slots = [] → x.work = [] → x.frame = none → (∀ k, x.comb = some k → (s.comb k).cur ≠ some c.val) →
      ∃ u, exec (.ctxStopped c) s = .next u ∧ u.ctx c = some { x with state := .admitted, stopAt := none }) ∧
  (∀ (c : CtxId) (x : Ctx) (q : Nat × Nat) (s : State), s.ctx c = some x → x.captureEnd = some q →
      ∃ u, exec (.bgCaptured c) s = .next u ∧ u.ctx c = some { x with captureEnd := none })

/-- R154, R156, R160, R165, R168, R171, R173, R174, R346. -/
def Obligations.CorrectionCommandsComplete : Prop :=
  (∀ (f : Fn) (m : Mbx) (s : State) (y : Ctx), Accepted cmdCorrSetNoise f m s →
      let r := s.reqOf f m
      s.ctx (r.u32 0) = some y →
      ∃ u, exec (.corrSetNoise f m) s = .next u ∧ Commits s u f m [] (changeCtx (r.u32 0) 1 (fun x => { x with corr := { y.corr with nmBlack := bandWords r y 4 y.corr.nmBlack, nmA := bandWords r y 0x14 y.corr.nmA, nmB := bandWords r y 0x24 y.corr.nmB } }) s)) ∧
  (∀ (f : Fn) (m : Mbx) (s : State) (y : Ctx), Accepted cmdCorrSetTemporal f m s →
      let r := s.reqOf f m
      s.ctx (r.u32 0) = some y →
      ∃ u, exec (.corrSetTemporal f m) s = .next u ∧ Commits s u f m [] (changeCtx (r.u32 0) 2 (fun x => { x with corr := temporalOf r y.corr }) s)) ∧
  (∀ (f : Fn) (m : Mbx) (s : State) (y : Ctx), Accepted cmdCorrSetSpatial f m s →
      let r := s.reqOf f m
      s.ctx (r.u32 0) = some y →
      ∃ u, exec (.corrSetSpatial f m) s = .next u ∧ Commits s u f m [] (changeCtx (r.u32 0) 3 (fun x => { x with corr := { y.corr with spHold := r.u32 4 == 1, kSp := r.u32 8, kOut := r.u32 0x0C } }) s)) ∧
  (∀ (f : Fn) (m : Mbx) (s : State) (y : Ctx), Accepted cmdCorrSetBlack f m s →
      let r := s.reqOf f m
      s.ctx (r.u32 0) = some y →
      r.u32 4 = 0 →
      ∃ u, exec (.corrSetBlack f m) s = .next u ∧ Commits s u f m [] (changeCtx (r.u32 0) 4 (fun x => { x with corr := { y.corr with blackTrack := false, black := bandWords r y 8 y.corr.black, pedestal := r.u32 0x38 } }) s)) ∧
  (∀ (f : Fn) (m : Mbx) (s : State) (y : Ctx), Accepted cmdCorrSetBlack f m s →
      let r := s.reqOf f m
      s.ctx (r.u32 0) = some y →
      r.u32 4 = 1 →
      ∃ u, exec (.corrSetBlack f m) s = .next u ∧ Commits s u f m [] (changeCtx (r.u32 0) 4 (fun x => { x with corr := { y.corr with blackTrack := true, black := bandWords r y 8 y.corr.black, darkX0 := bandWords r y 0x18 y.corr.darkX0, darkN := bandWords r y 0x28 y.corr.darkN, pedestal := r.u32 0x38 } }) s)) ∧
  (∀ (f : Fn) (m : Mbx) (s : State) (y : Ctx), Accepted cmdCorrSetRegistration f m s →
      let r := s.reqOf f m
      s.ctx (r.u32 0) = some y →
      ∃ u, exec (.corrSetRegistration f m) s = .next u ∧ Commits s u f m [] (changeCtx (r.u32 0) 5 (fun x => { x with corr := { y.corr with regHold := r.u32 4, regV := bandWords r y 8 y.corr.regV, regX0 := (List.range 4).map fun k => if k < y.bands then s32At r.body (0x18 + 4 * k) else y.corr.regX0.getD k 0, regScale := bandWords r y 0x28 y.corr.regScale } }) s)) ∧
  (∀ (f : Fn) (m : Mbx) (s : State) (y : Ctx), Accepted cmdCorrSetEnable f m s →
      let r := s.reqOf f m
      s.ctx (r.u32 0) = some y →
      ∃ u, exec (.corrSetEnable f m) s = .next u ∧ Commits s u f m [] (changeCtx (r.u32 0) 6 (fun x => { x with corr := { y.corr with enables := r.u32 4 } }) s)) ∧
  (∀ (f : Fn) (m : Mbx) (s : State) (x : Ctx), Accepted cmdCorrLoadTable f m s →
      let r := s.reqOf f m
      s.ctx (r.u32 0) = some x →
      bit (r.u32 8) 0 = true →
      bit (r.u32 8) 1 = false →
      ∃ u, exec (.corrLoadTable f m) s = .next u ∧ Commits s u f m [] ({ s with staging := (s.staging.filter fun y => !(y.ctx == r.u32 0 && y.table == r.u32 4)) ++ [{ ctx := r.u32 0, table := r.u32 4, size := x.tableSize (r.u32 4), writes := [(r.u32 0x0C, r.body.drop 0x14)] }] })) ∧
  (∀ (f : Fn) (m : Mbx) (s : State) (x : Ctx) (y : State), Accepted cmdCorrLoadTable f m s →
      let r := s.reqOf f m
      s.ctx (r.u32 0) = some x →
      bit (r.u32 8) 0 = true →
      bit (r.u32 8) 1 = true →
      y = commitTable (r.u32 0) (r.u32 4) (buildTable x (r.u32 4) [(r.u32 0x0C, r.body.drop 0x14)]) { s with staging := s.staging.filter fun y => !(y.ctx == r.u32 0 && y.table == r.u32 4) } →
      ∃ u, exec (.corrLoadTable f m) s = .next u ∧ Commits s u f m (b32 (buildTable x (r.u32 4) [(r.u32 0x0C, r.body.drop 0x14)]).length ++ b32 (b2n ((y.ctx (r.u32 0)).any fun v => v.comb.isSome && y.isProtected (r.u32 0)))) (commitTable (r.u32 0) (r.u32 4) (buildTable x (r.u32 4) [(r.u32 0x0C, r.body.drop 0x14)]) { s with staging := s.staging.filter fun y => !(y.ctx == r.u32 0 && y.table == r.u32 4) }))

/-- R183, R186, R187, R189, R203, R208, R347. -/
def Obligations.SegmentationCommandsComplete : Prop :=
  (∀ (f : Fn) (m : Mbx) (s : State) (y : Ctx), Accepted cmdSegSetBackground f m s →
      let r := s.reqOf f m
      s.ctx (r.u32 0) = some y →
      ∃ u, exec (.segSetBackground f m) s = .next u ∧ Commits s u f m [] (changeCtx (r.u32 0) 9 (fun x => { x with seg := { x.seg with bgTrack := r.u32 4 == 1, trackDiv := r.u32 8 } }) s)) ∧
  (∀ (f : Fn) (m : Mbx) (s : State) (y : Ctx), Accepted cmdSegSetThreshold f m s →
      let r := s.reqOf f m
      s.ctx (r.u32 0) = some y →
      ∃ u, exec (.segSetThreshold f m) s = .next u ∧ Commits s u f m [] (changeCtx (r.u32 0) 9 (fun x => { x with seg := { x.seg with segX0 := r.u32 4, segX1 := r.u32 8, pol := bandWords r x 0x0C x.seg.pol, weight := bandWords r x 0x1C x.seg.weight, combine := r.u32 0x2C, tLow := r.u32 0x30, tHigh := r.u32 0x34, minArea := r.u32 0x38 } }) s)) ∧
  (∀ (f : Fn) (m : Mbx) (s : State) (y : Ctx), Accepted cmdSegSetMorph f m s →
      let r := s.reqOf f m
      s.ctx (r.u32 0) = some y →
      ∃ u, exec (.segSetMorph f m) s = .next u ∧ Commits s u f m [] (changeCtx (r.u32 0) 9 (fun x => { x with seg := { x.seg with morph := r.u32 4 } }) s)) ∧
  (∀ (f : Fn) (m : Mbx) (s : State) (x : Ctx), Accepted cmdSegLoadBackground f m s →
      let r := s.reqOf f m
      s.ctx (r.u32 0) = some x →
      bit (r.u32 8) 0 = true →
      bit (r.u32 8) 1 = false →
      ∃ u, exec (.segLoadBackground f m) s = .next u ∧ Commits s u f m [] ({ s with staging := (s.staging.filter fun y => !(y.ctx == r.u32 0 && y.table == r.u32 4)) ++ [{ ctx := r.u32 0, table := r.u32 4, size := x.tableSize (r.u32 4), writes := [(r.u32 0x0C, r.body.drop 0x14)] }] })) ∧
  (∀ (f : Fn) (m : Mbx) (s : State) (x : Ctx), Accepted cmdSegCaptureBackground f m s →
      let r := s.reqOf f m
      s.ctx (r.u32 0) = some x →
      x.kind ≠ .fullFrame →
      ∃ u, exec (.segCaptureBackground f m) s = .next u ∧ Starts s u f m [] (modCtx (r.u32 0) (fun x => { x with dyn := { x.dyn with capture := some { want := r.u32 4, got := 0, table := [] } } })
        (segResult (r.u32 0) s.now (endLabels (s.segCtx (r.u32 0) x) (segFlush (s.segCtx (r.u32 0) x) { dyn := x.dyn })) s))) ∧
  (∀ (f : Fn) (m : Mbx) (s : State) (x : Ctx), Accepted cmdCellSetFormat f m s →
      let r := s.reqOf f m
      s.ctx (r.u32 0) = some x →
      ∃ u, exec (.cellSetFormat f m) s = .next u ∧ Commits s u f m [] ({ s with ctxs := s.ctxs.put (r.u32 0) { x with fmt := cellFmt r } })) ∧
  (∀ (f : Fn) (m : Mbx) (s : State), Accepted cmdStitchConfigure f m s →
      let r := s.reqOf f m
      r.u32 4 = 0 →
      ∃ u, exec (.stitchConfigure f m) s = .next u ∧ Commits s u f m [] (dropOwner .stitch (r.u32 0) { s with stitches := s.stitches.erase (r.u32 0), frags := s.frags.erase (r.u32 0) })) ∧
  (∀ (f : Fn) (m : Mbx) (s : State), Accepted cmdStitchConfigure f m s →
      let r := s.reqOf f m
      r.u32 4 ≠ 0 →
      ∃ u, exec (.stitchConfigure f m) s = .next u ∧ Commits s u f m [] (setOwner .stitch (r.u32 0) f { s with stitches := s.stitches.put (r.u32 0) { members := stitchMembers r, offsets := (List.range (stitchMembers r).length).map fun k => s32At r.body (0x28 + 4 * k), tol := r.u32 0x48, timeout := r.u32 0x4C } }))

/-- R216, R218, R230, R241, R244, R253, R348, R349, R350, R351. -/
def Obligations.PairingCommandsComplete : Prop :=
  (∀ (f : Fn) (m : Mbx) (s : State), Accepted cmdPgConfigure f m s →
      let r := s.reqOf f m
      pgRelease r = true →
      ∃ u, exec (.pgConfigure f m) s = .next u ∧ Commits s u f m [] (dropOwner .pairing (r.u32 0) { s with pgs := s.pgs.erase (r.u32 0) })) ∧
  (∀ (f : Fn) (m : Mbx) (s : State) (p : PGroup) (vb : Option View), Accepted cmdPgConfigure f m s →
      let r := s.reqOf f m
      pgRelease r = false →
      s.pgs.find (r.u32 0) = some p →
      vb = (if r.u32 0xC = wordNone then none else viewWord (r.u32 0xC)) →
      ∃ u, exec (.pgConfigure f m) s = .next u ∧ Commits s u f m [] (setOwner .pairing (r.u32 0) r.fn { s with pgs := s.pgs.put (r.u32 0) { p with viewA := (viewWord (r.u32 8)).getD (.ctx 0), viewB := vb, set := pgSettings (pgWord r (if bit (r.u32 4) 0 then s.pgCal (r.u32 0) else none)) vb.isNone } })) ∧
  (∀ (f : Fn) (m : Mbx) (s : State) (vb : Option View), Accepted cmdPgConfigure f m s →
      let r := s.reqOf f m
      pgRelease r = false →
      s.pgs.find (r.u32 0) = none →
      vb = (if r.u32 0xC = wordNone then none else viewWord (r.u32 0xC)) →
      ∃ u, exec (.pgConfigure f m) s = .next u ∧ Commits s u f m [] (setOwner .pairing (r.u32 0) r.fn { s with pgs := s.pgs.put (r.u32 0) { viewA := (viewWord (r.u32 8)).getD (.ctx 0), viewB := vb, set := pgSettings (pgWord r (if bit (r.u32 4) 0 then s.pgCal (r.u32 0) else none)) vb.isNone } })) ∧
  (∀ (f : Fn) (m : Mbx) (s : State) (p : PGroup), Accepted cmdPgSetRow f m s →
      let r := s.reqOf f m
      s.pgs.find (r.u32 0) = some p →
      ((rowOf r).device = none ∨ bit (r.u32 8) 0 = true) →
      ∃ u, exec (.pgSetRow f m) s = .next u ∧ Commits s u f m [] ({ s with pgs := s.pgs.put (r.u32 0) { p with rows := p.rows.set (r.u32 4) (if bit (r.u32 8) 0 then none else some (rowOf r)) } })) ∧
  (∀ (f : Fn) (m : Mbx) (s x : State) (p : PGroup) (d i : Nat) (l : List Nat), Accepted cmdPgSetRow f m s →
        let r := s.reqOf f m
        s.pgs.find (r.u32 0) = some p → (rowOf r).device = some d → bit (r.u32 8) 0 = false → (d ≠ s.deviceId ∨ s.inHive = false) → (rowOf r).ports = i :: l →
        sendRemote d r.fn 0x0004 0 r.tag (b32 4 ++ b32 i) s = (true, x) →
        exec (.pgSetRow f m) s = .next { x with waiting := some { fn := r.fn, mbx := r.mbx, since := s.now, what := .owners d 4 (rowOf r).ports } }) ∧
  (∀ (f : Fn) (m : Mbx) (s : State), Accepted cmdPgLoadRules f m s →
      let r := s.reqOf f m
      r.u32 4 = 0 →
      ∃ u, exec (.pgLoadRules f m) s = .next u ∧ Commits s u f m ((b32 0)) (setRules (r.u32 0) [] s)) ∧
  (∀ (f : Fn) (m : Mbx) (s : State), Accepted cmdPgLoadRules f m s →
        let r := s.reqOf f m
        r.u32 4 ≠ 0 → s.available r.fn = true →
        exec (.pgLoadRules f m) s = .next (dma r.fn (65536 + r.mbx) (.read (u64At r.body 8) (64 * r.u32 4) (.rules r.mbx))
          { s with waiting := some { fn := r.fn, mbx := r.mbx, since := s.now, what := .rules (r.u32 0) (r.u32 4) } })) ∧
  (∀ (f : Fn) (m : Mbx) (s : State) (t : Bool × Nat) (l : List SteerEntry), Accepted cmdPgSetSteering f m s →
      let r := s.reqOf f m
      t = steerTarget r →
      l = ((List.range (min (r.u32 4) 16)).map (steerWords r)).map (newSteer s) →
      ∃ u, exec (.pgSetSteering f m) s = .next u ∧ Commits s u f m [] (steerStarts t l (if t.1 then { s with ctxSteer := s.ctxSteer.put t.2 l } else { s with pgs := match s.pgs.find t.2 with | some p => s.pgs.put t.2 { p with steer := l } | none => s.pgs }))) ∧
  (∀ (f : Fn) (m : Mbx) (s : State) (l : List Unpaired), Accepted cmdPgGetStatus f m s →
      let r := s.reqOf f m
      l = ((s.pgs.find (r.u32 0)).map (·.unpaired)).getD [] →
      ∃ u, exec (.pgGetStatus f m) s = .next u ∧ Commits s u f m (b32 (l.filter fun u => u.obj.view == 0).length ++ b32 (l.filter fun u => u.obj.view == 1).length ++ b32 (s.pend.filter fun e => e.2.group == r.u32 0).length ++ cntBytes (s.pgCounts.getD (r.u32 0) []) 0 27 ++ b32 (cnt (s.hp r.fn).counts HpCnt.unknownDec.ctorIdx)) (if r.clear then modHp r.fn (fun h => { h with counts := cntClear h.counts HpCnt.unknownDec.ctorIdx 1 }) { s with pgCounts := s.pgCounts.put (r.u32 0) (cntClear (s.pgCounts.getD (r.u32 0) []) 0 27) } else s))

/-- R237, R238, R247, R248, R249. -/
def Obligations.DecisionsBindByTable : Prop :=
  (∀ (k : Nat) (rec : List Byte) (s : State), k < 4 → byteAt rec 8 ≤ 2 ∨ byteAt rec 8 = 0xFF → u64At rec 0 / 2 ^ 48 = s.deviceId → s.entryOf (u64At rec 0) = none →
      bindDecision k rec s = (4, countHp k .unknownDec s)) ∧
  (∀ (k n : Nat) (p : Pending) (rec : List Byte) (s : State), byteAt rec 8 ≤ 2 ∨ byteAt rec 8 = 0xFF → u64At rec 0 / 2 ^ 48 = s.deviceId → s.entryOf (u64At rec 0) = some (n, p) →
      bindDecision k rec s =
        if p.decider ≠ some k ∧ s.ownerOf .pairing p.group ≠ k then (5, countPg p.group .notDecider s)
        else if p.deadline < s.now then (2, lateDecision p (u64At rec 0) s)
        else if p.settled then (3, countPg p.group .dup s)
        else if byteAt rec 8 = 0xFF then (1, countPg p.group .defer s)
        else (0, settle n (byteAt rec 8) (if bit (byteAt rec 9) 0 then toSigned 16 (u16At rec 0x0A) else 0)
          (if bit (byteAt rec 9) 1 then some (u16At rec 0x0C, byteAt rec 0x0E) else none) (countPg p.group .hostVerdict s))) ∧
  (∀ (n : Nat) (p : Pending) (ext : Int) (o : Option (Nat × Nat)) (s : State), s.pend.find n = some p →
      let w := fun (t : State) => modPend n (fun p => { p with settled := true, acted := t.flight.actions.any fun a => a.2.entries.contains n }) t
      settle n 0 ext o s = w s ∧ settle n 1 ext o s = w (placeRow n p 0 ext o s) ∧
      settle n 2 ext o s = w (if ((s.pgs.find p.group).bind (·.row 1)).isSome then placeRow n p 1 ext o s
        else placeRow n p 0 ext o (countPg p.group .altNoRow s))) ∧
  (∀ (n v : Nat) (p : Pending) (s : State), s.pend.find n = some p → p.settled = false → p.rule = some v →
      exec (.decisionDeadline n) s = .next (if v < 3 then settle n v 0 none (countPg p.group .ruleVerdict (advTo p.deadline s)) else settle n p.dflt 0 none (countPg p.group .defaultVerdict (advTo p.deadline s)))) ∧
  (∀ (n : Nat) (p : Pending) (s : State), s.pend.find n = some p → p.settled = false → p.rule = none →
      exec (.decisionDeadline n) s = .next (settle n p.dflt 0 none (countPg p.group .defaultVerdict (advTo p.deadline s)))) ∧
  (∀ (n : Nat) (p : Pending) (s : State), s.pend.find n = some p → p.settled = true → (∀ a ∈ s.flight.actions, n ∉ a.2.entries) →
      ∃ u, exec (.pendingEntryFree n) s = .next u ∧ u.pend = s.pend.erase n ∧ (p.acted = false → u.now = max s.now p.tCross) ∧ (p.acted = true → u = { s with pend := s.pend.erase n }))

/-- R207, R211, R222, R241, R251, R252, R311, R316. -/
def Obligations.PairingAndAssemblyEventsAct : Prop :=
  (∀ (a : AsmId) (t : Nat) (i : AsmItem) (l : List AsmItem) (x : State) (s : State), (s.asm a).failed = false → x = settleAll a (advTo t s) → (x.asm a).queue = i :: l →
      exec (.asmObject a t) s = .next (settleAll a (match i with | .obj o => takeObject a o (modAsm a (fun v => { v with queue := l }) x) | .cell c d => takeCell a c d (modAsm a (fun v => { v with queue := l }) x)))) ∧
  (∀ (g : Fin 32) (frag t id : Nat) (st : Stitch) (v : Fragment) (x : State) (s : State), s.stitches.find g.val = some st → ((s.frags.getD g.val []).find? fun y => y.id == frag) = some v → v.since + 1000 * st.timeout ≤ max s.now t → x = countCtx v.obj.ctx .stitchTimeout (modFrags g (fun l => l.filter fun y => y.id != frag) (advTo t s)) → id = objectId x.deviceId v.obj.ctx (takeSeq v.obj.ctx v.obj x).1 →
      exec (.stitchTimeout g frag t) s = .next (raise 0x0405 sevW g v.obj.ctx id [x.ownerOf .stitch g] (mergeFinal (s.asmOf v.obj.ctx) g st [v] true x))) ∧
  (∀ (g : Fin 32) (id : Nat) (p : PGroup) (v : Unpaired) (s : State), s.pgs.find g.val = some p → (p.unpaired.find? fun y => y.obj.id == id) = some v →
      exec (.unpairedWindowEnd g id) s = .next (emitObjects g (s.asmOf v.obj.ctx) (if v.obj.view = 1 then none else some v.obj) (if v.obj.view = 1 then some v.obj else none) true (countPg g (if v.obj.view = 1 then .unpairedB else .unpairedA) (modUnpaired g (fun l => l.filter fun x => x.obj.id != id) (advTo v.ends s))))) ∧
  (∀ (q : QId) (t slot : Nat) (v : Queue) (w : WaitCell) (l : List WaitCell) (desc : List Byte) (fs : List (Nat × List Byte)) (x : BroodCell) (d : List Byte × Bool) (y : State) (s : State), s.queue q = some v → v.waiting = w :: l → v.state = .enabled → s.available v.owner = true → v.cplFull = false → v.fetched = (slot, desc) :: fs → (s.asm w.asm).cells.find w.cell = some x → d = fitCell x.data (descLen desc) → y = (takeDesc q (setQueue q { v with waiting := l } (advTo t s))).2 →
      exec (.cellDelivery q t) s = .next (noteWait q (fetchMore q (complete q slot (cplBytes slot (if d.2 then cstTruncated else cstOk) 1 (descTag desc) d.1.length
          (u16At d.1 4 + 65536 * x.group.getD 255) x.id x.deadline)
        (freeCell w.asm w.cell (dma v.owner q (.write (descAddr desc) d.1) (if d.2 then countQ q .bufTrunc y else y))))))) ∧
  (∀ (f : Fn) (m : Mbx) (b : List Byte) (w : Waiting) (g n : Nat) (s : State), s.waiting = some w → w.fn = f.val → w.mbx = m.val → w.what = .rules g n →
      ((s.mbx f.val m.val).request f.val m.val).checkOnly = false → (rulesOf n b).all ruleOk = true →
      exec (.rulesReadComplete f m (some b)) s = .next (finishWait w (.ok (setRules g (rulesOf n b) { s with waiting := none }) (b32 n)) s)) ∧
  (∀ (q : QId) (t slot : Nat) (v : Queue) (rec : List Byte) (l : List (Nat × List Byte)) (y : State) (z : Nat × State) (s : State), s.queue q = some v → v.fetched = (slot, rec) :: l → v.kind = qtDecision → v.state = .enabled → s.available v.owner = true → v.cplFull = false → y = (takeDesc q (advTo t s)).2 → z = bindDecision v.owner rec y →
      exec (.decisionRecordBind q t) s = .next (fetchMore q (complete q slot (cplBytes slot cstOk 1 (byteAt rec 0x0F) 16 z.1 (u64At rec 0) (max s.now t)) z.2))) ∧
  (∀ (src : Nat) (body : List Byte) (t : Nat) (s : State), body.length = 16 → u64At body 0 / 2 ^ 48 = s.deviceId → src ≠ s.deviceId →
      exec (.ejectDecisionReceived src body t) s = .next ((bindDecision ownHive body (advTo t s)).2)) ∧
  (∀ (src : Nat) (body : List Byte) (t n : Nat) (s : State), s.inHive = true → n = byteAt body 0x14 → 1 ≤ n ∧ n ≤ 64 → body.length = 24 + 2 * n → (∀ k, k < n → u16At body (0x18 + 2 * k) < 4096 ∧ s.ownerOf .valvePort (u16At body (0x18 + 2 * k) / 512) = ownHive) →
      exec (.ejectActionsReceived src body t) s = .next (placePulses (byteAt body 0x15 % 32) (u64At body 0) (Config.rowGap src (byteAt body 0x15 % 32)) (u64At body 8) (u32At body 0x10) [] ((List.range n).map fun k => u16At body (0x18 + 2 * k)) (advTo t s)))

/-- R255, R256, R258, R264, R265, R266, R352. -/
def Obligations.ValvePortCommandsComplete : Prop :=
  (∀ (f : Fn) (m : Mbx) (s : State), Accepted cmdVpConfigure f m s →
      let r := s.reqOf f m
      ∃ u, exec (.vpConfigure f m) s = .next u ∧ Commits s u f m [] (modVp (r.u32 0) (fun p => { p with period := r.u32 4, phase := r.u32 8, inhibit := r.u32 0xC == 1 }) s)) ∧
  (∀ (f : Fn) (m : Mbx) (s : State), s.sys.devState = .run → Accepted cmdVpSetMode f m s →
        let r := s.reqOf f m
        ∃ u, exec (.vpSetMode f m) s = .next u ∧ Commits s u f m [] (modVp (r.u32 0) (fun p => { p with want := some (vpMode (r.u32 4)) }) s)) ∧
  (∀ (f : Fn) (m : Mbx) (s : State), Accepted cmdVpTestFire f m s →
      let r := s.reqOf f m
      ∃ u, exec (.vpTestFire f m) s = .next u ∧ Commits s u f m [] ((testValves r).foldl (fun t b =>
          let a := placeAction { time := u64At r.body 8, cls := .valveOpen, tol := 100000, target := 512 * r.u32 0 + b, placer := .testFire, order := 0, placedAt := 0 } t
          (placeAction { time := u64At r.body 8 + 1000 * r.u32 0x10, cls := .valveClose, tol := 100000, target := 512 * r.u32 0 + b, placer := .testFire, order := 0, placedAt := 0 } a.2).2) s)) ∧
  (∀ (f : Fn) (m : Mbx) (s : State) (p : ValvePort) (l : List Nat), Accepted cmdVpGetStatus f m s →
      let r := s.reqOf f m
      p = s.vp (r.u32 0) →
      l = (List.range (r.u32 8)).map (r.u32 4 + ·) →
      ∃ u, exec (.vpGetStatus f m) s = .next u ∧ Commits s u f m (b8 p.modeCode ++ b8 p.board ++ b8 (b2n (decide (p.sinceValid < 64))) ++ b8 0 ++ b32 ((p.sent.head?.map (·.1)).getD 0) ++ cntBytes p.counts 0 6 ++ l.flatMap fun b => valveRecord (p.valve b)) (if r.clear then modVp (r.u32 0) (fun p => l.foldl (fun p b => p.modValve b (fun x => { x with counts := [], onNs := 0 })) { p with counts := [] }) s else s)) ∧
  (∀ (f : Fn) (m : Mbx) (s : State) (b : Nat), Accepted cmdVpClearFault f m s →
      let r := s.reqOf f m
      optWord (r.u32 4) = some b →
      ∃ u, exec (.vpClearFault f m) s = .next u ∧ Commits s u f m [] (modVp (r.u32 0) (fun p => { p with clearing := p.clearing ++ [b] }) s)) ∧
  (∀ (f : Fn) (m : Mbx) (s : State), Accepted cmdVpClearFault f m s →
      let r := s.reqOf f m
      optWord (r.u32 4) = none →
      ∃ u, exec (.vpClearFault f m) s = .next u ∧ Commits s u f m [] (modVp (r.u32 0) (fun p => { p with clearing := p.clearing ++ p.valves.map (·.1) }) s))

/-- R256, R258, R259, R262, R263, R513. -/
def Obligations.ValvePortEventsAct : Prop :=
  (∀ (v : VPort) (p : ValvePort) (T : Nat) (s : State), p = s.vp v → p.failed = false → s.mon.valvesStopped = false → p.want = none → p.mode ≠ .off → T = p.nextT s.now →
      exec (.valveFrameLatch v) s = .next (sendFrame v T (advTo (T - 1600) s))) ∧
  (∀ (v : VPort) (p : ValvePort) (T : Nat) (k : VpMode) (s : State), p = s.vp v → p.failed = false → s.mon.valvesStopped = false → p.want = some k → k ≠ .off → T = p.nextT s.now →
      exec (.valveFrameLatch v) s = .next (sendFrame v T (modVp v (fun p => vpEnter k (if p.mode = .off then { p with counter := 0, sent := [] } else p)) (advTo (T - 1600) s)))) ∧
  (∀ (v : VPort) (p : ValvePort) (s : State), p = s.vp v → p.failed = false → s.mon.valvesStopped = false → p.want = some .off → p.mode ≠ .off →
      exec (.valveFrameLatch v) s = .next (emit (.valveStop v) (modVp v (vpEnter .off) (advTo (p.nextT s.now - 1600) s)))) ∧
  (∀ (v : VPort) (b : BitVec 40) (t : Nat) (s : State), (s.vp v).failed = false → ((s.vp v).sent.find? fun f => decide (f.2 ≤ max s.now t)) = none →
      exec (.feedbackFrameReceived v b t) s = .next (modVp v (·.count .fbErr) (advTo t s))) ∧
  (∀ (v : VPort) (b : BitVec 40) (t : Nat) (p : ValvePort) (fr : Nat × Nat) (x : State) (s : State), p = s.vp v → p.failed = false → (p.sent.find? fun f => decide (f.2 ≤ max s.now t)) = some fr → bits b.toNat 36 4 = 13 → crc8 (msbBits 28 (bits b.toNat 8 28)) = bits b.toNat 0 8 → bits b.toNat 28 8 = fr.1 % 256 → x = (List.range 8).foldl (fun s i => valveStatus v (8 * (fr.1 % 64) + i) (bits b.toNat (26 - 2 * i) 2) s) (modVp v (fun p => { p with unanswered := p.unanswered.filter (· != fr), missRun := 0, sinceValid := 0, board := bits b.toNat 8 4 }) (advTo t s)) →
      exec (.feedbackFrameReceived v b t) s = .next (if p.board = 0 ∧ bits b.toNat 8 4 ≠ 0 then detectFault clsValve v (raise 0x0512 sevE v (bits b.toNat 8 4) 0 (x.vpTo v) x) else x)) ∧
  (∀ (v : VPort) (p : ValvePort) (q : Nat × Nat) (l : List (Nat × Nat)) (x : State) (s : State), p = s.vp v → p.unanswered = q :: l → x = modVp v (fun p => { (p.count .fbMiss) with unanswered := l, missRun := p.missRun + 1 }) (advTo (q.2 + 3000) s) →
      exec (.feedbackMissed v) s = .next (if p.missRun + 1 = 64 then detectFault clsValve v (raise 0x0510 sevE v 0 0 (x.vpTo v) x) else x)) ∧
  (∀ (v : VPort) (t : Nat) (s : State), (s.vp v).failed = false → (s.vp v).mode ≠ .off →
      ∃ u, exec (.valvePortReadbackFault v t) s = .next u ∧ (u.vp v).failed = true ∧ (u.vp v).mode = .off ∧ (∀ b, ((u.vp v).valve b).sent = false) ∧ u.now = max s.now t)

/-- R300, R301, R302, R320, R322, R323, R355, R356, R357, R540. -/
def Obligations.QueueCommandsComplete : Prop :=
  (∀ (f : Fn) (m : Mbx) (s : State), Accepted cmdQPartition f m s →
      let r := s.reqOf f m
      ∃ u, exec (.qPartition f m) s = .next u ∧ Commits s u f m [] (modSys (fun y => { y with qPart := partitionOf r s }) s)) ∧
  (∀ (f : Fn) (m : Mbx) (s : State) (q : Nat) (k : Bool) (page : Option Nat), Accepted cmdQCreate f m s →
      let r := s.reqOf f m
      q = s.qBase r.fn + r.u32 0 →
      k = (r.u32 4 != qtEvent) →
      page = (if r.u32 4 == qtDecision && r.u32 0x2C == 1 then s.freePage r.fn else none) →
      ∃ u, exec (.qCreate f m) s = .next u ∧ Commits s u f m (b32 q ++ b32 (page.getD wordNone)) (setQueue q
        { kind := r.u32 4, owner := r.fn, settings := { ringAddr := if k then u64At r.body 8 else 0, ringSize := if k then r.u32 0x10 else 0, cplAddr := u64At r.body 0x18, cplSize := r.u32 0x14, bufSize := if r.u32 4 = qtFrame then r.u32 0x20 else 0, lane := r.u32 0x24, subjects := r.u32 0x28, aperture := page, notifyAddr := u64At r.body 0x30, notifyData := r.u32 0x38, coalCount := r.u32 0x3C, coalTime := r.u32 0x40 } }
        (wakeBank (queueBank (q / 16384)) s))) ∧
  (∀ (f : Fn) (m : Mbx) (s : State) (v : Queue), Accepted cmdQEnable f m s →
      let r := s.reqOf f m
      s.queue (r.u32 0) = some v →
      ∃ u, exec (.qEnable f m) s = .next u ∧ Commits s u f m [] (actRecorded (r.u32 0) (setQueue (r.u32 0) { v with state := .enabled } s))) ∧
  (∀ (f : Fn) (m : Mbx) (s : State) (v : Queue), Accepted cmdQDisable f m s →
      let r := s.reqOf f m
      s.queue (r.u32 0) = some v →
      ∃ u, exec (.qDisable f m) s = .next u ∧ Starts s u f m [] (releaseHeld (r.u32 0) (refuseWaiting (r.u32 0) (setQueue (r.u32 0) { v with state := .draining } s)))) ∧
  (∀ (f : Fn) (m : Mbx) (s : State) (v : Queue), Accepted cmdQReset f m s →
      let r := s.reqOf f m
      s.queue (r.u32 0) = some v →
      ∃ u, exec (.qReset f m) s = .next u ∧ Commits s u f m [] (setQueue (r.u32 0) v.cleared (endFrames (r.u32 0) (dmaDrop v.owner (r.u32 0) (deadReads (r.u32 0) s))))) ∧
  (∀ (f : Fn) (m : Mbx) (s : State) (v : Queue), Accepted cmdQDestroy f m s →
      let r := s.reqOf f m
      s.queue (r.u32 0) = some v →
      ∃ u, exec (.qDestroy f m) s = .next u ∧ Commits s u f m (b32 v.headNow) (destroyQueue (r.u32 0) s)) ∧
  (∀ (f : Fn) (m : Mbx) (s : State) (v : Queue), Accepted cmdQSetNotify f m s →
      let r := s.reqOf f m
      s.queue (r.u32 0) = some v →
      v.unnotified = 0 →
      ∃ u, exec (.qSetNotify f m) s = .next u ∧ Commits s u f m [] (setQueue (r.u32 0) ({ v with nextNotify := some (u64At r.body 8, r.u32 0x10, r.u32 0x14, r.u32 0x18) } : Queue).applyNotify s)) ∧
  (∀ (f : Fn) (m : Mbx) (s : State) (v : Queue), Accepted cmdQSetNotify f m s →
      let r := s.reqOf f m
      s.queue (r.u32 0) = some v →
      v.unnotified ≠ 0 →
      ∃ u, exec (.qSetNotify f m) s = .next u ∧ Commits s u f m [] (setQueue (r.u32 0) { v with nextNotify := some (u64At r.body 8, r.u32 0x10, r.u32 0x14, r.u32 0x18) } s)) ∧
  (∀ (f : Fn) (m : Mbx) (s : State) (v : Queue), Accepted cmdQGetStatus f m s →
      let r := s.reqOf f m
      s.queue (r.u32 0) = some v →
      ∃ u, exec (.qGetStatus f m) s = .next u ∧ Commits s u f m (b8 (qStateCode v.state) ++ b8 v.reason ++ b8 v.kind ++ b8 0 ++ b32 v.headNow ++ b32 v.tail ++ b32 (v.cplTail + 65536 * b2n v.phase) ++ b32 v.cplHead ++ cntBytes v.counts 0 7) (if r.clear then setQueue (r.u32 0) { v with counts := cntClear v.counts 0 7 } s else s))

/-- R98, R302, R303, R307, R308, R309, R314, R315, R320. -/
def Obligations.QueueEventsAct : Prop :=
  (∀ (q : QId) (v : Queue) (s : State), s.queue q = some v → v.state = .enabled → v.arrived.isEmpty = false → (v.kind = qtCell ∨ v.kind = qtFrame ∨ v.kind = qtTunnelIn) → v.arrived.all (fun e => descOk v e.2) = false →
      exec (.descriptorFetchComplete q) s = .next (queueError q 4 s)) ∧
  (∀ (q : QId) (v : Queue) (s : State), s.queue q = some v → v.state = .enabled → v.arrived.isEmpty = false → (v.kind = qtCell ∨ v.kind = qtFrame ∨ v.kind = qtTunnelIn → v.arrived.all (fun e => descOk v e.2) = true) →
      exec (.descriptorFetchComplete q) s = .next (fetchMore q (v.arrived.foldl (fun s e => readBuffer q v e s) (setQueue q { v with fetched := v.fetched ++ v.arrived, arrived := [] } s)))) ∧
  (∀ (q : QId) (v : Queue) (s : State), s.queue q = some v → v.state = .draining → s.drained q v = true →
      exec (.qDisabled q) s = .next (raise 0x0602 sevI q v.headNow 0 [v.owner] (modQueue q Queue.stopped (notify q (endFrames q s))))) ∧
  (∀ (q : QId) (v : Queue) (s : State), s.queue q = some v → v.unnotified ≠ 0 → v.state ≠ .error → s.available v.owner = true →
      exec (.notifyCoalTimeout q) s = .next (notify q (advTo (v.unnotifiedSince + 1000 * v.settings.coalTime) s))) ∧
  (∀ (q : QId) (t slot : Nat) (v : Queue) (desc : List Byte) (d : Option (List Byte)) (s : State), s.queue q = some v → frontEntry qtTunnelOut s v = some (slot, desc, d) → v.cplFull = false → d = none ∨ 96 ≤ bits (descCtrl desc) 0 7 →
      exec (.tunnelOutSend q t) s = .next (finishEntry q slot desc cstBadLength 0 (bits (descCtrl desc) 0 7) 0 (advTo t s))) ∧
  (∀ (q : QId) (t slot : Nat) (v : Queue) (desc : List Byte) (d : Option (List Byte)) (s : State), s.queue q = some v → frontEntry qtTunnelOut s v = some (slot, desc, d) → v.cplFull = false → d.isSome = true → bits (descCtrl desc) 0 7 < 96 → (s.ownerOf .lane (bits (descCtrl desc) 0 7) ≠ v.owner ∨ (s.lane (bits (descCtrl desc) 0 7)).cfg.mode ≠ .ethCam ∨ (s.eth (bits (descCtrl desc) 0 7)).linkUp = false) →
      exec (.tunnelOutSend q t) s = .next (finishEntry q slot desc (if s.ownerOf .lane (bits (descCtrl desc) 0 7) ≠ v.owner then cstDenied else cstLinkDown) 0 (bits (descCtrl desc) 0 7) 0 (advTo t s))) ∧
  (∀ (q : QId) (t slot : Nat) (v : Queue) (desc : List Byte) (d : Option (List Byte)) (y : List Byte) (s : State), s.queue q = some v → frontEntry qtTunnelOut s v = some (slot, desc, d) → v.cplFull = false → d = some y → bits (descCtrl desc) 0 7 < 96 → s.ownerOf .lane (bits (descCtrl desc) 0 7) = v.owner → (s.lane (bits (descCtrl desc) 0 7)).cfg.mode = .ethCam → (s.eth (bits (descCtrl desc) 0 7)).linkUp = true →
      exec (.tunnelOutSend q t) s = .next (finishEntry q slot desc cstOk y.length (bits (descCtrl desc) 0 7) (max s.now t) (emit (.ethFrame (bits (descCtrl desc) 0 7) (y ++ b32 (fcs32 y))) (advTo t s)))) ∧
  (∀ (q : QId) (t slot : Nat) (v : Queue) (desc : List Byte) (d : Option (List Byte)) (s : State), s.queue q = some v → frontEntry qtSource s v = some (slot, desc, d) → v.cplFull = false → d = none →
      exec (.sourcePacketSend q t) s = .next (finishEntry q slot desc cstBadLength 0 v.settings.lane 0 (advTo t s))) ∧
  (∀ (q : QId) (t slot : Nat) (v : Queue) (desc : List Byte) (d : Option (List Byte)) (y : List Byte) (s : State), s.queue q = some v → frontEntry qtSource s v = some (slot, desc, d) → v.cplFull = false → d = some y → (sourceOk y = false ∨ s.linkUp v.settings.lane = false) →
      exec (.sourcePacketSend q t) s = .next (finishEntry q slot desc (if sourceOk y then cstLinkDown else cstBadPacket) 0 v.settings.lane 0 (advTo t s))) ∧
  (∀ (q : QId) (t slot : Nat) (v : Queue) (desc : List Byte) (d : Option (List Byte)) (y : List Byte) (e : Bool) (w : Nat) (s : State), s.queue q = some v → frontEntry qtSource s v = some (slot, desc, d) → v.cplFull = false → d = some y → sourceOk y = true → s.linkUp v.settings.lane = true → e = (bit (descCtrl desc) 15 && byteAt y 0 / 16 == ptLine) → w = extTime 32 (max s.now t) (u32At y 12) →
      exec (.sourcePacketSend q t) s = .next (if e && decide (max s.now t < w) then advTo t s else finishEntry q slot desc (if e && decide (w < max s.now t) then cstLate else cstOk) y.length v.settings.lane (max s.now t) (sendPacket v.settings.lane y (advTo t s)))) ∧
  (∀ (c : CtxId) (t : Nat) (x : Ctx) (s : State), s.ctx c = some x → x.recs.any (·.phase == .opened) = true → s.steerQueue c = none →
      exec (.frameRecordStart c t) s = .next (refuseRec c (advTo t s))) ∧
  (∀ (c : CtxId) (t q d : Nat) (x : Ctx) (v : Queue) (s : State), s.ctx c = some x → x.recs.any (·.phase == .opened) = true → s.steerQueue c = some q → s.queue q = some v → v.kind = qtFrame → v.state = .enabled → s.available v.owner = true → d = ceilDiv (x.recordLen s) (max 1 v.settings.bufSize) → d ≤ v.posted → d ≤ v.fetched.length →
      exec (.frameRecordStart c t) s = .next (takeRec c q d v (advTo t s))) ∧
  (∀ (c : CtxId) (t q : Nat) (x : Ctx) (v : Queue) (s : State), s.ctx c = some x → x.recs.any (·.phase == .opened) = true → s.steerQueue c = some q → s.queue q = some v → v.kind = qtFrame → v.state = .enabled → s.available v.owner = true → v.posted < ceilDiv (x.recordLen s) (max 1 v.settings.bufSize) →
      exec (.frameRecordStart c t) s = .next (raise 0x0605 sevE q 0 (objectId s.deviceId c x.frameSeq) [v.owner] (countQ q .nobuf (refuseRec c (advTo t s))))) ∧
  (∀ (c : CtxId) (t : Nat) (x : Ctx) (w : FrameWrite) (l : List FrameWrite) (s : State), s.ctx c = some x → x.recs = w :: l → w.isOpen = false → w.phase = .refused →
      exec (.frameRecordClose c t) s = .next (modCtx c (fun x => { x with recs := l }) (advTo t s)))

/-- R275 to R277, R289, R306, R317 to R319, R403. -/
def Obligations.RegisterWritesComplete : Prop :=
  (∀ (f : Fn) (off : Nat) (d : List (Option Byte)) (s : State), s.decodes f = true → off < 0x1000 → barShape off d.length = true →
    ∃ u, exec (.registerWrite f 0 off d) s = .next u ∧
      (u.hp f).intxMask = putField (s.hp f).intxMask 0x1FFF 0x00C (enabled off d) ∧
      (u.hp f).intxStatus = (s.hp f).intxStatus &&& (0xFFFFFFFF ^^^ regBits 0x008 (enabled off d))) ∧
  (∀ (f : Fn) (off : Nat) (d : List (Option Byte)) (s : State), s.decodes f = true → off < 0x400000 → barShape off d.length = true →
    exec (.registerWrite f 2 off d) s = .next (doorbellBlock f (off / 64) (off % 64) d (tlp f s))) ∧
  (∀ (f : Fn) (t : Nat) (s : State), s.decodes f = true → ∃ u, exec (.hbTimeLoRead f t) s = .next u ∧
      u.out = s.out ++ [.readData f (max s.now t % 2 ^ 32)] ∧ (u.hp f).captured = u.clock.t16 ∧ u.now = max s.now t) ∧
  (∀ (f : Fn) (idx : Fin 65536) (lo hi : Option Byte) (s : State) (q : Nat) (v : Queue), s.decodes f = true →
    s.localQueue f idx = some q → s.queue q = some v → v.kind ≠ qtEvent → v.state = .enabled →
    mergeHalf v.recTail lo hi < v.settings.ringSize →
    exec (.qdbTailWrite f idx lo hi) s = .next (fetchMore q
      (setQueue q { v with recTail := mergeHalf v.recTail lo hi, tail := mergeHalf v.recTail lo hi }
        (setQueue q { v with recTail := mergeHalf v.recTail lo hi } (tlp f s))))) ∧
  (∀ (f : Fn) (idx : Fin 65536) (lo hi : Option Byte) (s : State) (q : Nat) (v : Queue), s.decodes f = true →
    s.localQueue f idx = some q → s.queue q = some v → v.state = .enabled → mergeHalf v.recHead lo hi < v.settings.cplSize →
    slotAdd v.settings.cplSize (mergeHalf v.recHead lo hi) (v.settings.cplSize - v.cplHead) ≤ v.cplUsed →
    ∃ w, exec (.qdbCplHeadWrite f idx lo hi) s = .next (fetchMore q
      (setQueue q { v with recHead := mergeHalf v.recHead lo hi, cplHead := mergeHalf v.recHead lo hi, cplWait := w }
        (setQueue q { v with recHead := mergeHalf v.recHead lo hi } (tlp f s))))) ∧
  (∀ (f : Fn) (off : Nat) (d : List Byte) (t : Nat) (s : State) (e : Nat × Queue), s.decodes f = true → s.sys.straps.compat = false →
    off < 0x1000000 → crossesPage off d.length = false → apertureShape off d.length = true →
    (s.queues.find? fun e => e.2.owner == f.val && e.2.settings.aperture == some (off / 4096)) = some e → s.queue e.1 = some e.2 →
    e.2.state = .enabled →
    exec (.decisionApertureWrite f off d t) s = .next (bindAll e.2.owner (d.length / 16) d (tlp f (advTo t s)))) ∧
  (∀ (f : Fn) (w : Fin 16) (v : BitVec 32) (s : State), s.decodes f = true → s.sys.straps.compat = false → bit v.toNat 0 = true →
    ∃ u, exec (.pwCommitWrite f w v) s = .next u ∧ u.win f w =
      (if commitCheck f w (s.win f w) s = 0 then
        { s.win f w with actBase := (s.win f w).base, actSize := (s.win f w).size, actTarget := (s.win f w).target
                         active := bit v.toNat 1, commitErr := false, err := 0 }
      else { s.win f w with commitErr := true, err := commitCheck f w (s.win f w) s })) ∧
  (∀ (f : Fn) (off : Nat) (d : List (Option Byte)) (t : Nat) (s : State) (w : Nat) (x : PeerWin), s.decodes f = true →
    s.sys.straps.compat = false → 0x1000000 ≤ off → off < 0x4000000 → crossesPage off d.length = false → barShape off d.length = true →
    ((s.hp f).wins.find? fun e => e.2.active && decide (e.2.actBase ≤ off ∧ off < e.2.actBase + e.2.actSize)) = some (w, x) →
    bits x.actTarget 30 2 ≠ 1 →
    exec (.peerWindowWrite f off d t) s = .next (doorbellBlock f (bits x.actTarget 0 16 + (off - x.actBase) / 64)
      ((off - x.actBase) % 64) d (tlp f (advTo t s)))) ∧
  (∀ (f : Fn) (r : Fin 8) (b : BitVec 64) (t : Nat) (s : State), s.decodes f = true → s.sys.straps.compat = false →
    (setBits 32 b.toNat) ≠ [] →
    (∀ c ∈ (setBits 32 b.toNat).map (32 * r.val + ·), s.owns f .channel c = true ∧ ((s.chan c).secure = true → f.val = s.sys.trusted)) →
    exec (.wgFireWrite f r b false t) s =
      .next (originate ((setBits 32 b.toNat).map (32 * r.val + ·)) false (tlp f (advTo t s))))

/-- R326, R330, R331, R333. -/
def Obligations.MailboxDoorbellsAct : Prop :=
  (∀ (f : Fn) (m : Mbx) (s : State), s.decodes f = true → s.readyFor f = true → (s.mbx f m).state ≠ .busy →
      (∀ k ∈ s.goOrder ++ [8 * f.val + m.val], s.opKnown (s.mbx (k / 8) (k % 8)).opcode = true) →
      ∃ u, exec (.mbxGo f m) s = .next u ∧ u.mbx f m = { s.mbx f m with state := .busy, aborted := false, genGo := (s.mbx f m).gen } ∧
        u.goOrder = s.goOrder ++ [8 * f.val + m.val]) ∧
  (∀ (f : Fn) (m : Mbx) (s : State), s.decodes f = true → (s.mbx f m).state = .busy →
      exec (.mbxGo f m) s = .next (honey (hoPort f 12) (countHp f .mbxErr (tlp f s)))) ∧
  (∀ (f : Fn) (m : Mbx) (s : State), s.decodes f = true → (s.mbx f m).state = .busy →
      (∀ k ∈ s.goOrder, s.opKnown (s.mbx (k / 8) (k % 8)).opcode = true) →
      ∃ u, exec (.mbxAbort f m) s = .next u ∧ u.mbx f m = { s.mbx f m with abort := true } ∧
        u.goOrder = s.goOrder.filter (· != 8 * f.val + m.val) ∧ ∀ w, s.waiting = some w → w.fn = f → w.mbx = m → u.waiting = none) ∧
  (∀ (f : Fn) (m : Mbx) (s : State), s.decodes f = true → (s.mbx f m).state ≠ .busy →
      ∃ u, exec (.mbxAbort f m) s = .next u ∧ u.mbx f m = { s.mbx f m with gen := ((s.mbx f m).gen + 1) % 256, state := .idle } ∧
        u.goOrder = s.goOrder) ∧
  (∀ (f : Fn) (m : Mbx) (s : State), (s.mbx f m).abort = true → (s.mbx f m).state = .busy → s.sys.ready = true →
      ∃ u, exec (.abortComplete f m) s = .next u ∧
        u.mbx f m = { s.mbx f m with gen := ((s.mbx f m).gen + 1) % 256, abort := false, state := .idle, aborted := true } ∧
        (∀ k, k ≠ 8 * f.val + m.val → u.mbxs.getD k {} = s.mbxs.getD k {}))

/-- R338, R339, R351, 12_commands_setup.md. -/
def Obligations.DeviceCommandsComplete : Prop :=
  (∀ (f : Fn) (m : Mbx) (s : State), Accepted cmdDevGetInfo f m s →
      ∃ u, exec (.devGetInfo f m) s = .next u ∧ Commits s u f m (b32 0x9600 ++ b8 0xB0 ++ b8 (b2n s.sys.gradeI) ++ b16 0 ++ b64 s.sys.serial ++ b32 s.sys.fwVersion
        ++ b32 s.sys.secVersion ++ b32 (strapWord s.sys.straps) ++ b32 (s.fnWord f % 16) ++ b32 s.deviceId ++ b32 (s.hbStatus f)) (s)) ∧
  (∀ (f : Fn) (m : Mbx) (s : State), Accepted cmdDevGetPortStatus f m s →
      let r := s.reqOf f m
      ∃ u, exec (.devGetPortStatus f m) s = .next u ∧ Commits s u f m (b32 (b2n (s.hp (r.u32 0)).up + 2 * b2n (s.available (r.u32 0)) + 4 * (s.hp (r.u32 0)).dstate
        + 256 * ((s.hp (r.u32 0)).width % 16) + 65536 * ((s.hp (r.u32 0)).rate100 % 65536))
        ++ b32 (s.hp (r.u32 0)).maxPayload ++ cntBytes (s.hp (r.u32 0)).counts 0 12) (if r.clear then modHp (r.u32 0) (fun h => { h with counts := cntClear h.counts 0 12 }) s else s)) ∧
  (∀ (f : Fn) (m : Mbx) (s : State) (k : Kind) (n o : Nat), Accepted cmdDevAssign f m s →
      let r := s.reqOf f m
      kindOf (r.u32 0) = some (k, n) →
      ownerWord s (r.u32 8) = some o →
      ∃ u, exec (.devAssign f m) s = .next u ∧ Commits s u f m [] (setOwner k (r.u32 4) o s)) ∧
  (∀ (f : Fn) (m : Mbx) (s : State), Accepted cmdDevGetOwner f m s →
      let r := s.reqOf f m
      ∃ u, exec (.devGetOwner f m) s = .next u ∧ Commits s u f m (b32 (ownerCode (unitOwner s (r.u32 0) (r.u32 4)))) (s))

/-- R268, R271, R290, R291, R293, R296, R298, R458, R461, R462. -/
def Obligations.PortLinkEventsAct : Prop :=
  (∀ (f : Fn) (w r t : Nat) (s : State), s.present f = true → (s.hp f).up = false → (s.hp f).perst = false →
      s.sys.stage ≠ .held → s.sys.stage ≠ .rom → 640 ≤ r →
      let x := withAvail f (modHp f fun h => { h with up := true, width := w, rate100 := r, pm := .l0, lastTlp := max s.now t }) (advTo t s)
      x.maxWidth f ≤ w →
      exec (.hostLinkUp f w r t) s = .next (raise 0x0002 sevI f 0 0 (x.linkTo f) x)) ∧
  (∀ (f : Fn) (w r t : Nat) (s : State), s.present f = true → (s.hp f).up = false → (s.hp f).perst = false →
      s.sys.stage ≠ .held → s.sys.stage ≠ .rom → 
      let x := withAvail f (modHp f fun h => { h with up := true, width := w, rate100 := r, pm := .l0, lastTlp := max s.now t }) (advTo t s)
      (w < x.maxWidth f ∨ r < 640) →
      let y := raise 0x0003 sevW f (w % 65536 + 65536 * (r % 65536)) 0 (x.linkTo f) (honey (hoPort f 4) (countHp f .downtrain x))
      exec (.hostLinkUp f w r t) s = .next (raise 0x0002 sevI f 0 0 (y.linkTo f) y)) ∧
  (∀ (f : Fn) (t : Nat) (s : State), s.present f = true → (s.hp f).up = true →
      exec (.hostLinkDown f t) s = .next (withAvail f (fun s => startReset f (modHp f (fun h => { h with up := false, pm := .l0 }) s))
        (detectFault clsHost f (raise 0x0001 sevE f 0 0 ((honey (hoPort f 0) (countHp f .linkDown (advTo t s))).linkTo f)
          (honey (hoPort f 0) (countHp f .linkDown (advTo t s))))))) ∧
  (∀ (f : Fn) (t : Nat) (s : State), s.present f = true → (s.hp f).up = true → (s.hp f).perst = false →
      exec (.perstAssert f t) s = .next (linkFails f (withAvail f (modHp f fun h => { h with perst := true }) (advTo t s)))) ∧
  (∀ (f : Fn) (t : Nat) (s : State), s.present f = true → (s.hp f).perst = true → s.sys.stage ≠ .held → s.sys.stage ≠ .rom →
      exec (.perstDeassert f t) s = .next (beginTraining f (endWake f (modHp f (fun h => { h with perst := false }) (advTo t s))))) ∧
  (∀ (f : Fn) (t : Nat) (s : State), s.present f = true → (s.hp f).perst = false →
      exec (.flr f t) s = .next (withAvail f (startReset f) (advTo t s))) ∧
  (∀ (f : Fn) (t : Nat) (s : State), (s.hp f).flr = true → s.sys.ready = true →
      exec (.flrComplete f t) s = .next (withAvail f (modHp f fun h => { h with flr := false }) (rdRewrite f (endMailboxes f (modHp f (fun h => { h with wins := [] })
        (((advTo t s).queues.filter fun e => e.2.owner == f.val).foldl (fun s e => destroyQueue e.1 s) (advTo t s))))))) ∧
  (∀ (f : Fn) (k : IdleRequest) (t : Nat) (s : State), s.present f = true → (s.hp f).up = true → (s.hp f).pm = .l0 → (s.hp f).lastTlp + 100000 ≤ max s.now t → (advTo t s).sorting f = false →
      exec (.linkL1Entry f k t) s = .next (emit (.linkRequest f k) (modHp f (fun h => { h with pm := match k with | .l1 => .l1 | .l0p => .l0p }) (advTo t s)))) ∧
  (∀ (c : Bool) (i : Fin 256) (n : Fin 16) (e : SteerEntry) (v : Queue) (b a : Nat) (s : State), (s.steerOf c i)[n.val]? = some e → s.queue e.primary = some v → e.backup = some b → (s.hp v.owner).availSince = some a → e.onBackup = true → e.primaryGone = false → v.state = .enabled → s.available v.owner = true →
      exec (.steerRestore c i n) s = .next (steerEvent true c i n b e.primary (modSteer c i (fun l => l.modify n.val fun x => { x with onBackup := false }) (advTo (a + 1000000) s))))

/-- R283, R284, R285, R287, R288, R289, R290, R455, R463. -/
def Obligations.HostConfigurationAndDmaEventsAct : Prop :=
  (∀ (f : Fn) (off t : Nat) (d : List (Option Byte)) (s : State), s.present f = true → (s.hp f).up = true → (s.hp f).perst = false →
      let x := withAvail f (modHp f (cfgWriteAll s.sys.straps.compat off d)) (tlp f (advTo t s))
      (x.hp f).atsEnable = true → (x.hp f).pmeStatus = true →
      exec (.configWrite f off d t) s = .next (if off ≤ 0x79 ∧ bit ((d.getD (0x79 - off) none).getD 0).toNat 7 = true then
        startFlr f (dmaFlush f (intxUpdate f x)) else dmaFlush f (intxUpdate f x))) ∧
  (∀ (f : Fn) (p a z : Nat) (s : State), (s.hp f).atsEnable = true →
      exec (.translationCompletion f p (.granted a z)) s = .next (dmaFlush f (modHp f (fun h => { h with ats := (h.ats ++ [({ base := p / min 1073741824 (max 4096 z) * min 1073741824 (max 4096 z), size := min 1073741824 (max 4096 z), translated := a / min 1073741824 (max 4096 z) * min 1073741824 (max 4096 z) } : AtsEntry)]).drop (h.ats.length + 1 - 4096) }) s))) ∧
  (∀ (f : Fn) (p : Nat) (s : State), (s.hp f).atsEnable = true → ((s.hp f).missingAt (p / 4096 * 4096)) ≠ [] →
      exec (.translationCompletion f p .refused) s = .next (dmaFlush f (((s.hp f).missingAt (p / 4096 * 4096)).foldl (fun s k => refuseXlat f k s) (countHp f .atsFault s)))) ∧
  (∀ (f : Fn) (b z i : Nat) (s : State),
      ∃ u, exec (.invalidationRequest f b z i) s = .next u ∧ (u.hp f).ats = (s.hp f).ats.filter (fun e => !decide (e.base < b + z ∧ b < e.base + e.size)) ∧
        u.out = s.out ++ [.invalDone f i] ∧ (u.hp f).counts = count (s.hp f).counts HpCnt.atsInv.ctorIdx) ∧
  (∀ (f : Fn) (g t : Nat) (d : List Byte) (r : ReadTag) (s : State), (s.hp f).reads.find? (fun r => r.tag == g) = some r →
      exec (.readCompletionReceived f g .ok d t) s = .next (dmaFlush f (takeRead r.why d (modHp f (fun h => { h with reads := h.reads.filter fun r => r.tag != g }) (tlp f (advTo t s)))))) ∧
  (∀ (f : Fn) (g t : Nat) (d : List Byte) (r : ReadTag) (st : CplStatus) (s : State), (s.hp f).reads.find? (fun r => r.tag == g) = some r → st ≠ .ok →
      exec (.readCompletionReceived f g st d t) s = .next (dmaFlush f (failRead r.why 3 (modHp f (fun h => { h with reads := h.reads.filter fun r => r.tag != g }) (tlp f (advTo t s)))))) ∧
  (∀ (f : Fn) (g : Nat) (r : ReadTag) (s : State), (s.hp f).reads.find? (fun r => r.tag == g) = some r →
      exec (.completionTimeout f g) s = .next (failRead r.why 2 (logAer f .completionTimeout (countHp f .cplTimeout (modHp f (fun h => { h with
        reads := h.reads.filter fun r => r.tag != g, quarantine := h.quarantine.put g ((advTo (r.issued + (s.hp f).cplTimeout) s).now + 2 * h.cplTimeout, true) })
        (advTo (r.issued + (s.hp f).cplTimeout) s)))))) ∧
  (∀ (f : Fn) (g : Nat) (e : Nat × Bool) (s : State), (s.hp f).quarantine.find g = some e →
      exec (.tagQuarantineEnd f g) s = .next (dmaFlush f (modHp f (fun h => { h with quarantine := h.quarantine.erase g }) (advTo e.1 s))))

/-- R362, R396, R398, R399, R400, R405. -/
def Obligations.WaggleCommandsComplete : Prop :=
  (∀ (f : Fn) (m : Mbx) (s : State), Accepted cmdWgConfigure f m s →
      let r := s.reqOf f m
      ∃ u, exec (.wgConfigure f m) s = .next u ∧ Commits s u f m [] (modChan (r.u32 0) (fun v => { v with producer := optWord (r.u32 4), edge := r.u32 8, delay := r.u32 0xC, divider := r.u32 0x10, oneshot := r.u32 0x14 == 1, minInterval := r.u32 0x18, secure := r.u32 0x1C == 1, enable := r.u32 0x20 == 1, divSeen := 0 }) s)) ∧
  (∀ (f : Fn) (m : Mbx) (s : State), Accepted cmdWgConnect f m s →
      let r := s.reqOf f m
      ∃ u, exec (.wgConnect f m) s = .next u ∧ Commits s u f m [] (modWgInput (wgKey (r.u32 0 / 65536) (r.u32 0 % 256) (r.u32 4 / 2)) (fun v => if r.u32 4 % 2 = 0 then { v with a := optWord (r.u32 8) } else { v with b := optWord (r.u32 8) }) s)) ∧
  (∀ (f : Fn) (m : Mbx) (s : State), Accepted cmdWgSetGroup f m s →
      let r := s.reqOf f m
      ∃ u, exec (.wgSetGroup f m) s = .next u ∧ Commits s u f m [] (modWgGroup (r.u32 0) (fun _ => { onCh := optWord (r.u32 4), offCh := optWord (r.u32 8), enabled := r.u32 0xC == 1 }) s)) ∧
  (∀ (f : Fn) (m : Mbx) (s : State), Accepted cmdWgExport f m s →
      let r := s.reqOf f m
      bit (r.u32 8) 1 = false ∨ bit (r.u32 8) 0 = true →
      ∃ u, exec (.wgExport f m) s = .next u ∧ Commits s u f m [] (modChan (r.u32 0) (fun v => { v with xport := if bit (r.u32 8) 1 then some { device := r.u32 4, broadcast := bit (r.u32 8) 0, remote := r.u32 0xC, d := if r.u32 0x10 = 0 then 4000 else r.u32 0x10 } else none }) s)) ∧
  (∀ (f : Fn) (m : Mbx) (s x : State), Accepted cmdWgExport f m s →
        let r := s.reqOf f m
        bit (r.u32 8) 1 = true → bit (r.u32 8) 0 = false → r.u32 4 ≠ s.deviceId →
        sendRemote (r.u32 4) r.fn 0x0004 0 r.tag (b32 5 ++ b32 (r.u32 0xC)) s = (true, x) →
        exec (.wgExport f m) s = .next { x with waiting := some { fn := r.fn, mbx := r.mbx, since := s.now, what := .owners (r.u32 4) 5 [r.u32 0xC] } }) ∧
  (∀ (f : Fn) (m : Mbx) (s : State) (k : Nat), Accepted cmdWgGetStatus f m s →
      let r := s.reqOf f m
      bits (r.u32 0) 30 2 = 1 →
      k = statusKey (r.u32 0) →
      ∃ u, exec (.wgGetStatus f m) s = .next u ∧ Commits s u f m (b32 (b2n (s.wgInput k).a.isSome + 2 * b2n (s.wgInput k).b.isSome) ++ cntBytes (s.wgInput k).counts 0 3 ++ b64 (s.wgInput k).last) (if r.clear then modWgInput k (fun v => { v with counts := cntClear v.counts 0 3 }) s else s)) ∧
  (∀ (f : Fn) (m : Mbx) (s : State) (c : Nat) (v : WgChan), Accepted cmdWgGetStatus f m s →
      let r := s.reqOf f m
      bits (r.u32 0) 30 2 = 0 →
      c = bits (r.u32 0) 0 8 →
      v = s.chan c →
      ∃ u, exec (.wgGetStatus f m) s = .next u ∧ Commits s u f m (b32 (b2n v.enable + 2 * b2n v.loop + 4 * b2n (s.wgGroup (c / 8)).enabled + 8 * b2n v.xport.isSome) ++ cntBytes v.counts 0 3 ++ b64 v.lastFire) (if r.clear then modChan c (fun v => { v with counts := cntClear v.counts 0 3, loop := false }) s else s)) ∧
  (∀ (f : Fn) (m : Mbx) (s : State) (c : Nat) (v : WgChan), Accepted cmdWgGetStatus f m s →
      let r := s.reqOf f m
      bits (r.u32 0) 30 2 = 2 →
      c = bits (r.u32 0) 0 8 →
      v = s.chan c →
      ∃ u, exec (.wgGetStatus f m) s = .next u ∧ Commits s u f m (b32 (b2n v.xport.isSome + 2 * (match v.xport with | some x => b2n x.broadcast | none => 0)) ++ cntBytes v.counts 3 3 ++ b64 v.lastImport) (if r.clear then modChan c (fun v => { v with counts := cntClear v.counts 3 3 }) s else s))

/-- R394, R396, R401, R403, R407. -/
def Obligations.WaggleEventsAct : Prop :=
  (∀ (p : Nat) (rise : Bool) (t : Nat) (l : List Nat) (s : State), l = (s.wag.chans.filter fun c => c.2.producer == some p && (!wgLevel p || c.2.edge == 2 || (c.2.edge == 0 && rise) || (c.2.edge == 1 && !rise))).map (·.1) →
      exec (.producerOccurrence p rise t) s = .next (if l.isEmpty then advTo t s else originate l true (advTo t s))) ∧
  (∀ (c : Chan) (h : Nat) (l : List Nat) (x y : State) (s : State), (s.chan c).held = h :: l → x = advTo h (modChan c (fun v => { v with held := l }) s) → y = modChan c (fun v => { v with gens := if v.occTick = some x.tick then v.gens else [], occTick := some x.tick }) { x with wag := { x.wag with gen := x.wag.gen + 1 } } →
      exec (.channelDelayFire c) s = .next (let p := fireChan c x.wag.gen [] [] y; let q := propagate 1024 p.1 p.2.1 p.2.2; endTick q.1 q.2)) ∧
  (∀ (f : Fn) (i : Fin 8) (b : BitVec 64) (wide : Bool) (t : Nat) (l : List Nat) (s : State), s.decodes f = true → s.sys.straps.compat = false → l = (setBits (if wide && decide (i.val < 7) then 64 else 32) b.toNat).map (32 * i.val + ·) → l ≠ [] → (∀ c ∈ l, s.owns f .channel c = true ∧ ((s.chan c).secure = true → f.val = s.sys.trusted)) →
      exec (.wgFireWrite f i b wide t) s = .next (originate l false (tlp f (advTo t s)))) ∧
  (∀ (src : Nat) (sec : Bool) (body : List Byte) (t : Nat) (s : State), (s.ownerOf .channel (byteAt body 8) ≠ ownHive ∨ ((s.chan (byteAt body 8)).secure = true ∧ sec = false)) →
      exec (.wgImportReceived src sec body t) s = .next (countChan (byteAt body 8) .importDenied (advTo t s))) ∧
  (∀ (src : Nat) (sec : Bool) (body : List Byte) (t : Nat) (s : State), s.ownerOf .channel (byteAt body 8) = ownHive → ((s.chan (byteAt body 8)).secure = true → sec = true) → s.wag.imports.length < 1024 →
      ∃ u, exec (.wgImportReceived src sec body t) s = .next u ∧ u.wag.imports = s.wag.imports ++ [{ id := s.wag.importIds, chan := byteAt body 8, due := u64At body 0, tol := Config.exportD src (byteAt body 9) }] ∧
        (u.chan (byteAt body 8)).lastImport = u64At body 0 ∧ u.now = max s.now t)

/-- R358, R359, R377, R381, R383, R385. -/
def Obligations.TimeCommandsComplete : Prop :=
  (∀ (f : Fn) (m : Mbx) (s : State), Accepted cmdTimeGetStatus f m s →
      ∃ u, exec (.timeGetStatus f m) s = .next u ∧ Commits s u f m (b64 s.now ++ b16 (s.clock.t16 % 65536) ++ b8 (sourceCode s.clock.source) ++ b8 (servoCode s.clock.servo) ++ bs32 s.clock.rate
        ++ bs32 (psOf s.clock.offsetEst) ++ b32 0 ++ bs64 s.clock.extOffset ++ b16 s.clock.extFrac ++ b8 (b2n s.clock.extValid) ++ zeros 5 ++ b64 s.clock.extSince) (s)) ∧
  (∀ (f : Fn) (m : Mbx) (s : State), Accepted cmdTimeSetSource f m s →
      let r := s.reqOf f m
      ∃ u, exec (.timeSetSource f m) s = .next u ∧ Commits s u f m [] (evalSource (modClock (fun c => { c with list := [sourceOf (r.u32 0), sourceOf (r.u32 4)] }) s))) ∧
  (∀ (f : Fn) (m : Mbx) (s : State), Accepted cmdTimeSetExtOffset f m s →
      let r := s.reqOf f m
      ∃ u, exec (.timeSetExtOffset f m) s = .next u ∧ Commits s u f m [] (changeExt (s64At r.body 0) (r.u32 8) 4 s)) ∧
  (∀ (f : Fn) (m : Mbx) (s : State), Accepted cmdTimeSetPps f m s →
      let r := s.reqOf f m
      ∃ u, exec (.timeSetPps f m) s = .next u ∧ Commits s u f m [] (modClock (fun c => { c with ppsEdge := r.u32 0, ppsDelay := r.u32 4, outEnable := r.u32 8 == 1, outWidth := r.u32 0xC, outBase := r.u32 0x10 }) s))

/-- R377, R381, R383, R385. -/
def Obligations.TimeEventsAct : Prop :=
  (∀ (k : TimeSource) (b : Bool) (t : Nat) (s : State), k ≠ .ptp → sourceTurned k b (advTo t s) = true → s.clock.isValid k ≠ b →
      exec (.sourceValidityChange k b t) s = .next (setValid k b (advTo t s))) ∧
  (∀ (b : Bool) (t : Nat) (s : State), sourceTurned .ptp b (advTo t s) = true → s.clock.isValid .ptp ≠ b →
      exec (.sourceValidityChange .ptp b t) s = .next (setValid .ptp b (dropMaster (advTo t s)))) ∧
  (∀ (t : Nat) (k : TimeSource) (s : State), (advTo t s).promotable = some k →
      exec (.sourcePromotion t) s = .next (takeSource k (advTo t s))) ∧
  (∀ (rise : Bool) (t : Nat) (s : State), rise ≠ (s.clock.ppsEdge == 0) →
      exec (.ppsEdge rise t) s = .next (advTo t s)) ∧
  (∀ (rise : Bool) (t : Nat) (s : State), rise = (s.clock.ppsEdge == 0) → s.clock.ppsLast = none →
      exec (.ppsEdge rise t) s = .next (ppsValid ((t : Int) - s.clock.ppsDelay).toNat (advTo t s))) ∧
  (∀ (rise : Bool) (t p d : Nat) (s : State), rise = (s.clock.ppsEdge == 0) → s.clock.ppsLast = some p → d = ((t : Int) - s.clock.ppsDelay).toNat → 999000000 ≤ d - p ∧ d - p ≤ 1001000000 →
      exec (.ppsEdge rise t) s = .next (ppsValid d (setValid .pps true (advTo t s)))) ∧
  (∀ (rise : Bool) (t p d : Nat) (s : State), rise = (s.clock.ppsEdge == 0) → s.clock.ppsLast = some p → d = ((t : Int) - s.clock.ppsDelay).toNat → d - p < 2000000000 → (d - p < 999000000 ∨ 1001000000 < d - p) →
      exec (.ppsEdge rise t) s = .next (if s.clock.ppsRejected then advTo t s else raiseTime 0x0705 sevW (min (d - p) 0xFFFFFFFF) 0 0 (modClock (fun c => { c with ppsRejected := true }) (advTo t s)))) ∧
  (∀ (v : ExtChange) (s : State), earliestExt s.clock.extWaiting = some v →
      exec (.extOffsetApply ) s = .next (applyExt v (modClock (fun c => { c with extWaiting := c.extWaiting.erase v }) (advTo v.since s)))) ∧
  (∀ (t : Nat) (s : State), s.now ≤ t → s.clock.outEnable = true → s.clock.outBase = 0 → t % 1000000000 = 0 → (∀ r, s.clock.ppsRise = some r → r + s.clock.outWidth + 100 ≤ t) →
      exec (.ppsOutRise t) s = .next (emit (.ppsOut true) (modClock (fun c => { c with ppsOut := true, ppsRise := some t }) (advTo t s)))) ∧
  (∀ (t : Nat) (s : State), s.now ≤ t → s.clock.outEnable = true → s.clock.outBase ≠ 0 → s.clock.extEver = true → ((t : Int) + s.clock.extOffset) % 1000000000 = 0 → (∀ r, s.clock.ppsRise = some r → r + s.clock.outWidth + 100 ≤ t) →
      exec (.ppsOutRise t) s = .next (emit (.ppsOut true) (modClock (fun c => { c with ppsOut := true, ppsRise := some t }) (advTo t s)))) ∧
  (∀ (t : Nat) (s : State), s.clock.ppsRise = some t → s.clock.ppsOut = true →
      exec (.ppsOutFall ) s = .next (emit (.ppsOut false) (modClock (fun c => { c with ppsOut := false }) (advTo (t + s.clock.outWidth) s))))

/-- R360, R361, R389. -/
def Obligations.ScheduleCommandsComplete : Prop :=
  (∀ (f : Fn) (m : Mbx) (s : State), Accepted (cmdSchedAdd 0x0710) f m s →
        let r := s.reqOf f m
        let x := (actionOffsets r).foldl (placeNext r) ([], s)
        ∃ u, exec (.schedAdd f m) s = .next u ∧ Commits s u f m (x.1.flatMap fun n => b32 (x.2.handle n)) (x.1.foldl judgeAction x.2)) ∧
  (∀ (f : Fn) (m : Mbx) (s : State), Accepted (cmdSchedCancel 0x0711) f m s →
        let r := s.reqOf f m
        let x := (List.range (r.u32 0)).foldl (cancelNext r) (0, s)
        ∃ u, exec (.schedCancel f m) s = .next u ∧ Commits s u f m (b32 x.1 ++ b32 (r.u32 0 - x.1)) x.2) ∧
  (∀ (f : Fn) (m : Mbx) (s : State), Accepted (cmdSchedGetStatus 0x0712) f m s →
        let r := s.reqOf f m
        ∃ u, exec (.schedGetStatus f m) s = .next u ∧ Commits s u f m
          (b32 s.flightFree ++ b32 (s.placedBy r.fn) ++ (List.range 6).flatMap fun i => b32 (cnt s.flight.counts i) ++ b32 (cnt s.flight.counts (6 + i)))
          (if r.clear then modFlight (fun f => { f with counts := cntClear f.counts 0 12 }) s else s))

/-- R387, R388, R389, R390. -/
def Obligations.ActionsTakeEffect : Prop :=
  (∀ (n d : Nat) (a : Action) (s : State), s.flight.actions.find n = some a → a.cls ≠ .valveOpen → a.cls ≠ .valveClose → s.outranked n a = false → s.mustWake a = false →
      exec (.actionExecute n d) s = .next (runAction n a (advTo (s.due a + d) s))) ∧
  (∀ (n : Nat) (a : Action) (s : State), (freeAction n s).targetOk a = false →
      runAction n a s = schedDrop (classCode a.cls) 2 (s.now - s.due a) a.target ((freeAction n s).actTo a) (freeAction n s)) ∧
  (∀ (n : Nat) (a : Action) (s : State), (freeAction n s).targetOk a = true → a.placedAt + 1000 ≤ s.due a → s.now = s.due a →
      (a.cls = .trigger → runAction n a s = sendEvent ((freeAction n s).head (a.target % 128)) (if bit a.target 12 then 1 else 0) (bits a.target 8 4) a.time
        ((((freeAction n s).flight.actions.filter fun e => sameTrigger e.2 a).map (·.1)).foldl (fun s n => freeAction n s) (freeAction n s))) ∧
      (a.cls = .gpio → runAction n a s = setPin (a.target % 64) (if a.arg = 2 then !((freeAction n s).pin (a.target % 64)).out else a.arg == 1) (freeAction n s)) ∧
      (a.cls = .waggle → runAction n a s = originate [a.target % 256] false (freeAction n s))) ∧
  (∀ (n : Nat) (a : Action) (s : State), (freeAction n s).targetOk a = true → s.due a < s.now → (a.drop = true ∨ a.tol < s.now - s.due a) →
      runAction n a s = schedDrop (classCode a.cls) 1 (s.now - s.due a) a.target ((freeAction n s).actTo a) (freeAction n s)) ∧
  (∀ (n : Nat) (a : Action) (s : State), (freeAction n s).targetOk a = true → s.due a < s.now → a.drop = false → s.now - s.due a ≤ a.tol → (actEffect a (freeAction n s)).1 = true →
      runAction n a s = schedLate (classCode a.cls) (s.now - s.due a) a.target ((freeAction n s).actTo a) (actEffect a (freeAction n s)).2)

/-- Table 16-1 (R412): the sense of a step from (A, B) to (A, B), 0 where it is no single step. -/
def quadStep (a b a' b' : Bool) : Int :=
  match a, b, a', b' with
  | false, false, true, false => 1
  | true, false, true, true => 1
  | true, true, false, true => 1
  | false, true, false, false => 1
  | false, false, false, true => -1
  | true, false, false, false => -1
  | true, true, true, false => -1
  | false, true, true, true => -1
  | _, _, _, _ => 0

/-- R412. -/
def Obligations.QuadratureEdgeCounts : Prop :=
  (∀ (e : EncId) (a b : Bool) (t : Nat) (s : State), (s.enc e).ssi = false → quadStep (s.enc e).a (s.enc e).b a b ≠ 0 →
    ∃ u, exec (.encoderEdge e a b t) s = .next u ∧ (u.enc e).a = a ∧ (u.enc e).b = b ∧
      -2 ^ 47 ≤ (u.enc e).count ∧ (u.enc e).count < 2 ^ 47 ∧
      (∃ k : Int, (u.enc e).count = (s.enc e).count
        + (if (s.enc e).invert then -quadStep (s.enc e).a (s.enc e).b a b else quadStep (s.enc e).a (s.enc e).b a b) + k * 2 ^ 48) ∧
      (u.enc e).down = decide ((if (s.enc e).invert then -quadStep (s.enc e).a (s.enc e).b a b
        else quadStep (s.enc e).a (s.enc e).b a b) < 0) ∧
      (∀ j, j ≠ e.val → u.enc j = s.enc j)) ∧
  (∀ (f : Fn) (m : Mbx) (s : State), Accepted cmdEncGetStatus f m s → ∃ u, exec (.encGetStatus f m) s = .next u ∧
    let v := s.enc ((s.reqOf f m).u32 0)
    Done s u f m (bs64 v.count ++ bs64 v.speed ++ b32 (b2n v.valid + 2 * b2n v.down + 4 * b2n v.still + 8 * b2n v.illegal)
      ++ b32 0 ++ b64 v.lastEdge ++ cntBytes v.counts 0 3))

/-- R413, R415 to R418, R420 to R422. -/
def Obligations.EncoderEventsAct : Prop :=
  (∀ (e : EncId) (a b : Bool) (t : Nat) (s : State), (s.enc e).ssi = false → (s.enc e).a ≠ a → (s.enc e).b ≠ b →
    ∃ u, exec (.encoderEdge e a b t) s = .next u ∧ (u.enc e).a = a ∧ (u.enc e).b = b ∧ (u.enc e).count = (s.enc e).count ∧
      (u.enc e).illegal = true ∧ (u.enc e).edges = [] ∧ (u.enc e).speed = 0 ∧ (u.enc e).valid = false ∧
      (u.enc e).counts = count (s.enc e).counts 0) ∧
  (∀ (e : EncId) (t : Nat) (s : State), (s.enc e).ssi = false →
    ∃ u, exec (.encoderIndex e t) s = .next u ∧
      (u.enc e).count = (if (s.enc e).rezero then 0 else (s.enc e).count) ∧
      (u.enc e).cRef = some (if (s.enc e).rezero then 0 else (s.enc e).cRef.getD (s.enc e).count) ∧
      (u.enc e).counts = (match (s.enc e).cRef with
        | some r => if (s.enc e).indexPeriod = 0 ∨ indexDev (s.enc e).count r (s.enc e).indexPeriod = 0 then (s.enc e).counts
          else count (s.enc e).counts 1
        | none => (s.enc e).counts)) ∧
  (∀ (e : EncId) (t : Nat) (s : State), (s.enc e).ssi = false →
    ∃ u, exec (.speedUpdate e t) s = .next u ∧
      ((u.enc e).speed, (u.enc e).valid) = speedOf (s.enc e).edges (s.enc e).down (max s.now t) ∧
      (u.enc e).count = (s.enc e).count) ∧
  (∀ (e : EncId) (s : State), (s.enc e).still = false →
    ∃ u, exec (.standstill e) s = .next u ∧ (u.enc e).still = true ∧ (u.enc e).speed = 0 ∧ (u.enc e).valid = false ∧
      (u.enc e).edges = [] ∧ (u.enc e).count = (s.enc e).count ∧ (s.enc e).lastEdge + 1000 * (s.enc e).standstill ≤ u.now) ∧
  (∀ (e : EncId) (t : Nat) (s : State), ∃ u, exec (.encoderHistorySample e t) s = .next u ∧
      (u.enc e).hist.head? = some { t := max s.now t, count := (s.enc e).count, speed := (s.enc e).speed, valid := (s.enc e).valid } ∧
      (u.enc e).hist.length ≤ 4096) ∧
  (∀ (e : EncId) (bits : List Bool) (t : Nat) (s : State), (s.enc e).ssi = true →
    ∃ u, exec (.ssiFrame e false bits t) s = .next u ∧ (u.enc e).count = (s.enc e).count ∧
      (u.enc e).counts = count (s.enc e).counts 2) ∧
  (∀ (e : EncId) (bits : List Bool) (t : Nat) (s : State), (s.enc e).ssi = true → bits.getD (s.enc e).ssiBits true = false →
    (∀ x, (s.enc e).ssiLast = some x → (toSigned (s.enc e).ssiBits
      (ssiValue (s.enc e).ssiGray (bits.take (s.enc e).ssiBits) + 2 ^ (s.enc e).ssiBits - x.1)).natAbs ≤ 2 ^ ((s.enc e).ssiBits - 2)) →
    ∃ u, exec (.ssiFrame e true bits t) s = .next u ∧ u.out = s.out ++ [.ssiClock e ((s.enc e).ssiBits + 1)] ∧
      (u.enc e).ssiLast = some (ssiValue (s.enc e).ssiGray (bits.take (s.enc e).ssiBits), t) ∧
      (u.enc e).count = (match (s.enc e).ssiLast with
        | none => wrap48 (ssiValue (s.enc e).ssiGray (bits.take (s.enc e).ssiBits))
        | some x => if toSigned (s.enc e).ssiBits
            (ssiValue (s.enc e).ssiGray (bits.take (s.enc e).ssiBits) + 2 ^ (s.enc e).ssiBits - x.1) = 0 then (s.enc e).count
          else wrap48 ((s.enc e).count + toSigned (s.enc e).ssiBits
            (ssiValue (s.enc e).ssiGray (bits.take (s.enc e).ssiBits) + 2 ^ (s.enc e).ssiBits - x.1))))

/-- R423, R425 to R427. -/
def Obligations.PinAndOutputEventsAct : Prop :=
  (∀ (o : EncId) (t : Nat) (s : State), emuOwes (advTo t s) (s.emu o) ≠ 0 →
    ∃ u, exec (.emulationStep o t) s = .next u ∧ (u.emu o).o = (s.emu o).o + emuOwes (advTo t s) (s.emu o) ∧
      ((u.emu o).a, (u.emu o).b) = quadLevels (((u.emu o).o % 4).toNat) ∧
      (u.emu o).z = (decide (0 < (s.emu o).zEvery) && (u.emu o).o % ((s.emu o).zEvery : Int) == 0) ∧
      u.out.getLast? = some (.emu o (u.emu o).a (u.emu o).b (u.emu o).z) ∧ u.encs = s.encs) ∧
  (∀ (p : Fin 64) (level : Bool) (t : Nat) (s : State), (s.pin p).level ≠ level →
    ∃ u, exec (.gpioEdge p level t) s = .next u ∧ (u.pin p).level = level ∧
      ((s.pin p).mode = .capture → ((s.pin p).edge = 2 ∨ ((s.pin p).edge = 0 ∧ level = true) ∨ ((s.pin p).edge = 1 ∧ level = false)) →
        (u.pin p).capTime = max s.now t ∧ (u.pin p).unread = true ∧
        (u.pin p).capCount = (match (s.pin p).capEnc with | some e => (s.enc e).count | none => 0) ∧
        cnt (u.pin p).counts 0 = cnt (count (s.pin p).counts 0) 0))

/-- Table 12-17. -/
def Obligations.EncoderCommandsComplete : Prop :=
  (∀ (f : Fn) (m : Mbx) (s : State), Accepted cmdEncConfigure f m s → let r := s.reqOf f m; let e := r.u32 0
    ∃ u, exec (.encConfigure f m) s = .next u ∧ Done s u f m [] ∧ (u.enc e).ssi = (r.u32 4 == 1) ∧
      (u.enc e).standstill = r.u32 0x10 ∧ (u.enc e).speed = 0 ∧ (u.enc e).valid = false ∧ (u.enc e).edges = [] ∧
      (u.enc e).cRef = none ∧ (u.enc e).count = (s.enc e).count ∧
      (r.u32 4 = 1 → (u.enc e).ssiBits = r.u32 0x1C ∧ (u.enc e).ssiGray = (r.u32 0x20 == 1) ∧ (u.enc e).ssiClk = r.u32 0x24 ∧
        (u.enc e).ssiPeriod = r.u32 0x28) ∧
      (r.u32 4 ≠ 1 → (u.enc e).filter = r.u32 8 ∧ (u.enc e).invert = (r.u32 0xC == 1) ∧ (u.enc e).rezero = (r.u32 0x14 == 1) ∧
        (u.enc e).indexPeriod = r.u32 0x18) ∧
      (∀ j, j ≠ e → u.enc j = s.enc j)) ∧
  (∀ (f : Fn) (m : Mbx) (s : State), Accepted cmdEncSetCount f m s → let r := s.reqOf f m; let e := r.u32 0
    ∃ u, exec (.encSetCount f m) s = .next u ∧ Done s u f m [] ∧
      u.enc e = { s.enc e with count := s64At r.body 8, cRef := none } ∧ (∀ j, j ≠ e → u.enc j = s.enc j)) ∧
  (∀ (f : Fn) (m : Mbx) (s : State), Accepted cmdEmuConfigure f m s → let r := s.reqOf f m; let o := r.u32 0
    ∃ u, exec (.emuConfigure f m) s = .next u ∧ Done s u f m [] ∧ (u.emu o).source = optWord (r.u32 4) ∧
      (u.emu o).zEvery = r.u32 0x14 ∧ (u.emu o).enable = (r.u32 0x18 == 1) ∧ (u.emu o).o = (s.emu o).o ∧
      (r.u32 4 ≠ wordNone → (u.emu o).n = r.u32 8 ∧ (u.emu o).m = r.u32 0xC) ∧
      (r.u32 4 = wordNone → (u.emu o).rate = s32At r.body 0x10) ∧ (∀ j, j ≠ o → u.emu j = s.emu j)) ∧
  (∀ (f : Fn) (m : Mbx) (s : State), Accepted cmdGpioConfigure f m s → let r := s.reqOf f m; let p := r.u32 0
    ∃ u, exec (.gpioConfigure f m) s = .next u ∧ Done s u f m [] ∧ (u.pin p).mode = pinMode (r.u32 4) ∧
      (u.pin p).filter = r.u32 0xC ∧
      ((pinMode (r.u32 4)).drives = true → (u.pin p).out = (r.u32 8 == 1) ∧ (u.pin p).openDrain = (r.u32 0x18 == 1)) ∧
      (r.u32 4 = 1 → (u.pin p).edge = r.u32 0x10 ∧ (u.pin p).capEnc = optWord (r.u32 0x14)) ∧
      (∀ j, j ≠ p → u.pin j = s.pin j)) ∧
  (∀ (f : Fn) (m : Mbx) (s : State), Accepted cmdGpioWrite f m s → let r := s.reqOf f m
    ∃ u, exec (.gpioWrite f m) s = .next u ∧ Done s u f m [] ∧
      (∀ p, (u.pin p) = (if (setBits 64 (u64At r.body 0)).contains p then { s.pin p with out := bit (u64At r.body 8) p } else s.pin p))) ∧
  (∀ (f : Fn) (m : Mbx) (s : State), Accepted cmdGpioGetStatus f m s → let r := s.reqOf f m
    let lv := b64 (mapOf 64 fun p => s.owns f .gpio p && (s.pin p).reads)
    ∃ u, exec (.gpioGetStatus f m) s = .next u ∧
      (r.u32 0 = wordNone → Done s u f m lv) ∧
      (∀ p, r.u32 0 = p → p ≠ wordNone →
        Done s u f m (lv ++ b64 (s.pin p).capTime ++ bs64 (s.pin p).capCount ++ cntBytes (s.pin p).counts 0 2) ∧
        (u.pin p).unread = false))

/-- R431, R435, R436, R439, R440, R484. -/
def Obligations.HiveElectionAndJoinEventsAct : Prop :=
  (∀ (s : State), s.hive.state = .joining → s.managerCapable = true → s.sys.everReady = true → s.hiveLinks.isEmpty = true →
      exec (.hiveFormAlone ) s = .next (foundHive (advTo (s.sys.readyAt + 500000000) s))) ∧
  (∀ (t : Nat) (s : State), s.hive.listenSince = some t → s.hive.state = .joining → s.managerCapable = true →
      ∃ u, exec (.electionListenEnd ) s = .next u ∧ u.hive = { s.hive with listenSince := none, announceSince := some (max s.now (t + 200000000)), quiet := false } ∧ u.now = max s.now (t + 200000000)) ∧
  (∀ (s : State), s.hive.state = .joining → s.hive.announceSince.isSome = true →
      exec (.announceSend ) s = .next (s.hiveLinks.foldl (fun t h => hsendOn h { htype := 5, hsub := 3, flags := 0, hops := 0, dest := 0, src := 0, seq := s.hive.annSeq, body := b64 s.sys.serial ++ b8 s.hive.priority } t)
        (modHive (fun h => { h with annSeq := (s.hive.annSeq + 1) % 2 ^ 32, relayed := ((s.sys.serial, s.hive.annSeq) :: h.relayed).take 64 }) s))) ∧
  (∀ (l : LaneId) (a p q h : Nat) (s : State), s.hive.state ≠ .standalone →
      exec (.announceReceived l a p q h) s = .next (announced (s.head l) a p q h s)) ∧
  (∀ (t : Nat) (s : State), s.hive.announceSince = some t → s.hive.state = .joining →
      exec (.electionWin ) s = .next (electionDone (foundHive (advTo (t + 300000000) s)))) ∧
  (∀ (l : LaneId) (s : State), s.hive.state = .joining → s.admittedLinks.contains (s.head l) = true → s.hive.joinPending = false → s.hive.retryAt = none → (s.worker = true ∨ (s.hive.listenSince = none ∧ s.hive.announceSince = none)) →
      exec (.joinRequestSend l) s = .next (requestJoin (s.head l) s)) ∧
  (∀ (l : LaneId) (k w : Nat) (ups : List (Nat × Nat)) (nonce : List Byte) (x : State) (s : State), s.hive.state = .manager → x = modHive (fun y => { y with joins := y.joins.filter fun j => j.serial != k }) s → x.hive.joins.length < 64 → x.worstOf (x.parentOf ups) < 4 →
      exec (.joinRequestReceived l k w ups nonce) s = .next (sendJoin (s.head l) 1 k (nonce ++ b64 x.sys.serial) (modHive (fun y => { y with joins := y.joins ++ [{ serial := k, link := s.head l, role := w, ups := ups, nonce := nonce, since := x.now }] }) x))) ∧
  (∀ (l : LaneId) (k w : Nat) (ups : List (Nat × Nat)) (nonce : List Byte) (x : State) (s : State), s.hive.state = .manager → x = modHive (fun y => { y with joins := y.joins.filter fun j => j.serial != k }) s → 64 ≤ x.hive.joins.length ∨ 4 ≤ x.worstOf (x.parentOf ups) →
      exec (.joinRequestReceived l k w ups nonce) s = .next (refuseJoin (s.head l) k (if 64 ≤ x.hive.joins.length then 5 else 2) x)) ∧
  (∀ (l : LaneId) (nonce : List Byte) (k : Nat) (s : State), s.hive.state = .joining → s.hive.joinPending = true → s.hive.uplink = some (s.head l) →
      exec (.joinChallengeReceived l nonce k) s = .next (hsendLink (s.head l) 1 2 hfUp (b64 s.sys.serial ++ Config.sm2Sign (nonce ++ b64 s.sys.serial ++ b64 k) ++ Config.identityCert) (modHive (fun x => { x with managerSerial := k }) s))) ∧
  (∀ (l : LaneId) (k n : Nat) (sig cert key : List Byte) (j : Join) (s : State), s.hive.state = .manager → (s.hive.joins.find? fun j => j.serial == k) = some j → Config.certKey (imageSection s.trust.running 2) cert = some (n, key) → n = k → Config.sm2Verify [] key (j.nonce ++ b64 k ++ b64 s.sys.serial) sig = true →
      exec (.joinResponseReceived l k sig cert) s = .next (if !s.policyAdmits k then refuseJoin (s.head l) k 4 s else match s.pickId k with | none => refuseJoin (s.head l) k 3 s | some id => acceptJoin j id s)) ∧
  (∀ (l : LaneId) (k : Nat) (sig cert : List Byte) (j : Join) (s : State), s.hive.state = .manager → (s.hive.joins.find? fun j => j.serial == k) = some j → Config.certKey (imageSection s.trust.running 2) cert = none →
      exec (.joinResponseReceived l k sig cert) s = .next (refuseJoin (s.head l) k 1 s)) ∧
  (∀ (l : LaneId) (i d p w : Nat) (b : Bool) (s : State), s.hive.state = .joining → s.hive.joinPending = true → s.hive.uplink = some (s.head l) →
      exec (.joinAcceptReceived l i d p w b) s = .next (completeJoin (modHive (fun x => { x with accepted := some { id := i, depth := d, parent := p, uplink2 := if w < 96 then some w else none, standby := b } }) s))) ∧
  (∀ (l : LaneId) (k : Nat) (s : State), s.hive.state = .joining → s.hive.joinPending = true → s.hive.uplink = some (s.head l) →
      ∃ u, exec (.joinRefuseReceived l k) s = .next u ∧ u.hive = { s.hive with joinPending := false, accepted := none, refusal := k, retryAt := some (s.now + (if k = 5 then 100000000 else 10000000000)) }) ∧
  (∀ (t h : Nat) (x : State) (s : State), s.hive.retryAt = some t → s.hive.uplink = some h → x = modHive (fun x => { x with retryAt := none }) (advTo t s) → s.hive.state = .joining → x.admittedLinks.contains h = true →
      exec (.joinRetry ) s = .next (requestJoin h x))

/-- R116, R381, R438, R441, R445, R446, R447, R448, R449, R450, R452, R453. -/
def Obligations.HiveLinkAndMessageEventsAct : Prop :=
  (∀ (t : Nat) (s : State), s.hive.state = .manager →
      exec (.aliveSend t) s = .next (s.hiveLinks.foldl (fun x h => sendAlive s.sys.serial h x) (advTo t s))) ∧
  (∀ (l : LaneId) (k t : Nat) (s : State), s.hive.state = .joining →
      ∃ u, exec (.aliveReceived l k t) s = .next u ∧ u.hive = { s.hive with listenSince := none, announceSince := none, quiet := true, managerSerial := k } ∧ u.now = max s.now t) ∧
  (∀ (l : LaneId) (k t : Nat) (s : State), s.hive.state = .manager → k ≠ s.sys.serial → (s.hiveLink (s.head l)).foreign = false →
      exec (.aliveReceived l k t) s = .next (refuseLink (s.head l) 2 k (modHiveLink (s.head l) (fun k => { k with foreign := true }) (advTo t s)))) ∧
  (∀ (t : Nat) (s : State), s.hive.state = .manager →
      exec (.uplinkLoss t) s = .next (loseMembers (advTo t s).cutOff (advTo t s))) ∧
  (∀ (t : Nat) (s : State), s.hive.state = .member → s.uplinkInForce = none →
      exec (.uplinkLoss t) s = .next (dropUplink (advTo t s))) ∧
  (∀ (t : Nat) (s : State), s.hive.state = .standby → s.uplinkInForce = none → s.hive.lostAt = none →
      ∃ u, exec (.uplinkLoss t) s = .next u ∧ u.hive = { s.hive with lostAt := some (max s.now t) } ∧ u.now = max s.now t) ∧
  (∀ (l : LaneId) (d : Nat) (b : Bool) (s : State), s.routeTo d = some (s.head l) →
      exec (.rerouteReceived l d b) s = .next (s)) ∧
  (∀ (l : LaneId) (d : Nat) (b : Bool) (x : State) (s : State), s.hive.state = .manager → s.routeTo d ≠ some (s.head l) → x = modHive (fun y => { y with flipped := if b then y.flipped.filter (· != d) else y.flipped.filter (· != d) ++ [d] }) s → x.routeTo d = some (s.head l) →
      exec (.rerouteReceived l d b) s = .next (raise 0x0A06 sevW d (s.head l + 2147483648 * b2n b) 0 [s.sys.trusted] x)) ∧
  (∀ (t h : Nat) (y z : State) (s : State), s.hive.uplink = some h → s.isMember = true → s.hive.switched = true → s.linkUp h = true → s.admitted h = true →
      (s.lane h).dataAt + 1000000 ≤ max s.now t → y = sendReroute h true (modHive (fun x => { x with switched := false }) (advTo t s)) →
      z = (y.bondLanes h).foldl (fun s l => resolveFault (s.laneClass l) l s) y →
      exec (.uplinkRestore t) s = .next (raise 0x0A06 sevW z.deviceId (h + 2147483648) 0 [z.sys.trusted] z)) ∧
  (∀ (t d : Nat) (x y : State) (s : State), s.hive.lostAt = some d → s.hive.state = .standby → s.hive.reportedReady = true → d + 4000 ≤ max s.now t → s.hive.lastAlive ≤ d →
      x = modHive (fun x => { x with ids := x.mirror.map fun p => (p.1, p.2, none) }) (advTo t s) →
      y = modHive (fun v => { v with ids := x.hive.ids, members := v.routes.filterMap fun r => (x.hive.ids.find? fun e => e.2.1 == r.dest).map fun e => { id := r.dest, serial := e.1, parent := (becomeManager x.deviceId x).deviceId, depth := r.hops, worst := r.hops, role := 1, parent2 := none, faults := 0 } }) (becomeManager x.deviceId x) →
      ∃ z, z = y.hiveLinks.foldl (fun s h => sendAlive s.sys.serial h s) (setWorst y) ∧
        exec (.standbyTakeover t) s = .next (chooseStandby (detectFault clsManager s.hive.managerId (raise 0x0A07 sevW z.deviceId s.hive.managerId 0 z.functions z)))) ∧
  (∀ (s : State), s.hive.state = .manager → s.hive.standbyId.isSome = true →
      exec (.standbyReady ) s = .next (electionDone (modHive (fun x => { x with mirrorDone := true }) s))) ∧
  (∀ (s : State), s.hive.state = .member → s.managerCapable = true → s.hive.willing = true → s.hive.mirrorDone = true →
      exec (.standbyReady ) s = .next (hiveChanged (modHive (fun x => { x with state := .standby, standbyId := some s.deviceId, reportedReady := true }) s))) ∧
  (∀ (l : List (Nat × Nat)) (a b c : Nat) (w : Bool) (s : State), s.isMember = true →
      ∃ u, exec (.mirrorReceived l a b c w) s = .next u ∧ u.hive.mirror = (s.hive.mirror.filter fun p => !(l.any fun q => q.1 == p.1)) ++ l ∧ u.hive.mirrorDone = (s.hive.mirrorDone || w) ∧
        (s.clock.extSince < c → c ≤ s.now → u.clock.extOffset = toSigned 64 a ∧ u.clock.extFrac = b ∧ u.clock.extSince = c)) ∧
  (∀ (o : BitVec 64) (r : BitVec 16) (k t : Nat) (s : State), s.isMember = true → max s.now t < k →
      ∃ u, exec (.extOffsetMsgReceived o r k t) s = .next u ∧ u.clock.extWaiting = s.clock.extWaiting ++ [{ since := k, offset := toSigned 64 o.toNat, frac := r.toNat, reason := 5 }] ∧ u.now = max s.now t) ∧
  (∀ (d w : Nat) (b : List Byte) (s : State), s.hive.state = .manager → w = 1 →
      exec (.faultSummaryReceived d w b) s = .next (raise 0x0A0A sevE d (u16At b 0) (u64At b 2) [s.sys.trusted] s)) ∧
  (∀ (d w : Nat) (b : List Byte) (s : State), s.hive.state = .manager → w ≠ 1 →
      exec (.faultSummaryReceived d w b) s = .next (raise 0x0A09 sevE d (u16At b 0 + 65536 * u16At b 2) 0 [s.sys.trusted] (modHive (fun x => { x with members := x.members.map fun m => if m.id = d then { m with faults := u16At b 2 } else m }) s))) ∧
  (∀ (d : Nat) (b : List Byte) (s : State), s.hive.state = .manager →
      exec (.honeySummaryReceived d b) s = .next (logNow 0x0C86 sevI d (u32At b 8) (u16At b 0x18) s)) ∧
  (∀ (l : LaneId) (d k : Nat) (s : State), s.inHive = true → d = s.deviceId →
      ∃ u, exec (.cellServerReceived l d k) s = .next u ∧ u.hive = { s.hive with cellRoutes := s.hive.cellRoutes.put d (s.head l), cellServer := some k }) ∧
  (∀ (l : LaneId) (d : Nat) (b : List Byte) (q : Nat × Nat) (s : State), s.inHive = true → s.serves' d = some q →
      exec (.cellForward l d b) s = .next (cellFragment q.2 q.1 d b (honey (hoHive 8)) s)) ∧
  (∀ (l : LaneId) (d k : Nat) (b : List Byte) (s : State), s.inHive = true → s.serves' d = none → s.hive.cellRoutes.find d = some k → k ≠ s.head l →
      exec (.cellForward l d b) s = .next (queuePacket k { ptype := ptCell, vc := byteAt b 0 % 16, bytes := b } s)) ∧
  (∀ (l : LaneId) (m : HMsg) (s : State), s.inHive = true → s.admitted (s.head l) = true → hmsgLen m = true → hopByHop m = false → s.goesOn m = false → s.forMe (s.head l) m = true →
      exec (.hmsgForward l m) s = .next (arrive (s.head l) m s)) ∧
  (∀ (l : LaneId) (m : HMsg) (s : State), s.inHive = true → s.admitted (s.head l) = true → hmsgLen m = true → hopByHop m = false → s.goesOn m = true → s.forMe (s.head l) m = false → m.hops < 8 →
      exec (.hmsgForward l m) s = .next ((hroute { m with hops := m.hops + 1 } (some (s.head l)) s).2)) ∧
  (∀ (l : LaneId) (m : HMsg) (s : State), s.inHive = true → s.admitted (s.head l) = true → hmsgLen m = true → hopByHop m = false → s.goesOn m = true → s.forMe (s.head l) m = false → 8 ≤ m.hops →
      exec (.hmsgForward l m) s = .next (hmsgDrop s))

/-- R354, R363, R366, R367, R436, R438, R451, R466. -/
def Obligations.HiveCommandsComplete : Prop :=
  (∀ (f : Fn) (m : Mbx) (s : State), Accepted cmdHiveGetStatus f m s →
      ∃ u, exec (.hiveGetStatus f m) s = .next u ∧ Commits s u f m (b8 (hiveCode s.hive.state) ++ b8 s.hive.depth ++ b8 s.hiveLinks.length ++ b8 0 ++ absentOr (if s.inHive then some s.deviceId else none) ++ absentOr (if s.inHive then some s.hive.managerId else none) ++ absentOr (if s.hive.state = .standby then some s.deviceId else if s.hive.state == .manager && s.hive.mirrorDone then s.hive.standbyId else none) ++ absentOr (if s.inHive then s.hive.uplink else none) ++ absentOr (if s.inHive then s.hive.uplink2 else none) ++ absentOr (if s.hive.state == .manager then some (s.hive.members.length + 1) else none)) (s)) ∧
  (∀ (f : Fn) (m : Mbx) (s : State) (l : List (Nat × List Byte)), Accepted cmdHiveListDevices f m s →
      let r := s.reqOf f m
      l = s.listDevices.foldl (fun l x => insertRecord x l) [] →
      ∃ u, exec (.hiveListDevices f m) s = .next u ∧ Commits s u f m (b32 l.length ++ b32 ((l.drop (r.u32 0)).take (r.u32 4)).length ++ ((l.drop (r.u32 0)).take (r.u32 4)).flatMap (·.2)) (bumpFree s)) ∧
  (∀ (f : Fn) (m : Mbx) (s : State), Accepted cmdHiveSetPolicy f m s →
      let r := s.reqOf f m
      ∃ u, exec (.hiveSetPolicy f m) s = .next u ∧ Commits s u f m [] (modHive (fun h => { h with priority := r.u32 0, willing := r.u32 4 == 1 }) s)) ∧
  (∀ (f : Fn) (m : Mbx) (s : State), Accepted cmdHiveResetDevice f m s →
      let r := s.reqOf f m
      r.u32 0 = s.deviceId →
      ∃ u, exec (.hiveResetDevice f m) s = .next u ∧ Starts s u f m [] (resetLater 0 100000 (hold (.device (r.u32 0)) (modHive (fun h => { h with resets := h.resets.put (r.u32 0) r.fn }) s)))) ∧
  (∀ (f : Fn) (m : Mbx) (s : State) (x : State), Accepted cmdHiveResetDevice f m s →
      let r := s.reqOf f m
      r.u32 0 ≠ s.deviceId →
      (s.member (r.u32 0)).isSome = true →
      hsend 5 6 0 (r.u32 0) (b8 (r.u32 4)) s = (true, x) →
      ∃ u, exec (.hiveResetDevice f m) s = .next u ∧ Starts s u f m [] (hold (.device (r.u32 0)) (modHive (fun h => { h with resets := h.resets.put (r.u32 0) r.fn }) x))) ∧
  (∀ (f : Fn) (m : Mbx) (s : State) (q : Option Nat) (im : List Byte), Accepted cmdFwDistribute f m s →
      let r := s.reqOf f m
      q = (if r.u32 0 = wordNone then none else some (r.u32 0)) →
      im = (s.trust.slot s.inactive).image →
      (r.u32 0 = wordNone ∨ (s.member (r.u32 0)).isSome = true) →
      ∃ u, exec (.fwDistribute f m) s = .next u ∧ Starts s u f m [] (hold .distribute (modHive (fun h => { h with dist := some { fn := r.fn, slot := s.inactive, target := q, activate := r.u32 4, waiting := (match q with | some x => [x] | none => h.members.map (·.id)), verified := 0, failed := 0, rounds := [] } })
        (sendUpdate q 2 (b8 (r.u32 4)) (sendRange q im 0 (imageLen im) (sendUpdate q 0 (b32 (imgVersion im) ++ b32 (imgSvn im) ++ b32 (imageLen im)) s)))))) ∧
  (∀ (f : Fn) (m : Mbx) (s x : State), Accepted cmdHiveRemote f m s →
        let r := s.reqOf f m
        r.u32 0 ≠ s.deviceId → hsend 5 4 0 (r.u32 0) (b8 r.fn ++ r.body.drop 8) s = (true, x) →
        exec (.hiveRemote f m) s = .next { x with waiting := some { fn := r.fn, mbx := r.mbx, since := s.now, what := .remote (r.u32 0) s.hive.seq } })

/-- R354, R363, R367, R442, R451, R452, R466. -/
def Obligations.HiveWorkEventsAct : Prop :=
  (∀ (d k q : Nat) (s : State), s.hive.resets.find d = some q → s.hive.state = .manager → (s.member d).isSome = true → s.sys.ready = true →
      exec (.hiveResetDone d k) s = .next (release (.device d) (raise 0x0A01 sevI d k 0 [q] (modHive (fun h => { h with resets := h.resets.erase d }) s)))) ∧
  (∀ (k : Nat) (s : State), s.isMember = true →
      ∃ u, exec (.hiveResetReceived k) s = .next u ∧ u.sys = { s.sys with later := some { kind := if k = 0 then 0 else 3, due := s.now } }) ∧
  (∀ (b : List Byte) (s : State), s.isMember = true → s.sys.ready = true → s.hive.update.isNone = false → slotSize s.inactive < u32At b 8 →
      exec (.updateReceived 0 b) s = .next (sendResult stAuthFail [] s)) ∧
  (∀ (b : List Byte) (v : UpdateRx) (s : State), s.isMember = true → s.sys.ready = true → s.hive.update = some v →
      ∃ u, exec (.updateReceived 1 b) s = .next u ∧ u.hive = { s.hive with update := some { v with spans := v.spans ++ [(u32At b 0, (b.drop 4).length)] } } ∧
        u.sys = { s.sys with fwWaiting := s.sys.fwWaiting ++ [(s.inactive, u32At b 0, b.drop 4)] }) ∧
  (∀ (b : List Byte) (v : UpdateRx) (s : State), s.isMember = true → s.sys.ready = true → s.hive.update = some v → ((gaps v.spans v.length (2 * v.spans.length + 2) 0).take 64).isEmpty = false →
      exec (.updateReceived 2 b) s = .next (sendResult stInProgress ((gaps v.spans v.length (2 * v.spans.length + 2) 0).take 64) (modHive (fun h => { h with update := some { v with activate := byteAt b 0 } }) s))) ∧
  (∀ (b : List Byte) (v : UpdateRx) (s : State), s.isMember = true → s.sys.ready = true → s.hive.update = some v → ((gaps v.spans v.length (2 * v.spans.length + 2) 0).take 64).isEmpty = true →
      exec (.updateReceived 2 b) s = .next (modTrust (fun t => { t with writing := t.writing.put s.inactive { fn := 5, taken := v.length, committed := true } }) (modHive (fun h => { h with update := some { v with activate := byteAt b 0 } }) s))) ∧
  (∀ (d k : Nat) (l : List (Nat × Nat)) (v : Dist) (s : State), s.hive.dist = some v → s.hive.state = .manager → v.waiting.contains d = true → (l = [] ∨ 3 ≤ v.rounds.getD d 0) →
      ∃ u, exec (.updateResultReceived d k l) s = .next u ∧ u.hive = { s.hive with dist := some { v with waiting := v.waiting.filter (· != d), verified := if l = [] ∧ k = 0 then v.verified + 1 else v.verified, failed := if l = [] ∧ k = 0 then v.failed else v.failed + 1 } }) ∧
  (∀ (d k : Nat) (l : List (Nat × Nat)) (v : Dist) (s : State), s.hive.dist = some v → s.hive.state = .manager → v.waiting.contains d = true → l.isEmpty = false → v.rounds.getD d 0 < 3 →
      exec (.updateResultReceived d k l) s = .next (sendUpdate (some d) 2 (b8 v.activate) (modHive (fun h => { h with dist := some { v with rounds := v.rounds.put d (v.rounds.getD d 0 + 1) } }) ((l.take 64).foldl (fun y p => sendRange (some d) (s.trust.slot v.slot).image p.1 p.2 y) s)))) ∧
  (∀ (v : Dist) (s : State), s.hive.dist = some v → s.sys.ready = true → (∀ i ∈ v.waiting, s.member i = none) →
      exec (.fwDistributed ) s = .next (release .distribute (raise 0x0B02 (if v.failed + v.waiting.length = 0 then sevI else sevW) v.verified (v.failed + v.waiting.length) 0 [v.fn] (modHive (fun h => { h with dist := none }) s)))) ∧
  (∀ (d k : Nat) (b : List Byte) (s : State), s.inHive = true → (s.sys.ready = false ∨ s.hive.vc3.isEmpty = false ∨ remoteMay (u16At b 0) s = false) →
      ∃ u, exec (.remoteReqReceived d k b) s = .next u ∧ u.hive = { s.hive with vc3 := s.hive.vc3 ++ [(0, remoteMsg d k b s)] }) ∧
  (∀ (d k : Nat) (b : List Byte) (s : State), s.inHive = true → s.sys.ready = true → s.hive.vc3.isEmpty = true → remoteMay (u16At b 0) s = true → remoteFits b = true →
      exec (.remoteReqReceived d k b) s = .next (remoteServe (remoteCall d k b) s)) ∧
  (∀ (d n : Nat) (b : List Byte) (w : Waiting) (r : Req) (s : State), s.inHive = true → s.sys.ready = true → s.waiting = some w → s.waitReq w = some r → s.waitOp w = 0x0A05 → u32At b 4 = u32At r.body 12 → w.what = .remote d n →
      exec (.remoteRespReceived d b) s = .next (nextRequest (respond w.fn w.mbx stOk (byteAt b 1) 0 (overlay b (b8 (byteAt b 0) ++ b8 0)) { s with waiting := none }))) ∧
  (∀ (f : Fn) (m : Mbx) (d n : Nat) (w : Waiting) (s : State), s.waiting = some w → w.fn = f.val → w.mbx = m.val → w.what = .remote d n →
      exec (.hiveRemoteTimeout f m) s = .next (finishWait w (.fail (failSt stHiveUnreachable)) (advTo (w.since + 100000000) s)))

/-- R364, R365, R366, R369, R475, R476, R477, R478, R479, R481, R485. -/
def Obligations.TrustCommandsComplete : Prop :=
  (∀ (f : Fn) (m : Mbx) (s : State), Accepted cmdFwGetStatus f m s →
      ∃ u, exec (.fwGetStatus f m) s = .next u ∧ Commits s u f m (b8 (if s.sys.slot ≤ 1 then s.sys.slot else Config.activeByte s.sys.slot) ++ b8 s.trust.preferred ++ b8 s.trust.validBits ++ b8 0 ++ b32 (slotWord 0 8 s) ++ b32 (slotWord 0 0xC s) ++ b32 (slotWord 1 8 s) ++ b32 (slotWord 1 0xC s) ++ b32 s.trust.fuseSvn) (s)) ∧
  (∀ (f : Fn) (m : Mbx) (s : State), Accepted cmdFwWrite f m s →
      let r := s.reqOf f m
      r.u32 4 = 0 →
      r.u32 0xC ≠ 0 →
      ∃ u, exec (.fwWrite f m) s = .next u ∧ Commits s u f m [] (modTrust (fun t => { t with writing := t.writing.put (r.u32 0) { fn := r.fn, taken := r.u32 8 + r.u32 0xC, committed := false } }) (modSys (fun y => { y with fwWaiting := y.fwWaiting ++ [(r.u32 0, r.u32 8, r.body.drop 16)] }) s))) ∧
  (∀ (f : Fn) (m : Mbx) (s : State), Accepted cmdFwWrite f m s →
      let r := s.reqOf f m
      r.u32 4 = 2 →
      r.u32 0xC ≠ 0 →
      ∃ u, exec (.fwWrite f m) s = .next u ∧ Starts s u f m [] (hold (.fwSlot (r.u32 0)) (modTrust (fun t => { t with writing := t.writing.put (r.u32 0) { fn := r.fn, taken := r.u32 8 + r.u32 0xC, committed := true } }) (modSys (fun y => { y with fwWaiting := y.fwWaiting ++ [(r.u32 0, r.u32 8, r.body.drop 16)] }) s)))) ∧
  (∀ (f : Fn) (m : Mbx) (s : State), Accepted cmdFwActivate f m s →
      let r := s.reqOf f m
      ∃ u, exec (.fwActivate f m) s = .next u ∧ Commits s u f m [] (activate (r.u32 0) (r.u32 4) s)) ∧
  (∀ (f : Fn) (m : Mbx) (k : Nat) (s : State) (x : State), Accepted (cmdFwCommitSvn k) f m s →
      let r := s.reqOf f m
      r.checkOnly = false →
      min 64 (imgSvn s.trust.running) - s.trust.fuseSvn ≤ k →
      x = dropOld (burnFuses s.trust.fuseSvn (min 64 (imgSvn s.trust.running) - s.trust.fuseSvn) s) →
      ∃ u, exec (.fwCommitSvn f m k) s = .next u ∧ Commits s u f m (b32 x.trust.fuseSvn) (raise 0x0B07 sevI x.trust.fuseSvn x.trust.validBits 0 x.functions x)) ∧
  (∀ (f : Fn) (m : Mbx) (k : Bool) (s : State) (x : State), Accepted (cmdTrustSetOwnerPolicy k) f m s →
      let r := s.reqOf f m
      s.trust.ownerHash.isNone = false ∨ k = true →
      x = (takePolicy (r.body.drop 4) (burnHash (r.body.drop 4) s)).functions.foldl (fun s f => rdRewrite f s) (takePolicy (r.body.drop 4) (burnHash (r.body.drop 4) s)) →
      ∃ u, exec (.trustSetOwnerPolicy f m k) s = .next u ∧ Starts s u f m [] (startFlash { item := 3, fn := r.fn, data := r.body.drop 4, opts := none } (raise 0x0B05 sevI 1 x.trustedWord (u32At (r.body.drop 4) 8) x.functions x))) ∧
  (∀ (f : Fn) (m : Mbx) (s : State), Accepted cmdPwrSetBootOptions f m s →
      let r := s.reqOf f m
      ∃ u, exec (.pwrSetBootOptions f m) s = .next u ∧ Starts s u f m [] (startFlash { item := 1, fn := r.fn, data := [], opts := some { merge := r.u32 0, subVendor := r.u32 4 % 65536, subId := r.u32 4 / 65536, slot := r.u32 8 } } s)) ∧
  (∀ (f : Fn) (m : Mbx) (s : State), Accepted cmdTrustGetCert f m s →
      let r := s.reqOf f m
      ∃ u, exec (.trustGetCert f m) s = .next u ∧ Commits s u f m (b32 (certItem (r.u32 0) s).length ++ ((certItem (r.u32 0) s).drop (r.u32 4)).take (r.u32 8)) (s)) ∧
  (∀ (f : Fn) (m : Mbx) (s : State), Accepted cmdTrustChallenge f m s →
      let r := s.reqOf f m
      ∃ u, exec (.trustChallenge f m) s = .next u ∧ Commits s u f m (sliceAt (Config.random s.freeCtr) 0 32) (bumpFree (modTrust (fun t => { t with nonce := some { purpose := r.u32 0, bytes := sliceAt (Config.random s.freeCtr) 0 32, until' := s.now + 60000000000 } }) s))) ∧
  (∀ (f : Fn) (m : Mbx) (s : State) (k : Nat), Accepted cmdDebugUnlock f m s →
      let r := s.reqOf f m
      s.unlockKey 1 r.body = some k →
      ∃ u, exec (.debugUnlock f m) s = .next u ∧ Commits s u f m [] (raise 0x0B06 sevW k 0 0 s.functions (modTrust (fun t => { t with debug := k }) (useNonce s))))

/-- R355, R364, R366, R368, R474, R526. -/
def Obligations.TrustEventsAct : Prop :=
  (∀ (k o : Nat) (d : List Byte) (l : List (Nat × Nat × List Byte)) (s : State), s.sys.fwWaiting = (k, o, d) :: l → k ≠ 2 →
      exec (.fwPieceProgrammed ) s = .next (emit (.flashWrite (slotRegion k) o d) (modSlot k (fun x => { x with image := putBytes x.image o (d.map some) }) (modSys (fun y => { y with fwWaiting := l }) s)))) ∧
  (∀ (b : Bool) (k : Nat) (w : FwPush) (j : Nat × State) (x : State) (s : State), (s.trust.writing.find? fun (e : Nat × FwPush) => e.2.committed && !(s.sys.fwWaiting.any fun p => p.1 == e.1)) = some (k, w) → w.fn ≠ 5 → j = judgeSlot k b s → x = (if b = true ∧ k ≠ 2 then flashOk k j.2 else j.2) →
      exec (.fwVerified b) s = .next (release (.fwSlot k) (raise 0x0B01 (if j.1 = stOk then sevI else sevE) k j.1 (imgVersion (x.trust.slot k).image + 2 ^ 32 * imgSvn (x.trust.slot k).image) [w.fn] (modTrust (fun t => { t with writing := t.writing.erase k }) x)))) ∧
  (∀ (v : Nonce) (s : State), s.trust.nonce = some v →
      exec (.nonceExpiry ) s = .next (modTrust (fun t => { t with nonce := none }) (advTo v.until' s))) ∧
  (∀ (i : Fin 4) (o : BootOptions) (w : FlashWrite) (l : List FlashWrite) (s : State), s.trust.flashWrites = w :: l → w.item = i.val → w.item = 1 → w.opts = some o →
      exec (.flashWritten i true) s = .next (release (.flashItem w.item) (raise 0x0C01 sevI w.item 0 0 [w.fn] (modTrust (fun t => { t with opts := w.opts }) (flashOk 2 (emit (.flashWrite .bootOptions 0 (optBytes o)) (countErase 5 1 (modTrust (fun t => { t with flashWrites := l }) s)))))))) ∧
  (∀ (i : Fin 4) (w : FlashWrite) (l : List FlashWrite) (s : State), s.trust.flashWrites = w :: l → w.item = i.val → w.item = 2 → w.opts = none →
      exec (.flashWritten i false) s = .next (release (.flashItem w.item) (raise 0x0C01 sevE w.item stHwFault 0 [w.fn] (modTrust (fun t => { t with calFlash := [] }) (emit (.flashWrite .calibration 0 w.data) (countErase 2 1 (modTrust (fun t => { t with flashWrites := l }) s)))))))

/-- R366, R368, R480, R519, R522, R525, R527, R529. -/
def Obligations.KeeperRecordCommandsComplete : Prop :=
  (∀ (f : Fn) (m : Mbx) (s : State), Accepted cmdHealthGetSensors f m s →
      ∃ u, exec (.healthGetSensors f m) s = .next u ∧ Commits s u f m (((List.range 32).flatMap fun i => leBytes 2 (fromSigned 16 (s.keeper.temps.getD i 0))) ++ ((List.range 24).flatMap fun i => b16 (s.keeper.volts.getD i 0)) ++ b64 (s.keeper.tempAlarm + 2 ^ 32 * s.keeper.voltAlarm)) (s)) ∧
  (∀ (f : Fn) (m : Mbx) (s : State), Accepted (cmdLogRead 63) f m s →
      let r := s.reqOf f m
      let k := max (r.u32 0) s.keeper.logBase
      let l := ((s.keeper.log ++ s.keeper.logBuf).drop (k - s.keeper.logBase)).take (min 63 (r.u32 4))
      ∃ u, exec (.logRead f m) s = .next u ∧ Commits s u f m (b32 (k + l.length) ++ b32 l.length ++ b32 s.keeper.logBase ++ b32 0
        ++ (l.zip (List.range l.length)).flatMap fun (e : LogEntry × Nat) => logBytes (k + e.2) e.1) s) ∧
  (∀ (f : Fn) (m : Mbx) (s : State), Accepted cmdHoneyRead f m s →
      let r := s.reqOf f m
      ∃ u, exec (.honeyRead f m) s = .next u ∧ Commits s u f m (b32 0x1BE84 ++ b32 s.keeper.saveSeq ++ ((honeyImage s).drop (r.u32 0)).take (r.u32 4)) (s)) ∧
  (∀ (f : Fn) (m : Mbx) (s : State) (k : Nat), Accepted cmdHoneyReset f m s →
      let r := s.reqOf f m
      s.unlockKey 2 r.body = some k →
      ∃ u, exec (.honeyReset f m) s = .next u ∧ Commits s u f m [] (logNow 0x0C88 sevW s.keeper.saveSeq 0 0 (saveHoney 4 (modKeeper (fun k => { k with honey := k.honey.filter fun e => keptHoney e.1 }) (addSeconds (useNonce s)))))) ∧
  (∀ (f : Fn) (m : Mbx) (s : State), Accepted cmdCalRead f m s →
      let r := s.reqOf f m
      ∃ u, exec (.calRead f m) s = .next u ∧ Commits s u f m (((if s.keeper.cal.isEmpty then zeros 65536 else s.keeper.cal).drop (r.u32 0)).take (r.u32 4)) (s)) ∧
  (∀ (f : Fn) (m : Mbx) (s : State), Accepted cmdCalWrite f m s →
      let r := s.reqOf f m
      bit (r.u32 4) 0 = true →
      bit (r.u32 4) 1 = false →
      ∃ u, exec (.calWrite f m) s = .next u ∧ Commits s u f m [] ({ s with staging := (s.staging.filter fun y => y.table != 3) ++ [{ ctx := 256 + r.fn, table := 3, size := 65536, writes := [(r.u32 8, r.body.drop 16)] }] })) ∧
  (∀ (f : Fn) (m : Mbx) (s : State) (y : StageCopy), Accepted cmdCalWrite f m s →
      let r := s.reqOf f m
      bit (r.u32 4) 0 = false →
      bit (r.u32 4) 1 = true →
      (s.staging.find? fun y => y.table == 3) = some y →
      ∃ u, exec (.calWrite f m) s = .next u ∧ Starts s u f m [] (startFlash { item := 2, fn := r.fn, data := stagedCal (y.writes ++ [(r.u32 8, r.body.drop 16)]), opts := none } (modKeeper (fun k => { k with cal := stagedCal (y.writes ++ [(r.u32 8, r.body.drop 16)]) }) { s with staging := s.staging.filter fun y => y.table != 3 }))) ∧
  (∀ (f : Fn) (m : Mbx) (s : State), Accepted cmdTrustSpdm f m s →
      let r := s.reqOf f m
      r.u32 0 = wordNone →
      ∃ u, exec (.trustSpdm f m) s = .next u ∧ Commits s u f m ((spdm (connLocal r.fn) (r.body.drop 4) s).1) ((spdm (connLocal r.fn) (r.body.drop 4) s).2))

/-- R480, R518, R519, R520, R523, R524, R543. -/
def Obligations.KeeperEventsAct : Prop :=
  (∀ (t : Nat) (s : State), s.sys.ready = true → s.goOrder = [] → s.waiting = none → s.keeper.logBuf = [] → s.faultReports = [] → s.keeper.lastWork + 10000 ≤ max s.now t →
      ∃ u, exec (.keeperSleep t) s = .next u ∧ u.keeper = { s.keeper with asleep := true } ∧ u.now = max s.now t) ∧
  (∀ (x : State) (s : State), s.sys.ready = true → s.sys.stage ≠ .loader → x = keeperWork (modKeeper (fun k => { k with ticks := k.ticks + 1, heartbeat := (k.heartbeat + 1) % 2 ^ 32 }) s) →
      exec (.keeperTick ) s = .next (if x.keeper.ticks % 1000 = 0 then addSeconds ((List.range 32).foldl (fun s i => tempSecond i s) ((List.range 24).foldl (fun s k => combSecond k s) x)) else x)) ∧
  (∀ (ts : List Int) (vs ps : List Nat) (s : State), s.sys.ready = true → s.sys.stage ≠ .loader → s.keeper.ticks % 10 = 0 →
      ∃ u, exec (.sensorSample ts vs ps) s = .next u ∧ u.keeper.temps = (List.range 32).map (fun i => trimTemp s i (ts.getD i 0)) ∧
        u.keeper.volts = (List.range 24).map (fun i => trimVolt s i (vs.getD i (railWindow i).nominal)) ∧ u.keeper.railMw = (List.range 8).map (fun i => ps.getD i 0)) ∧
  (∀ (e : LogEntry) (l : List LogEntry) (s : State), s.sys.ready = true → s.keeper.logReplaced = 0 → s.keeper.logBuf = e :: l →
      exec (.logEntryProgram ) s = .next (programEntry e (modKeeper (fun k => { k with logBuf := l }) s))) ∧
  (∀ (s : State), s.sys.ready = true → 0 < s.keeper.logReplaced →
      exec (.logEntryProgram ) s = .next (programEntry { powerOn := s.keeper.honey.getD hoPowerCycles 0, time := s.now, code := 0x0C87, sev := sevW, timeFree := s.timeFree, p0 := s.keeper.logReplaced, p1 := 0, p2 := 0 } (modKeeper (fun k => { k with logReplaced := 0 }) s))) ∧
  (∀ (s : State), s.sys.ready = true → s.sys.stage ≠ .loader → (∀ d, s.keeper.faultSaveDue = some d → s.keeper.lastSave + 600000000000 < d) →
      exec (.honeySave ) s = .next (saveHoney 1 (advTo (s.keeper.lastSave + 600000000000) s))) ∧
  (∀ (d : Nat) (s : State), s.sys.ready = true → s.sys.stage ≠ .loader → s.keeper.faultSaveDue = some d → d ≤ s.keeper.lastSave + 600000000000 →
      exec (.honeySave ) s = .next (sendHoneySummary (saveHoney 3 (modKeeper (fun k => { k with faultSaveDue := none, lastFaultSave := some (max s.now d) }) (advTo d s))))) ∧
  (∀ (f : Fn) (d : List Byte) (s : State), s.present f = true → (s.hp f).up = true → (s.hp f).perst = false → s.sys.ready = true → s.sys.stage ≠ .loader → 12 ≤ d.length ∧ d.length ≤ 4096 → 4 * (u32At d 4 % 2 ^ 18) = d.length → u16At d 0 = 1 → byteAt d 2 = 0 →
      exec (.doeRequest f d) s = .next (emit (.doe f (doeObject 0 (if byteAt d 8 < 2 then b16 1 ++ b8 (byteAt d 8) ++ b8 (1 - byteAt d 8) else b16 0xFFFF ++ b16 0))) (keeperWork s)))

/-- R369, R371, R503, R544, R547, R551. -/
def Obligations.PowerAndDiagnosticCommandsComplete : Prop :=
  (∀ (f : Fn) (m : Mbx) (s : State), Accepted cmdPwrSetState f m s →
      let r := s.reqOf f m
      r.u32 0 = 0 →
      ∃ u, exec (.pwrSetState f m) s = .next u ∧ Commits s u f m [] (wakeDevice 6 s)) ∧
  (∀ (f : Fn) (m : Mbx) (s : State), Accepted cmdPwrSetState f m s →
      let r := s.reqOf f m
      r.u32 0 ≠ 0 →
      ∃ u, exec (.pwrSetState f m) s = .next u ∧ Commits s u f m [] (enterDevice (r.u32 0 == 2) (r.u32 4) s)) ∧
  (∀ (f : Fn) (m : Mbx) (s : State) (n : LanePower → List Byte), Accepted cmdPwrGetStatus f m s →
      n = (fun p => b8 ((List.range 96).filter fun l => (s.lane l).power == p).length) →
      ∃ u, exec (.pwrGetStatus f m) s = .next u ∧ Commits s u f m (b8 (devCode s.sys.devState) ++ zeros 3 ++ b32 (mapOf 24 s.combGated) ++ n .active ++ n .doze ++ n .sleep ++ n .off ++ b32 0
        ++ b64 (mapOf 62 fun b => (s.bank b).retention) ++ ((List.range 8).map fun i => s.keeper.railMw.getD i 0).flatMap b32 ++ b32 (sumList ((List.range 8).map fun i => s.keeper.railMw.getD i 0))) (s)) ∧
  (∀ (f : Fn) (m : Mbx) (s : State), Accepted cmdDevReset f m s →
      let r := s.reqOf f m
      ∃ u, exec (.devReset f m) s = .next u ∧ Commits s u f m [] (resetLater (r.u32 0) 100000 s)) ∧
  (∀ (f : Fn) (m : Mbx) (s : State), Accepted cmdDiagPrbs f m s →
      let r := s.reqOf f m
      r.u32 4 ≠ 0 →
      ∃ u, exec (.diagPrbs f m) s = .next u ∧ Starts s u f m [] (hold (.prbs (r.u32 0)) (modLink (r.u32 0) (fun k => { k with prbs := some { fn := r.fn, since := s.now, due := s.now + 1000000 * r.u32 4, share := r.u32 8 } }) s))) ∧
  (∀ (f : Fn) (m : Mbx) (s : State), Accepted cmdDiagPrbs f m s →
      let r := s.reqOf f m
      r.u32 4 = 0 →
      ∃ u, exec (.diagPrbs f m) s = .next u ∧ Commits s u f m [] (modLink (r.u32 0) (fun k => { k with prbs := k.prbs.map fun p => { p with due := min p.due s.now } }) s)) ∧
  (∀ (f : Fn) (m : Mbx) (s : State), Accepted cmdDiagBankRead f m s →
      let r := s.reqOf f m
      ∃ u, exec (.diagBankRead f m) s = .next u ∧ Commits s u f m ((List.range (r.u32 8 / 8)).flatMap fun i => b64 (bankRead s (r.u32 0) (r.u32 4 / 8 + i))) (bumpFree (touchWindow (r.u32 0) (r.u32 4 / 8) ((r.u32 4 + r.u32 8) / 8) (wakeBank (r.u32 0) s)))) ∧
  (∀ (f : Fn) (m : Mbx) (s : State), Accepted cmdDiagInject f m s →
      let r := s.reqOf f m
      ∃ u, exec (.diagInject f m) s = .next u ∧ Commits s u f m [] (inject (r.u32 0) (r.u32 4) (r.u32 8) s))

/-- R371, R545, R547, R548. -/
def Obligations.PowerAndDiagnosticEventsAct : Prop :=
  (∀ (t n : Nat) (s : State), s.power.entering = true → s.sys.devState ≠ .run → n = s.power.left + s.power.asked.length →
      exec (.pwrEntryDone t) s = .next (raisePower 0 n { advTo t s with power := { s.power with entering := false, asked := [], left := n } })) ∧
  (∀ (c : Fin 6) (t : Nat) (s : State), c.val < 5 → bit s.power.wakeMask c.val = true →
      exec (.pwrWake c t) s = .next (wakeDevice (c.val + 1) (advTo t s))) ∧
  (∀ (c : Fin 6) (t : Nat) (s : State), bit s.power.wakeMask c.val = false →
      exec (.pwrWake c t) s = .next (advTo t s)) ∧
  (∀ (l : LaneId) (p : PrbsTest) (s : State), (s.link l).prbs = some p →
      exec (.diagDone l) s = .next (raise 0x0F01 sevI l (min p.sent (2 ^ 32 - 1)) 0 [p.fn] (release (.prbs l) (modLink l (fun k => { k with prbs := none }) (advTo p.due s)))))

/-- R332, R455, R456, R457, R459, R464, R465, R466, R472, R477, R486. -/
def Obligations.ResetAndBootEventsAct : Prop :=
  (∀ (n : Nat) (s : State), 1000 ≤ n → s.sys.stage ≠ .held →
      exec (.sysRstNAssert n) s = .next (wipe (honey (hoReset 0) s))) ∧
  (∀ (n : Nat) (s : State), n < 1000 →
      exec (.sysRstNAssert n) s = .next (s)) ∧
  (∀ (x : Straps) (s : State), s.sys.stage = .held → s.mon.tripped = false →
      ∃ u, exec (.sysRstNRelease x) s = .next u ∧ u = releaseReset 0 x s) ∧
  (∀ (x : Straps) (v : LaterReset) (s : State), s.sys.later = some v → v.kind = 3 →
      exec (.fullResetByHive x) s = .next (releaseReset 1 x (wipe (honey (hoReset 3) (advTo v.due s))))) ∧
  (∀ (b : Bool) (x : State) (g : Nat) (s : State), s.sys.stage = .rom → x = (if b = true ∨ s.trust.opts.isNone then s else detectFault clsFlash 2 (modTrust (fun t => { t with opts := none }) s)) → g = (if x.sys.straps.bootSel = 2 then 0 else (x.trust.opts.map (·.merge)).getD 0) →
      exec (.bootOptionsRead b) s = .next ([0, 1, 2, 3].foldl (fun s f => beginTraining f s) (modSys (fun y => { y with
        stage := .options, merge01 := bit g 0, merge23 := bit g 1, subVendor := ((x.trust.opts.map fun o => (o.subVendor, o.subId)).getD (0x1F7E, 0)).1, subId := ((x.trust.opts.map fun o => (o.subVendor, o.subId)).getD (0x1F7E, 0)).2, qPart := defaultPart y.straps.compat (bit g 0) (bit g 1) }) x))) ∧
  (∀ (b : Bool) (s : State), s.sys.stage = .options → s.sys.straps.bootSel = 2 →
      exec (.bootImageLoaded b) s = .next (enterLoader s)) ∧
  (∀ (b : Bool) (n : Nat) (q : Option (Nat × Nat)) (s : State), s.sys.stage = .options → s.sys.straps.bootSel ≠ 2 → s.bootChoice b = (some n, q) →
      exec (.bootImageLoaded b) s = .next (startImage n (modSys (fun y => { y with stage := .starting }) (modTrust (fun t => { t with fallback := q.map fun r => (n, r.1, r.2) }) s)))) ∧
  (∀ (b : Bool) (q : Option (Nat × Nat)) (s : State), s.sys.stage = .options → s.sys.straps.bootSel ≠ 2 → s.bootChoice b = (none, q) →
      exec (.bootImageLoaded b) s = .next (if s.sys.straps.bootSel = 1 then enterLoader s else detectFault clsFlash s.firstSlot (modSys (fun y => { y with stage := .noFirmware }) s))) ∧
  (∀ (t : Nat) (s : State), (s.sys.stage = .starting ∨ s.sys.stage = .restarting) → s.trust.halted = false →
      exec (.keeperReady t) s = .next (keeperReady (advTo t s))) ∧
  (∀ (a b c : List Nat) (t : Nat) (v : LaterReset) (s : State), s.sys.later = some v → v.kind = 0 → s.keeperRuns = true →
      ∃ u x, exec (.softDeviceReset a b c t) s = .next u ∧ u = setPhase .normal (rdRefresh (setIntxAll intxReadyUp (modSys (fun y => { y with ready := true, stage := .running }) x)))) ∧
  (∀ (t : Nat) (v : LaterReset) (s : State), s.sys.later = some v → v.kind = 1 →
      exec (.keeperRestart .command t) s = .next (restartKeeper .command (advTo v.due s))) ∧
  (∀ (t : Nat) (v : LaterReset) (s : State), s.sys.later = some v → v.kind = 2 →
      exec (.keeperRestart .fwActivate t) s = .next (restartKeeper .fwActivate (advTo v.due s))) ∧
  (∀ (b : Bool) (t : Nat) (s : State), s.keeperRuns = true →
      exec (.keeperFault b t) s = .next (restartKeeper (if b then .bankEcc else .lockstep) (trialFault (detectFault clsKeeper 0 (advTo t s))))) ∧
  (∀ (v : Trial) (s : State), s.trust.trial = some v → s.sys.ready = true →
      exec (.fwTrialEnd ) s = .next (modTrust (fun t => { t with trial := none }) (advTo (v.since + 600000000000) s))) ∧
  (∀ (c : BitVec 8) (s : State), 2 < c.toNat → s.trust.debug = 0 → s.sys.phase ≠ .test →
      ∃ u, exec (.jtagInstruction c) s = .next u ∧ u = emit (.jtag 0xFF) (modTrust (fun t => { t with jtag := c.toNat }) s))

/-- R375, R430, R456, R458, R580. -/
def Obligations.ReleaseSamplesTheStraps : Prop :=
  (∀ (x : Straps) (s : State), s.sys.stage = .held → s.mon.tripped = false → s.mon.lostClocks = [] → s.mon.faultRails = [] →
      ∃ u, exec (.sysRstNRelease x) s = .next u ∧ u.sys = { s.sys with stage := .rom, straps := { role := x.role % 4, compat := x.compat, bootSel := x.bootSel % 4 }, resetKind := 0 } ∧
        u.now = 0 ∧ (u.hive.state = if x.role % 4 = 0 ∨ x.role % 4 = 3 ∨ x.compat = true then .standalone else .joining)) ∧
  (∀ (x : Straps) (s : State), (s.sys.stage ≠ .held ∨ s.mon.tripped = true) → exec (.sysRstNRelease x) s = .next s)

/-- R494, R495, R496, R497, R498, R499, R500, R501, R504. -/
def Obligations.MemoryEventsAct : Prop :=
  (∀ (b : BankId) (s : State), b.val < 60 → (s.bankIdle b = true ∨ s.sys.devState = .sleep) →
      exec (.bankRetentionEntry b) s = .next (modBank b (fun x => { x with retention := true }) s)) ∧
  (∀ (b : BankId) (s : State),
      ∃ u, exec (.bankWake b) s = .next u ∧ (u.bank b).retention = false) ∧
  (∀ (b : BankId) (w t : Nat) (q : Bool × State) (s : State),
      q = paced .eccCorrected b 1000000000 (honey (hoBank b memCorr) (modBank b (fun x => { x with injected := x.injected.erase w }) (advTo t s))) →
      exec (.eccCorrected b w t) s = .next (if q.1 then raise 0x0C10 sevI b w 0 [q.2.sys.trusted] q.2 else q.2)) ∧
  (∀ (b : BankId) (w : Nat) (h : BadWord) (t : Nat) (q : Nat × Nat) (s : State), holdsWord b h = true → q = wordSubject (advTo t s) h →
      exec (.eccUncorrectable b w h t) s = .next (badWord b h (raise 0x0C11 sevE b w q.1 [s.sys.trusted, q.2] (detectFault clsMemory b (honey (hoBank b memUncorr) (modBank b (fun x => { x with bad := true }) (advTo t s))))))) ∧
  (∀ (b : BankId) (p n t : Nat) (s : State), s.sys.ready = true → s.sys.stage = .running → s.window = none → (s.bank b).lastWindow = none → (s.bank b).retry = none → (s.bank b).retention = false → 1 ≤ n ∧ n ≤ 256 → p % 256 = 0 → p + n < bankWords b →
      ∃ u, exec (.backgroundTestWindow b p n none t) s = .next u ∧ u.window = some { bank := b, base := p, len := n, since := max s.now t } ∧ (u.bank b).lastWindow = some t ∧ (u.bank b).bad = ((s.bank b).bad && p != 0)) ∧
  (∀ (b : BankId) (t : Nat) (w : TestWindow) (s : State), s.window = some w → w.bank = b.val → max s.now t < w.since + 1000 →
      exec (.testWindowSurrender b t) s = .next (surrenderWindow w (advTo t s))) ∧
  (∀ (b : BankId) (w : Nat) (v : TestWindow) (s : State), s.window = some v → v.bank = b.val → v.base ≤ w → w < v.base + v.len →
      exec (.writeLost b w true) s = .next (surrenderWindow v (honey (hoBank b memWriteLost) s))) ∧
  (∀ (b : BankId) (w : Nat) (k : Bool) (s : State), s.window = none →
      exec (.writeLost b w k) s = .next (honey (hoBank b memWriteLost) s)) ∧
  (∀ (v : Fin 4096) (t : Nat) (x : Valve) (s : State), x = (s.vp (v.val / 512)).valve (v.val % 512) → x.sent = true → x.open' = true → x.openAt + 20000000 + 200 * (s.vp (v.val / 512)).period ≤ max s.now t →
      exec (.memValveGuard v t) s = .next (raise 0x0C13 sevE v 0 x.openAt [s.sys.trusted] (modFlight (fun f => { f with counts := count f.counts (6 + classCode .valveClose) }) (modVp (v.val / 512) (fun p => p.modValve (v.val % 512) (fun x => { x with open' := false })) (advTo t s))))) ∧
  (∀ (v : Fin 4096) (t : Nat) (s : State), ((s.vp (v.val / 512)).valve (v.val % 512)).sent = false →
      exec (.memValveGuard v t) s = .next (advTo t s))

/-- R510, R511, R512, R514, R515, R516, R521, R543, R579, R580. -/
def Obligations.FaultAndSupplyEventsAct : Prop :=
  (∀ (a : AsmId) (t : Nat) (s : State), (s.asm a).failed = false →
      exec (.assemblerFault a t) s = .next (((modAsm a (fun v => { v with failed := true }) (loseAsm a (detectFault clsAsm a (advTo t s)))).asmCtxs a).foldl (fun s e => ctxFaulted e.1 0xFFFFFFFF s) (modAsm a (fun v => { v with failed := true }) (loseAsm a (detectFault clsAsm a (advTo t s)))))) ∧
  (∀ (c : Fin 8) (t : Nat) (x : State) (s : State), c.val = 0 → s.mon.lostClocks.contains c.val = false → x = detectFault clsClock c { advTo t s with mon := { s.mon with lostClocks := s.mon.lostClocks ++ [c.val] } } →
      exec (.clockLoss c t) s = .next ({ x with mon := { x.mon with holdoverUntil := some (x.now + 10000000000) } })) ∧
  (∀ (d : Nat) (s : State), s.mon.holdoverUntil = some d →
      ∃ u, exec (.sysclkHoldoverEnd ) s = .next u ∧ u.mon = { s.mon with holdoverUntil := none, unguaranteed := true } ∧ u.now = max s.now d) ∧
  (∀ (c : Fin 8) (t : Nat) (x : State) (s : State), s.mon.lostClocks.contains c.val = true → c.val ≠ 0 → c.val ≠ 5 → x = { advTo t s with mon := { s.mon with lostClocks := s.mon.lostClocks.filter (· != c.val) } } →
      exec (.clockReturn c t) s = .next (faultOk clsClock c (some x.now) x)) ∧
  (∀ (k : Fin 9) (t : Nat) (s : State),
      exec (.supplyExcursion k .warning t) s = .next (faultOk clsSupply (railUnit k) none { advTo t s with mon := { s.mon with warnRails := if s.mon.warnRails.contains k.val then s.mon.warnRails else s.mon.warnRails ++ [k.val] } })) ∧
  (∀ (k : Fin 9) (t : Nat) (x : State) (s : State), x = detectFault clsSupply (railUnit k) { advTo t s with mon := { s.mon with warnRails := if s.mon.warnRails.contains k.val then s.mon.warnRails else s.mon.warnRails ++ [k.val], faultRails := if s.mon.faultRails.contains k.val then s.mon.faultRails else s.mon.faultRails ++ [k.val] } } →
      exec (.supplyExcursion k .fault t) s = .next (if k.val = 0 ∨ k.val = 1 ∨ k.val = 6 then stopValves x else x)) ∧
  (∀ (k : Fin 9) (t : Nat) (x : State) (s : State), x = { advTo t s with mon := { s.mon with warnRails := s.mon.warnRails.filter (· != k.val), faultRails := s.mon.faultRails.filter (· != k.val) } } →
      exec (.supplyReturn k t) s = .next (if x.mon.warnRails.any fun r => railUnit r == railUnit k then x else faultOk clsSupply (railUnit k) (some x.now) x)) ∧
  (∀ (k t : Nat) (s : State), k < 8 →
      exec (.flashFault k t) s = .next (detectFault clsFlash k (advTo t s))) ∧
  (∀ (v : FaultReport) (l : List FaultReport) (x : State) (s : State), s.faultReports = v :: l → s.sys.ready = true → s.sys.stage ≠ .loader → x = raiseAt v.time 0x0C20 sevE v.cls (faultWord v.cls v.unit) v.summary (faultTo v.cls v.unit s) { s with faultReports := l } →
      exec (.faultRaised ) s = .next (modKeeper (fun k => { k with faultSaveDue := match k.faultSaveDue with | some d => some d | none => some (max x.now ((k.lastFaultSave.map (· + 60000000000)).getD 0)) }) x)) ∧
  (∀ (c : Fin 13) (n t a : Nat) (v : Fault') (s : State), (s.faults.find? fun x => x.cls == c.val && x.unit == n) = some v → v.okSince = some a → s.sys.ready = true → s.sys.stage ≠ .loader → a + faultRest c ≤ max s.now t → (s.faultReports.any fun r => r.cls == c.val && r.unit == n) = false →
      exec (.faultCleared c n t) s = .next (resolveFault c n (advTo t s))) ∧
  (∀ (k : Fin 32) (d : Int) (x : State) (s : State), s.mon.tripped = false → s.tTrip ≤ d → x = wipe (emit (.thermTripN true) s) →
      exec (.thermalTrip k d) s = .next ({ x with mon := { x.mon with tripped := true } })) ∧
  (∀ (s : State), s.sys.stage = .held →
      exec (.thermalTripClear (.cooled true true)) s = .next (clearTrip s)) ∧
  (∀ (a b : Bool) (s : State), a = false ∨ b = false →
      exec (.thermalTripClear (.cooled a b)) s = .next (s)) ∧
  (∀ (s : State),
      exec (.vddAonRise ) s = .next (honey hoPowerCycles { s with mon := { s.mon with vddAon := true, aonCount := 0, aonAt := s.now, onSecondsAt := 0 } }))

/-- R370, R534, R536, R538. -/
def Obligations.CompatibilityContextCommandsComplete : Prop :=
  (∀ (f : Fn) (m : Mbx) (s : State), Accepted cmdCompatGetInfo f m s →
      ∃ u, exec (.compatGetInfo f m) s = .next u ∧ Commits s u f m (b32 (b2n s.sys.straps.compat)) (s)) ∧
  (∀ (f : Fn) (m : Mbx) (s : State), Accepted cmdCompatLaneConfigure f m s →
      let r := s.reqOf f m
      compatLane r = true →
      ∃ u, exec (.compatLaneConfigure f m) s = .next u ∧ Commits s u f m [] (laneCommit r s)) ∧
  (∀ (f : Fn) (m : Mbx) (s : State), Accepted cmdCompatLaneGetStatus f m s →
      let r := s.reqOf f m
      ∃ u, exec (.compatLaneGetStatus f m) s = .next u ∧ Commits s u f m (laneStatus s (r.u32 0)) (if r.clear then laneClear (r.u32 0) s else s)) ∧
  (∀ (f : Fn) (m : Mbx) (s : State) (c : Nat), Accepted cmdCompatCtxCreate f m s →
      let r := s.reqOf f m
      r.u32 4 ≠ 3 →
      r.u32 0x0C = wordNone →
      (if r.u32 0 = wordNone then s.freeCtx else some (r.u32 0)) = some c →
      ∃ u, exec (.compatCtxCreate f m) s = .next u ∧ Commits s u f m (b32 c) ({ s with ctxs := s.ctxs.put c (newCtx f (ctxKind (r.u32 4)) (r.u32 8) none (r.u32 0x10)
          ((List.range (r.u32 0x10)).map (srcEntry r)) (geoOf r 0x24)) })) ∧
  (∀ (f : Fn) (m : Mbx) (s : State) (c : Nat), Accepted cmdCompatCtxCreate f m s →
      let r := s.reqOf f m
      r.u32 4 ≠ 3 →
      r.u32 0x0C ≠ wordNone →
      (if r.u32 0 = wordNone then s.freeCtx else some (r.u32 0)) = some c →
      ∃ u, exec (.compatCtxCreate f m) s = .next u ∧ Commits s u f m (b32 c) ({ modEth (r.u32 8) (fun e => { e with streams := e.streams.put (r.u32 0x0C) { counts := (e.streams.getD (r.u32 0x0C) {}).counts } }) s with ctxs := s.ctxs.put c (newCtx f (ctxKind (r.u32 4)) (r.u32 8) (some (r.u32 0x0C)) (r.u32 0x10)
          ((List.range (r.u32 0x10)).map (srcEntry r)) (geoOf r 0x24)) })) ∧
  (∀ (f : Fn) (m : Mbx) (s : State) (x : Ctx) (y : State), Accepted cmdCompatCtxAssign f m s →
      let r := s.reqOf f m
      s.ctx (r.u32 0) = some x →
      x.kind ≠ .passthru →
      (s.comb (r.u32 4)).state = .inUse →
      admission s (r.u32 0) (r.u32 4) x (r.u32 8) = none →
      y = { wakeBank (broodBank (r.u32 8)) (wakeBank (lineBank (r.u32 4)) s) with ctxs := (wakeBank (broodBank (r.u32 8)) (wakeBank (lineBank (r.u32 4)) s)).ctxs.put (r.u32 0) { x with state := .admitted, comb := some (r.u32 4), asm := some (r.u32 8) } } →
      ∃ u, exec (.compatCtxAssign f m) s = .next u ∧ Commits s u f m (assignFigures s (r.u32 0) (r.u32 4) x (r.u32 8) (y.isProtected (r.u32 0))) (y)) ∧
  (∀ (f : Fn) (m : Mbx) (s : State) (x : Ctx) (y : State), Accepted cmdCompatCtxAssign f m s →
      let r := s.reqOf f m
      s.ctx (r.u32 0) = some x →
      x.kind ≠ .passthru →
      (s.comb (r.u32 4)).state = .free →
      admission s (r.u32 0) (r.u32 4) x (r.u32 8) = none →
      y = modComb (r.u32 4) (fun _ => { state := .inUse }) { wakeBank (broodBank (r.u32 8)) (wakeBank (lineBank (r.u32 4)) s) with ctxs := (wakeBank (broodBank (r.u32 8)) (wakeBank (lineBank (r.u32 4)) s)).ctxs.put (r.u32 0) { x with state := .admitted, comb := some (r.u32 4), asm := some (r.u32 8) } } →
      ∃ u, exec (.compatCtxAssign f m) s = .next u ∧ Commits s u f m (assignFigures s (r.u32 0) (r.u32 4) x (r.u32 8) (y.isProtected (r.u32 0))) (y)) ∧
  (∀ (f : Fn) (m : Mbx) (s : State) (x : Ctx), Accepted cmdCompatCtxStart f m s → s.sys.devState = .run →
      let r := s.reqOf f m
      s.ctx (r.u32 0) = some x → (s.descOf x).bind (descMismatch x) = none →
      ∃ u, exec (.compatCtxStart f m) s = .next u ∧ Commits s u f m []
        (announceServer (r.u32 0) x.lane { s with ctxs := s.ctxs.put (r.u32 0) (startCtx x) })) ∧
  (∀ (f : Fn) (m : Mbx) (s : State) (x : Ctx), Accepted cmdCompatCtxStop f m s →
      let r := s.reqOf f m
      s.ctx (r.u32 0) = some x →
      x.kind ≠ .passthru →
      x.kind ≠ .lineScan →
      ∃ u, exec (.compatCtxStop f m) s = .next u ∧ Starts s u f m [] ({ s with ctxs := s.ctxs.put (r.u32 0) (({ x with state := .stopping, slots := if x.frame.isSome then x.slots else x.slots ++ [Slot.stop s.now] } : Ctx).settle s.now) })) ∧
  (∀ (f : Fn) (m : Mbx) (s : State) (x : Ctx), Accepted cmdCompatCtxRelease f m s →
      let r := s.reqOf f m
      s.ctx (r.u32 0) = some x →
      x.comb = none →
      ∃ u, exec (.compatCtxRelease f m) s = .next u ∧ Commits s u f m [] ({ s with ctxs := s.ctxs.put (r.u32 0) { x with state := .defined, comb := none, asm := none, slots := [], work := [], recs := [] } })) ∧
  (∀ (f : Fn) (m : Mbx) (s : State) (x : Ctx) (k : Nat), Accepted cmdCompatCtxRelease f m s →
      let r := s.reqOf f m
      s.ctx (r.u32 0) = some x →
      x.comb = some k →
      ∃ u, exec (.compatCtxRelease f m) s = .next u ∧ Commits s u f m [] (freeComb k { s with ctxs := s.ctxs.put (r.u32 0) { x with state := .defined, comb := none, asm := none, slots := [], work := [], recs := [] } })) ∧
  (∀ (f : Fn) (m : Mbx) (s : State) (x : Ctx), Accepted cmdCompatCtxDestroy f m s →
      let r := s.reqOf f m
      s.ctx (r.u32 0) = some x →
      ∃ u, exec (.compatCtxDestroy f m) s = .next u ∧ Commits s u f m [] (removeCtx (r.u32 0) s)) ∧
  (∀ (f : Fn) (m : Mbx) (s : State) (x : Ctx), Accepted cmdCompatCtxGetStatus f m s →
      let r := s.reqOf f m
      s.ctx (r.u32 0) = some x →
      ∃ u, exec (.compatCtxGetStatus f m) s = .next u ∧ Commits s u f m (b8 (ctxStateCode x.state) ++ b8 x.kind.ctorIdx ++ b8 (x.comb.getD 255) ++ b8 (x.asm.getD 255)
        ++ b32 (b2n (x.comb.isSome && s.isProtected (r.u32 0))) ++ b32 (lineNo (((x.last.filterMap id).foldl (fun (a : Option Nat) p =>
          match a with | some m => some (max m p) | none => some p) none).getD 0)) ++ b32 0 ++ cntBytes x.counts 0 29) (if r.clear then modCtx (r.u32 0) (fun x => { x with counts := cntClear x.counts 0 29 }) s else s)) ∧
  (∀ (f : Fn) (m : Mbx) (s : State), Accepted cmdCompatIntakeSetPartition f m s →
      let r := s.reqOf f m
      ∃ u, exec (.compatIntakeSetPartition f m) s = .next u ∧ Commits s u f m [] ({ s with parts := (List.range 4).foldl (fun p i => p.put (4 * r.u32 0 + i) (r.u32 (4 + 4 * i))) s.parts })) ∧
  (∀ (f : Fn) (m : Mbx) (s : State) (y : Ctx), Accepted cmdCompatCorrSetBlack f m s →
      let r := s.reqOf f m
      s.ctx (r.u32 0) = some y →
      r.u32 4 = 0 →
      ∃ u, exec (.compatCorrSetBlack f m) s = .next u ∧ Commits s u f m [] (changeCtx (r.u32 0) 4 (fun x => { x with corr := { y.corr with blackTrack := false, black := bandWords r y 8 y.corr.black, pedestal := r.u32 0x38 } }) s)) ∧
  (∀ (f : Fn) (m : Mbx) (s : State) (y : Ctx), Accepted cmdCompatCorrSetBlack f m s →
      let r := s.reqOf f m
      s.ctx (r.u32 0) = some y →
      r.u32 4 = 1 →
      ∃ u, exec (.compatCorrSetBlack f m) s = .next u ∧ Commits s u f m [] (changeCtx (r.u32 0) 4 (fun x => { x with corr := { y.corr with blackTrack := true, black := bandWords r y 8 y.corr.black, darkX0 := bandWords r y 0x18 y.corr.darkX0, darkN := bandWords r y 0x28 y.corr.darkN, pedestal := r.u32 0x38 } }) s)) ∧
  (∀ (f : Fn) (m : Mbx) (s : State) (y : Ctx), Accepted cmdCompatCorrSetEnable f m s →
      let r := s.reqOf f m
      s.ctx (r.u32 0) = some y →
      ∃ u, exec (.compatCorrSetEnable f m) s = .next u ∧ Commits s u f m [] (changeCtx (r.u32 0) 6 (fun x => { x with corr := { y.corr with enables := r.u32 4 } }) s)) ∧
  (∀ (f : Fn) (m : Mbx) (s : State) (x : Ctx), Accepted cmdCompatCorrLoadTable f m s →
      let r := s.reqOf f m
      s.ctx (r.u32 0) = some x →
      bit (r.u32 8) 0 = true →
      bit (r.u32 8) 1 = false →
      ∃ u, exec (.compatCorrLoadTable f m) s = .next u ∧ Commits s u f m [] ({ s with staging := (s.staging.filter fun y => !(y.ctx == r.u32 0 && y.table == r.u32 4)) ++ [{ ctx := r.u32 0, table := r.u32 4, size := x.tableSize (r.u32 4), writes := [(r.u32 0x0C, r.body.drop 0x14)] }] })) ∧
  (∀ (f : Fn) (m : Mbx) (s : State) (x : Ctx) (y : State), Accepted cmdCompatCorrLoadTable f m s →
      let r := s.reqOf f m
      s.ctx (r.u32 0) = some x →
      bit (r.u32 8) 0 = true →
      bit (r.u32 8) 1 = true →
      y = commitTable (r.u32 0) (r.u32 4) (buildTable x (r.u32 4) [(r.u32 0x0C, r.body.drop 0x14)]) { s with staging := s.staging.filter fun y => !(y.ctx == r.u32 0 && y.table == r.u32 4) } →
      ∃ u, exec (.compatCorrLoadTable f m) s = .next u ∧ Commits s u f m (b32 (buildTable x (r.u32 4) [(r.u32 0x0C, r.body.drop 0x14)]).length ++ b32 (b2n ((y.ctx (r.u32 0)).any fun v => v.comb.isSome && y.isProtected (r.u32 0)))) (commitTable (r.u32 0) (r.u32 4) (buildTable x (r.u32 4) [(r.u32 0x0C, r.body.drop 0x14)]) { s with staging := s.staging.filter fun y => !(y.ctx == r.u32 0 && y.table == r.u32 4) })) ∧
  (∀ (f : Fn) (m : Mbx) (s : State) (t : Bool × Nat) (l : List SteerEntry), Accepted cmdCompatPgSetSteering f m s →
      let r := s.reqOf f m
      t = steerTarget r →
      l = ((List.range (min (r.u32 4) 16)).map (steerWords r)).map (newSteer s) →
      ∃ u, exec (.compatPgSetSteering f m) s = .next u ∧ Commits s u f m [] (steerStarts t l (if t.1 then { s with ctxSteer := s.ctxSteer.put t.2 l } else { s with pgs := match s.pgs.find t.2 with | some p => s.pgs.put t.2 { p with steer := l } | none => s.pgs }))) ∧
  (∀ (f : Fn) (m : Mbx) (s : State) (x : Ctx), Accepted cmdCtxSetLaunch f m s →
      let r := s.reqOf f m
      s.ctx (r.u32 0) = some x →
      ∃ u, exec (.ctxSetLaunch f m) s = .next u ∧ Commits s u f m [] (modCtx (r.u32 0) (fun x => { x with launchTimed := r.u32 4 == 1 }) s))

/-- R533, R536, R540. -/
def Obligations.CompatibilityQueueAndTimeCommandsComplete : Prop :=
  (∀ (f : Fn) (m : Mbx) (s : State), Accepted cmdCompatQPartition f m s →
      let r := s.reqOf f m
      ∃ u, exec (.compatQPartition f m) s = .next u ∧ Commits s u f m [] (modSys (fun y => { y with qPart := partitionOf r s }) s)) ∧
  (∀ (f : Fn) (m : Mbx) (s : State) (q : Nat) (k : Bool) (page : Option Nat), Accepted cmdCompatQCreate f m s →
      let r := s.reqOf f m
      q = s.qBase r.fn + r.u32 0 →
      k = (r.u32 4 != qtEvent) →
      page = (if r.u32 4 == qtDecision && r.u32 0x2C == 1 then s.freePage r.fn else none) →
      ∃ u, exec (.compatQCreate f m) s = .next u ∧ Commits s u f m (b32 q ++ b32 (page.getD wordNone)) (setQueue q
        { kind := r.u32 4, owner := r.fn, settings := { ringAddr := if k then u64At r.body 8 else 0, ringSize := if k then r.u32 0x10 else 0, cplAddr := u64At r.body 0x18, cplSize := r.u32 0x14, bufSize := if r.u32 4 = qtFrame then r.u32 0x20 else 0, lane := r.u32 0x24, subjects := r.u32 0x28, aperture := page, notifyAddr := u64At r.body 0x30, notifyData := r.u32 0x38, coalCount := r.u32 0x3C, coalTime := r.u32 0x40 } }
        (wakeBank (queueBank (q / 16384)) s))) ∧
  (∀ (f : Fn) (m : Mbx) (s : State) (v : Queue), Accepted cmdCompatQEnable f m s →
      let r := s.reqOf f m
      s.queue (r.u32 0) = some v →
      ∃ u, exec (.compatQEnable f m) s = .next u ∧ Commits s u f m [] (actRecorded (r.u32 0) (setQueue (r.u32 0) { v with state := .enabled } s))) ∧
  (∀ (f : Fn) (m : Mbx) (s : State) (v : Queue), Accepted cmdCompatQDisable f m s →
      let r := s.reqOf f m
      s.queue (r.u32 0) = some v →
      ∃ u, exec (.compatQDisable f m) s = .next u ∧ Starts s u f m [] (releaseHeld (r.u32 0) (refuseWaiting (r.u32 0) (setQueue (r.u32 0) { v with state := .draining } s)))) ∧
  (∀ (f : Fn) (m : Mbx) (s : State) (v : Queue), Accepted cmdCompatQReset f m s →
      let r := s.reqOf f m
      s.queue (r.u32 0) = some v →
      ∃ u, exec (.compatQReset f m) s = .next u ∧ Commits s u f m [] (setQueue (r.u32 0) v.cleared (endFrames (r.u32 0) (dmaDrop v.owner (r.u32 0) (deadReads (r.u32 0) s))))) ∧
  (∀ (f : Fn) (m : Mbx) (s : State) (v : Queue), Accepted cmdCompatQDestroy f m s →
      let r := s.reqOf f m
      s.queue (r.u32 0) = some v →
      ∃ u, exec (.compatQDestroy f m) s = .next u ∧ Commits s u f m (b32 v.headNow) (destroyQueue (r.u32 0) s)) ∧
  (∀ (f : Fn) (m : Mbx) (s : State) (v : Queue), Accepted cmdCompatQSetNotify f m s →
      let r := s.reqOf f m
      s.queue (r.u32 0) = some v →
      v.unnotified = 0 →
      ∃ u, exec (.compatQSetNotify f m) s = .next u ∧ Commits s u f m [] (setQueue (r.u32 0) ({ v with nextNotify := some (u64At r.body 8, r.u32 0x10, r.u32 0x14, r.u32 0x18) } : Queue).applyNotify s)) ∧
  (∀ (f : Fn) (m : Mbx) (s : State) (v : Queue), Accepted cmdCompatQSetNotify f m s →
      let r := s.reqOf f m
      s.queue (r.u32 0) = some v →
      v.unnotified ≠ 0 →
      ∃ u, exec (.compatQSetNotify f m) s = .next u ∧ Commits s u f m [] (setQueue (r.u32 0) { v with nextNotify := some (u64At r.body 8, r.u32 0x10, r.u32 0x14, r.u32 0x18) } s)) ∧
  (∀ (f : Fn) (m : Mbx) (s : State) (v : Queue), Accepted cmdCompatQGetStatus f m s →
      let r := s.reqOf f m
      s.queue (r.u32 0) = some v →
      ∃ u, exec (.compatQGetStatus f m) s = .next u ∧ Commits s u f m (b8 (qStateCode v.state) ++ b8 v.reason ++ b8 v.kind ++ b8 0 ++ b32 v.headNow ++ b32 v.tail ++ b32 (v.cplTail + 65536 * b2n v.phase) ++ b32 v.cplHead ++ cntBytes v.counts 0 7) (if r.clear then setQueue (r.u32 0) { v with counts := cntClear v.counts 0 7 } s else s)) ∧
  (∀ (f : Fn) (m : Mbx) (s : State), Accepted cmdCompatTimeGetStatus f m s →
      ∃ u, exec (.compatTimeGetStatus f m) s = .next u ∧ Commits s u f m (b64 s.now ++ b16 (s.clock.t16 % 65536) ++ b8 (sourceCode s.clock.source) ++ b8 (servoCode s.clock.servo) ++ bs32 s.clock.rate
        ++ bs32 (psOf s.clock.offsetEst) ++ b32 0 ++ bs64 s.clock.extOffset ++ b16 s.clock.extFrac ++ b8 (b2n s.clock.extValid) ++ zeros 5 ++ b64 s.clock.extSince) (s)) ∧
  (∀ (f : Fn) (m : Mbx) (s : State), Accepted cmdCompatTimeSetSource f m s →
      let r := s.reqOf f m
      ∃ u, exec (.compatTimeSetSource f m) s = .next u ∧ Commits s u f m [] (evalSource (modClock (fun c => { c with list := [sourceOf (r.u32 0), sourceOf (r.u32 4)] }) s))) ∧
  (∀ (f : Fn) (m : Mbx) (s : State), Accepted cmdCompatTimeSetExtOffset f m s →
      let r := s.reqOf f m
      ∃ u, exec (.compatTimeSetExtOffset f m) s = .next u ∧ Commits s u f m [] (changeExt (s64At r.body 0) (r.u32 8) 4 s)) ∧
  (∀ (f : Fn) (m : Mbx) (s : State), Accepted cmdCompatTimeSetPps f m s →
      let r := s.reqOf f m
      ∃ u, exec (.compatTimeSetPps f m) s = .next u ∧ Commits s u f m [] (modClock (fun c => { c with ppsEdge := r.u32 0, ppsDelay := r.u32 4, outEnable := r.u32 8 == 1, outWidth := r.u32 0xC, outBase := r.u32 0x10 }) s)) ∧
  (∀ (f : Fn) (m : Mbx) (s : State), Accepted (cmdSchedAdd 0x0E58) f m s →
        let r := s.reqOf f m
        let x := (actionOffsets r).foldl (placeNext r) ([], s)
        ∃ u, exec (.compatSchedAdd f m) s = .next u ∧ Commits s u f m (x.1.flatMap fun n => b32 (x.2.handle n)) (x.1.foldl judgeAction x.2)) ∧
  (∀ (f : Fn) (m : Mbx) (s : State), Accepted (cmdSchedCancel 0x0E59) f m s →
        let r := s.reqOf f m
        let x := (List.range (r.u32 0)).foldl (cancelNext r) (0, s)
        ∃ u, exec (.compatSchedCancel f m) s = .next u ∧ Commits s u f m (b32 x.1 ++ b32 (r.u32 0 - x.1)) x.2) ∧
  (∀ (f : Fn) (m : Mbx) (s : State), Accepted (cmdSchedGetStatus 0x0E5A) f m s →
        let r := s.reqOf f m
        ∃ u, exec (.compatSchedGetStatus f m) s = .next u ∧ Commits s u f m
          (b32 s.flightFree ++ b32 (s.placedBy r.fn) ++ (List.range 6).flatMap fun i => b32 (cnt s.flight.counts i) ++ b32 (cnt s.flight.counts (6 + i)))
          (if r.clear then modFlight (fun f => { f with counts := cntClear f.counts 0 12 }) s else s))

/-- R374; the second clause is the model's choice (log entry 2). -/
def Obligations.StepRunsTheFrontCommand : Prop :=
  (∀ (c : Instr) (l : List Instr) (s : State), step { s with pending := c :: l } = exec c { s with pending := l }) ∧
  (∀ (s : State), s.pending = [] → step s = .next (idleTick s))

/-- 12_commands_setup.md, 95_what_each_step_holds.md. -/
def Obligations.EveryCommandCompletes : Prop :=
  ∀ (c : Instr) (s : State), ∃ t, exec c s = .next t ∧ t.pending = s.pending

/-- 12_commands_setup.md, 95_what_each_step_holds.md. -/
def Obligations.CommandsChangeOnlyTheirFields : Prop :=
  ∀ (c : Instr) (s t : State), exec c s = .next t → Unchanged (mayChange c) s t

/-- R255, R256, R258, R259, R352, R513. -/
def Obligations.ValvePortsStaySafe : Prop :=
  ∀ (s t : State), s.ValvesSafe → step s = .next t → t.ValvesSafe

/-- R255, R256, R258. -/
def Obligations.ResetPortsAreSafe : Prop :=
  (∀ v, (State.reset.vp v).mode = .off ∧ (State.reset.vp v).period = 50 ∧ (State.reset.vp v).phase = 0 ∧ (State.reset.vp v).failed = false) ∧ State.reset.ValvesSafe

/-- R327, R329, R333, R334. -/
def Obligations.FailedChecksChangeNothing : Prop :=
  (∀ (c : Cmd) (f : Fn) (m : Mbx) (s : State) (e : Fail), Served c f m s → (s.mbx f m).length ≤ 1968 → c.answer (s.reqOf f m) s = .fail e →
      Replied s (serve c f m s) f m e.code e.detail e.field e.payload ∧ Unchanged replyFields s (serve c f m s)) ∧
  (∀ (c : Cmd) (f : Fn) (m : Mbx) (s : State), Served c f m s → 1968 < (s.mbx f m).length →
      Replied s (serve c f m s) f m stBadLength 0 0 [] ∧ Unchanged replyFields s (serve c f m s)) ∧
  (∀ (c : Cmd) (r : Req) (s : State), (c.len r.body = false → c.answer r s = .fail { code := stBadLength }) ∧
      (c.len r.body = true → r.body.length ≤ 1968 → r.flags / 4 % 2 ^ 14 ≠ 0 → c.answer r s = .fail { code := stBadField, field := 2 }) ∧
      (∀ e, c.len r.body = true → r.body.length ≤ 1968 → r.flags / 4 % 2 ^ 14 = 0 → c.named r s = some e → c.answer r s = .fail e) ∧
      (c.len r.body = true → r.body.length ≤ 1968 → r.flags / 4 % 2 ^ 14 = 0 → c.named r s = none → s.opInMode c.op = false → c.answer r s = .fail { code := stNotInMode }))

/-- R328, R329. -/
def Obligations.CheckOnlyChangesNothing : Prop :=
  (∀ (c : Cmd) (f : Fn) (m : Mbx) (s x : State) (p : List Byte), Served c f m s → (s.mbx f m).length ≤ 1968 → (s.reqOf f m).checkOnly = true → c.reads = false →
      c.precheck (s.reqOf f m) s = none → (c.run (s.reqOf f m) s = .ok x p ∨ c.run (s.reqOf f m) s = .started x p) →
      Done s (serve c f m s) f m p ∧ Unchanged replyFields s (serve c f m s)) ∧
  (∀ (c : Cmd) (r : Req) (s : State) (e : Fail), c.precheck r s = none → c.run r s = .fail e → c.answer r s = .fail e) ∧
  (∀ (c : Cmd) (r : Req) (s : State), c.precheck r s = none → (r.checkOnly = false ∨ c.reads = true) → c.answer r s = c.run r s)

/-- R471. -/
def Obligations.FuseSvnCountsConsecutiveFuses : Prop :=
  ∀ (t : Trust) (n : Nat), t.fuseSvn = n ↔ n ≤ 64 ∧ (∀ i, i < n → bit t.fuses i = true) ∧ (n < 64 → bit t.fuses n = false)

/-- R8. -/
def Obligations.CountersSaturate : Prop :=
  ∀ (w : Nat) (c : Counts) (i n : Nat), cnt (countN w c i n) i = min (cnt c i + n) (2 ^ w - 1) ∧ (cnt c i = 2 ^ w - 1 → cnt (countN w c i n) i = 2 ^ w - 1) ∧
      ∀ j, j ≠ i → cnt (countN w c i n) j = cnt c j

/-- R396. -/
def Obligations.EdgeAppliesToLevelProducers : Prop :=
  ∀ (p : Nat) (rise : Bool) (t : Nat) (s : State), ∃ l, exec (.producerOccurrence p rise t) s = .next (if l = [] then advTo t s else originate l true (advTo t s)) ∧
      ∀ c, c ∈ l ↔ ∃ v, (c, v) ∈ s.wag.chans ∧ v.producer = some p ∧ (wgLevel p = true → v.edge = 2 ∨ (v.edge = 0 ∧ rise = true) ∨ (v.edge = 1 ∧ rise = false))
end

