-- ==== Sys2Proof/Laws/Mask.lean ====
section
/-! SUPPORT. Laws of State.mask: what a set of fields hides, and that it stays hidden. -/
set_option linter.all false
namespace Sys2Proof.Machine

/-- A bit of a subset is a bit of the set. -/
theorem testBit_of_sub {a w : Nat} (h : a &&& w = a) (i : Nat) (hi : a.testBit i = true) : w.testBit i = true := by
  have h2 : (a &&& w).testBit i = true := by rw [h]; exact hi
  rw [Nat.testBit_and] at h2
  simp_all

/-- One field under a larger set. -/
theorem hide_hide {α : Type} (a w : Bool) (d x : α) (h : a = true → w = true) :
    (if w then d else (if a then d else x)) = (if w then d else x) := by
  cases a <;> cases w <;> simp_all
/-- A larger set hides what a smaller one does. -/
theorem mask_mask {a w : Nat} (h : a &&& w = a) (s : State) : (s.mask a).mask w = s.mask w := by
  have hb := testBit_of_sub h
  unfold State.mask
  congr 1 <;> exact hide_hide _ _ _ _ (hb _)
/-- States that agree outside a set agree outside a larger one. -/
theorem mask_mono {a w : Nat} (h : a &&& w = a) {s t : State} (e : s.mask a = t.mask a) : s.mask w = t.mask w := by
  rw [← mask_mask h s, ← mask_mask h t, e]
/-- A fold of steps that keep what is outside a set keeps it. -/
theorem foldl_mask {α : Type} {w : Nat} (g : State → α → State) (h : ∀ s x, (g s x).mask w = s.mask w) (l : List α)
    (s : State) : (l.foldl g s).mask w = s.mask w := by
  induction l generalizing s with
  | nil => rfl
  | cons x l ih => rw [List.foldl_cons, ih, h]

/-- Every state that an answer holds is `m` outside the set `w`. -/
@[irreducible] def Answer.keeps (w : Nat) (m : State) : Answer → Prop
  | .ok s _ => s.mask w = m
  | .started s _ => s.mask w = m
  | .fail _ => True
  | .failWith s _ => s.mask w = m
  | .wait s _ => s.mask w = m
theorem keeps_ok {w : Nat} {m s : State} {p : List Byte} : (Answer.ok s p).keeps w m ↔ s.mask w = m := by
  unfold Answer.keeps; exact Iff.rfl
theorem keeps_started {w : Nat} {m s : State} {p : List Byte} : (Answer.started s p).keeps w m ↔ s.mask w = m := by
  unfold Answer.keeps; exact Iff.rfl
theorem keeps_fail {w : Nat} {m : State} {e : Fail} : (Answer.fail e).keeps w m ↔ True := by
  unfold Answer.keeps; exact Iff.rfl
theorem keeps_failWith {w : Nat} {m s : State} {e : Fail} : (Answer.failWith s e).keeps w m ↔ s.mask w = m := by
  unfold Answer.keeps; exact Iff.rfl
theorem keeps_wait {w : Nat} {m s : State} {b : Bool} : (Answer.wait s b).keeps w m ↔ s.mask w = m := by
  unfold Answer.keeps; exact Iff.rfl

/-- A next state is `m` outside the set `w`. -/
@[irreducible] def keepsOutcome (w : Nat) (m : State) : Host.Outcome State Fault Refusal → Prop
  | .next s => s.mask w = m
  | _ => True
theorem keeps_next {w : Nat} {m s : State} : keepsOutcome w m (.next s) ↔ s.mask w = m := by
  unfold keepsOutcome; exact Iff.rfl

theorem mask_pending {w : Nat} {s t : State} (h : w.testBit 0 = false) (e : s.mask w = t.mask w) : s.pending = t.pending := by
  have := congrArg State.pending e
  simpa [State.mask, h] using this
theorem mask_out {w : Nat} {s t : State} (h : w.testBit 1 = false) (e : s.mask w = t.mask w) : s.out = t.out := by
  have := congrArg State.out e
  simpa [State.mask, h] using this
theorem mask_freeCtr {w : Nat} {s t : State} (h : w.testBit 2 = false) (e : s.mask w = t.mask w) : s.freeCtr = t.freeCtr := by
  have := congrArg State.freeCtr e
  simpa [State.mask, h] using this
theorem mask_pace {w : Nat} {s t : State} (h : w.testBit 3 = false) (e : s.mask w = t.mask w) : s.pace = t.pace := by
  have := congrArg State.pace e
  simpa [State.mask, h] using this
theorem mask_sys {w : Nat} {s t : State} (h : w.testBit 4 = false) (e : s.mask w = t.mask w) : s.sys = t.sys := by
  have := congrArg State.sys e
  simpa [State.mask, h] using this
theorem mask_clock {w : Nat} {s t : State} (h : w.testBit 5 = false) (e : s.mask w = t.mask w) : s.clock = t.clock := by
  have := congrArg State.clock e
  simpa [State.mask, h] using this
theorem mask_keeper {w : Nat} {s t : State} (h : w.testBit 6 = false) (e : s.mask w = t.mask w) : s.keeper = t.keeper := by
  have := congrArg State.keeper e
  simpa [State.mask, h] using this
theorem mask_mon {w : Nat} {s t : State} (h : w.testBit 7 = false) (e : s.mask w = t.mask w) : s.mon = t.mon := by
  have := congrArg State.mon e
  simpa [State.mask, h] using this
theorem mask_power {w : Nat} {s t : State} (h : w.testBit 8 = false) (e : s.mask w = t.mask w) : s.power = t.power := by
  have := congrArg State.power e
  simpa [State.mask, h] using this
theorem mask_trust {w : Nat} {s t : State} (h : w.testBit 9 = false) (e : s.mask w = t.mask w) : s.trust = t.trust := by
  have := congrArg State.trust e
  simpa [State.mask, h] using this
theorem mask_banks {w : Nat} {s t : State} (h : w.testBit 10 = false) (e : s.mask w = t.mask w) : s.banks = t.banks := by
  have := congrArg State.banks e
  simpa [State.mask, h] using this
theorem mask_window {w : Nat} {s t : State} (h : w.testBit 11 = false) (e : s.mask w = t.mask w) : s.window = t.window := by
  have := congrArg State.window e
  simpa [State.mask, h] using this
theorem mask_faults {w : Nat} {s t : State} (h : w.testBit 12 = false) (e : s.mask w = t.mask w) : s.faults = t.faults := by
  have := congrArg State.faults e
  simpa [State.mask, h] using this
theorem mask_faultBits {w : Nat} {s t : State} (h : w.testBit 13 = false) (e : s.mask w = t.mask w) : s.faultBits = t.faultBits := by
  have := congrArg State.faultBits e
  simpa [State.mask, h] using this
theorem mask_faultReports {w : Nat} {s t : State} (h : w.testBit 14 = false) (e : s.mask w = t.mask w) : s.faultReports = t.faultReports := by
  have := congrArg State.faultReports e
  simpa [State.mask, h] using this
theorem mask_hps {w : Nat} {s t : State} (h : w.testBit 15 = false) (e : s.mask w = t.mask w) : s.hps = t.hps := by
  have := congrArg State.hps e
  simpa [State.mask, h] using this
theorem mask_mbxs {w : Nat} {s t : State} (h : w.testBit 16 = false) (e : s.mask w = t.mask w) : s.mbxs = t.mbxs := by
  have := congrArg State.mbxs e
  simpa [State.mask, h] using this
theorem mask_goOrder {w : Nat} {s t : State} (h : w.testBit 17 = false) (e : s.mask w = t.mask w) : s.goOrder = t.goOrder := by
  have := congrArg State.goOrder e
  simpa [State.mask, h] using this
theorem mask_waiting {w : Nat} {s t : State} (h : w.testBit 18 = false) (e : s.mask w = t.mask w) : s.waiting = t.waiting := by
  have := congrArg State.waiting e
  simpa [State.mask, h] using this
theorem mask_deviceId {w : Nat} {s t : State} (h : w.testBit 19 = false) (e : s.mask w = t.mask w) : s.deviceId = t.deviceId := by
  have := congrArg State.deviceId e
  simpa [State.mask, h] using this
theorem mask_queues {w : Nat} {s t : State} (h : w.testBit 20 = false) (e : s.mask w = t.mask w) : s.queues = t.queues := by
  have := congrArg State.queues e
  simpa [State.mask, h] using this
theorem mask_lanes {w : Nat} {s t : State} (h : w.testBit 21 = false) (e : s.mask w = t.mask w) : s.lanes = t.lanes := by
  have := congrArg State.lanes e
  simpa [State.mask, h] using this
theorem mask_links {w : Nat} {s t : State} (h : w.testBit 22 = false) (e : s.mask w = t.mask w) : s.links = t.links := by
  have := congrArg State.links e
  simpa [State.mask, h] using this
theorem mask_plls {w : Nat} {s t : State} (h : w.testBit 23 = false) (e : s.mask w = t.mask w) : s.plls = t.plls := by
  have := congrArg State.plls e
  simpa [State.mask, h] using this
theorem mask_eths {w : Nat} {s t : State} (h : w.testBit 24 = false) (e : s.mask w = t.mask w) : s.eths = t.eths := by
  have := congrArg State.eths e
  simpa [State.mask, h] using this
theorem mask_hive {w : Nat} {s t : State} (h : w.testBit 25 = false) (e : s.mask w = t.mask w) : s.hive = t.hive := by
  have := congrArg State.hive e
  simpa [State.mask, h] using this
theorem mask_ctxs {w : Nat} {s t : State} (h : w.testBit 26 = false) (e : s.mask w = t.mask w) : s.ctxs = t.ctxs := by
  have := congrArg State.ctxs e
  simpa [State.mask, h] using this
theorem mask_combs {w : Nat} {s t : State} (h : w.testBit 27 = false) (e : s.mask w = t.mask w) : s.combs = t.combs := by
  have := congrArg State.combs e
  simpa [State.mask, h] using this
theorem mask_parts {w : Nat} {s t : State} (h : w.testBit 28 = false) (e : s.mask w = t.mask w) : s.parts = t.parts := by
  have := congrArg State.parts e
  simpa [State.mask, h] using this
theorem mask_stitches {w : Nat} {s t : State} (h : w.testBit 29 = false) (e : s.mask w = t.mask w) : s.stitches = t.stitches := by
  have := congrArg State.stitches e
  simpa [State.mask, h] using this
theorem mask_frags {w : Nat} {s t : State} (h : w.testBit 30 = false) (e : s.mask w = t.mask w) : s.frags = t.frags := by
  have := congrArg State.frags e
  simpa [State.mask, h] using this
theorem mask_fragIds {w : Nat} {s t : State} (h : w.testBit 31 = false) (e : s.mask w = t.mask w) : s.fragIds = t.fragIds := by
  have := congrArg State.fragIds e
  simpa [State.mask, h] using this
theorem mask_staging {w : Nat} {s t : State} (h : w.testBit 32 = false) (e : s.mask w = t.mask w) : s.staging = t.staging := by
  have := congrArg State.staging e
  simpa [State.mask, h] using this
theorem mask_asms {w : Nat} {s t : State} (h : w.testBit 33 = false) (e : s.mask w = t.mask w) : s.asms = t.asms := by
  have := congrArg State.asms e
  simpa [State.mask, h] using this
theorem mask_pgs {w : Nat} {s t : State} (h : w.testBit 34 = false) (e : s.mask w = t.mask w) : s.pgs = t.pgs := by
  have := congrArg State.pgs e
  simpa [State.mask, h] using this
theorem mask_pgCounts {w : Nat} {s t : State} (h : w.testBit 35 = false) (e : s.mask w = t.mask w) : s.pgCounts = t.pgCounts := by
  have := congrArg State.pgCounts e
  simpa [State.mask, h] using this
theorem mask_ctxSteer {w : Nat} {s t : State} (h : w.testBit 36 = false) (e : s.mask w = t.mask w) : s.ctxSteer = t.ctxSteer := by
  have := congrArg State.ctxSteer e
  simpa [State.mask, h] using this
theorem mask_pend {w : Nat} {s t : State} (h : w.testBit 37 = false) (e : s.mask w = t.mask w) : s.pend = t.pend := by
  have := congrArg State.pend e
  simpa [State.mask, h] using this
theorem mask_flight {w : Nat} {s t : State} (h : w.testBit 38 = false) (e : s.mask w = t.mask w) : s.flight = t.flight := by
  have := congrArg State.flight e
  simpa [State.mask, h] using this
theorem mask_vps {w : Nat} {s t : State} (h : w.testBit 39 = false) (e : s.mask w = t.mask w) : s.vps = t.vps := by
  have := congrArg State.vps e
  simpa [State.mask, h] using this
theorem mask_encs {w : Nat} {s t : State} (h : w.testBit 40 = false) (e : s.mask w = t.mask w) : s.encs = t.encs := by
  have := congrArg State.encs e
  simpa [State.mask, h] using this
theorem mask_emus {w : Nat} {s t : State} (h : w.testBit 41 = false) (e : s.mask w = t.mask w) : s.emus = t.emus := by
  have := congrArg State.emus e
  simpa [State.mask, h] using this
theorem mask_pins {w : Nat} {s t : State} (h : w.testBit 42 = false) (e : s.mask w = t.mask w) : s.pins = t.pins := by
  have := congrArg State.pins e
  simpa [State.mask, h] using this
theorem mask_wag {w : Nat} {s t : State} (h : w.testBit 43 = false) (e : s.mask w = t.mask w) : s.wag = t.wag := by
  have := congrArg State.wag e
  simpa [State.mask, h] using this
theorem mask_set_1 {w : Nat} (h : 1 &&& w = 1) (e : State) (x0) : State.mask w (State.mk x0 e.out e.freeCtr e.pace e.sys e.clock e.keeper e.mon e.power e.trust e.banks e.window e.faults e.faultBits e.faultReports e.hps e.mbxs e.goOrder e.waiting e.deviceId e.queues e.lanes e.links e.plls e.eths e.hive e.ctxs e.combs e.parts e.stitches e.frags e.fragIds e.staging e.asms e.pgs e.pgCounts e.ctxSteer e.pend e.flight e.vps e.encs e.emus e.pins e.wag) = e.mask w := by
  have hb := testBit_of_sub h
  simp only [State.mask, hb 0 (by decide), if_true]
theorem mask_set_2 {w : Nat} (h : 2 &&& w = 2) (e : State) (x1) : State.mask w (State.mk e.pending x1 e.freeCtr e.pace e.sys e.clock e.keeper e.mon e.power e.trust e.banks e.window e.faults e.faultBits e.faultReports e.hps e.mbxs e.goOrder e.waiting e.deviceId e.queues e.lanes e.links e.plls e.eths e.hive e.ctxs e.combs e.parts e.stitches e.frags e.fragIds e.staging e.asms e.pgs e.pgCounts e.ctxSteer e.pend e.flight e.vps e.encs e.emus e.pins e.wag) = e.mask w := by
  have hb := testBit_of_sub h
  simp only [State.mask, hb 1 (by decide), if_true]
theorem mask_set_4 {w : Nat} (h : 4 &&& w = 4) (e : State) (x2) : State.mask w (State.mk e.pending e.out x2 e.pace e.sys e.clock e.keeper e.mon e.power e.trust e.banks e.window e.faults e.faultBits e.faultReports e.hps e.mbxs e.goOrder e.waiting e.deviceId e.queues e.lanes e.links e.plls e.eths e.hive e.ctxs e.combs e.parts e.stitches e.frags e.fragIds e.staging e.asms e.pgs e.pgCounts e.ctxSteer e.pend e.flight e.vps e.encs e.emus e.pins e.wag) = e.mask w := by
  have hb := testBit_of_sub h
  simp only [State.mask, hb 2 (by decide), if_true]
theorem mask_set_8 {w : Nat} (h : 8 &&& w = 8) (e : State) (x3) : State.mask w (State.mk e.pending e.out e.freeCtr x3 e.sys e.clock e.keeper e.mon e.power e.trust e.banks e.window e.faults e.faultBits e.faultReports e.hps e.mbxs e.goOrder e.waiting e.deviceId e.queues e.lanes e.links e.plls e.eths e.hive e.ctxs e.combs e.parts e.stitches e.frags e.fragIds e.staging e.asms e.pgs e.pgCounts e.ctxSteer e.pend e.flight e.vps e.encs e.emus e.pins e.wag) = e.mask w := by
  have hb := testBit_of_sub h
  simp only [State.mask, hb 3 (by decide), if_true]
theorem mask_set_16 {w : Nat} (h : 16 &&& w = 16) (e : State) (x4) : State.mask w (State.mk e.pending e.out e.freeCtr e.pace x4 e.clock e.keeper e.mon e.power e.trust e.banks e.window e.faults e.faultBits e.faultReports e.hps e.mbxs e.goOrder e.waiting e.deviceId e.queues e.lanes e.links e.plls e.eths e.hive e.ctxs e.combs e.parts e.stitches e.frags e.fragIds e.staging e.asms e.pgs e.pgCounts e.ctxSteer e.pend e.flight e.vps e.encs e.emus e.pins e.wag) = e.mask w := by
  have hb := testBit_of_sub h
  simp only [State.mask, hb 4 (by decide), if_true]
theorem mask_set_32 {w : Nat} (h : 32 &&& w = 32) (e : State) (x5) : State.mask w (State.mk e.pending e.out e.freeCtr e.pace e.sys x5 e.keeper e.mon e.power e.trust e.banks e.window e.faults e.faultBits e.faultReports e.hps e.mbxs e.goOrder e.waiting e.deviceId e.queues e.lanes e.links e.plls e.eths e.hive e.ctxs e.combs e.parts e.stitches e.frags e.fragIds e.staging e.asms e.pgs e.pgCounts e.ctxSteer e.pend e.flight e.vps e.encs e.emus e.pins e.wag) = e.mask w := by
  have hb := testBit_of_sub h
  simp only [State.mask, hb 5 (by decide), if_true]
theorem mask_set_64 {w : Nat} (h : 64 &&& w = 64) (e : State) (x6) : State.mask w (State.mk e.pending e.out e.freeCtr e.pace e.sys e.clock x6 e.mon e.power e.trust e.banks e.window e.faults e.faultBits e.faultReports e.hps e.mbxs e.goOrder e.waiting e.deviceId e.queues e.lanes e.links e.plls e.eths e.hive e.ctxs e.combs e.parts e.stitches e.frags e.fragIds e.staging e.asms e.pgs e.pgCounts e.ctxSteer e.pend e.flight e.vps e.encs e.emus e.pins e.wag) = e.mask w := by
  have hb := testBit_of_sub h
  simp only [State.mask, hb 6 (by decide), if_true]
theorem mask_set_128 {w : Nat} (h : 128 &&& w = 128) (e : State) (x7) : State.mask w (State.mk e.pending e.out e.freeCtr e.pace e.sys e.clock e.keeper x7 e.power e.trust e.banks e.window e.faults e.faultBits e.faultReports e.hps e.mbxs e.goOrder e.waiting e.deviceId e.queues e.lanes e.links e.plls e.eths e.hive e.ctxs e.combs e.parts e.stitches e.frags e.fragIds e.staging e.asms e.pgs e.pgCounts e.ctxSteer e.pend e.flight e.vps e.encs e.emus e.pins e.wag) = e.mask w := by
  have hb := testBit_of_sub h
  simp only [State.mask, hb 7 (by decide), if_true]
theorem mask_set_256 {w : Nat} (h : 256 &&& w = 256) (e : State) (x8) : State.mask w (State.mk e.pending e.out e.freeCtr e.pace e.sys e.clock e.keeper e.mon x8 e.trust e.banks e.window e.faults e.faultBits e.faultReports e.hps e.mbxs e.goOrder e.waiting e.deviceId e.queues e.lanes e.links e.plls e.eths e.hive e.ctxs e.combs e.parts e.stitches e.frags e.fragIds e.staging e.asms e.pgs e.pgCounts e.ctxSteer e.pend e.flight e.vps e.encs e.emus e.pins e.wag) = e.mask w := by
  have hb := testBit_of_sub h
  simp only [State.mask, hb 8 (by decide), if_true]
theorem mask_set_512 {w : Nat} (h : 512 &&& w = 512) (e : State) (x9) : State.mask w (State.mk e.pending e.out e.freeCtr e.pace e.sys e.clock e.keeper e.mon e.power x9 e.banks e.window e.faults e.faultBits e.faultReports e.hps e.mbxs e.goOrder e.waiting e.deviceId e.queues e.lanes e.links e.plls e.eths e.hive e.ctxs e.combs e.parts e.stitches e.frags e.fragIds e.staging e.asms e.pgs e.pgCounts e.ctxSteer e.pend e.flight e.vps e.encs e.emus e.pins e.wag) = e.mask w := by
  have hb := testBit_of_sub h
  simp only [State.mask, hb 9 (by decide), if_true]
theorem mask_set_1024 {w : Nat} (h : 1024 &&& w = 1024) (e : State) (x10) : State.mask w (State.mk e.pending e.out e.freeCtr e.pace e.sys e.clock e.keeper e.mon e.power e.trust x10 e.window e.faults e.faultBits e.faultReports e.hps e.mbxs e.goOrder e.waiting e.deviceId e.queues e.lanes e.links e.plls e.eths e.hive e.ctxs e.combs e.parts e.stitches e.frags e.fragIds e.staging e.asms e.pgs e.pgCounts e.ctxSteer e.pend e.flight e.vps e.encs e.emus e.pins e.wag) = e.mask w := by
  have hb := testBit_of_sub h
  simp only [State.mask, hb 10 (by decide), if_true]
theorem mask_set_2048 {w : Nat} (h : 2048 &&& w = 2048) (e : State) (x11) : State.mask w (State.mk e.pending e.out e.freeCtr e.pace e.sys e.clock e.keeper e.mon e.power e.trust e.banks x11 e.faults e.faultBits e.faultReports e.hps e.mbxs e.goOrder e.waiting e.deviceId e.queues e.lanes e.links e.plls e.eths e.hive e.ctxs e.combs e.parts e.stitches e.frags e.fragIds e.staging e.asms e.pgs e.pgCounts e.ctxSteer e.pend e.flight e.vps e.encs e.emus e.pins e.wag) = e.mask w := by
  have hb := testBit_of_sub h
  simp only [State.mask, hb 11 (by decide), if_true]
theorem mask_set_4096 {w : Nat} (h : 4096 &&& w = 4096) (e : State) (x12) : State.mask w (State.mk e.pending e.out e.freeCtr e.pace e.sys e.clock e.keeper e.mon e.power e.trust e.banks e.window x12 e.faultBits e.faultReports e.hps e.mbxs e.goOrder e.waiting e.deviceId e.queues e.lanes e.links e.plls e.eths e.hive e.ctxs e.combs e.parts e.stitches e.frags e.fragIds e.staging e.asms e.pgs e.pgCounts e.ctxSteer e.pend e.flight e.vps e.encs e.emus e.pins e.wag) = e.mask w := by
  have hb := testBit_of_sub h
  simp only [State.mask, hb 12 (by decide), if_true]
theorem mask_set_8192 {w : Nat} (h : 8192 &&& w = 8192) (e : State) (x13) : State.mask w (State.mk e.pending e.out e.freeCtr e.pace e.sys e.clock e.keeper e.mon e.power e.trust e.banks e.window e.faults x13 e.faultReports e.hps e.mbxs e.goOrder e.waiting e.deviceId e.queues e.lanes e.links e.plls e.eths e.hive e.ctxs e.combs e.parts e.stitches e.frags e.fragIds e.staging e.asms e.pgs e.pgCounts e.ctxSteer e.pend e.flight e.vps e.encs e.emus e.pins e.wag) = e.mask w := by
  have hb := testBit_of_sub h
  simp only [State.mask, hb 13 (by decide), if_true]
theorem mask_set_16384 {w : Nat} (h : 16384 &&& w = 16384) (e : State) (x14) : State.mask w (State.mk e.pending e.out e.freeCtr e.pace e.sys e.clock e.keeper e.mon e.power e.trust e.banks e.window e.faults e.faultBits x14 e.hps e.mbxs e.goOrder e.waiting e.deviceId e.queues e.lanes e.links e.plls e.eths e.hive e.ctxs e.combs e.parts e.stitches e.frags e.fragIds e.staging e.asms e.pgs e.pgCounts e.ctxSteer e.pend e.flight e.vps e.encs e.emus e.pins e.wag) = e.mask w := by
  have hb := testBit_of_sub h
  simp only [State.mask, hb 14 (by decide), if_true]
theorem mask_set_28672 {w : Nat} (h : 28672 &&& w = 28672) (e : State) (x12) (x13) (x14) : State.mask w (State.mk e.pending e.out e.freeCtr e.pace e.sys e.clock e.keeper e.mon e.power e.trust e.banks e.window x12 x13 x14 e.hps e.mbxs e.goOrder e.waiting e.deviceId e.queues e.lanes e.links e.plls e.eths e.hive e.ctxs e.combs e.parts e.stitches e.frags e.fragIds e.staging e.asms e.pgs e.pgCounts e.ctxSteer e.pend e.flight e.vps e.encs e.emus e.pins e.wag) = e.mask w := by
  have hb := testBit_of_sub h
  simp only [State.mask, hb 12 (by decide), hb 13 (by decide), hb 14 (by decide), if_true]
theorem mask_set_32768 {w : Nat} (h : 32768 &&& w = 32768) (e : State) (x15) : State.mask w (State.mk e.pending e.out e.freeCtr e.pace e.sys e.clock e.keeper e.mon e.power e.trust e.banks e.window e.faults e.faultBits e.faultReports x15 e.mbxs e.goOrder e.waiting e.deviceId e.queues e.lanes e.links e.plls e.eths e.hive e.ctxs e.combs e.parts e.stitches e.frags e.fragIds e.staging e.asms e.pgs e.pgCounts e.ctxSteer e.pend e.flight e.vps e.encs e.emus e.pins e.wag) = e.mask w := by
  have hb := testBit_of_sub h
  simp only [State.mask, hb 15 (by decide), if_true]
theorem mask_set_65536 {w : Nat} (h : 65536 &&& w = 65536) (e : State) (x16) : State.mask w (State.mk e.pending e.out e.freeCtr e.pace e.sys e.clock e.keeper e.mon e.power e.trust e.banks e.window e.faults e.faultBits e.faultReports e.hps x16 e.goOrder e.waiting e.deviceId e.queues e.lanes e.links e.plls e.eths e.hive e.ctxs e.combs e.parts e.stitches e.frags e.fragIds e.staging e.asms e.pgs e.pgCounts e.ctxSteer e.pend e.flight e.vps e.encs e.emus e.pins e.wag) = e.mask w := by
  have hb := testBit_of_sub h
  simp only [State.mask, hb 16 (by decide), if_true]
theorem mask_set_131072 {w : Nat} (h : 131072 &&& w = 131072) (e : State) (x17) : State.mask w (State.mk e.pending e.out e.freeCtr e.pace e.sys e.clock e.keeper e.mon e.power e.trust e.banks e.window e.faults e.faultBits e.faultReports e.hps e.mbxs x17 e.waiting e.deviceId e.queues e.lanes e.links e.plls e.eths e.hive e.ctxs e.combs e.parts e.stitches e.frags e.fragIds e.staging e.asms e.pgs e.pgCounts e.ctxSteer e.pend e.flight e.vps e.encs e.emus e.pins e.wag) = e.mask w := by
  have hb := testBit_of_sub h
  simp only [State.mask, hb 17 (by decide), if_true]
theorem mask_set_262144 {w : Nat} (h : 262144 &&& w = 262144) (e : State) (x18) : State.mask w (State.mk e.pending e.out e.freeCtr e.pace e.sys e.clock e.keeper e.mon e.power e.trust e.banks e.window e.faults e.faultBits e.faultReports e.hps e.mbxs e.goOrder x18 e.deviceId e.queues e.lanes e.links e.plls e.eths e.hive e.ctxs e.combs e.parts e.stitches e.frags e.fragIds e.staging e.asms e.pgs e.pgCounts e.ctxSteer e.pend e.flight e.vps e.encs e.emus e.pins e.wag) = e.mask w := by
  have hb := testBit_of_sub h
  simp only [State.mask, hb 18 (by decide), if_true]
theorem mask_set_393216 {w : Nat} (h : 393216 &&& w = 393216) (e : State) (x17) (x18) : State.mask w (State.mk e.pending e.out e.freeCtr e.pace e.sys e.clock e.keeper e.mon e.power e.trust e.banks e.window e.faults e.faultBits e.faultReports e.hps e.mbxs x17 x18 e.deviceId e.queues e.lanes e.links e.plls e.eths e.hive e.ctxs e.combs e.parts e.stitches e.frags e.fragIds e.staging e.asms e.pgs e.pgCounts e.ctxSteer e.pend e.flight e.vps e.encs e.emus e.pins e.wag) = e.mask w := by
  have hb := testBit_of_sub h
  simp only [State.mask, hb 17 (by decide), hb 18 (by decide), if_true]
theorem mask_set_524288 {w : Nat} (h : 524288 &&& w = 524288) (e : State) (x19) : State.mask w (State.mk e.pending e.out e.freeCtr e.pace e.sys e.clock e.keeper e.mon e.power e.trust e.banks e.window e.faults e.faultBits e.faultReports e.hps e.mbxs e.goOrder e.waiting x19 e.queues e.lanes e.links e.plls e.eths e.hive e.ctxs e.combs e.parts e.stitches e.frags e.fragIds e.staging e.asms e.pgs e.pgCounts e.ctxSteer e.pend e.flight e.vps e.encs e.emus e.pins e.wag) = e.mask w := by
  have hb := testBit_of_sub h
  simp only [State.mask, hb 19 (by decide), if_true]
theorem mask_set_1048576 {w : Nat} (h : 1048576 &&& w = 1048576) (e : State) (x20) : State.mask w (State.mk e.pending e.out e.freeCtr e.pace e.sys e.clock e.keeper e.mon e.power e.trust e.banks e.window e.faults e.faultBits e.faultReports e.hps e.mbxs e.goOrder e.waiting e.deviceId x20 e.lanes e.links e.plls e.eths e.hive e.ctxs e.combs e.parts e.stitches e.frags e.fragIds e.staging e.asms e.pgs e.pgCounts e.ctxSteer e.pend e.flight e.vps e.encs e.emus e.pins e.wag) = e.mask w := by
  have hb := testBit_of_sub h
  simp only [State.mask, hb 20 (by decide), if_true]
theorem mask_set_2097152 {w : Nat} (h : 2097152 &&& w = 2097152) (e : State) (x21) : State.mask w (State.mk e.pending e.out e.freeCtr e.pace e.sys e.clock e.keeper e.mon e.power e.trust e.banks e.window e.faults e.faultBits e.faultReports e.hps e.mbxs e.goOrder e.waiting e.deviceId e.queues x21 e.links e.plls e.eths e.hive e.ctxs e.combs e.parts e.stitches e.frags e.fragIds e.staging e.asms e.pgs e.pgCounts e.ctxSteer e.pend e.flight e.vps e.encs e.emus e.pins e.wag) = e.mask w := by
  have hb := testBit_of_sub h
  simp only [State.mask, hb 21 (by decide), if_true]
theorem mask_set_4194304 {w : Nat} (h : 4194304 &&& w = 4194304) (e : State) (x22) : State.mask w (State.mk e.pending e.out e.freeCtr e.pace e.sys e.clock e.keeper e.mon e.power e.trust e.banks e.window e.faults e.faultBits e.faultReports e.hps e.mbxs e.goOrder e.waiting e.deviceId e.queues e.lanes x22 e.plls e.eths e.hive e.ctxs e.combs e.parts e.stitches e.frags e.fragIds e.staging e.asms e.pgs e.pgCounts e.ctxSteer e.pend e.flight e.vps e.encs e.emus e.pins e.wag) = e.mask w := by
  have hb := testBit_of_sub h
  simp only [State.mask, hb 22 (by decide), if_true]
theorem mask_set_8388608 {w : Nat} (h : 8388608 &&& w = 8388608) (e : State) (x23) : State.mask w (State.mk e.pending e.out e.freeCtr e.pace e.sys e.clock e.keeper e.mon e.power e.trust e.banks e.window e.faults e.faultBits e.faultReports e.hps e.mbxs e.goOrder e.waiting e.deviceId e.queues e.lanes e.links x23 e.eths e.hive e.ctxs e.combs e.parts e.stitches e.frags e.fragIds e.staging e.asms e.pgs e.pgCounts e.ctxSteer e.pend e.flight e.vps e.encs e.emus e.pins e.wag) = e.mask w := by
  have hb := testBit_of_sub h
  simp only [State.mask, hb 23 (by decide), if_true]
theorem mask_set_16777216 {w : Nat} (h : 16777216 &&& w = 16777216) (e : State) (x24) : State.mask w (State.mk e.pending e.out e.freeCtr e.pace e.sys e.clock e.keeper e.mon e.power e.trust e.banks e.window e.faults e.faultBits e.faultReports e.hps e.mbxs e.goOrder e.waiting e.deviceId e.queues e.lanes e.links e.plls x24 e.hive e.ctxs e.combs e.parts e.stitches e.frags e.fragIds e.staging e.asms e.pgs e.pgCounts e.ctxSteer e.pend e.flight e.vps e.encs e.emus e.pins e.wag) = e.mask w := by
  have hb := testBit_of_sub h
  simp only [State.mask, hb 24 (by decide), if_true]
theorem mask_set_23068672 {w : Nat} (h : 23068672 &&& w = 23068672) (e : State) (x21) (x22) (x24) : State.mask w (State.mk e.pending e.out e.freeCtr e.pace e.sys e.clock e.keeper e.mon e.power e.trust e.banks e.window e.faults e.faultBits e.faultReports e.hps e.mbxs e.goOrder e.waiting e.deviceId e.queues x21 x22 e.plls x24 e.hive e.ctxs e.combs e.parts e.stitches e.frags e.fragIds e.staging e.asms e.pgs e.pgCounts e.ctxSteer e.pend e.flight e.vps e.encs e.emus e.pins e.wag) = e.mask w := by
  have hb := testBit_of_sub h
  simp only [State.mask, hb 21 (by decide), hb 22 (by decide), hb 24 (by decide), if_true]
theorem mask_set_33554432 {w : Nat} (h : 33554432 &&& w = 33554432) (e : State) (x25) : State.mask w (State.mk e.pending e.out e.freeCtr e.pace e.sys e.clock e.keeper e.mon e.power e.trust e.banks e.window e.faults e.faultBits e.faultReports e.hps e.mbxs e.goOrder e.waiting e.deviceId e.queues e.lanes e.links e.plls e.eths x25 e.ctxs e.combs e.parts e.stitches e.frags e.fragIds e.staging e.asms e.pgs e.pgCounts e.ctxSteer e.pend e.flight e.vps e.encs e.emus e.pins e.wag) = e.mask w := by
  have hb := testBit_of_sub h
  simp only [State.mask, hb 25 (by decide), if_true]
theorem mask_set_33554592 {w : Nat} (h : 33554592 &&& w = 33554592) (e : State) (x5) (x7) (x25) : State.mask w (State.mk e.pending e.out e.freeCtr e.pace e.sys x5 e.keeper x7 e.power e.trust e.banks e.window e.faults e.faultBits e.faultReports e.hps e.mbxs e.goOrder e.waiting e.deviceId e.queues e.lanes e.links e.plls e.eths x25 e.ctxs e.combs e.parts e.stitches e.frags e.fragIds e.staging e.asms e.pgs e.pgCounts e.ctxSteer e.pend e.flight e.vps e.encs e.emus e.pins e.wag) = e.mask w := by
  have hb := testBit_of_sub h
  simp only [State.mask, hb 5 (by decide), hb 7 (by decide), hb 25 (by decide), if_true]
theorem mask_set_34078720 {w : Nat} (h : 34078720 &&& w = 34078720) (e : State) (x19) (x25) : State.mask w (State.mk e.pending e.out e.freeCtr e.pace e.sys e.clock e.keeper e.mon e.power e.trust e.banks e.window e.faults e.faultBits e.faultReports e.hps e.mbxs e.goOrder e.waiting x19 e.queues e.lanes e.links e.plls e.eths x25 e.ctxs e.combs e.parts e.stitches e.frags e.fragIds e.staging e.asms e.pgs e.pgCounts e.ctxSteer e.pend e.flight e.vps e.encs e.emus e.pins e.wag) = e.mask w := by
  have hb := testBit_of_sub h
  simp only [State.mask, hb 19 (by decide), hb 25 (by decide), if_true]
theorem mask_set_67108864 {w : Nat} (h : 67108864 &&& w = 67108864) (e : State) (x26) : State.mask w (State.mk e.pending e.out e.freeCtr e.pace e.sys e.clock e.keeper e.mon e.power e.trust e.banks e.window e.faults e.faultBits e.faultReports e.hps e.mbxs e.goOrder e.waiting e.deviceId e.queues e.lanes e.links e.plls e.eths e.hive x26 e.combs e.parts e.stitches e.frags e.fragIds e.staging e.asms e.pgs e.pgCounts e.ctxSteer e.pend e.flight e.vps e.encs e.emus e.pins e.wag) = e.mask w := by
  have hb := testBit_of_sub h
  simp only [State.mask, hb 26 (by decide), if_true]
theorem mask_set_134217728 {w : Nat} (h : 134217728 &&& w = 134217728) (e : State) (x27) : State.mask w (State.mk e.pending e.out e.freeCtr e.pace e.sys e.clock e.keeper e.mon e.power e.trust e.banks e.window e.faults e.faultBits e.faultReports e.hps e.mbxs e.goOrder e.waiting e.deviceId e.queues e.lanes e.links e.plls e.eths e.hive e.ctxs x27 e.parts e.stitches e.frags e.fragIds e.staging e.asms e.pgs e.pgCounts e.ctxSteer e.pend e.flight e.vps e.encs e.emus e.pins e.wag) = e.mask w := by
  have hb := testBit_of_sub h
  simp only [State.mask, hb 27 (by decide), if_true]
theorem mask_set_268435456 {w : Nat} (h : 268435456 &&& w = 268435456) (e : State) (x28) : State.mask w (State.mk e.pending e.out e.freeCtr e.pace e.sys e.clock e.keeper e.mon e.power e.trust e.banks e.window e.faults e.faultBits e.faultReports e.hps e.mbxs e.goOrder e.waiting e.deviceId e.queues e.lanes e.links e.plls e.eths e.hive e.ctxs e.combs x28 e.stitches e.frags e.fragIds e.staging e.asms e.pgs e.pgCounts e.ctxSteer e.pend e.flight e.vps e.encs e.emus e.pins e.wag) = e.mask w := by
  have hb := testBit_of_sub h
  simp only [State.mask, hb 28 (by decide), if_true]
theorem mask_set_536870912 {w : Nat} (h : 536870912 &&& w = 536870912) (e : State) (x29) : State.mask w (State.mk e.pending e.out e.freeCtr e.pace e.sys e.clock e.keeper e.mon e.power e.trust e.banks e.window e.faults e.faultBits e.faultReports e.hps e.mbxs e.goOrder e.waiting e.deviceId e.queues e.lanes e.links e.plls e.eths e.hive e.ctxs e.combs e.parts x29 e.frags e.fragIds e.staging e.asms e.pgs e.pgCounts e.ctxSteer e.pend e.flight e.vps e.encs e.emus e.pins e.wag) = e.mask w := by
  have hb := testBit_of_sub h
  simp only [State.mask, hb 29 (by decide), if_true]
theorem mask_set_1073741824 {w : Nat} (h : 1073741824 &&& w = 1073741824) (e : State) (x30) : State.mask w (State.mk e.pending e.out e.freeCtr e.pace e.sys e.clock e.keeper e.mon e.power e.trust e.banks e.window e.faults e.faultBits e.faultReports e.hps e.mbxs e.goOrder e.waiting e.deviceId e.queues e.lanes e.links e.plls e.eths e.hive e.ctxs e.combs e.parts e.stitches x30 e.fragIds e.staging e.asms e.pgs e.pgCounts e.ctxSteer e.pend e.flight e.vps e.encs e.emus e.pins e.wag) = e.mask w := by
  have hb := testBit_of_sub h
  simp only [State.mask, hb 30 (by decide), if_true]
theorem mask_set_1610612736 {w : Nat} (h : 1610612736 &&& w = 1610612736) (e : State) (x29) (x30) : State.mask w (State.mk e.pending e.out e.freeCtr e.pace e.sys e.clock e.keeper e.mon e.power e.trust e.banks e.window e.faults e.faultBits e.faultReports e.hps e.mbxs e.goOrder e.waiting e.deviceId e.queues e.lanes e.links e.plls e.eths e.hive e.ctxs e.combs e.parts x29 x30 e.fragIds e.staging e.asms e.pgs e.pgCounts e.ctxSteer e.pend e.flight e.vps e.encs e.emus e.pins e.wag) = e.mask w := by
  have hb := testBit_of_sub h
  simp only [State.mask, hb 29 (by decide), hb 30 (by decide), if_true]
theorem mask_set_2147483648 {w : Nat} (h : 2147483648 &&& w = 2147483648) (e : State) (x31) : State.mask w (State.mk e.pending e.out e.freeCtr e.pace e.sys e.clock e.keeper e.mon e.power e.trust e.banks e.window e.faults e.faultBits e.faultReports e.hps e.mbxs e.goOrder e.waiting e.deviceId e.queues e.lanes e.links e.plls e.eths e.hive e.ctxs e.combs e.parts e.stitches e.frags x31 e.staging e.asms e.pgs e.pgCounts e.ctxSteer e.pend e.flight e.vps e.encs e.emus e.pins e.wag) = e.mask w := by
  have hb := testBit_of_sub h
  simp only [State.mask, hb 31 (by decide), if_true]
theorem mask_set_4294967296 {w : Nat} (h : 4294967296 &&& w = 4294967296) (e : State) (x32) : State.mask w (State.mk e.pending e.out e.freeCtr e.pace e.sys e.clock e.keeper e.mon e.power e.trust e.banks e.window e.faults e.faultBits e.faultReports e.hps e.mbxs e.goOrder e.waiting e.deviceId e.queues e.lanes e.links e.plls e.eths e.hive e.ctxs e.combs e.parts e.stitches e.frags e.fragIds x32 e.asms e.pgs e.pgCounts e.ctxSteer e.pend e.flight e.vps e.encs e.emus e.pins e.wag) = e.mask w := by
  have hb := testBit_of_sub h
  simp only [State.mask, hb 32 (by decide), if_true]
theorem mask_set_4295229440 {w : Nat} (h : 4295229440 &&& w = 4295229440) (e : State) (x18) (x32) : State.mask w (State.mk e.pending e.out e.freeCtr e.pace e.sys e.clock e.keeper e.mon e.power e.trust e.banks e.window e.faults e.faultBits e.faultReports e.hps e.mbxs e.goOrder x18 e.deviceId e.queues e.lanes e.links e.plls e.eths e.hive e.ctxs e.combs e.parts e.stitches e.frags e.fragIds x32 e.asms e.pgs e.pgCounts e.ctxSteer e.pend e.flight e.vps e.encs e.emus e.pins e.wag) = e.mask w := by
  have hb := testBit_of_sub h
  simp only [State.mask, hb 18 (by decide), hb 32 (by decide), if_true]
theorem mask_set_8589934592 {w : Nat} (h : 8589934592 &&& w = 8589934592) (e : State) (x33) : State.mask w (State.mk e.pending e.out e.freeCtr e.pace e.sys e.clock e.keeper e.mon e.power e.trust e.banks e.window e.faults e.faultBits e.faultReports e.hps e.mbxs e.goOrder e.waiting e.deviceId e.queues e.lanes e.links e.plls e.eths e.hive e.ctxs e.combs e.parts e.stitches e.frags e.fragIds e.staging x33 e.pgs e.pgCounts e.ctxSteer e.pend e.flight e.vps e.encs e.emus e.pins e.wag) = e.mask w := by
  have hb := testBit_of_sub h
  simp only [State.mask, hb 33 (by decide), if_true]
theorem mask_set_17179869184 {w : Nat} (h : 17179869184 &&& w = 17179869184) (e : State) (x34) : State.mask w (State.mk e.pending e.out e.freeCtr e.pace e.sys e.clock e.keeper e.mon e.power e.trust e.banks e.window e.faults e.faultBits e.faultReports e.hps e.mbxs e.goOrder e.waiting e.deviceId e.queues e.lanes e.links e.plls e.eths e.hive e.ctxs e.combs e.parts e.stitches e.frags e.fragIds e.staging e.asms x34 e.pgCounts e.ctxSteer e.pend e.flight e.vps e.encs e.emus e.pins e.wag) = e.mask w := by
  have hb := testBit_of_sub h
  simp only [State.mask, hb 34 (by decide), if_true]
theorem mask_set_34359738368 {w : Nat} (h : 34359738368 &&& w = 34359738368) (e : State) (x35) : State.mask w (State.mk e.pending e.out e.freeCtr e.pace e.sys e.clock e.keeper e.mon e.power e.trust e.banks e.window e.faults e.faultBits e.faultReports e.hps e.mbxs e.goOrder e.waiting e.deviceId e.queues e.lanes e.links e.plls e.eths e.hive e.ctxs e.combs e.parts e.stitches e.frags e.fragIds e.staging e.asms e.pgs x35 e.ctxSteer e.pend e.flight e.vps e.encs e.emus e.pins e.wag) = e.mask w := by
  have hb := testBit_of_sub h
  simp only [State.mask, hb 35 (by decide), if_true]
theorem mask_set_68719476736 {w : Nat} (h : 68719476736 &&& w = 68719476736) (e : State) (x36) : State.mask w (State.mk e.pending e.out e.freeCtr e.pace e.sys e.clock e.keeper e.mon e.power e.trust e.banks e.window e.faults e.faultBits e.faultReports e.hps e.mbxs e.goOrder e.waiting e.deviceId e.queues e.lanes e.links e.plls e.eths e.hive e.ctxs e.combs e.parts e.stitches e.frags e.fragIds e.staging e.asms e.pgs e.pgCounts x36 e.pend e.flight e.vps e.encs e.emus e.pins e.wag) = e.mask w := by
  have hb := testBit_of_sub h
  simp only [State.mask, hb 36 (by decide), if_true]
theorem mask_set_73081552896 {w : Nat} (h : 73081552896 &&& w = 73081552896) (e : State) (x26) (x32) (x36) : State.mask w (State.mk e.pending e.out e.freeCtr e.pace e.sys e.clock e.keeper e.mon e.power e.trust e.banks e.window e.faults e.faultBits e.faultReports e.hps e.mbxs e.goOrder e.waiting e.deviceId e.queues e.lanes e.links e.plls e.eths e.hive x26 e.combs e.parts e.stitches e.frags e.fragIds x32 e.asms e.pgs e.pgCounts x36 e.pend e.flight e.vps e.encs e.emus e.pins e.wag) = e.mask w := by
  have hb := testBit_of_sub h
  simp only [State.mask, hb 26 (by decide), hb 32 (by decide), hb 36 (by decide), if_true]
theorem mask_set_85900394496 {w : Nat} (h : 85900394496 &&& w = 85900394496) (e : State) (x20) (x34) (x36) : State.mask w (State.mk e.pending e.out e.freeCtr e.pace e.sys e.clock e.keeper e.mon e.power e.trust e.banks e.window e.faults e.faultBits e.faultReports e.hps e.mbxs e.goOrder e.waiting e.deviceId x20 e.lanes e.links e.plls e.eths e.hive e.ctxs e.combs e.parts e.stitches e.frags e.fragIds e.staging e.asms x34 e.pgCounts x36 e.pend e.flight e.vps e.encs e.emus e.pins e.wag) = e.mask w := by
  have hb := testBit_of_sub h
  simp only [State.mask, hb 20 (by decide), hb 34 (by decide), hb 36 (by decide), if_true]
theorem mask_set_137438953472 {w : Nat} (h : 137438953472 &&& w = 137438953472) (e : State) (x37) : State.mask w (State.mk e.pending e.out e.freeCtr e.pace e.sys e.clock e.keeper e.mon e.power e.trust e.banks e.window e.faults e.faultBits e.faultReports e.hps e.mbxs e.goOrder e.waiting e.deviceId e.queues e.lanes e.links e.plls e.eths e.hive e.ctxs e.combs e.parts e.stitches e.frags e.fragIds e.staging e.asms e.pgs e.pgCounts e.ctxSteer x37 e.flight e.vps e.encs e.emus e.pins e.wag) = e.mask w := by
  have hb := testBit_of_sub h
  simp only [State.mask, hb 37 (by decide), if_true]
theorem mask_set_274877906944 {w : Nat} (h : 274877906944 &&& w = 274877906944) (e : State) (x38) : State.mask w (State.mk e.pending e.out e.freeCtr e.pace e.sys e.clock e.keeper e.mon e.power e.trust e.banks e.window e.faults e.faultBits e.faultReports e.hps e.mbxs e.goOrder e.waiting e.deviceId e.queues e.lanes e.links e.plls e.eths e.hive e.ctxs e.combs e.parts e.stitches e.frags e.fragIds e.staging e.asms e.pgs e.pgCounts e.ctxSteer e.pend x38 e.vps e.encs e.emus e.pins e.wag) = e.mask w := by
  have hb := testBit_of_sub h
  simp only [State.mask, hb 38 (by decide), if_true]
theorem mask_set_412316860416 {w : Nat} (h : 412316860416 &&& w = 412316860416) (e : State) (x37) (x38) : State.mask w (State.mk e.pending e.out e.freeCtr e.pace e.sys e.clock e.keeper e.mon e.power e.trust e.banks e.window e.faults e.faultBits e.faultReports e.hps e.mbxs e.goOrder e.waiting e.deviceId e.queues e.lanes e.links e.plls e.eths e.hive e.ctxs e.combs e.parts e.stitches e.frags e.fragIds e.staging e.asms e.pgs e.pgCounts e.ctxSteer x37 x38 e.vps e.encs e.emus e.pins e.wag) = e.mask w := by
  have hb := testBit_of_sub h
  simp only [State.mask, hb 37 (by decide), hb 38 (by decide), if_true]
theorem mask_set_549755813888 {w : Nat} (h : 549755813888 &&& w = 549755813888) (e : State) (x39) : State.mask w (State.mk e.pending e.out e.freeCtr e.pace e.sys e.clock e.keeper e.mon e.power e.trust e.banks e.window e.faults e.faultBits e.faultReports e.hps e.mbxs e.goOrder e.waiting e.deviceId e.queues e.lanes e.links e.plls e.eths e.hive e.ctxs e.combs e.parts e.stitches e.frags e.fragIds e.staging e.asms e.pgs e.pgCounts e.ctxSteer e.pend e.flight x39 e.encs e.emus e.pins e.wag) = e.mask w := by
  have hb := testBit_of_sub h
  simp only [State.mask, hb 39 (by decide), if_true]
theorem mask_set_549755814016 {w : Nat} (h : 549755814016 &&& w = 549755814016) (e : State) (x7) (x39) : State.mask w (State.mk e.pending e.out e.freeCtr e.pace e.sys e.clock e.keeper x7 e.power e.trust e.banks e.window e.faults e.faultBits e.faultReports e.hps e.mbxs e.goOrder e.waiting e.deviceId e.queues e.lanes e.links e.plls e.eths e.hive e.ctxs e.combs e.parts e.stitches e.frags e.fragIds e.staging e.asms e.pgs e.pgCounts e.ctxSteer e.pend e.flight x39 e.encs e.emus e.pins e.wag) = e.mask w := by
  have hb := testBit_of_sub h
  simp only [State.mask, hb 7 (by decide), hb 39 (by decide), if_true]
theorem mask_set_558479966208 {w : Nat} (h : 558479966208 &&& w = 558479966208) (e : State) (x27) (x33) (x39) : State.mask w (State.mk e.pending e.out e.freeCtr e.pace e.sys e.clock e.keeper e.mon e.power e.trust e.banks e.window e.faults e.faultBits e.faultReports e.hps e.mbxs e.goOrder e.waiting e.deviceId e.queues e.lanes e.links e.plls e.eths e.hive e.ctxs x27 e.parts e.stitches e.frags e.fragIds e.staging x33 e.pgs e.pgCounts e.ctxSteer e.pend e.flight x39 e.encs e.emus e.pins e.wag) = e.mask w := by
  have hb := testBit_of_sub h
  simp only [State.mask, hb 27 (by decide), hb 33 (by decide), hb 39 (by decide), if_true]
theorem mask_set_1099511627776 {w : Nat} (h : 1099511627776 &&& w = 1099511627776) (e : State) (x40) : State.mask w (State.mk e.pending e.out e.freeCtr e.pace e.sys e.clock e.keeper e.mon e.power e.trust e.banks e.window e.faults e.faultBits e.faultReports e.hps e.mbxs e.goOrder e.waiting e.deviceId e.queues e.lanes e.links e.plls e.eths e.hive e.ctxs e.combs e.parts e.stitches e.frags e.fragIds e.staging e.asms e.pgs e.pgCounts e.ctxSteer e.pend e.flight e.vps x40 e.emus e.pins e.wag) = e.mask w := by
  have hb := testBit_of_sub h
  simp only [State.mask, hb 40 (by decide), if_true]
theorem mask_set_2199023255552 {w : Nat} (h : 2199023255552 &&& w = 2199023255552) (e : State) (x41) : State.mask w (State.mk e.pending e.out e.freeCtr e.pace e.sys e.clock e.keeper e.mon e.power e.trust e.banks e.window e.faults e.faultBits e.faultReports e.hps e.mbxs e.goOrder e.waiting e.deviceId e.queues e.lanes e.links e.plls e.eths e.hive e.ctxs e.combs e.parts e.stitches e.frags e.fragIds e.staging e.asms e.pgs e.pgCounts e.ctxSteer e.pend e.flight e.vps e.encs x41 e.pins e.wag) = e.mask w := by
  have hb := testBit_of_sub h
  simp only [State.mask, hb 41 (by decide), if_true]
theorem mask_set_4398046511104 {w : Nat} (h : 4398046511104 &&& w = 4398046511104) (e : State) (x42) : State.mask w (State.mk e.pending e.out e.freeCtr e.pace e.sys e.clock e.keeper e.mon e.power e.trust e.banks e.window e.faults e.faultBits e.faultReports e.hps e.mbxs e.goOrder e.waiting e.deviceId e.queues e.lanes e.links e.plls e.eths e.hive e.ctxs e.combs e.parts e.stitches e.frags e.fragIds e.staging e.asms e.pgs e.pgCounts e.ctxSteer e.pend e.flight e.vps e.encs e.emus x42 e.wag) = e.mask w := by
  have hb := testBit_of_sub h
  simp only [State.mask, hb 42 (by decide), if_true]
theorem mask_set_8796093022208 {w : Nat} (h : 8796093022208 &&& w = 8796093022208) (e : State) (x43) : State.mask w (State.mk e.pending e.out e.freeCtr e.pace e.sys e.clock e.keeper e.mon e.power e.trust e.banks e.window e.faults e.faultBits e.faultReports e.hps e.mbxs e.goOrder e.waiting e.deviceId e.queues e.lanes e.links e.plls e.eths e.hive e.ctxs e.combs e.parts e.stitches e.frags e.fragIds e.staging e.asms e.pgs e.pgCounts e.ctxSteer e.pend e.flight e.vps e.encs e.emus e.pins x43) = e.mask w := by
  have hb := testBit_of_sub h
  simp only [State.mask, hb 43 (by decide), if_true]
theorem mask_set_17029345085704 {w : Nat} (h : 17029345085704 &&& w = 17029345085704) (e : State) (x3) (x8) (x11) (x15) (x20) (x26) (x28) (x29) (x30) (x31) (x34) (x35) (x36) (x37) (x38) (x40) (x41) (x42) (x43) : State.mask w (State.mk e.pending e.out e.freeCtr x3 e.sys e.clock e.keeper e.mon x8 e.trust e.banks x11 e.faults e.faultBits e.faultReports x15 e.mbxs e.goOrder e.waiting e.deviceId x20 e.lanes e.links e.plls e.eths e.hive x26 e.combs x28 x29 x30 x31 e.staging e.asms x34 x35 x36 x37 x38 e.vps x40 x41 x42 x43) = e.mask w := by
  have hb := testBit_of_sub h
  simp only [State.mask, hb 3 (by decide), hb 8 (by decide), hb 11 (by decide), hb 15 (by decide), hb 20 (by decide), hb 26 (by decide), hb 28 (by decide), hb 29 (by decide), hb 30 (by decide), hb 31 (by decide), hb 34 (by decide), hb 35 (by decide), hb 36 (by decide), hb 37 (by decide), hb 38 (by decide), hb 40 (by decide), hb 41 (by decide), hb 42 (by decide), hb 43 (by decide), if_true]
theorem mask_set_17592186044408 {w : Nat} (h : 17592186044408 &&& w = 17592186044408) (e : State) (x3) (x4) (x5) (x6) (x7) (x8) (x9) (x10) (x11) (x12) (x13) (x14) (x15) (x16) (x17) (x18) (x19) (x20) (x21) (x22) (x23) (x24) (x25) (x26) (x27) (x28) (x29) (x30) (x31) (x32) (x33) (x34) (x35) (x36) (x37) (x38) (x39) (x40) (x41) (x42) (x43) : State.mask w (State.mk e.pending e.out e.freeCtr x3 x4 x5 x6 x7 x8 x9 x10 x11 x12 x13 x14 x15 x16 x17 x18 x19 x20 x21 x22 x23 x24 x25 x26 x27 x28 x29 x30 x31 x32 x33 x34 x35 x36 x37 x38 x39 x40 x41 x42 x43) = e.mask w := by
  have hb := testBit_of_sub h
  simp only [State.mask, hb 3 (by decide), hb 4 (by decide), hb 5 (by decide), hb 6 (by decide), hb 7 (by decide), hb 8 (by decide), hb 9 (by decide), hb 10 (by decide), hb 11 (by decide), hb 12 (by decide), hb 13 (by decide), hb 14 (by decide), hb 15 (by decide), hb 16 (by decide), hb 17 (by decide), hb 18 (by decide), hb 19 (by decide), hb 20 (by decide), hb 21 (by decide), hb 22 (by decide), hb 23 (by decide), hb 24 (by decide), hb 25 (by decide), hb 26 (by decide), hb 27 (by decide), hb 28 (by decide), hb 29 (by decide), hb 30 (by decide), hb 31 (by decide), hb 32 (by decide), hb 33 (by decide), hb 34 (by decide), hb 35 (by decide), hb 36 (by decide), hb 37 (by decide), hb 38 (by decide), hb 39 (by decide), hb 40 (by decide), hb 41 (by decide), hb 42 (by decide), hb 43 (by decide), if_true]

end Sys2Proof.Machine
end

