-- ==== Sys2Proof/Laws/Hand.lean ====
section
/-! SUPPORT. What the operations that take operations keep. -/
set_option linter.all false
namespace Sys2Proof.Machine

theorem sub_trans {a b w : Nat} (h : a &&& b = a) (k : b &&& w = b) : a &&& w = a := by
  rw [← h, Nat.and_assoc, k]
theorem keeps_mono {a w : Nat} (h : a &&& w = a) {s : State} {x : Answer} (e : x.keeps a (s.mask a)) : x.keeps w (s.mask w) := by
  cases x <;> simp only [keeps_ok, keeps_started, keeps_fail, keeps_failWith, keeps_wait] at e ⊢ <;> exact mask_mono h e
theorem keepsOutcome_mono {a w : Nat} (h : a &&& w = a) {s : State} {x : Host.Outcome State Fault Refusal}
    (e : keepsOutcome a (s.mask a) x) : keepsOutcome w (s.mask w) x := by
  unfold keepsOutcome at e ⊢
  cases x <;> first | trivial | exact mask_mono h e
theorem foldl_keeps {α : Type} {w : Nat} {m : State} (g : State → α → State) (l : List α) (s : State)
    (h : ∀ s x, (g s x).mask w = s.mask w) (hs : s.mask w = m) : (l.foldl g s).mask w = m := by
  rw [foldl_mask g h, hs]
theorem foldl2_keeps {α β : Type} {w : Nat} {m : State} (g : β × State → α → β × State) (l : List α) (x : β × State)
    (h : ∀ x a, (g x a).2.mask w = x.2.mask w) (hs : x.2.mask w = m) : (l.foldl g x).2.mask w = m := by
  induction l generalizing x with
  | nil => exact hs
  | cons a l ih => exact ih (g x a) ((h x a).trans hs)
theorem ite_keeps {c : Prop} [Decidable c] {w : Nat} {m : State} {a b : State} (ha : a.mask w = m) (hb : b.mask w = m) :
    (if c then a else b).mask w = m := by
  split
  · exact ha
  · exact hb
theorem ite_answer {c : Prop} [Decidable c] {w : Nat} {m : State} {a b : Answer} (ha : a.keeps w m) (hb : b.keeps w m) :
    (if c then a else b).keeps w m := by
  split
  · exact ha
  · exact hb
theorem checked_keeps {w : Nat} {m : State} {l : List (Bool × Fail)} {a : Unit → Answer} (h : ∀ u, (a u).keeps w m) :
    (checked l a).keeps w m := by
  unfold checked; split
  · exact keeps_fail.mpr trivial
  · exact h ()
theorem withCtx_keeps {w : Nat} {m : State} {r : Req} {s : State} {g : Nat → Ctx → Answer} (h : ∀ c x, (g c x).keeps w m) :
    (withCtx r s g).keeps w m := by
  unfold withCtx; split
  · exact h _ _
  · exact keeps_fail.mpr trivial
theorem withQueue_keeps {w : Nat} {m : State} {r : Req} {s : State} {g : Nat → Queue → Answer} (h : ∀ c x, (g c x).keeps w m) :
    (withQueue r s g).keeps w m := by
  unfold withQueue; split
  · exact h _ _
  · exact keeps_fail.mpr trivial
theorem corrCmd_keeps {w : Nat} {m : State} {op n : Nat} {g : Req → State → Answer} {r : Req} {s : State}
    (h : (g r s).keeps w m) : ((corrCmd op n g).run r s).keeps w m := h

end Sys2Proof.Machine
end

