-- ==== Sys2Proof/Laws/Foot1.lean ====
section
/-! SUPPORT. What each operation leaves as it was, part 1 of 18: of state `s` it changes no field outside the set of its
footprint (a bit for each field, in the order of Field). -/
set_option linter.all false
set_option maxRecDepth 4000
open Sys2Proof Sys2Proof.Machine
namespace Sys2Proof.Machine

/-- An answer keeps what the command's own run keeps. -/
theorem Cmd_answer_keeps {w : Nat} {m : State} {c : Cmd} {r : Req} {s : State} (hs : s.mask w = m)
    (hc : (c.run r s).keeps w m) : (c.answer r s).keeps w m := by
  unfold Cmd.answer
  split
  · exact keeps_fail.mpr trivial
  · revert hc
    cases c.run r s with
    | wait t b => cases (r.checkOnly && !c.reads) <;> cases b <;> simp_all [Answer.keeps]
    | _ => cases (r.checkOnly && !c.reads) <;> simp_all [Answer.keeps]
theorem modCtx_foot {w : Nat} (h : 67108864 &&& w = 67108864) (c : Nat) (g : Ctx → Ctx) (s : State) :
    (modCtx c g s).mask w = s.mask w := by
  refine mask_mono h ?_
  unfold modCtx
  repeat' (first | with_reducible rfl | assumption | (intro _) | with_reducible refine ite_keeps ?_ ?_ | with_reducible refine ite_answer ?_ ?_ | with_reducible apply checked_keeps | with_reducible apply withCtx_keeps | with_reducible apply withQueue_keeps | with_reducible apply corrCmd_keeps | (simp only [mask_set_67108864, foldl_mask, keeps_ok, keeps_started, keeps_fail, keeps_failWith, keeps_wait, keeps_next, Nat.reduceAnd]) | with_reducible apply foldl_keeps | dsimp only | split)
theorem abortCapture_foot {w : Nat} (h : 67108864 &&& w = 67108864) (c : Nat) (s : State) :
    (abortCapture c s).mask w = s.mask w := by
  refine mask_mono h ?_
  unfold abortCapture
  repeat' (first | with_reducible rfl | assumption | (intro _) | with_reducible refine ite_keeps ?_ ?_ | with_reducible refine ite_answer ?_ ?_ | with_reducible apply checked_keeps | with_reducible apply withCtx_keeps | with_reducible apply withQueue_keeps | with_reducible apply corrCmd_keeps | (simp only [foldl_mask, modCtx_foot, keeps_ok, keeps_started, keeps_fail, keeps_failWith, keeps_wait, keeps_next, Nat.reduceAnd]) | with_reducible apply foldl_keeps | dsimp only | split)
theorem modHp_foot {w : Nat} (h : 32768 &&& w = 32768) (f : Nat) (g : HostPort → HostPort) (s : State) :
    (modHp f g s).mask w = s.mask w := by
  refine mask_mono h ?_
  unfold modHp
  repeat' (first | with_reducible rfl | assumption | (intro _) | with_reducible refine ite_keeps ?_ ?_ | with_reducible refine ite_answer ?_ ?_ | with_reducible apply checked_keeps | with_reducible apply withCtx_keeps | with_reducible apply withQueue_keeps | with_reducible apply corrCmd_keeps | (simp only [mask_set_32768, foldl_mask, keeps_ok, keeps_started, keeps_fail, keeps_failWith, keeps_wait, keeps_next, Nat.reduceAnd]) | with_reducible apply foldl_keeps | dsimp only | split)
theorem countHp_foot {w : Nat} (h : 32768 &&& w = 32768) (f : Nat) (k : HpCnt) (s : State) :
    (countHp f k s).mask w = s.mask w := by
  refine mask_mono h ?_
  unfold countHp
  repeat' (first | with_reducible rfl | assumption | (intro _) | with_reducible refine ite_keeps ?_ ?_ | with_reducible refine ite_answer ?_ ?_ | with_reducible apply checked_keeps | with_reducible apply withCtx_keeps | with_reducible apply withQueue_keeps | with_reducible apply corrCmd_keeps | (simp only [foldl_mask, modHp_foot, keeps_ok, keeps_started, keeps_fail, keeps_failWith, keeps_wait, keeps_next, Nat.reduceAnd]) | with_reducible apply foldl_keeps | dsimp only | split)
theorem setQueue_foot {w : Nat} (h : 1048576 &&& w = 1048576) (q : Nat) (v : Queue) (s : State) :
    (setQueue q v s).mask w = s.mask w := by
  refine mask_mono h ?_
  unfold setQueue
  repeat' (first | with_reducible rfl | assumption | (intro _) | with_reducible refine ite_keeps ?_ ?_ | with_reducible refine ite_answer ?_ ?_ | with_reducible apply checked_keeps | with_reducible apply withCtx_keeps | with_reducible apply withQueue_keeps | with_reducible apply corrCmd_keeps | (simp only [mask_set_1048576, foldl_mask, keeps_ok, keeps_started, keeps_fail, keeps_failWith, keeps_wait, keeps_next, Nat.reduceAnd]) | with_reducible apply foldl_keeps | dsimp only | split)
theorem modQueue_foot {w : Nat} (h : 1048576 &&& w = 1048576) (q : Nat) (g : Queue → Queue) (s : State) :
    (modQueue q g s).mask w = s.mask w := by
  refine mask_mono h ?_
  unfold modQueue
  repeat' (first | with_reducible rfl | assumption | (intro _) | with_reducible refine ite_keeps ?_ ?_ | with_reducible refine ite_answer ?_ ?_ | with_reducible apply checked_keeps | with_reducible apply withCtx_keeps | with_reducible apply withQueue_keeps | with_reducible apply corrCmd_keeps | (simp only [foldl_mask, setQueue_foot, keeps_ok, keeps_started, keeps_fail, keeps_failWith, keeps_wait, keeps_next, Nat.reduceAnd]) | with_reducible apply foldl_keeps | dsimp only | split)
theorem countQ_foot {w : Nat} (h : 1048576 &&& w = 1048576) (q : Nat) (k : QCnt) (s : State) :
    (countQ q k s).mask w = s.mask w := by
  refine mask_mono h ?_
  unfold countQ
  repeat' (first | with_reducible rfl | assumption | (intro _) | with_reducible refine ite_keeps ?_ ?_ | with_reducible refine ite_answer ?_ ?_ | with_reducible apply checked_keeps | with_reducible apply withCtx_keeps | with_reducible apply withQueue_keeps | with_reducible apply corrCmd_keeps | (simp only [foldl_mask, modQueue_foot, keeps_ok, keeps_started, keeps_fail, keeps_failWith, keeps_wait, keeps_next, Nat.reduceAnd]) | with_reducible apply foldl_keeps | dsimp only | split)
theorem eventLost_foot {w : Nat} (h : 1048576 &&& w = 1048576) (q : Nat) (s : State) :
    (eventLost q s).mask w = s.mask w := by
  refine mask_mono h ?_
  unfold eventLost
  repeat' (first | with_reducible rfl | assumption | (intro _) | with_reducible refine ite_keeps ?_ ?_ | with_reducible refine ite_answer ?_ ?_ | with_reducible apply checked_keeps | with_reducible apply withCtx_keeps | with_reducible apply withQueue_keeps | with_reducible apply corrCmd_keeps | (simp only [foldl_mask, modQueue_foot, countQ_foot, keeps_ok, keeps_started, keeps_fail, keeps_failWith, keeps_wait, keeps_next, Nat.reduceAnd]) | with_reducible apply foldl_keeps | dsimp only | split)
theorem modKeeper_foot {w : Nat} (h : 64 &&& w = 64) (g : Keeper → Keeper) (s : State) :
    (modKeeper g s).mask w = s.mask w := by
  refine mask_mono h ?_
  unfold modKeeper
  repeat' (first | with_reducible rfl | assumption | (intro _) | with_reducible refine ite_keeps ?_ ?_ | with_reducible refine ite_answer ?_ ?_ | with_reducible apply checked_keeps | with_reducible apply withCtx_keeps | with_reducible apply withQueue_keeps | with_reducible apply corrCmd_keeps | (simp only [mask_set_64, foldl_mask, keeps_ok, keeps_started, keeps_fail, keeps_failWith, keeps_wait, keeps_next, Nat.reduceAnd]) | with_reducible apply foldl_keeps | dsimp only | split)
theorem honeyN_foot {w : Nat} (h : 64 &&& w = 64) (a0 : Nat) (off : Nat) (n : Nat) (s : State) :
    (honeyN a0 off n s).mask w = s.mask w := by
  refine mask_mono h ?_
  unfold honeyN
  repeat' (first | with_reducible rfl | assumption | (intro _) | with_reducible refine ite_keeps ?_ ?_ | with_reducible refine ite_answer ?_ ?_ | with_reducible apply checked_keeps | with_reducible apply withCtx_keeps | with_reducible apply withQueue_keeps | with_reducible apply corrCmd_keeps | (simp only [foldl_mask, modKeeper_foot, keeps_ok, keeps_started, keeps_fail, keeps_failWith, keeps_wait, keeps_next, Nat.reduceAnd]) | with_reducible apply foldl_keeps | dsimp only | split)
theorem honey_foot {w : Nat} (h : 64 &&& w = 64) (off : Nat) (s : State) :
    (honey off s).mask w = s.mask w := by
  refine mask_mono h ?_
  unfold honey
  repeat' (first | with_reducible rfl | assumption | (intro _) | with_reducible refine ite_keeps ?_ ?_ | with_reducible refine ite_answer ?_ ?_ | with_reducible apply checked_keeps | with_reducible apply withCtx_keeps | with_reducible apply withQueue_keeps | with_reducible apply corrCmd_keeps | (simp only [foldl_mask, honeyN_foot, keeps_ok, keeps_started, keeps_fail, keeps_failWith, keeps_wait, keeps_next, Nat.reduceAnd]) | with_reducible apply foldl_keeps | dsimp only | split)
theorem countCplFull_foot {w : Nat} (h : 1048640 &&& w = 1048640) (q : Nat) (s : State) :
    (countCplFull q s).mask w = s.mask w := by
  refine mask_mono h ?_
  unfold countCplFull
  repeat' (first | with_reducible rfl | assumption | (intro _) | with_reducible refine ite_keeps ?_ ?_ | with_reducible refine ite_answer ?_ ?_ | with_reducible apply checked_keeps | with_reducible apply withCtx_keeps | with_reducible apply withQueue_keeps | with_reducible apply corrCmd_keeps | (simp only [foldl_mask, honey_foot, countQ_foot, keeps_ok, keeps_started, keeps_fail, keeps_failWith, keeps_wait, keeps_next, Nat.reduceAnd]) | with_reducible apply foldl_keeps | dsimp only | split)
theorem tlp_foot {w : Nat} (h : 32768 &&& w = 32768) (f : Nat) (s : State) :
    (tlp f s).mask w = s.mask w := by
  refine mask_mono h ?_
  unfold tlp
  repeat' (first | with_reducible rfl | assumption | (intro _) | with_reducible refine ite_keeps ?_ ?_ | with_reducible refine ite_answer ?_ ?_ | with_reducible apply checked_keeps | with_reducible apply withCtx_keeps | with_reducible apply withQueue_keeps | with_reducible apply corrCmd_keeps | (simp only [foldl_mask, modHp_foot, keeps_ok, keeps_started, keeps_fail, keeps_failWith, keeps_wait, keeps_next, Nat.reduceAnd]) | with_reducible apply foldl_keeps | dsimp only | split)
theorem emit_foot {w : Nat} (h : 2 &&& w = 2) (o : Out) (s : State) :
    (emit o s).mask w = s.mask w := by
  refine mask_mono h ?_
  unfold emit
  repeat' (first | with_reducible rfl | assumption | (intro _) | with_reducible refine ite_keeps ?_ ?_ | with_reducible refine ite_answer ?_ ?_ | with_reducible apply checked_keeps | with_reducible apply withCtx_keeps | with_reducible apply withQueue_keeps | with_reducible apply corrCmd_keeps | (simp only [mask_set_2, foldl_mask, keeps_ok, keeps_started, keeps_fail, keeps_failWith, keeps_wait, keeps_next, Nat.reduceAnd]) | with_reducible apply foldl_keeps | dsimp only | split)
theorem dmaIssue_foot {w : Nat} (h : 32770 &&& w = 32770) {f : Nat} {op : DmaOp} {s t : State} (e : dmaIssue f op s = some t) :
    t.mask w = s.mask w := by
  refine mask_mono h ?_
  cases op with
  | write a d =>
    simp only [dmaIssue] at e
    split at e
    · contradiction
    · injection e with e
      subst e
      rw [tlp_foot (by decide)]
      exact foldl_keeps _ _ _ (fun s x => emit_foot (by decide) _ s) rfl
  | read a n why =>
    simp only [dmaIssue] at e
    split at e
    · contradiction
    · split at e
      · contradiction
      · injection e with e
        subst e
        simp only [tlp_foot, emit_foot, modHp_foot, Nat.reduceAnd]
theorem askXlat_foot {w : Nat} (h : 2 &&& w = 2) (f : Nat) (op : DmaOp) (s : State) :
    (askXlat f op s).mask w = s.mask w := by
  refine mask_mono h ?_
  unfold askXlat
  repeat' (first | with_reducible rfl | assumption | (intro _) | with_reducible refine ite_keeps ?_ ?_ | with_reducible refine ite_answer ?_ ?_ | with_reducible apply checked_keeps | with_reducible apply withCtx_keeps | with_reducible apply withQueue_keeps | with_reducible apply corrCmd_keeps | (simp only [foldl_mask, emit_foot, keeps_ok, keeps_started, keeps_fail, keeps_failWith, keeps_wait, keeps_next, Nat.reduceAnd]) | with_reducible apply foldl_keeps | dsimp only | split)
theorem dma_foot {w : Nat} (h : 32770 &&& w = 32770) (f : Nat) (key : Nat) (op : DmaOp) (s : State) :
    (dma f key op s).mask w = s.mask w := by
  refine mask_mono h ?_
  unfold dma
  cases hd : dmaIssue f op s with
  | none =>
    repeat' (first | with_reducible rfl | (simp only [askXlat_foot, modHp_foot, Nat.reduceAnd]) | split)
  | some t =>
    have ht := mask_mono (w := 32770) (by decide) (dmaIssue_foot (w := 32770) (by decide) hd)
    repeat' (first | with_reducible rfl | (simp only [ht, askXlat_foot, modHp_foot, Nat.reduceAnd]) | split)
theorem notify_foot {w : Nat} (h : 1081346 &&& w = 1081346) (q : Nat) (s : State) :
    (notify q s).mask w = s.mask w := by
  refine mask_mono h ?_
  unfold notify
  repeat' (first | with_reducible rfl | assumption | (intro _) | with_reducible refine ite_keeps ?_ ?_ | with_reducible refine ite_answer ?_ ?_ | with_reducible apply checked_keeps | with_reducible apply withCtx_keeps | with_reducible apply withQueue_keeps | with_reducible apply corrCmd_keeps | (simp only [foldl_mask, setQueue_foot, countQ_foot, dma_foot, keeps_ok, keeps_started, keeps_fail, keeps_failWith, keeps_wait, keeps_next, Nat.reduceAnd]) | with_reducible apply foldl_keeps | dsimp only | split)
theorem writeEntry_foot {w : Nat} (h : 1081346 &&& w = 1081346) (q : Nat) (e : List Byte) (s : State) :
    (writeEntry q e s).mask w = s.mask w := by
  refine mask_mono h ?_
  unfold writeEntry
  repeat' (first | with_reducible rfl | assumption | (intro _) | with_reducible refine ite_keeps ?_ ?_ | with_reducible refine ite_answer ?_ ?_ | with_reducible apply checked_keeps | with_reducible apply withCtx_keeps | with_reducible apply withQueue_keeps | with_reducible apply corrCmd_keeps | (simp only [foldl_mask, setQueue_foot, dma_foot, notify_foot, keeps_ok, keeps_started, keeps_fail, keeps_failWith, keeps_wait, keeps_next, Nat.reduceAnd]) | with_reducible apply foldl_keeps | dsimp only | split)
theorem eventTo_foot {w : Nat} (h : 1081410 &&& w = 1081410) (dev : Nat) (code : Nat) (sev : Nat) (time : Nat) (p0 : Nat) (p1 : Nat) (p2 : Nat) (q : Nat) (s : State) :
    (eventTo dev code sev time p0 p1 p2 q s).mask w = s.mask w := by
  refine mask_mono h ?_
  unfold eventTo
  repeat' (first | with_reducible rfl | assumption | (intro _) | with_reducible refine ite_keeps ?_ ?_ | with_reducible refine ite_answer ?_ ?_ | with_reducible apply checked_keeps | with_reducible apply withCtx_keeps | with_reducible apply withQueue_keeps | with_reducible apply corrCmd_keeps | (simp only [foldl_mask, eventLost_foot, countCplFull_foot, writeEntry_foot, setQueue_foot, keeps_ok, keeps_started, keeps_fail, keeps_failWith, keeps_wait, keeps_next, Nat.reduceAnd]) | with_reducible apply foldl_keeps | dsimp only | split)
theorem eventToFn_foot {w : Nat} (h : 1081410 &&& w = 1081410) (but : Option Nat) (dev : Nat) (code : Nat) (sev : Nat) (time : Nat) (p0 : Nat) (p1 : Nat) (p2 : Nat) (f : Nat) (s : State) :
    (eventToFn but dev code sev time p0 p1 p2 f s).mask w = s.mask w := by
  refine mask_mono h ?_
  unfold eventToFn
  repeat' (first | with_reducible rfl | assumption | (intro _) | with_reducible refine ite_keeps ?_ ?_ | with_reducible refine ite_answer ?_ ?_ | with_reducible apply checked_keeps | with_reducible apply withCtx_keeps | with_reducible apply withQueue_keeps | with_reducible apply corrCmd_keeps | (simp only [foldl_mask, countHp_foot, eventTo_foot, keeps_ok, keeps_started, keeps_fail, keeps_failWith, keeps_wait, keeps_next, Nat.reduceAnd]) | with_reducible apply foldl_keeps | dsimp only | split)
theorem logAt_foot {w : Nat} (h : 64 &&& w = 64) (time : Nat) (code : Nat) (sev : Nat) (p0 : Nat) (p1 : Nat) (p2 : Nat) (s : State) :
    (logAt time code sev p0 p1 p2 s).mask w = s.mask w := by
  refine mask_mono h ?_
  unfold logAt
  repeat' (first | with_reducible rfl | assumption | (intro _) | with_reducible refine ite_keeps ?_ ?_ | with_reducible refine ite_answer ?_ ?_ | with_reducible apply checked_keeps | with_reducible apply withCtx_keeps | with_reducible apply withQueue_keeps | with_reducible apply corrCmd_keeps | (simp only [foldl_mask, modKeeper_foot, keeps_ok, keeps_started, keeps_fail, keeps_failWith, keeps_wait, keeps_next, Nat.reduceAnd]) | with_reducible apply foldl_keeps | dsimp only | split)
theorem raiseAt_foot {w : Nat} (h : 1081410 &&& w = 1081410) (time : Nat) (code : Nat) (sev : Nat) (p0 : Nat) (p1 : Nat) (p2 : Nat) (rs : List Nat) (s : State) (but : optParam (Option Nat) Option.none) :
    (raiseAt time code sev p0 p1 p2 rs s but).mask w = s.mask w := by
  refine mask_mono h ?_
  unfold raiseAt
  repeat' (first | with_reducible rfl | assumption | (intro _) | with_reducible refine ite_keeps ?_ ?_ | with_reducible refine ite_answer ?_ ?_ | with_reducible apply checked_keeps | with_reducible apply withCtx_keeps | with_reducible apply withQueue_keeps | with_reducible apply corrCmd_keeps | (simp only [foldl_mask, eventToFn_foot, logAt_foot, keeps_ok, keeps_started, keeps_fail, keeps_failWith, keeps_wait, keeps_next, Nat.reduceAnd]) | with_reducible apply foldl_keeps | dsimp only | split)
theorem raise_foot {w : Nat} (h : 1081410 &&& w = 1081410) (code : Nat) (sev : Nat) (p0 : Nat) (p1 : Nat) (p2 : Nat) (rs : List Nat) (s : State) :
    (raise code sev p0 p1 p2 rs s).mask w = s.mask w := by
  refine mask_mono h ?_
  unfold raise
  repeat' (first | with_reducible rfl | assumption | (intro _) | with_reducible refine ite_keeps ?_ ?_ | with_reducible refine ite_answer ?_ ?_ | with_reducible apply checked_keeps | with_reducible apply withCtx_keeps | with_reducible apply withQueue_keeps | with_reducible apply corrCmd_keeps | (simp only [foldl_mask, raiseAt_foot, keeps_ok, keeps_started, keeps_fail, keeps_failWith, keeps_wait, keeps_next, Nat.reduceAnd]) | with_reducible apply foldl_keeps | dsimp only | split)
theorem modLane_foot {w : Nat} (h : 2097152 &&& w = 2097152) (l : Nat) (g : Lane → Lane) (s : State) :
    (modLane l g s).mask w = s.mask w := by
  refine mask_mono h ?_
  unfold modLane
  repeat' (first | with_reducible rfl | assumption | (intro _) | with_reducible refine ite_keeps ?_ ?_ | with_reducible refine ite_answer ?_ ?_ | with_reducible apply checked_keeps | with_reducible apply withCtx_keeps | with_reducible apply withQueue_keeps | with_reducible apply corrCmd_keeps | (simp only [mask_set_2097152, foldl_mask, keeps_ok, keeps_started, keeps_fail, keeps_failWith, keeps_wait, keeps_next, Nat.reduceAnd]) | with_reducible apply foldl_keeps | dsimp only | split)
theorem bumpFree_foot {w : Nat} (h : 4 &&& w = 4) (s : State) :
    (bumpFree s).mask w = s.mask w := by
  refine mask_mono h ?_
  unfold bumpFree
  repeat' (first | with_reducible rfl | assumption | (intro _) | with_reducible refine ite_keeps ?_ ?_ | with_reducible refine ite_answer ?_ ?_ | with_reducible apply checked_keeps | with_reducible apply withCtx_keeps | with_reducible apply withQueue_keeps | with_reducible apply corrCmd_keeps | (simp only [mask_set_4, foldl_mask, keeps_ok, keeps_started, keeps_fail, keeps_failWith, keeps_wait, keeps_next, Nat.reduceAnd]) | with_reducible apply foldl_keeps | dsimp only | split)
theorem acceptFrame_foot {w : Nat} (h : 3178566 &&& w = 3178566) (l : Nat) (tf : TrainFrame) (s : State) :
    (acceptFrame l tf s).mask w = s.mask w := by
  refine mask_mono h ?_
  unfold acceptFrame
  repeat' (first | with_reducible rfl | assumption | (intro _) | with_reducible refine ite_keeps ?_ ?_ | with_reducible refine ite_answer ?_ ?_ | with_reducible apply checked_keeps | with_reducible apply withCtx_keeps | with_reducible apply withQueue_keeps | with_reducible apply corrCmd_keeps | (simp only [foldl_mask, raise_foot, modLane_foot, bumpFree_foot, keeps_ok, keeps_started, keeps_fail, keeps_failWith, keeps_wait, keeps_next, Nat.reduceAnd]) | with_reducible apply foldl_keeps | dsimp only | split)
theorem modHive_foot {w : Nat} (h : 33554432 &&& w = 33554432) (g : Hive → Hive) (s : State) :
    (modHive g s).mask w = s.mask w := by
  refine mask_mono h ?_
  unfold modHive
  repeat' (first | with_reducible rfl | assumption | (intro _) | with_reducible refine ite_keeps ?_ ?_ | with_reducible refine ite_answer ?_ ?_ | with_reducible apply checked_keeps | with_reducible apply withCtx_keeps | with_reducible apply withQueue_keeps | with_reducible apply corrCmd_keeps | (simp only [mask_set_33554432, foldl_mask, keeps_ok, keeps_started, keeps_fail, keeps_failWith, keeps_wait, keeps_next, Nat.reduceAnd]) | with_reducible apply foldl_keeps | dsimp only | split)
theorem recordId_foot {w : Nat} (h : 33554432 &&& w = 33554432) (serial : Nat) (id : Nat) (s : State) :
    (recordId serial id s).mask w = s.mask w := by
  refine mask_mono h ?_
  unfold recordId
  repeat' (first | with_reducible rfl | assumption | (intro _) | with_reducible refine ite_keeps ?_ ?_ | with_reducible refine ite_answer ?_ ?_ | with_reducible apply checked_keeps | with_reducible apply withCtx_keeps | with_reducible apply withQueue_keeps | with_reducible apply corrCmd_keeps | (simp only [foldl_mask, modHive_foot, keeps_ok, keeps_started, keeps_fail, keeps_failWith, keeps_wait, keeps_next, Nat.reduceAnd]) | with_reducible apply foldl_keeps | dsimp only | split)
theorem setWorst_foot {w : Nat} (h : 33554432 &&& w = 33554432) (s : State) :
    (setWorst s).mask w = s.mask w := by
  refine mask_mono h ?_
  unfold setWorst
  repeat' (first | with_reducible rfl | assumption | (intro _) | with_reducible refine ite_keeps ?_ ?_ | with_reducible refine ite_answer ?_ ?_ | with_reducible apply checked_keeps | with_reducible apply withCtx_keeps | with_reducible apply withQueue_keeps | with_reducible apply corrCmd_keeps | (simp only [foldl_mask, modHive_foot, keeps_ok, keeps_started, keeps_fail, keeps_failWith, keeps_wait, keeps_next, Nat.reduceAnd]) | with_reducible apply foldl_keeps | dsimp only | split)
theorem addRoute_foot {w : Nat} (h : 33554432 &&& w = 33554432) (id : Nat) (parent : Nat) (link : Nat) (alt : Option Nat) (s : State) :
    (addRoute id parent link alt s).mask w = s.mask w := by
  refine mask_mono h ?_
  unfold addRoute
  repeat' (first | with_reducible rfl | assumption | (intro _) | with_reducible refine ite_keeps ?_ ?_ | with_reducible refine ite_answer ?_ ?_ | with_reducible apply checked_keeps | with_reducible apply withCtx_keeps | with_reducible apply withQueue_keeps | with_reducible apply corrCmd_keeps | (simp only [foldl_mask, modHive_foot, keeps_ok, keeps_started, keeps_fail, keeps_failWith, keeps_wait, keeps_next, Nat.reduceAnd]) | with_reducible apply foldl_keeps | dsimp only | split)
theorem modLink_foot {w : Nat} (h : 4194304 &&& w = 4194304) (l : Nat) (g : Link → Link) (s : State) :
    (modLink l g s).mask w = s.mask w := by
  refine mask_mono h ?_
  unfold modLink
  repeat' (first | with_reducible rfl | assumption | (intro _) | with_reducible refine ite_keeps ?_ ?_ | with_reducible refine ite_answer ?_ ?_ | with_reducible apply checked_keeps | with_reducible apply withCtx_keeps | with_reducible apply withQueue_keeps | with_reducible apply corrCmd_keeps | (simp only [mask_set_4194304, foldl_mask, keeps_ok, keeps_started, keeps_fail, keeps_failWith, keeps_wait, keeps_next, Nat.reduceAnd]) | with_reducible apply foldl_keeps | dsimp only | split)
theorem queuePacket_foot {w : Nat} (h : 4194304 &&& w = 4194304) (a0 : Nat) (p : TxPacket) (s : State) :
    (queuePacket a0 p s).mask w = s.mask w := by
  refine mask_mono h ?_
  unfold queuePacket
  repeat' (first | with_reducible rfl | assumption | (intro _) | with_reducible refine ite_keeps ?_ ?_ | with_reducible refine ite_answer ?_ ?_ | with_reducible apply checked_keeps | with_reducible apply withCtx_keeps | with_reducible apply withQueue_keeps | with_reducible apply corrCmd_keeps | (simp only [foldl_mask, modLink_foot, keeps_ok, keeps_started, keeps_fail, keeps_failWith, keeps_wait, keeps_next, Nat.reduceAnd]) | with_reducible apply foldl_keeps | dsimp only | split)
theorem hsendOn_foot {w : Nat} (h : 4194304 &&& w = 4194304) (a0 : Nat) (a1 : HMsg) (s : State) :
    (hsendOn a0 a1 s).mask w = s.mask w := by
  refine mask_mono h ?_
  unfold hsendOn
  repeat' (first | with_reducible rfl | assumption | (intro _) | with_reducible refine ite_keeps ?_ ?_ | with_reducible refine ite_answer ?_ ?_ | with_reducible apply checked_keeps | with_reducible apply withCtx_keeps | with_reducible apply withQueue_keeps | with_reducible apply corrCmd_keeps | (simp only [foldl_mask, queuePacket_foot, keeps_ok, keeps_started, keeps_fail, keeps_failWith, keeps_wait, keeps_next, Nat.reduceAnd]) | with_reducible apply foldl_keeps | dsimp only | split)
theorem hsendLink_foot {w : Nat} (h : 37748736 &&& w = 37748736) (a0 : Nat) (htype : Nat) (hsub : Nat) (flags : Nat) (body : List Byte) (s : State) :
    (hsendLink a0 htype hsub flags body s).mask w = s.mask w := by
  refine mask_mono h ?_
  unfold hsendLink
  repeat' (first | with_reducible rfl | assumption | (intro _) | with_reducible refine ite_keeps ?_ ?_ | with_reducible refine ite_answer ?_ ?_ | with_reducible apply checked_keeps | with_reducible apply withCtx_keeps | with_reducible apply withQueue_keeps | with_reducible apply corrCmd_keeps | (simp only [foldl_mask, hsendOn_foot, modHive_foot, keeps_ok, keeps_started, keeps_fail, keeps_failWith, keeps_wait, keeps_next, Nat.reduceAnd]) | with_reducible apply foldl_keeps | dsimp only | split)
theorem sendJoin_foot {w : Nat} (h : 37748736 &&& w = 37748736) (a0 : Nat) (hsub : Nat) (serial : Nat) (body : List Byte) (s : State) :
    (sendJoin a0 hsub serial body s).mask w = s.mask w := by
  refine mask_mono h ?_
  unfold sendJoin
  repeat' (first | with_reducible rfl | assumption | (intro _) | with_reducible refine ite_keeps ?_ ?_ | with_reducible refine ite_answer ?_ ?_ | with_reducible apply checked_keeps | with_reducible apply withCtx_keeps | with_reducible apply withQueue_keeps | with_reducible apply corrCmd_keeps | (simp only [foldl_mask, hsendLink_foot, keeps_ok, keeps_started, keeps_fail, keeps_failWith, keeps_wait, keeps_next, Nat.reduceAnd]) | with_reducible apply foldl_keeps | dsimp only | split)
theorem hmsgDrop_foot {w : Nat} (h : 64 &&& w = 64) (s : State) :
    (hmsgDrop s).mask w = s.mask w := by
  refine mask_mono h ?_
  unfold hmsgDrop
  repeat' (first | with_reducible rfl | assumption | (intro _) | with_reducible refine ite_keeps ?_ ?_ | with_reducible refine ite_answer ?_ ?_ | with_reducible apply checked_keeps | with_reducible apply withCtx_keeps | with_reducible apply withQueue_keeps | with_reducible apply corrCmd_keeps | (simp only [foldl_mask, honey_foot, keeps_ok, keeps_started, keeps_fail, keeps_failWith, keeps_wait, keeps_next, Nat.reduceAnd]) | with_reducible apply foldl_keeps | dsimp only | split)
theorem hroute_foot {w : Nat} (h : 4194368 &&& w = 4194368) (a0 : HMsg) (a1 : Option Nat) (s : State) :
    (hroute a0 a1 s).2.mask w = s.mask w := by
  refine mask_mono h ?_
  unfold hroute
  repeat' (first | with_reducible rfl | assumption | (intro _) | with_reducible refine ite_keeps ?_ ?_ | with_reducible refine ite_answer ?_ ?_ | with_reducible apply checked_keeps | with_reducible apply withCtx_keeps | with_reducible apply withQueue_keeps | with_reducible apply corrCmd_keeps | (simp only [foldl_mask, hsendOn_foot, hmsgDrop_foot, keeps_ok, keeps_started, keeps_fail, keeps_failWith, keeps_wait, keeps_next, Nat.reduceAnd]) | with_reducible apply foldl_keeps | dsimp only | split)
theorem hsend_foot {w : Nat} (h : 37748800 &&& w = 37748800) (htype : Nat) (hsub : Nat) (flags : Nat) (dest : Nat) (body : List Byte) (s : State) :
    (hsend htype hsub flags dest body s).2.mask w = s.mask w := by
  refine mask_mono h ?_
  unfold hsend
  repeat' (first | with_reducible rfl | assumption | (intro _) | with_reducible refine ite_keeps ?_ ?_ | with_reducible refine ite_answer ?_ ?_ | with_reducible apply checked_keeps | with_reducible apply withCtx_keeps | with_reducible apply withQueue_keeps | with_reducible apply corrCmd_keeps | (simp only [foldl_mask, hroute_foot, modHive_foot, keeps_ok, keeps_started, keeps_fail, keeps_failWith, keeps_wait, keeps_next, Nat.reduceAnd]) | with_reducible apply foldl_keeps | dsimp only | split)
theorem sendMirror_foot {w : Nat} (h : 37748800 &&& w = 37748800) (dest : Nat) (s : State) :
    (sendMirror dest s).mask w = s.mask w := by
  refine mask_mono h ?_
  unfold sendMirror
  repeat' (first | with_reducible rfl | assumption | (intro _) | with_reducible refine ite_keeps ?_ ?_ | with_reducible refine ite_answer ?_ ?_ | with_reducible apply checked_keeps | with_reducible apply withCtx_keeps | with_reducible apply withQueue_keeps | with_reducible apply corrCmd_keeps | (simp only [foldl_mask, hsend_foot, keeps_ok, keeps_started, keeps_fail, keeps_failWith, keeps_wait, keeps_next, Nat.reduceAnd]) | with_reducible apply foldl_keeps | dsimp only | split)
theorem chooseStandby_foot {w : Nat} (h : 37748804 &&& w = 37748804) (s : State) :
    (chooseStandby s).mask w = s.mask w := by
  refine mask_mono h ?_
  unfold chooseStandby
  repeat' (first | with_reducible rfl | assumption | (intro _) | with_reducible refine ite_keeps ?_ ?_ | with_reducible refine ite_answer ?_ ?_ | with_reducible apply checked_keeps | with_reducible apply withCtx_keeps | with_reducible apply withQueue_keeps | with_reducible apply corrCmd_keeps | (simp only [foldl_mask, bumpFree_foot, sendMirror_foot, modHive_foot, keeps_ok, keeps_started, keeps_fail, keeps_failWith, keeps_wait, keeps_next, Nat.reduceAnd]) | with_reducible apply foldl_keeps | dsimp only | split)
theorem acceptJoin_foot {w : Nat} (h : 38830150 &&& w = 38830150) (j : Join) (id : Nat) (s : State) :
    (acceptJoin j id s).mask w = s.mask w := by
  refine mask_mono h ?_
  unfold acceptJoin
  repeat' (first | with_reducible rfl | assumption | (intro _) | with_reducible refine ite_keeps ?_ ?_ | with_reducible refine ite_answer ?_ ?_ | with_reducible apply checked_keeps | with_reducible apply withCtx_keeps | with_reducible apply withQueue_keeps | with_reducible apply corrCmd_keeps | (simp only [foldl_mask, recordId_foot, modHive_foot, setWorst_foot, addRoute_foot, raise_foot, sendJoin_foot, chooseStandby_foot, keeps_ok, keeps_started, keeps_fail, keeps_failWith, keeps_wait, keeps_next, Nat.reduceAnd]) | with_reducible apply foldl_keeps | dsimp only | split)
theorem sendBlock_foot {w : Nat} (h : 2 &&& w = 2) (l : Nat) (b : List Byte) (s : State) :
    (sendBlock l b s).mask w = s.mask w := by
  refine mask_mono h ?_
  unfold sendBlock
  repeat' (first | with_reducible rfl | assumption | (intro _) | with_reducible refine ite_keeps ?_ ?_ | with_reducible refine ite_answer ?_ ?_ | with_reducible apply checked_keeps | with_reducible apply withCtx_keeps | with_reducible apply withQueue_keeps | with_reducible apply corrCmd_keeps | (simp only [foldl_mask, emit_foot, keeps_ok, keeps_started, keeps_fail, keeps_failWith, keeps_wait, keeps_next, Nat.reduceAnd]) | with_reducible apply foldl_keeps | dsimp only | split)
theorem sendStream_foot {w : Nat} (h : 2 &&& w = 2) (a0 : Nat) (b : List Byte) (s : State) :
    (sendStream a0 b s).mask w = s.mask w := by
  refine mask_mono h ?_
  unfold sendStream
  repeat' (first | with_reducible rfl | assumption | (intro _) | with_reducible refine ite_keeps ?_ ?_ | with_reducible refine ite_answer ?_ ?_ | with_reducible apply checked_keeps | with_reducible apply withCtx_keeps | with_reducible apply withQueue_keeps | with_reducible apply corrCmd_keeps | (simp only [foldl_mask, sendBlock_foot, keeps_ok, keeps_started, keeps_fail, keeps_failWith, keeps_wait, keeps_next, Nat.reduceAnd]) | with_reducible apply foldl_keeps | dsimp only | split)
theorem sendEvent_foot {w : Nat} (h : 4194306 &&& w = 4194306) (a0 : Nat) (kind : Nat) (target : Nat) (time : Nat) (s : State) :
    (sendEvent a0 kind target time s).mask w = s.mask w := by
  refine mask_mono h ?_
  unfold sendEvent
  repeat' (first | with_reducible rfl | assumption | (intro _) | with_reducible refine ite_keeps ?_ ?_ | with_reducible refine ite_answer ?_ ?_ | with_reducible apply checked_keeps | with_reducible apply withCtx_keeps | with_reducible apply withQueue_keeps | with_reducible apply corrCmd_keeps | (simp only [foldl_mask, sendStream_foot, modLink_foot, keeps_ok, keeps_started, keeps_fail, keeps_failWith, keeps_wait, keeps_next, Nat.reduceAnd]) | with_reducible apply foldl_keeps | dsimp only | split)
theorem modFlight_foot {w : Nat} (h : 274877906944 &&& w = 274877906944) (g : Flight → Flight) (s : State) :
    (modFlight g s).mask w = s.mask w := by
  refine mask_mono h ?_
  unfold modFlight
  repeat' (first | with_reducible rfl | assumption | (intro _) | with_reducible refine ite_keeps ?_ ?_ | with_reducible refine ite_answer ?_ ?_ | with_reducible apply checked_keeps | with_reducible apply withCtx_keeps | with_reducible apply withQueue_keeps | with_reducible apply corrCmd_keeps | (simp only [mask_set_274877906944, foldl_mask, keeps_ok, keeps_started, keeps_fail, keeps_failWith, keeps_wait, keeps_next, Nat.reduceAnd]) | with_reducible apply foldl_keeps | dsimp only | split)
theorem freeAction_foot {w : Nat} (h : 274877906944 &&& w = 274877906944) (n : Nat) (s : State) :
    (freeAction n s).mask w = s.mask w := by
  refine mask_mono h ?_
  unfold freeAction
  repeat' (first | with_reducible rfl | assumption | (intro _) | with_reducible refine ite_keeps ?_ ?_ | with_reducible refine ite_answer ?_ ?_ | with_reducible apply checked_keeps | with_reducible apply withCtx_keeps | with_reducible apply withQueue_keeps | with_reducible apply corrCmd_keeps | (simp only [foldl_mask, modFlight_foot, keeps_ok, keeps_started, keeps_fail, keeps_failWith, keeps_wait, keeps_next, Nat.reduceAnd]) | with_reducible apply foldl_keeps | dsimp only | split)
theorem modPin_foot {w : Nat} (h : 4398046511104 &&& w = 4398046511104) (p : Nat) (g : Pin → Pin) (s : State) :
    (modPin p g s).mask w = s.mask w := by
  refine mask_mono h ?_
  unfold modPin
  repeat' (first | with_reducible rfl | assumption | (intro _) | with_reducible refine ite_keeps ?_ ?_ | with_reducible refine ite_answer ?_ ?_ | with_reducible apply checked_keeps | with_reducible apply withCtx_keeps | with_reducible apply withQueue_keeps | with_reducible apply corrCmd_keeps | (simp only [mask_set_4398046511104, foldl_mask, keeps_ok, keeps_started, keeps_fail, keeps_failWith, keeps_wait, keeps_next, Nat.reduceAnd]) | with_reducible apply foldl_keeps | dsimp only | split)
theorem setPin_foot {w : Nat} (h : 4398046511106 &&& w = 4398046511106) (p : Nat) (level : Bool) (s : State) :
    (setPin p level s).mask w = s.mask w := by
  refine mask_mono h ?_
  unfold setPin
  repeat' (first | with_reducible rfl | assumption | (intro _) | with_reducible refine ite_keeps ?_ ?_ | with_reducible refine ite_answer ?_ ?_ | with_reducible apply checked_keeps | with_reducible apply withCtx_keeps | with_reducible apply withQueue_keeps | with_reducible apply corrCmd_keeps | (simp only [foldl_mask, emit_foot, modPin_foot, keeps_ok, keeps_started, keeps_fail, keeps_failWith, keeps_wait, keeps_next, Nat.reduceAnd]) | with_reducible apply foldl_keeps | dsimp only | split)
theorem modChan_foot {w : Nat} (h : 8796093022208 &&& w = 8796093022208) (c : Nat) (g : WgChan → WgChan) (s : State) :
    (modChan c g s).mask w = s.mask w := by
  refine mask_mono h ?_
  unfold modChan
  repeat' (first | with_reducible rfl | assumption | (intro _) | with_reducible refine ite_keeps ?_ ?_ | with_reducible refine ite_answer ?_ ?_ | with_reducible apply checked_keeps | with_reducible apply withCtx_keeps | with_reducible apply withQueue_keeps | with_reducible apply corrCmd_keeps | (simp only [mask_set_8796093022208, foldl_mask, keeps_ok, keeps_started, keeps_fail, keeps_failWith, keeps_wait, keeps_next, Nat.reduceAnd]) | with_reducible apply foldl_keeps | dsimp only | split)
theorem countChan_foot {w : Nat} (h : 8796093022208 &&& w = 8796093022208) (c : Nat) (k : WgCnt) (s : State) :
    (countChan c k s).mask w = s.mask w := by
  refine mask_mono h ?_
  unfold countChan
  repeat' (first | with_reducible rfl | assumption | (intro _) | with_reducible refine ite_keeps ?_ ?_ | with_reducible refine ite_answer ?_ ?_ | with_reducible apply checked_keeps | with_reducible apply withCtx_keeps | with_reducible apply withQueue_keeps | with_reducible apply corrCmd_keeps | (simp only [foldl_mask, modChan_foot, keeps_ok, keeps_started, keeps_fail, keeps_failWith, keeps_wait, keeps_next, Nat.reduceAnd]) | with_reducible apply foldl_keeps | dsimp only | split)
theorem paced_foot {w : Nat} (h : 8 &&& w = 8) (k : Pace) (obj : Nat) (T : Nat) (s : State) :
    (paced k obj T s).2.mask w = s.mask w := by
  refine mask_mono h ?_
  unfold paced
  repeat' (first | with_reducible rfl | assumption | (intro _) | with_reducible refine ite_keeps ?_ ?_ | with_reducible refine ite_answer ?_ ?_ | with_reducible apply checked_keeps | with_reducible apply withCtx_keeps | with_reducible apply withQueue_keeps | with_reducible apply corrCmd_keeps | (simp only [mask_set_8, foldl_mask, keeps_ok, keeps_started, keeps_fail, keeps_failWith, keeps_wait, keeps_next, Nat.reduceAnd]) | with_reducible apply foldl_keeps | dsimp only | split)
theorem wgLimit_foot {w : Nat} (h : 8796094103626 &&& w = 8796094103626) (c : Nat) (k : WgCnt) (p : Pace) (code : Nat) (s : State) :
    (wgLimit c k p code s).mask w = s.mask w := by
  refine mask_mono h ?_
  unfold wgLimit
  repeat' (first | with_reducible rfl | assumption | (intro _) | with_reducible refine ite_keeps ?_ ?_ | with_reducible refine ite_answer ?_ ?_ | with_reducible apply checked_keeps | with_reducible apply withCtx_keeps | with_reducible apply withQueue_keeps | with_reducible apply corrCmd_keeps | (simp only [foldl_mask, countChan_foot, paced_foot, raise_foot, keeps_ok, keeps_started, keeps_fail, keeps_failWith, keeps_wait, keeps_next, Nat.reduceAnd]) | with_reducible apply foldl_keeps | dsimp only | split)
theorem modWgInput_foot {w : Nat} (h : 8796093022208 &&& w = 8796093022208) (k : Nat) (g : WgInput → WgInput) (s : State) :
    (modWgInput k g s).mask w = s.mask w := by
  refine mask_mono h ?_
  unfold modWgInput
  repeat' (first | with_reducible rfl | assumption | (intro _) | with_reducible refine ite_keeps ?_ ?_ | with_reducible refine ite_answer ?_ ?_ | with_reducible apply checked_keeps | with_reducible apply withCtx_keeps | with_reducible apply withQueue_keeps | with_reducible apply corrCmd_keeps | (simp only [mask_set_8796093022208, foldl_mask, keeps_ok, keeps_started, keeps_fail, keeps_failWith, keeps_wait, keeps_next, Nat.reduceAnd]) | with_reducible apply foldl_keeps | dsimp only | split)
theorem countInput_foot {w : Nat} (h : 8796093022208 &&& w = 8796093022208) (k : Nat) (n : WgInCnt) (s : State) :
    (countInput k n s).mask w = s.mask w := by
  refine mask_mono h ?_
  unfold countInput
  repeat' (first | with_reducible rfl | assumption | (intro _) | with_reducible refine ite_keeps ?_ ?_ | with_reducible refine ite_answer ?_ ?_ | with_reducible apply checked_keeps | with_reducible apply withCtx_keeps | with_reducible apply withQueue_keeps | with_reducible apply corrCmd_keeps | (simp only [foldl_mask, modWgInput_foot, keeps_ok, keeps_started, keeps_fail, keeps_failWith, keeps_wait, keeps_next, Nat.reduceAnd]) | with_reducible apply foldl_keeps | dsimp only | split)
theorem modEmu_foot {w : Nat} (h : 2199023255552 &&& w = 2199023255552) (o : Nat) (g : Emu → Emu) (s : State) :
    (modEmu o g s).mask w = s.mask w := by
  refine mask_mono h ?_
  unfold modEmu
  repeat' (first | with_reducible rfl | assumption | (intro _) | with_reducible refine ite_keeps ?_ ?_ | with_reducible refine ite_answer ?_ ?_ | with_reducible apply checked_keeps | with_reducible apply withCtx_keeps | with_reducible apply withQueue_keeps | with_reducible apply corrCmd_keeps | (simp only [mask_set_2199023255552, foldl_mask, keeps_ok, keeps_started, keeps_fail, keeps_failWith, keeps_wait, keeps_next, Nat.reduceAnd]) | with_reducible apply foldl_keeps | dsimp only | split)
theorem setEmu_foot {w : Nat} (h : 2199023255552 &&& w = 2199023255552) (o : Nat) (on : Bool) (s : State) :
    (setEmu o on s).mask w = s.mask w := by
  refine mask_mono h ?_
  unfold setEmu
  repeat' (first | with_reducible rfl | assumption | (intro _) | with_reducible refine ite_keeps ?_ ?_ | with_reducible refine ite_answer ?_ ?_ | with_reducible apply checked_keeps | with_reducible apply withCtx_keeps | with_reducible apply withQueue_keeps | with_reducible apply corrCmd_keeps | (simp only [foldl_mask, modEmu_foot, keeps_ok, keeps_started, keeps_fail, keeps_failWith, keeps_wait, keeps_next, Nat.reduceAnd]) | with_reducible apply foldl_keeps | dsimp only | split)
theorem modEnc_foot {w : Nat} (h : 1099511627776 &&& w = 1099511627776) (e : Nat) (g : Enc → Enc) (s : State) :
    (modEnc e g s).mask w = s.mask w := by
  refine mask_mono h ?_
  unfold modEnc
  repeat' (first | with_reducible rfl | assumption | (intro _) | with_reducible refine ite_keeps ?_ ?_ | with_reducible refine ite_answer ?_ ?_ | with_reducible apply checked_keeps | with_reducible apply withCtx_keeps | with_reducible apply withQueue_keeps | with_reducible apply corrCmd_keeps | (simp only [mask_set_1099511627776, foldl_mask, keeps_ok, keeps_started, keeps_fail, keeps_failWith, keeps_wait, keeps_next, Nat.reduceAnd]) | with_reducible apply foldl_keeps | dsimp only | split)
theorem deliver_foot {w : Nat} (h : 12644387913730 &&& w = 12644387913730) (key : Nat) (c : Nat) (gen : Nat) (a3 : WgWork) (e : List TickEnd) (s : State) :
    (deliver key c gen a3 e s).2.2.mask w = s.mask w := by
  refine mask_mono h ?_
  unfold deliver
  repeat' (first | with_reducible rfl | assumption | (intro _) | with_reducible refine ite_keeps ?_ ?_ | with_reducible refine ite_answer ?_ ?_ | with_reducible apply checked_keeps | with_reducible apply withCtx_keeps | with_reducible apply withQueue_keeps | with_reducible apply corrCmd_keeps | (simp only [mask_set_549755813888, foldl_mask, countInput_foot, modWgInput_foot, sendEvent_foot, setEmu_foot, modEnc_foot, keeps_ok, keeps_started, keeps_fail, keeps_failWith, keeps_wait, keeps_next, Nat.reduceAnd]) | with_reducible apply foldl_keeps | dsimp only | split)

end Sys2Proof.Machine
end

