-- ==== Sys2Proof/Laws/Foot2.lean ====
section
/-! SUPPORT. What each operation leaves as it was, part 2 of 18: of state `s` it changes no field outside the set of its
footprint (a bit for each field, in the order of Field). -/
set_option linter.all false
set_option maxRecDepth 4000
open Sys2Proof Sys2Proof.Machine
namespace Sys2Proof.Machine

theorem deliverAll_foot {w : Nat} (h : 12644387913730 &&& w = 12644387913730) (c : Nat) (gen : Nat) (a : List Nat) (a3 : WgWork) (a4 : List TickEnd) (a5 : State) :
    (deliverAll c gen a a3 a4 a5).2.2.mask w = a5.mask w := by
  refine mask_mono h ?_
  induction a generalizing a3 a4 a5 with
  | nil => rfl
  | cons k r ih => simp only [deliverAll]; rw [ih]; simp only [deliver_foot, Nat.reduceAnd]
theorem wgSend_foot {w : Nat} (h : 8796131852354 &&& w = 8796131852354) (c : Nat) (s : State) :
    (wgSend c s).mask w = s.mask w := by
  refine mask_mono h ?_
  unfold wgSend
  repeat' (first | with_reducible rfl | assumption | (intro _) | with_reducible refine ite_keeps ?_ ?_ | with_reducible refine ite_answer ?_ ?_ | with_reducible apply checked_keeps | with_reducible apply withCtx_keeps | with_reducible apply withQueue_keeps | with_reducible apply corrCmd_keeps | (simp only [foldl_mask, hsend_foot, countChan_foot, raise_foot, keeps_ok, keeps_started, keeps_fail, keeps_failWith, keeps_wait, keeps_next, Nat.reduceAnd]) | with_reducible apply foldl_keeps | dsimp only | split)
theorem fireChan_foot {w : Nat} (h : 12644422549570 &&& w = 12644422549570) (c : Nat) (gen : Nat) (a2 : WgWork) (e : List TickEnd) (s : State) :
    (fireChan c gen a2 e s).2.2.mask w = s.mask w := by
  refine mask_mono h ?_
  unfold fireChan
  repeat' (first | with_reducible rfl | assumption | (intro _) | with_reducible refine ite_keeps ?_ ?_ | with_reducible refine ite_answer ?_ ?_ | with_reducible apply checked_keeps | with_reducible apply withCtx_keeps | with_reducible apply withQueue_keeps | with_reducible apply corrCmd_keeps | (simp only [foldl_mask, countChan_foot, modChan_foot, deliverAll_foot, wgSend_foot, keeps_ok, keeps_started, keeps_fail, keeps_failWith, keeps_wait, keeps_next, Nat.reduceAnd]) | with_reducible apply foldl_keeps | dsimp only | split)
theorem occur_foot {w : Nat} (h : 12644422549578 &&& w = 12644422549578) (c : Nat) (gen : Nat) (a2 : WgWork) (e : List TickEnd) (s : State) :
    (occur c gen a2 e s).2.2.mask w = s.mask w := by
  refine mask_mono h ?_
  unfold occur
  repeat' (first | with_reducible rfl | assumption | (intro _) | with_reducible refine ite_keeps ?_ ?_ | with_reducible refine ite_answer ?_ ?_ | with_reducible apply checked_keeps | with_reducible apply withCtx_keeps | with_reducible apply withQueue_keeps | with_reducible apply corrCmd_keeps | (simp only [foldl_mask, wgLimit_foot, modChan_foot, fireChan_foot, keeps_ok, keeps_started, keeps_fail, keeps_failWith, keeps_wait, keeps_next, Nat.reduceAnd]) | with_reducible apply foldl_keeps | dsimp only | split)
theorem propagate_foot {w : Nat} (h : 12644422549578 &&& w = 12644422549578) (a : Nat) (a1 : WgWork) (a2 : List TickEnd) (a3 : State) :
    (propagate a a1 a2 a3).2.mask w = a3.mask w := by
  refine mask_mono h ?_
  induction a generalizing a1 a2 a3 with
  | zero => rfl
  | succ n ih =>
    cases a1 with
    | nil => rfl
    | cons x r => simp only [propagate]; rw [ih]; simp only [occur_foot, Nat.reduceAnd]
theorem endPin_foot {w : Nat} (h : 4398046511106 &&& w = 4398046511106) (p : Nat) (e : List TickEnd) (s : State) :
    (endPin p e s).mask w = s.mask w := by
  refine mask_mono h ?_
  unfold endPin
  repeat' (first | with_reducible rfl | assumption | (intro _) | with_reducible refine ite_keeps ?_ ?_ | with_reducible refine ite_answer ?_ ?_ | with_reducible apply checked_keeps | with_reducible apply withCtx_keeps | with_reducible apply withQueue_keeps | with_reducible apply corrCmd_keeps | (simp only [foldl_mask, setPin_foot, keeps_ok, keeps_started, keeps_fail, keeps_failWith, keeps_wait, keeps_next, Nat.reduceAnd]) | with_reducible apply foldl_keeps | dsimp only | split)
theorem endStamp_foot {w : Nat} (h : 1081410 &&& w = 1081410) (f : Nat) (e : List TickEnd) (s : State) :
    (endStamp f e s).mask w = s.mask w := by
  refine mask_mono h ?_
  unfold endStamp
  repeat' (first | with_reducible rfl | assumption | (intro _) | with_reducible refine ite_keeps ?_ ?_ | with_reducible refine ite_answer ?_ ?_ | with_reducible apply checked_keeps | with_reducible apply withCtx_keeps | with_reducible apply withQueue_keeps | with_reducible apply corrCmd_keeps | (simp only [foldl_mask, raise_foot, keeps_ok, keeps_started, keeps_fail, keeps_failWith, keeps_wait, keeps_next, Nat.reduceAnd]) | with_reducible apply foldl_keeps | dsimp only | split)
theorem modWgGroup_foot {w : Nat} (h : 8796093022208 &&& w = 8796093022208) (g : Nat) (a1 : WgGroup → WgGroup) (s : State) :
    (modWgGroup g a1 s).mask w = s.mask w := by
  refine mask_mono h ?_
  unfold modWgGroup
  repeat' (first | with_reducible rfl | assumption | (intro _) | with_reducible refine ite_keeps ?_ ?_ | with_reducible refine ite_answer ?_ ?_ | with_reducible apply checked_keeps | with_reducible apply withCtx_keeps | with_reducible apply withQueue_keeps | with_reducible apply corrCmd_keeps | (simp only [mask_set_8796093022208, foldl_mask, keeps_ok, keeps_started, keeps_fail, keeps_failWith, keeps_wait, keeps_next, Nat.reduceAnd]) | with_reducible apply foldl_keeps | dsimp only | split)
theorem endTick_foot {w : Nat} (h : 13194140614722 &&& w = 13194140614722) (e : List TickEnd) (s : State) :
    (endTick e s).mask w = s.mask w := by
  refine mask_mono h ?_
  unfold endTick
  repeat' (first | with_reducible rfl | assumption | (intro _) | with_reducible refine ite_keeps ?_ ?_ | with_reducible refine ite_answer ?_ ?_ | with_reducible apply checked_keeps | with_reducible apply withCtx_keeps | with_reducible apply withQueue_keeps | with_reducible apply corrCmd_keeps | (simp only [foldl_mask, endPin_foot, endStamp_foot, modWgGroup_foot, modChan_foot, keeps_ok, keeps_started, keeps_fail, keeps_failWith, keeps_wait, keeps_next, Nat.reduceAnd]) | with_reducible apply foldl_keeps | dsimp only | split)
theorem originate_foot {w : Nat} (h : 17042469060682 &&& w = 17042469060682) (cs : List Nat) (merged : Bool) (s : State) :
    (originate cs merged s).mask w = s.mask w := by
  refine mask_mono h ?_
  unfold originate
  repeat' (first | with_reducible rfl | assumption | (intro _) | with_reducible refine ite_keeps ?_ ?_ | with_reducible refine ite_answer ?_ ?_ | with_reducible apply checked_keeps | with_reducible apply withCtx_keeps | with_reducible apply withQueue_keeps | with_reducible apply corrCmd_keeps | (simp only [mask_set_8796093022208, foldl_mask, propagate_foot, endTick_foot, keeps_ok, keeps_started, keeps_fail, keeps_failWith, keeps_wait, keeps_next, Nat.reduceAnd]) | with_reducible apply foldl_keeps | dsimp only | split)
theorem complete_foot {w : Nat} (h : 1081346 &&& w = 1081346) (q : Nat) (slot : Nat) (e : List Byte) (s : State) :
    (complete q slot e s).mask w = s.mask w := by
  refine mask_mono h ?_
  unfold complete
  repeat' (first | with_reducible rfl | assumption | (intro _) | with_reducible refine ite_keeps ?_ ?_ | with_reducible refine ite_answer ?_ ?_ | with_reducible apply checked_keeps | with_reducible apply withCtx_keeps | with_reducible apply withQueue_keeps | with_reducible apply corrCmd_keeps | (simp only [foldl_mask, writeEntry_foot, modQueue_foot, keeps_ok, keeps_started, keeps_fail, keeps_failWith, keeps_wait, keeps_next, Nat.reduceAnd]) | with_reducible apply foldl_keeps | dsimp only | split)
theorem launchFrame_foot {w : Nat} (h : 68190274 &&& w = 68190274) (c : Nat) (s : State) :
    (launchFrame c s).2.mask w = s.mask w := by
  refine mask_mono h ?_
  unfold launchFrame
  repeat' (first | with_reducible rfl | assumption | (intro _) | with_reducible refine ite_keeps ?_ ?_ | with_reducible refine ite_answer ?_ ?_ | with_reducible apply checked_keeps | with_reducible apply withCtx_keeps | with_reducible apply withQueue_keeps | with_reducible apply corrCmd_keeps | (simp only [foldl_mask, countCplFull_foot, complete_foot, modCtx_foot, keeps_ok, keeps_started, keeps_fail, keeps_failWith, keeps_wait, keeps_next, Nat.reduceAnd]) | with_reducible apply foldl_keeps | dsimp only | split)
theorem actEffect_foot {w : Nat} (h : 17317414076490 &&& w = 17317414076490) (a : Action) (s : State) :
    (actEffect a s).2.mask w = s.mask w := by
  refine mask_mono h ?_
  unfold actEffect
  repeat' (first | with_reducible rfl | assumption | (intro _) | with_reducible refine ite_keeps ?_ ?_ | with_reducible refine ite_answer ?_ ?_ | with_reducible apply checked_keeps | with_reducible apply withCtx_keeps | with_reducible apply withQueue_keeps | with_reducible apply corrCmd_keeps | (simp only [foldl_mask, sendEvent_foot, freeAction_foot, setPin_foot, originate_foot, launchFrame_foot, keeps_ok, keeps_started, keeps_fail, keeps_failWith, keeps_wait, keeps_next, Nat.reduceAnd]) | with_reducible apply foldl_keeps | dsimp only | split)
theorem endFrames_foot {w : Nat} (h : 67108864 &&& w = 67108864) (q : Nat) (s : State) :
    (endFrames q s).mask w = s.mask w := by
  refine mask_mono h ?_
  unfold endFrames
  repeat' (first | with_reducible rfl | assumption | (intro _) | with_reducible refine ite_keeps ?_ ?_ | with_reducible refine ite_answer ?_ ?_ | with_reducible apply checked_keeps | with_reducible apply withCtx_keeps | with_reducible apply withQueue_keeps | with_reducible apply corrCmd_keeps | (simp only [mask_set_67108864, foldl_mask, keeps_ok, keeps_started, keeps_fail, keeps_failWith, keeps_wait, keeps_next, Nat.reduceAnd]) | with_reducible apply foldl_keeps | dsimp only | split)
theorem countCtxN_foot {w : Nat} (h : 67108864 &&& w = 67108864) (c : Nat) (k : CtxCnt) (n : Nat) (s : State) :
    (countCtxN c k n s).mask w = s.mask w := by
  refine mask_mono h ?_
  unfold countCtxN
  repeat' (first | with_reducible rfl | assumption | (intro _) | with_reducible refine ite_keeps ?_ ?_ | with_reducible refine ite_answer ?_ ?_ | with_reducible apply checked_keeps | with_reducible apply withCtx_keeps | with_reducible apply withQueue_keeps | with_reducible apply corrCmd_keeps | (simp only [foldl_mask, modCtx_foot, keeps_ok, keeps_started, keeps_fail, keeps_failWith, keeps_wait, keeps_next, Nat.reduceAnd]) | with_reducible apply foldl_keeps | dsimp only | split)
theorem countCtx_foot {w : Nat} (h : 67108864 &&& w = 67108864) (c : Nat) (k : CtxCnt) (s : State) :
    (countCtx c k s).mask w = s.mask w := by
  refine mask_mono h ?_
  unfold countCtx
  repeat' (first | with_reducible rfl | assumption | (intro _) | with_reducible refine ite_keeps ?_ ?_ | with_reducible refine ite_answer ?_ ?_ | with_reducible apply checked_keeps | with_reducible apply withCtx_keeps | with_reducible apply withQueue_keeps | with_reducible apply corrCmd_keeps | (simp only [foldl_mask, countCtxN_foot, keeps_ok, keeps_started, keeps_fail, keeps_failWith, keeps_wait, keeps_next, Nat.reduceAnd]) | with_reducible apply foldl_keeps | dsimp only | split)
theorem modAsm_foot {w : Nat} (h : 8589934592 &&& w = 8589934592) (a : Nat) (g : Asm → Asm) (s : State) :
    (modAsm a g s).mask w = s.mask w := by
  refine mask_mono h ?_
  unfold modAsm
  repeat' (first | with_reducible rfl | assumption | (intro _) | with_reducible refine ite_keeps ?_ ?_ | with_reducible refine ite_answer ?_ ?_ | with_reducible apply checked_keeps | with_reducible apply withCtx_keeps | with_reducible apply withQueue_keeps | with_reducible apply corrCmd_keeps | (simp only [mask_set_8589934592, foldl_mask, keeps_ok, keeps_started, keeps_fail, keeps_failWith, keeps_wait, keeps_next, Nat.reduceAnd]) | with_reducible apply foldl_keeps | dsimp only | split)
theorem freeCell_foot {w : Nat} (h : 8657043456 &&& w = 8657043456) (a : Nat) (c : Nat) (s : State) :
    (freeCell a c s).mask w = s.mask w := by
  refine mask_mono h ?_
  unfold freeCell
  repeat' (first | with_reducible rfl | assumption | (intro _) | with_reducible refine ite_keeps ?_ ?_ | with_reducible refine ite_answer ?_ ?_ | with_reducible apply checked_keeps | with_reducible apply withCtx_keeps | with_reducible apply withQueue_keeps | with_reducible apply corrCmd_keeps | (simp only [foldl_mask, modCtx_foot, modAsm_foot, keeps_ok, keeps_started, keeps_fail, keeps_failWith, keeps_wait, keeps_next, Nat.reduceAnd]) | with_reducible apply foldl_keeps | dsimp only | split)
theorem refuseCell_foot {w : Nat} (h : 8657043456 &&& w = 8657043456) (a0 : WaitCell) (s : State) :
    (refuseCell a0 s).mask w = s.mask w := by
  refine mask_mono h ?_
  unfold refuseCell
  repeat' (first | with_reducible rfl | assumption | (intro _) | with_reducible refine ite_keeps ?_ ?_ | with_reducible refine ite_answer ?_ ?_ | with_reducible apply checked_keeps | with_reducible apply withCtx_keeps | with_reducible apply withQueue_keeps | with_reducible apply corrCmd_keeps | (simp only [foldl_mask, countCtx_foot, freeCell_foot, keeps_ok, keeps_started, keeps_fail, keeps_failWith, keeps_wait, keeps_next, Nat.reduceAnd]) | with_reducible apply foldl_keeps | dsimp only | split)
theorem refuseWaiting_foot {w : Nat} (h : 8658092032 &&& w = 8658092032) (q : Nat) (s : State) :
    (refuseWaiting q s).mask w = s.mask w := by
  refine mask_mono h ?_
  unfold refuseWaiting
  repeat' (first | with_reducible rfl | assumption | (intro _) | with_reducible refine ite_keeps ?_ ?_ | with_reducible refine ite_answer ?_ ?_ | with_reducible apply checked_keeps | with_reducible apply withCtx_keeps | with_reducible apply withQueue_keeps | with_reducible apply corrCmd_keeps | (simp only [foldl_mask, refuseCell_foot, setQueue_foot, keeps_ok, keeps_started, keeps_fail, keeps_failWith, keeps_wait, keeps_next, Nat.reduceAnd]) | with_reducible apply foldl_keeps | dsimp only | split)
theorem dmaDrop_foot {w : Nat} (h : 32768 &&& w = 32768) (f : Nat) (key : Nat) (s : State) :
    (dmaDrop f key s).mask w = s.mask w := by
  refine mask_mono h ?_
  unfold dmaDrop
  repeat' (first | with_reducible rfl | assumption | (intro _) | with_reducible refine ite_keeps ?_ ?_ | with_reducible refine ite_answer ?_ ?_ | with_reducible apply checked_keeps | with_reducible apply withCtx_keeps | with_reducible apply withQueue_keeps | with_reducible apply corrCmd_keeps | (simp only [foldl_mask, modHp_foot, keeps_ok, keeps_started, keeps_fail, keeps_failWith, keeps_wait, keeps_next, Nat.reduceAnd]) | with_reducible apply foldl_keeps | dsimp only | split)
theorem deadReads_foot {w : Nat} (h : 32768 &&& w = 32768) (q : Nat) (s : State) :
    (deadReads q s).mask w = s.mask w := by
  refine mask_mono h ?_
  unfold deadReads
  repeat' (first | with_reducible rfl | assumption | (intro _) | with_reducible refine ite_keeps ?_ ?_ | with_reducible refine ite_answer ?_ ?_ | with_reducible apply checked_keeps | with_reducible apply withCtx_keeps | with_reducible apply withQueue_keeps | with_reducible apply corrCmd_keeps | (simp only [foldl_mask, modHp_foot, keeps_ok, keeps_started, keeps_fail, keeps_failWith, keeps_wait, keeps_next, Nat.reduceAnd]) | with_reducible apply foldl_keeps | dsimp only | split)
theorem pmeRaise_foot {w : Nat} (h : 32770 &&& w = 32770) (f : Nat) (s : State) :
    (pmeRaise f s).mask w = s.mask w := by
  refine mask_mono h ?_
  unfold pmeRaise
  repeat' (first | with_reducible rfl | assumption | (intro _) | with_reducible refine ite_keeps ?_ ?_ | with_reducible refine ite_answer ?_ ?_ | with_reducible apply checked_keeps | with_reducible apply withCtx_keeps | with_reducible apply withQueue_keeps | with_reducible apply corrCmd_keeps | (simp only [foldl_mask, emit_foot, modHp_foot, keeps_ok, keeps_started, keeps_fail, keeps_failWith, keeps_wait, keeps_next, Nat.reduceAnd]) | with_reducible apply foldl_keeps | dsimp only | split)
theorem intxUpdate_foot {w : Nat} (h : 32770 &&& w = 32770) (f : Nat) (s : State) :
    (intxUpdate f s).mask w = s.mask w := by
  refine mask_mono h ?_
  unfold intxUpdate
  repeat' (first | with_reducible rfl | assumption | (intro _) | with_reducible refine ite_keeps ?_ ?_ | with_reducible refine ite_answer ?_ ?_ | with_reducible apply checked_keeps | with_reducible apply withCtx_keeps | with_reducible apply withQueue_keeps | with_reducible apply corrCmd_keeps | (simp only [foldl_mask, emit_foot, modHp_foot, keeps_ok, keeps_started, keeps_fail, keeps_failWith, keeps_wait, keeps_next, Nat.reduceAnd]) | with_reducible apply foldl_keeps | dsimp only | split)
theorem setIntx_foot {w : Nat} (h : 32770 &&& w = 32770) (f : Nat) (b : Nat) (s : State) :
    (setIntx f b s).mask w = s.mask w := by
  refine mask_mono h ?_
  unfold setIntx
  repeat' (first | with_reducible rfl | assumption | (intro _) | with_reducible refine ite_keeps ?_ ?_ | with_reducible refine ite_answer ?_ ?_ | with_reducible apply checked_keeps | with_reducible apply withCtx_keeps | with_reducible apply withQueue_keeps | with_reducible apply corrCmd_keeps | (simp only [foldl_mask, modHp_foot, pmeRaise_foot, intxUpdate_foot, keeps_ok, keeps_started, keeps_fail, keeps_failWith, keeps_wait, keeps_next, Nat.reduceAnd]) | with_reducible apply foldl_keeps | dsimp only | split)
theorem queueError_foot {w : Nat} (h : 8658124866 &&& w = 8658124866) (q : Nat) (reason : Nat) (s : State) :
    (queueError q reason s).mask w = s.mask w := by
  refine mask_mono h ?_
  unfold queueError
  repeat' (first | with_reducible rfl | assumption | (intro _) | with_reducible refine ite_keeps ?_ ?_ | with_reducible refine ite_answer ?_ ?_ | with_reducible apply checked_keeps | with_reducible apply withCtx_keeps | with_reducible apply withQueue_keeps | with_reducible apply corrCmd_keeps | (simp only [foldl_mask, setQueue_foot, endFrames_foot, refuseWaiting_foot, dmaDrop_foot, deadReads_foot, raiseAt_foot, setIntx_foot, countHp_foot, keeps_ok, keeps_started, keeps_fail, keeps_failWith, keeps_wait, keeps_next, Nat.reduceAnd]) | with_reducible apply foldl_keeps | dsimp only | split)
theorem noteWait_foot {w : Nat} (h : 1048640 &&& w = 1048640) (q : Nat) (s : State) :
    (noteWait q s).mask w = s.mask w := by
  refine mask_mono h ?_
  unfold noteWait
  repeat' (first | with_reducible rfl | assumption | (intro _) | with_reducible refine ite_keeps ?_ ?_ | with_reducible refine ite_answer ?_ ?_ | with_reducible apply checked_keeps | with_reducible apply withCtx_keeps | with_reducible apply withQueue_keeps | with_reducible apply corrCmd_keeps | (simp only [foldl_mask, countCplFull_foot, setQueue_foot, keeps_ok, keeps_started, keeps_fail, keeps_failWith, keeps_wait, keeps_next, Nat.reduceAnd]) | with_reducible apply foldl_keeps | dsimp only | split)
theorem fetchMore_foot {w : Nat} (h : 1081410 &&& w = 1081410) (q : Nat) (s : State) :
    (fetchMore q s).mask w = s.mask w := by
  refine mask_mono h ?_
  unfold fetchMore
  repeat' (first | with_reducible rfl | assumption | (intro _) | with_reducible refine ite_keeps ?_ ?_ | with_reducible refine ite_answer ?_ ?_ | with_reducible apply checked_keeps | with_reducible apply withCtx_keeps | with_reducible apply withQueue_keeps | with_reducible apply corrCmd_keeps | (simp only [foldl_mask, dma_foot, setQueue_foot, noteWait_foot, keeps_ok, keeps_started, keeps_fail, keeps_failWith, keeps_wait, keeps_next, Nat.reduceAnd]) | with_reducible apply foldl_keeps | dsimp only | split)
theorem actHead_foot {w : Nat} (h : 8658124866 &&& w = 8658124866) (q : Nat) (n : Nat) (s : State) :
    (actHead q n s).mask w = s.mask w := by
  refine mask_mono h ?_
  unfold actHead
  repeat' (first | with_reducible rfl | assumption | (intro _) | with_reducible refine ite_keeps ?_ ?_ | with_reducible refine ite_answer ?_ ?_ | with_reducible apply checked_keeps | with_reducible apply withCtx_keeps | with_reducible apply withQueue_keeps | with_reducible apply corrCmd_keeps | (simp only [foldl_mask, queueError_foot, fetchMore_foot, setQueue_foot, keeps_ok, keeps_started, keeps_fail, keeps_failWith, keeps_wait, keeps_next, Nat.reduceAnd]) | with_reducible apply foldl_keeps | dsimp only | split)
theorem corrResult_foot {w : Nat} (h : 67108864 &&& w = 67108864) (c : Nat) (n : CorrCount) (s : State) :
    (corrResult c n s).mask w = s.mask w := by
  refine mask_mono h ?_
  unfold corrResult
  repeat' (first | with_reducible rfl | assumption | (intro _) | with_reducible refine ite_keeps ?_ ?_ | with_reducible refine ite_answer ?_ ?_ | with_reducible apply checked_keeps | with_reducible apply withCtx_keeps | with_reducible apply withQueue_keeps | with_reducible apply corrCmd_keeps | (simp only [foldl_mask, countCtxN_foot, keeps_ok, keeps_started, keeps_fail, keeps_failWith, keeps_wait, keeps_next, Nat.reduceAnd]) | with_reducible apply foldl_keeps | dsimp only | split)
theorem recordWrite_foot {w : Nat} (h : 32770 &&& w = 32770) (f : Nat) (q : Nat) (size : Nat) (bufs : List Nat) (a : Nat) (a5 : Nat) (a6 : List Byte) (a7 : State) :
    (recordWrite f q size bufs a a5 a6 a7).mask w = a7.mask w := by
  refine mask_mono h ?_
  induction a generalizing a5 a6 a7 with
  | zero => rfl
  | succ n ih =>
    unfold recordWrite; split
    · rfl
    · dsimp only; rw [ih]; simp only [dma_foot, Nat.reduceAnd]
theorem frameRow_foot {w : Nat} (h : 67141634 &&& w = 67141634) (c : Nat) (pos : Nat) (t : Nat) (bands : List (List Nat)) (s : State) :
    (frameRow c pos t bands s).mask w = s.mask w := by
  refine mask_mono h ?_
  unfold frameRow
  repeat' (first | with_reducible rfl | assumption | (intro _) | with_reducible refine ite_keeps ?_ ?_ | with_reducible refine ite_answer ?_ ?_ | with_reducible apply checked_keeps | with_reducible apply withCtx_keeps | with_reducible apply withQueue_keeps | with_reducible apply corrCmd_keeps | (simp only [foldl_mask, recordWrite_foot, modCtx_foot, keeps_ok, keeps_started, keeps_fail, keeps_failWith, keeps_wait, keeps_next, Nat.reduceAnd]) | with_reducible apply foldl_keeps | dsimp only | split)
theorem frameEvent_foot {w : Nat} (h : 67141634 &&& w = 67141634) (c : Nat) (s : State) (e : Ev) :
    (frameEvent c s e).mask w = s.mask w := by
  refine mask_mono h ?_
  unfold frameEvent
  repeat' (first | with_reducible rfl | assumption | (intro _) | with_reducible refine ite_keeps ?_ ?_ | with_reducible refine ite_answer ?_ ?_ | with_reducible apply checked_keeps | with_reducible apply withCtx_keeps | with_reducible apply withQueue_keeps | with_reducible apply corrCmd_keeps | (simp only [foldl_mask, frameRow_foot, modCtx_foot, keeps_ok, keeps_started, keeps_fail, keeps_failWith, keeps_wait, keeps_next, Nat.reduceAnd]) | with_reducible apply foldl_keeps | dsimp only | split)
theorem raiseCtx_foot {w : Nat} (h : 1081410 &&& w = 1081410) (c : Nat) (code : Nat) (sev : Nat) (p0 : Nat) (p1 : Nat) (p2 : Nat) (s : State) :
    (raiseCtx c code sev p0 p1 p2 s).mask w = s.mask w := by
  refine mask_mono h ?_
  unfold raiseCtx
  repeat' (first | with_reducible rfl | assumption | (intro _) | with_reducible refine ite_keeps ?_ ?_ | with_reducible refine ite_answer ?_ ?_ | with_reducible apply checked_keeps | with_reducible apply withCtx_keeps | with_reducible apply withQueue_keeps | with_reducible apply corrCmd_keeps | (simp only [foldl_mask, raise_foot, keeps_ok, keeps_started, keeps_fail, keeps_failWith, keeps_wait, keeps_next, Nat.reduceAnd]) | with_reducible apply foldl_keeps | dsimp only | split)
theorem countExhausted_foot {w : Nat} (h : 68190282 &&& w = 68190282) (c : Nat) (e : Nat × Nat) (s : State) :
    (countExhausted c e s).mask w = s.mask w := by
  refine mask_mono h ?_
  unfold countExhausted
  repeat' (first | with_reducible rfl | assumption | (intro _) | with_reducible refine ite_keeps ?_ ?_ | with_reducible refine ite_answer ?_ ?_ | with_reducible apply checked_keeps | with_reducible apply withCtx_keeps | with_reducible apply withQueue_keeps | with_reducible apply corrCmd_keeps | (simp only [foldl_mask, paced_foot, countCtxN_foot, raiseCtx_foot, keeps_ok, keeps_started, keeps_fail, keeps_failWith, keeps_wait, keeps_next, Nat.reduceAnd]) | with_reducible apply foldl_keeps | dsimp only | split)
theorem toAsm_foot {w : Nat} (h : 8658124874 &&& w = 8658124874) (c : Nat) (item : AsmItem) (s : State) :
    (toAsm c item s).mask w = s.mask w := by
  refine mask_mono h ?_
  unfold toAsm
  repeat' (first | with_reducible rfl | assumption | (intro _) | with_reducible refine ite_keeps ?_ ?_ | with_reducible refine ite_answer ?_ ?_ | with_reducible apply checked_keeps | with_reducible apply withCtx_keeps | with_reducible apply withQueue_keeps | with_reducible apply corrCmd_keeps | (simp only [foldl_mask, modAsm_foot, paced_foot, countCtx_foot, raiseCtx_foot, keeps_ok, keeps_started, keeps_fail, keeps_failWith, keeps_wait, keeps_next, Nat.reduceAnd]) | with_reducible apply foldl_keeps | dsimp only | split)
theorem handObjs_foot {w : Nat} (h : 8658124874 &&& w = 8658124874) (c : Nat) (due : Nat) (os : List Obj) (s : State) :
    (handObjs c due os s).mask w = s.mask w := by
  refine mask_mono h ?_
  unfold handObjs
  repeat' (first | with_reducible rfl | assumption | (intro _) | with_reducible refine ite_keeps ?_ ?_ | with_reducible refine ite_answer ?_ ?_ | with_reducible apply checked_keeps | with_reducible apply withCtx_keeps | with_reducible apply withQueue_keeps | with_reducible apply corrCmd_keeps | (simp only [foldl_mask, toAsm_foot, countCtx_foot, keeps_ok, keeps_started, keeps_fail, keeps_failWith, keeps_wait, keeps_next, Nat.reduceAnd]) | with_reducible apply foldl_keeps | dsimp only | split)
theorem writeCopy_foot {w : Nat} (h : 67108864 &&& w = 67108864) (c : Nat) (k : Nat) (d : List Byte) (s : State) :
    (writeCopy c k d s).mask w = s.mask w := by
  refine mask_mono h ?_
  unfold writeCopy
  repeat' (first | with_reducible rfl | assumption | (intro _) | with_reducible refine ite_keeps ?_ ?_ | with_reducible refine ite_answer ?_ ?_ | with_reducible apply checked_keeps | with_reducible apply withCtx_keeps | with_reducible apply withQueue_keeps | with_reducible apply corrCmd_keeps | (simp only [foldl_mask, modCtx_foot, keeps_ok, keeps_started, keeps_fail, keeps_failWith, keeps_wait, keeps_next, Nat.reduceAnd]) | with_reducible apply foldl_keeps | dsimp only | split)
theorem endCapture_foot {w : Nat} (h : 67108864 &&& w = 67108864) (c : Nat) (r : Option (List (List Nat) × Nat)) (s : State) :
    (endCapture c r s).mask w = s.mask w := by
  refine mask_mono h ?_
  unfold endCapture
  repeat' (first | with_reducible rfl | assumption | (intro _) | with_reducible refine ite_keeps ?_ ?_ | with_reducible refine ite_answer ?_ ?_ | with_reducible apply checked_keeps | with_reducible apply withCtx_keeps | with_reducible apply withQueue_keeps | with_reducible apply corrCmd_keeps | (simp only [foldl_mask, writeCopy_foot, modCtx_foot, keeps_ok, keeps_started, keeps_fail, keeps_failWith, keeps_wait, keeps_next, Nat.reduceAnd]) | with_reducible apply foldl_keeps | dsimp only | split)
theorem segResult_foot {w : Nat} (h : 8658124874 &&& w = 8658124874) (c : Nat) (due : Nat) (r : SegOut) (s : State) :
    (segResult c due r s).mask w = s.mask w := by
  refine mask_mono h ?_
  unfold segResult
  repeat' (first | with_reducible rfl | assumption | (intro _) | with_reducible refine ite_keeps ?_ ?_ | with_reducible refine ite_answer ?_ ?_ | with_reducible apply checked_keeps | with_reducible apply withCtx_keeps | with_reducible apply withQueue_keeps | with_reducible apply corrCmd_keeps | (simp only [foldl_mask, modCtx_foot, countCtxN_foot, countExhausted_foot, handObjs_foot, endCapture_foot, keeps_ok, keeps_started, keeps_fail, keeps_failWith, keeps_wait, keeps_next, Nat.reduceAnd]) | with_reducible apply foldl_keeps | dsimp only | split)
theorem afterCorr_foot {w : Nat} (h : 8658124874 &&& w = 8658124874) (c : Nat) (due : Nat) (r : Dyn × List Ev × CorrCount) (s : State) :
    (afterCorr c due r s).mask w = s.mask w := by
  refine mask_mono h ?_
  unfold afterCorr
  repeat' (first | with_reducible rfl | assumption | (intro _) | with_reducible refine ite_keeps ?_ ?_ | with_reducible refine ite_answer ?_ ?_ | with_reducible apply checked_keeps | with_reducible apply withCtx_keeps | with_reducible apply withQueue_keeps | with_reducible apply corrCmd_keeps | (simp only [foldl_mask, corrResult_foot, frameEvent_foot, modCtx_foot, segResult_foot, keeps_ok, keeps_started, keeps_fail, keeps_failWith, keeps_wait, keeps_next, Nat.reduceAnd]) | with_reducible apply foldl_keeps | dsimp only | split)
theorem combEvent_foot {w : Nat} (h : 8658124878 &&& w = 8658124878) (c : Nat) (due : Nat) (e : Ev) (s : State) :
    (combEvent c due e s).mask w = s.mask w := by
  refine mask_mono h ?_
  unfold combEvent
  repeat' (first | with_reducible rfl | assumption | (intro _) | with_reducible refine ite_keeps ?_ ?_ | with_reducible refine ite_answer ?_ ?_ | with_reducible apply checked_keeps | with_reducible apply withCtx_keeps | with_reducible apply withQueue_keeps | with_reducible apply corrCmd_keeps | (simp only [foldl_mask, bumpFree_foot, afterCorr_foot, keeps_ok, keeps_started, keeps_fail, keeps_failWith, keeps_wait, keeps_next, Nat.reduceAnd]) | with_reducible apply foldl_keeps | dsimp only | split)
theorem actMarks_foot {w : Nat} (h : 8658124878 &&& w = 8658124878) (c : Nat) (a : Nat) (a2 : State) :
    (actMarks c a a2).2.mask w = a2.mask w := by
  refine mask_mono h ?_
  induction a generalizing a2 with
  | zero => rfl
  | succ n ih =>
    unfold actMarks
    repeat' (first | with_reducible rfl | (simp only [ih, combEvent_foot, abortCapture_foot, modCtx_foot, Nat.reduceAnd]) | split)
theorem actTail_foot {w : Nat} (h : 8658124866 &&& w = 8658124866) (q : Nat) (n : Nat) (s : State) :
    (actTail q n s).mask w = s.mask w := by
  refine mask_mono h ?_
  unfold actTail
  repeat' (first | with_reducible rfl | assumption | (intro _) | with_reducible refine ite_keeps ?_ ?_ | with_reducible refine ite_answer ?_ ?_ | with_reducible apply checked_keeps | with_reducible apply withCtx_keeps | with_reducible apply withQueue_keeps | with_reducible apply corrCmd_keeps | (simp only [foldl_mask, queueError_foot, fetchMore_foot, setQueue_foot, keeps_ok, keeps_started, keeps_fail, keeps_failWith, keeps_wait, keeps_next, Nat.reduceAnd]) | with_reducible apply foldl_keeps | dsimp only | split)
theorem actRecorded_foot {w : Nat} (h : 8658124866 &&& w = 8658124866) (q : Nat) (s : State) :
    (actRecorded q s).mask w = s.mask w := by
  refine mask_mono h ?_
  unfold actRecorded
  repeat' (first | with_reducible rfl | assumption | (intro _) | with_reducible refine ite_keeps ?_ ?_ | with_reducible refine ite_answer ?_ ?_ | with_reducible apply checked_keeps | with_reducible apply withCtx_keeps | with_reducible apply withQueue_keeps | with_reducible apply corrCmd_keeps | (simp only [foldl_mask, actTail_foot, actHead_foot, keeps_ok, keeps_started, keeps_fail, keeps_failWith, keeps_wait, keeps_next, Nat.reduceAnd]) | with_reducible apply foldl_keeps | dsimp only | split)
theorem modTrust_foot {w : Nat} (h : 512 &&& w = 512) (g : Trust → Trust) (s : State) :
    (modTrust g s).mask w = s.mask w := by
  refine mask_mono h ?_
  unfold modTrust
  repeat' (first | with_reducible rfl | assumption | (intro _) | with_reducible refine ite_keeps ?_ ?_ | with_reducible refine ite_answer ?_ ?_ | with_reducible apply checked_keeps | with_reducible apply withCtx_keeps | with_reducible apply withQueue_keeps | with_reducible apply corrCmd_keeps | (simp only [mask_set_512, foldl_mask, keeps_ok, keeps_started, keeps_fail, keeps_failWith, keeps_wait, keeps_next, Nat.reduceAnd]) | with_reducible apply foldl_keeps | dsimp only | split)
theorem preferSlot_foot {w : Nat} (h : 514 &&& w = 514) (slot : Nat) (s : State) :
    (preferSlot slot s).mask w = s.mask w := by
  refine mask_mono h ?_
  unfold preferSlot
  repeat' (first | with_reducible rfl | assumption | (intro _) | with_reducible refine ite_keeps ?_ ?_ | with_reducible refine ite_answer ?_ ?_ | with_reducible apply checked_keeps | with_reducible apply withCtx_keeps | with_reducible apply withQueue_keeps | with_reducible apply corrCmd_keeps | (simp only [foldl_mask, emit_foot, modTrust_foot, keeps_ok, keeps_started, keeps_fail, keeps_failWith, keeps_wait, keeps_next, Nat.reduceAnd]) | with_reducible apply foldl_keeps | dsimp only | split)
theorem modSys_foot {w : Nat} (h : 16 &&& w = 16) (g : Sys → Sys) (s : State) :
    (modSys g s).mask w = s.mask w := by
  refine mask_mono h ?_
  unfold modSys
  repeat' (first | with_reducible rfl | assumption | (intro _) | with_reducible refine ite_keeps ?_ ?_ | with_reducible refine ite_answer ?_ ?_ | with_reducible apply checked_keeps | with_reducible apply withCtx_keeps | with_reducible apply withQueue_keeps | with_reducible apply corrCmd_keeps | (simp only [mask_set_16, foldl_mask, keeps_ok, keeps_started, keeps_fail, keeps_failWith, keeps_wait, keeps_next, Nat.reduceAnd]) | with_reducible apply foldl_keeps | dsimp only | split)
theorem restartInto_foot {w : Nat} (h : 528 &&& w = 528) (slot : Nat) (s : State) :
    (restartInto slot s).mask w = s.mask w := by
  refine mask_mono h ?_
  unfold restartInto
  repeat' (first | with_reducible rfl | assumption | (intro _) | with_reducible refine ite_keeps ?_ ?_ | with_reducible refine ite_answer ?_ ?_ | with_reducible apply checked_keeps | with_reducible apply withCtx_keeps | with_reducible apply withQueue_keeps | with_reducible apply corrCmd_keeps | (simp only [foldl_mask, modTrust_foot, modSys_foot, keeps_ok, keeps_started, keeps_fail, keeps_failWith, keeps_wait, keeps_next, Nat.reduceAnd]) | with_reducible apply foldl_keeps | dsimp only | split)
theorem activate_foot {w : Nat} (h : 530 &&& w = 530) (slot : Nat) (whenCode : Nat) (s : State) :
    (activate slot whenCode s).mask w = s.mask w := by
  refine mask_mono h ?_
  unfold activate
  repeat' (first | with_reducible rfl | assumption | (intro _) | with_reducible refine ite_keeps ?_ ?_ | with_reducible refine ite_answer ?_ ?_ | with_reducible apply checked_keeps | with_reducible apply withCtx_keeps | with_reducible apply withQueue_keeps | with_reducible apply corrCmd_keeps | (simp only [foldl_mask, modTrust_foot, preferSlot_foot, restartInto_foot, keeps_ok, keeps_started, keeps_fail, keeps_failWith, keeps_wait, keeps_next, Nat.reduceAnd]) | with_reducible apply foldl_keeps | dsimp only | split)
theorem addSeconds_foot {w : Nat} (h : 192 &&& w = 192) (s : State) :
    (addSeconds s).mask w = s.mask w := by
  refine mask_mono h ?_
  unfold addSeconds
  repeat' (first | with_reducible rfl | assumption | (intro _) | with_reducible refine ite_keeps ?_ ?_ | with_reducible refine ite_answer ?_ ?_ | with_reducible apply checked_keeps | with_reducible apply withCtx_keeps | with_reducible apply withQueue_keeps | with_reducible apply corrCmd_keeps | (simp only [mask_set_128, foldl_mask, honeyN_foot, keeps_ok, keeps_started, keeps_fail, keeps_failWith, keeps_wait, keeps_next, Nat.reduceAnd]) | with_reducible apply foldl_keeps | dsimp only | split)
theorem modClock_foot {w : Nat} (h : 32 &&& w = 32) (g : Clock → Clock) (s : State) :
    (modClock g s).mask w = s.mask w := by
  refine mask_mono h ?_
  unfold modClock
  repeat' (first | with_reducible rfl | assumption | (intro _) | with_reducible refine ite_keeps ?_ ?_ | with_reducible refine ite_answer ?_ ?_ | with_reducible apply checked_keeps | with_reducible apply withCtx_keeps | with_reducible apply withQueue_keeps | with_reducible apply corrCmd_keeps | (simp only [mask_set_32, foldl_mask, keeps_ok, keeps_started, keeps_fail, keeps_failWith, keeps_wait, keeps_next, Nat.reduceAnd]) | with_reducible apply foldl_keeps | dsimp only | split)
theorem raiseTime_foot {w : Nat} (h : 1081410 &&& w = 1081410) (code : Nat) (sev : Nat) (p0 : Nat) (p1 : Nat) (p2 : Nat) (s : State) :
    (raiseTime code sev p0 p1 p2 s).mask w = s.mask w := by
  refine mask_mono h ?_
  unfold raiseTime
  repeat' (first | with_reducible rfl | assumption | (intro _) | with_reducible refine ite_keeps ?_ ?_ | with_reducible refine ite_answer ?_ ?_ | with_reducible apply checked_keeps | with_reducible apply withCtx_keeps | with_reducible apply withQueue_keeps | with_reducible apply corrCmd_keeps | (simp only [foldl_mask, raise_foot, keeps_ok, keeps_started, keeps_fail, keeps_failWith, keeps_wait, keeps_next, Nat.reduceAnd]) | with_reducible apply foldl_keeps | dsimp only | split)
theorem adoptTime_foot {w : Nat} (h : 1081442 &&& w = 1081442) (parent : Nat) (theta256 : Int) (s : State) :
    (adoptTime parent theta256 s).mask w = s.mask w := by
  refine mask_mono h ?_
  unfold adoptTime
  repeat' (first | with_reducible rfl | assumption | (intro _) | with_reducible refine ite_keeps ?_ ?_ | with_reducible refine ite_answer ?_ ?_ | with_reducible apply checked_keeps | with_reducible apply withCtx_keeps | with_reducible apply withQueue_keeps | with_reducible apply corrCmd_keeps | (simp only [foldl_mask, modClock_foot, raiseTime_foot, keeps_ok, keeps_started, keeps_fail, keeps_failWith, keeps_wait, keeps_next, Nat.reduceAnd]) | with_reducible apply foldl_keeps | dsimp only | split)
theorem advTo_foot {w : Nat} (h : 32 &&& w = 32) (t : Nat) (s : State) :
    (advTo t s).mask w = s.mask w := by
  refine mask_mono h ?_
  unfold advTo
  repeat' (first | with_reducible rfl | assumption | (intro _) | with_reducible refine ite_keeps ?_ ?_ | with_reducible refine ite_answer ?_ ?_ | with_reducible apply checked_keeps | with_reducible apply withCtx_keeps | with_reducible apply withQueue_keeps | with_reducible apply corrCmd_keeps | (simp only [mask_set_32, foldl_mask, keeps_ok, keeps_started, keeps_fail, keeps_failWith, keeps_wait, keeps_next, Nat.reduceAnd]) | with_reducible apply foldl_keeps | dsimp only | split)
theorem advTo256_foot {w : Nat} (h : 32 &&& w = 32) (t : Nat) (s : State) :
    (advTo256 t s).mask w = s.mask w := by
  refine mask_mono h ?_
  unfold advTo256
  repeat' (first | with_reducible rfl | assumption | (intro _) | with_reducible refine ite_keeps ?_ ?_ | with_reducible refine ite_answer ?_ ?_ | with_reducible apply checked_keeps | with_reducible apply withCtx_keeps | with_reducible apply withQueue_keeps | with_reducible apply corrCmd_keeps | (simp only [mask_set_32, foldl_mask, keeps_ok, keeps_started, keeps_fail, keeps_failWith, keeps_wait, keeps_next, Nat.reduceAnd]) | with_reducible apply foldl_keeps | dsimp only | split)
theorem pllTrim_foot {w : Nat} (h : 8388608 &&& w = 8388608) (q : Nat) (s : State) :
    (pllTrim q s).mask w = s.mask w := by
  refine mask_mono h ?_
  unfold pllTrim
  repeat' (first | with_reducible rfl | assumption | (intro _) | with_reducible refine ite_keeps ?_ ?_ | with_reducible refine ite_answer ?_ ?_ | with_reducible apply checked_keeps | with_reducible apply withCtx_keeps | with_reducible apply withQueue_keeps | with_reducible apply corrCmd_keeps | (simp only [mask_set_8388608, foldl_mask, keeps_ok, keeps_started, keeps_fail, keeps_failWith, keeps_wait, keeps_next, Nat.reduceAnd]) | with_reducible apply foldl_keeps | dsimp only | split)
theorem modEth_foot {w : Nat} (h : 16777216 &&& w = 16777216) (l : Nat) (g : Eth → Eth) (s : State) :
    (modEth l g s).mask w = s.mask w := by
  refine mask_mono h ?_
  unfold modEth
  repeat' (first | with_reducible rfl | assumption | (intro _) | with_reducible refine ite_keeps ?_ ?_ | with_reducible refine ite_answer ?_ ?_ | with_reducible apply checked_keeps | with_reducible apply withCtx_keeps | with_reducible apply withQueue_keeps | with_reducible apply corrCmd_keeps | (simp only [mask_set_16777216, foldl_mask, keeps_ok, keeps_started, keeps_fail, keeps_failWith, keeps_wait, keeps_next, Nat.reduceAnd]) | with_reducible apply foldl_keeps | dsimp only | split)
theorem linkLost_foot {w : Nat} (h : 4194304 &&& w = 4194304) (a0 : Nat) (s : State) :
    (linkLost a0 s).mask w = s.mask w := by
  refine mask_mono h ?_
  unfold linkLost
  repeat' (first | with_reducible rfl | assumption | (intro _) | with_reducible refine ite_keeps ?_ ?_ | with_reducible refine ite_answer ?_ ?_ | with_reducible apply checked_keeps | with_reducible apply withCtx_keeps | with_reducible apply withQueue_keeps | with_reducible apply corrCmd_keeps | (simp only [foldl_mask, modLink_foot, keeps_ok, keeps_started, keeps_fail, keeps_failWith, keeps_wait, keeps_next, Nat.reduceAnd]) | with_reducible apply foldl_keeps | dsimp only | split)
theorem unlockLink_foot {w : Nat} (h : 4194304 &&& w = 4194304) (l : Nat) (s : State) :
    (unlockLink l s).mask w = s.mask w := by
  refine mask_mono h ?_
  unfold unlockLink
  repeat' (first | with_reducible rfl | assumption | (intro _) | with_reducible refine ite_keeps ?_ ?_ | with_reducible refine ite_answer ?_ ?_ | with_reducible apply checked_keeps | with_reducible apply withCtx_keeps | with_reducible apply withQueue_keeps | with_reducible apply corrCmd_keeps | (simp only [foldl_mask, modLink_foot, linkLost_foot, keeps_ok, keeps_started, keeps_fail, keeps_failWith, keeps_wait, keeps_next, Nat.reduceAnd]) | with_reducible apply foldl_keeps | dsimp only | split)

end Sys2Proof.Machine
end

