-- ==== Sys2Proof/Laws/Foot3.lean ====
section
/-! SUPPORT. What each operation leaves as it was, part 3 of 18: of state `s` it changes no field outside the set of its
footprint (a bit for each field, in the order of Field). -/
set_option linter.all false
set_option maxRecDepth 4000
open Sys2Proof Sys2Proof.Machine
namespace Sys2Proof.Machine

theorem enterPower1_foot {w : Nat} (h : 23068674 &&& w = 23068674) (p : LanePower) (l : Nat) (s : State) :
    (enterPower1 p l s).mask w = s.mask w := by
  refine mask_mono h ?_
  unfold enterPower1
  repeat' (first | with_reducible rfl | assumption | (intro _) | with_reducible refine ite_keeps ?_ ?_ | with_reducible refine ite_answer ?_ ?_ | with_reducible apply checked_keeps | with_reducible apply withCtx_keeps | with_reducible apply withQueue_keeps | with_reducible apply corrCmd_keeps | (simp only [foldl_mask, modLane_foot, modEth_foot, unlockLink_foot, emit_foot, keeps_ok, keeps_started, keeps_fail, keeps_failWith, keeps_wait, keeps_next, Nat.reduceAnd]) | with_reducible apply foldl_keeps | dsimp only | split)
theorem enterPower_foot {w : Nat} (h : 31457282 &&& w = 31457282) (p : LanePower) (a1 : Nat) (s : State) :
    (enterPower p a1 s).mask w = s.mask w := by
  refine mask_mono h ?_
  unfold enterPower
  repeat' (first | with_reducible rfl | assumption | (intro _) | with_reducible refine ite_keeps ?_ ?_ | with_reducible refine ite_answer ?_ ?_ | with_reducible apply checked_keeps | with_reducible apply withCtx_keeps | with_reducible apply withQueue_keeps | with_reducible apply corrCmd_keeps | (simp only [foldl_mask, pllTrim_foot, enterPower1_foot, keeps_ok, keeps_started, keeps_fail, keeps_failWith, keeps_wait, keeps_next, Nat.reduceAnd]) | with_reducible apply foldl_keeps | dsimp only | split)
theorem keeperWork_foot {w : Nat} (h : 64 &&& w = 64) (s : State) :
    (keeperWork s).mask w = s.mask w := by
  refine mask_mono h ?_
  unfold keeperWork
  repeat' (first | with_reducible rfl | assumption | (intro _) | with_reducible refine ite_keeps ?_ ?_ | with_reducible refine ite_answer ?_ ?_ | with_reducible apply checked_keeps | with_reducible apply withCtx_keeps | with_reducible apply withQueue_keeps | with_reducible apply corrCmd_keeps | (simp only [foldl_mask, modKeeper_foot, keeps_ok, keeps_started, keeps_fail, keeps_failWith, keeps_wait, keeps_next, Nat.reduceAnd]) | with_reducible apply foldl_keeps | dsimp only | split)
theorem modMbx_foot {w : Nat} (h : 65536 &&& w = 65536) (f : Nat) (a1 : Nat) (g : Mailbox → Mailbox) (s : State) :
    (modMbx f a1 g s).mask w = s.mask w := by
  refine mask_mono h ?_
  unfold modMbx
  repeat' (first | with_reducible rfl | assumption | (intro _) | with_reducible refine ite_keeps ?_ ?_ | with_reducible refine ite_answer ?_ ?_ | with_reducible apply checked_keeps | with_reducible apply withCtx_keeps | with_reducible apply withQueue_keeps | with_reducible apply corrCmd_keeps | (simp only [mask_set_65536, foldl_mask, keeps_ok, keeps_started, keeps_fail, keeps_failWith, keeps_wait, keeps_next, Nat.reduceAnd]) | with_reducible apply foldl_keeps | dsimp only | split)
theorem respondMbx_foot {w : Nat} (h : 229442 &&& w = 229442) (f : Nat) (a1 : Nat) (status : Nat) (detail : Nat) (field : Nat) (payload : List Byte) (s : State) :
    (respondMbx f a1 status detail field payload s).mask w = s.mask w := by
  refine mask_mono h ?_
  unfold respondMbx
  repeat' (first | with_reducible rfl | assumption | (intro _) | with_reducible refine ite_keeps ?_ ?_ | with_reducible refine ite_answer ?_ ?_ | with_reducible apply checked_keeps | with_reducible apply withCtx_keeps | with_reducible apply withQueue_keeps | with_reducible apply corrCmd_keeps | (simp only [mask_set_131072, foldl_mask, keeperWork_foot, setIntx_foot, modMbx_foot, keeps_ok, keeps_started, keeps_fail, keeps_failWith, keeps_wait, keeps_next, Nat.reduceAnd]) | with_reducible apply foldl_keeps | dsimp only | split)
theorem remoteAnswer_foot {w : Nat} (h : 37978178 &&& w = 37978178) (c : RemoteCall) (status : Nat) (detail : Nat) (field : Nat) (payload : List Byte) (s : State) :
    (remoteAnswer c status detail field payload s).mask w = s.mask w := by
  refine mask_mono h ?_
  unfold remoteAnswer
  repeat' (first | with_reducible rfl | assumption | (intro _) | with_reducible refine ite_keeps ?_ ?_ | with_reducible refine ite_answer ?_ ?_ | with_reducible apply checked_keeps | with_reducible apply withCtx_keeps | with_reducible apply withQueue_keeps | with_reducible apply corrCmd_keeps | (simp only [foldl_mask, respondMbx_foot, hsend_foot, keeperWork_foot, keeps_ok, keeps_started, keeps_fail, keeps_failWith, keeps_wait, keeps_next, Nat.reduceAnd]) | with_reducible apply foldl_keeps | dsimp only | split)
theorem respond_foot {w : Nat} (h : 37978178 &&& w = 37978178) (f : Nat) (a1 : Nat) (status : Nat) (detail : Nat) (field : Nat) (payload : List Byte) (s : State) :
    (respond f a1 status detail field payload s).mask w = s.mask w := by
  refine mask_mono h ?_
  unfold respond
  repeat' (first | with_reducible rfl | assumption | (intro _) | with_reducible refine ite_keeps ?_ ?_ | with_reducible refine ite_answer ?_ ?_ | with_reducible apply checked_keeps | with_reducible apply withCtx_keeps | with_reducible apply withQueue_keeps | with_reducible apply corrCmd_keeps | (simp only [foldl_mask, remoteAnswer_foot, modHive_foot, respondMbx_foot, keeps_ok, keeps_started, keeps_fail, keeps_failWith, keeps_wait, keeps_next, Nat.reduceAnd]) | with_reducible apply foldl_keeps | dsimp only | split)
theorem drainUnknown_foot {w : Nat} (h : 37978178 &&& w = 37978178) (a : Nat) (a1 : State) :
    (drainUnknown a a1).mask w = a1.mask w := by
  refine mask_mono h ?_
  induction a generalizing a1 with
  | zero => rfl
  | succ n ih =>
    unfold drainUnknown
    repeat' (first | with_reducible rfl | (simp only [ih, respond_foot, Nat.reduceAnd]) | split)
theorem nextRequest_foot {w : Nat} (h : 37978178 &&& w = 37978178) (s : State) :
    (nextRequest s).mask w = s.mask w := by
  refine mask_mono h ?_
  unfold nextRequest
  repeat' (first | with_reducible rfl | assumption | (intro _) | with_reducible refine ite_keeps ?_ ?_ | with_reducible refine ite_answer ?_ ?_ | with_reducible apply checked_keeps | with_reducible apply withCtx_keeps | with_reducible apply withQueue_keeps | with_reducible apply corrCmd_keeps | (simp only [foldl_mask, drainUnknown_foot, keeps_ok, keeps_started, keeps_fail, keeps_failWith, keeps_wait, keeps_next, Nat.reduceAnd]) | with_reducible apply foldl_keeps | dsimp only | split)
theorem rdRewrite_foot {w : Nat} (h : 32768 &&& w = 32768) (f : Nat) (s : State) :
    (rdRewrite f s).mask w = s.mask w := by
  refine mask_mono h ?_
  unfold rdRewrite
  repeat' (first | with_reducible rfl | assumption | (intro _) | with_reducible refine ite_keeps ?_ ?_ | with_reducible refine ite_answer ?_ ?_ | with_reducible apply checked_keeps | with_reducible apply withCtx_keeps | with_reducible apply withQueue_keeps | with_reducible apply corrCmd_keeps | (simp only [foldl_mask, modHp_foot, keeps_ok, keeps_started, keeps_fail, keeps_failWith, keeps_wait, keeps_next, Nat.reduceAnd]) | with_reducible apply foldl_keeps | dsimp only | split)
theorem rdRefresh_foot {w : Nat} (h : 32768 &&& w = 32768) (s : State) :
    (rdRefresh s).mask w = s.mask w := by
  refine mask_mono h ?_
  unfold rdRefresh
  repeat' (first | with_reducible rfl | assumption | (intro _) | with_reducible refine ite_keeps ?_ ?_ | with_reducible refine ite_answer ?_ ?_ | with_reducible apply checked_keeps | with_reducible apply withCtx_keeps | with_reducible apply withQueue_keeps | with_reducible apply corrCmd_keeps | (simp only [foldl_mask, rdRewrite_foot, keeps_ok, keeps_started, keeps_fail, keeps_failWith, keeps_wait, keeps_next, Nat.reduceAnd]) | with_reducible apply foldl_keeps | dsimp only | split)
theorem respondFail_foot {w : Nat} (h : 37978178 &&& w = 37978178) (f : Nat) (a1 : Nat) (e : Fail) (s : State) :
    (respondFail f a1 e s).mask w = s.mask w := by
  refine mask_mono h ?_
  unfold respondFail
  repeat' (first | with_reducible rfl | assumption | (intro _) | with_reducible refine ite_keeps ?_ ?_ | with_reducible refine ite_answer ?_ ?_ | with_reducible apply checked_keeps | with_reducible apply withCtx_keeps | with_reducible apply withQueue_keeps | with_reducible apply corrCmd_keeps | (simp only [foldl_mask, respond_foot, keeps_ok, keeps_started, keeps_fail, keeps_failWith, keeps_wait, keeps_next, Nat.reduceAnd]) | with_reducible apply foldl_keeps | dsimp only | split)
theorem conclude_foot {w : Nat} (h : 37978178 &&& w = 37978178) (f m : Nat) (s : State) (a : Answer) {m' : State} (hs : s.mask w = m')
    (ha : a.keeps w m') : (conclude f m s a).mask w = m' := by
  have hn : ∀ s, (nextRequest s).mask w = s.mask w := fun s => mask_mono h (nextRequest_foot (by decide) s)
  have hr : ∀ c d e p s, (respond f m c d e p s).mask w = s.mask w := fun c d e p s => mask_mono h (respond_foot (by decide) ..)
  have hf : ∀ s, (rdRefresh s).mask w = s.mask w := fun s => mask_mono h (rdRefresh_foot (by decide) s)
  cases a <;> simp_all [conclude, Answer.keeps, respondFail]
theorem finishWait_foot {w : Nat} (h : 38240322 &&& w = 38240322) (v : Waiting) (a : Answer) (s : State) {m' : State}
    (hs : s.mask w = m') (ha : a.keeps w m') : (finishWait v a s).mask w = m' := by
  refine conclude_foot (sub_trans (by decide) h) _ _ _ _ ?_ ha
  rw [← hs]
  exact mask_set_262144 (sub_trans (by decide) h) s none
theorem sendLmsg_foot {w : Nat} (h : 2 &&& w = 2) (a0 : Nat) (code : Nat) (seq : Nat) (s : State) :
    (sendLmsg a0 code seq s).mask w = s.mask w := by
  refine mask_mono h ?_
  unfold sendLmsg
  repeat' (first | with_reducible rfl | assumption | (intro _) | with_reducible refine ite_keeps ?_ ?_ | with_reducible refine ite_answer ?_ ?_ | with_reducible apply checked_keeps | with_reducible apply withCtx_keeps | with_reducible apply withQueue_keeps | with_reducible apply corrCmd_keeps | (simp only [foldl_mask, sendBlock_foot, keeps_ok, keeps_started, keeps_fail, keeps_failWith, keeps_wait, keeps_next, Nat.reduceAnd]) | with_reducible apply foldl_keeps | dsimp only | split)
theorem wakeDozing_foot {w : Nat} (h : 2097154 &&& w = 2097154) (a0 : Nat) (s : State) :
    (wakeDozing a0 s).mask w = s.mask w := by
  refine mask_mono h ?_
  unfold wakeDozing
  repeat' (first | with_reducible rfl | assumption | (intro _) | with_reducible refine ite_keeps ?_ ?_ | with_reducible refine ite_answer ?_ ?_ | with_reducible apply checked_keeps | with_reducible apply withCtx_keeps | with_reducible apply withQueue_keeps | with_reducible apply corrCmd_keeps | (simp only [foldl_mask, sendLmsg_foot, modLane_foot, keeps_ok, keeps_started, keeps_fail, keeps_failWith, keeps_wait, keeps_next, Nat.reduceAnd]) | with_reducible apply foldl_keeps | dsimp only | split)
theorem enterCdr_foot {w : Nat} (h : 6291458 &&& w = 6291458) (fast : Bool) (l : Nat) (s : State) :
    (enterCdr fast l s).mask w = s.mask w := by
  refine mask_mono h ?_
  unfold enterCdr
  repeat' (first | with_reducible rfl | assumption | (intro _) | with_reducible refine ite_keeps ?_ ?_ | with_reducible refine ite_answer ?_ ?_ | with_reducible apply checked_keeps | with_reducible apply withCtx_keeps | with_reducible apply withQueue_keeps | with_reducible apply corrCmd_keeps | (simp only [foldl_mask, emit_foot, unlockLink_foot, modLane_foot, keeps_ok, keeps_started, keeps_fail, keeps_failWith, keeps_wait, keeps_next, Nat.reduceAnd]) | with_reducible apply foldl_keeps | dsimp only | split)
theorem wakeSleeping_foot {w : Nat} (h : 6291458 &&& w = 6291458) (l : Nat) (s : State) :
    (wakeSleeping l s).mask w = s.mask w := by
  refine mask_mono h ?_
  unfold wakeSleeping
  repeat' (first | with_reducible rfl | assumption | (intro _) | with_reducible refine ite_keeps ?_ ?_ | with_reducible refine ite_answer ?_ ?_ | with_reducible apply checked_keeps | with_reducible apply withCtx_keeps | with_reducible apply withQueue_keeps | with_reducible apply corrCmd_keeps | (simp only [foldl_mask, enterCdr_foot, modLane_foot, keeps_ok, keeps_started, keeps_fail, keeps_failWith, keeps_wait, keeps_next, Nat.reduceAnd]) | with_reducible apply foldl_keeps | dsimp only | split)
theorem wakeLane_foot {w : Nat} (h : 6291458 &&& w = 6291458) (a0 : Nat) (s : State) :
    (wakeLane a0 s).mask w = s.mask w := by
  refine mask_mono h ?_
  unfold wakeLane
  repeat' (first | with_reducible rfl | assumption | (intro _) | with_reducible refine ite_keeps ?_ ?_ | with_reducible refine ite_answer ?_ ?_ | with_reducible apply checked_keeps | with_reducible apply withCtx_keeps | with_reducible apply withQueue_keeps | with_reducible apply corrCmd_keeps | (simp only [foldl_mask, wakeDozing_foot, wakeSleeping_foot, keeps_ok, keeps_started, keeps_fail, keeps_failWith, keeps_wait, keeps_next, Nat.reduceAnd]) | with_reducible apply foldl_keeps | dsimp only | split)
theorem agreed_foot {w : Nat} (h : 65503554 &&& w = 65503554) (a0 : Nat) (sleep : Bool) (s : State) :
    (agreed a0 sleep s).mask w = s.mask w := by
  refine mask_mono h ?_
  unfold agreed
  repeat' (first | with_reducible rfl | assumption | (intro _) | with_reducible refine ite_keeps ?_ ?_ | with_reducible refine ite_answer ?_ ?_ | with_reducible apply checked_keeps | with_reducible apply withCtx_keeps | with_reducible apply withQueue_keeps | with_reducible apply corrCmd_keeps | (simp only [mask_set_256, mask_set_262144, foldl_mask, enterPower_foot, finishWait_foot, wakeLane_foot, keeps_ok, keeps_started, keeps_fail, keeps_failWith, keeps_wait, keeps_next, Nat.reduceAnd]) | with_reducible apply foldl_keeps | dsimp only | split)
theorem countLinkN_foot {w : Nat} (h : 4194304 &&& w = 4194304) (l : Nat) (k : LinkCnt) (n : Nat) (s : State) :
    (countLinkN l k n s).mask w = s.mask w := by
  refine mask_mono h ?_
  unfold countLinkN
  repeat' (first | with_reducible rfl | assumption | (intro _) | with_reducible refine ite_keeps ?_ ?_ | with_reducible refine ite_answer ?_ ?_ | with_reducible apply checked_keeps | with_reducible apply withCtx_keeps | with_reducible apply withQueue_keeps | with_reducible apply corrCmd_keeps | (simp only [foldl_mask, modLink_foot, keeps_ok, keeps_started, keeps_fail, keeps_failWith, keeps_wait, keeps_next, Nat.reduceAnd]) | with_reducible apply foldl_keeps | dsimp only | split)
theorem countLink_foot {w : Nat} (h : 4194304 &&& w = 4194304) (l : Nat) (k : LinkCnt) (s : State) :
    (countLink l k s).mask w = s.mask w := by
  refine mask_mono h ?_
  unfold countLink
  repeat' (first | with_reducible rfl | assumption | (intro _) | with_reducible refine ite_keeps ?_ ?_ | with_reducible refine ite_answer ?_ ?_ | with_reducible apply checked_keeps | with_reducible apply withCtx_keeps | with_reducible apply withQueue_keeps | with_reducible apply corrCmd_keeps | (simp only [foldl_mask, countLinkN_foot, keeps_ok, keeps_started, keeps_fail, keeps_failWith, keeps_wait, keeps_next, Nat.reduceAnd]) | with_reducible apply foldl_keeps | dsimp only | split)
theorem sendCredit_foot {w : Nat} (h : 2 &&& w = 2) (a0 : Nat) (vc : Nat) (s : State) :
    (sendCredit a0 vc s).mask w = s.mask w := by
  refine mask_mono h ?_
  unfold sendCredit
  repeat' (first | with_reducible rfl | assumption | (intro _) | with_reducible refine ite_keeps ?_ ?_ | with_reducible refine ite_answer ?_ ?_ | with_reducible apply checked_keeps | with_reducible apply withCtx_keeps | with_reducible apply withQueue_keeps | with_reducible apply corrCmd_keeps | (simp only [foldl_mask, sendStream_foot, keeps_ok, keeps_started, keeps_fail, keeps_failWith, keeps_wait, keeps_next, Nat.reduceAnd]) | with_reducible apply foldl_keeps | dsimp only | split)
theorem grantMore_foot {w : Nat} (h : 4194306 &&& w = 4194306) (a0 : Nat) (vc : Nat) (n : Nat) (s : State) :
    (grantMore a0 vc n s).mask w = s.mask w := by
  refine mask_mono h ?_
  unfold grantMore
  repeat' (first | with_reducible rfl | assumption | (intro _) | with_reducible refine ite_keeps ?_ ?_ | with_reducible refine ite_answer ?_ ?_ | with_reducible apply checked_keeps | with_reducible apply withCtx_keeps | with_reducible apply withQueue_keeps | with_reducible apply corrCmd_keeps | (simp only [foldl_mask, sendCredit_foot, modLink_foot, keeps_ok, keeps_started, keeps_fail, keeps_failWith, keeps_wait, keeps_next, Nat.reduceAnd]) | with_reducible apply foldl_keeps | dsimp only | split)
theorem linkStart_foot {w : Nat} (h : 37748738 &&& w = 37748738) (a0 : Nat) (s : State) :
    (linkStart a0 s).mask w = s.mask w := by
  refine mask_mono h ?_
  unfold linkStart
  repeat' (first | with_reducible rfl | assumption | (intro _) | with_reducible refine ite_keeps ?_ ?_ | with_reducible refine ite_answer ?_ ?_ | with_reducible apply checked_keeps | with_reducible apply withCtx_keeps | with_reducible apply withQueue_keeps | with_reducible apply corrCmd_keeps | (simp only [foldl_mask, modHive_foot, grantMore_foot, linkLost_foot, modLink_foot, keeps_ok, keeps_started, keeps_fail, keeps_failWith, keeps_wait, keeps_next, Nat.reduceAnd]) | with_reducible apply foldl_keeps | dsimp only | split)
theorem alignMark_foot {w : Nat} (h : 38830146 &&& w = 38830146) (l : Nat) (bfc : Nat) (skew : Nat) (s : State) :
    (alignMark l bfc skew s).mask w = s.mask w := by
  refine mask_mono h ?_
  unfold alignMark
  repeat' (first | with_reducible rfl | assumption | (intro _) | with_reducible refine ite_keeps ?_ ?_ | with_reducible refine ite_answer ?_ ?_ | with_reducible apply checked_keeps | with_reducible apply withCtx_keeps | with_reducible apply withQueue_keeps | with_reducible apply corrCmd_keeps | (simp only [foldl_mask, raise_foot, countLink_foot, modLink_foot, linkStart_foot, keeps_ok, keeps_started, keeps_fail, keeps_failWith, keeps_wait, keeps_next, Nat.reduceAnd]) | with_reducible apply foldl_keeps | dsimp only | split)
theorem sendAlign_foot {w : Nat} (h : 2 &&& w = 2) (l : Nat) (width : Nat) (idx : Nat) (kind : Nat) (mask : Nat) (bfc : Nat) (s : State) :
    (sendAlign l width idx kind mask bfc s).mask w = s.mask w := by
  refine mask_mono h ?_
  unfold sendAlign
  repeat' (first | with_reducible rfl | assumption | (intro _) | with_reducible refine ite_keeps ?_ ?_ | with_reducible refine ite_answer ?_ ?_ | with_reducible apply checked_keeps | with_reducible apply withCtx_keeps | with_reducible apply withQueue_keeps | with_reducible apply corrCmd_keeps | (simp only [foldl_mask, sendBlock_foot, keeps_ok, keeps_started, keeps_fail, keeps_failWith, keeps_wait, keeps_next, Nat.reduceAnd]) | with_reducible apply foldl_keeps | dsimp only | split)
theorem sendAlignAll_foot {w : Nat} (h : 2 &&& w = 2) (a0 : Nat) (kind : Nat) (mask : Nat) (s : State) :
    (sendAlignAll a0 kind mask s).mask w = s.mask w := by
  refine mask_mono h ?_
  unfold sendAlignAll
  repeat' (first | with_reducible rfl | assumption | (intro _) | with_reducible refine ite_keeps ?_ ?_ | with_reducible refine ite_answer ?_ ?_ | with_reducible apply checked_keeps | with_reducible apply withCtx_keeps | with_reducible apply withQueue_keeps | with_reducible apply corrCmd_keeps | (simp only [foldl_mask, sendAlign_foot, keeps_ok, keeps_started, keeps_fail, keeps_failWith, keeps_wait, keeps_next, Nat.reduceAnd]) | with_reducible apply foldl_keeps | dsimp only | split)
theorem endExchange_foot {w : Nat} (h : 40337730 &&& w = 40337730) (a0 : Nat) (e : Fail) (s : State) :
    (endExchange a0 e s).mask w = s.mask w := by
  refine mask_mono h ?_
  unfold endExchange
  repeat' (first | with_reducible rfl | assumption | (intro _) | with_reducible refine ite_keeps ?_ ?_ | with_reducible refine ite_answer ?_ ?_ | with_reducible apply checked_keeps | with_reducible apply withCtx_keeps | with_reducible apply withQueue_keeps | with_reducible apply corrCmd_keeps | (simp only [mask_set_256, foldl_mask, modLane_foot, finishWait_foot, keeps_ok, keeps_started, keeps_fail, keeps_failWith, keeps_wait, keeps_next, Nat.reduceAnd]) | with_reducible apply foldl_keeps | dsimp only | split)
theorem degradeTo_foot {w : Nat} (h : 41386306 &&& w = 41386306) (a0 : Nat) (mask : Nat) (s : State) :
    (degradeTo a0 mask s).mask w = s.mask w := by
  refine mask_mono h ?_
  unfold degradeTo
  repeat' (first | with_reducible rfl | assumption | (intro _) | with_reducible refine ite_keeps ?_ ?_ | with_reducible refine ite_answer ?_ ?_ | with_reducible apply checked_keeps | with_reducible apply withCtx_keeps | with_reducible apply withQueue_keeps | with_reducible apply corrCmd_keeps | (simp only [foldl_mask, raise_foot, countLink_foot, modLink_foot, sendAlignAll_foot, endExchange_foot, keeps_ok, keeps_started, keeps_fail, keeps_failWith, keeps_wait, keeps_next, Nat.reduceAnd]) | with_reducible apply foldl_keeps | dsimp only | split)
theorem alignDegrade_foot {w : Nat} (h : 41386306 &&& w = 41386306) (l : Nat) (mask : Nat) (s : State) :
    (alignDegrade l mask s).mask w = s.mask w := by
  refine mask_mono h ?_
  unfold alignDegrade
  repeat' (first | with_reducible rfl | assumption | (intro _) | with_reducible refine ite_keeps ?_ ?_ | with_reducible refine ite_answer ?_ ?_ | with_reducible apply checked_keeps | with_reducible apply withCtx_keeps | with_reducible apply withQueue_keeps | with_reducible apply corrCmd_keeps | (simp only [foldl_mask, sendAlignAll_foot, degradeTo_foot, keeps_ok, keeps_started, keeps_fail, keeps_failWith, keeps_wait, keeps_next, Nat.reduceAnd]) | with_reducible apply foldl_keeps | dsimp only | split)
theorem alignRestripe_foot {w : Nat} (h : 4194304 &&& w = 4194304) (l : Nat) (mask : Nat) (s : State) :
    (alignRestripe l mask s).mask w = s.mask w := by
  refine mask_mono h ?_
  unfold alignRestripe
  repeat' (first | with_reducible rfl | assumption | (intro _) | with_reducible refine ite_keeps ?_ ?_ | with_reducible refine ite_answer ?_ ?_ | with_reducible apply checked_keeps | with_reducible apply withCtx_keeps | with_reducible apply withQueue_keeps | with_reducible apply corrCmd_keeps | (simp only [foldl_mask, modLink_foot, keeps_ok, keeps_started, keeps_fail, keeps_failWith, keeps_wait, keeps_next, Nat.reduceAnd]) | with_reducible apply foldl_keeps | dsimp only | split)
theorem alignRestore_foot {w : Nat} (h : 4194306 &&& w = 4194306) (l : Nat) (mask : Nat) (s : State) :
    (alignRestore l mask s).mask w = s.mask w := by
  refine mask_mono h ?_
  unfold alignRestore
  repeat' (first | with_reducible rfl | assumption | (intro _) | with_reducible refine ite_keeps ?_ ?_ | with_reducible refine ite_answer ?_ ?_ | with_reducible apply checked_keeps | with_reducible apply withCtx_keeps | with_reducible apply withQueue_keeps | with_reducible apply corrCmd_keeps | (simp only [foldl_mask, modLink_foot, sendAlignAll_foot, keeps_ok, keeps_started, keeps_fail, keeps_failWith, keeps_wait, keeps_next, Nat.reduceAnd]) | with_reducible apply foldl_keeps | dsimp only | split)
theorem alignBlock_foot {w : Nat} (h : 41386306 &&& w = 41386306) (l : Nat) (b : List Byte) (s : State) :
    (alignBlock l b s).mask w = s.mask w := by
  refine mask_mono h ?_
  unfold alignBlock
  repeat' (first | with_reducible rfl | assumption | (intro _) | with_reducible refine ite_keeps ?_ ?_ | with_reducible refine ite_answer ?_ ?_ | with_reducible apply checked_keeps | with_reducible apply withCtx_keeps | with_reducible apply withQueue_keeps | with_reducible apply corrCmd_keeps | (simp only [foldl_mask, alignMark_foot, alignDegrade_foot, alignRestripe_foot, alignRestore_foot, keeps_ok, keeps_started, keeps_fail, keeps_failWith, keeps_wait, keeps_next, Nat.reduceAnd]) | with_reducible apply foldl_keeps | dsimp only | split)
theorem modHiveLink_foot {w : Nat} (h : 33554432 &&& w = 33554432) (a0 : Nat) (g : HiveLink → HiveLink) (s : State) :
    (modHiveLink a0 g s).mask w = s.mask w := by
  refine mask_mono h ?_
  unfold modHiveLink
  repeat' (first | with_reducible rfl | assumption | (intro _) | with_reducible refine ite_keeps ?_ ?_ | with_reducible refine ite_answer ?_ ?_ | with_reducible apply checked_keeps | with_reducible apply withCtx_keeps | with_reducible apply withQueue_keeps | with_reducible apply corrCmd_keeps | (simp only [foldl_mask, modHive_foot, keeps_ok, keeps_started, keeps_fail, keeps_failWith, keeps_wait, keeps_next, Nat.reduceAnd]) | with_reducible apply foldl_keeps | dsimp only | split)
theorem refuseLink_foot {w : Nat} (h : 1081410 &&& w = 1081410) (a0 : Nat) (reason : Nat) (p2 : Nat) (s : State) :
    (refuseLink a0 reason p2 s).mask w = s.mask w := by
  refine mask_mono h ?_
  unfold refuseLink
  repeat' (first | with_reducible rfl | assumption | (intro _) | with_reducible refine ite_keeps ?_ ?_ | with_reducible refine ite_answer ?_ ?_ | with_reducible apply checked_keeps | with_reducible apply withCtx_keeps | with_reducible apply withQueue_keeps | with_reducible apply corrCmd_keeps | (simp only [foldl_mask, raise_foot, keeps_ok, keeps_started, keeps_fail, keeps_failWith, keeps_wait, keeps_next, Nat.reduceAnd]) | with_reducible apply foldl_keeps | dsimp only | split)
theorem sendAlive_foot {w : Nat} (h : 37748736 &&& w = 37748736) (serial : Nat) (a1 : Nat) (s : State) :
    (sendAlive serial a1 s).mask w = s.mask w := by
  refine mask_mono h ?_
  unfold sendAlive
  repeat' (first | with_reducible rfl | assumption | (intro _) | with_reducible refine ite_keeps ?_ ?_ | with_reducible refine ite_answer ?_ ?_ | with_reducible apply checked_keeps | with_reducible apply withCtx_keeps | with_reducible apply withQueue_keeps | with_reducible apply corrCmd_keeps | (simp only [foldl_mask, hsendLink_foot, keeps_ok, keeps_started, keeps_fail, keeps_failWith, keeps_wait, keeps_next, Nat.reduceAnd]) | with_reducible apply foldl_keeps | dsimp only | split)
theorem sendReroute_foot {w : Nat} (h : 37748736 &&& w = 37748736) (a0 : Nat) (restore : Bool) (s : State) :
    (sendReroute a0 restore s).mask w = s.mask w := by
  refine mask_mono h ?_
  unfold sendReroute
  repeat' (first | with_reducible rfl | assumption | (intro _) | with_reducible refine ite_keeps ?_ ?_ | with_reducible refine ite_answer ?_ ?_ | with_reducible apply checked_keeps | with_reducible apply withCtx_keeps | with_reducible apply withQueue_keeps | with_reducible apply corrCmd_keeps | (simp only [foldl_mask, hsendLink_foot, keeps_ok, keeps_started, keeps_fail, keeps_failWith, keeps_wait, keeps_next, Nat.reduceAnd]) | with_reducible apply foldl_keeps | dsimp only | split)
theorem hiveChanged_foot {w : Nat} (h : 32768 &&& w = 32768) (s : State) :
    (hiveChanged s).mask w = s.mask w := by
  refine mask_mono h ?_
  unfold hiveChanged
  repeat' (first | with_reducible rfl | assumption | (intro _) | with_reducible refine ite_keeps ?_ ?_ | with_reducible refine ite_answer ?_ ?_ | with_reducible apply checked_keeps | with_reducible apply withCtx_keeps | with_reducible apply withQueue_keeps | with_reducible apply corrCmd_keeps | (simp only [foldl_mask, rdRefresh_foot, keeps_ok, keeps_started, keeps_fail, keeps_failWith, keeps_wait, keeps_next, Nat.reduceAnd]) | with_reducible apply foldl_keeps | dsimp only | split)
theorem setServo_foot {w : Nat} (h : 1081442 &&& w = 1081442) (v : Servo) (s : State) :
    (setServo v s).mask w = s.mask w := by
  refine mask_mono h ?_
  unfold setServo
  repeat' (first | with_reducible rfl | assumption | (intro _) | with_reducible refine ite_keeps ?_ ?_ | with_reducible refine ite_answer ?_ ?_ | with_reducible apply checked_keeps | with_reducible apply withCtx_keeps | with_reducible apply withQueue_keeps | with_reducible apply corrCmd_keeps | (simp only [foldl_mask, raiseTime_foot, modClock_foot, keeps_ok, keeps_started, keeps_fail, keeps_failWith, keeps_wait, keeps_next, Nat.reduceAnd]) | with_reducible apply foldl_keeps | dsimp only | split)
theorem takeSource_foot {w : Nat} (h : 1081442 &&& w = 1081442) (x : TimeSource) (s : State) :
    (takeSource x s).mask w = s.mask w := by
  refine mask_mono h ?_
  unfold takeSource
  repeat' (first | with_reducible rfl | assumption | (intro _) | with_reducible refine ite_keeps ?_ ?_ | with_reducible refine ite_answer ?_ ?_ | with_reducible apply checked_keeps | with_reducible apply withCtx_keeps | with_reducible apply withQueue_keeps | with_reducible apply corrCmd_keeps | (simp only [foldl_mask, raiseTime_foot, modClock_foot, setServo_foot, keeps_ok, keeps_started, keeps_fail, keeps_failWith, keeps_wait, keeps_next, Nat.reduceAnd]) | with_reducible apply foldl_keeps | dsimp only | split)
theorem evalSource_foot {w : Nat} (h : 1081442 &&& w = 1081442) (s : State) :
    (evalSource s).mask w = s.mask w := by
  refine mask_mono h ?_
  unfold evalSource
  repeat' (first | with_reducible rfl | assumption | (intro _) | with_reducible refine ite_keeps ?_ ?_ | with_reducible refine ite_answer ?_ ?_ | with_reducible apply checked_keeps | with_reducible apply withCtx_keeps | with_reducible apply withQueue_keeps | with_reducible apply corrCmd_keeps | (simp only [foldl_mask, takeSource_foot, setServo_foot, keeps_ok, keeps_started, keeps_fail, keeps_failWith, keeps_wait, keeps_next, Nat.reduceAnd]) | with_reducible apply foldl_keeps | dsimp only | split)
theorem setValid_foot {w : Nat} (h : 1081442 &&& w = 1081442) (x : TimeSource) (v : Bool) (s : State) :
    (setValid x v s).mask w = s.mask w := by
  refine mask_mono h ?_
  unfold setValid
  repeat' (first | with_reducible rfl | assumption | (intro _) | with_reducible refine ite_keeps ?_ ?_ | with_reducible refine ite_answer ?_ ?_ | with_reducible apply checked_keeps | with_reducible apply withCtx_keeps | with_reducible apply withQueue_keeps | with_reducible apply corrCmd_keeps | (simp only [foldl_mask, evalSource_foot, modClock_foot, keeps_ok, keeps_started, keeps_fail, keeps_failWith, keeps_wait, keeps_next, Nat.reduceAnd]) | with_reducible apply foldl_keeps | dsimp only | split)
theorem leaveHive_foot {w : Nat} (h : 39354466 &&& w = 39354466) (s : State) :
    (leaveHive s).mask w = s.mask w := by
  refine mask_mono h ?_
  unfold leaveHive
  repeat' (first | with_reducible rfl | assumption | (intro _) | with_reducible refine ite_keeps ?_ ?_ | with_reducible refine ite_answer ?_ ?_ | with_reducible apply checked_keeps | with_reducible apply withCtx_keeps | with_reducible apply withQueue_keeps | with_reducible apply corrCmd_keeps | (simp only [mask_set_34078720, foldl_mask, hsendLink_foot, hiveChanged_foot, setValid_foot, keeps_ok, keeps_started, keeps_fail, keeps_failWith, keeps_wait, keeps_next, Nat.reduceAnd]) | with_reducible apply foldl_keeps | dsimp only | split)
theorem dropUplink_foot {w : Nat} (h : 39354466 &&& w = 39354466) (s : State) :
    (dropUplink s).mask w = s.mask w := by
  refine mask_mono h ?_
  unfold dropUplink
  repeat' (first | with_reducible rfl | assumption | (intro _) | with_reducible refine ite_keeps ?_ ?_ | with_reducible refine ite_answer ?_ ?_ | with_reducible apply checked_keeps | with_reducible apply withCtx_keeps | with_reducible apply withQueue_keeps | with_reducible apply corrCmd_keeps | (simp only [foldl_mask, modHive_foot, honey_foot, raise_foot, sendReroute_foot, leaveHive_foot, keeps_ok, keeps_started, keeps_fail, keeps_failWith, keeps_wait, keeps_next, Nat.reduceAnd]) | with_reducible apply foldl_keeps | dsimp only | split)
theorem alive_foot {w : Nat} (h : 39354470 &&& w = 39354470) (a0 : Nat) (serial : Nat) (s : State) :
    (alive a0 serial s).mask w = s.mask w := by
  refine mask_mono h ?_
  unfold alive
  repeat' (first | with_reducible rfl | assumption | (intro _) | with_reducible refine ite_keeps ?_ ?_ | with_reducible refine ite_answer ?_ ?_ | with_reducible apply checked_keeps | with_reducible apply withCtx_keeps | with_reducible apply withQueue_keeps | with_reducible apply corrCmd_keeps | (simp only [foldl_mask, modHive_foot, modHiveLink_foot, refuseLink_foot, sendAlive_foot, dropUplink_foot, bumpFree_foot, raise_foot, keeps_ok, keeps_started, keeps_fail, keeps_failWith, keeps_wait, keeps_next, Nat.reduceAnd]) | with_reducible apply foldl_keeps | dsimp only | split)
theorem alsoFor_foot {w : Nat} (h : 274877906944 &&& w = 274877906944) (slot : Nat) (entries : List Nat) (time : Nat) (s : State) :
    (alsoFor slot entries time s).mask w = s.mask w := by
  refine mask_mono h ?_
  unfold alsoFor
  repeat' (first | with_reducible rfl | assumption | (intro _) | with_reducible refine ite_keeps ?_ ?_ | with_reducible refine ite_answer ?_ ?_ | with_reducible apply checked_keeps | with_reducible apply withCtx_keeps | with_reducible apply withQueue_keeps | with_reducible apply corrCmd_keeps | (simp only [foldl_mask, modFlight_foot, keeps_ok, keeps_started, keeps_fail, keeps_failWith, keeps_wait, keeps_next, Nat.reduceAnd]) | with_reducible apply foldl_keeps | dsimp only | split)
theorem announceServer_foot {w : Nat} (h : 37748804 &&& w = 37748804) (c : Nat) (a1 : Nat) (s : State) :
    (announceServer c a1 s).mask w = s.mask w := by
  refine mask_mono h ?_
  unfold announceServer
  repeat' (first | with_reducible rfl | assumption | (intro _) | with_reducible refine ite_keeps ?_ ?_ | with_reducible refine ite_answer ?_ ?_ | with_reducible apply checked_keeps | with_reducible apply withCtx_keeps | with_reducible apply withQueue_keeps | with_reducible apply corrCmd_keeps | (simp only [foldl_mask, hsend_foot, bumpFree_foot, keeps_ok, keeps_started, keeps_fail, keeps_failWith, keeps_wait, keeps_next, Nat.reduceAnd]) | with_reducible apply foldl_keeps | dsimp only | split)
theorem announced_foot {w : Nat} (h : 37748736 &&& w = 37748736) (a0 : Nat) (serial : Nat) (prio : Nat) (seq : Nat) (hops : Nat) (s : State) :
    (announced a0 serial prio seq hops s).mask w = s.mask w := by
  refine mask_mono h ?_
  unfold announced
  repeat' (first | with_reducible rfl | assumption | (intro _) | with_reducible refine ite_keeps ?_ ?_ | with_reducible refine ite_answer ?_ ?_ | with_reducible apply checked_keeps | with_reducible apply withCtx_keeps | with_reducible apply withQueue_keeps | with_reducible apply corrCmd_keeps | (simp only [foldl_mask, modHive_foot, hsendOn_foot, keeps_ok, keeps_started, keeps_fail, keeps_failWith, keeps_wait, keeps_next, Nat.reduceAnd]) | with_reducible apply foldl_keeps | dsimp only | split)
theorem answerPower_fresh_foot {w : Nat} (h : 31457282 &&& w = 31457282) (a0 : Nat) (code : Nat) (seq : Nat) (s : State) :
    (answerPower.fresh a0 code seq s).mask w = s.mask w := by
  refine mask_mono h ?_
  unfold answerPower.fresh
  repeat' (first | with_reducible rfl | assumption | (intro _) | with_reducible refine ite_keeps ?_ ?_ | with_reducible refine ite_answer ?_ ?_ | with_reducible apply checked_keeps | with_reducible apply withCtx_keeps | with_reducible apply withQueue_keeps | with_reducible apply corrCmd_keeps | (simp only [foldl_mask, sendLmsg_foot, modLink_foot, enterPower_foot, keeps_ok, keeps_started, keeps_fail, keeps_failWith, keeps_wait, keeps_next, Nat.reduceAnd]) | with_reducible apply foldl_keeps | dsimp only | split)
theorem answerPower_foot {w : Nat} (h : 31457282 &&& w = 31457282) (a0 : Nat) (code : Nat) (seq : Nat) (s : State) :
    (answerPower a0 code seq s).mask w = s.mask w := by
  refine mask_mono h ?_
  unfold answerPower
  repeat' (first | with_reducible rfl | assumption | (intro _) | with_reducible refine ite_keeps ?_ ?_ | with_reducible refine ite_answer ?_ ?_ | with_reducible apply checked_keeps | with_reducible apply withCtx_keeps | with_reducible apply withQueue_keeps | with_reducible apply corrCmd_keeps | (simp only [foldl_mask, sendLmsg_foot, answerPower_fresh_foot, keeps_ok, keeps_started, keeps_fail, keeps_failWith, keeps_wait, keeps_next, Nat.reduceAnd]) | with_reducible apply foldl_keeps | dsimp only | split)
theorem countPg_foot {w : Nat} (h : 34359738368 &&& w = 34359738368) (g : Nat) (k : PgCnt) (s : State) :
    (countPg g k s).mask w = s.mask w := by
  refine mask_mono h ?_
  unfold countPg
  repeat' (first | with_reducible rfl | assumption | (intro _) | with_reducible refine ite_keeps ?_ ?_ | with_reducible refine ite_answer ?_ ?_ | with_reducible apply checked_keeps | with_reducible apply withCtx_keeps | with_reducible apply withQueue_keeps | with_reducible apply corrCmd_keeps | (simp only [mask_set_34359738368, foldl_mask, keeps_ok, keeps_started, keeps_fail, keeps_failWith, keeps_wait, keeps_next, Nat.reduceAnd]) | with_reducible apply foldl_keeps | dsimp only | split)
theorem lateDecision_foot {w : Nat} (h : 34360819786 &&& w = 34360819786) (p : Pending) (id : Nat) (s : State) :
    (lateDecision p id s).mask w = s.mask w := by
  refine mask_mono h ?_
  unfold lateDecision
  repeat' (first | with_reducible rfl | assumption | (intro _) | with_reducible refine ite_keeps ?_ ?_ | with_reducible refine ite_answer ?_ ?_ | with_reducible apply checked_keeps | with_reducible apply withCtx_keeps | with_reducible apply withQueue_keeps | with_reducible apply corrCmd_keeps | (simp only [foldl_mask, honeyN_foot, countPg_foot, paced_foot, raise_foot, keeps_ok, keeps_started, keeps_fail, keeps_failWith, keeps_wait, keeps_next, Nat.reduceAnd]) | with_reducible apply foldl_keeps | dsimp only | split)
theorem skipValve_foot {w : Nat} (h : 34360819786 &&& w = 34360819786) (g : Nat) (valve : Nat) (obj : Nat) (s : State) :
    (skipValve g valve obj s).mask w = s.mask w := by
  refine mask_mono h ?_
  unfold skipValve
  repeat' (first | with_reducible rfl | assumption | (intro _) | with_reducible refine ite_keeps ?_ ?_ | with_reducible refine ite_answer ?_ ?_ | with_reducible apply checked_keeps | with_reducible apply withCtx_keeps | with_reducible apply withQueue_keeps | with_reducible apply corrCmd_keeps | (simp only [foldl_mask, paced_foot, countPg_foot, raise_foot, keeps_ok, keeps_started, keeps_fail, keeps_failWith, keeps_wait, keeps_next, Nat.reduceAnd]) | with_reducible apply foldl_keeps | dsimp only | split)
theorem placeAction_foot {w : Nat} (h : 274877906944 &&& w = 274877906944) (a : Action) (s : State) :
    (placeAction a s).2.mask w = s.mask w := by
  refine mask_mono h ?_
  unfold placeAction
  repeat' (first | with_reducible rfl | assumption | (intro _) | with_reducible refine ite_keeps ?_ ?_ | with_reducible refine ite_answer ?_ ?_ | with_reducible apply checked_keeps | with_reducible apply withCtx_keeps | with_reducible apply withQueue_keeps | with_reducible apply corrCmd_keeps | (simp only [foldl_mask, modFlight_foot, keeps_ok, keeps_started, keeps_fail, keeps_failWith, keeps_wait, keeps_next, Nat.reduceAnd]) | with_reducible apply foldl_keeps | dsimp only | split)
theorem placePair_foot {w : Nat} (h : 274877906944 &&& w = 274877906944) (valve : Nat) (opens : Nat) (closes : Nat) (placer : Placer) (entries : List Nat) (s : State) :
    (placePair valve opens closes placer entries s).mask w = s.mask w := by
  refine mask_mono h ?_
  unfold placePair
  repeat' (first | with_reducible rfl | assumption | (intro _) | with_reducible refine ite_keeps ?_ ?_ | with_reducible refine ite_answer ?_ ?_ | with_reducible apply checked_keeps | with_reducible apply withCtx_keeps | with_reducible apply withQueue_keeps | with_reducible apply corrCmd_keeps | (simp only [foldl_mask, placeAction_foot, modFlight_foot, keeps_ok, keeps_started, keeps_fail, keeps_failWith, keeps_wait, keeps_next, Nat.reduceAnd]) | with_reducible apply foldl_keeps | dsimp only | split)
theorem placeOrSkip_foot {w : Nat} (h : 309238726730 &&& w = 309238726730) (g : Nat) (obj : Nat) (valve : Nat) (opens : Nat) (closes : Nat) (entries : List Nat) (s : State) :
    (placeOrSkip g obj valve opens closes entries s).mask w = s.mask w := by
  refine mask_mono h ?_
  unfold placeOrSkip
  repeat' (first | with_reducible rfl | assumption | (intro _) | with_reducible refine ite_keeps ?_ ?_ | with_reducible refine ite_answer ?_ ?_ | with_reducible apply checked_keeps | with_reducible apply withCtx_keeps | with_reducible apply withQueue_keeps | with_reducible apply corrCmd_keeps | (simp only [foldl_mask, skipValve_foot, placePair_foot, keeps_ok, keeps_started, keeps_fail, keeps_failWith, keeps_wait, keeps_next, Nat.reduceAnd]) | with_reducible apply foldl_keeps | dsimp only | split)
theorem placePulse_foot {w : Nat} (h : 309238726730 &&& w = 309238726730) (g : Nat) (obj : Nat) (gap : Nat) (valve : Nat) (opens : Nat) (closes : Nat) (entries : List Nat) (s : State) :
    (placePulse g obj gap valve opens closes entries s).mask w = s.mask w := by
  refine mask_mono h ?_
  unfold placePulse
  repeat' (first | with_reducible rfl | assumption | (intro _) | with_reducible refine ite_keeps ?_ ?_ | with_reducible refine ite_answer ?_ ?_ | with_reducible apply checked_keeps | with_reducible apply withCtx_keeps | with_reducible apply withQueue_keeps | with_reducible apply corrCmd_keeps | (simp only [foldl_mask, placeOrSkip_foot, countPg_foot, alsoFor_foot, modFlight_foot, keeps_ok, keeps_started, keeps_fail, keeps_failWith, keeps_wait, keeps_next, Nat.reduceAnd]) | with_reducible apply foldl_keeps | dsimp only | split)
theorem placePulses_foot {w : Nat} (h : 309238726730 &&& w = 309238726730) (g : Nat) (obj : Nat) (gap : Nat) (tOpen : Nat) (pulse : Nat) (entries : List Nat) (valves : List Nat) (s : State) :
    (placePulses g obj gap tOpen pulse entries valves s).mask w = s.mask w := by
  refine mask_mono h ?_
  unfold placePulses
  repeat' (first | with_reducible rfl | assumption | (intro _) | with_reducible refine ite_keeps ?_ ?_ | with_reducible refine ite_answer ?_ ?_ | with_reducible apply checked_keeps | with_reducible apply withCtx_keeps | with_reducible apply withQueue_keeps | with_reducible apply corrCmd_keeps | (simp only [foldl_mask, placePulse_foot, keeps_ok, keeps_started, keeps_fail, keeps_failWith, keeps_wait, keeps_next, Nat.reduceAnd]) | with_reducible apply foldl_keeps | dsimp only | split)
theorem ejectActions_foot {w : Nat} (h : 34397487168 &&& w = 34397487168) (g : Nat) (obj : Nat) (device : Nat) (tOpen : Nat) (pulse : Nat) (valves : List Nat) (s : State) :
    (ejectActions g obj device tOpen pulse valves s).mask w = s.mask w := by
  refine mask_mono h ?_
  unfold ejectActions
  repeat' (first | with_reducible rfl | assumption | (intro _) | with_reducible refine ite_keeps ?_ ?_ | with_reducible refine ite_answer ?_ ?_ | with_reducible apply checked_keeps | with_reducible apply withCtx_keeps | with_reducible apply withQueue_keeps | with_reducible apply corrCmd_keeps | (simp only [foldl_mask, hsend_foot, countPg_foot, keeps_ok, keeps_started, keeps_fail, keeps_failWith, keeps_wait, keeps_next, Nat.reduceAnd]) | with_reducible apply foldl_keeps | dsimp only | split)

end Sys2Proof.Machine
end

