-- ==== Sys2Proof/Laws/Foot4.lean ====
section
/-! SUPPORT. What each operation leaves as it was, part 4 of 18: of state `s` it changes no field outside the set of its
footprint (a bit for each field, in the order of Field). -/
set_option linter.all false
set_option maxRecDepth 4000
open Sys2Proof Sys2Proof.Machine
namespace Sys2Proof.Machine

theorem placeRow_foot {w : Nat} (h : 309276475466 &&& w = 309276475466) (n : Nat) (p : Pending) (i : Nat) (ext : Int) (ovr : Option (Nat × Nat)) (s : State) :
    (placeRow n p i ext ovr s).mask w = s.mask w := by
  refine mask_mono h ?_
  unfold placeRow
  repeat' (first | with_reducible rfl | assumption | (intro _) | with_reducible refine ite_keeps ?_ ?_ | with_reducible refine ite_answer ?_ ?_ | with_reducible apply checked_keeps | with_reducible apply withCtx_keeps | with_reducible apply withQueue_keeps | with_reducible apply corrCmd_keeps | (simp only [foldl_mask, countPg_foot, placePulses_foot, ejectActions_foot, keeps_ok, keeps_started, keeps_fail, keeps_failWith, keeps_wait, keeps_next, Nat.reduceAnd]) | with_reducible apply foldl_keeps | dsimp only | split)
theorem modPend_foot {w : Nat} (h : 137438953472 &&& w = 137438953472) (n : Nat) (g : Pending → Pending) (s : State) :
    (modPend n g s).mask w = s.mask w := by
  refine mask_mono h ?_
  unfold modPend
  repeat' (first | with_reducible rfl | assumption | (intro _) | with_reducible refine ite_keeps ?_ ?_ | with_reducible refine ite_answer ?_ ?_ | with_reducible apply checked_keeps | with_reducible apply withCtx_keeps | with_reducible apply withQueue_keeps | with_reducible apply corrCmd_keeps | (simp only [mask_set_137438953472, foldl_mask, keeps_ok, keeps_started, keeps_fail, keeps_failWith, keeps_wait, keeps_next, Nat.reduceAnd]) | with_reducible apply foldl_keeps | dsimp only | split)
theorem settle_foot {w : Nat} (h : 446715428938 &&& w = 446715428938) (n : Nat) (verdict : Nat) (ext : Int) (ovr : Option (Nat × Nat)) (s : State) :
    (settle n verdict ext ovr s).mask w = s.mask w := by
  refine mask_mono h ?_
  unfold settle
  repeat' (first | with_reducible rfl | assumption | (intro _) | with_reducible refine ite_keeps ?_ ?_ | with_reducible refine ite_answer ?_ ?_ | with_reducible apply checked_keeps | with_reducible apply withCtx_keeps | with_reducible apply withQueue_keeps | with_reducible apply corrCmd_keeps | (simp only [foldl_mask, placeRow_foot, countPg_foot, modPend_foot, keeps_ok, keeps_started, keeps_fail, keeps_failWith, keeps_wait, keeps_next, Nat.reduceAnd]) | with_reducible apply foldl_keeps | dsimp only | split)
theorem bindDecision_foot {w : Nat} (h : 446715428938 &&& w = 446715428938) (sender : Nat) (rec : List Byte) (s : State) :
    (bindDecision sender rec s).2.mask w = s.mask w := by
  refine mask_mono h ?_
  unfold bindDecision
  repeat' (first | with_reducible rfl | assumption | (intro _) | with_reducible refine ite_keeps ?_ ?_ | with_reducible refine ite_answer ?_ ?_ | with_reducible apply checked_keeps | with_reducible apply withCtx_keeps | with_reducible apply withQueue_keeps | with_reducible apply corrCmd_keeps | (simp only [foldl_mask, countPg_foot, hsend_foot, countHp_foot, lateDecision_foot, settle_foot, keeps_ok, keeps_started, keeps_fail, keeps_failWith, keeps_wait, keeps_next, Nat.reduceAnd]) | with_reducible apply foldl_keeps | dsimp only | split)
theorem bindAll_foot {w : Nat} (h : 446715428938 &&& w = 446715428938) (sender : Nat) (a : Nat) (a2 : List Byte) (a3 : State) :
    (bindAll sender a a2 a3).mask w = a3.mask w := by
  refine mask_mono h ?_
  induction a generalizing a2 a3 with
  | zero => rfl
  | succ n ih => simp only [bindAll, ih, bindDecision_foot, Nat.reduceAnd]
theorem apertureTo_foot {w : Nat} (h : 446715428938 &&& w = 446715428938) (q : Nat) (d : List Byte) (s : State) :
    (apertureTo q d s).mask w = s.mask w := by
  refine mask_mono h ?_
  unfold apertureTo
  repeat' (first | with_reducible rfl | assumption | (intro _) | with_reducible refine ite_keeps ?_ ?_ | with_reducible refine ite_answer ?_ ?_ | with_reducible apply checked_keeps | with_reducible apply withCtx_keeps | with_reducible apply withQueue_keeps | with_reducible apply corrCmd_keeps | (simp only [foldl_mask, bindAll_foot, countQ_foot, keeps_ok, keeps_started, keeps_fail, keeps_failWith, keeps_wait, keeps_next, Nat.reduceAnd]) | with_reducible apply foldl_keeps | dsimp only | split)
theorem barLost_foot {w : Nat} (h : 32768 &&& w = 32768) (f : Nat) (s : State) :
    (barLost f s).mask w = s.mask w := by
  refine mask_mono h ?_
  unfold barLost
  repeat' (first | with_reducible rfl | assumption | (intro _) | with_reducible refine ite_keeps ?_ ?_ | with_reducible refine ite_answer ?_ ?_ | with_reducible apply checked_keeps | with_reducible apply withCtx_keeps | with_reducible apply withQueue_keeps | with_reducible apply corrCmd_keeps | (simp only [foldl_mask, countHp_foot, keeps_ok, keeps_started, keeps_fail, keeps_failWith, keeps_wait, keeps_next, Nat.reduceAnd]) | with_reducible apply foldl_keeps | dsimp only | split)
theorem logAer_foot {w : Nat} (h : 32770 &&& w = 32770) (f : Nat) (e : Aer) (s : State) :
    (logAer f e s).mask w = s.mask w := by
  refine mask_mono h ?_
  unfold logAer
  repeat' (first | with_reducible rfl | assumption | (intro _) | with_reducible refine ite_keeps ?_ ?_ | with_reducible refine ite_answer ?_ ?_ | with_reducible apply checked_keeps | with_reducible apply withCtx_keeps | with_reducible apply withQueue_keeps | with_reducible apply corrCmd_keeps | (simp only [foldl_mask, emit_foot, modHp_foot, keeps_ok, keeps_started, keeps_fail, keeps_failWith, keeps_wait, keeps_next, Nat.reduceAnd]) | with_reducible apply foldl_keeps | dsimp only | split)
theorem apertureWrite_foot {w : Nat} (h : 446715428938 &&& w = 446715428938) (f : Nat) (off : Nat) (data : List Byte) (s : State) :
    (apertureWrite f off data s).mask w = s.mask w := by
  refine mask_mono h ?_
  unfold apertureWrite
  repeat' (first | with_reducible rfl | assumption | (intro _) | with_reducible refine ite_keeps ?_ ?_ | with_reducible refine ite_answer ?_ ?_ | with_reducible apply checked_keeps | with_reducible apply withCtx_keeps | with_reducible apply withQueue_keeps | with_reducible apply corrCmd_keeps | (simp only [foldl_mask, barLost_foot, logAer_foot, tlp_foot, countHp_foot, apertureTo_foot, keeps_ok, keeps_started, keeps_fail, keeps_failWith, keeps_wait, keeps_next, Nat.reduceAnd]) | with_reducible apply foldl_keeps | dsimp only | split)
theorem applyExt_foot {w : Nat} (h : 1081442 &&& w = 1081442) (x : ExtChange) (s : State) :
    (applyExt x s).mask w = s.mask w := by
  refine mask_mono h ?_
  unfold applyExt
  repeat' (first | with_reducible rfl | assumption | (intro _) | with_reducible refine ite_keeps ?_ ?_ | with_reducible refine ite_answer ?_ ?_ | with_reducible apply checked_keeps | with_reducible apply withCtx_keeps | with_reducible apply withQueue_keeps | with_reducible apply corrCmd_keeps | (simp only [foldl_mask, raiseAt_foot, modClock_foot, keeps_ok, keeps_started, keeps_fail, keeps_failWith, keeps_wait, keeps_next, Nat.reduceAnd]) | with_reducible apply foldl_keeps | dsimp only | split)
theorem applyWaits_foot {w : Nat} (h : 8658124874 &&& w = 8658124874) (c : Nat) (s : State) :
    (applyWaits c s).mask w = s.mask w := by
  refine mask_mono h ?_
  unfold applyWaits
  repeat' (first | with_reducible rfl | assumption | (intro _) | with_reducible refine ite_keeps ?_ ?_ | with_reducible refine ite_answer ?_ ?_ | with_reducible apply checked_keeps | with_reducible apply withCtx_keeps | with_reducible apply withQueue_keeps | with_reducible apply corrCmd_keeps | (simp only [foldl_mask, modCtx_foot, afterCorr_foot, keeps_ok, keeps_started, keeps_fail, keeps_failWith, keeps_wait, keeps_next, Nat.reduceAnd]) | with_reducible apply foldl_keeps | dsimp only | split)
theorem passJoin_foot {w : Nat} (h : 37748736 &&& w = 37748736) (hsub : Nat) (serial : Nat) (body : List Byte) (s : State) :
    (passJoin hsub serial body s).mask w = s.mask w := by
  refine mask_mono h ?_
  unfold passJoin
  repeat' (first | with_reducible rfl | assumption | (intro _) | with_reducible refine ite_keeps ?_ ?_ | with_reducible refine ite_answer ?_ ?_ | with_reducible apply checked_keeps | with_reducible apply withCtx_keeps | with_reducible apply withQueue_keeps | with_reducible apply corrCmd_keeps | (simp only [foldl_mask, hsendLink_foot, addRoute_foot, modHive_foot, keeps_ok, keeps_started, keeps_fail, keeps_failWith, keeps_wait, keeps_next, Nat.reduceAnd]) | with_reducible apply foldl_keeps | dsimp only | split)
theorem refuseJoin_foot {w : Nat} (h : 38830146 &&& w = 38830146) (a0 : Nat) (serial : Nat) (reason : Nat) (s : State) :
    (refuseJoin a0 serial reason s).mask w = s.mask w := by
  refine mask_mono h ?_
  unfold refuseJoin
  repeat' (first | with_reducible rfl | assumption | (intro _) | with_reducible refine ite_keeps ?_ ?_ | with_reducible refine ite_answer ?_ ?_ | with_reducible apply checked_keeps | with_reducible apply withCtx_keeps | with_reducible apply withQueue_keeps | with_reducible apply corrCmd_keeps | (simp only [foldl_mask, sendJoin_foot, raise_foot, honey_foot, modHive_foot, keeps_ok, keeps_started, keeps_fail, keeps_failWith, keeps_wait, keeps_next, Nat.reduceAnd]) | with_reducible apply foldl_keeps | dsimp only | split)
theorem joinRequest_foot {w : Nat} (h : 38830146 &&& w = 38830146) (a0 : Nat) (serial : Nat) (role : Nat) (ups : List (Nat × Nat)) (nonce : List Byte) (s : State) :
    (joinRequest a0 serial role ups nonce s).mask w = s.mask w := by
  refine mask_mono h ?_
  unfold joinRequest
  repeat' (first | with_reducible rfl | assumption | (intro _) | with_reducible refine ite_keeps ?_ ?_ | with_reducible refine ite_answer ?_ ?_ | with_reducible apply checked_keeps | with_reducible apply withCtx_keeps | with_reducible apply withQueue_keeps | with_reducible apply corrCmd_keeps | (simp only [foldl_mask, modHive_foot, refuseJoin_foot, sendJoin_foot, hsendLink_foot, keeps_ok, keeps_started, keeps_fail, keeps_failWith, keeps_wait, keeps_next, Nat.reduceAnd]) | with_reducible apply foldl_keeps | dsimp only | split)
theorem joinChallenge_foot {w : Nat} (h : 37748736 &&& w = 37748736) (a0 : Nat) (nonce : List Byte) (managerSerial : Nat) (s : State) :
    (joinChallenge a0 nonce managerSerial s).mask w = s.mask w := by
  refine mask_mono h ?_
  unfold joinChallenge
  repeat' (first | with_reducible rfl | assumption | (intro _) | with_reducible refine ite_keeps ?_ ?_ | with_reducible refine ite_answer ?_ ?_ | with_reducible apply checked_keeps | with_reducible apply withCtx_keeps | with_reducible apply withQueue_keeps | with_reducible apply corrCmd_keeps | (simp only [foldl_mask, hsendLink_foot, modHive_foot, keeps_ok, keeps_started, keeps_fail, keeps_failWith, keeps_wait, keeps_next, Nat.reduceAnd]) | with_reducible apply foldl_keeps | dsimp only | split)
theorem joinResponse_foot {w : Nat} (h : 38830150 &&& w = 38830150) (a0 : Nat) (serial : Nat) (signature : List Byte) (cert : List Byte) (s : State) :
    (joinResponse a0 serial signature cert s).mask w = s.mask w := by
  refine mask_mono h ?_
  unfold joinResponse
  refine ite_keeps ?_ (ite_keeps ?_ rfl)
  · cases s.hive.joins.find? fun j => j.serial == serial with
    | none => rfl
    | some j =>
      dsimp only
      generalize (match Config.certKey (imageSection s.trust.running 2) cert with
        | some (n, key) => n == serial && Config.sm2Verify [] key (j.nonce ++ b64 serial ++ b64 s.sys.serial) signature
        | none => false) = ok
      cases s.pickId serial <;> dsimp only <;> repeat' (first | with_reducible refine ite_keeps ?_ ?_ | simp only [refuseJoin_foot, acceptJoin_foot, Nat.reduceAnd])
  · cases s.uplinkInForce <;> first | rfl | simp only [hsendLink_foot, Nat.reduceAnd]
theorem toManager_foot {w : Nat} (h : 37748800 &&& w = 37748800) (htype : Nat) (hsub : Nat) (body : List Byte) (s : State) :
    (toManager htype hsub body s).mask w = s.mask w := by
  refine mask_mono h ?_
  unfold toManager
  repeat' (first | with_reducible rfl | assumption | (intro _) | with_reducible refine ite_keeps ?_ ?_ | with_reducible refine ite_answer ?_ ?_ | with_reducible apply checked_keeps | with_reducible apply withCtx_keeps | with_reducible apply withQueue_keeps | with_reducible apply corrCmd_keeps | (simp only [foldl_mask, hsend_foot, keeps_ok, keeps_started, keeps_fail, keeps_failWith, keeps_wait, keeps_next, Nat.reduceAnd]) | with_reducible apply foldl_keeps | dsimp only | split)
theorem sendFaultSummary_foot {w : Nat} (h : 37748800 &&& w = 37748800) (gained : Nat) (s : State) :
    (sendFaultSummary gained s).mask w = s.mask w := by
  refine mask_mono h ?_
  unfold sendFaultSummary
  repeat' (first | with_reducible rfl | assumption | (intro _) | with_reducible refine ite_keeps ?_ ?_ | with_reducible refine ite_answer ?_ ?_ | with_reducible apply checked_keeps | with_reducible apply withCtx_keeps | with_reducible apply withQueue_keeps | with_reducible apply corrCmd_keeps | (simp only [foldl_mask, toManager_foot, keeps_ok, keeps_started, keeps_fail, keeps_failWith, keeps_wait, keeps_next, Nat.reduceAnd]) | with_reducible apply foldl_keeps | dsimp only | split)
theorem resolveFault_foot {w : Nat} (h : 38842434 &&& w = 38842434) (cls : Nat) (unit : Nat) (s : State) :
    (resolveFault cls unit s).mask w = s.mask w := by
  refine mask_mono h ?_
  unfold resolveFault
  refine ite_keeps ?_ (mask_set_4096 (by decide) ..)
  rw [raise_foot (by decide), sendFaultSummary_foot (by decide)]
  have hs : ∀ b l, ({ s with faults := l, faultBits := b } : State).mask 38842434 = s.mask 38842434 := fun b l =>
    (mask_set_8192 (by decide) { s with faults := l } b).trans (mask_set_4096 (by decide) s l)
  refine ite_keeps ?_ (hs _ _)
  rw [emit_foot (by decide)]
  exact hs _ _
theorem electionDone_foot {w : Nat} (h : 38842434 &&& w = 38842434) (s : State) :
    (electionDone s).mask w = s.mask w := by
  refine mask_mono h ?_
  unfold electionDone
  repeat' (first | with_reducible rfl | assumption | (intro _) | with_reducible refine ite_keeps ?_ ?_ | with_reducible refine ite_answer ?_ ?_ | with_reducible apply checked_keeps | with_reducible apply withCtx_keeps | with_reducible apply withQueue_keeps | with_reducible apply corrCmd_keeps | (simp only [foldl_mask, resolveFault_foot, keeps_ok, keeps_started, keeps_fail, keeps_failWith, keeps_wait, keeps_next, Nat.reduceAnd]) | with_reducible apply foldl_keeps | dsimp only | split)
theorem completeJoin_foot {w : Nat} (h : 39366758 &&& w = 39366758) (s : State) :
    (completeJoin s).mask w = s.mask w := by
  refine mask_mono h ?_
  unfold completeJoin
  repeat' (first | with_reducible rfl | assumption | (intro _) | with_reducible refine ite_keeps ?_ ?_ | with_reducible refine ite_answer ?_ ?_ | with_reducible apply checked_keeps | with_reducible apply withCtx_keeps | with_reducible apply withQueue_keeps | with_reducible apply corrCmd_keeps | (simp only [mask_set_524288, foldl_mask, adoptTime_foot, bumpFree_foot, modHive_foot, setValid_foot, evalSource_foot, electionDone_foot, hiveChanged_foot, raise_foot, keeps_ok, keeps_started, keeps_fail, keeps_failWith, keeps_wait, keeps_next, Nat.reduceAnd]) | with_reducible apply foldl_keeps | dsimp only | split)
theorem joinAccept_foot {w : Nat} (h : 39366758 &&& w = 39366758) (a0 : Nat) (a : JoinAccept) (s : State) :
    (joinAccept a0 a s).mask w = s.mask w := by
  refine mask_mono h ?_
  unfold joinAccept
  repeat' (first | with_reducible rfl | assumption | (intro _) | with_reducible refine ite_keeps ?_ ?_ | with_reducible refine ite_answer ?_ ?_ | with_reducible apply checked_keeps | with_reducible apply withCtx_keeps | with_reducible apply withQueue_keeps | with_reducible apply corrCmd_keeps | (simp only [foldl_mask, completeJoin_foot, modHive_foot, keeps_ok, keeps_started, keeps_fail, keeps_failWith, keeps_wait, keeps_next, Nat.reduceAnd]) | with_reducible apply foldl_keeps | dsimp only | split)
theorem joinRefuse_foot {w : Nat} (h : 34635842 &&& w = 34635842) (a0 : Nat) (reason : Nat) (s : State) :
    (joinRefuse a0 reason s).mask w = s.mask w := by
  refine mask_mono h ?_
  unfold joinRefuse
  repeat' (first | with_reducible rfl | assumption | (intro _) | with_reducible refine ite_keeps ?_ ?_ | with_reducible refine ite_answer ?_ ?_ | with_reducible apply checked_keeps | with_reducible apply withCtx_keeps | with_reducible apply withQueue_keeps | with_reducible apply corrCmd_keeps | (simp only [foldl_mask, raise_foot, honey_foot, modHive_foot, keeps_ok, keeps_started, keeps_fail, keeps_failWith, keeps_wait, keeps_next, Nat.reduceAnd]) | with_reducible apply foldl_keeps | dsimp only | split)
theorem loseMembers_foot {w : Nat} (h : 34635842 &&& w = 34635842) (l : List Nat) (s : State) :
    (loseMembers l s).mask w = s.mask w := by
  refine mask_mono h ?_
  unfold loseMembers
  repeat' (first | with_reducible rfl | assumption | (intro _) | with_reducible refine ite_keeps ?_ ?_ | with_reducible refine ite_answer ?_ ?_ | with_reducible apply checked_keeps | with_reducible apply withCtx_keeps | with_reducible apply withQueue_keeps | with_reducible apply corrCmd_keeps | (simp only [foldl_mask, raise_foot, setWorst_foot, modHive_foot, keeps_ok, keeps_started, keeps_fail, keeps_failWith, keeps_wait, keeps_next, Nat.reduceAnd]) | with_reducible apply foldl_keeps | dsimp only | split)
theorem joinLeave_foot {w : Nat} (h : 39354466 &&& w = 39354466) (a0 : Nat) (src : Nat) (s : State) :
    (joinLeave a0 src s).mask w = s.mask w := by
  refine mask_mono h ?_
  unfold joinLeave
  repeat' (first | with_reducible rfl | assumption | (intro _) | with_reducible refine ite_keeps ?_ ?_ | with_reducible refine ite_answer ?_ ?_ | with_reducible apply checked_keeps | with_reducible apply withCtx_keeps | with_reducible apply withQueue_keeps | with_reducible apply corrCmd_keeps | (simp only [foldl_mask, loseMembers_foot, leaveHive_foot, keeps_ok, keeps_started, keeps_fail, keeps_failWith, keeps_wait, keeps_next, Nat.reduceAnd]) | with_reducible apply foldl_keeps | dsimp only | split)
theorem joinMsg_foot {w : Nat} (h : 39366758 &&& w = 39366758) (a0 : Nat) (a1 : HMsg) (s : State) :
    (joinMsg a0 a1 s).mask w = s.mask w := by
  refine mask_mono h ?_
  unfold joinMsg
  have hp : ∀ i x b, (passJoin i x b s).mask 39366758 = s.mask 39366758 := fun i x b => passJoin_foot (by decide) ..
  extract_lets b n own pass
  have hq : pass.mask 39366758 = s.mask 39366758 := hp ..
  clear_value own pass
  repeat' (first | with_reducible rfl | assumption | (intro _) | with_reducible refine ite_keeps ?_ ?_ | (simp only [joinRequest_foot, bumpFree_foot, joinChallenge_foot, joinResponse_foot, joinAccept_foot, joinRefuse_foot, joinLeave_foot, keeps_next, Nat.reduceAnd]) | with_reducible apply foldl_keeps | dsimp only | split)
theorem wgImport_foot {w : Nat} (h : 9070972010562 &&& w = 9070972010562) (src : Nat) (secure : Bool) (body : List Byte) (s : State) :
    (wgImport src secure body s).mask w = s.mask w := by
  refine mask_mono h ?_
  unfold wgImport
  repeat' (first | with_reducible rfl | assumption | (intro _) | with_reducible refine ite_keeps ?_ ?_ | with_reducible refine ite_answer ?_ ?_ | with_reducible apply checked_keeps | with_reducible apply withCtx_keeps | with_reducible apply withQueue_keeps | with_reducible apply corrCmd_keeps | (simp only [mask_set_274877906944, mask_set_8796093022208, foldl_mask, countChan_foot, raise_foot, modChan_foot, keeps_ok, keeps_started, keeps_fail, keeps_failWith, keeps_wait, keeps_next, Nat.reduceAnd]) | with_reducible apply foldl_keeps | dsimp only | split)
theorem denyEject_foot {w : Nat} (h : 34398568514 &&& w = 34398568514) (pg : Nat) (obj : Nat) (s : State) (v : Nat) :
    (denyEject pg obj s v).mask w = s.mask w := by
  refine mask_mono h ?_
  unfold denyEject
  repeat' (first | with_reducible rfl | assumption | (intro _) | with_reducible refine ite_keeps ?_ ?_ | with_reducible refine ite_answer ?_ ?_ | with_reducible apply checked_keeps | with_reducible apply withCtx_keeps | with_reducible apply withQueue_keeps | with_reducible apply corrCmd_keeps | (simp only [foldl_mask, countPg_foot, raise_foot, toManager_foot, keeps_ok, keeps_started, keeps_fail, keeps_failWith, keeps_wait, keeps_next, Nat.reduceAnd]) | with_reducible apply foldl_keeps | dsimp only | split)
theorem ejectPulses_foot {w : Nat} (h : 309276475466 &&& w = 309276475466) (src : Nat) (body : List Byte) (s : State) :
    (ejectPulses src body s).mask w = s.mask w := by
  refine mask_mono h ?_
  unfold ejectPulses
  repeat' (first | with_reducible rfl | assumption | (intro _) | with_reducible refine ite_keeps ?_ ?_ | with_reducible refine ite_answer ?_ ?_ | with_reducible apply checked_keeps | with_reducible apply withCtx_keeps | with_reducible apply withQueue_keeps | with_reducible apply corrCmd_keeps | (simp only [foldl_mask, denyEject_foot, placePulses_foot, keeps_ok, keeps_started, keeps_fail, keeps_failWith, keeps_wait, keeps_next, Nat.reduceAnd]) | with_reducible apply foldl_keeps | dsimp only | split)
theorem ejectDecision_foot {w : Nat} (h : 446715428938 &&& w = 446715428938) (src : Nat) (body : List Byte) (s : State) :
    (ejectDecision src body s).mask w = s.mask w := by
  refine mask_mono h ?_
  unfold ejectDecision
  repeat' (first | with_reducible rfl | assumption | (intro _) | with_reducible refine ite_keeps ?_ ?_ | with_reducible refine ite_answer ?_ ?_ | with_reducible apply checked_keeps | with_reducible apply withCtx_keeps | with_reducible apply withQueue_keeps | with_reducible apply corrCmd_keeps | (simp only [foldl_mask, bindDecision_foot, keeps_ok, keeps_started, keeps_fail, keeps_failWith, keeps_wait, keeps_next, Nat.reduceAnd]) | with_reducible apply foldl_keeps | dsimp only | split)
theorem cellServer_foot {w : Nat} (h : 33554432 &&& w = 33554432) (a0 : Nat) (device : Nat) (ctx : Nat) (s : State) :
    (cellServer a0 device ctx s).mask w = s.mask w := by
  refine mask_mono h ?_
  unfold cellServer
  repeat' (first | with_reducible rfl | assumption | (intro _) | with_reducible refine ite_keeps ?_ ?_ | with_reducible refine ite_answer ?_ ?_ | with_reducible apply checked_keeps | with_reducible apply withCtx_keeps | with_reducible apply withQueue_keeps | with_reducible apply corrCmd_keeps | (simp only [foldl_mask, modHive_foot, keeps_ok, keeps_started, keeps_fail, keeps_failWith, keeps_wait, keeps_next, Nat.reduceAnd]) | with_reducible apply foldl_keeps | dsimp only | split)
theorem cellServerMsg_foot {w : Nat} (h : 37748800 &&& w = 37748800) (a0 : Nat) (a1 : HMsg) (s : State) :
    (cellServerMsg a0 a1 s).mask w = s.mask w := by
  refine mask_mono h ?_
  unfold cellServerMsg
  repeat' (first | with_reducible rfl | assumption | (intro _) | with_reducible refine ite_keeps ?_ ?_ | with_reducible refine ite_answer ?_ ?_ | with_reducible apply checked_keeps | with_reducible apply withCtx_keeps | with_reducible apply withQueue_keeps | with_reducible apply corrCmd_keeps | (simp only [foldl_mask, cellServer_foot, hmsgDrop_foot, hroute_foot, keeps_ok, keeps_started, keeps_fail, keeps_failWith, keeps_wait, keeps_next, Nat.reduceAnd]) | with_reducible apply foldl_keeps | dsimp only | split)
theorem reroute_foot {w : Nat} (h : 38830146 &&& w = 38830146) (a0 : Nat) (device : Nat) (restore : Bool) (s : State) :
    (reroute a0 device restore s).mask w = s.mask w := by
  refine mask_mono h ?_
  unfold reroute
  repeat' (first | with_reducible rfl | assumption | (intro _) | with_reducible refine ite_keeps ?_ ?_ | with_reducible refine ite_answer ?_ ?_ | with_reducible apply checked_keeps | with_reducible apply withCtx_keeps | with_reducible apply withQueue_keeps | with_reducible apply corrCmd_keeps | (simp only [foldl_mask, modHive_foot, raise_foot, hsendLink_foot, keeps_ok, keeps_started, keeps_fail, keeps_failWith, keeps_wait, keeps_next, Nat.reduceAnd]) | with_reducible apply foldl_keeps | dsimp only | split)
theorem logNow_foot {w : Nat} (h : 64 &&& w = 64) (code : Nat) (sev : Nat) (p0 : Nat) (p1 : Nat) (p2 : Nat) (s : State) :
    (logNow code sev p0 p1 p2 s).mask w = s.mask w := by
  refine mask_mono h ?_
  unfold logNow
  repeat' (first | with_reducible rfl | assumption | (intro _) | with_reducible refine ite_keeps ?_ ?_ | with_reducible refine ite_answer ?_ ?_ | with_reducible apply checked_keeps | with_reducible apply withCtx_keeps | with_reducible apply withQueue_keeps | with_reducible apply corrCmd_keeps | (simp only [foldl_mask, logAt_foot, keeps_ok, keeps_started, keeps_fail, keeps_failWith, keeps_wait, keeps_next, Nat.reduceAnd]) | with_reducible apply foldl_keeps | dsimp only | split)
theorem extOffsetMsg_foot {w : Nat} (h : 1081442 &&& w = 1081442) (off : Int) (frac : Nat) (since : Nat) (s : State) :
    (extOffsetMsg off frac since s).mask w = s.mask w := by
  refine mask_mono h ?_
  unfold extOffsetMsg
  repeat' (first | with_reducible rfl | assumption | (intro _) | with_reducible refine ite_keeps ?_ ?_ | with_reducible refine ite_answer ?_ ?_ | with_reducible apply checked_keeps | with_reducible apply withCtx_keeps | with_reducible apply withQueue_keeps | with_reducible apply corrCmd_keeps | (simp only [foldl_mask, modClock_foot, applyExt_foot, logNow_foot, keeps_ok, keeps_started, keeps_fail, keeps_failWith, keeps_wait, keeps_next, Nat.reduceAnd]) | with_reducible apply foldl_keeps | dsimp only | split)
theorem remoteConclude_foot {w : Nat} (h : 37978178 &&& w = 37978178) (c : RemoteCall) (s : State) (a : Answer) {m' : State}
    (hs : s.mask w = m') (ha : a.keeps w m') : (remoteConclude c s a).mask w = m' := by
  have hn : ∀ s, (nextRequest s).mask w = s.mask w := fun s => mask_mono h (nextRequest_foot (by decide) s)
  have hr : ∀ x d e p s, (remoteAnswer c x d e p s).mask w = s.mask w := fun x d e p s => mask_mono h (remoteAnswer_foot (by decide) ..)
  have hf : ∀ s, (rdRefresh s).mask w = s.mask w := fun s => mask_mono h (rdRefresh_foot (by decide) s)
  have hm : ∀ g s, (modHive g s).mask w = s.mask w := fun g s => mask_mono h (modHive_foot (by decide) g s)
  cases a <;> simp_all [remoteConclude, Answer.keeps]
theorem changeCtx_foot {w : Nat} (h : 8658124874 &&& w = 8658124874) (c : Nat) (k : Nat) (g : Ctx → Ctx) (s : State) :
    (changeCtx c k g s).mask w = s.mask w := by
  refine mask_mono h ?_
  unfold changeCtx
  repeat' (first | with_reducible rfl | assumption | (intro _) | with_reducible refine ite_keeps ?_ ?_ | with_reducible refine ite_answer ?_ ?_ | with_reducible apply checked_keeps | with_reducible apply withCtx_keeps | with_reducible apply withQueue_keeps | with_reducible apply corrCmd_keeps | (simp only [foldl_mask, modCtx_foot, applyWaits_foot, keeps_ok, keeps_started, keeps_fail, keeps_failWith, keeps_wait, keeps_next, Nat.reduceAnd]) | with_reducible apply foldl_keeps | dsimp only | split)
theorem changeCorr_foot {w : Nat} (h : 8658124874 &&& w = 8658124874) (c : Nat) (k : Nat) (n : CorrSet) (s : State) {m : State} (hm : s.mask w = m) :
    (changeCorr c k n s).keeps w m := by
  subst hm
  refine keeps_mono h ?_
  unfold changeCorr
  repeat' (first | with_reducible rfl | assumption | (intro _) | with_reducible refine ite_keeps ?_ ?_ | with_reducible refine ite_answer ?_ ?_ | with_reducible apply checked_keeps | with_reducible apply withCtx_keeps | with_reducible apply withQueue_keeps | with_reducible apply corrCmd_keeps | (simp only [foldl_mask, changeCtx_foot, keeps_ok, keeps_started, keeps_fail, keeps_failWith, keeps_wait, keeps_next, Nat.reduceAnd]) | with_reducible apply foldl_keeps | dsimp only | split)
theorem cmdCorrSetNoise_foot {w : Nat} (h : 8658124874 &&& w = 8658124874) (r : Req) (s : State) {m : State} (hm : s.mask w = m) :
    ((cmdCorrSetNoise).run r s).keeps w m := by
  subst hm
  refine keeps_mono h ?_
  simp only [cmdCorrSetNoise]
  repeat' (first | with_reducible rfl | assumption | (intro _) | with_reducible refine ite_keeps ?_ ?_ | with_reducible refine ite_answer ?_ ?_ | with_reducible apply checked_keeps | with_reducible apply withCtx_keeps | with_reducible apply withQueue_keeps | with_reducible apply corrCmd_keeps | (simp only [foldl_mask, changeCorr_foot, keeps_ok, keeps_started, keeps_fail, keeps_failWith, keeps_wait, keeps_next, Nat.reduceAnd]) | with_reducible apply foldl_keeps | dsimp only | split)
theorem cmdCorrSetTemporal_foot {w : Nat} (h : 8658124874 &&& w = 8658124874) (r : Req) (s : State) {m : State} (hm : s.mask w = m) :
    ((cmdCorrSetTemporal).run r s).keeps w m := by
  subst hm
  refine keeps_mono h ?_
  simp only [cmdCorrSetTemporal]
  repeat' (first | with_reducible rfl | assumption | (intro _) | with_reducible refine ite_keeps ?_ ?_ | with_reducible refine ite_answer ?_ ?_ | with_reducible apply checked_keeps | with_reducible apply withCtx_keeps | with_reducible apply withQueue_keeps | with_reducible apply corrCmd_keeps | (simp only [foldl_mask, changeCorr_foot, keeps_ok, keeps_started, keeps_fail, keeps_failWith, keeps_wait, keeps_next, Nat.reduceAnd]) | with_reducible apply foldl_keeps | dsimp only | split)
theorem cmdCorrSetSpatial_foot {w : Nat} (h : 8658124874 &&& w = 8658124874) (r : Req) (s : State) {m : State} (hm : s.mask w = m) :
    ((cmdCorrSetSpatial).run r s).keeps w m := by
  subst hm
  refine keeps_mono h ?_
  simp only [cmdCorrSetSpatial]
  repeat' (first | with_reducible rfl | assumption | (intro _) | with_reducible refine ite_keeps ?_ ?_ | with_reducible refine ite_answer ?_ ?_ | with_reducible apply checked_keeps | with_reducible apply withCtx_keeps | with_reducible apply withQueue_keeps | with_reducible apply corrCmd_keeps | (simp only [foldl_mask, changeCorr_foot, keeps_ok, keeps_started, keeps_fail, keeps_failWith, keeps_wait, keeps_next, Nat.reduceAnd]) | with_reducible apply foldl_keeps | dsimp only | split)
theorem cmdCorrSetBlack_foot {w : Nat} (h : 8658124874 &&& w = 8658124874) (r : Req) (s : State) {m : State} (hm : s.mask w = m) :
    ((cmdCorrSetBlack).run r s).keeps w m := by
  subst hm
  refine keeps_mono h ?_
  simp only [cmdCorrSetBlack]
  repeat' (first | with_reducible rfl | assumption | (intro _) | with_reducible refine ite_keeps ?_ ?_ | with_reducible refine ite_answer ?_ ?_ | with_reducible apply checked_keeps | with_reducible apply withCtx_keeps | with_reducible apply withQueue_keeps | with_reducible apply corrCmd_keeps | (simp only [foldl_mask, changeCorr_foot, keeps_ok, keeps_started, keeps_fail, keeps_failWith, keeps_wait, keeps_next, Nat.reduceAnd]) | with_reducible apply foldl_keeps | dsimp only | split)
theorem cmdCorrSetRegistration_foot {w : Nat} (h : 8658124874 &&& w = 8658124874) (r : Req) (s : State) {m : State} (hm : s.mask w = m) :
    ((cmdCorrSetRegistration).run r s).keeps w m := by
  subst hm
  refine keeps_mono h ?_
  simp only [cmdCorrSetRegistration]
  repeat' (first | with_reducible rfl | assumption | (intro _) | with_reducible refine ite_keeps ?_ ?_ | with_reducible refine ite_answer ?_ ?_ | with_reducible apply checked_keeps | with_reducible apply withCtx_keeps | with_reducible apply withQueue_keeps | with_reducible apply corrCmd_keeps | (simp only [foldl_mask, changeCorr_foot, keeps_ok, keeps_started, keeps_fail, keeps_failWith, keeps_wait, keeps_next, Nat.reduceAnd]) | with_reducible apply foldl_keeps | dsimp only | split)
theorem setEnables_foot {w : Nat} (h : 8658124874 &&& w = 8658124874) (allowed : Nat) (r : Req) (s : State) {m : State} (hm : s.mask w = m) :
    (setEnables allowed r s).keeps w m := by
  subst hm
  refine keeps_mono h ?_
  unfold setEnables
  repeat' (first | with_reducible rfl | assumption | (intro _) | with_reducible refine ite_keeps ?_ ?_ | with_reducible refine ite_answer ?_ ?_ | with_reducible apply checked_keeps | with_reducible apply withCtx_keeps | with_reducible apply withQueue_keeps | with_reducible apply corrCmd_keeps | (simp only [foldl_mask, changeCorr_foot, keeps_ok, keeps_started, keeps_fail, keeps_failWith, keeps_wait, keeps_next, Nat.reduceAnd]) | with_reducible apply foldl_keeps | dsimp only | split)
theorem cmdCorrSetEnable_foot {w : Nat} (h : 8658124874 &&& w = 8658124874) (r : Req) (s : State) {m : State} (hm : s.mask w = m) :
    ((cmdCorrSetEnable).run r s).keeps w m := by
  subst hm
  refine keeps_mono h ?_
  simp only [cmdCorrSetEnable]
  repeat' (first | with_reducible rfl | assumption | (intro _) | with_reducible refine ite_keeps ?_ ?_ | with_reducible refine ite_answer ?_ ?_ | with_reducible apply checked_keeps | with_reducible apply withCtx_keeps | with_reducible apply withQueue_keeps | with_reducible apply corrCmd_keeps | (simp only [foldl_mask, setEnables_foot, keeps_ok, keeps_started, keeps_fail, keeps_failWith, keeps_wait, keeps_next, Nat.reduceAnd]) | with_reducible apply foldl_keeps | dsimp only | split)
theorem commitTable_foot {w : Nat} (h : 8658124874 &&& w = 8658124874) (c : Nat) (k : Nat) (t : List Byte) (s : State) :
    (commitTable c k t s).mask w = s.mask w := by
  refine mask_mono h ?_
  unfold commitTable
  repeat' (first | with_reducible rfl | assumption | (intro _) | with_reducible refine ite_keeps ?_ ?_ | with_reducible refine ite_answer ?_ ?_ | with_reducible apply checked_keeps | with_reducible apply withCtx_keeps | with_reducible apply withQueue_keeps | with_reducible apply corrCmd_keeps | (simp only [foldl_mask, writeCopy_foot, changeCtx_foot, keeps_ok, keeps_started, keeps_fail, keeps_failWith, keeps_wait, keeps_next, Nat.reduceAnd]) | with_reducible apply foldl_keeps | dsimp only | split)
theorem loadTable_foot {w : Nat} (h : 12953092170 &&& w = 12953092170) (allowed : Nat → Bool) (r : Req) (s : State) {m : State} (hm : s.mask w = m) :
    (loadTable allowed r s).keeps w m := by
  subst hm
  refine keeps_mono h ?_
  unfold loadTable
  repeat' (first | with_reducible rfl | assumption | (intro _) | with_reducible refine ite_keeps ?_ ?_ | with_reducible refine ite_answer ?_ ?_ | with_reducible apply checked_keeps | with_reducible apply withCtx_keeps | with_reducible apply withQueue_keeps | with_reducible apply corrCmd_keeps | (simp only [mask_set_4294967296, foldl_mask, commitTable_foot, keeps_ok, keeps_started, keeps_fail, keeps_failWith, keeps_wait, keeps_next, Nat.reduceAnd]) | with_reducible apply foldl_keeps | dsimp only | split)
theorem cmdCorrLoadTable_foot {w : Nat} (h : 12953092170 &&& w = 12953092170) (r : Req) (s : State) {m : State} (hm : s.mask w = m) :
    ((cmdCorrLoadTable).run r s).keeps w m := by
  subst hm
  refine keeps_mono h ?_
  simp only [cmdCorrLoadTable]
  repeat' (first | with_reducible rfl | assumption | (intro _) | with_reducible refine ite_keeps ?_ ?_ | with_reducible refine ite_answer ?_ ?_ | with_reducible apply checked_keeps | with_reducible apply withCtx_keeps | with_reducible apply withQueue_keeps | with_reducible apply corrCmd_keeps | (simp only [foldl_mask, loadTable_foot, keeps_ok, keeps_started, keeps_fail, keeps_failWith, keeps_wait, keeps_next, Nat.reduceAnd]) | with_reducible apply foldl_keeps | dsimp only | split)
theorem cmdSegLoadBackground_foot {w : Nat} (h : 12953092170 &&& w = 12953092170) (r : Req) (s : State) {m : State} (hm : s.mask w = m) :
    ((cmdSegLoadBackground).run r s).keeps w m := by
  subst hm
  refine keeps_mono h ?_
  simp only [cmdSegLoadBackground]
  repeat' (first | with_reducible rfl | assumption | (intro _) | with_reducible refine ite_keeps ?_ ?_ | with_reducible refine ite_answer ?_ ?_ | with_reducible apply checked_keeps | with_reducible apply withCtx_keeps | with_reducible apply withQueue_keeps | with_reducible apply corrCmd_keeps | (simp only [foldl_mask, loadTable_foot, keeps_ok, keeps_started, keeps_fail, keeps_failWith, keeps_wait, keeps_next, Nat.reduceAnd]) | with_reducible apply foldl_keeps | dsimp only | split)
theorem cmdSegSetBackground_foot {w : Nat} (h : 8658124874 &&& w = 8658124874) (r : Req) (s : State) {m : State} (hm : s.mask w = m) :
    ((cmdSegSetBackground).run r s).keeps w m := by
  subst hm
  refine keeps_mono h ?_
  simp only [cmdSegSetBackground]
  repeat' (first | with_reducible rfl | assumption | (intro _) | with_reducible refine ite_keeps ?_ ?_ | with_reducible refine ite_answer ?_ ?_ | with_reducible apply checked_keeps | with_reducible apply withCtx_keeps | with_reducible apply withQueue_keeps | with_reducible apply corrCmd_keeps | (simp only [foldl_mask, changeCtx_foot, keeps_ok, keeps_started, keeps_fail, keeps_failWith, keeps_wait, keeps_next, Nat.reduceAnd]) | with_reducible apply foldl_keeps | dsimp only | split)
theorem cmdSegSetThreshold_foot {w : Nat} (h : 8658124874 &&& w = 8658124874) (r : Req) (s : State) {m : State} (hm : s.mask w = m) :
    ((cmdSegSetThreshold).run r s).keeps w m := by
  subst hm
  refine keeps_mono h ?_
  simp only [cmdSegSetThreshold]
  repeat' (first | with_reducible rfl | assumption | (intro _) | with_reducible refine ite_keeps ?_ ?_ | with_reducible refine ite_answer ?_ ?_ | with_reducible apply checked_keeps | with_reducible apply withCtx_keeps | with_reducible apply withQueue_keeps | with_reducible apply corrCmd_keeps | (simp only [foldl_mask, changeCtx_foot, keeps_ok, keeps_started, keeps_fail, keeps_failWith, keeps_wait, keeps_next, Nat.reduceAnd]) | with_reducible apply foldl_keeps | dsimp only | split)
theorem cmdSegSetMorph_foot {w : Nat} (h : 8658124874 &&& w = 8658124874) (r : Req) (s : State) {m : State} (hm : s.mask w = m) :
    ((cmdSegSetMorph).run r s).keeps w m := by
  subst hm
  refine keeps_mono h ?_
  simp only [cmdSegSetMorph]
  repeat' (first | with_reducible rfl | assumption | (intro _) | with_reducible refine ite_keeps ?_ ?_ | with_reducible refine ite_answer ?_ ?_ | with_reducible apply checked_keeps | with_reducible apply withCtx_keeps | with_reducible apply withQueue_keeps | with_reducible apply corrCmd_keeps | (simp only [foldl_mask, changeCtx_foot, keeps_ok, keeps_started, keeps_fail, keeps_failWith, keeps_wait, keeps_next, Nat.reduceAnd]) | with_reducible apply foldl_keeps | dsimp only | split)
theorem cmdSegCaptureBackground_foot {w : Nat} (h : 8658124874 &&& w = 8658124874) (r : Req) (s : State) {m : State} (hm : s.mask w = m) :
    ((cmdSegCaptureBackground).run r s).keeps w m := by
  subst hm
  refine keeps_mono h ?_
  simp only [cmdSegCaptureBackground]
  repeat' (first | with_reducible rfl | assumption | (intro _) | with_reducible refine ite_keeps ?_ ?_ | with_reducible refine ite_answer ?_ ?_ | with_reducible apply checked_keeps | with_reducible apply withCtx_keeps | with_reducible apply withQueue_keeps | with_reducible apply corrCmd_keeps | (simp only [foldl_mask, segResult_foot, modCtx_foot, keeps_ok, keeps_started, keeps_fail, keeps_failWith, keeps_wait, keeps_next, Nat.reduceAnd]) | with_reducible apply foldl_keeps | dsimp only | split)
theorem cmdCellSetFormat_foot {w : Nat} (h : 67108864 &&& w = 67108864) (r : Req) (s : State) {m : State} (hm : s.mask w = m) :
    ((cmdCellSetFormat).run r s).keeps w m := by
  subst hm
  refine keeps_mono h ?_
  simp only [cmdCellSetFormat]
  repeat' (first | with_reducible rfl | assumption | (intro _) | with_reducible refine ite_keeps ?_ ?_ | with_reducible refine ite_answer ?_ ?_ | with_reducible apply checked_keeps | with_reducible apply withCtx_keeps | with_reducible apply withQueue_keeps | with_reducible apply corrCmd_keeps | (simp only [mask_set_67108864, foldl_mask, keeps_ok, keeps_started, keeps_fail, keeps_failWith, keeps_wait, keeps_next, Nat.reduceAnd]) | with_reducible apply foldl_keeps | dsimp only | split)
theorem dropOwner_foot {w : Nat} (h : 16 &&& w = 16) (k : Kind) (i : Nat) (s : State) :
    (dropOwner k i s).mask w = s.mask w := by
  refine mask_mono h ?_
  unfold dropOwner
  repeat' (first | with_reducible rfl | assumption | (intro _) | with_reducible refine ite_keeps ?_ ?_ | with_reducible refine ite_answer ?_ ?_ | with_reducible apply checked_keeps | with_reducible apply withCtx_keeps | with_reducible apply withQueue_keeps | with_reducible apply corrCmd_keeps | (simp only [foldl_mask, modSys_foot, keeps_ok, keeps_started, keeps_fail, keeps_failWith, keeps_wait, keeps_next, Nat.reduceAnd]) | with_reducible apply foldl_keeps | dsimp only | split)
theorem setOwner_foot {w : Nat} (h : 16 &&& w = 16) (k : Kind) (i : Nat) (o : Nat) (s : State) :
    (setOwner k i o s).mask w = s.mask w := by
  refine mask_mono h ?_
  unfold setOwner
  repeat' (first | with_reducible rfl | assumption | (intro _) | with_reducible refine ite_keeps ?_ ?_ | with_reducible refine ite_answer ?_ ?_ | with_reducible apply checked_keeps | with_reducible apply withCtx_keeps | with_reducible apply withQueue_keeps | with_reducible apply corrCmd_keeps | (simp only [foldl_mask, modSys_foot, keeps_ok, keeps_started, keeps_fail, keeps_failWith, keeps_wait, keeps_next, Nat.reduceAnd]) | with_reducible apply foldl_keeps | dsimp only | split)
theorem cmdStitchConfigure_foot {w : Nat} (h : 1610612752 &&& w = 1610612752) (r : Req) (s : State) {m : State} (hm : s.mask w = m) :
    ((cmdStitchConfigure).run r s).keeps w m := by
  subst hm
  refine keeps_mono h ?_
  simp only [cmdStitchConfigure]
  repeat' (first | with_reducible rfl | assumption | (intro _) | with_reducible refine ite_keeps ?_ ?_ | with_reducible refine ite_answer ?_ ?_ | with_reducible apply checked_keeps | with_reducible apply withCtx_keeps | with_reducible apply withQueue_keeps | with_reducible apply corrCmd_keeps | (simp only [mask_set_1610612736, mask_set_536870912, foldl_mask, dropOwner_foot, setOwner_foot, keeps_ok, keeps_started, keeps_fail, keeps_failWith, keeps_wait, keeps_next, Nat.reduceAnd]) | with_reducible apply foldl_keeps | dsimp only | split)
theorem ctxCreate_foot {w : Nat} (h : 83886080 &&& w = 83886080) (compat : Bool) (r : Req) (s : State) {m : State} (hm : s.mask w = m) :
    (ctxCreate compat r s).keeps w m := by
  subst hm
  refine keeps_mono h ?_
  unfold ctxCreate
  repeat' (first | with_reducible rfl | assumption | (intro _) | with_reducible refine ite_keeps ?_ ?_ | with_reducible refine ite_answer ?_ ?_ | with_reducible apply checked_keeps | with_reducible apply withCtx_keeps | with_reducible apply withQueue_keeps | with_reducible apply corrCmd_keeps | (simp only [mask_set_67108864, foldl_mask, modEth_foot, keeps_ok, keeps_started, keeps_fail, keeps_failWith, keeps_wait, keeps_next, Nat.reduceAnd]) | with_reducible apply foldl_keeps | dsimp only | split)
theorem cmdCtxCreate_foot {w : Nat} (h : 83886080 &&& w = 83886080) (r : Req) (s : State) {m : State} (hm : s.mask w = m) :
    ((cmdCtxCreate).run r s).keeps w m := by
  subst hm
  refine keeps_mono h ?_
  simp only [cmdCtxCreate]
  repeat' (first | with_reducible rfl | assumption | (intro _) | with_reducible refine ite_keeps ?_ ?_ | with_reducible refine ite_answer ?_ ?_ | with_reducible apply checked_keeps | with_reducible apply withCtx_keeps | with_reducible apply withQueue_keeps | with_reducible apply corrCmd_keeps | (simp only [foldl_mask, ctxCreate_foot, keeps_ok, keeps_started, keeps_fail, keeps_failWith, keeps_wait, keeps_next, Nat.reduceAnd]) | with_reducible apply foldl_keeps | dsimp only | split)
theorem cmdCtxSet_foot {w : Nat} (h : 67108864 &&& w = 67108864) (r : Req) (s : State) {m : State} (hm : s.mask w = m) :
    ((cmdCtxSet).run r s).keeps w m := by
  subst hm
  refine keeps_mono h ?_
  simp only [cmdCtxSet]
  repeat' (first | with_reducible rfl | assumption | (intro _) | with_reducible refine ite_keeps ?_ ?_ | with_reducible refine ite_answer ?_ ?_ | with_reducible apply checked_keeps | with_reducible apply withCtx_keeps | with_reducible apply withQueue_keeps | with_reducible apply corrCmd_keeps | (simp only [mask_set_67108864, foldl_mask, keeps_ok, keeps_started, keeps_fail, keeps_failWith, keeps_wait, keeps_next, Nat.reduceAnd]) | with_reducible apply foldl_keeps | dsimp only | split)

end Sys2Proof.Machine
end

