-- ==== Sys2Proof/Laws/Foot5.lean ====
section
/-! SUPPORT. What each operation leaves as it was, part 5 of 18: of state `s` it changes no field outside the set of its
footprint (a bit for each field, in the order of Field). -/
set_option linter.all false
set_option maxRecDepth 4000
open Sys2Proof Sys2Proof.Machine
namespace Sys2Proof.Machine

theorem modBank_foot {w : Nat} (h : 1024 &&& w = 1024) (b : Nat) (g : Bank → Bank) (s : State) :
    (modBank b g s).mask w = s.mask w := by
  refine mask_mono h ?_
  unfold modBank
  repeat' (first | with_reducible rfl | assumption | (intro _) | with_reducible refine ite_keeps ?_ ?_ | with_reducible refine ite_answer ?_ ?_ | with_reducible apply checked_keeps | with_reducible apply withCtx_keeps | with_reducible apply withQueue_keeps | with_reducible apply corrCmd_keeps | (simp only [mask_set_1024, foldl_mask, keeps_ok, keeps_started, keeps_fail, keeps_failWith, keeps_wait, keeps_next, Nat.reduceAnd]) | with_reducible apply foldl_keeps | dsimp only | split)
theorem wakeBank_foot {w : Nat} (h : 1024 &&& w = 1024) (b : Nat) (s : State) :
    (wakeBank b s).mask w = s.mask w := by
  refine mask_mono h ?_
  unfold wakeBank
  repeat' (first | with_reducible rfl | assumption | (intro _) | with_reducible refine ite_keeps ?_ ?_ | with_reducible refine ite_answer ?_ ?_ | with_reducible apply checked_keeps | with_reducible apply withCtx_keeps | with_reducible apply withQueue_keeps | with_reducible apply corrCmd_keeps | (simp only [foldl_mask, modBank_foot, keeps_ok, keeps_started, keeps_fail, keeps_failWith, keeps_wait, keeps_next, Nat.reduceAnd]) | with_reducible apply foldl_keeps | dsimp only | split)
theorem modComb_foot {w : Nat} (h : 134217728 &&& w = 134217728) (k : Nat) (g : Comb → Comb) (s : State) :
    (modComb k g s).mask w = s.mask w := by
  refine mask_mono h ?_
  unfold modComb
  repeat' (first | with_reducible rfl | assumption | (intro _) | with_reducible refine ite_keeps ?_ ?_ | with_reducible refine ite_answer ?_ ?_ | with_reducible apply checked_keeps | with_reducible apply withCtx_keeps | with_reducible apply withQueue_keeps | with_reducible apply corrCmd_keeps | (simp only [mask_set_134217728, foldl_mask, keeps_ok, keeps_started, keeps_fail, keeps_failWith, keeps_wait, keeps_next, Nat.reduceAnd]) | with_reducible apply foldl_keeps | dsimp only | split)
theorem ctxAssign_foot {w : Nat} (h : 201327616 &&& w = 201327616) (r : Req) (s : State) {m : State} (hm : s.mask w = m) :
    (ctxAssign r s).keeps w m := by
  subst hm
  refine keeps_mono h ?_
  unfold ctxAssign
  repeat' (first | with_reducible rfl | assumption | (intro _) | with_reducible refine ite_keeps ?_ ?_ | with_reducible refine ite_answer ?_ ?_ | with_reducible apply checked_keeps | with_reducible apply withCtx_keeps | with_reducible apply withQueue_keeps | with_reducible apply corrCmd_keeps | (simp only [mask_set_67108864, foldl_mask, wakeBank_foot, modComb_foot, keeps_ok, keeps_started, keeps_fail, keeps_failWith, keeps_wait, keeps_next, Nat.reduceAnd]) | with_reducible apply foldl_keeps | dsimp only | split)
theorem cmdCtxAssign_foot {w : Nat} (h : 201327616 &&& w = 201327616) (r : Req) (s : State) {m : State} (hm : s.mask w = m) :
    ((cmdCtxAssign).run r s).keeps w m := by
  subst hm
  refine keeps_mono h ?_
  simp only [cmdCtxAssign]
  repeat' (first | with_reducible rfl | assumption | (intro _) | with_reducible refine ite_keeps ?_ ?_ | with_reducible refine ite_answer ?_ ?_ | with_reducible apply checked_keeps | with_reducible apply withCtx_keeps | with_reducible apply withQueue_keeps | with_reducible apply corrCmd_keeps | (simp only [foldl_mask, ctxAssign_foot, keeps_ok, keeps_started, keeps_fail, keeps_failWith, keeps_wait, keeps_next, Nat.reduceAnd]) | with_reducible apply foldl_keeps | dsimp only | split)
theorem ctxStart_foot {w : Nat} (h : 104857668 &&& w = 104857668) (r : Req) (s : State) {m : State} (hm : s.mask w = m) :
    (ctxStart r s).keeps w m := by
  subst hm
  refine keeps_mono h ?_
  unfold ctxStart
  repeat' (first | with_reducible rfl | assumption | (intro _) | with_reducible refine ite_keeps ?_ ?_ | with_reducible refine ite_answer ?_ ?_ | with_reducible apply checked_keeps | with_reducible apply withCtx_keeps | with_reducible apply withQueue_keeps | with_reducible apply corrCmd_keeps | (simp only [mask_set_67108864, foldl_mask, announceServer_foot, keeps_ok, keeps_started, keeps_fail, keeps_failWith, keeps_wait, keeps_next, Nat.reduceAnd]) | with_reducible apply foldl_keeps | dsimp only | split)
theorem cmdCtxStart_foot {w : Nat} (h : 104857668 &&& w = 104857668) (r : Req) (s : State) {m : State} (hm : s.mask w = m) :
    ((cmdCtxStart).run r s).keeps w m := by
  subst hm
  refine keeps_mono h ?_
  simp only [cmdCtxStart]
  repeat' (first | with_reducible rfl | assumption | (intro _) | with_reducible refine ite_keeps ?_ ?_ | with_reducible refine ite_answer ?_ ?_ | with_reducible apply checked_keeps | with_reducible apply withCtx_keeps | with_reducible apply withQueue_keeps | with_reducible apply corrCmd_keeps | (simp only [foldl_mask, ctxStart_foot, keeps_ok, keeps_started, keeps_fail, keeps_failWith, keeps_wait, keeps_next, Nat.reduceAnd]) | with_reducible apply foldl_keeps | dsimp only | split)
theorem ctxStop_foot {w : Nat} (h : 67108864 &&& w = 67108864) (r : Req) (s : State) {m : State} (hm : s.mask w = m) :
    (ctxStop r s).keeps w m := by
  subst hm
  refine keeps_mono h ?_
  unfold ctxStop
  repeat' (first | with_reducible rfl | assumption | (intro _) | with_reducible refine ite_keeps ?_ ?_ | with_reducible refine ite_answer ?_ ?_ | with_reducible apply checked_keeps | with_reducible apply withCtx_keeps | with_reducible apply withQueue_keeps | with_reducible apply corrCmd_keeps | (simp only [mask_set_67108864, foldl_mask, keeps_ok, keeps_started, keeps_fail, keeps_failWith, keeps_wait, keeps_next, Nat.reduceAnd]) | with_reducible apply foldl_keeps | dsimp only | split)
theorem cmdCtxStop_foot {w : Nat} (h : 67108864 &&& w = 67108864) (r : Req) (s : State) {m : State} (hm : s.mask w = m) :
    ((cmdCtxStop).run r s).keeps w m := by
  subst hm
  refine keeps_mono h ?_
  simp only [cmdCtxStop]
  repeat' (first | with_reducible rfl | assumption | (intro _) | with_reducible refine ite_keeps ?_ ?_ | with_reducible refine ite_answer ?_ ?_ | with_reducible apply checked_keeps | with_reducible apply withCtx_keeps | with_reducible apply withQueue_keeps | with_reducible apply corrCmd_keeps | (simp only [foldl_mask, ctxStop_foot, keeps_ok, keeps_started, keeps_fail, keeps_failWith, keeps_wait, keeps_next, Nat.reduceAnd]) | with_reducible apply foldl_keeps | dsimp only | split)
theorem freeComb_foot {w : Nat} (h : 134217728 &&& w = 134217728) (k : Nat) (s : State) :
    (freeComb k s).mask w = s.mask w := by
  refine mask_mono h ?_
  unfold freeComb
  repeat' (first | with_reducible rfl | assumption | (intro _) | with_reducible refine ite_keeps ?_ ?_ | with_reducible refine ite_answer ?_ ?_ | with_reducible apply checked_keeps | with_reducible apply withCtx_keeps | with_reducible apply withQueue_keeps | with_reducible apply corrCmd_keeps | (simp only [foldl_mask, modComb_foot, keeps_ok, keeps_started, keeps_fail, keeps_failWith, keeps_wait, keeps_next, Nat.reduceAnd]) | with_reducible apply foldl_keeps | dsimp only | split)
theorem ctxRelease_foot {w : Nat} (h : 201326592 &&& w = 201326592) (r : Req) (s : State) {m : State} (hm : s.mask w = m) :
    (ctxRelease r s).keeps w m := by
  subst hm
  refine keeps_mono h ?_
  unfold ctxRelease
  repeat' (first | with_reducible rfl | assumption | (intro _) | with_reducible refine ite_keeps ?_ ?_ | with_reducible refine ite_answer ?_ ?_ | with_reducible apply checked_keeps | with_reducible apply withCtx_keeps | with_reducible apply withQueue_keeps | with_reducible apply corrCmd_keeps | (simp only [mask_set_67108864, foldl_mask, freeComb_foot, keeps_ok, keeps_started, keeps_fail, keeps_failWith, keeps_wait, keeps_next, Nat.reduceAnd]) | with_reducible apply foldl_keeps | dsimp only | split)
theorem cmdCtxRelease_foot {w : Nat} (h : 201326592 &&& w = 201326592) (r : Req) (s : State) {m : State} (hm : s.mask w = m) :
    ((cmdCtxRelease).run r s).keeps w m := by
  subst hm
  refine keeps_mono h ?_
  simp only [cmdCtxRelease]
  repeat' (first | with_reducible rfl | assumption | (intro _) | with_reducible refine ite_keeps ?_ ?_ | with_reducible refine ite_answer ?_ ?_ | with_reducible apply checked_keeps | with_reducible apply withCtx_keeps | with_reducible apply withQueue_keeps | with_reducible apply corrCmd_keeps | (simp only [foldl_mask, ctxRelease_foot, keeps_ok, keeps_started, keeps_fail, keeps_failWith, keeps_wait, keeps_next, Nat.reduceAnd]) | with_reducible apply foldl_keeps | dsimp only | split)
theorem forgetPace_foot {w : Nat} (h : 8 &&& w = 8) (p : Nat → Bool) (s : State) :
    (forgetPace p s).mask w = s.mask w := by
  refine mask_mono h ?_
  unfold forgetPace
  repeat' (first | with_reducible rfl | assumption | (intro _) | with_reducible refine ite_keeps ?_ ?_ | with_reducible refine ite_answer ?_ ?_ | with_reducible apply checked_keeps | with_reducible apply withCtx_keeps | with_reducible apply withQueue_keeps | with_reducible apply corrCmd_keeps | (simp only [mask_set_8, foldl_mask, keeps_ok, keeps_started, keeps_fail, keeps_failWith, keeps_wait, keeps_next, Nat.reduceAnd]) | with_reducible apply foldl_keeps | dsimp only | split)
theorem removeCtx_foot {w : Nat} (h : 73081552904 &&& w = 73081552904) (c : Nat) (s : State) :
    (removeCtx c s).mask w = s.mask w := by
  refine mask_mono h ?_
  unfold removeCtx
  repeat' (first | with_reducible rfl | assumption | (intro _) | with_reducible refine ite_keeps ?_ ?_ | with_reducible refine ite_answer ?_ ?_ | with_reducible apply checked_keeps | with_reducible apply withCtx_keeps | with_reducible apply withQueue_keeps | with_reducible apply corrCmd_keeps | (simp only [mask_set_73081552896, foldl_mask, forgetPace_foot, keeps_ok, keeps_started, keeps_fail, keeps_failWith, keeps_wait, keeps_next, Nat.reduceAnd]) | with_reducible apply foldl_keeps | dsimp only | split)
theorem ctxDestroy_foot {w : Nat} (h : 73081552904 &&& w = 73081552904) (r : Req) (s : State) {m : State} (hm : s.mask w = m) :
    (ctxDestroy r s).keeps w m := by
  subst hm
  refine keeps_mono h ?_
  unfold ctxDestroy
  repeat' (first | with_reducible rfl | assumption | (intro _) | with_reducible refine ite_keeps ?_ ?_ | with_reducible refine ite_answer ?_ ?_ | with_reducible apply checked_keeps | with_reducible apply withCtx_keeps | with_reducible apply withQueue_keeps | with_reducible apply corrCmd_keeps | (simp only [foldl_mask, removeCtx_foot, keeps_ok, keeps_started, keeps_fail, keeps_failWith, keeps_wait, keeps_next, Nat.reduceAnd]) | with_reducible apply foldl_keeps | dsimp only | split)
theorem cmdCtxDestroy_foot {w : Nat} (h : 73081552904 &&& w = 73081552904) (r : Req) (s : State) {m : State} (hm : s.mask w = m) :
    ((cmdCtxDestroy).run r s).keeps w m := by
  subst hm
  refine keeps_mono h ?_
  simp only [cmdCtxDestroy]
  repeat' (first | with_reducible rfl | assumption | (intro _) | with_reducible refine ite_keeps ?_ ?_ | with_reducible refine ite_answer ?_ ?_ | with_reducible apply checked_keeps | with_reducible apply withCtx_keeps | with_reducible apply withQueue_keeps | with_reducible apply corrCmd_keeps | (simp only [foldl_mask, ctxDestroy_foot, keeps_ok, keeps_started, keeps_fail, keeps_failWith, keeps_wait, keeps_next, Nat.reduceAnd]) | with_reducible apply foldl_keeps | dsimp only | split)
theorem ctxStatus_foot {w : Nat} (h : 67108864 &&& w = 67108864) (n : Nat) (r : Req) (s : State) {m : State} (hm : s.mask w = m) :
    (ctxStatus n r s).keeps w m := by
  subst hm
  refine keeps_mono h ?_
  unfold ctxStatus
  repeat' (first | with_reducible rfl | assumption | (intro _) | with_reducible refine ite_keeps ?_ ?_ | with_reducible refine ite_answer ?_ ?_ | with_reducible apply checked_keeps | with_reducible apply withCtx_keeps | with_reducible apply withQueue_keeps | with_reducible apply corrCmd_keeps | (simp only [foldl_mask, modCtx_foot, keeps_ok, keeps_started, keeps_fail, keeps_failWith, keeps_wait, keeps_next, Nat.reduceAnd]) | with_reducible apply foldl_keeps | dsimp only | split)
theorem cmdCtxGetStatus_foot {w : Nat} (h : 67108864 &&& w = 67108864) (r : Req) (s : State) {m : State} (hm : s.mask w = m) :
    ((cmdCtxGetStatus).run r s).keeps w m := by
  subst hm
  refine keeps_mono h ?_
  simp only [cmdCtxGetStatus]
  repeat' (first | with_reducible rfl | assumption | (intro _) | with_reducible refine ite_keeps ?_ ?_ | with_reducible refine ite_answer ?_ ?_ | with_reducible apply checked_keeps | with_reducible apply withCtx_keeps | with_reducible apply withQueue_keeps | with_reducible apply corrCmd_keeps | (simp only [foldl_mask, ctxStatus_foot, keeps_ok, keeps_started, keeps_fail, keeps_failWith, keeps_wait, keeps_next, Nat.reduceAnd]) | with_reducible apply foldl_keeps | dsimp only | split)
theorem setPartition_foot {w : Nat} (h : 268435456 &&& w = 268435456) (quads : Nat) (r : Req) (s : State) {m : State} (hm : s.mask w = m) :
    (setPartition quads r s).keeps w m := by
  subst hm
  refine keeps_mono h ?_
  unfold setPartition
  repeat' (first | with_reducible rfl | assumption | (intro _) | with_reducible refine ite_keeps ?_ ?_ | with_reducible refine ite_answer ?_ ?_ | with_reducible apply checked_keeps | with_reducible apply withCtx_keeps | with_reducible apply withQueue_keeps | with_reducible apply corrCmd_keeps | (simp only [mask_set_268435456, foldl_mask, keeps_ok, keeps_started, keeps_fail, keeps_failWith, keeps_wait, keeps_next, Nat.reduceAnd]) | with_reducible apply foldl_keeps | dsimp only | split)
theorem cmdIntakeSetPartition_foot {w : Nat} (h : 268435456 &&& w = 268435456) (r : Req) (s : State) {m : State} (hm : s.mask w = m) :
    ((cmdIntakeSetPartition).run r s).keeps w m := by
  subst hm
  refine keeps_mono h ?_
  simp only [cmdIntakeSetPartition]
  repeat' (first | with_reducible rfl | assumption | (intro _) | with_reducible refine ite_keeps ?_ ?_ | with_reducible refine ite_answer ?_ ?_ | with_reducible apply checked_keeps | with_reducible apply withCtx_keeps | with_reducible apply withQueue_keeps | with_reducible apply corrCmd_keeps | (simp only [foldl_mask, setPartition_foot, keeps_ok, keeps_started, keeps_fail, keeps_failWith, keeps_wait, keeps_next, Nat.reduceAnd]) | with_reducible apply foldl_keeps | dsimp only | split)
theorem cmdCombSetSpare_foot {w : Nat} (h : 134217744 &&& w = 134217744) (r : Req) (s : State) {m : State} (hm : s.mask w = m) :
    ((cmdCombSetSpare).run r s).keeps w m := by
  subst hm
  refine keeps_mono h ?_
  simp only [cmdCombSetSpare]
  repeat' (first | with_reducible rfl | assumption | (intro _) | with_reducible refine ite_keeps ?_ ?_ | with_reducible refine ite_answer ?_ ?_ | with_reducible apply checked_keeps | with_reducible apply withCtx_keeps | with_reducible apply withQueue_keeps | with_reducible apply corrCmd_keeps | (simp only [foldl_mask, setOwner_foot, modComb_foot, keeps_ok, keeps_started, keeps_fail, keeps_failWith, keeps_wait, keeps_next, Nat.reduceAnd]) | with_reducible apply foldl_keeps | dsimp only | split)
theorem cmdCombGetStatus_foot {w : Nat} (h : 0 &&& w = 0) (r : Req) (s : State) {m : State} (hm : s.mask w = m) :
    ((cmdCombGetStatus).run r s).keeps w m := by
  subst hm
  refine keeps_mono h ?_
  simp only [cmdCombGetStatus]
  repeat' (first | with_reducible rfl | assumption | (intro _) | with_reducible refine ite_keeps ?_ ?_ | with_reducible refine ite_answer ?_ ?_ | with_reducible apply checked_keeps | with_reducible apply withCtx_keeps | with_reducible apply withQueue_keeps | with_reducible apply corrCmd_keeps | (simp only [foldl_mask, keeps_ok, keeps_started, keeps_fail, keeps_failWith, keeps_wait, keeps_next, Nat.reduceAnd]) | with_reducible apply foldl_keeps | dsimp only | split)
theorem cmdDevGetInfo_foot {w : Nat} (h : 0 &&& w = 0) (r : Req) (s : State) {m : State} (hm : s.mask w = m) :
    ((cmdDevGetInfo).run r s).keeps w m := by
  subst hm
  refine keeps_mono h ?_
  simp only [cmdDevGetInfo]
  repeat' (first | with_reducible rfl | assumption | (intro _) | with_reducible refine ite_keeps ?_ ?_ | with_reducible refine ite_answer ?_ ?_ | with_reducible apply checked_keeps | with_reducible apply withCtx_keeps | with_reducible apply withQueue_keeps | with_reducible apply corrCmd_keeps | (simp only [foldl_mask, keeps_ok, keeps_started, keeps_fail, keeps_failWith, keeps_wait, keeps_next, Nat.reduceAnd]) | with_reducible apply foldl_keeps | dsimp only | split)
theorem cmdDevGetPortStatus_foot {w : Nat} (h : 32768 &&& w = 32768) (r : Req) (s : State) {m : State} (hm : s.mask w = m) :
    ((cmdDevGetPortStatus).run r s).keeps w m := by
  subst hm
  refine keeps_mono h ?_
  simp only [cmdDevGetPortStatus]
  repeat' (first | with_reducible rfl | assumption | (intro _) | with_reducible refine ite_keeps ?_ ?_ | with_reducible refine ite_answer ?_ ?_ | with_reducible apply checked_keeps | with_reducible apply withCtx_keeps | with_reducible apply withQueue_keeps | with_reducible apply corrCmd_keeps | (simp only [foldl_mask, modHp_foot, keeps_ok, keeps_started, keeps_fail, keeps_failWith, keeps_wait, keeps_next, Nat.reduceAnd]) | with_reducible apply foldl_keeps | dsimp only | split)
theorem cmdDevAssign_foot {w : Nat} (h : 16 &&& w = 16) (r : Req) (s : State) {m : State} (hm : s.mask w = m) :
    ((cmdDevAssign).run r s).keeps w m := by
  subst hm
  refine keeps_mono h ?_
  simp only [cmdDevAssign]
  repeat' (first | with_reducible rfl | assumption | (intro _) | with_reducible refine ite_keeps ?_ ?_ | with_reducible refine ite_answer ?_ ?_ | with_reducible apply checked_keeps | with_reducible apply withCtx_keeps | with_reducible apply withQueue_keeps | with_reducible apply corrCmd_keeps | (simp only [foldl_mask, setOwner_foot, keeps_ok, keeps_started, keeps_fail, keeps_failWith, keeps_wait, keeps_next, Nat.reduceAnd]) | with_reducible apply foldl_keeps | dsimp only | split)
theorem cmdDevGetOwner_foot {w : Nat} (h : 0 &&& w = 0) (r : Req) (s : State) {m : State} (hm : s.mask w = m) :
    ((cmdDevGetOwner).run r s).keeps w m := by
  subst hm
  refine keeps_mono h ?_
  simp only [cmdDevGetOwner]
  repeat' (first | with_reducible rfl | assumption | (intro _) | with_reducible refine ite_keeps ?_ ?_ | with_reducible refine ite_answer ?_ ?_ | with_reducible apply checked_keeps | with_reducible apply withCtx_keeps | with_reducible apply withQueue_keeps | with_reducible apply corrCmd_keeps | (simp only [foldl_mask, keeps_ok, keeps_started, keeps_fail, keeps_failWith, keeps_wait, keeps_next, Nat.reduceAnd]) | with_reducible apply foldl_keeps | dsimp only | split)
theorem hold_foot {w : Nat} (h : 16 &&& w = 16) (a0 : Holding) (s : State) :
    (hold a0 s).mask w = s.mask w := by
  refine mask_mono h ?_
  unfold hold
  repeat' (first | with_reducible rfl | assumption | (intro _) | with_reducible refine ite_keeps ?_ ?_ | with_reducible refine ite_answer ?_ ?_ | with_reducible apply checked_keeps | with_reducible apply withCtx_keeps | with_reducible apply withQueue_keeps | with_reducible apply corrCmd_keeps | (simp only [foldl_mask, modSys_foot, keeps_ok, keeps_started, keeps_fail, keeps_failWith, keeps_wait, keeps_next, Nat.reduceAnd]) | with_reducible apply foldl_keeps | dsimp only | split)
theorem diagPrbs_foot {w : Nat} (h : 4194320 &&& w = 4194320) (r : Req) (s : State) {m : State} (hm : s.mask w = m) :
    (diagPrbs r s).keeps w m := by
  subst hm
  refine keeps_mono h ?_
  unfold diagPrbs
  repeat' (first | with_reducible rfl | assumption | (intro _) | with_reducible refine ite_keeps ?_ ?_ | with_reducible refine ite_answer ?_ ?_ | with_reducible apply checked_keeps | with_reducible apply withCtx_keeps | with_reducible apply withQueue_keeps | with_reducible apply corrCmd_keeps | (simp only [foldl_mask, modLink_foot, hold_foot, keeps_ok, keeps_started, keeps_fail, keeps_failWith, keeps_wait, keeps_next, Nat.reduceAnd]) | with_reducible apply foldl_keeps | dsimp only | split)
theorem cmdDiagPrbs_foot {w : Nat} (h : 4194320 &&& w = 4194320) (r : Req) (s : State) {m : State} (hm : s.mask w = m) :
    ((cmdDiagPrbs).run r s).keeps w m := by
  subst hm
  refine keeps_mono h ?_
  simp only [cmdDiagPrbs]
  repeat' (first | with_reducible rfl | assumption | (intro _) | with_reducible refine ite_keeps ?_ ?_ | with_reducible refine ite_answer ?_ ?_ | with_reducible apply checked_keeps | with_reducible apply withCtx_keeps | with_reducible apply withQueue_keeps | with_reducible apply corrCmd_keeps | (simp only [foldl_mask, diagPrbs_foot, keeps_ok, keeps_started, keeps_fail, keeps_failWith, keeps_wait, keeps_next, Nat.reduceAnd]) | with_reducible apply foldl_keeps | dsimp only | split)
theorem surrenderWindow_foot {w : Nat} (h : 3136 &&& w = 3136) (a0 : TestWindow) (s : State) :
    (surrenderWindow a0 s).mask w = s.mask w := by
  refine mask_mono h ?_
  unfold surrenderWindow
  repeat' (first | with_reducible rfl | assumption | (intro _) | with_reducible refine ite_keeps ?_ ?_ | with_reducible refine ite_answer ?_ ?_ | with_reducible apply checked_keeps | with_reducible apply withCtx_keeps | with_reducible apply withQueue_keeps | with_reducible apply corrCmd_keeps | (simp only [mask_set_2048, foldl_mask, honey_foot, modBank_foot, keeps_ok, keeps_started, keeps_fail, keeps_failWith, keeps_wait, keeps_next, Nat.reduceAnd]) | with_reducible apply foldl_keeps | dsimp only | split)
theorem touchWindow_foot {w : Nat} (h : 3136 &&& w = 3136) (b : Nat) (lo : Nat) (hi : Nat) (s : State) :
    (touchWindow b lo hi s).mask w = s.mask w := by
  refine mask_mono h ?_
  unfold touchWindow
  repeat' (first | with_reducible rfl | assumption | (intro _) | with_reducible refine ite_keeps ?_ ?_ | with_reducible refine ite_answer ?_ ?_ | with_reducible apply checked_keeps | with_reducible apply withCtx_keeps | with_reducible apply withQueue_keeps | with_reducible apply corrCmd_keeps | (simp only [foldl_mask, surrenderWindow_foot, keeps_ok, keeps_started, keeps_fail, keeps_failWith, keeps_wait, keeps_next, Nat.reduceAnd]) | with_reducible apply foldl_keeps | dsimp only | split)
theorem cmdDiagBankRead_foot {w : Nat} (h : 3140 &&& w = 3140) (r : Req) (s : State) {m : State} (hm : s.mask w = m) :
    ((cmdDiagBankRead).run r s).keeps w m := by
  subst hm
  refine keeps_mono h ?_
  simp only [cmdDiagBankRead]
  repeat' (first | with_reducible rfl | assumption | (intro _) | with_reducible refine ite_keeps ?_ ?_ | with_reducible refine ite_answer ?_ ?_ | with_reducible apply checked_keeps | with_reducible apply withCtx_keeps | with_reducible apply withQueue_keeps | with_reducible apply corrCmd_keeps | (simp only [foldl_mask, bumpFree_foot, touchWindow_foot, wakeBank_foot, keeps_ok, keeps_started, keeps_fail, keeps_failWith, keeps_wait, keeps_next, Nat.reduceAnd]) | with_reducible apply foldl_keeps | dsimp only | split)
theorem setIntxAll_foot {w : Nat} (h : 32770 &&& w = 32770) (b : Nat) (s : State) :
    (setIntxAll b s).mask w = s.mask w := by
  refine mask_mono h ?_
  unfold setIntxAll
  repeat' (first | with_reducible rfl | assumption | (intro _) | with_reducible refine ite_keeps ?_ ?_ | with_reducible refine ite_answer ?_ ?_ | with_reducible apply checked_keeps | with_reducible apply withCtx_keeps | with_reducible apply withQueue_keeps | with_reducible apply corrCmd_keeps | (simp only [foldl_mask, setIntx_foot, keeps_ok, keeps_started, keeps_fail, keeps_failWith, keeps_wait, keeps_next, Nat.reduceAnd]) | with_reducible apply foldl_keeps | dsimp only | split)
theorem detectFault_foot {w : Nat} (h : 37810242 &&& w = 37810242) (cls : Nat) (unit : Nat) (s : State) :
    (detectFault cls unit s).mask w = s.mask w := by
  refine mask_mono h ?_
  unfold detectFault
  repeat' (first | with_reducible rfl | assumption | (intro _) | with_reducible refine ite_keeps ?_ ?_ | with_reducible refine ite_answer ?_ ?_ | with_reducible apply checked_keeps | with_reducible apply withCtx_keeps | with_reducible apply withQueue_keeps | with_reducible apply corrCmd_keeps | (simp only [mask_set_28672, foldl_mask, setIntxAll_foot, emit_foot, sendFaultSummary_foot, keeps_ok, keeps_started, keeps_fail, keeps_failWith, keeps_wait, keeps_next, Nat.reduceAnd]) | with_reducible apply foldl_keeps | dsimp only | split)
theorem countLost_foot {w : Nat} (h : 68190282 &&& w = 68190282) (c : Nat) (n : Nat) (first : Nat) (s : State) :
    (countLost c n first s).mask w = s.mask w := by
  refine mask_mono h ?_
  unfold countLost
  repeat' (first | with_reducible rfl | assumption | (intro _) | with_reducible refine ite_keeps ?_ ?_ | with_reducible refine ite_answer ?_ ?_ | with_reducible apply checked_keeps | with_reducible apply withCtx_keeps | with_reducible apply withQueue_keeps | with_reducible apply corrCmd_keeps | (simp only [foldl_mask, countCtxN_foot, paced_foot, raiseCtx_foot, keeps_ok, keeps_started, keeps_fail, keeps_failWith, keeps_wait, keeps_next, Nat.reduceAnd]) | with_reducible apply foldl_keeps | dsimp only | split)
theorem loseDyn_foot {w : Nat} (h : 8658124874 &&& w = 8658124874) (c : Nat) (s : State) :
    (loseDyn c s).mask w = s.mask w := by
  refine mask_mono h ?_
  unfold loseDyn
  repeat' (first | with_reducible rfl | assumption | (intro _) | with_reducible refine ite_keeps ?_ ?_ | with_reducible refine ite_answer ?_ ?_ | with_reducible apply checked_keeps | with_reducible apply withCtx_keeps | with_reducible apply withQueue_keeps | with_reducible apply corrCmd_keeps | (simp only [foldl_mask, handObjs_foot, countCtxN_foot, countLost_foot, abortCapture_foot, keeps_ok, keeps_started, keeps_fail, keeps_failWith, keeps_wait, keeps_next, Nat.reduceAnd]) | with_reducible apply foldl_keeps | dsimp only | split)
theorem ctxFaulted_foot {w : Nat} (h : 68190274 &&& w = 68190274) (c : Nat) (unit : Nat) (s : State) :
    (ctxFaulted c unit s).mask w = s.mask w := by
  refine mask_mono h ?_
  unfold ctxFaulted
  repeat' (first | with_reducible rfl | assumption | (intro _) | with_reducible refine ite_keeps ?_ ?_ | with_reducible refine ite_answer ?_ ?_ | with_reducible apply checked_keeps | with_reducible apply withCtx_keeps | with_reducible apply withQueue_keeps | with_reducible apply corrCmd_keeps | (simp only [foldl_mask, raiseCtx_foot, modCtx_foot, keeps_ok, keeps_started, keeps_fail, keeps_failWith, keeps_wait, keeps_next, Nat.reduceAnd]) | with_reducible apply foldl_keeps | dsimp only | split)
theorem combFault_foot {w : Nat} (h : 8830120026 &&& w = 8830120026) (k : Nat) (s : State) :
    (combFault k s).mask w = s.mask w := by
  refine mask_mono h ?_
  unfold combFault
  repeat' (first | with_reducible rfl | assumption | (intro _) | with_reducible refine ite_keeps ?_ ?_ | with_reducible refine ite_answer ?_ ?_ | with_reducible apply checked_keeps | with_reducible apply withCtx_keeps | with_reducible apply withQueue_keeps | with_reducible apply corrCmd_keeps | (simp only [foldl_mask, detectFault_foot, loseDyn_foot, setOwner_foot, modComb_foot, modCtx_foot, raise_foot, honey_foot, ctxFaulted_foot, keeps_ok, keeps_started, keeps_fail, keeps_failWith, keeps_wait, keeps_next, Nat.reduceAnd]) | with_reducible apply foldl_keeps | dsimp only | split)
theorem countLane_foot {w : Nat} (h : 2097152 &&& w = 2097152) (l : Nat) (k : LaneCnt) (s : State) :
    (countLane l k s).mask w = s.mask w := by
  refine mask_mono h ?_
  unfold countLane
  repeat' (first | with_reducible rfl | assumption | (intro _) | with_reducible refine ite_keeps ?_ ?_ | with_reducible refine ite_answer ?_ ?_ | with_reducible apply checked_keeps | with_reducible apply withCtx_keeps | with_reducible apply withQueue_keeps | with_reducible apply corrCmd_keeps | (simp only [foldl_mask, modLane_foot, keeps_ok, keeps_started, keeps_fail, keeps_failWith, keeps_wait, keeps_next, Nat.reduceAnd]) | with_reducible apply foldl_keeps | dsimp only | split)
theorem laneFault_foot {w : Nat} (h : 37810242 &&& w = 37810242) (l : Nat) (s : State) :
    (laneFault l s).mask w = s.mask w := by
  refine mask_mono h ?_
  unfold laneFault
  repeat' (first | with_reducible rfl | assumption | (intro _) | with_reducible refine ite_keeps ?_ ?_ | with_reducible refine ite_answer ?_ ?_ | with_reducible apply checked_keeps | with_reducible apply withCtx_keeps | with_reducible apply withQueue_keeps | with_reducible apply corrCmd_keeps | (simp only [foldl_mask, detectFault_foot, keeps_ok, keeps_started, keeps_fail, keeps_failWith, keeps_wait, keeps_next, Nat.reduceAnd]) | with_reducible apply foldl_keeps | dsimp only | split)
theorem losDetected_foot {w : Nat} (h : 57733186 &&& w = 57733186) (l : Nat) (s : State) :
    (losDetected l s).mask w = s.mask w := by
  refine mask_mono h ?_
  unfold losDetected
  repeat' (first | with_reducible rfl | assumption | (intro _) | with_reducible refine ite_keeps ?_ ?_ | with_reducible refine ite_answer ?_ ?_ | with_reducible apply checked_keeps | with_reducible apply withCtx_keeps | with_reducible apply withQueue_keeps | with_reducible apply corrCmd_keeps | (simp only [foldl_mask, modLane_foot, raise_foot, honey_foot, countLane_foot, laneFault_foot, modEth_foot, keeps_ok, keeps_started, keeps_fail, keeps_failWith, keeps_wait, keeps_next, Nat.reduceAnd]) | with_reducible apply foldl_keeps | dsimp only | split)
theorem modFrags_foot {w : Nat} (h : 1073741824 &&& w = 1073741824) (gi : Nat) (f : List Fragment → List Fragment) (s : State) :
    (modFrags gi f s).mask w = s.mask w := by
  refine mask_mono h ?_
  unfold modFrags
  repeat' (first | with_reducible rfl | assumption | (intro _) | with_reducible refine ite_keeps ?_ ?_ | with_reducible refine ite_answer ?_ ?_ | with_reducible apply checked_keeps | with_reducible apply withCtx_keeps | with_reducible apply withQueue_keeps | with_reducible apply corrCmd_keeps | (simp only [mask_set_1073741824, foldl_mask, keeps_ok, keeps_started, keeps_fail, keeps_failWith, keeps_wait, keeps_next, Nat.reduceAnd]) | with_reducible apply foldl_keeps | dsimp only | split)
theorem unwait_foot {w : Nat} (h : 1048576 &&& w = 1048576) (a : Nat) (n : Nat) (s : State) :
    (unwait a n s).mask w = s.mask w := by
  refine mask_mono h ?_
  unfold unwait
  repeat' (first | with_reducible rfl | assumption | (intro _) | with_reducible refine ite_keeps ?_ ?_ | with_reducible refine ite_answer ?_ ?_ | with_reducible apply checked_keeps | with_reducible apply withCtx_keeps | with_reducible apply withQueue_keeps | with_reducible apply corrCmd_keeps | (simp only [mask_set_1048576, foldl_mask, keeps_ok, keeps_started, keeps_fail, keeps_failWith, keeps_wait, keeps_next, Nat.reduceAnd]) | with_reducible apply foldl_keeps | dsimp only | split)
theorem dropCell_foot {w : Nat} (h : 8662286336 &&& w = 8662286336) (a : Nat) (n : Nat) (s : State) :
    (dropCell a n s).mask w = s.mask w := by
  refine mask_mono h ?_
  unfold dropCell
  repeat' (first | with_reducible rfl | assumption | (intro _) | with_reducible refine ite_keeps ?_ ?_ | with_reducible refine ite_answer ?_ ?_ | with_reducible apply checked_keeps | with_reducible apply withCtx_keeps | with_reducible apply withQueue_keeps | with_reducible apply corrCmd_keeps | (simp only [foldl_mask, modLink_foot, countCtx_foot, freeCell_foot, unwait_foot, keeps_ok, keeps_started, keeps_fail, keeps_failWith, keeps_wait, keeps_next, Nat.reduceAnd]) | with_reducible apply foldl_keeps | dsimp only | split)
theorem loseAsm_foot {w : Nat} (h : 26915897344 &&& w = 26915897344) (a : Nat) (s : State) :
    (loseAsm a s).mask w = s.mask w := by
  refine mask_mono h ?_
  unfold loseAsm
  repeat' (first | with_reducible rfl | assumption | (intro _) | with_reducible refine ite_keeps ?_ ?_ | with_reducible refine ite_answer ?_ ?_ | with_reducible apply checked_keeps | with_reducible apply withCtx_keeps | with_reducible apply withQueue_keeps | with_reducible apply corrCmd_keeps | (simp only [mask_set_17179869184, foldl_mask, countCtx_foot, modAsm_foot, modFrags_foot, dropCell_foot, keeps_ok, keeps_started, keeps_fail, keeps_failWith, keeps_wait, keeps_next, Nat.reduceAnd]) | with_reducible apply foldl_keeps | dsimp only | split)
theorem asmFault_foot {w : Nat} (h : 26949513282 &&& w = 26949513282) (a : Nat) (s : State) :
    (asmFault a s).mask w = s.mask w := by
  refine mask_mono h ?_
  unfold asmFault
  repeat' (first | with_reducible rfl | assumption | (intro _) | with_reducible refine ite_keeps ?_ ?_ | with_reducible refine ite_answer ?_ ?_ | with_reducible apply checked_keeps | with_reducible apply withCtx_keeps | with_reducible apply withQueue_keeps | with_reducible apply corrCmd_keeps | (simp only [foldl_mask, modAsm_foot, loseAsm_foot, detectFault_foot, ctxFaulted_foot, keeps_ok, keeps_started, keeps_fail, keeps_failWith, keeps_wait, keeps_next, Nat.reduceAnd]) | with_reducible apply foldl_keeps | dsimp only | split)
theorem inject_foot {w : Nat} (h : 27102606426 &&& w = 27102606426) (kind : Nat) (target : Nat) (arg : Nat) (s : State) :
    (inject kind target arg s).mask w = s.mask w := by
  refine mask_mono h ?_
  unfold inject
  repeat' (first | with_reducible rfl | assumption | (intro _) | with_reducible refine ite_keeps ?_ ?_ | with_reducible refine ite_answer ?_ ?_ | with_reducible apply checked_keeps | with_reducible apply withCtx_keeps | with_reducible apply withQueue_keeps | with_reducible apply corrCmd_keeps | (simp only [foldl_mask, modBank_foot, combFault_foot, losDetected_foot, asmFault_foot, keeps_ok, keeps_started, keeps_fail, keeps_failWith, keeps_wait, keeps_next, Nat.reduceAnd]) | with_reducible apply foldl_keeps | dsimp only | split)
theorem cmdDiagInject_foot {w : Nat} (h : 27102606426 &&& w = 27102606426) (r : Req) (s : State) {m : State} (hm : s.mask w = m) :
    ((cmdDiagInject).run r s).keeps w m := by
  subst hm
  refine keeps_mono h ?_
  simp only [cmdDiagInject]
  repeat' (first | with_reducible rfl | assumption | (intro _) | with_reducible refine ite_keeps ?_ ?_ | with_reducible refine ite_answer ?_ ?_ | with_reducible apply checked_keeps | with_reducible apply withCtx_keeps | with_reducible apply withQueue_keeps | with_reducible apply corrCmd_keeps | (simp only [foldl_mask, inject_foot, keeps_ok, keeps_started, keeps_fail, keeps_failWith, keeps_wait, keeps_next, Nat.reduceAnd]) | with_reducible apply foldl_keeps | dsimp only | split)
theorem cmdHiveGetStatus_foot {w : Nat} (h : 0 &&& w = 0) (r : Req) (s : State) {m : State} (hm : s.mask w = m) :
    ((cmdHiveGetStatus).run r s).keeps w m := by
  subst hm
  refine keeps_mono h ?_
  simp only [cmdHiveGetStatus]
  repeat' (first | with_reducible rfl | assumption | (intro _) | with_reducible refine ite_keeps ?_ ?_ | with_reducible refine ite_answer ?_ ?_ | with_reducible apply checked_keeps | with_reducible apply withCtx_keeps | with_reducible apply withQueue_keeps | with_reducible apply corrCmd_keeps | (simp only [foldl_mask, keeps_ok, keeps_started, keeps_fail, keeps_failWith, keeps_wait, keeps_next, Nat.reduceAnd]) | with_reducible apply foldl_keeps | dsimp only | split)
theorem cmdHiveListDevices_foot {w : Nat} (h : 4 &&& w = 4) (r : Req) (s : State) {m : State} (hm : s.mask w = m) :
    ((cmdHiveListDevices).run r s).keeps w m := by
  subst hm
  refine keeps_mono h ?_
  simp only [cmdHiveListDevices]
  repeat' (first | with_reducible rfl | assumption | (intro _) | with_reducible refine ite_keeps ?_ ?_ | with_reducible refine ite_answer ?_ ?_ | with_reducible apply checked_keeps | with_reducible apply withCtx_keeps | with_reducible apply withQueue_keeps | with_reducible apply corrCmd_keeps | (simp only [foldl_mask, bumpFree_foot, keeps_ok, keeps_started, keeps_fail, keeps_failWith, keeps_wait, keeps_next, Nat.reduceAnd]) | with_reducible apply foldl_keeps | dsimp only | split)
theorem cmdHiveSetPolicy_foot {w : Nat} (h : 33554432 &&& w = 33554432) (r : Req) (s : State) {m : State} (hm : s.mask w = m) :
    ((cmdHiveSetPolicy).run r s).keeps w m := by
  subst hm
  refine keeps_mono h ?_
  simp only [cmdHiveSetPolicy]
  repeat' (first | with_reducible rfl | assumption | (intro _) | with_reducible refine ite_keeps ?_ ?_ | with_reducible refine ite_answer ?_ ?_ | with_reducible apply checked_keeps | with_reducible apply withCtx_keeps | with_reducible apply withQueue_keeps | with_reducible apply corrCmd_keeps | (simp only [foldl_mask, modHive_foot, keeps_ok, keeps_started, keeps_fail, keeps_failWith, keeps_wait, keeps_next, Nat.reduceAnd]) | with_reducible apply foldl_keeps | dsimp only | split)
theorem resetLater_foot {w : Nat} (h : 16 &&& w = 16) (kind : Nat) (ns : Nat) (s : State) :
    (resetLater kind ns s).mask w = s.mask w := by
  refine mask_mono h ?_
  unfold resetLater
  repeat' (first | with_reducible rfl | assumption | (intro _) | with_reducible refine ite_keeps ?_ ?_ | with_reducible refine ite_answer ?_ ?_ | with_reducible apply checked_keeps | with_reducible apply withCtx_keeps | with_reducible apply withQueue_keeps | with_reducible apply corrCmd_keeps | (simp only [foldl_mask, modSys_foot, keeps_ok, keeps_started, keeps_fail, keeps_failWith, keeps_wait, keeps_next, Nat.reduceAnd]) | with_reducible apply foldl_keeps | dsimp only | split)
theorem cmdHiveResetDevice_foot {w : Nat} (h : 37748816 &&& w = 37748816) (r : Req) (s : State) {m : State} (hm : s.mask w = m) :
    ((cmdHiveResetDevice).run r s).keeps w m := by
  subst hm
  refine keeps_mono h ?_
  simp only [cmdHiveResetDevice]
  repeat' (first | with_reducible rfl | assumption | (intro _) | with_reducible refine ite_keeps ?_ ?_ | with_reducible refine ite_answer ?_ ?_ | with_reducible apply checked_keeps | with_reducible apply withCtx_keeps | with_reducible apply withQueue_keeps | with_reducible apply corrCmd_keeps | (simp only [foldl_mask, hold_foot, modHive_foot, resetLater_foot, hsend_foot, keeps_ok, keeps_started, keeps_fail, keeps_failWith, keeps_wait, keeps_next, Nat.reduceAnd]) | with_reducible apply foldl_keeps | dsimp only | split)
theorem sendUpdate_foot {w : Nat} (h : 37748800 &&& w = 37748800) (target : Option Nat) (sub : Nat) (body : List Byte) (s : State) :
    (sendUpdate target sub body s).mask w = s.mask w := by
  refine mask_mono h ?_
  unfold sendUpdate
  repeat' (first | with_reducible rfl | assumption | (intro _) | with_reducible refine ite_keeps ?_ ?_ | with_reducible refine ite_answer ?_ ?_ | with_reducible apply checked_keeps | with_reducible apply withCtx_keeps | with_reducible apply withQueue_keeps | with_reducible apply corrCmd_keeps | (simp only [foldl_mask, hsend_foot, keeps_ok, keeps_started, keeps_fail, keeps_failWith, keeps_wait, keeps_next, Nat.reduceAnd]) | with_reducible apply foldl_keeps | dsimp only | split)
theorem sendRange_foot {w : Nat} (h : 37748800 &&& w = 37748800) (target : Option Nat) (im : List Byte) (off : Nat) (len : Nat) (s : State) :
    (sendRange target im off len s).mask w = s.mask w := by
  refine mask_mono h ?_
  unfold sendRange
  repeat' (first | with_reducible rfl | assumption | (intro _) | with_reducible refine ite_keeps ?_ ?_ | with_reducible refine ite_answer ?_ ?_ | with_reducible apply checked_keeps | with_reducible apply withCtx_keeps | with_reducible apply withQueue_keeps | with_reducible apply corrCmd_keeps | (simp only [foldl_mask, sendUpdate_foot, keeps_ok, keeps_started, keeps_fail, keeps_failWith, keeps_wait, keeps_next, Nat.reduceAnd]) | with_reducible apply foldl_keeps | dsimp only | split)
theorem cmdFwDistribute_foot {w : Nat} (h : 37748816 &&& w = 37748816) (r : Req) (s : State) {m : State} (hm : s.mask w = m) :
    ((cmdFwDistribute).run r s).keeps w m := by
  subst hm
  refine keeps_mono h ?_
  simp only [cmdFwDistribute]
  repeat' (first | with_reducible rfl | assumption | (intro _) | with_reducible refine ite_keeps ?_ ?_ | with_reducible refine ite_answer ?_ ?_ | with_reducible apply checked_keeps | with_reducible apply withCtx_keeps | with_reducible apply withQueue_keeps | with_reducible apply corrCmd_keeps | (simp only [foldl_mask, sendUpdate_foot, sendRange_foot, hold_foot, modHive_foot, keeps_ok, keeps_started, keeps_fail, keeps_failWith, keeps_wait, keeps_next, Nat.reduceAnd]) | with_reducible apply foldl_keeps | dsimp only | split)
theorem cmdEncConfigure_foot {w : Nat} (h : 1099511627776 &&& w = 1099511627776) (r : Req) (s : State) {m : State} (hm : s.mask w = m) :
    ((cmdEncConfigure).run r s).keeps w m := by
  subst hm
  refine keeps_mono h ?_
  simp only [cmdEncConfigure]
  repeat' (first | with_reducible rfl | assumption | (intro _) | with_reducible refine ite_keeps ?_ ?_ | with_reducible refine ite_answer ?_ ?_ | with_reducible apply checked_keeps | with_reducible apply withCtx_keeps | with_reducible apply withQueue_keeps | with_reducible apply corrCmd_keeps | (simp only [foldl_mask, modEnc_foot, keeps_ok, keeps_started, keeps_fail, keeps_failWith, keeps_wait, keeps_next, Nat.reduceAnd]) | with_reducible apply foldl_keeps | dsimp only | split)
theorem cmdEncSetCount_foot {w : Nat} (h : 1099511627776 &&& w = 1099511627776) (r : Req) (s : State) {m : State} (hm : s.mask w = m) :
    ((cmdEncSetCount).run r s).keeps w m := by
  subst hm
  refine keeps_mono h ?_
  simp only [cmdEncSetCount]
  repeat' (first | with_reducible rfl | assumption | (intro _) | with_reducible refine ite_keeps ?_ ?_ | with_reducible refine ite_answer ?_ ?_ | with_reducible apply checked_keeps | with_reducible apply withCtx_keeps | with_reducible apply withQueue_keeps | with_reducible apply corrCmd_keeps | (simp only [foldl_mask, modEnc_foot, keeps_ok, keeps_started, keeps_fail, keeps_failWith, keeps_wait, keeps_next, Nat.reduceAnd]) | with_reducible apply foldl_keeps | dsimp only | split)
theorem cmdEncGetStatus_foot {w : Nat} (h : 1099511627776 &&& w = 1099511627776) (r : Req) (s : State) {m : State} (hm : s.mask w = m) :
    ((cmdEncGetStatus).run r s).keeps w m := by
  subst hm
  refine keeps_mono h ?_
  simp only [cmdEncGetStatus]
  repeat' (first | with_reducible rfl | assumption | (intro _) | with_reducible refine ite_keeps ?_ ?_ | with_reducible refine ite_answer ?_ ?_ | with_reducible apply checked_keeps | with_reducible apply withCtx_keeps | with_reducible apply withQueue_keeps | with_reducible apply corrCmd_keeps | (simp only [foldl_mask, modEnc_foot, keeps_ok, keeps_started, keeps_fail, keeps_failWith, keeps_wait, keeps_next, Nat.reduceAnd]) | with_reducible apply foldl_keeps | dsimp only | split)
theorem cmdEmuConfigure_foot {w : Nat} (h : 2199023255552 &&& w = 2199023255552) (r : Req) (s : State) {m : State} (hm : s.mask w = m) :
    ((cmdEmuConfigure).run r s).keeps w m := by
  subst hm
  refine keeps_mono h ?_
  simp only [cmdEmuConfigure]
  repeat' (first | with_reducible rfl | assumption | (intro _) | with_reducible refine ite_keeps ?_ ?_ | with_reducible refine ite_answer ?_ ?_ | with_reducible apply checked_keeps | with_reducible apply withCtx_keeps | with_reducible apply withQueue_keeps | with_reducible apply corrCmd_keeps | (simp only [foldl_mask, setEmu_foot, modEmu_foot, keeps_ok, keeps_started, keeps_fail, keeps_failWith, keeps_wait, keeps_next, Nat.reduceAnd]) | with_reducible apply foldl_keeps | dsimp only | split)

end Sys2Proof.Machine
end

