-- ==== Sys2Proof/Laws/Foot6.lean ====
section
/-! SUPPORT. What each operation leaves as it was, part 6 of 18: of state `s` it changes no field outside the set of its
footprint (a bit for each field, in the order of Field). -/
set_option linter.all false
set_option maxRecDepth 4000
open Sys2Proof Sys2Proof.Machine
namespace Sys2Proof.Machine

theorem cmdGpioConfigure_foot {w : Nat} (h : 4398046511106 &&& w = 4398046511106) (r : Req) (s : State) {m : State} (hm : s.mask w = m) :
    ((cmdGpioConfigure).run r s).keeps w m := by
  subst hm
  refine keeps_mono h ?_
  simp only [cmdGpioConfigure]
  repeat' (first | with_reducible rfl | assumption | (intro _) | with_reducible refine ite_keeps ?_ ?_ | with_reducible refine ite_answer ?_ ?_ | with_reducible apply checked_keeps | with_reducible apply withCtx_keeps | with_reducible apply withQueue_keeps | with_reducible apply corrCmd_keeps | (simp only [foldl_mask, modPin_foot, setPin_foot, keeps_ok, keeps_started, keeps_fail, keeps_failWith, keeps_wait, keeps_next, Nat.reduceAnd]) | with_reducible apply foldl_keeps | dsimp only | split)
theorem cmdGpioWrite_foot {w : Nat} (h : 4398046511106 &&& w = 4398046511106) (r : Req) (s : State) {m : State} (hm : s.mask w = m) :
    ((cmdGpioWrite).run r s).keeps w m := by
  subst hm
  refine keeps_mono h ?_
  simp only [cmdGpioWrite]
  repeat' (first | with_reducible rfl | assumption | (intro _) | with_reducible refine ite_keeps ?_ ?_ | with_reducible refine ite_answer ?_ ?_ | with_reducible apply checked_keeps | with_reducible apply withCtx_keeps | with_reducible apply withQueue_keeps | with_reducible apply corrCmd_keeps | (simp only [foldl_mask, setPin_foot, keeps_ok, keeps_started, keeps_fail, keeps_failWith, keeps_wait, keeps_next, Nat.reduceAnd]) | with_reducible apply foldl_keeps | dsimp only | split)
theorem cmdGpioGetStatus_foot {w : Nat} (h : 4398046511104 &&& w = 4398046511104) (r : Req) (s : State) {m : State} (hm : s.mask w = m) :
    ((cmdGpioGetStatus).run r s).keeps w m := by
  subst hm
  refine keeps_mono h ?_
  simp only [cmdGpioGetStatus]
  repeat' (first | with_reducible rfl | assumption | (intro _) | with_reducible refine ite_keeps ?_ ?_ | with_reducible refine ite_answer ?_ ?_ | with_reducible apply checked_keeps | with_reducible apply withCtx_keeps | with_reducible apply withQueue_keeps | with_reducible apply corrCmd_keeps | (simp only [foldl_mask, modPin_foot, keeps_ok, keeps_started, keeps_fail, keeps_failWith, keeps_wait, keeps_next, Nat.reduceAnd]) | with_reducible apply foldl_keeps | dsimp only | split)
theorem laneLeft_foot {w : Nat} (h : 38842434 &&& w = 38842434) (l : Nat) (s : State) :
    (laneLeft l s).mask w = s.mask w := by
  refine mask_mono h ?_
  unfold laneLeft
  repeat' (first | with_reducible rfl | assumption | (intro _) | with_reducible refine ite_keeps ?_ ?_ | with_reducible refine ite_answer ?_ ?_ | with_reducible apply checked_keeps | with_reducible apply withCtx_keeps | with_reducible apply withQueue_keeps | with_reducible apply corrCmd_keeps | (simp only [foldl_mask, resolveFault_foot, keeps_ok, keeps_started, keeps_fail, keeps_failWith, keeps_wait, keeps_next, Nat.reduceAnd]) | with_reducible apply foldl_keeps | dsimp only | split)
theorem startLane_foot {w : Nat} (h : 6291458 &&& w = 6291458) (l : Nat) (s : State) :
    (startLane l s).mask w = s.mask w := by
  refine mask_mono h ?_
  unfold startLane
  repeat' (first | with_reducible rfl | assumption | (intro _) | with_reducible refine ite_keeps ?_ ?_ | with_reducible refine ite_answer ?_ ?_ | with_reducible apply checked_keeps | with_reducible apply withCtx_keeps | with_reducible apply withQueue_keeps | with_reducible apply corrCmd_keeps | (simp only [foldl_mask, enterCdr_foot, modLane_foot, keeps_ok, keeps_started, keeps_fail, keeps_failWith, keeps_wait, keeps_next, Nat.reduceAnd]) | with_reducible apply foldl_keeps | dsimp only | split)
theorem modPll_foot {w : Nat} (h : 8388608 &&& w = 8388608) (q : Nat) (p : Nat) (g : PllState → PllState) (s : State) :
    (modPll q p g s).mask w = s.mask w := by
  refine mask_mono h ?_
  unfold modPll
  repeat' (first | with_reducible rfl | assumption | (intro _) | with_reducible refine ite_keeps ?_ ?_ | with_reducible refine ite_answer ?_ ?_ | with_reducible apply checked_keeps | with_reducible apply withCtx_keeps | with_reducible apply withQueue_keeps | with_reducible apply corrCmd_keeps | (simp only [mask_set_8388608, foldl_mask, keeps_ok, keeps_started, keeps_fail, keeps_failWith, keeps_wait, keeps_next, Nat.reduceAnd]) | with_reducible apply foldl_keeps | dsimp only | split)
theorem takePll_foot {w : Nat} (h : 14680066 &&& w = 14680066) (l : Nat) (s : State) :
    (takePll l s).mask w = s.mask w := by
  refine mask_mono h ?_
  unfold takePll
  repeat' (first | with_reducible rfl | assumption | (intro _) | with_reducible refine ite_keeps ?_ ?_ | with_reducible refine ite_answer ?_ ?_ | with_reducible apply checked_keeps | with_reducible apply withCtx_keeps | with_reducible apply withQueue_keeps | with_reducible apply corrCmd_keeps | (simp only [foldl_mask, modLane_foot, startLane_foot, modPll_foot, keeps_ok, keeps_started, keeps_fail, keeps_failWith, keeps_wait, keeps_next, Nat.reduceAnd]) | with_reducible apply foldl_keeps | dsimp only | split)
theorem putLane_foot {w : Nat} (h : 66105410 &&& w = 66105410) (c : LaneCfg) (l : Nat) (s : State) :
    (putLane c l s).mask w = s.mask w := by
  refine mask_mono h ?_
  unfold putLane
  repeat' (first | with_reducible rfl | assumption | (intro _) | with_reducible refine ite_keeps ?_ ?_ | with_reducible refine ite_answer ?_ ?_ | with_reducible apply checked_keeps | with_reducible apply withCtx_keeps | with_reducible apply withQueue_keeps | with_reducible apply corrCmd_keeps | (simp only [foldl_mask, modLane_foot, laneLeft_foot, modLink_foot, enterPower1_foot, honey_foot, countLane_foot, takePll_foot, modEth_foot, unlockLink_foot, keeps_ok, keeps_started, keeps_fail, keeps_failWith, keeps_wait, keeps_next, Nat.reduceAnd]) | with_reducible apply foldl_keeps | dsimp only | split)
theorem putEth_foot {w : Nat} (h : 16777216 &&& w = 16777216) (c : EthCfg) (l : Nat) (s : State) :
    (putEth c l s).mask w = s.mask w := by
  refine mask_mono h ?_
  unfold putEth
  repeat' (first | with_reducible rfl | assumption | (intro _) | with_reducible refine ite_keeps ?_ ?_ | with_reducible refine ite_answer ?_ ?_ | with_reducible apply checked_keeps | with_reducible apply withCtx_keeps | with_reducible apply withQueue_keeps | with_reducible apply corrCmd_keeps | (simp only [foldl_mask, modEth_foot, keeps_ok, keeps_started, keeps_fail, keeps_failWith, keeps_wait, keeps_next, Nat.reduceAnd]) | with_reducible apply foldl_keeps | dsimp only | split)
theorem laneCommit_foot {w : Nat} (h : 66106434 &&& w = 66106434) (r : Req) (s : State) :
    (laneCommit r s).mask w = s.mask w := by
  refine mask_mono h ?_
  unfold laneCommit
  repeat' (first | with_reducible rfl | assumption | (intro _) | with_reducible refine ite_keeps ?_ ?_ | with_reducible refine ite_answer ?_ ?_ | with_reducible apply checked_keeps | with_reducible apply withCtx_keeps | with_reducible apply withQueue_keeps | with_reducible apply corrCmd_keeps | (simp only [foldl_mask, putLane_foot, putEth_foot, pllTrim_foot, wakeBank_foot, keeps_ok, keeps_started, keeps_fail, keeps_failWith, keeps_wait, keeps_next, Nat.reduceAnd]) | with_reducible apply foldl_keeps | dsimp only | split)
theorem laneConfigure_foot {w : Nat} (h : 66106434 &&& w = 66106434) (r : Req) (s : State) {m : State} (hm : s.mask w = m) :
    (laneConfigure r s).keeps w m := by
  subst hm
  refine keeps_mono h ?_
  unfold laneConfigure
  repeat' (first | with_reducible rfl | assumption | (intro _) | with_reducible refine ite_keeps ?_ ?_ | with_reducible refine ite_answer ?_ ?_ | with_reducible apply checked_keeps | with_reducible apply withCtx_keeps | with_reducible apply withQueue_keeps | with_reducible apply corrCmd_keeps | (simp only [foldl_mask, laneCommit_foot, keeps_ok, keeps_started, keeps_fail, keeps_failWith, keeps_wait, keeps_next, Nat.reduceAnd]) | with_reducible apply foldl_keeps | dsimp only | split)
theorem cmdLaneConfigure_foot {w : Nat} (h : 66106434 &&& w = 66106434) (r : Req) (s : State) {m : State} (hm : s.mask w = m) :
    ((cmdLaneConfigure).run r s).keeps w m := by
  subst hm
  refine keeps_mono h ?_
  simp only [cmdLaneConfigure]
  repeat' (first | with_reducible rfl | assumption | (intro _) | with_reducible refine ite_keeps ?_ ?_ | with_reducible refine ite_answer ?_ ?_ | with_reducible apply checked_keeps | with_reducible apply withCtx_keeps | with_reducible apply withQueue_keeps | with_reducible apply corrCmd_keeps | (simp only [foldl_mask, laneConfigure_foot, keeps_ok, keeps_started, keeps_fail, keeps_failWith, keeps_wait, keeps_next, Nat.reduceAnd]) | with_reducible apply foldl_keeps | dsimp only | split)
theorem laneClear_foot {w : Nat} (h : 23068672 &&& w = 23068672) (l : Nat) (s : State) :
    (laneClear l s).mask w = s.mask w := by
  refine mask_mono h ?_
  unfold laneClear
  repeat' (first | with_reducible rfl | assumption | (intro _) | with_reducible refine ite_keeps ?_ ?_ | with_reducible refine ite_answer ?_ ?_ | with_reducible apply checked_keeps | with_reducible apply withCtx_keeps | with_reducible apply withQueue_keeps | with_reducible apply corrCmd_keeps | (simp only [foldl_mask, modLink_foot, modLane_foot, modEth_foot, keeps_ok, keeps_started, keeps_fail, keeps_failWith, keeps_wait, keeps_next, Nat.reduceAnd]) | with_reducible apply foldl_keeps | dsimp only | split)
theorem cmdLaneGetStatus_foot {w : Nat} (h : 23068672 &&& w = 23068672) (r : Req) (s : State) {m : State} (hm : s.mask w = m) :
    ((cmdLaneGetStatus).run r s).keeps w m := by
  subst hm
  refine keeps_mono h ?_
  simp only [cmdLaneGetStatus]
  repeat' (first | with_reducible rfl | assumption | (intro _) | with_reducible refine ite_keeps ?_ ?_ | with_reducible refine ite_answer ?_ ?_ | with_reducible apply checked_keeps | with_reducible apply withCtx_keeps | with_reducible apply withQueue_keeps | with_reducible apply corrCmd_keeps | (simp only [foldl_mask, laneClear_foot, keeps_ok, keeps_started, keeps_fail, keeps_failWith, keeps_wait, keeps_next, Nat.reduceAnd]) | with_reducible apply foldl_keeps | dsimp only | split)
theorem askPower_foot {w : Nat} (h : 6291458 &&& w = 6291458) (sleep : Bool) (a1 : Nat) (s : State) :
    (askPower sleep a1 s).mask w = s.mask w := by
  refine mask_mono h ?_
  unfold askPower
  repeat' (first | with_reducible rfl | assumption | (intro _) | with_reducible refine ite_keeps ?_ ?_ | with_reducible refine ite_answer ?_ ?_ | with_reducible apply checked_keeps | with_reducible apply withCtx_keeps | with_reducible apply withQueue_keeps | with_reducible apply corrCmd_keeps | (simp only [foldl_mask, sendLmsg_foot, modLink_foot, modLane_foot, keeps_ok, keeps_started, keeps_fail, keeps_failWith, keeps_wait, keeps_next, Nat.reduceAnd]) | with_reducible apply foldl_keeps | dsimp only | split)
theorem setPower_foot {w : Nat} (h : 31457282 &&& w = 31457282) (p : Nat) (a1 : Nat) (s : State) :
    (setPower p a1 s).mask w = s.mask w := by
  refine mask_mono h ?_
  unfold setPower
  repeat' (first | with_reducible rfl | assumption | (intro _) | with_reducible refine ite_keeps ?_ ?_ | with_reducible refine ite_answer ?_ ?_ | with_reducible apply checked_keeps | with_reducible apply withCtx_keeps | with_reducible apply withQueue_keeps | with_reducible apply corrCmd_keeps | (simp only [foldl_mask, wakeLane_foot, takePll_foot, enterPower_foot, keeps_ok, keeps_started, keeps_fail, keeps_failWith, keeps_wait, keeps_next, Nat.reduceAnd]) | with_reducible apply foldl_keeps | dsimp only | split)
theorem laneSetPower_foot {w : Nat} (h : 31719426 &&& w = 31719426) (r : Req) (s : State) {m : State} (hm : s.mask w = m) :
    (laneSetPower r s).keeps w m := by
  subst hm
  refine keeps_mono h ?_
  unfold laneSetPower
  repeat' (first | with_reducible rfl | assumption | (intro _) | with_reducible refine ite_keeps ?_ ?_ | with_reducible refine ite_answer ?_ ?_ | with_reducible apply checked_keeps | with_reducible apply withCtx_keeps | with_reducible apply withQueue_keeps | with_reducible apply corrCmd_keeps | (simp only [mask_set_262144, foldl_mask, askPower_foot, setPower_foot, keeps_ok, keeps_started, keeps_fail, keeps_failWith, keeps_wait, keeps_next, Nat.reduceAnd]) | with_reducible apply foldl_keeps | dsimp only | split)
theorem cmdLaneSetPower_foot {w : Nat} (h : 31719426 &&& w = 31719426) (r : Req) (s : State) {m : State} (hm : s.mask w = m) :
    ((cmdLaneSetPower).run r s).keeps w m := by
  subst hm
  refine keeps_mono h ?_
  simp only [cmdLaneSetPower]
  repeat' (first | with_reducible rfl | assumption | (intro _) | with_reducible refine ite_keeps ?_ ?_ | with_reducible refine ite_answer ?_ ?_ | with_reducible apply checked_keeps | with_reducible apply withCtx_keeps | with_reducible apply withQueue_keeps | with_reducible apply corrCmd_keeps | (simp only [foldl_mask, laneSetPower_foot, keeps_ok, keeps_started, keeps_fail, keeps_failWith, keeps_wait, keeps_next, Nat.reduceAnd]) | with_reducible apply foldl_keeps | dsimp only | split)
theorem pgFree_foot {w : Nat} (h : 17179869200 &&& w = 17179869200) (r : Req) (s : State) {m : State} (hm : s.mask w = m) :
    (pgFree r s).keeps w m := by
  subst hm
  refine keeps_mono h ?_
  unfold pgFree
  repeat' (first | with_reducible rfl | assumption | (intro _) | with_reducible refine ite_keeps ?_ ?_ | with_reducible refine ite_answer ?_ ?_ | with_reducible apply checked_keeps | with_reducible apply withCtx_keeps | with_reducible apply withQueue_keeps | with_reducible apply corrCmd_keeps | (simp only [mask_set_17179869184, foldl_mask, dropOwner_foot, keeps_ok, keeps_started, keeps_fail, keeps_failWith, keeps_wait, keeps_next, Nat.reduceAnd]) | with_reducible apply foldl_keeps | dsimp only | split)
theorem pgSetup_foot {w : Nat} (h : 17179869200 &&& w = 17179869200) (r : Req) (s : State) {m : State} (hm : s.mask w = m) :
    (pgSetup r s).keeps w m := by
  subst hm
  refine keeps_mono h ?_
  unfold pgSetup
  repeat' (first | with_reducible rfl | assumption | (intro _) | with_reducible refine ite_keeps ?_ ?_ | with_reducible refine ite_answer ?_ ?_ | with_reducible apply checked_keeps | with_reducible apply withCtx_keeps | with_reducible apply withQueue_keeps | with_reducible apply corrCmd_keeps | (simp only [mask_set_17179869184, foldl_mask, setOwner_foot, keeps_ok, keeps_started, keeps_fail, keeps_failWith, keeps_wait, keeps_next, Nat.reduceAnd]) | with_reducible apply foldl_keeps | dsimp only | split)
theorem cmdPgConfigure_foot {w : Nat} (h : 17179869200 &&& w = 17179869200) (r : Req) (s : State) {m : State} (hm : s.mask w = m) :
    ((cmdPgConfigure).run r s).keeps w m := by
  subst hm
  refine keeps_mono h ?_
  simp only [cmdPgConfigure]
  repeat' (first | with_reducible rfl | assumption | (intro _) | with_reducible refine ite_keeps ?_ ?_ | with_reducible refine ite_answer ?_ ?_ | with_reducible apply checked_keeps | with_reducible apply withCtx_keeps | with_reducible apply withQueue_keeps | with_reducible apply corrCmd_keeps | (simp only [foldl_mask, pgFree_foot, pgSetup_foot, keeps_ok, keeps_started, keeps_fail, keeps_failWith, keeps_wait, keeps_next, Nat.reduceAnd]) | with_reducible apply foldl_keeps | dsimp only | split)
theorem pgSetRowCommit_foot {w : Nat} (h : 17179869184 &&& w = 17179869184) (r : Req) (s : State) :
    (pgSetRowCommit r s).mask w = s.mask w := by
  refine mask_mono h ?_
  unfold pgSetRowCommit
  repeat' (first | with_reducible rfl | assumption | (intro _) | with_reducible refine ite_keeps ?_ ?_ | with_reducible refine ite_answer ?_ ?_ | with_reducible apply checked_keeps | with_reducible apply withCtx_keeps | with_reducible apply withQueue_keeps | with_reducible apply corrCmd_keeps | (simp only [mask_set_17179869184, foldl_mask, keeps_ok, keeps_started, keeps_fail, keeps_failWith, keeps_wait, keeps_next, Nat.reduceAnd]) | with_reducible apply foldl_keeps | dsimp only | split)
theorem sendRemote_foot {w : Nat} (h : 37748800 &&& w = 37748800) (device : Nat) (fn : Nat) (op : Nat) (flags : Nat) (tag : Nat) (payload : List Byte) (s : State) :
    (sendRemote device fn op flags tag payload s).2.mask w = s.mask w := by
  refine mask_mono h ?_
  unfold sendRemote
  repeat' (first | with_reducible rfl | assumption | (intro _) | with_reducible refine ite_keeps ?_ ?_ | with_reducible refine ite_answer ?_ ?_ | with_reducible apply checked_keeps | with_reducible apply withCtx_keeps | with_reducible apply withQueue_keeps | with_reducible apply corrCmd_keeps | (simp only [foldl_mask, hsend_foot, keeps_ok, keeps_started, keeps_fail, keeps_failWith, keeps_wait, keeps_next, Nat.reduceAnd]) | with_reducible apply foldl_keeps | dsimp only | split)
theorem askOwner_foot {w : Nat} (h : 38010944 &&& w = 38010944) (r : Req) (device : Nat) (kind : Nat) (left : List Nat) (s : State) {m : State} (hm : s.mask w = m) :
    (askOwner r device kind left s).keeps w m := by
  subst hm
  refine keeps_mono h ?_
  unfold askOwner
  repeat' (first | with_reducible rfl | assumption | (intro _) | with_reducible refine ite_keeps ?_ ?_ | with_reducible refine ite_answer ?_ ?_ | with_reducible apply checked_keeps | with_reducible apply withCtx_keeps | with_reducible apply withQueue_keeps | with_reducible apply corrCmd_keeps | (simp only [mask_set_262144, foldl_mask, sendRemote_foot, keeps_ok, keeps_started, keeps_fail, keeps_failWith, keeps_wait, keeps_next, Nat.reduceAnd]) | with_reducible apply foldl_keeps | dsimp only | split)
theorem cmdPgSetRow_foot {w : Nat} (h : 17217880128 &&& w = 17217880128) (r : Req) (s : State) {m : State} (hm : s.mask w = m) :
    ((cmdPgSetRow).run r s).keeps w m := by
  subst hm
  refine keeps_mono h ?_
  simp only [cmdPgSetRow]
  repeat' (first | with_reducible rfl | assumption | (intro _) | with_reducible refine ite_keeps ?_ ?_ | with_reducible refine ite_answer ?_ ?_ | with_reducible apply checked_keeps | with_reducible apply withCtx_keeps | with_reducible apply withQueue_keeps | with_reducible apply corrCmd_keeps | (simp only [foldl_mask, pgSetRowCommit_foot, askOwner_foot, keeps_ok, keeps_started, keeps_fail, keeps_failWith, keeps_wait, keeps_next, Nat.reduceAnd]) | with_reducible apply foldl_keeps | dsimp only | split)
theorem setRules_foot {w : Nat} (h : 17179869184 &&& w = 17179869184) (g : Nat) (l : List (List Byte)) (s : State) :
    (setRules g l s).mask w = s.mask w := by
  refine mask_mono h ?_
  unfold setRules
  repeat' (first | with_reducible rfl | assumption | (intro _) | with_reducible refine ite_keeps ?_ ?_ | with_reducible refine ite_answer ?_ ?_ | with_reducible apply checked_keeps | with_reducible apply withCtx_keeps | with_reducible apply withQueue_keeps | with_reducible apply corrCmd_keeps | (simp only [mask_set_17179869184, foldl_mask, keeps_ok, keeps_started, keeps_fail, keeps_failWith, keeps_wait, keeps_next, Nat.reduceAnd]) | with_reducible apply foldl_keeps | dsimp only | split)
theorem cmdPgLoadRules_foot {w : Nat} (h : 17180164098 &&& w = 17180164098) (r : Req) (s : State) {m : State} (hm : s.mask w = m) :
    ((cmdPgLoadRules).run r s).keeps w m := by
  subst hm
  refine keeps_mono h ?_
  simp only [cmdPgLoadRules]
  repeat' (first | with_reducible rfl | assumption | (intro _) | with_reducible refine ite_keeps ?_ ?_ | with_reducible refine ite_answer ?_ ?_ | with_reducible apply checked_keeps | with_reducible apply withCtx_keeps | with_reducible apply withQueue_keeps | with_reducible apply corrCmd_keeps | (simp only [mask_set_262144, foldl_mask, setRules_foot, dma_foot, keeps_ok, keeps_started, keeps_fail, keeps_failWith, keeps_wait, keeps_next, Nat.reduceAnd]) | with_reducible apply foldl_keeps | dsimp only | split)
theorem steerEvent_foot {w : Nat} (h : 1081410 &&& w = 1081410) (restore : Bool) (isCtx : Bool) (i : Nat) (n : Nat) (fromQ : Nat) (toQ : Nat) (s : State) :
    (steerEvent restore isCtx i n fromQ toQ s).mask w = s.mask w := by
  refine mask_mono h ?_
  unfold steerEvent
  repeat' (first | with_reducible rfl | assumption | (intro _) | with_reducible refine ite_keeps ?_ ?_ | with_reducible refine ite_answer ?_ ?_ | with_reducible apply checked_keeps | with_reducible apply withCtx_keeps | with_reducible apply withQueue_keeps | with_reducible apply corrCmd_keeps | (simp only [foldl_mask, setIntx_foot, raise_foot, keeps_ok, keeps_started, keeps_fail, keeps_failWith, keeps_wait, keeps_next, Nat.reduceAnd]) | with_reducible apply foldl_keeps | dsimp only | split)
theorem steerStarts_foot {w : Nat} (h : 1081410 &&& w = 1081410) (t : Bool × Nat) (l : List SteerEntry) (s : State) :
    (steerStarts t l s).mask w = s.mask w := by
  refine mask_mono h ?_
  unfold steerStarts
  repeat' (first | with_reducible rfl | assumption | (intro _) | with_reducible refine ite_keeps ?_ ?_ | with_reducible refine ite_answer ?_ ?_ | with_reducible apply checked_keeps | with_reducible apply withCtx_keeps | with_reducible apply withQueue_keeps | with_reducible apply corrCmd_keeps | (simp only [foldl_mask, steerEvent_foot, keeps_ok, keeps_started, keeps_fail, keeps_failWith, keeps_wait, keeps_next, Nat.reduceAnd]) | with_reducible apply foldl_keeps | dsimp only | split)
theorem setSteering_foot {w : Nat} (h : 85900427330 &&& w = 85900427330) (framesOnly : Bool) (r : Req) (s : State) {m : State} (hm : s.mask w = m) :
    (setSteering framesOnly r s).keeps w m := by
  subst hm
  refine keeps_mono h ?_
  unfold setSteering
  repeat' (first | with_reducible rfl | assumption | (intro _) | with_reducible refine ite_keeps ?_ ?_ | with_reducible refine ite_answer ?_ ?_ | with_reducible apply checked_keeps | with_reducible apply withCtx_keeps | with_reducible apply withQueue_keeps | with_reducible apply corrCmd_keeps | (simp only [mask_set_68719476736, mask_set_17179869184, foldl_mask, steerStarts_foot, keeps_ok, keeps_started, keeps_fail, keeps_failWith, keeps_wait, keeps_next, Nat.reduceAnd]) | with_reducible apply foldl_keeps | dsimp only | split)
theorem cmdPgSetSteering_foot {w : Nat} (h : 85900427330 &&& w = 85900427330) (r : Req) (s : State) {m : State} (hm : s.mask w = m) :
    ((cmdPgSetSteering).run r s).keeps w m := by
  subst hm
  refine keeps_mono h ?_
  simp only [cmdPgSetSteering]
  repeat' (first | with_reducible rfl | assumption | (intro _) | with_reducible refine ite_keeps ?_ ?_ | with_reducible refine ite_answer ?_ ?_ | with_reducible apply checked_keeps | with_reducible apply withCtx_keeps | with_reducible apply withQueue_keeps | with_reducible apply corrCmd_keeps | (simp only [foldl_mask, setSteering_foot, keeps_ok, keeps_started, keeps_fail, keeps_failWith, keeps_wait, keeps_next, Nat.reduceAnd]) | with_reducible apply foldl_keeps | dsimp only | split)
theorem cmdPgGetStatus_foot {w : Nat} (h : 34359771136 &&& w = 34359771136) (r : Req) (s : State) {m : State} (hm : s.mask w = m) :
    ((cmdPgGetStatus).run r s).keeps w m := by
  subst hm
  refine keeps_mono h ?_
  simp only [cmdPgGetStatus]
  repeat' (first | with_reducible rfl | assumption | (intro _) | with_reducible refine ite_keeps ?_ ?_ | with_reducible refine ite_answer ?_ ?_ | with_reducible apply checked_keeps | with_reducible apply withCtx_keeps | with_reducible apply withQueue_keeps | with_reducible apply corrCmd_keeps | (simp only [mask_set_34359738368, foldl_mask, modHp_foot, keeps_ok, keeps_started, keeps_fail, keeps_failWith, keeps_wait, keeps_next, Nat.reduceAnd]) | with_reducible apply foldl_keeps | dsimp only | split)
theorem wakeBanks_foot {w : Nat} (h : 1024 &&& w = 1024) (s : State) :
    (wakeBanks s).mask w = s.mask w := by
  refine mask_mono h ?_
  unfold wakeBanks
  repeat' (first | with_reducible rfl | assumption | (intro _) | with_reducible refine ite_keeps ?_ ?_ | with_reducible refine ite_answer ?_ ?_ | with_reducible apply checked_keeps | with_reducible apply withCtx_keeps | with_reducible apply withQueue_keeps | with_reducible apply corrCmd_keeps | (simp only [foldl_mask, wakeBank_foot, keeps_ok, keeps_started, keeps_fail, keeps_failWith, keeps_wait, keeps_next, Nat.reduceAnd]) | with_reducible apply foldl_keeps | dsimp only | split)
theorem raisePower_foot {w : Nat} (h : 1081410 &&& w = 1081410) (cause : Nat) (left : Nat) (s : State) :
    (raisePower cause left s).mask w = s.mask w := by
  refine mask_mono h ?_
  unfold raisePower
  repeat' (first | with_reducible rfl | assumption | (intro _) | with_reducible refine ite_keeps ?_ ?_ | with_reducible refine ite_answer ?_ ?_ | with_reducible apply checked_keeps | with_reducible apply withCtx_keeps | with_reducible apply withQueue_keeps | with_reducible apply corrCmd_keeps | (simp only [foldl_mask, raise_foot, keeps_ok, keeps_started, keeps_fail, keeps_failWith, keeps_wait, keeps_next, Nat.reduceAnd]) | with_reducible apply foldl_keeps | dsimp only | split)
theorem wakeDevice_foot {w : Nat} (h : 7374162 &&& w = 7374162) (cause : Nat) (s : State) :
    (wakeDevice cause s).mask w = s.mask w := by
  refine mask_mono h ?_
  unfold wakeDevice
  repeat' (first | with_reducible rfl | assumption | (intro _) | with_reducible refine ite_keeps ?_ ?_ | with_reducible refine ite_answer ?_ ?_ | with_reducible apply checked_keeps | with_reducible apply withCtx_keeps | with_reducible apply withQueue_keeps | with_reducible apply corrCmd_keeps | (simp only [mask_set_256, foldl_mask, wakeBanks_foot, modSys_foot, raisePower_foot, wakeLane_foot, keeps_ok, keeps_started, keeps_fail, keeps_failWith, keeps_wait, keeps_next, Nat.reduceAnd]) | with_reducible apply foldl_keeps | dsimp only | split)
theorem gateCombs_foot {w : Nat} (h : 134217728 &&& w = 134217728) (s : State) :
    (gateCombs s).mask w = s.mask w := by
  refine mask_mono h ?_
  unfold gateCombs
  repeat' (first | with_reducible rfl | assumption | (intro _) | with_reducible refine ite_keeps ?_ ?_ | with_reducible refine ite_answer ?_ ?_ | with_reducible apply checked_keeps | with_reducible apply withCtx_keeps | with_reducible apply withQueue_keeps | with_reducible apply corrCmd_keeps | (simp only [foldl_mask, modComb_foot, keeps_ok, keeps_started, keeps_fail, keeps_failWith, keeps_wait, keeps_next, Nat.reduceAnd]) | with_reducible apply foldl_keeps | dsimp only | split)
theorem retainBanks_foot {w : Nat} (h : 1024 &&& w = 1024) (s : State) :
    (retainBanks s).mask w = s.mask w := by
  refine mask_mono h ?_
  unfold retainBanks
  repeat' (first | with_reducible rfl | assumption | (intro _) | with_reducible refine ite_keeps ?_ ?_ | with_reducible refine ite_answer ?_ ?_ | with_reducible apply checked_keeps | with_reducible apply withCtx_keeps | with_reducible apply withQueue_keeps | with_reducible apply corrCmd_keeps | (simp only [foldl_mask, modBank_foot, keeps_ok, keeps_started, keeps_fail, keeps_failWith, keeps_wait, keeps_next, Nat.reduceAnd]) | with_reducible apply foldl_keeps | dsimp only | split)
theorem wakeEths_foot {w : Nat} (h : 6291714 &&& w = 6291714) (s : State) :
    (wakeEths s).mask w = s.mask w := by
  refine mask_mono h ?_
  unfold wakeEths
  repeat' (first | with_reducible rfl | assumption | (intro _) | with_reducible refine ite_keeps ?_ ?_ | with_reducible refine ite_answer ?_ ?_ | with_reducible apply checked_keeps | with_reducible apply withCtx_keeps | with_reducible apply withQueue_keeps | with_reducible apply corrCmd_keeps | (simp only [mask_set_256, foldl_mask, wakeLane_foot, keeps_ok, keeps_started, keeps_fail, keeps_failWith, keeps_wait, keeps_next, Nat.reduceAnd]) | with_reducible apply foldl_keeps | dsimp only | split)
theorem countErase_foot {w : Nat} (h : 64 &&& w = 64) (i : Nat) (n : Nat) (s : State) :
    (countErase i n s).mask w = s.mask w := by
  refine mask_mono h ?_
  unfold countErase
  repeat' (first | with_reducible rfl | assumption | (intro _) | with_reducible refine ite_keeps ?_ ?_ | with_reducible refine ite_answer ?_ ?_ | with_reducible apply checked_keeps | with_reducible apply withCtx_keeps | with_reducible apply withQueue_keeps | with_reducible apply corrCmd_keeps | (simp only [foldl_mask, honeyN_foot, keeps_ok, keeps_started, keeps_fail, keeps_failWith, keeps_wait, keeps_next, Nat.reduceAnd]) | with_reducible apply foldl_keeps | dsimp only | split)
theorem faultOk_foot {w : Nat} (h : 4096 &&& w = 4096) (cls : Nat) (unit : Nat) (since : Option Nat) (s : State) :
    (faultOk cls unit since s).mask w = s.mask w := by
  refine mask_mono h ?_
  unfold faultOk
  repeat' (first | with_reducible rfl | assumption | (intro _) | with_reducible refine ite_keeps ?_ ?_ | with_reducible refine ite_answer ?_ ?_ | with_reducible apply checked_keeps | with_reducible apply withCtx_keeps | with_reducible apply withQueue_keeps | with_reducible apply corrCmd_keeps | (simp only [mask_set_4096, foldl_mask, keeps_ok, keeps_started, keeps_fail, keeps_failWith, keeps_wait, keeps_next, Nat.reduceAnd]) | with_reducible apply foldl_keeps | dsimp only | split)
theorem flashOk_foot {w : Nat} (h : 4096 &&& w = 4096) (r : Nat) (s : State) :
    (flashOk r s).mask w = s.mask w := by
  refine mask_mono h ?_
  unfold flashOk
  repeat' (first | with_reducible rfl | assumption | (intro _) | with_reducible refine ite_keeps ?_ ?_ | with_reducible refine ite_answer ?_ ?_ | with_reducible apply checked_keeps | with_reducible apply withCtx_keeps | with_reducible apply withQueue_keeps | with_reducible apply corrCmd_keeps | (simp only [foldl_mask, faultOk_foot, keeps_ok, keeps_started, keeps_fail, keeps_failWith, keeps_wait, keeps_next, Nat.reduceAnd]) | with_reducible apply foldl_keeps | dsimp only | split)
theorem saveHoney_foot {w : Nat} (h : 4290 &&& w = 4290) (reason : Nat) (s : State) :
    (saveHoney reason s).mask w = s.mask w := by
  refine mask_mono h ?_
  unfold saveHoney
  repeat' (first | with_reducible rfl | assumption | (intro _) | with_reducible refine ite_keeps ?_ ?_ | with_reducible refine ite_answer ?_ ?_ | with_reducible apply checked_keeps | with_reducible apply withCtx_keeps | with_reducible apply withQueue_keeps | with_reducible apply corrCmd_keeps | (simp only [foldl_mask, countErase_foot, addSeconds_foot, modKeeper_foot, emit_foot, flashOk_foot, keeps_ok, keeps_started, keeps_fail, keeps_failWith, keeps_wait, keeps_next, Nat.reduceAnd]) | with_reducible apply foldl_keeps | dsimp only | split)
theorem enterDevice_foot {w : Nat} (h : 165680594 &&& w = 165680594) (sleep : Bool) (wake : Nat) (s : State) :
    (enterDevice sleep wake s).mask w = s.mask w := by
  refine mask_mono h ?_
  unfold enterDevice
  repeat' (first | with_reducible rfl | assumption | (intro _) | with_reducible refine ite_keeps ?_ ?_ | with_reducible refine ite_answer ?_ ?_ | with_reducible apply checked_keeps | with_reducible apply withCtx_keeps | with_reducible apply withQueue_keeps | with_reducible apply corrCmd_keeps | (simp only [mask_set_256, foldl_mask, modSys_foot, gateCombs_foot, enterPower_foot, retainBanks_foot, wakeEths_foot, wakeBanks_foot, askPower_foot, saveHoney_foot, keeps_ok, keeps_started, keeps_fail, keeps_failWith, keeps_wait, keeps_next, Nat.reduceAnd]) | with_reducible apply foldl_keeps | dsimp only | split)
theorem cmdPwrSetState_foot {w : Nat} (h : 166761938 &&& w = 166761938) (r : Req) (s : State) {m : State} (hm : s.mask w = m) :
    ((cmdPwrSetState).run r s).keeps w m := by
  subst hm
  refine keeps_mono h ?_
  simp only [cmdPwrSetState]
  repeat' (first | with_reducible rfl | assumption | (intro _) | with_reducible refine ite_keeps ?_ ?_ | with_reducible refine ite_answer ?_ ?_ | with_reducible apply checked_keeps | with_reducible apply withCtx_keeps | with_reducible apply withQueue_keeps | with_reducible apply corrCmd_keeps | (simp only [foldl_mask, wakeDevice_foot, enterDevice_foot, keeps_ok, keeps_started, keeps_fail, keeps_failWith, keeps_wait, keeps_next, Nat.reduceAnd]) | with_reducible apply foldl_keeps | dsimp only | split)
theorem cmdPwrGetStatus_foot {w : Nat} (h : 0 &&& w = 0) (r : Req) (s : State) {m : State} (hm : s.mask w = m) :
    ((cmdPwrGetStatus).run r s).keeps w m := by
  subst hm
  refine keeps_mono h ?_
  simp only [cmdPwrGetStatus]
  repeat' (first | with_reducible rfl | assumption | (intro _) | with_reducible refine ite_keeps ?_ ?_ | with_reducible refine ite_answer ?_ ?_ | with_reducible apply checked_keeps | with_reducible apply withCtx_keeps | with_reducible apply withQueue_keeps | with_reducible apply corrCmd_keeps | (simp only [foldl_mask, keeps_ok, keeps_started, keeps_fail, keeps_failWith, keeps_wait, keeps_next, Nat.reduceAnd]) | with_reducible apply foldl_keeps | dsimp only | split)
theorem cmdDevReset_foot {w : Nat} (h : 16 &&& w = 16) (r : Req) (s : State) {m : State} (hm : s.mask w = m) :
    ((cmdDevReset).run r s).keeps w m := by
  subst hm
  refine keeps_mono h ?_
  simp only [cmdDevReset]
  repeat' (first | with_reducible rfl | assumption | (intro _) | with_reducible refine ite_keeps ?_ ?_ | with_reducible refine ite_answer ?_ ?_ | with_reducible apply checked_keeps | with_reducible apply withCtx_keeps | with_reducible apply withQueue_keeps | with_reducible apply corrCmd_keeps | (simp only [foldl_mask, resetLater_foot, keeps_ok, keeps_started, keeps_fail, keeps_failWith, keeps_wait, keeps_next, Nat.reduceAnd]) | with_reducible apply foldl_keeps | dsimp only | split)
theorem qPartition_foot {w : Nat} (h : 16 &&& w = 16) (r : Req) (s : State) {m : State} (hm : s.mask w = m) :
    (qPartition r s).keeps w m := by
  subst hm
  refine keeps_mono h ?_
  unfold qPartition
  repeat' (first | with_reducible rfl | assumption | (intro _) | with_reducible refine ite_keeps ?_ ?_ | with_reducible refine ite_answer ?_ ?_ | with_reducible apply checked_keeps | with_reducible apply withCtx_keeps | with_reducible apply withQueue_keeps | with_reducible apply corrCmd_keeps | (simp only [foldl_mask, modSys_foot, keeps_ok, keeps_started, keeps_fail, keeps_failWith, keeps_wait, keeps_next, Nat.reduceAnd]) | with_reducible apply foldl_keeps | dsimp only | split)
theorem cmdQPartition_foot {w : Nat} (h : 16 &&& w = 16) (r : Req) (s : State) {m : State} (hm : s.mask w = m) :
    ((cmdQPartition).run r s).keeps w m := by
  subst hm
  refine keeps_mono h ?_
  simp only [cmdQPartition]
  repeat' (first | with_reducible rfl | assumption | (intro _) | with_reducible refine ite_keeps ?_ ?_ | with_reducible refine ite_answer ?_ ?_ | with_reducible apply checked_keeps | with_reducible apply withCtx_keeps | with_reducible apply withQueue_keeps | with_reducible apply corrCmd_keeps | (simp only [foldl_mask, qPartition_foot, keeps_ok, keeps_started, keeps_fail, keeps_failWith, keeps_wait, keeps_next, Nat.reduceAnd]) | with_reducible apply foldl_keeps | dsimp only | split)
theorem qCreate_foot {w : Nat} (h : 1049600 &&& w = 1049600) (compat : Bool) (r : Req) (s : State) {m : State} (hm : s.mask w = m) :
    (qCreate compat r s).keeps w m := by
  subst hm
  refine keeps_mono h ?_
  unfold qCreate
  repeat' (first | with_reducible rfl | assumption | (intro _) | with_reducible refine ite_keeps ?_ ?_ | with_reducible refine ite_answer ?_ ?_ | with_reducible apply checked_keeps | with_reducible apply withCtx_keeps | with_reducible apply withQueue_keeps | with_reducible apply corrCmd_keeps | (simp only [foldl_mask, setQueue_foot, wakeBank_foot, keeps_ok, keeps_started, keeps_fail, keeps_failWith, keeps_wait, keeps_next, Nat.reduceAnd]) | with_reducible apply foldl_keeps | dsimp only | split)
theorem cmdQCreate_foot {w : Nat} (h : 1049600 &&& w = 1049600) (r : Req) (s : State) {m : State} (hm : s.mask w = m) :
    ((cmdQCreate).run r s).keeps w m := by
  subst hm
  refine keeps_mono h ?_
  simp only [cmdQCreate]
  repeat' (first | with_reducible rfl | assumption | (intro _) | with_reducible refine ite_keeps ?_ ?_ | with_reducible refine ite_answer ?_ ?_ | with_reducible apply checked_keeps | with_reducible apply withCtx_keeps | with_reducible apply withQueue_keeps | with_reducible apply corrCmd_keeps | (simp only [foldl_mask, qCreate_foot, keeps_ok, keeps_started, keeps_fail, keeps_failWith, keeps_wait, keeps_next, Nat.reduceAnd]) | with_reducible apply foldl_keeps | dsimp only | split)
theorem qEnable_foot {w : Nat} (h : 8658124866 &&& w = 8658124866) (r : Req) (s : State) {m : State} (hm : s.mask w = m) :
    (qEnable r s).keeps w m := by
  subst hm
  refine keeps_mono h ?_
  unfold qEnable
  repeat' (first | with_reducible rfl | assumption | (intro _) | with_reducible refine ite_keeps ?_ ?_ | with_reducible refine ite_answer ?_ ?_ | with_reducible apply checked_keeps | with_reducible apply withCtx_keeps | with_reducible apply withQueue_keeps | with_reducible apply corrCmd_keeps | (simp only [foldl_mask, actRecorded_foot, setQueue_foot, keeps_ok, keeps_started, keeps_fail, keeps_failWith, keeps_wait, keeps_next, Nat.reduceAnd]) | with_reducible apply foldl_keeps | dsimp only | split)
theorem cmdQEnable_foot {w : Nat} (h : 8658124866 &&& w = 8658124866) (r : Req) (s : State) {m : State} (hm : s.mask w = m) :
    ((cmdQEnable).run r s).keeps w m := by
  subst hm
  refine keeps_mono h ?_
  simp only [cmdQEnable]
  repeat' (first | with_reducible rfl | assumption | (intro _) | with_reducible refine ite_keeps ?_ ?_ | with_reducible refine ite_answer ?_ ?_ | with_reducible apply checked_keeps | with_reducible apply withCtx_keeps | with_reducible apply withQueue_keeps | with_reducible apply corrCmd_keeps | (simp only [foldl_mask, qEnable_foot, keeps_ok, keeps_started, keeps_fail, keeps_failWith, keeps_wait, keeps_next, Nat.reduceAnd]) | with_reducible apply foldl_keeps | dsimp only | split)
theorem releaseHeld_foot {w : Nat} (h : 68190274 &&& w = 68190274) (q : Nat) (s : State) :
    (releaseHeld q s).mask w = s.mask w := by
  refine mask_mono h ?_
  unfold releaseHeld
  repeat' (first | with_reducible rfl | assumption | (intro _) | with_reducible refine ite_keeps ?_ ?_ | with_reducible refine ite_answer ?_ ?_ | with_reducible apply checked_keeps | with_reducible apply withCtx_keeps | with_reducible apply withQueue_keeps | with_reducible apply corrCmd_keeps | (simp only [foldl_mask, countCplFull_foot, complete_foot, modCtx_foot, keeps_ok, keeps_started, keeps_fail, keeps_failWith, keeps_wait, keeps_next, Nat.reduceAnd]) | with_reducible apply foldl_keeps | dsimp only | split)
theorem qDisable_foot {w : Nat} (h : 8658124866 &&& w = 8658124866) (r : Req) (s : State) {m : State} (hm : s.mask w = m) :
    (qDisable r s).keeps w m := by
  subst hm
  refine keeps_mono h ?_
  unfold qDisable
  repeat' (first | with_reducible rfl | assumption | (intro _) | with_reducible refine ite_keeps ?_ ?_ | with_reducible refine ite_answer ?_ ?_ | with_reducible apply checked_keeps | with_reducible apply withCtx_keeps | with_reducible apply withQueue_keeps | with_reducible apply corrCmd_keeps | (simp only [foldl_mask, releaseHeld_foot, refuseWaiting_foot, setQueue_foot, keeps_ok, keeps_started, keeps_fail, keeps_failWith, keeps_wait, keeps_next, Nat.reduceAnd]) | with_reducible apply foldl_keeps | dsimp only | split)
theorem cmdQDisable_foot {w : Nat} (h : 8658124866 &&& w = 8658124866) (r : Req) (s : State) {m : State} (hm : s.mask w = m) :
    ((cmdQDisable).run r s).keeps w m := by
  subst hm
  refine keeps_mono h ?_
  simp only [cmdQDisable]
  repeat' (first | with_reducible rfl | assumption | (intro _) | with_reducible refine ite_keeps ?_ ?_ | with_reducible refine ite_answer ?_ ?_ | with_reducible apply checked_keeps | with_reducible apply withCtx_keeps | with_reducible apply withQueue_keeps | with_reducible apply corrCmd_keeps | (simp only [foldl_mask, qDisable_foot, keeps_ok, keeps_started, keeps_fail, keeps_failWith, keeps_wait, keeps_next, Nat.reduceAnd]) | with_reducible apply foldl_keeps | dsimp only | split)
theorem qReset_foot {w : Nat} (h : 68190208 &&& w = 68190208) (r : Req) (s : State) {m : State} (hm : s.mask w = m) :
    (qReset r s).keeps w m := by
  subst hm
  refine keeps_mono h ?_
  unfold qReset
  repeat' (first | with_reducible rfl | assumption | (intro _) | with_reducible refine ite_keeps ?_ ?_ | with_reducible refine ite_answer ?_ ?_ | with_reducible apply checked_keeps | with_reducible apply withCtx_keeps | with_reducible apply withQueue_keeps | with_reducible apply corrCmd_keeps | (simp only [foldl_mask, setQueue_foot, endFrames_foot, dmaDrop_foot, deadReads_foot, keeps_ok, keeps_started, keeps_fail, keeps_failWith, keeps_wait, keeps_next, Nat.reduceAnd]) | with_reducible apply foldl_keeps | dsimp only | split)
theorem cmdQReset_foot {w : Nat} (h : 68190208 &&& w = 68190208) (r : Req) (s : State) {m : State} (hm : s.mask w = m) :
    ((cmdQReset).run r s).keeps w m := by
  subst hm
  refine keeps_mono h ?_
  simp only [cmdQReset]
  repeat' (first | with_reducible rfl | assumption | (intro _) | with_reducible refine ite_keeps ?_ ?_ | with_reducible refine ite_answer ?_ ?_ | with_reducible apply checked_keeps | with_reducible apply withCtx_keeps | with_reducible apply withQueue_keeps | with_reducible apply corrCmd_keeps | (simp only [foldl_mask, qReset_foot, keeps_ok, keeps_started, keeps_fail, keeps_failWith, keeps_wait, keeps_next, Nat.reduceAnd]) | with_reducible apply foldl_keeps | dsimp only | split)
theorem closeWindows_foot {w : Nat} (h : 32768 &&& w = 32768) (f : Nat) (q : Nat) (s : State) :
    (closeWindows f q s).mask w = s.mask w := by
  refine mask_mono h ?_
  unfold closeWindows
  repeat' (first | with_reducible rfl | assumption | (intro _) | with_reducible refine ite_keeps ?_ ?_ | with_reducible refine ite_answer ?_ ?_ | with_reducible apply checked_keeps | with_reducible apply withCtx_keeps | with_reducible apply withQueue_keeps | with_reducible apply corrCmd_keeps | (simp only [foldl_mask, modHp_foot, keeps_ok, keeps_started, keeps_fail, keeps_failWith, keeps_wait, keeps_next, Nat.reduceAnd]) | with_reducible apply foldl_keeps | dsimp only | split)
theorem destroyQueue_foot {w : Nat} (h : 94557470728 &&& w = 94557470728) (q : Nat) (s : State) :
    (destroyQueue q s).mask w = s.mask w := by
  refine mask_mono h ?_
  unfold destroyQueue
  repeat' (first | with_reducible rfl | assumption | (intro _) | with_reducible refine ite_keeps ?_ ?_ | with_reducible refine ite_answer ?_ ?_ | with_reducible apply checked_keeps | with_reducible apply withCtx_keeps | with_reducible apply withQueue_keeps | with_reducible apply corrCmd_keeps | (simp only [mask_set_85900394496, foldl_mask, endFrames_foot, refuseWaiting_foot, dmaDrop_foot, deadReads_foot, closeWindows_foot, forgetPace_foot, keeps_ok, keeps_started, keeps_fail, keeps_failWith, keeps_wait, keeps_next, Nat.reduceAnd]) | with_reducible apply foldl_keeps | dsimp only | split)
theorem qDestroy_foot {w : Nat} (h : 94557470728 &&& w = 94557470728) (r : Req) (s : State) {m : State} (hm : s.mask w = m) :
    (qDestroy r s).keeps w m := by
  subst hm
  refine keeps_mono h ?_
  unfold qDestroy
  repeat' (first | with_reducible rfl | assumption | (intro _) | with_reducible refine ite_keeps ?_ ?_ | with_reducible refine ite_answer ?_ ?_ | with_reducible apply checked_keeps | with_reducible apply withCtx_keeps | with_reducible apply withQueue_keeps | with_reducible apply corrCmd_keeps | (simp only [foldl_mask, destroyQueue_foot, keeps_ok, keeps_started, keeps_fail, keeps_failWith, keeps_wait, keeps_next, Nat.reduceAnd]) | with_reducible apply foldl_keeps | dsimp only | split)

end Sys2Proof.Machine
end

