-- ==== Sys2Proof/Laws/Foot7.lean ====
section
/-! SUPPORT. What each operation leaves as it was, part 7 of 18: of state `s` it changes no field outside the set of its
footprint (a bit for each field, in the order of Field). -/
set_option linter.all false
set_option maxRecDepth 4000
open Sys2Proof Sys2Proof.Machine
namespace Sys2Proof.Machine

theorem cmdQDestroy_foot {w : Nat} (h : 94557470728 &&& w = 94557470728) (r : Req) (s : State) {m : State} (hm : s.mask w = m) :
    ((cmdQDestroy).run r s).keeps w m := by
  subst hm
  refine keeps_mono h ?_
  simp only [cmdQDestroy]
  repeat' (first | with_reducible rfl | assumption | (intro _) | with_reducible refine ite_keeps ?_ ?_ | with_reducible refine ite_answer ?_ ?_ | with_reducible apply checked_keeps | with_reducible apply withCtx_keeps | with_reducible apply withQueue_keeps | with_reducible apply corrCmd_keeps | (simp only [foldl_mask, qDestroy_foot, keeps_ok, keeps_started, keeps_fail, keeps_failWith, keeps_wait, keeps_next, Nat.reduceAnd]) | with_reducible apply foldl_keeps | dsimp only | split)
theorem qSetNotify_foot {w : Nat} (h : 1048576 &&& w = 1048576) (r : Req) (s : State) {m : State} (hm : s.mask w = m) :
    (qSetNotify r s).keeps w m := by
  subst hm
  refine keeps_mono h ?_
  unfold qSetNotify
  repeat' (first | with_reducible rfl | assumption | (intro _) | with_reducible refine ite_keeps ?_ ?_ | with_reducible refine ite_answer ?_ ?_ | with_reducible apply checked_keeps | with_reducible apply withCtx_keeps | with_reducible apply withQueue_keeps | with_reducible apply corrCmd_keeps | (simp only [foldl_mask, setQueue_foot, keeps_ok, keeps_started, keeps_fail, keeps_failWith, keeps_wait, keeps_next, Nat.reduceAnd]) | with_reducible apply foldl_keeps | dsimp only | split)
theorem cmdQSetNotify_foot {w : Nat} (h : 1048576 &&& w = 1048576) (r : Req) (s : State) {m : State} (hm : s.mask w = m) :
    ((cmdQSetNotify).run r s).keeps w m := by
  subst hm
  refine keeps_mono h ?_
  simp only [cmdQSetNotify]
  repeat' (first | with_reducible rfl | assumption | (intro _) | with_reducible refine ite_keeps ?_ ?_ | with_reducible refine ite_answer ?_ ?_ | with_reducible apply checked_keeps | with_reducible apply withCtx_keeps | with_reducible apply withQueue_keeps | with_reducible apply corrCmd_keeps | (simp only [foldl_mask, qSetNotify_foot, keeps_ok, keeps_started, keeps_fail, keeps_failWith, keeps_wait, keeps_next, Nat.reduceAnd]) | with_reducible apply foldl_keeps | dsimp only | split)
theorem qGetStatus_foot {w : Nat} (h : 1048576 &&& w = 1048576) (r : Req) (s : State) {m : State} (hm : s.mask w = m) :
    (qGetStatus r s).keeps w m := by
  subst hm
  refine keeps_mono h ?_
  unfold qGetStatus
  repeat' (first | with_reducible rfl | assumption | (intro _) | with_reducible refine ite_keeps ?_ ?_ | with_reducible refine ite_answer ?_ ?_ | with_reducible apply checked_keeps | with_reducible apply withCtx_keeps | with_reducible apply withQueue_keeps | with_reducible apply corrCmd_keeps | (simp only [foldl_mask, setQueue_foot, keeps_ok, keeps_started, keeps_fail, keeps_failWith, keeps_wait, keeps_next, Nat.reduceAnd]) | with_reducible apply foldl_keeps | dsimp only | split)
theorem cmdQGetStatus_foot {w : Nat} (h : 1048576 &&& w = 1048576) (r : Req) (s : State) {m : State} (hm : s.mask w = m) :
    ((cmdQGetStatus).run r s).keeps w m := by
  subst hm
  refine keeps_mono h ?_
  simp only [cmdQGetStatus]
  repeat' (first | with_reducible rfl | assumption | (intro _) | with_reducible refine ite_keeps ?_ ?_ | with_reducible refine ite_answer ?_ ?_ | with_reducible apply checked_keeps | with_reducible apply withCtx_keeps | with_reducible apply withQueue_keeps | with_reducible apply corrCmd_keeps | (simp only [foldl_mask, qGetStatus_foot, keeps_ok, keeps_started, keeps_fail, keeps_failWith, keeps_wait, keeps_next, Nat.reduceAnd]) | with_reducible apply foldl_keeps | dsimp only | split)
theorem cmdHoneyRead_foot {w : Nat} (h : 0 &&& w = 0) (r : Req) (s : State) {m : State} (hm : s.mask w = m) :
    ((cmdHoneyRead).run r s).keeps w m := by
  subst hm
  refine keeps_mono h ?_
  simp only [cmdHoneyRead]
  repeat' (first | with_reducible rfl | assumption | (intro _) | with_reducible refine ite_keeps ?_ ?_ | with_reducible refine ite_answer ?_ ?_ | with_reducible apply checked_keeps | with_reducible apply withCtx_keeps | with_reducible apply withQueue_keeps | with_reducible apply corrCmd_keeps | (simp only [foldl_mask, keeps_ok, keeps_started, keeps_fail, keeps_failWith, keeps_wait, keeps_next, Nat.reduceAnd]) | with_reducible apply foldl_keeps | dsimp only | split)
theorem useNonce_foot {w : Nat} (h : 512 &&& w = 512) (s : State) :
    (useNonce s).mask w = s.mask w := by
  refine mask_mono h ?_
  unfold useNonce
  repeat' (first | with_reducible rfl | assumption | (intro _) | with_reducible refine ite_keeps ?_ ?_ | with_reducible refine ite_answer ?_ ?_ | with_reducible apply checked_keeps | with_reducible apply withCtx_keeps | with_reducible apply withQueue_keeps | with_reducible apply corrCmd_keeps | (simp only [foldl_mask, modTrust_foot, keeps_ok, keeps_started, keeps_fail, keeps_failWith, keeps_wait, keeps_next, Nat.reduceAnd]) | with_reducible apply foldl_keeps | dsimp only | split)
theorem cmdHoneyReset_foot {w : Nat} (h : 4802 &&& w = 4802) (r : Req) (s : State) {m : State} (hm : s.mask w = m) :
    ((cmdHoneyReset).run r s).keeps w m := by
  subst hm
  refine keeps_mono h ?_
  simp only [cmdHoneyReset]
  repeat' (first | with_reducible rfl | assumption | (intro _) | with_reducible refine ite_keeps ?_ ?_ | with_reducible refine ite_answer ?_ ?_ | with_reducible apply checked_keeps | with_reducible apply withCtx_keeps | with_reducible apply withQueue_keeps | with_reducible apply corrCmd_keeps | (simp only [foldl_mask, useNonce_foot, modKeeper_foot, addSeconds_foot, logNow_foot, saveHoney_foot, keeps_ok, keeps_started, keeps_fail, keeps_failWith, keeps_wait, keeps_next, Nat.reduceAnd]) | with_reducible apply foldl_keeps | dsimp only | split)
theorem cmdHealthGetSensors_foot {w : Nat} (h : 0 &&& w = 0) (r : Req) (s : State) {m : State} (hm : s.mask w = m) :
    ((cmdHealthGetSensors).run r s).keeps w m := by
  subst hm
  refine keeps_mono h ?_
  simp only [cmdHealthGetSensors]
  repeat' (first | with_reducible rfl | assumption | (intro _) | with_reducible refine ite_keeps ?_ ?_ | with_reducible refine ite_answer ?_ ?_ | with_reducible apply checked_keeps | with_reducible apply withCtx_keeps | with_reducible apply withQueue_keeps | with_reducible apply corrCmd_keeps | (simp only [foldl_mask, keeps_ok, keeps_started, keeps_fail, keeps_failWith, keeps_wait, keeps_next, Nat.reduceAnd]) | with_reducible apply foldl_keeps | dsimp only | split)
theorem cmdCalRead_foot {w : Nat} (h : 0 &&& w = 0) (r : Req) (s : State) {m : State} (hm : s.mask w = m) :
    ((cmdCalRead).run r s).keeps w m := by
  subst hm
  refine keeps_mono h ?_
  simp only [cmdCalRead]
  repeat' (first | with_reducible rfl | assumption | (intro _) | with_reducible refine ite_keeps ?_ ?_ | with_reducible refine ite_answer ?_ ?_ | with_reducible apply checked_keeps | with_reducible apply withCtx_keeps | with_reducible apply withQueue_keeps | with_reducible apply corrCmd_keeps | (simp only [foldl_mask, keeps_ok, keeps_started, keeps_fail, keeps_failWith, keeps_wait, keeps_next, Nat.reduceAnd]) | with_reducible apply foldl_keeps | dsimp only | split)
theorem startFlash_foot {w : Nat} (h : 528 &&& w = 528) (a0 : FlashWrite) (s : State) :
    (startFlash a0 s).mask w = s.mask w := by
  refine mask_mono h ?_
  unfold startFlash
  repeat' (first | with_reducible rfl | assumption | (intro _) | with_reducible refine ite_keeps ?_ ?_ | with_reducible refine ite_answer ?_ ?_ | with_reducible apply checked_keeps | with_reducible apply withCtx_keeps | with_reducible apply withQueue_keeps | with_reducible apply corrCmd_keeps | (simp only [foldl_mask, hold_foot, modTrust_foot, keeps_ok, keeps_started, keeps_fail, keeps_failWith, keeps_wait, keeps_next, Nat.reduceAnd]) | with_reducible apply foldl_keeps | dsimp only | split)
theorem cmdCalWrite_foot {w : Nat} (h : 4294967888 &&& w = 4294967888) (r : Req) (s : State) {m : State} (hm : s.mask w = m) :
    ((cmdCalWrite).run r s).keeps w m := by
  subst hm
  refine keeps_mono h ?_
  simp only [cmdCalWrite]
  repeat' (first | with_reducible rfl | assumption | (intro _) | with_reducible refine ite_keeps ?_ ?_ | with_reducible refine ite_answer ?_ ?_ | with_reducible apply checked_keeps | with_reducible apply withCtx_keeps | with_reducible apply withQueue_keeps | with_reducible apply corrCmd_keeps | (simp only [mask_set_4294967296, foldl_mask, startFlash_foot, modKeeper_foot, keeps_ok, keeps_started, keeps_fail, keeps_failWith, keeps_wait, keeps_next, Nat.reduceAnd]) | with_reducible apply foldl_keeps | dsimp only | split)
theorem putConn_foot {w : Nat} (h : 512 &&& w = 512) (k : Nat) (c : SpdmConn) (s : State) :
    (putConn k c s).mask w = s.mask w := by
  refine mask_mono h ?_
  unfold putConn
  repeat' (first | with_reducible rfl | assumption | (intro _) | with_reducible refine ite_keeps ?_ ?_ | with_reducible refine ite_answer ?_ ?_ | with_reducible apply checked_keeps | with_reducible apply withCtx_keeps | with_reducible apply withQueue_keeps | with_reducible apply corrCmd_keeps | (simp only [foldl_mask, modTrust_foot, keeps_ok, keeps_started, keeps_fail, keeps_failWith, keeps_wait, keeps_next, Nat.reduceAnd]) | with_reducible apply foldl_keeps | dsimp only | split)
theorem spdmVersion_foot {w : Nat} (h : 512 &&& w = 512) (k : Nat) (req : List Byte) (s : State) :
    (spdmVersion k req s).2.mask w = s.mask w := by
  refine mask_mono h ?_
  unfold spdmVersion
  repeat' (first | with_reducible rfl | assumption | (intro _) | with_reducible refine ite_keeps ?_ ?_ | with_reducible refine ite_answer ?_ ?_ | with_reducible apply checked_keeps | with_reducible apply withCtx_keeps | with_reducible apply withQueue_keeps | with_reducible apply corrCmd_keeps | (simp only [foldl_mask, putConn_foot, keeps_ok, keeps_started, keeps_fail, keeps_failWith, keeps_wait, keeps_next, Nat.reduceAnd]) | with_reducible apply foldl_keeps | dsimp only | split)
theorem spdmCapabilities_foot {w : Nat} (h : 512 &&& w = 512) (k : Nat) (c : SpdmConn) (req : List Byte) (s : State) :
    (spdmCapabilities k c req s).2.mask w = s.mask w := by
  refine mask_mono h ?_
  unfold spdmCapabilities
  repeat' (first | with_reducible rfl | assumption | (intro _) | with_reducible refine ite_keeps ?_ ?_ | with_reducible refine ite_answer ?_ ?_ | with_reducible apply checked_keeps | with_reducible apply withCtx_keeps | with_reducible apply withQueue_keeps | with_reducible apply corrCmd_keeps | (simp only [foldl_mask, putConn_foot, keeps_ok, keeps_started, keeps_fail, keeps_failWith, keeps_wait, keeps_next, Nat.reduceAnd]) | with_reducible apply foldl_keeps | dsimp only | split)
theorem spdmAlgorithms_foot {w : Nat} (h : 512 &&& w = 512) (k : Nat) (c : SpdmConn) (req : List Byte) (s : State) :
    (spdmAlgorithms k c req s).2.mask w = s.mask w := by
  refine mask_mono h ?_
  unfold spdmAlgorithms
  repeat' (first | with_reducible rfl | assumption | (intro _) | with_reducible refine ite_keeps ?_ ?_ | with_reducible refine ite_answer ?_ ?_ | with_reducible apply checked_keeps | with_reducible apply withCtx_keeps | with_reducible apply withQueue_keeps | with_reducible apply corrCmd_keeps | (simp only [foldl_mask, putConn_foot, keeps_ok, keeps_started, keeps_fail, keeps_failWith, keeps_wait, keeps_next, Nat.reduceAnd]) | with_reducible apply foldl_keeps | dsimp only | split)
theorem spdmDigests_foot {w : Nat} (h : 512 &&& w = 512) (k : Nat) (c : SpdmConn) (req : List Byte) (s : State) :
    (spdmDigests k c req s).2.mask w = s.mask w := by
  refine mask_mono h ?_
  unfold spdmDigests
  repeat' (first | with_reducible rfl | assumption | (intro _) | with_reducible refine ite_keeps ?_ ?_ | with_reducible refine ite_answer ?_ ?_ | with_reducible apply checked_keeps | with_reducible apply withCtx_keeps | with_reducible apply withQueue_keeps | with_reducible apply corrCmd_keeps | (simp only [foldl_mask, putConn_foot, keeps_ok, keeps_started, keeps_fail, keeps_failWith, keeps_wait, keeps_next, Nat.reduceAnd]) | with_reducible apply foldl_keeps | dsimp only | split)
theorem spdmCertificate_foot {w : Nat} (h : 512 &&& w = 512) (k : Nat) (c : SpdmConn) (req : List Byte) (s : State) :
    (spdmCertificate k c req s).2.mask w = s.mask w := by
  refine mask_mono h ?_
  unfold spdmCertificate
  repeat' (first | with_reducible rfl | assumption | (intro _) | with_reducible refine ite_keeps ?_ ?_ | with_reducible refine ite_answer ?_ ?_ | with_reducible apply checked_keeps | with_reducible apply withCtx_keeps | with_reducible apply withQueue_keeps | with_reducible apply corrCmd_keeps | (simp only [foldl_mask, putConn_foot, keeps_ok, keeps_started, keeps_fail, keeps_failWith, keeps_wait, keeps_next, Nat.reduceAnd]) | with_reducible apply foldl_keeps | dsimp only | split)
theorem spdmChallenge_foot {w : Nat} (h : 516 &&& w = 516) (k : Nat) (c : SpdmConn) (req : List Byte) (s : State) :
    (spdmChallenge k c req s).2.mask w = s.mask w := by
  refine mask_mono h ?_
  unfold spdmChallenge
  repeat' (first | with_reducible rfl | assumption | (intro _) | with_reducible refine ite_keeps ?_ ?_ | with_reducible refine ite_answer ?_ ?_ | with_reducible apply checked_keeps | with_reducible apply withCtx_keeps | with_reducible apply withQueue_keeps | with_reducible apply corrCmd_keeps | (simp only [foldl_mask, bumpFree_foot, putConn_foot, keeps_ok, keeps_started, keeps_fail, keeps_failWith, keeps_wait, keeps_next, Nat.reduceAnd]) | with_reducible apply foldl_keeps | dsimp only | split)
theorem spdmMeasurements_foot {w : Nat} (h : 516 &&& w = 516) (k : Nat) (c : SpdmConn) (req : List Byte) (s : State) :
    (spdmMeasurements k c req s).2.mask w = s.mask w := by
  refine mask_mono h ?_
  unfold spdmMeasurements
  repeat' (first | with_reducible rfl | assumption | (intro _) | with_reducible refine ite_keeps ?_ ?_ | with_reducible refine ite_answer ?_ ?_ | with_reducible apply checked_keeps | with_reducible apply withCtx_keeps | with_reducible apply withQueue_keeps | with_reducible apply corrCmd_keeps | (simp only [foldl_mask, bumpFree_foot, putConn_foot, keeps_ok, keeps_started, keeps_fail, keeps_failWith, keeps_wait, keeps_next, Nat.reduceAnd]) | with_reducible apply foldl_keeps | dsimp only | split)
theorem spdm_foot {w : Nat} (h : 516 &&& w = 516) (k : Nat) (req : List Byte) (s : State) :
    (spdm k req s).2.mask w = s.mask w := by
  refine mask_mono h ?_
  unfold spdm
  have h0 : ∀ e, ((e, s) : List Byte × State).2.mask 516 = s.mask 516 := fun _ => rfl
  have hp : ∀ c, (putConn k c s).mask 516 = s.mask 516 := fun c => putConn_foot (by decide) ..
  have ip : ∀ {c : Prop} [Decidable c] {x y : List Byte × State}, x.2.mask 516 = s.mask 516 → y.2.mask 516 = s.mask 516 →
      (if c then x else y).2.mask 516 = s.mask 516 := by
    intro c _ x y hx hy; split <;> assumption
  refine ip (ip (h0 _) (ip (h0 _) (spdmVersion_foot (by decide) ..))) ?_
  cases s.trust.spdm.find k with
  | none => rfl
  | some c0 =>
    dsimp only
    refine ip (hp _) (ip (hp _) (ip ?_ (ip ?_ (ip (hp _) (ip (hp _) (ip (hp _) (ip ?_ (ip ?_ (ip ?_ ?_)))))))))
    · rw [spdmCapabilities_foot (by decide), hp]
    · rw [spdmAlgorithms_foot (by decide), hp]
    · rw [spdmDigests_foot (by decide), hp]
    · rw [spdmCertificate_foot (by decide), hp]
    · rw [spdmChallenge_foot (by decide), hp]
    · rw [spdmMeasurements_foot (by decide), hp]
theorem cmdTrustSpdm_foot {w : Nat} (h : 38011460 &&& w = 38011460) (r : Req) (s : State) {m : State} (hm : s.mask w = m) :
    ((cmdTrustSpdm).run r s).keeps w m := by
  subst hm
  refine keeps_mono h ?_
  simp only [cmdTrustSpdm]
  repeat' (first | with_reducible rfl | assumption | (intro _) | with_reducible refine ite_keeps ?_ ?_ | with_reducible refine ite_answer ?_ ?_ | with_reducible apply checked_keeps | with_reducible apply withCtx_keeps | with_reducible apply withQueue_keeps | with_reducible apply corrCmd_keeps | (simp only [mask_set_262144, foldl_mask, spdm_foot, sendRemote_foot, keeps_ok, keeps_started, keeps_fail, keeps_failWith, keeps_wait, keeps_next, Nat.reduceAnd]) | with_reducible apply foldl_keeps | dsimp only | split)
theorem cmdTimeGetStatus_foot {w : Nat} (h : 0 &&& w = 0) (r : Req) (s : State) {m : State} (hm : s.mask w = m) :
    ((cmdTimeGetStatus).run r s).keeps w m := by
  subst hm
  refine keeps_mono h ?_
  simp only [cmdTimeGetStatus]
  repeat' (first | with_reducible rfl | assumption | (intro _) | with_reducible refine ite_keeps ?_ ?_ | with_reducible refine ite_answer ?_ ?_ | with_reducible apply checked_keeps | with_reducible apply withCtx_keeps | with_reducible apply withQueue_keeps | with_reducible apply corrCmd_keeps | (simp only [foldl_mask, keeps_ok, keeps_started, keeps_fail, keeps_failWith, keeps_wait, keeps_next, Nat.reduceAnd]) | with_reducible apply foldl_keeps | dsimp only | split)
theorem cmdTimeSetSource_foot {w : Nat} (h : 1081442 &&& w = 1081442) (r : Req) (s : State) {m : State} (hm : s.mask w = m) :
    ((cmdTimeSetSource).run r s).keeps w m := by
  subst hm
  refine keeps_mono h ?_
  simp only [cmdTimeSetSource]
  repeat' (first | with_reducible rfl | assumption | (intro _) | with_reducible refine ite_keeps ?_ ?_ | with_reducible refine ite_answer ?_ ?_ | with_reducible apply checked_keeps | with_reducible apply withCtx_keeps | with_reducible apply withQueue_keeps | with_reducible apply corrCmd_keeps | (simp only [foldl_mask, evalSource_foot, modClock_foot, keeps_ok, keeps_started, keeps_fail, keeps_failWith, keeps_wait, keeps_next, Nat.reduceAnd]) | with_reducible apply foldl_keeps | dsimp only | split)
theorem changeExt_foot {w : Nat} (h : 37748832 &&& w = 37748832) (off : Int) (frac : Nat) (reason : Nat) (s : State) :
    (changeExt off frac reason s).mask w = s.mask w := by
  refine mask_mono h ?_
  unfold changeExt
  repeat' (first | with_reducible rfl | assumption | (intro _) | with_reducible refine ite_keeps ?_ ?_ | with_reducible refine ite_answer ?_ ?_ | with_reducible apply checked_keeps | with_reducible apply withCtx_keeps | with_reducible apply withQueue_keeps | with_reducible apply corrCmd_keeps | (simp only [foldl_mask, modClock_foot, hsend_foot, keeps_ok, keeps_started, keeps_fail, keeps_failWith, keeps_wait, keeps_next, Nat.reduceAnd]) | with_reducible apply foldl_keeps | dsimp only | split)
theorem cmdTimeSetExtOffset_foot {w : Nat} (h : 37748832 &&& w = 37748832) (r : Req) (s : State) {m : State} (hm : s.mask w = m) :
    ((cmdTimeSetExtOffset).run r s).keeps w m := by
  subst hm
  refine keeps_mono h ?_
  simp only [cmdTimeSetExtOffset]
  repeat' (first | with_reducible rfl | assumption | (intro _) | with_reducible refine ite_keeps ?_ ?_ | with_reducible refine ite_answer ?_ ?_ | with_reducible apply checked_keeps | with_reducible apply withCtx_keeps | with_reducible apply withQueue_keeps | with_reducible apply corrCmd_keeps | (simp only [foldl_mask, changeExt_foot, keeps_ok, keeps_started, keeps_fail, keeps_failWith, keeps_wait, keeps_next, Nat.reduceAnd]) | with_reducible apply foldl_keeps | dsimp only | split)
theorem cmdTimeSetPps_foot {w : Nat} (h : 32 &&& w = 32) (r : Req) (s : State) {m : State} (hm : s.mask w = m) :
    ((cmdTimeSetPps).run r s).keeps w m := by
  subst hm
  refine keeps_mono h ?_
  simp only [cmdTimeSetPps]
  repeat' (first | with_reducible rfl | assumption | (intro _) | with_reducible refine ite_keeps ?_ ?_ | with_reducible refine ite_answer ?_ ?_ | with_reducible apply checked_keeps | with_reducible apply withCtx_keeps | with_reducible apply withQueue_keeps | with_reducible apply corrCmd_keeps | (simp only [foldl_mask, modClock_foot, keeps_ok, keeps_started, keeps_fail, keeps_failWith, keeps_wait, keeps_next, Nat.reduceAnd]) | with_reducible apply foldl_keeps | dsimp only | split)
theorem cmdFwGetStatus_foot {w : Nat} (h : 0 &&& w = 0) (r : Req) (s : State) {m : State} (hm : s.mask w = m) :
    ((cmdFwGetStatus).run r s).keeps w m := by
  subst hm
  refine keeps_mono h ?_
  simp only [cmdFwGetStatus]
  repeat' (first | with_reducible rfl | assumption | (intro _) | with_reducible refine ite_keeps ?_ ?_ | with_reducible refine ite_answer ?_ ?_ | with_reducible apply checked_keeps | with_reducible apply withCtx_keeps | with_reducible apply withQueue_keeps | with_reducible apply corrCmd_keeps | (simp only [foldl_mask, keeps_ok, keeps_started, keeps_fail, keeps_failWith, keeps_wait, keeps_next, Nat.reduceAnd]) | with_reducible apply foldl_keeps | dsimp only | split)
theorem modSlot_foot {w : Nat} (h : 512 &&& w = 512) (n : Nat) (g : FwSlot → FwSlot) (s : State) :
    (modSlot n g s).mask w = s.mask w := by
  refine mask_mono h ?_
  unfold modSlot
  repeat' (first | with_reducible rfl | assumption | (intro _) | with_reducible refine ite_keeps ?_ ?_ | with_reducible refine ite_answer ?_ ?_ | with_reducible apply checked_keeps | with_reducible apply withCtx_keeps | with_reducible apply withQueue_keeps | with_reducible apply corrCmd_keeps | (simp only [foldl_mask, modTrust_foot, keeps_ok, keeps_started, keeps_fail, keeps_failWith, keeps_wait, keeps_next, Nat.reduceAnd]) | with_reducible apply foldl_keeps | dsimp only | split)
theorem eraseSlot_foot {w : Nat} (h : 594 &&& w = 594) (n : Nat) (s : State) :
    (eraseSlot n s).mask w = s.mask w := by
  refine mask_mono h ?_
  unfold eraseSlot
  repeat' (first | with_reducible rfl | assumption | (intro _) | with_reducible refine ite_keeps ?_ ?_ | with_reducible refine ite_answer ?_ ?_ | with_reducible apply checked_keeps | with_reducible apply withCtx_keeps | with_reducible apply withQueue_keeps | with_reducible apply corrCmd_keeps | (simp only [foldl_mask, modSys_foot, modSlot_foot, countErase_foot, emit_foot, keeps_ok, keeps_started, keeps_fail, keeps_failWith, keeps_wait, keeps_next, Nat.reduceAnd]) | with_reducible apply foldl_keeps | dsimp only | split)
theorem fwWriteRun_foot {w : Nat} (h : 594 &&& w = 594) (r : Req) (s : State) {m : State} (hm : s.mask w = m) :
    (fwWriteRun r s).keeps w m := by
  subst hm
  refine keeps_mono h ?_
  unfold fwWriteRun
  repeat' (first | with_reducible rfl | assumption | (intro _) | with_reducible refine ite_keeps ?_ ?_ | with_reducible refine ite_answer ?_ ?_ | with_reducible apply checked_keeps | with_reducible apply withCtx_keeps | with_reducible apply withQueue_keeps | with_reducible apply corrCmd_keeps | (simp only [foldl_mask, eraseSlot_foot, modSys_foot, modTrust_foot, hold_foot, keeps_ok, keeps_started, keeps_fail, keeps_failWith, keeps_wait, keeps_next, Nat.reduceAnd]) | with_reducible apply foldl_keeps | dsimp only | split)
theorem cmdFwWrite_foot {w : Nat} (h : 594 &&& w = 594) (r : Req) (s : State) {m : State} (hm : s.mask w = m) :
    ((cmdFwWrite).run r s).keeps w m := by
  subst hm
  refine keeps_mono h ?_
  simp only [cmdFwWrite]
  repeat' (first | with_reducible rfl | assumption | (intro _) | with_reducible refine ite_keeps ?_ ?_ | with_reducible refine ite_answer ?_ ?_ | with_reducible apply checked_keeps | with_reducible apply withCtx_keeps | with_reducible apply withQueue_keeps | with_reducible apply corrCmd_keeps | (simp only [foldl_mask, fwWriteRun_foot, keeps_ok, keeps_started, keeps_fail, keeps_failWith, keeps_wait, keeps_next, Nat.reduceAnd]) | with_reducible apply foldl_keeps | dsimp only | split)
theorem cmdFwActivate_foot {w : Nat} (h : 530 &&& w = 530) (r : Req) (s : State) {m : State} (hm : s.mask w = m) :
    ((cmdFwActivate).run r s).keeps w m := by
  subst hm
  refine keeps_mono h ?_
  simp only [cmdFwActivate]
  repeat' (first | with_reducible rfl | assumption | (intro _) | with_reducible refine ite_keeps ?_ ?_ | with_reducible refine ite_answer ?_ ?_ | with_reducible apply checked_keeps | with_reducible apply withCtx_keeps | with_reducible apply withQueue_keeps | with_reducible apply corrCmd_keeps | (simp only [foldl_mask, activate_foot, keeps_ok, keeps_started, keeps_fail, keeps_failWith, keeps_wait, keeps_next, Nat.reduceAnd]) | with_reducible apply foldl_keeps | dsimp only | split)
theorem cmdPwrSetBootOptions_foot {w : Nat} (h : 528 &&& w = 528) (r : Req) (s : State) {m : State} (hm : s.mask w = m) :
    ((cmdPwrSetBootOptions).run r s).keeps w m := by
  subst hm
  refine keeps_mono h ?_
  simp only [cmdPwrSetBootOptions]
  repeat' (first | with_reducible rfl | assumption | (intro _) | with_reducible refine ite_keeps ?_ ?_ | with_reducible refine ite_answer ?_ ?_ | with_reducible apply checked_keeps | with_reducible apply withCtx_keeps | with_reducible apply withQueue_keeps | with_reducible apply corrCmd_keeps | (simp only [foldl_mask, startFlash_foot, keeps_ok, keeps_started, keeps_fail, keeps_failWith, keeps_wait, keeps_next, Nat.reduceAnd]) | with_reducible apply foldl_keeps | dsimp only | split)
theorem cmdTrustGetCert_foot {w : Nat} (h : 0 &&& w = 0) (r : Req) (s : State) {m : State} (hm : s.mask w = m) :
    ((cmdTrustGetCert).run r s).keeps w m := by
  subst hm
  refine keeps_mono h ?_
  simp only [cmdTrustGetCert]
  repeat' (first | with_reducible rfl | assumption | (intro _) | with_reducible refine ite_keeps ?_ ?_ | with_reducible refine ite_answer ?_ ?_ | with_reducible apply checked_keeps | with_reducible apply withCtx_keeps | with_reducible apply withQueue_keeps | with_reducible apply corrCmd_keeps | (simp only [foldl_mask, keeps_ok, keeps_started, keeps_fail, keeps_failWith, keeps_wait, keeps_next, Nat.reduceAnd]) | with_reducible apply foldl_keeps | dsimp only | split)
theorem cmdTrustChallenge_foot {w : Nat} (h : 516 &&& w = 516) (r : Req) (s : State) {m : State} (hm : s.mask w = m) :
    ((cmdTrustChallenge).run r s).keeps w m := by
  subst hm
  refine keeps_mono h ?_
  simp only [cmdTrustChallenge]
  repeat' (first | with_reducible rfl | assumption | (intro _) | with_reducible refine ite_keeps ?_ ?_ | with_reducible refine ite_answer ?_ ?_ | with_reducible apply checked_keeps | with_reducible apply withCtx_keeps | with_reducible apply withQueue_keeps | with_reducible apply corrCmd_keeps | (simp only [foldl_mask, bumpFree_foot, modTrust_foot, keeps_ok, keeps_started, keeps_fail, keeps_failWith, keeps_wait, keeps_next, Nat.reduceAnd]) | with_reducible apply foldl_keeps | dsimp only | split)
theorem cmdDebugUnlock_foot {w : Nat} (h : 1081922 &&& w = 1081922) (r : Req) (s : State) {m : State} (hm : s.mask w = m) :
    ((cmdDebugUnlock).run r s).keeps w m := by
  subst hm
  refine keeps_mono h ?_
  simp only [cmdDebugUnlock]
  repeat' (first | with_reducible rfl | assumption | (intro _) | with_reducible refine ite_keeps ?_ ?_ | with_reducible refine ite_answer ?_ ?_ | with_reducible apply checked_keeps | with_reducible apply withCtx_keeps | with_reducible apply withQueue_keeps | with_reducible apply corrCmd_keeps | (simp only [foldl_mask, useNonce_foot, raise_foot, modTrust_foot, keeps_ok, keeps_started, keeps_fail, keeps_failWith, keeps_wait, keeps_next, Nat.reduceAnd]) | with_reducible apply foldl_keeps | dsimp only | split)
theorem modVp_foot {w : Nat} (h : 549755813888 &&& w = 549755813888) (v : Nat) (g : ValvePort → ValvePort) (s : State) :
    (modVp v g s).mask w = s.mask w := by
  refine mask_mono h ?_
  unfold modVp
  repeat' (first | with_reducible rfl | assumption | (intro _) | with_reducible refine ite_keeps ?_ ?_ | with_reducible refine ite_answer ?_ ?_ | with_reducible apply checked_keeps | with_reducible apply withCtx_keeps | with_reducible apply withQueue_keeps | with_reducible apply corrCmd_keeps | (simp only [mask_set_549755813888, foldl_mask, keeps_ok, keeps_started, keeps_fail, keeps_failWith, keeps_wait, keeps_next, Nat.reduceAnd]) | with_reducible apply foldl_keeps | dsimp only | split)
theorem cmdVpConfigure_foot {w : Nat} (h : 549755813888 &&& w = 549755813888) (r : Req) (s : State) {m : State} (hm : s.mask w = m) :
    ((cmdVpConfigure).run r s).keeps w m := by
  subst hm
  refine keeps_mono h ?_
  simp only [cmdVpConfigure]
  repeat' (first | with_reducible rfl | assumption | (intro _) | with_reducible refine ite_keeps ?_ ?_ | with_reducible refine ite_answer ?_ ?_ | with_reducible apply checked_keeps | with_reducible apply withCtx_keeps | with_reducible apply withQueue_keeps | with_reducible apply corrCmd_keeps | (simp only [foldl_mask, modVp_foot, keeps_ok, keeps_started, keeps_fail, keeps_failWith, keeps_wait, keeps_next, Nat.reduceAnd]) | with_reducible apply foldl_keeps | dsimp only | split)
theorem cmdVpSetMode_foot {w : Nat} (h : 549755813888 &&& w = 549755813888) (r : Req) (s : State) {m : State} (hm : s.mask w = m) :
    ((cmdVpSetMode).run r s).keeps w m := by
  subst hm
  refine keeps_mono h ?_
  simp only [cmdVpSetMode]
  repeat' (first | with_reducible rfl | assumption | (intro _) | with_reducible refine ite_keeps ?_ ?_ | with_reducible refine ite_answer ?_ ?_ | with_reducible apply checked_keeps | with_reducible apply withCtx_keeps | with_reducible apply withQueue_keeps | with_reducible apply corrCmd_keeps | (simp only [foldl_mask, modVp_foot, keeps_ok, keeps_started, keeps_fail, keeps_failWith, keeps_wait, keeps_next, Nat.reduceAnd]) | with_reducible apply foldl_keeps | dsimp only | split)
theorem cmdVpTestFire_foot {w : Nat} (h : 274877906944 &&& w = 274877906944) (r : Req) (s : State) {m : State} (hm : s.mask w = m) :
    ((cmdVpTestFire).run r s).keeps w m := by
  subst hm
  refine keeps_mono h ?_
  simp only [cmdVpTestFire]
  repeat' (first | with_reducible rfl | assumption | (intro _) | with_reducible refine ite_keeps ?_ ?_ | with_reducible refine ite_answer ?_ ?_ | with_reducible apply checked_keeps | with_reducible apply withCtx_keeps | with_reducible apply withQueue_keeps | with_reducible apply corrCmd_keeps | (simp only [foldl_mask, placeAction_foot, keeps_ok, keeps_started, keeps_fail, keeps_failWith, keeps_wait, keeps_next, Nat.reduceAnd]) | with_reducible apply foldl_keeps | dsimp only | split)
theorem cmdVpGetStatus_foot {w : Nat} (h : 549755813888 &&& w = 549755813888) (r : Req) (s : State) {m : State} (hm : s.mask w = m) :
    ((cmdVpGetStatus).run r s).keeps w m := by
  subst hm
  refine keeps_mono h ?_
  simp only [cmdVpGetStatus]
  repeat' (first | with_reducible rfl | assumption | (intro _) | with_reducible refine ite_keeps ?_ ?_ | with_reducible refine ite_answer ?_ ?_ | with_reducible apply checked_keeps | with_reducible apply withCtx_keeps | with_reducible apply withQueue_keeps | with_reducible apply corrCmd_keeps | (simp only [foldl_mask, modVp_foot, keeps_ok, keeps_started, keeps_fail, keeps_failWith, keeps_wait, keeps_next, Nat.reduceAnd]) | with_reducible apply foldl_keeps | dsimp only | split)
theorem cmdVpClearFault_foot {w : Nat} (h : 549755813888 &&& w = 549755813888) (r : Req) (s : State) {m : State} (hm : s.mask w = m) :
    ((cmdVpClearFault).run r s).keeps w m := by
  subst hm
  refine keeps_mono h ?_
  simp only [cmdVpClearFault]
  repeat' (first | with_reducible rfl | assumption | (intro _) | with_reducible refine ite_keeps ?_ ?_ | with_reducible refine ite_answer ?_ ?_ | with_reducible apply checked_keeps | with_reducible apply withCtx_keeps | with_reducible apply withQueue_keeps | with_reducible apply corrCmd_keeps | (simp only [foldl_mask, modVp_foot, keeps_ok, keeps_started, keeps_fail, keeps_failWith, keeps_wait, keeps_next, Nat.reduceAnd]) | with_reducible apply foldl_keeps | dsimp only | split)
theorem cmdWgConfigure_foot {w : Nat} (h : 8796093022208 &&& w = 8796093022208) (r : Req) (s : State) {m : State} (hm : s.mask w = m) :
    ((cmdWgConfigure).run r s).keeps w m := by
  subst hm
  refine keeps_mono h ?_
  simp only [cmdWgConfigure]
  repeat' (first | with_reducible rfl | assumption | (intro _) | with_reducible refine ite_keeps ?_ ?_ | with_reducible refine ite_answer ?_ ?_ | with_reducible apply checked_keeps | with_reducible apply withCtx_keeps | with_reducible apply withQueue_keeps | with_reducible apply corrCmd_keeps | (simp only [foldl_mask, modChan_foot, keeps_ok, keeps_started, keeps_fail, keeps_failWith, keeps_wait, keeps_next, Nat.reduceAnd]) | with_reducible apply foldl_keeps | dsimp only | split)
theorem cmdWgConnect_foot {w : Nat} (h : 8796093022208 &&& w = 8796093022208) (r : Req) (s : State) {m : State} (hm : s.mask w = m) :
    ((cmdWgConnect).run r s).keeps w m := by
  subst hm
  refine keeps_mono h ?_
  simp only [cmdWgConnect]
  repeat' (first | with_reducible rfl | assumption | (intro _) | with_reducible refine ite_keeps ?_ ?_ | with_reducible refine ite_answer ?_ ?_ | with_reducible apply checked_keeps | with_reducible apply withCtx_keeps | with_reducible apply withQueue_keeps | with_reducible apply corrCmd_keeps | (simp only [foldl_mask, modWgInput_foot, keeps_ok, keeps_started, keeps_fail, keeps_failWith, keeps_wait, keeps_next, Nat.reduceAnd]) | with_reducible apply foldl_keeps | dsimp only | split)
theorem cmdWgSetGroup_foot {w : Nat} (h : 8796093022208 &&& w = 8796093022208) (r : Req) (s : State) {m : State} (hm : s.mask w = m) :
    ((cmdWgSetGroup).run r s).keeps w m := by
  subst hm
  refine keeps_mono h ?_
  simp only [cmdWgSetGroup]
  repeat' (first | with_reducible rfl | assumption | (intro _) | with_reducible refine ite_keeps ?_ ?_ | with_reducible refine ite_answer ?_ ?_ | with_reducible apply checked_keeps | with_reducible apply withCtx_keeps | with_reducible apply withQueue_keeps | with_reducible apply corrCmd_keeps | (simp only [foldl_mask, modWgGroup_foot, keeps_ok, keeps_started, keeps_fail, keeps_failWith, keeps_wait, keeps_next, Nat.reduceAnd]) | with_reducible apply foldl_keeps | dsimp only | split)
theorem wgExportCommit_foot {w : Nat} (h : 8796093022208 &&& w = 8796093022208) (r : Req) (s : State) :
    (wgExportCommit r s).mask w = s.mask w := by
  refine mask_mono h ?_
  unfold wgExportCommit
  repeat' (first | with_reducible rfl | assumption | (intro _) | with_reducible refine ite_keeps ?_ ?_ | with_reducible refine ite_answer ?_ ?_ | with_reducible apply checked_keeps | with_reducible apply withCtx_keeps | with_reducible apply withQueue_keeps | with_reducible apply corrCmd_keeps | (simp only [foldl_mask, modChan_foot, keeps_ok, keeps_started, keeps_fail, keeps_failWith, keeps_wait, keeps_next, Nat.reduceAnd]) | with_reducible apply foldl_keeps | dsimp only | split)
theorem cmdWgExport_foot {w : Nat} (h : 8796131033152 &&& w = 8796131033152) (r : Req) (s : State) {m : State} (hm : s.mask w = m) :
    ((cmdWgExport).run r s).keeps w m := by
  subst hm
  refine keeps_mono h ?_
  simp only [cmdWgExport]
  repeat' (first | with_reducible rfl | assumption | (intro _) | with_reducible refine ite_keeps ?_ ?_ | with_reducible refine ite_answer ?_ ?_ | with_reducible apply checked_keeps | with_reducible apply withCtx_keeps | with_reducible apply withQueue_keeps | with_reducible apply corrCmd_keeps | (simp only [foldl_mask, wgExportCommit_foot, askOwner_foot, keeps_ok, keeps_started, keeps_fail, keeps_failWith, keeps_wait, keeps_next, Nat.reduceAnd]) | with_reducible apply foldl_keeps | dsimp only | split)
theorem cmdWgGetStatus_foot {w : Nat} (h : 8796093022208 &&& w = 8796093022208) (r : Req) (s : State) {m : State} (hm : s.mask w = m) :
    ((cmdWgGetStatus).run r s).keeps w m := by
  subst hm
  refine keeps_mono h ?_
  simp only [cmdWgGetStatus]
  repeat' (first | with_reducible rfl | assumption | (intro _) | with_reducible refine ite_keeps ?_ ?_ | with_reducible refine ite_answer ?_ ?_ | with_reducible apply checked_keeps | with_reducible apply withCtx_keeps | with_reducible apply withQueue_keeps | with_reducible apply corrCmd_keeps | (simp only [foldl_mask, modWgInput_foot, modChan_foot, keeps_ok, keeps_started, keeps_fail, keeps_failWith, keeps_wait, keeps_next, Nat.reduceAnd]) | with_reducible apply foldl_keeps | dsimp only | split)
theorem cmdLaneEyeScan_foot {w : Nat} (h : 0 &&& w = 0) (width : Nat) (height : Nat) (eye : Nat) (r : Req) (s : State) {m : State} (hm : s.mask w = m) :
    ((cmdLaneEyeScan width height eye).run r s).keeps w m := by
  subst hm
  refine keeps_mono h ?_
  simp only [cmdLaneEyeScan]
  repeat' (first | with_reducible rfl | assumption | (intro _) | with_reducible refine ite_keeps ?_ ?_ | with_reducible refine ite_answer ?_ ?_ | with_reducible apply checked_keeps | with_reducible apply withCtx_keeps | with_reducible apply withQueue_keeps | with_reducible apply corrCmd_keeps | (simp only [foldl_mask, keeps_ok, keeps_started, keeps_fail, keeps_failWith, keeps_wait, keeps_next, Nat.reduceAnd]) | with_reducible apply foldl_keeps | dsimp only | split)
theorem dropOld_foot {w : Nat} (h : 512 &&& w = 512) (s : State) :
    (dropOld s).mask w = s.mask w := by
  refine mask_mono h ?_
  unfold dropOld
  repeat' (first | with_reducible rfl | assumption | (intro _) | with_reducible refine ite_keeps ?_ ?_ | with_reducible refine ite_answer ?_ ?_ | with_reducible apply checked_keeps | with_reducible apply withCtx_keeps | with_reducible apply withQueue_keeps | with_reducible apply corrCmd_keeps | (simp only [foldl_mask, modSlot_foot, keeps_ok, keeps_started, keeps_fail, keeps_failWith, keeps_wait, keeps_next, Nat.reduceAnd]) | with_reducible apply foldl_keeps | dsimp only | split)
theorem burnFuses_foot {w : Nat} (h : 512 &&& w = 512) (lo : Nat) (n : Nat) (s : State) :
    (burnFuses lo n s).mask w = s.mask w := by
  refine mask_mono h ?_
  unfold burnFuses
  repeat' (first | with_reducible rfl | assumption | (intro _) | with_reducible refine ite_keeps ?_ ?_ | with_reducible refine ite_answer ?_ ?_ | with_reducible apply checked_keeps | with_reducible apply withCtx_keeps | with_reducible apply withQueue_keeps | with_reducible apply corrCmd_keeps | (simp only [foldl_mask, modTrust_foot, keeps_ok, keeps_started, keeps_fail, keeps_failWith, keeps_wait, keeps_next, Nat.reduceAnd]) | with_reducible apply foldl_keeps | dsimp only | split)
theorem cmdFwCommitSvn_foot {w : Nat} (h : 1081922 &&& w = 1081922) (burnt : Nat) (r : Req) (s : State) {m : State} (hm : s.mask w = m) :
    ((cmdFwCommitSvn burnt).run r s).keeps w m := by
  subst hm
  refine keeps_mono h ?_
  simp only [cmdFwCommitSvn]
  repeat' (first | with_reducible rfl | assumption | (intro _) | with_reducible refine ite_keeps ?_ ?_ | with_reducible refine ite_answer ?_ ?_ | with_reducible apply checked_keeps | with_reducible apply withCtx_keeps | with_reducible apply withQueue_keeps | with_reducible apply corrCmd_keeps | (simp only [foldl_mask, dropOld_foot, burnFuses_foot, raise_foot, keeps_ok, keeps_started, keeps_fail, keeps_failWith, keeps_wait, keeps_next, Nat.reduceAnd]) | with_reducible apply foldl_keeps | dsimp only | split)
theorem takePolicy_foot {w : Nat} (h : 528 &&& w = 528) (p : List Byte) (s : State) :
    (takePolicy p s).mask w = s.mask w := by
  refine mask_mono h ?_
  unfold takePolicy
  repeat' (first | with_reducible rfl | assumption | (intro _) | with_reducible refine ite_keeps ?_ ?_ | with_reducible refine ite_answer ?_ ?_ | with_reducible apply checked_keeps | with_reducible apply withCtx_keeps | with_reducible apply withQueue_keeps | with_reducible apply corrCmd_keeps | (simp only [foldl_mask, modSys_foot, modTrust_foot, keeps_ok, keeps_started, keeps_fail, keeps_failWith, keeps_wait, keeps_next, Nat.reduceAnd]) | with_reducible apply foldl_keeps | dsimp only | split)
theorem burnHash_foot {w : Nat} (h : 512 &&& w = 512) (p : List Byte) (s : State) :
    (burnHash p s).mask w = s.mask w := by
  refine mask_mono h ?_
  unfold burnHash
  repeat' (first | with_reducible rfl | assumption | (intro _) | with_reducible refine ite_keeps ?_ ?_ | with_reducible refine ite_answer ?_ ?_ | with_reducible apply checked_keeps | with_reducible apply withCtx_keeps | with_reducible apply withQueue_keeps | with_reducible apply corrCmd_keeps | (simp only [foldl_mask, modTrust_foot, keeps_ok, keeps_started, keeps_fail, keeps_failWith, keeps_wait, keeps_next, Nat.reduceAnd]) | with_reducible apply foldl_keeps | dsimp only | split)
theorem cmdTrustSetOwnerPolicy_foot {w : Nat} (h : 1081942 &&& w = 1081942) (burnOk : Bool) (r : Req) (s : State) {m : State} (hm : s.mask w = m) :
    ((cmdTrustSetOwnerPolicy burnOk).run r s).keeps w m := by
  subst hm
  refine keeps_mono h ?_
  simp only [cmdTrustSetOwnerPolicy]
  repeat' (first | with_reducible rfl | assumption | (intro _) | with_reducible refine ite_keeps ?_ ?_ | with_reducible refine ite_answer ?_ ?_ | with_reducible apply checked_keeps | with_reducible apply withCtx_keeps | with_reducible apply withQueue_keeps | with_reducible apply corrCmd_keeps | (simp only [foldl_mask, bumpFree_foot, modTrust_foot, takePolicy_foot, burnHash_foot, rdRewrite_foot, startFlash_foot, raise_foot, keeps_ok, keeps_started, keeps_fail, keeps_failWith, keeps_wait, keeps_next, Nat.reduceAnd]) | with_reducible apply foldl_keeps | dsimp only | split)
theorem cmdLogRead_foot {w : Nat} (h : 0 &&& w = 0) (most : Nat) (r : Req) (s : State) {m : State} (hm : s.mask w = m) :
    ((cmdLogRead most).run r s).keeps w m := by
  subst hm
  refine keeps_mono h ?_
  simp only [cmdLogRead]
  repeat' (first | with_reducible rfl | assumption | (intro _) | with_reducible refine ite_keeps ?_ ?_ | with_reducible refine ite_answer ?_ ?_ | with_reducible apply checked_keeps | with_reducible apply withCtx_keeps | with_reducible apply withQueue_keeps | with_reducible apply corrCmd_keeps | (simp only [foldl_mask, keeps_ok, keeps_started, keeps_fail, keeps_failWith, keeps_wait, keeps_next, Nat.reduceAnd]) | with_reducible apply foldl_keeps | dsimp only | split)
theorem placeNext_foot {w : Nat} (h : 274877906944 &&& w = 274877906944) (r : Req) (x : List Nat × State) (o : Nat) :
    (placeNext r x o).2.mask w = x.2.mask w := mask_mono h (placeAction_foot (by decide) ..)
theorem schedDrop_foot {w : Nat} (h : 274878988362 &&& w = 274878988362) (cls : Nat) (reason : Nat) (late : Nat) (target : Nat) (fns : List Nat) (s : State) :
    (schedDrop cls reason late target fns s).mask w = s.mask w := by
  refine mask_mono h ?_
  unfold schedDrop
  repeat' (first | with_reducible rfl | assumption | (intro _) | with_reducible refine ite_keeps ?_ ?_ | with_reducible refine ite_answer ?_ ?_ | with_reducible apply checked_keeps | with_reducible apply withCtx_keeps | with_reducible apply withQueue_keeps | with_reducible apply corrCmd_keeps | (simp only [foldl_mask, modFlight_foot, paced_foot, raise_foot, keeps_ok, keeps_started, keeps_fail, keeps_failWith, keeps_wait, keeps_next, Nat.reduceAnd]) | with_reducible apply foldl_keeps | dsimp only | split)
theorem schedLate_foot {w : Nat} (h : 274878988362 &&& w = 274878988362) (cls : Nat) (late : Nat) (target : Nat) (fns : List Nat) (s : State) :
    (schedLate cls late target fns s).mask w = s.mask w := by
  refine mask_mono h ?_
  unfold schedLate
  repeat' (first | with_reducible rfl | assumption | (intro _) | with_reducible refine ite_keeps ?_ ?_ | with_reducible refine ite_answer ?_ ?_ | with_reducible apply checked_keeps | with_reducible apply withCtx_keeps | with_reducible apply withQueue_keeps | with_reducible apply corrCmd_keeps | (simp only [foldl_mask, modFlight_foot, paced_foot, raise_foot, keeps_ok, keeps_started, keeps_fail, keeps_failWith, keeps_wait, keeps_next, Nat.reduceAnd]) | with_reducible apply foldl_keeps | dsimp only | split)

end Sys2Proof.Machine
end

