-- ==== Sys2Proof/Laws/Foot8.lean ====
section
/-! SUPPORT. What each operation leaves as it was, part 8 of 18: of state `s` it changes no field outside the set of its
footprint (a bit for each field, in the order of Field). -/
set_option linter.all false
set_option maxRecDepth 4000
open Sys2Proof Sys2Proof.Machine
namespace Sys2Proof.Machine

theorem runAction_foot {w : Nat} (h : 17317414076490 &&& w = 17317414076490) (slot : Nat) (a : Action) (s : State) :
    (runAction slot a s).mask w = s.mask w := by
  refine mask_mono h ?_
  unfold runAction
  repeat' (first | with_reducible rfl | assumption | (intro _) | with_reducible refine ite_keeps ?_ ?_ | with_reducible refine ite_answer ?_ ?_ | with_reducible apply checked_keeps | with_reducible apply withCtx_keeps | with_reducible apply withQueue_keeps | with_reducible apply corrCmd_keeps | (simp only [foldl_mask, freeAction_foot, schedDrop_foot, actEffect_foot, schedLate_foot, keeps_ok, keeps_started, keeps_fail, keeps_failWith, keeps_wait, keeps_next, Nat.reduceAnd]) | with_reducible apply foldl_keeps | dsimp only | split)
theorem judgeAction_foot {w : Nat} (h : 17317414076490 &&& w = 17317414076490) (s : State) (n : Nat) :
    (judgeAction s n).mask w = s.mask w := by
  refine mask_mono h ?_
  unfold judgeAction
  repeat' (first | with_reducible rfl | assumption | (intro _) | with_reducible refine ite_keeps ?_ ?_ | with_reducible refine ite_answer ?_ ?_ | with_reducible apply checked_keeps | with_reducible apply withCtx_keeps | with_reducible apply withQueue_keeps | with_reducible apply corrCmd_keeps | (simp only [foldl_mask, runAction_foot, keeps_ok, keeps_started, keeps_fail, keeps_failWith, keeps_wait, keeps_next, Nat.reduceAnd]) | with_reducible apply foldl_keeps | dsimp only | split)
theorem schedPlace_foot {w : Nat} (h : 17317414076490 &&& w = 17317414076490) (r : Req) (s : State) {m : State} (hm : s.mask w = m) :
    (schedPlace r s).keeps w m := by
  subst hm
  refine keeps_mono h ?_
  unfold schedPlace
  rw [keeps_ok]
  exact foldl_keeps _ _ _ (fun s n => judgeAction_foot (by decide) ..) (foldl2_keeps _ _ _ (fun x o => placeNext_foot (by decide) ..) rfl)
theorem cmdSchedAdd_foot {w : Nat} (h : 17317414076490 &&& w = 17317414076490) (op : Nat) (r : Req) (s : State) {m : State} (hm : s.mask w = m) :
    ((cmdSchedAdd op).run r s).keeps w m := by
  subst hm
  refine keeps_mono h ?_
  simp only [cmdSchedAdd]
  repeat' (first | with_reducible rfl | assumption | (intro _) | with_reducible refine ite_keeps ?_ ?_ | with_reducible refine ite_answer ?_ ?_ | with_reducible apply checked_keeps | with_reducible apply withCtx_keeps | with_reducible apply withQueue_keeps | with_reducible apply corrCmd_keeps | (simp only [foldl_mask, schedPlace_foot, keeps_ok, keeps_started, keeps_fail, keeps_failWith, keeps_wait, keeps_next, Nat.reduceAnd]) | with_reducible apply foldl_keeps | dsimp only | split)
theorem cancelNext_foot {w : Nat} (h : 274877906944 &&& w = 274877906944) (r : Req) (x : Nat × State) (o : Nat) :
    (cancelNext r x o).2.mask w = x.2.mask w := by
  refine mask_mono h ?_
  unfold cancelNext; dsimp only; split
  · exact freeAction_foot (by decide) ..
  · rfl
theorem schedTake_foot {w : Nat} (h : 274877906944 &&& w = 274877906944) (r : Req) (s : State) {m : State} (hm : s.mask w = m) :
    (schedTake r s).keeps w m := by
  subst hm
  refine keeps_mono h ?_
  unfold schedTake
  rw [keeps_ok]
  exact foldl2_keeps _ _ _ (fun x i => cancelNext_foot (by decide) ..) rfl
theorem cmdSchedCancel_foot {w : Nat} (h : 274877906944 &&& w = 274877906944) (op : Nat) (r : Req) (s : State) {m : State} (hm : s.mask w = m) :
    ((cmdSchedCancel op).run r s).keeps w m := by
  subst hm
  refine keeps_mono h ?_
  simp only [cmdSchedCancel]
  repeat' (first | with_reducible rfl | assumption | (intro _) | with_reducible refine ite_keeps ?_ ?_ | with_reducible refine ite_answer ?_ ?_ | with_reducible apply checked_keeps | with_reducible apply withCtx_keeps | with_reducible apply withQueue_keeps | with_reducible apply corrCmd_keeps | (simp only [foldl_mask, schedTake_foot, keeps_ok, keeps_started, keeps_fail, keeps_failWith, keeps_wait, keeps_next, Nat.reduceAnd]) | with_reducible apply foldl_keeps | dsimp only | split)
theorem cmdSchedGetStatus_foot {w : Nat} (h : 274877906944 &&& w = 274877906944) (op : Nat) (r : Req) (s : State) {m : State} (hm : s.mask w = m) :
    ((cmdSchedGetStatus op).run r s).keeps w m := by
  subst hm
  refine keeps_mono h ?_
  simp only [cmdSchedGetStatus]
  repeat' (first | with_reducible rfl | assumption | (intro _) | with_reducible refine ite_keeps ?_ ?_ | with_reducible refine ite_answer ?_ ?_ | with_reducible apply checked_keeps | with_reducible apply withCtx_keeps | with_reducible apply withQueue_keeps | with_reducible apply corrCmd_keeps | (simp only [foldl_mask, modFlight_foot, keeps_ok, keeps_started, keeps_fail, keeps_failWith, keeps_wait, keeps_next, Nat.reduceAnd]) | with_reducible apply foldl_keeps | dsimp only | split)
theorem cmdCompatGetInfo_foot {w : Nat} (h : 0 &&& w = 0) (r : Req) (s : State) {m : State} (hm : s.mask w = m) :
    ((cmdCompatGetInfo).run r s).keeps w m := by
  subst hm
  refine keeps_mono h ?_
  simp only [cmdCompatGetInfo]
  repeat' (first | with_reducible rfl | assumption | (intro _) | with_reducible refine ite_keeps ?_ ?_ | with_reducible refine ite_answer ?_ ?_ | with_reducible apply checked_keeps | with_reducible apply withCtx_keeps | with_reducible apply withQueue_keeps | with_reducible apply corrCmd_keeps | (simp only [foldl_mask, keeps_ok, keeps_started, keeps_fail, keeps_failWith, keeps_wait, keeps_next, Nat.reduceAnd]) | with_reducible apply foldl_keeps | dsimp only | split)
theorem remoteCmds_foot (s0 : State) : ∀ x ∈ remoteCmds s0, ∀ (r : Req) (s : State), (x.run r s).keeps 17452598886398 (s.mask 17452598886398) := by
  unfold remoteCmds
  simp only [List.forall_mem_append, List.forall_mem_cons, List.not_mem_nil, false_imp_iff, implies_true, and_true, and_assoc]
  refine ⟨fun r s => cmdCorrSetNoise_foot (by decide) r s rfl, fun r s => cmdCorrSetTemporal_foot (by decide) r s rfl, fun r s => cmdCorrSetSpatial_foot (by decide) r s rfl, fun r s => cmdCorrSetBlack_foot (by decide) r s rfl, fun r s => cmdCorrSetRegistration_foot (by decide) r s rfl, fun r s => cmdCorrSetEnable_foot (by decide) r s rfl, fun r s => cmdCorrLoadTable_foot (by decide) r s rfl, fun r s => cmdSegLoadBackground_foot (by decide) r s rfl, fun r s => cmdSegSetBackground_foot (by decide) r s rfl, fun r s => cmdSegSetThreshold_foot (by decide) r s rfl, fun r s => cmdSegSetMorph_foot (by decide) r s rfl, fun r s => cmdSegCaptureBackground_foot (by decide) r s rfl, fun r s => cmdCellSetFormat_foot (by decide) r s rfl, fun r s => cmdStitchConfigure_foot (by decide) r s rfl, fun r s => cmdCtxCreate_foot (by decide) r s rfl, fun r s => cmdCtxSet_foot (by decide) r s rfl, fun r s => cmdCtxAssign_foot (by decide) r s rfl, fun r s => cmdCtxStart_foot (by decide) r s rfl, fun r s => cmdCtxStop_foot (by decide) r s rfl, fun r s => cmdCtxRelease_foot (by decide) r s rfl, fun r s => cmdCtxDestroy_foot (by decide) r s rfl, fun r s => cmdCtxGetStatus_foot (by decide) r s rfl, fun r s => cmdIntakeSetPartition_foot (by decide) r s rfl, fun r s => cmdCombSetSpare_foot (by decide) r s rfl, fun r s => cmdCombGetStatus_foot (by decide) r s rfl, fun r s => cmdDevGetInfo_foot (by decide) r s rfl, fun r s => cmdDevGetPortStatus_foot (by decide) r s rfl, fun r s => cmdDevAssign_foot (by decide) r s rfl, fun r s => cmdDevGetOwner_foot (by decide) r s rfl, fun r s => cmdDiagPrbs_foot (by decide) r s rfl, fun r s => cmdDiagBankRead_foot (by decide) r s rfl, fun r s => cmdDiagInject_foot (by decide) r s rfl, fun r s => cmdHiveGetStatus_foot (by decide) r s rfl, fun r s => cmdHiveListDevices_foot (by decide) r s rfl, fun r s => cmdHiveSetPolicy_foot (by decide) r s rfl, fun r s => cmdHiveResetDevice_foot (by decide) r s rfl, fun r s => cmdFwDistribute_foot (by decide) r s rfl, fun r s => cmdEncConfigure_foot (by decide) r s rfl, fun r s => cmdEncSetCount_foot (by decide) r s rfl, fun r s => cmdEncGetStatus_foot (by decide) r s rfl, fun r s => cmdEmuConfigure_foot (by decide) r s rfl, fun r s => cmdGpioConfigure_foot (by decide) r s rfl, fun r s => cmdGpioWrite_foot (by decide) r s rfl, fun r s => cmdGpioGetStatus_foot (by decide) r s rfl, fun r s => cmdLaneConfigure_foot (by decide) r s rfl, fun r s => cmdLaneGetStatus_foot (by decide) r s rfl, fun r s => cmdLaneSetPower_foot (by decide) r s rfl, fun r s => cmdPgConfigure_foot (by decide) r s rfl, fun r s => cmdPgSetRow_foot (by decide) r s rfl, fun r s => cmdPgLoadRules_foot (by decide) r s rfl, fun r s => cmdPgSetSteering_foot (by decide) r s rfl, fun r s => cmdPgGetStatus_foot (by decide) r s rfl, fun r s => cmdPwrSetState_foot (by decide) r s rfl, fun r s => cmdPwrGetStatus_foot (by decide) r s rfl, fun r s => cmdDevReset_foot (by decide) r s rfl, fun r s => cmdQPartition_foot (by decide) r s rfl, fun r s => cmdQCreate_foot (by decide) r s rfl, fun r s => cmdQEnable_foot (by decide) r s rfl, fun r s => cmdQDisable_foot (by decide) r s rfl, fun r s => cmdQReset_foot (by decide) r s rfl, fun r s => cmdQDestroy_foot (by decide) r s rfl, fun r s => cmdQSetNotify_foot (by decide) r s rfl, fun r s => cmdQGetStatus_foot (by decide) r s rfl, fun r s => cmdHoneyRead_foot (by decide) r s rfl, fun r s => cmdHoneyReset_foot (by decide) r s rfl, fun r s => cmdHealthGetSensors_foot (by decide) r s rfl, fun r s => cmdCalRead_foot (by decide) r s rfl, fun r s => cmdCalWrite_foot (by decide) r s rfl, fun r s => cmdTrustSpdm_foot (by decide) r s rfl, fun r s => cmdTimeGetStatus_foot (by decide) r s rfl, fun r s => cmdTimeSetSource_foot (by decide) r s rfl, fun r s => cmdTimeSetExtOffset_foot (by decide) r s rfl, fun r s => cmdTimeSetPps_foot (by decide) r s rfl, fun r s => cmdFwGetStatus_foot (by decide) r s rfl, fun r s => cmdFwWrite_foot (by decide) r s rfl, fun r s => cmdFwActivate_foot (by decide) r s rfl, fun r s => cmdPwrSetBootOptions_foot (by decide) r s rfl, fun r s => cmdTrustGetCert_foot (by decide) r s rfl, fun r s => cmdTrustChallenge_foot (by decide) r s rfl, fun r s => cmdDebugUnlock_foot (by decide) r s rfl, fun r s => cmdVpConfigure_foot (by decide) r s rfl, fun r s => cmdVpSetMode_foot (by decide) r s rfl, fun r s => cmdVpTestFire_foot (by decide) r s rfl, fun r s => cmdVpGetStatus_foot (by decide) r s rfl, fun r s => cmdVpClearFault_foot (by decide) r s rfl, fun r s => cmdWgConfigure_foot (by decide) r s rfl, fun r s => cmdWgConnect_foot (by decide) r s rfl, fun r s => cmdWgSetGroup_foot (by decide) r s rfl, fun r s => cmdWgExport_foot (by decide) r s rfl, fun r s => cmdWgGetStatus_foot (by decide) r s rfl, fun r s => cmdLaneEyeScan_foot (by decide) _ _ _ r s rfl, fun r s => cmdFwCommitSvn_foot (by decide) _ r s rfl, fun r s => cmdTrustSetOwnerPolicy_foot (by decide) _ r s rfl, fun r s => cmdLogRead_foot (by decide) _ r s rfl, fun r s => cmdSchedAdd_foot (by decide) _ r s rfl, fun r s => cmdSchedCancel_foot (by decide) _ r s rfl, fun r s => cmdSchedGetStatus_foot (by decide) _ r s rfl, fun r s => cmdCompatGetInfo_foot (by decide) r s rfl⟩
theorem remoteCmd_foot {w : Nat} (h : 17452598886398 &&& w = 17452598886398) {op : Nat} {s0 : State} {c : Cmd} (e : remoteCmd op s0 = some c) (r : Req)
    (s : State) {m' : State} (hs : s.mask w = m') : (c.run r s).keeps w m' := by
  subst hs
  exact keeps_mono h (remoteCmds_foot s0 c (List.mem_of_find?_eq_some e) r s)
theorem remoteRun_foot {w : Nat} (h : 17452598886398 &&& w = 17452598886398) (c : RemoteCall) (s : State) {m : State} (hm : s.mask w = m) :
    (remoteRun c s).keeps w m := by
  subst hm
  refine keeps_mono h ?_
  unfold remoteRun
  refine ite_answer (keeps_fail.mpr trivial) ?_
  cases hk : remoteCmd c.op s with
  | none => exact keeps_fail.mpr trivial
  | some k =>
    refine Cmd_answer_keeps ?_ (remoteCmd_foot (by decide) hk _ _ ?_)
    all_goals
      rw [bumpFree_foot (by decide)]
      exact ite_keeps (wakeDevice_foot (by decide) ..) rfl
theorem remoteServe_foot {w : Nat} (h : 17452599083006 &&& w = 17452599083006) (c : RemoteCall) (s : State) :
    (remoteServe c s).mask w = s.mask w := by
  refine mask_mono h ?_
  unfold remoteServe
  repeat' (first | with_reducible rfl | assumption | (intro _) | with_reducible refine ite_keeps ?_ ?_ | with_reducible refine ite_answer ?_ ?_ | with_reducible apply checked_keeps | with_reducible apply withCtx_keeps | with_reducible apply withQueue_keeps | with_reducible apply corrCmd_keeps | (simp only [foldl_mask, remoteConclude_foot, remoteRun_foot, keeps_ok, keeps_started, keeps_fail, keeps_failWith, keeps_wait, keeps_next, Nat.reduceAnd]) | with_reducible apply foldl_keeps | dsimp only | split)
theorem remoteReq_foot {w : Nat} (h : 17452599083006 &&& w = 17452599083006) (src : Nat) (fn : Nat) (request : List Byte) (s : State) :
    (remoteReq src fn request s).mask w = s.mask w := by
  refine mask_mono h ?_
  unfold remoteReq
  repeat' (first | with_reducible rfl | assumption | (intro _) | with_reducible refine ite_keeps ?_ ?_ | with_reducible refine ite_answer ?_ ?_ | with_reducible apply checked_keeps | with_reducible apply withCtx_keeps | with_reducible apply withQueue_keeps | with_reducible apply corrCmd_keeps | (simp only [foldl_mask, remoteServe_foot, remoteConclude_foot, keeps_ok, keeps_started, keeps_fail, keeps_failWith, keeps_wait, keeps_next, Nat.reduceAnd]) | with_reducible apply foldl_keeps | dsimp only | split)
theorem ownersCommit_foot {w : Nat} (h : 8813273153536 &&& w = 8813273153536) (op : Nat) (r : Req) (s : State) {m : State} (hm : s.mask w = m) :
    (ownersCommit op r s).keeps w m := by
  subst hm
  refine keeps_mono h ?_
  unfold ownersCommit
  repeat' (first | with_reducible rfl | assumption | (intro _) | with_reducible refine ite_keeps ?_ ?_ | with_reducible refine ite_answer ?_ ?_ | with_reducible apply checked_keeps | with_reducible apply withCtx_keeps | with_reducible apply withQueue_keeps | with_reducible apply corrCmd_keeps | (simp only [mask_set_262144, foldl_mask, wgExportCommit_foot, pgSetRowCommit_foot, keeps_ok, keeps_started, keeps_fail, keeps_failWith, keeps_wait, keeps_next, Nat.reduceAnd]) | with_reducible apply foldl_keeps | dsimp only | split)
theorem remoteResp_foot {w : Nat} (h : 8813311131714 &&& w = 8813311131714) (src : Nat) (response : List Byte) (s : State) :
    (remoteResp src response s).mask w = s.mask w := by
  refine mask_mono h ?_
  unfold remoteResp
  have hw : (({ s with waiting := none } : State)).mask 8813311131714 = s.mask 8813311131714 := mask_set_262144 (by decide) s none
  have hf : ∀ v a, a.keeps 8813311131714 (s.mask 8813311131714) → (finishWait v a s).mask 8813311131714 = s.mask 8813311131714 := fun v a ha => finishWait_foot (by decide) v a s rfl ha
  cases s.waiting with
  | none => rfl
  | some v =>
    dsimp only
    cases s.waitReq v with
    | none => rfl
    | some r =>
      dsimp only
      refine ite_keeps rfl ?_
      split
      · refine ite_keeps rfl (ite_keeps ?_ (ite_keeps (hf _ _ (keeps_ok.mpr hw)) (hf _ _ (keeps_fail.mpr trivial))))
        rw [nextRequest_foot (by decide), respond_foot (by decide), hw]
      · refine ite_keeps rfl (ite_keeps (hf _ _ (keeps_fail.mpr trivial)) ?_)
        split
        · exact hf _ _ (ownersCommit_foot (by decide) _ _ _ rfl)
        · have ho := fun a b c d => askOwner_foot (w := 8813311131714) (by decide) a b c d { s with waiting := none } hw
          split
          · next heq => have := congrArg (fun a => a.keeps 8813311131714 (s.mask 8813311131714)) heq; exact keeps_wait.mp (this.mp (ho _ _ _ _))
          · exact hf _ _ (ho _ _ _ _)
      · rfl
theorem hiveReset_foot {w : Nat} (h : 16 &&& w = 16) (kind : Nat) (s : State) :
    (hiveReset kind s).mask w = s.mask w := by
  refine mask_mono h ?_
  unfold hiveReset
  repeat' (first | with_reducible rfl | assumption | (intro _) | with_reducible refine ite_keeps ?_ ?_ | with_reducible refine ite_answer ?_ ?_ | with_reducible apply checked_keeps | with_reducible apply withCtx_keeps | with_reducible apply withQueue_keeps | with_reducible apply corrCmd_keeps | (simp only [foldl_mask, resetLater_foot, keeps_ok, keeps_started, keeps_fail, keeps_failWith, keeps_wait, keeps_next, Nat.reduceAnd]) | with_reducible apply foldl_keeps | dsimp only | split)
theorem mirror_foot {w : Nat} (h : 33554464 &&& w = 33554464) (pieces : List (Nat × Nat)) (extOffset : Int) (extFrac : Nat) (extSince : Nat) (last : Bool) (s : State) :
    (mirror pieces extOffset extFrac extSince last s).mask w = s.mask w := by
  refine mask_mono h ?_
  unfold mirror
  repeat' (first | with_reducible rfl | assumption | (intro _) | with_reducible refine ite_keeps ?_ ?_ | with_reducible refine ite_answer ?_ ?_ | with_reducible apply checked_keeps | with_reducible apply withCtx_keeps | with_reducible apply withQueue_keeps | with_reducible apply corrCmd_keeps | (simp only [foldl_mask, modHive_foot, modClock_foot, keeps_ok, keeps_started, keeps_fail, keeps_failWith, keeps_wait, keeps_next, Nat.reduceAnd]) | with_reducible apply foldl_keeps | dsimp only | split)
theorem faultSummary_foot {w : Nat} (h : 34635842 &&& w = 34635842) (src : Nat) (sub : Nat) (body : List Byte) (s : State) :
    (faultSummary src sub body s).mask w = s.mask w := by
  refine mask_mono h ?_
  unfold faultSummary
  repeat' (first | with_reducible rfl | assumption | (intro _) | with_reducible refine ite_keeps ?_ ?_ | with_reducible refine ite_answer ?_ ?_ | with_reducible apply checked_keeps | with_reducible apply withCtx_keeps | with_reducible apply withQueue_keeps | with_reducible apply corrCmd_keeps | (simp only [foldl_mask, raise_foot, modHive_foot, keeps_ok, keeps_started, keeps_fail, keeps_failWith, keeps_wait, keeps_next, Nat.reduceAnd]) | with_reducible apply foldl_keeps | dsimp only | split)
theorem honeySummary_foot {w : Nat} (h : 64 &&& w = 64) (src : Nat) (body : List Byte) (s : State) :
    (honeySummary src body s).mask w = s.mask w := by
  refine mask_mono h ?_
  unfold honeySummary
  repeat' (first | with_reducible rfl | assumption | (intro _) | with_reducible refine ite_keeps ?_ ?_ | with_reducible refine ite_answer ?_ ?_ | with_reducible apply checked_keeps | with_reducible apply withCtx_keeps | with_reducible apply withQueue_keeps | with_reducible apply corrCmd_keeps | (simp only [foldl_mask, logNow_foot, keeps_ok, keeps_started, keeps_fail, keeps_failWith, keeps_wait, keeps_next, Nat.reduceAnd]) | with_reducible apply foldl_keeps | dsimp only | split)
theorem updateResult_foot {w : Nat} (h : 37748800 &&& w = 37748800) (src : Nat) (status : Nat) (missing : List (Nat × Nat)) (s : State) :
    (updateResult src status missing s).mask w = s.mask w := by
  refine mask_mono h ?_
  unfold updateResult
  repeat' (first | with_reducible rfl | assumption | (intro _) | with_reducible refine ite_keeps ?_ ?_ | with_reducible refine ite_answer ?_ ?_ | with_reducible apply checked_keeps | with_reducible apply withCtx_keeps | with_reducible apply withQueue_keeps | with_reducible apply corrCmd_keeps | (simp only [foldl_mask, sendRange_foot, sendUpdate_foot, modHive_foot, keeps_ok, keeps_started, keeps_fail, keeps_failWith, keeps_wait, keeps_next, Nat.reduceAnd]) | with_reducible apply foldl_keeps | dsimp only | split)
theorem sendResult_foot {w : Nat} (h : 37748800 &&& w = 37748800) (st : Nat) (missing : List (Nat × Nat)) (s : State) :
    (sendResult st missing s).mask w = s.mask w := by
  refine mask_mono h ?_
  unfold sendResult
  repeat' (first | with_reducible rfl | assumption | (intro _) | with_reducible refine ite_keeps ?_ ?_ | with_reducible refine ite_answer ?_ ?_ | with_reducible apply checked_keeps | with_reducible apply withCtx_keeps | with_reducible apply withQueue_keeps | with_reducible apply corrCmd_keeps | (simp only [foldl_mask, toManager_foot, keeps_ok, keeps_started, keeps_fail, keeps_failWith, keeps_wait, keeps_next, Nat.reduceAnd]) | with_reducible apply foldl_keeps | dsimp only | split)
theorem release_foot {w : Nat} (h : 16 &&& w = 16) (a0 : Holding) (s : State) :
    (release a0 s).mask w = s.mask w := by
  refine mask_mono h ?_
  unfold release
  repeat' (first | with_reducible rfl | assumption | (intro _) | with_reducible refine ite_keeps ?_ ?_ | with_reducible refine ite_answer ?_ ?_ | with_reducible apply checked_keeps | with_reducible apply withCtx_keeps | with_reducible apply withQueue_keeps | with_reducible apply corrCmd_keeps | (simp only [foldl_mask, modSys_foot, keeps_ok, keeps_started, keeps_fail, keeps_failWith, keeps_wait, keeps_next, Nat.reduceAnd]) | with_reducible apply foldl_keeps | dsimp only | split)
theorem updateRx_foot {w : Nat} (h : 37749330 &&& w = 37749330) (sub : Nat) (body : List Byte) (s : State) :
    (updateRx sub body s).mask w = s.mask w := by
  refine mask_mono h ?_
  unfold updateRx
  repeat' (first | with_reducible rfl | assumption | (intro _) | with_reducible refine ite_keeps ?_ ?_ | with_reducible refine ite_answer ?_ ?_ | with_reducible apply checked_keeps | with_reducible apply withCtx_keeps | with_reducible apply withQueue_keeps | with_reducible apply corrCmd_keeps | (simp only [foldl_mask, sendResult_foot, modTrust_foot, hold_foot, release_foot, eraseSlot_foot, modHive_foot, modSys_foot, keeps_ok, keeps_started, keeps_fail, keeps_failWith, keeps_wait, keeps_next, Nat.reduceAnd]) | with_reducible apply foldl_keeps | dsimp only | split)
theorem hmsgDeliver_foot {w : Nat} (h : 17590038560766 &&& w = 17590038560766) (a0 : Nat) (a1 : HMsg) (s : State) :
    (hmsgDeliver a0 a1 s).mask w = s.mask w := by
  refine mask_mono h ?_
  unfold hmsgDeliver
  repeat' (first | with_reducible rfl | assumption | (intro _) | with_reducible refine ite_keeps ?_ ?_ | with_reducible refine ite_answer ?_ ?_ | with_reducible apply checked_keeps | with_reducible apply withCtx_keeps | with_reducible apply withQueue_keeps | with_reducible apply corrCmd_keeps | (simp only [foldl_mask, joinMsg_foot, wgImport_foot, ejectPulses_foot, ejectDecision_foot, cellServerMsg_foot, alive_foot, reroute_foot, extOffsetMsg_foot, announced_foot, remoteReq_foot, remoteResp_foot, hiveReset_foot, mirror_foot, faultSummary_foot, honeySummary_foot, updateResult_foot, updateRx_foot, keeps_ok, keeps_started, keeps_fail, keeps_failWith, keeps_wait, keeps_next, Nat.reduceAnd]) | with_reducible apply foldl_keeps | dsimp only | split)
theorem vc3Hold_foot {w : Nat} (h : 33554432 &&& w = 33554432) (a0 : Nat) (a1 : HMsg) (s : State) :
    (vc3Hold a0 a1 s).mask w = s.mask w := by
  refine mask_mono h ?_
  unfold vc3Hold
  repeat' (first | with_reducible rfl | assumption | (intro _) | with_reducible refine ite_keeps ?_ ?_ | with_reducible refine ite_answer ?_ ?_ | with_reducible apply checked_keeps | with_reducible apply withCtx_keeps | with_reducible apply withQueue_keeps | with_reducible apply corrCmd_keeps | (simp only [foldl_mask, modHive_foot, keeps_ok, keeps_started, keeps_fail, keeps_failWith, keeps_wait, keeps_next, Nat.reduceAnd]) | with_reducible apply foldl_keeps | dsimp only | split)
theorem arrive_foot {w : Nat} (h : 17590038560766 &&& w = 17590038560766) (a0 : Nat) (a1 : HMsg) (s : State) :
    (arrive a0 a1 s).mask w = s.mask w := by
  refine mask_mono h ?_
  unfold arrive
  repeat' (first | with_reducible rfl | assumption | (intro _) | with_reducible refine ite_keeps ?_ ?_ | with_reducible refine ite_answer ?_ ?_ | with_reducible apply checked_keeps | with_reducible apply withCtx_keeps | with_reducible apply withQueue_keeps | with_reducible apply corrCmd_keeps | (simp only [foldl_mask, hmsgDeliver_foot, keeperWork_foot, vc3Hold_foot, keeps_ok, keeps_started, keeps_fail, keeps_failWith, keeps_wait, keeps_next, Nat.reduceAnd]) | with_reducible apply foldl_keeps | dsimp only | split)
theorem sendCctl_foot {w : Nat} (h : 4194304 &&& w = 4194304) (a0 : Nat) (op : Nat) (tag : Nat) (status : Nat) (addr : Nat) (len : Nat) (data : List Byte) (s : State) :
    (sendCctl a0 op tag status addr len data s).mask w = s.mask w := by
  refine mask_mono h ?_
  unfold sendCctl
  repeat' (first | with_reducible rfl | assumption | (intro _) | with_reducible refine ite_keeps ?_ ?_ | with_reducible refine ite_answer ?_ ?_ | with_reducible apply checked_keeps | with_reducible apply withCtx_keeps | with_reducible apply withQueue_keeps | with_reducible apply corrCmd_keeps | (simp only [foldl_mask, queuePacket_foot, keeps_ok, keeps_started, keeps_fail, keeps_failWith, keeps_wait, keeps_next, Nat.reduceAnd]) | with_reducible apply foldl_keeps | dsimp only | split)
theorem askDescriptor_foot {w : Nat} (h : 4194304 &&& w = 4194304) (a0 : Nat) (s : State) :
    (askDescriptor a0 s).mask w = s.mask w := by
  refine mask_mono h ?_
  unfold askDescriptor
  repeat' (first | with_reducible rfl | assumption | (intro _) | with_reducible refine ite_keeps ?_ ?_ | with_reducible refine ite_answer ?_ ?_ | with_reducible apply checked_keeps | with_reducible apply withCtx_keeps | with_reducible apply withQueue_keeps | with_reducible apply corrCmd_keeps | (simp only [foldl_mask, sendCctl_foot, modLink_foot, keeps_ok, keeps_started, keeps_fail, keeps_failWith, keeps_wait, keeps_next, Nat.reduceAnd]) | with_reducible apply foldl_keeps | dsimp only | split)
theorem loseLine_foot {w : Nat} (h : 67108864 &&& w = 67108864) (c : Nat) (pos : Nat) (s : State) :
    (loseLine c pos s).mask w = s.mask w := by
  refine mask_mono h ?_
  unfold loseLine
  repeat' (first | with_reducible rfl | assumption | (intro _) | with_reducible refine ite_keeps ?_ ?_ | with_reducible refine ite_answer ?_ ?_ | with_reducible apply checked_keeps | with_reducible apply withCtx_keeps | with_reducible apply withQueue_keeps | with_reducible apply corrCmd_keeps | (simp only [foldl_mask, modCtx_foot, keeps_ok, keeps_started, keeps_fail, keeps_failWith, keeps_wait, keeps_next, Nat.reduceAnd]) | with_reducible apply foldl_keeps | dsimp only | split)
theorem breakLine_foot {w : Nat} (h : 68190282 &&& w = 68190282) (c : Nat) (pos : Nat) (s : State) :
    (breakLine c pos s).mask w = s.mask w := by
  refine mask_mono h ?_
  unfold breakLine
  repeat' (first | with_reducible rfl | assumption | (intro _) | with_reducible refine ite_keeps ?_ ?_ | with_reducible refine ite_answer ?_ ?_ | with_reducible apply checked_keeps | with_reducible apply withCtx_keeps | with_reducible apply withQueue_keeps | with_reducible apply corrCmd_keeps | (simp only [foldl_mask, countLost_foot, loseLine_foot, keeps_ok, keeps_started, keeps_fail, keeps_failWith, keeps_wait, keeps_next, Nat.reduceAnd]) | with_reducible apply foldl_keeps | dsimp only | split)
theorem loseStored_foot {w : Nat} (h : 68190282 &&& w = 68190282) (c : Nat) (n : Nat) (s : State) :
    (loseStored c n s).mask w = s.mask w := by
  refine mask_mono h ?_
  unfold loseStored
  repeat' (first | with_reducible rfl | assumption | (intro _) | with_reducible refine ite_keeps ?_ ?_ | with_reducible refine ite_answer ?_ ?_ | with_reducible apply checked_keeps | with_reducible apply withCtx_keeps | with_reducible apply withQueue_keeps | with_reducible apply corrCmd_keeps | (simp only [foldl_mask, breakLine_foot, countLost_foot, modCtx_foot, keeps_ok, keeps_started, keeps_fail, keeps_failWith, keeps_wait, keeps_next, Nat.reduceAnd]) | with_reducible apply foldl_keeps | dsimp only | split)
theorem loseItem_foot {w : Nat} (h : 8657043456 &&& w = 8657043456) (a : Nat) (i : Nat) (s : State) :
    (loseItem a i s).mask w = s.mask w := by
  refine mask_mono h ?_
  unfold loseItem
  repeat' (first | with_reducible rfl | assumption | (intro _) | with_reducible refine ite_keeps ?_ ?_ | with_reducible refine ite_answer ?_ ?_ | with_reducible apply checked_keeps | with_reducible apply withCtx_keeps | with_reducible apply withQueue_keeps | with_reducible apply corrCmd_keeps | (simp only [foldl_mask, countCtx_foot, modAsm_foot, keeps_ok, keeps_started, keeps_fail, keeps_failWith, keeps_wait, keeps_next, Nat.reduceAnd]) | with_reducible apply foldl_keeps | dsimp only | split)
theorem loseAction_foot {w : Nat} (h : 274878988362 &&& w = 274878988362) (slot : Nat) (s : State) :
    (loseAction slot s).mask w = s.mask w := by
  refine mask_mono h ?_
  unfold loseAction
  repeat' (first | with_reducible rfl | assumption | (intro _) | with_reducible refine ite_keeps ?_ ?_ | with_reducible refine ite_answer ?_ ?_ | with_reducible apply checked_keeps | with_reducible apply withCtx_keeps | with_reducible apply withQueue_keeps | with_reducible apply corrCmd_keeps | (simp only [foldl_mask, freeAction_foot, modFlight_foot, schedDrop_foot, keeps_ok, keeps_started, keeps_fail, keeps_failWith, keeps_wait, keeps_next, Nat.reduceAnd]) | with_reducible apply foldl_keeps | dsimp only | split)
theorem loseCopy_foot {w : Nat} (h : 67108864 &&& w = 67108864) (c : Nat) (s : State) :
    (loseCopy c s).mask w = s.mask w := by
  refine mask_mono h ?_
  unfold loseCopy
  repeat' (first | with_reducible rfl | assumption | (intro _) | with_reducible refine ite_keeps ?_ ?_ | with_reducible refine ite_answer ?_ ?_ | with_reducible apply checked_keeps | with_reducible apply withCtx_keeps | with_reducible apply withQueue_keeps | with_reducible apply corrCmd_keeps | (simp only [foldl_mask, modCtx_foot, keeps_ok, keeps_started, keeps_fail, keeps_failWith, keeps_wait, keeps_next, Nat.reduceAnd]) | with_reducible apply foldl_keeps | dsimp only | split)
theorem keeperForgets_foot {w : Nat} (h : 4332978768 &&& w = 4332978768) (s : State) :
    (keeperForgets s).mask w = s.mask w := by
  refine mask_mono h ?_
  unfold keeperForgets
  repeat' (first | with_reducible rfl | assumption | (intro _) | with_reducible refine ite_keeps ?_ ?_ | with_reducible refine ite_answer ?_ ?_ | with_reducible apply checked_keeps | with_reducible apply withCtx_keeps | with_reducible apply withQueue_keeps | with_reducible apply corrCmd_keeps | (simp only [mask_set_4295229440, foldl_mask, modTrust_foot, modSys_foot, modHive_foot, sendResult_foot, keeps_ok, keeps_started, keeps_fail, keeps_failWith, keeps_wait, keeps_next, Nat.reduceAnd]) | with_reducible apply foldl_keeps | dsimp only | split)
theorem readyFalls_foot {w : Nat} (h : 32786 &&& w = 32786) (s : State) :
    (readyFalls s).mask w = s.mask w := by
  refine mask_mono h ?_
  unfold readyFalls
  repeat' (first | with_reducible rfl | assumption | (intro _) | with_reducible refine ite_keeps ?_ ?_ | with_reducible refine ite_answer ?_ ?_ | with_reducible apply checked_keeps | with_reducible apply withCtx_keeps | with_reducible apply withQueue_keeps | with_reducible apply corrCmd_keeps | (simp only [foldl_mask, setIntxAll_foot, modSys_foot, keeps_ok, keeps_started, keeps_fail, keeps_failWith, keeps_wait, keeps_next, Nat.reduceAnd]) | with_reducible apply foldl_keeps | dsimp only | split)
theorem startImage_foot {w : Nat} (h : 528 &&& w = 528) (slot : Nat) (s : State) :
    (startImage slot s).mask w = s.mask w := by
  refine mask_mono h ?_
  unfold startImage
  repeat' (first | with_reducible rfl | assumption | (intro _) | with_reducible refine ite_keeps ?_ ?_ | with_reducible refine ite_answer ?_ ?_ | with_reducible apply checked_keeps | with_reducible apply withCtx_keeps | with_reducible apply withQueue_keeps | with_reducible apply corrCmd_keeps | (simp only [foldl_mask, modTrust_foot, modSys_foot, keeps_ok, keeps_started, keeps_fail, keeps_failWith, keeps_wait, keeps_next, Nat.reduceAnd]) | with_reducible apply foldl_keeps | dsimp only | split)
theorem restartKeeper_foot {w : Nat} (h : 4333011538 &&& w = 4333011538) (cause : RestartCause) (s : State) :
    (restartKeeper cause s).mask w = s.mask w := by
  refine mask_mono h ?_
  unfold restartKeeper
  repeat' (first | with_reducible rfl | assumption | (intro _) | with_reducible refine ite_keeps ?_ ?_ | with_reducible refine ite_answer ?_ ?_ | with_reducible apply checked_keeps | with_reducible apply withCtx_keeps | with_reducible apply withQueue_keeps | with_reducible apply corrCmd_keeps | (simp only [foldl_mask, logNow_foot, honey_foot, keeperForgets_foot, readyFalls_foot, modSys_foot, modKeeper_foot, startImage_foot, modTrust_foot, keeps_ok, keeps_started, keeps_fail, keeps_failWith, keeps_wait, keeps_next, Nat.reduceAnd]) | with_reducible apply foldl_keeps | dsimp only | split)
theorem trialFault_foot {w : Nat} (h : 512 &&& w = 512) (s : State) :
    (trialFault s).mask w = s.mask w := by
  refine mask_mono h ?_
  unfold trialFault
  repeat' (first | with_reducible rfl | assumption | (intro _) | with_reducible refine ite_keeps ?_ ?_ | with_reducible refine ite_answer ?_ ?_ | with_reducible apply checked_keeps | with_reducible apply withCtx_keeps | with_reducible apply withQueue_keeps | with_reducible apply corrCmd_keeps | (simp only [foldl_mask, modTrust_foot, keeps_ok, keeps_started, keeps_fail, keeps_failWith, keeps_wait, keeps_next, Nat.reduceAnd]) | with_reducible apply foldl_keeps | dsimp only | split)
theorem keeperFault_foot {w : Nat} (h : 4333040210 &&& w = 4333040210) (bank : Bool) (s : State) :
    (keeperFault bank s).mask w = s.mask w := by
  refine mask_mono h ?_
  unfold keeperFault
  repeat' (first | with_reducible rfl | assumption | (intro _) | with_reducible refine ite_keeps ?_ ?_ | with_reducible refine ite_answer ?_ ?_ | with_reducible apply checked_keeps | with_reducible apply withCtx_keeps | with_reducible apply withQueue_keeps | with_reducible apply corrCmd_keeps | (simp only [foldl_mask, restartKeeper_foot, trialFault_foot, detectFault_foot, keeps_ok, keeps_started, keeps_fail, keeps_failWith, keeps_wait, keeps_next, Nat.reduceAnd]) | with_reducible apply foldl_keeps | dsimp only | split)
theorem badWord_foot {w : Nat} (h : 425442210394 &&& w = 425442210394) (b : Nat) (held : BadWord) (s : State) :
    (badWord b held s).mask w = s.mask w := by
  refine mask_mono h ?_
  unfold badWord
  repeat' (first | with_reducible rfl | assumption | (intro _) | with_reducible refine ite_keeps ?_ ?_ | with_reducible refine ite_answer ?_ ?_ | with_reducible apply checked_keeps | with_reducible apply withCtx_keeps | with_reducible apply withQueue_keeps | with_reducible apply corrCmd_keeps | (simp only [mask_set_412316860416, foldl_mask, loseStored_foot, combFault_foot, dropCell_foot, loseItem_foot, queueError_foot, loseAction_foot, loseCopy_foot, keeperFault_foot, keeps_ok, keeps_started, keeps_fail, keeps_failWith, keeps_wait, keeps_next, Nat.reduceAnd]) | with_reducible apply foldl_keeps | dsimp only | split)
theorem hbWrite_foot {w : Nat} (h : 32770 &&& w = 32770) (f : Nat) (l : List (Nat × Byte)) (s : State) :
    (hbWrite f l s).mask w = s.mask w := by
  refine mask_mono h ?_
  unfold hbWrite
  repeat' (first | with_reducible rfl | assumption | (intro _) | with_reducible refine ite_keeps ?_ ?_ | with_reducible refine ite_answer ?_ ?_ | with_reducible apply checked_keeps | with_reducible apply withCtx_keeps | with_reducible apply withQueue_keeps | with_reducible apply corrCmd_keeps | (simp only [foldl_mask, intxUpdate_foot, modHp_foot, keeps_ok, keeps_started, keeps_fail, keeps_failWith, keeps_wait, keeps_next, Nat.reduceAnd]) | with_reducible apply foldl_keeps | dsimp only | split)
theorem mbxError_foot {w : Nat} (h : 32832 &&& w = 32832) (f : Nat) (s : State) :
    (mbxError f s).mask w = s.mask w := by
  refine mask_mono h ?_
  unfold mbxError
  repeat' (first | with_reducible rfl | assumption | (intro _) | with_reducible refine ite_keeps ?_ ?_ | with_reducible refine ite_answer ?_ ?_ | with_reducible apply checked_keeps | with_reducible apply withCtx_keeps | with_reducible apply withQueue_keeps | with_reducible apply corrCmd_keeps | (simp only [foldl_mask, honey_foot, countHp_foot, keeps_ok, keeps_started, keeps_fail, keeps_failWith, keeps_wait, keeps_next, Nat.reduceAnd]) | with_reducible apply foldl_keeps | dsimp only | split)
theorem mbxAbort_foot {w : Nat} (h : 38240322 &&& w = 38240322) (f : Nat) (a1 : Nat) (s : State) :
    (mbxAbort f a1 s).mask w = s.mask w := by
  refine mask_mono h ?_
  unfold mbxAbort
  repeat' (first | with_reducible rfl | assumption | (intro _) | with_reducible refine ite_keeps ?_ ?_ | with_reducible refine ite_answer ?_ ?_ | with_reducible apply checked_keeps | with_reducible apply withCtx_keeps | with_reducible apply withQueue_keeps | with_reducible apply corrCmd_keeps | (simp only [mask_set_393216, foldl_mask, modMbx_foot, nextRequest_foot, keeps_ok, keeps_started, keeps_fail, keeps_failWith, keeps_wait, keeps_next, Nat.reduceAnd]) | with_reducible apply foldl_keeps | dsimp only | split)
theorem mbxGo_foot {w : Nat} (h : 37978178 &&& w = 37978178) (f : Nat) (a1 : Nat) (s : State) :
    (mbxGo f a1 s).mask w = s.mask w := by
  refine mask_mono h ?_
  unfold mbxGo
  repeat' (first | with_reducible rfl | assumption | (intro _) | with_reducible refine ite_keeps ?_ ?_ | with_reducible refine ite_answer ?_ ?_ | with_reducible apply checked_keeps | with_reducible apply withCtx_keeps | with_reducible apply withQueue_keeps | with_reducible apply corrCmd_keeps | (simp only [mask_set_131072, foldl_mask, nextRequest_foot, modMbx_foot, keeperWork_foot, mbxError_foot, keeps_ok, keeps_started, keeps_fail, keeps_failWith, keeps_wait, keeps_next, Nat.reduceAnd]) | with_reducible apply foldl_keeps | dsimp only | split)
theorem mbxWrite_foot {w : Nat} (h : 38240322 &&& w = 38240322) (f : Nat) (a1 : Nat) (l : List (Nat × Byte)) (s : State) :
    (mbxWrite f a1 l s).mask w = s.mask w := by
  refine mask_mono h ?_
  unfold mbxWrite
  repeat' (first | with_reducible rfl | assumption | (intro _) | with_reducible refine ite_keeps ?_ ?_ | with_reducible refine ite_answer ?_ ?_ | with_reducible apply checked_keeps | with_reducible apply withCtx_keeps | with_reducible apply withQueue_keeps | with_reducible apply corrCmd_keeps | (simp only [foldl_mask, mbxError_foot, modMbx_foot, mbxAbort_foot, mbxGo_foot, keeps_ok, keeps_started, keeps_fail, keeps_failWith, keeps_wait, keeps_next, Nat.reduceAnd]) | with_reducible apply foldl_keeps | dsimp only | split)
theorem wgFire_foot {w : Nat} (h : 17042469060682 &&& w = 17042469060682) (f : Nat) (cs : List Nat) (s : State) :
    (wgFire f cs s).mask w = s.mask w := by
  refine mask_mono h ?_
  unfold wgFire
  repeat' (first | with_reducible rfl | assumption | (intro _) | with_reducible refine ite_keeps ?_ ?_ | with_reducible refine ite_answer ?_ ?_ | with_reducible apply checked_keeps | with_reducible apply withCtx_keeps | with_reducible apply withQueue_keeps | with_reducible apply corrCmd_keeps | (simp only [foldl_mask, countHp_foot, originate_foot, keeps_ok, keeps_started, keeps_fail, keeps_failWith, keeps_wait, keeps_next, Nat.reduceAnd]) | with_reducible apply foldl_keeps | dsimp only | split)
theorem modWin_foot {w : Nat} (h : 32768 &&& w = 32768) (f : Nat) (a1 : Nat) (g : PeerWin → PeerWin) (s : State) :
    (modWin f a1 g s).mask w = s.mask w := by
  refine mask_mono h ?_
  unfold modWin
  repeat' (first | with_reducible rfl | assumption | (intro _) | with_reducible refine ite_keeps ?_ ?_ | with_reducible refine ite_answer ?_ ?_ | with_reducible apply checked_keeps | with_reducible apply withCtx_keeps | with_reducible apply withQueue_keeps | with_reducible apply corrCmd_keeps | (simp only [foldl_mask, modHp_foot, keeps_ok, keeps_started, keeps_fail, keeps_failWith, keeps_wait, keeps_next, Nat.reduceAnd]) | with_reducible apply foldl_keeps | dsimp only | split)
theorem winCommit_foot {w : Nat} (h : 32768 &&& w = 32768) (f : Nat) (a1 : Nat) (enable : Bool) (s : State) :
    (winCommit f a1 enable s).mask w = s.mask w := by
  refine mask_mono h ?_
  unfold winCommit
  repeat' (first | with_reducible rfl | assumption | (intro _) | with_reducible refine ite_keeps ?_ ?_ | with_reducible refine ite_answer ?_ ?_ | with_reducible apply checked_keeps | with_reducible apply withCtx_keeps | with_reducible apply withQueue_keeps | with_reducible apply corrCmd_keeps | (simp only [foldl_mask, modWin_foot, keeps_ok, keeps_started, keeps_fail, keeps_failWith, keeps_wait, keeps_next, Nat.reduceAnd]) | with_reducible apply foldl_keeps | dsimp only | split)
theorem winWrite_foot {w : Nat} (h : 32768 &&& w = 32768) (f : Nat) (a1 : Nat) (l : List (Nat × Byte)) (s : State) :
    (winWrite f a1 l s).mask w = s.mask w := by
  refine mask_mono h ?_
  unfold winWrite
  repeat' (first | with_reducible rfl | assumption | (intro _) | with_reducible refine ite_keeps ?_ ?_ | with_reducible refine ite_answer ?_ ?_ | with_reducible apply checked_keeps | with_reducible apply withCtx_keeps | with_reducible apply withQueue_keeps | with_reducible apply corrCmd_keeps | (simp only [foldl_mask, modWin_foot, winCommit_foot, keeps_ok, keeps_started, keeps_fail, keeps_failWith, keeps_wait, keeps_next, Nat.reduceAnd]) | with_reducible apply foldl_keeps | dsimp only | split)
theorem bar0Write_foot {w : Nat} (h : 17042469519434 &&& w = 17042469519434) (f : Nat) (off : Nat) (d : List (Option Byte)) (s : State) :
    (bar0Write f off d s).mask w = s.mask w := by
  refine mask_mono h ?_
  unfold bar0Write
  repeat' (first | with_reducible rfl | assumption | (intro _) | with_reducible refine ite_keeps ?_ ?_ | with_reducible refine ite_answer ?_ ?_ | with_reducible apply checked_keeps | with_reducible apply withCtx_keeps | with_reducible apply withQueue_keeps | with_reducible apply corrCmd_keeps | (simp only [foldl_mask, hbWrite_foot, mbxWrite_foot, wgFire_foot, winWrite_foot, keeps_ok, keeps_started, keeps_fail, keeps_failWith, keeps_wait, keeps_next, Nat.reduceAnd]) | with_reducible apply foldl_keeps | dsimp only | split)
theorem becomeManager_foot {w : Nat} (h : 35160162 &&& w = 35160162) (id : Nat) (s : State) :
    (becomeManager id s).mask w = s.mask w := by
  refine mask_mono h ?_
  unfold becomeManager
  repeat' (first | with_reducible rfl | assumption | (intro _) | with_reducible refine ite_keeps ?_ ?_ | with_reducible refine ite_answer ?_ ?_ | with_reducible apply checked_keeps | with_reducible apply withCtx_keeps | with_reducible apply withQueue_keeps | with_reducible apply corrCmd_keeps | (simp only [mask_set_524288, foldl_mask, modHive_foot, hiveChanged_foot, evalSource_foot, setValid_foot, keeps_ok, keeps_started, keeps_fail, keeps_failWith, keeps_wait, keeps_next, Nat.reduceAnd]) | with_reducible apply foldl_keeps | dsimp only | split)
theorem discardLong_foot {w : Nat} (h : 67108864 &&& w = 67108864) (c : Nat) (n : Nat) (s : State) :
    (discardLong c n s).mask w = s.mask w := by
  refine mask_mono h ?_
  unfold discardLong
  repeat' (first | with_reducible rfl | assumption | (intro _) | with_reducible refine ite_keeps ?_ ?_ | with_reducible refine ite_answer ?_ ?_ | with_reducible apply checked_keeps | with_reducible apply withCtx_keeps | with_reducible apply withQueue_keeps | with_reducible apply corrCmd_keeps | (simp only [foldl_mask, modCtx_foot, keeps_ok, keeps_started, keeps_fail, keeps_failWith, keeps_wait, keeps_next, Nat.reduceAnd]) | with_reducible apply foldl_keeps | dsimp only | split)
theorem closeFrame_foot {w : Nat} (h : 68190274 &&& w = 68190274) (c : Nat) (carried : Option Nat) (long : Bool) (s : State) :
    (closeFrame c carried long s).mask w = s.mask w := by
  refine mask_mono h ?_
  unfold closeFrame
  repeat' (first | with_reducible rfl | assumption | (intro _) | with_reducible refine ite_keeps ?_ ?_ | with_reducible refine ite_answer ?_ ?_ | with_reducible apply checked_keeps | with_reducible apply withCtx_keeps | with_reducible apply withQueue_keeps | with_reducible apply corrCmd_keeps | (simp only [foldl_mask, modCtx_foot, raiseCtx_foot, countCtx_foot, keeps_ok, keeps_started, keeps_fail, keeps_failWith, keeps_wait, keeps_next, Nat.reduceAnd]) | with_reducible apply foldl_keeps | dsimp only | split)
theorem passBy_foot {w : Nat} (h : 68190282 &&& w = 68190282) (c : Nat) (k : Nat) (pos : Nat) (s : State) :
    (passBy c k pos s).mask w = s.mask w := by
  refine mask_mono h ?_
  unfold passBy
  repeat' (first | with_reducible rfl | assumption | (intro _) | with_reducible refine ite_keeps ?_ ?_ | with_reducible refine ite_answer ?_ ?_ | with_reducible apply checked_keeps | with_reducible apply withCtx_keeps | with_reducible apply withQueue_keeps | with_reducible apply corrCmd_keeps | (simp only [foldl_mask, countLost_foot, modCtx_foot, keeps_ok, keeps_started, keeps_fail, keeps_failWith, keeps_wait, keeps_next, Nat.reduceAnd]) | with_reducible apply foldl_keeps | dsimp only | split)
theorem reserveLine_foot {w : Nat} (h : 68190282 &&& w = 68190282) (c : Nat) (k : Nat) (n : Nat) (idx : Nat) (s : State) :
    (reserveLine c k n idx s).2.mask w = s.mask w := by
  refine mask_mono h ?_
  unfold reserveLine
  repeat' (first | with_reducible rfl | assumption | (intro _) | with_reducible refine ite_keeps ?_ ?_ | with_reducible refine ite_answer ?_ ?_ | with_reducible apply checked_keeps | with_reducible apply withCtx_keeps | with_reducible apply withQueue_keeps | with_reducible apply corrCmd_keeps | (simp only [foldl_mask, modCtx_foot, passBy_foot, loseLine_foot, countCtx_foot, paced_foot, raiseCtx_foot, keeps_ok, keeps_started, keeps_fail, keeps_failWith, keeps_wait, keeps_next, Nat.reduceAnd]) | with_reducible apply foldl_keeps | dsimp only | split)
theorem beginLine_foot {w : Nat} (h : 72384586 &&& w = 72384586) (c : Nat) (k : Nat) (n : Nat) (s : State) :
    (beginLine c k n s).2.mask w = s.mask w := by
  refine mask_mono h ?_
  unfold beginLine
  repeat' (first | with_reducible rfl | assumption | (intro _) | with_reducible refine ite_keeps ?_ ?_ | with_reducible refine ite_answer ?_ ?_ | with_reducible apply checked_keeps | with_reducible apply withCtx_keeps | with_reducible apply withQueue_keeps | with_reducible apply corrCmd_keeps | (simp only [foldl_mask, modCtx_foot, countLink_foot, discardLong_foot, countCtx_foot, closeFrame_foot, reserveLine_foot, keeps_ok, keeps_started, keeps_fail, keeps_failWith, keeps_wait, keeps_next, Nat.reduceAnd]) | with_reducible apply foldl_keeps | dsimp only | split)
theorem beginTraining_foot {w : Nat} (h : 2 &&& w = 2) (f : Nat) (s : State) :
    (beginTraining f s).mask w = s.mask w := by
  refine mask_mono h ?_
  unfold beginTraining
  repeat' (first | with_reducible rfl | assumption | (intro _) | with_reducible refine ite_keeps ?_ ?_ | with_reducible refine ite_answer ?_ ?_ | with_reducible apply checked_keeps | with_reducible apply withCtx_keeps | with_reducible apply withQueue_keeps | with_reducible apply corrCmd_keeps | (simp only [foldl_mask, emit_foot, keeps_ok, keeps_started, keeps_fail, keeps_failWith, keeps_wait, keeps_next, Nat.reduceAnd]) | with_reducible apply foldl_keeps | dsimp only | split)
theorem bootPolicy_foot {w : Nat} (h : 1081938 &&& w = 1081938) (s : State) :
    (bootPolicy s).mask w = s.mask w := by
  refine mask_mono h ?_
  unfold bootPolicy
  repeat' (first | with_reducible rfl | assumption | (intro _) | with_reducible refine ite_keeps ?_ ?_ | with_reducible refine ite_answer ?_ ?_ | with_reducible apply checked_keeps | with_reducible apply withCtx_keeps | with_reducible apply withQueue_keeps | with_reducible apply corrCmd_keeps | (simp only [foldl_mask, takePolicy_foot, modSys_foot, modTrust_foot, raise_foot, keeps_ok, keeps_started, keeps_fail, keeps_failWith, keeps_wait, keeps_next, Nat.reduceAnd]) | with_reducible apply foldl_keeps | dsimp only | split)
theorem broodCell_foot {w : Nat} (h : 8658124874 &&& w = 8658124874) (a : Nat) (ctx : Nat) (ref : Nat) (id : Nat) (group : Option Nat) (deadline : Nat) (entry : Nat) (header : Nat → Bool → List Byte) (payload : List Byte) (s : State) :
    (broodCell a ctx ref id group deadline entry header payload s).2.mask w = s.mask w := by
  refine mask_mono h ?_
  unfold broodCell
  repeat' (first | with_reducible rfl | assumption | (intro _) | with_reducible refine ite_keeps ?_ ?_ | with_reducible refine ite_answer ?_ ?_ | with_reducible apply checked_keeps | with_reducible apply withCtx_keeps | with_reducible apply withQueue_keeps | with_reducible apply corrCmd_keeps | (simp only [foldl_mask, paced_foot, raiseCtx_foot, modCtx_foot, modAsm_foot, countCtx_foot, keeps_ok, keeps_started, keeps_fail, keeps_failWith, keeps_wait, keeps_next, Nat.reduceAnd]) | with_reducible apply foldl_keeps | dsimp only | split)

end Sys2Proof.Machine
end

