-- ==== Sys2Proof/Laws/Foot9.lean ====
section
/-! SUPPORT. What each operation leaves as it was, part 9 of 18: of state `s` it changes no field outside the set of its
footprint (a bit for each field, in the order of Field). -/
set_option linter.all false
set_option maxRecDepth 4000
open Sys2Proof Sys2Proof.Machine
namespace Sys2Proof.Machine

theorem countPin_foot {w : Nat} (h : 4398046511104 &&& w = 4398046511104) (p : Nat) (k : PinCnt) (s : State) :
    (countPin p k s).mask w = s.mask w := by
  refine mask_mono h ?_
  unfold countPin
  repeat' (first | with_reducible rfl | assumption | (intro _) | with_reducible refine ite_keeps ?_ ?_ | with_reducible refine ite_answer ?_ ?_ | with_reducible apply checked_keeps | with_reducible apply withCtx_keeps | with_reducible apply withQueue_keeps | with_reducible apply corrCmd_keeps | (simp only [foldl_mask, modPin_foot, keeps_ok, keeps_started, keeps_fail, keeps_failWith, keeps_wait, keeps_next, Nat.reduceAnd]) | with_reducible apply foldl_keeps | dsimp only | split)
theorem capture_foot {w : Nat} (h : 4398047592514 &&& w = 4398047592514) (p : Nat) (s : State) :
    (capture p s).mask w = s.mask w := by
  refine mask_mono h ?_
  unfold capture
  have h0 : ∀ l, (countPin p l s).mask 4398047592514 = s.mask 4398047592514 := fun l => countPin_foot (by decide) ..
  extract_lets v c s1 report s2
  have h1 : s1.mask 4398047592514 = s.mask 4398047592514 := by
    show (countPin p .cap (if v.unread then countPin p .capLost s else s)).mask 4398047592514 = _
    rw [countPin_foot (by decide)]; exact ite_keeps (h0 _) rfl
  have h2 : s2.mask 4398047592514 = s.mask 4398047592514 := by show (modPin p _ s1).mask 4398047592514 = _; rw [modPin_foot (by decide), h1]
  clear_value s2
  exact ite_keeps (by rw [raise_foot (by decide), h2]) h2
theorem carryHoney_foot {w : Nat} (h : 64 &&& w = 64) (p : ValvePort) (g : Nat) (x : Valve) (s : State) :
    (carryHoney p g x s).mask w = s.mask w := by
  refine mask_mono h ?_
  unfold carryHoney
  repeat' (first | with_reducible rfl | assumption | (intro _) | with_reducible refine ite_keeps ?_ ?_ | with_reducible refine ite_answer ?_ ?_ | with_reducible apply checked_keeps | with_reducible apply withCtx_keeps | with_reducible apply withQueue_keeps | with_reducible apply corrCmd_keeps | (simp only [foldl_mask, honeyN_foot, keeps_ok, keeps_started, keeps_fail, keeps_failWith, keeps_wait, keeps_next, Nat.reduceAnd]) | with_reducible apply foldl_keeps | dsimp only | split)
theorem descriptorRead_foot {w : Nat} (h : 38830150 &&& w = 38830150) (a0 : Nat) (d : List Byte) (s : State) :
    (descriptorRead a0 d s).mask w = s.mask w := by
  refine mask_mono h ?_
  unfold descriptorRead
  repeat' (first | with_reducible rfl | assumption | (intro _) | with_reducible refine ite_keeps ?_ ?_ | with_reducible refine ite_answer ?_ ?_ | with_reducible apply checked_keeps | with_reducible apply withCtx_keeps | with_reducible apply withQueue_keeps | with_reducible apply corrCmd_keeps | (simp only [foldl_mask, modLink_foot, announceServer_foot, raiseCtx_foot, keeps_ok, keeps_started, keeps_fail, keeps_failWith, keeps_wait, keeps_next, Nat.reduceAnd]) | with_reducible apply foldl_keeps | dsimp only | split)
theorem cctlAck_foot {w : Nat} (h : 38830150 &&& w = 38830150) (l : Nat) (write : Bool) (tag : Nat) (status : Nat) (data : List Byte) (s : State) :
    (cctlAck l write tag status data s).mask w = s.mask w := by
  refine mask_mono h ?_
  unfold cctlAck
  repeat' (first | with_reducible rfl | assumption | (intro _) | with_reducible refine ite_keeps ?_ ?_ | with_reducible refine ite_answer ?_ ?_ | with_reducible apply checked_keeps | with_reducible apply withCtx_keeps | with_reducible apply withQueue_keeps | with_reducible apply corrCmd_keeps | (simp only [foldl_mask, countLink_foot, modLink_foot, descriptorRead_foot, keeps_ok, keeps_started, keeps_fail, keeps_failWith, keeps_wait, keeps_next, Nat.reduceAnd]) | with_reducible apply foldl_keeps | dsimp only | split)
theorem cctlRequest_foot {w : Nat} (h : 4194304 &&& w = 4194304) (l : Nat) (write : Bool) (tag : Nat) (addr : Nat) (len : Nat) (data : List Byte) (s : State) :
    (cctlRequest l write tag addr len data s).mask w = s.mask w := by
  refine mask_mono h ?_
  unfold cctlRequest
  repeat' (first | with_reducible rfl | assumption | (intro _) | with_reducible refine ite_keeps ?_ ?_ | with_reducible refine ite_answer ?_ ?_ | with_reducible apply checked_keeps | with_reducible apply withCtx_keeps | with_reducible apply withQueue_keeps | with_reducible apply corrCmd_keeps | (simp only [foldl_mask, sendCctl_foot, modLink_foot, keeps_ok, keeps_started, keeps_fail, keeps_failWith, keeps_wait, keeps_next, Nat.reduceAnd]) | with_reducible apply foldl_keeps | dsimp only | split)
theorem cctlIn_foot {w : Nat} (h : 38830150 &&& w = 38830150) (a0 : Nat) (hd : List Byte) (payload : List Byte) (s : State) :
    (cctlIn a0 hd payload s).mask w = s.mask w := by
  refine mask_mono h ?_
  unfold cctlIn
  repeat' (first | with_reducible rfl | assumption | (intro _) | with_reducible refine ite_keeps ?_ ?_ | with_reducible refine ite_answer ?_ ?_ | with_reducible apply checked_keeps | with_reducible apply withCtx_keeps | with_reducible apply withQueue_keeps | with_reducible apply corrCmd_keeps | (simp only [foldl_mask, cctlRequest_foot, cctlAck_foot, countLink_foot, keeps_ok, keeps_started, keeps_fail, keeps_failWith, keeps_wait, keeps_next, Nat.reduceAnd]) | with_reducible apply foldl_keeps | dsimp only | split)
theorem cellFragment_foot {w : Nat} (h : 8594128896 &&& w = 8594128896) (k c src : Nat) (pkt : List Byte) (lost : State → State) (s : State)
    {m' : State} (hs : s.mask w = m') (hl : ∀ s, (lost s).mask w = s.mask w) : (cellFragment k c src pkt lost s).mask w = m' := by
  have hk : ∀ n g s, (modLink n g s).mask w = s.mask w := fun n g s => mask_mono h (modLink_foot (by decide) n g s)
  have ha : ∀ n g s, (modAsm n g s).mask w = s.mask w := fun n g s => mask_mono h (modAsm_foot (by decide) n g s)
  subst hs
  unfold cellFragment
  repeat' (first | with_reducible rfl | (simp only [hk, ha, hl]) | split)
theorem cellOnLink_foot {w : Nat} (h : 37748736 &&& w = 37748736) (a0 : Nat) (vc : Nat) (a : Nat) (n : Nat) (d : List Byte) (s : State) :
    (cellOnLink a0 vc a n d s).mask w = s.mask w := by
  refine mask_mono h ?_
  unfold cellOnLink
  repeat' (first | with_reducible rfl | assumption | (intro _) | with_reducible refine ite_keeps ?_ ?_ | with_reducible refine ite_answer ?_ ?_ | with_reducible apply checked_keeps | with_reducible apply withCtx_keeps | with_reducible apply withQueue_keeps | with_reducible apply corrCmd_keeps | (simp only [foldl_mask, modHive_foot, queuePacket_foot, keeps_ok, keeps_started, keeps_fail, keeps_failWith, keeps_wait, keeps_next, Nat.reduceAnd]) | with_reducible apply foldl_keeps | dsimp only | split)
theorem cellToHive_foot {w : Nat} (h : 8695873602 &&& w = 8695873602) (a : Nat) (n : Nat) (s : State) :
    (cellToHive a n s).mask w = s.mask w := by
  refine mask_mono h ?_
  unfold cellToHive
  repeat' (first | with_reducible rfl | assumption | (intro _) | with_reducible refine ite_keeps ?_ ?_ | with_reducible refine ite_answer ?_ ?_ | with_reducible apply checked_keeps | with_reducible apply withCtx_keeps | with_reducible apply withQueue_keeps | with_reducible apply corrCmd_keeps | (simp only [foldl_mask, cellOnLink_foot, raise_foot, honey_foot, freeCell_foot, keeps_ok, keeps_started, keeps_fail, keeps_failWith, keeps_wait, keeps_next, Nat.reduceAnd]) | with_reducible apply foldl_keeps | dsimp only | split)
theorem portDownCell_foot {w : Nat} (h : 8657076224 &&& w = 8657076224) (f : Nat) (a : Nat) (n : Nat) (s : State) :
    (portDownCell f a n s).mask w = s.mask w := by
  refine mask_mono h ?_
  unfold portDownCell
  repeat' (first | with_reducible rfl | assumption | (intro _) | with_reducible refine ite_keeps ?_ ?_ | with_reducible refine ite_answer ?_ ?_ | with_reducible apply checked_keeps | with_reducible apply withCtx_keeps | with_reducible apply withQueue_keeps | with_reducible apply corrCmd_keeps | (simp only [foldl_mask, countHp_foot, freeCell_foot, keeps_ok, keeps_started, keeps_fail, keeps_failWith, keeps_wait, keeps_next, Nat.reduceAnd]) | with_reducible apply foldl_keeps | dsimp only | split)
theorem cellToQueue_foot {w : Nat} (h : 8658124864 &&& w = 8658124864) (q : Nat) (a : Nat) (n : Nat) (s : State) :
    (cellToQueue q a n s).mask w = s.mask w := by
  refine mask_mono h ?_
  unfold cellToQueue
  repeat' (first | with_reducible rfl | assumption | (intro _) | with_reducible refine ite_keeps ?_ ?_ | with_reducible refine ite_answer ?_ ?_ | with_reducible apply checked_keeps | with_reducible apply withCtx_keeps | with_reducible apply withQueue_keeps | with_reducible apply corrCmd_keeps | (simp only [foldl_mask, refuseCell_foot, portDownCell_foot, setQueue_foot, noteWait_foot, countQ_foot, keeps_ok, keeps_started, keeps_fail, keeps_failWith, keeps_wait, keeps_next, Nat.reduceAnd]) | with_reducible apply foldl_keeps | dsimp only | split)
theorem chooseMaster_foot {w : Nat} (h : 16777216 &&& w = 16777216) (l : Nat) (s : State) :
    (chooseMaster l s).mask w = s.mask w := by
  refine mask_mono h ?_
  unfold chooseMaster
  repeat' (first | with_reducible rfl | assumption | (intro _) | with_reducible refine ite_keeps ?_ ?_ | with_reducible refine ite_answer ?_ ?_ | with_reducible apply checked_keeps | with_reducible apply withCtx_keeps | with_reducible apply withQueue_keeps | with_reducible apply corrCmd_keeps | (simp only [foldl_mask, modEth_foot, keeps_ok, keeps_started, keeps_fail, keeps_failWith, keeps_wait, keeps_next, Nat.reduceAnd]) | with_reducible apply foldl_keeps | dsimp only | split)
theorem countStreamN_foot {w : Nat} (h : 16777216 &&& w = 16777216) (l : Nat) (ch : Nat) (k : StreamCnt) (n : Nat) (s : State) :
    (countStreamN l ch k n s).mask w = s.mask w := by
  refine mask_mono h ?_
  unfold countStreamN
  repeat' (first | with_reducible rfl | assumption | (intro _) | with_reducible refine ite_keeps ?_ ?_ | with_reducible refine ite_answer ?_ ?_ | with_reducible apply checked_keeps | with_reducible apply withCtx_keeps | with_reducible apply withQueue_keeps | with_reducible apply corrCmd_keeps | (simp only [foldl_mask, modEth_foot, keeps_ok, keeps_started, keeps_fail, keeps_failWith, keeps_wait, keeps_next, Nat.reduceAnd]) | with_reducible apply foldl_keeps | dsimp only | split)
theorem countStream_foot {w : Nat} (h : 16777216 &&& w = 16777216) (l : Nat) (ch : Nat) (k : StreamCnt) (s : State) :
    (countStream l ch k s).mask w = s.mask w := by
  refine mask_mono h ?_
  unfold countStream
  repeat' (first | with_reducible rfl | assumption | (intro _) | with_reducible refine ite_keeps ?_ ?_ | with_reducible refine ite_answer ?_ ?_ | with_reducible apply checked_keeps | with_reducible apply withCtx_keeps | with_reducible apply withQueue_keeps | with_reducible apply corrCmd_keeps | (simp only [foldl_mask, countStreamN_foot, keeps_ok, keeps_started, keeps_fail, keeps_failWith, keeps_wait, keeps_next, Nat.reduceAnd]) | with_reducible apply foldl_keeps | dsimp only | split)
theorem modStream_foot {w : Nat} (h : 16777216 &&& w = 16777216) (l : Nat) (ch : Nat) (g : Stream → Stream) (s : State) :
    (modStream l ch g s).mask w = s.mask w := by
  refine mask_mono h ?_
  unfold modStream
  repeat' (first | with_reducible rfl | assumption | (intro _) | with_reducible refine ite_keeps ?_ ?_ | with_reducible refine ite_answer ?_ ?_ | with_reducible apply checked_keeps | with_reducible apply withCtx_keeps | with_reducible apply withQueue_keeps | with_reducible apply corrCmd_keeps | (simp only [foldl_mask, modEth_foot, keeps_ok, keeps_started, keeps_fail, keeps_failWith, keeps_wait, keeps_next, Nat.reduceAnd]) | with_reducible apply foldl_keeps | dsimp only | split)
theorem chunkData_foot {w : Nat} (h : 83886080 &&& w = 83886080) (l : Nat) (ch : Nat) (d : List Byte) (s : State) :
    (chunkData l ch d s).mask w = s.mask w := by
  refine mask_mono h ?_
  unfold chunkData
  repeat' (first | with_reducible rfl | assumption | (intro _) | with_reducible refine ite_keeps ?_ ?_ | with_reducible refine ite_answer ?_ ?_ | with_reducible apply checked_keeps | with_reducible apply withCtx_keeps | with_reducible apply withQueue_keeps | with_reducible apply corrCmd_keeps | (simp only [foldl_mask, countStream_foot, modCtx_foot, modStream_foot, keeps_ok, keeps_started, keeps_fail, keeps_failWith, keeps_wait, keeps_next, Nat.reduceAnd]) | with_reducible apply foldl_keeps | dsimp only | split)
theorem clearTrip_foot {w : Nat} (h : 130 &&& w = 130) (s : State) :
    (clearTrip s).mask w = s.mask w := by
  refine mask_mono h ?_
  unfold clearTrip
  repeat' (first | with_reducible rfl | assumption | (intro _) | with_reducible refine ite_keeps ?_ ?_ | with_reducible refine ite_answer ?_ ?_ | with_reducible apply checked_keeps | with_reducible apply withCtx_keeps | with_reducible apply withQueue_keeps | with_reducible apply corrCmd_keeps | (simp only [mask_set_128, foldl_mask, emit_foot, keeps_ok, keeps_started, keeps_fail, keeps_failWith, keeps_wait, keeps_next, Nat.reduceAnd]) | with_reducible apply foldl_keeps | dsimp only | split)
theorem losePart_foot {w : Nat} (h : 68190282 &&& w = 68190282) (l : Nat) (ch : Nat) (b : GvspBlock) (p : PartBuf) (s : State) :
    (losePart l ch b p s).mask w = s.mask w := by
  refine mask_mono h ?_
  unfold losePart
  repeat' (first | with_reducible rfl | assumption | (intro _) | with_reducible refine ite_keeps ?_ ?_ | with_reducible refine ite_answer ?_ ?_ | with_reducible apply checked_keeps | with_reducible apply withCtx_keeps | with_reducible apply withQueue_keeps | with_reducible apply corrCmd_keeps | (simp only [foldl_mask, passBy_foot, keeps_ok, keeps_started, keeps_fail, keeps_failWith, keeps_wait, keeps_next, Nat.reduceAnd]) | with_reducible apply foldl_keeps | dsimp only | split)
theorem finishLine_foot {w : Nat} (h : 68190282 &&& w = 68190282) (c : Nat) (k : Nat) (pos : Nat) (t : Nat) (codes : Option (List Nat)) (s : State) :
    (finishLine c k pos t codes s).mask w = s.mask w := by
  refine mask_mono h ?_
  unfold finishLine
  repeat' (first | with_reducible rfl | assumption | (intro _) | with_reducible refine ite_keeps ?_ ?_ | with_reducible refine ite_answer ?_ ?_ | with_reducible apply checked_keeps | with_reducible apply withCtx_keeps | with_reducible apply withQueue_keeps | with_reducible apply corrCmd_keeps | (simp only [foldl_mask, modCtx_foot, countCtx_foot, paced_foot, raiseCtx_foot, keeps_ok, keeps_started, keeps_fail, keeps_failWith, keeps_wait, keeps_next, Nat.reduceAnd]) | with_reducible apply foldl_keeps | dsimp only | split)
theorem giveLine_foot {w : Nat} (h : 72384586 &&& w = 72384586) (l : Nat) (ch : Nat) (b : GvspBlock) (p : PartBuf) (y : Nat) (d : List Byte) (s : State) :
    (giveLine l ch b p y d s).mask w = s.mask w := by
  refine mask_mono h ?_
  unfold giveLine
  refine foldl_keeps _ _ _ (fun s q => ?_) rfl
  cases s.boundTo l (some ch) p.sensor q.1 with
  | none => rfl
  | some ck =>
    dsimp only
    cases s.ctx ck.1 with
    | none => rfl
    | some x =>
      dsimp only
      have hb := beginLine_foot (w := 72384586) (by decide) ck.1 ck.2 ((b.firstLine + y) % 2 ^ 32) s
      revert hb
      generalize beginLine ck.1 ck.2 ((b.firstLine + y) % 2 ^ 32) s = u
      intro hb
      rcases u with ⟨_ | _, t⟩
      all_goals first | exact hb | (show (finishLine ..).mask _ = _; rw [finishLine_foot (by decide)]; exact hb)
theorem handLines_foot {w : Nat} (h : 89161802 &&& w = 89161802) (l : Nat) (ch : Nat) (b : GvspBlock) (p : PartBuf) (a : Nat) (a5 : State) :
    (handLines l ch b p a a5).mask w = a5.mask w := by
  refine mask_mono h ?_
  induction a generalizing a5 with
  | zero => rfl
  | succ n ih =>
    simp only [handLines]
    repeat' (first | with_reducible rfl | (simp only [ih, giveLine_foot, countStream_foot, Nat.reduceAnd]) | split)
theorem closeBlock_foot {w : Nat} (h : 89161802 &&& w = 89161802) (l : Nat) (ch : Nat) (s : State) :
    (closeBlock l ch s).mask w = s.mask w := by
  refine mask_mono h ?_
  unfold closeBlock
  repeat' (first | with_reducible rfl | assumption | (intro _) | with_reducible refine ite_keeps ?_ ?_ | with_reducible refine ite_answer ?_ ?_ | with_reducible apply checked_keeps | with_reducible apply withCtx_keeps | with_reducible apply withQueue_keeps | with_reducible apply corrCmd_keeps | (simp only [foldl_mask, modStream_foot, closeFrame_foot, losePart_foot, handLines_foot, keeps_ok, keeps_started, keeps_fail, keeps_failWith, keeps_wait, keeps_next, Nat.reduceAnd]) | with_reducible apply foldl_keeps | dsimp only | split)
theorem cmdCompatCorrLoadTable_foot {w : Nat} (h : 12953092170 &&& w = 12953092170) (r : Req) (s : State) {m : State} (hm : s.mask w = m) :
    ((cmdCompatCorrLoadTable).run r s).keeps w m := by
  subst hm
  refine keeps_mono h ?_
  simp only [cmdCompatCorrLoadTable]
  repeat' (first | with_reducible rfl | assumption | (intro _) | with_reducible refine ite_keeps ?_ ?_ | with_reducible refine ite_answer ?_ ?_ | with_reducible apply checked_keeps | with_reducible apply withCtx_keeps | with_reducible apply withQueue_keeps | with_reducible apply corrCmd_keeps | (simp only [foldl_mask, cmdCorrLoadTable_foot, loadTable_foot, keeps_ok, keeps_started, keeps_fail, keeps_failWith, keeps_wait, keeps_next, Nat.reduceAnd]) | with_reducible apply foldl_keeps | dsimp only | split)
theorem cmdCompatCorrSetBlack_foot {w : Nat} (h : 8658124874 &&& w = 8658124874) (r : Req) (s : State) {m : State} (hm : s.mask w = m) :
    ((cmdCompatCorrSetBlack).run r s).keeps w m := by
  subst hm
  refine keeps_mono h ?_
  simp only [cmdCompatCorrSetBlack]
  repeat' (first | with_reducible rfl | assumption | (intro _) | with_reducible refine ite_keeps ?_ ?_ | with_reducible refine ite_answer ?_ ?_ | with_reducible apply checked_keeps | with_reducible apply withCtx_keeps | with_reducible apply withQueue_keeps | with_reducible apply corrCmd_keeps | (simp only [foldl_mask, cmdCorrSetBlack_foot, keeps_ok, keeps_started, keeps_fail, keeps_failWith, keeps_wait, keeps_next, Nat.reduceAnd]) | with_reducible apply foldl_keeps | dsimp only | split)
theorem cmdCompatCorrSetEnable_foot {w : Nat} (h : 8658124874 &&& w = 8658124874) (r : Req) (s : State) {m : State} (hm : s.mask w = m) :
    ((cmdCompatCorrSetEnable).run r s).keeps w m := by
  subst hm
  refine keeps_mono h ?_
  simp only [cmdCompatCorrSetEnable]
  repeat' (first | with_reducible rfl | assumption | (intro _) | with_reducible refine ite_keeps ?_ ?_ | with_reducible refine ite_answer ?_ ?_ | with_reducible apply checked_keeps | with_reducible apply withCtx_keeps | with_reducible apply withQueue_keeps | with_reducible apply corrCmd_keeps | (simp only [foldl_mask, cmdCorrSetEnable_foot, setEnables_foot, keeps_ok, keeps_started, keeps_fail, keeps_failWith, keeps_wait, keeps_next, Nat.reduceAnd]) | with_reducible apply foldl_keeps | dsimp only | split)
theorem cmdCompatCtxAssign_foot {w : Nat} (h : 201327616 &&& w = 201327616) (r : Req) (s : State) {m : State} (hm : s.mask w = m) :
    ((cmdCompatCtxAssign).run r s).keeps w m := by
  subst hm
  refine keeps_mono h ?_
  simp only [cmdCompatCtxAssign]
  repeat' (first | with_reducible rfl | assumption | (intro _) | with_reducible refine ite_keeps ?_ ?_ | with_reducible refine ite_answer ?_ ?_ | with_reducible apply checked_keeps | with_reducible apply withCtx_keeps | with_reducible apply withQueue_keeps | with_reducible apply corrCmd_keeps | (simp only [foldl_mask, cmdCtxAssign_foot, keeps_ok, keeps_started, keeps_fail, keeps_failWith, keeps_wait, keeps_next, Nat.reduceAnd]) | with_reducible apply foldl_keeps | dsimp only | split)
theorem cmdCompatCtxCreate_foot {w : Nat} (h : 83886080 &&& w = 83886080) (r : Req) (s : State) {m : State} (hm : s.mask w = m) :
    ((cmdCompatCtxCreate).run r s).keeps w m := by
  subst hm
  refine keeps_mono h ?_
  simp only [cmdCompatCtxCreate]
  repeat' (first | with_reducible rfl | assumption | (intro _) | with_reducible refine ite_keeps ?_ ?_ | with_reducible refine ite_answer ?_ ?_ | with_reducible apply checked_keeps | with_reducible apply withCtx_keeps | with_reducible apply withQueue_keeps | with_reducible apply corrCmd_keeps | (simp only [foldl_mask, cmdCtxCreate_foot, ctxCreate_foot, keeps_ok, keeps_started, keeps_fail, keeps_failWith, keeps_wait, keeps_next, Nat.reduceAnd]) | with_reducible apply foldl_keeps | dsimp only | split)
theorem cmdCompatCtxDestroy_foot {w : Nat} (h : 73081552904 &&& w = 73081552904) (r : Req) (s : State) {m : State} (hm : s.mask w = m) :
    ((cmdCompatCtxDestroy).run r s).keeps w m := by
  subst hm
  refine keeps_mono h ?_
  simp only [cmdCompatCtxDestroy]
  repeat' (first | with_reducible rfl | assumption | (intro _) | with_reducible refine ite_keeps ?_ ?_ | with_reducible refine ite_answer ?_ ?_ | with_reducible apply checked_keeps | with_reducible apply withCtx_keeps | with_reducible apply withQueue_keeps | with_reducible apply corrCmd_keeps | (simp only [foldl_mask, cmdCtxDestroy_foot, keeps_ok, keeps_started, keeps_fail, keeps_failWith, keeps_wait, keeps_next, Nat.reduceAnd]) | with_reducible apply foldl_keeps | dsimp only | split)
theorem cmdCompatCtxGetStatus_foot {w : Nat} (h : 67108864 &&& w = 67108864) (r : Req) (s : State) {m : State} (hm : s.mask w = m) :
    ((cmdCompatCtxGetStatus).run r s).keeps w m := by
  subst hm
  refine keeps_mono h ?_
  simp only [cmdCompatCtxGetStatus]
  repeat' (first | with_reducible rfl | assumption | (intro _) | with_reducible refine ite_keeps ?_ ?_ | with_reducible refine ite_answer ?_ ?_ | with_reducible apply checked_keeps | with_reducible apply withCtx_keeps | with_reducible apply withQueue_keeps | with_reducible apply corrCmd_keeps | (simp only [foldl_mask, cmdCtxGetStatus_foot, ctxStatus_foot, keeps_ok, keeps_started, keeps_fail, keeps_failWith, keeps_wait, keeps_next, Nat.reduceAnd]) | with_reducible apply foldl_keeps | dsimp only | split)
theorem cmdCompatCtxRelease_foot {w : Nat} (h : 201326592 &&& w = 201326592) (r : Req) (s : State) {m : State} (hm : s.mask w = m) :
    ((cmdCompatCtxRelease).run r s).keeps w m := by
  subst hm
  refine keeps_mono h ?_
  simp only [cmdCompatCtxRelease]
  repeat' (first | with_reducible rfl | assumption | (intro _) | with_reducible refine ite_keeps ?_ ?_ | with_reducible refine ite_answer ?_ ?_ | with_reducible apply checked_keeps | with_reducible apply withCtx_keeps | with_reducible apply withQueue_keeps | with_reducible apply corrCmd_keeps | (simp only [foldl_mask, cmdCtxRelease_foot, keeps_ok, keeps_started, keeps_fail, keeps_failWith, keeps_wait, keeps_next, Nat.reduceAnd]) | with_reducible apply foldl_keeps | dsimp only | split)
theorem cmdCompatCtxStart_foot {w : Nat} (h : 104857668 &&& w = 104857668) (r : Req) (s : State) {m : State} (hm : s.mask w = m) :
    ((cmdCompatCtxStart).run r s).keeps w m := by
  subst hm
  refine keeps_mono h ?_
  simp only [cmdCompatCtxStart]
  repeat' (first | with_reducible rfl | assumption | (intro _) | with_reducible refine ite_keeps ?_ ?_ | with_reducible refine ite_answer ?_ ?_ | with_reducible apply checked_keeps | with_reducible apply withCtx_keeps | with_reducible apply withQueue_keeps | with_reducible apply corrCmd_keeps | (simp only [foldl_mask, cmdCtxStart_foot, keeps_ok, keeps_started, keeps_fail, keeps_failWith, keeps_wait, keeps_next, Nat.reduceAnd]) | with_reducible apply foldl_keeps | dsimp only | split)
theorem cmdCompatCtxStop_foot {w : Nat} (h : 67108864 &&& w = 67108864) (r : Req) (s : State) {m : State} (hm : s.mask w = m) :
    ((cmdCompatCtxStop).run r s).keeps w m := by
  subst hm
  refine keeps_mono h ?_
  simp only [cmdCompatCtxStop]
  repeat' (first | with_reducible rfl | assumption | (intro _) | with_reducible refine ite_keeps ?_ ?_ | with_reducible refine ite_answer ?_ ?_ | with_reducible apply checked_keeps | with_reducible apply withCtx_keeps | with_reducible apply withQueue_keeps | with_reducible apply corrCmd_keeps | (simp only [foldl_mask, cmdCtxStop_foot, keeps_ok, keeps_started, keeps_fail, keeps_failWith, keeps_wait, keeps_next, Nat.reduceAnd]) | with_reducible apply foldl_keeps | dsimp only | split)
theorem cmdCompatIntakeSetPartition_foot {w : Nat} (h : 268435456 &&& w = 268435456) (r : Req) (s : State) {m : State} (hm : s.mask w = m) :
    ((cmdCompatIntakeSetPartition).run r s).keeps w m := by
  subst hm
  refine keeps_mono h ?_
  simp only [cmdCompatIntakeSetPartition]
  repeat' (first | with_reducible rfl | assumption | (intro _) | with_reducible refine ite_keeps ?_ ?_ | with_reducible refine ite_answer ?_ ?_ | with_reducible apply checked_keeps | with_reducible apply withCtx_keeps | with_reducible apply withQueue_keeps | with_reducible apply corrCmd_keeps | (simp only [foldl_mask, cmdIntakeSetPartition_foot, setPartition_foot, keeps_ok, keeps_started, keeps_fail, keeps_failWith, keeps_wait, keeps_next, Nat.reduceAnd]) | with_reducible apply foldl_keeps | dsimp only | split)
theorem cmdCompatLaneConfigure_foot {w : Nat} (h : 66106434 &&& w = 66106434) (r : Req) (s : State) {m : State} (hm : s.mask w = m) :
    ((cmdCompatLaneConfigure).run r s).keeps w m := by
  subst hm
  refine keeps_mono h ?_
  simp only [cmdCompatLaneConfigure]
  repeat' (first | with_reducible rfl | assumption | (intro _) | with_reducible refine ite_keeps ?_ ?_ | with_reducible refine ite_answer ?_ ?_ | with_reducible apply checked_keeps | with_reducible apply withCtx_keeps | with_reducible apply withQueue_keeps | with_reducible apply corrCmd_keeps | (simp only [foldl_mask, cmdLaneConfigure_foot, laneConfigure_foot, keeps_ok, keeps_started, keeps_fail, keeps_failWith, keeps_wait, keeps_next, Nat.reduceAnd]) | with_reducible apply foldl_keeps | dsimp only | split)
theorem cmdCompatLaneGetStatus_foot {w : Nat} (h : 23068672 &&& w = 23068672) (r : Req) (s : State) {m : State} (hm : s.mask w = m) :
    ((cmdCompatLaneGetStatus).run r s).keeps w m := by
  subst hm
  refine keeps_mono h ?_
  simp only [cmdCompatLaneGetStatus]
  repeat' (first | with_reducible rfl | assumption | (intro _) | with_reducible refine ite_keeps ?_ ?_ | with_reducible refine ite_answer ?_ ?_ | with_reducible apply checked_keeps | with_reducible apply withCtx_keeps | with_reducible apply withQueue_keeps | with_reducible apply corrCmd_keeps | (simp only [foldl_mask, cmdLaneGetStatus_foot, keeps_ok, keeps_started, keeps_fail, keeps_failWith, keeps_wait, keeps_next, Nat.reduceAnd]) | with_reducible apply foldl_keeps | dsimp only | split)
theorem cmdCompatPgSetSteering_foot {w : Nat} (h : 85900427330 &&& w = 85900427330) (r : Req) (s : State) {m : State} (hm : s.mask w = m) :
    ((cmdCompatPgSetSteering).run r s).keeps w m := by
  subst hm
  refine keeps_mono h ?_
  simp only [cmdCompatPgSetSteering]
  repeat' (first | with_reducible rfl | assumption | (intro _) | with_reducible refine ite_keeps ?_ ?_ | with_reducible refine ite_answer ?_ ?_ | with_reducible apply checked_keeps | with_reducible apply withCtx_keeps | with_reducible apply withQueue_keeps | with_reducible apply corrCmd_keeps | (simp only [foldl_mask, cmdPgSetSteering_foot, setSteering_foot, keeps_ok, keeps_started, keeps_fail, keeps_failWith, keeps_wait, keeps_next, Nat.reduceAnd]) | with_reducible apply foldl_keeps | dsimp only | split)
theorem cmdCompatQCreate_foot {w : Nat} (h : 1049600 &&& w = 1049600) (r : Req) (s : State) {m : State} (hm : s.mask w = m) :
    ((cmdCompatQCreate).run r s).keeps w m := by
  subst hm
  refine keeps_mono h ?_
  simp only [cmdCompatQCreate]
  repeat' (first | with_reducible rfl | assumption | (intro _) | with_reducible refine ite_keeps ?_ ?_ | with_reducible refine ite_answer ?_ ?_ | with_reducible apply checked_keeps | with_reducible apply withCtx_keeps | with_reducible apply withQueue_keeps | with_reducible apply corrCmd_keeps | (simp only [foldl_mask, cmdQCreate_foot, qCreate_foot, keeps_ok, keeps_started, keeps_fail, keeps_failWith, keeps_wait, keeps_next, Nat.reduceAnd]) | with_reducible apply foldl_keeps | dsimp only | split)
theorem cmdCompatQDestroy_foot {w : Nat} (h : 94557470728 &&& w = 94557470728) (r : Req) (s : State) {m : State} (hm : s.mask w = m) :
    ((cmdCompatQDestroy).run r s).keeps w m := by
  subst hm
  refine keeps_mono h ?_
  simp only [cmdCompatQDestroy]
  repeat' (first | with_reducible rfl | assumption | (intro _) | with_reducible refine ite_keeps ?_ ?_ | with_reducible refine ite_answer ?_ ?_ | with_reducible apply checked_keeps | with_reducible apply withCtx_keeps | with_reducible apply withQueue_keeps | with_reducible apply corrCmd_keeps | (simp only [foldl_mask, cmdQDestroy_foot, keeps_ok, keeps_started, keeps_fail, keeps_failWith, keeps_wait, keeps_next, Nat.reduceAnd]) | with_reducible apply foldl_keeps | dsimp only | split)
theorem cmdCompatQDisable_foot {w : Nat} (h : 8658124866 &&& w = 8658124866) (r : Req) (s : State) {m : State} (hm : s.mask w = m) :
    ((cmdCompatQDisable).run r s).keeps w m := by
  subst hm
  refine keeps_mono h ?_
  simp only [cmdCompatQDisable]
  repeat' (first | with_reducible rfl | assumption | (intro _) | with_reducible refine ite_keeps ?_ ?_ | with_reducible refine ite_answer ?_ ?_ | with_reducible apply checked_keeps | with_reducible apply withCtx_keeps | with_reducible apply withQueue_keeps | with_reducible apply corrCmd_keeps | (simp only [foldl_mask, cmdQDisable_foot, keeps_ok, keeps_started, keeps_fail, keeps_failWith, keeps_wait, keeps_next, Nat.reduceAnd]) | with_reducible apply foldl_keeps | dsimp only | split)
theorem cmdCompatQEnable_foot {w : Nat} (h : 8658124866 &&& w = 8658124866) (r : Req) (s : State) {m : State} (hm : s.mask w = m) :
    ((cmdCompatQEnable).run r s).keeps w m := by
  subst hm
  refine keeps_mono h ?_
  simp only [cmdCompatQEnable]
  repeat' (first | with_reducible rfl | assumption | (intro _) | with_reducible refine ite_keeps ?_ ?_ | with_reducible refine ite_answer ?_ ?_ | with_reducible apply checked_keeps | with_reducible apply withCtx_keeps | with_reducible apply withQueue_keeps | with_reducible apply corrCmd_keeps | (simp only [foldl_mask, cmdQEnable_foot, keeps_ok, keeps_started, keeps_fail, keeps_failWith, keeps_wait, keeps_next, Nat.reduceAnd]) | with_reducible apply foldl_keeps | dsimp only | split)
theorem cmdCompatQGetStatus_foot {w : Nat} (h : 1048576 &&& w = 1048576) (r : Req) (s : State) {m : State} (hm : s.mask w = m) :
    ((cmdCompatQGetStatus).run r s).keeps w m := by
  subst hm
  refine keeps_mono h ?_
  simp only [cmdCompatQGetStatus]
  repeat' (first | with_reducible rfl | assumption | (intro _) | with_reducible refine ite_keeps ?_ ?_ | with_reducible refine ite_answer ?_ ?_ | with_reducible apply checked_keeps | with_reducible apply withCtx_keeps | with_reducible apply withQueue_keeps | with_reducible apply corrCmd_keeps | (simp only [foldl_mask, cmdQGetStatus_foot, keeps_ok, keeps_started, keeps_fail, keeps_failWith, keeps_wait, keeps_next, Nat.reduceAnd]) | with_reducible apply foldl_keeps | dsimp only | split)
theorem cmdCompatQPartition_foot {w : Nat} (h : 16 &&& w = 16) (r : Req) (s : State) {m : State} (hm : s.mask w = m) :
    ((cmdCompatQPartition).run r s).keeps w m := by
  subst hm
  refine keeps_mono h ?_
  simp only [cmdCompatQPartition]
  repeat' (first | with_reducible rfl | assumption | (intro _) | with_reducible refine ite_keeps ?_ ?_ | with_reducible refine ite_answer ?_ ?_ | with_reducible apply checked_keeps | with_reducible apply withCtx_keeps | with_reducible apply withQueue_keeps | with_reducible apply corrCmd_keeps | (simp only [foldl_mask, cmdQPartition_foot, keeps_ok, keeps_started, keeps_fail, keeps_failWith, keeps_wait, keeps_next, Nat.reduceAnd]) | with_reducible apply foldl_keeps | dsimp only | split)
theorem cmdCompatQReset_foot {w : Nat} (h : 68190208 &&& w = 68190208) (r : Req) (s : State) {m : State} (hm : s.mask w = m) :
    ((cmdCompatQReset).run r s).keeps w m := by
  subst hm
  refine keeps_mono h ?_
  simp only [cmdCompatQReset]
  repeat' (first | with_reducible rfl | assumption | (intro _) | with_reducible refine ite_keeps ?_ ?_ | with_reducible refine ite_answer ?_ ?_ | with_reducible apply checked_keeps | with_reducible apply withCtx_keeps | with_reducible apply withQueue_keeps | with_reducible apply corrCmd_keeps | (simp only [foldl_mask, cmdQReset_foot, keeps_ok, keeps_started, keeps_fail, keeps_failWith, keeps_wait, keeps_next, Nat.reduceAnd]) | with_reducible apply foldl_keeps | dsimp only | split)
theorem cmdCompatQSetNotify_foot {w : Nat} (h : 1048576 &&& w = 1048576) (r : Req) (s : State) {m : State} (hm : s.mask w = m) :
    ((cmdCompatQSetNotify).run r s).keeps w m := by
  subst hm
  refine keeps_mono h ?_
  simp only [cmdCompatQSetNotify]
  repeat' (first | with_reducible rfl | assumption | (intro _) | with_reducible refine ite_keeps ?_ ?_ | with_reducible refine ite_answer ?_ ?_ | with_reducible apply checked_keeps | with_reducible apply withCtx_keeps | with_reducible apply withQueue_keeps | with_reducible apply corrCmd_keeps | (simp only [foldl_mask, cmdQSetNotify_foot, keeps_ok, keeps_started, keeps_fail, keeps_failWith, keeps_wait, keeps_next, Nat.reduceAnd]) | with_reducible apply foldl_keeps | dsimp only | split)
theorem cmdCompatTimeGetStatus_foot {w : Nat} (h : 0 &&& w = 0) (r : Req) (s : State) {m : State} (hm : s.mask w = m) :
    ((cmdCompatTimeGetStatus).run r s).keeps w m := by
  subst hm
  refine keeps_mono h ?_
  simp only [cmdCompatTimeGetStatus]
  repeat' (first | with_reducible rfl | assumption | (intro _) | with_reducible refine ite_keeps ?_ ?_ | with_reducible refine ite_answer ?_ ?_ | with_reducible apply checked_keeps | with_reducible apply withCtx_keeps | with_reducible apply withQueue_keeps | with_reducible apply corrCmd_keeps | (simp only [foldl_mask, cmdTimeGetStatus_foot, keeps_ok, keeps_started, keeps_fail, keeps_failWith, keeps_wait, keeps_next, Nat.reduceAnd]) | with_reducible apply foldl_keeps | dsimp only | split)
theorem cmdCompatTimeSetExtOffset_foot {w : Nat} (h : 37748832 &&& w = 37748832) (r : Req) (s : State) {m : State} (hm : s.mask w = m) :
    ((cmdCompatTimeSetExtOffset).run r s).keeps w m := by
  subst hm
  refine keeps_mono h ?_
  simp only [cmdCompatTimeSetExtOffset]
  repeat' (first | with_reducible rfl | assumption | (intro _) | with_reducible refine ite_keeps ?_ ?_ | with_reducible refine ite_answer ?_ ?_ | with_reducible apply checked_keeps | with_reducible apply withCtx_keeps | with_reducible apply withQueue_keeps | with_reducible apply corrCmd_keeps | (simp only [foldl_mask, cmdTimeSetExtOffset_foot, keeps_ok, keeps_started, keeps_fail, keeps_failWith, keeps_wait, keeps_next, Nat.reduceAnd]) | with_reducible apply foldl_keeps | dsimp only | split)
theorem cmdCompatTimeSetPps_foot {w : Nat} (h : 32 &&& w = 32) (r : Req) (s : State) {m : State} (hm : s.mask w = m) :
    ((cmdCompatTimeSetPps).run r s).keeps w m := by
  subst hm
  refine keeps_mono h ?_
  simp only [cmdCompatTimeSetPps]
  repeat' (first | with_reducible rfl | assumption | (intro _) | with_reducible refine ite_keeps ?_ ?_ | with_reducible refine ite_answer ?_ ?_ | with_reducible apply checked_keeps | with_reducible apply withCtx_keeps | with_reducible apply withQueue_keeps | with_reducible apply corrCmd_keeps | (simp only [foldl_mask, cmdTimeSetPps_foot, keeps_ok, keeps_started, keeps_fail, keeps_failWith, keeps_wait, keeps_next, Nat.reduceAnd]) | with_reducible apply foldl_keeps | dsimp only | split)
theorem cmdCompatTimeSetSource_foot {w : Nat} (h : 1081442 &&& w = 1081442) (r : Req) (s : State) {m : State} (hm : s.mask w = m) :
    ((cmdCompatTimeSetSource).run r s).keeps w m := by
  subst hm
  refine keeps_mono h ?_
  simp only [cmdCompatTimeSetSource]
  repeat' (first | with_reducible rfl | assumption | (intro _) | with_reducible refine ite_keeps ?_ ?_ | with_reducible refine ite_answer ?_ ?_ | with_reducible apply checked_keeps | with_reducible apply withCtx_keeps | with_reducible apply withQueue_keeps | with_reducible apply corrCmd_keeps | (simp only [foldl_mask, cmdTimeSetSource_foot, keeps_ok, keeps_started, keeps_fail, keeps_failWith, keeps_wait, keeps_next, Nat.reduceAnd]) | with_reducible apply foldl_keeps | dsimp only | split)
theorem cmdCtxSetLaunch_foot {w : Nat} (h : 67108864 &&& w = 67108864) (r : Req) (s : State) {m : State} (hm : s.mask w = m) :
    ((cmdCtxSetLaunch).run r s).keeps w m := by
  subst hm
  refine keeps_mono h ?_
  simp only [cmdCtxSetLaunch]
  repeat' (first | with_reducible rfl | assumption | (intro _) | with_reducible refine ite_keeps ?_ ?_ | with_reducible refine ite_answer ?_ ?_ | with_reducible apply checked_keeps | with_reducible apply withCtx_keeps | with_reducible apply withQueue_keeps | with_reducible apply corrCmd_keeps | (simp only [foldl_mask, modCtx_foot, keeps_ok, keeps_started, keeps_fail, keeps_failWith, keeps_wait, keeps_next, Nat.reduceAnd]) | with_reducible apply foldl_keeps | dsimp only | split)
theorem hiveRemote_foot {w : Nat} (h : 17452599083006 &&& w = 17452599083006) (r : Req) (s : State) {m : State} (hm : s.mask w = m) :
    (hiveRemote r s).keeps w m := by
  subst hm
  refine keeps_mono h ?_
  unfold hiveRemote
  repeat' (first | with_reducible rfl | assumption | (intro _) | with_reducible refine ite_keeps ?_ ?_ | with_reducible refine ite_answer ?_ ?_ | with_reducible apply checked_keeps | with_reducible apply withCtx_keeps | with_reducible apply withQueue_keeps | with_reducible apply corrCmd_keeps | (simp only [mask_set_262144, foldl_mask, remoteServe_foot, remoteConclude_foot, hsend_foot, keeps_ok, keeps_started, keeps_fail, keeps_failWith, keeps_wait, keeps_next, Nat.reduceAnd]) | with_reducible apply foldl_keeps | dsimp only | split)
theorem cmdHiveRemote_foot {w : Nat} (h : 17452599083006 &&& w = 17452599083006) (r : Req) (s : State) {m : State} (hm : s.mask w = m) :
    ((cmdHiveRemote).run r s).keeps w m := by
  subst hm
  refine keeps_mono h ?_
  simp only [cmdHiveRemote]
  repeat' (first | with_reducible rfl | assumption | (intro _) | with_reducible refine ite_keeps ?_ ?_ | with_reducible refine ite_answer ?_ ?_ | with_reducible apply checked_keeps | with_reducible apply withCtx_keeps | with_reducible apply withQueue_keeps | with_reducible apply corrCmd_keeps | (simp only [foldl_mask, hiveRemote_foot, keeps_ok, keeps_started, keeps_fail, keeps_failWith, keeps_wait, keeps_next, Nat.reduceAnd]) | with_reducible apply foldl_keeps | dsimp only | split)
theorem combSecond_foot {w : Nat} (h : 134217792 &&& w = 134217792) (k : Nat) (s : State) :
    (combSecond k s).mask w = s.mask w := by
  refine mask_mono h ?_
  unfold combSecond
  repeat' (first | with_reducible rfl | assumption | (intro _) | with_reducible refine ite_keeps ?_ ?_ | with_reducible refine ite_answer ?_ ?_ | with_reducible apply checked_keeps | with_reducible apply withCtx_keeps | with_reducible apply withQueue_keeps | with_reducible apply corrCmd_keeps | (simp only [foldl_mask, modComb_foot, honey_foot, keeps_ok, keeps_started, keeps_fail, keeps_failWith, keeps_wait, keeps_next, Nat.reduceAnd]) | with_reducible apply foldl_keeps | dsimp only | split)
theorem modTimeEx_foot {w : Nat} (h : 4194304 &&& w = 4194304) (l : Nat) (g : TimeEx → TimeEx) (s : State) :
    (modTimeEx l g s).mask w = s.mask w := by
  refine mask_mono h ?_
  unfold modTimeEx
  repeat' (first | with_reducible rfl | assumption | (intro _) | with_reducible refine ite_keeps ?_ ?_ | with_reducible refine ite_answer ?_ ?_ | with_reducible apply checked_keeps | with_reducible apply withCtx_keeps | with_reducible apply withQueue_keeps | with_reducible apply corrCmd_keeps | (simp only [foldl_mask, modLink_foot, keeps_ok, keeps_started, keeps_fail, keeps_failWith, keeps_wait, keeps_next, Nat.reduceAnd]) | with_reducible apply foldl_keeps | dsimp only | split)
theorem judgeDelay_foot {w : Nat} (h : 34635842 &&& w = 34635842) (a0 : Nat) (delay : Int) (s : State) :
    (judgeDelay a0 delay s).mask w = s.mask w := by
  refine mask_mono h ?_
  unfold judgeDelay
  repeat' (first | with_reducible rfl | assumption | (intro _) | with_reducible refine ite_keeps ?_ ?_ | with_reducible refine ite_answer ?_ ?_ | with_reducible apply checked_keeps | with_reducible apply withCtx_keeps | with_reducible apply withQueue_keeps | with_reducible apply corrCmd_keeps | (simp only [foldl_mask, modHiveLink_foot, refuseLink_foot, keeps_ok, keeps_started, keeps_fail, keeps_failWith, keeps_wait, keeps_next, Nat.reduceAnd]) | with_reducible apply foldl_keeps | dsimp only | split)
theorem servoJudge_foot {w : Nat} (h : 1081442 &&& w = 1081442) (e : Int) (s : State) :
    (servoJudge e s).mask w = s.mask w := by
  refine mask_mono h ?_
  unfold servoJudge
  repeat' (first | with_reducible rfl | assumption | (intro _) | with_reducible refine ite_keeps ?_ ?_ | with_reducible refine ite_answer ?_ ?_ | with_reducible apply checked_keeps | with_reducible apply withCtx_keeps | with_reducible apply withQueue_keeps | with_reducible apply corrCmd_keeps | (simp only [foldl_mask, modClock_foot, setServo_foot, keeps_ok, keeps_started, keeps_fail, keeps_failWith, keeps_wait, keeps_next, Nat.reduceAnd]) | with_reducible apply foldl_keeps | dsimp only | split)
theorem servoFeed_foot {w : Nat} (h : 1081446 &&& w = 1081446) (e : Int) (s : State) :
    (servoFeed e s).mask w = s.mask w := by
  refine mask_mono h ?_
  unfold servoFeed
  repeat' (first | with_reducible rfl | assumption | (intro _) | with_reducible refine ite_keeps ?_ ?_ | with_reducible refine ite_answer ?_ ?_ | with_reducible apply checked_keeps | with_reducible apply withCtx_keeps | with_reducible apply withQueue_keeps | with_reducible apply corrCmd_keeps | (simp only [foldl_mask, servoJudge_foot, bumpFree_foot, modClock_foot, keeps_ok, keeps_started, keeps_fail, keeps_failWith, keeps_wait, keeps_next, Nat.reduceAnd]) | with_reducible apply foldl_keeps | dsimp only | split)
theorem feedHive_foot {w : Nat} (h : 39354470 &&& w = 39354470) (theta : Int) (s : State) :
    (feedHive theta s).mask w = s.mask w := by
  refine mask_mono h ?_
  unfold feedHive
  repeat' (first | with_reducible rfl | assumption | (intro _) | with_reducible refine ite_keeps ?_ ?_ | with_reducible refine ite_answer ?_ ?_ | with_reducible apply checked_keeps | with_reducible apply withCtx_keeps | with_reducible apply withQueue_keeps | with_reducible apply corrCmd_keeps | (simp only [foldl_mask, leaveHive_foot, modClock_foot, servoFeed_foot, keeps_ok, keeps_started, keeps_fail, keeps_failWith, keeps_wait, keeps_next, Nat.reduceAnd]) | with_reducible apply foldl_keeps | dsimp only | split)
theorem exchangeDone_foot {w : Nat} (h : 39366758 &&& w = 39366758) (l : Nat) (depart : Nat) (arrivedFar : Nat) (departFar : Nat) (arrived : Nat) (s : State) :
    (exchangeDone l depart arrivedFar departFar arrived s).mask w = s.mask w := by
  refine mask_mono h ?_
  unfold exchangeDone
  repeat' (first | with_reducible rfl | assumption | (intro _) | with_reducible refine ite_keeps ?_ ?_ | with_reducible refine ite_answer ?_ ?_ | with_reducible apply checked_keeps | with_reducible apply withCtx_keeps | with_reducible apply withQueue_keeps | with_reducible apply corrCmd_keeps | (simp only [foldl_mask, modTimeEx_foot, judgeDelay_foot, feedHive_foot, modClock_foot, completeJoin_foot, keeps_ok, keeps_started, keeps_fail, keeps_failWith, keeps_wait, keeps_next, Nat.reduceAnd]) | with_reducible apply foldl_keeps | dsimp only | split)
theorem tryExchange_foot {w : Nat} (h : 39366758 &&& w = 39366758) (l : Nat) (s : State) :
    (tryExchange l s).mask w = s.mask w := by
  refine mask_mono h ?_
  unfold tryExchange
  repeat' (first | with_reducible rfl | assumption | (intro _) | with_reducible refine ite_keeps ?_ ?_ | with_reducible refine ite_answer ?_ ?_ | with_reducible apply checked_keeps | with_reducible apply withCtx_keeps | with_reducible apply withQueue_keeps | with_reducible apply corrCmd_keeps | (simp only [foldl_mask, exchangeDone_foot, keeps_ok, keeps_started, keeps_fail, keeps_failWith, keeps_wait, keeps_next, Nat.reduceAnd]) | with_reducible apply foldl_keeps | dsimp only | split)

end Sys2Proof.Machine
end

