-- ==== Sys2Proof/Laws/Foot10.lean ====
section
/-! SUPPORT. What each operation leaves as it was, part 10 of 18: of state `s` it changes no field outside the set of its
footprint (a bit for each field, in the order of Field). -/
set_option linter.all false
set_option maxRecDepth 4000
open Sys2Proof Sys2Proof.Machine
namespace Sys2Proof.Machine

theorem timeBlockIn_foot {w : Nat} (h : 39366758 &&& w = 39366758) (l : Nat) (kind : Nat) (exch : Nat) (valid : Bool) (source : Bool) (stamp48 : Nat) (t256 : Nat) (s : State) :
    (timeBlockIn l kind exch valid source stamp48 t256 s).mask w = s.mask w := by
  refine mask_mono h ?_
  unfold timeBlockIn
  repeat' (first | with_reducible rfl | assumption | (intro _) | with_reducible refine ite_keeps ?_ ?_ | with_reducible refine ite_answer ?_ ?_ | with_reducible apply checked_keeps | with_reducible apply withCtx_keeps | with_reducible apply withQueue_keeps | with_reducible apply corrCmd_keeps | (simp only [foldl_mask, modTimeEx_foot, tryExchange_foot, keeps_ok, keeps_started, keeps_fail, keeps_failWith, keeps_wait, keeps_next, Nat.reduceAnd]) | with_reducible apply foldl_keeps | dsimp only | split)
theorem eventReceived_foot {w : Nat} (h : 4194304 &&& w = 4194304) (l : Nat) (kind : Nat) (target : Nat) (seq : Nat) (time32 : Nat) (s : State) :
    (eventReceived l kind target seq time32 s).mask w = s.mask w := by
  refine mask_mono h ?_
  unfold eventReceived
  repeat' (first | with_reducible rfl | assumption | (intro _) | with_reducible refine ite_keeps ?_ ?_ | with_reducible refine ite_answer ?_ ?_ | with_reducible apply checked_keeps | with_reducible apply withCtx_keeps | with_reducible apply withQueue_keeps | with_reducible apply corrCmd_keeps | (simp only [foldl_mask, modLink_foot, countLink_foot, keeps_ok, keeps_started, keeps_fail, keeps_failWith, keeps_wait, keeps_next, Nat.reduceAnd]) | with_reducible apply foldl_keeps | dsimp only | split)
theorem creditBlock_foot {w : Nat} (h : 4194304 &&& w = 4194304) (l : Nat) (vc : Nat) (granted : Nat) (s : State) :
    (creditBlock l vc granted s).mask w = s.mask w := by
  refine mask_mono h ?_
  unfold creditBlock
  repeat' (first | with_reducible rfl | assumption | (intro _) | with_reducible refine ite_keeps ?_ ?_ | with_reducible refine ite_answer ?_ ?_ | with_reducible apply checked_keeps | with_reducible apply withCtx_keeps | with_reducible apply withQueue_keeps | with_reducible apply corrCmd_keeps | (simp only [foldl_mask, modLink_foot, keeps_ok, keeps_started, keeps_fail, keeps_failWith, keeps_wait, keeps_next, Nat.reduceAnd]) | with_reducible apply foldl_keeps | dsimp only | split)
theorem lmsgReceived_foot {w : Nat} (h : 65503554 &&& w = 65503554) (l : Nat) (code : Nat) (seq : Nat) (s : State) :
    (lmsgReceived l code seq s).mask w = s.mask w := by
  refine mask_mono h ?_
  unfold lmsgReceived
  repeat' (first | with_reducible rfl | assumption | (intro _) | with_reducible refine ite_keeps ?_ ?_ | with_reducible refine ite_answer ?_ ?_ | with_reducible apply checked_keeps | with_reducible apply withCtx_keeps | with_reducible apply withQueue_keeps | with_reducible apply corrCmd_keeps | (simp only [foldl_mask, answerPower_foot, agreed_foot, endExchange_foot, modLane_foot, keeps_ok, keeps_started, keeps_fail, keeps_failWith, keeps_wait, keeps_next, Nat.reduceAnd]) | with_reducible apply foldl_keeps | dsimp only | split)
theorem controlBlock_foot {w : Nat} (h : 67088742 &&& w = 67088742) (l : Nat) (b : List Byte) (now256 : Nat) (s : State) :
    (controlBlock l b now256 s).mask w = s.mask w := by
  refine mask_mono h ?_
  unfold controlBlock
  repeat' (first | with_reducible rfl | assumption | (intro _) | with_reducible refine ite_keeps ?_ ?_ | with_reducible refine ite_answer ?_ ?_ | with_reducible apply checked_keeps | with_reducible apply withCtx_keeps | with_reducible apply withQueue_keeps | with_reducible apply corrCmd_keeps | (simp only [foldl_mask, timeBlockIn_foot, eventReceived_foot, creditBlock_foot, alignBlock_foot, lmsgReceived_foot, countLink_foot, keeps_ok, keeps_started, keeps_fail, keeps_failWith, keeps_wait, keeps_next, Nat.reduceAnd]) | with_reducible apply foldl_keeps | dsimp only | split)
theorem countEnc_foot {w : Nat} (h : 1099511627776 &&& w = 1099511627776) (e : Nat) (k : EncCnt) (s : State) :
    (countEnc e k s).mask w = s.mask w := by
  refine mask_mono h ?_
  unfold countEnc
  repeat' (first | with_reducible rfl | assumption | (intro _) | with_reducible refine ite_keeps ?_ ?_ | with_reducible refine ite_answer ?_ ?_ | with_reducible apply checked_keeps | with_reducible apply withCtx_keeps | with_reducible apply withQueue_keeps | with_reducible apply corrCmd_keeps | (simp only [foldl_mask, modEnc_foot, keeps_ok, keeps_started, keeps_fail, keeps_failWith, keeps_wait, keeps_next, Nat.reduceAnd]) | with_reducible apply foldl_keeps | dsimp only | split)
theorem countEth_foot {w : Nat} (h : 16777216 &&& w = 16777216) (l : Nat) (k : EthCnt) (s : State) :
    (countEth l k s).mask w = s.mask w := by
  refine mask_mono h ?_
  unfold countEth
  repeat' (first | with_reducible rfl | assumption | (intro _) | with_reducible refine ite_keeps ?_ ?_ | with_reducible refine ite_answer ?_ ?_ | with_reducible apply checked_keeps | with_reducible apply withCtx_keeps | with_reducible apply withQueue_keeps | with_reducible apply corrCmd_keeps | (simp only [foldl_mask, modEth_foot, keeps_ok, keeps_started, keeps_fail, keeps_failWith, keeps_wait, keeps_next, Nat.reduceAnd]) | with_reducible apply foldl_keeps | dsimp only | split)
theorem countHpN_foot {w : Nat} (h : 32768 &&& w = 32768) (f : Nat) (k : HpCnt) (n : Nat) (s : State) :
    (countHpN f k n s).mask w = s.mask w := by
  refine mask_mono h ?_
  unfold countHpN
  repeat' (first | with_reducible rfl | assumption | (intro _) | with_reducible refine ite_keeps ?_ ?_ | with_reducible refine ite_answer ?_ ?_ | with_reducible apply checked_keeps | with_reducible apply withCtx_keeps | with_reducible apply withQueue_keeps | with_reducible apply corrCmd_keeps | (simp only [foldl_mask, modHp_foot, keeps_ok, keeps_started, keeps_fail, keeps_failWith, keeps_wait, keeps_next, Nat.reduceAnd]) | with_reducible apply foldl_keeps | dsimp only | split)
theorem countLaunchEarly_foot {w : Nat} (h : 67108864 &&& w = 67108864) (c : Nat) (s : State) :
    (countLaunchEarly c s).mask w = s.mask w := by
  refine mask_mono h ?_
  unfold countLaunchEarly
  repeat' (first | with_reducible rfl | assumption | (intro _) | with_reducible refine ite_keeps ?_ ?_ | with_reducible refine ite_answer ?_ ?_ | with_reducible apply checked_keeps | with_reducible apply withCtx_keeps | with_reducible apply withQueue_keeps | with_reducible apply corrCmd_keeps | (simp only [foldl_mask, modCtx_foot, keeps_ok, keeps_started, keeps_fail, keeps_failWith, keeps_wait, keeps_next, Nat.reduceAnd]) | with_reducible apply foldl_keeps | dsimp only | split)
theorem cutFlash_foot {w : Nat} (h : 516 &&& w = 516) (s : State) :
    (cutFlash s).mask w = s.mask w := by
  refine mask_mono h ?_
  unfold cutFlash
  repeat' (first | with_reducible rfl | assumption | (intro _) | with_reducible refine ite_keeps ?_ ?_ | with_reducible refine ite_answer ?_ ?_ | with_reducible apply checked_keeps | with_reducible apply withCtx_keeps | with_reducible apply withQueue_keeps | with_reducible apply corrCmd_keeps | (simp only [foldl_mask, bumpFree_foot, modTrust_foot, keeps_ok, keeps_started, keeps_fail, keeps_failWith, keeps_wait, keeps_next, Nat.reduceAnd]) | with_reducible apply foldl_keeps | dsimp only | split)
theorem cutFrames_foot {w : Nat} (h : 67141632 &&& w = 67141632) (f : Nat) (q : Nat) (s : State) :
    (cutFrames f q s).mask w = s.mask w := by
  refine mask_mono h ?_
  unfold cutFrames
  repeat' (first | with_reducible rfl | assumption | (intro _) | with_reducible refine ite_keeps ?_ ?_ | with_reducible refine ite_answer ?_ ?_ | with_reducible apply checked_keeps | with_reducible apply withCtx_keeps | with_reducible apply withQueue_keeps | with_reducible apply corrCmd_keeps | (simp only [foldl_mask, countHpN_foot, endFrames_foot, keeps_ok, keeps_started, keeps_fail, keeps_failWith, keeps_wait, keeps_next, Nat.reduceAnd]) | with_reducible apply foldl_keeps | dsimp only | split)
theorem discardBlock_foot {w : Nat} (h : 84967490 &&& w = 84967490) (l : Nat) (ch : Nat) (s : State) :
    (discardBlock l ch s).mask w = s.mask w := by
  refine mask_mono h ?_
  unfold discardBlock
  repeat' (first | with_reducible rfl | assumption | (intro _) | with_reducible refine ite_keeps ?_ ?_ | with_reducible refine ite_answer ?_ ?_ | with_reducible apply checked_keeps | with_reducible apply withCtx_keeps | with_reducible apply withQueue_keeps | with_reducible apply corrCmd_keeps | (simp only [foldl_mask, modStream_foot, closeFrame_foot, keeps_ok, keeps_started, keeps_fail, keeps_failWith, keeps_wait, keeps_next, Nat.reduceAnd]) | with_reducible apply foldl_keeps | dsimp only | split)
theorem dmaFlushList_foot {w : Nat} (h : 32770 &&& w = 32770) (f : Nat) (a : List DmaOp) (a2 : State) :
    (dmaFlushList f a a2).2.mask w = a2.mask w := by
  refine mask_mono h ?_
  induction a generalizing a2 with
  | nil => rfl
  | cons op r ih =>
    unfold dmaFlushList
    cases hd : dmaIssue f op a2 with
    | none => simp only [askXlat_foot, Nat.reduceAnd]
    | some t =>
      have ht := mask_mono (w := 32770) (by decide) (dmaIssue_foot (w := 32770) (by decide) hd)
      simp only [ih, ht]
theorem dmaFlush_foot {w : Nat} (h : 32770 &&& w = 32770) (f : Nat) (s : State) :
    (dmaFlush f s).mask w = s.mask w := by
  refine mask_mono h ?_
  unfold dmaFlush
  repeat' (first | with_reducible rfl | assumption | (intro _) | with_reducible refine ite_keeps ?_ ?_ | with_reducible refine ite_answer ?_ ?_ | with_reducible apply checked_keeps | with_reducible apply withCtx_keeps | with_reducible apply withQueue_keeps | with_reducible apply corrCmd_keeps | (simp only [foldl_mask, dmaFlushList_foot, modHp_foot, keeps_ok, keeps_started, keeps_fail, keeps_failWith, keeps_wait, keeps_next, Nat.reduceAnd]) | with_reducible apply foldl_keeps | dsimp only | split)
theorem doorbell_foot {w : Nat} (h : 32768 &&& w = 32768) (f idx : Nat) (g : Nat → State → State) (s : State) {m' : State}
    (hs : s.mask w = m') (hg : ∀ q s', s'.mask w = m' → (g q s').mask w = m') : (doorbell f idx g s).mask w = m' := by
  unfold doorbell
  split
  · exact hg _ _ hs
  · rw [mask_mono h (countHp_foot (by decide) ..), hs]
theorem tailWrite_foot {w : Nat} (h : 8658124866 &&& w = 8658124866) (q : Nat) (lo : Option Byte) (hi : Option Byte) (s : State) :
    (tailWrite q lo hi s).mask w = s.mask w := by
  refine mask_mono h ?_
  unfold tailWrite
  repeat' (first | with_reducible rfl | assumption | (intro _) | with_reducible refine ite_keeps ?_ ?_ | with_reducible refine ite_answer ?_ ?_ | with_reducible apply checked_keeps | with_reducible apply withCtx_keeps | with_reducible apply withQueue_keeps | with_reducible apply corrCmd_keeps | (simp only [foldl_mask, countHp_foot, setQueue_foot, actTail_foot, keeps_ok, keeps_started, keeps_fail, keeps_failWith, keeps_wait, keeps_next, Nat.reduceAnd]) | with_reducible apply foldl_keeps | dsimp only | split)
theorem headWrite_foot {w : Nat} (h : 8658124866 &&& w = 8658124866) (q : Nat) (lo : Option Byte) (hi : Option Byte) (s : State) :
    (headWrite q lo hi s).mask w = s.mask w := by
  refine mask_mono h ?_
  unfold headWrite
  repeat' (first | with_reducible rfl | assumption | (intro _) | with_reducible refine ite_keeps ?_ ?_ | with_reducible refine ite_answer ?_ ?_ | with_reducible apply checked_keeps | with_reducible apply withCtx_keeps | with_reducible apply withQueue_keeps | with_reducible apply corrCmd_keeps | (simp only [foldl_mask, setQueue_foot, actHead_foot, keeps_ok, keeps_started, keeps_fail, keeps_failWith, keeps_wait, keeps_next, Nat.reduceAnd]) | with_reducible apply foldl_keeps | dsimp only | split)
theorem doorbellBlock_foot {w : Nat} (h : 8658124866 &&& w = 8658124866) (f : Nat) (idx : Nat) (o : Nat) (d : List (Option Byte)) (s : State) :
    (doorbellBlock f idx o d s).mask w = s.mask w := by
  refine mask_mono h ?_
  unfold doorbellBlock
  have ht : ∀ a b q (s' : State), s'.mask 8658124866 = s.mask 8658124866 → (tailWrite q a b s').mask 8658124866 = s.mask 8658124866 := fun a b q s' e => by
    rw [tailWrite_foot (by decide), e]
  have hh : ∀ a b q (s' : State), s'.mask 8658124866 = s.mask 8658124866 → (headWrite q a b s').mask 8658124866 = s.mask 8658124866 := fun a b q s' e => by
    rw [headWrite_foot (by decide), e]
  have h1 : (match halfBytes o 0 d with
    | some (a, b) => doorbell f idx (fun q => tailWrite q a b) s
    | none => s).mask 8658124866 = s.mask 8658124866 := by
    rcases halfBytes o 0 d with _ | ⟨a, b⟩
    · rfl
    · exact doorbell_foot (by decide) _ _ _ _ rfl (ht a b)
  rcases halfBytes o 4 d with _ | ⟨a, b⟩
  · exact h1
  · exact doorbell_foot (by decide) _ _ _ _ h1 (hh a b)
theorem dozeFrame_foot {w : Nat} (h : 6291456 &&& w = 6291456) (l : Nat) (c : List (Nat × Nat)) (s : State) :
    (dozeFrame l c s).mask w = s.mask w := by
  refine mask_mono h ?_
  unfold dozeFrame
  repeat' (first | with_reducible rfl | assumption | (intro _) | with_reducible refine ite_keeps ?_ ?_ | with_reducible refine ite_answer ?_ ?_ | with_reducible apply checked_keeps | with_reducible apply withCtx_keeps | with_reducible apply withQueue_keeps | with_reducible apply corrCmd_keeps | (simp only [foldl_mask, modLink_foot, countLane_foot, keeps_ok, keeps_started, keeps_fail, keeps_failWith, keeps_wait, keeps_next, Nat.reduceAnd]) | with_reducible apply foldl_keeps | dsimp only | split)
theorem vc3Settle_foot {w : Nat} (h : 37748738 &&& w = 37748738) (s : State) :
    (vc3Settle s).mask w = s.mask w := by
  refine mask_mono h ?_
  unfold vc3Settle
  repeat' (first | with_reducible rfl | assumption | (intro _) | with_reducible refine ite_keeps ?_ ?_ | with_reducible refine ite_answer ?_ ?_ | with_reducible apply checked_keeps | with_reducible apply withCtx_keeps | with_reducible apply withQueue_keeps | with_reducible apply corrCmd_keeps | (simp only [foldl_mask, grantMore_foot, modHive_foot, keeps_ok, keeps_started, keeps_fail, keeps_failWith, keeps_wait, keeps_next, Nat.reduceAnd]) | with_reducible apply foldl_keeps | dsimp only | split)
theorem takeVc3_foot {w : Nat} (h : 17590038560766 &&& w = 17590038560766) (s : State) : (takeVc3 s).mask w = s.mask w := by
  refine mask_mono h ?_
  unfold takeVc3
  repeat' (first | with_reducible rfl | (simp only [hmsgDeliver_foot, keeperWork_foot, vc3Settle_foot, modHive_foot, Nat.reduceAnd]) | split)
theorem drainVc3_foot {w : Nat} (h : 17590038560766 &&& w = 17590038560766) (n : Nat) (s : State) : (drainVc3 n s).mask w = s.mask w := by
  refine mask_mono h ?_
  induction n generalizing s with
  | zero => rfl
  | succ n ih =>
    unfold drainVc3
    repeat' (first | with_reducible rfl | (simp only [ih, takeVc3_foot, Nat.reduceAnd]) | split)
theorem dropDma_foot {w : Nat} (h : 32768 &&& w = 32768) (f : Nat) (s : State) :
    (dropDma f s).mask w = s.mask w := by
  refine mask_mono h ?_
  unfold dropDma
  repeat' (first | with_reducible rfl | assumption | (intro _) | with_reducible refine ite_keeps ?_ ?_ | with_reducible refine ite_answer ?_ ?_ | with_reducible apply checked_keeps | with_reducible apply withCtx_keeps | with_reducible apply withQueue_keeps | with_reducible apply corrCmd_keeps | (simp only [foldl_mask, countHpN_foot, modHp_foot, keeps_ok, keeps_started, keeps_fail, keeps_failWith, keeps_wait, keeps_next, Nat.reduceAnd]) | with_reducible apply foldl_keeps | dsimp only | split)
theorem dropMaster_foot {w : Nat} (h : 16777216 &&& w = 16777216) (s : State) :
    (dropMaster s).mask w = s.mask w := by
  refine mask_mono h ?_
  unfold dropMaster
  repeat' (first | with_reducible rfl | assumption | (intro _) | with_reducible refine ite_keeps ?_ ?_ | with_reducible refine ite_answer ?_ ?_ | with_reducible apply checked_keeps | with_reducible apply withCtx_keeps | with_reducible apply withQueue_keeps | with_reducible apply corrCmd_keeps | (simp only [foldl_mask, chooseMaster_foot, modEth_foot, keeps_ok, keeps_started, keeps_fail, keeps_failWith, keeps_wait, keeps_next, Nat.reduceAnd]) | with_reducible apply foldl_keeps | dsimp only | split)
theorem dropPushes_foot {w : Nat} (h : 528 &&& w = 528) (f : Nat) (s : State) :
    (dropPushes f s).mask w = s.mask w := by
  refine mask_mono h ?_
  unfold dropPushes
  repeat' (first | with_reducible rfl | assumption | (intro _) | with_reducible refine ite_keeps ?_ ?_ | with_reducible refine ite_answer ?_ ?_ | with_reducible apply checked_keeps | with_reducible apply withCtx_keeps | with_reducible apply withQueue_keeps | with_reducible apply corrCmd_keeps | (simp only [mask_set_512, foldl_mask, modSys_foot, keeps_ok, keeps_started, keeps_fail, keeps_failWith, keeps_wait, keeps_next, Nat.reduceAnd]) | with_reducible apply foldl_keeps | dsimp only | split)
theorem dropRequests_foot {w : Nat} (h : 38240322 &&& w = 38240322) (f : Nat) (s : State) :
    (dropRequests f s).mask w = s.mask w := by
  refine mask_mono h ?_
  unfold dropRequests
  repeat' (first | with_reducible rfl | assumption | (intro _) | with_reducible refine ite_keeps ?_ ?_ | with_reducible refine ite_answer ?_ ?_ | with_reducible apply checked_keeps | with_reducible apply withCtx_keeps | with_reducible apply withQueue_keeps | with_reducible apply corrCmd_keeps | (simp only [mask_set_393216, foldl_mask, nextRequest_foot, keeps_ok, keeps_started, keeps_fail, keeps_failWith, keeps_wait, keeps_next, Nat.reduceAnd]) | with_reducible apply foldl_keeps | dsimp only | split)
theorem speedReplaced_foot {w : Nat} (h : 34360819786 &&& w = 34360819786) (g : Nat) (id : Nat) (v : Int) (s : State) :
    (speedReplaced g id v s).mask w = s.mask w := by
  refine mask_mono h ?_
  unfold speedReplaced
  repeat' (first | with_reducible rfl | assumption | (intro _) | with_reducible refine ite_keeps ?_ ?_ | with_reducible refine ite_answer ?_ ?_ | with_reducible apply checked_keeps | with_reducible apply withCtx_keeps | with_reducible apply withQueue_keeps | with_reducible apply corrCmd_keeps | (simp only [foldl_mask, paced_foot, countPg_foot, raise_foot, keeps_ok, keeps_started, keeps_fail, keeps_failWith, keeps_wait, keeps_next, Nat.reduceAnd]) | with_reducible apply foldl_keeps | dsimp only | split)
theorem encoderSpeed_foot {w : Nat} (h : 34360819786 &&& w = 34360819786) (gi : Nat) (g : PgSet) (id : Nat) (tLast : Nat) (s : State) :
    (encoderSpeed gi g id tLast s).2.mask w = s.mask w := by
  refine mask_mono h ?_
  unfold encoderSpeed
  repeat' (first | with_reducible rfl | assumption | (intro _) | with_reducible refine ite_keeps ?_ ?_ | with_reducible refine ite_answer ?_ ?_ | with_reducible apply checked_keeps | with_reducible apply withCtx_keeps | with_reducible apply withQueue_keeps | with_reducible apply corrCmd_keeps | (simp only [foldl_mask, speedReplaced_foot, keeps_ok, keeps_started, keeps_fail, keeps_failWith, keeps_wait, keeps_next, Nat.reduceAnd]) | with_reducible apply foldl_keeps | dsimp only | split)
theorem fallbackSpeed_foot {w : Nat} (h : 34360819786 &&& w = 34360819786) (gi : Nat) (g : PgSet) (id : Nat) (tLast : Nat) (s : State) :
    (fallbackSpeed gi g id tLast s).2.mask w = s.mask w := by
  refine mask_mono h ?_
  unfold fallbackSpeed
  repeat' (first | with_reducible rfl | assumption | (intro _) | with_reducible refine ite_keeps ?_ ?_ | with_reducible refine ite_answer ?_ ?_ | with_reducible apply checked_keeps | with_reducible apply withCtx_keeps | with_reducible apply withQueue_keeps | with_reducible apply corrCmd_keeps | (simp only [foldl_mask, encoderSpeed_foot, keeps_ok, keeps_started, keeps_fail, keeps_failWith, keeps_wait, keeps_next, Nat.reduceAnd]) | with_reducible apply foldl_keeps | dsimp only | split)
theorem flightSpeed_foot {w : Nat} (h : 34360819786 &&& w = 34360819786) (gi : Nat) (g : PgSet) (pair : Option Int) (id : Nat) (tLast : Nat) (s : State) :
    (flightSpeed gi g pair id tLast s).2.mask w = s.mask w := by
  refine mask_mono h ?_
  unfold flightSpeed
  repeat' (first | with_reducible rfl | assumption | (intro _) | with_reducible refine ite_keeps ?_ ?_ | with_reducible refine ite_answer ?_ ?_ | with_reducible apply checked_keeps | with_reducible apply withCtx_keeps | with_reducible apply withQueue_keeps | with_reducible apply corrCmd_keeps | (simp only [foldl_mask, fallbackSpeed_foot, speedReplaced_foot, encoderSpeed_foot, keeps_ok, keeps_started, keeps_fail, keeps_failWith, keeps_wait, keeps_next, Nat.reduceAnd]) | with_reducible apply foldl_keeps | dsimp only | split)
theorem makeEntry_foot {w : Nat} (h : 171799773258 &&& w = 171799773258) (gi : Nat) (pg : PGroup) (ids : List Nat) (ref : Final) (vf : Nat) (pair : Option (Int × Int)) (rule : Option Nat) (s : State) :
    (makeEntry gi pg ids ref vf pair rule s).2.mask w = s.mask w := by
  refine mask_mono h ?_
  unfold makeEntry
  repeat' (first | with_reducible rfl | assumption | (intro _) | with_reducible refine ite_keeps ?_ ?_ | with_reducible refine ite_answer ?_ ?_ | with_reducible apply checked_keeps | with_reducible apply withCtx_keeps | with_reducible apply withQueue_keeps | with_reducible apply corrCmd_keeps | (simp only [mask_set_137438953472, foldl_mask, countPg_foot, paced_foot, raise_foot, keeps_ok, keeps_started, keeps_fail, keeps_failWith, keeps_wait, keeps_next, Nat.reduceAnd]) | with_reducible apply foldl_keeps | dsimp only | split)
theorem settleOwn_foot {w : Nat} (h : 446715428938 &&& w = 446715428938) (n : Nat) (s : State) :
    (settleOwn n s).mask w = s.mask w := by
  refine mask_mono h ?_
  unfold settleOwn
  repeat' (first | with_reducible rfl | assumption | (intro _) | with_reducible refine ite_keeps ?_ ?_ | with_reducible refine ite_answer ?_ ?_ | with_reducible apply checked_keeps | with_reducible apply withCtx_keeps | with_reducible apply withQueue_keeps | with_reducible apply corrCmd_keeps | (simp only [foldl_mask, settle_foot, countPg_foot, keeps_ok, keeps_started, keeps_fail, keeps_failWith, keeps_wait, keeps_next, Nat.reduceAnd]) | with_reducible apply foldl_keeps | dsimp only | split)
theorem steerCell_foot {w : Nat} (h : 8695873602 &&& w = 8695873602) (e : Option SteerEntry) (a : Nat) (n : Nat) (s : State) :
    (steerCell e a n s).mask w = s.mask w := by
  refine mask_mono h ?_
  unfold steerCell
  repeat' (first | with_reducible rfl | assumption | (intro _) | with_reducible refine ite_keeps ?_ ?_ | with_reducible refine ite_answer ?_ ?_ | with_reducible apply checked_keeps | with_reducible apply withCtx_keeps | with_reducible apply withQueue_keeps | with_reducible apply corrCmd_keeps | (simp only [foldl_mask, refuseCell_foot, cellToHive_foot, cellToQueue_foot, keeps_ok, keeps_started, keeps_fail, keeps_failWith, keeps_wait, keeps_next, Nat.reduceAnd]) | with_reducible apply foldl_keeps | dsimp only | split)
theorem emitObjects_foot {w : Nat} (h : 455372472394 &&& w = 455372472394) (gi : Nat) (a : Nat) (va : Option Final) (vb : Option Final) (unpaired : Bool) (s : State) :
    (emitObjects gi a va vb unpaired s).mask w = s.mask w := by
  refine mask_mono h ?_
  unfold emitObjects
  repeat' (first | with_reducible rfl | assumption | (intro _) | with_reducible refine ite_keeps ?_ ?_ | with_reducible refine ite_answer ?_ ?_ | with_reducible apply checked_keeps | with_reducible apply withCtx_keeps | with_reducible apply withQueue_keeps | with_reducible apply corrCmd_keeps | (simp only [foldl_mask, flightSpeed_foot, makeEntry_foot, modPend_foot, settleOwn_foot, countPg_foot, broodCell_foot, steerCell_foot, keeps_ok, keeps_started, keeps_fail, keeps_failWith, keeps_wait, keeps_next, Nat.reduceAnd]) | with_reducible apply foldl_keeps | dsimp only | split)
theorem emitPlain_foot {w : Nat} (h : 8695873610 &&& w = 8695873610) (a : Nat) (o : Final) (s : State) :
    (emitPlain a o s).mask w = s.mask w := by
  refine mask_mono h ?_
  unfold emitPlain
  repeat' (first | with_reducible rfl | assumption | (intro _) | with_reducible refine ite_keeps ?_ ?_ | with_reducible refine ite_answer ?_ ?_ | with_reducible apply checked_keeps | with_reducible apply withCtx_keeps | with_reducible apply withQueue_keeps | with_reducible apply corrCmd_keeps | (simp only [foldl_mask, broodCell_foot, steerCell_foot, keeps_ok, keeps_started, keeps_fail, keeps_failWith, keeps_wait, keeps_next, Nat.reduceAnd]) | with_reducible apply foldl_keeps | dsimp only | split)
theorem emuMove_foot {w : Nat} (h : 2199023255554 &&& w = 2199023255554) (o : Nat) (d : Int) (s : State) :
    (emuMove o d s).mask w = s.mask w := by
  refine mask_mono h ?_
  unfold emuMove
  repeat' (first | with_reducible rfl | assumption | (intro _) | with_reducible refine ite_keeps ?_ ?_ | with_reducible refine ite_answer ?_ ?_ | with_reducible apply checked_keeps | with_reducible apply withCtx_keeps | with_reducible apply withQueue_keeps | with_reducible apply corrCmd_keeps | (simp only [foldl_mask, emit_foot, modEmu_foot, keeps_ok, keeps_started, keeps_fail, keeps_failWith, keeps_wait, keeps_next, Nat.reduceAnd]) | with_reducible apply foldl_keeps | dsimp only | split)
theorem endMailboxes_foot {w : Nat} (h : 65536 &&& w = 65536) (f : Nat) (s : State) :
    (endMailboxes f s).mask w = s.mask w := by
  refine mask_mono h ?_
  unfold endMailboxes
  repeat' (first | with_reducible rfl | assumption | (intro _) | with_reducible refine ite_keeps ?_ ?_ | with_reducible refine ite_answer ?_ ?_ | with_reducible apply checked_keeps | with_reducible apply withCtx_keeps | with_reducible apply withQueue_keeps | with_reducible apply corrCmd_keeps | (simp only [foldl_mask, modMbx_foot, keeps_ok, keeps_started, keeps_fail, keeps_failWith, keeps_wait, keeps_next, Nat.reduceAnd]) | with_reducible apply foldl_keeps | dsimp only | split)
theorem endStripe_foot {w : Nat} (h : 201326592 &&& w = 201326592) (k : Nat) (c : Nat) (s : State) :
    (endStripe k c s).mask w = s.mask w := by
  refine mask_mono h ?_
  unfold endStripe
  repeat' (first | with_reducible rfl | assumption | (intro _) | with_reducible refine ite_keeps ?_ ?_ | with_reducible refine ite_answer ?_ ?_ | with_reducible apply checked_keeps | with_reducible apply withCtx_keeps | with_reducible apply withQueue_keeps | with_reducible apply corrCmd_keeps | (simp only [foldl_mask, modComb_foot, modCtx_foot, keeps_ok, keeps_started, keeps_fail, keeps_failWith, keeps_wait, keeps_next, Nat.reduceAnd]) | with_reducible apply foldl_keeps | dsimp only | split)
theorem endWake_foot {w : Nat} (h : 32770 &&& w = 32770) (f : Nat) (s : State) :
    (endWake f s).mask w = s.mask w := by
  refine mask_mono h ?_
  unfold endWake
  repeat' (first | with_reducible rfl | assumption | (intro _) | with_reducible refine ite_keeps ?_ ?_ | with_reducible refine ite_answer ?_ ?_ | with_reducible apply checked_keeps | with_reducible apply withCtx_keeps | with_reducible apply withQueue_keeps | with_reducible apply corrCmd_keeps | (simp only [foldl_mask, emit_foot, modHp_foot, keeps_ok, keeps_started, keeps_fail, keeps_failWith, keeps_wait, keeps_next, Nat.reduceAnd]) | with_reducible apply foldl_keeps | dsimp only | split)
theorem enterData_foot {w : Nat} (h : 73400320 &&& w = 73400320) (l : Nat) (s : State) :
    (enterData l s).mask w = s.mask w := by
  refine mask_mono h ?_
  unfold enterData
  repeat' (first | with_reducible rfl | assumption | (intro _) | with_reducible refine ite_keeps ?_ ?_ | with_reducible refine ite_answer ?_ ?_ | with_reducible apply checked_keeps | with_reducible apply withCtx_keeps | with_reducible apply withQueue_keeps | with_reducible apply corrCmd_keeps | (simp only [mask_set_67108864, foldl_mask, modLink_foot, unlockLink_foot, modLane_foot, keeps_ok, keeps_started, keeps_fail, keeps_failWith, keeps_wait, keeps_next, Nat.reduceAnd]) | with_reducible apply foldl_keeps | dsimp only | split)
theorem setPhase_foot {w : Nat} (h : 80 &&& w = 80) (p : Phase) (s : State) :
    (setPhase p s).mask w = s.mask w := by
  refine mask_mono h ?_
  unfold setPhase
  repeat' (first | with_reducible rfl | assumption | (intro _) | with_reducible refine ite_keeps ?_ ?_ | with_reducible refine ite_answer ?_ ?_ | with_reducible apply checked_keeps | with_reducible apply withCtx_keeps | with_reducible apply withQueue_keeps | with_reducible apply corrCmd_keeps | (simp only [foldl_mask, logNow_foot, modSys_foot, keeps_ok, keeps_started, keeps_fail, keeps_failWith, keeps_wait, keeps_next, Nat.reduceAnd]) | with_reducible apply foldl_keeps | dsimp only | split)
theorem enterLoader_foot {w : Nat} (h : 32850 &&& w = 32850) (s : State) :
    (enterLoader s).mask w = s.mask w := by
  refine mask_mono h ?_
  unfold enterLoader
  repeat' (first | with_reducible rfl | assumption | (intro _) | with_reducible refine ite_keeps ?_ ?_ | with_reducible refine ite_answer ?_ ?_ | with_reducible apply checked_keeps | with_reducible apply withCtx_keeps | with_reducible apply withQueue_keeps | with_reducible apply corrCmd_keeps | (simp only [foldl_mask, setPhase_foot, modSys_foot, rdRewrite_foot, setIntx_foot, keeps_ok, keeps_started, keeps_fail, keeps_failWith, keeps_wait, keeps_next, Nat.reduceAnd]) | with_reducible apply foldl_keeps | dsimp only | split)
theorem peerWrite_foot {w : Nat} (h : 455372472394 &&& w = 455372472394) (f : Nat) (off : Nat) (data : List (Option Byte)) (s : State) :
    (peerWrite f off data s).mask w = s.mask w := by
  refine mask_mono h ?_
  unfold peerWrite
  repeat' (first | with_reducible rfl | assumption | (intro _) | with_reducible refine ite_keeps ?_ ?_ | with_reducible refine ite_answer ?_ ?_ | with_reducible apply checked_keeps | with_reducible apply withCtx_keeps | with_reducible apply withQueue_keeps | with_reducible apply corrCmd_keeps | (simp only [foldl_mask, barLost_foot, logAer_foot, tlp_foot, modWin_foot, countHp_foot, apertureTo_foot, doorbellBlock_foot, keeps_ok, keeps_started, keeps_fail, keeps_failWith, keeps_wait, keeps_next, Nat.reduceAnd]) | with_reducible apply foldl_keeps | dsimp only | split)
theorem registerWrite_foot {w : Nat} (h : 17497803161674 &&& w = 17497803161674) (f : Nat) (bar : Nat) (off : Nat) (d : List (Option Byte)) (s : State) :
    (registerWrite f bar off d s).mask w = s.mask w := by
  refine mask_mono h ?_
  unfold registerWrite
  repeat' (first | with_reducible rfl | assumption | (intro _) | with_reducible refine ite_keeps ?_ ?_ | with_reducible refine ite_answer ?_ ?_ | with_reducible apply checked_keeps | with_reducible apply withCtx_keeps | with_reducible apply withQueue_keeps | with_reducible apply corrCmd_keeps | (simp only [foldl_mask, peerWrite_foot, apertureWrite_foot, countHp_foot, tlp_foot, barLost_foot, bar0Write_foot, doorbellBlock_foot, keeps_ok, keeps_started, keeps_fail, keeps_failWith, keeps_wait, keeps_next, Nat.reduceAnd]) | with_reducible apply foldl_keeps | dsimp only | split)
theorem execRegisterWrite_foot {w : Nat} (h : 17497803161674 &&& w = 17497803161674) (f : Fn) (bar : Fin 5) (off : Nat) (data : List (Option Byte)) (s : State) :
    keepsOutcome w (s.mask w) (execRegisterWrite f bar off data s) := by
  refine keepsOutcome_mono h ?_
  unfold execRegisterWrite
  repeat' (first | with_reducible rfl | assumption | (intro _) | with_reducible refine ite_keeps ?_ ?_ | with_reducible refine ite_answer ?_ ?_ | with_reducible apply checked_keeps | with_reducible apply withCtx_keeps | with_reducible apply withQueue_keeps | with_reducible apply corrCmd_keeps | (simp only [foldl_mask, registerWrite_foot, keeps_ok, keeps_started, keeps_fail, keeps_failWith, keeps_wait, keeps_next, Nat.reduceAnd]) | with_reducible apply foldl_keeps | dsimp only | split)
theorem execHbTimeLoRead_foot {w : Nat} (h : 32802 &&& w = 32802) (f : Fn) (t : Nat) (s : State) :
    keepsOutcome w (s.mask w) (execHbTimeLoRead f t s) := by
  refine keepsOutcome_mono h ?_
  unfold execHbTimeLoRead
  repeat' (first | with_reducible rfl | assumption | (intro _) | with_reducible refine ite_keeps ?_ ?_ | with_reducible refine ite_answer ?_ ?_ | with_reducible apply checked_keeps | with_reducible apply withCtx_keeps | with_reducible apply withQueue_keeps | with_reducible apply corrCmd_keeps | (simp only [foldl_mask, advTo_foot, emit_foot, modHp_foot, tlp_foot, keeps_ok, keeps_started, keeps_fail, keeps_failWith, keeps_wait, keeps_next, Nat.reduceAnd]) | with_reducible apply foldl_keeps | dsimp only | split)
theorem execMbxGo_foot {w : Nat} (h : 37978178 &&& w = 37978178) (f : Fn) (a1 : Mbx) (s : State) :
    keepsOutcome w (s.mask w) (execMbxGo f a1 s) := by
  refine keepsOutcome_mono h ?_
  unfold execMbxGo
  repeat' (first | with_reducible rfl | assumption | (intro _) | with_reducible refine ite_keeps ?_ ?_ | with_reducible refine ite_answer ?_ ?_ | with_reducible apply checked_keeps | with_reducible apply withCtx_keeps | with_reducible apply withQueue_keeps | with_reducible apply corrCmd_keeps | (simp only [foldl_mask, mbxGo_foot, tlp_foot, barLost_foot, keeps_ok, keeps_started, keeps_fail, keeps_failWith, keeps_wait, keeps_next, Nat.reduceAnd]) | with_reducible apply foldl_keeps | dsimp only | split)
theorem execMbxAbort_foot {w : Nat} (h : 38240322 &&& w = 38240322) (f : Fn) (a1 : Mbx) (s : State) :
    keepsOutcome w (s.mask w) (execMbxAbort f a1 s) := by
  refine keepsOutcome_mono h ?_
  unfold execMbxAbort
  repeat' (first | with_reducible rfl | assumption | (intro _) | with_reducible refine ite_keeps ?_ ?_ | with_reducible refine ite_answer ?_ ?_ | with_reducible apply checked_keeps | with_reducible apply withCtx_keeps | with_reducible apply withQueue_keeps | with_reducible apply corrCmd_keeps | (simp only [foldl_mask, mbxAbort_foot, tlp_foot, barLost_foot, keeps_ok, keeps_started, keeps_fail, keeps_failWith, keeps_wait, keeps_next, Nat.reduceAnd]) | with_reducible apply foldl_keeps | dsimp only | split)
theorem execAbortComplete_foot {w : Nat} (h : 65536 &&& w = 65536) (f : Fn) (a1 : Mbx) (s : State) :
    keepsOutcome w (s.mask w) (execAbortComplete f a1 s) := by
  refine keepsOutcome_mono h ?_
  unfold execAbortComplete
  repeat' (first | with_reducible rfl | assumption | (intro _) | with_reducible refine ite_keeps ?_ ?_ | with_reducible refine ite_answer ?_ ?_ | with_reducible apply checked_keeps | with_reducible apply withCtx_keeps | with_reducible apply withQueue_keeps | with_reducible apply corrCmd_keeps | (simp only [foldl_mask, modMbx_foot, keeps_ok, keeps_started, keeps_fail, keeps_failWith, keeps_wait, keeps_next, Nat.reduceAnd]) | with_reducible apply foldl_keeps | dsimp only | split)
theorem execQdbTailWrite_foot {w : Nat} (h : 8658124866 &&& w = 8658124866) (f : Fn) (idx : Fin 65536) (lo : Option Byte) (hi : Option Byte) (s : State) :
    keepsOutcome w (s.mask w) (execQdbTailWrite f idx lo hi s) := by
  refine keepsOutcome_mono h ?_
  unfold execQdbTailWrite
  rw [keeps_next]
  refine ite_keeps (doorbell_foot (by decide) _ _ _ _ (tlp_foot (by decide) ..) fun q s' e => ?_) (barLost_foot (by decide) ..)
  rw [tailWrite_foot (by decide), e]
theorem execQdbCplHeadWrite_foot {w : Nat} (h : 8658124866 &&& w = 8658124866) (f : Fn) (idx : Fin 65536) (lo : Option Byte) (hi : Option Byte) (s : State) :
    keepsOutcome w (s.mask w) (execQdbCplHeadWrite f idx lo hi s) := by
  refine keepsOutcome_mono h ?_
  unfold execQdbCplHeadWrite
  rw [keeps_next]
  refine ite_keeps (doorbell_foot (by decide) _ _ _ _ (tlp_foot (by decide) ..) fun q s' e => ?_) (barLost_foot (by decide) ..)
  rw [headWrite_foot (by decide), e]
theorem execDecisionApertureWrite_foot {w : Nat} (h : 446715428970 &&& w = 446715428970) (f : Fn) (off : Nat) (data : List Byte) (t : Nat) (s : State) :
    keepsOutcome w (s.mask w) (execDecisionApertureWrite f off data t s) := by
  refine keepsOutcome_mono h ?_
  unfold execDecisionApertureWrite
  repeat' (first | with_reducible rfl | assumption | (intro _) | with_reducible refine ite_keeps ?_ ?_ | with_reducible refine ite_answer ?_ ?_ | with_reducible apply checked_keeps | with_reducible apply withCtx_keeps | with_reducible apply withQueue_keeps | with_reducible apply corrCmd_keeps | (simp only [foldl_mask, apertureWrite_foot, advTo_foot, keeps_ok, keeps_started, keeps_fail, keeps_failWith, keeps_wait, keeps_next, Nat.reduceAnd]) | with_reducible apply foldl_keeps | dsimp only | split)
theorem execPwCommitWrite_foot {w : Nat} (h : 32768 &&& w = 32768) (f : Fn) (a1 : Fin 16) (v : BitVec 32) (s : State) :
    keepsOutcome w (s.mask w) (execPwCommitWrite f a1 v s) := by
  refine keepsOutcome_mono h ?_
  unfold execPwCommitWrite
  repeat' (first | with_reducible rfl | assumption | (intro _) | with_reducible refine ite_keeps ?_ ?_ | with_reducible refine ite_answer ?_ ?_ | with_reducible apply checked_keeps | with_reducible apply withCtx_keeps | with_reducible apply withQueue_keeps | with_reducible apply corrCmd_keeps | (simp only [foldl_mask, barLost_foot, winCommit_foot, tlp_foot, keeps_ok, keeps_started, keeps_fail, keeps_failWith, keeps_wait, keeps_next, Nat.reduceAnd]) | with_reducible apply foldl_keeps | dsimp only | split)
theorem execPeerWindowWrite_foot {w : Nat} (h : 455372472426 &&& w = 455372472426) (f : Fn) (off : Nat) (data : List (Option Byte)) (t : Nat) (s : State) :
    keepsOutcome w (s.mask w) (execPeerWindowWrite f off data t s) := by
  refine keepsOutcome_mono h ?_
  unfold execPeerWindowWrite
  repeat' (first | with_reducible rfl | assumption | (intro _) | with_reducible refine ite_keeps ?_ ?_ | with_reducible refine ite_answer ?_ ?_ | with_reducible apply checked_keeps | with_reducible apply withCtx_keeps | with_reducible apply withQueue_keeps | with_reducible apply corrCmd_keeps | (simp only [foldl_mask, peerWrite_foot, advTo_foot, keeps_ok, keeps_started, keeps_fail, keeps_failWith, keeps_wait, keeps_next, Nat.reduceAnd]) | with_reducible apply foldl_keeps | dsimp only | split)
theorem execWgFireWrite_foot {w : Nat} (h : 17042469060714 &&& w = 17042469060714) (f : Fn) (r : Fin 8) (bits : BitVec 64) (wide : Bool) (t : Nat) (s : State) :
    keepsOutcome w (s.mask w) (execWgFireWrite f r bits wide t s) := by
  refine keepsOutcome_mono h ?_
  unfold execWgFireWrite
  repeat' (first | with_reducible rfl | assumption | (intro _) | with_reducible refine ite_keeps ?_ ?_ | with_reducible refine ite_answer ?_ ?_ | with_reducible apply checked_keeps | with_reducible apply withCtx_keeps | with_reducible apply withQueue_keeps | with_reducible apply corrCmd_keeps | (simp only [foldl_mask, advTo_foot, wgFire_foot, tlp_foot, barLost_foot, keeps_ok, keeps_started, keeps_fail, keeps_failWith, keeps_wait, keeps_next, Nat.reduceAnd]) | with_reducible apply foldl_keeps | dsimp only | split)
theorem serve_foot {w : Nat} (h : 37978178 &&& w = 37978178) (c : Cmd) (f m : Nat) (s : State) {m' : State} (hs : s.mask w = m')
    (hc : ∀ r s', s'.mask w = m' → (c.run r s').keeps w m') : (serve c f m s).mask w = m' := by
  have hn : ∀ s, (nextRequest s).mask w = s.mask w := fun s => mask_mono h (nextRequest_foot (by decide) s)
  have hr : ∀ e s, (respondFail f m e s).mask w = s.mask w := fun e s => mask_mono h (respondFail_foot (by decide) ..)
  unfold serve
  split
  · dsimp only
    split
    · rw [hn, hr, hs]
    · exact conclude_foot h _ _ _ _ hs (Cmd_answer_keeps hs (hc _ _ hs))
  · exact hs
theorem execDevGetInfo_foot {w : Nat} (h : 37978178 &&& w = 37978178) (f : Fn) (a1 : Mbx) (s : State) :
    keepsOutcome w (s.mask w) (execDevGetInfo f a1 s) := by
  refine keepsOutcome_mono h ?_
  rw [execDevGetInfo, keeps_next]
  exact serve_foot (by decide) _ _ _ _ rfl fun r s' hs => cmdDevGetInfo_foot (by decide) r s' hs
theorem execDevGetPortStatus_foot {w : Nat} (h : 37978178 &&& w = 37978178) (f : Fn) (a1 : Mbx) (s : State) :
    keepsOutcome w (s.mask w) (execDevGetPortStatus f a1 s) := by
  refine keepsOutcome_mono h ?_
  rw [execDevGetPortStatus, keeps_next]
  exact serve_foot (by decide) _ _ _ _ rfl fun r s' hs => cmdDevGetPortStatus_foot (by decide) r s' hs
theorem execDevAssign_foot {w : Nat} (h : 37978194 &&& w = 37978194) (f : Fn) (a1 : Mbx) (s : State) :
    keepsOutcome w (s.mask w) (execDevAssign f a1 s) := by
  refine keepsOutcome_mono h ?_
  rw [execDevAssign, keeps_next]
  exact serve_foot (by decide) _ _ _ _ rfl fun r s' hs => cmdDevAssign_foot (by decide) r s' hs
theorem execDevGetOwner_foot {w : Nat} (h : 37978178 &&& w = 37978178) (f : Fn) (a1 : Mbx) (s : State) :
    keepsOutcome w (s.mask w) (execDevGetOwner f a1 s) := by
  refine keepsOutcome_mono h ?_
  rw [execDevGetOwner, keeps_next]
  exact serve_foot (by decide) _ _ _ _ rfl fun r s' hs => cmdDevGetOwner_foot (by decide) r s' hs

end Sys2Proof.Machine
end

