-- ==== Sys2Proof/Laws/Foot11.lean ====
section
/-! SUPPORT. What each operation leaves as it was, part 11 of 18: of state `s` it changes no field outside the set of its
footprint (a bit for each field, in the order of Field). -/
set_option linter.all false
set_option maxRecDepth 4000
open Sys2Proof Sys2Proof.Machine
namespace Sys2Proof.Machine

theorem execLaneConfigure_foot {w : Nat} (h : 66303042 &&& w = 66303042) (f : Fn) (a1 : Mbx) (s : State) :
    keepsOutcome w (s.mask w) (execLaneConfigure f a1 s) := by
  refine keepsOutcome_mono h ?_
  rw [execLaneConfigure, keeps_next]
  exact serve_foot (by decide) _ _ _ _ rfl fun r s' hs => cmdLaneConfigure_foot (by decide) r s' hs
theorem execLaneGetStatus_foot {w : Nat} (h : 56852546 &&& w = 56852546) (f : Fn) (a1 : Mbx) (s : State) :
    keepsOutcome w (s.mask w) (execLaneGetStatus f a1 s) := by
  refine keepsOutcome_mono h ?_
  rw [execLaneGetStatus, keeps_next]
  exact serve_foot (by decide) _ _ _ _ rfl fun r s' hs => cmdLaneGetStatus_foot (by decide) r s' hs
theorem serveWaking_foot {w : Nat} (h : 41125202 &&& w = 41125202) (c : Cmd) (p : Req → Bool) (f m : Nat) (s : State) {m' : State}
    (hs : s.mask w = m') (hc : ∀ r s', s'.mask w = m' → (c.run r s').keeps w m') : (serveWaking c p f m s).mask w = m' := by
  unfold serveWaking
  refine serve_foot (sub_trans (by decide) h) c f m _ ?_ hc
  split
  · rw [mask_mono h (wakeDevice_foot (by decide) 6 s), hs]
  · exact hs
theorem execLaneSetPower_foot {w : Nat} (h : 66553170 &&& w = 66553170) (f : Fn) (a1 : Mbx) (s : State) :
    keepsOutcome w (s.mask w) (execLaneSetPower f a1 s) := by
  refine keepsOutcome_mono h ?_
  rw [execLaneSetPower, keeps_next]
  exact serveWaking_foot (by decide) _ _ _ _ _ rfl fun r s' hs => cmdLaneSetPower_foot (by decide) r s' hs
theorem execLaneEyeScan_foot {w : Nat} (h : 37978178 &&& w = 37978178) (f : Fn) (a1 : Mbx) (width : Nat) (height : Nat) (eye : Nat) (s : State) :
    keepsOutcome w (s.mask w) (execLaneEyeScan f a1 width height eye s) := by
  refine keepsOutcome_mono h ?_
  rw [execLaneEyeScan, keeps_next]
  exact serve_foot (by decide) _ _ _ _ rfl fun r s' hs => cmdLaneEyeScan_foot (by decide) _ _ _ r s' hs
theorem execPllLock_foot {w : Nat} (h : 14680098 &&& w = 14680098) (q : Fin 24) (p : Pll) (t : Nat) (s : State) :
    keepsOutcome w (s.mask w) (execPllLock q p t s) := by
  refine keepsOutcome_mono h ?_
  unfold execPllLock
  repeat' (first | with_reducible rfl | assumption | (intro _) | with_reducible refine ite_keeps ?_ ?_ | with_reducible refine ite_answer ?_ ?_ | with_reducible apply checked_keeps | with_reducible apply withCtx_keeps | with_reducible apply withQueue_keeps | with_reducible apply corrCmd_keeps | (simp only [foldl_mask, advTo_foot, startLane_foot, modPll_foot, keeps_ok, keeps_started, keeps_fail, keeps_failWith, keeps_wait, keeps_next, Nat.reduceAnd]) | with_reducible apply foldl_keeps | dsimp only | split)
theorem execTrainingFrameReceived_foot {w : Nat} (h : 3178598 &&& w = 3178598) (l : LaneId) (tf : TrainFrame) (t : Nat) (s : State) :
    keepsOutcome w (s.mask w) (execTrainingFrameReceived l tf t s) := by
  refine keepsOutcome_mono h ?_
  unfold execTrainingFrameReceived
  repeat' (first | with_reducible rfl | assumption | (intro _) | with_reducible refine ite_keeps ?_ ?_ | with_reducible refine ite_answer ?_ ?_ | with_reducible apply checked_keeps | with_reducible apply withCtx_keeps | with_reducible apply withQueue_keeps | with_reducible apply corrCmd_keeps | (simp only [foldl_mask, advTo_foot, countLane_foot, modLane_foot, acceptFrame_foot, keeps_ok, keeps_started, keeps_fail, keeps_failWith, keeps_wait, keeps_next, Nat.reduceAnd]) | with_reducible apply foldl_keeps | dsimp only | split)
theorem execCoefficientUpdate_foot {w : Nat} (h : 2097184 &&& w = 2097184) (l : LaneId) (tap : CoefTap) (t : Nat) (s : State) :
    keepsOutcome w (s.mask w) (execCoefficientUpdate l tap t s) := by
  refine keepsOutcome_mono h ?_
  unfold execCoefficientUpdate
  repeat' (first | with_reducible rfl | assumption | (intro _) | with_reducible refine ite_keeps ?_ ?_ | with_reducible refine ite_answer ?_ ?_ | with_reducible apply checked_keeps | with_reducible apply withCtx_keeps | with_reducible apply withQueue_keeps | with_reducible apply corrCmd_keeps | (simp only [foldl_mask, advTo_foot, modLane_foot, keeps_ok, keeps_started, keeps_fail, keeps_failWith, keeps_wait, keeps_next, Nat.reduceAnd]) | with_reducible apply foldl_keeps | dsimp only | split)
theorem execRxReady_foot {w : Nat} (h : 2097184 &&& w = 2097184) (l : LaneId) (eye : Nat) (t : Nat) (s : State) :
    keepsOutcome w (s.mask w) (execRxReady l eye t s) := by
  refine keepsOutcome_mono h ?_
  unfold execRxReady
  repeat' (first | with_reducible rfl | assumption | (intro _) | with_reducible refine ite_keeps ?_ ?_ | with_reducible refine ite_answer ?_ ?_ | with_reducible apply checked_keeps | with_reducible apply withCtx_keeps | with_reducible apply withQueue_keeps | with_reducible apply corrCmd_keeps | (simp only [foldl_mask, advTo_foot, modLane_foot, keeps_ok, keeps_started, keeps_fail, keeps_failWith, keeps_wait, keeps_next, Nat.reduceAnd]) | with_reducible apply foldl_keeps | dsimp only | split)
theorem execTrainEndDone_foot {w : Nat} (h : 73400352 &&& w = 73400352) (l : LaneId) (t : Nat) (s : State) :
    keepsOutcome w (s.mask w) (execTrainEndDone l t s) := by
  refine keepsOutcome_mono h ?_
  unfold execTrainEndDone
  repeat' (first | with_reducible rfl | assumption | (intro _) | with_reducible refine ite_keeps ?_ ?_ | with_reducible refine ite_answer ?_ ?_ | with_reducible apply checked_keeps | with_reducible apply withCtx_keeps | with_reducible apply withQueue_keeps | with_reducible apply corrCmd_keeps | (simp only [foldl_mask, advTo_foot, enterData_foot, keeps_ok, keeps_started, keeps_fail, keeps_failWith, keeps_wait, keeps_next, Nat.reduceAnd]) | with_reducible apply foldl_keeps | dsimp only | split)
theorem execTrainingTimerExpiry_foot {w : Nat} (h : 3178594 &&& w = 3178594) (l : LaneId) (s : State) :
    keepsOutcome w (s.mask w) (execTrainingTimerExpiry l s) := by
  refine keepsOutcome_mono h ?_
  unfold execTrainingTimerExpiry
  repeat' (first | with_reducible rfl | assumption | (intro _) | with_reducible refine ite_keeps ?_ ?_ | with_reducible refine ite_answer ?_ ?_ | with_reducible apply checked_keeps | with_reducible apply withCtx_keeps | with_reducible apply withQueue_keeps | with_reducible apply corrCmd_keeps | (simp only [foldl_mask, advTo_foot, raise_foot, countLane_foot, emit_foot, modLane_foot, keeps_ok, keeps_started, keeps_fail, keeps_failWith, keeps_wait, keeps_next, Nat.reduceAnd]) | with_reducible apply foldl_keeps | dsimp only | split)
theorem execTrainFailRetry_foot {w : Nat} (h : 6291490 &&& w = 6291490) (l : LaneId) (s : State) :
    keepsOutcome w (s.mask w) (execTrainFailRetry l s) := by
  refine keepsOutcome_mono h ?_
  unfold execTrainFailRetry
  repeat' (first | with_reducible rfl | assumption | (intro _) | with_reducible refine ite_keeps ?_ ?_ | with_reducible refine ite_answer ?_ ?_ | with_reducible apply checked_keeps | with_reducible apply withCtx_keeps | with_reducible apply withQueue_keeps | with_reducible apply corrCmd_keeps | (simp only [foldl_mask, enterCdr_foot, advTo_foot, keeps_ok, keeps_started, keeps_fail, keeps_failWith, keeps_wait, keeps_next, Nat.reduceAnd]) | with_reducible apply foldl_keeps | dsimp only | split)
theorem retrain_foot {w : Nat} (h : 6291522 &&& w = 6291522) (l : Nat) (s : State) :
    (retrain l s).mask w = s.mask w := by
  refine mask_mono h ?_
  unfold retrain
  repeat' (first | with_reducible rfl | assumption | (intro _) | with_reducible refine ite_keeps ?_ ?_ | with_reducible refine ite_answer ?_ ?_ | with_reducible apply checked_keeps | with_reducible apply withCtx_keeps | with_reducible apply withQueue_keeps | with_reducible apply corrCmd_keeps | (simp only [foldl_mask, enterCdr_foot, honey_foot, countLane_foot, keeps_ok, keeps_started, keeps_fail, keeps_failWith, keeps_wait, keeps_next, Nat.reduceAnd]) | with_reducible apply foldl_keeps | dsimp only | split)
theorem execLockTimeout_foot {w : Nat} (h : 6291554 &&& w = 6291554) (l : LaneId) (s : State) :
    keepsOutcome w (s.mask w) (execLockTimeout l s) := by
  refine keepsOutcome_mono h ?_
  unfold execLockTimeout
  repeat' (first | with_reducible rfl | assumption | (intro _) | with_reducible refine ite_keeps ?_ ?_ | with_reducible refine ite_answer ?_ ?_ | with_reducible apply checked_keeps | with_reducible apply withCtx_keeps | with_reducible apply withQueue_keeps | with_reducible apply corrCmd_keeps | (simp only [foldl_mask, retrain_foot, advTo_foot, keeps_ok, keeps_started, keeps_fail, keeps_failWith, keeps_wait, keeps_next, Nat.reduceAnd]) | with_reducible apply foldl_keeps | dsimp only | split)
theorem execIdleFreeze_foot {w : Nat} (h : 2097184 &&& w = 2097184) (l : LaneId) (eye : Nat) (t : Nat) (s : State) :
    keepsOutcome w (s.mask w) (execIdleFreeze l eye t s) := by
  refine keepsOutcome_mono h ?_
  unfold execIdleFreeze
  repeat' (first | with_reducible rfl | assumption | (intro _) | with_reducible refine ite_keeps ?_ ?_ | with_reducible refine ite_answer ?_ ?_ | with_reducible apply checked_keeps | with_reducible apply withCtx_keeps | with_reducible apply withQueue_keeps | with_reducible apply corrCmd_keeps | (simp only [foldl_mask, advTo_foot, modLane_foot, keeps_ok, keeps_started, keeps_fail, keeps_failWith, keeps_wait, keeps_next, Nat.reduceAnd]) | with_reducible apply foldl_keeps | dsimp only | split)
theorem execAdaptationResume_foot {w : Nat} (h : 2097184 &&& w = 2097184) (l : LaneId) (t : Nat) (s : State) :
    keepsOutcome w (s.mask w) (execAdaptationResume l t s) := by
  refine keepsOutcome_mono h ?_
  unfold execAdaptationResume
  repeat' (first | with_reducible rfl | assumption | (intro _) | with_reducible refine ite_keeps ?_ ?_ | with_reducible refine ite_answer ?_ ?_ | with_reducible apply checked_keeps | with_reducible apply withCtx_keeps | with_reducible apply withQueue_keeps | with_reducible apply corrCmd_keeps | (simp only [foldl_mask, advTo_foot, modLane_foot, keeps_ok, keeps_started, keeps_fail, keeps_failWith, keeps_wait, keeps_next, Nat.reduceAnd]) | with_reducible apply foldl_keeps | dsimp only | split)
theorem laneDrift_foot {w : Nat} (h : 3178562 &&& w = 3178562) (l : Nat) (eye : Nat) (s : State) :
    (laneDrift l eye s).mask w = s.mask w := by
  refine mask_mono h ?_
  unfold laneDrift
  repeat' (first | with_reducible rfl | assumption | (intro _) | with_reducible refine ite_keeps ?_ ?_ | with_reducible refine ite_answer ?_ ?_ | with_reducible apply checked_keeps | with_reducible apply withCtx_keeps | with_reducible apply withQueue_keeps | with_reducible apply corrCmd_keeps | (simp only [foldl_mask, raise_foot, honey_foot, countLane_foot, modLane_foot, keeps_ok, keeps_started, keeps_fail, keeps_failWith, keeps_wait, keeps_next, Nat.reduceAnd]) | with_reducible apply foldl_keeps | dsimp only | split)
theorem execEyeWindow_foot {w : Nat} (h : 3178594 &&& w = 3178594) (l : LaneId) (eye : Nat) (t : Nat) (s : State) :
    keepsOutcome w (s.mask w) (execEyeWindow l eye t s) := by
  refine keepsOutcome_mono h ?_
  unfold execEyeWindow
  repeat' (first | with_reducible rfl | assumption | (intro _) | with_reducible refine ite_keeps ?_ ?_ | with_reducible refine ite_answer ?_ ?_ | with_reducible apply checked_keeps | with_reducible apply withCtx_keeps | with_reducible apply withQueue_keeps | with_reducible apply corrCmd_keeps | (simp only [foldl_mask, advTo_foot, modLane_foot, honey_foot, countLane_foot, raise_foot, laneDrift_foot, keeps_ok, keeps_started, keeps_fail, keeps_failWith, keeps_wait, keeps_next, Nat.reduceAnd]) | with_reducible apply foldl_keeps | dsimp only | split)
theorem execDriftAdaptEnd_foot {w : Nat} (h : 2097184 &&& w = 2097184) (l : LaneId) (eye : Nat) (t : Nat) (s : State) :
    keepsOutcome w (s.mask w) (execDriftAdaptEnd l eye t s) := by
  refine keepsOutcome_mono h ?_
  unfold execDriftAdaptEnd
  repeat' (first | with_reducible rfl | assumption | (intro _) | with_reducible refine ite_keeps ?_ ?_ | with_reducible refine ite_answer ?_ ?_ | with_reducible apply checked_keeps | with_reducible apply withCtx_keeps | with_reducible apply withQueue_keeps | with_reducible apply corrCmd_keeps | (simp only [foldl_mask, advTo_foot, modLane_foot, keeps_ok, keeps_started, keeps_fail, keeps_failWith, keeps_wait, keeps_next, Nat.reduceAnd]) | with_reducible apply foldl_keeps | dsimp only | split)
theorem execLosAssert_foot {w : Nat} (h : 57733218 &&& w = 57733218) (l : LaneId) (t : Nat) (s : State) :
    keepsOutcome w (s.mask w) (execLosAssert l t s) := by
  refine keepsOutcome_mono h ?_
  unfold execLosAssert
  repeat' (first | with_reducible rfl | assumption | (intro _) | with_reducible refine ite_keeps ?_ ?_ | with_reducible refine ite_answer ?_ ?_ | with_reducible apply checked_keeps | with_reducible apply withCtx_keeps | with_reducible apply withQueue_keeps | with_reducible apply corrCmd_keeps | (simp only [foldl_mask, losDetected_foot, advTo_foot, keeps_ok, keeps_started, keeps_fail, keeps_failWith, keeps_wait, keeps_next, Nat.reduceAnd]) | with_reducible apply foldl_keeps | dsimp only | split)
theorem execLosDeassert_foot {w : Nat} (h : 6291490 &&& w = 6291490) (l : LaneId) (t : Nat) (s : State) :
    keepsOutcome w (s.mask w) (execLosDeassert l t s) := by
  refine keepsOutcome_mono h ?_
  unfold execLosDeassert
  repeat' (first | with_reducible rfl | assumption | (intro _) | with_reducible refine ite_keeps ?_ ?_ | with_reducible refine ite_answer ?_ ?_ | with_reducible apply checked_keeps | with_reducible apply withCtx_keeps | with_reducible apply withQueue_keeps | with_reducible apply corrCmd_keeps | (simp only [foldl_mask, advTo_foot, modLane_foot, wakeSleeping_foot, keeps_ok, keeps_started, keeps_fail, keeps_failWith, keeps_wait, keeps_next, Nat.reduceAnd]) | with_reducible apply foldl_keeps | dsimp only | split)
theorem execLosRetrain_foot {w : Nat} (h : 6291554 &&& w = 6291554) (l : LaneId) (t : Nat) (s : State) :
    keepsOutcome w (s.mask w) (execLosRetrain l t s) := by
  refine keepsOutcome_mono h ?_
  unfold execLosRetrain
  repeat' (first | with_reducible rfl | assumption | (intro _) | with_reducible refine ite_keeps ?_ ?_ | with_reducible refine ite_answer ?_ ?_ | with_reducible apply checked_keeps | with_reducible apply withCtx_keeps | with_reducible apply withQueue_keeps | with_reducible apply corrCmd_keeps | (simp only [foldl_mask, advTo_foot, retrain_foot, keeps_ok, keeps_started, keeps_fail, keeps_failWith, keeps_wait, keeps_next, Nat.reduceAnd]) | with_reducible apply foldl_keeps | dsimp only | split)
theorem execLolAssert_foot {w : Nat} (h : 40956002 &&& w = 40956002) (l : LaneId) (t : Nat) (s : State) :
    keepsOutcome w (s.mask w) (execLolAssert l t s) := by
  refine keepsOutcome_mono h ?_
  unfold execLolAssert
  repeat' (first | with_reducible rfl | assumption | (intro _) | with_reducible refine ite_keeps ?_ ?_ | with_reducible refine ite_answer ?_ ?_ | with_reducible apply checked_keeps | with_reducible apply withCtx_keeps | with_reducible apply withQueue_keeps | with_reducible apply corrCmd_keeps | (simp only [foldl_mask, advTo_foot, modLane_foot, laneFault_foot, raise_foot, honey_foot, countLane_foot, retrain_foot, keeps_ok, keeps_started, keeps_fail, keeps_failWith, keeps_wait, keeps_next, Nat.reduceAnd]) | with_reducible apply foldl_keeps | dsimp only | split)
theorem execDozeSelfWake_foot {w : Nat} (h : 2097184 &&& w = 2097184) (l : LaneId) (t : Nat) (s : State) :
    keepsOutcome w (s.mask w) (execDozeSelfWake l t s) := by
  refine keepsOutcome_mono h ?_
  unfold execDozeSelfWake
  repeat' (first | with_reducible rfl | assumption | (intro _) | with_reducible refine ite_keeps ?_ ?_ | with_reducible refine ite_answer ?_ ?_ | with_reducible apply checked_keeps | with_reducible apply withCtx_keeps | with_reducible apply withQueue_keeps | with_reducible apply corrCmd_keeps | (simp only [foldl_mask, advTo_foot, countLane_foot, modLane_foot, keeps_ok, keeps_started, keeps_fail, keeps_failWith, keeps_wait, keeps_next, Nat.reduceAnd]) | with_reducible apply foldl_keeps | dsimp only | split)
theorem execFastResumeTimeout_foot {w : Nat} (h : 2097184 &&& w = 2097184) (l : LaneId) (s : State) :
    keepsOutcome w (s.mask w) (execFastResumeTimeout l s) := by
  refine keepsOutcome_mono h ?_
  unfold execFastResumeTimeout
  repeat' (first | with_reducible rfl | assumption | (intro _) | with_reducible refine ite_keeps ?_ ?_ | with_reducible refine ite_answer ?_ ?_ | with_reducible apply checked_keeps | with_reducible apply withCtx_keeps | with_reducible apply withQueue_keeps | with_reducible apply corrCmd_keeps | (simp only [foldl_mask, advTo_foot, countLane_foot, modLane_foot, keeps_ok, keeps_started, keeps_fail, keeps_failWith, keeps_wait, keeps_next, Nat.reduceAnd]) | with_reducible apply foldl_keeps | dsimp only | split)
theorem takeFrame_foot {w : Nat} (h : 6291520 &&& w = 6291520) (l : Nat) (r : Option (List (Nat × Nat) × Nat)) (s : State) :
    (takeFrame l r s).mask w = s.mask w := by
  refine mask_mono h ?_
  unfold takeFrame
  repeat' (first | with_reducible rfl | assumption | (intro _) | with_reducible refine ite_keeps ?_ ?_ | with_reducible refine ite_answer ?_ ?_ | with_reducible apply checked_keeps | with_reducible apply withCtx_keeps | with_reducible apply withQueue_keeps | with_reducible apply corrCmd_keeps | (simp only [foldl_mask, modLink_foot, honeyN_foot, countLink_foot, countLinkN_foot, dozeFrame_foot, keeps_ok, keeps_started, keeps_fail, keeps_failWith, keeps_wait, keeps_next, Nat.reduceAnd]) | with_reducible apply foldl_keeps | dsimp only | split)
theorem loseLock_foot {w : Nat} (h : 40955970 &&& w = 40955970) (l : Nat) (s : State) :
    (loseLock l s).mask w = s.mask w := by
  refine mask_mono h ?_
  unfold loseLock
  repeat' (first | with_reducible rfl | assumption | (intro _) | with_reducible refine ite_keeps ?_ ?_ | with_reducible refine ite_answer ?_ ?_ | with_reducible apply checked_keeps | with_reducible apply withCtx_keeps | with_reducible apply withQueue_keeps | with_reducible apply corrCmd_keeps | (simp only [foldl_mask, laneFault_foot, raise_foot, countLink_foot, unlockLink_foot, modLane_foot, keeps_ok, keeps_started, keeps_fail, keeps_failWith, keeps_wait, keeps_next, Nat.reduceAnd]) | with_reducible apply foldl_keeps | dsimp only | split)
theorem execFecFrameReceived_foot {w : Nat} (h : 40956002 &&& w = 40956002) (l : LaneId) (symbols : List (Fin 4)) (t : Nat) (s : State) :
    keepsOutcome w (s.mask w) (execFecFrameReceived l symbols t s) := by
  refine keepsOutcome_mono h ?_
  have ha := advTo_foot (w := 40956002) (by decide) t s
  rw [← ha]
  unfold execFecFrameReceived
  generalize advTo t s = s
  rw [keeps_next]
  refine ite_keeps ?_ rfl
  have h1 : ∀ d g, (takeFrame l d (modLink l g s)).mask 40956002 = s.mask 40956002 := fun d g => by
    rw [takeFrame_foot (by decide), modLink_foot (by decide)]
  exact ite_keeps (by rw [loseLock_foot (by decide), h1]) (h1 _ _)
theorem lockLane_foot {w : Nat} (h : 37752834 &&& w = 37752834) (l : Nat) (c : Nat) (s : State) :
    (lockLane l c s).mask w = s.mask w := by
  refine mask_mono h ?_
  unfold lockLane
  repeat' (first | with_reducible rfl | assumption | (intro _) | with_reducible refine ite_keeps ?_ ?_ | with_reducible refine ite_answer ?_ ?_ | with_reducible apply checked_keeps | with_reducible apply withCtx_keeps | with_reducible apply withQueue_keeps | with_reducible apply corrCmd_keeps | (simp only [foldl_mask, modLink_foot, linkStart_foot, faultOk_foot, keeps_ok, keeps_started, keeps_fail, keeps_failWith, keeps_wait, keeps_next, Nat.reduceAnd]) | with_reducible apply foldl_keeps | dsimp only | split)
theorem execHuntPeriod_foot {w : Nat} (h : 37752866 &&& w = 37752866) (l : LaneId) (symbols : List (Fin 4)) (t : Nat) (s : State) :
    keepsOutcome w (s.mask w) (execHuntPeriod l symbols t s) := by
  refine keepsOutcome_mono h ?_
  unfold execHuntPeriod
  repeat' (first | with_reducible rfl | assumption | (intro _) | with_reducible refine ite_keeps ?_ ?_ | with_reducible refine ite_answer ?_ ?_ | with_reducible apply checked_keeps | with_reducible apply withCtx_keeps | with_reducible apply withQueue_keeps | with_reducible apply corrCmd_keeps | (simp only [foldl_mask, advTo_foot, modLink_foot, lockLane_foot, keeps_ok, keeps_started, keeps_fail, keeps_failWith, keeps_wait, keeps_next, Nat.reduceAnd]) | with_reducible apply foldl_keeps | dsimp only | split)
theorem execControlBlockReceived_foot {w : Nat} (h : 67088742 &&& w = 67088742) (l : LaneId) (payload : BitVec 64) (t : Nat) (s : State) :
    keepsOutcome w (s.mask w) (execControlBlockReceived l payload t s) := by
  refine keepsOutcome_mono h ?_
  unfold execControlBlockReceived
  repeat' (first | with_reducible rfl | assumption | (intro _) | with_reducible refine ite_keeps ?_ ?_ | with_reducible refine ite_answer ?_ ?_ | with_reducible apply checked_keeps | with_reducible apply withCtx_keeps | with_reducible apply withQueue_keeps | with_reducible apply corrCmd_keeps | (simp only [foldl_mask, advTo_foot, controlBlock_foot, keeps_ok, keeps_started, keeps_fail, keeps_failWith, keeps_wait, keeps_next, Nat.reduceAnd]) | with_reducible apply foldl_keeps | dsimp only | split)
theorem useCredit_foot {w : Nat} (h : 5275722 &&& w = 5275722) (a0 : Nat) (vc : Nat) (cost : Nat) (s : State) :
    (useCredit a0 vc cost s).2.mask w = s.mask w := by
  refine mask_mono h ?_
  unfold useCredit
  repeat' (first | with_reducible rfl | assumption | (intro _) | with_reducible refine ite_keeps ?_ ?_ | with_reducible refine ite_answer ?_ ?_ | with_reducible apply checked_keeps | with_reducible apply withCtx_keeps | with_reducible apply withQueue_keeps | with_reducible apply corrCmd_keeps | (simp only [foldl_mask, modLink_foot, paced_foot, raise_foot, countLink_foot, keeps_ok, keeps_started, keeps_fail, keeps_failWith, keeps_wait, keeps_next, Nat.reduceAnd]) | with_reducible apply foldl_keeps | dsimp only | split)
theorem segBroken_foot {w : Nat} (h : 72384586 &&& w = 72384586) (a0 : Nat) (c : Nat) (key : Nat) (lineNo : Nat) (pos : Option Nat) (s : State) :
    (segBroken a0 c key lineNo pos s).mask w = s.mask w := by
  refine mask_mono h ?_
  unfold segBroken
  repeat' (first | with_reducible rfl | assumption | (intro _) | with_reducible refine ite_keeps ?_ ?_ | with_reducible refine ite_answer ?_ ?_ | with_reducible apply checked_keeps | with_reducible apply withCtx_keeps | with_reducible apply withQueue_keeps | with_reducible apply corrCmd_keeps | (simp only [foldl_mask, countLink_foot, modLink_foot, breakLine_foot, keeps_ok, keeps_started, keeps_fail, keeps_failWith, keeps_wait, keeps_next, Nat.reduceAnd]) | with_reducible apply foldl_keeps | dsimp only | split)
theorem segWide_foot {w : Nat} (h : 72384586 &&& w = 72384586) (a0 : Nat) (c : Nat) (k : Nat) (key : Nat) (o : OpenLine) (s : State) :
    (segWide a0 c k key o s).mask w = s.mask w := by
  refine mask_mono h ?_
  unfold segWide
  repeat' (first | with_reducible rfl | assumption | (intro _) | with_reducible refine ite_keeps ?_ ?_ | with_reducible refine ite_answer ?_ ?_ | with_reducible apply checked_keeps | with_reducible apply withCtx_keeps | with_reducible apply withQueue_keeps | with_reducible apply corrCmd_keeps | (simp only [foldl_mask, modLink_foot, finishLine_foot, keeps_ok, keeps_started, keeps_fail, keeps_failWith, keeps_wait, keeps_next, Nat.reduceAnd]) | with_reducible apply foldl_keeps | dsimp only | split)
theorem segTake_foot {w : Nat} (h : 72384586 &&& w = 72384586) (a0 : Nat) (c : Nat) (k : Nat) (key : Nat) (x : Ctx) (g : LineSeg) (o : OpenLine) (s : State) :
    (segTake a0 c k key x g o s).mask w = s.mask w := by
  refine mask_mono h ?_
  unfold segTake
  repeat' (first | with_reducible rfl | assumption | (intro _) | with_reducible refine ite_keeps ?_ ?_ | with_reducible refine ite_answer ?_ ?_ | with_reducible apply checked_keeps | with_reducible apply withCtx_keeps | with_reducible apply withQueue_keeps | with_reducible apply corrCmd_keeps | (simp only [foldl_mask, segBroken_foot, segWide_foot, modLink_foot, finishLine_foot, keeps_ok, keeps_started, keeps_fail, keeps_failWith, keeps_wait, keeps_next, Nat.reduceAnd]) | with_reducible apply foldl_keeps | dsimp only | split)
theorem lineReceived_foot {w : Nat} (h : 72384586 &&& w = 72384586) (l : Nat) (g : LineSeg) (s : State) :
    (lineReceived l g s).mask w = s.mask w := by
  refine mask_mono h ?_
  unfold lineReceived
  repeat' (first | with_reducible rfl | assumption | (intro _) | with_reducible refine ite_keeps ?_ ?_ | with_reducible refine ite_answer ?_ ?_ | with_reducible apply checked_keeps | with_reducible apply withCtx_keeps | with_reducible apply withQueue_keeps | with_reducible apply corrCmd_keeps | (simp only [foldl_mask, countLink_foot, segBroken_foot, beginLine_foot, segTake_foot, keeps_ok, keeps_started, keeps_fail, keeps_failWith, keeps_wait, keeps_next, Nat.reduceAnd]) | with_reducible apply foldl_keeps | dsimp only | split)
theorem reportLong_foot {w : Nat} (h : 68190274 &&& w = 68190274) (c : Nat) (s : State) :
    (reportLong c s).mask w = s.mask w := by
  refine mask_mono h ?_
  unfold reportLong
  repeat' (first | with_reducible rfl | assumption | (intro _) | with_reducible refine ite_keeps ?_ ?_ | with_reducible refine ite_answer ?_ ?_ | with_reducible apply checked_keeps | with_reducible apply withCtx_keeps | with_reducible apply withQueue_keeps | with_reducible apply corrCmd_keeps | (simp only [foldl_mask, raiseCtx_foot, countCtx_foot, modCtx_foot, keeps_ok, keeps_started, keeps_fail, keeps_failWith, keeps_wait, keeps_next, Nat.reduceAnd]) | with_reducible apply foldl_keeps | dsimp only | split)
theorem openFrame_foot {w : Nat} (h : 68190274 &&& w = 68190274) (c : Nat) (number : Nat) (index0 : Option Nat) (leader : Option Nat) (s : State) :
    (openFrame c number index0 leader s).mask w = s.mask w := by
  refine mask_mono h ?_
  unfold openFrame
  repeat' (first | with_reducible rfl | assumption | (intro _) | with_reducible refine ite_keeps ?_ ?_ | with_reducible refine ite_answer ?_ ?_ | with_reducible apply checked_keeps | with_reducible apply withCtx_keeps | with_reducible apply withQueue_keeps | with_reducible apply corrCmd_keeps | (simp only [foldl_mask, reportLong_foot, closeFrame_foot, modCtx_foot, keeps_ok, keeps_started, keeps_fail, keeps_failWith, keeps_wait, keeps_next, Nat.reduceAnd]) | with_reducible apply foldl_keeps | dsimp only | split)
theorem skipLines_foot {w : Nat} (h : 67108864 &&& w = 67108864) (c : Nat) (l : Nat) (n : Nat) (s : State) :
    (skipLines c l n s).mask w = s.mask w := by
  refine mask_mono h ?_
  unfold skipLines
  repeat' (first | with_reducible rfl | assumption | (intro _) | with_reducible refine ite_keeps ?_ ?_ | with_reducible refine ite_answer ?_ ?_ | with_reducible apply checked_keeps | with_reducible apply withCtx_keeps | with_reducible apply withQueue_keeps | with_reducible apply corrCmd_keeps | (simp only [foldl_mask, modCtx_foot, countCtxN_foot, loseLine_foot, keeps_ok, keeps_started, keeps_fail, keeps_failWith, keeps_wait, keeps_next, Nat.reduceAnd]) | with_reducible apply foldl_keeps | dsimp only | split)
theorem fmarkReceived_foot {w : Nat} (h : 68190274 &&& w = 68190274) (l : Nat) (sensor : Nat) (kind : FmarkKind) (number : Nat) (n : Nat) (s : State) :
    (fmarkReceived l sensor kind number n s).mask w = s.mask w := by
  refine mask_mono h ?_
  unfold fmarkReceived
  repeat' (first | with_reducible rfl | assumption | (intro _) | with_reducible refine ite_keeps ?_ ?_ | with_reducible refine ite_answer ?_ ?_ | with_reducible apply checked_keeps | with_reducible apply withCtx_keeps | with_reducible apply withQueue_keeps | with_reducible apply corrCmd_keeps | (simp only [foldl_mask, openFrame_foot, closeFrame_foot, skipLines_foot, keeps_ok, keeps_started, keeps_fail, keeps_failWith, keeps_wait, keeps_next, Nat.reduceAnd]) | with_reducible apply foldl_keeps | dsimp only | split)
theorem testReceived_foot {w : Nat} (h : 4194304 &&& w = 4194304) (l : Nat) (payload : List Byte) (s : State) :
    (testReceived l payload s).mask w = s.mask w := by
  refine mask_mono h ?_
  unfold testReceived
  repeat' (first | with_reducible rfl | assumption | (intro _) | with_reducible refine ite_keeps ?_ ?_ | with_reducible refine ite_answer ?_ ?_ | with_reducible apply checked_keeps | with_reducible apply withCtx_keeps | with_reducible apply withQueue_keeps | with_reducible apply corrCmd_keeps | (simp only [foldl_mask, countLink_foot, keeps_ok, keeps_started, keeps_fail, keeps_failWith, keeps_wait, keeps_next, Nat.reduceAnd]) | with_reducible apply foldl_keeps | dsimp only | split)
theorem hmsgArrive_foot {w : Nat} (h : 17590038560766 &&& w = 17590038560766) (a0 : Nat) (a1 : HMsg) (s : State) :
    (hmsgArrive a0 a1 s).mask w = s.mask w := by
  refine mask_mono h ?_
  unfold hmsgArrive
  repeat' (first | with_reducible rfl | assumption | (intro _) | with_reducible refine ite_keeps ?_ ?_ | with_reducible refine ite_answer ?_ ?_ | with_reducible apply checked_keeps | with_reducible apply withCtx_keeps | with_reducible apply withQueue_keeps | with_reducible apply corrCmd_keeps | (simp only [foldl_mask, hmsgDrop_foot, arrive_foot, hroute_foot, keeps_ok, keeps_started, keeps_fail, keeps_failWith, keeps_wait, keeps_next, Nat.reduceAnd]) | with_reducible apply foldl_keeps | dsimp only | split)
theorem forwardCell_foot {w : Nat} (h : 8594128960 &&& w = 8594128960) (a0 : Nat) (src : Nat) (pkt : List Byte) (s : State) :
    (forwardCell a0 src pkt s).mask w = s.mask w := by
  refine mask_mono h ?_
  unfold forwardCell
  have hd : ∀ s, (honey (hoHive 8) s).mask 8594128960 = s.mask 8594128960 := fun s => honey_foot (by decide) ..
  refine ite_keeps rfl ?_
  rcases s.serves' src with _ | ⟨c, k⟩
  · dsimp only
    rcases s.hive.cellRoutes.find src with _ | k
    · exact hd s
    · exact ite_keeps (hd s) (queuePacket_foot (by decide) ..)
  · exact cellFragment_foot (by decide) _ _ _ _ _ _ rfl hd
theorem packetBody_foot {w : Nat} (h : 17590038560766 &&& w = 17590038560766) (a0 : Nat) (hd : List Byte) (payload : List Byte) (s : State) :
    (packetBody a0 hd payload s).mask w = s.mask w := by
  refine mask_mono h ?_
  unfold packetBody
  refine ite_keeps (lineReceived_foot (by decide) ..) (ite_keeps ?_ (ite_keeps (cctlIn_foot (by decide) ..)
    (ite_keeps (testReceived_foot (by decide) ..) (ite_keeps (ite_keeps (hmsgDrop_foot (by decide) ..) (hmsgArrive_foot (by decide) ..))
    (ite_keeps (forwardCell_foot (by decide) ..) ?_)))))
  · split <;> first | rfl | exact fmarkReceived_foot (by decide) ..
  · rcases s.passthruOn a0 with _ | c
    · rfl
    · exact cellFragment_foot (by decide) _ _ _ _ _ _ rfl fun s => rfl
theorem returnCredit_foot {w : Nat} (h : 37748738 &&& w = 37748738) (a0 : Nat) (vc : Nat) (cost : Nat) (s : State) :
    (returnCredit a0 vc cost s).mask w = s.mask w := by
  refine mask_mono h ?_
  unfold returnCredit
  repeat' (first | with_reducible rfl | assumption | (intro _) | with_reducible refine ite_keeps ?_ ?_ | with_reducible refine ite_answer ?_ ?_ | with_reducible apply checked_keeps | with_reducible apply withCtx_keeps | with_reducible apply withQueue_keeps | with_reducible apply corrCmd_keeps | (simp only [foldl_mask, modHive_foot, grantMore_foot, keeps_ok, keeps_started, keeps_fail, keeps_failWith, keeps_wait, keeps_next, Nat.reduceAnd]) | with_reducible apply foldl_keeps | dsimp only | split)
theorem packetIn_foot {w : Nat} (h : 17590038560766 &&& w = 17590038560766) (a0 : Nat) (p : RxPacket) (s : State) :
    (packetIn a0 p s).mask w = s.mask w := by
  refine mask_mono h ?_
  unfold packetIn
  repeat' (first | with_reducible rfl | assumption | (intro _) | with_reducible refine ite_keeps ?_ ?_ | with_reducible refine ite_answer ?_ ?_ | with_reducible apply checked_keeps | with_reducible apply withCtx_keeps | with_reducible apply withQueue_keeps | with_reducible apply corrCmd_keeps | (simp only [foldl_mask, useCredit_foot, countLink_foot, packetBody_foot, returnCredit_foot, keeps_ok, keeps_started, keeps_fail, keeps_failWith, keeps_wait, keeps_next, Nat.reduceAnd]) | with_reducible apply foldl_keeps | dsimp only | split)
theorem execPacketReceived_foot {w : Nat} (h : 17590038560766 &&& w = 17590038560766) (l : LaneId) (p : RxPacket) (t : Nat) (s : State) :
    keepsOutcome w (s.mask w) (execPacketReceived l p t s) := by
  refine keepsOutcome_mono h ?_
  unfold execPacketReceived
  repeat' (first | with_reducible rfl | assumption | (intro _) | with_reducible refine ite_keeps ?_ ?_ | with_reducible refine ite_answer ?_ ?_ | with_reducible apply checked_keeps | with_reducible apply withCtx_keeps | with_reducible apply withQueue_keeps | with_reducible apply corrCmd_keeps | (simp only [foldl_mask, advTo_foot, countLink_foot, packetIn_foot, keeps_ok, keeps_started, keeps_fail, keeps_failWith, keeps_wait, keeps_next, Nat.reduceAnd]) | with_reducible apply foldl_keeps | dsimp only | split)
theorem execLineSegmentReceived_foot {w : Nat} (h : 72384618 &&& w = 72384618) (l : LaneId) (g : LineSeg) (t : Nat) (s : State) :
    keepsOutcome w (s.mask w) (execLineSegmentReceived l g t s) := by
  refine keepsOutcome_mono h ?_
  unfold execLineSegmentReceived
  repeat' (first | with_reducible rfl | assumption | (intro _) | with_reducible refine ite_keeps ?_ ?_ | with_reducible refine ite_answer ?_ ?_ | with_reducible apply checked_keeps | with_reducible apply withCtx_keeps | with_reducible apply withQueue_keeps | with_reducible apply corrCmd_keeps | (simp only [foldl_mask, lineReceived_foot, advTo_foot, keeps_ok, keeps_started, keeps_fail, keeps_failWith, keeps_wait, keeps_next, Nat.reduceAnd]) | with_reducible apply foldl_keeps | dsimp only | split)
theorem execFmarkReceived_foot {w : Nat} (h : 68190306 &&& w = 68190306) (l : LaneId) (sensor : Fin 8) (kind : FmarkKind) (number : Nat) (count : Nat) (t : Nat) (s : State) :
    keepsOutcome w (s.mask w) (execFmarkReceived l sensor kind number count t s) := by
  refine keepsOutcome_mono h ?_
  unfold execFmarkReceived
  repeat' (first | with_reducible rfl | assumption | (intro _) | with_reducible refine ite_keeps ?_ ?_ | with_reducible refine ite_answer ?_ ?_ | with_reducible apply checked_keeps | with_reducible apply withCtx_keeps | with_reducible apply withQueue_keeps | with_reducible apply corrCmd_keeps | (simp only [foldl_mask, fmarkReceived_foot, advTo_foot, keeps_ok, keeps_started, keeps_fail, keeps_failWith, keeps_wait, keeps_next, Nat.reduceAnd]) | with_reducible apply foldl_keeps | dsimp only | split)
theorem execCctlRequestReceived_foot {w : Nat} (h : 4194336 &&& w = 4194336) (l : LaneId) (write : Bool) (tag : Nat) (addr : Nat) (len : Nat) (data : List Byte) (t : Nat) (s : State) :
    keepsOutcome w (s.mask w) (execCctlRequestReceived l write tag addr len data t s) := by
  refine keepsOutcome_mono h ?_
  unfold execCctlRequestReceived
  repeat' (first | with_reducible rfl | assumption | (intro _) | with_reducible refine ite_keeps ?_ ?_ | with_reducible refine ite_answer ?_ ?_ | with_reducible apply checked_keeps | with_reducible apply withCtx_keeps | with_reducible apply withQueue_keeps | with_reducible apply corrCmd_keeps | (simp only [foldl_mask, cctlRequest_foot, advTo_foot, keeps_ok, keeps_started, keeps_fail, keeps_failWith, keeps_wait, keeps_next, Nat.reduceAnd]) | with_reducible apply foldl_keeps | dsimp only | split)
theorem execCctlAckReceived_foot {w : Nat} (h : 38830182 &&& w = 38830182) (l : LaneId) (write : Bool) (tag : Nat) (status : Nat) (data : List Byte) (t : Nat) (s : State) :
    keepsOutcome w (s.mask w) (execCctlAckReceived l write tag status data t s) := by
  refine keepsOutcome_mono h ?_
  unfold execCctlAckReceived
  repeat' (first | with_reducible rfl | assumption | (intro _) | with_reducible refine ite_keeps ?_ ?_ | with_reducible refine ite_answer ?_ ?_ | with_reducible apply checked_keeps | with_reducible apply withCtx_keeps | with_reducible apply withQueue_keeps | with_reducible apply corrCmd_keeps | (simp only [foldl_mask, cctlAck_foot, advTo_foot, keeps_ok, keeps_started, keeps_fail, keeps_failWith, keeps_wait, keeps_next, Nat.reduceAnd]) | with_reducible apply foldl_keeps | dsimp only | split)
theorem execCctlTimeout_foot {w : Nat} (h : 4194336 &&& w = 4194336) (l : LaneId) (tag : Nat) (s : State) :
    keepsOutcome w (s.mask w) (execCctlTimeout l tag s) := by
  refine keepsOutcome_mono h ?_
  unfold execCctlTimeout
  repeat' (first | with_reducible rfl | assumption | (intro _) | with_reducible refine ite_keeps ?_ ?_ | with_reducible refine ite_answer ?_ ?_ | with_reducible apply checked_keeps | with_reducible apply withCtx_keeps | with_reducible apply withQueue_keeps | with_reducible apply corrCmd_keeps | (simp only [foldl_mask, countLink_foot, modLink_foot, advTo_foot, keeps_ok, keeps_started, keeps_fail, keeps_failWith, keeps_wait, keeps_next, Nat.reduceAnd]) | with_reducible apply foldl_keeps | dsimp only | split)
theorem execTestPacketReceived_foot {w : Nat} (h : 4194304 &&& w = 4194304) (l : LaneId) (_seq : Nat) (payload : List Byte) (s : State) :
    keepsOutcome w (s.mask w) (execTestPacketReceived l _seq payload s) := by
  refine keepsOutcome_mono h ?_
  unfold execTestPacketReceived
  repeat' (first | with_reducible rfl | assumption | (intro _) | with_reducible refine ite_keeps ?_ ?_ | with_reducible refine ite_answer ?_ ?_ | with_reducible apply checked_keeps | with_reducible apply withCtx_keeps | with_reducible apply withQueue_keeps | with_reducible apply corrCmd_keeps | (simp only [foldl_mask, testReceived_foot, keeps_ok, keeps_started, keeps_fail, keeps_failWith, keeps_wait, keeps_next, Nat.reduceAnd]) | with_reducible apply foldl_keeps | dsimp only | split)
theorem execEventBlockReceived_foot {w : Nat} (h : 4194336 &&& w = 4194336) (l : LaneId) (_rep : Bool) (kind : Nat) (target : Nat) (seq : Nat) (time32 : Nat) (t : Nat) (s : State) :
    keepsOutcome w (s.mask w) (execEventBlockReceived l _rep kind target seq time32 t s) := by
  refine keepsOutcome_mono h ?_
  unfold execEventBlockReceived
  repeat' (first | with_reducible rfl | assumption | (intro _) | with_reducible refine ite_keeps ?_ ?_ | with_reducible refine ite_answer ?_ ?_ | with_reducible apply checked_keeps | with_reducible apply withCtx_keeps | with_reducible apply withQueue_keeps | with_reducible apply corrCmd_keeps | (simp only [foldl_mask, eventReceived_foot, advTo_foot, keeps_ok, keeps_started, keeps_fail, keeps_failWith, keeps_wait, keeps_next, Nat.reduceAnd]) | with_reducible apply foldl_keeps | dsimp only | split)
theorem execCreditBlockReceived_foot {w : Nat} (h : 4194304 &&& w = 4194304) (l : LaneId) (vc : Fin 16) (granted : BitVec 32) (s : State) :
    keepsOutcome w (s.mask w) (execCreditBlockReceived l vc granted s) := by
  refine keepsOutcome_mono h ?_
  unfold execCreditBlockReceived
  repeat' (first | with_reducible rfl | assumption | (intro _) | with_reducible refine ite_keeps ?_ ?_ | with_reducible refine ite_answer ?_ ?_ | with_reducible apply checked_keeps | with_reducible apply withCtx_keeps | with_reducible apply withQueue_keeps | with_reducible apply corrCmd_keeps | (simp only [foldl_mask, creditBlock_foot, keeps_ok, keeps_started, keeps_fail, keeps_failWith, keeps_wait, keeps_next, Nat.reduceAnd]) | with_reducible apply foldl_keeps | dsimp only | split)
theorem execCreditRepeat_foot {w : Nat} (h : 2 &&& w = 2) (l : LaneId) (s : State) :
    keepsOutcome w (s.mask w) (execCreditRepeat l s) := by
  refine keepsOutcome_mono h ?_
  unfold execCreditRepeat
  repeat' (first | with_reducible rfl | assumption | (intro _) | with_reducible refine ite_keeps ?_ ?_ | with_reducible refine ite_answer ?_ ?_ | with_reducible apply checked_keeps | with_reducible apply withCtx_keeps | with_reducible apply withQueue_keeps | with_reducible apply corrCmd_keeps | (simp only [foldl_mask, sendCredit_foot, keeps_ok, keeps_started, keeps_fail, keeps_failWith, keeps_wait, keeps_next, Nat.reduceAnd]) | with_reducible apply foldl_keeps | dsimp only | split)
theorem sendPacket_foot {w : Nat} (h : 2 &&& w = 2) (a0 : Nat) (b : List Byte) (s : State) :
    (sendPacket a0 b s).mask w = s.mask w := by
  refine mask_mono h ?_
  unfold sendPacket
  repeat' (first | with_reducible rfl | assumption | (intro _) | with_reducible refine ite_keeps ?_ ?_ | with_reducible refine ite_answer ?_ ?_ | with_reducible apply checked_keeps | with_reducible apply withCtx_keeps | with_reducible apply withQueue_keeps | with_reducible apply corrCmd_keeps | (simp only [foldl_mask, emit_foot, keeps_ok, keeps_started, keeps_fail, keeps_failWith, keeps_wait, keeps_next, Nat.reduceAnd]) | with_reducible apply foldl_keeps | dsimp only | split)
theorem sendTest_foot {w : Nat} (h : 4194310 &&& w = 4194310) (a0 : Nat) (p : PrbsTest) (s : State) :
    (sendTest a0 p s).mask w = s.mask w := by
  refine mask_mono h ?_
  unfold sendTest
  repeat' (first | with_reducible rfl | assumption | (intro _) | with_reducible refine ite_keeps ?_ ?_ | with_reducible refine ite_answer ?_ ?_ | with_reducible apply checked_keeps | with_reducible apply withCtx_keeps | with_reducible apply withQueue_keeps | with_reducible apply corrCmd_keeps | (simp only [foldl_mask, sendPacket_foot, bumpFree_foot, modLink_foot, keeps_ok, keeps_started, keeps_fail, keeps_failWith, keeps_wait, keeps_next, Nat.reduceAnd]) | with_reducible apply foldl_keeps | dsimp only | split)
theorem execPacketTransmit_foot {w : Nat} (h : 8663334918 &&& w = 8663334918) (l : LaneId) (s : State) :
    keepsOutcome w (s.mask w) (execPacketTransmit l s) := by
  refine keepsOutcome_mono h ?_
  unfold execPacketTransmit
  repeat' (first | with_reducible rfl | assumption | (intro _) | with_reducible refine ite_keeps ?_ ?_ | with_reducible refine ite_answer ?_ ?_ | with_reducible apply checked_keeps | with_reducible apply withCtx_keeps | with_reducible apply withQueue_keeps | with_reducible apply corrCmd_keeps | (simp only [foldl_mask, wakeDozing_foot, sendTest_foot, modLink_foot, sendPacket_foot, freeCell_foot, keeps_ok, keeps_started, keeps_fail, keeps_failWith, keeps_wait, keeps_next, Nat.reduceAnd]) | with_reducible apply foldl_keeps | dsimp only | split)
theorem execGeneratedLine_foot {w : Nat} (h : 4194338 &&& w = 4194338) (l : LaneId) (t : Nat) (s : State) :
    keepsOutcome w (s.mask w) (execGeneratedLine l t s) := by
  refine keepsOutcome_mono h ?_
  unfold execGeneratedLine
  repeat' (first | with_reducible rfl | assumption | (intro _) | with_reducible refine ite_keeps ?_ ?_ | with_reducible refine ite_answer ?_ ?_ | with_reducible apply checked_keeps | with_reducible apply withCtx_keeps | with_reducible apply withQueue_keeps | with_reducible apply corrCmd_keeps | (simp only [foldl_mask, advTo_foot, sendPacket_foot, modLink_foot, keeps_ok, keeps_started, keeps_fail, keeps_failWith, keeps_wait, keeps_next, Nat.reduceAnd]) | with_reducible apply foldl_keeps | dsimp only | split)

end Sys2Proof.Machine
end

