-- ==== Sys2Proof/Laws/Foot12.lean ====
section
/-! SUPPORT. What each operation leaves as it was, part 12 of 18: of state `s` it changes no field outside the set of its
footprint (a bit for each field, in the order of Field). -/
set_option linter.all false
set_option maxRecDepth 4000
open Sys2Proof Sys2Proof.Machine
namespace Sys2Proof.Machine

theorem execTimeSyncSend_foot {w : Nat} (h : 4194338 &&& w = 4194338) (l : LaneId) (t256 : Nat) (s : State) :
    keepsOutcome w (s.mask w) (execTimeSyncSend l t256 s) := by
  refine keepsOutcome_mono h ?_
  unfold execTimeSyncSend
  repeat' (first | with_reducible rfl | assumption | (intro _) | with_reducible refine ite_keeps ?_ ?_ | with_reducible refine ite_answer ?_ ?_ | with_reducible apply checked_keeps | with_reducible apply withCtx_keeps | with_reducible apply withQueue_keeps | with_reducible apply corrCmd_keeps | (simp only [foldl_mask, advTo256_foot, modTimeEx_foot, sendBlock_foot, keeps_ok, keeps_started, keeps_fail, keeps_failWith, keeps_wait, keeps_next, Nat.reduceAnd]) | with_reducible apply foldl_keeps | dsimp only | split)
theorem execTimeBlockReceived_foot {w : Nat} (h : 39366758 &&& w = 39366758) (l : LaneId) (kind : Nat) (exch : Nat) (valid : Bool) (source : Bool) (stamp48 : Nat) (t256 : Nat) (s : State) :
    keepsOutcome w (s.mask w) (execTimeBlockReceived l kind exch valid source stamp48 t256 s) := by
  refine keepsOutcome_mono h ?_
  unfold execTimeBlockReceived
  repeat' (first | with_reducible rfl | assumption | (intro _) | with_reducible refine ite_keeps ?_ ?_ | with_reducible refine ite_answer ?_ ?_ | with_reducible apply checked_keeps | with_reducible apply withCtx_keeps | with_reducible apply withQueue_keeps | with_reducible apply corrCmd_keeps | (simp only [foldl_mask, advTo256_foot, timeBlockIn_foot, keeps_ok, keeps_started, keeps_fail, keeps_failWith, keeps_wait, keeps_next, Nat.reduceAnd]) | with_reducible apply foldl_keeps | dsimp only | split)
theorem execTimeExchangeMissed_foot {w : Nat} (h : 4194304 &&& w = 4194304) (l : LaneId) (s : State) :
    keepsOutcome w (s.mask w) (execTimeExchangeMissed l s) := by
  refine keepsOutcome_mono h ?_
  unfold execTimeExchangeMissed
  repeat' (first | with_reducible rfl | assumption | (intro _) | with_reducible refine ite_keeps ?_ ?_ | with_reducible refine ite_answer ?_ ?_ | with_reducible apply checked_keeps | with_reducible apply withCtx_keeps | with_reducible apply withQueue_keeps | with_reducible apply corrCmd_keeps | (simp only [foldl_mask, countLink_foot, modTimeEx_foot, keeps_ok, keeps_started, keeps_fail, keeps_failWith, keeps_wait, keeps_next, Nat.reduceAnd]) | with_reducible apply foldl_keeps | dsimp only | split)
theorem execLmsgReceived_foot {w : Nat} (h : 65503586 &&& w = 65503586) (l : LaneId) (code : Nat) (seq : Nat) (t : Nat) (s : State) :
    keepsOutcome w (s.mask w) (execLmsgReceived l code seq t s) := by
  refine keepsOutcome_mono h ?_
  unfold execLmsgReceived
  repeat' (first | with_reducible rfl | assumption | (intro _) | with_reducible refine ite_keeps ?_ ?_ | with_reducible refine ite_answer ?_ ?_ | with_reducible apply checked_keeps | with_reducible apply withCtx_keeps | with_reducible apply withQueue_keeps | with_reducible apply corrCmd_keeps | (simp only [foldl_mask, lmsgReceived_foot, advTo_foot, keeps_ok, keeps_started, keeps_fail, keeps_failWith, keeps_wait, keeps_next, Nat.reduceAnd]) | with_reducible apply foldl_keeps | dsimp only | split)
theorem execPowerExchangeTimeout_foot {w : Nat} (h : 40337762 &&& w = 40337762) (l : LaneId) (s : State) :
    keepsOutcome w (s.mask w) (execPowerExchangeTimeout l s) := by
  refine keepsOutcome_mono h ?_
  unfold execPowerExchangeTimeout
  repeat' (first | with_reducible rfl | assumption | (intro _) | with_reducible refine ite_keeps ?_ ?_ | with_reducible refine ite_answer ?_ ?_ | with_reducible apply checked_keeps | with_reducible apply withCtx_keeps | with_reducible apply withQueue_keeps | with_reducible apply corrCmd_keeps | (simp only [foldl_mask, endExchange_foot, advTo_foot, finishWait_foot, keeps_ok, keeps_started, keeps_fail, keeps_failWith, keeps_wait, keeps_next, Nat.reduceAnd]) | with_reducible apply foldl_keeps | dsimp only | split)
theorem execAlignMarkSend_foot {w : Nat} (h : 4194338 &&& w = 4194338) (l : LaneId) (t : Nat) (s : State) :
    keepsOutcome w (s.mask w) (execAlignMarkSend l t s) := by
  refine keepsOutcome_mono h ?_
  unfold execAlignMarkSend
  repeat' (first | with_reducible rfl | assumption | (intro _) | with_reducible refine ite_keeps ?_ ?_ | with_reducible refine ite_answer ?_ ?_ | with_reducible apply checked_keeps | with_reducible apply withCtx_keeps | with_reducible apply withQueue_keeps | with_reducible apply corrCmd_keeps | (simp only [foldl_mask, advTo_foot, modLink_foot, sendAlignAll_foot, keeps_ok, keeps_started, keeps_fail, keeps_failWith, keeps_wait, keeps_next, Nat.reduceAnd]) | with_reducible apply foldl_keeps | dsimp only | split)
theorem execAlignMarkReceived_foot {w : Nat} (h : 38830178 &&& w = 38830178) (l : LaneId) (bfc : BitVec 32) (skew : Nat) (t : Nat) (s : State) :
    keepsOutcome w (s.mask w) (execAlignMarkReceived l bfc skew t s) := by
  refine keepsOutcome_mono h ?_
  unfold execAlignMarkReceived
  repeat' (first | with_reducible rfl | assumption | (intro _) | with_reducible refine ite_keeps ?_ ?_ | with_reducible refine ite_answer ?_ ?_ | with_reducible apply checked_keeps | with_reducible apply withCtx_keeps | with_reducible apply withQueue_keeps | with_reducible apply corrCmd_keeps | (simp only [foldl_mask, alignMark_foot, advTo_foot, keeps_ok, keeps_started, keeps_fail, keeps_failWith, keeps_wait, keeps_next, Nat.reduceAnd]) | with_reducible apply foldl_keeps | dsimp only | split)
theorem execLinkDegrade_foot {w : Nat} (h : 41386338 &&& w = 41386338) (l : LaneId) (t : Nat) (s : State) :
    keepsOutcome w (s.mask w) (execLinkDegrade l t s) := by
  refine keepsOutcome_mono h ?_
  unfold execLinkDegrade
  repeat' (first | with_reducible rfl | assumption | (intro _) | with_reducible refine ite_keeps ?_ ?_ | with_reducible refine ite_answer ?_ ?_ | with_reducible apply checked_keeps | with_reducible apply withCtx_keeps | with_reducible apply withQueue_keeps | with_reducible apply corrCmd_keeps | (simp only [foldl_mask, advTo_foot, linkLost_foot, modLink_foot, degradeTo_foot, sendAlignAll_foot, keeps_ok, keeps_started, keeps_fail, keeps_failWith, keeps_wait, keeps_next, Nat.reduceAnd]) | with_reducible apply foldl_keeps | dsimp only | split)
theorem execAlignDegradeReceived_foot {w : Nat} (h : 41386338 &&& w = 41386338) (l : LaneId) (mask : BitVec 4) (t : Nat) (s : State) :
    keepsOutcome w (s.mask w) (execAlignDegradeReceived l mask t s) := by
  refine keepsOutcome_mono h ?_
  unfold execAlignDegradeReceived
  repeat' (first | with_reducible rfl | assumption | (intro _) | with_reducible refine ite_keeps ?_ ?_ | with_reducible refine ite_answer ?_ ?_ | with_reducible apply checked_keeps | with_reducible apply withCtx_keeps | with_reducible apply withQueue_keeps | with_reducible apply corrCmd_keeps | (simp only [foldl_mask, alignDegrade_foot, advTo_foot, keeps_ok, keeps_started, keeps_fail, keeps_failWith, keeps_wait, keeps_next, Nat.reduceAnd]) | with_reducible apply foldl_keeps | dsimp only | split)
theorem execAlignRestripeReceived_foot {w : Nat} (h : 4194336 &&& w = 4194336) (l : LaneId) (mask : BitVec 4) (t : Nat) (s : State) :
    keepsOutcome w (s.mask w) (execAlignRestripeReceived l mask t s) := by
  refine keepsOutcome_mono h ?_
  unfold execAlignRestripeReceived
  repeat' (first | with_reducible rfl | assumption | (intro _) | with_reducible refine ite_keeps ?_ ?_ | with_reducible refine ite_answer ?_ ?_ | with_reducible apply checked_keeps | with_reducible apply withCtx_keeps | with_reducible apply withQueue_keeps | with_reducible apply corrCmd_keeps | (simp only [foldl_mask, alignRestripe_foot, advTo_foot, keeps_ok, keeps_started, keeps_fail, keeps_failWith, keeps_wait, keeps_next, Nat.reduceAnd]) | with_reducible apply foldl_keeps | dsimp only | split)
theorem execBondLaneRestore_foot {w : Nat} (h : 4130 &&& w = 4130) (l : LaneId) (t : Nat) (s : State) :
    keepsOutcome w (s.mask w) (execBondLaneRestore l t s) := by
  refine keepsOutcome_mono h ?_
  unfold execBondLaneRestore
  repeat' (first | with_reducible rfl | assumption | (intro _) | with_reducible refine ite_keeps ?_ ?_ | with_reducible refine ite_answer ?_ ?_ | with_reducible apply checked_keeps | with_reducible apply withCtx_keeps | with_reducible apply withQueue_keeps | with_reducible apply corrCmd_keeps | (simp only [foldl_mask, advTo_foot, faultOk_foot, sendAlignAll_foot, keeps_ok, keeps_started, keeps_fail, keeps_failWith, keeps_wait, keeps_next, Nat.reduceAnd]) | with_reducible apply foldl_keeps | dsimp only | split)
theorem execAlignRestoreReceived_foot {w : Nat} (h : 4194338 &&& w = 4194338) (l : LaneId) (mask : BitVec 4) (t : Nat) (s : State) :
    keepsOutcome w (s.mask w) (execAlignRestoreReceived l mask t s) := by
  refine keepsOutcome_mono h ?_
  unfold execAlignRestoreReceived
  repeat' (first | with_reducible rfl | assumption | (intro _) | with_reducible refine ite_keeps ?_ ?_ | with_reducible refine ite_answer ?_ ?_ | with_reducible apply checked_keeps | with_reducible apply withCtx_keeps | with_reducible apply withQueue_keeps | with_reducible apply corrCmd_keeps | (simp only [foldl_mask, alignRestore_foot, advTo_foot, keeps_ok, keeps_started, keeps_fail, keeps_failWith, keeps_wait, keeps_next, Nat.reduceAnd]) | with_reducible apply foldl_keeps | dsimp only | split)
theorem execDescriptorRead_foot {w : Nat} (h : 4194336 &&& w = 4194336) (l : LaneId) (t : Nat) (s : State) :
    keepsOutcome w (s.mask w) (execDescriptorRead l t s) := by
  refine keepsOutcome_mono h ?_
  unfold execDescriptorRead
  repeat' (first | with_reducible rfl | assumption | (intro _) | with_reducible refine ite_keeps ?_ ?_ | with_reducible refine ite_answer ?_ ?_ | with_reducible apply checked_keeps | with_reducible apply withCtx_keeps | with_reducible apply withQueue_keeps | with_reducible apply corrCmd_keeps | (simp only [foldl_mask, advTo_foot, askDescriptor_foot, keeps_ok, keeps_started, keeps_fail, keeps_failWith, keeps_wait, keeps_next, Nat.reduceAnd]) | with_reducible apply foldl_keeps | dsimp only | split)
theorem execDescriptorReadRetry_foot {w : Nat} (h : 4194336 &&& w = 4194336) (l : LaneId) (s : State) :
    keepsOutcome w (s.mask w) (execDescriptorReadRetry l s) := by
  refine keepsOutcome_mono h ?_
  unfold execDescriptorReadRetry
  repeat' (first | with_reducible rfl | assumption | (intro _) | with_reducible refine ite_keeps ?_ ?_ | with_reducible refine ite_answer ?_ ?_ | with_reducible apply checked_keeps | with_reducible apply withCtx_keeps | with_reducible apply withQueue_keeps | with_reducible apply corrCmd_keeps | (simp only [foldl_mask, askDescriptor_foot, advTo_foot, keeps_ok, keeps_started, keeps_fail, keeps_failWith, keeps_wait, keeps_next, Nat.reduceAnd]) | with_reducible apply foldl_keeps | dsimp only | split)
theorem takeDesc_foot {w : Nat} (h : 1048576 &&& w = 1048576) (q : Nat) (s : State) :
    (takeDesc q s).2.mask w = s.mask w := by
  refine mask_mono h ?_
  unfold takeDesc
  repeat' (first | with_reducible rfl | assumption | (intro _) | with_reducible refine ite_keeps ?_ ?_ | with_reducible refine ite_answer ?_ ?_ | with_reducible apply checked_keeps | with_reducible apply withCtx_keeps | with_reducible apply withQueue_keeps | with_reducible apply corrCmd_keeps | (simp only [foldl_mask, setQueue_foot, keeps_ok, keeps_started, keeps_fail, keeps_failWith, keeps_wait, keeps_next, Nat.reduceAnd]) | with_reducible apply foldl_keeps | dsimp only | split)
theorem tunnelFrame_foot {w : Nat} (h : 17858626 &&& w = 17858626) (l : Nat) (frame : List Byte) (s : State) :
    (tunnelFrame l frame s).mask w = s.mask w := by
  refine mask_mono h ?_
  unfold tunnelFrame
  cases s.tunnelIn l with
  | none => exact countEth_foot (by decide) ..
  | some q =>
    dsimp only
    cases s.queue q with
    | none => rfl
    | some v =>
      dsimp only
      refine ite_keeps (by rw [countQ_foot (by decide), countCplFull_foot (by decide)]) ?_
      have hb := takeDesc_foot (w := 17858626) (by decide) q s
      revert hb
      generalize takeDesc q s = u
      intro hb
      rcases u with ⟨_ | ⟨slot, desc⟩, t⟩
      · show (countQ ..).mask _ = _; rw [countQ_foot (by decide)]; exact hb
      · show (fetchMore ..).mask _ = _
        rw [fetchMore_foot (by decide), complete_foot (by decide)]
        refine ite_keeps ?_ ?_
        · rw [countQ_foot (by decide), dma_foot (by decide)]; exact hb
        · rw [dma_foot (by decide)]; exact hb
theorem takeEthFrame_foot {w : Nat} (h : 17858626 &&& w = 17858626) (l : Nat) (frame : List Byte) (s : State) :
    (takeEthFrame l frame s).mask w = s.mask w := by
  refine mask_mono h ?_
  unfold takeEthFrame
  repeat' (first | with_reducible rfl | assumption | (intro _) | with_reducible refine ite_keeps ?_ ?_ | with_reducible refine ite_answer ?_ ?_ | with_reducible apply checked_keeps | with_reducible apply withCtx_keeps | with_reducible apply withQueue_keeps | with_reducible apply corrCmd_keeps | (simp only [foldl_mask, modEth_foot, tunnelFrame_foot, countEth_foot, keeps_ok, keeps_started, keeps_fail, keeps_failWith, keeps_wait, keeps_next, Nat.reduceAnd]) | with_reducible apply foldl_keeps | dsimp only | split)
theorem execEthFrameReceived_foot {w : Nat} (h : 22052962 &&& w = 22052962) (l : LaneId) (frame : List Byte) (fcsOk : Bool) (fecOk : Bool) (t : Nat) (s : State) :
    keepsOutcome w (s.mask w) (execEthFrameReceived l frame fcsOk fecOk t s) := by
  refine keepsOutcome_mono h ?_
  unfold execEthFrameReceived
  repeat' (first | with_reducible rfl | assumption | (intro _) | with_reducible refine ite_keeps ?_ ?_ | with_reducible refine ite_answer ?_ ?_ | with_reducible apply checked_keeps | with_reducible apply withCtx_keeps | with_reducible apply withQueue_keeps | with_reducible apply corrCmd_keeps | (simp only [foldl_mask, advTo_foot, honeyN_foot, countLink_foot, countEth_foot, takeEthFrame_foot, keeps_ok, keeps_started, keeps_fail, keeps_failWith, keeps_wait, keeps_next, Nat.reduceAnd]) | with_reducible apply foldl_keeps | dsimp only | split)
theorem execEthLinkUp_foot {w : Nat} (h : 18878496 &&& w = 18878496) (l : LaneId) (t : Nat) (s : State) :
    keepsOutcome w (s.mask w) (execEthLinkUp l t s) := by
  refine keepsOutcome_mono h ?_
  unfold execEthLinkUp
  repeat' (first | with_reducible rfl | assumption | (intro _) | with_reducible refine ite_keeps ?_ ?_ | with_reducible refine ite_answer ?_ ?_ | with_reducible apply checked_keeps | with_reducible apply withCtx_keeps | with_reducible apply withQueue_keeps | with_reducible apply corrCmd_keeps | (simp only [foldl_mask, advTo_foot, faultOk_foot, modLane_foot, modEth_foot, keeps_ok, keeps_started, keeps_fail, keeps_failWith, keeps_wait, keeps_next, Nat.reduceAnd]) | with_reducible apply foldl_keeps | dsimp only | split)
theorem sendEth_foot {w : Nat} (h : 2 &&& w = 2) (l : Nat) (f : List Byte) (s : State) :
    (sendEth l f s).mask w = s.mask w := by
  refine mask_mono h ?_
  unfold sendEth
  repeat' (first | with_reducible rfl | assumption | (intro _) | with_reducible refine ite_keeps ?_ ?_ | with_reducible refine ite_answer ?_ ?_ | with_reducible apply checked_keeps | with_reducible apply withCtx_keeps | with_reducible apply withQueue_keeps | with_reducible apply corrCmd_keeps | (simp only [foldl_mask, emit_foot, keeps_ok, keeps_started, keeps_fail, keeps_failWith, keeps_wait, keeps_next, Nat.reduceAnd]) | with_reducible apply foldl_keeps | dsimp only | split)
theorem execArpIcmpAnswer_foot {w : Nat} (h : 16777250 &&& w = 16777250) (l : LaneId) (t : Nat) (s : State) :
    keepsOutcome w (s.mask w) (execArpIcmpAnswer l t s) := by
  refine keepsOutcome_mono h ?_
  unfold execArpIcmpAnswer
  repeat' (first | with_reducible rfl | assumption | (intro _) | with_reducible refine ite_keeps ?_ ?_ | with_reducible refine ite_answer ?_ ?_ | with_reducible apply checked_keeps | with_reducible apply withCtx_keeps | with_reducible apply withQueue_keeps | with_reducible apply corrCmd_keeps | (simp only [foldl_mask, advTo_foot, modEth_foot, sendEth_foot, countEth_foot, keeps_ok, keeps_started, keeps_fail, keeps_failWith, keeps_wait, keeps_next, Nat.reduceAnd]) | with_reducible apply foldl_keeps | dsimp only | split)
theorem finishEntry_foot {w : Nat} (h : 1081410 &&& w = 1081410) (q : Nat) (slot : Nat) (desc : List Byte) (status : Nat) (len : Nat) (lane : Nat) (time : Nat) (s : State) :
    (finishEntry q slot desc status len lane time s).mask w = s.mask w := by
  refine mask_mono h ?_
  unfold finishEntry
  repeat' (first | with_reducible rfl | assumption | (intro _) | with_reducible refine ite_keeps ?_ ?_ | with_reducible refine ite_answer ?_ ?_ | with_reducible apply checked_keeps | with_reducible apply withCtx_keeps | with_reducible apply withQueue_keeps | with_reducible apply corrCmd_keeps | (simp only [foldl_mask, modQueue_foot, takeDesc_foot, fetchMore_foot, complete_foot, keeps_ok, keeps_started, keeps_fail, keeps_failWith, keeps_wait, keeps_next, Nat.reduceAnd]) | with_reducible apply foldl_keeps | dsimp only | split)
theorem execTunnelOutSend_foot {w : Nat} (h : 1081442 &&& w = 1081442) (q : QId) (t : Nat) (s : State) :
    keepsOutcome w (s.mask w) (execTunnelOutSend q t s) := by
  refine keepsOutcome_mono h ?_
  unfold execTunnelOutSend
  repeat' (first | with_reducible rfl | assumption | (intro _) | with_reducible refine ite_keeps ?_ ?_ | with_reducible refine ite_answer ?_ ?_ | with_reducible apply checked_keeps | with_reducible apply withCtx_keeps | with_reducible apply withQueue_keeps | with_reducible apply corrCmd_keeps | (simp only [foldl_mask, advTo_foot, noteWait_foot, finishEntry_foot, emit_foot, keeps_ok, keeps_started, keeps_fail, keeps_failWith, keeps_wait, keeps_next, Nat.reduceAnd]) | with_reducible apply foldl_keeps | dsimp only | split)
theorem raiseEth_foot {w : Nat} (h : 1081410 &&& w = 1081410) (l : Nat) (ch : Nat) (code : Nat) (sev : Nat) (p2 : Nat) (s : State) :
    (raiseEth l ch code sev p2 s).mask w = s.mask w := by
  refine mask_mono h ?_
  unfold raiseEth
  repeat' (first | with_reducible rfl | assumption | (intro _) | with_reducible refine ite_keeps ?_ ?_ | with_reducible refine ite_answer ?_ ?_ | with_reducible apply checked_keeps | with_reducible apply withCtx_keeps | with_reducible apply withQueue_keeps | with_reducible apply corrCmd_keeps | (simp only [foldl_mask, raise_foot, keeps_ok, keeps_started, keeps_fail, keeps_failWith, keeps_wait, keeps_next, Nat.reduceAnd]) | with_reducible apply foldl_keeps | dsimp only | split)
theorem noteBlock_foot {w : Nat} (h : 17858626 &&& w = 17858626) (l : Nat) (ch : Nat) (id : Nat) (s : State) :
    (noteBlock l ch id s).mask w = s.mask w := by
  refine mask_mono h ?_
  unfold noteBlock
  repeat' (first | with_reducible rfl | assumption | (intro _) | with_reducible refine ite_keeps ?_ ?_ | with_reducible refine ite_answer ?_ ?_ | with_reducible apply checked_keeps | with_reducible apply withCtx_keeps | with_reducible apply withQueue_keeps | with_reducible apply corrCmd_keeps | (simp only [foldl_mask, modStream_foot, raiseEth_foot, countStreamN_foot, keeps_ok, keeps_started, keeps_fail, keeps_failWith, keeps_wait, keeps_next, Nat.reduceAnd]) | with_reducible apply foldl_keeps | dsimp only | split)
theorem unsupported_foot {w : Nat} (h : 17858626 &&& w = 17858626) (l : Nat) (ch : Nat) (s : State) :
    (unsupported l ch s).mask w = s.mask w := by
  refine mask_mono h ?_
  unfold unsupported
  repeat' (first | with_reducible rfl | assumption | (intro _) | with_reducible refine ite_keeps ?_ ?_ | with_reducible refine ite_answer ?_ ?_ | with_reducible apply checked_keeps | with_reducible apply withCtx_keeps | with_reducible apply withQueue_keeps | with_reducible apply corrCmd_keeps | (simp only [foldl_mask, countStream_foot, raiseEth_foot, modStream_foot, keeps_ok, keeps_started, keeps_fail, keeps_failWith, keeps_wait, keeps_next, Nat.reduceAnd]) | with_reducible apply foldl_keeps | dsimp only | split)
theorem openBlock_foot {w : Nat} (h : 84967490 &&& w = 84967490) (l : Nat) (ch : Nat) (c : Nat) (id : Nat) (pkt : Nat) (ts : Nat) (parts : List GvspPart) (s : State) :
    (openBlock l ch c id pkt ts parts s).mask w = s.mask w := by
  refine mask_mono h ?_
  unfold openBlock
  repeat' (first | with_reducible rfl | assumption | (intro _) | with_reducible refine ite_keeps ?_ ?_ | with_reducible refine ite_answer ?_ ?_ | with_reducible apply checked_keeps | with_reducible apply withCtx_keeps | with_reducible apply withQueue_keeps | with_reducible apply corrCmd_keeps | (simp only [foldl_mask, modStream_foot, raiseEth_foot, countStream_foot, openFrame_foot, modCtx_foot, keeps_ok, keeps_started, keeps_fail, keeps_failWith, keeps_wait, keeps_next, Nat.reduceAnd]) | with_reducible apply foldl_keeps | dsimp only | split)
theorem leader_foot {w : Nat} (h : 89161802 &&& w = 89161802) (l : Nat) (ch : Nat) (c : Nat) (p : GvspPacket) (kind : Nat) (ts : Nat) (parts : List GvspPart) (s : State) :
    (leader l ch c p kind ts parts s).mask w = s.mask w := by
  refine mask_mono h ?_
  unfold leader
  repeat' (first | with_reducible rfl | assumption | (intro _) | with_reducible refine ite_keeps ?_ ?_ | with_reducible refine ite_answer ?_ ?_ | with_reducible apply checked_keeps | with_reducible apply withCtx_keeps | with_reducible apply withQueue_keeps | with_reducible apply corrCmd_keeps | (simp only [foldl_mask, noteBlock_foot, closeBlock_foot, countStreamN_foot, unsupported_foot, countStream_foot, openBlock_foot, keeps_ok, keeps_started, keeps_fail, keeps_failWith, keeps_wait, keeps_next, Nat.reduceAnd]) | with_reducible apply foldl_keeps | dsimp only | split)
theorem inOrder_foot {w : Nat} (h : 16777216 &&& w = 16777216) {l ch : Nat} {b : GvspBlock} {pkt : Nat} {s t : State}
    (e : inOrder l ch b pkt s = some t) : t.mask w = s.mask w := by
  refine mask_mono h ?_
  unfold inOrder at e
  split at e
  · contradiction
  · cases e; simp only [modStream_foot, countStreamN_foot, Nat.reduceAnd]
theorem payload_foot {w : Nat} (h : 89161802 &&& w = 89161802) (l : Nat) (ch : Nat) (part : Nat) (off : Nat) (d : List Byte) (s : State) :
    (payload l ch part off d s).mask w = s.mask w := by
  refine mask_mono h ?_
  unfold payload
  repeat' (first | with_reducible rfl | assumption | (intro _) | with_reducible refine ite_keeps ?_ ?_ | with_reducible refine ite_answer ?_ ?_ | with_reducible apply checked_keeps | with_reducible apply withCtx_keeps | with_reducible apply withQueue_keeps | with_reducible apply corrCmd_keeps | (simp only [foldl_mask, handLines_foot, modStream_foot, keeps_ok, keeps_started, keeps_fail, keeps_failWith, keeps_wait, keeps_next, Nat.reduceAnd]) | with_reducible apply foldl_keeps | dsimp only | split)
theorem gvspPacket_foot {w : Nat} (h : 89161802 &&& w = 89161802) (l : Nat) (ch : Nat) (p : GvspPacket) (s : State) :
    (gvspPacket l ch p s).mask w = s.mask w := by
  refine mask_mono h ?_
  unfold gvspPacket
  have hc : ∀ k, (countStream l ch k s).mask 89161802 = s.mask 89161802 := fun k => countStream_foot (by decide) ..
  have hn : (noteBlock l ch p.blockId s).mask 89161802 = s.mask 89161802 := noteBlock_foot (by decide) ..
  have hu : ∀ s, (unsupported l ch s).mask 89161802 = s.mask 89161802 := fun s => unsupported_foot (by decide) ..
  have hd : (discardBlock l ch s).mask 89161802 = s.mask 89161802 := discardBlock_foot (by decide) ..
  have hr : (raiseEth l ch 0x010C sevE 0 (countStream l ch .noLeader (noteBlock l ch p.blockId s))).mask 89161802 = s.mask 89161802 := by
    rw [raiseEth_foot (by decide), countStream_foot (by decide), hn]
  cases s.channelCtx l ch with
  | none => exact hc _
  | some c =>
    dsimp only
    generalize (match (s.stream l ch).lastId with
      | some i => decide (i < p.blockId)
      | none => true) = fresh
    split
    · exact ite_keeps (leader_foot (by decide) ..) (hc _)
    · split
      · refine ite_keeps (ite_keeps (by rw [hu, hd]) ?_) (ite_keeps (ite_keeps (by rw [hu, hn]) hr) rfl)
        split
        · exact hc _
        · have ht := mask_mono (w := 89161802) (by decide) (inOrder_foot (w := 16777216) (by decide) (by assumption))
          split
          · rw [payload_foot (by decide), ht]
          · rw [chunkData_foot (by decide), ht]
          · rw [closeBlock_foot (by decide), ht]
          · rw [hu, discardBlock_foot (by decide), ht]
      · exact ite_keeps rfl (ite_keeps (by rw [hu, hn]) hr)
theorem execGvspPacketReceived_foot {w : Nat} (h : 89161834 &&& w = 89161834) (l : LaneId) (ch : Fin 8) (p : GvspPacket) (t : Nat) (s : State) :
    keepsOutcome w (s.mask w) (execGvspPacketReceived l ch p t s) := by
  refine keepsOutcome_mono h ?_
  unfold execGvspPacketReceived
  repeat' (first | with_reducible rfl | assumption | (intro _) | with_reducible refine ite_keeps ?_ ?_ | with_reducible refine ite_answer ?_ ?_ | with_reducible apply checked_keeps | with_reducible apply withCtx_keeps | with_reducible apply withQueue_keeps | with_reducible apply corrCmd_keeps | (simp only [foldl_mask, advTo_foot, gvspPacket_foot, keeps_ok, keeps_started, keeps_fail, keeps_failWith, keeps_wait, keeps_next, Nat.reduceAnd]) | with_reducible apply foldl_keeps | dsimp only | split)
theorem execGvspBlockTimeout_foot {w : Nat} (h : 89161834 &&& w = 89161834) (l : LaneId) (ch : Fin 8) (s : State) :
    keepsOutcome w (s.mask w) (execGvspBlockTimeout l ch s) := by
  refine keepsOutcome_mono h ?_
  unfold execGvspBlockTimeout
  repeat' (first | with_reducible rfl | assumption | (intro _) | with_reducible refine ite_keeps ?_ ?_ | with_reducible refine ite_answer ?_ ?_ | with_reducible apply checked_keeps | with_reducible apply withCtx_keeps | with_reducible apply withQueue_keeps | with_reducible apply corrCmd_keeps | (simp only [foldl_mask, closeBlock_foot, advTo_foot, keeps_ok, keeps_started, keeps_fail, keeps_failWith, keeps_wait, keeps_next, Nat.reduceAnd]) | with_reducible apply foldl_keeps | dsimp only | split)
theorem sendPtp_foot {w : Nat} (h : 2 &&& w = 2) (l : Nat) (kind : Nat) (seq : Nat) (time : Nat) (data : List Nat) (s : State) :
    (sendPtp l kind seq time data s).mask w = s.mask w := by
  refine mask_mono h ?_
  unfold sendPtp
  repeat' (first | with_reducible rfl | assumption | (intro _) | with_reducible refine ite_keeps ?_ ?_ | with_reducible refine ite_answer ?_ ?_ | with_reducible apply checked_keeps | with_reducible apply withCtx_keeps | with_reducible apply withQueue_keeps | with_reducible apply corrCmd_keeps | (simp only [foldl_mask, emit_foot, keeps_ok, keeps_started, keeps_fail, keeps_failWith, keeps_wait, keeps_next, Nat.reduceAnd]) | with_reducible apply foldl_keeps | dsimp only | split)
theorem execPtpMessageSend_foot {w : Nat} (h : 16777250 &&& w = 16777250) (l : LaneId) (kind : PtpSend) (t : Nat) (s : State) :
    keepsOutcome w (s.mask w) (execPtpMessageSend l kind t s) := by
  refine keepsOutcome_mono h ?_
  unfold execPtpMessageSend
  repeat' (first | with_reducible rfl | assumption | (intro _) | with_reducible refine ite_keeps ?_ ?_ | with_reducible refine ite_answer ?_ ?_ | with_reducible apply checked_keeps | with_reducible apply withCtx_keeps | with_reducible apply withQueue_keeps | with_reducible apply corrCmd_keeps | (simp only [foldl_mask, advTo_foot, modEth_foot, sendPtp_foot, keeps_ok, keeps_started, keeps_fail, keeps_failWith, keeps_wait, keeps_next, Nat.reduceAnd]) | with_reducible apply foldl_keeps | dsimp only | split)
theorem holdMeasure_foot {w : Nat} (h : 38830178 &&& w = 38830178) (reason : Nat) (e : Int) (s : State) :
    (holdMeasure reason e s).mask w = s.mask w := by
  refine mask_mono h ?_
  unfold holdMeasure
  repeat' (first | with_reducible rfl | assumption | (intro _) | with_reducible refine ite_keeps ?_ ?_ | with_reducible refine ite_answer ?_ ?_ | with_reducible apply checked_keeps | with_reducible apply withCtx_keeps | with_reducible apply withQueue_keeps | with_reducible apply corrCmd_keeps | (simp only [foldl_mask, servoJudge_foot, changeExt_foot, modClock_foot, logNow_foot, keeps_ok, keeps_started, keeps_fail, keeps_failWith, keeps_wait, keeps_next, Nat.reduceAnd]) | with_reducible apply foldl_keeps | dsimp only | split)
theorem measure_foot {w : Nat} (h : 38830182 &&& w = 38830182) (reason : Nat) (e : Int) (s : State) :
    (measure reason e s).mask w = s.mask w := by
  refine mask_mono h ?_
  unfold measure
  repeat' (first | with_reducible rfl | assumption | (intro _) | with_reducible refine ite_keeps ?_ ?_ | with_reducible refine ite_answer ?_ ?_ | with_reducible apply checked_keeps | with_reducible apply withCtx_keeps | with_reducible apply withQueue_keeps | with_reducible apply corrCmd_keeps | (simp only [foldl_mask, holdMeasure_foot, logNow_foot, modClock_foot, servoFeed_foot, keeps_ok, keeps_started, keeps_fail, keeps_failWith, keeps_wait, keeps_next, Nat.reduceAnd]) | with_reducible apply foldl_keeps | dsimp only | split)
theorem ptpMeasure_foot {w : Nat} (h : 38830182 &&& w = 38830182) (origin : Nat) (arrival : Nat) (delay : Int) (s : State) :
    (ptpMeasure origin arrival delay s).mask w = s.mask w := by
  refine mask_mono h ?_
  unfold ptpMeasure
  repeat' (first | with_reducible rfl | assumption | (intro _) | with_reducible refine ite_keeps ?_ ?_ | with_reducible refine ite_answer ?_ ?_ | with_reducible apply checked_keeps | with_reducible apply withCtx_keeps | with_reducible apply withQueue_keeps | with_reducible apply corrCmd_keeps | (simp only [foldl_mask, changeExt_foot, measure_foot, keeps_ok, keeps_started, keeps_fail, keeps_failWith, keeps_wait, keeps_next, Nat.reduceAnd]) | with_reducible apply foldl_keeps | dsimp only | split)
theorem syncPair_foot {w : Nat} (h : 55607398 &&& w = 55607398) (l : Nat) (origin : Nat) (arrival : Nat) (s : State) :
    (syncPair l origin arrival s).mask w = s.mask w := by
  refine mask_mono h ?_
  unfold syncPair
  repeat' (first | with_reducible rfl | assumption | (intro _) | with_reducible refine ite_keeps ?_ ?_ | with_reducible refine ite_answer ?_ ?_ | with_reducible apply checked_keeps | with_reducible apply withCtx_keeps | with_reducible apply withQueue_keeps | with_reducible apply corrCmd_keeps | (simp only [foldl_mask, modEth_foot, ptpMeasure_foot, keeps_ok, keeps_started, keeps_fail, keeps_failWith, keeps_wait, keeps_next, Nat.reduceAnd]) | with_reducible apply foldl_keeps | dsimp only | split)
theorem slaveMessage_foot {w : Nat} (h : 55607398 &&& w = 55607398) (l : Nat) (a1 : PtpMsg) (s : State) :
    (slaveMessage l a1 s).mask w = s.mask w := by
  refine mask_mono h ?_
  unfold slaveMessage
  repeat' (first | with_reducible rfl | assumption | (intro _) | with_reducible refine ite_keeps ?_ ?_ | with_reducible refine ite_answer ?_ ?_ | with_reducible apply checked_keeps | with_reducible apply withCtx_keeps | with_reducible apply withQueue_keeps | with_reducible apply corrCmd_keeps | (simp only [foldl_mask, chooseMaster_foot, modEth_foot, setValid_foot, syncPair_foot, keeps_ok, keeps_started, keeps_fail, keeps_failWith, keeps_wait, keeps_next, Nat.reduceAnd]) | with_reducible apply foldl_keeps | dsimp only | split)
theorem execPtpMessageReceived_foot {w : Nat} (h : 55607398 &&& w = 55607398) (l : LaneId) (msg : PtpMsg) (t : Nat) (s : State) :
    keepsOutcome w (s.mask w) (execPtpMessageReceived l msg t s) := by
  refine keepsOutcome_mono h ?_
  unfold execPtpMessageReceived
  repeat' (first | with_reducible rfl | assumption | (intro _) | with_reducible refine ite_keeps ?_ ?_ | with_reducible refine ite_answer ?_ ?_ | with_reducible apply checked_keeps | with_reducible apply withCtx_keeps | with_reducible apply withQueue_keeps | with_reducible apply corrCmd_keeps | (simp only [foldl_mask, advTo_foot, slaveMessage_foot, sendPtp_foot, modEth_foot, countEth_foot, keeps_ok, keeps_started, keeps_fail, keeps_failWith, keeps_wait, keeps_next, Nat.reduceAnd]) | with_reducible apply foldl_keeps | dsimp only | split)
theorem execCtxCreate_foot {w : Nat} (h : 121864258 &&& w = 121864258) (f : Fn) (a1 : Mbx) (s : State) :
    keepsOutcome w (s.mask w) (execCtxCreate f a1 s) := by
  refine keepsOutcome_mono h ?_
  rw [execCtxCreate, keeps_next]
  exact serve_foot (by decide) _ _ _ _ rfl fun r s' hs => cmdCtxCreate_foot (by decide) r s' hs
theorem execCtxSet_foot {w : Nat} (h : 105087042 &&& w = 105087042) (f : Fn) (a1 : Mbx) (s : State) :
    keepsOutcome w (s.mask w) (execCtxSet f a1 s) := by
  refine keepsOutcome_mono h ?_
  rw [execCtxSet, keeps_next]
  exact serve_foot (by decide) _ _ _ _ rfl fun r s' hs => cmdCtxSet_foot (by decide) r s' hs
theorem execCtxAssign_foot {w : Nat} (h : 239305794 &&& w = 239305794) (f : Fn) (a1 : Mbx) (s : State) :
    keepsOutcome w (s.mask w) (execCtxAssign f a1 s) := by
  refine keepsOutcome_mono h ?_
  rw [execCtxAssign, keeps_next]
  exact serve_foot (by decide) _ _ _ _ rfl fun r s' hs => cmdCtxAssign_foot (by decide) r s' hs
theorem execCtxStart_foot {w : Nat} (h : 108234070 &&& w = 108234070) (f : Fn) (a1 : Mbx) (s : State) :
    keepsOutcome w (s.mask w) (execCtxStart f a1 s) := by
  refine keepsOutcome_mono h ?_
  rw [execCtxStart, keeps_next]
  exact serveWaking_foot (by decide) _ _ _ _ _ rfl fun r s' hs => cmdCtxStart_foot (by decide) r s' hs
theorem execCtxStop_foot {w : Nat} (h : 105087042 &&& w = 105087042) (f : Fn) (a1 : Mbx) (s : State) :
    keepsOutcome w (s.mask w) (execCtxStop f a1 s) := by
  refine keepsOutcome_mono h ?_
  rw [execCtxStop, keeps_next]
  exact serve_foot (by decide) _ _ _ _ rfl fun r s' hs => cmdCtxStop_foot (by decide) r s' hs
theorem execCtxStopped_foot {w : Nat} (h : 68190274 &&& w = 68190274) (c : CtxId) (s : State) :
    keepsOutcome w (s.mask w) (execCtxStopped c s) := by
  refine keepsOutcome_mono h ?_
  unfold execCtxStopped
  repeat' (first | with_reducible rfl | assumption | (intro _) | with_reducible refine ite_keeps ?_ ?_ | with_reducible refine ite_answer ?_ ?_ | with_reducible apply checked_keeps | with_reducible apply withCtx_keeps | with_reducible apply withQueue_keeps | with_reducible apply corrCmd_keeps | (simp only [foldl_mask, raiseCtx_foot, modCtx_foot, keeps_ok, keeps_started, keeps_fail, keeps_failWith, keeps_wait, keeps_next, Nat.reduceAnd]) | with_reducible apply foldl_keeps | dsimp only | split)
theorem execCtxRelease_foot {w : Nat} (h : 239304770 &&& w = 239304770) (f : Fn) (a1 : Mbx) (s : State) :
    keepsOutcome w (s.mask w) (execCtxRelease f a1 s) := by
  refine keepsOutcome_mono h ?_
  rw [execCtxRelease, keeps_next]
  exact serve_foot (by decide) _ _ _ _ rfl fun r s' hs => cmdCtxRelease_foot (by decide) r s' hs
theorem execCtxDestroy_foot {w : Nat} (h : 73119531082 &&& w = 73119531082) (f : Fn) (a1 : Mbx) (s : State) :
    keepsOutcome w (s.mask w) (execCtxDestroy f a1 s) := by
  refine keepsOutcome_mono h ?_
  rw [execCtxDestroy, keeps_next]
  exact serve_foot (by decide) _ _ _ _ rfl fun r s' hs => cmdCtxDestroy_foot (by decide) r s' hs
theorem execCtxGetStatus_foot {w : Nat} (h : 105087042 &&& w = 105087042) (f : Fn) (a1 : Mbx) (s : State) :
    keepsOutcome w (s.mask w) (execCtxGetStatus f a1 s) := by
  refine keepsOutcome_mono h ?_
  rw [execCtxGetStatus, keeps_next]
  exact serve_foot (by decide) _ _ _ _ rfl fun r s' hs => cmdCtxGetStatus_foot (by decide) r s' hs
theorem execIntakeSetPartition_foot {w : Nat} (h : 306413634 &&& w = 306413634) (f : Fn) (a1 : Mbx) (s : State) :
    keepsOutcome w (s.mask w) (execIntakeSetPartition f a1 s) := by
  refine keepsOutcome_mono h ?_
  rw [execIntakeSetPartition, keeps_next]
  exact serve_foot (by decide) _ _ _ _ rfl fun r s' hs => cmdIntakeSetPartition_foot (by decide) r s' hs
theorem execCombSetSpare_foot {w : Nat} (h : 172195922 &&& w = 172195922) (f : Fn) (a1 : Mbx) (s : State) :
    keepsOutcome w (s.mask w) (execCombSetSpare f a1 s) := by
  refine keepsOutcome_mono h ?_
  rw [execCombSetSpare, keeps_next]
  exact serve_foot (by decide) _ _ _ _ rfl fun r s' hs => cmdCombSetSpare_foot (by decide) r s' hs
theorem execCombGetStatus_foot {w : Nat} (h : 37978178 &&& w = 37978178) (f : Fn) (a1 : Mbx) (s : State) :
    keepsOutcome w (s.mask w) (execCombGetStatus f a1 s) := by
  refine keepsOutcome_mono h ?_
  rw [execCombGetStatus, keeps_next]
  exact serve_foot (by decide) _ _ _ _ rfl fun r s' hs => cmdCombGetStatus_foot (by decide) r s' hs
theorem execLineTimeoutExpiry_foot {w : Nat} (h : 68190314 &&& w = 68190314) (c : CtxId) (lineNo : Nat) (s : State) :
    keepsOutcome w (s.mask w) (execLineTimeoutExpiry c lineNo s) := by
  refine keepsOutcome_mono h ?_
  unfold execLineTimeoutExpiry
  repeat' (first | with_reducible rfl | assumption | (intro _) | with_reducible refine ite_keeps ?_ ?_ | with_reducible refine ite_answer ?_ ?_ | with_reducible apply checked_keeps | with_reducible apply withCtx_keeps | with_reducible apply withQueue_keeps | with_reducible apply corrCmd_keeps | (simp only [foldl_mask, breakLine_foot, advTo_foot, keeps_ok, keeps_started, keeps_fail, keeps_failWith, keeps_wait, keeps_next, Nat.reduceAnd]) | with_reducible apply foldl_keeps | dsimp only | split)
theorem execFrameTimeoutExpiry_foot {w : Nat} (h : 68190306 &&& w = 68190306) (c : CtxId) (s : State) :
    keepsOutcome w (s.mask w) (execFrameTimeoutExpiry c s) := by
  refine keepsOutcome_mono h ?_
  unfold execFrameTimeoutExpiry
  repeat' (first | with_reducible rfl | assumption | (intro _) | with_reducible refine ite_keeps ?_ ?_ | with_reducible refine ite_answer ?_ ?_ | with_reducible apply checked_keeps | with_reducible apply withCtx_keeps | with_reducible apply withQueue_keeps | with_reducible apply corrCmd_keeps | (simp only [foldl_mask, closeFrame_foot, advTo_foot, reportLong_foot, keeps_ok, keeps_started, keeps_fail, keeps_failWith, keeps_wait, keeps_next, Nat.reduceAnd]) | with_reducible apply foldl_keeps | dsimp only | split)
theorem execStripeStart_foot {w : Nat} (h : 8792342634 &&& w = 8792342634) (k : CombId) (t : Nat) (s : State) :
    keepsOutcome w (s.mask w) (execStripeStart k t s) := by
  refine keepsOutcome_mono h ?_
  unfold execStripeStart
  repeat' (first | with_reducible rfl | assumption | (intro _) | with_reducible refine ite_keeps ?_ ?_ | with_reducible refine ite_answer ?_ ?_ | with_reducible apply checked_keeps | with_reducible apply withCtx_keeps | with_reducible apply withQueue_keeps | with_reducible apply corrCmd_keeps | (simp only [foldl_mask, advTo_foot, modComb_foot, countCtx_foot, applyWaits_foot, modCtx_foot, keeps_ok, keeps_started, keeps_fail, keeps_failWith, keeps_wait, keeps_next, Nat.reduceAnd]) | with_reducible apply foldl_keeps | dsimp only | split)
theorem execCombUngate_foot {w : Nat} (h : 134217760 &&& w = 134217760) (k : CombId) (t : Nat) (s : State) :
    keepsOutcome w (s.mask w) (execCombUngate k t s) := by
  refine keepsOutcome_mono h ?_
  unfold execCombUngate
  repeat' (first | with_reducible rfl | assumption | (intro _) | with_reducible refine ite_keeps ?_ ?_ | with_reducible refine ite_answer ?_ ?_ | with_reducible apply checked_keeps | with_reducible apply withCtx_keeps | with_reducible apply withQueue_keeps | with_reducible apply corrCmd_keeps | (simp only [foldl_mask, advTo_foot, modComb_foot, keeps_ok, keeps_started, keeps_fail, keeps_failWith, keeps_wait, keeps_next, Nat.reduceAnd]) | with_reducible apply foldl_keeps | dsimp only | split)
theorem reportApplied_foot {w : Nat} (h : 68190274 &&& w = 68190274) (c : Nat) (pos : Nat) (s : State) :
    (reportApplied c pos s).mask w = s.mask w := by
  refine mask_mono h ?_
  unfold reportApplied
  repeat' (first | with_reducible rfl | assumption | (intro _) | with_reducible refine ite_keeps ?_ ?_ | with_reducible refine ite_answer ?_ ?_ | with_reducible apply checked_keeps | with_reducible apply withCtx_keeps | with_reducible apply withQueue_keeps | with_reducible apply corrCmd_keeps | (simp only [foldl_mask, raiseCtx_foot, modCtx_foot, keeps_ok, keeps_started, keeps_fail, keeps_failWith, keeps_wait, keeps_next, Nat.reduceAnd]) | with_reducible apply foldl_keeps | dsimp only | split)
theorem takeLine_foot {w : Nat} (h : 68190274 &&& w = 68190274) (c : Nat) (pos : Nat) (s : State) :
    (takeLine c pos s).mask w = s.mask w := by
  refine mask_mono h ?_
  unfold takeLine
  repeat' (first | with_reducible rfl | assumption | (intro _) | with_reducible refine ite_keeps ?_ ?_ | with_reducible refine ite_answer ?_ ?_ | with_reducible apply checked_keeps | with_reducible apply withCtx_keeps | with_reducible apply withQueue_keeps | with_reducible apply corrCmd_keeps | (simp only [foldl_mask, reportApplied_foot, modCtx_foot, keeps_ok, keeps_started, keeps_fail, keeps_failWith, keeps_wait, keeps_next, Nat.reduceAnd]) | with_reducible apply foldl_keeps | dsimp only | split)
theorem oneLine_foot {w : Nat} (h : 8658124878 &&& w = 8658124878) (c : Nat) (s : State) :
    (oneLine c s).2.mask w = s.mask w := by
  refine mask_mono h ?_
  unfold oneLine
  repeat' (first | with_reducible rfl | assumption | (intro _) | with_reducible refine ite_keeps ?_ ?_ | with_reducible refine ite_answer ?_ ?_ | with_reducible apply checked_keeps | with_reducible apply withCtx_keeps | with_reducible apply withQueue_keeps | with_reducible apply corrCmd_keeps | (simp only [foldl_mask, countCtx_foot, modCtx_foot, takeLine_foot, combEvent_foot, keeps_ok, keeps_started, keeps_fail, keeps_failWith, keeps_wait, keeps_next, Nat.reduceAnd]) | with_reducible apply foldl_keeps | dsimp only | split)

end Sys2Proof.Machine
end

