-- ==== Sys2Proof/Laws/Foot13.lean ====
section
/-! SUPPORT. What each operation leaves as it was, part 13 of 18: of state `s` it changes no field outside the set of its
footprint (a bit for each field, in the order of Field). -/
set_option linter.all false
set_option maxRecDepth 4000
open Sys2Proof Sys2Proof.Machine
namespace Sys2Proof.Machine

theorem execCombLine_foot {w : Nat} (h : 8792342638 &&& w = 8792342638) (k : CombId) (t : Nat) (s : State) :
    keepsOutcome w (s.mask w) (execCombLine k t s) := by
  refine keepsOutcome_mono h ?_
  unfold execCombLine
  repeat' (first | with_reducible rfl | assumption | (intro _) | with_reducible refine ite_keeps ?_ ?_ | with_reducible refine ite_answer ?_ ?_ | with_reducible apply checked_keeps | with_reducible apply withCtx_keeps | with_reducible apply withQueue_keeps | with_reducible apply corrCmd_keeps | (simp only [foldl_mask, advTo_foot, modComb_foot, actMarks_foot, endStripe_foot, oneLine_foot, keeps_ok, keeps_started, keeps_fail, keeps_failWith, keeps_wait, keeps_next, Nat.reduceAnd]) | with_reducible apply foldl_keeps | dsimp only | split)
theorem execCombFault_foot {w : Nat} (h : 8830120058 &&& w = 8830120058) (k : CombId) (t : Nat) (s : State) :
    keepsOutcome w (s.mask w) (execCombFault k t s) := by
  refine keepsOutcome_mono h ?_
  unfold execCombFault
  repeat' (first | with_reducible rfl | assumption | (intro _) | with_reducible refine ite_keeps ?_ ?_ | with_reducible refine ite_answer ?_ ?_ | with_reducible apply checked_keeps | with_reducible apply withCtx_keeps | with_reducible apply withQueue_keeps | with_reducible apply corrCmd_keeps | (simp only [foldl_mask, combFault_foot, advTo_foot, keeps_ok, keeps_started, keeps_fail, keeps_failWith, keeps_wait, keeps_next, Nat.reduceAnd]) | with_reducible apply foldl_keeps | dsimp only | split)
theorem execSpareCopyDone_foot {w : Nat} (h : 201326624 &&& w = 201326624) (k : CombId) (t : Nat) (s : State) :
    keepsOutcome w (s.mask w) (execSpareCopyDone k t s) := by
  refine keepsOutcome_mono h ?_
  unfold execSpareCopyDone
  repeat' (first | with_reducible rfl | assumption | (intro _) | with_reducible refine ite_keeps ?_ ?_ | with_reducible refine ite_answer ?_ ?_ | with_reducible apply checked_keeps | with_reducible apply withCtx_keeps | with_reducible apply withQueue_keeps | with_reducible apply corrCmd_keeps | (simp only [foldl_mask, advTo_foot, modComb_foot, modCtx_foot, keeps_ok, keeps_started, keeps_fail, keeps_failWith, keeps_wait, keeps_next, Nat.reduceAnd]) | with_reducible apply foldl_keeps | dsimp only | split)
theorem execCorrSetNoise_foot {w : Nat} (h : 8696070218 &&& w = 8696070218) (f : Fn) (a1 : Mbx) (s : State) :
    keepsOutcome w (s.mask w) (execCorrSetNoise f a1 s) := by
  refine keepsOutcome_mono h ?_
  rw [execCorrSetNoise, keeps_next]
  exact serve_foot (by decide) _ _ _ _ rfl fun r s' hs => cmdCorrSetNoise_foot (by decide) r s' hs
theorem execCorrSetTemporal_foot {w : Nat} (h : 8696070218 &&& w = 8696070218) (f : Fn) (a1 : Mbx) (s : State) :
    keepsOutcome w (s.mask w) (execCorrSetTemporal f a1 s) := by
  refine keepsOutcome_mono h ?_
  rw [execCorrSetTemporal, keeps_next]
  exact serve_foot (by decide) _ _ _ _ rfl fun r s' hs => cmdCorrSetTemporal_foot (by decide) r s' hs
theorem execCorrSetSpatial_foot {w : Nat} (h : 8696070218 &&& w = 8696070218) (f : Fn) (a1 : Mbx) (s : State) :
    keepsOutcome w (s.mask w) (execCorrSetSpatial f a1 s) := by
  refine keepsOutcome_mono h ?_
  rw [execCorrSetSpatial, keeps_next]
  exact serve_foot (by decide) _ _ _ _ rfl fun r s' hs => cmdCorrSetSpatial_foot (by decide) r s' hs
theorem execCorrSetBlack_foot {w : Nat} (h : 8696070218 &&& w = 8696070218) (f : Fn) (a1 : Mbx) (s : State) :
    keepsOutcome w (s.mask w) (execCorrSetBlack f a1 s) := by
  refine keepsOutcome_mono h ?_
  rw [execCorrSetBlack, keeps_next]
  exact serve_foot (by decide) _ _ _ _ rfl fun r s' hs => cmdCorrSetBlack_foot (by decide) r s' hs
theorem execCorrSetRegistration_foot {w : Nat} (h : 8696070218 &&& w = 8696070218) (f : Fn) (a1 : Mbx) (s : State) :
    keepsOutcome w (s.mask w) (execCorrSetRegistration f a1 s) := by
  refine keepsOutcome_mono h ?_
  rw [execCorrSetRegistration, keeps_next]
  exact serve_foot (by decide) _ _ _ _ rfl fun r s' hs => cmdCorrSetRegistration_foot (by decide) r s' hs
theorem execCorrSetEnable_foot {w : Nat} (h : 8696070218 &&& w = 8696070218) (f : Fn) (a1 : Mbx) (s : State) :
    keepsOutcome w (s.mask w) (execCorrSetEnable f a1 s) := by
  refine keepsOutcome_mono h ?_
  rw [execCorrSetEnable, keeps_next]
  exact serve_foot (by decide) _ _ _ _ rfl fun r s' hs => cmdCorrSetEnable_foot (by decide) r s' hs
theorem execCorrLoadTable_foot {w : Nat} (h : 12991037514 &&& w = 12991037514) (f : Fn) (a1 : Mbx) (s : State) :
    keepsOutcome w (s.mask w) (execCorrLoadTable f a1 s) := by
  refine keepsOutcome_mono h ?_
  rw [execCorrLoadTable, keeps_next]
  exact serve_foot (by decide) _ _ _ _ rfl fun r s' hs => cmdCorrLoadTable_foot (by decide) r s' hs
theorem execSegSetBackground_foot {w : Nat} (h : 8696070218 &&& w = 8696070218) (f : Fn) (a1 : Mbx) (s : State) :
    keepsOutcome w (s.mask w) (execSegSetBackground f a1 s) := by
  refine keepsOutcome_mono h ?_
  rw [execSegSetBackground, keeps_next]
  exact serve_foot (by decide) _ _ _ _ rfl fun r s' hs => cmdSegSetBackground_foot (by decide) r s' hs
theorem execSegSetThreshold_foot {w : Nat} (h : 8696070218 &&& w = 8696070218) (f : Fn) (a1 : Mbx) (s : State) :
    keepsOutcome w (s.mask w) (execSegSetThreshold f a1 s) := by
  refine keepsOutcome_mono h ?_
  rw [execSegSetThreshold, keeps_next]
  exact serve_foot (by decide) _ _ _ _ rfl fun r s' hs => cmdSegSetThreshold_foot (by decide) r s' hs
theorem execSegSetMorph_foot {w : Nat} (h : 8696070218 &&& w = 8696070218) (f : Fn) (a1 : Mbx) (s : State) :
    keepsOutcome w (s.mask w) (execSegSetMorph f a1 s) := by
  refine keepsOutcome_mono h ?_
  rw [execSegSetMorph, keeps_next]
  exact serve_foot (by decide) _ _ _ _ rfl fun r s' hs => cmdSegSetMorph_foot (by decide) r s' hs
theorem execSegCaptureBackground_foot {w : Nat} (h : 8696070218 &&& w = 8696070218) (f : Fn) (a1 : Mbx) (s : State) :
    keepsOutcome w (s.mask w) (execSegCaptureBackground f a1 s) := by
  refine keepsOutcome_mono h ?_
  rw [execSegCaptureBackground, keeps_next]
  exact serve_foot (by decide) _ _ _ _ rfl fun r s' hs => cmdSegCaptureBackground_foot (by decide) r s' hs
theorem execBgCaptured_foot {w : Nat} (h : 68190274 &&& w = 68190274) (c : CtxId) (s : State) :
    keepsOutcome w (s.mask w) (execBgCaptured c s) := by
  refine keepsOutcome_mono h ?_
  unfold execBgCaptured
  repeat' (first | with_reducible rfl | assumption | (intro _) | with_reducible refine ite_keeps ?_ ?_ | with_reducible refine ite_answer ?_ ?_ | with_reducible apply checked_keeps | with_reducible apply withCtx_keeps | with_reducible apply withQueue_keeps | with_reducible apply corrCmd_keeps | (simp only [foldl_mask, raiseCtx_foot, modCtx_foot, keeps_ok, keeps_started, keeps_fail, keeps_failWith, keeps_wait, keeps_next, Nat.reduceAnd]) | with_reducible apply foldl_keeps | dsimp only | split)
theorem execSegLoadBackground_foot {w : Nat} (h : 12991037514 &&& w = 12991037514) (f : Fn) (a1 : Mbx) (s : State) :
    keepsOutcome w (s.mask w) (execSegLoadBackground f a1 s) := by
  refine keepsOutcome_mono h ?_
  rw [execSegLoadBackground, keeps_next]
  exact serve_foot (by decide) _ _ _ _ rfl fun r s' hs => cmdSegLoadBackground_foot (by decide) r s' hs
theorem execCellSetFormat_foot {w : Nat} (h : 105087042 &&& w = 105087042) (f : Fn) (a1 : Mbx) (s : State) :
    keepsOutcome w (s.mask w) (execCellSetFormat f a1 s) := by
  refine keepsOutcome_mono h ?_
  rw [execCellSetFormat, keeps_next]
  exact serve_foot (by decide) _ _ _ _ rfl fun r s' hs => cmdCellSetFormat_foot (by decide) r s' hs
theorem execStitchConfigure_foot {w : Nat} (h : 1648590930 &&& w = 1648590930) (f : Fn) (a1 : Mbx) (s : State) :
    keepsOutcome w (s.mask w) (execStitchConfigure f a1 s) := by
  refine keepsOutcome_mono h ?_
  rw [execStitchConfigure, keeps_next]
  exact serve_foot (by decide) _ _ _ _ rfl fun r s' hs => cmdStitchConfigure_foot (by decide) r s' hs
theorem takeSeq_foot {w : Nat} (h : 67108864 &&& w = 67108864) (c : Nat) (o : Obj) (s : State) :
    (takeSeq c o s).2.mask w = s.mask w := by
  refine mask_mono h ?_
  unfold takeSeq
  repeat' (first | with_reducible rfl | assumption | (intro _) | with_reducible refine ite_keeps ?_ ?_ | with_reducible refine ite_answer ?_ ?_ | with_reducible apply checked_keeps | with_reducible apply withCtx_keeps | with_reducible apply withQueue_keeps | with_reducible apply corrCmd_keeps | (simp only [mask_set_67108864, foldl_mask, keeps_ok, keeps_started, keeps_fail, keeps_failWith, keeps_wait, keeps_next, Nat.reduceAnd]) | with_reducible apply foldl_keeps | dsimp only | split)
theorem modUnpaired_foot {w : Nat} (h : 17179869184 &&& w = 17179869184) (gi : Nat) (f : List Unpaired → List Unpaired) (s : State) :
    (modUnpaired gi f s).mask w = s.mask w := by
  refine mask_mono h ?_
  unfold modUnpaired
  repeat' (first | with_reducible rfl | assumption | (intro _) | with_reducible refine ite_keeps ?_ ?_ | with_reducible refine ite_answer ?_ ?_ | with_reducible apply checked_keeps | with_reducible apply withCtx_keeps | with_reducible apply withQueue_keeps | with_reducible apply corrCmd_keeps | (simp only [mask_set_17179869184, foldl_mask, keeps_ok, keeps_started, keeps_fail, keeps_failWith, keeps_wait, keeps_next, Nat.reduceAnd]) | with_reducible apply foldl_keeps | dsimp only | split)
theorem finalObject_foot {w : Nat} (h : 472552341578 &&& w = 472552341578) (a : Nat) (o : Final) (v : View) (s : State) :
    (finalObject a o v s).mask w = s.mask w := by
  refine mask_mono h ?_
  unfold finalObject
  repeat' (first | with_reducible rfl | assumption | (intro _) | with_reducible refine ite_keeps ?_ ?_ | with_reducible refine ite_answer ?_ ?_ | with_reducible apply checked_keeps | with_reducible apply withCtx_keeps | with_reducible apply withQueue_keeps | with_reducible apply corrCmd_keeps | (simp only [foldl_mask, emitPlain_foot, emitObjects_foot, modUnpaired_foot, countPg_foot, paced_foot, raise_foot, keeps_ok, keeps_started, keeps_fail, keeps_failWith, keeps_wait, keeps_next, Nat.reduceAnd]) | with_reducible apply foldl_keeps | dsimp only | split)
theorem mergeFinal_foot {w : Nat} (h : 472552341582 &&& w = 472552341582) (a : Nat) (gi : Nat) (g : Stitch) (fs : List Fragment) (timedOut : Bool) (s : State) :
    (mergeFinal a gi g fs timedOut s).mask w = s.mask w := by
  refine mask_mono h ?_
  unfold mergeFinal
  repeat' (first | with_reducible rfl | assumption | (intro _) | with_reducible refine ite_keeps ?_ ?_ | with_reducible refine ite_answer ?_ ?_ | with_reducible apply checked_keeps | with_reducible apply withCtx_keeps | with_reducible apply withQueue_keeps | with_reducible apply corrCmd_keeps | (simp only [foldl_mask, countCtxN_foot, countCtx_foot, takeSeq_foot, finalObject_foot, bumpFree_foot, keeps_ok, keeps_started, keeps_fail, keeps_failWith, keeps_wait, keeps_next, Nat.reduceAnd]) | with_reducible apply foldl_keeps | dsimp only | split)
theorem settleSeams_foot {w : Nat} (h : 473626083406 &&& w = 473626083406) (a : Nat) (gi : Nat) (a2 : Nat) (a3 : State) :
    (settleSeams a gi a2 a3).mask w = a3.mask w := by
  refine mask_mono h ?_
  induction a2 generalizing a3 with
  | zero => rfl
  | succ n ih =>
    rw [settleSeams]
    split
    · rfl
    · dsimp only
      split
      · rfl
      · rw [ih, mergeFinal_foot (by decide), modFrags_foot (by decide)]
theorem settleAll_foot {w : Nat} (h : 473626083406 &&& w = 473626083406) (a : Nat) (s : State) :
    (settleAll a s).mask w = s.mask w := by
  refine mask_mono h ?_
  unfold settleAll
  repeat' (first | with_reducible rfl | assumption | (intro _) | with_reducible refine ite_keeps ?_ ?_ | with_reducible refine ite_answer ?_ ?_ | with_reducible apply checked_keeps | with_reducible apply withCtx_keeps | with_reducible apply withQueue_keeps | with_reducible apply corrCmd_keeps | (simp only [foldl_mask, settleSeams_foot, keeps_ok, keeps_started, keeps_fail, keeps_failWith, keeps_wait, keeps_next, Nat.reduceAnd]) | with_reducible apply foldl_keeps | dsimp only | split)
theorem plainFinal_foot {w : Nat} (h : 472552341578 &&& w = 472552341578) (a : Nat) (o : Obj) (s : State) :
    (plainFinal a o s).mask w = s.mask w := by
  refine mask_mono h ?_
  unfold plainFinal
  repeat' (first | with_reducible rfl | assumption | (intro _) | with_reducible refine ite_keeps ?_ ?_ | with_reducible refine ite_answer ?_ ?_ | with_reducible apply checked_keeps | with_reducible apply withCtx_keeps | with_reducible apply withQueue_keeps | with_reducible apply corrCmd_keeps | (simp only [foldl_mask, takeSeq_foot, finalObject_foot, countCtx_foot, keeps_ok, keeps_started, keeps_fail, keeps_failWith, keeps_wait, keeps_next, Nat.reduceAnd]) | with_reducible apply foldl_keeps | dsimp only | split)
theorem splitPartners_foot {w : Nat} (h : 67108864 &&& w = 67108864) (g : Stitch) (f : Fragment) (s : State) :
    (splitPartners g f s).mask w = s.mask w := by
  refine mask_mono h ?_
  unfold splitPartners
  repeat' (first | with_reducible rfl | assumption | (intro _) | with_reducible refine ite_keeps ?_ ?_ | with_reducible refine ite_answer ?_ ?_ | with_reducible apply checked_keeps | with_reducible apply withCtx_keeps | with_reducible apply withQueue_keeps | with_reducible apply corrCmd_keeps | (simp only [foldl_mask, countCtx_foot, modCtx_foot, keeps_ok, keeps_started, keeps_fail, keeps_failWith, keeps_wait, keeps_next, Nat.reduceAnd]) | with_reducible apply foldl_keeps | dsimp only | split)
theorem takeObject_foot {w : Nat} (h : 475773567054 &&& w = 475773567054) (a : Nat) (o : Obj) (s : State) :
    (takeObject a o s).mask w = s.mask w := by
  refine mask_mono h ?_
  unfold takeObject
  repeat' (first | with_reducible rfl | assumption | (intro _) | with_reducible refine ite_keeps ?_ ?_ | with_reducible refine ite_answer ?_ ?_ | with_reducible apply checked_keeps | with_reducible apply withCtx_keeps | with_reducible apply withQueue_keeps | with_reducible apply corrCmd_keeps | (simp only [mask_set_2147483648, foldl_mask, plainFinal_foot, mergeFinal_foot, modFrags_foot, splitPartners_foot, keeps_ok, keeps_started, keeps_fail, keeps_failWith, keeps_wait, keeps_next, Nat.reduceAnd]) | with_reducible apply foldl_keeps | dsimp only | split)
theorem takeCell_foot {w : Nat} (h : 8695873610 &&& w = 8695873610) (a : Nat) (c : Nat) (d : List Byte) (s : State) :
    (takeCell a c d s).mask w = s.mask w := by
  refine mask_mono h ?_
  unfold takeCell
  repeat' (first | with_reducible rfl | assumption | (intro _) | with_reducible refine ite_keeps ?_ ?_ | with_reducible refine ite_answer ?_ ?_ | with_reducible apply checked_keeps | with_reducible apply withCtx_keeps | with_reducible apply withQueue_keeps | with_reducible apply corrCmd_keeps | (simp only [foldl_mask, broodCell_foot, steerCell_foot, keeps_ok, keeps_started, keeps_fail, keeps_failWith, keeps_wait, keeps_next, Nat.reduceAnd]) | with_reducible apply foldl_keeps | dsimp only | split)
theorem execAsmObject_foot {w : Nat} (h : 475773567086 &&& w = 475773567086) (a : AsmId) (t : Nat) (s : State) :
    keepsOutcome w (s.mask w) (execAsmObject a t s) := by
  refine keepsOutcome_mono h ?_
  unfold execAsmObject
  repeat' (first | with_reducible rfl | assumption | (intro _) | with_reducible refine ite_keeps ?_ ?_ | with_reducible refine ite_answer ?_ ?_ | with_reducible apply checked_keeps | with_reducible apply withCtx_keeps | with_reducible apply withQueue_keeps | with_reducible apply corrCmd_keeps | (simp only [foldl_mask, advTo_foot, settleAll_foot, modAsm_foot, takeObject_foot, takeCell_foot, keeps_ok, keeps_started, keeps_fail, keeps_failWith, keeps_wait, keeps_next, Nat.reduceAnd]) | with_reducible apply foldl_keeps | dsimp only | split)
theorem execStitchTimeout_foot {w : Nat} (h : 473626083438 &&& w = 473626083438) (g : Fin 32) (frag : Nat) (t : Nat) (s : State) :
    keepsOutcome w (s.mask w) (execStitchTimeout g frag t s) := by
  refine keepsOutcome_mono h ?_
  unfold execStitchTimeout
  repeat' (first | with_reducible rfl | assumption | (intro _) | with_reducible refine ite_keeps ?_ ?_ | with_reducible refine ite_answer ?_ ?_ | with_reducible apply checked_keeps | with_reducible apply withCtx_keeps | with_reducible apply withQueue_keeps | with_reducible apply corrCmd_keeps | (simp only [foldl_mask, advTo_foot, modFrags_foot, countCtx_foot, takeSeq_foot, raise_foot, mergeFinal_foot, keeps_ok, keeps_started, keeps_fail, keeps_failWith, keeps_wait, keeps_next, Nat.reduceAnd]) | with_reducible apply foldl_keeps | dsimp only | split)
theorem execUnpairedWindowEnd_foot {w : Nat} (h : 472552341610 &&& w = 472552341610) (g : Fin 32) (objectId : Nat) (s : State) :
    keepsOutcome w (s.mask w) (execUnpairedWindowEnd g objectId s) := by
  refine keepsOutcome_mono h ?_
  unfold execUnpairedWindowEnd
  repeat' (first | with_reducible rfl | assumption | (intro _) | with_reducible refine ite_keeps ?_ ?_ | with_reducible refine ite_answer ?_ ?_ | with_reducible apply checked_keeps | with_reducible apply withCtx_keeps | with_reducible apply withQueue_keeps | with_reducible apply corrCmd_keeps | (simp only [foldl_mask, modUnpaired_foot, advTo_foot, emitObjects_foot, countPg_foot, keeps_ok, keeps_started, keeps_fail, keeps_failWith, keeps_wait, keeps_next, Nat.reduceAnd]) | with_reducible apply foldl_keeps | dsimp only | split)
theorem execCellDelivery_foot {w : Nat} (h : 8658124898 &&& w = 8658124898) (q : QId) (t : Nat) (s : State) :
    keepsOutcome w (s.mask w) (execCellDelivery q t s) := by
  refine keepsOutcome_mono h ?_
  unfold execCellDelivery
  repeat' (first | with_reducible rfl | assumption | (intro _) | with_reducible refine ite_keeps ?_ ?_ | with_reducible refine ite_answer ?_ ?_ | with_reducible apply checked_keeps | with_reducible apply withCtx_keeps | with_reducible apply withQueue_keeps | with_reducible apply corrCmd_keeps | (simp only [foldl_mask, advTo_foot, noteWait_foot, setQueue_foot, fetchMore_foot, countQ_foot, takeDesc_foot, freeCell_foot, dma_foot, complete_foot, keeps_ok, keeps_started, keeps_fail, keeps_failWith, keeps_wait, keeps_next, Nat.reduceAnd]) | with_reducible apply foldl_keeps | dsimp only | split)
theorem execPgConfigure_foot {w : Nat} (h : 17217847378 &&& w = 17217847378) (f : Fn) (a1 : Mbx) (s : State) :
    keepsOutcome w (s.mask w) (execPgConfigure f a1 s) := by
  refine keepsOutcome_mono h ?_
  rw [execPgConfigure, keeps_next]
  exact serve_foot (by decide) _ _ _ _ rfl fun r s' hs => cmdPgConfigure_foot (by decide) r s' hs
theorem execPgSetRow_foot {w : Nat} (h : 17218109506 &&& w = 17218109506) (f : Fn) (a1 : Mbx) (s : State) :
    keepsOutcome w (s.mask w) (execPgSetRow f a1 s) := by
  refine keepsOutcome_mono h ?_
  rw [execPgSetRow, keeps_next]
  exact serve_foot (by decide) _ _ _ _ rfl fun r s' hs => cmdPgSetRow_foot (by decide) r s' hs
theorem execPgLoadRules_foot {w : Nat} (h : 17218109506 &&& w = 17218109506) (f : Fn) (a1 : Mbx) (s : State) :
    keepsOutcome w (s.mask w) (execPgLoadRules f a1 s) := by
  refine keepsOutcome_mono h ?_
  rw [execPgLoadRules, keeps_next]
  exact serve_foot (by decide) _ _ _ _ rfl fun r s' hs => cmdPgLoadRules_foot (by decide) r s' hs
theorem execRulesReadComplete_foot {w : Nat} (h : 17218109506 &&& w = 17218109506) (f : Fn) (a1 : Mbx) (data : Option (List Byte)) (s : State) :
    keepsOutcome w (s.mask w) (execRulesReadComplete f a1 data s) := by
  refine keepsOutcome_mono h ?_
  unfold execRulesReadComplete
  repeat' (first | with_reducible rfl | assumption | (intro _) | with_reducible refine ite_keeps ?_ ?_ | with_reducible refine ite_answer ?_ ?_ | with_reducible apply checked_keeps | with_reducible apply withCtx_keeps | with_reducible apply withQueue_keeps | with_reducible apply corrCmd_keeps | (simp only [mask_set_262144, foldl_mask, finishWait_foot, setRules_foot, keeps_ok, keeps_started, keeps_fail, keeps_failWith, keeps_wait, keeps_next, Nat.reduceAnd]) | with_reducible apply foldl_keeps | dsimp only | split)
theorem execPgSetSteering_foot {w : Nat} (h : 85938372674 &&& w = 85938372674) (f : Fn) (a1 : Mbx) (s : State) :
    keepsOutcome w (s.mask w) (execPgSetSteering f a1 s) := by
  refine keepsOutcome_mono h ?_
  rw [execPgSetSteering, keeps_next]
  exact serve_foot (by decide) _ _ _ _ rfl fun r s' hs => cmdPgSetSteering_foot (by decide) r s' hs
theorem execPgGetStatus_foot {w : Nat} (h : 34397716546 &&& w = 34397716546) (f : Fn) (a1 : Mbx) (s : State) :
    keepsOutcome w (s.mask w) (execPgGetStatus f a1 s) := by
  refine keepsOutcome_mono h ?_
  rw [execPgGetStatus, keeps_next]
  exact serve_foot (by decide) _ _ _ _ rfl fun r s' hs => cmdPgGetStatus_foot (by decide) r s' hs
theorem execDecisionRecordBind_foot {w : Nat} (h : 446715428970 &&& w = 446715428970) (q : QId) (t : Nat) (s : State) :
    keepsOutcome w (s.mask w) (execDecisionRecordBind q t s) := by
  refine keepsOutcome_mono h ?_
  unfold execDecisionRecordBind
  repeat' (first | with_reducible rfl | assumption | (intro _) | with_reducible refine ite_keeps ?_ ?_ | with_reducible refine ite_answer ?_ ?_ | with_reducible apply checked_keeps | with_reducible apply withCtx_keeps | with_reducible apply withQueue_keeps | with_reducible apply corrCmd_keeps | (simp only [foldl_mask, advTo_foot, noteWait_foot, takeDesc_foot, bindDecision_foot, fetchMore_foot, complete_foot, keeps_ok, keeps_started, keeps_fail, keeps_failWith, keeps_wait, keeps_next, Nat.reduceAnd]) | with_reducible apply foldl_keeps | dsimp only | split)
theorem execDecisionDeadline_foot {w : Nat} (h : 446715428970 &&& w = 446715428970) (slot : Nat) (s : State) :
    keepsOutcome w (s.mask w) (execDecisionDeadline slot s) := by
  refine keepsOutcome_mono h ?_
  unfold execDecisionDeadline
  repeat' (first | with_reducible rfl | assumption | (intro _) | with_reducible refine ite_keeps ?_ ?_ | with_reducible refine ite_answer ?_ ?_ | with_reducible apply checked_keeps | with_reducible apply withCtx_keeps | with_reducible apply withQueue_keeps | with_reducible apply corrCmd_keeps | (simp only [foldl_mask, settleOwn_foot, advTo_foot, keeps_ok, keeps_started, keeps_fail, keeps_failWith, keeps_wait, keeps_next, Nat.reduceAnd]) | with_reducible apply foldl_keeps | dsimp only | split)
theorem execPendingEntryFree_foot {w : Nat} (h : 137438953504 &&& w = 137438953504) (slot : Nat) (s : State) :
    keepsOutcome w (s.mask w) (execPendingEntryFree slot s) := by
  refine keepsOutcome_mono h ?_
  unfold execPendingEntryFree
  repeat' (first | with_reducible rfl | assumption | (intro _) | with_reducible refine ite_keeps ?_ ?_ | with_reducible refine ite_answer ?_ ?_ | with_reducible apply checked_keeps | with_reducible apply withCtx_keeps | with_reducible apply withQueue_keeps | with_reducible apply corrCmd_keeps | (simp only [mask_set_137438953472, foldl_mask, advTo_foot, keeps_ok, keeps_started, keeps_fail, keeps_failWith, keeps_wait, keeps_next, Nat.reduceAnd]) | with_reducible apply foldl_keeps | dsimp only | split)
theorem execEjectActionsReceived_foot {w : Nat} (h : 309276475498 &&& w = 309276475498) (src : Nat) (body : List Byte) (t : Nat) (s : State) :
    keepsOutcome w (s.mask w) (execEjectActionsReceived src body t s) := by
  refine keepsOutcome_mono h ?_
  unfold execEjectActionsReceived
  repeat' (first | with_reducible rfl | assumption | (intro _) | with_reducible refine ite_keeps ?_ ?_ | with_reducible refine ite_answer ?_ ?_ | with_reducible apply checked_keeps | with_reducible apply withCtx_keeps | with_reducible apply withQueue_keeps | with_reducible apply corrCmd_keeps | (simp only [foldl_mask, ejectPulses_foot, advTo_foot, keeps_ok, keeps_started, keeps_fail, keeps_failWith, keeps_wait, keeps_next, Nat.reduceAnd]) | with_reducible apply foldl_keeps | dsimp only | split)
theorem execEjectDecisionReceived_foot {w : Nat} (h : 446715428970 &&& w = 446715428970) (src : Nat) (body : List Byte) (t : Nat) (s : State) :
    keepsOutcome w (s.mask w) (execEjectDecisionReceived src body t s) := by
  refine keepsOutcome_mono h ?_
  unfold execEjectDecisionReceived
  repeat' (first | with_reducible rfl | assumption | (intro _) | with_reducible refine ite_keeps ?_ ?_ | with_reducible refine ite_answer ?_ ?_ | with_reducible apply checked_keeps | with_reducible apply withCtx_keeps | with_reducible apply withQueue_keeps | with_reducible apply corrCmd_keeps | (simp only [foldl_mask, ejectDecision_foot, advTo_foot, keeps_ok, keeps_started, keeps_fail, keeps_failWith, keeps_wait, keeps_next, Nat.reduceAnd]) | with_reducible apply foldl_keeps | dsimp only | split)
theorem execVpConfigure_foot {w : Nat} (h : 549793792066 &&& w = 549793792066) (f : Fn) (a1 : Mbx) (s : State) :
    keepsOutcome w (s.mask w) (execVpConfigure f a1 s) := by
  refine keepsOutcome_mono h ?_
  rw [execVpConfigure, keeps_next]
  exact serve_foot (by decide) _ _ _ _ rfl fun r s' hs => cmdVpConfigure_foot (by decide) r s' hs
theorem execVpSetMode_foot {w : Nat} (h : 549796939090 &&& w = 549796939090) (f : Fn) (a1 : Mbx) (s : State) :
    keepsOutcome w (s.mask w) (execVpSetMode f a1 s) := by
  refine keepsOutcome_mono h ?_
  rw [execVpSetMode, keeps_next]
  exact serveWaking_foot (by decide) _ _ _ _ _ rfl fun r s' hs => cmdVpSetMode_foot (by decide) r s' hs
theorem execVpTestFire_foot {w : Nat} (h : 274915885122 &&& w = 274915885122) (f : Fn) (a1 : Mbx) (s : State) :
    keepsOutcome w (s.mask w) (execVpTestFire f a1 s) := by
  refine keepsOutcome_mono h ?_
  rw [execVpTestFire, keeps_next]
  exact serve_foot (by decide) _ _ _ _ rfl fun r s' hs => cmdVpTestFire_foot (by decide) r s' hs
theorem execVpGetStatus_foot {w : Nat} (h : 549793792066 &&& w = 549793792066) (f : Fn) (a1 : Mbx) (s : State) :
    keepsOutcome w (s.mask w) (execVpGetStatus f a1 s) := by
  refine keepsOutcome_mono h ?_
  rw [execVpGetStatus, keeps_next]
  exact serve_foot (by decide) _ _ _ _ rfl fun r s' hs => cmdVpGetStatus_foot (by decide) r s' hs
theorem execVpClearFault_foot {w : Nat} (h : 549793792066 &&& w = 549793792066) (f : Fn) (a1 : Mbx) (s : State) :
    keepsOutcome w (s.mask w) (execVpClearFault f a1 s) := by
  refine keepsOutcome_mono h ?_
  rw [execVpClearFault, keeps_next]
  exact serve_foot (by decide) _ _ _ _ rfl fun r s' hs => cmdVpClearFault_foot (by decide) r s' hs
theorem latchAction_foot {w : Nat} (h : 824634802250 &&& w = 824634802250) (v : Nat) (T : Nat) (slot : Nat) (a : Action) (s : State) :
    (latchAction v T slot a s).mask w = s.mask w := by
  refine mask_mono h ?_
  unfold latchAction
  repeat' (first | with_reducible rfl | assumption | (intro _) | with_reducible refine ite_keeps ?_ ?_ | with_reducible refine ite_answer ?_ ?_ | with_reducible apply checked_keeps | with_reducible apply withCtx_keeps | with_reducible apply withQueue_keeps | with_reducible apply corrCmd_keeps | (simp only [foldl_mask, freeAction_foot, schedLate_foot, modFlight_foot, modVp_foot, schedDrop_foot, keeps_ok, keeps_started, keeps_fail, keeps_failWith, keeps_wait, keeps_next, Nat.reduceAnd]) | with_reducible apply foldl_keeps | dsimp only | split)
theorem sendFrame_foot {w : Nat} (h : 824634802250 &&& w = 824634802250) (v : Nat) (T : Nat) (s : State) :
    (sendFrame v T s).mask w = s.mask w := by
  refine mask_mono h ?_
  unfold sendFrame
  repeat' (first | with_reducible rfl | assumption | (intro _) | with_reducible refine ite_keeps ?_ ?_ | with_reducible refine ite_answer ?_ ?_ | with_reducible apply checked_keeps | with_reducible apply withCtx_keeps | with_reducible apply withQueue_keeps | with_reducible apply corrCmd_keeps | (simp only [foldl_mask, modVp_foot, latchAction_foot, carryHoney_foot, emit_foot, keeps_ok, keeps_started, keeps_fail, keeps_failWith, keeps_wait, keeps_next, Nat.reduceAnd]) | with_reducible apply foldl_keeps | dsimp only | split)
theorem execValveFrameLatch_foot {w : Nat} (h : 824634802282 &&& w = 824634802282) (v : VPort) (s : State) :
    keepsOutcome w (s.mask w) (execValveFrameLatch v s) := by
  refine keepsOutcome_mono h ?_
  unfold execValveFrameLatch
  repeat' (first | with_reducible rfl | assumption | (intro _) | with_reducible refine ite_keeps ?_ ?_ | with_reducible refine ite_answer ?_ ?_ | with_reducible apply checked_keeps | with_reducible apply withCtx_keeps | with_reducible apply withQueue_keeps | with_reducible apply corrCmd_keeps | (simp only [foldl_mask, modVp_foot, advTo_foot, emit_foot, sendFrame_foot, keeps_ok, keeps_started, keeps_fail, keeps_failWith, keeps_wait, keeps_next, Nat.reduceAnd]) | with_reducible apply foldl_keeps | dsimp only | split)
theorem valveStatus_foot {w : Nat} (h : 549794672706 &&& w = 549794672706) (v : Nat) (b : Nat) (st : Nat) (s : State) :
    (valveStatus v b st s).mask w = s.mask w := by
  refine mask_mono h ?_
  unfold valveStatus
  repeat' (first | with_reducible rfl | assumption | (intro _) | with_reducible refine ite_keeps ?_ ?_ | with_reducible refine ite_answer ?_ ?_ | with_reducible apply checked_keeps | with_reducible apply withCtx_keeps | with_reducible apply withQueue_keeps | with_reducible apply corrCmd_keeps | (simp only [foldl_mask, modVp_foot, honey_foot, detectFault_foot, raise_foot, keeps_ok, keeps_started, keeps_fail, keeps_failWith, keeps_wait, keeps_next, Nat.reduceAnd]) | with_reducible apply foldl_keeps | dsimp only | split)
theorem execFeedbackFrameReceived_foot {w : Nat} (h : 549794672738 &&& w = 549794672738) (v : VPort) (bits : BitVec 40) (t : Nat) (s : State) :
    keepsOutcome w (s.mask w) (execFeedbackFrameReceived v bits t s) := by
  refine keepsOutcome_mono h ?_
  unfold execFeedbackFrameReceived
  repeat' (first | with_reducible rfl | assumption | (intro _) | with_reducible refine ite_keeps ?_ ?_ | with_reducible refine ite_answer ?_ ?_ | with_reducible apply checked_keeps | with_reducible apply withCtx_keeps | with_reducible apply withQueue_keeps | with_reducible apply corrCmd_keeps | (simp only [foldl_mask, advTo_foot, modVp_foot, valveStatus_foot, detectFault_foot, raise_foot, keeps_ok, keeps_started, keeps_fail, keeps_failWith, keeps_wait, keeps_next, Nat.reduceAnd]) | with_reducible apply foldl_keeps | dsimp only | split)
theorem execFeedbackMissed_foot {w : Nat} (h : 549794672738 &&& w = 549794672738) (v : VPort) (s : State) :
    keepsOutcome w (s.mask w) (execFeedbackMissed v s) := by
  refine keepsOutcome_mono h ?_
  unfold execFeedbackMissed
  repeat' (first | with_reducible rfl | assumption | (intro _) | with_reducible refine ite_keeps ?_ ?_ | with_reducible refine ite_answer ?_ ?_ | with_reducible apply checked_keeps | with_reducible apply withCtx_keeps | with_reducible apply withQueue_keeps | with_reducible apply corrCmd_keeps | (simp only [foldl_mask, advTo_foot, modVp_foot, detectFault_foot, raise_foot, keeps_ok, keeps_started, keeps_fail, keeps_failWith, keeps_wait, keeps_next, Nat.reduceAnd]) | with_reducible apply foldl_keeps | dsimp only | split)
theorem execValvePortReadbackFault_foot {w : Nat} (h : 549793624162 &&& w = 549793624162) (v : VPort) (t : Nat) (s : State) :
    keepsOutcome w (s.mask w) (execValvePortReadbackFault v t s) := by
  refine keepsOutcome_mono h ?_
  unfold execValvePortReadbackFault
  repeat' (first | with_reducible rfl | assumption | (intro _) | with_reducible refine ite_keeps ?_ ?_ | with_reducible refine ite_answer ?_ ?_ | with_reducible apply checked_keeps | with_reducible apply withCtx_keeps | with_reducible apply withQueue_keeps | with_reducible apply corrCmd_keeps | (simp only [foldl_mask, advTo_foot, detectFault_foot, emit_foot, modVp_foot, keeps_ok, keeps_started, keeps_fail, keeps_failWith, keeps_wait, keeps_next, Nat.reduceAnd]) | with_reducible apply foldl_keeps | dsimp only | split)
theorem modSteer_foot {w : Nat} (h : 85899345920 &&& w = 85899345920) (isCtx : Bool) (i : Nat) (g : List SteerEntry → List SteerEntry) (s : State) :
    (modSteer isCtx i g s).mask w = s.mask w := by
  refine mask_mono h ?_
  unfold modSteer
  repeat' (first | with_reducible rfl | assumption | (intro _) | with_reducible refine ite_keeps ?_ ?_ | with_reducible refine ite_answer ?_ ?_ | with_reducible apply checked_keeps | with_reducible apply withCtx_keeps | with_reducible apply withQueue_keeps | with_reducible apply corrCmd_keeps | (simp only [mask_set_68719476736, mask_set_17179869184, foldl_mask, keeps_ok, keeps_started, keeps_fail, keeps_failWith, keeps_wait, keeps_next, Nat.reduceAnd]) | with_reducible apply foldl_keeps | dsimp only | split)
theorem switchTable_foot {w : Nat} (h : 85900427330 &&& w = 85900427330) (f : Nat) (isCtx : Bool) (i : Nat) (l : List SteerEntry) (s : State) :
    (switchTable f isCtx i l s).mask w = s.mask w := by
  refine mask_mono h ?_
  unfold switchTable
  repeat' (first | with_reducible rfl | assumption | (intro _) | with_reducible refine ite_keeps ?_ ?_ | with_reducible refine ite_answer ?_ ?_ | with_reducible apply checked_keeps | with_reducible apply withCtx_keeps | with_reducible apply withQueue_keeps | with_reducible apply corrCmd_keeps | (simp only [foldl_mask, steerEvent_foot, modSteer_foot, keeps_ok, keeps_started, keeps_fail, keeps_failWith, keeps_wait, keeps_next, Nat.reduceAnd]) | with_reducible apply foldl_keeps | dsimp only | split)
theorem redecide_foot {w : Nat} (h : 137438953472 &&& w = 137438953472) (id : Nat) (owner : Nat) (s : State) :
    (redecide id owner s).mask w = s.mask w := by
  refine mask_mono h ?_
  unfold redecide
  repeat' (first | with_reducible rfl | assumption | (intro _) | with_reducible refine ite_keeps ?_ ?_ | with_reducible refine ite_answer ?_ ?_ | with_reducible apply checked_keeps | with_reducible apply withCtx_keeps | with_reducible apply withQueue_keeps | with_reducible apply corrCmd_keeps | (simp only [mask_set_137438953472, foldl_mask, keeps_ok, keeps_started, keeps_fail, keeps_failWith, keeps_wait, keeps_next, Nat.reduceAnd]) | with_reducible apply foldl_keeps | dsimp only | split)
theorem moveCell_foot {w : Nat} (h : 146097078336 &&& w = 146097078336) (f : Nat) (a1 : WaitCell) (s : State) :
    (moveCell f a1 s).mask w = s.mask w := by
  refine mask_mono h ?_
  unfold moveCell
  repeat' (first | with_reducible rfl | assumption | (intro _) | with_reducible refine ite_keeps ?_ ?_ | with_reducible refine ite_answer ?_ ?_ | with_reducible apply checked_keeps | with_reducible apply withCtx_keeps | with_reducible apply withQueue_keeps | with_reducible apply corrCmd_keeps | (simp only [foldl_mask, portDownCell_foot, cellToQueue_foot, redecide_foot, keeps_ok, keeps_started, keeps_fail, keeps_failWith, keeps_wait, keeps_next, Nat.reduceAnd]) | with_reducible apply foldl_keeps | dsimp only | split)
theorem failover_foot {w : Nat} (h : 231996424258 &&& w = 231996424258) (f : Nat) (s : State) :
    (failover f s).mask w = s.mask w := by
  refine mask_mono h ?_
  unfold failover
  repeat' (first | with_reducible rfl | assumption | (intro _) | with_reducible refine ite_keeps ?_ ?_ | with_reducible refine ite_answer ?_ ?_ | with_reducible apply checked_keeps | with_reducible apply withCtx_keeps | with_reducible apply withQueue_keeps | with_reducible apply corrCmd_keeps | (simp only [foldl_mask, switchTable_foot, moveCell_foot, modQueue_foot, cutFrames_foot, keeps_ok, keeps_started, keeps_fail, keeps_failWith, keeps_wait, keeps_next, Nat.reduceAnd]) | with_reducible apply foldl_keeps | dsimp only | split)

end Sys2Proof.Machine
end

