-- ==== Sys2Proof/Laws/Foot14.lean ====
section
/-! SUPPORT. What each operation leaves as it was, part 14 of 18: of state `s` it changes no field outside the set of its
footprint (a bit for each field, in the order of Field). -/
set_option linter.all false
set_option maxRecDepth 4000
open Sys2Proof Sys2Proof.Machine
namespace Sys2Proof.Machine

theorem withAvail_foot {w : Nat} (h : 231996428354 &&& w = 231996428354) (f : Nat) (g : State → State) (s : State) {m' : State}
    (hg : (g s).mask w = m') : (withAvail f g s).mask w = m' := by
  refine Eq.trans ?_ hg
  refine mask_mono h ?_
  unfold withAvail
  generalize g s = t
  refine ite_keeps ?_ (ite_keeps ?_ rfl)
  · rw [faultOk_foot (by decide), failover_foot (by decide), modHp_foot (by decide)]
  · refine foldl_keeps _ _ _ (fun s x => fetchMore_foot (by decide) ..) ?_
    rw [dmaFlush_foot (by decide), faultOk_foot (by decide), modHp_foot (by decide)]
theorem execHostLinkUp_foot {w : Nat} (h : 231996428386 &&& w = 231996428386) (f : Fn) (width : Nat) (rate100 : Nat) (t : Nat) (s : State) :
    keepsOutcome w (s.mask w) (execHostLinkUp f width rate100 t s) := by
  refine keepsOutcome_mono h ?_
  unfold execHostLinkUp
  repeat' (first | with_reducible rfl | assumption | (intro _) | with_reducible refine ite_keeps ?_ ?_ | with_reducible refine ite_answer ?_ ?_ | with_reducible apply checked_keeps | with_reducible apply withCtx_keeps | with_reducible apply withQueue_keeps | with_reducible apply corrCmd_keeps | (simp only [foldl_mask, advTo_foot, withAvail_foot, modHp_foot, raise_foot, honey_foot, countHp_foot, keeps_ok, keeps_started, keeps_fail, keeps_failWith, keeps_wait, keeps_next, Nat.reduceAnd]) | with_reducible apply foldl_keeps | dsimp only | split)
theorem startReset_foot {w : Nat} (h : 4333208146 &&& w = 4333208146) (f : Nat) (s : State) :
    (startReset f s).mask w = s.mask w := by
  refine mask_mono h ?_
  unfold startReset
  repeat' (first | with_reducible rfl | assumption | (intro _) | with_reducible refine ite_keeps ?_ ?_ | with_reducible refine ite_answer ?_ ?_ | with_reducible apply checked_keeps | with_reducible apply withCtx_keeps | with_reducible apply withQueue_keeps | with_reducible apply corrCmd_keeps | (simp only [mask_set_4294967296, foldl_mask, dropRequests_foot, dropDma_foot, dropPushes_foot, intxUpdate_foot, modHp_foot, keeps_ok, keeps_started, keeps_fail, keeps_failWith, keeps_wait, keeps_next, Nat.reduceAnd]) | with_reducible apply foldl_keeps | dsimp only | split)
theorem linkFails_foot {w : Nat} (h : 236329628242 &&& w = 236329628242) (f : Nat) (s : State) :
    (linkFails f s).mask w = s.mask w := by
  refine mask_mono h ?_
  unfold linkFails
  repeat' (first | with_reducible rfl | assumption | (intro _) | with_reducible refine ite_keeps ?_ ?_ | with_reducible refine ite_answer ?_ ?_ | with_reducible apply checked_keeps | with_reducible apply withCtx_keeps | with_reducible apply withQueue_keeps | with_reducible apply corrCmd_keeps | (simp only [foldl_mask, honey_foot, countHp_foot, withAvail_foot, startReset_foot, modHp_foot, detectFault_foot, raise_foot, keeps_ok, keeps_started, keeps_fail, keeps_failWith, keeps_wait, keeps_next, Nat.reduceAnd]) | with_reducible apply foldl_keeps | dsimp only | split)
theorem execHostLinkDown_foot {w : Nat} (h : 236329628274 &&& w = 236329628274) (f : Fn) (t : Nat) (s : State) :
    keepsOutcome w (s.mask w) (execHostLinkDown f t s) := by
  refine keepsOutcome_mono h ?_
  unfold execHostLinkDown
  repeat' (first | with_reducible rfl | assumption | (intro _) | with_reducible refine ite_keeps ?_ ?_ | with_reducible refine ite_answer ?_ ?_ | with_reducible apply checked_keeps | with_reducible apply withCtx_keeps | with_reducible apply withQueue_keeps | with_reducible apply corrCmd_keeps | (simp only [foldl_mask, advTo_foot, linkFails_foot, keeps_ok, keeps_started, keeps_fail, keeps_failWith, keeps_wait, keeps_next, Nat.reduceAnd]) | with_reducible apply foldl_keeps | dsimp only | split)
theorem execSteerRestore_foot {w : Nat} (h : 85900427362 &&& w = 85900427362) (isCtx : Bool) (id : Fin 256) (entry : Fin 16) (s : State) :
    keepsOutcome w (s.mask w) (execSteerRestore isCtx id entry s) := by
  refine keepsOutcome_mono h ?_
  unfold execSteerRestore
  repeat' (first | with_reducible rfl | assumption | (intro _) | with_reducible refine ite_keeps ?_ ?_ | with_reducible refine ite_answer ?_ ?_ | with_reducible apply checked_keeps | with_reducible apply withCtx_keeps | with_reducible apply withQueue_keeps | with_reducible apply corrCmd_keeps | (simp only [foldl_mask, advTo_foot, steerEvent_foot, modSteer_foot, keeps_ok, keeps_started, keeps_fail, keeps_failWith, keeps_wait, keeps_next, Nat.reduceAnd]) | with_reducible apply foldl_keeps | dsimp only | split)
theorem execPerstAssert_foot {w : Nat} (h : 236329628274 &&& w = 236329628274) (f : Fn) (t : Nat) (s : State) :
    keepsOutcome w (s.mask w) (execPerstAssert f t s) := by
  refine keepsOutcome_mono h ?_
  unfold execPerstAssert
  repeat' (first | with_reducible rfl | assumption | (intro _) | with_reducible refine ite_keeps ?_ ?_ | with_reducible refine ite_answer ?_ ?_ | with_reducible apply checked_keeps | with_reducible apply withCtx_keeps | with_reducible apply withQueue_keeps | with_reducible apply corrCmd_keeps | (simp only [foldl_mask, advTo_foot, withAvail_foot, modHp_foot, linkFails_foot, startReset_foot, keeps_ok, keeps_started, keeps_fail, keeps_failWith, keeps_wait, keeps_next, Nat.reduceAnd]) | with_reducible apply foldl_keeps | dsimp only | split)
theorem execPerstDeassert_foot {w : Nat} (h : 32802 &&& w = 32802) (f : Fn) (t : Nat) (s : State) :
    keepsOutcome w (s.mask w) (execPerstDeassert f t s) := by
  refine keepsOutcome_mono h ?_
  unfold execPerstDeassert
  repeat' (first | with_reducible rfl | assumption | (intro _) | with_reducible refine ite_keeps ?_ ?_ | with_reducible refine ite_answer ?_ ?_ | with_reducible apply checked_keeps | with_reducible apply withCtx_keeps | with_reducible apply withQueue_keeps | with_reducible apply corrCmd_keeps | (simp only [foldl_mask, advTo_foot, endWake_foot, modHp_foot, beginTraining_foot, keeps_ok, keeps_started, keeps_fail, keeps_failWith, keeps_wait, keeps_next, Nat.reduceAnd]) | with_reducible apply foldl_keeps | dsimp only | split)
theorem startFlr_foot {w : Nat} (h : 236329603666 &&& w = 236329603666) (f : Nat) (s : State) :
    (startFlr f s).mask w = s.mask w := by
  refine mask_mono h ?_
  unfold startFlr
  repeat' (first | with_reducible rfl | assumption | (intro _) | with_reducible refine ite_keeps ?_ ?_ | with_reducible refine ite_answer ?_ ?_ | with_reducible apply checked_keeps | with_reducible apply withCtx_keeps | with_reducible apply withQueue_keeps | with_reducible apply corrCmd_keeps | (simp only [foldl_mask, withAvail_foot, startReset_foot, keeps_ok, keeps_started, keeps_fail, keeps_failWith, keeps_wait, keeps_next, Nat.reduceAnd]) | with_reducible apply foldl_keeps | dsimp only | split)
theorem execConfigWrite_foot {w : Nat} (h : 236329603698 &&& w = 236329603698) (f : Fn) (off : Nat) (data : List (Option Byte)) (t : Nat) (s : State) :
    keepsOutcome w (s.mask w) (execConfigWrite f off data t s) := by
  refine keepsOutcome_mono h ?_
  unfold execConfigWrite
  repeat' (first | with_reducible rfl | assumption | (intro _) | with_reducible refine ite_keeps ?_ ?_ | with_reducible refine ite_answer ?_ ?_ | with_reducible apply checked_keeps | with_reducible apply withCtx_keeps | with_reducible apply withQueue_keeps | with_reducible apply corrCmd_keeps | (simp only [foldl_mask, advTo_foot, withAvail_foot, modHp_foot, tlp_foot, endWake_foot, dmaFlush_foot, intxUpdate_foot, startFlr_foot, keeps_ok, keeps_started, keeps_fail, keeps_failWith, keeps_wait, keeps_next, Nat.reduceAnd]) | with_reducible apply foldl_keeps | dsimp only | split)
theorem execFlr_foot {w : Nat} (h : 236329603698 &&& w = 236329603698) (f : Fn) (t : Nat) (s : State) :
    keepsOutcome w (s.mask w) (execFlr f t s) := by
  refine keepsOutcome_mono h ?_
  unfold execFlr
  repeat' (first | with_reducible rfl | assumption | (intro _) | with_reducible refine ite_keeps ?_ ?_ | with_reducible refine ite_answer ?_ ?_ | with_reducible apply checked_keeps | with_reducible apply withCtx_keeps | with_reducible apply withQueue_keeps | with_reducible apply corrCmd_keeps | (simp only [foldl_mask, startFlr_foot, advTo_foot, keeps_ok, keeps_started, keeps_fail, keeps_failWith, keeps_wait, keeps_next, Nat.reduceAnd]) | with_reducible apply foldl_keeps | dsimp only | split)
theorem execFlrComplete_foot {w : Nat} (h : 231996493930 &&& w = 231996493930) (f : Fn) (t : Nat) (s : State) :
    keepsOutcome w (s.mask w) (execFlrComplete f t s) := by
  refine keepsOutcome_mono h ?_
  unfold execFlrComplete
  repeat' (first | with_reducible rfl | assumption | (intro _) | with_reducible refine ite_keeps ?_ ?_ | with_reducible refine ite_answer ?_ ?_ | with_reducible apply checked_keeps | with_reducible apply withCtx_keeps | with_reducible apply withQueue_keeps | with_reducible apply corrCmd_keeps | (simp only [foldl_mask, advTo_foot, destroyQueue_foot, endMailboxes_foot, modHp_foot, withAvail_foot, rdRewrite_foot, keeps_ok, keeps_started, keeps_fail, keeps_failWith, keeps_wait, keeps_next, Nat.reduceAnd]) | with_reducible apply foldl_keeps | dsimp only | split)
theorem refuseXlat_foot {w : Nat} (h : 8696332354 &&& w = 8696332354) (f : Nat) (key : Nat) (s : State) :
    (refuseXlat f key s).mask w = s.mask w := by
  refine mask_mono h ?_
  unfold refuseXlat
  repeat' (first | with_reducible rfl | assumption | (intro _) | with_reducible refine ite_keeps ?_ ?_ | with_reducible refine ite_answer ?_ ?_ | with_reducible apply checked_keeps | with_reducible apply withCtx_keeps | with_reducible apply withQueue_keeps | with_reducible apply corrCmd_keeps | (simp only [foldl_mask, queueError_foot, dmaDrop_foot, finishWait_foot, keeps_ok, keeps_started, keeps_fail, keeps_failWith, keeps_wait, keeps_next, Nat.reduceAnd]) | with_reducible apply foldl_keeps | dsimp only | split)
theorem execTranslationCompletion_foot {w : Nat} (h : 8696332354 &&& w = 8696332354) (f : Fn) (page : Nat) (r : XlatResult) (s : State) :
    keepsOutcome w (s.mask w) (execTranslationCompletion f page r s) := by
  refine keepsOutcome_mono h ?_
  unfold execTranslationCompletion
  repeat' (first | with_reducible rfl | assumption | (intro _) | with_reducible refine ite_keeps ?_ ?_ | with_reducible refine ite_answer ?_ ?_ | with_reducible apply checked_keeps | with_reducible apply withCtx_keeps | with_reducible apply withQueue_keeps | with_reducible apply corrCmd_keeps | (simp only [foldl_mask, dmaFlush_foot, modHp_foot, refuseXlat_foot, countHp_foot, keeps_ok, keeps_started, keeps_fail, keeps_failWith, keeps_wait, keeps_next, Nat.reduceAnd]) | with_reducible apply foldl_keeps | dsimp only | split)
theorem execInvalidationRequest_foot {w : Nat} (h : 32770 &&& w = 32770) (f : Fn) (base : Nat) (size : Nat) (itag : Nat) (s : State) :
    keepsOutcome w (s.mask w) (execInvalidationRequest f base size itag s) := by
  refine keepsOutcome_mono h ?_
  unfold execInvalidationRequest
  repeat' (first | with_reducible rfl | assumption | (intro _) | with_reducible refine ite_keeps ?_ ?_ | with_reducible refine ite_answer ?_ ?_ | with_reducible apply checked_keeps | with_reducible apply withCtx_keeps | with_reducible apply withQueue_keeps | with_reducible apply corrCmd_keeps | (simp only [foldl_mask, emit_foot, countHp_foot, modHp_foot, keeps_ok, keeps_started, keeps_fail, keeps_failWith, keeps_wait, keeps_next, Nat.reduceAnd]) | with_reducible apply foldl_keeps | dsimp only | split)
theorem takeRead_foot {w : Nat} (h : 1048576 &&& w = 1048576) (why : ReadFor) (d : List Byte) (s : State) :
    (takeRead why d s).mask w = s.mask w := by
  refine mask_mono h ?_
  unfold takeRead
  repeat' (first | with_reducible rfl | assumption | (intro _) | with_reducible refine ite_keeps ?_ ?_ | with_reducible refine ite_answer ?_ ?_ | with_reducible apply checked_keeps | with_reducible apply withCtx_keeps | with_reducible apply withQueue_keeps | with_reducible apply corrCmd_keeps | (simp only [foldl_mask, modQueue_foot, keeps_ok, keeps_started, keeps_fail, keeps_failWith, keeps_wait, keeps_next, Nat.reduceAnd]) | with_reducible apply foldl_keeps | dsimp only | split)
theorem failRead_foot {w : Nat} (h : 8658124866 &&& w = 8658124866) (why : ReadFor) (reason : Nat) (s : State) :
    (failRead why reason s).mask w = s.mask w := by
  refine mask_mono h ?_
  unfold failRead
  repeat' (first | with_reducible rfl | assumption | (intro _) | with_reducible refine ite_keeps ?_ ?_ | with_reducible refine ite_answer ?_ ?_ | with_reducible apply checked_keeps | with_reducible apply withCtx_keeps | with_reducible apply withQueue_keeps | with_reducible apply corrCmd_keeps | (simp only [foldl_mask, queueError_foot, keeps_ok, keeps_started, keeps_fail, keeps_failWith, keeps_wait, keeps_next, Nat.reduceAnd]) | with_reducible apply foldl_keeps | dsimp only | split)
theorem execReadCompletionReceived_foot {w : Nat} (h : 8658124898 &&& w = 8658124898) (f : Fn) (tag : Nat) (st : CplStatus) (data : List Byte) (t : Nat) (s : State) :
    keepsOutcome w (s.mask w) (execReadCompletionReceived f tag st data t s) := by
  refine keepsOutcome_mono h ?_
  unfold execReadCompletionReceived
  repeat' (first | with_reducible rfl | assumption | (intro _) | with_reducible refine ite_keeps ?_ ?_ | with_reducible refine ite_answer ?_ ?_ | with_reducible apply checked_keeps | with_reducible apply withCtx_keeps | with_reducible apply withQueue_keeps | with_reducible apply corrCmd_keeps | (simp only [foldl_mask, tlp_foot, advTo_foot, countHp_foot, logAer_foot, modHp_foot, dmaFlush_foot, takeRead_foot, failRead_foot, keeps_ok, keeps_started, keeps_fail, keeps_failWith, keeps_wait, keeps_next, Nat.reduceAnd]) | with_reducible apply foldl_keeps | dsimp only | split)
theorem execCompletionTimeout_foot {w : Nat} (h : 8658124898 &&& w = 8658124898) (f : Fn) (tag : Nat) (s : State) :
    keepsOutcome w (s.mask w) (execCompletionTimeout f tag s) := by
  refine keepsOutcome_mono h ?_
  unfold execCompletionTimeout
  repeat' (first | with_reducible rfl | assumption | (intro _) | with_reducible refine ite_keeps ?_ ?_ | with_reducible refine ite_answer ?_ ?_ | with_reducible apply checked_keeps | with_reducible apply withCtx_keeps | with_reducible apply withQueue_keeps | with_reducible apply corrCmd_keeps | (simp only [foldl_mask, advTo_foot, modHp_foot, failRead_foot, logAer_foot, countHp_foot, keeps_ok, keeps_started, keeps_fail, keeps_failWith, keeps_wait, keeps_next, Nat.reduceAnd]) | with_reducible apply foldl_keeps | dsimp only | split)
theorem execTagQuarantineEnd_foot {w : Nat} (h : 32802 &&& w = 32802) (f : Fn) (tag : Nat) (s : State) :
    keepsOutcome w (s.mask w) (execTagQuarantineEnd f tag s) := by
  refine keepsOutcome_mono h ?_
  unfold execTagQuarantineEnd
  repeat' (first | with_reducible rfl | assumption | (intro _) | with_reducible refine ite_keeps ?_ ?_ | with_reducible refine ite_answer ?_ ?_ | with_reducible apply checked_keeps | with_reducible apply withCtx_keeps | with_reducible apply withQueue_keeps | with_reducible apply corrCmd_keeps | (simp only [foldl_mask, dmaFlush_foot, modHp_foot, advTo_foot, keeps_ok, keeps_started, keeps_fail, keeps_failWith, keeps_wait, keeps_next, Nat.reduceAnd]) | with_reducible apply foldl_keeps | dsimp only | split)
theorem execLinkL1Entry_foot {w : Nat} (h : 32802 &&& w = 32802) (f : Fn) (kind : IdleRequest) (t : Nat) (s : State) :
    keepsOutcome w (s.mask w) (execLinkL1Entry f kind t s) := by
  refine keepsOutcome_mono h ?_
  unfold execLinkL1Entry
  repeat' (first | with_reducible rfl | assumption | (intro _) | with_reducible refine ite_keeps ?_ ?_ | with_reducible refine ite_answer ?_ ?_ | with_reducible apply checked_keeps | with_reducible apply withCtx_keeps | with_reducible apply withQueue_keeps | with_reducible apply corrCmd_keeps | (simp only [foldl_mask, advTo_foot, emit_foot, modHp_foot, keeps_ok, keeps_started, keeps_fail, keeps_failWith, keeps_wait, keeps_next, Nat.reduceAnd]) | with_reducible apply foldl_keeps | dsimp only | split)
theorem execDoeRequest_foot {w : Nat} (h : 582 &&& w = 582) (f : Fn) (object : List Byte) (s : State) :
    keepsOutcome w (s.mask w) (execDoeRequest f object s) := by
  refine keepsOutcome_mono h ?_
  unfold execDoeRequest
  repeat' (first | with_reducible rfl | assumption | (intro _) | with_reducible refine ite_keeps ?_ ?_ | with_reducible refine ite_answer ?_ ?_ | with_reducible apply checked_keeps | with_reducible apply withCtx_keeps | with_reducible apply withQueue_keeps | with_reducible apply corrCmd_keeps | (simp only [foldl_mask, emit_foot, keeperWork_foot, spdm_foot, keeps_ok, keeps_started, keeps_fail, keeps_failWith, keeps_wait, keeps_next, Nat.reduceAnd]) | with_reducible apply foldl_keeps | dsimp only | split)
theorem execQPartition_foot {w : Nat} (h : 37978194 &&& w = 37978194) (f : Fn) (a1 : Mbx) (s : State) :
    keepsOutcome w (s.mask w) (execQPartition f a1 s) := by
  refine keepsOutcome_mono h ?_
  rw [execQPartition, keeps_next]
  exact serve_foot (by decide) _ _ _ _ rfl fun r s' hs => cmdQPartition_foot (by decide) r s' hs
theorem execQCreate_foot {w : Nat} (h : 39027778 &&& w = 39027778) (f : Fn) (a1 : Mbx) (s : State) :
    keepsOutcome w (s.mask w) (execQCreate f a1 s) := by
  refine keepsOutcome_mono h ?_
  rw [execQCreate, keeps_next]
  exact serve_foot (by decide) _ _ _ _ rfl fun r s' hs => cmdQCreate_foot (by decide) r s' hs
theorem execQEnable_foot {w : Nat} (h : 8696070210 &&& w = 8696070210) (f : Fn) (a1 : Mbx) (s : State) :
    keepsOutcome w (s.mask w) (execQEnable f a1 s) := by
  refine keepsOutcome_mono h ?_
  rw [execQEnable, keeps_next]
  exact serve_foot (by decide) _ _ _ _ rfl fun r s' hs => cmdQEnable_foot (by decide) r s' hs
theorem execQDisable_foot {w : Nat} (h : 8696070210 &&& w = 8696070210) (f : Fn) (a1 : Mbx) (s : State) :
    keepsOutcome w (s.mask w) (execQDisable f a1 s) := by
  refine keepsOutcome_mono h ?_
  rw [execQDisable, keeps_next]
  exact serve_foot (by decide) _ _ _ _ rfl fun r s' hs => cmdQDisable_foot (by decide) r s' hs
theorem execQDisabled_foot {w : Nat} (h : 68190274 &&& w = 68190274) (q : QId) (s : State) :
    keepsOutcome w (s.mask w) (execQDisabled q s) := by
  refine keepsOutcome_mono h ?_
  unfold execQDisabled
  repeat' (first | with_reducible rfl | assumption | (intro _) | with_reducible refine ite_keeps ?_ ?_ | with_reducible refine ite_answer ?_ ?_ | with_reducible apply checked_keeps | with_reducible apply withCtx_keeps | with_reducible apply withQueue_keeps | with_reducible apply corrCmd_keeps | (simp only [foldl_mask, notify_foot, endFrames_foot, raise_foot, modQueue_foot, keeps_ok, keeps_started, keeps_fail, keeps_failWith, keeps_wait, keeps_next, Nat.reduceAnd]) | with_reducible apply foldl_keeps | dsimp only | split)
theorem execQReset_foot {w : Nat} (h : 106135618 &&& w = 106135618) (f : Fn) (a1 : Mbx) (s : State) :
    keepsOutcome w (s.mask w) (execQReset f a1 s) := by
  refine keepsOutcome_mono h ?_
  rw [execQReset, keeps_next]
  exact serve_foot (by decide) _ _ _ _ rfl fun r s' hs => cmdQReset_foot (by decide) r s' hs
theorem execQDestroy_foot {w : Nat} (h : 94595416138 &&& w = 94595416138) (f : Fn) (a1 : Mbx) (s : State) :
    keepsOutcome w (s.mask w) (execQDestroy f a1 s) := by
  refine keepsOutcome_mono h ?_
  rw [execQDestroy, keeps_next]
  exact serve_foot (by decide) _ _ _ _ rfl fun r s' hs => cmdQDestroy_foot (by decide) r s' hs
theorem execQSetNotify_foot {w : Nat} (h : 39026754 &&& w = 39026754) (f : Fn) (a1 : Mbx) (s : State) :
    keepsOutcome w (s.mask w) (execQSetNotify f a1 s) := by
  refine keepsOutcome_mono h ?_
  rw [execQSetNotify, keeps_next]
  exact serve_foot (by decide) _ _ _ _ rfl fun r s' hs => cmdQSetNotify_foot (by decide) r s' hs
theorem execQGetStatus_foot {w : Nat} (h : 39026754 &&& w = 39026754) (f : Fn) (a1 : Mbx) (s : State) :
    keepsOutcome w (s.mask w) (execQGetStatus f a1 s) := by
  refine keepsOutcome_mono h ?_
  rw [execQGetStatus, keeps_next]
  exact serve_foot (by decide) _ _ _ _ rfl fun r s' hs => cmdQGetStatus_foot (by decide) r s' hs
theorem readBuffer_foot {w : Nat} (h : 32770 &&& w = 32770) (q : Nat) (v : Queue) (e : Nat × List Byte) (s : State) :
    (readBuffer q v e s).mask w = s.mask w := by
  refine mask_mono h ?_
  unfold readBuffer
  repeat' (first | with_reducible rfl | assumption | (intro _) | with_reducible refine ite_keeps ?_ ?_ | with_reducible refine ite_answer ?_ ?_ | with_reducible apply checked_keeps | with_reducible apply withCtx_keeps | with_reducible apply withQueue_keeps | with_reducible apply corrCmd_keeps | (simp only [foldl_mask, dma_foot, keeps_ok, keeps_started, keeps_fail, keeps_failWith, keeps_wait, keeps_next, Nat.reduceAnd]) | with_reducible apply foldl_keeps | dsimp only | split)
theorem execDescriptorFetchComplete_foot {w : Nat} (h : 8658124866 &&& w = 8658124866) (q : QId) (s : State) :
    keepsOutcome w (s.mask w) (execDescriptorFetchComplete q s) := by
  refine keepsOutcome_mono h ?_
  unfold execDescriptorFetchComplete
  repeat' (first | with_reducible rfl | assumption | (intro _) | with_reducible refine ite_keeps ?_ ?_ | with_reducible refine ite_answer ?_ ?_ | with_reducible apply checked_keeps | with_reducible apply withCtx_keeps | with_reducible apply withQueue_keeps | with_reducible apply corrCmd_keeps | (simp only [foldl_mask, queueError_foot, setQueue_foot, fetchMore_foot, readBuffer_foot, keeps_ok, keeps_started, keeps_fail, keeps_failWith, keeps_wait, keeps_next, Nat.reduceAnd]) | with_reducible apply foldl_keeps | dsimp only | split)
theorem execNotifyCoalTimeout_foot {w : Nat} (h : 1081378 &&& w = 1081378) (q : QId) (s : State) :
    keepsOutcome w (s.mask w) (execNotifyCoalTimeout q s) := by
  refine keepsOutcome_mono h ?_
  unfold execNotifyCoalTimeout
  repeat' (first | with_reducible rfl | assumption | (intro _) | with_reducible refine ite_keeps ?_ ?_ | with_reducible refine ite_answer ?_ ?_ | with_reducible apply checked_keeps | with_reducible apply withCtx_keeps | with_reducible apply withQueue_keeps | with_reducible apply corrCmd_keeps | (simp only [foldl_mask, notify_foot, advTo_foot, keeps_ok, keeps_started, keeps_fail, keeps_failWith, keeps_wait, keeps_next, Nat.reduceAnd]) | with_reducible apply foldl_keeps | dsimp only | split)
theorem execSourcePacketSend_foot {w : Nat} (h : 1081442 &&& w = 1081442) (q : QId) (t : Nat) (s : State) :
    keepsOutcome w (s.mask w) (execSourcePacketSend q t s) := by
  refine keepsOutcome_mono h ?_
  unfold execSourcePacketSend
  repeat' (first | with_reducible rfl | assumption | (intro _) | with_reducible refine ite_keeps ?_ ?_ | with_reducible refine ite_answer ?_ ?_ | with_reducible apply checked_keeps | with_reducible apply withCtx_keeps | with_reducible apply withQueue_keeps | with_reducible apply corrCmd_keeps | (simp only [foldl_mask, advTo_foot, noteWait_foot, finishEntry_foot, sendPacket_foot, keeps_ok, keeps_started, keeps_fail, keeps_failWith, keeps_wait, keeps_next, Nat.reduceAnd]) | with_reducible apply foldl_keeps | dsimp only | split)
theorem refuseRec_foot {w : Nat} (h : 67108864 &&& w = 67108864) (c : Nat) (s : State) :
    (refuseRec c s).mask w = s.mask w := by
  refine mask_mono h ?_
  unfold refuseRec
  repeat' (first | with_reducible rfl | assumption | (intro _) | with_reducible refine ite_keeps ?_ ?_ | with_reducible refine ite_answer ?_ ?_ | with_reducible apply checked_keeps | with_reducible apply withCtx_keeps | with_reducible apply withQueue_keeps | with_reducible apply corrCmd_keeps | (simp only [foldl_mask, modCtx_foot, keeps_ok, keeps_started, keeps_fail, keeps_failWith, keeps_wait, keeps_next, Nat.reduceAnd]) | with_reducible apply foldl_keeps | dsimp only | split)
theorem takeRec_foot {w : Nat} (h : 68190274 &&& w = 68190274) (c : Nat) (q : Nat) (d : Nat) (v : Queue) (s : State) :
    (takeRec c q d v s).mask w = s.mask w := by
  refine mask_mono h ?_
  unfold takeRec
  repeat' (first | with_reducible rfl | assumption | (intro _) | with_reducible refine ite_keeps ?_ ?_ | with_reducible refine ite_answer ?_ ?_ | with_reducible apply checked_keeps | with_reducible apply withCtx_keeps | with_reducible apply withQueue_keeps | with_reducible apply corrCmd_keeps | (simp only [foldl_mask, setQueue_foot, fetchMore_foot, modCtx_foot, keeps_ok, keeps_started, keeps_fail, keeps_failWith, keeps_wait, keeps_next, Nat.reduceAnd]) | with_reducible apply foldl_keeps | dsimp only | split)
theorem execFrameRecordStart_foot {w : Nat} (h : 68190306 &&& w = 68190306) (c : CtxId) (t : Nat) (s : State) :
    keepsOutcome w (s.mask w) (execFrameRecordStart c t s) := by
  refine keepsOutcome_mono h ?_
  unfold execFrameRecordStart
  repeat' (first | with_reducible rfl | assumption | (intro _) | with_reducible refine ite_keeps ?_ ?_ | with_reducible refine ite_answer ?_ ?_ | with_reducible apply checked_keeps | with_reducible apply withCtx_keeps | with_reducible apply withQueue_keeps | with_reducible apply corrCmd_keeps | (simp only [foldl_mask, advTo_foot, refuseRec_foot, raise_foot, countQ_foot, fetchMore_foot, takeRec_foot, keeps_ok, keeps_started, keeps_fail, keeps_failWith, keeps_wait, keeps_next, Nat.reduceAnd]) | with_reducible apply foldl_keeps | dsimp only | split)
theorem execFrameRecordClose_foot {w : Nat} (h : 68190306 &&& w = 68190306) (c : CtxId) (t : Nat) (s : State) :
    keepsOutcome w (s.mask w) (execFrameRecordClose c t s) := by
  refine keepsOutcome_mono h ?_
  unfold execFrameRecordClose
  repeat' (first | with_reducible rfl | assumption | (intro _) | with_reducible refine ite_keeps ?_ ?_ | with_reducible refine ite_answer ?_ ?_ | with_reducible apply checked_keeps | with_reducible apply withCtx_keeps | with_reducible apply withQueue_keeps | with_reducible apply corrCmd_keeps | (simp only [foldl_mask, advTo_foot, modCtx_foot, countCplFull_foot, recordWrite_foot, complete_foot, countLaunchEarly_foot, keeps_ok, keeps_started, keeps_fail, keeps_failWith, keeps_wait, keeps_next, Nat.reduceAnd]) | with_reducible apply foldl_keeps | dsimp only | split)
theorem execTimeGetStatus_foot {w : Nat} (h : 37978178 &&& w = 37978178) (f : Fn) (a1 : Mbx) (s : State) :
    keepsOutcome w (s.mask w) (execTimeGetStatus f a1 s) := by
  refine keepsOutcome_mono h ?_
  rw [execTimeGetStatus, keeps_next]
  exact serve_foot (by decide) _ _ _ _ rfl fun r s' hs => cmdTimeGetStatus_foot (by decide) r s' hs
theorem execTimeSetSource_foot {w : Nat} (h : 39026786 &&& w = 39026786) (f : Fn) (a1 : Mbx) (s : State) :
    keepsOutcome w (s.mask w) (execTimeSetSource f a1 s) := by
  refine keepsOutcome_mono h ?_
  rw [execTimeSetSource, keeps_next]
  exact serve_foot (by decide) _ _ _ _ rfl fun r s' hs => cmdTimeSetSource_foot (by decide) r s' hs
theorem execTimeSetExtOffset_foot {w : Nat} (h : 37978210 &&& w = 37978210) (f : Fn) (a1 : Mbx) (s : State) :
    keepsOutcome w (s.mask w) (execTimeSetExtOffset f a1 s) := by
  refine keepsOutcome_mono h ?_
  rw [execTimeSetExtOffset, keeps_next]
  exact serve_foot (by decide) _ _ _ _ rfl fun r s' hs => cmdTimeSetExtOffset_foot (by decide) r s' hs
theorem execTimeSetPps_foot {w : Nat} (h : 37978210 &&& w = 37978210) (f : Fn) (a1 : Mbx) (s : State) :
    keepsOutcome w (s.mask w) (execTimeSetPps f a1 s) := by
  refine keepsOutcome_mono h ?_
  rw [execTimeSetPps, keeps_next]
  exact serve_foot (by decide) _ _ _ _ rfl fun r s' hs => cmdTimeSetPps_foot (by decide) r s' hs
theorem execSourceValidityChange_foot {w : Nat} (h : 17858658 &&& w = 17858658) (src : TimeSource) (valid : Bool) (t : Nat) (s : State) :
    keepsOutcome w (s.mask w) (execSourceValidityChange src valid t s) := by
  refine keepsOutcome_mono h ?_
  unfold execSourceValidityChange
  repeat' (first | with_reducible rfl | assumption | (intro _) | with_reducible refine ite_keeps ?_ ?_ | with_reducible refine ite_answer ?_ ?_ | with_reducible apply checked_keeps | with_reducible apply withCtx_keeps | with_reducible apply withQueue_keeps | with_reducible apply corrCmd_keeps | (simp only [foldl_mask, advTo_foot, setValid_foot, dropMaster_foot, keeps_ok, keeps_started, keeps_fail, keeps_failWith, keeps_wait, keeps_next, Nat.reduceAnd]) | with_reducible apply foldl_keeps | dsimp only | split)
theorem execSourcePromotion_foot {w : Nat} (h : 1081442 &&& w = 1081442) (t : Nat) (s : State) :
    keepsOutcome w (s.mask w) (execSourcePromotion t s) := by
  refine keepsOutcome_mono h ?_
  unfold execSourcePromotion
  repeat' (first | with_reducible rfl | assumption | (intro _) | with_reducible refine ite_keeps ?_ ?_ | with_reducible refine ite_answer ?_ ?_ | with_reducible apply checked_keeps | with_reducible apply withCtx_keeps | with_reducible apply withQueue_keeps | with_reducible apply corrCmd_keeps | (simp only [foldl_mask, advTo_foot, takeSource_foot, keeps_ok, keeps_started, keeps_fail, keeps_failWith, keeps_wait, keeps_next, Nat.reduceAnd]) | with_reducible apply foldl_keeps | dsimp only | split)
theorem ppsValid_foot {w : Nat} (h : 38830182 &&& w = 38830182) (te : Nat) (s : State) :
    (ppsValid te s).mask w = s.mask w := by
  refine mask_mono h ?_
  unfold ppsValid
  repeat' (first | with_reducible rfl | assumption | (intro _) | with_reducible refine ite_keeps ?_ ?_ | with_reducible refine ite_answer ?_ ?_ | with_reducible apply checked_keeps | with_reducible apply withCtx_keeps | with_reducible apply withQueue_keeps | with_reducible apply corrCmd_keeps | (simp only [foldl_mask, modClock_foot, measure_foot, keeps_ok, keeps_started, keeps_fail, keeps_failWith, keeps_wait, keeps_next, Nat.reduceAnd]) | with_reducible apply foldl_keeps | dsimp only | split)
theorem execPpsEdge_foot {w : Nat} (h : 38830182 &&& w = 38830182) (rise : Bool) (t : Nat) (s : State) :
    keepsOutcome w (s.mask w) (execPpsEdge rise t s) := by
  refine keepsOutcome_mono h ?_
  unfold execPpsEdge
  repeat' (first | with_reducible rfl | assumption | (intro _) | with_reducible refine ite_keeps ?_ ?_ | with_reducible refine ite_answer ?_ ?_ | with_reducible apply checked_keeps | with_reducible apply withCtx_keeps | with_reducible apply withQueue_keeps | with_reducible apply corrCmd_keeps | (simp only [foldl_mask, advTo_foot, ppsValid_foot, raiseTime_foot, modClock_foot, setValid_foot, keeps_ok, keeps_started, keeps_fail, keeps_failWith, keeps_wait, keeps_next, Nat.reduceAnd]) | with_reducible apply foldl_keeps | dsimp only | split)
theorem execExtOffsetApply_foot {w : Nat} (h : 1081442 &&& w = 1081442) (s : State) :
    keepsOutcome w (s.mask w) (execExtOffsetApply s) := by
  refine keepsOutcome_mono h ?_
  unfold execExtOffsetApply
  repeat' (first | with_reducible rfl | assumption | (intro _) | with_reducible refine ite_keeps ?_ ?_ | with_reducible refine ite_answer ?_ ?_ | with_reducible apply checked_keeps | with_reducible apply withCtx_keeps | with_reducible apply withQueue_keeps | with_reducible apply corrCmd_keeps | (simp only [foldl_mask, applyExt_foot, modClock_foot, advTo_foot, keeps_ok, keeps_started, keeps_fail, keeps_failWith, keeps_wait, keeps_next, Nat.reduceAnd]) | with_reducible apply foldl_keeps | dsimp only | split)
theorem execPpsOutRise_foot {w : Nat} (h : 34 &&& w = 34) (t : Nat) (s : State) :
    keepsOutcome w (s.mask w) (execPpsOutRise t s) := by
  refine keepsOutcome_mono h ?_
  unfold execPpsOutRise
  repeat' (first | with_reducible rfl | assumption | (intro _) | with_reducible refine ite_keeps ?_ ?_ | with_reducible refine ite_answer ?_ ?_ | with_reducible apply checked_keeps | with_reducible apply withCtx_keeps | with_reducible apply withQueue_keeps | with_reducible apply corrCmd_keeps | (simp only [foldl_mask, advTo_foot, emit_foot, modClock_foot, keeps_ok, keeps_started, keeps_fail, keeps_failWith, keeps_wait, keeps_next, Nat.reduceAnd]) | with_reducible apply foldl_keeps | dsimp only | split)
theorem execPpsOutFall_foot {w : Nat} (h : 34 &&& w = 34) (s : State) :
    keepsOutcome w (s.mask w) (execPpsOutFall s) := by
  refine keepsOutcome_mono h ?_
  unfold execPpsOutFall
  repeat' (first | with_reducible rfl | assumption | (intro _) | with_reducible refine ite_keeps ?_ ?_ | with_reducible refine ite_answer ?_ ?_ | with_reducible apply checked_keeps | with_reducible apply withCtx_keeps | with_reducible apply withQueue_keeps | with_reducible apply corrCmd_keeps | (simp only [foldl_mask, emit_foot, modClock_foot, advTo_foot, keeps_ok, keeps_started, keeps_fail, keeps_failWith, keeps_wait, keeps_next, Nat.reduceAnd]) | with_reducible apply foldl_keeps | dsimp only | split)
theorem execSchedAdd_foot {w : Nat} (h : 17317414273098 &&& w = 17317414273098) (f : Fn) (a1 : Mbx) (s : State) :
    keepsOutcome w (s.mask w) (execSchedAdd f a1 s) := by
  refine keepsOutcome_mono h ?_
  rw [execSchedAdd, keeps_next]
  exact serve_foot (by decide) _ _ _ _ rfl fun r s' hs => cmdSchedAdd_foot (by decide) _ r s' hs
theorem execSchedCancel_foot {w : Nat} (h : 274915885122 &&& w = 274915885122) (f : Fn) (a1 : Mbx) (s : State) :
    keepsOutcome w (s.mask w) (execSchedCancel f a1 s) := by
  refine keepsOutcome_mono h ?_
  rw [execSchedCancel, keeps_next]
  exact serve_foot (by decide) _ _ _ _ rfl fun r s' hs => cmdSchedCancel_foot (by decide) _ r s' hs
theorem execSchedGetStatus_foot {w : Nat} (h : 274915885122 &&& w = 274915885122) (f : Fn) (a1 : Mbx) (s : State) :
    keepsOutcome w (s.mask w) (execSchedGetStatus f a1 s) := by
  refine keepsOutcome_mono h ?_
  rw [execSchedGetStatus, keeps_next]
  exact serve_foot (by decide) _ _ _ _ rfl fun r s' hs => cmdSchedGetStatus_foot (by decide) _ r s' hs
theorem execActionExecute_foot {w : Nat} (h : 17317416173674 &&& w = 17317416173674) (slot : Nat) (lateBy : Nat) (s : State) :
    keepsOutcome w (s.mask w) (execActionExecute slot lateBy s) := by
  refine keepsOutcome_mono h ?_
  unfold execActionExecute
  repeat' (first | with_reducible rfl | assumption | (intro _) | with_reducible refine ite_keeps ?_ ?_ | with_reducible refine ite_answer ?_ ?_ | with_reducible apply checked_keeps | with_reducible apply withCtx_keeps | with_reducible apply withQueue_keeps | with_reducible apply corrCmd_keeps | (simp only [foldl_mask, latchAction_foot, advTo_foot, wakeDozing_foot, runAction_foot, keeps_ok, keeps_started, keeps_fail, keeps_failWith, keeps_wait, keeps_next, Nat.reduceAnd]) | with_reducible apply foldl_keeps | dsimp only | split)
theorem execWgConfigure_foot {w : Nat} (h : 8796131000386 &&& w = 8796131000386) (f : Fn) (a1 : Mbx) (s : State) :
    keepsOutcome w (s.mask w) (execWgConfigure f a1 s) := by
  refine keepsOutcome_mono h ?_
  rw [execWgConfigure, keeps_next]
  exact serve_foot (by decide) _ _ _ _ rfl fun r s' hs => cmdWgConfigure_foot (by decide) r s' hs
theorem execWgConnect_foot {w : Nat} (h : 8796131000386 &&& w = 8796131000386) (f : Fn) (a1 : Mbx) (s : State) :
    keepsOutcome w (s.mask w) (execWgConnect f a1 s) := by
  refine keepsOutcome_mono h ?_
  rw [execWgConnect, keeps_next]
  exact serve_foot (by decide) _ _ _ _ rfl fun r s' hs => cmdWgConnect_foot (by decide) r s' hs
theorem execWgSetGroup_foot {w : Nat} (h : 8796131000386 &&& w = 8796131000386) (f : Fn) (a1 : Mbx) (s : State) :
    keepsOutcome w (s.mask w) (execWgSetGroup f a1 s) := by
  refine keepsOutcome_mono h ?_
  rw [execWgSetGroup, keeps_next]
  exact serve_foot (by decide) _ _ _ _ rfl fun r s' hs => cmdWgSetGroup_foot (by decide) r s' hs
theorem execWgExport_foot {w : Nat} (h : 8796131262530 &&& w = 8796131262530) (f : Fn) (a1 : Mbx) (s : State) :
    keepsOutcome w (s.mask w) (execWgExport f a1 s) := by
  refine keepsOutcome_mono h ?_
  rw [execWgExport, keeps_next]
  exact serve_foot (by decide) _ _ _ _ rfl fun r s' hs => cmdWgExport_foot (by decide) r s' hs
theorem execWgGetStatus_foot {w : Nat} (h : 8796131000386 &&& w = 8796131000386) (f : Fn) (a1 : Mbx) (s : State) :
    keepsOutcome w (s.mask w) (execWgGetStatus f a1 s) := by
  refine keepsOutcome_mono h ?_
  rw [execWgGetStatus, keeps_next]
  exact serve_foot (by decide) _ _ _ _ rfl fun r s' hs => cmdWgGetStatus_foot (by decide) r s' hs
theorem execProducerOccurrence_foot {w : Nat} (h : 17042469060714 &&& w = 17042469060714) (producer : Nat) (rise : Bool) (t : Nat) (s : State) :
    keepsOutcome w (s.mask w) (execProducerOccurrence producer rise t s) := by
  refine keepsOutcome_mono h ?_
  unfold execProducerOccurrence
  repeat' (first | with_reducible rfl | assumption | (intro _) | with_reducible refine ite_keeps ?_ ?_ | with_reducible refine ite_answer ?_ ?_ | with_reducible apply checked_keeps | with_reducible apply withCtx_keeps | with_reducible apply withQueue_keeps | with_reducible apply corrCmd_keeps | (simp only [foldl_mask, advTo_foot, originate_foot, keeps_ok, keeps_started, keeps_fail, keeps_failWith, keeps_wait, keeps_next, Nat.reduceAnd]) | with_reducible apply foldl_keeps | dsimp only | split)

end Sys2Proof.Machine
end

