-- ==== Sys2Proof/Laws/Foot15.lean ====
section
/-! SUPPORT. What each operation leaves as it was, part 15 of 18: of state `s` it changes no field outside the set of its
footprint (a bit for each field, in the order of Field). -/
set_option linter.all false
set_option maxRecDepth 4000
open Sys2Proof Sys2Proof.Machine
namespace Sys2Proof.Machine

theorem execChannelDelayFire_foot {w : Nat} (h : 17042469060714 &&& w = 17042469060714) (c : Chan) (s : State) :
    keepsOutcome w (s.mask w) (execChannelDelayFire c s) := by
  refine keepsOutcome_mono h ?_
  unfold execChannelDelayFire
  repeat' (first | with_reducible rfl | assumption | (intro _) | with_reducible refine ite_keeps ?_ ?_ | with_reducible refine ite_answer ?_ ?_ | with_reducible apply checked_keeps | with_reducible apply withCtx_keeps | with_reducible apply withQueue_keeps | with_reducible apply corrCmd_keeps | (simp only [mask_set_8796093022208, foldl_mask, advTo_foot, modChan_foot, fireChan_foot, propagate_foot, endTick_foot, keeps_ok, keeps_started, keeps_fail, keeps_failWith, keeps_wait, keeps_next, Nat.reduceAnd]) | with_reducible apply foldl_keeps | dsimp only | split)
theorem execWgImportReceived_foot {w : Nat} (h : 9070972010594 &&& w = 9070972010594) (src : Nat) (secure : Bool) (body : List Byte) (t : Nat) (s : State) :
    keepsOutcome w (s.mask w) (execWgImportReceived src secure body t s) := by
  refine keepsOutcome_mono h ?_
  unfold execWgImportReceived
  repeat' (first | with_reducible rfl | assumption | (intro _) | with_reducible refine ite_keeps ?_ ?_ | with_reducible refine ite_answer ?_ ?_ | with_reducible apply checked_keeps | with_reducible apply withCtx_keeps | with_reducible apply withQueue_keeps | with_reducible apply corrCmd_keeps | (simp only [foldl_mask, wgImport_foot, advTo_foot, keeps_ok, keeps_started, keeps_fail, keeps_failWith, keeps_wait, keeps_next, Nat.reduceAnd]) | with_reducible apply foldl_keeps | dsimp only | split)
theorem execEncConfigure_foot {w : Nat} (h : 1099549605954 &&& w = 1099549605954) (f : Fn) (a1 : Mbx) (s : State) :
    keepsOutcome w (s.mask w) (execEncConfigure f a1 s) := by
  refine keepsOutcome_mono h ?_
  rw [execEncConfigure, keeps_next]
  exact serve_foot (by decide) _ _ _ _ rfl fun r s' hs => cmdEncConfigure_foot (by decide) r s' hs
theorem execEncSetCount_foot {w : Nat} (h : 1099549605954 &&& w = 1099549605954) (f : Fn) (a1 : Mbx) (s : State) :
    keepsOutcome w (s.mask w) (execEncSetCount f a1 s) := by
  refine keepsOutcome_mono h ?_
  rw [execEncSetCount, keeps_next]
  exact serve_foot (by decide) _ _ _ _ rfl fun r s' hs => cmdEncSetCount_foot (by decide) r s' hs
theorem execEncGetStatus_foot {w : Nat} (h : 1099549605954 &&& w = 1099549605954) (f : Fn) (a1 : Mbx) (s : State) :
    keepsOutcome w (s.mask w) (execEncGetStatus f a1 s) := by
  refine keepsOutcome_mono h ?_
  rw [execEncGetStatus, keeps_next]
  exact serve_foot (by decide) _ _ _ _ rfl fun r s' hs => cmdEncGetStatus_foot (by decide) r s' hs
theorem execEmuConfigure_foot {w : Nat} (h : 2199061233730 &&& w = 2199061233730) (f : Fn) (a1 : Mbx) (s : State) :
    keepsOutcome w (s.mask w) (execEmuConfigure f a1 s) := by
  refine keepsOutcome_mono h ?_
  rw [execEmuConfigure, keeps_next]
  exact serve_foot (by decide) _ _ _ _ rfl fun r s' hs => cmdEmuConfigure_foot (by decide) r s' hs
theorem execGpioConfigure_foot {w : Nat} (h : 4398084489282 &&& w = 4398084489282) (f : Fn) (a1 : Mbx) (s : State) :
    keepsOutcome w (s.mask w) (execGpioConfigure f a1 s) := by
  refine keepsOutcome_mono h ?_
  rw [execGpioConfigure, keeps_next]
  exact serve_foot (by decide) _ _ _ _ rfl fun r s' hs => cmdGpioConfigure_foot (by decide) r s' hs
theorem execGpioWrite_foot {w : Nat} (h : 4398084489282 &&& w = 4398084489282) (f : Fn) (a1 : Mbx) (s : State) :
    keepsOutcome w (s.mask w) (execGpioWrite f a1 s) := by
  refine keepsOutcome_mono h ?_
  rw [execGpioWrite, keeps_next]
  exact serve_foot (by decide) _ _ _ _ rfl fun r s' hs => cmdGpioWrite_foot (by decide) r s' hs
theorem execGpioGetStatus_foot {w : Nat} (h : 4398084489282 &&& w = 4398084489282) (f : Fn) (a1 : Mbx) (s : State) :
    keepsOutcome w (s.mask w) (execGpioGetStatus f a1 s) := by
  refine keepsOutcome_mono h ?_
  rw [execGpioGetStatus, keeps_next]
  exact serve_foot (by decide) _ _ _ _ rfl fun r s' hs => cmdGpioGetStatus_foot (by decide) r s' hs
theorem pacedEnc_foot {w : Nat} (h : 1081418 &&& w = 1081418) (k : Pace) (e : Nat) (code : Nat) (p1 : Nat) (p2 : Nat) (s : State) :
    (pacedEnc k e code p1 p2 s).mask w = s.mask w := by
  refine mask_mono h ?_
  unfold pacedEnc
  repeat' (first | with_reducible rfl | assumption | (intro _) | with_reducible refine ite_keeps ?_ ?_ | with_reducible refine ite_answer ?_ ?_ | with_reducible apply checked_keeps | with_reducible apply withCtx_keeps | with_reducible apply withQueue_keeps | with_reducible apply corrCmd_keeps | (simp only [foldl_mask, paced_foot, raise_foot, keeps_ok, keeps_started, keeps_fail, keeps_failWith, keeps_wait, keeps_next, Nat.reduceAnd]) | with_reducible apply foldl_keeps | dsimp only | split)
theorem execEncoderEdge_foot {w : Nat} (h : 1099512709226 &&& w = 1099512709226) (e : EncId) (a : Bool) (b : Bool) (t : Nat) (s : State) :
    keepsOutcome w (s.mask w) (execEncoderEdge e a b t s) := by
  refine keepsOutcome_mono h ?_
  unfold execEncoderEdge
  repeat' (first | with_reducible rfl | assumption | (intro _) | with_reducible refine ite_keeps ?_ ?_ | with_reducible refine ite_answer ?_ ?_ | with_reducible apply checked_keeps | with_reducible apply withCtx_keeps | with_reducible apply withQueue_keeps | with_reducible apply corrCmd_keeps | (simp only [foldl_mask, advTo_foot, pacedEnc_foot, countEnc_foot, modEnc_foot, keeps_ok, keeps_started, keeps_fail, keeps_failWith, keeps_wait, keeps_next, Nat.reduceAnd]) | with_reducible apply foldl_keeps | dsimp only | split)
theorem execEncoderIndex_foot {w : Nat} (h : 1099512709226 &&& w = 1099512709226) (e : EncId) (t : Nat) (s : State) :
    keepsOutcome w (s.mask w) (execEncoderIndex e t s) := by
  refine keepsOutcome_mono h ?_
  unfold execEncoderIndex
  repeat' (first | with_reducible rfl | assumption | (intro _) | with_reducible refine ite_keeps ?_ ?_ | with_reducible refine ite_answer ?_ ?_ | with_reducible apply checked_keeps | with_reducible apply withCtx_keeps | with_reducible apply withQueue_keeps | with_reducible apply corrCmd_keeps | (simp only [foldl_mask, advTo_foot, modEnc_foot, pacedEnc_foot, honey_foot, countEnc_foot, keeps_ok, keeps_started, keeps_fail, keeps_failWith, keeps_wait, keeps_next, Nat.reduceAnd]) | with_reducible apply foldl_keeps | dsimp only | split)
theorem execSpeedUpdate_foot {w : Nat} (h : 1099511627808 &&& w = 1099511627808) (e : EncId) (t : Nat) (s : State) :
    keepsOutcome w (s.mask w) (execSpeedUpdate e t s) := by
  refine keepsOutcome_mono h ?_
  unfold execSpeedUpdate
  repeat' (first | with_reducible rfl | assumption | (intro _) | with_reducible refine ite_keeps ?_ ?_ | with_reducible refine ite_answer ?_ ?_ | with_reducible apply checked_keeps | with_reducible apply withCtx_keeps | with_reducible apply withQueue_keeps | with_reducible apply corrCmd_keeps | (simp only [foldl_mask, advTo_foot, modEnc_foot, keeps_ok, keeps_started, keeps_fail, keeps_failWith, keeps_wait, keeps_next, Nat.reduceAnd]) | with_reducible apply foldl_keeps | dsimp only | split)
theorem execStandstill_foot {w : Nat} (h : 1099511627808 &&& w = 1099511627808) (e : EncId) (s : State) :
    keepsOutcome w (s.mask w) (execStandstill e s) := by
  refine keepsOutcome_mono h ?_
  unfold execStandstill
  repeat' (first | with_reducible rfl | assumption | (intro _) | with_reducible refine ite_keeps ?_ ?_ | with_reducible refine ite_answer ?_ ?_ | with_reducible apply checked_keeps | with_reducible apply withCtx_keeps | with_reducible apply withQueue_keeps | with_reducible apply corrCmd_keeps | (simp only [foldl_mask, advTo_foot, modEnc_foot, keeps_ok, keeps_started, keeps_fail, keeps_failWith, keeps_wait, keeps_next, Nat.reduceAnd]) | with_reducible apply foldl_keeps | dsimp only | split)
theorem execEncoderHistorySample_foot {w : Nat} (h : 1099511627808 &&& w = 1099511627808) (e : EncId) (t : Nat) (s : State) :
    keepsOutcome w (s.mask w) (execEncoderHistorySample e t s) := by
  refine keepsOutcome_mono h ?_
  unfold execEncoderHistorySample
  repeat' (first | with_reducible rfl | assumption | (intro _) | with_reducible refine ite_keeps ?_ ?_ | with_reducible refine ite_answer ?_ ?_ | with_reducible apply checked_keeps | with_reducible apply withCtx_keeps | with_reducible apply withQueue_keeps | with_reducible apply corrCmd_keeps | (simp only [foldl_mask, advTo_foot, modEnc_foot, keeps_ok, keeps_started, keeps_fail, keeps_failWith, keeps_wait, keeps_next, Nat.reduceAnd]) | with_reducible apply foldl_keeps | dsimp only | split)
theorem ssiError_foot {w : Nat} (h : 1099512709194 &&& w = 1099512709194) (e : Nat) (raw : Nat) (s : State) :
    (ssiError e raw s).mask w = s.mask w := by
  refine mask_mono h ?_
  unfold ssiError
  repeat' (first | with_reducible rfl | assumption | (intro _) | with_reducible refine ite_keeps ?_ ?_ | with_reducible refine ite_answer ?_ ?_ | with_reducible apply checked_keeps | with_reducible apply withCtx_keeps | with_reducible apply withQueue_keeps | with_reducible apply corrCmd_keeps | (simp only [foldl_mask, pacedEnc_foot, countEnc_foot, keeps_ok, keeps_started, keeps_fail, keeps_failWith, keeps_wait, keeps_next, Nat.reduceAnd]) | with_reducible apply foldl_keeps | dsimp only | split)
theorem execSsiFrame_foot {w : Nat} (h : 1099512709226 &&& w = 1099512709226) (e : EncId) (idle : Bool) (bits : List Bool) (t : Nat) (s : State) :
    keepsOutcome w (s.mask w) (execSsiFrame e idle bits t s) := by
  refine keepsOutcome_mono h ?_
  unfold execSsiFrame
  repeat' (first | with_reducible rfl | assumption | (intro _) | with_reducible refine ite_keeps ?_ ?_ | with_reducible refine ite_answer ?_ ?_ | with_reducible apply checked_keeps | with_reducible apply withCtx_keeps | with_reducible apply withQueue_keeps | with_reducible apply corrCmd_keeps | (simp only [foldl_mask, advTo_foot, ssiError_foot, emit_foot, modEnc_foot, keeps_ok, keeps_started, keeps_fail, keeps_failWith, keeps_wait, keeps_next, Nat.reduceAnd]) | with_reducible apply foldl_keeps | dsimp only | split)
theorem execEmulationStep_foot {w : Nat} (h : 2199024337002 &&& w = 2199024337002) (o : EncId) (t : Nat) (s : State) :
    keepsOutcome w (s.mask w) (execEmulationStep o t s) := by
  refine keepsOutcome_mono h ?_
  unfold execEmulationStep
  repeat' (first | with_reducible rfl | assumption | (intro _) | with_reducible refine ite_keeps ?_ ?_ | with_reducible refine ite_answer ?_ ?_ | with_reducible apply checked_keeps | with_reducible apply withCtx_keeps | with_reducible apply withQueue_keeps | with_reducible apply corrCmd_keeps | (simp only [foldl_mask, advTo_foot, emuMove_foot, pacedEnc_foot, keeps_ok, keeps_started, keeps_fail, keeps_failWith, keeps_wait, keeps_next, Nat.reduceAnd]) | with_reducible apply foldl_keeps | dsimp only | split)
theorem execGpioEdge_foot {w : Nat} (h : 4398047592546 &&& w = 4398047592546) (pin : Fin 64) (level : Bool) (t : Nat) (s : State) :
    keepsOutcome w (s.mask w) (execGpioEdge pin level t s) := by
  refine keepsOutcome_mono h ?_
  unfold execGpioEdge
  repeat' (first | with_reducible rfl | assumption | (intro _) | with_reducible refine ite_keeps ?_ ?_ | with_reducible refine ite_answer ?_ ?_ | with_reducible apply checked_keeps | with_reducible apply withCtx_keeps | with_reducible apply withQueue_keeps | with_reducible apply corrCmd_keeps | (simp only [foldl_mask, advTo_foot, modPin_foot, capture_foot, keeps_ok, keeps_started, keeps_fail, keeps_failWith, keeps_wait, keeps_next, Nat.reduceAnd]) | with_reducible apply foldl_keeps | dsimp only | split)
theorem execHiveGetStatus_foot {w : Nat} (h : 37978178 &&& w = 37978178) (f : Fn) (a1 : Mbx) (s : State) :
    keepsOutcome w (s.mask w) (execHiveGetStatus f a1 s) := by
  refine keepsOutcome_mono h ?_
  rw [execHiveGetStatus, keeps_next]
  exact serve_foot (by decide) _ _ _ _ rfl fun r s' hs => cmdHiveGetStatus_foot (by decide) r s' hs
theorem execHiveListDevices_foot {w : Nat} (h : 37978182 &&& w = 37978182) (f : Fn) (a1 : Mbx) (s : State) :
    keepsOutcome w (s.mask w) (execHiveListDevices f a1 s) := by
  refine keepsOutcome_mono h ?_
  rw [execHiveListDevices, keeps_next]
  exact serve_foot (by decide) _ _ _ _ rfl fun r s' hs => cmdHiveListDevices_foot (by decide) r s' hs
theorem execHiveSetPolicy_foot {w : Nat} (h : 37978178 &&& w = 37978178) (f : Fn) (a1 : Mbx) (s : State) :
    keepsOutcome w (s.mask w) (execHiveSetPolicy f a1 s) := by
  refine keepsOutcome_mono h ?_
  rw [execHiveSetPolicy, keeps_next]
  exact serve_foot (by decide) _ _ _ _ rfl fun r s' hs => cmdHiveSetPolicy_foot (by decide) r s' hs
theorem execHiveResetDevice_foot {w : Nat} (h : 37978194 &&& w = 37978194) (f : Fn) (a1 : Mbx) (s : State) :
    keepsOutcome w (s.mask w) (execHiveResetDevice f a1 s) := by
  refine keepsOutcome_mono h ?_
  rw [execHiveResetDevice, keeps_next]
  exact serve_foot (by decide) _ _ _ _ rfl fun r s' hs => cmdHiveResetDevice_foot (by decide) r s' hs
theorem execHiveResetDone_foot {w : Nat} (h : 34635858 &&& w = 34635858) (device : Nat) (status : Nat) (s : State) :
    keepsOutcome w (s.mask w) (execHiveResetDone device status s) := by
  refine keepsOutcome_mono h ?_
  unfold execHiveResetDone
  repeat' (first | with_reducible rfl | assumption | (intro _) | with_reducible refine ite_keeps ?_ ?_ | with_reducible refine ite_answer ?_ ?_ | with_reducible apply checked_keeps | with_reducible apply withCtx_keeps | with_reducible apply withQueue_keeps | with_reducible apply corrCmd_keeps | (simp only [foldl_mask, release_foot, raise_foot, modHive_foot, keeps_ok, keeps_started, keeps_fail, keeps_failWith, keeps_wait, keeps_next, Nat.reduceAnd]) | with_reducible apply foldl_keeps | dsimp only | split)
theorem execHiveRemote_foot {w : Nat} (h : 17452599083006 &&& w = 17452599083006) (f : Fn) (a1 : Mbx) (s : State) :
    keepsOutcome w (s.mask w) (execHiveRemote f a1 s) := by
  refine keepsOutcome_mono h ?_
  rw [execHiveRemote, keeps_next]
  exact serve_foot (by decide) _ _ _ _ rfl fun r s' hs => cmdHiveRemote_foot (by decide) r s' hs
theorem execRemoteReqReceived_foot {w : Nat} (h : 17452599083006 &&& w = 17452599083006) (src : Nat) (fn : Nat) (request : List Byte) (s : State) :
    keepsOutcome w (s.mask w) (execRemoteReqReceived src fn request s) := by
  refine keepsOutcome_mono h ?_
  unfold execRemoteReqReceived
  repeat' (first | with_reducible rfl | assumption | (intro _) | with_reducible refine ite_keeps ?_ ?_ | with_reducible refine ite_answer ?_ ?_ | with_reducible apply checked_keeps | with_reducible apply withCtx_keeps | with_reducible apply withQueue_keeps | with_reducible apply corrCmd_keeps | (simp only [foldl_mask, remoteReq_foot, vc3Hold_foot, keeps_ok, keeps_started, keeps_fail, keeps_failWith, keeps_wait, keeps_next, Nat.reduceAnd]) | with_reducible apply foldl_keeps | dsimp only | split)
theorem execRemoteRespReceived_foot {w : Nat} (h : 8813311131714 &&& w = 8813311131714) (src : Nat) (response : List Byte) (s : State) :
    keepsOutcome w (s.mask w) (execRemoteRespReceived src response s) := by
  refine keepsOutcome_mono h ?_
  unfold execRemoteRespReceived
  repeat' (first | with_reducible rfl | assumption | (intro _) | with_reducible refine ite_keeps ?_ ?_ | with_reducible refine ite_answer ?_ ?_ | with_reducible apply checked_keeps | with_reducible apply withCtx_keeps | with_reducible apply withQueue_keeps | with_reducible apply corrCmd_keeps | (simp only [foldl_mask, remoteResp_foot, keeps_ok, keeps_started, keeps_fail, keeps_failWith, keeps_wait, keeps_next, Nat.reduceAnd]) | with_reducible apply foldl_keeps | dsimp only | split)
theorem execHiveRemoteTimeout_foot {w : Nat} (h : 38240354 &&& w = 38240354) (f : Fn) (a1 : Mbx) (s : State) :
    keepsOutcome w (s.mask w) (execHiveRemoteTimeout f a1 s) := by
  refine keepsOutcome_mono h ?_
  unfold execHiveRemoteTimeout
  repeat' (first | with_reducible rfl | assumption | (intro _) | with_reducible refine ite_keeps ?_ ?_ | with_reducible refine ite_answer ?_ ?_ | with_reducible apply checked_keeps | with_reducible apply withCtx_keeps | with_reducible apply withQueue_keeps | with_reducible apply corrCmd_keeps | (simp only [foldl_mask, finishWait_foot, advTo_foot, keeps_ok, keeps_started, keeps_fail, keeps_failWith, keeps_wait, keeps_next, Nat.reduceAnd]) | with_reducible apply foldl_keeps | dsimp only | split)
theorem execHmsgForward_foot {w : Nat} (h : 17590038560766 &&& w = 17590038560766) (arrival : LaneId) (msg : HMsg) (s : State) :
    keepsOutcome w (s.mask w) (execHmsgForward arrival msg s) := by
  refine keepsOutcome_mono h ?_
  unfold execHmsgForward
  repeat' (first | with_reducible rfl | assumption | (intro _) | with_reducible refine ite_keeps ?_ ?_ | with_reducible refine ite_answer ?_ ?_ | with_reducible apply checked_keeps | with_reducible apply withCtx_keeps | with_reducible apply withQueue_keeps | with_reducible apply corrCmd_keeps | (simp only [foldl_mask, hmsgArrive_foot, keeps_ok, keeps_started, keeps_fail, keeps_failWith, keeps_wait, keeps_next, Nat.reduceAnd]) | with_reducible apply foldl_keeps | dsimp only | split)
theorem foundHive_foot {w : Nat} (h : 35160162 &&& w = 35160162) (s : State) :
    (foundHive s).mask w = s.mask w := by
  refine mask_mono h ?_
  unfold foundHive
  repeat' (first | with_reducible rfl | assumption | (intro _) | with_reducible refine ite_keeps ?_ ?_ | with_reducible refine ite_answer ?_ ?_ | with_reducible apply checked_keeps | with_reducible apply withCtx_keeps | with_reducible apply withQueue_keeps | with_reducible apply corrCmd_keeps | (simp only [foldl_mask, becomeManager_foot, keeps_ok, keeps_started, keeps_fail, keeps_failWith, keeps_wait, keeps_next, Nat.reduceAnd]) | with_reducible apply foldl_keeps | dsimp only | split)
theorem execHiveFormAlone_foot {w : Nat} (h : 35160162 &&& w = 35160162) (s : State) :
    keepsOutcome w (s.mask w) (execHiveFormAlone s) := by
  refine keepsOutcome_mono h ?_
  unfold execHiveFormAlone
  repeat' (first | with_reducible rfl | assumption | (intro _) | with_reducible refine ite_keeps ?_ ?_ | with_reducible refine ite_answer ?_ ?_ | with_reducible apply checked_keeps | with_reducible apply withCtx_keeps | with_reducible apply withQueue_keeps | with_reducible apply corrCmd_keeps | (simp only [foldl_mask, foundHive_foot, advTo_foot, keeps_ok, keeps_started, keeps_fail, keeps_failWith, keeps_wait, keeps_next, Nat.reduceAnd]) | with_reducible apply foldl_keeps | dsimp only | split)
theorem execElectionListenEnd_foot {w : Nat} (h : 33554464 &&& w = 33554464) (s : State) :
    keepsOutcome w (s.mask w) (execElectionListenEnd s) := by
  refine keepsOutcome_mono h ?_
  unfold execElectionListenEnd
  repeat' (first | with_reducible rfl | assumption | (intro _) | with_reducible refine ite_keeps ?_ ?_ | with_reducible refine ite_answer ?_ ?_ | with_reducible apply checked_keeps | with_reducible apply withCtx_keeps | with_reducible apply withQueue_keeps | with_reducible apply corrCmd_keeps | (simp only [foldl_mask, advTo_foot, modHive_foot, keeps_ok, keeps_started, keeps_fail, keeps_failWith, keeps_wait, keeps_next, Nat.reduceAnd]) | with_reducible apply foldl_keeps | dsimp only | split)
theorem execAnnounceSend_foot {w : Nat} (h : 37748736 &&& w = 37748736) (s : State) :
    keepsOutcome w (s.mask w) (execAnnounceSend s) := by
  refine keepsOutcome_mono h ?_
  unfold execAnnounceSend
  repeat' (first | with_reducible rfl | assumption | (intro _) | with_reducible refine ite_keeps ?_ ?_ | with_reducible refine ite_answer ?_ ?_ | with_reducible apply checked_keeps | with_reducible apply withCtx_keeps | with_reducible apply withQueue_keeps | with_reducible apply corrCmd_keeps | (simp only [foldl_mask, hsendOn_foot, modHive_foot, keeps_ok, keeps_started, keeps_fail, keeps_failWith, keeps_wait, keeps_next, Nat.reduceAnd]) | with_reducible apply foldl_keeps | dsimp only | split)
theorem execAnnounceReceived_foot {w : Nat} (h : 37748736 &&& w = 37748736) (l : LaneId) (serial : Nat) (prio : Nat) (seq : Nat) (hops : Nat) (s : State) :
    keepsOutcome w (s.mask w) (execAnnounceReceived l serial prio seq hops s) := by
  refine keepsOutcome_mono h ?_
  unfold execAnnounceReceived
  repeat' (first | with_reducible rfl | assumption | (intro _) | with_reducible refine ite_keeps ?_ ?_ | with_reducible refine ite_answer ?_ ?_ | with_reducible apply checked_keeps | with_reducible apply withCtx_keeps | with_reducible apply withQueue_keeps | with_reducible apply corrCmd_keeps | (simp only [foldl_mask, announced_foot, keeps_ok, keeps_started, keeps_fail, keeps_failWith, keeps_wait, keeps_next, Nat.reduceAnd]) | with_reducible apply foldl_keeps | dsimp only | split)
theorem execElectionWin_foot {w : Nat} (h : 39366754 &&& w = 39366754) (s : State) :
    keepsOutcome w (s.mask w) (execElectionWin s) := by
  refine keepsOutcome_mono h ?_
  unfold execElectionWin
  repeat' (first | with_reducible rfl | assumption | (intro _) | with_reducible refine ite_keeps ?_ ?_ | with_reducible refine ite_answer ?_ ?_ | with_reducible apply checked_keeps | with_reducible apply withCtx_keeps | with_reducible apply withQueue_keeps | with_reducible apply corrCmd_keeps | (simp only [foldl_mask, electionDone_foot, foundHive_foot, advTo_foot, keeps_ok, keeps_started, keeps_fail, keeps_failWith, keeps_wait, keeps_next, Nat.reduceAnd]) | with_reducible apply foldl_keeps | dsimp only | split)
theorem requestJoin_foot {w : Nat} (h : 37748736 &&& w = 37748736) (a0 : Nat) (s : State) :
    (requestJoin a0 s).mask w = s.mask w := by
  refine mask_mono h ?_
  unfold requestJoin
  repeat' (first | with_reducible rfl | assumption | (intro _) | with_reducible refine ite_keeps ?_ ?_ | with_reducible refine ite_answer ?_ ?_ | with_reducible apply checked_keeps | with_reducible apply withCtx_keeps | with_reducible apply withQueue_keeps | with_reducible apply corrCmd_keeps | (simp only [foldl_mask, hsendLink_foot, modHive_foot, keeps_ok, keeps_started, keeps_fail, keeps_failWith, keeps_wait, keeps_next, Nat.reduceAnd]) | with_reducible apply foldl_keeps | dsimp only | split)
theorem execJoinRequestSend_foot {w : Nat} (h : 37748736 &&& w = 37748736) (l : LaneId) (s : State) :
    keepsOutcome w (s.mask w) (execJoinRequestSend l s) := by
  refine keepsOutcome_mono h ?_
  unfold execJoinRequestSend
  repeat' (first | with_reducible rfl | assumption | (intro _) | with_reducible refine ite_keeps ?_ ?_ | with_reducible refine ite_answer ?_ ?_ | with_reducible apply checked_keeps | with_reducible apply withCtx_keeps | with_reducible apply withQueue_keeps | with_reducible apply corrCmd_keeps | (simp only [foldl_mask, requestJoin_foot, keeps_ok, keeps_started, keeps_fail, keeps_failWith, keeps_wait, keeps_next, Nat.reduceAnd]) | with_reducible apply foldl_keeps | dsimp only | split)
theorem execJoinRequestReceived_foot {w : Nat} (h : 38830146 &&& w = 38830146) (l : LaneId) (serial : Nat) (role : Nat) (ups : List (Nat × Nat)) (nonce : List Byte) (s : State) :
    keepsOutcome w (s.mask w) (execJoinRequestReceived l serial role ups nonce s) := by
  refine keepsOutcome_mono h ?_
  unfold execJoinRequestReceived
  repeat' (first | with_reducible rfl | assumption | (intro _) | with_reducible refine ite_keeps ?_ ?_ | with_reducible refine ite_answer ?_ ?_ | with_reducible apply checked_keeps | with_reducible apply withCtx_keeps | with_reducible apply withQueue_keeps | with_reducible apply corrCmd_keeps | (simp only [foldl_mask, joinRequest_foot, keeps_ok, keeps_started, keeps_fail, keeps_failWith, keeps_wait, keeps_next, Nat.reduceAnd]) | with_reducible apply foldl_keeps | dsimp only | split)
theorem execJoinChallengeReceived_foot {w : Nat} (h : 37748736 &&& w = 37748736) (l : LaneId) (nonce : List Byte) (managerSerial : Nat) (s : State) :
    keepsOutcome w (s.mask w) (execJoinChallengeReceived l nonce managerSerial s) := by
  refine keepsOutcome_mono h ?_
  unfold execJoinChallengeReceived
  repeat' (first | with_reducible rfl | assumption | (intro _) | with_reducible refine ite_keeps ?_ ?_ | with_reducible refine ite_answer ?_ ?_ | with_reducible apply checked_keeps | with_reducible apply withCtx_keeps | with_reducible apply withQueue_keeps | with_reducible apply corrCmd_keeps | (simp only [foldl_mask, joinChallenge_foot, keeps_ok, keeps_started, keeps_fail, keeps_failWith, keeps_wait, keeps_next, Nat.reduceAnd]) | with_reducible apply foldl_keeps | dsimp only | split)
theorem execJoinResponseReceived_foot {w : Nat} (h : 38830150 &&& w = 38830150) (l : LaneId) (serial : Nat) (signature : List Byte) (cert : List Byte) (s : State) :
    keepsOutcome w (s.mask w) (execJoinResponseReceived l serial signature cert s) := by
  refine keepsOutcome_mono h ?_
  unfold execJoinResponseReceived
  repeat' (first | with_reducible rfl | assumption | (intro _) | with_reducible refine ite_keeps ?_ ?_ | with_reducible refine ite_answer ?_ ?_ | with_reducible apply checked_keeps | with_reducible apply withCtx_keeps | with_reducible apply withQueue_keeps | with_reducible apply corrCmd_keeps | (simp only [foldl_mask, joinResponse_foot, keeps_ok, keeps_started, keeps_fail, keeps_failWith, keeps_wait, keeps_next, Nat.reduceAnd]) | with_reducible apply foldl_keeps | dsimp only | split)
theorem execJoinAcceptReceived_foot {w : Nat} (h : 39366758 &&& w = 39366758) (l : LaneId) (id : Nat) (depth : Nat) (parent : Nat) (uplink2 : Nat) (standby : Bool) (s : State) :
    keepsOutcome w (s.mask w) (execJoinAcceptReceived l id depth parent uplink2 standby s) := by
  refine keepsOutcome_mono h ?_
  unfold execJoinAcceptReceived
  repeat' (first | with_reducible rfl | assumption | (intro _) | with_reducible refine ite_keeps ?_ ?_ | with_reducible refine ite_answer ?_ ?_ | with_reducible apply checked_keeps | with_reducible apply withCtx_keeps | with_reducible apply withQueue_keeps | with_reducible apply corrCmd_keeps | (simp only [foldl_mask, joinAccept_foot, keeps_ok, keeps_started, keeps_fail, keeps_failWith, keeps_wait, keeps_next, Nat.reduceAnd]) | with_reducible apply foldl_keeps | dsimp only | split)
theorem execJoinRefuseReceived_foot {w : Nat} (h : 34635842 &&& w = 34635842) (l : LaneId) (reason : Nat) (s : State) :
    keepsOutcome w (s.mask w) (execJoinRefuseReceived l reason s) := by
  refine keepsOutcome_mono h ?_
  unfold execJoinRefuseReceived
  repeat' (first | with_reducible rfl | assumption | (intro _) | with_reducible refine ite_keeps ?_ ?_ | with_reducible refine ite_answer ?_ ?_ | with_reducible apply checked_keeps | with_reducible apply withCtx_keeps | with_reducible apply withQueue_keeps | with_reducible apply corrCmd_keeps | (simp only [foldl_mask, joinRefuse_foot, keeps_ok, keeps_started, keeps_fail, keeps_failWith, keeps_wait, keeps_next, Nat.reduceAnd]) | with_reducible apply foldl_keeps | dsimp only | split)
theorem execJoinRetry_foot {w : Nat} (h : 37748768 &&& w = 37748768) (s : State) :
    keepsOutcome w (s.mask w) (execJoinRetry s) := by
  refine keepsOutcome_mono h ?_
  unfold execJoinRetry
  repeat' (first | with_reducible rfl | assumption | (intro _) | with_reducible refine ite_keeps ?_ ?_ | with_reducible refine ite_answer ?_ ?_ | with_reducible apply checked_keeps | with_reducible apply withCtx_keeps | with_reducible apply withQueue_keeps | with_reducible apply corrCmd_keeps | (simp only [foldl_mask, modHive_foot, advTo_foot, requestJoin_foot, keeps_ok, keeps_started, keeps_fail, keeps_failWith, keeps_wait, keeps_next, Nat.reduceAnd]) | with_reducible apply foldl_keeps | dsimp only | split)
theorem execAliveSend_foot {w : Nat} (h : 37748768 &&& w = 37748768) (t : Nat) (s : State) :
    keepsOutcome w (s.mask w) (execAliveSend t s) := by
  refine keepsOutcome_mono h ?_
  unfold execAliveSend
  repeat' (first | with_reducible rfl | assumption | (intro _) | with_reducible refine ite_keeps ?_ ?_ | with_reducible refine ite_answer ?_ ?_ | with_reducible apply checked_keeps | with_reducible apply withCtx_keeps | with_reducible apply withQueue_keeps | with_reducible apply corrCmd_keeps | (simp only [foldl_mask, advTo_foot, sendAlive_foot, keeps_ok, keeps_started, keeps_fail, keeps_failWith, keeps_wait, keeps_next, Nat.reduceAnd]) | with_reducible apply foldl_keeps | dsimp only | split)
theorem execAliveReceived_foot {w : Nat} (h : 39354470 &&& w = 39354470) (l : LaneId) (serial : Nat) (t : Nat) (s : State) :
    keepsOutcome w (s.mask w) (execAliveReceived l serial t s) := by
  refine keepsOutcome_mono h ?_
  unfold execAliveReceived
  repeat' (first | with_reducible rfl | assumption | (intro _) | with_reducible refine ite_keeps ?_ ?_ | with_reducible refine ite_answer ?_ ?_ | with_reducible apply checked_keeps | with_reducible apply withCtx_keeps | with_reducible apply withQueue_keeps | with_reducible apply corrCmd_keeps | (simp only [foldl_mask, alive_foot, advTo_foot, keeps_ok, keeps_started, keeps_fail, keeps_failWith, keeps_wait, keeps_next, Nat.reduceAnd]) | with_reducible apply foldl_keeps | dsimp only | split)
theorem execUplinkLoss_foot {w : Nat} (h : 39354466 &&& w = 39354466) (t : Nat) (s : State) :
    keepsOutcome w (s.mask w) (execUplinkLoss t s) := by
  refine keepsOutcome_mono h ?_
  unfold execUplinkLoss
  repeat' (first | with_reducible rfl | assumption | (intro _) | with_reducible refine ite_keeps ?_ ?_ | with_reducible refine ite_answer ?_ ?_ | with_reducible apply checked_keeps | with_reducible apply withCtx_keeps | with_reducible apply withQueue_keeps | with_reducible apply corrCmd_keeps | (simp only [foldl_mask, advTo_foot, loseMembers_foot, modHive_foot, dropUplink_foot, keeps_ok, keeps_started, keeps_fail, keeps_failWith, keeps_wait, keeps_next, Nat.reduceAnd]) | with_reducible apply foldl_keeps | dsimp only | split)
theorem execRerouteReceived_foot {w : Nat} (h : 38830146 &&& w = 38830146) (l : LaneId) (device : Nat) (restore : Bool) (s : State) :
    keepsOutcome w (s.mask w) (execRerouteReceived l device restore s) := by
  refine keepsOutcome_mono h ?_
  unfold execRerouteReceived
  repeat' (first | with_reducible rfl | assumption | (intro _) | with_reducible refine ite_keeps ?_ ?_ | with_reducible refine ite_answer ?_ ?_ | with_reducible apply checked_keeps | with_reducible apply withCtx_keeps | with_reducible apply withQueue_keeps | with_reducible apply corrCmd_keeps | (simp only [foldl_mask, reroute_foot, keeps_ok, keeps_started, keeps_fail, keeps_failWith, keeps_wait, keeps_next, Nat.reduceAnd]) | with_reducible apply foldl_keeps | dsimp only | split)
theorem execUplinkRestore_foot {w : Nat} (h : 38842466 &&& w = 38842466) (t : Nat) (s : State) :
    keepsOutcome w (s.mask w) (execUplinkRestore t s) := by
  refine keepsOutcome_mono h ?_
  unfold execUplinkRestore
  repeat' (first | with_reducible rfl | assumption | (intro _) | with_reducible refine ite_keeps ?_ ?_ | with_reducible refine ite_answer ?_ ?_ | with_reducible apply checked_keeps | with_reducible apply withCtx_keeps | with_reducible apply withQueue_keeps | with_reducible apply corrCmd_keeps | (simp only [foldl_mask, advTo_foot, sendReroute_foot, modHive_foot, resolveFault_foot, raise_foot, keeps_ok, keeps_started, keeps_fail, keeps_failWith, keeps_wait, keeps_next, Nat.reduceAnd]) | with_reducible apply foldl_keeps | dsimp only | split)
theorem execStandbyTakeover_foot {w : Nat} (h : 39383142 &&& w = 39383142) (t : Nat) (s : State) :
    keepsOutcome w (s.mask w) (execStandbyTakeover t s) := by
  refine keepsOutcome_mono h ?_
  unfold execStandbyTakeover
  repeat' (first | with_reducible rfl | assumption | (intro _) | with_reducible refine ite_keeps ?_ ?_ | with_reducible refine ite_answer ?_ ?_ | with_reducible apply checked_keeps | with_reducible apply withCtx_keeps | with_reducible apply withQueue_keeps | with_reducible apply corrCmd_keeps | (simp only [foldl_mask, advTo_foot, modHive_foot, becomeManager_foot, sendAlive_foot, setWorst_foot, raise_foot, chooseStandby_foot, detectFault_foot, keeps_ok, keeps_started, keeps_fail, keeps_failWith, keeps_wait, keeps_next, Nat.reduceAnd]) | with_reducible apply foldl_keeps | dsimp only | split)
theorem execStandbyReady_foot {w : Nat} (h : 38842434 &&& w = 38842434) (s : State) :
    keepsOutcome w (s.mask w) (execStandbyReady s) := by
  refine keepsOutcome_mono h ?_
  unfold execStandbyReady
  repeat' (first | with_reducible rfl | assumption | (intro _) | with_reducible refine ite_keeps ?_ ?_ | with_reducible refine ite_answer ?_ ?_ | with_reducible apply checked_keeps | with_reducible apply withCtx_keeps | with_reducible apply withQueue_keeps | with_reducible apply corrCmd_keeps | (simp only [foldl_mask, electionDone_foot, modHive_foot, hiveChanged_foot, keeps_ok, keeps_started, keeps_fail, keeps_failWith, keeps_wait, keeps_next, Nat.reduceAnd]) | with_reducible apply foldl_keeps | dsimp only | split)
theorem execMirrorReceived_foot {w : Nat} (h : 33554464 &&& w = 33554464) (pieces : List (Nat × Nat)) (extOffset : Nat) (extFrac : Nat) (extSince : Nat) (last : Bool) (s : State) :
    keepsOutcome w (s.mask w) (execMirrorReceived pieces extOffset extFrac extSince last s) := by
  refine keepsOutcome_mono h ?_
  unfold execMirrorReceived
  repeat' (first | with_reducible rfl | assumption | (intro _) | with_reducible refine ite_keeps ?_ ?_ | with_reducible refine ite_answer ?_ ?_ | with_reducible apply checked_keeps | with_reducible apply withCtx_keeps | with_reducible apply withQueue_keeps | with_reducible apply corrCmd_keeps | (simp only [foldl_mask, mirror_foot, keeps_ok, keeps_started, keeps_fail, keeps_failWith, keeps_wait, keeps_next, Nat.reduceAnd]) | with_reducible apply foldl_keeps | dsimp only | split)
theorem execExtOffsetMsgReceived_foot {w : Nat} (h : 1081442 &&& w = 1081442) (offset : BitVec 64) (frac : BitVec 16) (since : Nat) (t : Nat) (s : State) :
    keepsOutcome w (s.mask w) (execExtOffsetMsgReceived offset frac since t s) := by
  refine keepsOutcome_mono h ?_
  unfold execExtOffsetMsgReceived
  repeat' (first | with_reducible rfl | assumption | (intro _) | with_reducible refine ite_keeps ?_ ?_ | with_reducible refine ite_answer ?_ ?_ | with_reducible apply checked_keeps | with_reducible apply withCtx_keeps | with_reducible apply withQueue_keeps | with_reducible apply corrCmd_keeps | (simp only [foldl_mask, extOffsetMsg_foot, advTo_foot, keeps_ok, keeps_started, keeps_fail, keeps_failWith, keeps_wait, keeps_next, Nat.reduceAnd]) | with_reducible apply foldl_keeps | dsimp only | split)
theorem execCellServerReceived_foot {w : Nat} (h : 37748800 &&& w = 37748800) (arrival : LaneId) (device : Nat) (ctx : Nat) (s : State) :
    keepsOutcome w (s.mask w) (execCellServerReceived arrival device ctx s) := by
  refine keepsOutcome_mono h ?_
  unfold execCellServerReceived
  repeat' (first | with_reducible rfl | assumption | (intro _) | with_reducible refine ite_keeps ?_ ?_ | with_reducible refine ite_answer ?_ ?_ | with_reducible apply checked_keeps | with_reducible apply withCtx_keeps | with_reducible apply withQueue_keeps | with_reducible apply corrCmd_keeps | (simp only [foldl_mask, cellServer_foot, hroute_foot, keeps_ok, keeps_started, keeps_fail, keeps_failWith, keeps_wait, keeps_next, Nat.reduceAnd]) | with_reducible apply foldl_keeps | dsimp only | split)
theorem execCellForward_foot {w : Nat} (h : 8594128960 &&& w = 8594128960) (arrival : LaneId) (src : Nat) (packet : List Byte) (s : State) :
    keepsOutcome w (s.mask w) (execCellForward arrival src packet s) := by
  refine keepsOutcome_mono h ?_
  unfold execCellForward
  repeat' (first | with_reducible rfl | assumption | (intro _) | with_reducible refine ite_keeps ?_ ?_ | with_reducible refine ite_answer ?_ ?_ | with_reducible apply checked_keeps | with_reducible apply withCtx_keeps | with_reducible apply withQueue_keeps | with_reducible apply corrCmd_keeps | (simp only [foldl_mask, forwardCell_foot, keeps_ok, keeps_started, keeps_fail, keeps_failWith, keeps_wait, keeps_next, Nat.reduceAnd]) | with_reducible apply foldl_keeps | dsimp only | split)
theorem execUpdateReceived_foot {w : Nat} (h : 37749330 &&& w = 37749330) (sub : Nat) (body : List Byte) (s : State) :
    keepsOutcome w (s.mask w) (execUpdateReceived sub body s) := by
  refine keepsOutcome_mono h ?_
  unfold execUpdateReceived
  repeat' (first | with_reducible rfl | assumption | (intro _) | with_reducible refine ite_keeps ?_ ?_ | with_reducible refine ite_answer ?_ ?_ | with_reducible apply checked_keeps | with_reducible apply withCtx_keeps | with_reducible apply withQueue_keeps | with_reducible apply corrCmd_keeps | (simp only [foldl_mask, updateRx_foot, keeps_ok, keeps_started, keeps_fail, keeps_failWith, keeps_wait, keeps_next, Nat.reduceAnd]) | with_reducible apply foldl_keeps | dsimp only | split)
theorem execUpdateResultReceived_foot {w : Nat} (h : 37748800 &&& w = 37748800) (src : Nat) (status : Nat) (missing : List (Nat × Nat)) (s : State) :
    keepsOutcome w (s.mask w) (execUpdateResultReceived src status missing s) := by
  refine keepsOutcome_mono h ?_
  unfold execUpdateResultReceived
  repeat' (first | with_reducible rfl | assumption | (intro _) | with_reducible refine ite_keeps ?_ ?_ | with_reducible refine ite_answer ?_ ?_ | with_reducible apply checked_keeps | with_reducible apply withCtx_keeps | with_reducible apply withQueue_keeps | with_reducible apply corrCmd_keeps | (simp only [foldl_mask, updateResult_foot, keeps_ok, keeps_started, keeps_fail, keeps_failWith, keeps_wait, keeps_next, Nat.reduceAnd]) | with_reducible apply foldl_keeps | dsimp only | split)
theorem execFaultSummaryReceived_foot {w : Nat} (h : 34635842 &&& w = 34635842) (src : Nat) (sub : Nat) (body : List Byte) (s : State) :
    keepsOutcome w (s.mask w) (execFaultSummaryReceived src sub body s) := by
  refine keepsOutcome_mono h ?_
  unfold execFaultSummaryReceived
  repeat' (first | with_reducible rfl | assumption | (intro _) | with_reducible refine ite_keeps ?_ ?_ | with_reducible refine ite_answer ?_ ?_ | with_reducible apply checked_keeps | with_reducible apply withCtx_keeps | with_reducible apply withQueue_keeps | with_reducible apply corrCmd_keeps | (simp only [foldl_mask, faultSummary_foot, keeps_ok, keeps_started, keeps_fail, keeps_failWith, keeps_wait, keeps_next, Nat.reduceAnd]) | with_reducible apply foldl_keeps | dsimp only | split)
theorem execHoneySummaryReceived_foot {w : Nat} (h : 64 &&& w = 64) (src : Nat) (body : List Byte) (s : State) :
    keepsOutcome w (s.mask w) (execHoneySummaryReceived src body s) := by
  refine keepsOutcome_mono h ?_
  unfold execHoneySummaryReceived
  repeat' (first | with_reducible rfl | assumption | (intro _) | with_reducible refine ite_keeps ?_ ?_ | with_reducible refine ite_answer ?_ ?_ | with_reducible apply checked_keeps | with_reducible apply withCtx_keeps | with_reducible apply withQueue_keeps | with_reducible apply corrCmd_keeps | (simp only [foldl_mask, honeySummary_foot, keeps_ok, keeps_started, keeps_fail, keeps_failWith, keeps_wait, keeps_next, Nat.reduceAnd]) | with_reducible apply foldl_keeps | dsimp only | split)
theorem execHiveResetReceived_foot {w : Nat} (h : 16 &&& w = 16) (kind : Nat) (s : State) :
    keepsOutcome w (s.mask w) (execHiveResetReceived kind s) := by
  refine keepsOutcome_mono h ?_
  unfold execHiveResetReceived
  repeat' (first | with_reducible rfl | assumption | (intro _) | with_reducible refine ite_keeps ?_ ?_ | with_reducible refine ite_answer ?_ ?_ | with_reducible apply checked_keeps | with_reducible apply withCtx_keeps | with_reducible apply withQueue_keeps | with_reducible apply corrCmd_keeps | (simp only [foldl_mask, hiveReset_foot, keeps_ok, keeps_started, keeps_fail, keeps_failWith, keeps_wait, keeps_next, Nat.reduceAnd]) | with_reducible apply foldl_keeps | dsimp only | split)
theorem execFwGetStatus_foot {w : Nat} (h : 37978178 &&& w = 37978178) (f : Fn) (a1 : Mbx) (s : State) :
    keepsOutcome w (s.mask w) (execFwGetStatus f a1 s) := by
  refine keepsOutcome_mono h ?_
  rw [execFwGetStatus, keeps_next]
  exact serve_foot (by decide) _ _ _ _ rfl fun r s' hs => cmdFwGetStatus_foot (by decide) r s' hs

end Sys2Proof.Machine
end

