-- ==== Sys2Proof/Laws/Foot16.lean ====
section
/-! SUPPORT. What each operation leaves as it was, part 16 of 18: of state `s` it changes no field outside the set of its
footprint (a bit for each field, in the order of Field). -/
set_option linter.all false
set_option maxRecDepth 4000
open Sys2Proof Sys2Proof.Machine
namespace Sys2Proof.Machine

theorem execFwWrite_foot {w : Nat} (h : 37978706 &&& w = 37978706) (f : Fn) (a1 : Mbx) (s : State) :
    keepsOutcome w (s.mask w) (execFwWrite f a1 s) := by
  refine keepsOutcome_mono h ?_
  rw [execFwWrite, keeps_next]
  exact serve_foot (by decide) _ _ _ _ rfl fun r s' hs => cmdFwWrite_foot (by decide) r s' hs
theorem execFwPieceProgrammed_foot {w : Nat} (h : 530 &&& w = 530) (s : State) :
    keepsOutcome w (s.mask w) (execFwPieceProgrammed s) := by
  refine keepsOutcome_mono h ?_
  unfold execFwPieceProgrammed
  repeat' (first | with_reducible rfl | assumption | (intro _) | with_reducible refine ite_keeps ?_ ?_ | with_reducible refine ite_answer ?_ ?_ | with_reducible apply checked_keeps | with_reducible apply withCtx_keeps | with_reducible apply withQueue_keeps | with_reducible apply corrCmd_keeps | (simp only [foldl_mask, modSlot_foot, modSys_foot, emit_foot, keeps_ok, keeps_started, keeps_fail, keeps_failWith, keeps_wait, keeps_next, Nat.reduceAnd]) | with_reducible apply foldl_keeps | dsimp only | split)
theorem judgeSlot_foot {w : Nat} (h : 512 &&& w = 512) (slot : Nat) (flashOk : Bool) (s : State) :
    (judgeSlot slot flashOk s).2.mask w = s.mask w := by
  refine mask_mono h ?_
  unfold judgeSlot
  repeat' (first | with_reducible rfl | assumption | (intro _) | with_reducible refine ite_keeps ?_ ?_ | with_reducible refine ite_answer ?_ ?_ | with_reducible apply checked_keeps | with_reducible apply withCtx_keeps | with_reducible apply withQueue_keeps | with_reducible apply corrCmd_keeps | (simp only [foldl_mask, modSlot_foot, keeps_ok, keeps_started, keeps_fail, keeps_failWith, keeps_wait, keeps_next, Nat.reduceAnd]) | with_reducible apply foldl_keeps | dsimp only | split)
theorem execFwVerified_foot {w : Nat} (h : 38834770 &&& w = 38834770) (flashOk : Bool) (s : State) :
    keepsOutcome w (s.mask w) (execFwVerified flashOk s) := by
  refine keepsOutcome_mono h ?_
  unfold execFwVerified
  repeat' (first | with_reducible rfl | assumption | (intro _) | with_reducible refine ite_keeps ?_ ?_ | with_reducible refine ite_answer ?_ ?_ | with_reducible apply checked_keeps | with_reducible apply withCtx_keeps | with_reducible apply withQueue_keeps | with_reducible apply corrCmd_keeps | (simp only [foldl_mask, judgeSlot_foot, flashOk_foot, modTrust_foot, sendResult_foot, release_foot, modHive_foot, activate_foot, raise_foot, keeps_ok, keeps_started, keeps_fail, keeps_failWith, keeps_wait, keeps_next, Nat.reduceAnd]) | with_reducible apply foldl_keeps | dsimp only | split)
theorem execFwActivate_foot {w : Nat} (h : 37978706 &&& w = 37978706) (f : Fn) (a1 : Mbx) (s : State) :
    keepsOutcome w (s.mask w) (execFwActivate f a1 s) := by
  refine keepsOutcome_mono h ?_
  rw [execFwActivate, keeps_next]
  exact serve_foot (by decide) _ _ _ _ rfl fun r s' hs => cmdFwActivate_foot (by decide) r s' hs
theorem execFwCommitSvn_foot {w : Nat} (h : 39027266 &&& w = 39027266) (f : Fn) (a1 : Mbx) (burnt : Nat) (s : State) :
    keepsOutcome w (s.mask w) (execFwCommitSvn f a1 burnt s) := by
  refine keepsOutcome_mono h ?_
  rw [execFwCommitSvn, keeps_next]
  exact serve_foot (by decide) _ _ _ _ rfl fun r s' hs => cmdFwCommitSvn_foot (by decide) _ r s' hs
theorem execFwDistribute_foot {w : Nat} (h : 37978194 &&& w = 37978194) (f : Fn) (a1 : Mbx) (s : State) :
    keepsOutcome w (s.mask w) (execFwDistribute f a1 s) := by
  refine keepsOutcome_mono h ?_
  rw [execFwDistribute, keeps_next]
  exact serve_foot (by decide) _ _ _ _ rfl fun r s' hs => cmdFwDistribute_foot (by decide) r s' hs
theorem execFwDistributed_foot {w : Nat} (h : 34635858 &&& w = 34635858) (s : State) :
    keepsOutcome w (s.mask w) (execFwDistributed s) := by
  refine keepsOutcome_mono h ?_
  unfold execFwDistributed
  repeat' (first | with_reducible rfl | assumption | (intro _) | with_reducible refine ite_keeps ?_ ?_ | with_reducible refine ite_answer ?_ ?_ | with_reducible apply checked_keeps | with_reducible apply withCtx_keeps | with_reducible apply withQueue_keeps | with_reducible apply corrCmd_keeps | (simp only [foldl_mask, release_foot, raise_foot, modHive_foot, keeps_ok, keeps_started, keeps_fail, keeps_failWith, keeps_wait, keeps_next, Nat.reduceAnd]) | with_reducible apply foldl_keeps | dsimp only | split)
theorem execTrustSetOwnerPolicy_foot {w : Nat} (h : 39027286 &&& w = 39027286) (f : Fn) (a1 : Mbx) (burnOk : Bool) (s : State) :
    keepsOutcome w (s.mask w) (execTrustSetOwnerPolicy f a1 burnOk s) := by
  refine keepsOutcome_mono h ?_
  rw [execTrustSetOwnerPolicy, keeps_next]
  exact serve_foot (by decide) _ _ _ _ rfl fun r s' hs => cmdTrustSetOwnerPolicy_foot (by decide) _ r s' hs
theorem execTrustGetCert_foot {w : Nat} (h : 37978178 &&& w = 37978178) (f : Fn) (a1 : Mbx) (s : State) :
    keepsOutcome w (s.mask w) (execTrustGetCert f a1 s) := by
  refine keepsOutcome_mono h ?_
  rw [execTrustGetCert, keeps_next]
  exact serve_foot (by decide) _ _ _ _ rfl fun r s' hs => cmdTrustGetCert_foot (by decide) r s' hs
theorem execTrustSpdm_foot {w : Nat} (h : 38240838 &&& w = 38240838) (f : Fn) (a1 : Mbx) (s : State) :
    keepsOutcome w (s.mask w) (execTrustSpdm f a1 s) := by
  refine keepsOutcome_mono h ?_
  rw [execTrustSpdm, keeps_next]
  exact serve_foot (by decide) _ _ _ _ rfl fun r s' hs => cmdTrustSpdm_foot (by decide) r s' hs
theorem execTrustChallenge_foot {w : Nat} (h : 37978694 &&& w = 37978694) (f : Fn) (a1 : Mbx) (s : State) :
    keepsOutcome w (s.mask w) (execTrustChallenge f a1 s) := by
  refine keepsOutcome_mono h ?_
  rw [execTrustChallenge, keeps_next]
  exact serve_foot (by decide) _ _ _ _ rfl fun r s' hs => cmdTrustChallenge_foot (by decide) r s' hs
theorem execNonceExpiry_foot {w : Nat} (h : 544 &&& w = 544) (s : State) :
    keepsOutcome w (s.mask w) (execNonceExpiry s) := by
  refine keepsOutcome_mono h ?_
  unfold execNonceExpiry
  repeat' (first | with_reducible rfl | assumption | (intro _) | with_reducible refine ite_keeps ?_ ?_ | with_reducible refine ite_answer ?_ ?_ | with_reducible apply checked_keeps | with_reducible apply withCtx_keeps | with_reducible apply withQueue_keeps | with_reducible apply corrCmd_keeps | (simp only [foldl_mask, modTrust_foot, advTo_foot, keeps_ok, keeps_started, keeps_fail, keeps_failWith, keeps_wait, keeps_next, Nat.reduceAnd]) | with_reducible apply foldl_keeps | dsimp only | split)
theorem execDebugUnlock_foot {w : Nat} (h : 39027266 &&& w = 39027266) (f : Fn) (a1 : Mbx) (s : State) :
    keepsOutcome w (s.mask w) (execDebugUnlock f a1 s) := by
  refine keepsOutcome_mono h ?_
  rw [execDebugUnlock, keeps_next]
  exact serve_foot (by decide) _ _ _ _ rfl fun r s' hs => cmdDebugUnlock_foot (by decide) r s' hs
theorem execHealthGetSensors_foot {w : Nat} (h : 37978178 &&& w = 37978178) (f : Fn) (a1 : Mbx) (s : State) :
    keepsOutcome w (s.mask w) (execHealthGetSensors f a1 s) := by
  refine keepsOutcome_mono h ?_
  rw [execHealthGetSensors, keeps_next]
  exact serve_foot (by decide) _ _ _ _ rfl fun r s' hs => cmdHealthGetSensors_foot (by decide) r s' hs
theorem execLogRead_foot {w : Nat} (h : 37978178 &&& w = 37978178) (f : Fn) (a1 : Mbx) (s : State) :
    keepsOutcome w (s.mask w) (execLogRead f a1 s) := by
  refine keepsOutcome_mono h ?_
  rw [execLogRead, keeps_next]
  exact serve_foot (by decide) _ _ _ _ rfl fun r s' hs => cmdLogRead_foot (by decide) _ r s' hs
theorem execHoneyRead_foot {w : Nat} (h : 37978178 &&& w = 37978178) (f : Fn) (a1 : Mbx) (s : State) :
    keepsOutcome w (s.mask w) (execHoneyRead f a1 s) := by
  refine keepsOutcome_mono h ?_
  rw [execHoneyRead, keeps_next]
  exact serve_foot (by decide) _ _ _ _ rfl fun r s' hs => cmdHoneyRead_foot (by decide) r s' hs
theorem execHoneyReset_foot {w : Nat} (h : 37982914 &&& w = 37982914) (f : Fn) (a1 : Mbx) (s : State) :
    keepsOutcome w (s.mask w) (execHoneyReset f a1 s) := by
  refine keepsOutcome_mono h ?_
  rw [execHoneyReset, keeps_next]
  exact serve_foot (by decide) _ _ _ _ rfl fun r s' hs => cmdHoneyReset_foot (by decide) r s' hs
theorem execCalRead_foot {w : Nat} (h : 37978178 &&& w = 37978178) (f : Fn) (a1 : Mbx) (s : State) :
    keepsOutcome w (s.mask w) (execCalRead f a1 s) := by
  refine keepsOutcome_mono h ?_
  rw [execCalRead, keeps_next]
  exact serve_foot (by decide) _ _ _ _ rfl fun r s' hs => cmdCalRead_foot (by decide) r s' hs
theorem execCalWrite_foot {w : Nat} (h : 4332946002 &&& w = 4332946002) (f : Fn) (a1 : Mbx) (s : State) :
    keepsOutcome w (s.mask w) (execCalWrite f a1 s) := by
  refine keepsOutcome_mono h ?_
  rw [execCalWrite, keeps_next]
  exact serve_foot (by decide) _ _ _ _ rfl fun r s' hs => cmdCalWrite_foot (by decide) r s' hs
theorem execFlashWritten_foot {w : Nat} (h : 1086034 &&& w = 1086034) (item : Fin 4) (ok : Bool) (s : State) :
    keepsOutcome w (s.mask w) (execFlashWritten item ok s) := by
  refine keepsOutcome_mono h ?_
  unfold execFlashWritten
  repeat' (first | with_reducible rfl | assumption | (intro _) | with_reducible refine ite_keeps ?_ ?_ | with_reducible refine ite_answer ?_ ?_ | with_reducible apply checked_keeps | with_reducible apply withCtx_keeps | with_reducible apply withQueue_keeps | with_reducible apply corrCmd_keeps | (simp only [foldl_mask, emit_foot, countErase_foot, modTrust_foot, flashOk_foot, release_foot, raise_foot, keeps_ok, keeps_started, keeps_fail, keeps_failWith, keeps_wait, keeps_next, Nat.reduceAnd]) | with_reducible apply foldl_keeps | dsimp only | split)
theorem execPwrSetBootOptions_foot {w : Nat} (h : 37978706 &&& w = 37978706) (f : Fn) (a1 : Mbx) (s : State) :
    keepsOutcome w (s.mask w) (execPwrSetBootOptions f a1 s) := by
  refine keepsOutcome_mono h ?_
  rw [execPwrSetBootOptions, keeps_next]
  exact serve_foot (by decide) _ _ _ _ rfl fun r s' hs => cmdPwrSetBootOptions_foot (by decide) r s' hs
theorem execPwrSetState_foot {w : Nat} (h : 200512978 &&& w = 200512978) (f : Fn) (a1 : Mbx) (s : State) :
    keepsOutcome w (s.mask w) (execPwrSetState f a1 s) := by
  refine keepsOutcome_mono h ?_
  rw [execPwrSetState, keeps_next]
  exact serve_foot (by decide) _ _ _ _ rfl fun r s' hs => cmdPwrSetState_foot (by decide) r s' hs
theorem execPwrEntryDone_foot {w : Nat} (h : 1081698 &&& w = 1081698) (t : Nat) (s : State) :
    keepsOutcome w (s.mask w) (execPwrEntryDone t s) := by
  refine keepsOutcome_mono h ?_
  unfold execPwrEntryDone
  repeat' (first | with_reducible rfl | assumption | (intro _) | with_reducible refine ite_keeps ?_ ?_ | with_reducible refine ite_answer ?_ ?_ | with_reducible apply checked_keeps | with_reducible apply withCtx_keeps | with_reducible apply withQueue_keeps | with_reducible apply corrCmd_keeps | (simp only [mask_set_256, foldl_mask, advTo_foot, raisePower_foot, keeps_ok, keeps_started, keeps_fail, keeps_failWith, keeps_wait, keeps_next, Nat.reduceAnd]) | with_reducible apply foldl_keeps | dsimp only | split)
theorem execPwrWake_foot {w : Nat} (h : 7374194 &&& w = 7374194) (cause : Fin 6) (t : Nat) (s : State) :
    keepsOutcome w (s.mask w) (execPwrWake cause t s) := by
  refine keepsOutcome_mono h ?_
  unfold execPwrWake
  repeat' (first | with_reducible rfl | assumption | (intro _) | with_reducible refine ite_keeps ?_ ?_ | with_reducible refine ite_answer ?_ ?_ | with_reducible apply checked_keeps | with_reducible apply withCtx_keeps | with_reducible apply withQueue_keeps | with_reducible apply corrCmd_keeps | (simp only [foldl_mask, advTo_foot, wakeDevice_foot, keeps_ok, keeps_started, keeps_fail, keeps_failWith, keeps_wait, keeps_next, Nat.reduceAnd]) | with_reducible apply foldl_keeps | dsimp only | split)
theorem execPwrGetStatus_foot {w : Nat} (h : 37978178 &&& w = 37978178) (f : Fn) (a1 : Mbx) (s : State) :
    keepsOutcome w (s.mask w) (execPwrGetStatus f a1 s) := by
  refine keepsOutcome_mono h ?_
  rw [execPwrGetStatus, keeps_next]
  exact serve_foot (by decide) _ _ _ _ rfl fun r s' hs => cmdPwrGetStatus_foot (by decide) r s' hs
theorem execDevReset_foot {w : Nat} (h : 37978194 &&& w = 37978194) (f : Fn) (a1 : Mbx) (s : State) :
    keepsOutcome w (s.mask w) (execDevReset f a1 s) := by
  refine keepsOutcome_mono h ?_
  rw [execDevReset, keeps_next]
  exact serve_foot (by decide) _ _ _ _ rfl fun r s' hs => cmdDevReset_foot (by decide) r s' hs
theorem execCompatGetInfo_foot {w : Nat} (h : 37978178 &&& w = 37978178) (f : Fn) (a1 : Mbx) (s : State) :
    keepsOutcome w (s.mask w) (execCompatGetInfo f a1 s) := by
  refine keepsOutcome_mono h ?_
  rw [execCompatGetInfo, keeps_next]
  exact serve_foot (by decide) _ _ _ _ rfl fun r s' hs => cmdCompatGetInfo_foot (by decide) r s' hs
theorem execDiagPrbs_foot {w : Nat} (h : 37978194 &&& w = 37978194) (f : Fn) (a1 : Mbx) (s : State) :
    keepsOutcome w (s.mask w) (execDiagPrbs f a1 s) := by
  refine keepsOutcome_mono h ?_
  rw [execDiagPrbs, keeps_next]
  exact serve_foot (by decide) _ _ _ _ rfl fun r s' hs => cmdDiagPrbs_foot (by decide) r s' hs
theorem execDiagDone_foot {w : Nat} (h : 5275762 &&& w = 5275762) (l : LaneId) (s : State) :
    keepsOutcome w (s.mask w) (execDiagDone l s) := by
  refine keepsOutcome_mono h ?_
  unfold execDiagDone
  repeat' (first | with_reducible rfl | assumption | (intro _) | with_reducible refine ite_keeps ?_ ?_ | with_reducible refine ite_answer ?_ ?_ | with_reducible apply checked_keeps | with_reducible apply withCtx_keeps | with_reducible apply withQueue_keeps | with_reducible apply corrCmd_keeps | (simp only [foldl_mask, advTo_foot, raise_foot, release_foot, modLink_foot, keeps_ok, keeps_started, keeps_fail, keeps_failWith, keeps_wait, keeps_next, Nat.reduceAnd]) | with_reducible apply foldl_keeps | dsimp only | split)
theorem execDiagBankRead_foot {w : Nat} (h : 37981254 &&& w = 37981254) (f : Fn) (a1 : Mbx) (s : State) :
    keepsOutcome w (s.mask w) (execDiagBankRead f a1 s) := by
  refine keepsOutcome_mono h ?_
  rw [execDiagBankRead, keeps_next]
  exact serve_foot (by decide) _ _ _ _ rfl fun r s' hs => cmdDiagBankRead_foot (by decide) r s' hs
theorem execDiagInject_foot {w : Nat} (h : 27102803034 &&& w = 27102803034) (f : Fn) (a1 : Mbx) (s : State) :
    keepsOutcome w (s.mask w) (execDiagInject f a1 s) := by
  refine keepsOutcome_mono h ?_
  rw [execDiagInject, keeps_next]
  exact serve_foot (by decide) _ _ _ _ rfl fun r s' hs => cmdDiagInject_foot (by decide) r s' hs
theorem execCtxSetLaunch_foot {w : Nat} (h : 105087042 &&& w = 105087042) (f : Fn) (a1 : Mbx) (s : State) :
    keepsOutcome w (s.mask w) (execCtxSetLaunch f a1 s) := by
  refine keepsOutcome_mono h ?_
  rw [execCtxSetLaunch, keeps_next]
  exact serve_foot (by decide) _ _ _ _ rfl fun r s' hs => cmdCtxSetLaunch_foot (by decide) r s' hs
theorem execCompatLaneConfigure_foot {w : Nat} (h : 66303042 &&& w = 66303042) (f : Fn) (a1 : Mbx) (s : State) :
    keepsOutcome w (s.mask w) (execCompatLaneConfigure f a1 s) := by
  refine keepsOutcome_mono h ?_
  rw [execCompatLaneConfigure, keeps_next]
  exact serve_foot (by decide) _ _ _ _ rfl fun r s' hs => cmdCompatLaneConfigure_foot (by decide) r s' hs
theorem execCompatLaneGetStatus_foot {w : Nat} (h : 56852546 &&& w = 56852546) (f : Fn) (a1 : Mbx) (s : State) :
    keepsOutcome w (s.mask w) (execCompatLaneGetStatus f a1 s) := by
  refine keepsOutcome_mono h ?_
  rw [execCompatLaneGetStatus, keeps_next]
  exact serve_foot (by decide) _ _ _ _ rfl fun r s' hs => cmdCompatLaneGetStatus_foot (by decide) r s' hs
theorem execCompatCtxCreate_foot {w : Nat} (h : 121864258 &&& w = 121864258) (f : Fn) (a1 : Mbx) (s : State) :
    keepsOutcome w (s.mask w) (execCompatCtxCreate f a1 s) := by
  refine keepsOutcome_mono h ?_
  rw [execCompatCtxCreate, keeps_next]
  exact serve_foot (by decide) _ _ _ _ rfl fun r s' hs => cmdCompatCtxCreate_foot (by decide) r s' hs
theorem execCompatCtxAssign_foot {w : Nat} (h : 239305794 &&& w = 239305794) (f : Fn) (a1 : Mbx) (s : State) :
    keepsOutcome w (s.mask w) (execCompatCtxAssign f a1 s) := by
  refine keepsOutcome_mono h ?_
  rw [execCompatCtxAssign, keeps_next]
  exact serve_foot (by decide) _ _ _ _ rfl fun r s' hs => cmdCompatCtxAssign_foot (by decide) r s' hs
theorem execCompatCtxStart_foot {w : Nat} (h : 108234070 &&& w = 108234070) (f : Fn) (a1 : Mbx) (s : State) :
    keepsOutcome w (s.mask w) (execCompatCtxStart f a1 s) := by
  refine keepsOutcome_mono h ?_
  rw [execCompatCtxStart, keeps_next]
  exact serveWaking_foot (by decide) _ _ _ _ _ rfl fun r s' hs => cmdCompatCtxStart_foot (by decide) r s' hs
theorem execCompatCtxStop_foot {w : Nat} (h : 105087042 &&& w = 105087042) (f : Fn) (a1 : Mbx) (s : State) :
    keepsOutcome w (s.mask w) (execCompatCtxStop f a1 s) := by
  refine keepsOutcome_mono h ?_
  rw [execCompatCtxStop, keeps_next]
  exact serve_foot (by decide) _ _ _ _ rfl fun r s' hs => cmdCompatCtxStop_foot (by decide) r s' hs
theorem execCompatCtxRelease_foot {w : Nat} (h : 239304770 &&& w = 239304770) (f : Fn) (a1 : Mbx) (s : State) :
    keepsOutcome w (s.mask w) (execCompatCtxRelease f a1 s) := by
  refine keepsOutcome_mono h ?_
  rw [execCompatCtxRelease, keeps_next]
  exact serve_foot (by decide) _ _ _ _ rfl fun r s' hs => cmdCompatCtxRelease_foot (by decide) r s' hs
theorem execCompatCtxDestroy_foot {w : Nat} (h : 73119531082 &&& w = 73119531082) (f : Fn) (a1 : Mbx) (s : State) :
    keepsOutcome w (s.mask w) (execCompatCtxDestroy f a1 s) := by
  refine keepsOutcome_mono h ?_
  rw [execCompatCtxDestroy, keeps_next]
  exact serve_foot (by decide) _ _ _ _ rfl fun r s' hs => cmdCompatCtxDestroy_foot (by decide) r s' hs
theorem execCompatCtxGetStatus_foot {w : Nat} (h : 105087042 &&& w = 105087042) (f : Fn) (a1 : Mbx) (s : State) :
    keepsOutcome w (s.mask w) (execCompatCtxGetStatus f a1 s) := by
  refine keepsOutcome_mono h ?_
  rw [execCompatCtxGetStatus, keeps_next]
  exact serve_foot (by decide) _ _ _ _ rfl fun r s' hs => cmdCompatCtxGetStatus_foot (by decide) r s' hs
theorem execCompatIntakeSetPartition_foot {w : Nat} (h : 306413634 &&& w = 306413634) (f : Fn) (a1 : Mbx) (s : State) :
    keepsOutcome w (s.mask w) (execCompatIntakeSetPartition f a1 s) := by
  refine keepsOutcome_mono h ?_
  rw [execCompatIntakeSetPartition, keeps_next]
  exact serve_foot (by decide) _ _ _ _ rfl fun r s' hs => cmdCompatIntakeSetPartition_foot (by decide) r s' hs
theorem execCompatCorrSetBlack_foot {w : Nat} (h : 8696070218 &&& w = 8696070218) (f : Fn) (a1 : Mbx) (s : State) :
    keepsOutcome w (s.mask w) (execCompatCorrSetBlack f a1 s) := by
  refine keepsOutcome_mono h ?_
  rw [execCompatCorrSetBlack, keeps_next]
  exact serve_foot (by decide) _ _ _ _ rfl fun r s' hs => cmdCompatCorrSetBlack_foot (by decide) r s' hs
theorem execCompatCorrSetEnable_foot {w : Nat} (h : 8696070218 &&& w = 8696070218) (f : Fn) (a1 : Mbx) (s : State) :
    keepsOutcome w (s.mask w) (execCompatCorrSetEnable f a1 s) := by
  refine keepsOutcome_mono h ?_
  rw [execCompatCorrSetEnable, keeps_next]
  exact serve_foot (by decide) _ _ _ _ rfl fun r s' hs => cmdCompatCorrSetEnable_foot (by decide) r s' hs
theorem execCompatCorrLoadTable_foot {w : Nat} (h : 12991037514 &&& w = 12991037514) (f : Fn) (a1 : Mbx) (s : State) :
    keepsOutcome w (s.mask w) (execCompatCorrLoadTable f a1 s) := by
  refine keepsOutcome_mono h ?_
  rw [execCompatCorrLoadTable, keeps_next]
  exact serve_foot (by decide) _ _ _ _ rfl fun r s' hs => cmdCompatCorrLoadTable_foot (by decide) r s' hs
theorem execCompatPgSetSteering_foot {w : Nat} (h : 85938372674 &&& w = 85938372674) (f : Fn) (a1 : Mbx) (s : State) :
    keepsOutcome w (s.mask w) (execCompatPgSetSteering f a1 s) := by
  refine keepsOutcome_mono h ?_
  rw [execCompatPgSetSteering, keeps_next]
  exact serve_foot (by decide) _ _ _ _ rfl fun r s' hs => cmdCompatPgSetSteering_foot (by decide) r s' hs
theorem execCompatQPartition_foot {w : Nat} (h : 37978194 &&& w = 37978194) (f : Fn) (a1 : Mbx) (s : State) :
    keepsOutcome w (s.mask w) (execCompatQPartition f a1 s) := by
  refine keepsOutcome_mono h ?_
  rw [execCompatQPartition, keeps_next]
  exact serve_foot (by decide) _ _ _ _ rfl fun r s' hs => cmdCompatQPartition_foot (by decide) r s' hs
theorem execCompatQCreate_foot {w : Nat} (h : 39027778 &&& w = 39027778) (f : Fn) (a1 : Mbx) (s : State) :
    keepsOutcome w (s.mask w) (execCompatQCreate f a1 s) := by
  refine keepsOutcome_mono h ?_
  rw [execCompatQCreate, keeps_next]
  exact serve_foot (by decide) _ _ _ _ rfl fun r s' hs => cmdCompatQCreate_foot (by decide) r s' hs
theorem execCompatQEnable_foot {w : Nat} (h : 8696070210 &&& w = 8696070210) (f : Fn) (a1 : Mbx) (s : State) :
    keepsOutcome w (s.mask w) (execCompatQEnable f a1 s) := by
  refine keepsOutcome_mono h ?_
  rw [execCompatQEnable, keeps_next]
  exact serve_foot (by decide) _ _ _ _ rfl fun r s' hs => cmdCompatQEnable_foot (by decide) r s' hs
theorem execCompatQDisable_foot {w : Nat} (h : 8696070210 &&& w = 8696070210) (f : Fn) (a1 : Mbx) (s : State) :
    keepsOutcome w (s.mask w) (execCompatQDisable f a1 s) := by
  refine keepsOutcome_mono h ?_
  rw [execCompatQDisable, keeps_next]
  exact serve_foot (by decide) _ _ _ _ rfl fun r s' hs => cmdCompatQDisable_foot (by decide) r s' hs
theorem execCompatQReset_foot {w : Nat} (h : 106135618 &&& w = 106135618) (f : Fn) (a1 : Mbx) (s : State) :
    keepsOutcome w (s.mask w) (execCompatQReset f a1 s) := by
  refine keepsOutcome_mono h ?_
  rw [execCompatQReset, keeps_next]
  exact serve_foot (by decide) _ _ _ _ rfl fun r s' hs => cmdCompatQReset_foot (by decide) r s' hs
theorem execCompatQDestroy_foot {w : Nat} (h : 94595416138 &&& w = 94595416138) (f : Fn) (a1 : Mbx) (s : State) :
    keepsOutcome w (s.mask w) (execCompatQDestroy f a1 s) := by
  refine keepsOutcome_mono h ?_
  rw [execCompatQDestroy, keeps_next]
  exact serve_foot (by decide) _ _ _ _ rfl fun r s' hs => cmdCompatQDestroy_foot (by decide) r s' hs
theorem execCompatQSetNotify_foot {w : Nat} (h : 39026754 &&& w = 39026754) (f : Fn) (a1 : Mbx) (s : State) :
    keepsOutcome w (s.mask w) (execCompatQSetNotify f a1 s) := by
  refine keepsOutcome_mono h ?_
  rw [execCompatQSetNotify, keeps_next]
  exact serve_foot (by decide) _ _ _ _ rfl fun r s' hs => cmdCompatQSetNotify_foot (by decide) r s' hs
theorem execCompatQGetStatus_foot {w : Nat} (h : 39026754 &&& w = 39026754) (f : Fn) (a1 : Mbx) (s : State) :
    keepsOutcome w (s.mask w) (execCompatQGetStatus f a1 s) := by
  refine keepsOutcome_mono h ?_
  rw [execCompatQGetStatus, keeps_next]
  exact serve_foot (by decide) _ _ _ _ rfl fun r s' hs => cmdCompatQGetStatus_foot (by decide) r s' hs
theorem execCompatTimeGetStatus_foot {w : Nat} (h : 37978178 &&& w = 37978178) (f : Fn) (a1 : Mbx) (s : State) :
    keepsOutcome w (s.mask w) (execCompatTimeGetStatus f a1 s) := by
  refine keepsOutcome_mono h ?_
  rw [execCompatTimeGetStatus, keeps_next]
  exact serve_foot (by decide) _ _ _ _ rfl fun r s' hs => cmdCompatTimeGetStatus_foot (by decide) r s' hs
theorem execCompatTimeSetSource_foot {w : Nat} (h : 39026786 &&& w = 39026786) (f : Fn) (a1 : Mbx) (s : State) :
    keepsOutcome w (s.mask w) (execCompatTimeSetSource f a1 s) := by
  refine keepsOutcome_mono h ?_
  rw [execCompatTimeSetSource, keeps_next]
  exact serve_foot (by decide) _ _ _ _ rfl fun r s' hs => cmdCompatTimeSetSource_foot (by decide) r s' hs
theorem execCompatTimeSetExtOffset_foot {w : Nat} (h : 37978210 &&& w = 37978210) (f : Fn) (a1 : Mbx) (s : State) :
    keepsOutcome w (s.mask w) (execCompatTimeSetExtOffset f a1 s) := by
  refine keepsOutcome_mono h ?_
  rw [execCompatTimeSetExtOffset, keeps_next]
  exact serve_foot (by decide) _ _ _ _ rfl fun r s' hs => cmdCompatTimeSetExtOffset_foot (by decide) r s' hs
theorem execCompatTimeSetPps_foot {w : Nat} (h : 37978210 &&& w = 37978210) (f : Fn) (a1 : Mbx) (s : State) :
    keepsOutcome w (s.mask w) (execCompatTimeSetPps f a1 s) := by
  refine keepsOutcome_mono h ?_
  rw [execCompatTimeSetPps, keeps_next]
  exact serve_foot (by decide) _ _ _ _ rfl fun r s' hs => cmdCompatTimeSetPps_foot (by decide) r s' hs
theorem execCompatSchedAdd_foot {w : Nat} (h : 17317414273098 &&& w = 17317414273098) (f : Fn) (a1 : Mbx) (s : State) :
    keepsOutcome w (s.mask w) (execCompatSchedAdd f a1 s) := by
  refine keepsOutcome_mono h ?_
  rw [execCompatSchedAdd, keeps_next]
  exact serve_foot (by decide) _ _ _ _ rfl fun r s' hs => cmdSchedAdd_foot (by decide) _ r s' hs

end Sys2Proof.Machine
end

