-- ==== Sys2Proof/Laws/Foot17.lean ====
section
/-! SUPPORT. What each operation leaves as it was, part 17 of 18: of state `s` it changes no field outside the set of its
footprint (a bit for each field, in the order of Field). -/
set_option linter.all false
set_option maxRecDepth 4000
open Sys2Proof Sys2Proof.Machine
namespace Sys2Proof.Machine

theorem execCompatSchedCancel_foot {w : Nat} (h : 274915885122 &&& w = 274915885122) (f : Fn) (a1 : Mbx) (s : State) :
    keepsOutcome w (s.mask w) (execCompatSchedCancel f a1 s) := by
  refine keepsOutcome_mono h ?_
  rw [execCompatSchedCancel, keeps_next]
  exact serve_foot (by decide) _ _ _ _ rfl fun r s' hs => cmdSchedCancel_foot (by decide) _ r s' hs
theorem execCompatSchedGetStatus_foot {w : Nat} (h : 274915885122 &&& w = 274915885122) (f : Fn) (a1 : Mbx) (s : State) :
    keepsOutcome w (s.mask w) (execCompatSchedGetStatus f a1 s) := by
  refine keepsOutcome_mono h ?_
  rw [execCompatSchedGetStatus, keeps_next]
  exact serve_foot (by decide) _ _ _ _ rfl fun r s' hs => cmdSchedGetStatus_foot (by decide) _ r s' hs
theorem settleAon_foot {w : Nat} (h : 128 &&& w = 128) (s : State) :
    (settleAon s).mask w = s.mask w := by
  refine mask_mono h ?_
  unfold settleAon
  repeat' (first | with_reducible rfl | assumption | (intro _) | with_reducible refine ite_keeps ?_ ?_ | with_reducible refine ite_answer ?_ ?_ | with_reducible apply checked_keeps | with_reducible apply withCtx_keeps | with_reducible apply withQueue_keeps | with_reducible apply corrCmd_keeps | (simp only [mask_set_128, foldl_mask, keeps_ok, keeps_started, keeps_fail, keeps_failWith, keeps_wait, keeps_next, Nat.reduceAnd]) | with_reducible apply foldl_keeps | dsimp only | split)
theorem quietLane_foot {w : Nat} (h : 2 &&& w = 2) (s : State) (l : Nat) :
    (quietLane s l).mask w = s.mask w := by
  refine mask_mono h ?_
  unfold quietLane
  repeat' (first | with_reducible rfl | assumption | (intro _) | with_reducible refine ite_keeps ?_ ?_ | with_reducible refine ite_answer ?_ ?_ | with_reducible apply checked_keeps | with_reducible apply withCtx_keeps | with_reducible apply withQueue_keeps | with_reducible apply corrCmd_keeps | (simp only [foldl_mask, emit_foot, keeps_ok, keeps_started, keeps_fail, keeps_failWith, keeps_wait, keeps_next, Nat.reduceAnd]) | with_reducible apply foldl_keeps | dsimp only | split)
theorem stopPorts_foot {w : Nat} (h : 2 &&& w = 2) (s : State) :
    (stopPorts s).mask w = s.mask w := by
  refine mask_mono h ?_
  unfold stopPorts
  repeat' (first | with_reducible rfl | assumption | (intro _) | with_reducible refine ite_keeps ?_ ?_ | with_reducible refine ite_answer ?_ ?_ | with_reducible apply checked_keeps | with_reducible apply withCtx_keeps | with_reducible apply withQueue_keeps | with_reducible apply corrCmd_keeps | (simp only [foldl_mask, emit_foot, keeps_ok, keeps_started, keeps_fail, keeps_failWith, keeps_wait, keeps_next, Nat.reduceAnd]) | with_reducible apply foldl_keeps | dsimp only | split)
theorem wipe_foot {w : Nat} (h : 17592186044414 &&& w = 17592186044414) (s : State) :
    (wipe s).mask w = s.mask w := by
  refine mask_mono h ?_
  unfold wipe
  repeat' (first | with_reducible rfl | assumption | (intro _) | with_reducible refine ite_keeps ?_ ?_ | with_reducible refine ite_answer ?_ ?_ | with_reducible apply checked_keeps | with_reducible apply withCtx_keeps | with_reducible apply withQueue_keeps | with_reducible apply corrCmd_keeps | (simp only [mask_set_17592186044408, foldl_mask, cutFlash_foot, settleAon_foot, addSeconds_foot, quietLane_foot, stopPorts_foot, emit_foot, keeps_ok, keeps_started, keeps_fail, keeps_failWith, keeps_wait, keeps_next, Nat.reduceAnd]) | with_reducible apply foldl_keeps | dsimp only | split)
theorem execSysRstNAssert_foot {w : Nat} (h : 17592186044414 &&& w = 17592186044414) (lengthNs : Nat) (s : State) :
    keepsOutcome w (s.mask w) (execSysRstNAssert lengthNs s) := by
  refine keepsOutcome_mono h ?_
  unfold execSysRstNAssert
  repeat' (first | with_reducible rfl | assumption | (intro _) | with_reducible refine ite_keeps ?_ ?_ | with_reducible refine ite_answer ?_ ?_ | with_reducible apply checked_keeps | with_reducible apply withCtx_keeps | with_reducible apply withQueue_keeps | with_reducible apply corrCmd_keeps | (simp only [foldl_mask, wipe_foot, honey_foot, keeps_ok, keeps_started, keeps_fail, keeps_failWith, keeps_wait, keeps_next, Nat.reduceAnd]) | with_reducible apply foldl_keeps | dsimp only | split)
theorem redetect_foot {w : Nat} (h : 37810370 &&& w = 37810370) (s : State) :
    (redetect s).mask w = s.mask w := by
  refine mask_mono h ?_
  unfold redetect
  repeat' (first | with_reducible rfl | assumption | (intro _) | with_reducible refine ite_keeps ?_ ?_ | with_reducible refine ite_answer ?_ ?_ | with_reducible apply checked_keeps | with_reducible apply withCtx_keeps | with_reducible apply withQueue_keeps | with_reducible apply corrCmd_keeps | (simp only [mask_set_128, foldl_mask, detectFault_foot, keeps_ok, keeps_started, keeps_fail, keeps_failWith, keeps_wait, keeps_next, Nat.reduceAnd]) | with_reducible apply foldl_keeps | dsimp only | split)
theorem releaseReset_foot {w : Nat} (h : 37810418 &&& w = 37810418) (kind : Nat) (straps : Straps) (s : State) :
    (releaseReset kind straps s).mask w = s.mask w := by
  refine mask_mono h ?_
  unfold releaseReset
  repeat' (first | with_reducible rfl | assumption | (intro _) | with_reducible refine ite_keeps ?_ ?_ | with_reducible refine ite_answer ?_ ?_ | with_reducible apply checked_keeps | with_reducible apply withCtx_keeps | with_reducible apply withQueue_keeps | with_reducible apply corrCmd_keeps | (simp only [mask_set_33554592, foldl_mask, settleAon_foot, modSys_foot, logNow_foot, redetect_foot, keeps_ok, keeps_started, keeps_fail, keeps_failWith, keeps_wait, keeps_next, Nat.reduceAnd]) | with_reducible apply foldl_keeps | dsimp only | split)
theorem execSysRstNRelease_foot {w : Nat} (h : 37810418 &&& w = 37810418) (straps : Straps) (s : State) :
    keepsOutcome w (s.mask w) (execSysRstNRelease straps s) := by
  refine keepsOutcome_mono h ?_
  unfold execSysRstNRelease
  repeat' (first | with_reducible rfl | assumption | (intro _) | with_reducible refine ite_keeps ?_ ?_ | with_reducible refine ite_answer ?_ ?_ | with_reducible apply checked_keeps | with_reducible apply withCtx_keeps | with_reducible apply withQueue_keeps | with_reducible apply corrCmd_keeps | (simp only [foldl_mask, releaseReset_foot, keeps_ok, keeps_started, keeps_fail, keeps_failWith, keeps_wait, keeps_next, Nat.reduceAnd]) | with_reducible apply foldl_keeps | dsimp only | split)
theorem execBootOptionsRead_foot {w : Nat} (h : 37810770 &&& w = 37810770) (readable : Bool) (s : State) :
    keepsOutcome w (s.mask w) (execBootOptionsRead readable s) := by
  refine keepsOutcome_mono h ?_
  unfold execBootOptionsRead
  repeat' (first | with_reducible rfl | assumption | (intro _) | with_reducible refine ite_keeps ?_ ?_ | with_reducible refine ite_answer ?_ ?_ | with_reducible apply checked_keeps | with_reducible apply withCtx_keeps | with_reducible apply withQueue_keeps | with_reducible apply corrCmd_keeps | (simp only [foldl_mask, detectFault_foot, modTrust_foot, modSys_foot, beginTraining_foot, keeps_ok, keeps_started, keeps_fail, keeps_failWith, keeps_wait, keeps_next, Nat.reduceAnd]) | with_reducible apply foldl_keeps | dsimp only | split)
theorem execBootImageLoaded_foot {w : Nat} (h : 37810770 &&& w = 37810770) (readOk : Bool) (s : State) :
    keepsOutcome w (s.mask w) (execBootImageLoaded readOk s) := by
  refine keepsOutcome_mono h ?_
  unfold execBootImageLoaded
  rw [keeps_next]
  refine ite_keeps (ite_keeps (enterLoader_foot (by decide) _) ?_) rfl
  rcases s.bootChoice readOk with ⟨_ | n, refused⟩
  · exact ite_keeps (enterLoader_foot (by decide) _) (by rw [detectFault_foot (by decide), modSys_foot (by decide)])
  · show (startImage n _).mask _ = _
    rw [startImage_foot (by decide), modSys_foot (by decide), modTrust_foot (by decide)]
theorem readCal_foot {w : Nat} (h : 64 &&& w = 64) (trims : Bool) (s : State) :
    (readCal trims s).mask w = s.mask w := by
  refine mask_mono h ?_
  unfold readCal
  repeat' (first | with_reducible rfl | assumption | (intro _) | with_reducible refine ite_keeps ?_ ?_ | with_reducible refine ite_answer ?_ ?_ | with_reducible apply checked_keeps | with_reducible apply withCtx_keeps | with_reducible apply withQueue_keeps | with_reducible apply corrCmd_keeps | (simp only [foldl_mask, modKeeper_foot, keeps_ok, keeps_started, keeps_fail, keeps_failWith, keeps_wait, keeps_next, Nat.reduceAnd]) | with_reducible apply foldl_keeps | dsimp only | split)
theorem reportFallback_foot {w : Nat} (h : 1081922 &&& w = 1081922) (s : State) :
    (reportFallback s).mask w = s.mask w := by
  refine mask_mono h ?_
  unfold reportFallback
  repeat' (first | with_reducible rfl | assumption | (intro _) | with_reducible refine ite_keeps ?_ ?_ | with_reducible refine ite_answer ?_ ?_ | with_reducible apply checked_keeps | with_reducible apply withCtx_keeps | with_reducible apply withQueue_keeps | with_reducible apply corrCmd_keeps | (simp only [foldl_mask, raise_foot, modTrust_foot, keeps_ok, keeps_started, keeps_fail, keeps_failWith, keeps_wait, keeps_next, Nat.reduceAnd]) | with_reducible apply foldl_keeps | dsimp only | split)
theorem storeCerts_foot {w : Nat} (h : 2 &&& w = 2) (s : State) :
    (storeCerts s).mask w = s.mask w := by
  refine mask_mono h ?_
  unfold storeCerts
  repeat' (first | with_reducible rfl | assumption | (intro _) | with_reducible refine ite_keeps ?_ ?_ | with_reducible refine ite_answer ?_ ?_ | with_reducible apply checked_keeps | with_reducible apply withCtx_keeps | with_reducible apply withQueue_keeps | with_reducible apply corrCmd_keeps | (simp only [foldl_mask, emit_foot, keeps_ok, keeps_started, keeps_fail, keeps_failWith, keeps_wait, keeps_next, Nat.reduceAnd]) | with_reducible apply foldl_keeps | dsimp only | split)
theorem firstReady_foot {w : Nat} (h : 1081938 &&& w = 1081938) (s : State) :
    (firstReady s).mask w = s.mask w := by
  refine mask_mono h ?_
  unfold firstReady
  repeat' (first | with_reducible rfl | assumption | (intro _) | with_reducible refine ite_keeps ?_ ?_ | with_reducible refine ite_answer ?_ ?_ | with_reducible apply checked_keeps | with_reducible apply withCtx_keeps | with_reducible apply withQueue_keeps | with_reducible apply corrCmd_keeps | (simp only [foldl_mask, bootPolicy_foot, readCal_foot, modSys_foot, reportFallback_foot, logNow_foot, setPhase_foot, storeCerts_foot, keeps_ok, keeps_started, keeps_fail, keeps_failWith, keeps_wait, keeps_next, Nat.reduceAnd]) | with_reducible apply foldl_keeps | dsimp only | split)
theorem readyTrial_foot {w : Nat} (h : 1081922 &&& w = 1081922) (s : State) :
    (readyTrial s).mask w = s.mask w := by
  refine mask_mono h ?_
  unfold readyTrial
  repeat' (first | with_reducible rfl | assumption | (intro _) | with_reducible refine ite_keeps ?_ ?_ | with_reducible refine ite_answer ?_ ?_ | with_reducible apply checked_keeps | with_reducible apply withCtx_keeps | with_reducible apply withQueue_keeps | with_reducible apply corrCmd_keeps | (simp only [foldl_mask, modTrust_foot, raise_foot, preferSlot_foot, keeps_ok, keeps_started, keeps_fail, keeps_failWith, keeps_wait, keeps_next, Nat.reduceAnd]) | with_reducible apply foldl_keeps | dsimp only | split)
theorem keeperReady_foot {w : Nat} (h : 17590038560766 &&& w = 17590038560766) (s : State) :
    (keeperReady s).mask w = s.mask w := by
  refine mask_mono h ?_
  unfold keeperReady
  repeat' (first | with_reducible rfl | assumption | (intro _) | with_reducible refine ite_keeps ?_ ?_ | with_reducible refine ite_answer ?_ ?_ | with_reducible apply checked_keeps | with_reducible apply withCtx_keeps | with_reducible apply withQueue_keeps | with_reducible apply corrCmd_keeps | (simp only [mask_set_131072, foldl_mask, endMailboxes_foot, firstReady_foot, modSys_foot, setIntxAll_foot, rdRewrite_foot, faultOk_foot, readyTrial_foot, drainVc3_foot, keeperWork_foot, keeps_ok, keeps_started, keeps_fail, keeps_failWith, keeps_wait, keeps_next, Nat.reduceAnd]) | with_reducible apply foldl_keeps | dsimp only | split)
theorem execKeeperReady_foot {w : Nat} (h : 17590038560766 &&& w = 17590038560766) (t : Nat) (s : State) :
    keepsOutcome w (s.mask w) (execKeeperReady t s) := by
  refine keepsOutcome_mono h ?_
  unfold execKeeperReady
  repeat' (first | with_reducible rfl | assumption | (intro _) | with_reducible refine ite_keeps ?_ ?_ | with_reducible refine ite_answer ?_ ?_ | with_reducible apply checked_keeps | with_reducible apply withCtx_keeps | with_reducible apply withQueue_keeps | with_reducible apply corrCmd_keeps | (simp only [foldl_mask, advTo_foot, keeperReady_foot, keeps_ok, keeps_started, keeps_fail, keeps_failWith, keeps_wait, keeps_next, Nat.reduceAnd]) | with_reducible apply foldl_keeps | dsimp only | split)
theorem softLane_foot {w : Nat} (h : 57716802 &&& w = 57716802) (s : State) (l : Nat) :
    (softLane s l).mask w = s.mask w := by
  refine mask_mono h ?_
  unfold softLane
  repeat' (first | with_reducible rfl | assumption | (intro _) | with_reducible refine ite_keeps ?_ ?_ | with_reducible refine ite_answer ?_ ?_ | with_reducible apply checked_keeps | with_reducible apply withCtx_keeps | with_reducible apply withQueue_keeps | with_reducible apply corrCmd_keeps | (simp only [mask_set_23068672, foldl_mask, modLink_foot, modLane_foot, quietLane_foot, laneLeft_foot, keeps_ok, keeps_started, keeps_fail, keeps_failWith, keeps_wait, keeps_next, Nat.reduceAnd]) | with_reducible apply foldl_keeps | dsimp only | split)
theorem passed_foot {w : Nat} (h : 38842434 &&& w = 38842434) (cls : Nat) (u : Nat) (s : State) :
    (passed cls u s).mask w = s.mask w := by
  refine mask_mono h ?_
  unfold passed
  repeat' (first | with_reducible rfl | assumption | (intro _) | with_reducible refine ite_keeps ?_ ?_ | with_reducible refine ite_answer ?_ ?_ | with_reducible apply checked_keeps | with_reducible apply withCtx_keeps | with_reducible apply withQueue_keeps | with_reducible apply corrCmd_keeps | (simp only [foldl_mask, resolveFault_foot, keeps_ok, keeps_started, keeps_fail, keeps_failWith, keeps_wait, keeps_next, Nat.reduceAnd]) | with_reducible apply foldl_keeps | dsimp only | split)
theorem softUnits_foot {w : Nat} (h : 558518808658 &&& w = 558518808658) (combs : List Nat) (asms : List Nat) (ports : List Nat) (s : State) :
    (softUnits combs asms ports s).mask w = s.mask w := by
  refine mask_mono h ?_
  unfold softUnits
  repeat' (first | with_reducible rfl | assumption | (intro _) | with_reducible refine ite_keeps ?_ ?_ | with_reducible refine ite_answer ?_ ?_ | with_reducible apply checked_keeps | with_reducible apply withCtx_keeps | with_reducible apply withQueue_keeps | with_reducible apply corrCmd_keeps | (simp only [mask_set_558479966208, foldl_mask, setOwner_foot, passed_foot, keeps_ok, keeps_started, keeps_fail, keeps_failWith, keeps_wait, keeps_next, Nat.reduceAnd]) | with_reducible apply foldl_keeps | dsimp only | split)
theorem softDatapath_foot {w : Nat} (h : 17587890077050 &&& w = 17587890077050) (combs : List Nat) (asms : List Nat) (ports : List Nat) (s : State) :
    (softDatapath combs asms ports s).mask w = s.mask w := by
  refine mask_mono h ?_
  unfold softDatapath
  repeat' (first | with_reducible rfl | assumption | (intro _) | with_reducible refine ite_keeps ?_ ?_ | with_reducible refine ite_answer ?_ ?_ | with_reducible apply checked_keeps | with_reducible apply withCtx_keeps | with_reducible apply withQueue_keeps | with_reducible apply corrCmd_keeps | (simp only [mask_set_17029345085704, foldl_mask, softLane_foot, stopPorts_foot, pllTrim_foot, wakeBanks_foot, setValid_foot, softUnits_foot, modSys_foot, keeps_ok, keeps_started, keeps_fail, keeps_failWith, keeps_wait, keeps_next, Nat.reduceAnd]) | with_reducible apply foldl_keeps | dsimp only | split)
theorem execSoftDeviceReset_foot {w : Nat} (h : 17592185503742 &&& w = 17592185503742) (combsPass : List Nat) (asmsPass : List Nat) (portsPass : List Nat) (t : Nat) (s : State) :
    keepsOutcome w (s.mask w) (execSoftDeviceReset combsPass asmsPass portsPass t s) := by
  refine keepsOutcome_mono h ?_
  unfold execSoftDeviceReset
  repeat' (first | with_reducible rfl | assumption | (intro _) | with_reducible refine ite_keeps ?_ ?_ | with_reducible refine ite_answer ?_ ?_ | with_reducible apply checked_keeps | with_reducible apply withCtx_keeps | with_reducible apply withQueue_keeps | with_reducible apply corrCmd_keeps | (simp only [mask_set_131072, foldl_mask, setPhase_foot, advTo_foot, saveHoney_foot, honey_foot, cutFlash_foot, keeperForgets_foot, readyFalls_foot, softDatapath_foot, readCal_foot, endMailboxes_foot, modTrust_foot, rdRefresh_foot, setIntxAll_foot, modSys_foot, keeps_ok, keeps_started, keeps_fail, keeps_failWith, keeps_wait, keeps_next, Nat.reduceAnd]) | with_reducible apply foldl_keeps | dsimp only | split)
theorem execFullResetByHive_foot {w : Nat} (h : 17592186044414 &&& w = 17592186044414) (straps : Straps) (s : State) :
    keepsOutcome w (s.mask w) (execFullResetByHive straps s) := by
  refine keepsOutcome_mono h ?_
  unfold execFullResetByHive
  repeat' (first | with_reducible rfl | assumption | (intro _) | with_reducible refine ite_keeps ?_ ?_ | with_reducible refine ite_answer ?_ ?_ | with_reducible apply checked_keeps | with_reducible apply withCtx_keeps | with_reducible apply withQueue_keeps | with_reducible apply corrCmd_keeps | (simp only [foldl_mask, releaseReset_foot, wipe_foot, honey_foot, advTo_foot, keeps_ok, keeps_started, keeps_fail, keeps_failWith, keeps_wait, keeps_next, Nat.reduceAnd]) | with_reducible apply foldl_keeps | dsimp only | split)
theorem execKeeperRestart_foot {w : Nat} (h : 4333011570 &&& w = 4333011570) (cause : RestartCause) (t : Nat) (s : State) :
    keepsOutcome w (s.mask w) (execKeeperRestart cause t s) := by
  refine keepsOutcome_mono h ?_
  unfold execKeeperRestart
  repeat' (first | with_reducible rfl | assumption | (intro _) | with_reducible refine ite_keeps ?_ ?_ | with_reducible refine ite_answer ?_ ?_ | with_reducible apply checked_keeps | with_reducible apply withCtx_keeps | with_reducible apply withQueue_keeps | with_reducible apply corrCmd_keeps | (simp only [foldl_mask, restartKeeper_foot, advTo_foot, modTrust_foot, keeps_ok, keeps_started, keeps_fail, keeps_failWith, keeps_wait, keeps_next, Nat.reduceAnd]) | with_reducible apply foldl_keeps | dsimp only | split)
theorem execKeeperFault_foot {w : Nat} (h : 4333040242 &&& w = 4333040242) (bank : Bool) (t : Nat) (s : State) :
    keepsOutcome w (s.mask w) (execKeeperFault bank t s) := by
  refine keepsOutcome_mono h ?_
  unfold execKeeperFault
  repeat' (first | with_reducible rfl | assumption | (intro _) | with_reducible refine ite_keeps ?_ ?_ | with_reducible refine ite_answer ?_ ?_ | with_reducible apply checked_keeps | with_reducible apply withCtx_keeps | with_reducible apply withQueue_keeps | with_reducible apply corrCmd_keeps | (simp only [foldl_mask, advTo_foot, keeperFault_foot, keeps_ok, keeps_started, keeps_fail, keeps_failWith, keeps_wait, keeps_next, Nat.reduceAnd]) | with_reducible apply foldl_keeps | dsimp only | split)
theorem execFwTrialEnd_foot {w : Nat} (h : 544 &&& w = 544) (s : State) :
    keepsOutcome w (s.mask w) (execFwTrialEnd s) := by
  refine keepsOutcome_mono h ?_
  unfold execFwTrialEnd
  repeat' (first | with_reducible rfl | assumption | (intro _) | with_reducible refine ite_keeps ?_ ?_ | with_reducible refine ite_answer ?_ ?_ | with_reducible apply checked_keeps | with_reducible apply withCtx_keeps | with_reducible apply withQueue_keeps | with_reducible apply corrCmd_keeps | (simp only [foldl_mask, modTrust_foot, advTo_foot, keeps_ok, keeps_started, keeps_fail, keeps_failWith, keeps_wait, keeps_next, Nat.reduceAnd]) | with_reducible apply foldl_keeps | dsimp only | split)
theorem execJtagInstruction_foot {w : Nat} (h : 33362 &&& w = 33362) (code : BitVec 8) (s : State) :
    keepsOutcome w (s.mask w) (execJtagInstruction code s) := by
  refine keepsOutcome_mono h ?_
  unfold execJtagInstruction
  repeat' (first | with_reducible rfl | assumption | (intro _) | with_reducible refine ite_keeps ?_ ?_ | with_reducible refine ite_answer ?_ ?_ | with_reducible apply checked_keeps | with_reducible apply withCtx_keeps | with_reducible apply withQueue_keeps | with_reducible apply corrCmd_keeps | (simp only [foldl_mask, emit_foot, modTrust_foot, modSys_foot, readyFalls_foot, setPhase_foot, keeps_ok, keeps_started, keeps_fail, keeps_failWith, keeps_wait, keeps_next, Nat.reduceAnd]) | with_reducible apply foldl_keeps | dsimp only | split)
theorem execBankRetentionEntry_foot {w : Nat} (h : 1024 &&& w = 1024) (b : BankId) (s : State) :
    keepsOutcome w (s.mask w) (execBankRetentionEntry b s) := by
  refine keepsOutcome_mono h ?_
  unfold execBankRetentionEntry
  repeat' (first | with_reducible rfl | assumption | (intro _) | with_reducible refine ite_keeps ?_ ?_ | with_reducible refine ite_answer ?_ ?_ | with_reducible apply checked_keeps | with_reducible apply withCtx_keeps | with_reducible apply withQueue_keeps | with_reducible apply corrCmd_keeps | (simp only [foldl_mask, modBank_foot, keeps_ok, keeps_started, keeps_fail, keeps_failWith, keeps_wait, keeps_next, Nat.reduceAnd]) | with_reducible apply foldl_keeps | dsimp only | split)
theorem execBankWake_foot {w : Nat} (h : 1024 &&& w = 1024) (b : BankId) (s : State) :
    keepsOutcome w (s.mask w) (execBankWake b s) := by
  refine keepsOutcome_mono h ?_
  unfold execBankWake
  repeat' (first | with_reducible rfl | assumption | (intro _) | with_reducible refine ite_keeps ?_ ?_ | with_reducible refine ite_answer ?_ ?_ | with_reducible apply checked_keeps | with_reducible apply withCtx_keeps | with_reducible apply withQueue_keeps | with_reducible apply corrCmd_keeps | (simp only [foldl_mask, wakeBank_foot, keeps_ok, keeps_started, keeps_fail, keeps_failWith, keeps_wait, keeps_next, Nat.reduceAnd]) | with_reducible apply foldl_keeps | dsimp only | split)
theorem execEccCorrected_foot {w : Nat} (h : 1082474 &&& w = 1082474) (b : BankId) (word : Nat) (t : Nat) (s : State) :
    keepsOutcome w (s.mask w) (execEccCorrected b word t s) := by
  refine keepsOutcome_mono h ?_
  unfold execEccCorrected
  repeat' (first | with_reducible rfl | assumption | (intro _) | with_reducible refine ite_keeps ?_ ?_ | with_reducible refine ite_answer ?_ ?_ | with_reducible apply checked_keeps | with_reducible apply withCtx_keeps | with_reducible apply withQueue_keeps | with_reducible apply corrCmd_keeps | (simp only [foldl_mask, honey_foot, modBank_foot, advTo_foot, paced_foot, raise_foot, keeps_ok, keeps_started, keeps_fail, keeps_failWith, keeps_wait, keeps_next, Nat.reduceAnd]) | with_reducible apply foldl_keeps | dsimp only | split)
theorem execEccUncorrectable_foot {w : Nat} (h : 425442211450 &&& w = 425442211450) (b : BankId) (word : Nat) (held : BadWord) (t : Nat) (s : State) :
    keepsOutcome w (s.mask w) (execEccUncorrectable b word held t s) := by
  refine keepsOutcome_mono h ?_
  unfold execEccUncorrectable
  repeat' (first | with_reducible rfl | assumption | (intro _) | with_reducible refine ite_keeps ?_ ?_ | with_reducible refine ite_answer ?_ ?_ | with_reducible apply checked_keeps | with_reducible apply withCtx_keeps | with_reducible apply withQueue_keeps | with_reducible apply corrCmd_keeps | (simp only [foldl_mask, advTo_foot, honey_foot, modBank_foot, badWord_foot, raise_foot, detectFault_foot, keeps_ok, keeps_started, keeps_fail, keeps_failWith, keeps_wait, keeps_next, Nat.reduceAnd]) | with_reducible apply foldl_keeps | dsimp only | split)
theorem execWriteLost_foot {w : Nat} (h : 3136 &&& w = 3136) (b : BankId) (word : Nat) (test : Bool) (s : State) :
    keepsOutcome w (s.mask w) (execWriteLost b word test s) := by
  refine keepsOutcome_mono h ?_
  unfold execWriteLost
  repeat' (first | with_reducible rfl | assumption | (intro _) | with_reducible refine ite_keeps ?_ ?_ | with_reducible refine ite_answer ?_ ?_ | with_reducible apply checked_keeps | with_reducible apply withCtx_keeps | with_reducible apply withQueue_keeps | with_reducible apply corrCmd_keeps | (simp only [foldl_mask, honey_foot, surrenderWindow_foot, keeps_ok, keeps_started, keeps_fail, keeps_failWith, keeps_wait, keeps_next, Nat.reduceAnd]) | with_reducible apply foldl_keeps | dsimp only | split)
theorem testFail_foot {w : Nat} (h : 38859842 &&& w = 38859842) (b : Nat) (f : Nat × Nat) (s : State) :
    (testFail b f s).mask w = s.mask w := by
  refine mask_mono h ?_
  unfold testFail
  repeat' (first | with_reducible rfl | assumption | (intro _) | with_reducible refine ite_keeps ?_ ?_ | with_reducible refine ite_answer ?_ ?_ | with_reducible apply checked_keeps | with_reducible apply withCtx_keeps | with_reducible apply withQueue_keeps | with_reducible apply corrCmd_keeps | (simp only [foldl_mask, detectFault_foot, raise_foot, honey_foot, modBank_foot, keeps_ok, keeps_started, keeps_fail, keeps_failWith, keeps_wait, keeps_next, Nat.reduceAnd]) | with_reducible apply foldl_keeps | dsimp only | split)
theorem execBackgroundTestWindow_foot {w : Nat} (h : 38861922 &&& w = 38861922) (b : BankId) (base : Nat) (len : Nat) (bad : Option (Nat × Nat)) (t : Nat) (s : State) :
    keepsOutcome w (s.mask w) (execBackgroundTestWindow b base len bad t s) := by
  refine keepsOutcome_mono h ?_
  unfold execBackgroundTestWindow
  repeat' (first | with_reducible rfl | assumption | (intro _) | with_reducible refine ite_keeps ?_ ?_ | with_reducible refine ite_answer ?_ ?_ | with_reducible apply checked_keeps | with_reducible apply withCtx_keeps | with_reducible apply withQueue_keeps | with_reducible apply corrCmd_keeps | (simp only [mask_set_2048, foldl_mask, advTo_foot, modBank_foot, testFail_foot, faultOk_foot, keeps_ok, keeps_started, keeps_fail, keeps_failWith, keeps_wait, keeps_next, Nat.reduceAnd]) | with_reducible apply foldl_keeps | dsimp only | split)
theorem execTestWindowSurrender_foot {w : Nat} (h : 3168 &&& w = 3168) (b : BankId) (t : Nat) (s : State) :
    keepsOutcome w (s.mask w) (execTestWindowSurrender b t s) := by
  refine keepsOutcome_mono h ?_
  unfold execTestWindowSurrender
  repeat' (first | with_reducible rfl | assumption | (intro _) | with_reducible refine ite_keeps ?_ ?_ | with_reducible refine ite_answer ?_ ?_ | with_reducible apply checked_keeps | with_reducible apply withCtx_keeps | with_reducible apply withQueue_keeps | with_reducible apply corrCmd_keeps | (simp only [foldl_mask, advTo_foot, surrenderWindow_foot, keeps_ok, keeps_started, keeps_fail, keeps_failWith, keeps_wait, keeps_next, Nat.reduceAnd]) | with_reducible apply foldl_keeps | dsimp only | split)
theorem execMemValveGuard_foot {w : Nat} (h : 824634802274 &&& w = 824634802274) (valve : Fin 4096) (t : Nat) (s : State) :
    keepsOutcome w (s.mask w) (execMemValveGuard valve t s) := by
  refine keepsOutcome_mono h ?_
  unfold execMemValveGuard
  repeat' (first | with_reducible rfl | assumption | (intro _) | with_reducible refine ite_keeps ?_ ?_ | with_reducible refine ite_answer ?_ ?_ | with_reducible apply checked_keeps | with_reducible apply withCtx_keeps | with_reducible apply withQueue_keeps | with_reducible apply corrCmd_keeps | (simp only [foldl_mask, advTo_foot, modVp_foot, raise_foot, modFlight_foot, keeps_ok, keeps_started, keeps_fail, keeps_failWith, keeps_wait, keeps_next, Nat.reduceAnd]) | with_reducible apply foldl_keeps | dsimp only | split)
theorem execAssemblerFault_foot {w : Nat} (h : 26949513314 &&& w = 26949513314) (a : AsmId) (t : Nat) (s : State) :
    keepsOutcome w (s.mask w) (execAssemblerFault a t s) := by
  refine keepsOutcome_mono h ?_
  unfold execAssemblerFault
  repeat' (first | with_reducible rfl | assumption | (intro _) | with_reducible refine ite_keeps ?_ ?_ | with_reducible refine ite_answer ?_ ?_ | with_reducible apply checked_keeps | with_reducible apply withCtx_keeps | with_reducible apply withQueue_keeps | with_reducible apply corrCmd_keeps | (simp only [foldl_mask, asmFault_foot, advTo_foot, keeps_ok, keeps_started, keeps_fail, keeps_failWith, keeps_wait, keeps_next, Nat.reduceAnd]) | with_reducible apply foldl_keeps | dsimp only | split)
theorem stopLane_foot {w : Nat} (h : 57733186 &&& w = 57733186) (s : State) (l : Nat) :
    (stopLane s l).mask w = s.mask w := by
  refine mask_mono h ?_
  unfold stopLane
  repeat' (first | with_reducible rfl | assumption | (intro _) | with_reducible refine ite_keeps ?_ ?_ | with_reducible refine ite_answer ?_ ?_ | with_reducible apply checked_keeps | with_reducible apply withCtx_keeps | with_reducible apply withQueue_keeps | with_reducible apply corrCmd_keeps | (simp only [foldl_mask, laneFault_foot, raise_foot, honey_foot, countLane_foot, modEth_foot, unlockLink_foot, emit_foot, modLane_foot, keeps_ok, keeps_started, keeps_fail, keeps_failWith, keeps_wait, keeps_next, Nat.reduceAnd]) | with_reducible apply foldl_keeps | dsimp only | split)
theorem loseLref_foot {w : Nat} (h : 66121794 &&& w = 66121794) (k : Nat) (s : State) :
    (loseLref k s).mask w = s.mask w := by
  refine mask_mono h ?_
  unfold loseLref
  repeat' (first | with_reducible rfl | assumption | (intro _) | with_reducible refine ite_keeps ?_ ?_ | with_reducible refine ite_answer ?_ ?_ | with_reducible apply checked_keeps | with_reducible apply withCtx_keeps | with_reducible apply withQueue_keeps | with_reducible apply corrCmd_keeps | (simp only [mask_set_8388608, foldl_mask, stopLane_foot, keeps_ok, keeps_started, keeps_fail, keeps_failWith, keeps_wait, keeps_next, Nat.reduceAnd]) | with_reducible apply foldl_keeps | dsimp only | split)
theorem execClockLoss_foot {w : Nat} (h : 66121954 &&& w = 66121954) (clk : Fin 8) (t : Nat) (s : State) :
    keepsOutcome w (s.mask w) (execClockLoss clk t s) := by
  refine keepsOutcome_mono h ?_
  unfold execClockLoss
  repeat' (first | with_reducible rfl | assumption | (intro _) | with_reducible refine ite_keeps ?_ ?_ | with_reducible refine ite_answer ?_ ?_ | with_reducible apply checked_keeps | with_reducible apply withCtx_keeps | with_reducible apply withQueue_keeps | with_reducible apply corrCmd_keeps | (simp only [mask_set_128, foldl_mask, advTo_foot, faultOk_foot, settleAon_foot, detectFault_foot, loseLref_foot, keeps_ok, keeps_started, keeps_fail, keeps_failWith, keeps_wait, keeps_next, Nat.reduceAnd]) | with_reducible apply foldl_keeps | dsimp only | split)
theorem execSysclkHoldoverEnd_foot {w : Nat} (h : 160 &&& w = 160) (s : State) :
    keepsOutcome w (s.mask w) (execSysclkHoldoverEnd s) := by
  refine keepsOutcome_mono h ?_
  unfold execSysclkHoldoverEnd
  repeat' (first | with_reducible rfl | assumption | (intro _) | with_reducible refine ite_keeps ?_ ?_ | with_reducible refine ite_answer ?_ ?_ | with_reducible apply checked_keeps | with_reducible apply withCtx_keeps | with_reducible apply withQueue_keeps | with_reducible apply corrCmd_keeps | (simp only [mask_set_128, foldl_mask, advTo_foot, keeps_ok, keeps_started, keeps_fail, keeps_failWith, keeps_wait, keeps_next, Nat.reduceAnd]) | with_reducible apply foldl_keeps | dsimp only | split)
theorem stopValves_foot {w : Nat} (h : 549755814018 &&& w = 549755814018) (s : State) :
    (stopValves s).mask w = s.mask w := by
  refine mask_mono h ?_
  unfold stopValves
  repeat' (first | with_reducible rfl | assumption | (intro _) | with_reducible refine ite_keeps ?_ ?_ | with_reducible refine ite_answer ?_ ?_ | with_reducible apply checked_keeps | with_reducible apply withCtx_keeps | with_reducible apply withQueue_keeps | with_reducible apply corrCmd_keeps | (simp only [mask_set_549755814016, foldl_mask, stopPorts_foot, keeps_ok, keeps_started, keeps_fail, keeps_failWith, keeps_wait, keeps_next, Nat.reduceAnd]) | with_reducible apply foldl_keeps | dsimp only | split)
theorem execSupplyExcursion_foot {w : Nat} (h : 549793624290 &&& w = 549793624290) (rail : Fin 9) (a1 : SupplyWindow) (t : Nat) (s : State) :
    keepsOutcome w (s.mask w) (execSupplyExcursion rail a1 t s) := by
  refine keepsOutcome_mono h ?_
  unfold execSupplyExcursion
  repeat' (first | with_reducible rfl | assumption | (intro _) | with_reducible refine ite_keeps ?_ ?_ | with_reducible refine ite_answer ?_ ?_ | with_reducible apply checked_keeps | with_reducible apply withCtx_keeps | with_reducible apply withQueue_keeps | with_reducible apply corrCmd_keeps | (simp only [mask_set_128, foldl_mask, advTo_foot, faultOk_foot, detectFault_foot, stopValves_foot, keeps_ok, keeps_started, keeps_fail, keeps_failWith, keeps_wait, keeps_next, Nat.reduceAnd]) | with_reducible apply foldl_keeps | dsimp only | split)
theorem execFlashFault_foot {w : Nat} (h : 37810274 &&& w = 37810274) (region : Nat) (t : Nat) (s : State) :
    keepsOutcome w (s.mask w) (execFlashFault region t s) := by
  refine keepsOutcome_mono h ?_
  unfold execFlashFault
  repeat' (first | with_reducible rfl | assumption | (intro _) | with_reducible refine ite_keeps ?_ ?_ | with_reducible refine ite_answer ?_ ?_ | with_reducible apply checked_keeps | with_reducible apply withCtx_keeps | with_reducible apply withQueue_keeps | with_reducible apply corrCmd_keeps | (simp only [foldl_mask, advTo_foot, detectFault_foot, keeps_ok, keeps_started, keeps_fail, keeps_failWith, keeps_wait, keeps_next, Nat.reduceAnd]) | with_reducible apply foldl_keeps | dsimp only | split)
theorem execFaultRaised_foot {w : Nat} (h : 1097794 &&& w = 1097794) (s : State) :
    keepsOutcome w (s.mask w) (execFaultRaised s) := by
  refine keepsOutcome_mono h ?_
  unfold execFaultRaised
  repeat' (first | with_reducible rfl | assumption | (intro _) | with_reducible refine ite_keeps ?_ ?_ | with_reducible refine ite_answer ?_ ?_ | with_reducible apply checked_keeps | with_reducible apply withCtx_keeps | with_reducible apply withQueue_keeps | with_reducible apply corrCmd_keeps | (simp only [mask_set_16384, foldl_mask, raiseAt_foot, modKeeper_foot, keeps_ok, keeps_started, keeps_fail, keeps_failWith, keeps_wait, keeps_next, Nat.reduceAnd]) | with_reducible apply foldl_keeps | dsimp only | split)
theorem execFaultCleared_foot {w : Nat} (h : 38842466 &&& w = 38842466) (cls : Fin 13) (unit : Nat) (t : Nat) (s : State) :
    keepsOutcome w (s.mask w) (execFaultCleared cls unit t s) := by
  refine keepsOutcome_mono h ?_
  unfold execFaultCleared
  repeat' (first | with_reducible rfl | assumption | (intro _) | with_reducible refine ite_keeps ?_ ?_ | with_reducible refine ite_answer ?_ ?_ | with_reducible apply checked_keeps | with_reducible apply withCtx_keeps | with_reducible apply withQueue_keeps | with_reducible apply corrCmd_keeps | (simp only [foldl_mask, advTo_foot, resolveFault_foot, keeps_ok, keeps_started, keeps_fail, keeps_failWith, keeps_wait, keeps_next, Nat.reduceAnd]) | with_reducible apply foldl_keeps | dsimp only | split)
theorem execKeeperSleep_foot {w : Nat} (h : 96 &&& w = 96) (t : Nat) (s : State) :
    keepsOutcome w (s.mask w) (execKeeperSleep t s) := by
  refine keepsOutcome_mono h ?_
  unfold execKeeperSleep
  repeat' (first | with_reducible rfl | assumption | (intro _) | with_reducible refine ite_keeps ?_ ?_ | with_reducible refine ite_answer ?_ ?_ | with_reducible apply checked_keeps | with_reducible apply withCtx_keeps | with_reducible apply withQueue_keeps | with_reducible apply corrCmd_keeps | (simp only [foldl_mask, advTo_foot, modKeeper_foot, keeps_ok, keeps_started, keeps_fail, keeps_failWith, keeps_wait, keeps_next, Nat.reduceAnd]) | with_reducible apply foldl_keeps | dsimp only | split)
theorem tempSecond_foot {w : Nat} (h : 64 &&& w = 64) (i : Nat) (s : State) :
    (tempSecond i s).mask w = s.mask w := by
  refine mask_mono h ?_
  unfold tempSecond
  repeat' (first | with_reducible rfl | assumption | (intro _) | with_reducible refine ite_keeps ?_ ?_ | with_reducible refine ite_answer ?_ ?_ | with_reducible apply checked_keeps | with_reducible apply withCtx_keeps | with_reducible apply withQueue_keeps | with_reducible apply corrCmd_keeps | (simp only [foldl_mask, honey_foot, keeps_ok, keeps_started, keeps_fail, keeps_failWith, keeps_wait, keeps_next, Nat.reduceAnd]) | with_reducible apply foldl_keeps | dsimp only | split)
theorem execKeeperTick_foot {w : Nat} (h : 134217920 &&& w = 134217920) (s : State) :
    keepsOutcome w (s.mask w) (execKeeperTick s) := by
  refine keepsOutcome_mono h ?_
  unfold execKeeperTick
  repeat' (first | with_reducible rfl | assumption | (intro _) | with_reducible refine ite_keeps ?_ ?_ | with_reducible refine ite_answer ?_ ?_ | with_reducible apply checked_keeps | with_reducible apply withCtx_keeps | with_reducible apply withQueue_keeps | with_reducible apply corrCmd_keeps | (simp only [foldl_mask, keeperWork_foot, modKeeper_foot, addSeconds_foot, tempSecond_foot, combSecond_foot, keeps_ok, keeps_started, keeps_fail, keeps_failWith, keeps_wait, keeps_next, Nat.reduceAnd]) | with_reducible apply foldl_keeps | dsimp only | split)
theorem tempReading_foot {w : Nat} (h : 1081410 &&& w = 1081410) (i : Nat) (v : Int) (s : State) :
    (tempReading i v s).mask w = s.mask w := by
  refine mask_mono h ?_
  unfold tempReading
  repeat' (first | with_reducible rfl | assumption | (intro _) | with_reducible refine ite_keeps ?_ ?_ | with_reducible refine ite_answer ?_ ?_ | with_reducible apply checked_keeps | with_reducible apply withCtx_keeps | with_reducible apply withQueue_keeps | with_reducible apply corrCmd_keeps | (simp only [foldl_mask, raise_foot, modKeeper_foot, keeps_ok, keeps_started, keeps_fail, keeps_failWith, keeps_wait, keeps_next, Nat.reduceAnd]) | with_reducible apply foldl_keeps | dsimp only | split)
theorem voltReading_foot {w : Nat} (h : 64 &&& w = 64) (i : Nat) (v : Nat) (s : State) :
    (voltReading i v s).mask w = s.mask w := by
  refine mask_mono h ?_
  unfold voltReading
  repeat' (first | with_reducible rfl | assumption | (intro _) | with_reducible refine ite_keeps ?_ ?_ | with_reducible refine ite_answer ?_ ?_ | with_reducible apply checked_keeps | with_reducible apply withCtx_keeps | with_reducible apply withQueue_keeps | with_reducible apply corrCmd_keeps | (simp only [foldl_mask, honey_foot, modKeeper_foot, keeps_ok, keeps_started, keeps_fail, keeps_failWith, keeps_wait, keeps_next, Nat.reduceAnd]) | with_reducible apply foldl_keeps | dsimp only | split)
theorem railReading_foot {w : Nat} (h : 1081410 &&& w = 1081410) (i : Nat) (mw : Nat) (s : State) :
    (railReading i mw s).mask w = s.mask w := by
  refine mask_mono h ?_
  unfold railReading
  repeat' (first | with_reducible rfl | assumption | (intro _) | with_reducible refine ite_keeps ?_ ?_ | with_reducible refine ite_answer ?_ ?_ | with_reducible apply checked_keeps | with_reducible apply withCtx_keeps | with_reducible apply withQueue_keeps | with_reducible apply corrCmd_keeps | (simp only [foldl_mask, modKeeper_foot, raise_foot, keeps_ok, keeps_started, keeps_fail, keeps_failWith, keeps_wait, keeps_next, Nat.reduceAnd]) | with_reducible apply foldl_keeps | dsimp only | split)
theorem execSensorSample_foot {w : Nat} (h : 1081410 &&& w = 1081410) (temps : List Int) (volts : List Nat) (railMw : List Nat) (s : State) :
    keepsOutcome w (s.mask w) (execSensorSample temps volts railMw s) := by
  refine keepsOutcome_mono h ?_
  unfold execSensorSample
  repeat' (first | with_reducible rfl | assumption | (intro _) | with_reducible refine ite_keeps ?_ ?_ | with_reducible refine ite_answer ?_ ?_ | with_reducible apply checked_keeps | with_reducible apply withCtx_keeps | with_reducible apply withQueue_keeps | with_reducible apply corrCmd_keeps | (simp only [foldl_mask, tempReading_foot, voltReading_foot, railReading_foot, modKeeper_foot, keeps_ok, keeps_started, keeps_fail, keeps_failWith, keeps_wait, keeps_next, Nat.reduceAnd]) | with_reducible apply foldl_keeps | dsimp only | split)
theorem programEntry_foot {w : Nat} (h : 4162 &&& w = 4162) (e : LogEntry) (s : State) :
    (programEntry e s).mask w = s.mask w := by
  refine mask_mono h ?_
  unfold programEntry
  repeat' (first | with_reducible rfl | assumption | (intro _) | with_reducible refine ite_keeps ?_ ?_ | with_reducible refine ite_answer ?_ ?_ | with_reducible apply checked_keeps | with_reducible apply withCtx_keeps | with_reducible apply withQueue_keeps | with_reducible apply corrCmd_keeps | (simp only [foldl_mask, countErase_foot, emit_foot, flashOk_foot, modKeeper_foot, keeps_ok, keeps_started, keeps_fail, keeps_failWith, keeps_wait, keeps_next, Nat.reduceAnd]) | with_reducible apply foldl_keeps | dsimp only | split)
theorem execLogEntryProgram_foot {w : Nat} (h : 4162 &&& w = 4162) (s : State) :
    keepsOutcome w (s.mask w) (execLogEntryProgram s) := by
  refine keepsOutcome_mono h ?_
  unfold execLogEntryProgram
  repeat' (first | with_reducible rfl | assumption | (intro _) | with_reducible refine ite_keeps ?_ ?_ | with_reducible refine ite_answer ?_ ?_ | with_reducible apply checked_keeps | with_reducible apply withCtx_keeps | with_reducible apply withQueue_keeps | with_reducible apply corrCmd_keeps | (simp only [foldl_mask, programEntry_foot, modKeeper_foot, keeps_ok, keeps_started, keeps_fail, keeps_failWith, keeps_wait, keeps_next, Nat.reduceAnd]) | with_reducible apply foldl_keeps | dsimp only | split)
theorem sendHoneySummary_foot {w : Nat} (h : 37748800 &&& w = 37748800) (s : State) :
    (sendHoneySummary s).mask w = s.mask w := by
  refine mask_mono h ?_
  unfold sendHoneySummary
  repeat' (first | with_reducible rfl | assumption | (intro _) | with_reducible refine ite_keeps ?_ ?_ | with_reducible refine ite_answer ?_ ?_ | with_reducible apply checked_keeps | with_reducible apply withCtx_keeps | with_reducible apply withQueue_keeps | with_reducible apply corrCmd_keeps | (simp only [foldl_mask, toManager_foot, keeps_ok, keeps_started, keeps_fail, keeps_failWith, keeps_wait, keeps_next, Nat.reduceAnd]) | with_reducible apply foldl_keeps | dsimp only | split)
theorem execHoneySave_foot {w : Nat} (h : 37753058 &&& w = 37753058) (s : State) :
    keepsOutcome w (s.mask w) (execHoneySave s) := by
  refine keepsOutcome_mono h ?_
  unfold execHoneySave
  repeat' (first | with_reducible rfl | assumption | (intro _) | with_reducible refine ite_keeps ?_ ?_ | with_reducible refine ite_answer ?_ ?_ | with_reducible apply checked_keeps | with_reducible apply withCtx_keeps | with_reducible apply withQueue_keeps | with_reducible apply corrCmd_keeps | (simp only [foldl_mask, advTo_foot, sendHoneySummary_foot, saveHoney_foot, modKeeper_foot, keeps_ok, keeps_started, keeps_fail, keeps_failWith, keeps_wait, keeps_next, Nat.reduceAnd]) | with_reducible apply foldl_keeps | dsimp only | split)
theorem execThermalTrip_foot {w : Nat} (h : 17592186044414 &&& w = 17592186044414) (_sensor : Fin 32) (reading : Int) (s : State) :
    keepsOutcome w (s.mask w) (execThermalTrip _sensor reading s) := by
  refine keepsOutcome_mono h ?_
  unfold execThermalTrip
  repeat' (first | with_reducible rfl | assumption | (intro _) | with_reducible refine ite_keeps ?_ ?_ | with_reducible refine ite_answer ?_ ?_ | with_reducible apply checked_keeps | with_reducible apply withCtx_keeps | with_reducible apply withQueue_keeps | with_reducible apply corrCmd_keeps | (simp only [mask_set_128, foldl_mask, wipe_foot, emit_foot, keeps_ok, keeps_started, keeps_fail, keeps_failWith, keeps_wait, keeps_next, Nat.reduceAnd]) | with_reducible apply foldl_keeps | dsimp only | split)

end Sys2Proof.Machine
end

