-- ==== Sys2Proof/Laws/Foot18.lean ====
section
/-! SUPPORT. What each operation leaves as it was, part 18 of 18: of state `s` it changes no field outside the set of its
footprint (a bit for each field, in the order of Field). -/
set_option linter.all false
set_option maxRecDepth 4000
open Sys2Proof Sys2Proof.Machine
namespace Sys2Proof.Machine

theorem execThermalTripClear_foot {w : Nat} (h : 17592186044414 &&& w = 17592186044414) (c : TripClear) (s : State) :
    keepsOutcome w (s.mask w) (execThermalTripClear c s) := by
  refine keepsOutcome_mono h ?_
  unfold execThermalTripClear
  repeat' (first | with_reducible rfl | assumption | (intro _) | with_reducible refine ite_keeps ?_ ?_ | with_reducible refine ite_answer ?_ ?_ | with_reducible apply checked_keeps | with_reducible apply withCtx_keeps | with_reducible apply withQueue_keeps | with_reducible apply corrCmd_keeps | (simp only [mask_set_128, foldl_mask, clearTrip_foot, wipe_foot, modKeeper_foot, keeps_ok, keeps_started, keeps_fail, keeps_failWith, keeps_wait, keeps_next, Nat.reduceAnd]) | with_reducible apply foldl_keeps | dsimp only | split)
theorem execVddAonRise_foot {w : Nat} (h : 192 &&& w = 192) (s : State) :
    keepsOutcome w (s.mask w) (execVddAonRise s) := by
  refine keepsOutcome_mono h ?_
  unfold execVddAonRise
  repeat' (first | with_reducible rfl | assumption | (intro _) | with_reducible refine ite_keeps ?_ ?_ | with_reducible refine ite_answer ?_ ?_ | with_reducible apply checked_keeps | with_reducible apply withCtx_keeps | with_reducible apply withQueue_keeps | with_reducible apply corrCmd_keeps | (simp only [mask_set_128, foldl_mask, honey_foot, keeps_ok, keeps_started, keeps_fail, keeps_failWith, keeps_wait, keeps_next, Nat.reduceAnd]) | with_reducible apply foldl_keeps | dsimp only | split)
theorem execDozeResumeDone_foot {w : Nat} (h : 2097184 &&& w = 2097184) (l : LaneId) (t : Nat) (s : State) :
    keepsOutcome w (s.mask w) (execDozeResumeDone l t s) := by
  refine keepsOutcome_mono h ?_
  unfold execDozeResumeDone
  repeat' (first | with_reducible rfl | assumption | (intro _) | with_reducible refine ite_keeps ?_ ?_ | with_reducible refine ite_answer ?_ ?_ | with_reducible apply checked_keeps | with_reducible apply withCtx_keeps | with_reducible apply withQueue_keeps | with_reducible apply corrCmd_keeps | (simp only [foldl_mask, advTo_foot, modLane_foot, keeps_ok, keeps_started, keeps_fail, keeps_failWith, keeps_wait, keeps_next, Nat.reduceAnd]) | with_reducible apply foldl_keeps | dsimp only | split)
theorem execClockReturn_foot {w : Nat} (h : 4256 &&& w = 4256) (clk : Fin 8) (t : Nat) (s : State) :
    keepsOutcome w (s.mask w) (execClockReturn clk t s) := by
  refine keepsOutcome_mono h ?_
  unfold execClockReturn
  repeat' (first | with_reducible rfl | assumption | (intro _) | with_reducible refine ite_keeps ?_ ?_ | with_reducible refine ite_answer ?_ ?_ | with_reducible apply checked_keeps | with_reducible apply withCtx_keeps | with_reducible apply withQueue_keeps | with_reducible apply corrCmd_keeps | (simp only [mask_set_128, foldl_mask, advTo_foot, settleAon_foot, faultOk_foot, keeps_ok, keeps_started, keeps_fail, keeps_failWith, keeps_wait, keeps_next, Nat.reduceAnd]) | with_reducible apply foldl_keeps | dsimp only | split)
theorem execSupplyReturn_foot {w : Nat} (h : 4256 &&& w = 4256) (rail : Fin 9) (t : Nat) (s : State) :
    keepsOutcome w (s.mask w) (execSupplyReturn rail t s) := by
  refine keepsOutcome_mono h ?_
  unfold execSupplyReturn
  repeat' (first | with_reducible rfl | assumption | (intro _) | with_reducible refine ite_keeps ?_ ?_ | with_reducible refine ite_answer ?_ ?_ | with_reducible apply checked_keeps | with_reducible apply withCtx_keeps | with_reducible apply withQueue_keeps | with_reducible apply corrCmd_keeps | (simp only [mask_set_128, foldl_mask, advTo_foot, faultOk_foot, keeps_ok, keeps_started, keeps_fail, keeps_failWith, keeps_wait, keeps_next, Nat.reduceAnd]) | with_reducible apply foldl_keeps | dsimp only | split)
theorem fabricClock_foot {w : Nat} (h : 32 &&& w = 32) (s : State) :
    (fabricClock s).mask w = s.mask w := by
  refine mask_mono h ?_
  unfold fabricClock
  repeat' (first | with_reducible rfl | assumption | (intro _) | with_reducible refine ite_keeps ?_ ?_ | with_reducible refine ite_answer ?_ ?_ | with_reducible apply checked_keeps | with_reducible apply withCtx_keeps | with_reducible apply withQueue_keeps | with_reducible apply corrCmd_keeps | (simp only [mask_set_32, foldl_mask, keeps_ok, keeps_started, keeps_fail, keeps_failWith, keeps_wait, keeps_next, Nat.reduceAnd]) | with_reducible apply foldl_keeps | dsimp only | split)
theorem idleTick_foot {w : Nat} (h : 17590038560766 &&& w = 17590038560766) (s : State) : (idleTick s).mask w = s.mask w := by
  refine mask_mono h ?_
  unfold idleTick
  simp only [takeVc3_foot, fabricClock_foot, Nat.reduceAnd]

end Sys2Proof.Machine
end

