-- ==== Sys2Proof/Laws/FrameCode.lean ====
section
/-! SUPPORT. One whole frame of the Abaend link that decodes (R56 to R60): 80 content blocks of header 01 with payload bits
of 0, their parity and its five blocks, as the symbols of an NRZ rate; the witness for statements about received frames. -/
set_option maxRecDepth 4000
set_option linter.all false
open Sys2Proof Sys2Proof.Machine
namespace Sys2Proof.Laws

/-- A content block with header 01 and payload bits of 0. -/
def oneBlock : List Bool := [false, true] ++ List.replicate 64 false
/-- The code symbols of a frame of 80 such blocks, with its parity. -/
def frameCode : List Nat :=
  (List.replicate 16 [256, 0, 0, 0, 0, 0, 4, 0, 0, 0, 0, 0, 0, 64, 0, 0, 0, 0, 0, 1, 0, 0, 0, 0, 0, 0, 16, 0, 0, 0, 0, 0, 0]).flatten ++ frameParity
where frameParity :=
  [43, 216, 382, 996, 164, 925, 881, 5, 781, 666, 373, 992, 717, 832, 34, 482, 297, 831, 808, 67, 974, 345, 947, 917, 331, 175,
   436, 651, 942, 30, 306, 766]
/-- Its five parity blocks. -/
def parityBits : List Bool := (pieces 64 5 ((frameCode.drop 528).flatMap (bitsMsb 10))).flatMap fun p => [true, true] ++ p
/-- Its symbols at an NRZ rate. -/
def goodFrame : List (Fin 4) := ((List.replicate 80 oneBlock).flatten ++ parityBits).map fun b => if b then 3 else 0
/-- foldl that evaluates its value at each step. -/
def strictFold (f : Nat → Nat → Nat) : Nat → List Nat → Nat
  | a, [] => a
  | a, x :: r => match f a x with
    | 0 => strictFold f 0 r
    | n + 1 => strictFold f (n + 1) r
theorem strictFold_eq (f : Nat → Nat → Nat) : ∀ (l : List Nat) (a : Nat), strictFold f a l = l.foldl f a := by
  intro l
  induction l with
  | nil => intro a; rfl
  | cons x r ih =>
    intro a
    rw [List.foldl_cons, ← ih]
    show (match f a x with
      | 0 => strictFold f 0 r
      | n + 1 => strictFold f (n + 1) r) = _
    split <;> simp_all
theorem frameCode_syndromes : (syndromes frameCode).all (· == 0) = true := by
  have h : (alphaPows 32 1).all (fun x => strictFold (fun a k => gfMul a x ^^^ k) 0 frameCode == 0) = true := by decide +kernel
  simpa [syndromes, gfEval, ← strictFold_eq] using h
theorem pieces_append {α : Type} (n : Nat) (b : Nat) (y : List α) (hn : 0 < n) :
    ∀ (a : Nat) (x : List α), x.length = n * a → pieces n (a + b) (x ++ y) = pieces n a x ++ pieces n b y := by
  intro a
  induction a with
  | zero => intro x h; have : x = [] := List.eq_nil_of_length_eq_zero (by omega); subst this; simp [pieces]
  | succ a ih =>
    intro x h
    rw [Nat.mul_add] at h
    cases x with
    | nil => simp at h; omega
    | cons c x =>
      have e : a + 1 + b = (a + b) + 1 := by omega
      have h2 : ((c :: x).drop n).length = n * a := by rw [List.length_drop]; omega
      rw [e]
      show (c :: x ++ y).take n :: pieces n (a + b) ((c :: x ++ y).drop n) = _
      rw [List.take_append_of_le_length (by omega), List.drop_append_of_le_length (by omega), ih _ h2]
      rfl
theorem pieces_replicate {α : Type} (n m : Nat) (x : List α) (hn : 0 < n) (h : x.length = n * m) :
    ∀ k, pieces n (m * k) (List.replicate k x).flatten = (List.replicate k (pieces n m x)).flatten := by
  intro k
  induction k with
  | zero => rfl
  | succ k ih => rw [List.replicate_succ, List.flatten_cons, Nat.mul_succ, Nat.add_comm, pieces_append n _ _ hn m x h, ih]; rfl
theorem replicate_five {α : Type} (x : List α) : (List.replicate 80 x).flatten = (List.replicate 16 (List.replicate 5 x).flatten).flatten := by
  simp [List.replicate, List.append_assoc]
theorem goodFrame_bits : rxBits false false false 0 goodFrame = (List.replicate 80 oneBlock).flatten ++ parityBits := by
  have : ∀ l : List Bool, (l.map fun b => if b then (3 : Fin 4) else 0).map nrzBit = l := by
    intro l
    induction l with
    | nil => rfl
    | cons b r ih => simp only [List.map_cons, ih]; cases b <;> rfl
  exact this _
theorem blocks_length : ((List.replicate 80 oneBlock).flatten).length = 66 * 80 := by
  have h : oneBlock.length = 66 := rfl
  simp [h]
theorem goodFrame_blocks : frameBlocks (rxBits false false false 0 goodFrame) =
    List.replicate 80 (1, List.replicate 64 false) ++ (pieces 66 5 parityBits).map fun b => (msbFirst (b.take 2), b.drop 2) := by
  rw [goodFrame_bits]; unfold frameBlocks
  have h : pieces 66 80 (List.replicate 80 oneBlock).flatten = List.replicate 80 oneBlock := by
    have h2 := pieces_replicate 66 1 oneBlock (by decide) (by rfl) 80
    have h3 : pieces 66 1 oneBlock = [oneBlock] := by rfl
    rw [h3] at h2; simpa using h2
  rw [show 85 = 80 + 5 by rfl, pieces_append 66 5 parityBits (by decide) 80 _ blocks_length, h, List.map_append, List.map_replicate]
  rfl
theorem goodFrame_code : codeSymbols (frameBlocks (rxBits false false false 0 goodFrame)) = frameCode := by
  rw [goodFrame_blocks]; simp only [codeSymbols]
  rw [List.take_append_of_le_length (by simp), List.drop_append_of_le_length (by simp),
    List.take_of_length_le (by simp), List.drop_of_length_le (by simp), List.nil_append, List.flatMap_def, List.map_replicate]
  show (pieces 10 528 (List.replicate 80 oneBlock).flatten).map msbFirst ++ _ = _
  rw [replicate_five, show 528 = 33 * 16 by rfl, pieces_replicate 10 33 _ (by decide) (by decide +kernel), List.map_flatten, List.map_replicate]
  have h1 : (pieces 10 33 (List.replicate 5 oneBlock).flatten).map msbFirst =
      [256, 0, 0, 0, 0, 0, 4, 0, 0, 0, 0, 0, 0, 64, 0, 0, 0, 0, 0, 1, 0, 0, 0, 0, 0, 0, 16, 0, 0, 0, 0, 0, 0] := by decide +kernel
  have h2 : (pieces 10 32 (((pieces 66 5 parityBits).map fun b => (msbFirst (b.take 2), b.drop 2)).flatMap (·.2))).map msbFirst =
      frameCode.frameParity := by decide +kernel
  rw [h1, h2]; rfl
theorem rsDecode_codeword (c : List Nat) (h : (syndromes c).all (· == 0) = true) : rsDecode c = some (c, 0) := by
  simp only [rsDecode, h, if_true]
theorem goodFrame_mismatches : mismatches ((frameBlocks (rxBits false false false 0 goodFrame)).map (·.1)) = 0 := by
  rw [goodFrame_blocks, List.map_append, List.map_replicate]; decide +kernel
theorem goodFrame_decodes : decodeFrame (rxBits false false false 0 goodFrame) = (0, some (contentOf frameCode, 0)) := by
  unfold decodeFrame
  generalize h : frameBlocks (rxBits false false false 0 goodFrame) = y
  have h1 : codeSymbols y = frameCode := by rw [← h]; exact goodFrame_code
  have h2 : mismatches (y.map (·.1)) = 0 := by rw [← h]; exact goodFrame_mismatches
  simp only [h1, h2, rsDecode_codeword _ frameCode_syndromes, Option.map_some]
theorem frameCode_headers : ∀ e ∈ contentOf frameCode, e.1 = 1 ∨ e.1 = 2 := by decide +kernel
theorem goodFrame_length : goodFrame.length = 5610 := by decide +kernel

end Sys2Proof.Laws
end

