-- ==== Sys2Proof/Laws/State.lean ====
section
/-! SUPPORT. Laws of tables, of the units of State, and of the operations that change one of them: what each leaves as it
was, and what it puts. -/
set_option linter.all false
namespace Sys2Proof

/-- What was put is found. -/
@[simp] theorem Table.find_put {α : Type} (t : Table α) (k : Nat) (v : α) : (t.put k v).find k = some v := by
  induction t with
  | nil => simp [Table.put, Table.find]
  | cons e t ih =>
    obtain ⟨j, w⟩ := e
    unfold Table.put
    split
    · simp [Table.find]
    · split
      · simp [Table.find]
      · next h => simp [Table.find, Ne.symm h, ih]
/-- Other places keep what they held. -/
theorem Table.find_put_ne {α : Type} (t : Table α) (k j : Nat) (v : α) (h : j ≠ k) : (t.put k v).find j = t.find j := by
  induction t with
  | nil => simp [Table.put, Table.find, Ne.symm h]
  | cons e t ih =>
    obtain ⟨i, w⟩ := e
    unfold Table.put
    split
    · simp [Table.find, Ne.symm h]
    · split
      · next h2 => subst h2; simp [Table.find, Ne.symm h]
      · simp [Table.find, ih]
@[simp] theorem Table.getD_put {α : Type} (t : Table α) (k : Nat) (v d : α) : (t.put k v).getD k d = v := by
  simp [Table.getD]
theorem Table.getD_put_ne {α : Type} (t : Table α) (k j : Nat) (v d : α) (h : j ≠ k) : (t.put k v).getD j d = t.getD j d := by
  simp [Table.getD, Table.find_put_ne t k j v h]
/-- What was erased is not found. -/
@[simp] theorem Table.find_erase {α : Type} (t : Table α) (k : Nat) : (t.erase k).find k = none := by
  induction t with
  | nil => rfl
  | cons e t ih =>
    obtain ⟨j, w⟩ := e
    unfold Table.erase
    split
    · exact ih
    · next h => simp [Table.find, h, ih]
theorem Table.find_erase_ne {α : Type} (t : Table α) (k j : Nat) (h : j ≠ k) : (t.erase k).find j = t.find j := by
  induction t with
  | nil => rfl
  | cons e t ih =>
    obtain ⟨i, w⟩ := e
    unfold Table.erase
    split
    · next h2 => subst h2; simp [Table.find, Ne.symm h, ih]
    · simp [Table.find, ih]

namespace Machine

@[simp] theorem modHp_frame (f : Nat) (g : HostPort → HostPort) (s : State) :
    (modHp f g s).pending = s.pending ∧ (modHp f g s).out = s.out ∧ (modHp f g s).freeCtr = s.freeCtr ∧ (modHp f g s).pace = s.pace ∧
    (modHp f g s).sys = s.sys ∧ (modHp f g s).clock = s.clock ∧ (modHp f g s).keeper = s.keeper ∧ (modHp f g s).mon = s.mon ∧
    (modHp f g s).power = s.power ∧ (modHp f g s).trust = s.trust ∧ (modHp f g s).banks = s.banks ∧ (modHp f g s).window = s.window ∧
    (modHp f g s).faults = s.faults ∧ (modHp f g s).faultBits = s.faultBits ∧ (modHp f g s).faultReports = s.faultReports ∧ (modHp f g s).mbxs = s.mbxs ∧
    (modHp f g s).goOrder = s.goOrder ∧ (modHp f g s).waiting = s.waiting ∧ (modHp f g s).deviceId = s.deviceId ∧ (modHp f g s).queues = s.queues ∧
    (modHp f g s).lanes = s.lanes ∧ (modHp f g s).links = s.links ∧ (modHp f g s).plls = s.plls ∧ (modHp f g s).eths = s.eths ∧
    (modHp f g s).hive = s.hive ∧ (modHp f g s).ctxs = s.ctxs ∧ (modHp f g s).combs = s.combs ∧ (modHp f g s).parts = s.parts ∧
    (modHp f g s).stitches = s.stitches ∧ (modHp f g s).frags = s.frags ∧ (modHp f g s).fragIds = s.fragIds ∧ (modHp f g s).staging = s.staging ∧
    (modHp f g s).asms = s.asms ∧ (modHp f g s).pgs = s.pgs ∧ (modHp f g s).pgCounts = s.pgCounts ∧ (modHp f g s).ctxSteer = s.ctxSteer ∧
    (modHp f g s).pend = s.pend ∧ (modHp f g s).flight = s.flight ∧ (modHp f g s).vps = s.vps ∧ (modHp f g s).encs = s.encs ∧
    (modHp f g s).emus = s.emus ∧ (modHp f g s).pins = s.pins ∧ (modHp f g s).wag = s.wag := by
  exact ⟨rfl, rfl, rfl, rfl, rfl, rfl, rfl, rfl, rfl, rfl, rfl, rfl, rfl, rfl, rfl, rfl, rfl, rfl, rfl, rfl, rfl, rfl, rfl, rfl, rfl, rfl, rfl, rfl, rfl, rfl, rfl, rfl, rfl, rfl, rfl, rfl, rfl, rfl, rfl, rfl, rfl, rfl, rfl⟩
@[simp] theorem modHp_units (f : Nat) (g : HostPort → HostPort) (s : State) :
    (∀ i j, (modHp f g s).mbx i j = s.mbx i j) ∧ (∀ i, (modHp f g s).lane i = s.lane i) ∧ (∀ i, (modHp f g s).link i = s.link i) ∧
    (∀ i, (modHp f g s).eth i = s.eth i) ∧ (∀ i j, (modHp f g s).pll i j = s.pll i j) ∧ (∀ i, (modHp f g s).pin i = s.pin i) ∧
    (∀ i, (modHp f g s).enc i = s.enc i) ∧ (∀ i, (modHp f g s).emu i = s.emu i) ∧ (∀ i, (modHp f g s).chan i = s.chan i) ∧
    (∀ i, (modHp f g s).wgInput i = s.wgInput i) ∧ (∀ i, (modHp f g s).wgGroup i = s.wgGroup i) ∧ (∀ i, (modHp f g s).asm i = s.asm i) ∧
    (∀ i, (modHp f g s).comb i = s.comb i) ∧ (∀ i, (modHp f g s).vp i = s.vp i) ∧ (∀ i, (modHp f g s).bank i = s.bank i) ∧
    (∀ i, (modHp f g s).ctx i = s.ctx i) ∧ (∀ i, (modHp f g s).queue i = s.queue i) ∧ (modHp f g s).now = s.now := by
  exact ⟨fun _ _ => rfl, fun _ => rfl, fun _ => rfl, fun _ => rfl, fun _ _ => rfl, fun _ => rfl, fun _ => rfl, fun _ => rfl, fun _ => rfl, fun _ => rfl, fun _ => rfl, fun _ => rfl, fun _ => rfl, fun _ => rfl, fun _ => rfl, fun _ => rfl, fun _ => rfl, rfl⟩
@[simp] theorem modMbx_frame (f m : Nat) (g : Mailbox → Mailbox) (s : State) :
    (modMbx f m g s).pending = s.pending ∧ (modMbx f m g s).out = s.out ∧ (modMbx f m g s).freeCtr = s.freeCtr ∧ (modMbx f m g s).pace = s.pace ∧
    (modMbx f m g s).sys = s.sys ∧ (modMbx f m g s).clock = s.clock ∧ (modMbx f m g s).keeper = s.keeper ∧ (modMbx f m g s).mon = s.mon ∧
    (modMbx f m g s).power = s.power ∧ (modMbx f m g s).trust = s.trust ∧ (modMbx f m g s).banks = s.banks ∧ (modMbx f m g s).window = s.window ∧
    (modMbx f m g s).faults = s.faults ∧ (modMbx f m g s).faultBits = s.faultBits ∧ (modMbx f m g s).faultReports = s.faultReports ∧ (modMbx f m g s).hps = s.hps ∧
    (modMbx f m g s).goOrder = s.goOrder ∧ (modMbx f m g s).waiting = s.waiting ∧ (modMbx f m g s).deviceId = s.deviceId ∧ (modMbx f m g s).queues = s.queues ∧
    (modMbx f m g s).lanes = s.lanes ∧ (modMbx f m g s).links = s.links ∧ (modMbx f m g s).plls = s.plls ∧ (modMbx f m g s).eths = s.eths ∧
    (modMbx f m g s).hive = s.hive ∧ (modMbx f m g s).ctxs = s.ctxs ∧ (modMbx f m g s).combs = s.combs ∧ (modMbx f m g s).parts = s.parts ∧
    (modMbx f m g s).stitches = s.stitches ∧ (modMbx f m g s).frags = s.frags ∧ (modMbx f m g s).fragIds = s.fragIds ∧ (modMbx f m g s).staging = s.staging ∧
    (modMbx f m g s).asms = s.asms ∧ (modMbx f m g s).pgs = s.pgs ∧ (modMbx f m g s).pgCounts = s.pgCounts ∧ (modMbx f m g s).ctxSteer = s.ctxSteer ∧
    (modMbx f m g s).pend = s.pend ∧ (modMbx f m g s).flight = s.flight ∧ (modMbx f m g s).vps = s.vps ∧ (modMbx f m g s).encs = s.encs ∧
    (modMbx f m g s).emus = s.emus ∧ (modMbx f m g s).pins = s.pins ∧ (modMbx f m g s).wag = s.wag := by
  exact ⟨rfl, rfl, rfl, rfl, rfl, rfl, rfl, rfl, rfl, rfl, rfl, rfl, rfl, rfl, rfl, rfl, rfl, rfl, rfl, rfl, rfl, rfl, rfl, rfl, rfl, rfl, rfl, rfl, rfl, rfl, rfl, rfl, rfl, rfl, rfl, rfl, rfl, rfl, rfl, rfl, rfl, rfl, rfl⟩
@[simp] theorem modMbx_units (f m : Nat) (g : Mailbox → Mailbox) (s : State) :
    (∀ i, (modMbx f m g s).hp i = s.hp i) ∧ (∀ i, (modMbx f m g s).lane i = s.lane i) ∧ (∀ i, (modMbx f m g s).link i = s.link i) ∧
    (∀ i, (modMbx f m g s).eth i = s.eth i) ∧ (∀ i j, (modMbx f m g s).pll i j = s.pll i j) ∧ (∀ i, (modMbx f m g s).pin i = s.pin i) ∧
    (∀ i, (modMbx f m g s).enc i = s.enc i) ∧ (∀ i, (modMbx f m g s).emu i = s.emu i) ∧ (∀ i, (modMbx f m g s).chan i = s.chan i) ∧
    (∀ i, (modMbx f m g s).wgInput i = s.wgInput i) ∧ (∀ i, (modMbx f m g s).wgGroup i = s.wgGroup i) ∧ (∀ i, (modMbx f m g s).asm i = s.asm i) ∧
    (∀ i, (modMbx f m g s).comb i = s.comb i) ∧ (∀ i, (modMbx f m g s).vp i = s.vp i) ∧ (∀ i, (modMbx f m g s).bank i = s.bank i) ∧
    (∀ i, (modMbx f m g s).ctx i = s.ctx i) ∧ (∀ i, (modMbx f m g s).queue i = s.queue i) ∧ (modMbx f m g s).now = s.now := by
  exact ⟨fun _ => rfl, fun _ => rfl, fun _ => rfl, fun _ => rfl, fun _ _ => rfl, fun _ => rfl, fun _ => rfl, fun _ => rfl, fun _ => rfl, fun _ => rfl, fun _ => rfl, fun _ => rfl, fun _ => rfl, fun _ => rfl, fun _ => rfl, fun _ => rfl, fun _ => rfl, rfl⟩
@[simp] theorem setQueue_frame (q : Nat) (v : Queue) (s : State) :
    (setQueue q v s).pending = s.pending ∧ (setQueue q v s).out = s.out ∧ (setQueue q v s).freeCtr = s.freeCtr ∧ (setQueue q v s).pace = s.pace ∧
    (setQueue q v s).sys = s.sys ∧ (setQueue q v s).clock = s.clock ∧ (setQueue q v s).keeper = s.keeper ∧ (setQueue q v s).mon = s.mon ∧
    (setQueue q v s).power = s.power ∧ (setQueue q v s).trust = s.trust ∧ (setQueue q v s).banks = s.banks ∧ (setQueue q v s).window = s.window ∧
    (setQueue q v s).faults = s.faults ∧ (setQueue q v s).faultBits = s.faultBits ∧ (setQueue q v s).faultReports = s.faultReports ∧ (setQueue q v s).hps = s.hps ∧
    (setQueue q v s).mbxs = s.mbxs ∧ (setQueue q v s).goOrder = s.goOrder ∧ (setQueue q v s).waiting = s.waiting ∧ (setQueue q v s).deviceId = s.deviceId ∧
    (setQueue q v s).lanes = s.lanes ∧ (setQueue q v s).links = s.links ∧ (setQueue q v s).plls = s.plls ∧ (setQueue q v s).eths = s.eths ∧
    (setQueue q v s).hive = s.hive ∧ (setQueue q v s).ctxs = s.ctxs ∧ (setQueue q v s).combs = s.combs ∧ (setQueue q v s).parts = s.parts ∧
    (setQueue q v s).stitches = s.stitches ∧ (setQueue q v s).frags = s.frags ∧ (setQueue q v s).fragIds = s.fragIds ∧ (setQueue q v s).staging = s.staging ∧
    (setQueue q v s).asms = s.asms ∧ (setQueue q v s).pgs = s.pgs ∧ (setQueue q v s).pgCounts = s.pgCounts ∧ (setQueue q v s).ctxSteer = s.ctxSteer ∧
    (setQueue q v s).pend = s.pend ∧ (setQueue q v s).flight = s.flight ∧ (setQueue q v s).vps = s.vps ∧ (setQueue q v s).encs = s.encs ∧
    (setQueue q v s).emus = s.emus ∧ (setQueue q v s).pins = s.pins ∧ (setQueue q v s).wag = s.wag := by
  exact ⟨rfl, rfl, rfl, rfl, rfl, rfl, rfl, rfl, rfl, rfl, rfl, rfl, rfl, rfl, rfl, rfl, rfl, rfl, rfl, rfl, rfl, rfl, rfl, rfl, rfl, rfl, rfl, rfl, rfl, rfl, rfl, rfl, rfl, rfl, rfl, rfl, rfl, rfl, rfl, rfl, rfl, rfl, rfl⟩
@[simp] theorem setQueue_units (q : Nat) (v : Queue) (s : State) :
    (∀ i, (setQueue q v s).hp i = s.hp i) ∧ (∀ i j, (setQueue q v s).mbx i j = s.mbx i j) ∧ (∀ i, (setQueue q v s).lane i = s.lane i) ∧
    (∀ i, (setQueue q v s).link i = s.link i) ∧ (∀ i, (setQueue q v s).eth i = s.eth i) ∧ (∀ i j, (setQueue q v s).pll i j = s.pll i j) ∧
    (∀ i, (setQueue q v s).pin i = s.pin i) ∧ (∀ i, (setQueue q v s).enc i = s.enc i) ∧ (∀ i, (setQueue q v s).emu i = s.emu i) ∧
    (∀ i, (setQueue q v s).chan i = s.chan i) ∧ (∀ i, (setQueue q v s).wgInput i = s.wgInput i) ∧ (∀ i, (setQueue q v s).wgGroup i = s.wgGroup i) ∧
    (∀ i, (setQueue q v s).asm i = s.asm i) ∧ (∀ i, (setQueue q v s).comb i = s.comb i) ∧ (∀ i, (setQueue q v s).vp i = s.vp i) ∧
    (∀ i, (setQueue q v s).bank i = s.bank i) ∧ (∀ i, (setQueue q v s).ctx i = s.ctx i) ∧ (setQueue q v s).now = s.now := by
  exact ⟨fun _ => rfl, fun _ _ => rfl, fun _ => rfl, fun _ => rfl, fun _ => rfl, fun _ _ => rfl, fun _ => rfl, fun _ => rfl, fun _ => rfl, fun _ => rfl, fun _ => rfl, fun _ => rfl, fun _ => rfl, fun _ => rfl, fun _ => rfl, fun _ => rfl, fun _ => rfl, rfl⟩
@[simp] theorem modKeeper_frame (g : Keeper → Keeper) (s : State) :
    (modKeeper g s).pending = s.pending ∧ (modKeeper g s).out = s.out ∧ (modKeeper g s).freeCtr = s.freeCtr ∧ (modKeeper g s).pace = s.pace ∧
    (modKeeper g s).sys = s.sys ∧ (modKeeper g s).clock = s.clock ∧ (modKeeper g s).mon = s.mon ∧ (modKeeper g s).power = s.power ∧
    (modKeeper g s).trust = s.trust ∧ (modKeeper g s).banks = s.banks ∧ (modKeeper g s).window = s.window ∧ (modKeeper g s).faults = s.faults ∧
    (modKeeper g s).faultBits = s.faultBits ∧ (modKeeper g s).faultReports = s.faultReports ∧ (modKeeper g s).hps = s.hps ∧ (modKeeper g s).mbxs = s.mbxs ∧
    (modKeeper g s).goOrder = s.goOrder ∧ (modKeeper g s).waiting = s.waiting ∧ (modKeeper g s).deviceId = s.deviceId ∧ (modKeeper g s).queues = s.queues ∧
    (modKeeper g s).lanes = s.lanes ∧ (modKeeper g s).links = s.links ∧ (modKeeper g s).plls = s.plls ∧ (modKeeper g s).eths = s.eths ∧
    (modKeeper g s).hive = s.hive ∧ (modKeeper g s).ctxs = s.ctxs ∧ (modKeeper g s).combs = s.combs ∧ (modKeeper g s).parts = s.parts ∧
    (modKeeper g s).stitches = s.stitches ∧ (modKeeper g s).frags = s.frags ∧ (modKeeper g s).fragIds = s.fragIds ∧ (modKeeper g s).staging = s.staging ∧
    (modKeeper g s).asms = s.asms ∧ (modKeeper g s).pgs = s.pgs ∧ (modKeeper g s).pgCounts = s.pgCounts ∧ (modKeeper g s).ctxSteer = s.ctxSteer ∧
    (modKeeper g s).pend = s.pend ∧ (modKeeper g s).flight = s.flight ∧ (modKeeper g s).vps = s.vps ∧ (modKeeper g s).encs = s.encs ∧
    (modKeeper g s).emus = s.emus ∧ (modKeeper g s).pins = s.pins ∧ (modKeeper g s).wag = s.wag := by
  exact ⟨rfl, rfl, rfl, rfl, rfl, rfl, rfl, rfl, rfl, rfl, rfl, rfl, rfl, rfl, rfl, rfl, rfl, rfl, rfl, rfl, rfl, rfl, rfl, rfl, rfl, rfl, rfl, rfl, rfl, rfl, rfl, rfl, rfl, rfl, rfl, rfl, rfl, rfl, rfl, rfl, rfl, rfl, rfl⟩
@[simp] theorem modKeeper_units (g : Keeper → Keeper) (s : State) :
    (∀ i, (modKeeper g s).hp i = s.hp i) ∧ (∀ i j, (modKeeper g s).mbx i j = s.mbx i j) ∧ (∀ i, (modKeeper g s).lane i = s.lane i) ∧
    (∀ i, (modKeeper g s).link i = s.link i) ∧ (∀ i, (modKeeper g s).eth i = s.eth i) ∧ (∀ i j, (modKeeper g s).pll i j = s.pll i j) ∧
    (∀ i, (modKeeper g s).pin i = s.pin i) ∧ (∀ i, (modKeeper g s).enc i = s.enc i) ∧ (∀ i, (modKeeper g s).emu i = s.emu i) ∧
    (∀ i, (modKeeper g s).chan i = s.chan i) ∧ (∀ i, (modKeeper g s).wgInput i = s.wgInput i) ∧ (∀ i, (modKeeper g s).wgGroup i = s.wgGroup i) ∧
    (∀ i, (modKeeper g s).asm i = s.asm i) ∧ (∀ i, (modKeeper g s).comb i = s.comb i) ∧ (∀ i, (modKeeper g s).vp i = s.vp i) ∧
    (∀ i, (modKeeper g s).bank i = s.bank i) ∧ (∀ i, (modKeeper g s).ctx i = s.ctx i) ∧ (∀ i, (modKeeper g s).queue i = s.queue i) ∧
    (modKeeper g s).now = s.now := by
  exact ⟨fun _ => rfl, fun _ _ => rfl, fun _ => rfl, fun _ => rfl, fun _ => rfl, fun _ _ => rfl, fun _ => rfl, fun _ => rfl, fun _ => rfl, fun _ => rfl, fun _ => rfl, fun _ => rfl, fun _ => rfl, fun _ => rfl, fun _ => rfl, fun _ => rfl, fun _ => rfl, fun _ => rfl, rfl⟩
@[simp] theorem modSys_frame (g : Sys → Sys) (s : State) :
    (modSys g s).pending = s.pending ∧ (modSys g s).out = s.out ∧ (modSys g s).freeCtr = s.freeCtr ∧ (modSys g s).pace = s.pace ∧
    (modSys g s).clock = s.clock ∧ (modSys g s).keeper = s.keeper ∧ (modSys g s).mon = s.mon ∧ (modSys g s).power = s.power ∧
    (modSys g s).trust = s.trust ∧ (modSys g s).banks = s.banks ∧ (modSys g s).window = s.window ∧ (modSys g s).faults = s.faults ∧
    (modSys g s).faultBits = s.faultBits ∧ (modSys g s).faultReports = s.faultReports ∧ (modSys g s).hps = s.hps ∧ (modSys g s).mbxs = s.mbxs ∧
    (modSys g s).goOrder = s.goOrder ∧ (modSys g s).waiting = s.waiting ∧ (modSys g s).deviceId = s.deviceId ∧ (modSys g s).queues = s.queues ∧
    (modSys g s).lanes = s.lanes ∧ (modSys g s).links = s.links ∧ (modSys g s).plls = s.plls ∧ (modSys g s).eths = s.eths ∧
    (modSys g s).hive = s.hive ∧ (modSys g s).ctxs = s.ctxs ∧ (modSys g s).combs = s.combs ∧ (modSys g s).parts = s.parts ∧
    (modSys g s).stitches = s.stitches ∧ (modSys g s).frags = s.frags ∧ (modSys g s).fragIds = s.fragIds ∧ (modSys g s).staging = s.staging ∧
    (modSys g s).asms = s.asms ∧ (modSys g s).pgs = s.pgs ∧ (modSys g s).pgCounts = s.pgCounts ∧ (modSys g s).ctxSteer = s.ctxSteer ∧
    (modSys g s).pend = s.pend ∧ (modSys g s).flight = s.flight ∧ (modSys g s).vps = s.vps ∧ (modSys g s).encs = s.encs ∧
    (modSys g s).emus = s.emus ∧ (modSys g s).pins = s.pins ∧ (modSys g s).wag = s.wag := by
  exact ⟨rfl, rfl, rfl, rfl, rfl, rfl, rfl, rfl, rfl, rfl, rfl, rfl, rfl, rfl, rfl, rfl, rfl, rfl, rfl, rfl, rfl, rfl, rfl, rfl, rfl, rfl, rfl, rfl, rfl, rfl, rfl, rfl, rfl, rfl, rfl, rfl, rfl, rfl, rfl, rfl, rfl, rfl, rfl⟩
@[simp] theorem modSys_units (g : Sys → Sys) (s : State) :
    (∀ i, (modSys g s).hp i = s.hp i) ∧ (∀ i j, (modSys g s).mbx i j = s.mbx i j) ∧ (∀ i, (modSys g s).lane i = s.lane i) ∧
    (∀ i, (modSys g s).link i = s.link i) ∧ (∀ i, (modSys g s).eth i = s.eth i) ∧ (∀ i j, (modSys g s).pll i j = s.pll i j) ∧
    (∀ i, (modSys g s).pin i = s.pin i) ∧ (∀ i, (modSys g s).enc i = s.enc i) ∧ (∀ i, (modSys g s).emu i = s.emu i) ∧
    (∀ i, (modSys g s).chan i = s.chan i) ∧ (∀ i, (modSys g s).wgInput i = s.wgInput i) ∧ (∀ i, (modSys g s).wgGroup i = s.wgGroup i) ∧
    (∀ i, (modSys g s).asm i = s.asm i) ∧ (∀ i, (modSys g s).comb i = s.comb i) ∧ (∀ i, (modSys g s).vp i = s.vp i) ∧
    (∀ i, (modSys g s).bank i = s.bank i) ∧ (∀ i, (modSys g s).ctx i = s.ctx i) ∧ (∀ i, (modSys g s).queue i = s.queue i) ∧
    (modSys g s).now = s.now := by
  exact ⟨fun _ => rfl, fun _ _ => rfl, fun _ => rfl, fun _ => rfl, fun _ => rfl, fun _ _ => rfl, fun _ => rfl, fun _ => rfl, fun _ => rfl, fun _ => rfl, fun _ => rfl, fun _ => rfl, fun _ => rfl, fun _ => rfl, fun _ => rfl, fun _ => rfl, fun _ => rfl, fun _ => rfl, rfl⟩
@[simp] theorem modClock_frame (g : Clock → Clock) (s : State) :
    (modClock g s).pending = s.pending ∧ (modClock g s).out = s.out ∧ (modClock g s).freeCtr = s.freeCtr ∧ (modClock g s).pace = s.pace ∧
    (modClock g s).sys = s.sys ∧ (modClock g s).keeper = s.keeper ∧ (modClock g s).mon = s.mon ∧ (modClock g s).power = s.power ∧
    (modClock g s).trust = s.trust ∧ (modClock g s).banks = s.banks ∧ (modClock g s).window = s.window ∧ (modClock g s).faults = s.faults ∧
    (modClock g s).faultBits = s.faultBits ∧ (modClock g s).faultReports = s.faultReports ∧ (modClock g s).hps = s.hps ∧ (modClock g s).mbxs = s.mbxs ∧
    (modClock g s).goOrder = s.goOrder ∧ (modClock g s).waiting = s.waiting ∧ (modClock g s).deviceId = s.deviceId ∧ (modClock g s).queues = s.queues ∧
    (modClock g s).lanes = s.lanes ∧ (modClock g s).links = s.links ∧ (modClock g s).plls = s.plls ∧ (modClock g s).eths = s.eths ∧
    (modClock g s).hive = s.hive ∧ (modClock g s).ctxs = s.ctxs ∧ (modClock g s).combs = s.combs ∧ (modClock g s).parts = s.parts ∧
    (modClock g s).stitches = s.stitches ∧ (modClock g s).frags = s.frags ∧ (modClock g s).fragIds = s.fragIds ∧ (modClock g s).staging = s.staging ∧
    (modClock g s).asms = s.asms ∧ (modClock g s).pgs = s.pgs ∧ (modClock g s).pgCounts = s.pgCounts ∧ (modClock g s).ctxSteer = s.ctxSteer ∧
    (modClock g s).pend = s.pend ∧ (modClock g s).flight = s.flight ∧ (modClock g s).vps = s.vps ∧ (modClock g s).encs = s.encs ∧
    (modClock g s).emus = s.emus ∧ (modClock g s).pins = s.pins ∧ (modClock g s).wag = s.wag := by
  exact ⟨rfl, rfl, rfl, rfl, rfl, rfl, rfl, rfl, rfl, rfl, rfl, rfl, rfl, rfl, rfl, rfl, rfl, rfl, rfl, rfl, rfl, rfl, rfl, rfl, rfl, rfl, rfl, rfl, rfl, rfl, rfl, rfl, rfl, rfl, rfl, rfl, rfl, rfl, rfl, rfl, rfl, rfl, rfl⟩
@[simp] theorem modClock_units (g : Clock → Clock) (s : State) :
    (∀ i, (modClock g s).hp i = s.hp i) ∧ (∀ i j, (modClock g s).mbx i j = s.mbx i j) ∧ (∀ i, (modClock g s).lane i = s.lane i) ∧
    (∀ i, (modClock g s).link i = s.link i) ∧ (∀ i, (modClock g s).eth i = s.eth i) ∧ (∀ i j, (modClock g s).pll i j = s.pll i j) ∧
    (∀ i, (modClock g s).pin i = s.pin i) ∧ (∀ i, (modClock g s).enc i = s.enc i) ∧ (∀ i, (modClock g s).emu i = s.emu i) ∧
    (∀ i, (modClock g s).chan i = s.chan i) ∧ (∀ i, (modClock g s).wgInput i = s.wgInput i) ∧ (∀ i, (modClock g s).wgGroup i = s.wgGroup i) ∧
    (∀ i, (modClock g s).asm i = s.asm i) ∧ (∀ i, (modClock g s).comb i = s.comb i) ∧ (∀ i, (modClock g s).vp i = s.vp i) ∧
    (∀ i, (modClock g s).bank i = s.bank i) ∧ (∀ i, (modClock g s).ctx i = s.ctx i) ∧ (∀ i, (modClock g s).queue i = s.queue i) := by
  exact ⟨fun _ => rfl, fun _ _ => rfl, fun _ => rfl, fun _ => rfl, fun _ => rfl, fun _ _ => rfl, fun _ => rfl, fun _ => rfl, fun _ => rfl, fun _ => rfl, fun _ => rfl, fun _ => rfl, fun _ => rfl, fun _ => rfl, fun _ => rfl, fun _ => rfl, fun _ => rfl, fun _ => rfl⟩
@[simp] theorem modTrust_frame (g : Trust → Trust) (s : State) :
    (modTrust g s).pending = s.pending ∧ (modTrust g s).out = s.out ∧ (modTrust g s).freeCtr = s.freeCtr ∧ (modTrust g s).pace = s.pace ∧
    (modTrust g s).sys = s.sys ∧ (modTrust g s).clock = s.clock ∧ (modTrust g s).keeper = s.keeper ∧ (modTrust g s).mon = s.mon ∧
    (modTrust g s).power = s.power ∧ (modTrust g s).banks = s.banks ∧ (modTrust g s).window = s.window ∧ (modTrust g s).faults = s.faults ∧
    (modTrust g s).faultBits = s.faultBits ∧ (modTrust g s).faultReports = s.faultReports ∧ (modTrust g s).hps = s.hps ∧ (modTrust g s).mbxs = s.mbxs ∧
    (modTrust g s).goOrder = s.goOrder ∧ (modTrust g s).waiting = s.waiting ∧ (modTrust g s).deviceId = s.deviceId ∧ (modTrust g s).queues = s.queues ∧
    (modTrust g s).lanes = s.lanes ∧ (modTrust g s).links = s.links ∧ (modTrust g s).plls = s.plls ∧ (modTrust g s).eths = s.eths ∧
    (modTrust g s).hive = s.hive ∧ (modTrust g s).ctxs = s.ctxs ∧ (modTrust g s).combs = s.combs ∧ (modTrust g s).parts = s.parts ∧
    (modTrust g s).stitches = s.stitches ∧ (modTrust g s).frags = s.frags ∧ (modTrust g s).fragIds = s.fragIds ∧ (modTrust g s).staging = s.staging ∧
    (modTrust g s).asms = s.asms ∧ (modTrust g s).pgs = s.pgs ∧ (modTrust g s).pgCounts = s.pgCounts ∧ (modTrust g s).ctxSteer = s.ctxSteer ∧
    (modTrust g s).pend = s.pend ∧ (modTrust g s).flight = s.flight ∧ (modTrust g s).vps = s.vps ∧ (modTrust g s).encs = s.encs ∧
    (modTrust g s).emus = s.emus ∧ (modTrust g s).pins = s.pins ∧ (modTrust g s).wag = s.wag := by
  exact ⟨rfl, rfl, rfl, rfl, rfl, rfl, rfl, rfl, rfl, rfl, rfl, rfl, rfl, rfl, rfl, rfl, rfl, rfl, rfl, rfl, rfl, rfl, rfl, rfl, rfl, rfl, rfl, rfl, rfl, rfl, rfl, rfl, rfl, rfl, rfl, rfl, rfl, rfl, rfl, rfl, rfl, rfl, rfl⟩
@[simp] theorem modTrust_units (g : Trust → Trust) (s : State) :
    (∀ i, (modTrust g s).hp i = s.hp i) ∧ (∀ i j, (modTrust g s).mbx i j = s.mbx i j) ∧ (∀ i, (modTrust g s).lane i = s.lane i) ∧
    (∀ i, (modTrust g s).link i = s.link i) ∧ (∀ i, (modTrust g s).eth i = s.eth i) ∧ (∀ i j, (modTrust g s).pll i j = s.pll i j) ∧
    (∀ i, (modTrust g s).pin i = s.pin i) ∧ (∀ i, (modTrust g s).enc i = s.enc i) ∧ (∀ i, (modTrust g s).emu i = s.emu i) ∧
    (∀ i, (modTrust g s).chan i = s.chan i) ∧ (∀ i, (modTrust g s).wgInput i = s.wgInput i) ∧ (∀ i, (modTrust g s).wgGroup i = s.wgGroup i) ∧
    (∀ i, (modTrust g s).asm i = s.asm i) ∧ (∀ i, (modTrust g s).comb i = s.comb i) ∧ (∀ i, (modTrust g s).vp i = s.vp i) ∧
    (∀ i, (modTrust g s).bank i = s.bank i) ∧ (∀ i, (modTrust g s).ctx i = s.ctx i) ∧ (∀ i, (modTrust g s).queue i = s.queue i) ∧
    (modTrust g s).now = s.now := by
  exact ⟨fun _ => rfl, fun _ _ => rfl, fun _ => rfl, fun _ => rfl, fun _ => rfl, fun _ _ => rfl, fun _ => rfl, fun _ => rfl, fun _ => rfl, fun _ => rfl, fun _ => rfl, fun _ => rfl, fun _ => rfl, fun _ => rfl, fun _ => rfl, fun _ => rfl, fun _ => rfl, fun _ => rfl, rfl⟩
@[simp] theorem modHive_frame (g : Hive → Hive) (s : State) :
    (modHive g s).pending = s.pending ∧ (modHive g s).out = s.out ∧ (modHive g s).freeCtr = s.freeCtr ∧ (modHive g s).pace = s.pace ∧
    (modHive g s).sys = s.sys ∧ (modHive g s).clock = s.clock ∧ (modHive g s).keeper = s.keeper ∧ (modHive g s).mon = s.mon ∧
    (modHive g s).power = s.power ∧ (modHive g s).trust = s.trust ∧ (modHive g s).banks = s.banks ∧ (modHive g s).window = s.window ∧
    (modHive g s).faults = s.faults ∧ (modHive g s).faultBits = s.faultBits ∧ (modHive g s).faultReports = s.faultReports ∧ (modHive g s).hps = s.hps ∧
    (modHive g s).mbxs = s.mbxs ∧ (modHive g s).goOrder = s.goOrder ∧ (modHive g s).waiting = s.waiting ∧ (modHive g s).deviceId = s.deviceId ∧
    (modHive g s).queues = s.queues ∧ (modHive g s).lanes = s.lanes ∧ (modHive g s).links = s.links ∧ (modHive g s).plls = s.plls ∧
    (modHive g s).eths = s.eths ∧ (modHive g s).ctxs = s.ctxs ∧ (modHive g s).combs = s.combs ∧ (modHive g s).parts = s.parts ∧
    (modHive g s).stitches = s.stitches ∧ (modHive g s).frags = s.frags ∧ (modHive g s).fragIds = s.fragIds ∧ (modHive g s).staging = s.staging ∧
    (modHive g s).asms = s.asms ∧ (modHive g s).pgs = s.pgs ∧ (modHive g s).pgCounts = s.pgCounts ∧ (modHive g s).ctxSteer = s.ctxSteer ∧
    (modHive g s).pend = s.pend ∧ (modHive g s).flight = s.flight ∧ (modHive g s).vps = s.vps ∧ (modHive g s).encs = s.encs ∧
    (modHive g s).emus = s.emus ∧ (modHive g s).pins = s.pins ∧ (modHive g s).wag = s.wag := by
  exact ⟨rfl, rfl, rfl, rfl, rfl, rfl, rfl, rfl, rfl, rfl, rfl, rfl, rfl, rfl, rfl, rfl, rfl, rfl, rfl, rfl, rfl, rfl, rfl, rfl, rfl, rfl, rfl, rfl, rfl, rfl, rfl, rfl, rfl, rfl, rfl, rfl, rfl, rfl, rfl, rfl, rfl, rfl, rfl⟩
@[simp] theorem modHive_units (g : Hive → Hive) (s : State) :
    (∀ i, (modHive g s).hp i = s.hp i) ∧ (∀ i j, (modHive g s).mbx i j = s.mbx i j) ∧ (∀ i, (modHive g s).lane i = s.lane i) ∧
    (∀ i, (modHive g s).link i = s.link i) ∧ (∀ i, (modHive g s).eth i = s.eth i) ∧ (∀ i j, (modHive g s).pll i j = s.pll i j) ∧
    (∀ i, (modHive g s).pin i = s.pin i) ∧ (∀ i, (modHive g s).enc i = s.enc i) ∧ (∀ i, (modHive g s).emu i = s.emu i) ∧
    (∀ i, (modHive g s).chan i = s.chan i) ∧ (∀ i, (modHive g s).wgInput i = s.wgInput i) ∧ (∀ i, (modHive g s).wgGroup i = s.wgGroup i) ∧
    (∀ i, (modHive g s).asm i = s.asm i) ∧ (∀ i, (modHive g s).comb i = s.comb i) ∧ (∀ i, (modHive g s).vp i = s.vp i) ∧
    (∀ i, (modHive g s).bank i = s.bank i) ∧ (∀ i, (modHive g s).ctx i = s.ctx i) ∧ (∀ i, (modHive g s).queue i = s.queue i) ∧
    (modHive g s).now = s.now := by
  exact ⟨fun _ => rfl, fun _ _ => rfl, fun _ => rfl, fun _ => rfl, fun _ => rfl, fun _ _ => rfl, fun _ => rfl, fun _ => rfl, fun _ => rfl, fun _ => rfl, fun _ => rfl, fun _ => rfl, fun _ => rfl, fun _ => rfl, fun _ => rfl, fun _ => rfl, fun _ => rfl, fun _ => rfl, rfl⟩
@[simp] theorem modFlight_frame (g : Flight → Flight) (s : State) :
    (modFlight g s).pending = s.pending ∧ (modFlight g s).out = s.out ∧ (modFlight g s).freeCtr = s.freeCtr ∧ (modFlight g s).pace = s.pace ∧
    (modFlight g s).sys = s.sys ∧ (modFlight g s).clock = s.clock ∧ (modFlight g s).keeper = s.keeper ∧ (modFlight g s).mon = s.mon ∧
    (modFlight g s).power = s.power ∧ (modFlight g s).trust = s.trust ∧ (modFlight g s).banks = s.banks ∧ (modFlight g s).window = s.window ∧
    (modFlight g s).faults = s.faults ∧ (modFlight g s).faultBits = s.faultBits ∧ (modFlight g s).faultReports = s.faultReports ∧ (modFlight g s).hps = s.hps ∧
    (modFlight g s).mbxs = s.mbxs ∧ (modFlight g s).goOrder = s.goOrder ∧ (modFlight g s).waiting = s.waiting ∧ (modFlight g s).deviceId = s.deviceId ∧
    (modFlight g s).queues = s.queues ∧ (modFlight g s).lanes = s.lanes ∧ (modFlight g s).links = s.links ∧ (modFlight g s).plls = s.plls ∧
    (modFlight g s).eths = s.eths ∧ (modFlight g s).hive = s.hive ∧ (modFlight g s).ctxs = s.ctxs ∧ (modFlight g s).combs = s.combs ∧
    (modFlight g s).parts = s.parts ∧ (modFlight g s).stitches = s.stitches ∧ (modFlight g s).frags = s.frags ∧ (modFlight g s).fragIds = s.fragIds ∧
    (modFlight g s).staging = s.staging ∧ (modFlight g s).asms = s.asms ∧ (modFlight g s).pgs = s.pgs ∧ (modFlight g s).pgCounts = s.pgCounts ∧
    (modFlight g s).ctxSteer = s.ctxSteer ∧ (modFlight g s).pend = s.pend ∧ (modFlight g s).vps = s.vps ∧ (modFlight g s).encs = s.encs ∧
    (modFlight g s).emus = s.emus ∧ (modFlight g s).pins = s.pins ∧ (modFlight g s).wag = s.wag := by
  exact ⟨rfl, rfl, rfl, rfl, rfl, rfl, rfl, rfl, rfl, rfl, rfl, rfl, rfl, rfl, rfl, rfl, rfl, rfl, rfl, rfl, rfl, rfl, rfl, rfl, rfl, rfl, rfl, rfl, rfl, rfl, rfl, rfl, rfl, rfl, rfl, rfl, rfl, rfl, rfl, rfl, rfl, rfl, rfl⟩
@[simp] theorem modFlight_units (g : Flight → Flight) (s : State) :
    (∀ i, (modFlight g s).hp i = s.hp i) ∧ (∀ i j, (modFlight g s).mbx i j = s.mbx i j) ∧ (∀ i, (modFlight g s).lane i = s.lane i) ∧
    (∀ i, (modFlight g s).link i = s.link i) ∧ (∀ i, (modFlight g s).eth i = s.eth i) ∧ (∀ i j, (modFlight g s).pll i j = s.pll i j) ∧
    (∀ i, (modFlight g s).pin i = s.pin i) ∧ (∀ i, (modFlight g s).enc i = s.enc i) ∧ (∀ i, (modFlight g s).emu i = s.emu i) ∧
    (∀ i, (modFlight g s).chan i = s.chan i) ∧ (∀ i, (modFlight g s).wgInput i = s.wgInput i) ∧ (∀ i, (modFlight g s).wgGroup i = s.wgGroup i) ∧
    (∀ i, (modFlight g s).asm i = s.asm i) ∧ (∀ i, (modFlight g s).comb i = s.comb i) ∧ (∀ i, (modFlight g s).vp i = s.vp i) ∧
    (∀ i, (modFlight g s).bank i = s.bank i) ∧ (∀ i, (modFlight g s).ctx i = s.ctx i) ∧ (∀ i, (modFlight g s).queue i = s.queue i) ∧
    (modFlight g s).now = s.now := by
  exact ⟨fun _ => rfl, fun _ _ => rfl, fun _ => rfl, fun _ => rfl, fun _ => rfl, fun _ _ => rfl, fun _ => rfl, fun _ => rfl, fun _ => rfl, fun _ => rfl, fun _ => rfl, fun _ => rfl, fun _ => rfl, fun _ => rfl, fun _ => rfl, fun _ => rfl, fun _ => rfl, fun _ => rfl, rfl⟩
@[simp] theorem emit_frame (x : Out) (s : State) :
    (emit x s).pending = s.pending ∧ (emit x s).freeCtr = s.freeCtr ∧ (emit x s).pace = s.pace ∧ (emit x s).sys = s.sys ∧
    (emit x s).clock = s.clock ∧ (emit x s).keeper = s.keeper ∧ (emit x s).mon = s.mon ∧ (emit x s).power = s.power ∧
    (emit x s).trust = s.trust ∧ (emit x s).banks = s.banks ∧ (emit x s).window = s.window ∧ (emit x s).faults = s.faults ∧
    (emit x s).faultBits = s.faultBits ∧ (emit x s).faultReports = s.faultReports ∧ (emit x s).hps = s.hps ∧ (emit x s).mbxs = s.mbxs ∧
    (emit x s).goOrder = s.goOrder ∧ (emit x s).waiting = s.waiting ∧ (emit x s).deviceId = s.deviceId ∧ (emit x s).queues = s.queues ∧
    (emit x s).lanes = s.lanes ∧ (emit x s).links = s.links ∧ (emit x s).plls = s.plls ∧ (emit x s).eths = s.eths ∧
    (emit x s).hive = s.hive ∧ (emit x s).ctxs = s.ctxs ∧ (emit x s).combs = s.combs ∧ (emit x s).parts = s.parts ∧
    (emit x s).stitches = s.stitches ∧ (emit x s).frags = s.frags ∧ (emit x s).fragIds = s.fragIds ∧ (emit x s).staging = s.staging ∧
    (emit x s).asms = s.asms ∧ (emit x s).pgs = s.pgs ∧ (emit x s).pgCounts = s.pgCounts ∧ (emit x s).ctxSteer = s.ctxSteer ∧
    (emit x s).pend = s.pend ∧ (emit x s).flight = s.flight ∧ (emit x s).vps = s.vps ∧ (emit x s).encs = s.encs ∧
    (emit x s).emus = s.emus ∧ (emit x s).pins = s.pins ∧ (emit x s).wag = s.wag := by
  exact ⟨rfl, rfl, rfl, rfl, rfl, rfl, rfl, rfl, rfl, rfl, rfl, rfl, rfl, rfl, rfl, rfl, rfl, rfl, rfl, rfl, rfl, rfl, rfl, rfl, rfl, rfl, rfl, rfl, rfl, rfl, rfl, rfl, rfl, rfl, rfl, rfl, rfl, rfl, rfl, rfl, rfl, rfl, rfl⟩
@[simp] theorem emit_units (x : Out) (s : State) :
    (∀ i, (emit x s).hp i = s.hp i) ∧ (∀ i j, (emit x s).mbx i j = s.mbx i j) ∧ (∀ i, (emit x s).lane i = s.lane i) ∧
    (∀ i, (emit x s).link i = s.link i) ∧ (∀ i, (emit x s).eth i = s.eth i) ∧ (∀ i j, (emit x s).pll i j = s.pll i j) ∧
    (∀ i, (emit x s).pin i = s.pin i) ∧ (∀ i, (emit x s).enc i = s.enc i) ∧ (∀ i, (emit x s).emu i = s.emu i) ∧
    (∀ i, (emit x s).chan i = s.chan i) ∧ (∀ i, (emit x s).wgInput i = s.wgInput i) ∧ (∀ i, (emit x s).wgGroup i = s.wgGroup i) ∧
    (∀ i, (emit x s).asm i = s.asm i) ∧ (∀ i, (emit x s).comb i = s.comb i) ∧ (∀ i, (emit x s).vp i = s.vp i) ∧
    (∀ i, (emit x s).bank i = s.bank i) ∧ (∀ i, (emit x s).ctx i = s.ctx i) ∧ (∀ i, (emit x s).queue i = s.queue i) ∧
    (emit x s).now = s.now := by
  exact ⟨fun _ => rfl, fun _ _ => rfl, fun _ => rfl, fun _ => rfl, fun _ => rfl, fun _ _ => rfl, fun _ => rfl, fun _ => rfl, fun _ => rfl, fun _ => rfl, fun _ => rfl, fun _ => rfl, fun _ => rfl, fun _ => rfl, fun _ => rfl, fun _ => rfl, fun _ => rfl, fun _ => rfl, rfl⟩
@[simp] theorem bumpFree_frame  (s : State) :
    (bumpFree s).pending = s.pending ∧ (bumpFree s).out = s.out ∧ (bumpFree s).pace = s.pace ∧ (bumpFree s).sys = s.sys ∧
    (bumpFree s).clock = s.clock ∧ (bumpFree s).keeper = s.keeper ∧ (bumpFree s).mon = s.mon ∧ (bumpFree s).power = s.power ∧
    (bumpFree s).trust = s.trust ∧ (bumpFree s).banks = s.banks ∧ (bumpFree s).window = s.window ∧ (bumpFree s).faults = s.faults ∧
    (bumpFree s).faultBits = s.faultBits ∧ (bumpFree s).faultReports = s.faultReports ∧ (bumpFree s).hps = s.hps ∧ (bumpFree s).mbxs = s.mbxs ∧
    (bumpFree s).goOrder = s.goOrder ∧ (bumpFree s).waiting = s.waiting ∧ (bumpFree s).deviceId = s.deviceId ∧ (bumpFree s).queues = s.queues ∧
    (bumpFree s).lanes = s.lanes ∧ (bumpFree s).links = s.links ∧ (bumpFree s).plls = s.plls ∧ (bumpFree s).eths = s.eths ∧
    (bumpFree s).hive = s.hive ∧ (bumpFree s).ctxs = s.ctxs ∧ (bumpFree s).combs = s.combs ∧ (bumpFree s).parts = s.parts ∧
    (bumpFree s).stitches = s.stitches ∧ (bumpFree s).frags = s.frags ∧ (bumpFree s).fragIds = s.fragIds ∧ (bumpFree s).staging = s.staging ∧
    (bumpFree s).asms = s.asms ∧ (bumpFree s).pgs = s.pgs ∧ (bumpFree s).pgCounts = s.pgCounts ∧ (bumpFree s).ctxSteer = s.ctxSteer ∧
    (bumpFree s).pend = s.pend ∧ (bumpFree s).flight = s.flight ∧ (bumpFree s).vps = s.vps ∧ (bumpFree s).encs = s.encs ∧
    (bumpFree s).emus = s.emus ∧ (bumpFree s).pins = s.pins ∧ (bumpFree s).wag = s.wag := by
  exact ⟨rfl, rfl, rfl, rfl, rfl, rfl, rfl, rfl, rfl, rfl, rfl, rfl, rfl, rfl, rfl, rfl, rfl, rfl, rfl, rfl, rfl, rfl, rfl, rfl, rfl, rfl, rfl, rfl, rfl, rfl, rfl, rfl, rfl, rfl, rfl, rfl, rfl, rfl, rfl, rfl, rfl, rfl, rfl⟩
@[simp] theorem bumpFree_units  (s : State) :
    (∀ i, (bumpFree s).hp i = s.hp i) ∧ (∀ i j, (bumpFree s).mbx i j = s.mbx i j) ∧ (∀ i, (bumpFree s).lane i = s.lane i) ∧
    (∀ i, (bumpFree s).link i = s.link i) ∧ (∀ i, (bumpFree s).eth i = s.eth i) ∧ (∀ i j, (bumpFree s).pll i j = s.pll i j) ∧
    (∀ i, (bumpFree s).pin i = s.pin i) ∧ (∀ i, (bumpFree s).enc i = s.enc i) ∧ (∀ i, (bumpFree s).emu i = s.emu i) ∧
    (∀ i, (bumpFree s).chan i = s.chan i) ∧ (∀ i, (bumpFree s).wgInput i = s.wgInput i) ∧ (∀ i, (bumpFree s).wgGroup i = s.wgGroup i) ∧
    (∀ i, (bumpFree s).asm i = s.asm i) ∧ (∀ i, (bumpFree s).comb i = s.comb i) ∧ (∀ i, (bumpFree s).vp i = s.vp i) ∧
    (∀ i, (bumpFree s).bank i = s.bank i) ∧ (∀ i, (bumpFree s).ctx i = s.ctx i) ∧ (∀ i, (bumpFree s).queue i = s.queue i) ∧
    (bumpFree s).now = s.now := by
  exact ⟨fun _ => rfl, fun _ _ => rfl, fun _ => rfl, fun _ => rfl, fun _ => rfl, fun _ _ => rfl, fun _ => rfl, fun _ => rfl, fun _ => rfl, fun _ => rfl, fun _ => rfl, fun _ => rfl, fun _ => rfl, fun _ => rfl, fun _ => rfl, fun _ => rfl, fun _ => rfl, fun _ => rfl, rfl⟩
@[simp] theorem modLane_frame (l : Nat) (g : Lane → Lane) (s : State) :
    (modLane l g s).pending = s.pending ∧ (modLane l g s).out = s.out ∧ (modLane l g s).freeCtr = s.freeCtr ∧ (modLane l g s).pace = s.pace ∧
    (modLane l g s).sys = s.sys ∧ (modLane l g s).clock = s.clock ∧ (modLane l g s).keeper = s.keeper ∧ (modLane l g s).mon = s.mon ∧
    (modLane l g s).power = s.power ∧ (modLane l g s).trust = s.trust ∧ (modLane l g s).banks = s.banks ∧ (modLane l g s).window = s.window ∧
    (modLane l g s).faults = s.faults ∧ (modLane l g s).faultBits = s.faultBits ∧ (modLane l g s).faultReports = s.faultReports ∧ (modLane l g s).hps = s.hps ∧
    (modLane l g s).mbxs = s.mbxs ∧ (modLane l g s).goOrder = s.goOrder ∧ (modLane l g s).waiting = s.waiting ∧ (modLane l g s).deviceId = s.deviceId ∧
    (modLane l g s).queues = s.queues ∧ (modLane l g s).links = s.links ∧ (modLane l g s).plls = s.plls ∧ (modLane l g s).eths = s.eths ∧
    (modLane l g s).hive = s.hive ∧ (modLane l g s).ctxs = s.ctxs ∧ (modLane l g s).combs = s.combs ∧ (modLane l g s).parts = s.parts ∧
    (modLane l g s).stitches = s.stitches ∧ (modLane l g s).frags = s.frags ∧ (modLane l g s).fragIds = s.fragIds ∧ (modLane l g s).staging = s.staging ∧
    (modLane l g s).asms = s.asms ∧ (modLane l g s).pgs = s.pgs ∧ (modLane l g s).pgCounts = s.pgCounts ∧ (modLane l g s).ctxSteer = s.ctxSteer ∧
    (modLane l g s).pend = s.pend ∧ (modLane l g s).flight = s.flight ∧ (modLane l g s).vps = s.vps ∧ (modLane l g s).encs = s.encs ∧
    (modLane l g s).emus = s.emus ∧ (modLane l g s).pins = s.pins ∧ (modLane l g s).wag = s.wag := by
  exact ⟨rfl, rfl, rfl, rfl, rfl, rfl, rfl, rfl, rfl, rfl, rfl, rfl, rfl, rfl, rfl, rfl, rfl, rfl, rfl, rfl, rfl, rfl, rfl, rfl, rfl, rfl, rfl, rfl, rfl, rfl, rfl, rfl, rfl, rfl, rfl, rfl, rfl, rfl, rfl, rfl, rfl, rfl, rfl⟩
@[simp] theorem modLane_units (l : Nat) (g : Lane → Lane) (s : State) :
    (∀ i, (modLane l g s).hp i = s.hp i) ∧ (∀ i j, (modLane l g s).mbx i j = s.mbx i j) ∧ (∀ i, (modLane l g s).link i = s.link i) ∧
    (∀ i, (modLane l g s).eth i = s.eth i) ∧ (∀ i j, (modLane l g s).pll i j = s.pll i j) ∧ (∀ i, (modLane l g s).pin i = s.pin i) ∧
    (∀ i, (modLane l g s).enc i = s.enc i) ∧ (∀ i, (modLane l g s).emu i = s.emu i) ∧ (∀ i, (modLane l g s).chan i = s.chan i) ∧
    (∀ i, (modLane l g s).wgInput i = s.wgInput i) ∧ (∀ i, (modLane l g s).wgGroup i = s.wgGroup i) ∧ (∀ i, (modLane l g s).asm i = s.asm i) ∧
    (∀ i, (modLane l g s).comb i = s.comb i) ∧ (∀ i, (modLane l g s).vp i = s.vp i) ∧ (∀ i, (modLane l g s).bank i = s.bank i) ∧
    (∀ i, (modLane l g s).ctx i = s.ctx i) ∧ (∀ i, (modLane l g s).queue i = s.queue i) ∧ (modLane l g s).now = s.now := by
  exact ⟨fun _ => rfl, fun _ _ => rfl, fun _ => rfl, fun _ => rfl, fun _ _ => rfl, fun _ => rfl, fun _ => rfl, fun _ => rfl, fun _ => rfl, fun _ => rfl, fun _ => rfl, fun _ => rfl, fun _ => rfl, fun _ => rfl, fun _ => rfl, fun _ => rfl, fun _ => rfl, rfl⟩
@[simp] theorem modLink_frame (l : Nat) (g : Link → Link) (s : State) :
    (modLink l g s).pending = s.pending ∧ (modLink l g s).out = s.out ∧ (modLink l g s).freeCtr = s.freeCtr ∧ (modLink l g s).pace = s.pace ∧
    (modLink l g s).sys = s.sys ∧ (modLink l g s).clock = s.clock ∧ (modLink l g s).keeper = s.keeper ∧ (modLink l g s).mon = s.mon ∧
    (modLink l g s).power = s.power ∧ (modLink l g s).trust = s.trust ∧ (modLink l g s).banks = s.banks ∧ (modLink l g s).window = s.window ∧
    (modLink l g s).faults = s.faults ∧ (modLink l g s).faultBits = s.faultBits ∧ (modLink l g s).faultReports = s.faultReports ∧ (modLink l g s).hps = s.hps ∧
    (modLink l g s).mbxs = s.mbxs ∧ (modLink l g s).goOrder = s.goOrder ∧ (modLink l g s).waiting = s.waiting ∧ (modLink l g s).deviceId = s.deviceId ∧
    (modLink l g s).queues = s.queues ∧ (modLink l g s).lanes = s.lanes ∧ (modLink l g s).plls = s.plls ∧ (modLink l g s).eths = s.eths ∧
    (modLink l g s).hive = s.hive ∧ (modLink l g s).ctxs = s.ctxs ∧ (modLink l g s).combs = s.combs ∧ (modLink l g s).parts = s.parts ∧
    (modLink l g s).stitches = s.stitches ∧ (modLink l g s).frags = s.frags ∧ (modLink l g s).fragIds = s.fragIds ∧ (modLink l g s).staging = s.staging ∧
    (modLink l g s).asms = s.asms ∧ (modLink l g s).pgs = s.pgs ∧ (modLink l g s).pgCounts = s.pgCounts ∧ (modLink l g s).ctxSteer = s.ctxSteer ∧
    (modLink l g s).pend = s.pend ∧ (modLink l g s).flight = s.flight ∧ (modLink l g s).vps = s.vps ∧ (modLink l g s).encs = s.encs ∧
    (modLink l g s).emus = s.emus ∧ (modLink l g s).pins = s.pins ∧ (modLink l g s).wag = s.wag := by
  exact ⟨rfl, rfl, rfl, rfl, rfl, rfl, rfl, rfl, rfl, rfl, rfl, rfl, rfl, rfl, rfl, rfl, rfl, rfl, rfl, rfl, rfl, rfl, rfl, rfl, rfl, rfl, rfl, rfl, rfl, rfl, rfl, rfl, rfl, rfl, rfl, rfl, rfl, rfl, rfl, rfl, rfl, rfl, rfl⟩
@[simp] theorem modLink_units (l : Nat) (g : Link → Link) (s : State) :
    (∀ i, (modLink l g s).hp i = s.hp i) ∧ (∀ i j, (modLink l g s).mbx i j = s.mbx i j) ∧ (∀ i, (modLink l g s).lane i = s.lane i) ∧
    (∀ i, (modLink l g s).eth i = s.eth i) ∧ (∀ i j, (modLink l g s).pll i j = s.pll i j) ∧ (∀ i, (modLink l g s).pin i = s.pin i) ∧
    (∀ i, (modLink l g s).enc i = s.enc i) ∧ (∀ i, (modLink l g s).emu i = s.emu i) ∧ (∀ i, (modLink l g s).chan i = s.chan i) ∧
    (∀ i, (modLink l g s).wgInput i = s.wgInput i) ∧ (∀ i, (modLink l g s).wgGroup i = s.wgGroup i) ∧ (∀ i, (modLink l g s).asm i = s.asm i) ∧
    (∀ i, (modLink l g s).comb i = s.comb i) ∧ (∀ i, (modLink l g s).vp i = s.vp i) ∧ (∀ i, (modLink l g s).bank i = s.bank i) ∧
    (∀ i, (modLink l g s).ctx i = s.ctx i) ∧ (∀ i, (modLink l g s).queue i = s.queue i) ∧ (modLink l g s).now = s.now := by
  exact ⟨fun _ => rfl, fun _ _ => rfl, fun _ => rfl, fun _ => rfl, fun _ _ => rfl, fun _ => rfl, fun _ => rfl, fun _ => rfl, fun _ => rfl, fun _ => rfl, fun _ => rfl, fun _ => rfl, fun _ => rfl, fun _ => rfl, fun _ => rfl, fun _ => rfl, fun _ => rfl, rfl⟩
@[simp] theorem modEth_frame (l : Nat) (g : Eth → Eth) (s : State) :
    (modEth l g s).pending = s.pending ∧ (modEth l g s).out = s.out ∧ (modEth l g s).freeCtr = s.freeCtr ∧ (modEth l g s).pace = s.pace ∧
    (modEth l g s).sys = s.sys ∧ (modEth l g s).clock = s.clock ∧ (modEth l g s).keeper = s.keeper ∧ (modEth l g s).mon = s.mon ∧
    (modEth l g s).power = s.power ∧ (modEth l g s).trust = s.trust ∧ (modEth l g s).banks = s.banks ∧ (modEth l g s).window = s.window ∧
    (modEth l g s).faults = s.faults ∧ (modEth l g s).faultBits = s.faultBits ∧ (modEth l g s).faultReports = s.faultReports ∧ (modEth l g s).hps = s.hps ∧
    (modEth l g s).mbxs = s.mbxs ∧ (modEth l g s).goOrder = s.goOrder ∧ (modEth l g s).waiting = s.waiting ∧ (modEth l g s).deviceId = s.deviceId ∧
    (modEth l g s).queues = s.queues ∧ (modEth l g s).lanes = s.lanes ∧ (modEth l g s).links = s.links ∧ (modEth l g s).plls = s.plls ∧
    (modEth l g s).hive = s.hive ∧ (modEth l g s).ctxs = s.ctxs ∧ (modEth l g s).combs = s.combs ∧ (modEth l g s).parts = s.parts ∧
    (modEth l g s).stitches = s.stitches ∧ (modEth l g s).frags = s.frags ∧ (modEth l g s).fragIds = s.fragIds ∧ (modEth l g s).staging = s.staging ∧
    (modEth l g s).asms = s.asms ∧ (modEth l g s).pgs = s.pgs ∧ (modEth l g s).pgCounts = s.pgCounts ∧ (modEth l g s).ctxSteer = s.ctxSteer ∧
    (modEth l g s).pend = s.pend ∧ (modEth l g s).flight = s.flight ∧ (modEth l g s).vps = s.vps ∧ (modEth l g s).encs = s.encs ∧
    (modEth l g s).emus = s.emus ∧ (modEth l g s).pins = s.pins ∧ (modEth l g s).wag = s.wag := by
  exact ⟨rfl, rfl, rfl, rfl, rfl, rfl, rfl, rfl, rfl, rfl, rfl, rfl, rfl, rfl, rfl, rfl, rfl, rfl, rfl, rfl, rfl, rfl, rfl, rfl, rfl, rfl, rfl, rfl, rfl, rfl, rfl, rfl, rfl, rfl, rfl, rfl, rfl, rfl, rfl, rfl, rfl, rfl, rfl⟩
@[simp] theorem modEth_units (l : Nat) (g : Eth → Eth) (s : State) :
    (∀ i, (modEth l g s).hp i = s.hp i) ∧ (∀ i j, (modEth l g s).mbx i j = s.mbx i j) ∧ (∀ i, (modEth l g s).lane i = s.lane i) ∧
    (∀ i, (modEth l g s).link i = s.link i) ∧ (∀ i j, (modEth l g s).pll i j = s.pll i j) ∧ (∀ i, (modEth l g s).pin i = s.pin i) ∧
    (∀ i, (modEth l g s).enc i = s.enc i) ∧ (∀ i, (modEth l g s).emu i = s.emu i) ∧ (∀ i, (modEth l g s).chan i = s.chan i) ∧
    (∀ i, (modEth l g s).wgInput i = s.wgInput i) ∧ (∀ i, (modEth l g s).wgGroup i = s.wgGroup i) ∧ (∀ i, (modEth l g s).asm i = s.asm i) ∧
    (∀ i, (modEth l g s).comb i = s.comb i) ∧ (∀ i, (modEth l g s).vp i = s.vp i) ∧ (∀ i, (modEth l g s).bank i = s.bank i) ∧
    (∀ i, (modEth l g s).ctx i = s.ctx i) ∧ (∀ i, (modEth l g s).queue i = s.queue i) ∧ (modEth l g s).now = s.now := by
  exact ⟨fun _ => rfl, fun _ _ => rfl, fun _ => rfl, fun _ => rfl, fun _ _ => rfl, fun _ => rfl, fun _ => rfl, fun _ => rfl, fun _ => rfl, fun _ => rfl, fun _ => rfl, fun _ => rfl, fun _ => rfl, fun _ => rfl, fun _ => rfl, fun _ => rfl, fun _ => rfl, rfl⟩
@[simp] theorem modPll_frame (q p : Nat) (g : PllState → PllState) (s : State) :
    (modPll q p g s).pending = s.pending ∧ (modPll q p g s).out = s.out ∧ (modPll q p g s).freeCtr = s.freeCtr ∧ (modPll q p g s).pace = s.pace ∧
    (modPll q p g s).sys = s.sys ∧ (modPll q p g s).clock = s.clock ∧ (modPll q p g s).keeper = s.keeper ∧ (modPll q p g s).mon = s.mon ∧
    (modPll q p g s).power = s.power ∧ (modPll q p g s).trust = s.trust ∧ (modPll q p g s).banks = s.banks ∧ (modPll q p g s).window = s.window ∧
    (modPll q p g s).faults = s.faults ∧ (modPll q p g s).faultBits = s.faultBits ∧ (modPll q p g s).faultReports = s.faultReports ∧ (modPll q p g s).hps = s.hps ∧
    (modPll q p g s).mbxs = s.mbxs ∧ (modPll q p g s).goOrder = s.goOrder ∧ (modPll q p g s).waiting = s.waiting ∧ (modPll q p g s).deviceId = s.deviceId ∧
    (modPll q p g s).queues = s.queues ∧ (modPll q p g s).lanes = s.lanes ∧ (modPll q p g s).links = s.links ∧ (modPll q p g s).eths = s.eths ∧
    (modPll q p g s).hive = s.hive ∧ (modPll q p g s).ctxs = s.ctxs ∧ (modPll q p g s).combs = s.combs ∧ (modPll q p g s).parts = s.parts ∧
    (modPll q p g s).stitches = s.stitches ∧ (modPll q p g s).frags = s.frags ∧ (modPll q p g s).fragIds = s.fragIds ∧ (modPll q p g s).staging = s.staging ∧
    (modPll q p g s).asms = s.asms ∧ (modPll q p g s).pgs = s.pgs ∧ (modPll q p g s).pgCounts = s.pgCounts ∧ (modPll q p g s).ctxSteer = s.ctxSteer ∧
    (modPll q p g s).pend = s.pend ∧ (modPll q p g s).flight = s.flight ∧ (modPll q p g s).vps = s.vps ∧ (modPll q p g s).encs = s.encs ∧
    (modPll q p g s).emus = s.emus ∧ (modPll q p g s).pins = s.pins ∧ (modPll q p g s).wag = s.wag := by
  exact ⟨rfl, rfl, rfl, rfl, rfl, rfl, rfl, rfl, rfl, rfl, rfl, rfl, rfl, rfl, rfl, rfl, rfl, rfl, rfl, rfl, rfl, rfl, rfl, rfl, rfl, rfl, rfl, rfl, rfl, rfl, rfl, rfl, rfl, rfl, rfl, rfl, rfl, rfl, rfl, rfl, rfl, rfl, rfl⟩
@[simp] theorem modPll_units (q p : Nat) (g : PllState → PllState) (s : State) :
    (∀ i, (modPll q p g s).hp i = s.hp i) ∧ (∀ i j, (modPll q p g s).mbx i j = s.mbx i j) ∧ (∀ i, (modPll q p g s).lane i = s.lane i) ∧
    (∀ i, (modPll q p g s).link i = s.link i) ∧ (∀ i, (modPll q p g s).eth i = s.eth i) ∧ (∀ i, (modPll q p g s).pin i = s.pin i) ∧
    (∀ i, (modPll q p g s).enc i = s.enc i) ∧ (∀ i, (modPll q p g s).emu i = s.emu i) ∧ (∀ i, (modPll q p g s).chan i = s.chan i) ∧
    (∀ i, (modPll q p g s).wgInput i = s.wgInput i) ∧ (∀ i, (modPll q p g s).wgGroup i = s.wgGroup i) ∧ (∀ i, (modPll q p g s).asm i = s.asm i) ∧
    (∀ i, (modPll q p g s).comb i = s.comb i) ∧ (∀ i, (modPll q p g s).vp i = s.vp i) ∧ (∀ i, (modPll q p g s).bank i = s.bank i) ∧
    (∀ i, (modPll q p g s).ctx i = s.ctx i) ∧ (∀ i, (modPll q p g s).queue i = s.queue i) ∧ (modPll q p g s).now = s.now := by
  exact ⟨fun _ => rfl, fun _ _ => rfl, fun _ => rfl, fun _ => rfl, fun _ => rfl, fun _ => rfl, fun _ => rfl, fun _ => rfl, fun _ => rfl, fun _ => rfl, fun _ => rfl, fun _ => rfl, fun _ => rfl, fun _ => rfl, fun _ => rfl, fun _ => rfl, fun _ => rfl, rfl⟩
@[simp] theorem modPin_frame (p : Nat) (g : Pin → Pin) (s : State) :
    (modPin p g s).pending = s.pending ∧ (modPin p g s).out = s.out ∧ (modPin p g s).freeCtr = s.freeCtr ∧ (modPin p g s).pace = s.pace ∧
    (modPin p g s).sys = s.sys ∧ (modPin p g s).clock = s.clock ∧ (modPin p g s).keeper = s.keeper ∧ (modPin p g s).mon = s.mon ∧
    (modPin p g s).power = s.power ∧ (modPin p g s).trust = s.trust ∧ (modPin p g s).banks = s.banks ∧ (modPin p g s).window = s.window ∧
    (modPin p g s).faults = s.faults ∧ (modPin p g s).faultBits = s.faultBits ∧ (modPin p g s).faultReports = s.faultReports ∧ (modPin p g s).hps = s.hps ∧
    (modPin p g s).mbxs = s.mbxs ∧ (modPin p g s).goOrder = s.goOrder ∧ (modPin p g s).waiting = s.waiting ∧ (modPin p g s).deviceId = s.deviceId ∧
    (modPin p g s).queues = s.queues ∧ (modPin p g s).lanes = s.lanes ∧ (modPin p g s).links = s.links ∧ (modPin p g s).plls = s.plls ∧
    (modPin p g s).eths = s.eths ∧ (modPin p g s).hive = s.hive ∧ (modPin p g s).ctxs = s.ctxs ∧ (modPin p g s).combs = s.combs ∧
    (modPin p g s).parts = s.parts ∧ (modPin p g s).stitches = s.stitches ∧ (modPin p g s).frags = s.frags ∧ (modPin p g s).fragIds = s.fragIds ∧
    (modPin p g s).staging = s.staging ∧ (modPin p g s).asms = s.asms ∧ (modPin p g s).pgs = s.pgs ∧ (modPin p g s).pgCounts = s.pgCounts ∧
    (modPin p g s).ctxSteer = s.ctxSteer ∧ (modPin p g s).pend = s.pend ∧ (modPin p g s).flight = s.flight ∧ (modPin p g s).vps = s.vps ∧
    (modPin p g s).encs = s.encs ∧ (modPin p g s).emus = s.emus ∧ (modPin p g s).wag = s.wag := by
  exact ⟨rfl, rfl, rfl, rfl, rfl, rfl, rfl, rfl, rfl, rfl, rfl, rfl, rfl, rfl, rfl, rfl, rfl, rfl, rfl, rfl, rfl, rfl, rfl, rfl, rfl, rfl, rfl, rfl, rfl, rfl, rfl, rfl, rfl, rfl, rfl, rfl, rfl, rfl, rfl, rfl, rfl, rfl, rfl⟩
@[simp] theorem modPin_units (p : Nat) (g : Pin → Pin) (s : State) :
    (∀ i, (modPin p g s).hp i = s.hp i) ∧ (∀ i j, (modPin p g s).mbx i j = s.mbx i j) ∧ (∀ i, (modPin p g s).lane i = s.lane i) ∧
    (∀ i, (modPin p g s).link i = s.link i) ∧ (∀ i, (modPin p g s).eth i = s.eth i) ∧ (∀ i j, (modPin p g s).pll i j = s.pll i j) ∧
    (∀ i, (modPin p g s).enc i = s.enc i) ∧ (∀ i, (modPin p g s).emu i = s.emu i) ∧ (∀ i, (modPin p g s).chan i = s.chan i) ∧
    (∀ i, (modPin p g s).wgInput i = s.wgInput i) ∧ (∀ i, (modPin p g s).wgGroup i = s.wgGroup i) ∧ (∀ i, (modPin p g s).asm i = s.asm i) ∧
    (∀ i, (modPin p g s).comb i = s.comb i) ∧ (∀ i, (modPin p g s).vp i = s.vp i) ∧ (∀ i, (modPin p g s).bank i = s.bank i) ∧
    (∀ i, (modPin p g s).ctx i = s.ctx i) ∧ (∀ i, (modPin p g s).queue i = s.queue i) ∧ (modPin p g s).now = s.now := by
  exact ⟨fun _ => rfl, fun _ _ => rfl, fun _ => rfl, fun _ => rfl, fun _ => rfl, fun _ _ => rfl, fun _ => rfl, fun _ => rfl, fun _ => rfl, fun _ => rfl, fun _ => rfl, fun _ => rfl, fun _ => rfl, fun _ => rfl, fun _ => rfl, fun _ => rfl, fun _ => rfl, rfl⟩
@[simp] theorem modEnc_frame (e : Nat) (g : Enc → Enc) (s : State) :
    (modEnc e g s).pending = s.pending ∧ (modEnc e g s).out = s.out ∧ (modEnc e g s).freeCtr = s.freeCtr ∧ (modEnc e g s).pace = s.pace ∧
    (modEnc e g s).sys = s.sys ∧ (modEnc e g s).clock = s.clock ∧ (modEnc e g s).keeper = s.keeper ∧ (modEnc e g s).mon = s.mon ∧
    (modEnc e g s).power = s.power ∧ (modEnc e g s).trust = s.trust ∧ (modEnc e g s).banks = s.banks ∧ (modEnc e g s).window = s.window ∧
    (modEnc e g s).faults = s.faults ∧ (modEnc e g s).faultBits = s.faultBits ∧ (modEnc e g s).faultReports = s.faultReports ∧ (modEnc e g s).hps = s.hps ∧
    (modEnc e g s).mbxs = s.mbxs ∧ (modEnc e g s).goOrder = s.goOrder ∧ (modEnc e g s).waiting = s.waiting ∧ (modEnc e g s).deviceId = s.deviceId ∧
    (modEnc e g s).queues = s.queues ∧ (modEnc e g s).lanes = s.lanes ∧ (modEnc e g s).links = s.links ∧ (modEnc e g s).plls = s.plls ∧
    (modEnc e g s).eths = s.eths ∧ (modEnc e g s).hive = s.hive ∧ (modEnc e g s).ctxs = s.ctxs ∧ (modEnc e g s).combs = s.combs ∧
    (modEnc e g s).parts = s.parts ∧ (modEnc e g s).stitches = s.stitches ∧ (modEnc e g s).frags = s.frags ∧ (modEnc e g s).fragIds = s.fragIds ∧
    (modEnc e g s).staging = s.staging ∧ (modEnc e g s).asms = s.asms ∧ (modEnc e g s).pgs = s.pgs ∧ (modEnc e g s).pgCounts = s.pgCounts ∧
    (modEnc e g s).ctxSteer = s.ctxSteer ∧ (modEnc e g s).pend = s.pend ∧ (modEnc e g s).flight = s.flight ∧ (modEnc e g s).vps = s.vps ∧
    (modEnc e g s).emus = s.emus ∧ (modEnc e g s).pins = s.pins ∧ (modEnc e g s).wag = s.wag := by
  exact ⟨rfl, rfl, rfl, rfl, rfl, rfl, rfl, rfl, rfl, rfl, rfl, rfl, rfl, rfl, rfl, rfl, rfl, rfl, rfl, rfl, rfl, rfl, rfl, rfl, rfl, rfl, rfl, rfl, rfl, rfl, rfl, rfl, rfl, rfl, rfl, rfl, rfl, rfl, rfl, rfl, rfl, rfl, rfl⟩
@[simp] theorem modEnc_units (e : Nat) (g : Enc → Enc) (s : State) :
    (∀ i, (modEnc e g s).hp i = s.hp i) ∧ (∀ i j, (modEnc e g s).mbx i j = s.mbx i j) ∧ (∀ i, (modEnc e g s).lane i = s.lane i) ∧
    (∀ i, (modEnc e g s).link i = s.link i) ∧ (∀ i, (modEnc e g s).eth i = s.eth i) ∧ (∀ i j, (modEnc e g s).pll i j = s.pll i j) ∧
    (∀ i, (modEnc e g s).pin i = s.pin i) ∧ (∀ i, (modEnc e g s).emu i = s.emu i) ∧ (∀ i, (modEnc e g s).chan i = s.chan i) ∧
    (∀ i, (modEnc e g s).wgInput i = s.wgInput i) ∧ (∀ i, (modEnc e g s).wgGroup i = s.wgGroup i) ∧ (∀ i, (modEnc e g s).asm i = s.asm i) ∧
    (∀ i, (modEnc e g s).comb i = s.comb i) ∧ (∀ i, (modEnc e g s).vp i = s.vp i) ∧ (∀ i, (modEnc e g s).bank i = s.bank i) ∧
    (∀ i, (modEnc e g s).ctx i = s.ctx i) ∧ (∀ i, (modEnc e g s).queue i = s.queue i) ∧ (modEnc e g s).now = s.now := by
  exact ⟨fun _ => rfl, fun _ _ => rfl, fun _ => rfl, fun _ => rfl, fun _ => rfl, fun _ _ => rfl, fun _ => rfl, fun _ => rfl, fun _ => rfl, fun _ => rfl, fun _ => rfl, fun _ => rfl, fun _ => rfl, fun _ => rfl, fun _ => rfl, fun _ => rfl, fun _ => rfl, rfl⟩
@[simp] theorem modEmu_frame (e : Nat) (g : Emu → Emu) (s : State) :
    (modEmu e g s).pending = s.pending ∧ (modEmu e g s).out = s.out ∧ (modEmu e g s).freeCtr = s.freeCtr ∧ (modEmu e g s).pace = s.pace ∧
    (modEmu e g s).sys = s.sys ∧ (modEmu e g s).clock = s.clock ∧ (modEmu e g s).keeper = s.keeper ∧ (modEmu e g s).mon = s.mon ∧
    (modEmu e g s).power = s.power ∧ (modEmu e g s).trust = s.trust ∧ (modEmu e g s).banks = s.banks ∧ (modEmu e g s).window = s.window ∧
    (modEmu e g s).faults = s.faults ∧ (modEmu e g s).faultBits = s.faultBits ∧ (modEmu e g s).faultReports = s.faultReports ∧ (modEmu e g s).hps = s.hps ∧
    (modEmu e g s).mbxs = s.mbxs ∧ (modEmu e g s).goOrder = s.goOrder ∧ (modEmu e g s).waiting = s.waiting ∧ (modEmu e g s).deviceId = s.deviceId ∧
    (modEmu e g s).queues = s.queues ∧ (modEmu e g s).lanes = s.lanes ∧ (modEmu e g s).links = s.links ∧ (modEmu e g s).plls = s.plls ∧
    (modEmu e g s).eths = s.eths ∧ (modEmu e g s).hive = s.hive ∧ (modEmu e g s).ctxs = s.ctxs ∧ (modEmu e g s).combs = s.combs ∧
    (modEmu e g s).parts = s.parts ∧ (modEmu e g s).stitches = s.stitches ∧ (modEmu e g s).frags = s.frags ∧ (modEmu e g s).fragIds = s.fragIds ∧
    (modEmu e g s).staging = s.staging ∧ (modEmu e g s).asms = s.asms ∧ (modEmu e g s).pgs = s.pgs ∧ (modEmu e g s).pgCounts = s.pgCounts ∧
    (modEmu e g s).ctxSteer = s.ctxSteer ∧ (modEmu e g s).pend = s.pend ∧ (modEmu e g s).flight = s.flight ∧ (modEmu e g s).vps = s.vps ∧
    (modEmu e g s).encs = s.encs ∧ (modEmu e g s).pins = s.pins ∧ (modEmu e g s).wag = s.wag := by
  exact ⟨rfl, rfl, rfl, rfl, rfl, rfl, rfl, rfl, rfl, rfl, rfl, rfl, rfl, rfl, rfl, rfl, rfl, rfl, rfl, rfl, rfl, rfl, rfl, rfl, rfl, rfl, rfl, rfl, rfl, rfl, rfl, rfl, rfl, rfl, rfl, rfl, rfl, rfl, rfl, rfl, rfl, rfl, rfl⟩
@[simp] theorem modEmu_units (e : Nat) (g : Emu → Emu) (s : State) :
    (∀ i, (modEmu e g s).hp i = s.hp i) ∧ (∀ i j, (modEmu e g s).mbx i j = s.mbx i j) ∧ (∀ i, (modEmu e g s).lane i = s.lane i) ∧
    (∀ i, (modEmu e g s).link i = s.link i) ∧ (∀ i, (modEmu e g s).eth i = s.eth i) ∧ (∀ i j, (modEmu e g s).pll i j = s.pll i j) ∧
    (∀ i, (modEmu e g s).pin i = s.pin i) ∧ (∀ i, (modEmu e g s).enc i = s.enc i) ∧ (∀ i, (modEmu e g s).chan i = s.chan i) ∧
    (∀ i, (modEmu e g s).wgInput i = s.wgInput i) ∧ (∀ i, (modEmu e g s).wgGroup i = s.wgGroup i) ∧ (∀ i, (modEmu e g s).asm i = s.asm i) ∧
    (∀ i, (modEmu e g s).comb i = s.comb i) ∧ (∀ i, (modEmu e g s).vp i = s.vp i) ∧ (∀ i, (modEmu e g s).bank i = s.bank i) ∧
    (∀ i, (modEmu e g s).ctx i = s.ctx i) ∧ (∀ i, (modEmu e g s).queue i = s.queue i) ∧ (modEmu e g s).now = s.now := by
  exact ⟨fun _ => rfl, fun _ _ => rfl, fun _ => rfl, fun _ => rfl, fun _ => rfl, fun _ _ => rfl, fun _ => rfl, fun _ => rfl, fun _ => rfl, fun _ => rfl, fun _ => rfl, fun _ => rfl, fun _ => rfl, fun _ => rfl, fun _ => rfl, fun _ => rfl, fun _ => rfl, rfl⟩
@[simp] theorem modChan_frame (c : Nat) (g : WgChan → WgChan) (s : State) :
    (modChan c g s).pending = s.pending ∧ (modChan c g s).out = s.out ∧ (modChan c g s).freeCtr = s.freeCtr ∧ (modChan c g s).pace = s.pace ∧
    (modChan c g s).sys = s.sys ∧ (modChan c g s).clock = s.clock ∧ (modChan c g s).keeper = s.keeper ∧ (modChan c g s).mon = s.mon ∧
    (modChan c g s).power = s.power ∧ (modChan c g s).trust = s.trust ∧ (modChan c g s).banks = s.banks ∧ (modChan c g s).window = s.window ∧
    (modChan c g s).faults = s.faults ∧ (modChan c g s).faultBits = s.faultBits ∧ (modChan c g s).faultReports = s.faultReports ∧ (modChan c g s).hps = s.hps ∧
    (modChan c g s).mbxs = s.mbxs ∧ (modChan c g s).goOrder = s.goOrder ∧ (modChan c g s).waiting = s.waiting ∧ (modChan c g s).deviceId = s.deviceId ∧
    (modChan c g s).queues = s.queues ∧ (modChan c g s).lanes = s.lanes ∧ (modChan c g s).links = s.links ∧ (modChan c g s).plls = s.plls ∧
    (modChan c g s).eths = s.eths ∧ (modChan c g s).hive = s.hive ∧ (modChan c g s).ctxs = s.ctxs ∧ (modChan c g s).combs = s.combs ∧
    (modChan c g s).parts = s.parts ∧ (modChan c g s).stitches = s.stitches ∧ (modChan c g s).frags = s.frags ∧ (modChan c g s).fragIds = s.fragIds ∧
    (modChan c g s).staging = s.staging ∧ (modChan c g s).asms = s.asms ∧ (modChan c g s).pgs = s.pgs ∧ (modChan c g s).pgCounts = s.pgCounts ∧
    (modChan c g s).ctxSteer = s.ctxSteer ∧ (modChan c g s).pend = s.pend ∧ (modChan c g s).flight = s.flight ∧ (modChan c g s).vps = s.vps ∧
    (modChan c g s).encs = s.encs ∧ (modChan c g s).emus = s.emus ∧ (modChan c g s).pins = s.pins := by
  exact ⟨rfl, rfl, rfl, rfl, rfl, rfl, rfl, rfl, rfl, rfl, rfl, rfl, rfl, rfl, rfl, rfl, rfl, rfl, rfl, rfl, rfl, rfl, rfl, rfl, rfl, rfl, rfl, rfl, rfl, rfl, rfl, rfl, rfl, rfl, rfl, rfl, rfl, rfl, rfl, rfl, rfl, rfl, rfl⟩
@[simp] theorem modChan_units (c : Nat) (g : WgChan → WgChan) (s : State) :
    (∀ i, (modChan c g s).hp i = s.hp i) ∧ (∀ i j, (modChan c g s).mbx i j = s.mbx i j) ∧ (∀ i, (modChan c g s).lane i = s.lane i) ∧
    (∀ i, (modChan c g s).link i = s.link i) ∧ (∀ i, (modChan c g s).eth i = s.eth i) ∧ (∀ i j, (modChan c g s).pll i j = s.pll i j) ∧
    (∀ i, (modChan c g s).pin i = s.pin i) ∧ (∀ i, (modChan c g s).enc i = s.enc i) ∧ (∀ i, (modChan c g s).emu i = s.emu i) ∧
    (∀ i, (modChan c g s).asm i = s.asm i) ∧ (∀ i, (modChan c g s).comb i = s.comb i) ∧ (∀ i, (modChan c g s).vp i = s.vp i) ∧
    (∀ i, (modChan c g s).bank i = s.bank i) ∧ (∀ i, (modChan c g s).ctx i = s.ctx i) ∧ (∀ i, (modChan c g s).queue i = s.queue i) ∧
    (modChan c g s).now = s.now := by
  exact ⟨fun _ => rfl, fun _ _ => rfl, fun _ => rfl, fun _ => rfl, fun _ => rfl, fun _ _ => rfl, fun _ => rfl, fun _ => rfl, fun _ => rfl, fun _ => rfl, fun _ => rfl, fun _ => rfl, fun _ => rfl, fun _ => rfl, fun _ => rfl, rfl⟩
@[simp] theorem modWgInput_frame (c : Nat) (g : WgInput → WgInput) (s : State) :
    (modWgInput c g s).pending = s.pending ∧ (modWgInput c g s).out = s.out ∧ (modWgInput c g s).freeCtr = s.freeCtr ∧ (modWgInput c g s).pace = s.pace ∧
    (modWgInput c g s).sys = s.sys ∧ (modWgInput c g s).clock = s.clock ∧ (modWgInput c g s).keeper = s.keeper ∧ (modWgInput c g s).mon = s.mon ∧
    (modWgInput c g s).power = s.power ∧ (modWgInput c g s).trust = s.trust ∧ (modWgInput c g s).banks = s.banks ∧ (modWgInput c g s).window = s.window ∧
    (modWgInput c g s).faults = s.faults ∧ (modWgInput c g s).faultBits = s.faultBits ∧ (modWgInput c g s).faultReports = s.faultReports ∧ (modWgInput c g s).hps = s.hps ∧
    (modWgInput c g s).mbxs = s.mbxs ∧ (modWgInput c g s).goOrder = s.goOrder ∧ (modWgInput c g s).waiting = s.waiting ∧ (modWgInput c g s).deviceId = s.deviceId ∧
    (modWgInput c g s).queues = s.queues ∧ (modWgInput c g s).lanes = s.lanes ∧ (modWgInput c g s).links = s.links ∧ (modWgInput c g s).plls = s.plls ∧
    (modWgInput c g s).eths = s.eths ∧ (modWgInput c g s).hive = s.hive ∧ (modWgInput c g s).ctxs = s.ctxs ∧ (modWgInput c g s).combs = s.combs ∧
    (modWgInput c g s).parts = s.parts ∧ (modWgInput c g s).stitches = s.stitches ∧ (modWgInput c g s).frags = s.frags ∧ (modWgInput c g s).fragIds = s.fragIds ∧
    (modWgInput c g s).staging = s.staging ∧ (modWgInput c g s).asms = s.asms ∧ (modWgInput c g s).pgs = s.pgs ∧ (modWgInput c g s).pgCounts = s.pgCounts ∧
    (modWgInput c g s).ctxSteer = s.ctxSteer ∧ (modWgInput c g s).pend = s.pend ∧ (modWgInput c g s).flight = s.flight ∧ (modWgInput c g s).vps = s.vps ∧
    (modWgInput c g s).encs = s.encs ∧ (modWgInput c g s).emus = s.emus ∧ (modWgInput c g s).pins = s.pins := by
  exact ⟨rfl, rfl, rfl, rfl, rfl, rfl, rfl, rfl, rfl, rfl, rfl, rfl, rfl, rfl, rfl, rfl, rfl, rfl, rfl, rfl, rfl, rfl, rfl, rfl, rfl, rfl, rfl, rfl, rfl, rfl, rfl, rfl, rfl, rfl, rfl, rfl, rfl, rfl, rfl, rfl, rfl, rfl, rfl⟩
@[simp] theorem modWgInput_units (c : Nat) (g : WgInput → WgInput) (s : State) :
    (∀ i, (modWgInput c g s).hp i = s.hp i) ∧ (∀ i j, (modWgInput c g s).mbx i j = s.mbx i j) ∧ (∀ i, (modWgInput c g s).lane i = s.lane i) ∧
    (∀ i, (modWgInput c g s).link i = s.link i) ∧ (∀ i, (modWgInput c g s).eth i = s.eth i) ∧ (∀ i j, (modWgInput c g s).pll i j = s.pll i j) ∧
    (∀ i, (modWgInput c g s).pin i = s.pin i) ∧ (∀ i, (modWgInput c g s).enc i = s.enc i) ∧ (∀ i, (modWgInput c g s).emu i = s.emu i) ∧
    (∀ i, (modWgInput c g s).asm i = s.asm i) ∧ (∀ i, (modWgInput c g s).comb i = s.comb i) ∧ (∀ i, (modWgInput c g s).vp i = s.vp i) ∧
    (∀ i, (modWgInput c g s).bank i = s.bank i) ∧ (∀ i, (modWgInput c g s).ctx i = s.ctx i) ∧ (∀ i, (modWgInput c g s).queue i = s.queue i) ∧
    (modWgInput c g s).now = s.now := by
  exact ⟨fun _ => rfl, fun _ _ => rfl, fun _ => rfl, fun _ => rfl, fun _ => rfl, fun _ _ => rfl, fun _ => rfl, fun _ => rfl, fun _ => rfl, fun _ => rfl, fun _ => rfl, fun _ => rfl, fun _ => rfl, fun _ => rfl, fun _ => rfl, rfl⟩
@[simp] theorem modWgGroup_frame (c : Nat) (g : WgGroup → WgGroup) (s : State) :
    (modWgGroup c g s).pending = s.pending ∧ (modWgGroup c g s).out = s.out ∧ (modWgGroup c g s).freeCtr = s.freeCtr ∧ (modWgGroup c g s).pace = s.pace ∧
    (modWgGroup c g s).sys = s.sys ∧ (modWgGroup c g s).clock = s.clock ∧ (modWgGroup c g s).keeper = s.keeper ∧ (modWgGroup c g s).mon = s.mon ∧
    (modWgGroup c g s).power = s.power ∧ (modWgGroup c g s).trust = s.trust ∧ (modWgGroup c g s).banks = s.banks ∧ (modWgGroup c g s).window = s.window ∧
    (modWgGroup c g s).faults = s.faults ∧ (modWgGroup c g s).faultBits = s.faultBits ∧ (modWgGroup c g s).faultReports = s.faultReports ∧ (modWgGroup c g s).hps = s.hps ∧
    (modWgGroup c g s).mbxs = s.mbxs ∧ (modWgGroup c g s).goOrder = s.goOrder ∧ (modWgGroup c g s).waiting = s.waiting ∧ (modWgGroup c g s).deviceId = s.deviceId ∧
    (modWgGroup c g s).queues = s.queues ∧ (modWgGroup c g s).lanes = s.lanes ∧ (modWgGroup c g s).links = s.links ∧ (modWgGroup c g s).plls = s.plls ∧
    (modWgGroup c g s).eths = s.eths ∧ (modWgGroup c g s).hive = s.hive ∧ (modWgGroup c g s).ctxs = s.ctxs ∧ (modWgGroup c g s).combs = s.combs ∧
    (modWgGroup c g s).parts = s.parts ∧ (modWgGroup c g s).stitches = s.stitches ∧ (modWgGroup c g s).frags = s.frags ∧ (modWgGroup c g s).fragIds = s.fragIds ∧
    (modWgGroup c g s).staging = s.staging ∧ (modWgGroup c g s).asms = s.asms ∧ (modWgGroup c g s).pgs = s.pgs ∧ (modWgGroup c g s).pgCounts = s.pgCounts ∧
    (modWgGroup c g s).ctxSteer = s.ctxSteer ∧ (modWgGroup c g s).pend = s.pend ∧ (modWgGroup c g s).flight = s.flight ∧ (modWgGroup c g s).vps = s.vps ∧
    (modWgGroup c g s).encs = s.encs ∧ (modWgGroup c g s).emus = s.emus ∧ (modWgGroup c g s).pins = s.pins := by
  exact ⟨rfl, rfl, rfl, rfl, rfl, rfl, rfl, rfl, rfl, rfl, rfl, rfl, rfl, rfl, rfl, rfl, rfl, rfl, rfl, rfl, rfl, rfl, rfl, rfl, rfl, rfl, rfl, rfl, rfl, rfl, rfl, rfl, rfl, rfl, rfl, rfl, rfl, rfl, rfl, rfl, rfl, rfl, rfl⟩
@[simp] theorem modWgGroup_units (c : Nat) (g : WgGroup → WgGroup) (s : State) :
    (∀ i, (modWgGroup c g s).hp i = s.hp i) ∧ (∀ i j, (modWgGroup c g s).mbx i j = s.mbx i j) ∧ (∀ i, (modWgGroup c g s).lane i = s.lane i) ∧
    (∀ i, (modWgGroup c g s).link i = s.link i) ∧ (∀ i, (modWgGroup c g s).eth i = s.eth i) ∧ (∀ i j, (modWgGroup c g s).pll i j = s.pll i j) ∧
    (∀ i, (modWgGroup c g s).pin i = s.pin i) ∧ (∀ i, (modWgGroup c g s).enc i = s.enc i) ∧ (∀ i, (modWgGroup c g s).emu i = s.emu i) ∧
    (∀ i, (modWgGroup c g s).asm i = s.asm i) ∧ (∀ i, (modWgGroup c g s).comb i = s.comb i) ∧ (∀ i, (modWgGroup c g s).vp i = s.vp i) ∧
    (∀ i, (modWgGroup c g s).bank i = s.bank i) ∧ (∀ i, (modWgGroup c g s).ctx i = s.ctx i) ∧ (∀ i, (modWgGroup c g s).queue i = s.queue i) ∧
    (modWgGroup c g s).now = s.now := by
  exact ⟨fun _ => rfl, fun _ _ => rfl, fun _ => rfl, fun _ => rfl, fun _ => rfl, fun _ _ => rfl, fun _ => rfl, fun _ => rfl, fun _ => rfl, fun _ => rfl, fun _ => rfl, fun _ => rfl, fun _ => rfl, fun _ => rfl, fun _ => rfl, rfl⟩
@[simp] theorem modAsm_frame (a : Nat) (g : Asm → Asm) (s : State) :
    (modAsm a g s).pending = s.pending ∧ (modAsm a g s).out = s.out ∧ (modAsm a g s).freeCtr = s.freeCtr ∧ (modAsm a g s).pace = s.pace ∧
    (modAsm a g s).sys = s.sys ∧ (modAsm a g s).clock = s.clock ∧ (modAsm a g s).keeper = s.keeper ∧ (modAsm a g s).mon = s.mon ∧
    (modAsm a g s).power = s.power ∧ (modAsm a g s).trust = s.trust ∧ (modAsm a g s).banks = s.banks ∧ (modAsm a g s).window = s.window ∧
    (modAsm a g s).faults = s.faults ∧ (modAsm a g s).faultBits = s.faultBits ∧ (modAsm a g s).faultReports = s.faultReports ∧ (modAsm a g s).hps = s.hps ∧
    (modAsm a g s).mbxs = s.mbxs ∧ (modAsm a g s).goOrder = s.goOrder ∧ (modAsm a g s).waiting = s.waiting ∧ (modAsm a g s).deviceId = s.deviceId ∧
    (modAsm a g s).queues = s.queues ∧ (modAsm a g s).lanes = s.lanes ∧ (modAsm a g s).links = s.links ∧ (modAsm a g s).plls = s.plls ∧
    (modAsm a g s).eths = s.eths ∧ (modAsm a g s).hive = s.hive ∧ (modAsm a g s).ctxs = s.ctxs ∧ (modAsm a g s).combs = s.combs ∧
    (modAsm a g s).parts = s.parts ∧ (modAsm a g s).stitches = s.stitches ∧ (modAsm a g s).frags = s.frags ∧ (modAsm a g s).fragIds = s.fragIds ∧
    (modAsm a g s).staging = s.staging ∧ (modAsm a g s).pgs = s.pgs ∧ (modAsm a g s).pgCounts = s.pgCounts ∧ (modAsm a g s).ctxSteer = s.ctxSteer ∧
    (modAsm a g s).pend = s.pend ∧ (modAsm a g s).flight = s.flight ∧ (modAsm a g s).vps = s.vps ∧ (modAsm a g s).encs = s.encs ∧
    (modAsm a g s).emus = s.emus ∧ (modAsm a g s).pins = s.pins ∧ (modAsm a g s).wag = s.wag := by
  exact ⟨rfl, rfl, rfl, rfl, rfl, rfl, rfl, rfl, rfl, rfl, rfl, rfl, rfl, rfl, rfl, rfl, rfl, rfl, rfl, rfl, rfl, rfl, rfl, rfl, rfl, rfl, rfl, rfl, rfl, rfl, rfl, rfl, rfl, rfl, rfl, rfl, rfl, rfl, rfl, rfl, rfl, rfl, rfl⟩
@[simp] theorem modAsm_units (a : Nat) (g : Asm → Asm) (s : State) :
    (∀ i, (modAsm a g s).hp i = s.hp i) ∧ (∀ i j, (modAsm a g s).mbx i j = s.mbx i j) ∧ (∀ i, (modAsm a g s).lane i = s.lane i) ∧
    (∀ i, (modAsm a g s).link i = s.link i) ∧ (∀ i, (modAsm a g s).eth i = s.eth i) ∧ (∀ i j, (modAsm a g s).pll i j = s.pll i j) ∧
    (∀ i, (modAsm a g s).pin i = s.pin i) ∧ (∀ i, (modAsm a g s).enc i = s.enc i) ∧ (∀ i, (modAsm a g s).emu i = s.emu i) ∧
    (∀ i, (modAsm a g s).chan i = s.chan i) ∧ (∀ i, (modAsm a g s).wgInput i = s.wgInput i) ∧ (∀ i, (modAsm a g s).wgGroup i = s.wgGroup i) ∧
    (∀ i, (modAsm a g s).comb i = s.comb i) ∧ (∀ i, (modAsm a g s).vp i = s.vp i) ∧ (∀ i, (modAsm a g s).bank i = s.bank i) ∧
    (∀ i, (modAsm a g s).ctx i = s.ctx i) ∧ (∀ i, (modAsm a g s).queue i = s.queue i) ∧ (modAsm a g s).now = s.now := by
  exact ⟨fun _ => rfl, fun _ _ => rfl, fun _ => rfl, fun _ => rfl, fun _ => rfl, fun _ _ => rfl, fun _ => rfl, fun _ => rfl, fun _ => rfl, fun _ => rfl, fun _ => rfl, fun _ => rfl, fun _ => rfl, fun _ => rfl, fun _ => rfl, fun _ => rfl, fun _ => rfl, rfl⟩
@[simp] theorem modComb_frame (k : Nat) (g : Comb → Comb) (s : State) :
    (modComb k g s).pending = s.pending ∧ (modComb k g s).out = s.out ∧ (modComb k g s).freeCtr = s.freeCtr ∧ (modComb k g s).pace = s.pace ∧
    (modComb k g s).sys = s.sys ∧ (modComb k g s).clock = s.clock ∧ (modComb k g s).keeper = s.keeper ∧ (modComb k g s).mon = s.mon ∧
    (modComb k g s).power = s.power ∧ (modComb k g s).trust = s.trust ∧ (modComb k g s).banks = s.banks ∧ (modComb k g s).window = s.window ∧
    (modComb k g s).faults = s.faults ∧ (modComb k g s).faultBits = s.faultBits ∧ (modComb k g s).faultReports = s.faultReports ∧ (modComb k g s).hps = s.hps ∧
    (modComb k g s).mbxs = s.mbxs ∧ (modComb k g s).goOrder = s.goOrder ∧ (modComb k g s).waiting = s.waiting ∧ (modComb k g s).deviceId = s.deviceId ∧
    (modComb k g s).queues = s.queues ∧ (modComb k g s).lanes = s.lanes ∧ (modComb k g s).links = s.links ∧ (modComb k g s).plls = s.plls ∧
    (modComb k g s).eths = s.eths ∧ (modComb k g s).hive = s.hive ∧ (modComb k g s).ctxs = s.ctxs ∧ (modComb k g s).parts = s.parts ∧
    (modComb k g s).stitches = s.stitches ∧ (modComb k g s).frags = s.frags ∧ (modComb k g s).fragIds = s.fragIds ∧ (modComb k g s).staging = s.staging ∧
    (modComb k g s).asms = s.asms ∧ (modComb k g s).pgs = s.pgs ∧ (modComb k g s).pgCounts = s.pgCounts ∧ (modComb k g s).ctxSteer = s.ctxSteer ∧
    (modComb k g s).pend = s.pend ∧ (modComb k g s).flight = s.flight ∧ (modComb k g s).vps = s.vps ∧ (modComb k g s).encs = s.encs ∧
    (modComb k g s).emus = s.emus ∧ (modComb k g s).pins = s.pins ∧ (modComb k g s).wag = s.wag := by
  exact ⟨rfl, rfl, rfl, rfl, rfl, rfl, rfl, rfl, rfl, rfl, rfl, rfl, rfl, rfl, rfl, rfl, rfl, rfl, rfl, rfl, rfl, rfl, rfl, rfl, rfl, rfl, rfl, rfl, rfl, rfl, rfl, rfl, rfl, rfl, rfl, rfl, rfl, rfl, rfl, rfl, rfl, rfl, rfl⟩
@[simp] theorem modComb_units (k : Nat) (g : Comb → Comb) (s : State) :
    (∀ i, (modComb k g s).hp i = s.hp i) ∧ (∀ i j, (modComb k g s).mbx i j = s.mbx i j) ∧ (∀ i, (modComb k g s).lane i = s.lane i) ∧
    (∀ i, (modComb k g s).link i = s.link i) ∧ (∀ i, (modComb k g s).eth i = s.eth i) ∧ (∀ i j, (modComb k g s).pll i j = s.pll i j) ∧
    (∀ i, (modComb k g s).pin i = s.pin i) ∧ (∀ i, (modComb k g s).enc i = s.enc i) ∧ (∀ i, (modComb k g s).emu i = s.emu i) ∧
    (∀ i, (modComb k g s).chan i = s.chan i) ∧ (∀ i, (modComb k g s).wgInput i = s.wgInput i) ∧ (∀ i, (modComb k g s).wgGroup i = s.wgGroup i) ∧
    (∀ i, (modComb k g s).asm i = s.asm i) ∧ (∀ i, (modComb k g s).vp i = s.vp i) ∧ (∀ i, (modComb k g s).bank i = s.bank i) ∧
    (∀ i, (modComb k g s).ctx i = s.ctx i) ∧ (∀ i, (modComb k g s).queue i = s.queue i) ∧ (modComb k g s).now = s.now := by
  exact ⟨fun _ => rfl, fun _ _ => rfl, fun _ => rfl, fun _ => rfl, fun _ => rfl, fun _ _ => rfl, fun _ => rfl, fun _ => rfl, fun _ => rfl, fun _ => rfl, fun _ => rfl, fun _ => rfl, fun _ => rfl, fun _ => rfl, fun _ => rfl, fun _ => rfl, fun _ => rfl, rfl⟩
@[simp] theorem modVp_frame (v : Nat) (g : ValvePort → ValvePort) (s : State) :
    (modVp v g s).pending = s.pending ∧ (modVp v g s).out = s.out ∧ (modVp v g s).freeCtr = s.freeCtr ∧ (modVp v g s).pace = s.pace ∧
    (modVp v g s).sys = s.sys ∧ (modVp v g s).clock = s.clock ∧ (modVp v g s).keeper = s.keeper ∧ (modVp v g s).mon = s.mon ∧
    (modVp v g s).power = s.power ∧ (modVp v g s).trust = s.trust ∧ (modVp v g s).banks = s.banks ∧ (modVp v g s).window = s.window ∧
    (modVp v g s).faults = s.faults ∧ (modVp v g s).faultBits = s.faultBits ∧ (modVp v g s).faultReports = s.faultReports ∧ (modVp v g s).hps = s.hps ∧
    (modVp v g s).mbxs = s.mbxs ∧ (modVp v g s).goOrder = s.goOrder ∧ (modVp v g s).waiting = s.waiting ∧ (modVp v g s).deviceId = s.deviceId ∧
    (modVp v g s).queues = s.queues ∧ (modVp v g s).lanes = s.lanes ∧ (modVp v g s).links = s.links ∧ (modVp v g s).plls = s.plls ∧
    (modVp v g s).eths = s.eths ∧ (modVp v g s).hive = s.hive ∧ (modVp v g s).ctxs = s.ctxs ∧ (modVp v g s).combs = s.combs ∧
    (modVp v g s).parts = s.parts ∧ (modVp v g s).stitches = s.stitches ∧ (modVp v g s).frags = s.frags ∧ (modVp v g s).fragIds = s.fragIds ∧
    (modVp v g s).staging = s.staging ∧ (modVp v g s).asms = s.asms ∧ (modVp v g s).pgs = s.pgs ∧ (modVp v g s).pgCounts = s.pgCounts ∧
    (modVp v g s).ctxSteer = s.ctxSteer ∧ (modVp v g s).pend = s.pend ∧ (modVp v g s).flight = s.flight ∧ (modVp v g s).encs = s.encs ∧
    (modVp v g s).emus = s.emus ∧ (modVp v g s).pins = s.pins ∧ (modVp v g s).wag = s.wag := by
  exact ⟨rfl, rfl, rfl, rfl, rfl, rfl, rfl, rfl, rfl, rfl, rfl, rfl, rfl, rfl, rfl, rfl, rfl, rfl, rfl, rfl, rfl, rfl, rfl, rfl, rfl, rfl, rfl, rfl, rfl, rfl, rfl, rfl, rfl, rfl, rfl, rfl, rfl, rfl, rfl, rfl, rfl, rfl, rfl⟩
@[simp] theorem modVp_units (v : Nat) (g : ValvePort → ValvePort) (s : State) :
    (∀ i, (modVp v g s).hp i = s.hp i) ∧ (∀ i j, (modVp v g s).mbx i j = s.mbx i j) ∧ (∀ i, (modVp v g s).lane i = s.lane i) ∧
    (∀ i, (modVp v g s).link i = s.link i) ∧ (∀ i, (modVp v g s).eth i = s.eth i) ∧ (∀ i j, (modVp v g s).pll i j = s.pll i j) ∧
    (∀ i, (modVp v g s).pin i = s.pin i) ∧ (∀ i, (modVp v g s).enc i = s.enc i) ∧ (∀ i, (modVp v g s).emu i = s.emu i) ∧
    (∀ i, (modVp v g s).chan i = s.chan i) ∧ (∀ i, (modVp v g s).wgInput i = s.wgInput i) ∧ (∀ i, (modVp v g s).wgGroup i = s.wgGroup i) ∧
    (∀ i, (modVp v g s).asm i = s.asm i) ∧ (∀ i, (modVp v g s).comb i = s.comb i) ∧ (∀ i, (modVp v g s).bank i = s.bank i) ∧
    (∀ i, (modVp v g s).ctx i = s.ctx i) ∧ (∀ i, (modVp v g s).queue i = s.queue i) ∧ (modVp v g s).now = s.now := by
  exact ⟨fun _ => rfl, fun _ _ => rfl, fun _ => rfl, fun _ => rfl, fun _ => rfl, fun _ _ => rfl, fun _ => rfl, fun _ => rfl, fun _ => rfl, fun _ => rfl, fun _ => rfl, fun _ => rfl, fun _ => rfl, fun _ => rfl, fun _ => rfl, fun _ => rfl, fun _ => rfl, rfl⟩
@[simp] theorem modBank_frame (b : Nat) (g : Bank → Bank) (s : State) :
    (modBank b g s).pending = s.pending ∧ (modBank b g s).out = s.out ∧ (modBank b g s).freeCtr = s.freeCtr ∧ (modBank b g s).pace = s.pace ∧
    (modBank b g s).sys = s.sys ∧ (modBank b g s).clock = s.clock ∧ (modBank b g s).keeper = s.keeper ∧ (modBank b g s).mon = s.mon ∧
    (modBank b g s).power = s.power ∧ (modBank b g s).trust = s.trust ∧ (modBank b g s).window = s.window ∧ (modBank b g s).faults = s.faults ∧
    (modBank b g s).faultBits = s.faultBits ∧ (modBank b g s).faultReports = s.faultReports ∧ (modBank b g s).hps = s.hps ∧ (modBank b g s).mbxs = s.mbxs ∧
    (modBank b g s).goOrder = s.goOrder ∧ (modBank b g s).waiting = s.waiting ∧ (modBank b g s).deviceId = s.deviceId ∧ (modBank b g s).queues = s.queues ∧
    (modBank b g s).lanes = s.lanes ∧ (modBank b g s).links = s.links ∧ (modBank b g s).plls = s.plls ∧ (modBank b g s).eths = s.eths ∧
    (modBank b g s).hive = s.hive ∧ (modBank b g s).ctxs = s.ctxs ∧ (modBank b g s).combs = s.combs ∧ (modBank b g s).parts = s.parts ∧
    (modBank b g s).stitches = s.stitches ∧ (modBank b g s).frags = s.frags ∧ (modBank b g s).fragIds = s.fragIds ∧ (modBank b g s).staging = s.staging ∧
    (modBank b g s).asms = s.asms ∧ (modBank b g s).pgs = s.pgs ∧ (modBank b g s).pgCounts = s.pgCounts ∧ (modBank b g s).ctxSteer = s.ctxSteer ∧
    (modBank b g s).pend = s.pend ∧ (modBank b g s).flight = s.flight ∧ (modBank b g s).vps = s.vps ∧ (modBank b g s).encs = s.encs ∧
    (modBank b g s).emus = s.emus ∧ (modBank b g s).pins = s.pins ∧ (modBank b g s).wag = s.wag := by
  exact ⟨rfl, rfl, rfl, rfl, rfl, rfl, rfl, rfl, rfl, rfl, rfl, rfl, rfl, rfl, rfl, rfl, rfl, rfl, rfl, rfl, rfl, rfl, rfl, rfl, rfl, rfl, rfl, rfl, rfl, rfl, rfl, rfl, rfl, rfl, rfl, rfl, rfl, rfl, rfl, rfl, rfl, rfl, rfl⟩
@[simp] theorem modBank_units (b : Nat) (g : Bank → Bank) (s : State) :
    (∀ i, (modBank b g s).hp i = s.hp i) ∧ (∀ i j, (modBank b g s).mbx i j = s.mbx i j) ∧ (∀ i, (modBank b g s).lane i = s.lane i) ∧
    (∀ i, (modBank b g s).link i = s.link i) ∧ (∀ i, (modBank b g s).eth i = s.eth i) ∧ (∀ i j, (modBank b g s).pll i j = s.pll i j) ∧
    (∀ i, (modBank b g s).pin i = s.pin i) ∧ (∀ i, (modBank b g s).enc i = s.enc i) ∧ (∀ i, (modBank b g s).emu i = s.emu i) ∧
    (∀ i, (modBank b g s).chan i = s.chan i) ∧ (∀ i, (modBank b g s).wgInput i = s.wgInput i) ∧ (∀ i, (modBank b g s).wgGroup i = s.wgGroup i) ∧
    (∀ i, (modBank b g s).asm i = s.asm i) ∧ (∀ i, (modBank b g s).comb i = s.comb i) ∧ (∀ i, (modBank b g s).vp i = s.vp i) ∧
    (∀ i, (modBank b g s).ctx i = s.ctx i) ∧ (∀ i, (modBank b g s).queue i = s.queue i) ∧ (modBank b g s).now = s.now := by
  exact ⟨fun _ => rfl, fun _ _ => rfl, fun _ => rfl, fun _ => rfl, fun _ => rfl, fun _ _ => rfl, fun _ => rfl, fun _ => rfl, fun _ => rfl, fun _ => rfl, fun _ => rfl, fun _ => rfl, fun _ => rfl, fun _ => rfl, fun _ => rfl, fun _ => rfl, fun _ => rfl, rfl⟩
@[simp] theorem modFrags_frame (n : Nat) (g : List Fragment → List Fragment) (s : State) :
    (modFrags n g s).pending = s.pending ∧ (modFrags n g s).out = s.out ∧ (modFrags n g s).freeCtr = s.freeCtr ∧ (modFrags n g s).pace = s.pace ∧
    (modFrags n g s).sys = s.sys ∧ (modFrags n g s).clock = s.clock ∧ (modFrags n g s).keeper = s.keeper ∧ (modFrags n g s).mon = s.mon ∧
    (modFrags n g s).power = s.power ∧ (modFrags n g s).trust = s.trust ∧ (modFrags n g s).banks = s.banks ∧ (modFrags n g s).window = s.window ∧
    (modFrags n g s).faults = s.faults ∧ (modFrags n g s).faultBits = s.faultBits ∧ (modFrags n g s).faultReports = s.faultReports ∧ (modFrags n g s).hps = s.hps ∧
    (modFrags n g s).mbxs = s.mbxs ∧ (modFrags n g s).goOrder = s.goOrder ∧ (modFrags n g s).waiting = s.waiting ∧ (modFrags n g s).deviceId = s.deviceId ∧
    (modFrags n g s).queues = s.queues ∧ (modFrags n g s).lanes = s.lanes ∧ (modFrags n g s).links = s.links ∧ (modFrags n g s).plls = s.plls ∧
    (modFrags n g s).eths = s.eths ∧ (modFrags n g s).hive = s.hive ∧ (modFrags n g s).ctxs = s.ctxs ∧ (modFrags n g s).combs = s.combs ∧
    (modFrags n g s).parts = s.parts ∧ (modFrags n g s).stitches = s.stitches ∧ (modFrags n g s).fragIds = s.fragIds ∧ (modFrags n g s).staging = s.staging ∧
    (modFrags n g s).asms = s.asms ∧ (modFrags n g s).pgs = s.pgs ∧ (modFrags n g s).pgCounts = s.pgCounts ∧ (modFrags n g s).ctxSteer = s.ctxSteer ∧
    (modFrags n g s).pend = s.pend ∧ (modFrags n g s).flight = s.flight ∧ (modFrags n g s).vps = s.vps ∧ (modFrags n g s).encs = s.encs ∧
    (modFrags n g s).emus = s.emus ∧ (modFrags n g s).pins = s.pins ∧ (modFrags n g s).wag = s.wag := by
  exact ⟨rfl, rfl, rfl, rfl, rfl, rfl, rfl, rfl, rfl, rfl, rfl, rfl, rfl, rfl, rfl, rfl, rfl, rfl, rfl, rfl, rfl, rfl, rfl, rfl, rfl, rfl, rfl, rfl, rfl, rfl, rfl, rfl, rfl, rfl, rfl, rfl, rfl, rfl, rfl, rfl, rfl, rfl, rfl⟩
@[simp] theorem modFrags_units (n : Nat) (g : List Fragment → List Fragment) (s : State) :
    (∀ i, (modFrags n g s).hp i = s.hp i) ∧ (∀ i j, (modFrags n g s).mbx i j = s.mbx i j) ∧ (∀ i, (modFrags n g s).lane i = s.lane i) ∧
    (∀ i, (modFrags n g s).link i = s.link i) ∧ (∀ i, (modFrags n g s).eth i = s.eth i) ∧ (∀ i j, (modFrags n g s).pll i j = s.pll i j) ∧
    (∀ i, (modFrags n g s).pin i = s.pin i) ∧ (∀ i, (modFrags n g s).enc i = s.enc i) ∧ (∀ i, (modFrags n g s).emu i = s.emu i) ∧
    (∀ i, (modFrags n g s).chan i = s.chan i) ∧ (∀ i, (modFrags n g s).wgInput i = s.wgInput i) ∧ (∀ i, (modFrags n g s).wgGroup i = s.wgGroup i) ∧
    (∀ i, (modFrags n g s).asm i = s.asm i) ∧ (∀ i, (modFrags n g s).comb i = s.comb i) ∧ (∀ i, (modFrags n g s).vp i = s.vp i) ∧
    (∀ i, (modFrags n g s).bank i = s.bank i) ∧ (∀ i, (modFrags n g s).ctx i = s.ctx i) ∧ (∀ i, (modFrags n g s).queue i = s.queue i) ∧
    (modFrags n g s).now = s.now := by
  exact ⟨fun _ => rfl, fun _ _ => rfl, fun _ => rfl, fun _ => rfl, fun _ => rfl, fun _ _ => rfl, fun _ => rfl, fun _ => rfl, fun _ => rfl, fun _ => rfl, fun _ => rfl, fun _ => rfl, fun _ => rfl, fun _ => rfl, fun _ => rfl, fun _ => rfl, fun _ => rfl, fun _ => rfl, rfl⟩
@[simp] theorem countPg_frame (g : Nat) (k : PgCnt) (s : State) :
    (countPg g k s).pending = s.pending ∧ (countPg g k s).out = s.out ∧ (countPg g k s).freeCtr = s.freeCtr ∧ (countPg g k s).pace = s.pace ∧
    (countPg g k s).sys = s.sys ∧ (countPg g k s).clock = s.clock ∧ (countPg g k s).keeper = s.keeper ∧ (countPg g k s).mon = s.mon ∧
    (countPg g k s).power = s.power ∧ (countPg g k s).trust = s.trust ∧ (countPg g k s).banks = s.banks ∧ (countPg g k s).window = s.window ∧
    (countPg g k s).faults = s.faults ∧ (countPg g k s).faultBits = s.faultBits ∧ (countPg g k s).faultReports = s.faultReports ∧ (countPg g k s).hps = s.hps ∧
    (countPg g k s).mbxs = s.mbxs ∧ (countPg g k s).goOrder = s.goOrder ∧ (countPg g k s).waiting = s.waiting ∧ (countPg g k s).deviceId = s.deviceId ∧
    (countPg g k s).queues = s.queues ∧ (countPg g k s).lanes = s.lanes ∧ (countPg g k s).links = s.links ∧ (countPg g k s).plls = s.plls ∧
    (countPg g k s).eths = s.eths ∧ (countPg g k s).hive = s.hive ∧ (countPg g k s).ctxs = s.ctxs ∧ (countPg g k s).combs = s.combs ∧
    (countPg g k s).parts = s.parts ∧ (countPg g k s).stitches = s.stitches ∧ (countPg g k s).frags = s.frags ∧ (countPg g k s).fragIds = s.fragIds ∧
    (countPg g k s).staging = s.staging ∧ (countPg g k s).asms = s.asms ∧ (countPg g k s).pgs = s.pgs ∧ (countPg g k s).ctxSteer = s.ctxSteer ∧
    (countPg g k s).pend = s.pend ∧ (countPg g k s).flight = s.flight ∧ (countPg g k s).vps = s.vps ∧ (countPg g k s).encs = s.encs ∧
    (countPg g k s).emus = s.emus ∧ (countPg g k s).pins = s.pins ∧ (countPg g k s).wag = s.wag := by
  exact ⟨rfl, rfl, rfl, rfl, rfl, rfl, rfl, rfl, rfl, rfl, rfl, rfl, rfl, rfl, rfl, rfl, rfl, rfl, rfl, rfl, rfl, rfl, rfl, rfl, rfl, rfl, rfl, rfl, rfl, rfl, rfl, rfl, rfl, rfl, rfl, rfl, rfl, rfl, rfl, rfl, rfl, rfl, rfl⟩
@[simp] theorem countPg_units (g : Nat) (k : PgCnt) (s : State) :
    (∀ i, (countPg g k s).hp i = s.hp i) ∧ (∀ i j, (countPg g k s).mbx i j = s.mbx i j) ∧ (∀ i, (countPg g k s).lane i = s.lane i) ∧
    (∀ i, (countPg g k s).link i = s.link i) ∧ (∀ i, (countPg g k s).eth i = s.eth i) ∧ (∀ i j, (countPg g k s).pll i j = s.pll i j) ∧
    (∀ i, (countPg g k s).pin i = s.pin i) ∧ (∀ i, (countPg g k s).enc i = s.enc i) ∧ (∀ i, (countPg g k s).emu i = s.emu i) ∧
    (∀ i, (countPg g k s).chan i = s.chan i) ∧ (∀ i, (countPg g k s).wgInput i = s.wgInput i) ∧ (∀ i, (countPg g k s).wgGroup i = s.wgGroup i) ∧
    (∀ i, (countPg g k s).asm i = s.asm i) ∧ (∀ i, (countPg g k s).comb i = s.comb i) ∧ (∀ i, (countPg g k s).vp i = s.vp i) ∧
    (∀ i, (countPg g k s).bank i = s.bank i) ∧ (∀ i, (countPg g k s).ctx i = s.ctx i) ∧ (∀ i, (countPg g k s).queue i = s.queue i) ∧
    (countPg g k s).now = s.now := by
  exact ⟨fun _ => rfl, fun _ _ => rfl, fun _ => rfl, fun _ => rfl, fun _ => rfl, fun _ _ => rfl, fun _ => rfl, fun _ => rfl, fun _ => rfl, fun _ => rfl, fun _ => rfl, fun _ => rfl, fun _ => rfl, fun _ => rfl, fun _ => rfl, fun _ => rfl, fun _ => rfl, fun _ => rfl, rfl⟩
@[simp] theorem faultOk_frame (c u : Nat) (t : Option Nat) (s : State) :
    (faultOk c u t s).pending = s.pending ∧ (faultOk c u t s).out = s.out ∧ (faultOk c u t s).freeCtr = s.freeCtr ∧ (faultOk c u t s).pace = s.pace ∧
    (faultOk c u t s).sys = s.sys ∧ (faultOk c u t s).clock = s.clock ∧ (faultOk c u t s).keeper = s.keeper ∧ (faultOk c u t s).mon = s.mon ∧
    (faultOk c u t s).power = s.power ∧ (faultOk c u t s).trust = s.trust ∧ (faultOk c u t s).banks = s.banks ∧ (faultOk c u t s).window = s.window ∧
    (faultOk c u t s).faultBits = s.faultBits ∧ (faultOk c u t s).faultReports = s.faultReports ∧ (faultOk c u t s).hps = s.hps ∧ (faultOk c u t s).mbxs = s.mbxs ∧
    (faultOk c u t s).goOrder = s.goOrder ∧ (faultOk c u t s).waiting = s.waiting ∧ (faultOk c u t s).deviceId = s.deviceId ∧ (faultOk c u t s).queues = s.queues ∧
    (faultOk c u t s).lanes = s.lanes ∧ (faultOk c u t s).links = s.links ∧ (faultOk c u t s).plls = s.plls ∧ (faultOk c u t s).eths = s.eths ∧
    (faultOk c u t s).hive = s.hive ∧ (faultOk c u t s).ctxs = s.ctxs ∧ (faultOk c u t s).combs = s.combs ∧ (faultOk c u t s).parts = s.parts ∧
    (faultOk c u t s).stitches = s.stitches ∧ (faultOk c u t s).frags = s.frags ∧ (faultOk c u t s).fragIds = s.fragIds ∧ (faultOk c u t s).staging = s.staging ∧
    (faultOk c u t s).asms = s.asms ∧ (faultOk c u t s).pgs = s.pgs ∧ (faultOk c u t s).pgCounts = s.pgCounts ∧ (faultOk c u t s).ctxSteer = s.ctxSteer ∧
    (faultOk c u t s).pend = s.pend ∧ (faultOk c u t s).flight = s.flight ∧ (faultOk c u t s).vps = s.vps ∧ (faultOk c u t s).encs = s.encs ∧
    (faultOk c u t s).emus = s.emus ∧ (faultOk c u t s).pins = s.pins ∧ (faultOk c u t s).wag = s.wag := by
  exact ⟨rfl, rfl, rfl, rfl, rfl, rfl, rfl, rfl, rfl, rfl, rfl, rfl, rfl, rfl, rfl, rfl, rfl, rfl, rfl, rfl, rfl, rfl, rfl, rfl, rfl, rfl, rfl, rfl, rfl, rfl, rfl, rfl, rfl, rfl, rfl, rfl, rfl, rfl, rfl, rfl, rfl, rfl, rfl⟩
@[simp] theorem faultOk_units (c u : Nat) (t : Option Nat) (s : State) :
    (∀ i, (faultOk c u t s).hp i = s.hp i) ∧ (∀ i j, (faultOk c u t s).mbx i j = s.mbx i j) ∧ (∀ i, (faultOk c u t s).lane i = s.lane i) ∧
    (∀ i, (faultOk c u t s).link i = s.link i) ∧ (∀ i, (faultOk c u t s).eth i = s.eth i) ∧ (∀ i j, (faultOk c u t s).pll i j = s.pll i j) ∧
    (∀ i, (faultOk c u t s).pin i = s.pin i) ∧ (∀ i, (faultOk c u t s).enc i = s.enc i) ∧ (∀ i, (faultOk c u t s).emu i = s.emu i) ∧
    (∀ i, (faultOk c u t s).chan i = s.chan i) ∧ (∀ i, (faultOk c u t s).wgInput i = s.wgInput i) ∧ (∀ i, (faultOk c u t s).wgGroup i = s.wgGroup i) ∧
    (∀ i, (faultOk c u t s).asm i = s.asm i) ∧ (∀ i, (faultOk c u t s).comb i = s.comb i) ∧ (∀ i, (faultOk c u t s).vp i = s.vp i) ∧
    (∀ i, (faultOk c u t s).bank i = s.bank i) ∧ (∀ i, (faultOk c u t s).ctx i = s.ctx i) ∧ (∀ i, (faultOk c u t s).queue i = s.queue i) ∧
    (faultOk c u t s).now = s.now := by
  exact ⟨fun _ => rfl, fun _ _ => rfl, fun _ => rfl, fun _ => rfl, fun _ => rfl, fun _ _ => rfl, fun _ => rfl, fun _ => rfl, fun _ => rfl, fun _ => rfl, fun _ => rfl, fun _ => rfl, fun _ => rfl, fun _ => rfl, fun _ => rfl, fun _ => rfl, fun _ => rfl, fun _ => rfl, rfl⟩
@[simp] theorem advTo_frame (t : Nat) (s : State) :
    (advTo t s).pending = s.pending ∧ (advTo t s).out = s.out ∧ (advTo t s).freeCtr = s.freeCtr ∧ (advTo t s).pace = s.pace ∧
    (advTo t s).sys = s.sys ∧ (advTo t s).keeper = s.keeper ∧ (advTo t s).mon = s.mon ∧ (advTo t s).power = s.power ∧
    (advTo t s).trust = s.trust ∧ (advTo t s).banks = s.banks ∧ (advTo t s).window = s.window ∧ (advTo t s).faults = s.faults ∧
    (advTo t s).faultBits = s.faultBits ∧ (advTo t s).faultReports = s.faultReports ∧ (advTo t s).hps = s.hps ∧ (advTo t s).mbxs = s.mbxs ∧
    (advTo t s).goOrder = s.goOrder ∧ (advTo t s).waiting = s.waiting ∧ (advTo t s).deviceId = s.deviceId ∧ (advTo t s).queues = s.queues ∧
    (advTo t s).lanes = s.lanes ∧ (advTo t s).links = s.links ∧ (advTo t s).plls = s.plls ∧ (advTo t s).eths = s.eths ∧
    (advTo t s).hive = s.hive ∧ (advTo t s).ctxs = s.ctxs ∧ (advTo t s).combs = s.combs ∧ (advTo t s).parts = s.parts ∧
    (advTo t s).stitches = s.stitches ∧ (advTo t s).frags = s.frags ∧ (advTo t s).fragIds = s.fragIds ∧ (advTo t s).staging = s.staging ∧
    (advTo t s).asms = s.asms ∧ (advTo t s).pgs = s.pgs ∧ (advTo t s).pgCounts = s.pgCounts ∧ (advTo t s).ctxSteer = s.ctxSteer ∧
    (advTo t s).pend = s.pend ∧ (advTo t s).flight = s.flight ∧ (advTo t s).vps = s.vps ∧ (advTo t s).encs = s.encs ∧
    (advTo t s).emus = s.emus ∧ (advTo t s).pins = s.pins ∧ (advTo t s).wag = s.wag := by
  unfold advTo
  split <;> exact ⟨rfl, rfl, rfl, rfl, rfl, rfl, rfl, rfl, rfl, rfl, rfl, rfl, rfl, rfl, rfl, rfl, rfl, rfl, rfl, rfl, rfl, rfl, rfl, rfl, rfl, rfl, rfl, rfl, rfl, rfl, rfl, rfl, rfl, rfl, rfl, rfl, rfl, rfl, rfl, rfl, rfl, rfl, rfl⟩
@[simp] theorem advTo_units (t : Nat) (s : State) :
    (∀ i, (advTo t s).hp i = s.hp i) ∧ (∀ i j, (advTo t s).mbx i j = s.mbx i j) ∧ (∀ i, (advTo t s).lane i = s.lane i) ∧
    (∀ i, (advTo t s).link i = s.link i) ∧ (∀ i, (advTo t s).eth i = s.eth i) ∧ (∀ i j, (advTo t s).pll i j = s.pll i j) ∧
    (∀ i, (advTo t s).pin i = s.pin i) ∧ (∀ i, (advTo t s).enc i = s.enc i) ∧ (∀ i, (advTo t s).emu i = s.emu i) ∧
    (∀ i, (advTo t s).chan i = s.chan i) ∧ (∀ i, (advTo t s).wgInput i = s.wgInput i) ∧ (∀ i, (advTo t s).wgGroup i = s.wgGroup i) ∧
    (∀ i, (advTo t s).asm i = s.asm i) ∧ (∀ i, (advTo t s).comb i = s.comb i) ∧ (∀ i, (advTo t s).vp i = s.vp i) ∧
    (∀ i, (advTo t s).bank i = s.bank i) ∧ (∀ i, (advTo t s).ctx i = s.ctx i) ∧ (∀ i, (advTo t s).queue i = s.queue i) := by
  unfold advTo
  split <;> exact ⟨fun _ => rfl, fun _ _ => rfl, fun _ => rfl, fun _ => rfl, fun _ => rfl, fun _ _ => rfl, fun _ => rfl, fun _ => rfl, fun _ => rfl, fun _ => rfl, fun _ => rfl, fun _ => rfl, fun _ => rfl, fun _ => rfl, fun _ => rfl, fun _ => rfl, fun _ => rfl, fun _ => rfl⟩
@[simp] theorem modCtx_frame (c : Nat) (g : Ctx → Ctx) (s : State) :
    (modCtx c g s).pending = s.pending ∧ (modCtx c g s).out = s.out ∧ (modCtx c g s).freeCtr = s.freeCtr ∧ (modCtx c g s).pace = s.pace ∧
    (modCtx c g s).sys = s.sys ∧ (modCtx c g s).clock = s.clock ∧ (modCtx c g s).keeper = s.keeper ∧ (modCtx c g s).mon = s.mon ∧
    (modCtx c g s).power = s.power ∧ (modCtx c g s).trust = s.trust ∧ (modCtx c g s).banks = s.banks ∧ (modCtx c g s).window = s.window ∧
    (modCtx c g s).faults = s.faults ∧ (modCtx c g s).faultBits = s.faultBits ∧ (modCtx c g s).faultReports = s.faultReports ∧ (modCtx c g s).hps = s.hps ∧
    (modCtx c g s).mbxs = s.mbxs ∧ (modCtx c g s).goOrder = s.goOrder ∧ (modCtx c g s).waiting = s.waiting ∧ (modCtx c g s).deviceId = s.deviceId ∧
    (modCtx c g s).queues = s.queues ∧ (modCtx c g s).lanes = s.lanes ∧ (modCtx c g s).links = s.links ∧ (modCtx c g s).plls = s.plls ∧
    (modCtx c g s).eths = s.eths ∧ (modCtx c g s).hive = s.hive ∧ (modCtx c g s).combs = s.combs ∧ (modCtx c g s).parts = s.parts ∧
    (modCtx c g s).stitches = s.stitches ∧ (modCtx c g s).frags = s.frags ∧ (modCtx c g s).fragIds = s.fragIds ∧ (modCtx c g s).staging = s.staging ∧
    (modCtx c g s).asms = s.asms ∧ (modCtx c g s).pgs = s.pgs ∧ (modCtx c g s).pgCounts = s.pgCounts ∧ (modCtx c g s).ctxSteer = s.ctxSteer ∧
    (modCtx c g s).pend = s.pend ∧ (modCtx c g s).flight = s.flight ∧ (modCtx c g s).vps = s.vps ∧ (modCtx c g s).encs = s.encs ∧
    (modCtx c g s).emus = s.emus ∧ (modCtx c g s).pins = s.pins ∧ (modCtx c g s).wag = s.wag := by
  unfold modCtx
  split <;> exact ⟨rfl, rfl, rfl, rfl, rfl, rfl, rfl, rfl, rfl, rfl, rfl, rfl, rfl, rfl, rfl, rfl, rfl, rfl, rfl, rfl, rfl, rfl, rfl, rfl, rfl, rfl, rfl, rfl, rfl, rfl, rfl, rfl, rfl, rfl, rfl, rfl, rfl, rfl, rfl, rfl, rfl, rfl, rfl⟩
@[simp] theorem modCtx_units (c : Nat) (g : Ctx → Ctx) (s : State) :
    (∀ i, (modCtx c g s).hp i = s.hp i) ∧ (∀ i j, (modCtx c g s).mbx i j = s.mbx i j) ∧ (∀ i, (modCtx c g s).lane i = s.lane i) ∧
    (∀ i, (modCtx c g s).link i = s.link i) ∧ (∀ i, (modCtx c g s).eth i = s.eth i) ∧ (∀ i j, (modCtx c g s).pll i j = s.pll i j) ∧
    (∀ i, (modCtx c g s).pin i = s.pin i) ∧ (∀ i, (modCtx c g s).enc i = s.enc i) ∧ (∀ i, (modCtx c g s).emu i = s.emu i) ∧
    (∀ i, (modCtx c g s).chan i = s.chan i) ∧ (∀ i, (modCtx c g s).wgInput i = s.wgInput i) ∧ (∀ i, (modCtx c g s).wgGroup i = s.wgGroup i) ∧
    (∀ i, (modCtx c g s).asm i = s.asm i) ∧ (∀ i, (modCtx c g s).comb i = s.comb i) ∧ (∀ i, (modCtx c g s).vp i = s.vp i) ∧
    (∀ i, (modCtx c g s).bank i = s.bank i) ∧ (∀ i, (modCtx c g s).queue i = s.queue i) ∧ (modCtx c g s).now = s.now := by
  unfold modCtx
  split <;> exact ⟨fun _ => rfl, fun _ _ => rfl, fun _ => rfl, fun _ => rfl, fun _ => rfl, fun _ _ => rfl, fun _ => rfl, fun _ => rfl, fun _ => rfl, fun _ => rfl, fun _ => rfl, fun _ => rfl, fun _ => rfl, fun _ => rfl, fun _ => rfl, fun _ => rfl, fun _ => rfl, rfl⟩
@[simp] theorem modQueue_frame (q : Nat) (g : Queue → Queue) (s : State) :
    (modQueue q g s).pending = s.pending ∧ (modQueue q g s).out = s.out ∧ (modQueue q g s).freeCtr = s.freeCtr ∧ (modQueue q g s).pace = s.pace ∧
    (modQueue q g s).sys = s.sys ∧ (modQueue q g s).clock = s.clock ∧ (modQueue q g s).keeper = s.keeper ∧ (modQueue q g s).mon = s.mon ∧
    (modQueue q g s).power = s.power ∧ (modQueue q g s).trust = s.trust ∧ (modQueue q g s).banks = s.banks ∧ (modQueue q g s).window = s.window ∧
    (modQueue q g s).faults = s.faults ∧ (modQueue q g s).faultBits = s.faultBits ∧ (modQueue q g s).faultReports = s.faultReports ∧ (modQueue q g s).hps = s.hps ∧
    (modQueue q g s).mbxs = s.mbxs ∧ (modQueue q g s).goOrder = s.goOrder ∧ (modQueue q g s).waiting = s.waiting ∧ (modQueue q g s).deviceId = s.deviceId ∧
    (modQueue q g s).lanes = s.lanes ∧ (modQueue q g s).links = s.links ∧ (modQueue q g s).plls = s.plls ∧ (modQueue q g s).eths = s.eths ∧
    (modQueue q g s).hive = s.hive ∧ (modQueue q g s).ctxs = s.ctxs ∧ (modQueue q g s).combs = s.combs ∧ (modQueue q g s).parts = s.parts ∧
    (modQueue q g s).stitches = s.stitches ∧ (modQueue q g s).frags = s.frags ∧ (modQueue q g s).fragIds = s.fragIds ∧ (modQueue q g s).staging = s.staging ∧
    (modQueue q g s).asms = s.asms ∧ (modQueue q g s).pgs = s.pgs ∧ (modQueue q g s).pgCounts = s.pgCounts ∧ (modQueue q g s).ctxSteer = s.ctxSteer ∧
    (modQueue q g s).pend = s.pend ∧ (modQueue q g s).flight = s.flight ∧ (modQueue q g s).vps = s.vps ∧ (modQueue q g s).encs = s.encs ∧
    (modQueue q g s).emus = s.emus ∧ (modQueue q g s).pins = s.pins ∧ (modQueue q g s).wag = s.wag := by
  unfold modQueue
  split <;> exact ⟨rfl, rfl, rfl, rfl, rfl, rfl, rfl, rfl, rfl, rfl, rfl, rfl, rfl, rfl, rfl, rfl, rfl, rfl, rfl, rfl, rfl, rfl, rfl, rfl, rfl, rfl, rfl, rfl, rfl, rfl, rfl, rfl, rfl, rfl, rfl, rfl, rfl, rfl, rfl, rfl, rfl, rfl, rfl⟩
@[simp] theorem modQueue_units (q : Nat) (g : Queue → Queue) (s : State) :
    (∀ i, (modQueue q g s).hp i = s.hp i) ∧ (∀ i j, (modQueue q g s).mbx i j = s.mbx i j) ∧ (∀ i, (modQueue q g s).lane i = s.lane i) ∧
    (∀ i, (modQueue q g s).link i = s.link i) ∧ (∀ i, (modQueue q g s).eth i = s.eth i) ∧ (∀ i j, (modQueue q g s).pll i j = s.pll i j) ∧
    (∀ i, (modQueue q g s).pin i = s.pin i) ∧ (∀ i, (modQueue q g s).enc i = s.enc i) ∧ (∀ i, (modQueue q g s).emu i = s.emu i) ∧
    (∀ i, (modQueue q g s).chan i = s.chan i) ∧ (∀ i, (modQueue q g s).wgInput i = s.wgInput i) ∧ (∀ i, (modQueue q g s).wgGroup i = s.wgGroup i) ∧
    (∀ i, (modQueue q g s).asm i = s.asm i) ∧ (∀ i, (modQueue q g s).comb i = s.comb i) ∧ (∀ i, (modQueue q g s).vp i = s.vp i) ∧
    (∀ i, (modQueue q g s).bank i = s.bank i) ∧ (∀ i, (modQueue q g s).ctx i = s.ctx i) ∧ (modQueue q g s).now = s.now := by
  unfold modQueue
  split <;> exact ⟨fun _ => rfl, fun _ _ => rfl, fun _ => rfl, fun _ => rfl, fun _ => rfl, fun _ _ => rfl, fun _ => rfl, fun _ => rfl, fun _ => rfl, fun _ => rfl, fun _ => rfl, fun _ => rfl, fun _ => rfl, fun _ => rfl, fun _ => rfl, fun _ => rfl, fun _ => rfl, rfl⟩
@[simp] theorem modPend_frame (n : Nat) (g : Pending → Pending) (s : State) :
    (modPend n g s).pending = s.pending ∧ (modPend n g s).out = s.out ∧ (modPend n g s).freeCtr = s.freeCtr ∧ (modPend n g s).pace = s.pace ∧
    (modPend n g s).sys = s.sys ∧ (modPend n g s).clock = s.clock ∧ (modPend n g s).keeper = s.keeper ∧ (modPend n g s).mon = s.mon ∧
    (modPend n g s).power = s.power ∧ (modPend n g s).trust = s.trust ∧ (modPend n g s).banks = s.banks ∧ (modPend n g s).window = s.window ∧
    (modPend n g s).faults = s.faults ∧ (modPend n g s).faultBits = s.faultBits ∧ (modPend n g s).faultReports = s.faultReports ∧ (modPend n g s).hps = s.hps ∧
    (modPend n g s).mbxs = s.mbxs ∧ (modPend n g s).goOrder = s.goOrder ∧ (modPend n g s).waiting = s.waiting ∧ (modPend n g s).deviceId = s.deviceId ∧
    (modPend n g s).queues = s.queues ∧ (modPend n g s).lanes = s.lanes ∧ (modPend n g s).links = s.links ∧ (modPend n g s).plls = s.plls ∧
    (modPend n g s).eths = s.eths ∧ (modPend n g s).hive = s.hive ∧ (modPend n g s).ctxs = s.ctxs ∧ (modPend n g s).combs = s.combs ∧
    (modPend n g s).parts = s.parts ∧ (modPend n g s).stitches = s.stitches ∧ (modPend n g s).frags = s.frags ∧ (modPend n g s).fragIds = s.fragIds ∧
    (modPend n g s).staging = s.staging ∧ (modPend n g s).asms = s.asms ∧ (modPend n g s).pgs = s.pgs ∧ (modPend n g s).pgCounts = s.pgCounts ∧
    (modPend n g s).ctxSteer = s.ctxSteer ∧ (modPend n g s).flight = s.flight ∧ (modPend n g s).vps = s.vps ∧ (modPend n g s).encs = s.encs ∧
    (modPend n g s).emus = s.emus ∧ (modPend n g s).pins = s.pins ∧ (modPend n g s).wag = s.wag := by
  unfold modPend
  split <;> exact ⟨rfl, rfl, rfl, rfl, rfl, rfl, rfl, rfl, rfl, rfl, rfl, rfl, rfl, rfl, rfl, rfl, rfl, rfl, rfl, rfl, rfl, rfl, rfl, rfl, rfl, rfl, rfl, rfl, rfl, rfl, rfl, rfl, rfl, rfl, rfl, rfl, rfl, rfl, rfl, rfl, rfl, rfl, rfl⟩
@[simp] theorem modPend_units (n : Nat) (g : Pending → Pending) (s : State) :
    (∀ i, (modPend n g s).hp i = s.hp i) ∧ (∀ i j, (modPend n g s).mbx i j = s.mbx i j) ∧ (∀ i, (modPend n g s).lane i = s.lane i) ∧
    (∀ i, (modPend n g s).link i = s.link i) ∧ (∀ i, (modPend n g s).eth i = s.eth i) ∧ (∀ i j, (modPend n g s).pll i j = s.pll i j) ∧
    (∀ i, (modPend n g s).pin i = s.pin i) ∧ (∀ i, (modPend n g s).enc i = s.enc i) ∧ (∀ i, (modPend n g s).emu i = s.emu i) ∧
    (∀ i, (modPend n g s).chan i = s.chan i) ∧ (∀ i, (modPend n g s).wgInput i = s.wgInput i) ∧ (∀ i, (modPend n g s).wgGroup i = s.wgGroup i) ∧
    (∀ i, (modPend n g s).asm i = s.asm i) ∧ (∀ i, (modPend n g s).comb i = s.comb i) ∧ (∀ i, (modPend n g s).vp i = s.vp i) ∧
    (∀ i, (modPend n g s).bank i = s.bank i) ∧ (∀ i, (modPend n g s).ctx i = s.ctx i) ∧ (∀ i, (modPend n g s).queue i = s.queue i) ∧
    (modPend n g s).now = s.now := by
  unfold modPend
  split <;> exact ⟨fun _ => rfl, fun _ _ => rfl, fun _ => rfl, fun _ => rfl, fun _ => rfl, fun _ _ => rfl, fun _ => rfl, fun _ => rfl, fun _ => rfl, fun _ => rfl, fun _ => rfl, fun _ => rfl, fun _ => rfl, fun _ => rfl, fun _ => rfl, fun _ => rfl, fun _ => rfl, fun _ => rfl, rfl⟩
@[simp] theorem modUnpaired_frame (n : Nat) (g : List Unpaired → List Unpaired) (s : State) :
    (modUnpaired n g s).pending = s.pending ∧ (modUnpaired n g s).out = s.out ∧ (modUnpaired n g s).freeCtr = s.freeCtr ∧ (modUnpaired n g s).pace = s.pace ∧
    (modUnpaired n g s).sys = s.sys ∧ (modUnpaired n g s).clock = s.clock ∧ (modUnpaired n g s).keeper = s.keeper ∧ (modUnpaired n g s).mon = s.mon ∧
    (modUnpaired n g s).power = s.power ∧ (modUnpaired n g s).trust = s.trust ∧ (modUnpaired n g s).banks = s.banks ∧ (modUnpaired n g s).window = s.window ∧
    (modUnpaired n g s).faults = s.faults ∧ (modUnpaired n g s).faultBits = s.faultBits ∧ (modUnpaired n g s).faultReports = s.faultReports ∧ (modUnpaired n g s).hps = s.hps ∧
    (modUnpaired n g s).mbxs = s.mbxs ∧ (modUnpaired n g s).goOrder = s.goOrder ∧ (modUnpaired n g s).waiting = s.waiting ∧ (modUnpaired n g s).deviceId = s.deviceId ∧
    (modUnpaired n g s).queues = s.queues ∧ (modUnpaired n g s).lanes = s.lanes ∧ (modUnpaired n g s).links = s.links ∧ (modUnpaired n g s).plls = s.plls ∧
    (modUnpaired n g s).eths = s.eths ∧ (modUnpaired n g s).hive = s.hive ∧ (modUnpaired n g s).ctxs = s.ctxs ∧ (modUnpaired n g s).combs = s.combs ∧
    (modUnpaired n g s).parts = s.parts ∧ (modUnpaired n g s).stitches = s.stitches ∧ (modUnpaired n g s).frags = s.frags ∧ (modUnpaired n g s).fragIds = s.fragIds ∧
    (modUnpaired n g s).staging = s.staging ∧ (modUnpaired n g s).asms = s.asms ∧ (modUnpaired n g s).pgCounts = s.pgCounts ∧ (modUnpaired n g s).ctxSteer = s.ctxSteer ∧
    (modUnpaired n g s).pend = s.pend ∧ (modUnpaired n g s).flight = s.flight ∧ (modUnpaired n g s).vps = s.vps ∧ (modUnpaired n g s).encs = s.encs ∧
    (modUnpaired n g s).emus = s.emus ∧ (modUnpaired n g s).pins = s.pins ∧ (modUnpaired n g s).wag = s.wag := by
  unfold modUnpaired
  split <;> exact ⟨rfl, rfl, rfl, rfl, rfl, rfl, rfl, rfl, rfl, rfl, rfl, rfl, rfl, rfl, rfl, rfl, rfl, rfl, rfl, rfl, rfl, rfl, rfl, rfl, rfl, rfl, rfl, rfl, rfl, rfl, rfl, rfl, rfl, rfl, rfl, rfl, rfl, rfl, rfl, rfl, rfl, rfl, rfl⟩
@[simp] theorem modUnpaired_units (n : Nat) (g : List Unpaired → List Unpaired) (s : State) :
    (∀ i, (modUnpaired n g s).hp i = s.hp i) ∧ (∀ i j, (modUnpaired n g s).mbx i j = s.mbx i j) ∧ (∀ i, (modUnpaired n g s).lane i = s.lane i) ∧
    (∀ i, (modUnpaired n g s).link i = s.link i) ∧ (∀ i, (modUnpaired n g s).eth i = s.eth i) ∧ (∀ i j, (modUnpaired n g s).pll i j = s.pll i j) ∧
    (∀ i, (modUnpaired n g s).pin i = s.pin i) ∧ (∀ i, (modUnpaired n g s).enc i = s.enc i) ∧ (∀ i, (modUnpaired n g s).emu i = s.emu i) ∧
    (∀ i, (modUnpaired n g s).chan i = s.chan i) ∧ (∀ i, (modUnpaired n g s).wgInput i = s.wgInput i) ∧ (∀ i, (modUnpaired n g s).wgGroup i = s.wgGroup i) ∧
    (∀ i, (modUnpaired n g s).asm i = s.asm i) ∧ (∀ i, (modUnpaired n g s).comb i = s.comb i) ∧ (∀ i, (modUnpaired n g s).vp i = s.vp i) ∧
    (∀ i, (modUnpaired n g s).bank i = s.bank i) ∧ (∀ i, (modUnpaired n g s).ctx i = s.ctx i) ∧ (∀ i, (modUnpaired n g s).queue i = s.queue i) ∧
    (modUnpaired n g s).now = s.now := by
  unfold modUnpaired
  split <;> exact ⟨fun _ => rfl, fun _ _ => rfl, fun _ => rfl, fun _ => rfl, fun _ => rfl, fun _ _ => rfl, fun _ => rfl, fun _ => rfl, fun _ => rfl, fun _ => rfl, fun _ => rfl, fun _ => rfl, fun _ => rfl, fun _ => rfl, fun _ => rfl, fun _ => rfl, fun _ => rfl, fun _ => rfl, rfl⟩
@[simp] theorem setRules_frame (n : Nat) (l : List (List Byte)) (s : State) :
    (setRules n l s).pending = s.pending ∧ (setRules n l s).out = s.out ∧ (setRules n l s).freeCtr = s.freeCtr ∧ (setRules n l s).pace = s.pace ∧
    (setRules n l s).sys = s.sys ∧ (setRules n l s).clock = s.clock ∧ (setRules n l s).keeper = s.keeper ∧ (setRules n l s).mon = s.mon ∧
    (setRules n l s).power = s.power ∧ (setRules n l s).trust = s.trust ∧ (setRules n l s).banks = s.banks ∧ (setRules n l s).window = s.window ∧
    (setRules n l s).faults = s.faults ∧ (setRules n l s).faultBits = s.faultBits ∧ (setRules n l s).faultReports = s.faultReports ∧ (setRules n l s).hps = s.hps ∧
    (setRules n l s).mbxs = s.mbxs ∧ (setRules n l s).goOrder = s.goOrder ∧ (setRules n l s).waiting = s.waiting ∧ (setRules n l s).deviceId = s.deviceId ∧
    (setRules n l s).queues = s.queues ∧ (setRules n l s).lanes = s.lanes ∧ (setRules n l s).links = s.links ∧ (setRules n l s).plls = s.plls ∧
    (setRules n l s).eths = s.eths ∧ (setRules n l s).hive = s.hive ∧ (setRules n l s).ctxs = s.ctxs ∧ (setRules n l s).combs = s.combs ∧
    (setRules n l s).parts = s.parts ∧ (setRules n l s).stitches = s.stitches ∧ (setRules n l s).frags = s.frags ∧ (setRules n l s).fragIds = s.fragIds ∧
    (setRules n l s).staging = s.staging ∧ (setRules n l s).asms = s.asms ∧ (setRules n l s).pgCounts = s.pgCounts ∧ (setRules n l s).ctxSteer = s.ctxSteer ∧
    (setRules n l s).pend = s.pend ∧ (setRules n l s).flight = s.flight ∧ (setRules n l s).vps = s.vps ∧ (setRules n l s).encs = s.encs ∧
    (setRules n l s).emus = s.emus ∧ (setRules n l s).pins = s.pins ∧ (setRules n l s).wag = s.wag := by
  unfold setRules
  split <;> exact ⟨rfl, rfl, rfl, rfl, rfl, rfl, rfl, rfl, rfl, rfl, rfl, rfl, rfl, rfl, rfl, rfl, rfl, rfl, rfl, rfl, rfl, rfl, rfl, rfl, rfl, rfl, rfl, rfl, rfl, rfl, rfl, rfl, rfl, rfl, rfl, rfl, rfl, rfl, rfl, rfl, rfl, rfl, rfl⟩
@[simp] theorem setRules_units (n : Nat) (l : List (List Byte)) (s : State) :
    (∀ i, (setRules n l s).hp i = s.hp i) ∧ (∀ i j, (setRules n l s).mbx i j = s.mbx i j) ∧ (∀ i, (setRules n l s).lane i = s.lane i) ∧
    (∀ i, (setRules n l s).link i = s.link i) ∧ (∀ i, (setRules n l s).eth i = s.eth i) ∧ (∀ i j, (setRules n l s).pll i j = s.pll i j) ∧
    (∀ i, (setRules n l s).pin i = s.pin i) ∧ (∀ i, (setRules n l s).enc i = s.enc i) ∧ (∀ i, (setRules n l s).emu i = s.emu i) ∧
    (∀ i, (setRules n l s).chan i = s.chan i) ∧ (∀ i, (setRules n l s).wgInput i = s.wgInput i) ∧ (∀ i, (setRules n l s).wgGroup i = s.wgGroup i) ∧
    (∀ i, (setRules n l s).asm i = s.asm i) ∧ (∀ i, (setRules n l s).comb i = s.comb i) ∧ (∀ i, (setRules n l s).vp i = s.vp i) ∧
    (∀ i, (setRules n l s).bank i = s.bank i) ∧ (∀ i, (setRules n l s).ctx i = s.ctx i) ∧ (∀ i, (setRules n l s).queue i = s.queue i) ∧
    (setRules n l s).now = s.now := by
  unfold setRules
  split <;> exact ⟨fun _ => rfl, fun _ _ => rfl, fun _ => rfl, fun _ => rfl, fun _ => rfl, fun _ _ => rfl, fun _ => rfl, fun _ => rfl, fun _ => rfl, fun _ => rfl, fun _ => rfl, fun _ => rfl, fun _ => rfl, fun _ => rfl, fun _ => rfl, fun _ => rfl, fun _ => rfl, fun _ => rfl, rfl⟩
@[simp] theorem fabricClock_frame  (s : State) :
    (fabricClock s).pending = s.pending ∧ (fabricClock s).out = s.out ∧ (fabricClock s).freeCtr = s.freeCtr ∧ (fabricClock s).pace = s.pace ∧
    (fabricClock s).sys = s.sys ∧ (fabricClock s).keeper = s.keeper ∧ (fabricClock s).mon = s.mon ∧ (fabricClock s).power = s.power ∧
    (fabricClock s).trust = s.trust ∧ (fabricClock s).banks = s.banks ∧ (fabricClock s).window = s.window ∧ (fabricClock s).faults = s.faults ∧
    (fabricClock s).faultBits = s.faultBits ∧ (fabricClock s).faultReports = s.faultReports ∧ (fabricClock s).hps = s.hps ∧ (fabricClock s).mbxs = s.mbxs ∧
    (fabricClock s).goOrder = s.goOrder ∧ (fabricClock s).waiting = s.waiting ∧ (fabricClock s).deviceId = s.deviceId ∧ (fabricClock s).queues = s.queues ∧
    (fabricClock s).lanes = s.lanes ∧ (fabricClock s).links = s.links ∧ (fabricClock s).plls = s.plls ∧ (fabricClock s).eths = s.eths ∧
    (fabricClock s).hive = s.hive ∧ (fabricClock s).ctxs = s.ctxs ∧ (fabricClock s).combs = s.combs ∧ (fabricClock s).parts = s.parts ∧
    (fabricClock s).stitches = s.stitches ∧ (fabricClock s).frags = s.frags ∧ (fabricClock s).fragIds = s.fragIds ∧ (fabricClock s).staging = s.staging ∧
    (fabricClock s).asms = s.asms ∧ (fabricClock s).pgs = s.pgs ∧ (fabricClock s).pgCounts = s.pgCounts ∧ (fabricClock s).ctxSteer = s.ctxSteer ∧
    (fabricClock s).pend = s.pend ∧ (fabricClock s).flight = s.flight ∧ (fabricClock s).vps = s.vps ∧ (fabricClock s).encs = s.encs ∧
    (fabricClock s).emus = s.emus ∧ (fabricClock s).pins = s.pins ∧ (fabricClock s).wag = s.wag := by
  exact ⟨rfl, rfl, rfl, rfl, rfl, rfl, rfl, rfl, rfl, rfl, rfl, rfl, rfl, rfl, rfl, rfl, rfl, rfl, rfl, rfl, rfl, rfl, rfl, rfl, rfl, rfl, rfl, rfl, rfl, rfl, rfl, rfl, rfl, rfl, rfl, rfl, rfl, rfl, rfl, rfl, rfl, rfl, rfl⟩
@[simp] theorem fabricClock_units  (s : State) :
    (∀ i, (fabricClock s).hp i = s.hp i) ∧ (∀ i j, (fabricClock s).mbx i j = s.mbx i j) ∧ (∀ i, (fabricClock s).lane i = s.lane i) ∧
    (∀ i, (fabricClock s).link i = s.link i) ∧ (∀ i, (fabricClock s).eth i = s.eth i) ∧ (∀ i j, (fabricClock s).pll i j = s.pll i j) ∧
    (∀ i, (fabricClock s).pin i = s.pin i) ∧ (∀ i, (fabricClock s).enc i = s.enc i) ∧ (∀ i, (fabricClock s).emu i = s.emu i) ∧
    (∀ i, (fabricClock s).chan i = s.chan i) ∧ (∀ i, (fabricClock s).wgInput i = s.wgInput i) ∧ (∀ i, (fabricClock s).wgGroup i = s.wgGroup i) ∧
    (∀ i, (fabricClock s).asm i = s.asm i) ∧ (∀ i, (fabricClock s).comb i = s.comb i) ∧ (∀ i, (fabricClock s).vp i = s.vp i) ∧
    (∀ i, (fabricClock s).bank i = s.bank i) ∧ (∀ i, (fabricClock s).ctx i = s.ctx i) ∧ (∀ i, (fabricClock s).queue i = s.queue i) := by
  exact ⟨fun _ => rfl, fun _ _ => rfl, fun _ => rfl, fun _ => rfl, fun _ => rfl, fun _ _ => rfl, fun _ => rfl, fun _ => rfl, fun _ => rfl, fun _ => rfl, fun _ => rfl, fun _ => rfl, fun _ => rfl, fun _ => rfl, fun _ => rfl, fun _ => rfl, fun _ => rfl, fun _ => rfl⟩
@[simp] theorem hp_modHp (f : Nat) (g : HostPort → HostPort) (s : State) : (modHp f g s).hp f = g (s.hp f) := by
  simp [modHp, State.hp]
theorem hp_modHp_ne (f : Nat) (g : HostPort → HostPort) (s : State) (j : Nat) (h : j ≠ f) : (modHp f g s).hp j = s.hp j := by
  simp [modHp, State.hp, Table.getD_put_ne _ _ _ _ _ h]
@[simp] theorem mbx_modMbx (f m : Nat) (g : Mailbox → Mailbox) (s : State) : (modMbx f m g s).mbx f m = g (s.mbx f m) := by
  simp [modMbx, State.mbx]
@[simp] theorem lane_modLane (l : Nat) (g : Lane → Lane) (s : State) : (modLane l g s).lane l = g (s.lane l) := by
  simp [modLane, State.lane]
theorem lane_modLane_ne (l : Nat) (g : Lane → Lane) (s : State) (j : Nat) (h : j ≠ l) : (modLane l g s).lane j = s.lane j := by
  simp [modLane, State.lane, Table.getD_put_ne _ _ _ _ _ h]
@[simp] theorem link_modLink (l : Nat) (g : Link → Link) (s : State) : (modLink l g s).link l = g (s.link l) := by
  simp [modLink, State.link]
theorem link_modLink_ne (l : Nat) (g : Link → Link) (s : State) (j : Nat) (h : j ≠ l) : (modLink l g s).link j = s.link j := by
  simp [modLink, State.link, Table.getD_put_ne _ _ _ _ _ h]
@[simp] theorem eth_modEth (l : Nat) (g : Eth → Eth) (s : State) : (modEth l g s).eth l = g (s.eth l) := by
  simp [modEth, State.eth]
theorem eth_modEth_ne (l : Nat) (g : Eth → Eth) (s : State) (j : Nat) (h : j ≠ l) : (modEth l g s).eth j = s.eth j := by
  simp [modEth, State.eth, Table.getD_put_ne _ _ _ _ _ h]
@[simp] theorem pll_modPll (q p : Nat) (g : PllState → PllState) (s : State) : (modPll q p g s).pll q p = g (s.pll q p) := by
  simp [modPll, State.pll]
@[simp] theorem pin_modPin (p : Nat) (g : Pin → Pin) (s : State) : (modPin p g s).pin p = g (s.pin p) := by
  simp [modPin, State.pin]
theorem pin_modPin_ne (p : Nat) (g : Pin → Pin) (s : State) (j : Nat) (h : j ≠ p) : (modPin p g s).pin j = s.pin j := by
  simp [modPin, State.pin, Table.getD_put_ne _ _ _ _ _ h]
@[simp] theorem enc_modEnc (e : Nat) (g : Enc → Enc) (s : State) : (modEnc e g s).enc e = g (s.enc e) := by
  simp [modEnc, State.enc]
theorem enc_modEnc_ne (e : Nat) (g : Enc → Enc) (s : State) (j : Nat) (h : j ≠ e) : (modEnc e g s).enc j = s.enc j := by
  simp [modEnc, State.enc, Table.getD_put_ne _ _ _ _ _ h]
@[simp] theorem emu_modEmu (e : Nat) (g : Emu → Emu) (s : State) : (modEmu e g s).emu e = g (s.emu e) := by
  simp [modEmu, State.emu]
theorem emu_modEmu_ne (e : Nat) (g : Emu → Emu) (s : State) (j : Nat) (h : j ≠ e) : (modEmu e g s).emu j = s.emu j := by
  simp [modEmu, State.emu, Table.getD_put_ne _ _ _ _ _ h]
@[simp] theorem chan_modChan (c : Nat) (g : WgChan → WgChan) (s : State) : (modChan c g s).chan c = g (s.chan c) := by
  simp [modChan, State.chan]
theorem chan_modChan_ne (c : Nat) (g : WgChan → WgChan) (s : State) (j : Nat) (h : j ≠ c) : (modChan c g s).chan j = s.chan j := by
  simp [modChan, State.chan, Table.getD_put_ne _ _ _ _ _ h]
@[simp] theorem wgInput_modWgInput (c : Nat) (g : WgInput → WgInput) (s : State) : (modWgInput c g s).wgInput c = g (s.wgInput c) := by
  simp [modWgInput, State.wgInput]
theorem wgInput_modWgInput_ne (c : Nat) (g : WgInput → WgInput) (s : State) (j : Nat) (h : j ≠ c) : (modWgInput c g s).wgInput j = s.wgInput j := by
  simp [modWgInput, State.wgInput, Table.getD_put_ne _ _ _ _ _ h]
@[simp] theorem wgGroup_modWgGroup (c : Nat) (g : WgGroup → WgGroup) (s : State) : (modWgGroup c g s).wgGroup c = g (s.wgGroup c) := by
  simp [modWgGroup, State.wgGroup]
theorem wgGroup_modWgGroup_ne (c : Nat) (g : WgGroup → WgGroup) (s : State) (j : Nat) (h : j ≠ c) : (modWgGroup c g s).wgGroup j = s.wgGroup j := by
  simp [modWgGroup, State.wgGroup, Table.getD_put_ne _ _ _ _ _ h]
@[simp] theorem asm_modAsm (a : Nat) (g : Asm → Asm) (s : State) : (modAsm a g s).asm a = g (s.asm a) := by
  simp [modAsm, State.asm]
theorem asm_modAsm_ne (a : Nat) (g : Asm → Asm) (s : State) (j : Nat) (h : j ≠ a) : (modAsm a g s).asm j = s.asm j := by
  simp [modAsm, State.asm, Table.getD_put_ne _ _ _ _ _ h]
@[simp] theorem comb_modComb (k : Nat) (g : Comb → Comb) (s : State) : (modComb k g s).comb k = g (s.comb k) := by
  simp [modComb, State.comb]
theorem comb_modComb_ne (k : Nat) (g : Comb → Comb) (s : State) (j : Nat) (h : j ≠ k) : (modComb k g s).comb j = s.comb j := by
  simp [modComb, State.comb, Table.getD_put_ne _ _ _ _ _ h]
@[simp] theorem vp_modVp (v : Nat) (g : ValvePort → ValvePort) (s : State) : (modVp v g s).vp v = g (s.vp v) := by
  simp [modVp, State.vp]
theorem vp_modVp_ne (v : Nat) (g : ValvePort → ValvePort) (s : State) (j : Nat) (h : j ≠ v) : (modVp v g s).vp j = s.vp j := by
  simp [modVp, State.vp, Table.getD_put_ne _ _ _ _ _ h]
@[simp] theorem bank_modBank (b : Nat) (g : Bank → Bank) (s : State) : (modBank b g s).bank b = g (s.bank b) := by
  simp [modBank, State.bank]
theorem bank_modBank_ne (b : Nat) (g : Bank → Bank) (s : State) (j : Nat) (h : j ≠ b) : (modBank b g s).bank j = s.bank j := by
  simp [modBank, State.bank, Table.getD_put_ne _ _ _ _ _ h]
@[simp] theorem ctx_modCtx (c : Nat) (g : Ctx → Ctx) (s : State) : (modCtx c g s).ctx c = (s.ctx c).map g := by
  unfold modCtx
  cases h : s.ctx c with
  | none => exact h
  | some x => simp [State.ctx]
theorem ctx_modCtx_ne (c : Nat) (g : Ctx → Ctx) (s : State) (j : Nat) (h : j ≠ c) : (modCtx c g s).ctx j = s.ctx j := by
  unfold modCtx
  split
  · simp [State.ctx, Table.find_put_ne _ _ _ _ h]
  · rfl
@[simp] theorem queue_setQueue (q : Nat) (v : Queue) (s : State) : (setQueue q v s).queue q = some v := by
  simp [setQueue, State.queue]
@[simp] theorem queue_modQueue (q : Nat) (g : Queue → Queue) (s : State) : (modQueue q g s).queue q = (s.queue q).map g := by
  unfold modQueue
  cases h : s.queue q <;> simp [h]
theorem queue_modQueue_ne (q : Nat) (g : Queue → Queue) (s : State) (j : Nat) (h : j ≠ q) :
    (modQueue q g s).queue j = s.queue j := by
  unfold modQueue
  split
  · simp [State.queue, setQueue, Table.find_put_ne _ _ _ _ h]
  · rfl
@[simp] theorem sys_modSys (g : Sys → Sys) (s : State) : (modSys g s).sys = g s.sys := rfl
@[simp] theorem clock_modClock (g : Clock → Clock) (s : State) : (modClock g s).clock = g s.clock := rfl
@[simp] theorem keeper_modKeeper (g : Keeper → Keeper) (s : State) : (modKeeper g s).keeper = g s.keeper := rfl
@[simp] theorem trust_modTrust (g : Trust → Trust) (s : State) : (modTrust g s).trust = g s.trust := rfl
@[simp] theorem hive_modHive (g : Hive → Hive) (s : State) : (modHive g s).hive = g s.hive := rfl
@[simp] theorem flight_modFlight (g : Flight → Flight) (s : State) : (modFlight g s).flight = g s.flight := rfl
@[simp] theorem out_emit (x : Out) (s : State) : (emit x s).out = s.out ++ [x] := rfl
@[simp] theorem freeCtr_bumpFree (s : State) : (bumpFree s).freeCtr = s.freeCtr + 1 := rfl
/-- Hive time after `advTo`: at least the instant asked for, and never less than before. -/
@[simp] theorem now_advTo (t : Nat) (s : State) : (advTo t s).now = max s.now t := by
  unfold advTo State.now
  split
  · show t * 65536 / 65536 = _
    omega
  · omega
theorem le_now_advTo (t : Nat) (s : State) : t ≤ (advTo t s).now := by simp <;> omega
@[simp] theorem advTo_now (s : State) : advTo s.now s = s := by
  unfold advTo State.now
  split
  · omega
  · rfl

end Machine
end Sys2Proof
end

