-- ==== Sys2Proof/Laws/Serve.lean ====
section
/-! SUPPORT. Laws of the mailbox protocol (R326 to R334): what the service of an accepted request comes to. -/
set_option linter.all false
namespace Sys2Proof.Machine

theorem overlay_nil (l : List Byte) : overlay l [] = l := by cases l <;> rfl

/-- Where no check fails, a list of checks goes on. -/
theorem checked_pass {l : List (Bool × Fail)} {k : Unit → Answer} (h : (checked l k).failed = false) : checked l k = k () := by
  unfold checked at *
  split at h
  · simp [Answer.failed] at h
  · simp_all
/-- The command of an accepted request runs. -/
theorem Accepted.run_eq {c : Cmd} {f m : Nat} {s : State} (h : Accepted c f m s) :
    c.answer (s.reqOf f m) s = c.run (s.reqOf f m) s ∧ (c.run (s.reqOf f m) s).failed = false := by
  obtain ⟨-, -, h3, h4⟩ := h
  have h5 : c.answer (s.reqOf f m) s = c.run (s.reqOf f m) s := by
    revert h4
    unfold Cmd.answer
    split
    · simp [Answer.failed]
    · simp [h3]
  exact ⟨h5, h5 ▸ h4⟩
/-- The service of an accepted request concludes the command's run. -/
theorem Accepted.serve_eq {c : Cmd} {f m : Nat} {s : State} (h : Accepted c f m s) :
    serve c f m s = conclude f m s (c.run (s.reqOf f m) s) := by
  have h1 := h.run_eq.1
  obtain ⟨⟨h2, h3, -, -⟩, h4, -⟩ := h
  unfold serve
  simp only [h2, h3, beq_self_eq_true, Bool.and_true, if_true]
  rw [if_neg (by omega)]
  show conclude f m s (c.answer (s.reqOf f m) s) = _
  rw [h1]

/-- Setting an INTx bit changes no mailbox. -/
theorem setIntx_mbxs (f b : Nat) (s : State) : (setIntx f b s).mbxs = s.mbxs :=
  mask_mbxs (w := 32770) rfl (setIntx_foot (by decide) ..)
theorem key_split {f m : Nat} (hm : m < 8) : (8 * f + m) / 8 = f ∧ (8 * f + m) % 8 = m := by omega
/-- The mailbox that was answered. -/
theorem respondMbx_self (f m st d fl : Nat) (p : List Byte) (s : State)
    (hb : (s.mbx f m).state = .busy) (hg : (s.mbx f m).gen = (s.mbx f m).genGo) :
    Replied s (respondMbx f m st d fl p s) f m st d fl p := by
  unfold respondMbx Replied
  simp only [hb, hg, and_self, if_true]
  have : ∀ t : State, (setIntx f m t).mbx f m = t.mbx f m := fun t => by unfold State.mbx; rw [setIntx_mbxs]
  rw [this, mbx_modMbx]
  have h2 : (keeperWork { s with goOrder := s.goOrder.filter (· != 8 * f + m) }).mbx f m = s.mbx f m := rfl
  rw [h2]
  exact ⟨rfl, rfl⟩
/-- An answer to a function's mailbox touches no other mailbox, and takes only its own request out of the order. -/
theorem respond_fn (f m k st d fl : Nat) (p : List Byte) (s : State) (hk : k ≠ 8 * f + m) (h4 : k < 32) :
    (respond (k / 8) (k % 8) st d fl p s).mbx f m = s.mbx f m ∧
    (respond (k / 8) (k % 8) st d fl p s).goOrder = s.goOrder.filter (· != k) := by
  have hkk : 8 * f + m ≠ 8 * (k / 8) + k % 8 := by omega
  have hk2 : 8 * (k / 8) + k % 8 = k := by omega
  have hg : ∀ a b (t : State), (setIntx a b t).goOrder = t.goOrder := fun a b t => mask_goOrder (w := 32770) rfl (setIntx_foot (by decide) ..)
  unfold respond
  rw [if_neg (by unfold ownHive; omega)]
  unfold respondMbx
  dsimp only
  split
  · refine ⟨?_, ?_⟩
    · unfold State.mbx
      rw [setIntx_mbxs]
      unfold modMbx
      simp only
      rw [Table.getD_put_ne _ _ _ _ _ hkk]
      rfl
    · rw [hg, hk2]
      rfl
  · exact ⟨rfl, by rw [hk2]; rfl⟩
theorem drainUnknown_mbx (f m n : Nat) (s : State) (h : s.goOrder.all (· < 32) = true) (hn : 8 * f + m ∉ s.goOrder) :
    (drainUnknown n s).mbx f m = s.mbx f m := by
  induction n generalizing s with
  | zero => rfl
  | succ n ih =>
    unfold drainUnknown
    split
    · rfl
    · next k r hk =>
      dsimp only
      split
      · have hlt : k < 32 := by simp [hk] at h; exact h.1
        have hne : k ≠ 8 * f + m := by rw [hk] at hn; simp at hn; omega
        obtain ⟨h1, h2⟩ := respond_fn f m k (s.unknownStatus (s.mbx (k / 8) (k % 8)).opcode) 0 0 [] s hne hlt
        rw [ih _ _ _, h1]
        · rw [h2]; simp only [List.all_eq_true, List.mem_filter, decide_eq_true_eq] at h ⊢; exact fun x hx => h x hx.1
        · rw [h2]; simp only [List.mem_filter]; exact fun hx => hn hx.1
      · rfl
/-- The answered mailbox of a served request, where what was done first left mailboxes and order as they were. -/
theorem replied_next {s u : State} {f m : Nat} (hf : f < 4) {c : Cmd} (h : Served c f m s) (hu : u.mbxs = s.mbxs)
    (hg : u.goOrder = s.goOrder) (st d fl : Nat) (p : List Byte) :
    Replied s (nextRequest (respond f m st d fl p u)) f m st d fl p := by
  obtain ⟨h1, -, h3, h4⟩ := h
  have hb : (u.mbx f m).state = .busy := by
    unfold State.serves at h1
    have : (s.mbx f m).state = .busy := by simp_all
    unfold State.mbx at *; rw [hu]; exact this
  have hm : u.mbx f m = s.mbx f m := by unfold State.mbx; rw [hu]
  have hr := respondMbx_self f m st d fl p u hb (by rw [hm, h3])
  have he : respond f m st d fl p u = respondMbx f m st d fl p u := by
    unfold respond; rw [if_neg (by unfold ownHive; omega)]
  have hgo : (respondMbx f m st d fl p u).goOrder = u.goOrder.filter (· != 8 * f + m) := by
    unfold respondMbx
    dsimp only
    split
    · exact mask_goOrder (w := 32770) rfl (setIntx_foot (by decide) ..)
    · rfl
  unfold Replied at hr ⊢
  unfold nextRequest
  rw [drainUnknown_mbx, he]
  · rw [hm] at hr; exact hr
  · rw [he, hgo, hg]; simp only [List.all_eq_true, List.mem_filter, decide_eq_true_eq] at h4 ⊢; exact fun x hx => h4 x hx.1
  · rw [he, hgo]; simp

/-- What the answer and what follows it leave as the command left it. -/
theorem reply_frame (f m st d fl : Nat) (p : List Byte) (u : State) :
    (nextRequest (respond f m st d fl p u)).mask 37978178 = u.mask 37978178 := by
  rw [nextRequest_foot (by decide), respond_foot (by decide)]
/-- The commit of an accepted request: OK, the payload in the mailbox, and of the rest what the command made of it. -/
theorem accepted_ok {c : Cmd} {f m : Nat} {s u : State} {p : List Byte} (hf : f < 4) (h : Accepted c f m s)
    (e : c.run (s.reqOf f m) s = .ok u p) (hu : u.mbxs = s.mbxs) (hg : u.goOrder = s.goOrder) :
    Done s (serve c f m s) f m p ∧ (serve c f m s).mask 37978178 = u.mask 37978178 := by
  rw [h.serve_eq, e]
  have h1 : (rdRefresh u).mbxs = u.mbxs := mask_mbxs (w := 32768) rfl (rdRefresh_foot (by decide) u)
  have h2 : (rdRefresh u).goOrder = u.goOrder := mask_goOrder (w := 32768) rfl (rdRefresh_foot (by decide) u)
  refine ⟨replied_next hf h.1 (h1.trans hu) (h2.trans hg) .., ?_⟩
  show (nextRequest _).mask _ = _
  rw [reply_frame]
  exact rdRefresh_foot (by decide) u
/-- An accepted command completes: what its run makes true of the fields that the answer leaves alone holds after it. -/
theorem completes {c : Cmd} {f m : Nat} {s : State} {p : List Byte} {F : State → Prop} (hf : f < 4) (h : Accepted c f m s)
    (hF : ∀ t u : State, t.mask 37978178 = u.mask 37978178 → F u → F t)
    (hr : ∃ u, c.run (s.reqOf f m) s = .ok u p ∧ u.mbxs = s.mbxs ∧ u.goOrder = s.goOrder ∧ F u) :
    ∃ t, (Host.Outcome.next (serve c f m s) : Host.Outcome State Fault Refusal) = .next t ∧ Done s t f m p ∧ F t := by
  obtain ⟨u, e, hm, hg, hu⟩ := hr
  obtain ⟨hd, hk⟩ := accepted_ok hf h e hm hg
  exact ⟨_, rfl, hd, hF _ _ hk hu⟩
/-- The start of a long operation (R354): IN_PROGRESS in the mailbox. -/
theorem accepted_started {c : Cmd} {f m : Nat} {s u : State} {p : List Byte} (hf : f < 4) (h : Accepted c f m s)
    (e : c.run (s.reqOf f m) s = .started u p) (hu : u.mbxs = s.mbxs) (hg : u.goOrder = s.goOrder) :
    Replied s (serve c f m s) f m stInProgress 0 0 p ∧ (serve c f m s).mask 37978178 = u.mask 37978178 := by
  rw [h.serve_eq, e]
  have h1 : (rdRefresh u).mbxs = u.mbxs := mask_mbxs (w := 32768) rfl (rdRefresh_foot (by decide) u)
  have h2 : (rdRefresh u).goOrder = u.goOrder := mask_goOrder (w := 32768) rfl (rdRefresh_foot (by decide) u)
  refine ⟨replied_next hf h.1 (h1.trans hu) (h2.trans hg) .., ?_⟩
  show (nextRequest _).mask _ = _
  rw [reply_frame]
  exact rdRefresh_foot (by decide) u
/-- While every accepted request is a function's, going on to the next request changes only what an answer changes. -/
theorem drainUnknown_frame (n : Nat) (s : State) (h : s.goOrder.all (· < 32) = true) :
    (drainUnknown n s).mask (fieldSet replyFields) = s.mask (fieldSet replyFields) := by
  induction n generalizing s with
  | zero => rfl
  | succ n ih =>
    unfold drainUnknown
    split
    · rfl
    · next k r hk =>
      dsimp only
      split
      · have hlt : k < 32 := by simp [hk] at h; exact h.1
        have he : ∀ st d fl p (u : State), respond (k / 8) (k % 8) st d fl p u = respondMbx (k / 8) (k % 8) st d fl p u := by
          intro st d fl p u; unfold respond; rw [if_neg (by unfold ownHive; omega)]
        rw [he, ih, respondMbx_foot (by decide)]
        have hgo : ∀ st d fl p (u : State), (respondMbx (k / 8) (k % 8) st d fl p u).goOrder =
            u.goOrder.filter (· != 8 * (k / 8) + k % 8) := by
          intro st d fl p u
          unfold respondMbx
          dsimp only
          split
          · exact mask_goOrder (w := 32770) rfl (setIntx_foot (by decide) ..)
          · rfl
        rw [hgo]
        simp only [List.all_eq_true, List.mem_filter, decide_eq_true_eq] at h ⊢
        exact fun x hx => h x hx.1
      · rfl
/-- An answer to a function's mailbox changes `replyFields` alone. -/
theorem answer_frame {f m : Nat} (hf : f < 4) (st d fl : Nat) (p : List Byte) (u : State) (h : u.goOrder.all (· < 32) = true) :
    (nextRequest (respond f m st d fl p u)).mask (fieldSet replyFields) = u.mask (fieldSet replyFields) := by
  have he : respond f m st d fl p u = respondMbx f m st d fl p u := by
    unfold respond; rw [if_neg (by unfold ownHive; omega)]
  have hgo : (respondMbx f m st d fl p u).goOrder = u.goOrder.filter (· != 8 * f + m) := by
    unfold respondMbx
    dsimp only
    split
    · exact mask_goOrder (w := 32770) rfl (setIntx_foot (by decide) ..)
    · rfl
  unfold nextRequest
  rw [he, drainUnknown_frame, respondMbx_foot (by decide)]
  rw [hgo]
  simp only [List.all_eq_true, List.mem_filter, decide_eq_true_eq] at h ⊢
  exact fun x hx => h x hx.1
/-- What an accepted command's run leaves of the mailboxes and their order. -/
theorem kept_mbxs {c : Cmd} {r : Req} {s x : State} {p : List Byte} {w : Nat} (e : c.run r s = .ok x p ∨ c.run r s = .started x p)
    (k : (c.run r s).keeps w (s.mask w)) (h1 : w.testBit 16 = false) (h2 : w.testBit 17 = false) :
    x.mbxs = s.mbxs ∧ x.goOrder = s.goOrder := by
  have : x.mask w = s.mask w := by
    rcases e with e | e <;> rw [e] at k
    · exact keeps_ok.mp k
    · exact keeps_started.mp k
  exact ⟨mask_mbxs h1 this, mask_goOrder h2 this⟩
/-- An accepted request commits: OK, the payload, and the state that the command's run made. -/
theorem accepted_commits {c : Cmd} {f m : Nat} {s x : State} {p : List Byte} {w : Nat} (hf : f < 4) (h : Accepted c f m s)
    (k : (c.run (s.reqOf f m) s).keeps w (s.mask w)) (h1 : w.testBit 16 = false) (h2 : w.testBit 17 = false)
    (e : c.run (s.reqOf f m) s = .ok x p) :
    ∃ t, (Host.Outcome.next (serve c f m s) : Host.Outcome State Fault Refusal) = .next t ∧ Commits s t f m p x := by
  obtain ⟨hm, hg⟩ := kept_mbxs (.inl e) k h1 h2
  refine ⟨_, rfl, (accepted_ok hf h e hm hg).1, ?_⟩
  rw [h.serve_eq, e]
  have h3 : (rdRefresh x).goOrder = x.goOrder := mask_goOrder (w := 32768) rfl (rdRefresh_foot (by decide) x)
  show (nextRequest _).mask _ = _
  rw [answer_frame hf _ _ _ _ _ (by rw [h3, hg]; exact h.1.2.2.2)]
  exact rdRefresh_foot (by decide) x
/-- An accepted long operation begins (R354). -/
theorem accepted_starts {c : Cmd} {f m : Nat} {s x : State} {p : List Byte} {w : Nat} (hf : f < 4) (h : Accepted c f m s)
    (k : (c.run (s.reqOf f m) s).keeps w (s.mask w)) (h1 : w.testBit 16 = false) (h2 : w.testBit 17 = false)
    (e : c.run (s.reqOf f m) s = .started x p) :
    ∃ t, (Host.Outcome.next (serve c f m s) : Host.Outcome State Fault Refusal) = .next t ∧ Starts s t f m p x := by
  obtain ⟨hm, hg⟩ := kept_mbxs (.inr e) k h1 h2
  refine ⟨_, rfl, (accepted_started hf h e hm hg).1, ?_⟩
  rw [h.serve_eq, e]
  have h3 : (rdRefresh x).goOrder = x.goOrder := mask_goOrder (w := 32768) rfl (rdRefresh_foot (by decide) x)
  show (nextRequest _).mask _ = _
  rw [answer_frame hf _ _ _ _ _ (by rw [h3, hg]; exact h.1.2.2.2)]
  exact rdRefresh_foot (by decide) x
/-- A command that begins and answers later (R350, R424): the keeper waits, and nothing is answered yet. -/
theorem accepted_waits {c : Cmd} {f m : Nat} {s x : State} {b : Bool} (h : Accepted c f m s)
    (e : c.run (s.reqOf f m) s = .wait x b) : serve c f m s = x := by
  rw [h.serve_eq, e]; rfl

end Sys2Proof.Machine
end

