-- ==== Sys2Proof/Laws/Units.lean ====
section
/-! SUPPORT. What shared operations leave of the fields and units outside their footprint, for simp. -/
set_option linter.all false
namespace Sys2Proof.Machine

@[simp] theorem raise_rest (code : Nat) (sev : Nat) (p0 : Nat) (p1 : Nat) (p2 : Nat) (rs : List Nat) (s : State) :
    (raise code sev p0 p1 p2 rs s).freeCtr = s.freeCtr ∧ (raise code sev p0 p1 p2 rs s).pace = s.pace ∧
    (raise code sev p0 p1 p2 rs s).sys = s.sys ∧ (raise code sev p0 p1 p2 rs s).clock = s.clock ∧
    (raise code sev p0 p1 p2 rs s).now = s.now ∧ (raise code sev p0 p1 p2 rs s).mon = s.mon ∧
    (raise code sev p0 p1 p2 rs s).power = s.power ∧ (raise code sev p0 p1 p2 rs s).trust = s.trust ∧
    (∀ i, (raise code sev p0 p1 p2 rs s).bank i = s.bank i) ∧ (raise code sev p0 p1 p2 rs s).banks = s.banks ∧
    (raise code sev p0 p1 p2 rs s).window = s.window ∧ (raise code sev p0 p1 p2 rs s).faults = s.faults ∧
    (raise code sev p0 p1 p2 rs s).faultBits = s.faultBits ∧
    (raise code sev p0 p1 p2 rs s).faultReports = s.faultReports ∧
    (∀ i j, (raise code sev p0 p1 p2 rs s).mbx i j = s.mbx i j) ∧ (raise code sev p0 p1 p2 rs s).mbxs = s.mbxs ∧
    (raise code sev p0 p1 p2 rs s).goOrder = s.goOrder ∧ (raise code sev p0 p1 p2 rs s).waiting = s.waiting ∧
    (raise code sev p0 p1 p2 rs s).deviceId = s.deviceId ∧ (∀ i, (raise code sev p0 p1 p2 rs s).lane i = s.lane i) ∧
    (raise code sev p0 p1 p2 rs s).lanes = s.lanes ∧ (∀ i, (raise code sev p0 p1 p2 rs s).link i = s.link i) ∧
    (raise code sev p0 p1 p2 rs s).links = s.links ∧ (∀ i j, (raise code sev p0 p1 p2 rs s).pll i j = s.pll i j) ∧
    (raise code sev p0 p1 p2 rs s).plls = s.plls ∧ (∀ i, (raise code sev p0 p1 p2 rs s).eth i = s.eth i) ∧
    (raise code sev p0 p1 p2 rs s).eths = s.eths ∧ (raise code sev p0 p1 p2 rs s).hive = s.hive ∧
    (∀ i, (raise code sev p0 p1 p2 rs s).ctx i = s.ctx i) ∧ (raise code sev p0 p1 p2 rs s).ctxs = s.ctxs ∧
    (∀ i, (raise code sev p0 p1 p2 rs s).comb i = s.comb i) ∧ (raise code sev p0 p1 p2 rs s).combs = s.combs ∧
    (raise code sev p0 p1 p2 rs s).parts = s.parts ∧ (raise code sev p0 p1 p2 rs s).stitches = s.stitches ∧
    (raise code sev p0 p1 p2 rs s).frags = s.frags ∧ (raise code sev p0 p1 p2 rs s).fragIds = s.fragIds ∧
    (raise code sev p0 p1 p2 rs s).staging = s.staging ∧ (∀ i, (raise code sev p0 p1 p2 rs s).asm i = s.asm i) ∧
    (raise code sev p0 p1 p2 rs s).asms = s.asms ∧ (raise code sev p0 p1 p2 rs s).pgs = s.pgs ∧
    (raise code sev p0 p1 p2 rs s).pgCounts = s.pgCounts ∧ (raise code sev p0 p1 p2 rs s).ctxSteer = s.ctxSteer ∧
    (raise code sev p0 p1 p2 rs s).pend = s.pend ∧ (raise code sev p0 p1 p2 rs s).flight = s.flight ∧
    (∀ i, (raise code sev p0 p1 p2 rs s).vp i = s.vp i) ∧ (raise code sev p0 p1 p2 rs s).vps = s.vps ∧
    (∀ i, (raise code sev p0 p1 p2 rs s).enc i = s.enc i) ∧ (raise code sev p0 p1 p2 rs s).encs = s.encs ∧
    (∀ i, (raise code sev p0 p1 p2 rs s).emu i = s.emu i) ∧ (raise code sev p0 p1 p2 rs s).emus = s.emus ∧
    (∀ i, (raise code sev p0 p1 p2 rs s).pin i = s.pin i) ∧ (raise code sev p0 p1 p2 rs s).pins = s.pins ∧
    (∀ i, (raise code sev p0 p1 p2 rs s).chan i = s.chan i) ∧
    (∀ i, (raise code sev p0 p1 p2 rs s).wgInput i = s.wgInput i) ∧
    (∀ i, (raise code sev p0 p1 p2 rs s).wgGroup i = s.wgGroup i) ∧ (raise code sev p0 p1 p2 rs s).wag = s.wag := by
  have k := raise_foot (w := 1081410) (by decide) code sev p0 p1 p2 rs s
  exact ⟨mask_freeCtr (w := 1081410) rfl k, mask_pace (w := 1081410) rfl k, mask_sys (w := 1081410) rfl k, mask_clock (w := 1081410) rfl k, by unfold State.now; rw [mask_clock (w := 1081410) rfl k], mask_mon (w := 1081410) rfl k, mask_power (w := 1081410) rfl k, mask_trust (w := 1081410) rfl k, fun i => by unfold State.bank; rw [mask_banks (w := 1081410) rfl k], mask_banks (w := 1081410) rfl k, mask_window (w := 1081410) rfl k, mask_faults (w := 1081410) rfl k, mask_faultBits (w := 1081410) rfl k, mask_faultReports (w := 1081410) rfl k, fun i j => by unfold State.mbx; rw [mask_mbxs (w := 1081410) rfl k], mask_mbxs (w := 1081410) rfl k, mask_goOrder (w := 1081410) rfl k, mask_waiting (w := 1081410) rfl k, mask_deviceId (w := 1081410) rfl k, fun i => by unfold State.lane; rw [mask_lanes (w := 1081410) rfl k], mask_lanes (w := 1081410) rfl k, fun i => by unfold State.link; rw [mask_links (w := 1081410) rfl k], mask_links (w := 1081410) rfl k, fun i j => by unfold State.pll; rw [mask_plls (w := 1081410) rfl k], mask_plls (w := 1081410) rfl k, fun i => by unfold State.eth; rw [mask_eths (w := 1081410) rfl k], mask_eths (w := 1081410) rfl k, mask_hive (w := 1081410) rfl k, fun i => by unfold State.ctx; rw [mask_ctxs (w := 1081410) rfl k], mask_ctxs (w := 1081410) rfl k, fun i => by unfold State.comb; rw [mask_combs (w := 1081410) rfl k], mask_combs (w := 1081410) rfl k, mask_parts (w := 1081410) rfl k, mask_stitches (w := 1081410) rfl k, mask_frags (w := 1081410) rfl k, mask_fragIds (w := 1081410) rfl k, mask_staging (w := 1081410) rfl k, fun i => by unfold State.asm; rw [mask_asms (w := 1081410) rfl k], mask_asms (w := 1081410) rfl k, mask_pgs (w := 1081410) rfl k, mask_pgCounts (w := 1081410) rfl k, mask_ctxSteer (w := 1081410) rfl k, mask_pend (w := 1081410) rfl k, mask_flight (w := 1081410) rfl k, fun i => by unfold State.vp; rw [mask_vps (w := 1081410) rfl k], mask_vps (w := 1081410) rfl k, fun i => by unfold State.enc; rw [mask_encs (w := 1081410) rfl k], mask_encs (w := 1081410) rfl k, fun i => by unfold State.emu; rw [mask_emus (w := 1081410) rfl k], mask_emus (w := 1081410) rfl k, fun i => by unfold State.pin; rw [mask_pins (w := 1081410) rfl k], mask_pins (w := 1081410) rfl k, fun i => by unfold State.chan; rw [mask_wag (w := 1081410) rfl k], fun i => by unfold State.wgInput; rw [mask_wag (w := 1081410) rfl k], fun i => by unfold State.wgGroup; rw [mask_wag (w := 1081410) rfl k], mask_wag (w := 1081410) rfl k⟩
@[simp] theorem honey_rest (off : Nat) (s : State) :
    (honey off s).out = s.out ∧ (honey off s).freeCtr = s.freeCtr ∧ (honey off s).pace = s.pace ∧
    (honey off s).sys = s.sys ∧ (honey off s).clock = s.clock ∧ (honey off s).now = s.now ∧ (honey off s).mon = s.mon ∧
    (honey off s).power = s.power ∧ (honey off s).trust = s.trust ∧ (∀ i, (honey off s).bank i = s.bank i) ∧
    (honey off s).banks = s.banks ∧ (honey off s).window = s.window ∧ (honey off s).faults = s.faults ∧
    (honey off s).faultBits = s.faultBits ∧ (honey off s).faultReports = s.faultReports ∧
    (∀ i, (honey off s).hp i = s.hp i) ∧ (honey off s).hps = s.hps ∧ (∀ i j, (honey off s).mbx i j = s.mbx i j) ∧
    (honey off s).mbxs = s.mbxs ∧ (honey off s).goOrder = s.goOrder ∧ (honey off s).waiting = s.waiting ∧
    (honey off s).deviceId = s.deviceId ∧ (∀ i, (honey off s).queue i = s.queue i) ∧ (honey off s).queues = s.queues ∧
    (∀ i, (honey off s).lane i = s.lane i) ∧ (honey off s).lanes = s.lanes ∧ (∀ i, (honey off s).link i = s.link i) ∧
    (honey off s).links = s.links ∧ (∀ i j, (honey off s).pll i j = s.pll i j) ∧ (honey off s).plls = s.plls ∧
    (∀ i, (honey off s).eth i = s.eth i) ∧ (honey off s).eths = s.eths ∧ (honey off s).hive = s.hive ∧
    (∀ i, (honey off s).ctx i = s.ctx i) ∧ (honey off s).ctxs = s.ctxs ∧ (∀ i, (honey off s).comb i = s.comb i) ∧
    (honey off s).combs = s.combs ∧ (honey off s).parts = s.parts ∧ (honey off s).stitches = s.stitches ∧
    (honey off s).frags = s.frags ∧ (honey off s).fragIds = s.fragIds ∧ (honey off s).staging = s.staging ∧
    (∀ i, (honey off s).asm i = s.asm i) ∧ (honey off s).asms = s.asms ∧ (honey off s).pgs = s.pgs ∧
    (honey off s).pgCounts = s.pgCounts ∧ (honey off s).ctxSteer = s.ctxSteer ∧ (honey off s).pend = s.pend ∧
    (honey off s).flight = s.flight ∧ (∀ i, (honey off s).vp i = s.vp i) ∧ (honey off s).vps = s.vps ∧
    (∀ i, (honey off s).enc i = s.enc i) ∧ (honey off s).encs = s.encs ∧ (∀ i, (honey off s).emu i = s.emu i) ∧
    (honey off s).emus = s.emus ∧ (∀ i, (honey off s).pin i = s.pin i) ∧ (honey off s).pins = s.pins ∧
    (∀ i, (honey off s).chan i = s.chan i) ∧ (∀ i, (honey off s).wgInput i = s.wgInput i) ∧
    (∀ i, (honey off s).wgGroup i = s.wgGroup i) ∧ (honey off s).wag = s.wag := by
  have k := honey_foot (w := 64) (by decide) off s
  exact ⟨mask_out (w := 64) rfl k, mask_freeCtr (w := 64) rfl k, mask_pace (w := 64) rfl k, mask_sys (w := 64) rfl k, mask_clock (w := 64) rfl k, by unfold State.now; rw [mask_clock (w := 64) rfl k], mask_mon (w := 64) rfl k, mask_power (w := 64) rfl k, mask_trust (w := 64) rfl k, fun i => by unfold State.bank; rw [mask_banks (w := 64) rfl k], mask_banks (w := 64) rfl k, mask_window (w := 64) rfl k, mask_faults (w := 64) rfl k, mask_faultBits (w := 64) rfl k, mask_faultReports (w := 64) rfl k, fun i => by unfold State.hp; rw [mask_hps (w := 64) rfl k], mask_hps (w := 64) rfl k, fun i j => by unfold State.mbx; rw [mask_mbxs (w := 64) rfl k], mask_mbxs (w := 64) rfl k, mask_goOrder (w := 64) rfl k, mask_waiting (w := 64) rfl k, mask_deviceId (w := 64) rfl k, fun i => by unfold State.queue; rw [mask_queues (w := 64) rfl k], mask_queues (w := 64) rfl k, fun i => by unfold State.lane; rw [mask_lanes (w := 64) rfl k], mask_lanes (w := 64) rfl k, fun i => by unfold State.link; rw [mask_links (w := 64) rfl k], mask_links (w := 64) rfl k, fun i j => by unfold State.pll; rw [mask_plls (w := 64) rfl k], mask_plls (w := 64) rfl k, fun i => by unfold State.eth; rw [mask_eths (w := 64) rfl k], mask_eths (w := 64) rfl k, mask_hive (w := 64) rfl k, fun i => by unfold State.ctx; rw [mask_ctxs (w := 64) rfl k], mask_ctxs (w := 64) rfl k, fun i => by unfold State.comb; rw [mask_combs (w := 64) rfl k], mask_combs (w := 64) rfl k, mask_parts (w := 64) rfl k, mask_stitches (w := 64) rfl k, mask_frags (w := 64) rfl k, mask_fragIds (w := 64) rfl k, mask_staging (w := 64) rfl k, fun i => by unfold State.asm; rw [mask_asms (w := 64) rfl k], mask_asms (w := 64) rfl k, mask_pgs (w := 64) rfl k, mask_pgCounts (w := 64) rfl k, mask_ctxSteer (w := 64) rfl k, mask_pend (w := 64) rfl k, mask_flight (w := 64) rfl k, fun i => by unfold State.vp; rw [mask_vps (w := 64) rfl k], mask_vps (w := 64) rfl k, fun i => by unfold State.enc; rw [mask_encs (w := 64) rfl k], mask_encs (w := 64) rfl k, fun i => by unfold State.emu; rw [mask_emus (w := 64) rfl k], mask_emus (w := 64) rfl k, fun i => by unfold State.pin; rw [mask_pins (w := 64) rfl k], mask_pins (w := 64) rfl k, fun i => by unfold State.chan; rw [mask_wag (w := 64) rfl k], fun i => by unfold State.wgInput; rw [mask_wag (w := 64) rfl k], fun i => by unfold State.wgGroup; rw [mask_wag (w := 64) rfl k], mask_wag (w := 64) rfl k⟩
@[simp] theorem honeyN_rest (a0 : Nat) (off : Nat) (n : Nat) (s : State) :
    (honeyN a0 off n s).out = s.out ∧ (honeyN a0 off n s).freeCtr = s.freeCtr ∧ (honeyN a0 off n s).pace = s.pace ∧
    (honeyN a0 off n s).sys = s.sys ∧ (honeyN a0 off n s).clock = s.clock ∧ (honeyN a0 off n s).now = s.now ∧
    (honeyN a0 off n s).mon = s.mon ∧ (honeyN a0 off n s).power = s.power ∧ (honeyN a0 off n s).trust = s.trust ∧
    (∀ i, (honeyN a0 off n s).bank i = s.bank i) ∧ (honeyN a0 off n s).banks = s.banks ∧
    (honeyN a0 off n s).window = s.window ∧ (honeyN a0 off n s).faults = s.faults ∧
    (honeyN a0 off n s).faultBits = s.faultBits ∧ (honeyN a0 off n s).faultReports = s.faultReports ∧
    (∀ i, (honeyN a0 off n s).hp i = s.hp i) ∧ (honeyN a0 off n s).hps = s.hps ∧
    (∀ i j, (honeyN a0 off n s).mbx i j = s.mbx i j) ∧ (honeyN a0 off n s).mbxs = s.mbxs ∧
    (honeyN a0 off n s).goOrder = s.goOrder ∧ (honeyN a0 off n s).waiting = s.waiting ∧
    (honeyN a0 off n s).deviceId = s.deviceId ∧ (∀ i, (honeyN a0 off n s).queue i = s.queue i) ∧
    (honeyN a0 off n s).queues = s.queues ∧ (∀ i, (honeyN a0 off n s).lane i = s.lane i) ∧
    (honeyN a0 off n s).lanes = s.lanes ∧ (∀ i, (honeyN a0 off n s).link i = s.link i) ∧
    (honeyN a0 off n s).links = s.links ∧ (∀ i j, (honeyN a0 off n s).pll i j = s.pll i j) ∧
    (honeyN a0 off n s).plls = s.plls ∧ (∀ i, (honeyN a0 off n s).eth i = s.eth i) ∧ (honeyN a0 off n s).eths = s.eths ∧
    (honeyN a0 off n s).hive = s.hive ∧ (∀ i, (honeyN a0 off n s).ctx i = s.ctx i) ∧ (honeyN a0 off n s).ctxs = s.ctxs ∧
    (∀ i, (honeyN a0 off n s).comb i = s.comb i) ∧ (honeyN a0 off n s).combs = s.combs ∧
    (honeyN a0 off n s).parts = s.parts ∧ (honeyN a0 off n s).stitches = s.stitches ∧
    (honeyN a0 off n s).frags = s.frags ∧ (honeyN a0 off n s).fragIds = s.fragIds ∧
    (honeyN a0 off n s).staging = s.staging ∧ (∀ i, (honeyN a0 off n s).asm i = s.asm i) ∧
    (honeyN a0 off n s).asms = s.asms ∧ (honeyN a0 off n s).pgs = s.pgs ∧ (honeyN a0 off n s).pgCounts = s.pgCounts ∧
    (honeyN a0 off n s).ctxSteer = s.ctxSteer ∧ (honeyN a0 off n s).pend = s.pend ∧
    (honeyN a0 off n s).flight = s.flight ∧ (∀ i, (honeyN a0 off n s).vp i = s.vp i) ∧ (honeyN a0 off n s).vps = s.vps ∧
    (∀ i, (honeyN a0 off n s).enc i = s.enc i) ∧ (honeyN a0 off n s).encs = s.encs ∧
    (∀ i, (honeyN a0 off n s).emu i = s.emu i) ∧ (honeyN a0 off n s).emus = s.emus ∧
    (∀ i, (honeyN a0 off n s).pin i = s.pin i) ∧ (honeyN a0 off n s).pins = s.pins ∧
    (∀ i, (honeyN a0 off n s).chan i = s.chan i) ∧ (∀ i, (honeyN a0 off n s).wgInput i = s.wgInput i) ∧
    (∀ i, (honeyN a0 off n s).wgGroup i = s.wgGroup i) ∧ (honeyN a0 off n s).wag = s.wag := by
  have k := honeyN_foot (w := 64) (by decide) a0 off n s
  exact ⟨mask_out (w := 64) rfl k, mask_freeCtr (w := 64) rfl k, mask_pace (w := 64) rfl k, mask_sys (w := 64) rfl k, mask_clock (w := 64) rfl k, by unfold State.now; rw [mask_clock (w := 64) rfl k], mask_mon (w := 64) rfl k, mask_power (w := 64) rfl k, mask_trust (w := 64) rfl k, fun i => by unfold State.bank; rw [mask_banks (w := 64) rfl k], mask_banks (w := 64) rfl k, mask_window (w := 64) rfl k, mask_faults (w := 64) rfl k, mask_faultBits (w := 64) rfl k, mask_faultReports (w := 64) rfl k, fun i => by unfold State.hp; rw [mask_hps (w := 64) rfl k], mask_hps (w := 64) rfl k, fun i j => by unfold State.mbx; rw [mask_mbxs (w := 64) rfl k], mask_mbxs (w := 64) rfl k, mask_goOrder (w := 64) rfl k, mask_waiting (w := 64) rfl k, mask_deviceId (w := 64) rfl k, fun i => by unfold State.queue; rw [mask_queues (w := 64) rfl k], mask_queues (w := 64) rfl k, fun i => by unfold State.lane; rw [mask_lanes (w := 64) rfl k], mask_lanes (w := 64) rfl k, fun i => by unfold State.link; rw [mask_links (w := 64) rfl k], mask_links (w := 64) rfl k, fun i j => by unfold State.pll; rw [mask_plls (w := 64) rfl k], mask_plls (w := 64) rfl k, fun i => by unfold State.eth; rw [mask_eths (w := 64) rfl k], mask_eths (w := 64) rfl k, mask_hive (w := 64) rfl k, fun i => by unfold State.ctx; rw [mask_ctxs (w := 64) rfl k], mask_ctxs (w := 64) rfl k, fun i => by unfold State.comb; rw [mask_combs (w := 64) rfl k], mask_combs (w := 64) rfl k, mask_parts (w := 64) rfl k, mask_stitches (w := 64) rfl k, mask_frags (w := 64) rfl k, mask_fragIds (w := 64) rfl k, mask_staging (w := 64) rfl k, fun i => by unfold State.asm; rw [mask_asms (w := 64) rfl k], mask_asms (w := 64) rfl k, mask_pgs (w := 64) rfl k, mask_pgCounts (w := 64) rfl k, mask_ctxSteer (w := 64) rfl k, mask_pend (w := 64) rfl k, mask_flight (w := 64) rfl k, fun i => by unfold State.vp; rw [mask_vps (w := 64) rfl k], mask_vps (w := 64) rfl k, fun i => by unfold State.enc; rw [mask_encs (w := 64) rfl k], mask_encs (w := 64) rfl k, fun i => by unfold State.emu; rw [mask_emus (w := 64) rfl k], mask_emus (w := 64) rfl k, fun i => by unfold State.pin; rw [mask_pins (w := 64) rfl k], mask_pins (w := 64) rfl k, fun i => by unfold State.chan; rw [mask_wag (w := 64) rfl k], fun i => by unfold State.wgInput; rw [mask_wag (w := 64) rfl k], fun i => by unfold State.wgGroup; rw [mask_wag (w := 64) rfl k], mask_wag (w := 64) rfl k⟩
@[simp] theorem detectFault_rest (cls : Nat) (unit : Nat) (s : State) :
    (detectFault cls unit s).freeCtr = s.freeCtr ∧ (detectFault cls unit s).pace = s.pace ∧
    (detectFault cls unit s).sys = s.sys ∧ (detectFault cls unit s).clock = s.clock ∧
    (detectFault cls unit s).now = s.now ∧ (detectFault cls unit s).mon = s.mon ∧
    (detectFault cls unit s).power = s.power ∧ (detectFault cls unit s).trust = s.trust ∧
    (∀ i, (detectFault cls unit s).bank i = s.bank i) ∧ (detectFault cls unit s).banks = s.banks ∧
    (detectFault cls unit s).window = s.window ∧ (∀ i j, (detectFault cls unit s).mbx i j = s.mbx i j) ∧
    (detectFault cls unit s).mbxs = s.mbxs ∧ (detectFault cls unit s).goOrder = s.goOrder ∧
    (detectFault cls unit s).waiting = s.waiting ∧ (detectFault cls unit s).deviceId = s.deviceId ∧
    (∀ i, (detectFault cls unit s).queue i = s.queue i) ∧ (detectFault cls unit s).queues = s.queues ∧
    (∀ i, (detectFault cls unit s).lane i = s.lane i) ∧ (detectFault cls unit s).lanes = s.lanes ∧
    (∀ i j, (detectFault cls unit s).pll i j = s.pll i j) ∧ (detectFault cls unit s).plls = s.plls ∧
    (∀ i, (detectFault cls unit s).eth i = s.eth i) ∧ (detectFault cls unit s).eths = s.eths ∧
    (∀ i, (detectFault cls unit s).ctx i = s.ctx i) ∧ (detectFault cls unit s).ctxs = s.ctxs ∧
    (∀ i, (detectFault cls unit s).comb i = s.comb i) ∧ (detectFault cls unit s).combs = s.combs ∧
    (detectFault cls unit s).parts = s.parts ∧ (detectFault cls unit s).stitches = s.stitches ∧
    (detectFault cls unit s).frags = s.frags ∧ (detectFault cls unit s).fragIds = s.fragIds ∧
    (detectFault cls unit s).staging = s.staging ∧ (∀ i, (detectFault cls unit s).asm i = s.asm i) ∧
    (detectFault cls unit s).asms = s.asms ∧ (detectFault cls unit s).pgs = s.pgs ∧
    (detectFault cls unit s).pgCounts = s.pgCounts ∧ (detectFault cls unit s).ctxSteer = s.ctxSteer ∧
    (detectFault cls unit s).pend = s.pend ∧ (detectFault cls unit s).flight = s.flight ∧
    (∀ i, (detectFault cls unit s).vp i = s.vp i) ∧ (detectFault cls unit s).vps = s.vps ∧
    (∀ i, (detectFault cls unit s).enc i = s.enc i) ∧ (detectFault cls unit s).encs = s.encs ∧
    (∀ i, (detectFault cls unit s).emu i = s.emu i) ∧ (detectFault cls unit s).emus = s.emus ∧
    (∀ i, (detectFault cls unit s).pin i = s.pin i) ∧ (detectFault cls unit s).pins = s.pins ∧
    (∀ i, (detectFault cls unit s).chan i = s.chan i) ∧ (∀ i, (detectFault cls unit s).wgInput i = s.wgInput i) ∧
    (∀ i, (detectFault cls unit s).wgGroup i = s.wgGroup i) ∧ (detectFault cls unit s).wag = s.wag := by
  have k := detectFault_foot (w := 37810242) (by decide) cls unit s
  exact ⟨mask_freeCtr (w := 37810242) rfl k, mask_pace (w := 37810242) rfl k, mask_sys (w := 37810242) rfl k, mask_clock (w := 37810242) rfl k, by unfold State.now; rw [mask_clock (w := 37810242) rfl k], mask_mon (w := 37810242) rfl k, mask_power (w := 37810242) rfl k, mask_trust (w := 37810242) rfl k, fun i => by unfold State.bank; rw [mask_banks (w := 37810242) rfl k], mask_banks (w := 37810242) rfl k, mask_window (w := 37810242) rfl k, fun i j => by unfold State.mbx; rw [mask_mbxs (w := 37810242) rfl k], mask_mbxs (w := 37810242) rfl k, mask_goOrder (w := 37810242) rfl k, mask_waiting (w := 37810242) rfl k, mask_deviceId (w := 37810242) rfl k, fun i => by unfold State.queue; rw [mask_queues (w := 37810242) rfl k], mask_queues (w := 37810242) rfl k, fun i => by unfold State.lane; rw [mask_lanes (w := 37810242) rfl k], mask_lanes (w := 37810242) rfl k, fun i j => by unfold State.pll; rw [mask_plls (w := 37810242) rfl k], mask_plls (w := 37810242) rfl k, fun i => by unfold State.eth; rw [mask_eths (w := 37810242) rfl k], mask_eths (w := 37810242) rfl k, fun i => by unfold State.ctx; rw [mask_ctxs (w := 37810242) rfl k], mask_ctxs (w := 37810242) rfl k, fun i => by unfold State.comb; rw [mask_combs (w := 37810242) rfl k], mask_combs (w := 37810242) rfl k, mask_parts (w := 37810242) rfl k, mask_stitches (w := 37810242) rfl k, mask_frags (w := 37810242) rfl k, mask_fragIds (w := 37810242) rfl k, mask_staging (w := 37810242) rfl k, fun i => by unfold State.asm; rw [mask_asms (w := 37810242) rfl k], mask_asms (w := 37810242) rfl k, mask_pgs (w := 37810242) rfl k, mask_pgCounts (w := 37810242) rfl k, mask_ctxSteer (w := 37810242) rfl k, mask_pend (w := 37810242) rfl k, mask_flight (w := 37810242) rfl k, fun i => by unfold State.vp; rw [mask_vps (w := 37810242) rfl k], mask_vps (w := 37810242) rfl k, fun i => by unfold State.enc; rw [mask_encs (w := 37810242) rfl k], mask_encs (w := 37810242) rfl k, fun i => by unfold State.emu; rw [mask_emus (w := 37810242) rfl k], mask_emus (w := 37810242) rfl k, fun i => by unfold State.pin; rw [mask_pins (w := 37810242) rfl k], mask_pins (w := 37810242) rfl k, fun i => by unfold State.chan; rw [mask_wag (w := 37810242) rfl k], fun i => by unfold State.wgInput; rw [mask_wag (w := 37810242) rfl k], fun i => by unfold State.wgGroup; rw [mask_wag (w := 37810242) rfl k], mask_wag (w := 37810242) rfl k⟩
@[simp] theorem faultOk_rest (cls : Nat) (unit : Nat) (since : Option Nat) (s : State) :
    (faultOk cls unit since s).out = s.out ∧ (faultOk cls unit since s).freeCtr = s.freeCtr ∧
    (faultOk cls unit since s).pace = s.pace ∧ (faultOk cls unit since s).sys = s.sys ∧
    (faultOk cls unit since s).clock = s.clock ∧ (faultOk cls unit since s).now = s.now ∧
    (faultOk cls unit since s).keeper = s.keeper ∧ (faultOk cls unit since s).mon = s.mon ∧
    (faultOk cls unit since s).power = s.power ∧ (faultOk cls unit since s).trust = s.trust ∧
    (∀ i, (faultOk cls unit since s).bank i = s.bank i) ∧ (faultOk cls unit since s).banks = s.banks ∧
    (faultOk cls unit since s).window = s.window ∧ (faultOk cls unit since s).faultBits = s.faultBits ∧
    (faultOk cls unit since s).faultReports = s.faultReports ∧ (∀ i, (faultOk cls unit since s).hp i = s.hp i) ∧
    (faultOk cls unit since s).hps = s.hps ∧ (∀ i j, (faultOk cls unit since s).mbx i j = s.mbx i j) ∧
    (faultOk cls unit since s).mbxs = s.mbxs ∧ (faultOk cls unit since s).goOrder = s.goOrder ∧
    (faultOk cls unit since s).waiting = s.waiting ∧ (faultOk cls unit since s).deviceId = s.deviceId ∧
    (∀ i, (faultOk cls unit since s).queue i = s.queue i) ∧ (faultOk cls unit since s).queues = s.queues ∧
    (∀ i, (faultOk cls unit since s).lane i = s.lane i) ∧ (faultOk cls unit since s).lanes = s.lanes ∧
    (∀ i, (faultOk cls unit since s).link i = s.link i) ∧ (faultOk cls unit since s).links = s.links ∧
    (∀ i j, (faultOk cls unit since s).pll i j = s.pll i j) ∧ (faultOk cls unit since s).plls = s.plls ∧
    (∀ i, (faultOk cls unit since s).eth i = s.eth i) ∧ (faultOk cls unit since s).eths = s.eths ∧
    (faultOk cls unit since s).hive = s.hive ∧ (∀ i, (faultOk cls unit since s).ctx i = s.ctx i) ∧
    (faultOk cls unit since s).ctxs = s.ctxs ∧ (∀ i, (faultOk cls unit since s).comb i = s.comb i) ∧
    (faultOk cls unit since s).combs = s.combs ∧ (faultOk cls unit since s).parts = s.parts ∧
    (faultOk cls unit since s).stitches = s.stitches ∧ (faultOk cls unit since s).frags = s.frags ∧
    (faultOk cls unit since s).fragIds = s.fragIds ∧ (faultOk cls unit since s).staging = s.staging ∧
    (∀ i, (faultOk cls unit since s).asm i = s.asm i) ∧ (faultOk cls unit since s).asms = s.asms ∧
    (faultOk cls unit since s).pgs = s.pgs ∧ (faultOk cls unit since s).pgCounts = s.pgCounts ∧
    (faultOk cls unit since s).ctxSteer = s.ctxSteer ∧ (faultOk cls unit since s).pend = s.pend ∧
    (faultOk cls unit since s).flight = s.flight ∧ (∀ i, (faultOk cls unit since s).vp i = s.vp i) ∧
    (faultOk cls unit since s).vps = s.vps ∧ (∀ i, (faultOk cls unit since s).enc i = s.enc i) ∧
    (faultOk cls unit since s).encs = s.encs ∧ (∀ i, (faultOk cls unit since s).emu i = s.emu i) ∧
    (faultOk cls unit since s).emus = s.emus ∧ (∀ i, (faultOk cls unit since s).pin i = s.pin i) ∧
    (faultOk cls unit since s).pins = s.pins ∧ (∀ i, (faultOk cls unit since s).chan i = s.chan i) ∧
    (∀ i, (faultOk cls unit since s).wgInput i = s.wgInput i) ∧
    (∀ i, (faultOk cls unit since s).wgGroup i = s.wgGroup i) ∧ (faultOk cls unit since s).wag = s.wag := by
  have k := faultOk_foot (w := 4096) (by decide) cls unit since s
  exact ⟨mask_out (w := 4096) rfl k, mask_freeCtr (w := 4096) rfl k, mask_pace (w := 4096) rfl k, mask_sys (w := 4096) rfl k, mask_clock (w := 4096) rfl k, by unfold State.now; rw [mask_clock (w := 4096) rfl k], mask_keeper (w := 4096) rfl k, mask_mon (w := 4096) rfl k, mask_power (w := 4096) rfl k, mask_trust (w := 4096) rfl k, fun i => by unfold State.bank; rw [mask_banks (w := 4096) rfl k], mask_banks (w := 4096) rfl k, mask_window (w := 4096) rfl k, mask_faultBits (w := 4096) rfl k, mask_faultReports (w := 4096) rfl k, fun i => by unfold State.hp; rw [mask_hps (w := 4096) rfl k], mask_hps (w := 4096) rfl k, fun i j => by unfold State.mbx; rw [mask_mbxs (w := 4096) rfl k], mask_mbxs (w := 4096) rfl k, mask_goOrder (w := 4096) rfl k, mask_waiting (w := 4096) rfl k, mask_deviceId (w := 4096) rfl k, fun i => by unfold State.queue; rw [mask_queues (w := 4096) rfl k], mask_queues (w := 4096) rfl k, fun i => by unfold State.lane; rw [mask_lanes (w := 4096) rfl k], mask_lanes (w := 4096) rfl k, fun i => by unfold State.link; rw [mask_links (w := 4096) rfl k], mask_links (w := 4096) rfl k, fun i j => by unfold State.pll; rw [mask_plls (w := 4096) rfl k], mask_plls (w := 4096) rfl k, fun i => by unfold State.eth; rw [mask_eths (w := 4096) rfl k], mask_eths (w := 4096) rfl k, mask_hive (w := 4096) rfl k, fun i => by unfold State.ctx; rw [mask_ctxs (w := 4096) rfl k], mask_ctxs (w := 4096) rfl k, fun i => by unfold State.comb; rw [mask_combs (w := 4096) rfl k], mask_combs (w := 4096) rfl k, mask_parts (w := 4096) rfl k, mask_stitches (w := 4096) rfl k, mask_frags (w := 4096) rfl k, mask_fragIds (w := 4096) rfl k, mask_staging (w := 4096) rfl k, fun i => by unfold State.asm; rw [mask_asms (w := 4096) rfl k], mask_asms (w := 4096) rfl k, mask_pgs (w := 4096) rfl k, mask_pgCounts (w := 4096) rfl k, mask_ctxSteer (w := 4096) rfl k, mask_pend (w := 4096) rfl k, mask_flight (w := 4096) rfl k, fun i => by unfold State.vp; rw [mask_vps (w := 4096) rfl k], mask_vps (w := 4096) rfl k, fun i => by unfold State.enc; rw [mask_encs (w := 4096) rfl k], mask_encs (w := 4096) rfl k, fun i => by unfold State.emu; rw [mask_emus (w := 4096) rfl k], mask_emus (w := 4096) rfl k, fun i => by unfold State.pin; rw [mask_pins (w := 4096) rfl k], mask_pins (w := 4096) rfl k, fun i => by unfold State.chan; rw [mask_wag (w := 4096) rfl k], fun i => by unfold State.wgInput; rw [mask_wag (w := 4096) rfl k], fun i => by unfold State.wgGroup; rw [mask_wag (w := 4096) rfl k], mask_wag (w := 4096) rfl k⟩
@[simp] theorem laneFault_rest (l : Nat) (s : State) :
    (laneFault l s).freeCtr = s.freeCtr ∧ (laneFault l s).pace = s.pace ∧ (laneFault l s).sys = s.sys ∧
    (laneFault l s).clock = s.clock ∧ (laneFault l s).now = s.now ∧ (laneFault l s).mon = s.mon ∧
    (laneFault l s).power = s.power ∧ (laneFault l s).trust = s.trust ∧ (∀ i, (laneFault l s).bank i = s.bank i) ∧
    (laneFault l s).banks = s.banks ∧ (laneFault l s).window = s.window ∧ (∀ i j, (laneFault l s).mbx i j = s.mbx i j) ∧
    (laneFault l s).mbxs = s.mbxs ∧ (laneFault l s).goOrder = s.goOrder ∧ (laneFault l s).waiting = s.waiting ∧
    (laneFault l s).deviceId = s.deviceId ∧ (∀ i, (laneFault l s).queue i = s.queue i) ∧
    (laneFault l s).queues = s.queues ∧ (∀ i, (laneFault l s).lane i = s.lane i) ∧ (laneFault l s).lanes = s.lanes ∧
    (∀ i j, (laneFault l s).pll i j = s.pll i j) ∧ (laneFault l s).plls = s.plls ∧
    (∀ i, (laneFault l s).eth i = s.eth i) ∧ (laneFault l s).eths = s.eths ∧ (∀ i, (laneFault l s).ctx i = s.ctx i) ∧
    (laneFault l s).ctxs = s.ctxs ∧ (∀ i, (laneFault l s).comb i = s.comb i) ∧ (laneFault l s).combs = s.combs ∧
    (laneFault l s).parts = s.parts ∧ (laneFault l s).stitches = s.stitches ∧ (laneFault l s).frags = s.frags ∧
    (laneFault l s).fragIds = s.fragIds ∧ (laneFault l s).staging = s.staging ∧ (∀ i, (laneFault l s).asm i = s.asm i) ∧
    (laneFault l s).asms = s.asms ∧ (laneFault l s).pgs = s.pgs ∧ (laneFault l s).pgCounts = s.pgCounts ∧
    (laneFault l s).ctxSteer = s.ctxSteer ∧ (laneFault l s).pend = s.pend ∧ (laneFault l s).flight = s.flight ∧
    (∀ i, (laneFault l s).vp i = s.vp i) ∧ (laneFault l s).vps = s.vps ∧ (∀ i, (laneFault l s).enc i = s.enc i) ∧
    (laneFault l s).encs = s.encs ∧ (∀ i, (laneFault l s).emu i = s.emu i) ∧ (laneFault l s).emus = s.emus ∧
    (∀ i, (laneFault l s).pin i = s.pin i) ∧ (laneFault l s).pins = s.pins ∧ (∀ i, (laneFault l s).chan i = s.chan i) ∧
    (∀ i, (laneFault l s).wgInput i = s.wgInput i) ∧ (∀ i, (laneFault l s).wgGroup i = s.wgGroup i) ∧
    (laneFault l s).wag = s.wag := by
  have k := laneFault_foot (w := 37810242) (by decide) l s
  exact ⟨mask_freeCtr (w := 37810242) rfl k, mask_pace (w := 37810242) rfl k, mask_sys (w := 37810242) rfl k, mask_clock (w := 37810242) rfl k, by unfold State.now; rw [mask_clock (w := 37810242) rfl k], mask_mon (w := 37810242) rfl k, mask_power (w := 37810242) rfl k, mask_trust (w := 37810242) rfl k, fun i => by unfold State.bank; rw [mask_banks (w := 37810242) rfl k], mask_banks (w := 37810242) rfl k, mask_window (w := 37810242) rfl k, fun i j => by unfold State.mbx; rw [mask_mbxs (w := 37810242) rfl k], mask_mbxs (w := 37810242) rfl k, mask_goOrder (w := 37810242) rfl k, mask_waiting (w := 37810242) rfl k, mask_deviceId (w := 37810242) rfl k, fun i => by unfold State.queue; rw [mask_queues (w := 37810242) rfl k], mask_queues (w := 37810242) rfl k, fun i => by unfold State.lane; rw [mask_lanes (w := 37810242) rfl k], mask_lanes (w := 37810242) rfl k, fun i j => by unfold State.pll; rw [mask_plls (w := 37810242) rfl k], mask_plls (w := 37810242) rfl k, fun i => by unfold State.eth; rw [mask_eths (w := 37810242) rfl k], mask_eths (w := 37810242) rfl k, fun i => by unfold State.ctx; rw [mask_ctxs (w := 37810242) rfl k], mask_ctxs (w := 37810242) rfl k, fun i => by unfold State.comb; rw [mask_combs (w := 37810242) rfl k], mask_combs (w := 37810242) rfl k, mask_parts (w := 37810242) rfl k, mask_stitches (w := 37810242) rfl k, mask_frags (w := 37810242) rfl k, mask_fragIds (w := 37810242) rfl k, mask_staging (w := 37810242) rfl k, fun i => by unfold State.asm; rw [mask_asms (w := 37810242) rfl k], mask_asms (w := 37810242) rfl k, mask_pgs (w := 37810242) rfl k, mask_pgCounts (w := 37810242) rfl k, mask_ctxSteer (w := 37810242) rfl k, mask_pend (w := 37810242) rfl k, mask_flight (w := 37810242) rfl k, fun i => by unfold State.vp; rw [mask_vps (w := 37810242) rfl k], mask_vps (w := 37810242) rfl k, fun i => by unfold State.enc; rw [mask_encs (w := 37810242) rfl k], mask_encs (w := 37810242) rfl k, fun i => by unfold State.emu; rw [mask_emus (w := 37810242) rfl k], mask_emus (w := 37810242) rfl k, fun i => by unfold State.pin; rw [mask_pins (w := 37810242) rfl k], mask_pins (w := 37810242) rfl k, fun i => by unfold State.chan; rw [mask_wag (w := 37810242) rfl k], fun i => by unfold State.wgInput; rw [mask_wag (w := 37810242) rfl k], fun i => by unfold State.wgGroup; rw [mask_wag (w := 37810242) rfl k], mask_wag (w := 37810242) rfl k⟩
@[simp] theorem unlockLink_rest (l : Nat) (s : State) :
    (unlockLink l s).out = s.out ∧ (unlockLink l s).freeCtr = s.freeCtr ∧ (unlockLink l s).pace = s.pace ∧
    (unlockLink l s).sys = s.sys ∧ (unlockLink l s).clock = s.clock ∧ (unlockLink l s).now = s.now ∧
    (unlockLink l s).keeper = s.keeper ∧ (unlockLink l s).mon = s.mon ∧ (unlockLink l s).power = s.power ∧
    (unlockLink l s).trust = s.trust ∧ (∀ i, (unlockLink l s).bank i = s.bank i) ∧ (unlockLink l s).banks = s.banks ∧
    (unlockLink l s).window = s.window ∧ (unlockLink l s).faults = s.faults ∧ (unlockLink l s).faultBits = s.faultBits ∧
    (unlockLink l s).faultReports = s.faultReports ∧ (∀ i, (unlockLink l s).hp i = s.hp i) ∧
    (unlockLink l s).hps = s.hps ∧ (∀ i j, (unlockLink l s).mbx i j = s.mbx i j) ∧ (unlockLink l s).mbxs = s.mbxs ∧
    (unlockLink l s).goOrder = s.goOrder ∧ (unlockLink l s).waiting = s.waiting ∧
    (unlockLink l s).deviceId = s.deviceId ∧ (∀ i, (unlockLink l s).queue i = s.queue i) ∧
    (unlockLink l s).queues = s.queues ∧ (∀ i, (unlockLink l s).lane i = s.lane i) ∧ (unlockLink l s).lanes = s.lanes ∧
    (∀ i j, (unlockLink l s).pll i j = s.pll i j) ∧ (unlockLink l s).plls = s.plls ∧
    (∀ i, (unlockLink l s).eth i = s.eth i) ∧ (unlockLink l s).eths = s.eths ∧ (unlockLink l s).hive = s.hive ∧
    (∀ i, (unlockLink l s).ctx i = s.ctx i) ∧ (unlockLink l s).ctxs = s.ctxs ∧
    (∀ i, (unlockLink l s).comb i = s.comb i) ∧ (unlockLink l s).combs = s.combs ∧ (unlockLink l s).parts = s.parts ∧
    (unlockLink l s).stitches = s.stitches ∧ (unlockLink l s).frags = s.frags ∧ (unlockLink l s).fragIds = s.fragIds ∧
    (unlockLink l s).staging = s.staging ∧ (∀ i, (unlockLink l s).asm i = s.asm i) ∧ (unlockLink l s).asms = s.asms ∧
    (unlockLink l s).pgs = s.pgs ∧ (unlockLink l s).pgCounts = s.pgCounts ∧ (unlockLink l s).ctxSteer = s.ctxSteer ∧
    (unlockLink l s).pend = s.pend ∧ (unlockLink l s).flight = s.flight ∧ (∀ i, (unlockLink l s).vp i = s.vp i) ∧
    (unlockLink l s).vps = s.vps ∧ (∀ i, (unlockLink l s).enc i = s.enc i) ∧ (unlockLink l s).encs = s.encs ∧
    (∀ i, (unlockLink l s).emu i = s.emu i) ∧ (unlockLink l s).emus = s.emus ∧ (∀ i, (unlockLink l s).pin i = s.pin i) ∧
    (unlockLink l s).pins = s.pins ∧ (∀ i, (unlockLink l s).chan i = s.chan i) ∧
    (∀ i, (unlockLink l s).wgInput i = s.wgInput i) ∧ (∀ i, (unlockLink l s).wgGroup i = s.wgGroup i) ∧
    (unlockLink l s).wag = s.wag := by
  have k := unlockLink_foot (w := 4194304) (by decide) l s
  exact ⟨mask_out (w := 4194304) rfl k, mask_freeCtr (w := 4194304) rfl k, mask_pace (w := 4194304) rfl k, mask_sys (w := 4194304) rfl k, mask_clock (w := 4194304) rfl k, by unfold State.now; rw [mask_clock (w := 4194304) rfl k], mask_keeper (w := 4194304) rfl k, mask_mon (w := 4194304) rfl k, mask_power (w := 4194304) rfl k, mask_trust (w := 4194304) rfl k, fun i => by unfold State.bank; rw [mask_banks (w := 4194304) rfl k], mask_banks (w := 4194304) rfl k, mask_window (w := 4194304) rfl k, mask_faults (w := 4194304) rfl k, mask_faultBits (w := 4194304) rfl k, mask_faultReports (w := 4194304) rfl k, fun i => by unfold State.hp; rw [mask_hps (w := 4194304) rfl k], mask_hps (w := 4194304) rfl k, fun i j => by unfold State.mbx; rw [mask_mbxs (w := 4194304) rfl k], mask_mbxs (w := 4194304) rfl k, mask_goOrder (w := 4194304) rfl k, mask_waiting (w := 4194304) rfl k, mask_deviceId (w := 4194304) rfl k, fun i => by unfold State.queue; rw [mask_queues (w := 4194304) rfl k], mask_queues (w := 4194304) rfl k, fun i => by unfold State.lane; rw [mask_lanes (w := 4194304) rfl k], mask_lanes (w := 4194304) rfl k, fun i j => by unfold State.pll; rw [mask_plls (w := 4194304) rfl k], mask_plls (w := 4194304) rfl k, fun i => by unfold State.eth; rw [mask_eths (w := 4194304) rfl k], mask_eths (w := 4194304) rfl k, mask_hive (w := 4194304) rfl k, fun i => by unfold State.ctx; rw [mask_ctxs (w := 4194304) rfl k], mask_ctxs (w := 4194304) rfl k, fun i => by unfold State.comb; rw [mask_combs (w := 4194304) rfl k], mask_combs (w := 4194304) rfl k, mask_parts (w := 4194304) rfl k, mask_stitches (w := 4194304) rfl k, mask_frags (w := 4194304) rfl k, mask_fragIds (w := 4194304) rfl k, mask_staging (w := 4194304) rfl k, fun i => by unfold State.asm; rw [mask_asms (w := 4194304) rfl k], mask_asms (w := 4194304) rfl k, mask_pgs (w := 4194304) rfl k, mask_pgCounts (w := 4194304) rfl k, mask_ctxSteer (w := 4194304) rfl k, mask_pend (w := 4194304) rfl k, mask_flight (w := 4194304) rfl k, fun i => by unfold State.vp; rw [mask_vps (w := 4194304) rfl k], mask_vps (w := 4194304) rfl k, fun i => by unfold State.enc; rw [mask_encs (w := 4194304) rfl k], mask_encs (w := 4194304) rfl k, fun i => by unfold State.emu; rw [mask_emus (w := 4194304) rfl k], mask_emus (w := 4194304) rfl k, fun i => by unfold State.pin; rw [mask_pins (w := 4194304) rfl k], mask_pins (w := 4194304) rfl k, fun i => by unfold State.chan; rw [mask_wag (w := 4194304) rfl k], fun i => by unfold State.wgInput; rw [mask_wag (w := 4194304) rfl k], fun i => by unfold State.wgGroup; rw [mask_wag (w := 4194304) rfl k], mask_wag (w := 4194304) rfl k⟩
@[simp] theorem linkLost_rest (a0 : Nat) (s : State) :
    (linkLost a0 s).out = s.out ∧ (linkLost a0 s).freeCtr = s.freeCtr ∧ (linkLost a0 s).pace = s.pace ∧
    (linkLost a0 s).sys = s.sys ∧ (linkLost a0 s).clock = s.clock ∧ (linkLost a0 s).now = s.now ∧
    (linkLost a0 s).keeper = s.keeper ∧ (linkLost a0 s).mon = s.mon ∧ (linkLost a0 s).power = s.power ∧
    (linkLost a0 s).trust = s.trust ∧ (∀ i, (linkLost a0 s).bank i = s.bank i) ∧ (linkLost a0 s).banks = s.banks ∧
    (linkLost a0 s).window = s.window ∧ (linkLost a0 s).faults = s.faults ∧ (linkLost a0 s).faultBits = s.faultBits ∧
    (linkLost a0 s).faultReports = s.faultReports ∧ (∀ i, (linkLost a0 s).hp i = s.hp i) ∧ (linkLost a0 s).hps = s.hps ∧
    (∀ i j, (linkLost a0 s).mbx i j = s.mbx i j) ∧ (linkLost a0 s).mbxs = s.mbxs ∧ (linkLost a0 s).goOrder = s.goOrder ∧
    (linkLost a0 s).waiting = s.waiting ∧ (linkLost a0 s).deviceId = s.deviceId ∧
    (∀ i, (linkLost a0 s).queue i = s.queue i) ∧ (linkLost a0 s).queues = s.queues ∧
    (∀ i, (linkLost a0 s).lane i = s.lane i) ∧ (linkLost a0 s).lanes = s.lanes ∧
    (∀ i j, (linkLost a0 s).pll i j = s.pll i j) ∧ (linkLost a0 s).plls = s.plls ∧
    (∀ i, (linkLost a0 s).eth i = s.eth i) ∧ (linkLost a0 s).eths = s.eths ∧ (linkLost a0 s).hive = s.hive ∧
    (∀ i, (linkLost a0 s).ctx i = s.ctx i) ∧ (linkLost a0 s).ctxs = s.ctxs ∧ (∀ i, (linkLost a0 s).comb i = s.comb i) ∧
    (linkLost a0 s).combs = s.combs ∧ (linkLost a0 s).parts = s.parts ∧ (linkLost a0 s).stitches = s.stitches ∧
    (linkLost a0 s).frags = s.frags ∧ (linkLost a0 s).fragIds = s.fragIds ∧ (linkLost a0 s).staging = s.staging ∧
    (∀ i, (linkLost a0 s).asm i = s.asm i) ∧ (linkLost a0 s).asms = s.asms ∧ (linkLost a0 s).pgs = s.pgs ∧
    (linkLost a0 s).pgCounts = s.pgCounts ∧ (linkLost a0 s).ctxSteer = s.ctxSteer ∧ (linkLost a0 s).pend = s.pend ∧
    (linkLost a0 s).flight = s.flight ∧ (∀ i, (linkLost a0 s).vp i = s.vp i) ∧ (linkLost a0 s).vps = s.vps ∧
    (∀ i, (linkLost a0 s).enc i = s.enc i) ∧ (linkLost a0 s).encs = s.encs ∧ (∀ i, (linkLost a0 s).emu i = s.emu i) ∧
    (linkLost a0 s).emus = s.emus ∧ (∀ i, (linkLost a0 s).pin i = s.pin i) ∧ (linkLost a0 s).pins = s.pins ∧
    (∀ i, (linkLost a0 s).chan i = s.chan i) ∧ (∀ i, (linkLost a0 s).wgInput i = s.wgInput i) ∧
    (∀ i, (linkLost a0 s).wgGroup i = s.wgGroup i) ∧ (linkLost a0 s).wag = s.wag := by
  have k := linkLost_foot (w := 4194304) (by decide) a0 s
  exact ⟨mask_out (w := 4194304) rfl k, mask_freeCtr (w := 4194304) rfl k, mask_pace (w := 4194304) rfl k, mask_sys (w := 4194304) rfl k, mask_clock (w := 4194304) rfl k, by unfold State.now; rw [mask_clock (w := 4194304) rfl k], mask_keeper (w := 4194304) rfl k, mask_mon (w := 4194304) rfl k, mask_power (w := 4194304) rfl k, mask_trust (w := 4194304) rfl k, fun i => by unfold State.bank; rw [mask_banks (w := 4194304) rfl k], mask_banks (w := 4194304) rfl k, mask_window (w := 4194304) rfl k, mask_faults (w := 4194304) rfl k, mask_faultBits (w := 4194304) rfl k, mask_faultReports (w := 4194304) rfl k, fun i => by unfold State.hp; rw [mask_hps (w := 4194304) rfl k], mask_hps (w := 4194304) rfl k, fun i j => by unfold State.mbx; rw [mask_mbxs (w := 4194304) rfl k], mask_mbxs (w := 4194304) rfl k, mask_goOrder (w := 4194304) rfl k, mask_waiting (w := 4194304) rfl k, mask_deviceId (w := 4194304) rfl k, fun i => by unfold State.queue; rw [mask_queues (w := 4194304) rfl k], mask_queues (w := 4194304) rfl k, fun i => by unfold State.lane; rw [mask_lanes (w := 4194304) rfl k], mask_lanes (w := 4194304) rfl k, fun i j => by unfold State.pll; rw [mask_plls (w := 4194304) rfl k], mask_plls (w := 4194304) rfl k, fun i => by unfold State.eth; rw [mask_eths (w := 4194304) rfl k], mask_eths (w := 4194304) rfl k, mask_hive (w := 4194304) rfl k, fun i => by unfold State.ctx; rw [mask_ctxs (w := 4194304) rfl k], mask_ctxs (w := 4194304) rfl k, fun i => by unfold State.comb; rw [mask_combs (w := 4194304) rfl k], mask_combs (w := 4194304) rfl k, mask_parts (w := 4194304) rfl k, mask_stitches (w := 4194304) rfl k, mask_frags (w := 4194304) rfl k, mask_fragIds (w := 4194304) rfl k, mask_staging (w := 4194304) rfl k, fun i => by unfold State.asm; rw [mask_asms (w := 4194304) rfl k], mask_asms (w := 4194304) rfl k, mask_pgs (w := 4194304) rfl k, mask_pgCounts (w := 4194304) rfl k, mask_ctxSteer (w := 4194304) rfl k, mask_pend (w := 4194304) rfl k, mask_flight (w := 4194304) rfl k, fun i => by unfold State.vp; rw [mask_vps (w := 4194304) rfl k], mask_vps (w := 4194304) rfl k, fun i => by unfold State.enc; rw [mask_encs (w := 4194304) rfl k], mask_encs (w := 4194304) rfl k, fun i => by unfold State.emu; rw [mask_emus (w := 4194304) rfl k], mask_emus (w := 4194304) rfl k, fun i => by unfold State.pin; rw [mask_pins (w := 4194304) rfl k], mask_pins (w := 4194304) rfl k, fun i => by unfold State.chan; rw [mask_wag (w := 4194304) rfl k], fun i => by unfold State.wgInput; rw [mask_wag (w := 4194304) rfl k], fun i => by unfold State.wgGroup; rw [mask_wag (w := 4194304) rfl k], mask_wag (w := 4194304) rfl k⟩
@[simp] theorem enterCdr_rest (fast : Bool) (l : Nat) (s : State) :
    (enterCdr fast l s).freeCtr = s.freeCtr ∧ (enterCdr fast l s).pace = s.pace ∧ (enterCdr fast l s).sys = s.sys ∧
    (enterCdr fast l s).clock = s.clock ∧ (enterCdr fast l s).now = s.now ∧ (enterCdr fast l s).keeper = s.keeper ∧
    (enterCdr fast l s).mon = s.mon ∧ (enterCdr fast l s).power = s.power ∧ (enterCdr fast l s).trust = s.trust ∧
    (∀ i, (enterCdr fast l s).bank i = s.bank i) ∧ (enterCdr fast l s).banks = s.banks ∧
    (enterCdr fast l s).window = s.window ∧ (enterCdr fast l s).faults = s.faults ∧
    (enterCdr fast l s).faultBits = s.faultBits ∧ (enterCdr fast l s).faultReports = s.faultReports ∧
    (∀ i, (enterCdr fast l s).hp i = s.hp i) ∧ (enterCdr fast l s).hps = s.hps ∧
    (∀ i j, (enterCdr fast l s).mbx i j = s.mbx i j) ∧ (enterCdr fast l s).mbxs = s.mbxs ∧
    (enterCdr fast l s).goOrder = s.goOrder ∧ (enterCdr fast l s).waiting = s.waiting ∧
    (enterCdr fast l s).deviceId = s.deviceId ∧ (∀ i, (enterCdr fast l s).queue i = s.queue i) ∧
    (enterCdr fast l s).queues = s.queues ∧ (∀ i j, (enterCdr fast l s).pll i j = s.pll i j) ∧
    (enterCdr fast l s).plls = s.plls ∧ (∀ i, (enterCdr fast l s).eth i = s.eth i) ∧ (enterCdr fast l s).eths = s.eths ∧
    (enterCdr fast l s).hive = s.hive ∧ (∀ i, (enterCdr fast l s).ctx i = s.ctx i) ∧ (enterCdr fast l s).ctxs = s.ctxs ∧
    (∀ i, (enterCdr fast l s).comb i = s.comb i) ∧ (enterCdr fast l s).combs = s.combs ∧
    (enterCdr fast l s).parts = s.parts ∧ (enterCdr fast l s).stitches = s.stitches ∧
    (enterCdr fast l s).frags = s.frags ∧ (enterCdr fast l s).fragIds = s.fragIds ∧
    (enterCdr fast l s).staging = s.staging ∧ (∀ i, (enterCdr fast l s).asm i = s.asm i) ∧
    (enterCdr fast l s).asms = s.asms ∧ (enterCdr fast l s).pgs = s.pgs ∧ (enterCdr fast l s).pgCounts = s.pgCounts ∧
    (enterCdr fast l s).ctxSteer = s.ctxSteer ∧ (enterCdr fast l s).pend = s.pend ∧
    (enterCdr fast l s).flight = s.flight ∧ (∀ i, (enterCdr fast l s).vp i = s.vp i) ∧ (enterCdr fast l s).vps = s.vps ∧
    (∀ i, (enterCdr fast l s).enc i = s.enc i) ∧ (enterCdr fast l s).encs = s.encs ∧
    (∀ i, (enterCdr fast l s).emu i = s.emu i) ∧ (enterCdr fast l s).emus = s.emus ∧
    (∀ i, (enterCdr fast l s).pin i = s.pin i) ∧ (enterCdr fast l s).pins = s.pins ∧
    (∀ i, (enterCdr fast l s).chan i = s.chan i) ∧ (∀ i, (enterCdr fast l s).wgInput i = s.wgInput i) ∧
    (∀ i, (enterCdr fast l s).wgGroup i = s.wgGroup i) ∧ (enterCdr fast l s).wag = s.wag := by
  have k := enterCdr_foot (w := 6291458) (by decide) fast l s
  exact ⟨mask_freeCtr (w := 6291458) rfl k, mask_pace (w := 6291458) rfl k, mask_sys (w := 6291458) rfl k, mask_clock (w := 6291458) rfl k, by unfold State.now; rw [mask_clock (w := 6291458) rfl k], mask_keeper (w := 6291458) rfl k, mask_mon (w := 6291458) rfl k, mask_power (w := 6291458) rfl k, mask_trust (w := 6291458) rfl k, fun i => by unfold State.bank; rw [mask_banks (w := 6291458) rfl k], mask_banks (w := 6291458) rfl k, mask_window (w := 6291458) rfl k, mask_faults (w := 6291458) rfl k, mask_faultBits (w := 6291458) rfl k, mask_faultReports (w := 6291458) rfl k, fun i => by unfold State.hp; rw [mask_hps (w := 6291458) rfl k], mask_hps (w := 6291458) rfl k, fun i j => by unfold State.mbx; rw [mask_mbxs (w := 6291458) rfl k], mask_mbxs (w := 6291458) rfl k, mask_goOrder (w := 6291458) rfl k, mask_waiting (w := 6291458) rfl k, mask_deviceId (w := 6291458) rfl k, fun i => by unfold State.queue; rw [mask_queues (w := 6291458) rfl k], mask_queues (w := 6291458) rfl k, fun i j => by unfold State.pll; rw [mask_plls (w := 6291458) rfl k], mask_plls (w := 6291458) rfl k, fun i => by unfold State.eth; rw [mask_eths (w := 6291458) rfl k], mask_eths (w := 6291458) rfl k, mask_hive (w := 6291458) rfl k, fun i => by unfold State.ctx; rw [mask_ctxs (w := 6291458) rfl k], mask_ctxs (w := 6291458) rfl k, fun i => by unfold State.comb; rw [mask_combs (w := 6291458) rfl k], mask_combs (w := 6291458) rfl k, mask_parts (w := 6291458) rfl k, mask_stitches (w := 6291458) rfl k, mask_frags (w := 6291458) rfl k, mask_fragIds (w := 6291458) rfl k, mask_staging (w := 6291458) rfl k, fun i => by unfold State.asm; rw [mask_asms (w := 6291458) rfl k], mask_asms (w := 6291458) rfl k, mask_pgs (w := 6291458) rfl k, mask_pgCounts (w := 6291458) rfl k, mask_ctxSteer (w := 6291458) rfl k, mask_pend (w := 6291458) rfl k, mask_flight (w := 6291458) rfl k, fun i => by unfold State.vp; rw [mask_vps (w := 6291458) rfl k], mask_vps (w := 6291458) rfl k, fun i => by unfold State.enc; rw [mask_encs (w := 6291458) rfl k], mask_encs (w := 6291458) rfl k, fun i => by unfold State.emu; rw [mask_emus (w := 6291458) rfl k], mask_emus (w := 6291458) rfl k, fun i => by unfold State.pin; rw [mask_pins (w := 6291458) rfl k], mask_pins (w := 6291458) rfl k, fun i => by unfold State.chan; rw [mask_wag (w := 6291458) rfl k], fun i => by unfold State.wgInput; rw [mask_wag (w := 6291458) rfl k], fun i => by unfold State.wgGroup; rw [mask_wag (w := 6291458) rfl k], mask_wag (w := 6291458) rfl k⟩
@[simp] theorem setIntx_rest (f : Nat) (b : Nat) (s : State) :
    (setIntx f b s).freeCtr = s.freeCtr ∧ (setIntx f b s).pace = s.pace ∧ (setIntx f b s).sys = s.sys ∧
    (setIntx f b s).clock = s.clock ∧ (setIntx f b s).now = s.now ∧ (setIntx f b s).keeper = s.keeper ∧
    (setIntx f b s).mon = s.mon ∧ (setIntx f b s).power = s.power ∧ (setIntx f b s).trust = s.trust ∧
    (∀ i, (setIntx f b s).bank i = s.bank i) ∧ (setIntx f b s).banks = s.banks ∧ (setIntx f b s).window = s.window ∧
    (setIntx f b s).faults = s.faults ∧ (setIntx f b s).faultBits = s.faultBits ∧
    (setIntx f b s).faultReports = s.faultReports ∧ (∀ i j, (setIntx f b s).mbx i j = s.mbx i j) ∧
    (setIntx f b s).mbxs = s.mbxs ∧ (setIntx f b s).goOrder = s.goOrder ∧ (setIntx f b s).waiting = s.waiting ∧
    (setIntx f b s).deviceId = s.deviceId ∧ (∀ i, (setIntx f b s).queue i = s.queue i) ∧
    (setIntx f b s).queues = s.queues ∧ (∀ i, (setIntx f b s).lane i = s.lane i) ∧ (setIntx f b s).lanes = s.lanes ∧
    (∀ i, (setIntx f b s).link i = s.link i) ∧ (setIntx f b s).links = s.links ∧
    (∀ i j, (setIntx f b s).pll i j = s.pll i j) ∧ (setIntx f b s).plls = s.plls ∧
    (∀ i, (setIntx f b s).eth i = s.eth i) ∧ (setIntx f b s).eths = s.eths ∧ (setIntx f b s).hive = s.hive ∧
    (∀ i, (setIntx f b s).ctx i = s.ctx i) ∧ (setIntx f b s).ctxs = s.ctxs ∧ (∀ i, (setIntx f b s).comb i = s.comb i) ∧
    (setIntx f b s).combs = s.combs ∧ (setIntx f b s).parts = s.parts ∧ (setIntx f b s).stitches = s.stitches ∧
    (setIntx f b s).frags = s.frags ∧ (setIntx f b s).fragIds = s.fragIds ∧ (setIntx f b s).staging = s.staging ∧
    (∀ i, (setIntx f b s).asm i = s.asm i) ∧ (setIntx f b s).asms = s.asms ∧ (setIntx f b s).pgs = s.pgs ∧
    (setIntx f b s).pgCounts = s.pgCounts ∧ (setIntx f b s).ctxSteer = s.ctxSteer ∧ (setIntx f b s).pend = s.pend ∧
    (setIntx f b s).flight = s.flight ∧ (∀ i, (setIntx f b s).vp i = s.vp i) ∧ (setIntx f b s).vps = s.vps ∧
    (∀ i, (setIntx f b s).enc i = s.enc i) ∧ (setIntx f b s).encs = s.encs ∧ (∀ i, (setIntx f b s).emu i = s.emu i) ∧
    (setIntx f b s).emus = s.emus ∧ (∀ i, (setIntx f b s).pin i = s.pin i) ∧ (setIntx f b s).pins = s.pins ∧
    (∀ i, (setIntx f b s).chan i = s.chan i) ∧ (∀ i, (setIntx f b s).wgInput i = s.wgInput i) ∧
    (∀ i, (setIntx f b s).wgGroup i = s.wgGroup i) ∧ (setIntx f b s).wag = s.wag := by
  have k := setIntx_foot (w := 32770) (by decide) f b s
  exact ⟨mask_freeCtr (w := 32770) rfl k, mask_pace (w := 32770) rfl k, mask_sys (w := 32770) rfl k, mask_clock (w := 32770) rfl k, by unfold State.now; rw [mask_clock (w := 32770) rfl k], mask_keeper (w := 32770) rfl k, mask_mon (w := 32770) rfl k, mask_power (w := 32770) rfl k, mask_trust (w := 32770) rfl k, fun i => by unfold State.bank; rw [mask_banks (w := 32770) rfl k], mask_banks (w := 32770) rfl k, mask_window (w := 32770) rfl k, mask_faults (w := 32770) rfl k, mask_faultBits (w := 32770) rfl k, mask_faultReports (w := 32770) rfl k, fun i j => by unfold State.mbx; rw [mask_mbxs (w := 32770) rfl k], mask_mbxs (w := 32770) rfl k, mask_goOrder (w := 32770) rfl k, mask_waiting (w := 32770) rfl k, mask_deviceId (w := 32770) rfl k, fun i => by unfold State.queue; rw [mask_queues (w := 32770) rfl k], mask_queues (w := 32770) rfl k, fun i => by unfold State.lane; rw [mask_lanes (w := 32770) rfl k], mask_lanes (w := 32770) rfl k, fun i => by unfold State.link; rw [mask_links (w := 32770) rfl k], mask_links (w := 32770) rfl k, fun i j => by unfold State.pll; rw [mask_plls (w := 32770) rfl k], mask_plls (w := 32770) rfl k, fun i => by unfold State.eth; rw [mask_eths (w := 32770) rfl k], mask_eths (w := 32770) rfl k, mask_hive (w := 32770) rfl k, fun i => by unfold State.ctx; rw [mask_ctxs (w := 32770) rfl k], mask_ctxs (w := 32770) rfl k, fun i => by unfold State.comb; rw [mask_combs (w := 32770) rfl k], mask_combs (w := 32770) rfl k, mask_parts (w := 32770) rfl k, mask_stitches (w := 32770) rfl k, mask_frags (w := 32770) rfl k, mask_fragIds (w := 32770) rfl k, mask_staging (w := 32770) rfl k, fun i => by unfold State.asm; rw [mask_asms (w := 32770) rfl k], mask_asms (w := 32770) rfl k, mask_pgs (w := 32770) rfl k, mask_pgCounts (w := 32770) rfl k, mask_ctxSteer (w := 32770) rfl k, mask_pend (w := 32770) rfl k, mask_flight (w := 32770) rfl k, fun i => by unfold State.vp; rw [mask_vps (w := 32770) rfl k], mask_vps (w := 32770) rfl k, fun i => by unfold State.enc; rw [mask_encs (w := 32770) rfl k], mask_encs (w := 32770) rfl k, fun i => by unfold State.emu; rw [mask_emus (w := 32770) rfl k], mask_emus (w := 32770) rfl k, fun i => by unfold State.pin; rw [mask_pins (w := 32770) rfl k], mask_pins (w := 32770) rfl k, fun i => by unfold State.chan; rw [mask_wag (w := 32770) rfl k], fun i => by unfold State.wgInput; rw [mask_wag (w := 32770) rfl k], fun i => by unfold State.wgGroup; rw [mask_wag (w := 32770) rfl k], mask_wag (w := 32770) rfl k⟩
@[simp] theorem keeperWork_rest (s : State) :
    (keeperWork s).out = s.out ∧ (keeperWork s).freeCtr = s.freeCtr ∧ (keeperWork s).pace = s.pace ∧
    (keeperWork s).sys = s.sys ∧ (keeperWork s).clock = s.clock ∧ (keeperWork s).now = s.now ∧
    (keeperWork s).mon = s.mon ∧ (keeperWork s).power = s.power ∧ (keeperWork s).trust = s.trust ∧
    (∀ i, (keeperWork s).bank i = s.bank i) ∧ (keeperWork s).banks = s.banks ∧ (keeperWork s).window = s.window ∧
    (keeperWork s).faults = s.faults ∧ (keeperWork s).faultBits = s.faultBits ∧
    (keeperWork s).faultReports = s.faultReports ∧ (∀ i, (keeperWork s).hp i = s.hp i) ∧ (keeperWork s).hps = s.hps ∧
    (∀ i j, (keeperWork s).mbx i j = s.mbx i j) ∧ (keeperWork s).mbxs = s.mbxs ∧ (keeperWork s).goOrder = s.goOrder ∧
    (keeperWork s).waiting = s.waiting ∧ (keeperWork s).deviceId = s.deviceId ∧
    (∀ i, (keeperWork s).queue i = s.queue i) ∧ (keeperWork s).queues = s.queues ∧
    (∀ i, (keeperWork s).lane i = s.lane i) ∧ (keeperWork s).lanes = s.lanes ∧ (∀ i, (keeperWork s).link i = s.link i) ∧
    (keeperWork s).links = s.links ∧ (∀ i j, (keeperWork s).pll i j = s.pll i j) ∧ (keeperWork s).plls = s.plls ∧
    (∀ i, (keeperWork s).eth i = s.eth i) ∧ (keeperWork s).eths = s.eths ∧ (keeperWork s).hive = s.hive ∧
    (∀ i, (keeperWork s).ctx i = s.ctx i) ∧ (keeperWork s).ctxs = s.ctxs ∧ (∀ i, (keeperWork s).comb i = s.comb i) ∧
    (keeperWork s).combs = s.combs ∧ (keeperWork s).parts = s.parts ∧ (keeperWork s).stitches = s.stitches ∧
    (keeperWork s).frags = s.frags ∧ (keeperWork s).fragIds = s.fragIds ∧ (keeperWork s).staging = s.staging ∧
    (∀ i, (keeperWork s).asm i = s.asm i) ∧ (keeperWork s).asms = s.asms ∧ (keeperWork s).pgs = s.pgs ∧
    (keeperWork s).pgCounts = s.pgCounts ∧ (keeperWork s).ctxSteer = s.ctxSteer ∧ (keeperWork s).pend = s.pend ∧
    (keeperWork s).flight = s.flight ∧ (∀ i, (keeperWork s).vp i = s.vp i) ∧ (keeperWork s).vps = s.vps ∧
    (∀ i, (keeperWork s).enc i = s.enc i) ∧ (keeperWork s).encs = s.encs ∧ (∀ i, (keeperWork s).emu i = s.emu i) ∧
    (keeperWork s).emus = s.emus ∧ (∀ i, (keeperWork s).pin i = s.pin i) ∧ (keeperWork s).pins = s.pins ∧
    (∀ i, (keeperWork s).chan i = s.chan i) ∧ (∀ i, (keeperWork s).wgInput i = s.wgInput i) ∧
    (∀ i, (keeperWork s).wgGroup i = s.wgGroup i) ∧ (keeperWork s).wag = s.wag := by
  have k := keeperWork_foot (w := 64) (by decide) s
  exact ⟨mask_out (w := 64) rfl k, mask_freeCtr (w := 64) rfl k, mask_pace (w := 64) rfl k, mask_sys (w := 64) rfl k, mask_clock (w := 64) rfl k, by unfold State.now; rw [mask_clock (w := 64) rfl k], mask_mon (w := 64) rfl k, mask_power (w := 64) rfl k, mask_trust (w := 64) rfl k, fun i => by unfold State.bank; rw [mask_banks (w := 64) rfl k], mask_banks (w := 64) rfl k, mask_window (w := 64) rfl k, mask_faults (w := 64) rfl k, mask_faultBits (w := 64) rfl k, mask_faultReports (w := 64) rfl k, fun i => by unfold State.hp; rw [mask_hps (w := 64) rfl k], mask_hps (w := 64) rfl k, fun i j => by unfold State.mbx; rw [mask_mbxs (w := 64) rfl k], mask_mbxs (w := 64) rfl k, mask_goOrder (w := 64) rfl k, mask_waiting (w := 64) rfl k, mask_deviceId (w := 64) rfl k, fun i => by unfold State.queue; rw [mask_queues (w := 64) rfl k], mask_queues (w := 64) rfl k, fun i => by unfold State.lane; rw [mask_lanes (w := 64) rfl k], mask_lanes (w := 64) rfl k, fun i => by unfold State.link; rw [mask_links (w := 64) rfl k], mask_links (w := 64) rfl k, fun i j => by unfold State.pll; rw [mask_plls (w := 64) rfl k], mask_plls (w := 64) rfl k, fun i => by unfold State.eth; rw [mask_eths (w := 64) rfl k], mask_eths (w := 64) rfl k, mask_hive (w := 64) rfl k, fun i => by unfold State.ctx; rw [mask_ctxs (w := 64) rfl k], mask_ctxs (w := 64) rfl k, fun i => by unfold State.comb; rw [mask_combs (w := 64) rfl k], mask_combs (w := 64) rfl k, mask_parts (w := 64) rfl k, mask_stitches (w := 64) rfl k, mask_frags (w := 64) rfl k, mask_fragIds (w := 64) rfl k, mask_staging (w := 64) rfl k, fun i => by unfold State.asm; rw [mask_asms (w := 64) rfl k], mask_asms (w := 64) rfl k, mask_pgs (w := 64) rfl k, mask_pgCounts (w := 64) rfl k, mask_ctxSteer (w := 64) rfl k, mask_pend (w := 64) rfl k, mask_flight (w := 64) rfl k, fun i => by unfold State.vp; rw [mask_vps (w := 64) rfl k], mask_vps (w := 64) rfl k, fun i => by unfold State.enc; rw [mask_encs (w := 64) rfl k], mask_encs (w := 64) rfl k, fun i => by unfold State.emu; rw [mask_emus (w := 64) rfl k], mask_emus (w := 64) rfl k, fun i => by unfold State.pin; rw [mask_pins (w := 64) rfl k], mask_pins (w := 64) rfl k, fun i => by unfold State.chan; rw [mask_wag (w := 64) rfl k], fun i => by unfold State.wgInput; rw [mask_wag (w := 64) rfl k], fun i => by unfold State.wgGroup; rw [mask_wag (w := 64) rfl k], mask_wag (w := 64) rfl k⟩

end Sys2Proof.Machine
end

