-- ==== Sys2Proof/Laws/Reads.lean ====
section
/-! SUPPORT. What the state answers where only the clock, a port's last packet or a link has changed. -/
set_option linter.all false
namespace Sys2Proof.Machine

@[simp] theorem present_advTo (t f : Nat) (s : State) : (advTo t s).present f = s.present f := by simp [State.present]
@[simp] theorem decodes_advTo (t f : Nat) (s : State) : (advTo t s).decodes f = s.decodes f := by simp [State.decodes, State.present]
@[simp] theorem available_advTo (t f : Nat) (s : State) : (advTo t s).available f = s.available f := by simp [State.available, State.present]
@[simp] theorem maxWidth_advTo (t f : Nat) (s : State) : (advTo t s).maxWidth f = s.maxWidth f := by
  unfold State.maxWidth State.merged; simp only [advTo_frame]
@[simp] theorem hp_tlp_self (f : Nat) (s : State) : (tlp f s).hp f = { s.hp f with lastTlp := s.now, pm := .l0 } := by unfold tlp; simp
theorem hp_tlp (f g : Nat) (s : State) : ((tlp f s).hp g) = if g = f then { s.hp f with lastTlp := s.now, pm := .l0 } else s.hp g := by
  unfold tlp; split
  · next h => subst h; simp
  · next h => rw [hp_modHp_ne _ _ _ _ h]
@[simp] theorem tlp_sys (f : Nat) (s : State) : (tlp f s).sys = s.sys := rfl
@[simp] theorem tlp_queue (f q : Nat) (s : State) : (tlp f s).queue q = s.queue q := rfl
@[simp] theorem tlp_queues (f : Nat) (s : State) : (tlp f s).queues = s.queues := rfl
@[simp] theorem tlp_wag (f : Nat) (s : State) : (tlp f s).wag = s.wag := rfl
@[simp] theorem tlp_lq (f g q : Nat) (s : State) : (tlp f s).localQueue g q = s.localQueue g q := rfl
@[simp] theorem tlp_now (f : Nat) (s : State) : (tlp f s).now = s.now := rfl
@[simp] theorem tlp_mbx (f g m : Nat) (s : State) : (tlp f s).mbx g m = s.mbx g m := rfl
theorem lane_of {s t : State} (h : s.lanes = t.lanes) (l : Nat) : s.lane l = t.lane l := by unfold State.lane; rw [h]
theorem link_of {s t : State} (h : s.links = t.links) (l : Nat) : s.link l = t.link l := by unfold State.link; rw [h]
theorem eth_of {s t : State} (h : s.eths = t.eths) (l : Nat) : s.eth l = t.eth l := by unfold State.eth; rw [h]
theorem hp_of {s t : State} (h : s.hps = t.hps) (l : Nat) : s.hp l = t.hp l := by unfold State.hp; rw [h]
theorem enterData_lane (l : Nat) (s : State) : (enterData l s).lane l = { s.lane l with train := .data, dataAt := s.now, fastAt := none, power := .active } := by
  have h : (enterData l s).lanes = (unlockLink l (modLane l (fun v => { v with train := .data, dataAt := s.now, fastAt := none, power := .active }) s)).lanes := by
    unfold enterData; dsimp only; split <;> rfl
  rw [lane_of h]; simp
@[simp] theorem head_advTo (t l : Nat) (s : State) : (advTo t s).head l = s.head l := by simp [State.head]
@[simp] theorem bondLanes_advTo (t l : Nat) (s : State) : (advTo t s).bondLanes l = s.bondLanes l := by simp [State.bondLanes]
@[simp] theorem bonded_advTo (t l : Nat) (s : State) : (advTo t s).bonded l = s.bonded l := by simp [State.bonded]
@[simp] theorem carries_advTo (t l : Nat) (s : State) : (advTo t s).carries l = s.carries l := by simp [State.carries]
@[simp] theorem inData_advTo (t l : Nat) (s : State) : (advTo t s).inData l = s.inData l := by simp [State.inData]
@[simp] theorem asleep_advTo (t l : Nat) (s : State) : (advTo t s).asleep l = s.asleep l := by simp [State.asleep]
@[simp] theorem linkUp_advTo (t l : Nat) (s : State) : (advTo t s).linkUp l = s.linkUp l := by simp [State.linkUp]
@[simp] theorem laneTo_advTo (t l : Nat) (s : State) : (advTo t s).laneTo l = s.laneTo l := by simp [State.laneTo, State.ownerOf]
@[simp] theorem owns_advTo (t f : Nat) (k : Kind) (l : Nat) (s : State) : (advTo t s).owns f k l = s.owns f k l := by simp [State.owns, State.ownerOf]
@[simp] theorem ownerOf_advTo (t : Nat) (k : Kind) (l : Nat) (s : State) : (advTo t s).ownerOf k l = s.ownerOf k l := by simp [State.ownerOf]
theorem cnt_countN_ne (w : Nat) (c : Counts) (i j n : Nat) (h : j ≠ i) : cnt (countN w c i n) j = cnt c j := by
  simp [cnt, countN, Table.getD_put_ne _ _ _ _ _ h]
@[simp] theorem bonded_modLink (l h : Nat) (g : Link → Link) (s : State) : (modLink h g s).bonded l = s.bonded l := by
  unfold State.bonded State.head; simp only [modLink_units]
@[simp] theorem ethUp_advTo (t l : Nat) (s : State) : (advTo t s).ethUp l = s.ethUp l := by simp [State.ethUp]
@[simp] theorem stream_advTo (t l c : Nat) (s : State) : (advTo t s).stream l c = s.stream l c := by simp [State.stream]
@[simp] theorem channelCtx_advTo (t l c : Nat) (s : State) : (advTo t s).channelCtx l c = s.channelCtx l c := by simp [State.channelCtx]

end Sys2Proof.Machine
end

