-- ==== Sys2Proof/Laws/Safe1.lean ====
section
/-! SUPPORT. Every operation keeps the valve ports safe (R256, R258, R513): what a step's invariant is proved from. -/
set_option linter.all false
set_option maxRecDepth 4000
namespace Sys2Proof.Machine

/-- The fields other than the valve ports. -/
theorem valves_keep {s t : State} (e : t.mask 17042430230527 = s.mask 17042430230527) (h : s.ValvesSafe) : t.ValvesSafe := by
  have : t.vps = s.vps := mask_vps (w := 17042430230527) rfl e
  unfold State.ValvesSafe State.vp at *
  rw [this]; exact h
theorem valves_of_vps {s t : State} (e : t.vps = s.vps) (h : s.ValvesSafe) : t.ValvesSafe := by
  unfold State.ValvesSafe State.vp at *
  rw [e]; exact h
theorem ite_valves {c : Prop} [Decidable c] {a b : State} (ha : a.ValvesSafe) (hb : b.ValvesSafe) :
    (if c then a else b).ValvesSafe := by
  split
  · exact ha
  · exact hb
theorem ite_valves3 {α β : Type} {c : Prop} [Decidable c] {a b : α × β × State} (ha : a.2.2.ValvesSafe) (hb : b.2.2.ValvesSafe) :
    (if c then a else b).2.2.ValvesSafe := by
  split
  · exact ha
  · exact hb
theorem foldl_valves {α : Type} (g : State → α → State) (l : List α) {s : State}
    (h : ∀ s x, s.ValvesSafe → (g s x).ValvesSafe) (hs : s.ValvesSafe) : (l.foldl g s).ValvesSafe := by
  induction l generalizing s with
  | nil => exact hs
  | cons x l ih => exact ih (h s x hs)
/-- Every state that an answer holds has safe valve ports. -/
@[irreducible] def Answer.Valves : Answer → Prop
  | .ok s _ | .started s _ | .failWith s _ | .wait s _ => s.ValvesSafe
  | .fail _ => True
/-- The next state of an outcome has safe valve ports. -/
def OutcomeValves : Host.Outcome State Fault Refusal → Prop
  | .next s => s.ValvesSafe
  | _ => True
theorem next_valves {s : State} (h : s.ValvesSafe) : OutcomeValves (.next s) := h
theorem valves_ok {s : State} {p : List Byte} : (Answer.ok s p).Valves ↔ s.ValvesSafe := by unfold Answer.Valves; exact Iff.rfl
theorem valves_started {s : State} {p : List Byte} : (Answer.started s p).Valves ↔ s.ValvesSafe := by unfold Answer.Valves; exact Iff.rfl
theorem valves_failWith {s : State} {e : Fail} : (Answer.failWith s e).Valves ↔ s.ValvesSafe := by unfold Answer.Valves; exact Iff.rfl
theorem valves_wait {s : State} {b : Bool} : (Answer.wait s b).Valves ↔ s.ValvesSafe := by unfold Answer.Valves; exact Iff.rfl
theorem fail_valves {e : Fail} : (Answer.fail e).Valves := by unfold Answer.Valves; trivial
theorem ok_valves {s : State} {p : List Byte} (h : s.ValvesSafe) : (Answer.ok s p).Valves := valves_ok.mpr h
theorem checked_valves {l : List (Bool × Fail)} {a : Unit → Answer} (h : ∀ u, (a u).Valves) : (checked l a).Valves := by
  unfold checked; split
  · exact fail_valves
  · exact h ()
/-- An answer that leaves the ports as they are. -/
theorem answer_valves {s : State} (h : s.ValvesSafe) {a : Answer} (k : a.keeps 17042430230527 (s.mask 17042430230527)) :
    a.Valves := by
  cases a with
  | ok t p => exact valves_ok.mpr (valves_keep (keeps_ok.mp k) h)
  | started t p => exact valves_started.mpr (valves_keep (keeps_started.mp k) h)
  | fail e => exact fail_valves
  | failWith t e => exact valves_failWith.mpr (valves_keep (keeps_failWith.mp k) h)
  | wait t b => exact valves_wait.mpr (valves_keep (keeps_wait.mp k) h)
theorem answered_valves {c : Cmd} {r : Req} {s : State} (h : s.ValvesSafe) (hc : (c.run r s).Valves) : (c.answer r s).Valves := by
  unfold Cmd.answer
  split
  · exact fail_valves
  · revert hc
    cases c.run r s with
    | ok u p => cases (r.checkOnly && !c.reads) <;> intro hc <;> first | exact hc | exact valves_ok.mpr h
    | started u p => cases (r.checkOnly && !c.reads) <;> intro hc <;> first | exact hc | exact valves_ok.mpr h
    | fail e => cases (r.checkOnly && !c.reads) <;> intro hc <;> exact hc
    | failWith u e => cases (r.checkOnly && !c.reads) <;> intro hc <;> first | exact hc | exact fail_valves
    | wait u b => cases b <;> cases (r.checkOnly && !c.reads) <;> intro hc <;> first | exact hc | exact valves_ok.mpr h
theorem conclude_valves {f m : Nat} {s : State} (h : s.ValvesSafe) {a : Answer} (ha : a.Valves) : (conclude f m s a).ValvesSafe := by
  have hn : ∀ f m st d fl p (u : State), u.ValvesSafe → (nextRequest (respond f m st d fl p u)).ValvesSafe := fun f m st d fl p u hu =>
    valves_keep (nextRequest_foot (by decide) _) (valves_keep (respond_foot (by decide) ..) hu)
  cases a with
  | ok t p => exact hn _ _ _ _ _ _ _ (valves_keep (rdRefresh_foot (by decide) _) (valves_ok.mp ha))
  | started t p => exact hn _ _ _ _ _ _ _ (valves_keep (rdRefresh_foot (by decide) _) (valves_started.mp ha))
  | fail e => exact hn _ _ _ _ _ _ _ h
  | failWith t e => exact hn _ _ _ _ _ _ _ (valves_failWith.mp ha)
  | wait t b => exact valves_wait.mp ha
theorem serve_valves {c : Cmd} {f m : Nat} {s : State} (h : s.ValvesSafe)
    (hc : ∀ (r : Req) (s : State), s.ValvesSafe → (c.run r s).Valves) : (serve c f m s).ValvesSafe := by
  unfold serve
  refine ite_valves (ite_valves ?_ (conclude_valves h (answered_valves h (hc _ _ h)))) h
  exact conclude_valves (a := .fail (failSt stBadLength)) h fail_valves
theorem serveWaking_valves {c : Cmd} {p : Req → Bool} {f m : Nat} {s : State} (h : s.ValvesSafe)
    (hc : ∀ (r : Req) (s : State), s.ValvesSafe → (c.run r s).Valves) : (serveWaking c p f m s).ValvesSafe := by
  unfold serveWaking
  exact serve_valves (ite_valves (valves_keep (wakeDevice_foot (by decide) ..) h) h) hc

/-! ### One port -/

theorem Table.find_map {α : Type} (t : Table α) (g : Nat → α → α) (k : Nat) :
    Table.find (t.map fun e => (e.1, g e.1 e.2)) k = (Table.find t k).map (g k) := by
  induction t with
  | nil => rfl
  | cons e t ih =>
    obtain ⟨j, v⟩ := e
    show Table.find ((j, g j v) :: List.map _ t) k = _
    unfold Table.find
    split
    · next hj => subst hj; rfl
    · exact ih
/-- A valve after a map over the valves that are listed. -/
theorem valve_map (p : ValvePort) (g : Nat → Valve → Valve) (b : Nat) (h : g b {} = {}) :
    Table.getD (p.valves.map fun e => (e.1, g e.1 e.2)) b {} = g b (p.valve b) := by
  unfold ValvePort.valve Table.getD
  rw [Table.find_map]
  cases Table.find p.valves b with
  | none => exact h.symm
  | some v => rfl
theorem valve_mod (p : ValvePort) (b c : Nat) (g : Valve → Valve) :
    (p.modValve b g).valve c = if c = b then g (p.valve b) else p.valve c := by
  unfold ValvePort.modValve
  show Table.getD (Table.put p.valves b (g (p.valve b))) c {} = _
  split
  · next hc => subst hc; exact Table.getD_put ..
  · next hc => exact Table.getD_put_ne _ _ _ _ _ hc
/-- A port with the same mode, settings and valves open. -/
theorem safe_of {p q : ValvePort} (h : p.Safe) (hm : q.mode = p.mode) (hf : q.failed = p.failed) (hl : q.lastT = p.lastT)
    (hu : q.unanswered = p.unanswered) (h1 : q.period = p.period) (h2 : q.phase = p.phase)
    (hv : ∀ b, (q.valve b).open' = (p.valve b).open' ∧ (q.valve b).sent = (p.valve b).sent) : q.Safe := by
  unfold ValvePort.Safe at *
  rw [hm, hf, hl, hu, h1, h2]
  refine ⟨fun k b => ?_, h.2⟩
  rw [(hv b).1, (hv b).2]; exact h.1 k b
theorem safe_modValve {p : ValvePort} (h : p.Safe) (b : Nat) (g : Valve → Valve)
    (hg : p.mode = .off ∨ p.mode = .safe → (p.valve b).open' = false ∧ (p.valve b).sent = false →
      (g (p.valve b)).open' = false ∧ (g (p.valve b)).sent = false) : (p.modValve b g).Safe := by
  refine ⟨fun k c => ?_, h.2⟩
  rw [valve_mod]
  split
  · exact hg k (h.1 k b)
  · exact h.1 k c
theorem vp_modVp_at (v w : Nat) (g : ValvePort → ValvePort) (s : State) :
    (modVp v g s).vp w = if w = v then g (s.vp v) else s.vp w := by
  unfold modVp State.vp
  show Table.getD (Table.put s.vps v _) w {} = _
  split
  · next hc => subst hc; exact Table.getD_put ..
  · next hc => exact Table.getD_put_ne _ _ _ _ _ hc
theorem modVp_valves {v : Nat} {g : ValvePort → ValvePort} {s : State} (h : s.ValvesSafe) (hg : (s.vp v).Safe → (g (s.vp v)).Safe) :
    (modVp v g s).ValvesSafe := by
  intro w
  rw [vp_modVp_at]
  split
  · exact hg (h v)
  · exact h w
theorem count_safe {p : ValvePort} {k : VpCnt} (h : p.Safe) : (p.count k).Safe :=
  safe_of h rfl rfl rfl rfl rfl rfl fun _ => ⟨rfl, rfl⟩
/-- A port put into OFF. -/
theorem vpEnter_off_safe {p : ValvePort} (h1 : 20 ≤ p.period) (h2 : p.period ≤ 200) (h3 : p.phase < 100 * p.period) :
    (vpEnter .off p).Safe := by
  refine ⟨fun _ b => ?_, fun _ => rfl, fun _ => ⟨rfl, rfl⟩, h1, h2, h3⟩
  have := valve_map p (fun _ v => { v with open' := false, sent := false }) b rfl
  have e : (vpEnter .off p).valve b = { p.valve b with open' := false, sent := false } := by
    rw [← this]
    unfold vpEnter
    dsimp only
    show Table.getD (List.map _ (List.map _ _)) b ({} : Valve) = _
    rw [List.map_map]
    rfl
  rw [e]
  exact ⟨rfl, rfl⟩

/-! ### Frames -/

/-- What holds of a port that sends while the frame's states are made: it has not failed, and in SAFE nothing is open. -/
def ValvePort.Sending (p : ValvePort) : Prop :=
  p.mode ≠ .off ∧ p.failed = false ∧ (p.mode = .safe → ∀ b, (p.valve b).open' = false)
    ∧ 20 ≤ p.period ∧ p.period ≤ 200 ∧ p.phase < 100 * p.period
/-- Port `v` sends and the others are safe. -/
def State.SendingAt (s : State) (v : Nat) : Prop := (∀ w, w ≠ v → (s.vp w).Safe) ∧ (s.vp v).Sending
theorem sending_of_vps {s t : State} {v : Nat} (e : t.vps = s.vps) (h : s.SendingAt v) : t.SendingAt v := by
  unfold State.SendingAt State.vp at *
  rw [e]; exact h
theorem sending_keep {s t : State} {v : Nat} (e : t.mask 17042430230527 = s.mask 17042430230527) (h : s.SendingAt v) : t.SendingAt v :=
  sending_of_vps (mask_vps (w := 17042430230527) rfl e) h
theorem foldl_sending {α : Type} {v : Nat} (g : State → α → State) (l : List α) {s : State}
    (h : ∀ s x, s.SendingAt v → (g s x).SendingAt v) (hs : s.SendingAt v) : (l.foldl g s).SendingAt v := by
  induction l generalizing s with
  | nil => exact hs
  | cons x l ih => exact ih (h s x hs)
theorem modVp_sending {v : Nat} {g : ValvePort → ValvePort} {s : State} (h : s.SendingAt v)
    (hg : (s.vp v).Sending → (g (s.vp v)).Sending) : (modVp v g s).SendingAt v := by
  refine ⟨fun w hw => ?_, ?_⟩
  · rw [vp_modVp_at, if_neg hw]; exact h.1 w hw
  · rw [vp_modVp_at, if_pos rfl]; exact hg h.2
theorem safe_sending {s : State} {v : Nat} (h : s.ValvesSafe) (hm : (s.vp v).mode ≠ .off) : s.SendingAt v := by
  refine ⟨fun w _ => h w, hm, ?_, fun k b => ((h v).1 (.inr k) b).1, (h v).2.2.2⟩
  cases hf : (s.vp v).failed
  · rfl
  · exact absurd ((h v).2.1 hf) hm
theorem count_sending {p : ValvePort} {k : VpCnt} (h : p.Sending) : (p.count k).Sending := h
theorem modValve_sending {p : ValvePort} (h : p.Sending) (b : Nat) (g : Valve → Valve)
    (hg : p.mode = .safe → (p.valve b).open' = false → (g (p.valve b)).open' = false) : (p.modValve b g).Sending := by
  refine ⟨h.1, h.2.1, fun k c => ?_, h.2.2.2⟩
  rw [valve_mod]
  split
  · exact hg k (h.2.2.1 k b)
  · exact h.2.2.1 k c
/-- All that a valve action at a latch does to the ports: nothing, a count, a close, or an open in RUN or TEST. -/
theorem latchAction_ports (v T slot : Nat) (a : Action) (s : State) :
    (latchAction v T slot a s).vps = s.vps ∨ (∃ k, (latchAction v T slot a s).vps = (modVp v (·.count k) s).vps) ∨
    (∃ b c, (c = true → (s.vp v).mode ≠ .off ∧ (s.vp v).mode ≠ .safe) ∧
      (latchAction v T slot a s).vps = (modVp v (fun p => p.modValve b (fun x => { x with open' := c })) s).vps) := by
  have hmod : ∀ (t : State) g, t.vps = s.vps → (modVp v g t).vps = (modVp v g s).vps := by
    intro t g e; unfold modVp State.vp; rw [e]
  have e1 : (freeAction slot s).vps = s.vps := mask_vps (w := 17042430230527) rfl (freeAction_foot (by decide) ..)
  have e2 : ∀ c l t f (u : State), (schedLate c l t f u).vps = u.vps := fun _ _ _ _ u =>
    mask_vps (w := 17042430230527) rfl (schedLate_foot (by decide) ..)
  have e3 : ∀ c r l t f (u : State), (schedDrop c r l t f u).vps = u.vps := fun _ _ _ _ _ u =>
    mask_vps (w := 17042430230527) rfl (schedDrop_foot (by decide) ..)
  have e4 : ∀ g (u : State), (modFlight g u).vps = u.vps := fun _ u =>
    mask_vps (w := 17042430230527) rfl (modFlight_foot (by decide) ..)
  have e5 : ∀ (c : Prop) [Decidable c] (x y : State), x.vps = y.vps → (if c then x else y).vps = y.vps := by
    intro c _ x y e; split <;> simp [e]
  unfold latchAction
  dsimp only
  split
  · right; right
    refine ⟨_, false, by simp, hmod _ _ ?_⟩
    rw [e4]
    exact (e5 _ _ _ (e2 ..)).trans e1
  · split
    · exact .inr (.inl ⟨_, hmod _ _ e1⟩)
    · exact .inr (.inl ⟨_, hmod _ _ e1⟩)
    · next h1 h2 =>
      split
      · exact .inr (.inl ⟨_, hmod _ _ e1⟩)
      · split
        · exact .inl e1
        · split
          · exact .inl ((e3 ..).trans e1)
          · split
            · exact .inr (.inl ⟨_, hmod _ _ ((e5 _ _ _ (e2 ..)).trans e1)⟩)
            · exact .inr (.inr ⟨_, true, fun _ => ⟨h1, h2⟩, hmod _ _ ((e5 _ _ _ (e2 ..)).trans e1)⟩)
theorem latchAction_valves (v T slot : Nat) (a : Action) (s : State) (h : s.ValvesSafe) : State.ValvesSafe (latchAction v T slot a s) := by
  rcases latchAction_ports v T slot a s with e | ⟨k, e⟩ | ⟨b, c, hc, e⟩
  · exact valves_of_vps e h
  · exact valves_of_vps e (modVp_valves h count_safe)
  · refine valves_of_vps e (modVp_valves h fun hp => safe_modValve hp b _ fun hm hv => ?_)
    cases c
    · exact ⟨rfl, hv.2⟩
    · rcases hm with hm | hm
      · exact absurd hm (hc rfl).1
      · exact absurd hm (hc rfl).2
theorem latchAction_sending (v T slot : Nat) (a : Action) (s : State) (h : s.SendingAt v) : (latchAction v T slot a s).SendingAt v := by
  rcases latchAction_ports v T slot a s with e | ⟨k, e⟩ | ⟨b, c, hc, e⟩
  · exact sending_of_vps e h
  · exact sending_of_vps e (modVp_sending h count_sending)
  · refine sending_of_vps e (modVp_sending h fun hp => modValve_sending hp b _ fun hm _ => ?_)
    cases c
    · rfl
    · exact absurd hm (hc rfl).2
/-- The inhibits released and applied at a latch. -/
theorem release_sending {p : ValvePort} (h : p.Sending) (l : List Nat) :
    (l.foldl (fun p b => p.modValve b (fun x => { x with inhibited := false })) p).Sending := by
  induction l generalizing p with
  | nil => exact h
  | cons b l ih => exact ih (modValve_sending h b _ fun _ k => k)
theorem frame_valves {v T : Nat} {s3 : State} (a3 : s3.SendingAt v) (on : Nat → Bool)
    (hon : (s3.vp v).mode = .safe → ∀ b, on b = false) (o : Out) : State.ValvesSafe (emit o (modVp v (fun p => { p with
      valves := p.valves.map fun e => (e.1, carryValve p T (on e.1) e.2)
      lastT := some T
      sent := ((p.counter, T) :: p.sent).take 4
      unanswered := p.unanswered ++ [(p.counter, T)]
      sinceValid := min 64 (p.sinceValid + 1)
      counter := (p.counter + 1) % 65536 })
    ((s3.vp v).valves.foldl (fun s e => if on e.1 then carryHoney (s3.vp v) (512 * v + e.1) e.2 s else s) s3))) := by
  have a4 := foldl_sending (fun s (e : Nat × Valve) => if on e.1 then carryHoney (s3.vp v) (512 * v + e.1) e.2 s else s) (s3.vp v).valves
    (fun s e hs => by
      split
      · exact sending_keep (carryHoney_foot (by decide) ..) hs
      · exact hs) a3
  have e4 : ∀ (l : List (Nat × Valve)) (u : State),
      (List.foldl (fun s (e : Nat × Valve) => if on e.1 then carryHoney (s3.vp v) (512 * v + e.1) e.2 s else s) u l).vps = u.vps := by
    intro l
    induction l with
    | nil => intro u; rfl
    | cons x l ih =>
      intro u
      rw [List.foldl_cons, ih]
      split
      · exact mask_vps (w := 17042430230527) rfl (carryHoney_foot (by decide) ..)
      · rfl
  have e5 := e4 (s3.vp v).valves s3
  generalize (List.foldl (fun s (e : Nat × Valve) => if on e.1 then carryHoney (s3.vp v) (512 * v + e.1) e.2 s else s) s3 (s3.vp v).valves) = s4 at a4 e5 ⊢
  have e6 : s4.vp v = s3.vp v := by unfold State.vp; rw [e5]
  refine valves_keep (emit_foot (by decide) ..) ?_
  intro w
  rw [vp_modVp_at]
  split
  · obtain ⟨-, hm, hf, ho, hr⟩ := a4
    refine ⟨fun k b => ?_, fun k => ?_, fun k => absurd k hm, hr⟩
    · have hs : (s4.vp v).mode = .safe := k.resolve_left hm
      have e := valve_map (s4.vp v) (fun b x => carryValve (s4.vp v) T (on b) x) b (by
        rw [hon (e6 ▸ hs)]
        rfl)
      have hb : on b = false := hon (e6 ▸ hs) b
      refine ⟨(congrArg Valve.open' e).trans ?_, (congrArg Valve.sent e).trans ?_⟩
      · rw [hb]; exact ho hs b
      · rw [hb]; rfl
    · exact absurd (hf.symm.trans k) (by simp)
  · next hw => exact a4.1 w hw
theorem sendFrame_valves (v T : Nat) (s : State) (h : s.SendingAt v) : State.ValvesSafe (sendFrame v T s) := by
  unfold sendFrame
  dsimp only
  have a1 : (modVp v (fun p =>
      { p.clearing.foldl (fun p b => p.modValve b (fun x => { x with inhibited := false })) p with
        clearing := []
        valves := (p.clearing.foldl (fun p b => p.modValve b (fun x => { x with inhibited := false })) p).valves.map fun e =>
          (e.1, if e.2.inhibited then { e.2 with open' := false } else e.2) }) s).SendingAt v := by
    refine modVp_sending h fun hp => ?_
    have := release_sending hp (s.vp v).clearing
    refine ⟨this.1, this.2.1, fun k b => ?_, this.2.2.2⟩
    have e := valve_map ((s.vp v).clearing.foldl (fun p b => p.modValve b (fun x => { x with inhibited := false })) (s.vp v))
      (fun _ x => if x.inhibited then { x with open' := false } else x) b rfl
    refine (congrArg Valve.open' e).trans ?_
    split
    · rfl
    · exact this.2.2.1 k b
  generalize modVp v _ s = s1 at a1 ⊢
  generalize (List.foldr actInsert [] _) = due
  have a2 := foldl_sending (fun s e => latchAction v T e.1 e.2 s) due (fun s e hs => latchAction_sending v T e.1 e.2 s hs) a1
  generalize (due.foldl (fun s e => latchAction v T e.1 e.2 s) s1) = s2 at a2 ⊢
  generalize subframePulses _ _ _ = n
  have a3 := foldl_sending (fun s (_ : Nat) => modVp v (·.count .subframe) s) (List.range n) (fun s _ hs => modVp_sending hs count_sending) a2
  generalize (List.foldl (fun s (_ : Nat) => modVp v (·.count .subframe) s) s2 (List.range n)) = s3 at a3 ⊢
  exact frame_valves a3 (fun b => ((s3.vp v).mode == .run || (s3.vp v).mode == .test) && ((s3.vp v).valve b).open')
    (fun hm b => by rw [hm]; rfl) _

theorem deliver_valves (key c gen : Nat) (w : WgWork) (e : List TickEnd) (s : State) (h : s.ValvesSafe) : State.ValvesSafe (deliver key c gen w e s).2.2 := by
  have c1 : ∀ k (t : State), t.ValvesSafe → (countInput key k t).ValvesSafe := fun k t ht => valves_keep (countInput_foot (by decide) ..) ht
  have h2 : ∀ g, (countInput key .delivered (modWgInput key g s)).ValvesSafe := fun g =>
    c1 _ _ (valves_keep (modWgInput_foot (by decide) ..) h)
  unfold deliver
  dsimp only
  split
  · exact c1 _ _ h
  · split
    · exact c1 _ _ h
    · generalize hs : countInput key .delivered (modWgInput key _ s) = s1
      have h1 : s1.ValvesSafe := hs ▸ h2 _
      split
      · exact h1
      · exact h1
      · exact valves_keep (sendEvent_foot (by decide) ..) h1
      · exact valves_keep (setEmu_foot (by decide) ..) h1
      · exact valves_keep (modEnc_foot (by decide) ..) h1
      · exact h1
      · dsimp only
        intro v
        have hv := h1 v
        cases hf : Table.find s1.vps (key / 256 % 256) with
        | none => exact hv
        | some p =>
          show (Table.getD (Table.put s1.vps (key / 256 % 256) _) v {}).Safe
          by_cases hk : v = key / 256 % 256
          · subst hk
            rw [Table.getD_put]
            have : s1.vp (key / 256 % 256) = p := by unfold State.vp Table.getD; rw [hf]; rfl
            rw [this] at hv
            exact safe_of hv rfl rfl rfl rfl rfl rfl fun _ => ⟨rfl, rfl⟩
          · rw [Table.getD_put_ne _ _ _ _ _ hk]; exact hv
      · exact h1
theorem deliverAll_valves (c gen : Nat) (l : List Nat) (w : WgWork) (e : List TickEnd) (s : State) (h : s.ValvesSafe) :
    State.ValvesSafe (deliverAll c gen l w e s).2.2 := by
  induction l generalizing w e s with
  | nil => exact h
  | cons k r ih => exact ih _ _ _ (deliver_valves _ _ _ _ _ _ h)
theorem fireChan_valves (c : Nat) (gen : Nat) (a2 : WgWork) (e : List TickEnd) (s : State) (h : s.ValvesSafe) : State.ValvesSafe (fireChan c gen a2 e s).2.2 := by
  unfold fireChan
  repeat' (first | with_reducible exact h | assumption | with_reducible refine valves_keep (countChan_foot (w := 17042430230527) (by decide) ..) ?_ | with_reducible refine valves_keep (modChan_foot (w := 17042430230527) (by decide) ..) ?_ | with_reducible apply deliverAll_valves | with_reducible refine valves_keep (wgSend_foot (w := 17042430230527) (by decide) ..) ?_ | with_reducible refine ite_valves ?_ ?_ | with_reducible refine foldl_valves _ _ (fun _ _ _ => ?_) ?_ | with_reducible refine next_valves ?_ | with_reducible refine checked_valves (fun _ => ?_) | with_reducible refine ok_valves ?_ | dsimp only | split)
theorem occur_valves (c gen : Nat) (w : WgWork) (e : List TickEnd) (s : State) (h : s.ValvesSafe) :
    State.ValvesSafe (occur c gen w e s).2.2 := by
  have hm : ∀ g (t : State), t.ValvesSafe → (modChan c g t).ValvesSafe := fun g t ht => valves_keep (modChan_foot (by decide) ..) ht
  have hl : ∀ a b d (t : State), t.ValvesSafe → (wgLimit c a b d t).ValvesSafe := fun a b d t ht =>
    valves_keep (wgLimit_foot (by decide) ..) ht
  unfold occur
  dsimp only
  split
  · exact hl _ _ _ _ (hm _ _ h)
  · split
    · exact h
    · generalize hs1 : modChan c _ s = s1
      have h1 : s1.ValvesSafe := hs1 ▸ hm _ _ h
      split
      · exact h1
      · generalize hs2 : modChan c _ s1 = s2
        have h2 : s2.ValvesSafe := hs2 ▸ hm _ _ h1
        split
        · exact h2
        · refine ite_valves3 (hl _ _ _ _ h2) ?_
          generalize hs3 : modChan c _ s2 = s3
          have h3 : s3.ValvesSafe := hs3 ▸ hm _ _ h2
          exact ite_valves3 (fireChan_valves _ _ _ _ _ h3) (hm _ _ h3)
theorem propagate_valves (n : Nat) (w : WgWork) (e : List TickEnd) (s : State) (h : s.ValvesSafe) : State.ValvesSafe (propagate n w e s).2 := by
  induction n generalizing w e s with
  | zero => exact h
  | succ n ih =>
    cases w with
    | nil => exact h
    | cons x r => exact ih _ _ _ (occur_valves _ _ _ _ _ h)
theorem originate_valves (cs : List Nat) (merged : Bool) (s : State) (h : s.ValvesSafe) : State.ValvesSafe (originate cs merged s) := by
  unfold originate
  repeat' (first | with_reducible exact h | assumption | with_reducible apply propagate_valves | with_reducible refine valves_keep (endTick_foot (w := 17042430230527) (by decide) ..) ?_ | with_reducible refine valves_keep (mask_set_8796093022208 (w := 17042430230527) (by decide) ..) ?_ | with_reducible refine ite_valves ?_ ?_ | with_reducible refine foldl_valves _ _ (fun _ _ _ => ?_) ?_ | with_reducible refine next_valves ?_ | with_reducible refine checked_valves (fun _ => ?_) | with_reducible refine ok_valves ?_ | dsimp only | split)
theorem actEffect_valves (a : Action) (s : State) (h : s.ValvesSafe) : State.ValvesSafe (actEffect a s).2 := by
  unfold actEffect
  repeat' (first | with_reducible exact h | assumption | with_reducible refine valves_keep (sendEvent_foot (w := 17042430230527) (by decide) ..) ?_ | with_reducible refine valves_keep (freeAction_foot (w := 17042430230527) (by decide) ..) ?_ | with_reducible refine valves_keep (setPin_foot (w := 17042430230527) (by decide) ..) ?_ | with_reducible apply originate_valves | with_reducible refine valves_keep (launchFrame_foot (w := 17042430230527) (by decide) ..) ?_ | with_reducible refine ite_valves ?_ ?_ | with_reducible refine foldl_valves _ _ (fun _ _ _ => ?_) ?_ | with_reducible refine next_valves ?_ | with_reducible refine checked_valves (fun _ => ?_) | with_reducible refine ok_valves ?_ | dsimp only | split)

theorem cmdVpConfigure_valves (r : Req) (s : State) (h : s.ValvesSafe) : (cmdVpConfigure.run r s).Valves := by
  simp only [cmdVpConfigure]
  unfold checked
  split
  · exact fail_valves
  · next hf =>
    have hh : (20 ≤ r.u32 4 ∧ r.u32 4 ≤ 200) ∧ r.u32 8 < 100 * r.u32 4 := by
      unfold firstFail at hf
      split at hf
      · unfold firstFail at hf
        split at hf
        · unfold firstFail at hf
          split at hf
          · next h4 =>
            unfold firstFail at hf
            split at hf
            · next h8 => exact ⟨of_decide_eq_true h4, of_decide_eq_true h8⟩
            · exact absurd hf (by simp)
          · exact absurd hf (by simp)
        · exact absurd hf (by simp)
      · exact absurd hf (by simp)
    refine ok_valves (modVp_valves h fun hp => ?_)
    exact ⟨hp.1, hp.2.1, hp.2.2.1, hh.1.1, hh.1.2, hh.2⟩
theorem cmdVpSetMode_valves (r : Req) (s : State) (h : s.ValvesSafe) : (cmdVpSetMode.run r s).Valves := by
  simp only [cmdVpSetMode]
  exact checked_valves fun _ => ok_valves (modVp_valves h fun hp => safe_of hp rfl rfl rfl rfl rfl rfl fun _ => ⟨rfl, rfl⟩)
theorem cleared_safe {p : ValvePort} (h : p.Safe) (l : List Nat) :
    (l.foldl (fun p b => p.modValve b (fun x => { x with counts := [], onNs := 0 })) p).Safe := by
  induction l generalizing p with
  | nil => exact h
  | cons b l ih => exact ih (safe_modValve h b _ fun _ k => k)
theorem cmdVpGetStatus_valves (r : Req) (s : State) (h : s.ValvesSafe) : (cmdVpGetStatus.run r s).Valves := by
  simp only [cmdVpGetStatus]
  refine checked_valves fun _ => ok_valves (ite_valves (modVp_valves h fun hp => ?_) h)
  exact cleared_safe (p := { s.vp (r.u32 0) with counts := [] }) (safe_of hp rfl rfl rfl rfl rfl rfl fun _ => ⟨rfl, rfl⟩) _
theorem cmdVpClearFault_valves (r : Req) (s : State) (h : s.ValvesSafe) : (cmdVpClearFault.run r s).Valves := by
  simp only [cmdVpClearFault]
  exact checked_valves fun _ => ok_valves (modVp_valves h fun hp => safe_of hp rfl rfl rfl rfl rfl rfl fun _ => ⟨rfl, rfl⟩)
theorem runAction_valves (slot : Nat) (a : Action) (s : State) (h : s.ValvesSafe) : State.ValvesSafe (runAction slot a s) := by
  unfold runAction
  repeat' (first | with_reducible exact h | assumption | with_reducible refine valves_keep (freeAction_foot (w := 17042430230527) (by decide) ..) ?_ | with_reducible refine valves_keep (schedDrop_foot (w := 17042430230527) (by decide) ..) ?_ | with_reducible apply actEffect_valves | with_reducible refine valves_keep (schedLate_foot (w := 17042430230527) (by decide) ..) ?_ | with_reducible refine ite_valves ?_ ?_ | with_reducible refine foldl_valves _ _ (fun _ _ _ => ?_) ?_ | with_reducible refine next_valves ?_ | with_reducible refine checked_valves (fun _ => ?_) | with_reducible refine ok_valves ?_ | dsimp only | split)
theorem judgeAction_valves (s : State) (n : Nat) (h : s.ValvesSafe) : State.ValvesSafe (judgeAction s n) := by
  unfold judgeAction
  repeat' (first | with_reducible exact h | assumption | with_reducible apply runAction_valves | with_reducible refine ite_valves ?_ ?_ | with_reducible refine foldl_valves _ _ (fun _ _ _ => ?_) ?_ | with_reducible refine next_valves ?_ | with_reducible refine checked_valves (fun _ => ?_) | with_reducible refine ok_valves ?_ | dsimp only | split)
theorem schedPlace_valves (r : Req) (s : State) (h : s.ValvesSafe) : (schedPlace r s).Valves := by
  unfold schedPlace
  refine ok_valves (foldl_valves _ _ (fun s n hs => judgeAction_valves _ _ hs) ?_)
  have : ∀ (l : List Nat) (x : List Nat × State), x.2.ValvesSafe → (l.foldl (placeNext r) x).2.ValvesSafe := by
    intro l
    induction l with
    | nil => exact fun _ hx => hx
    | cons o l ih => exact fun x hx => ih _ (valves_keep (placeAction_foot (by decide) ..) hx)
  exact this _ _ h
theorem cmdSchedAdd_valves (op : Nat) (r : Req) (s : State) (h : s.ValvesSafe) : ((cmdSchedAdd op).run r s).Valves := by
  unfold cmdSchedAdd
  with_reducible exact checked_valves fun _ => schedPlace_valves r s h
theorem remoteCmds_valves (s0 : State) : ∀ x ∈ remoteCmds s0, ∀ (r : Req) (s : State), s.ValvesSafe → (x.run r s).Valves := by
  unfold remoteCmds
  dsimp only
  simp only [List.forall_mem_append, List.forall_mem_cons, List.not_mem_nil, false_imp_iff, implies_true, and_true, and_assoc]
  refine ⟨fun r s h => answer_valves h (cmdCorrSetNoise_foot (by decide) r s rfl),
    fun r s h => answer_valves h (cmdCorrSetTemporal_foot (by decide) r s rfl),
    fun r s h => answer_valves h (cmdCorrSetSpatial_foot (by decide) r s rfl),
    fun r s h => answer_valves h (cmdCorrSetBlack_foot (by decide) r s rfl),
    fun r s h => answer_valves h (cmdCorrSetRegistration_foot (by decide) r s rfl),
    fun r s h => answer_valves h (cmdCorrSetEnable_foot (by decide) r s rfl),
    fun r s h => answer_valves h (cmdCorrLoadTable_foot (by decide) r s rfl),
    fun r s h => answer_valves h (cmdSegLoadBackground_foot (by decide) r s rfl),
    fun r s h => answer_valves h (cmdSegSetBackground_foot (by decide) r s rfl),
    fun r s h => answer_valves h (cmdSegSetThreshold_foot (by decide) r s rfl),
    fun r s h => answer_valves h (cmdSegSetMorph_foot (by decide) r s rfl),
    fun r s h => answer_valves h (cmdSegCaptureBackground_foot (by decide) r s rfl),
    fun r s h => answer_valves h (cmdCellSetFormat_foot (by decide) r s rfl),
    fun r s h => answer_valves h (cmdStitchConfigure_foot (by decide) r s rfl),
    fun r s h => answer_valves h (cmdCtxCreate_foot (by decide) r s rfl),
    fun r s h => answer_valves h (cmdCtxSet_foot (by decide) r s rfl),
    fun r s h => answer_valves h (cmdCtxAssign_foot (by decide) r s rfl),
    fun r s h => answer_valves h (cmdCtxStart_foot (by decide) r s rfl),
    fun r s h => answer_valves h (cmdCtxStop_foot (by decide) r s rfl),
    fun r s h => answer_valves h (cmdCtxRelease_foot (by decide) r s rfl),
    fun r s h => answer_valves h (cmdCtxDestroy_foot (by decide) r s rfl),
    fun r s h => answer_valves h (cmdCtxGetStatus_foot (by decide) r s rfl),
    fun r s h => answer_valves h (cmdIntakeSetPartition_foot (by decide) r s rfl),
    fun r s h => answer_valves h (cmdCombSetSpare_foot (by decide) r s rfl),
    fun r s h => answer_valves h (cmdCombGetStatus_foot (by decide) r s rfl),
    fun r s h => answer_valves h (cmdDevGetInfo_foot (by decide) r s rfl),
    fun r s h => answer_valves h (cmdDevGetPortStatus_foot (by decide) r s rfl),
    fun r s h => answer_valves h (cmdDevAssign_foot (by decide) r s rfl),
    fun r s h => answer_valves h (cmdDevGetOwner_foot (by decide) r s rfl),
    fun r s h => answer_valves h (cmdDiagPrbs_foot (by decide) r s rfl),
    fun r s h => answer_valves h (cmdDiagBankRead_foot (by decide) r s rfl),
    fun r s h => answer_valves h (cmdDiagInject_foot (by decide) r s rfl),
    fun r s h => answer_valves h (cmdHiveGetStatus_foot (by decide) r s rfl),
    fun r s h => answer_valves h (cmdHiveListDevices_foot (by decide) r s rfl),
    fun r s h => answer_valves h (cmdHiveSetPolicy_foot (by decide) r s rfl),
    fun r s h => answer_valves h (cmdHiveResetDevice_foot (by decide) r s rfl),
    fun r s h => answer_valves h (cmdFwDistribute_foot (by decide) r s rfl),
    fun r s h => answer_valves h (cmdEncConfigure_foot (by decide) r s rfl),
    fun r s h => answer_valves h (cmdEncSetCount_foot (by decide) r s rfl),
    fun r s h => answer_valves h (cmdEncGetStatus_foot (by decide) r s rfl),
    fun r s h => answer_valves h (cmdEmuConfigure_foot (by decide) r s rfl),
    fun r s h => answer_valves h (cmdGpioConfigure_foot (by decide) r s rfl),
    fun r s h => answer_valves h (cmdGpioWrite_foot (by decide) r s rfl),
    fun r s h => answer_valves h (cmdGpioGetStatus_foot (by decide) r s rfl),
    fun r s h => answer_valves h (cmdLaneConfigure_foot (by decide) r s rfl),
    fun r s h => answer_valves h (cmdLaneGetStatus_foot (by decide) r s rfl),
    fun r s h => answer_valves h (cmdLaneSetPower_foot (by decide) r s rfl),
    fun r s h => answer_valves h (cmdPgConfigure_foot (by decide) r s rfl),
    fun r s h => answer_valves h (cmdPgSetRow_foot (by decide) r s rfl),
    fun r s h => answer_valves h (cmdPgLoadRules_foot (by decide) r s rfl),
    fun r s h => answer_valves h (cmdPgSetSteering_foot (by decide) r s rfl),
    fun r s h => answer_valves h (cmdPgGetStatus_foot (by decide) r s rfl),
    fun r s h => answer_valves h (cmdPwrSetState_foot (by decide) r s rfl),
    fun r s h => answer_valves h (cmdPwrGetStatus_foot (by decide) r s rfl),
    fun r s h => answer_valves h (cmdDevReset_foot (by decide) r s rfl),
    fun r s h => answer_valves h (cmdQPartition_foot (by decide) r s rfl),
    fun r s h => answer_valves h (cmdQCreate_foot (by decide) r s rfl),
    fun r s h => answer_valves h (cmdQEnable_foot (by decide) r s rfl),
    fun r s h => answer_valves h (cmdQDisable_foot (by decide) r s rfl),
    fun r s h => answer_valves h (cmdQReset_foot (by decide) r s rfl),
    fun r s h => answer_valves h (cmdQDestroy_foot (by decide) r s rfl),
    fun r s h => answer_valves h (cmdQSetNotify_foot (by decide) r s rfl),
    fun r s h => answer_valves h (cmdQGetStatus_foot (by decide) r s rfl),
    fun r s h => answer_valves h (cmdHoneyRead_foot (by decide) r s rfl),
    fun r s h => answer_valves h (cmdHoneyReset_foot (by decide) r s rfl),
    fun r s h => answer_valves h (cmdHealthGetSensors_foot (by decide) r s rfl),
    fun r s h => answer_valves h (cmdCalRead_foot (by decide) r s rfl),
    fun r s h => answer_valves h (cmdCalWrite_foot (by decide) r s rfl),
    fun r s h => answer_valves h (cmdTrustSpdm_foot (by decide) r s rfl),
    fun r s h => answer_valves h (cmdTimeGetStatus_foot (by decide) r s rfl),
    fun r s h => answer_valves h (cmdTimeSetSource_foot (by decide) r s rfl),
    fun r s h => answer_valves h (cmdTimeSetExtOffset_foot (by decide) r s rfl),
    fun r s h => answer_valves h (cmdTimeSetPps_foot (by decide) r s rfl),
    fun r s h => answer_valves h (cmdFwGetStatus_foot (by decide) r s rfl),
    fun r s h => answer_valves h (cmdFwWrite_foot (by decide) r s rfl),
    fun r s h => answer_valves h (cmdFwActivate_foot (by decide) r s rfl),
    fun r s h => answer_valves h (cmdPwrSetBootOptions_foot (by decide) r s rfl),
    fun r s h => answer_valves h (cmdTrustGetCert_foot (by decide) r s rfl),
    fun r s h => answer_valves h (cmdTrustChallenge_foot (by decide) r s rfl),
    fun r s h => answer_valves h (cmdDebugUnlock_foot (by decide) r s rfl),
    fun r s h => cmdVpConfigure_valves r s h,
    fun r s h => cmdVpSetMode_valves r s h,
    fun r s h => answer_valves h (cmdVpTestFire_foot (by decide) r s rfl),
    fun r s h => cmdVpGetStatus_valves r s h,
    fun r s h => cmdVpClearFault_valves r s h,
    fun r s h => answer_valves h (cmdWgConfigure_foot (by decide) r s rfl),
    fun r s h => answer_valves h (cmdWgConnect_foot (by decide) r s rfl),
    fun r s h => answer_valves h (cmdWgSetGroup_foot (by decide) r s rfl),
    fun r s h => answer_valves h (cmdWgExport_foot (by decide) r s rfl),
    fun r s h => answer_valves h (cmdWgGetStatus_foot (by decide) r s rfl),
    fun r s h => answer_valves h (cmdLaneEyeScan_foot (by decide) _ _ _ r s rfl),
    fun r s h => answer_valves h (cmdFwCommitSvn_foot (by decide) _ r s rfl),
    fun r s h => answer_valves h (cmdTrustSetOwnerPolicy_foot (by decide) _ r s rfl),
    fun r s h => answer_valves h (cmdLogRead_foot (by decide) _ r s rfl),
    fun r s h => cmdSchedAdd_valves _ r s h,
    fun r s h => answer_valves h (cmdSchedCancel_foot (by decide) _ r s rfl),
    fun r s h => answer_valves h (cmdSchedGetStatus_foot (by decide) _ r s rfl),
    fun r s h => answer_valves h (cmdCompatGetInfo_foot (by decide) r s rfl)⟩

theorem remoteRun_valves (c : RemoteCall) (s : State) (h : s.ValvesSafe) : (remoteRun c s).Valves := by
  unfold remoteRun
  split
  · exact fail_valves
  · cases hk : remoteCmd c.op s with
    | none => exact fail_valves
    | some k =>
      refine answered_valves (valves_keep (bumpFree_foot (by decide) ..) (ite_valves (valves_keep (wakeDevice_foot (by decide) ..) h) h))
        (remoteCmds_valves s k (List.mem_of_find?_eq_some hk) _ _
          (valves_keep (bumpFree_foot (by decide) ..) (ite_valves (valves_keep (wakeDevice_foot (by decide) ..) h) h)))
theorem remoteConclude_valves (c : RemoteCall) (s : State) (a : Answer) (h : s.ValvesSafe) (ha : a.Valves) :
    (remoteConclude c s a).ValvesSafe := by
  have hn : ∀ st d fl p (u : State), u.ValvesSafe → (nextRequest (remoteAnswer c st d fl p u)).ValvesSafe := fun st d fl p u hu =>
    valves_keep (nextRequest_foot (by decide) _) (valves_keep (remoteAnswer_foot (by decide) ..) hu)
  cases a with
  | ok t p => exact hn _ _ _ _ _ (valves_keep (rdRefresh_foot (by decide) _) (valves_ok.mp ha))
  | started t p => exact hn _ _ _ _ _ (valves_keep (rdRefresh_foot (by decide) _) (valves_started.mp ha))
  | fail e => exact hn _ _ _ _ _ h
  | failWith t e => exact hn _ _ _ _ _ (valves_failWith.mp ha)
  | wait t b => exact valves_keep (modHive_foot (by decide) _ _) (valves_wait.mp ha)
theorem remoteServe_valves (c : RemoteCall) (s : State) (h : s.ValvesSafe) : State.ValvesSafe (remoteServe c s) :=
  remoteConclude_valves _ _ _ h (remoteRun_valves _ _ h)
theorem remoteReq_valves (src fn : Nat) (request : List Byte) (s : State) (h : s.ValvesSafe) :
    State.ValvesSafe (remoteReq src fn request s) := by
  unfold remoteReq
  exact ite_valves h (ite_valves (remoteServe_valves _ _ h) (remoteConclude_valves _ _ _ h fail_valves))

end Sys2Proof.Machine
end

