-- ==== Sys2Proof/Laws/Safe2.lean ====
section
/-! SUPPORT. Commands and events keep the valve ports safe (R256, R258, R513). -/
set_option linter.all false
set_option maxRecDepth 4000
namespace Sys2Proof.Machine

theorem hmsgDeliver_valves (a0 : Nat) (a1 : HMsg) (s : State) (h : s.ValvesSafe) : State.ValvesSafe (hmsgDeliver a0 a1 s) := by
  unfold hmsgDeliver
  repeat' (first | with_reducible exact h | assumption | with_reducible refine valves_keep (joinMsg_foot (w := 17042430230527) (by decide) ..) ?_ | with_reducible refine valves_keep (wgImport_foot (w := 17042430230527) (by decide) ..) ?_ | with_reducible refine valves_keep (ejectPulses_foot (w := 17042430230527) (by decide) ..) ?_ | with_reducible refine valves_keep (ejectDecision_foot (w := 17042430230527) (by decide) ..) ?_ | with_reducible refine valves_keep (cellServerMsg_foot (w := 17042430230527) (by decide) ..) ?_ | with_reducible refine valves_keep (alive_foot (w := 17042430230527) (by decide) ..) ?_ | with_reducible refine valves_keep (reroute_foot (w := 17042430230527) (by decide) ..) ?_ | with_reducible refine valves_keep (extOffsetMsg_foot (w := 17042430230527) (by decide) ..) ?_ | with_reducible refine valves_keep (announced_foot (w := 17042430230527) (by decide) ..) ?_ | with_reducible apply remoteReq_valves | with_reducible refine valves_keep (remoteResp_foot (w := 17042430230527) (by decide) ..) ?_ | with_reducible refine valves_keep (hiveReset_foot (w := 17042430230527) (by decide) ..) ?_ | with_reducible refine valves_keep (mirror_foot (w := 17042430230527) (by decide) ..) ?_ | with_reducible refine valves_keep (faultSummary_foot (w := 17042430230527) (by decide) ..) ?_ | with_reducible refine valves_keep (honeySummary_foot (w := 17042430230527) (by decide) ..) ?_ | with_reducible refine valves_keep (updateResult_foot (w := 17042430230527) (by decide) ..) ?_ | with_reducible refine valves_keep (updateRx_foot (w := 17042430230527) (by decide) ..) ?_ | with_reducible refine ite_valves ?_ ?_ | with_reducible refine foldl_valves _ _ (fun _ _ _ => ?_) ?_ | with_reducible refine next_valves ?_ | with_reducible refine checked_valves (fun _ => ?_) | with_reducible refine ok_valves ?_ | dsimp only | split)
theorem arrive_valves (a0 : Nat) (a1 : HMsg) (s : State) (h : s.ValvesSafe) : State.ValvesSafe (arrive a0 a1 s) := by
  unfold arrive
  repeat' (first | with_reducible exact h | assumption | with_reducible apply hmsgDeliver_valves | with_reducible refine valves_keep (keeperWork_foot (w := 17042430230527) (by decide) ..) ?_ | with_reducible refine valves_keep (vc3Hold_foot (w := 17042430230527) (by decide) ..) ?_ | with_reducible refine ite_valves ?_ ?_ | with_reducible refine foldl_valves _ _ (fun _ _ _ => ?_) ?_ | with_reducible refine next_valves ?_ | with_reducible refine checked_valves (fun _ => ?_) | with_reducible refine ok_valves ?_ | dsimp only | split)
theorem wgFire_valves (f : Nat) (cs : List Nat) (s : State) (h : s.ValvesSafe) : State.ValvesSafe (wgFire f cs s) := by
  unfold wgFire
  repeat' (first | with_reducible exact h | assumption | with_reducible refine valves_keep (countHp_foot (w := 17042430230527) (by decide) ..) ?_ | with_reducible apply originate_valves | with_reducible refine ite_valves ?_ ?_ | with_reducible refine foldl_valves _ _ (fun _ _ _ => ?_) ?_ | with_reducible refine next_valves ?_ | with_reducible refine checked_valves (fun _ => ?_) | with_reducible refine ok_valves ?_ | dsimp only | split)
theorem bar0Write_valves (f : Nat) (off : Nat) (d : List (Option Byte)) (s : State) (h : s.ValvesSafe) : State.ValvesSafe (bar0Write f off d s) := by
  unfold bar0Write
  repeat' (first | with_reducible exact h | assumption | with_reducible refine valves_keep (hbWrite_foot (w := 17042430230527) (by decide) ..) ?_ | with_reducible refine valves_keep (mbxWrite_foot (w := 17042430230527) (by decide) ..) ?_ | with_reducible apply wgFire_valves | with_reducible refine valves_keep (winWrite_foot (w := 17042430230527) (by decide) ..) ?_ | with_reducible refine ite_valves ?_ ?_ | with_reducible refine foldl_valves _ _ (fun _ _ _ => ?_) ?_ | with_reducible refine next_valves ?_ | with_reducible refine checked_valves (fun _ => ?_) | with_reducible refine ok_valves ?_ | dsimp only | split)
theorem hiveRemote_valves (r : Req) (s : State) (h : s.ValvesSafe) : (hiveRemote r s).Valves := by
  unfold hiveRemote
  refine checked_valves fun _ => ?_
  split
  · exact valves_wait.mpr (ite_valves (remoteServe_valves _ _ h) (remoteConclude_valves _ _ _ h fail_valves))
  · dsimp only
    split
    · exact valves_wait.mpr <| valves_of_vps (s := (hsend 5 4 0 (r.u32 0) (b8 r.fn ++ r.body.drop 8) s).2) rfl (valves_keep (hsend_foot (by decide) ..) h)
    · exact fail_valves
theorem cmdHiveRemote_valves (r : Req) (s : State) (h : s.ValvesSafe) : ((cmdHiveRemote).run r s).Valves := by
  simp only [cmdHiveRemote]
  repeat' (first | with_reducible exact h | assumption | with_reducible apply hiveRemote_valves | with_reducible refine ite_valves ?_ ?_ | with_reducible refine foldl_valves _ _ (fun _ _ _ => ?_) ?_ | with_reducible refine next_valves ?_ | with_reducible refine checked_valves (fun _ => ?_) | with_reducible refine ok_valves ?_ | dsimp only | split)
theorem takeVc3_valves (s : State) (h : s.ValvesSafe) : State.ValvesSafe (takeVc3 s) := by
  unfold takeVc3
  repeat' (first | with_reducible exact h | assumption | with_reducible apply hmsgDeliver_valves | with_reducible refine valves_keep (keeperWork_foot (w := 17042430230527) (by decide) ..) ?_ | with_reducible refine valves_keep (vc3Settle_foot (w := 17042430230527) (by decide) ..) ?_ | with_reducible refine valves_keep (modHive_foot (w := 17042430230527) (by decide) ..) ?_ | with_reducible refine ite_valves ?_ ?_ | with_reducible refine foldl_valves _ _ (fun _ _ _ => ?_) ?_ | with_reducible refine next_valves ?_ | with_reducible refine checked_valves (fun _ => ?_) | with_reducible refine ok_valves ?_ | dsimp only | split)
theorem drainVc3_valves (n : Nat) (s : State) (h : s.ValvesSafe) : State.ValvesSafe (drainVc3 n s) := by
  induction n generalizing s with
  | zero => exact h
  | succ n ih => exact ite_valves h (ih _ (takeVc3_valves _ h))
theorem registerWrite_valves (f : Nat) (bar : Nat) (off : Nat) (d : List (Option Byte)) (s : State) (h : s.ValvesSafe) : State.ValvesSafe (registerWrite f bar off d s) := by
  unfold registerWrite
  repeat' (first | with_reducible exact h | assumption | with_reducible refine valves_keep (peerWrite_foot (w := 17042430230527) (by decide) ..) ?_ | with_reducible refine valves_keep (apertureWrite_foot (w := 17042430230527) (by decide) ..) ?_ | with_reducible refine valves_keep (countHp_foot (w := 17042430230527) (by decide) ..) ?_ | with_reducible refine valves_keep (tlp_foot (w := 17042430230527) (by decide) ..) ?_ | with_reducible refine valves_keep (barLost_foot (w := 17042430230527) (by decide) ..) ?_ | with_reducible apply bar0Write_valves | with_reducible refine valves_keep (doorbellBlock_foot (w := 17042430230527) (by decide) ..) ?_ | with_reducible refine ite_valves ?_ ?_ | with_reducible refine foldl_valves _ _ (fun _ _ _ => ?_) ?_ | with_reducible refine next_valves ?_ | with_reducible refine checked_valves (fun _ => ?_) | with_reducible refine ok_valves ?_ | dsimp only | split)
theorem execRegisterWrite_valves (f : Fn) (bar : Fin 5) (off : Nat) (data : List (Option Byte)) (s : State) (h : s.ValvesSafe) : OutcomeValves (execRegisterWrite f bar off data s) := by
  unfold execRegisterWrite
  repeat' (first | with_reducible exact h | assumption | with_reducible apply registerWrite_valves | with_reducible refine ite_valves ?_ ?_ | with_reducible refine foldl_valves _ _ (fun _ _ _ => ?_) ?_ | with_reducible refine next_valves ?_ | with_reducible refine checked_valves (fun _ => ?_) | with_reducible refine ok_valves ?_ | dsimp only | split)
theorem execWgFireWrite_valves (f : Fn) (r : Fin 8) (bits : BitVec 64) (wide : Bool) (t : Nat) (s : State) (h : s.ValvesSafe) : OutcomeValves (execWgFireWrite f r bits wide t s) := by
  unfold execWgFireWrite
  repeat' (first | with_reducible exact h | assumption | with_reducible refine valves_keep (advTo_foot (w := 17042430230527) (by decide) ..) ?_ | with_reducible apply wgFire_valves | with_reducible refine valves_keep (tlp_foot (w := 17042430230527) (by decide) ..) ?_ | with_reducible refine valves_keep (barLost_foot (w := 17042430230527) (by decide) ..) ?_ | with_reducible refine ite_valves ?_ ?_ | with_reducible refine foldl_valves _ _ (fun _ _ _ => ?_) ?_ | with_reducible refine next_valves ?_ | with_reducible refine checked_valves (fun _ => ?_) | with_reducible refine ok_valves ?_ | dsimp only | split)
theorem hmsgArrive_valves (a0 : Nat) (a1 : HMsg) (s : State) (h : s.ValvesSafe) : State.ValvesSafe (hmsgArrive a0 a1 s) := by
  unfold hmsgArrive
  repeat' (first | with_reducible exact h | assumption | with_reducible refine valves_keep (hmsgDrop_foot (w := 17042430230527) (by decide) ..) ?_ | with_reducible apply arrive_valves | with_reducible refine valves_keep (hroute_foot (w := 17042430230527) (by decide) ..) ?_ | with_reducible refine ite_valves ?_ ?_ | with_reducible refine foldl_valves _ _ (fun _ _ _ => ?_) ?_ | with_reducible refine next_valves ?_ | with_reducible refine checked_valves (fun _ => ?_) | with_reducible refine ok_valves ?_ | dsimp only | split)
theorem packetBody_valves (a0 : Nat) (hd payload : List Byte) (s : State) (h : s.ValvesSafe) : State.ValvesSafe (packetBody a0 hd payload s) := by
  unfold packetBody
  refine ite_valves (valves_keep (lineReceived_foot (by decide) ..) h) (ite_valves ?_ (ite_valves (valves_keep (cctlIn_foot (by decide) ..) h)
    (ite_valves (valves_keep (testReceived_foot (by decide) ..) h) (ite_valves (ite_valves (valves_keep (hmsgDrop_foot (by decide) ..) h)
    (hmsgArrive_valves _ _ _ h)) (ite_valves (valves_keep (forwardCell_foot (by decide) ..) h) ?_)))))
  · split <;> first | exact h | exact valves_keep (fmarkReceived_foot (by decide) ..) h
  · cases s.passthruOn a0 with
    | none => exact h
    | some c => exact valves_keep (cellFragment_foot (by decide) _ _ _ _ _ _ rfl fun s => rfl) h
theorem packetIn_valves (a0 : Nat) (p : RxPacket) (s : State) (h : s.ValvesSafe) : State.ValvesSafe (packetIn a0 p s) := by
  unfold packetIn
  repeat' (first | with_reducible exact h | assumption | with_reducible refine valves_keep (useCredit_foot (w := 17042430230527) (by decide) ..) ?_ | with_reducible refine valves_keep (countLink_foot (w := 17042430230527) (by decide) ..) ?_ | with_reducible apply packetBody_valves | with_reducible refine valves_keep (returnCredit_foot (w := 17042430230527) (by decide) ..) ?_ | with_reducible refine ite_valves ?_ ?_ | with_reducible refine foldl_valves _ _ (fun _ _ _ => ?_) ?_ | with_reducible refine next_valves ?_ | with_reducible refine checked_valves (fun _ => ?_) | with_reducible refine ok_valves ?_ | dsimp only | split)
theorem execPacketReceived_valves (l : LaneId) (p : RxPacket) (t : Nat) (s : State) (h : s.ValvesSafe) : OutcomeValves (execPacketReceived l p t s) := by
  unfold execPacketReceived
  repeat' (first | with_reducible exact h | assumption | with_reducible refine valves_keep (advTo_foot (w := 17042430230527) (by decide) ..) ?_ | with_reducible refine valves_keep (countLink_foot (w := 17042430230527) (by decide) ..) ?_ | with_reducible apply packetIn_valves | with_reducible refine ite_valves ?_ ?_ | with_reducible refine foldl_valves _ _ (fun _ _ _ => ?_) ?_ | with_reducible refine next_valves ?_ | with_reducible refine checked_valves (fun _ => ?_) | with_reducible refine ok_valves ?_ | dsimp only | split)
theorem execVpConfigure_valves (f : Fn) (a1 : Mbx) (s : State) (h : s.ValvesSafe) : OutcomeValves (execVpConfigure f a1 s) := by
  unfold execVpConfigure
  exact next_valves (serve_valves h fun r s' hs => cmdVpConfigure_valves r s' hs)
theorem execVpSetMode_valves (f : Fn) (a1 : Mbx) (s : State) (h : s.ValvesSafe) : OutcomeValves (execVpSetMode f a1 s) := by
  unfold execVpSetMode
  exact next_valves (serveWaking_valves h fun r s' hs => cmdVpSetMode_valves r s' hs)
theorem execVpGetStatus_valves (f : Fn) (a1 : Mbx) (s : State) (h : s.ValvesSafe) : OutcomeValves (execVpGetStatus f a1 s) := by
  unfold execVpGetStatus
  exact next_valves (serve_valves h fun r s' hs => cmdVpGetStatus_valves r s' hs)
theorem execVpClearFault_valves (f : Fn) (a1 : Mbx) (s : State) (h : s.ValvesSafe) : OutcomeValves (execVpClearFault f a1 s) := by
  unfold execVpClearFault
  exact next_valves (serve_valves h fun r s' hs => cmdVpClearFault_valves r s' hs)


theorem execValveFrameLatch_valves (v : VPort) (s : State) (h : s.ValvesSafe) : OutcomeValves (execValveFrameLatch v s) := by
  have ha : ∀ t, (advTo t s).ValvesSafe := fun t => valves_keep (advTo_foot (by decide) ..) h
  have hv : ∀ t, (advTo t s).vps = s.vps := fun t => mask_vps (w := 17042430230527) rfl (advTo_foot (by decide) ..)
  unfold execValveFrameLatch
  dsimp only
  refine next_valves ?_
  by_cases hc : (s.vp v).failed = true ∨ s.mon.valvesStopped = true ∨ ((s.vp v).mode = .off ∧ ((s.vp v).want = none ∨ (s.vp v).want = some .off))
  · rw [if_pos hc]
    exact modVp_valves h fun hp => safe_of hp rfl rfl rfl rfl rfl rfl fun _ => ⟨rfl, rfl⟩
  · rw [if_neg hc]
    have hnf : (s.vp v).failed = false := by
      cases hf : (s.vp v).failed
      · rfl
      · exact absurd (.inl hf) hc
    generalize hs : advTo _ s = s1
    have h1 : s1.ValvesSafe := hs ▸ ha _
    have e1 : s1.vp v = s.vp v := by unfold State.vp; rw [← hs, hv]
    split
    · exact valves_keep (emit_foot (by decide) ..) (modVp_valves h1 fun hp => vpEnter_off_safe hp.2.2.2.1 hp.2.2.2.2.1 hp.2.2.2.2.2)
    · next m hm1 hm2 =>
      refine sendFrame_valves _ _ _ ⟨fun w hw => ?_, ?_⟩
      · rw [vp_modVp_at, if_neg hw]; exact h1 w
      · rw [vp_modVp_at, if_pos rfl, e1]
        have hp := h v
        have key : ∀ p : ValvePort, p.failed = false → 20 ≤ p.period → p.period ≤ 200 → p.phase < 100 * p.period →
            m ≠ .off → (vpEnter m p).Sending := by
          intro p k1 k2 k3 k4 hm
          cases m with
          | off => exact absurd rfl hm
          | safe =>
            refine ⟨by simp [vpEnter], k1, fun _ b => ?_, k2, k3, k4⟩
            exact congrArg Valve.open' (valve_map p (fun _ x => { x with open' := false }) b rfl)
          | run => exact ⟨by simp [vpEnter], k1, by simp [vpEnter], k2, k3, k4⟩
          | test => exact ⟨by simp [vpEnter], k1, by simp [vpEnter], k2, k3, k4⟩
        have hne : m ≠ .off := hm1
        split
        · exact key _ hnf hp.2.2.2.1 hp.2.2.2.2.1 hp.2.2.2.2.2 hne
        · exact key _ hnf hp.2.2.2.1 hp.2.2.2.2.1 hp.2.2.2.2.2 hne
    · next hw =>
      refine sendFrame_valves _ _ _ (safe_sending h1 fun hoff => hc (.inr (.inr ⟨e1 ▸ hoff, .inl hw⟩)))
theorem valveStatus_valves (v b st : Nat) (s : State) (h : s.ValvesSafe) : State.ValvesSafe (valveStatus v b st s) := by
  unfold valveStatus
  dsimp only
  have h1 : ∀ st' (fa : Valve → Bool), (modVp v (fun p => p.modValve b (fun x => { x with status := st', faulted := fa x })) s).ValvesSafe := fun _ _ =>
    modVp_valves h fun hp => safe_modValve hp b _ fun _ k => k
  refine ite_valves (valves_keep (detectFault_foot (by decide) ..) (valves_keep (raise_foot (by decide) ..)
    (valves_keep (honey_foot (by decide) ..) ?_))) (h1 st fun x => if st = 0 then false else x.faulted || st != 3)
  exact modVp_valves (h1 st fun x => if st = 0 then false else x.faulted || st != 3) fun hp => safe_modValve hp b _ fun _ k => k
theorem execFeedbackFrameReceived_valves (v : VPort) (bits : BitVec 40) (t : Nat) (s : State) (h : s.ValvesSafe) :
    OutcomeValves (execFeedbackFrameReceived v bits t s) := by
  have h1 : (advTo t s).ValvesSafe := valves_keep (advTo_foot (by decide) ..) h
  unfold execFeedbackFrameReceived
  dsimp only
  refine next_valves (ite_valves h1 ?_)
  split
  · next f hf =>
    refine ite_valves ?_ (modVp_valves h1 count_safe)
    have h2 : (modVp v (fun p => { p with
          unanswered := p.unanswered.filter (· != f), missRun := 0, sinceValid := 0, board := Machine.bits bits.toNat 8 4 }) (advTo t s)).ValvesSafe :=
      modVp_valves h1 fun hp => ⟨hp.1, hp.2.1, fun k => ⟨(hp.2.2.1 k).1, by
        show List.filter _ ((advTo t s).vp v).unanswered = []
        rw [(hp.2.2.1 k).2]; rfl⟩, hp.2.2.2⟩
    have h3 := foldl_valves (fun s i => valveStatus v (8 * (f.1 % 64) + i) (Machine.bits bits.toNat (26 - 2 * i) 2) s) (List.range 8)
      (fun s i hs => valveStatus_valves _ _ _ _ hs) h2
    exact ite_valves (valves_keep (detectFault_foot (by decide) ..) (valves_keep (raise_foot (by decide) ..) h3)) h3
  · exact modVp_valves h1 count_safe
theorem missed_safe {p : ValvePort} {f : Nat × Nat} {r : List (Nat × Nat)} (h : p.Safe) (hf : p.unanswered = f :: r) (n : Nat) :
    ValvePort.Safe { (p.count .fbMiss) with unanswered := r, missRun := n } := by
  refine ⟨(count_safe (k := .fbMiss) h).1, h.2.1, fun k => ?_, h.2.2.2⟩
  have hu := (h.2.2.1 k).2
  rw [hf] at hu
  exact absurd hu (List.cons_ne_nil _ _)
theorem execFeedbackMissed_valves (v : VPort) (s : State) (h : s.ValvesSafe) : OutcomeValves (execFeedbackMissed v s) := by
  unfold execFeedbackMissed
  refine next_valves ?_
  dsimp only
  split
  · exact h
  · next f r hf =>
    have key : ∀ T, ((fun s1 => if (s.vp v).missRun + 1 = 64 then
          detectFault clsValve v (raise 0x0510 sevE v 0 0 (s1.vpTo v) s1) else s1)
        (modVp v (fun p => { (p.count .fbMiss) with unanswered := r, missRun := p.missRun + 1 }) (advTo T s))).ValvesSafe := by
      intro T
      have h1 : (advTo T s).ValvesSafe := valves_keep (advTo_foot (by decide) ..) h
      have hv : (advTo T s).vps = s.vps := mask_vps (w := 17042430230527) rfl (advTo_foot (by decide) ..)
      have e1 : (advTo T s).vp v = s.vp v := by unfold State.vp; rw [hv]
      generalize advTo T s = s1 at h1 e1 ⊢
      have h2 : (modVp v (fun p => { (p.count .fbMiss) with unanswered := r, missRun := p.missRun + 1 }) s1).ValvesSafe :=
        modVp_valves h1 fun hp => missed_safe hp (e1 ▸ hf) _
      generalize modVp v _ s1 = s2 at h2 ⊢
      exact ite_valves (valves_keep (detectFault_foot (by decide) ..) (valves_keep (raise_foot (by decide) ..) h2)) h2
    exact key _
theorem execValvePortReadbackFault_valves (v : VPort) (t : Nat) (s : State) (h : s.ValvesSafe) : OutcomeValves (execValvePortReadbackFault v t s) := by
  have h1 : (advTo t s).ValvesSafe := valves_keep (advTo_foot (by decide) ..) h
  unfold execValvePortReadbackFault
  refine next_valves (ite_valves h1 (valves_keep (detectFault_foot (by decide) ..) (valves_keep (emit_foot (by decide) ..)
    (modVp_valves h1 fun hp => ?_))))
  have := vpEnter_off_safe hp.2.2.2.1 hp.2.2.2.2.1 hp.2.2.2.2.2
  exact ⟨this.1, fun _ => rfl, this.2.2⟩

end Sys2Proof.Machine
end

