-- ==== Sys2Proof/Laws/Safe3.lean ====
section
/-! SUPPORT. Commands and events keep the valve ports safe (R256, R258, R513). -/
set_option linter.all false
set_option maxRecDepth 4000
namespace Sys2Proof.Machine

theorem execSchedAdd_valves (f : Fn) (a1 : Mbx) (s : State) (h : s.ValvesSafe) : OutcomeValves (execSchedAdd f a1 s) := by
  unfold execSchedAdd
  exact next_valves (serve_valves h fun r s' hs => cmdSchedAdd_valves _ r s' hs)
theorem execActionExecute_valves (slot : Nat) (lateBy : Nat) (s : State) (h : s.ValvesSafe) : OutcomeValves (execActionExecute slot lateBy s) := by
  unfold execActionExecute
  repeat' (first | with_reducible exact h | assumption | with_reducible apply latchAction_valves | with_reducible refine valves_keep (advTo_foot (w := 17042430230527) (by decide) ..) ?_ | with_reducible refine valves_keep (wakeDozing_foot (w := 17042430230527) (by decide) ..) ?_ | with_reducible apply runAction_valves | with_reducible refine ite_valves ?_ ?_ | with_reducible refine foldl_valves _ _ (fun _ _ _ => ?_) ?_ | with_reducible refine next_valves ?_ | with_reducible refine checked_valves (fun _ => ?_) | with_reducible refine ok_valves ?_ | dsimp only | split)
theorem execProducerOccurrence_valves (producer : Nat) (rise : Bool) (t : Nat) (s : State) (h : s.ValvesSafe) : OutcomeValves (execProducerOccurrence producer rise t s) := by
  unfold execProducerOccurrence
  repeat' (first | with_reducible exact h | assumption | with_reducible refine valves_keep (advTo_foot (w := 17042430230527) (by decide) ..) ?_ | with_reducible apply originate_valves | with_reducible refine ite_valves ?_ ?_ | with_reducible refine foldl_valves _ _ (fun _ _ _ => ?_) ?_ | with_reducible refine next_valves ?_ | with_reducible refine checked_valves (fun _ => ?_) | with_reducible refine ok_valves ?_ | dsimp only | split)
theorem execChannelDelayFire_valves (c : Chan) (s : State) (h : s.ValvesSafe) : OutcomeValves (execChannelDelayFire c s) := by
  unfold execChannelDelayFire
  refine next_valves ?_
  split
  · exact h
  · next a r _ =>
    have h1 : ∀ g, (advTo a (modChan c g s)).ValvesSafe := fun g =>
      valves_keep (advTo_foot (w := 17042430230527) (by decide) ..) (valves_keep (modChan_foot (w := 17042430230527) (by decide) ..) h)
    have h1 := h1 fun v => { v with held := r }
    dsimp only
    generalize advTo a (modChan c _ s) = s1 at h1 ⊢
    have h2 : ∀ x g, (modChan c g { s1 with wag := x }).ValvesSafe := fun x g =>
      valves_keep (modChan_foot (w := 17042430230527) (by decide) ..) (valves_of_vps (s := s1) rfl h1)
    have h2 := h2 { s1.wag with gen := s1.wag.gen + 1 } fun v => { v with
      gens := if v.occTick = some ({ s1 with wag := { s1.wag with gen := s1.wag.gen + 1 } } : State).tick then v.gens else []
      occTick := some ({ s1 with wag := { s1.wag with gen := s1.wag.gen + 1 } } : State).tick }
    generalize modChan c _ { s1 with wag := _ } = s2 at h2 ⊢
    have h3 := fireChan_valves c s1.wag.gen [] [] s2 h2
    generalize fireChan c s1.wag.gen [] [] s2 = x at h3 ⊢
    have h4 := propagate_valves 1024 x.1 x.2.1 x.2.2 h3
    generalize propagate 1024 x.1 x.2.1 x.2.2 = y at h4 ⊢
    exact valves_keep (endTick_foot (w := 17042430230527) (by decide) ..) h4
theorem execHiveRemote_valves (f : Fn) (a1 : Mbx) (s : State) (h : s.ValvesSafe) : OutcomeValves (execHiveRemote f a1 s) := by
  unfold execHiveRemote
  exact next_valves (serve_valves h fun r s' hs => cmdHiveRemote_valves r s' hs)
theorem execRemoteReqReceived_valves (src : Nat) (fn : Nat) (request : List Byte) (s : State) (h : s.ValvesSafe) : OutcomeValves (execRemoteReqReceived src fn request s) := by
  unfold execRemoteReqReceived
  repeat' (first | with_reducible exact h | assumption | with_reducible apply remoteReq_valves | with_reducible refine valves_keep (vc3Hold_foot (w := 17042430230527) (by decide) ..) ?_ | with_reducible refine ite_valves ?_ ?_ | with_reducible refine foldl_valves _ _ (fun _ _ _ => ?_) ?_ | with_reducible refine next_valves ?_ | with_reducible refine checked_valves (fun _ => ?_) | with_reducible refine ok_valves ?_ | dsimp only | split)
theorem execHmsgForward_valves (arrival : LaneId) (msg : HMsg) (s : State) (h : s.ValvesSafe) : OutcomeValves (execHmsgForward arrival msg s) := by
  unfold execHmsgForward
  repeat' (first | with_reducible exact h | assumption | with_reducible apply hmsgArrive_valves | with_reducible refine ite_valves ?_ ?_ | with_reducible refine foldl_valves _ _ (fun _ _ _ => ?_) ?_ | with_reducible refine next_valves ?_ | with_reducible refine checked_valves (fun _ => ?_) | with_reducible refine ok_valves ?_ | dsimp only | split)
theorem execCompatSchedAdd_valves (f : Fn) (a1 : Mbx) (s : State) (h : s.ValvesSafe) : OutcomeValves (execCompatSchedAdd f a1 s) := by
  unfold execCompatSchedAdd
  exact next_valves (serve_valves h fun r s' hs => cmdSchedAdd_valves _ r s' hs)
theorem reset_port_safe : ValvePort.Safe {} := by
  refine ⟨fun _ b => ⟨rfl, rfl⟩, fun h => ?_, fun _ => ⟨rfl, rfl⟩, by decide, by decide, by decide⟩
  exact absurd h (by decide)
theorem wipe_valves (s : State) : State.ValvesSafe (wipe s) := by
  have : (wipe s).vps = [] := rfl
  intro v
  unfold State.vp
  rw [this]
  exact reset_port_safe
theorem execSysRstNAssert_valves (lengthNs : Nat) (s : State) (h : s.ValvesSafe) : OutcomeValves (execSysRstNAssert lengthNs s) := by
  unfold execSysRstNAssert
  exact next_valves (ite_valves h (wipe_valves _))
theorem keeperReady_valves (s : State) (h : s.ValvesSafe) : State.ValvesSafe (keeperReady s) := by
  have h0 : (if s.sys.everReady then [0, 1, 2, 3].foldl (fun s f => endMailboxes f s) { s with goOrder := [] } else firstReady s).ValvesSafe :=
    ite_valves (foldl_valves _ _ (fun s f hs => valves_keep (endMailboxes_foot (w := 17042430230527) (by decide) ..) hs)
      (valves_of_vps (s := s) rfl h)) (valves_keep (firstReady_foot (w := 17042430230527) (by decide) ..) h)
  unfold keeperReady
  dsimp only
  generalize (if s.sys.everReady = true then _ else firstReady s) = s0 at h0 ⊢
  have h1 : ∀ g, (modSys g s0).ValvesSafe := fun g => valves_keep (modSys_foot (w := 17042430230527) (by decide) ..) h0
  generalize hs : modSys _ s0 = s1
  have h1 : s1.ValvesSafe := hs ▸ h1 _
  have h2 : (setIntxAll intxReadyUp (s1.functions.foldl (fun s f => if (s.hp f).rd = rdBody f s then s else rdRewrite f s) s1)).ValvesSafe :=
    valves_keep (setIntxAll_foot (w := 17042430230527) (by decide) ..)
      (foldl_valves _ _ (fun s f hs => ite_valves hs (valves_keep (rdRewrite_foot (w := 17042430230527) (by decide) ..) hs)) h1)
  generalize setIntxAll intxReadyUp _ = s2 at h2 ⊢
  exact drainVc3_valves _ _ (valves_keep (keeperWork_foot (w := 17042430230527) (by decide) ..)
    (valves_keep (faultOk_foot (w := 17042430230527) (by decide) ..) (valves_keep (readyTrial_foot (w := 17042430230527) (by decide) ..) h2)))
theorem execKeeperReady_valves (t : Nat) (s : State) (h : s.ValvesSafe) : OutcomeValves (execKeeperReady t s) := by
  have h1 : (advTo t s).ValvesSafe := valves_keep (advTo_foot (w := 17042430230527) (by decide) ..) h
  unfold execKeeperReady
  dsimp only
  generalize advTo t s = s1 at h1 ⊢
  exact next_valves (ite_valves (keeperReady_valves _ h1) h1)
theorem softUnits_valves (combs asms ports : List Nat) (s : State) (h : s.ValvesSafe) : State.ValvesSafe (softUnits combs asms ports s) := by
  unfold softUnits
  have hp : ∀ c u (t : State), t.ValvesSafe → (passed c u t).ValvesSafe := fun c u t ht => valves_keep (passed_foot (by decide) ..) ht
  refine foldl_valves _ _ (fun s x hs => hp _ _ _ hs) (foldl_valves _ _ (fun s x hs => hp _ _ _ hs) (foldl_valves _ _ (fun s x hs => hp _ _ _ hs) ?_))
  refine foldl_valves _ _ (fun s x hs => valves_keep (setOwner_foot (by decide) ..) hs) ?_
  have key : ∀ (l : List Nat) (v : Nat), (Table.getD (l.map fun v => (v, ({ failed := true } : ValvePort))) v {}).Safe := by
    intro l v
    induction l with
    | nil => exact reset_port_safe
    | cons x l ih =>
      show ValvePort.Safe (Option.getD (if x = v then some _ else Table.find _ v) _)
      split
      · exact ⟨reset_port_safe.1, fun _ => rfl, fun _ => ⟨rfl, rfl⟩, by decide, by decide, by decide⟩
      · exact ih
  exact key _
theorem softDatapath_valves (combs asms ports : List Nat) (s : State) (h : s.ValvesSafe) :
    State.ValvesSafe (softDatapath combs asms ports s) := by
  unfold softDatapath
  dsimp only
  have h1 : ((List.range 24).foldl (fun s q => pllTrim q s) ((s.lanes.map (·.1)).foldl softLane (stopPorts s))).ValvesSafe :=
    foldl_valves _ _ (fun s x hs => valves_keep (pllTrim_foot (w := 17042430230527) (by decide) ..) hs)
      (foldl_valves _ _ (fun s x hs => valves_keep (softLane_foot (w := 17042430230527) (by decide) ..) hs)
        (valves_keep (stopPorts_foot (w := 17042430230527) (by decide) ..) h))
  generalize (List.range 24).foldl (fun s q => pllTrim q s) _ = s1 at h1 ⊢
  have h2 : (wakeBanks s1).ValvesSafe := valves_keep (wakeBanks_foot (w := 17042430230527) (by decide) ..) h1
  generalize wakeBanks s1 = s2 at h2 ⊢
  refine valves_keep (setValid_foot (w := 17042430230527) (by decide) ..) (softUnits_valves _ _ _ _
    (valves_keep (modSys_foot (w := 17042430230527) (by decide) ..) ?_))
  exact valves_of_vps (s := s2) rfl h2
theorem execSoftDeviceReset_valves (combsPass asmsPass portsPass : List Nat) (t : Nat) (s : State) (h : s.ValvesSafe) :
    OutcomeValves (execSoftDeviceReset combsPass asmsPass portsPass t s) := by
  unfold execSoftDeviceReset
  refine next_valves ?_
  cases s.sys.later with
  | none => exact h
  | some x =>
    dsimp only
    refine ite_valves h ?_
    have h1 : (setPhase .recovery (advTo x.due s)).ValvesSafe := valves_keep (setPhase_foot (w := 17042430230527) (by decide) ..) (valves_keep (advTo_foot (w := 17042430230527) (by decide) ..) (h))
    generalize setPhase .recovery (advTo x.due s) = s1 at h1 ⊢
    have h2 : (cutFlash (keeperForgets (readyFalls (saveHoney 2 (honey (hoReset 1) s1))))).ValvesSafe := valves_keep (cutFlash_foot (w := 17042430230527) (by decide) ..) (valves_keep (keeperForgets_foot (w := 17042430230527) (by decide) ..) (valves_keep (readyFalls_foot (w := 17042430230527) (by decide) ..) (valves_keep (saveHoney_foot (w := 17042430230527) (by decide) ..) (valves_keep (honey_foot (w := 17042430230527) (by decide) ..) (h1)))))
    generalize cutFlash (keeperForgets (readyFalls (saveHoney 2 (honey (hoReset 1) s1)))) = s2 at h2 ⊢
    have h3 := softDatapath_valves combsPass asmsPass portsPass s2 h2
    generalize softDatapath combsPass asmsPass portsPass s2 = s3 at h3 ⊢
    have h4 : (readCal false { s3 with goOrder := [] }).ValvesSafe :=
      valves_keep (readCal_foot (w := 17042430230527) (by decide) ..) (valves_of_vps (s := s3) rfl h3)
    generalize readCal false { s3 with goOrder := [] } = s4 at h4 ⊢
    have h5 : (advTo t ([0, 1, 2, 3].foldl (fun s f => endMailboxes f s) s4)).ValvesSafe :=
      valves_keep (advTo_foot (w := 17042430230527) (by decide) ..)
        (foldl_valves _ _ (fun s f hs => valves_keep (endMailboxes_foot (w := 17042430230527) (by decide) ..) hs) h4)
    generalize advTo t _ = s5 at h5 ⊢
    have h6 : ∀ g, (modTrust g s5).ValvesSafe := fun g => valves_keep (modTrust_foot (w := 17042430230527) (by decide) ..) h5
    generalize hs : modTrust _ s5 = s6
    have h6 : s6.ValvesSafe := hs ▸ h6 _
    exact valves_keep (setPhase_foot (w := 17042430230527) (by decide) ..) (valves_keep (rdRefresh_foot (w := 17042430230527) (by decide) ..) (valves_keep (setIntxAll_foot (w := 17042430230527) (by decide) ..) (valves_keep (modSys_foot (w := 17042430230527) (by decide) ..) (h6))))
theorem execFullResetByHive_valves (straps : Straps) (s : State) (h : s.ValvesSafe) : OutcomeValves (execFullResetByHive straps s) := by
  unfold execFullResetByHive
  refine next_valves ?_
  split
  · exact ite_valves (valves_keep (releaseReset_foot (w := 17042430230527) (by decide) ..) (wipe_valves _)) h
  · exact h
theorem execMemValveGuard_valves (valve : Fin 4096) (t : Nat) (s : State) (h : s.ValvesSafe) : OutcomeValves (execMemValveGuard valve t s) := by
  have h1 : (advTo t s).ValvesSafe := valves_keep (advTo_foot (by decide) ..) h
  unfold execMemValveGuard
  exact next_valves (ite_valves (valves_keep (raise_foot (by decide) ..) (valves_keep (modFlight_foot (by decide) ..)
    (modVp_valves h1 fun hp => safe_modValve hp _ _ fun _ k => ⟨rfl, k.2⟩))) h1)
theorem stopValves_valves (s : State) (h : s.ValvesSafe) : State.ValvesSafe (stopValves s) := by
  have h1 : (stopPorts s).ValvesSafe := valves_keep (stopPorts_foot (by decide) ..) h
  unfold stopValves
  dsimp only
  generalize stopPorts s = s1 at h1 ⊢
  intro v
  have hv := h1 v
  unfold State.vp Table.getD at hv ⊢
  dsimp only
  rw [Table.find_map _ (fun _ p => vpEnter .off p)]
  revert hv
  cases Table.find s1.vps v with
  | none => exact id
  | some p => exact fun hp => vpEnter_off_safe hp.2.2.2.1 hp.2.2.2.2.1 hp.2.2.2.2.2
theorem execSupplyExcursion_valves (rail : Fin 9) (w : SupplyWindow) (t : Nat) (s : State) (h : s.ValvesSafe) :
    OutcomeValves (execSupplyExcursion rail w t s) := by
  have h1 : (advTo t s).ValvesSafe := valves_keep (advTo_foot (w := 17042430230527) (by decide) ..) h
  unfold execSupplyExcursion
  dsimp only
  generalize advTo t s = s1 at h1 ⊢
  refine next_valves ?_
  have hm : ∀ x, ({ s1 with mon := x } : State).ValvesSafe := fun x => valves_of_vps (s := s1) rfl h1
  split
  · exact valves_keep (faultOk_foot (w := 17042430230527) (by decide) ..) (hm _)
  · have hd : ∀ x, (detectFault clsSupply (railUnit rail) { s1 with mon := x }).ValvesSafe := fun x =>
      valves_keep (detectFault_foot (w := 17042430230527) (by decide) ..) (hm x)
    exact ite_valves (stopValves_valves _ (hd _)) (hd _)
theorem execThermalTrip_valves (_sensor : Fin 32) (reading : Int) (s : State) (h : s.ValvesSafe) :
    OutcomeValves (execThermalTrip _sensor reading s) := by
  have hw := wipe_valves (emit (.thermTripN true) s)
  unfold execThermalTrip
  refine next_valves (ite_valves h ?_)
  dsimp only
  generalize wipe (emit (.thermTripN true) s) = u at hw ⊢
  exact valves_of_vps (s := u) rfl hw
theorem execThermalTripClear_valves (c : TripClear) (s : State) (h : s.ValvesSafe) : OutcomeValves (execThermalTripClear c s) := by
  unfold execThermalTripClear
  refine next_valves ?_
  split
  · have hw : (clearTrip (wipe s)).ValvesSafe := valves_keep (clearTrip_foot (w := 17042430230527) (by decide) ..) (wipe_valves s)
    dsimp only
    generalize clearTrip (wipe s) = u at hw ⊢
    exact valves_of_vps (s := u) rfl hw
  · exact ite_valves (valves_keep (clearTrip_foot (w := 17042430230527) (by decide) ..) h) h
theorem idleTick_valves (s : State) (h : s.ValvesSafe) : State.ValvesSafe (idleTick s) := by
  unfold idleTick
  repeat' (first | with_reducible exact h | assumption | with_reducible apply takeVc3_valves | with_reducible refine valves_keep (fabricClock_foot (w := 17042430230527) (by decide) ..) ?_ | with_reducible refine ite_valves ?_ ?_ | with_reducible refine foldl_valves _ _ (fun _ _ _ => ?_) ?_ | with_reducible refine next_valves ?_ | with_reducible refine checked_valves (fun _ => ?_) | with_reducible refine ok_valves ?_ | dsimp only | split)

end Sys2Proof.Machine
end

