-- ==== Sys2Proof/Laws/Rows.lean ====
section
/-! SUPPORT. Row by row: the set of fields that a command may change, that it keeps the others, and that it keeps the valve
ports safe. -/
set_option linter.all false
set_option maxRecDepth 4000
namespace Sys2Proof.Machine

theorem registerWrite_row_fields {a0} {a1} {a2} {a3} : fieldSet (mayChange (.registerWrite a0 a1 a2 a3)) = 17497803161674 := rfl
theorem registerWrite_row_frame {a0} {a1} {a2} {a3} {s t : State} (h : exec (.registerWrite a0 a1 a2 a3) s = .next t) : t.mask 17497803161674 = s.mask 17497803161674 := by
  have k := execRegisterWrite_foot (w := 17497803161674) (by decide) a0 a1 a2 a3 s
  have h : execRegisterWrite a0 a1 a2 a3 s = .next t := h
  rw [h] at k
  exact keeps_next.mp k
theorem registerWrite_row_valves {a0} {a1} {a2} {a3} {s t : State} (h : s.ValvesSafe) (e : exec (.registerWrite a0 a1 a2 a3) s = .next t) : t.ValvesSafe := by
  have k : OutcomeValves (execRegisterWrite a0 a1 a2 a3 s) := execRegisterWrite_valves a0 a1 a2 a3 s h
  have h : execRegisterWrite a0 a1 a2 a3 s = .next t := e
  rw [h] at k
  exact k
theorem hbTimeLoRead_row_fields {a0} {a1} : fieldSet (mayChange (.hbTimeLoRead a0 a1)) = 32802 := rfl
theorem hbTimeLoRead_row_frame {a0} {a1} {s t : State} (h : exec (.hbTimeLoRead a0 a1) s = .next t) : t.mask 32802 = s.mask 32802 := by
  have k := execHbTimeLoRead_foot (w := 32802) (by decide) a0 a1 s
  have h : execHbTimeLoRead a0 a1 s = .next t := h
  rw [h] at k
  exact keeps_next.mp k
theorem hbTimeLoRead_row_valves {a0} {a1} {s t : State} (h : s.ValvesSafe) (e : exec (.hbTimeLoRead a0 a1) s = .next t) : t.ValvesSafe := by
  exact valves_keep (mask_mono (by decide) (hbTimeLoRead_row_frame e)) h
theorem mbxGo_row_fields {a0} {a1} : fieldSet (mayChange (.mbxGo a0 a1)) = 37978178 := rfl
theorem mbxGo_row_frame {a0} {a1} {s t : State} (h : exec (.mbxGo a0 a1) s = .next t) : t.mask 37978178 = s.mask 37978178 := by
  have k := execMbxGo_foot (w := 37978178) (by decide) a0 a1 s
  have h : execMbxGo a0 a1 s = .next t := h
  rw [h] at k
  exact keeps_next.mp k
theorem mbxGo_row_valves {a0} {a1} {s t : State} (h : s.ValvesSafe) (e : exec (.mbxGo a0 a1) s = .next t) : t.ValvesSafe := by
  exact valves_keep (mask_mono (by decide) (mbxGo_row_frame e)) h
theorem mbxAbort_row_fields {a0} {a1} : fieldSet (mayChange (.mbxAbort a0 a1)) = 38240322 := rfl
theorem mbxAbort_row_frame {a0} {a1} {s t : State} (h : exec (.mbxAbort a0 a1) s = .next t) : t.mask 38240322 = s.mask 38240322 := by
  have k := execMbxAbort_foot (w := 38240322) (by decide) a0 a1 s
  have h : execMbxAbort a0 a1 s = .next t := h
  rw [h] at k
  exact keeps_next.mp k
theorem mbxAbort_row_valves {a0} {a1} {s t : State} (h : s.ValvesSafe) (e : exec (.mbxAbort a0 a1) s = .next t) : t.ValvesSafe := by
  exact valves_keep (mask_mono (by decide) (mbxAbort_row_frame e)) h
theorem abortComplete_row_fields {a0} {a1} : fieldSet (mayChange (.abortComplete a0 a1)) = 65536 := rfl
theorem abortComplete_row_frame {a0} {a1} {s t : State} (h : exec (.abortComplete a0 a1) s = .next t) : t.mask 65536 = s.mask 65536 := by
  have k := execAbortComplete_foot (w := 65536) (by decide) a0 a1 s
  have h : execAbortComplete a0 a1 s = .next t := h
  rw [h] at k
  exact keeps_next.mp k
theorem abortComplete_row_valves {a0} {a1} {s t : State} (h : s.ValvesSafe) (e : exec (.abortComplete a0 a1) s = .next t) : t.ValvesSafe := by
  exact valves_keep (mask_mono (by decide) (abortComplete_row_frame e)) h
theorem qdbTailWrite_row_fields {a0} {a1} {a2} {a3} : fieldSet (mayChange (.qdbTailWrite a0 a1 a2 a3)) = 8658124866 := rfl
theorem qdbTailWrite_row_frame {a0} {a1} {a2} {a3} {s t : State} (h : exec (.qdbTailWrite a0 a1 a2 a3) s = .next t) : t.mask 8658124866 = s.mask 8658124866 := by
  have k := execQdbTailWrite_foot (w := 8658124866) (by decide) a0 a1 a2 a3 s
  have h : execQdbTailWrite a0 a1 a2 a3 s = .next t := h
  rw [h] at k
  exact keeps_next.mp k
theorem qdbTailWrite_row_valves {a0} {a1} {a2} {a3} {s t : State} (h : s.ValvesSafe) (e : exec (.qdbTailWrite a0 a1 a2 a3) s = .next t) : t.ValvesSafe := by
  exact valves_keep (mask_mono (by decide) (qdbTailWrite_row_frame e)) h
theorem qdbCplHeadWrite_row_fields {a0} {a1} {a2} {a3} : fieldSet (mayChange (.qdbCplHeadWrite a0 a1 a2 a3)) = 8658124866 := rfl
theorem qdbCplHeadWrite_row_frame {a0} {a1} {a2} {a3} {s t : State} (h : exec (.qdbCplHeadWrite a0 a1 a2 a3) s = .next t) : t.mask 8658124866 = s.mask 8658124866 := by
  have k := execQdbCplHeadWrite_foot (w := 8658124866) (by decide) a0 a1 a2 a3 s
  have h : execQdbCplHeadWrite a0 a1 a2 a3 s = .next t := h
  rw [h] at k
  exact keeps_next.mp k
theorem qdbCplHeadWrite_row_valves {a0} {a1} {a2} {a3} {s t : State} (h : s.ValvesSafe) (e : exec (.qdbCplHeadWrite a0 a1 a2 a3) s = .next t) : t.ValvesSafe := by
  exact valves_keep (mask_mono (by decide) (qdbCplHeadWrite_row_frame e)) h
theorem decisionApertureWrite_row_fields {a0} {a1} {a2} {a3} : fieldSet (mayChange (.decisionApertureWrite a0 a1 a2 a3)) = 446715428970 := rfl
theorem decisionApertureWrite_row_frame {a0} {a1} {a2} {a3} {s t : State} (h : exec (.decisionApertureWrite a0 a1 a2 a3) s = .next t) : t.mask 446715428970 = s.mask 446715428970 := by
  have k := execDecisionApertureWrite_foot (w := 446715428970) (by decide) a0 a1 a2 a3 s
  have h : execDecisionApertureWrite a0 a1 a2 a3 s = .next t := h
  rw [h] at k
  exact keeps_next.mp k
theorem decisionApertureWrite_row_valves {a0} {a1} {a2} {a3} {s t : State} (h : s.ValvesSafe) (e : exec (.decisionApertureWrite a0 a1 a2 a3) s = .next t) : t.ValvesSafe := by
  exact valves_keep (mask_mono (by decide) (decisionApertureWrite_row_frame e)) h
theorem pwCommitWrite_row_fields {a0} {a1} {a2} : fieldSet (mayChange (.pwCommitWrite a0 a1 a2)) = 32768 := rfl
theorem pwCommitWrite_row_frame {a0} {a1} {a2} {s t : State} (h : exec (.pwCommitWrite a0 a1 a2) s = .next t) : t.mask 32768 = s.mask 32768 := by
  have k := execPwCommitWrite_foot (w := 32768) (by decide) a0 a1 a2 s
  have h : execPwCommitWrite a0 a1 a2 s = .next t := h
  rw [h] at k
  exact keeps_next.mp k
theorem pwCommitWrite_row_valves {a0} {a1} {a2} {s t : State} (h : s.ValvesSafe) (e : exec (.pwCommitWrite a0 a1 a2) s = .next t) : t.ValvesSafe := by
  exact valves_keep (mask_mono (by decide) (pwCommitWrite_row_frame e)) h
theorem peerWindowWrite_row_fields {a0} {a1} {a2} {a3} : fieldSet (mayChange (.peerWindowWrite a0 a1 a2 a3)) = 455372472426 := rfl
theorem peerWindowWrite_row_frame {a0} {a1} {a2} {a3} {s t : State} (h : exec (.peerWindowWrite a0 a1 a2 a3) s = .next t) : t.mask 455372472426 = s.mask 455372472426 := by
  have k := execPeerWindowWrite_foot (w := 455372472426) (by decide) a0 a1 a2 a3 s
  have h : execPeerWindowWrite a0 a1 a2 a3 s = .next t := h
  rw [h] at k
  exact keeps_next.mp k
theorem peerWindowWrite_row_valves {a0} {a1} {a2} {a3} {s t : State} (h : s.ValvesSafe) (e : exec (.peerWindowWrite a0 a1 a2 a3) s = .next t) : t.ValvesSafe := by
  exact valves_keep (mask_mono (by decide) (peerWindowWrite_row_frame e)) h
theorem wgFireWrite_row_fields {a0} {a1} {a2} {a3} {a4} : fieldSet (mayChange (.wgFireWrite a0 a1 a2 a3 a4)) = 17042469060714 := rfl
theorem wgFireWrite_row_frame {a0} {a1} {a2} {a3} {a4} {s t : State} (h : exec (.wgFireWrite a0 a1 a2 a3 a4) s = .next t) : t.mask 17042469060714 = s.mask 17042469060714 := by
  have k := execWgFireWrite_foot (w := 17042469060714) (by decide) a0 a1 a2 a3 a4 s
  have h : execWgFireWrite a0 a1 a2 a3 a4 s = .next t := h
  rw [h] at k
  exact keeps_next.mp k
theorem wgFireWrite_row_valves {a0} {a1} {a2} {a3} {a4} {s t : State} (h : s.ValvesSafe) (e : exec (.wgFireWrite a0 a1 a2 a3 a4) s = .next t) : t.ValvesSafe := by
  have k : OutcomeValves (execWgFireWrite a0 a1 a2 a3 a4 s) := execWgFireWrite_valves a0 a1 a2 a3 a4 s h
  have h : execWgFireWrite a0 a1 a2 a3 a4 s = .next t := e
  rw [h] at k
  exact k
theorem devGetInfo_row_fields {a0} {a1} : fieldSet (mayChange (.devGetInfo a0 a1)) = 37978178 := rfl
theorem devGetInfo_row_frame {a0} {a1} {s t : State} (h : exec (.devGetInfo a0 a1) s = .next t) : t.mask 37978178 = s.mask 37978178 := by
  have k := execDevGetInfo_foot (w := 37978178) (by decide) a0 a1 s
  have h : execDevGetInfo a0 a1 s = .next t := h
  rw [h] at k
  exact keeps_next.mp k
theorem devGetInfo_row_valves {a0} {a1} {s t : State} (h : s.ValvesSafe) (e : exec (.devGetInfo a0 a1) s = .next t) : t.ValvesSafe := by
  exact valves_keep (mask_mono (by decide) (devGetInfo_row_frame e)) h
theorem devGetPortStatus_row_fields {a0} {a1} : fieldSet (mayChange (.devGetPortStatus a0 a1)) = 37978178 := rfl
theorem devGetPortStatus_row_frame {a0} {a1} {s t : State} (h : exec (.devGetPortStatus a0 a1) s = .next t) : t.mask 37978178 = s.mask 37978178 := by
  have k := execDevGetPortStatus_foot (w := 37978178) (by decide) a0 a1 s
  have h : execDevGetPortStatus a0 a1 s = .next t := h
  rw [h] at k
  exact keeps_next.mp k
theorem devGetPortStatus_row_valves {a0} {a1} {s t : State} (h : s.ValvesSafe) (e : exec (.devGetPortStatus a0 a1) s = .next t) : t.ValvesSafe := by
  exact valves_keep (mask_mono (by decide) (devGetPortStatus_row_frame e)) h
theorem devAssign_row_fields {a0} {a1} : fieldSet (mayChange (.devAssign a0 a1)) = 37978194 := rfl
theorem devAssign_row_frame {a0} {a1} {s t : State} (h : exec (.devAssign a0 a1) s = .next t) : t.mask 37978194 = s.mask 37978194 := by
  have k := execDevAssign_foot (w := 37978194) (by decide) a0 a1 s
  have h : execDevAssign a0 a1 s = .next t := h
  rw [h] at k
  exact keeps_next.mp k
theorem devAssign_row_valves {a0} {a1} {s t : State} (h : s.ValvesSafe) (e : exec (.devAssign a0 a1) s = .next t) : t.ValvesSafe := by
  exact valves_keep (mask_mono (by decide) (devAssign_row_frame e)) h
theorem devGetOwner_row_fields {a0} {a1} : fieldSet (mayChange (.devGetOwner a0 a1)) = 37978178 := rfl
theorem devGetOwner_row_frame {a0} {a1} {s t : State} (h : exec (.devGetOwner a0 a1) s = .next t) : t.mask 37978178 = s.mask 37978178 := by
  have k := execDevGetOwner_foot (w := 37978178) (by decide) a0 a1 s
  have h : execDevGetOwner a0 a1 s = .next t := h
  rw [h] at k
  exact keeps_next.mp k
theorem devGetOwner_row_valves {a0} {a1} {s t : State} (h : s.ValvesSafe) (e : exec (.devGetOwner a0 a1) s = .next t) : t.ValvesSafe := by
  exact valves_keep (mask_mono (by decide) (devGetOwner_row_frame e)) h
theorem laneConfigure_row_fields {a0} {a1} : fieldSet (mayChange (.laneConfigure a0 a1)) = 66303042 := rfl
theorem laneConfigure_row_frame {a0} {a1} {s t : State} (h : exec (.laneConfigure a0 a1) s = .next t) : t.mask 66303042 = s.mask 66303042 := by
  have k := execLaneConfigure_foot (w := 66303042) (by decide) a0 a1 s
  have h : execLaneConfigure a0 a1 s = .next t := h
  rw [h] at k
  exact keeps_next.mp k
theorem laneConfigure_row_valves {a0} {a1} {s t : State} (h : s.ValvesSafe) (e : exec (.laneConfigure a0 a1) s = .next t) : t.ValvesSafe := by
  exact valves_keep (mask_mono (by decide) (laneConfigure_row_frame e)) h
theorem laneGetStatus_row_fields {a0} {a1} : fieldSet (mayChange (.laneGetStatus a0 a1)) = 56852546 := rfl
theorem laneGetStatus_row_frame {a0} {a1} {s t : State} (h : exec (.laneGetStatus a0 a1) s = .next t) : t.mask 56852546 = s.mask 56852546 := by
  have k := execLaneGetStatus_foot (w := 56852546) (by decide) a0 a1 s
  have h : execLaneGetStatus a0 a1 s = .next t := h
  rw [h] at k
  exact keeps_next.mp k
theorem laneGetStatus_row_valves {a0} {a1} {s t : State} (h : s.ValvesSafe) (e : exec (.laneGetStatus a0 a1) s = .next t) : t.ValvesSafe := by
  exact valves_keep (mask_mono (by decide) (laneGetStatus_row_frame e)) h
theorem laneSetPower_row_fields {a0} {a1} : fieldSet (mayChange (.laneSetPower a0 a1)) = 66553170 := rfl
theorem laneSetPower_row_frame {a0} {a1} {s t : State} (h : exec (.laneSetPower a0 a1) s = .next t) : t.mask 66553170 = s.mask 66553170 := by
  have k := execLaneSetPower_foot (w := 66553170) (by decide) a0 a1 s
  have h : execLaneSetPower a0 a1 s = .next t := h
  rw [h] at k
  exact keeps_next.mp k
theorem laneSetPower_row_valves {a0} {a1} {s t : State} (h : s.ValvesSafe) (e : exec (.laneSetPower a0 a1) s = .next t) : t.ValvesSafe := by
  exact valves_keep (mask_mono (by decide) (laneSetPower_row_frame e)) h
theorem laneEyeScan_row_fields {a0} {a1} {a2} {a3} {a4} : fieldSet (mayChange (.laneEyeScan a0 a1 a2 a3 a4)) = 37978178 := rfl
theorem laneEyeScan_row_frame {a0} {a1} {a2} {a3} {a4} {s t : State} (h : exec (.laneEyeScan a0 a1 a2 a3 a4) s = .next t) : t.mask 37978178 = s.mask 37978178 := by
  have k := execLaneEyeScan_foot (w := 37978178) (by decide) a0 a1 a2 a3 a4 s
  have h : execLaneEyeScan a0 a1 a2 a3 a4 s = .next t := h
  rw [h] at k
  exact keeps_next.mp k
theorem laneEyeScan_row_valves {a0} {a1} {a2} {a3} {a4} {s t : State} (h : s.ValvesSafe) (e : exec (.laneEyeScan a0 a1 a2 a3 a4) s = .next t) : t.ValvesSafe := by
  exact valves_keep (mask_mono (by decide) (laneEyeScan_row_frame e)) h
theorem pllLock_row_fields {a0} {a1} {a2} : fieldSet (mayChange (.pllLock a0 a1 a2)) = 14680098 := rfl
theorem pllLock_row_frame {a0} {a1} {a2} {s t : State} (h : exec (.pllLock a0 a1 a2) s = .next t) : t.mask 14680098 = s.mask 14680098 := by
  have k := execPllLock_foot (w := 14680098) (by decide) a0 a1 a2 s
  have h : execPllLock a0 a1 a2 s = .next t := h
  rw [h] at k
  exact keeps_next.mp k
theorem pllLock_row_valves {a0} {a1} {a2} {s t : State} (h : s.ValvesSafe) (e : exec (.pllLock a0 a1 a2) s = .next t) : t.ValvesSafe := by
  exact valves_keep (mask_mono (by decide) (pllLock_row_frame e)) h
theorem trainingFrameReceived_row_fields {a0} {a1} {a2} : fieldSet (mayChange (.trainingFrameReceived a0 a1 a2)) = 3178598 := rfl
theorem trainingFrameReceived_row_frame {a0} {a1} {a2} {s t : State} (h : exec (.trainingFrameReceived a0 a1 a2) s = .next t) : t.mask 3178598 = s.mask 3178598 := by
  have k := execTrainingFrameReceived_foot (w := 3178598) (by decide) a0 a1 a2 s
  have h : execTrainingFrameReceived a0 a1 a2 s = .next t := h
  rw [h] at k
  exact keeps_next.mp k
theorem trainingFrameReceived_row_valves {a0} {a1} {a2} {s t : State} (h : s.ValvesSafe) (e : exec (.trainingFrameReceived a0 a1 a2) s = .next t) : t.ValvesSafe := by
  exact valves_keep (mask_mono (by decide) (trainingFrameReceived_row_frame e)) h
theorem coefficientUpdate_row_fields {a0} {a1} {a2} : fieldSet (mayChange (.coefficientUpdate a0 a1 a2)) = 2097184 := rfl
theorem coefficientUpdate_row_frame {a0} {a1} {a2} {s t : State} (h : exec (.coefficientUpdate a0 a1 a2) s = .next t) : t.mask 2097184 = s.mask 2097184 := by
  have k := execCoefficientUpdate_foot (w := 2097184) (by decide) a0 a1 a2 s
  have h : execCoefficientUpdate a0 a1 a2 s = .next t := h
  rw [h] at k
  exact keeps_next.mp k
theorem coefficientUpdate_row_valves {a0} {a1} {a2} {s t : State} (h : s.ValvesSafe) (e : exec (.coefficientUpdate a0 a1 a2) s = .next t) : t.ValvesSafe := by
  exact valves_keep (mask_mono (by decide) (coefficientUpdate_row_frame e)) h
theorem rxReady_row_fields {a0} {a1} {a2} : fieldSet (mayChange (.rxReady a0 a1 a2)) = 2097184 := rfl
theorem rxReady_row_frame {a0} {a1} {a2} {s t : State} (h : exec (.rxReady a0 a1 a2) s = .next t) : t.mask 2097184 = s.mask 2097184 := by
  have k := execRxReady_foot (w := 2097184) (by decide) a0 a1 a2 s
  have h : execRxReady a0 a1 a2 s = .next t := h
  rw [h] at k
  exact keeps_next.mp k
theorem rxReady_row_valves {a0} {a1} {a2} {s t : State} (h : s.ValvesSafe) (e : exec (.rxReady a0 a1 a2) s = .next t) : t.ValvesSafe := by
  exact valves_keep (mask_mono (by decide) (rxReady_row_frame e)) h
theorem trainEndDone_row_fields {a0} {a1} : fieldSet (mayChange (.trainEndDone a0 a1)) = 73400352 := rfl
theorem trainEndDone_row_frame {a0} {a1} {s t : State} (h : exec (.trainEndDone a0 a1) s = .next t) : t.mask 73400352 = s.mask 73400352 := by
  have k := execTrainEndDone_foot (w := 73400352) (by decide) a0 a1 s
  have h : execTrainEndDone a0 a1 s = .next t := h
  rw [h] at k
  exact keeps_next.mp k
theorem trainEndDone_row_valves {a0} {a1} {s t : State} (h : s.ValvesSafe) (e : exec (.trainEndDone a0 a1) s = .next t) : t.ValvesSafe := by
  exact valves_keep (mask_mono (by decide) (trainEndDone_row_frame e)) h
theorem trainingTimerExpiry_row_fields {a0} : fieldSet (mayChange (.trainingTimerExpiry a0)) = 3178594 := rfl
theorem trainingTimerExpiry_row_frame {a0} {s t : State} (h : exec (.trainingTimerExpiry a0) s = .next t) : t.mask 3178594 = s.mask 3178594 := by
  have k := execTrainingTimerExpiry_foot (w := 3178594) (by decide) a0 s
  have h : execTrainingTimerExpiry a0 s = .next t := h
  rw [h] at k
  exact keeps_next.mp k
theorem trainingTimerExpiry_row_valves {a0} {s t : State} (h : s.ValvesSafe) (e : exec (.trainingTimerExpiry a0) s = .next t) : t.ValvesSafe := by
  exact valves_keep (mask_mono (by decide) (trainingTimerExpiry_row_frame e)) h
theorem trainFailRetry_row_fields {a0} : fieldSet (mayChange (.trainFailRetry a0)) = 6291490 := rfl
theorem trainFailRetry_row_frame {a0} {s t : State} (h : exec (.trainFailRetry a0) s = .next t) : t.mask 6291490 = s.mask 6291490 := by
  have k := execTrainFailRetry_foot (w := 6291490) (by decide) a0 s
  have h : execTrainFailRetry a0 s = .next t := h
  rw [h] at k
  exact keeps_next.mp k
theorem trainFailRetry_row_valves {a0} {s t : State} (h : s.ValvesSafe) (e : exec (.trainFailRetry a0) s = .next t) : t.ValvesSafe := by
  exact valves_keep (mask_mono (by decide) (trainFailRetry_row_frame e)) h
theorem lockTimeout_row_fields {a0} : fieldSet (mayChange (.lockTimeout a0)) = 6291554 := rfl
theorem lockTimeout_row_frame {a0} {s t : State} (h : exec (.lockTimeout a0) s = .next t) : t.mask 6291554 = s.mask 6291554 := by
  have k := execLockTimeout_foot (w := 6291554) (by decide) a0 s
  have h : execLockTimeout a0 s = .next t := h
  rw [h] at k
  exact keeps_next.mp k
theorem lockTimeout_row_valves {a0} {s t : State} (h : s.ValvesSafe) (e : exec (.lockTimeout a0) s = .next t) : t.ValvesSafe := by
  exact valves_keep (mask_mono (by decide) (lockTimeout_row_frame e)) h
theorem idleFreeze_row_fields {a0} {a1} {a2} : fieldSet (mayChange (.idleFreeze a0 a1 a2)) = 2097184 := rfl
theorem idleFreeze_row_frame {a0} {a1} {a2} {s t : State} (h : exec (.idleFreeze a0 a1 a2) s = .next t) : t.mask 2097184 = s.mask 2097184 := by
  have k := execIdleFreeze_foot (w := 2097184) (by decide) a0 a1 a2 s
  have h : execIdleFreeze a0 a1 a2 s = .next t := h
  rw [h] at k
  exact keeps_next.mp k
theorem idleFreeze_row_valves {a0} {a1} {a2} {s t : State} (h : s.ValvesSafe) (e : exec (.idleFreeze a0 a1 a2) s = .next t) : t.ValvesSafe := by
  exact valves_keep (mask_mono (by decide) (idleFreeze_row_frame e)) h
theorem adaptationResume_row_fields {a0} {a1} : fieldSet (mayChange (.adaptationResume a0 a1)) = 2097184 := rfl
theorem adaptationResume_row_frame {a0} {a1} {s t : State} (h : exec (.adaptationResume a0 a1) s = .next t) : t.mask 2097184 = s.mask 2097184 := by
  have k := execAdaptationResume_foot (w := 2097184) (by decide) a0 a1 s
  have h : execAdaptationResume a0 a1 s = .next t := h
  rw [h] at k
  exact keeps_next.mp k
theorem adaptationResume_row_valves {a0} {a1} {s t : State} (h : s.ValvesSafe) (e : exec (.adaptationResume a0 a1) s = .next t) : t.ValvesSafe := by
  exact valves_keep (mask_mono (by decide) (adaptationResume_row_frame e)) h
theorem eyeWindow_row_fields {a0} {a1} {a2} : fieldSet (mayChange (.eyeWindow a0 a1 a2)) = 3178594 := rfl
theorem eyeWindow_row_frame {a0} {a1} {a2} {s t : State} (h : exec (.eyeWindow a0 a1 a2) s = .next t) : t.mask 3178594 = s.mask 3178594 := by
  have k := execEyeWindow_foot (w := 3178594) (by decide) a0 a1 a2 s
  have h : execEyeWindow a0 a1 a2 s = .next t := h
  rw [h] at k
  exact keeps_next.mp k
theorem eyeWindow_row_valves {a0} {a1} {a2} {s t : State} (h : s.ValvesSafe) (e : exec (.eyeWindow a0 a1 a2) s = .next t) : t.ValvesSafe := by
  exact valves_keep (mask_mono (by decide) (eyeWindow_row_frame e)) h
theorem driftAdaptEnd_row_fields {a0} {a1} {a2} : fieldSet (mayChange (.driftAdaptEnd a0 a1 a2)) = 2097184 := rfl
theorem driftAdaptEnd_row_frame {a0} {a1} {a2} {s t : State} (h : exec (.driftAdaptEnd a0 a1 a2) s = .next t) : t.mask 2097184 = s.mask 2097184 := by
  have k := execDriftAdaptEnd_foot (w := 2097184) (by decide) a0 a1 a2 s
  have h : execDriftAdaptEnd a0 a1 a2 s = .next t := h
  rw [h] at k
  exact keeps_next.mp k
theorem driftAdaptEnd_row_valves {a0} {a1} {a2} {s t : State} (h : s.ValvesSafe) (e : exec (.driftAdaptEnd a0 a1 a2) s = .next t) : t.ValvesSafe := by
  exact valves_keep (mask_mono (by decide) (driftAdaptEnd_row_frame e)) h
theorem losAssert_row_fields {a0} {a1} : fieldSet (mayChange (.losAssert a0 a1)) = 57733218 := rfl
theorem losAssert_row_frame {a0} {a1} {s t : State} (h : exec (.losAssert a0 a1) s = .next t) : t.mask 57733218 = s.mask 57733218 := by
  have k := execLosAssert_foot (w := 57733218) (by decide) a0 a1 s
  have h : execLosAssert a0 a1 s = .next t := h
  rw [h] at k
  exact keeps_next.mp k
theorem losAssert_row_valves {a0} {a1} {s t : State} (h : s.ValvesSafe) (e : exec (.losAssert a0 a1) s = .next t) : t.ValvesSafe := by
  exact valves_keep (mask_mono (by decide) (losAssert_row_frame e)) h
theorem losDeassert_row_fields {a0} {a1} : fieldSet (mayChange (.losDeassert a0 a1)) = 6291490 := rfl
theorem losDeassert_row_frame {a0} {a1} {s t : State} (h : exec (.losDeassert a0 a1) s = .next t) : t.mask 6291490 = s.mask 6291490 := by
  have k := execLosDeassert_foot (w := 6291490) (by decide) a0 a1 s
  have h : execLosDeassert a0 a1 s = .next t := h
  rw [h] at k
  exact keeps_next.mp k
theorem losDeassert_row_valves {a0} {a1} {s t : State} (h : s.ValvesSafe) (e : exec (.losDeassert a0 a1) s = .next t) : t.ValvesSafe := by
  exact valves_keep (mask_mono (by decide) (losDeassert_row_frame e)) h
theorem losRetrain_row_fields {a0} {a1} : fieldSet (mayChange (.losRetrain a0 a1)) = 6291554 := rfl
theorem losRetrain_row_frame {a0} {a1} {s t : State} (h : exec (.losRetrain a0 a1) s = .next t) : t.mask 6291554 = s.mask 6291554 := by
  have k := execLosRetrain_foot (w := 6291554) (by decide) a0 a1 s
  have h : execLosRetrain a0 a1 s = .next t := h
  rw [h] at k
  exact keeps_next.mp k
theorem losRetrain_row_valves {a0} {a1} {s t : State} (h : s.ValvesSafe) (e : exec (.losRetrain a0 a1) s = .next t) : t.ValvesSafe := by
  exact valves_keep (mask_mono (by decide) (losRetrain_row_frame e)) h
theorem lolAssert_row_fields {a0} {a1} : fieldSet (mayChange (.lolAssert a0 a1)) = 40956002 := rfl
theorem lolAssert_row_frame {a0} {a1} {s t : State} (h : exec (.lolAssert a0 a1) s = .next t) : t.mask 40956002 = s.mask 40956002 := by
  have k := execLolAssert_foot (w := 40956002) (by decide) a0 a1 s
  have h : execLolAssert a0 a1 s = .next t := h
  rw [h] at k
  exact keeps_next.mp k
theorem lolAssert_row_valves {a0} {a1} {s t : State} (h : s.ValvesSafe) (e : exec (.lolAssert a0 a1) s = .next t) : t.ValvesSafe := by
  exact valves_keep (mask_mono (by decide) (lolAssert_row_frame e)) h
theorem dozeSelfWake_row_fields {a0} {a1} : fieldSet (mayChange (.dozeSelfWake a0 a1)) = 2097184 := rfl
theorem dozeSelfWake_row_frame {a0} {a1} {s t : State} (h : exec (.dozeSelfWake a0 a1) s = .next t) : t.mask 2097184 = s.mask 2097184 := by
  have k := execDozeSelfWake_foot (w := 2097184) (by decide) a0 a1 s
  have h : execDozeSelfWake a0 a1 s = .next t := h
  rw [h] at k
  exact keeps_next.mp k
theorem dozeSelfWake_row_valves {a0} {a1} {s t : State} (h : s.ValvesSafe) (e : exec (.dozeSelfWake a0 a1) s = .next t) : t.ValvesSafe := by
  exact valves_keep (mask_mono (by decide) (dozeSelfWake_row_frame e)) h
theorem fastResumeTimeout_row_fields {a0} : fieldSet (mayChange (.fastResumeTimeout a0)) = 2097184 := rfl
theorem fastResumeTimeout_row_frame {a0} {s t : State} (h : exec (.fastResumeTimeout a0) s = .next t) : t.mask 2097184 = s.mask 2097184 := by
  have k := execFastResumeTimeout_foot (w := 2097184) (by decide) a0 s
  have h : execFastResumeTimeout a0 s = .next t := h
  rw [h] at k
  exact keeps_next.mp k
theorem fastResumeTimeout_row_valves {a0} {s t : State} (h : s.ValvesSafe) (e : exec (.fastResumeTimeout a0) s = .next t) : t.ValvesSafe := by
  exact valves_keep (mask_mono (by decide) (fastResumeTimeout_row_frame e)) h
theorem fecFrameReceived_row_fields {a0} {a1} {a2} : fieldSet (mayChange (.fecFrameReceived a0 a1 a2)) = 40956002 := rfl
theorem fecFrameReceived_row_frame {a0} {a1} {a2} {s t : State} (h : exec (.fecFrameReceived a0 a1 a2) s = .next t) : t.mask 40956002 = s.mask 40956002 := by
  have k := execFecFrameReceived_foot (w := 40956002) (by decide) a0 a1 a2 s
  have h : execFecFrameReceived a0 a1 a2 s = .next t := h
  rw [h] at k
  exact keeps_next.mp k
theorem fecFrameReceived_row_valves {a0} {a1} {a2} {s t : State} (h : s.ValvesSafe) (e : exec (.fecFrameReceived a0 a1 a2) s = .next t) : t.ValvesSafe := by
  exact valves_keep (mask_mono (by decide) (fecFrameReceived_row_frame e)) h
theorem huntPeriod_row_fields {a0} {a1} {a2} : fieldSet (mayChange (.huntPeriod a0 a1 a2)) = 37752866 := rfl
theorem huntPeriod_row_frame {a0} {a1} {a2} {s t : State} (h : exec (.huntPeriod a0 a1 a2) s = .next t) : t.mask 37752866 = s.mask 37752866 := by
  have k := execHuntPeriod_foot (w := 37752866) (by decide) a0 a1 a2 s
  have h : execHuntPeriod a0 a1 a2 s = .next t := h
  rw [h] at k
  exact keeps_next.mp k
theorem huntPeriod_row_valves {a0} {a1} {a2} {s t : State} (h : s.ValvesSafe) (e : exec (.huntPeriod a0 a1 a2) s = .next t) : t.ValvesSafe := by
  exact valves_keep (mask_mono (by decide) (huntPeriod_row_frame e)) h
theorem controlBlockReceived_row_fields {a0} {a1} {a2} : fieldSet (mayChange (.controlBlockReceived a0 a1 a2)) = 67088742 := rfl
theorem controlBlockReceived_row_frame {a0} {a1} {a2} {s t : State} (h : exec (.controlBlockReceived a0 a1 a2) s = .next t) : t.mask 67088742 = s.mask 67088742 := by
  have k := execControlBlockReceived_foot (w := 67088742) (by decide) a0 a1 a2 s
  have h : execControlBlockReceived a0 a1 a2 s = .next t := h
  rw [h] at k
  exact keeps_next.mp k
theorem controlBlockReceived_row_valves {a0} {a1} {a2} {s t : State} (h : s.ValvesSafe) (e : exec (.controlBlockReceived a0 a1 a2) s = .next t) : t.ValvesSafe := by
  exact valves_keep (mask_mono (by decide) (controlBlockReceived_row_frame e)) h
theorem packetReceived_row_fields {a0} {a1} {a2} : fieldSet (mayChange (.packetReceived a0 a1 a2)) = 17590038560766 := rfl
theorem packetReceived_row_frame {a0} {a1} {a2} {s t : State} (h : exec (.packetReceived a0 a1 a2) s = .next t) : t.mask 17590038560766 = s.mask 17590038560766 := by
  have k := execPacketReceived_foot (w := 17590038560766) (by decide) a0 a1 a2 s
  have h : execPacketReceived a0 a1 a2 s = .next t := h
  rw [h] at k
  exact keeps_next.mp k
theorem packetReceived_row_valves {a0} {a1} {a2} {s t : State} (h : s.ValvesSafe) (e : exec (.packetReceived a0 a1 a2) s = .next t) : t.ValvesSafe := by
  have k : OutcomeValves (execPacketReceived a0 a1 a2 s) := execPacketReceived_valves a0 a1 a2 s h
  have h : execPacketReceived a0 a1 a2 s = .next t := e
  rw [h] at k
  exact k
theorem lineSegmentReceived_row_fields {a0} {a1} {a2} : fieldSet (mayChange (.lineSegmentReceived a0 a1 a2)) = 72384618 := rfl
theorem lineSegmentReceived_row_frame {a0} {a1} {a2} {s t : State} (h : exec (.lineSegmentReceived a0 a1 a2) s = .next t) : t.mask 72384618 = s.mask 72384618 := by
  have k := execLineSegmentReceived_foot (w := 72384618) (by decide) a0 a1 a2 s
  have h : execLineSegmentReceived a0 a1 a2 s = .next t := h
  rw [h] at k
  exact keeps_next.mp k
theorem lineSegmentReceived_row_valves {a0} {a1} {a2} {s t : State} (h : s.ValvesSafe) (e : exec (.lineSegmentReceived a0 a1 a2) s = .next t) : t.ValvesSafe := by
  exact valves_keep (mask_mono (by decide) (lineSegmentReceived_row_frame e)) h
theorem fmarkReceived_row_fields {a0} {a1} {a2} {a3} {a4} {a5} : fieldSet (mayChange (.fmarkReceived a0 a1 a2 a3 a4 a5)) = 68190306 := rfl
theorem fmarkReceived_row_frame {a0} {a1} {a2} {a3} {a4} {a5} {s t : State} (h : exec (.fmarkReceived a0 a1 a2 a3 a4 a5) s = .next t) : t.mask 68190306 = s.mask 68190306 := by
  have k := execFmarkReceived_foot (w := 68190306) (by decide) a0 a1 a2 a3 a4 a5 s
  have h : execFmarkReceived a0 a1 a2 a3 a4 a5 s = .next t := h
  rw [h] at k
  exact keeps_next.mp k
theorem fmarkReceived_row_valves {a0} {a1} {a2} {a3} {a4} {a5} {s t : State} (h : s.ValvesSafe) (e : exec (.fmarkReceived a0 a1 a2 a3 a4 a5) s = .next t) : t.ValvesSafe := by
  exact valves_keep (mask_mono (by decide) (fmarkReceived_row_frame e)) h
theorem cctlRequestReceived_row_fields {a0} {a1} {a2} {a3} {a4} {a5} {a6} : fieldSet (mayChange (.cctlRequestReceived a0 a1 a2 a3 a4 a5 a6)) = 4194336 := rfl
theorem cctlRequestReceived_row_frame {a0} {a1} {a2} {a3} {a4} {a5} {a6} {s t : State} (h : exec (.cctlRequestReceived a0 a1 a2 a3 a4 a5 a6) s = .next t) : t.mask 4194336 = s.mask 4194336 := by
  have k := execCctlRequestReceived_foot (w := 4194336) (by decide) a0 a1 a2 a3 a4 a5 a6 s
  have h : execCctlRequestReceived a0 a1 a2 a3 a4 a5 a6 s = .next t := h
  rw [h] at k
  exact keeps_next.mp k
theorem cctlRequestReceived_row_valves {a0} {a1} {a2} {a3} {a4} {a5} {a6} {s t : State} (h : s.ValvesSafe) (e : exec (.cctlRequestReceived a0 a1 a2 a3 a4 a5 a6) s = .next t) : t.ValvesSafe := by
  exact valves_keep (mask_mono (by decide) (cctlRequestReceived_row_frame e)) h
theorem cctlAckReceived_row_fields {a0} {a1} {a2} {a3} {a4} {a5} : fieldSet (mayChange (.cctlAckReceived a0 a1 a2 a3 a4 a5)) = 38830182 := rfl
theorem cctlAckReceived_row_frame {a0} {a1} {a2} {a3} {a4} {a5} {s t : State} (h : exec (.cctlAckReceived a0 a1 a2 a3 a4 a5) s = .next t) : t.mask 38830182 = s.mask 38830182 := by
  have k := execCctlAckReceived_foot (w := 38830182) (by decide) a0 a1 a2 a3 a4 a5 s
  have h : execCctlAckReceived a0 a1 a2 a3 a4 a5 s = .next t := h
  rw [h] at k
  exact keeps_next.mp k
theorem cctlAckReceived_row_valves {a0} {a1} {a2} {a3} {a4} {a5} {s t : State} (h : s.ValvesSafe) (e : exec (.cctlAckReceived a0 a1 a2 a3 a4 a5) s = .next t) : t.ValvesSafe := by
  exact valves_keep (mask_mono (by decide) (cctlAckReceived_row_frame e)) h
theorem cctlTimeout_row_fields {a0} {a1} : fieldSet (mayChange (.cctlTimeout a0 a1)) = 4194336 := rfl
theorem cctlTimeout_row_frame {a0} {a1} {s t : State} (h : exec (.cctlTimeout a0 a1) s = .next t) : t.mask 4194336 = s.mask 4194336 := by
  have k := execCctlTimeout_foot (w := 4194336) (by decide) a0 a1 s
  have h : execCctlTimeout a0 a1 s = .next t := h
  rw [h] at k
  exact keeps_next.mp k
theorem cctlTimeout_row_valves {a0} {a1} {s t : State} (h : s.ValvesSafe) (e : exec (.cctlTimeout a0 a1) s = .next t) : t.ValvesSafe := by
  exact valves_keep (mask_mono (by decide) (cctlTimeout_row_frame e)) h
theorem testPacketReceived_row_fields {a0} {a1} {a2} : fieldSet (mayChange (.testPacketReceived a0 a1 a2)) = 4194304 := rfl
theorem testPacketReceived_row_frame {a0} {a1} {a2} {s t : State} (h : exec (.testPacketReceived a0 a1 a2) s = .next t) : t.mask 4194304 = s.mask 4194304 := by
  have k := execTestPacketReceived_foot (w := 4194304) (by decide) a0 a1 a2 s
  have h : execTestPacketReceived a0 a1 a2 s = .next t := h
  rw [h] at k
  exact keeps_next.mp k
theorem testPacketReceived_row_valves {a0} {a1} {a2} {s t : State} (h : s.ValvesSafe) (e : exec (.testPacketReceived a0 a1 a2) s = .next t) : t.ValvesSafe := by
  exact valves_keep (mask_mono (by decide) (testPacketReceived_row_frame e)) h
theorem eventBlockReceived_row_fields {a0} {a1} {a2} {a3} {a4} {a5} {a6} : fieldSet (mayChange (.eventBlockReceived a0 a1 a2 a3 a4 a5 a6)) = 4194336 := rfl
theorem eventBlockReceived_row_frame {a0} {a1} {a2} {a3} {a4} {a5} {a6} {s t : State} (h : exec (.eventBlockReceived a0 a1 a2 a3 a4 a5 a6) s = .next t) : t.mask 4194336 = s.mask 4194336 := by
  have k := execEventBlockReceived_foot (w := 4194336) (by decide) a0 a1 a2 a3 a4 a5 a6 s
  have h : execEventBlockReceived a0 a1 a2 a3 a4 a5 a6 s = .next t := h
  rw [h] at k
  exact keeps_next.mp k
theorem eventBlockReceived_row_valves {a0} {a1} {a2} {a3} {a4} {a5} {a6} {s t : State} (h : s.ValvesSafe) (e : exec (.eventBlockReceived a0 a1 a2 a3 a4 a5 a6) s = .next t) : t.ValvesSafe := by
  exact valves_keep (mask_mono (by decide) (eventBlockReceived_row_frame e)) h
theorem creditBlockReceived_row_fields {a0} {a1} {a2} : fieldSet (mayChange (.creditBlockReceived a0 a1 a2)) = 4194304 := rfl
theorem creditBlockReceived_row_frame {a0} {a1} {a2} {s t : State} (h : exec (.creditBlockReceived a0 a1 a2) s = .next t) : t.mask 4194304 = s.mask 4194304 := by
  have k := execCreditBlockReceived_foot (w := 4194304) (by decide) a0 a1 a2 s
  have h : execCreditBlockReceived a0 a1 a2 s = .next t := h
  rw [h] at k
  exact keeps_next.mp k
theorem creditBlockReceived_row_valves {a0} {a1} {a2} {s t : State} (h : s.ValvesSafe) (e : exec (.creditBlockReceived a0 a1 a2) s = .next t) : t.ValvesSafe := by
  exact valves_keep (mask_mono (by decide) (creditBlockReceived_row_frame e)) h
theorem creditRepeat_row_fields {a0} : fieldSet (mayChange (.creditRepeat a0)) = 2 := rfl
theorem creditRepeat_row_frame {a0} {s t : State} (h : exec (.creditRepeat a0) s = .next t) : t.mask 2 = s.mask 2 := by
  have k := execCreditRepeat_foot (w := 2) (by decide) a0 s
  have h : execCreditRepeat a0 s = .next t := h
  rw [h] at k
  exact keeps_next.mp k
theorem creditRepeat_row_valves {a0} {s t : State} (h : s.ValvesSafe) (e : exec (.creditRepeat a0) s = .next t) : t.ValvesSafe := by
  exact valves_keep (mask_mono (by decide) (creditRepeat_row_frame e)) h
theorem packetTransmit_row_fields {a0} : fieldSet (mayChange (.packetTransmit a0)) = 8663334918 := rfl
theorem packetTransmit_row_frame {a0} {s t : State} (h : exec (.packetTransmit a0) s = .next t) : t.mask 8663334918 = s.mask 8663334918 := by
  have k := execPacketTransmit_foot (w := 8663334918) (by decide) a0 s
  have h : execPacketTransmit a0 s = .next t := h
  rw [h] at k
  exact keeps_next.mp k
theorem packetTransmit_row_valves {a0} {s t : State} (h : s.ValvesSafe) (e : exec (.packetTransmit a0) s = .next t) : t.ValvesSafe := by
  exact valves_keep (mask_mono (by decide) (packetTransmit_row_frame e)) h
theorem generatedLine_row_fields {a0} {a1} : fieldSet (mayChange (.generatedLine a0 a1)) = 4194338 := rfl
theorem generatedLine_row_frame {a0} {a1} {s t : State} (h : exec (.generatedLine a0 a1) s = .next t) : t.mask 4194338 = s.mask 4194338 := by
  have k := execGeneratedLine_foot (w := 4194338) (by decide) a0 a1 s
  have h : execGeneratedLine a0 a1 s = .next t := h
  rw [h] at k
  exact keeps_next.mp k
theorem generatedLine_row_valves {a0} {a1} {s t : State} (h : s.ValvesSafe) (e : exec (.generatedLine a0 a1) s = .next t) : t.ValvesSafe := by
  exact valves_keep (mask_mono (by decide) (generatedLine_row_frame e)) h
theorem timeSyncSend_row_fields {a0} {a1} : fieldSet (mayChange (.timeSyncSend a0 a1)) = 4194338 := rfl
theorem timeSyncSend_row_frame {a0} {a1} {s t : State} (h : exec (.timeSyncSend a0 a1) s = .next t) : t.mask 4194338 = s.mask 4194338 := by
  have k := execTimeSyncSend_foot (w := 4194338) (by decide) a0 a1 s
  have h : execTimeSyncSend a0 a1 s = .next t := h
  rw [h] at k
  exact keeps_next.mp k
theorem timeSyncSend_row_valves {a0} {a1} {s t : State} (h : s.ValvesSafe) (e : exec (.timeSyncSend a0 a1) s = .next t) : t.ValvesSafe := by
  exact valves_keep (mask_mono (by decide) (timeSyncSend_row_frame e)) h
theorem timeBlockReceived_row_fields {a0} {a1} {a2} {a3} {a4} {a5} {a6} : fieldSet (mayChange (.timeBlockReceived a0 a1 a2 a3 a4 a5 a6)) = 39366758 := rfl
theorem timeBlockReceived_row_frame {a0} {a1} {a2} {a3} {a4} {a5} {a6} {s t : State} (h : exec (.timeBlockReceived a0 a1 a2 a3 a4 a5 a6) s = .next t) : t.mask 39366758 = s.mask 39366758 := by
  have k := execTimeBlockReceived_foot (w := 39366758) (by decide) a0 a1 a2 a3 a4 a5 a6 s
  have h : execTimeBlockReceived a0 a1 a2 a3 a4 a5 a6 s = .next t := h
  rw [h] at k
  exact keeps_next.mp k
theorem timeBlockReceived_row_valves {a0} {a1} {a2} {a3} {a4} {a5} {a6} {s t : State} (h : s.ValvesSafe) (e : exec (.timeBlockReceived a0 a1 a2 a3 a4 a5 a6) s = .next t) : t.ValvesSafe := by
  exact valves_keep (mask_mono (by decide) (timeBlockReceived_row_frame e)) h
theorem timeExchangeMissed_row_fields {a0} : fieldSet (mayChange (.timeExchangeMissed a0)) = 4194304 := rfl
theorem timeExchangeMissed_row_frame {a0} {s t : State} (h : exec (.timeExchangeMissed a0) s = .next t) : t.mask 4194304 = s.mask 4194304 := by
  have k := execTimeExchangeMissed_foot (w := 4194304) (by decide) a0 s
  have h : execTimeExchangeMissed a0 s = .next t := h
  rw [h] at k
  exact keeps_next.mp k
theorem timeExchangeMissed_row_valves {a0} {s t : State} (h : s.ValvesSafe) (e : exec (.timeExchangeMissed a0) s = .next t) : t.ValvesSafe := by
  exact valves_keep (mask_mono (by decide) (timeExchangeMissed_row_frame e)) h
theorem lmsgReceived_row_fields {a0} {a1} {a2} {a3} : fieldSet (mayChange (.lmsgReceived a0 a1 a2 a3)) = 65503586 := rfl
theorem lmsgReceived_row_frame {a0} {a1} {a2} {a3} {s t : State} (h : exec (.lmsgReceived a0 a1 a2 a3) s = .next t) : t.mask 65503586 = s.mask 65503586 := by
  have k := execLmsgReceived_foot (w := 65503586) (by decide) a0 a1 a2 a3 s
  have h : execLmsgReceived a0 a1 a2 a3 s = .next t := h
  rw [h] at k
  exact keeps_next.mp k
theorem lmsgReceived_row_valves {a0} {a1} {a2} {a3} {s t : State} (h : s.ValvesSafe) (e : exec (.lmsgReceived a0 a1 a2 a3) s = .next t) : t.ValvesSafe := by
  exact valves_keep (mask_mono (by decide) (lmsgReceived_row_frame e)) h
theorem powerExchangeTimeout_row_fields {a0} : fieldSet (mayChange (.powerExchangeTimeout a0)) = 40337762 := rfl
theorem powerExchangeTimeout_row_frame {a0} {s t : State} (h : exec (.powerExchangeTimeout a0) s = .next t) : t.mask 40337762 = s.mask 40337762 := by
  have k := execPowerExchangeTimeout_foot (w := 40337762) (by decide) a0 s
  have h : execPowerExchangeTimeout a0 s = .next t := h
  rw [h] at k
  exact keeps_next.mp k
theorem powerExchangeTimeout_row_valves {a0} {s t : State} (h : s.ValvesSafe) (e : exec (.powerExchangeTimeout a0) s = .next t) : t.ValvesSafe := by
  exact valves_keep (mask_mono (by decide) (powerExchangeTimeout_row_frame e)) h
theorem alignMarkSend_row_fields {a0} {a1} : fieldSet (mayChange (.alignMarkSend a0 a1)) = 4194338 := rfl
theorem alignMarkSend_row_frame {a0} {a1} {s t : State} (h : exec (.alignMarkSend a0 a1) s = .next t) : t.mask 4194338 = s.mask 4194338 := by
  have k := execAlignMarkSend_foot (w := 4194338) (by decide) a0 a1 s
  have h : execAlignMarkSend a0 a1 s = .next t := h
  rw [h] at k
  exact keeps_next.mp k
theorem alignMarkSend_row_valves {a0} {a1} {s t : State} (h : s.ValvesSafe) (e : exec (.alignMarkSend a0 a1) s = .next t) : t.ValvesSafe := by
  exact valves_keep (mask_mono (by decide) (alignMarkSend_row_frame e)) h
theorem alignMarkReceived_row_fields {a0} {a1} {a2} {a3} : fieldSet (mayChange (.alignMarkReceived a0 a1 a2 a3)) = 38830178 := rfl
theorem alignMarkReceived_row_frame {a0} {a1} {a2} {a3} {s t : State} (h : exec (.alignMarkReceived a0 a1 a2 a3) s = .next t) : t.mask 38830178 = s.mask 38830178 := by
  have k := execAlignMarkReceived_foot (w := 38830178) (by decide) a0 a1 a2 a3 s
  have h : execAlignMarkReceived a0 a1 a2 a3 s = .next t := h
  rw [h] at k
  exact keeps_next.mp k
theorem alignMarkReceived_row_valves {a0} {a1} {a2} {a3} {s t : State} (h : s.ValvesSafe) (e : exec (.alignMarkReceived a0 a1 a2 a3) s = .next t) : t.ValvesSafe := by
  exact valves_keep (mask_mono (by decide) (alignMarkReceived_row_frame e)) h
theorem linkDegrade_row_fields {a0} {a1} : fieldSet (mayChange (.linkDegrade a0 a1)) = 41386338 := rfl
theorem linkDegrade_row_frame {a0} {a1} {s t : State} (h : exec (.linkDegrade a0 a1) s = .next t) : t.mask 41386338 = s.mask 41386338 := by
  have k := execLinkDegrade_foot (w := 41386338) (by decide) a0 a1 s
  have h : execLinkDegrade a0 a1 s = .next t := h
  rw [h] at k
  exact keeps_next.mp k
theorem linkDegrade_row_valves {a0} {a1} {s t : State} (h : s.ValvesSafe) (e : exec (.linkDegrade a0 a1) s = .next t) : t.ValvesSafe := by
  exact valves_keep (mask_mono (by decide) (linkDegrade_row_frame e)) h
theorem alignDegradeReceived_row_fields {a0} {a1} {a2} : fieldSet (mayChange (.alignDegradeReceived a0 a1 a2)) = 41386338 := rfl
theorem alignDegradeReceived_row_frame {a0} {a1} {a2} {s t : State} (h : exec (.alignDegradeReceived a0 a1 a2) s = .next t) : t.mask 41386338 = s.mask 41386338 := by
  have k := execAlignDegradeReceived_foot (w := 41386338) (by decide) a0 a1 a2 s
  have h : execAlignDegradeReceived a0 a1 a2 s = .next t := h
  rw [h] at k
  exact keeps_next.mp k
theorem alignDegradeReceived_row_valves {a0} {a1} {a2} {s t : State} (h : s.ValvesSafe) (e : exec (.alignDegradeReceived a0 a1 a2) s = .next t) : t.ValvesSafe := by
  exact valves_keep (mask_mono (by decide) (alignDegradeReceived_row_frame e)) h
theorem alignRestripeReceived_row_fields {a0} {a1} {a2} : fieldSet (mayChange (.alignRestripeReceived a0 a1 a2)) = 4194336 := rfl
theorem alignRestripeReceived_row_frame {a0} {a1} {a2} {s t : State} (h : exec (.alignRestripeReceived a0 a1 a2) s = .next t) : t.mask 4194336 = s.mask 4194336 := by
  have k := execAlignRestripeReceived_foot (w := 4194336) (by decide) a0 a1 a2 s
  have h : execAlignRestripeReceived a0 a1 a2 s = .next t := h
  rw [h] at k
  exact keeps_next.mp k
theorem alignRestripeReceived_row_valves {a0} {a1} {a2} {s t : State} (h : s.ValvesSafe) (e : exec (.alignRestripeReceived a0 a1 a2) s = .next t) : t.ValvesSafe := by
  exact valves_keep (mask_mono (by decide) (alignRestripeReceived_row_frame e)) h
theorem bondLaneRestore_row_fields {a0} {a1} : fieldSet (mayChange (.bondLaneRestore a0 a1)) = 4130 := rfl
theorem bondLaneRestore_row_frame {a0} {a1} {s t : State} (h : exec (.bondLaneRestore a0 a1) s = .next t) : t.mask 4130 = s.mask 4130 := by
  have k := execBondLaneRestore_foot (w := 4130) (by decide) a0 a1 s
  have h : execBondLaneRestore a0 a1 s = .next t := h
  rw [h] at k
  exact keeps_next.mp k
theorem bondLaneRestore_row_valves {a0} {a1} {s t : State} (h : s.ValvesSafe) (e : exec (.bondLaneRestore a0 a1) s = .next t) : t.ValvesSafe := by
  exact valves_keep (mask_mono (by decide) (bondLaneRestore_row_frame e)) h
theorem alignRestoreReceived_row_fields {a0} {a1} {a2} : fieldSet (mayChange (.alignRestoreReceived a0 a1 a2)) = 4194338 := rfl
theorem alignRestoreReceived_row_frame {a0} {a1} {a2} {s t : State} (h : exec (.alignRestoreReceived a0 a1 a2) s = .next t) : t.mask 4194338 = s.mask 4194338 := by
  have k := execAlignRestoreReceived_foot (w := 4194338) (by decide) a0 a1 a2 s
  have h : execAlignRestoreReceived a0 a1 a2 s = .next t := h
  rw [h] at k
  exact keeps_next.mp k
theorem alignRestoreReceived_row_valves {a0} {a1} {a2} {s t : State} (h : s.ValvesSafe) (e : exec (.alignRestoreReceived a0 a1 a2) s = .next t) : t.ValvesSafe := by
  exact valves_keep (mask_mono (by decide) (alignRestoreReceived_row_frame e)) h
theorem descriptorRead_row_fields {a0} {a1} : fieldSet (mayChange (.descriptorRead a0 a1)) = 4194336 := rfl
theorem descriptorRead_row_frame {a0} {a1} {s t : State} (h : exec (.descriptorRead a0 a1) s = .next t) : t.mask 4194336 = s.mask 4194336 := by
  have k := execDescriptorRead_foot (w := 4194336) (by decide) a0 a1 s
  have h : execDescriptorRead a0 a1 s = .next t := h
  rw [h] at k
  exact keeps_next.mp k
theorem descriptorRead_row_valves {a0} {a1} {s t : State} (h : s.ValvesSafe) (e : exec (.descriptorRead a0 a1) s = .next t) : t.ValvesSafe := by
  exact valves_keep (mask_mono (by decide) (descriptorRead_row_frame e)) h
theorem descriptorReadRetry_row_fields {a0} : fieldSet (mayChange (.descriptorReadRetry a0)) = 4194336 := rfl
theorem descriptorReadRetry_row_frame {a0} {s t : State} (h : exec (.descriptorReadRetry a0) s = .next t) : t.mask 4194336 = s.mask 4194336 := by
  have k := execDescriptorReadRetry_foot (w := 4194336) (by decide) a0 s
  have h : execDescriptorReadRetry a0 s = .next t := h
  rw [h] at k
  exact keeps_next.mp k
theorem descriptorReadRetry_row_valves {a0} {s t : State} (h : s.ValvesSafe) (e : exec (.descriptorReadRetry a0) s = .next t) : t.ValvesSafe := by
  exact valves_keep (mask_mono (by decide) (descriptorReadRetry_row_frame e)) h
theorem ethFrameReceived_row_fields {a0} {a1} {a2} {a3} {a4} : fieldSet (mayChange (.ethFrameReceived a0 a1 a2 a3 a4)) = 22052962 := rfl
theorem ethFrameReceived_row_frame {a0} {a1} {a2} {a3} {a4} {s t : State} (h : exec (.ethFrameReceived a0 a1 a2 a3 a4) s = .next t) : t.mask 22052962 = s.mask 22052962 := by
  have k := execEthFrameReceived_foot (w := 22052962) (by decide) a0 a1 a2 a3 a4 s
  have h : execEthFrameReceived a0 a1 a2 a3 a4 s = .next t := h
  rw [h] at k
  exact keeps_next.mp k
theorem ethFrameReceived_row_valves {a0} {a1} {a2} {a3} {a4} {s t : State} (h : s.ValvesSafe) (e : exec (.ethFrameReceived a0 a1 a2 a3 a4) s = .next t) : t.ValvesSafe := by
  exact valves_keep (mask_mono (by decide) (ethFrameReceived_row_frame e)) h
theorem ethLinkUp_row_fields {a0} {a1} : fieldSet (mayChange (.ethLinkUp a0 a1)) = 18878496 := rfl
theorem ethLinkUp_row_frame {a0} {a1} {s t : State} (h : exec (.ethLinkUp a0 a1) s = .next t) : t.mask 18878496 = s.mask 18878496 := by
  have k := execEthLinkUp_foot (w := 18878496) (by decide) a0 a1 s
  have h : execEthLinkUp a0 a1 s = .next t := h
  rw [h] at k
  exact keeps_next.mp k
theorem ethLinkUp_row_valves {a0} {a1} {s t : State} (h : s.ValvesSafe) (e : exec (.ethLinkUp a0 a1) s = .next t) : t.ValvesSafe := by
  exact valves_keep (mask_mono (by decide) (ethLinkUp_row_frame e)) h
theorem arpIcmpAnswer_row_fields {a0} {a1} : fieldSet (mayChange (.arpIcmpAnswer a0 a1)) = 16777250 := rfl
theorem arpIcmpAnswer_row_frame {a0} {a1} {s t : State} (h : exec (.arpIcmpAnswer a0 a1) s = .next t) : t.mask 16777250 = s.mask 16777250 := by
  have k := execArpIcmpAnswer_foot (w := 16777250) (by decide) a0 a1 s
  have h : execArpIcmpAnswer a0 a1 s = .next t := h
  rw [h] at k
  exact keeps_next.mp k
theorem arpIcmpAnswer_row_valves {a0} {a1} {s t : State} (h : s.ValvesSafe) (e : exec (.arpIcmpAnswer a0 a1) s = .next t) : t.ValvesSafe := by
  exact valves_keep (mask_mono (by decide) (arpIcmpAnswer_row_frame e)) h
theorem tunnelOutSend_row_fields {a0} {a1} : fieldSet (mayChange (.tunnelOutSend a0 a1)) = 1081442 := rfl
theorem tunnelOutSend_row_frame {a0} {a1} {s t : State} (h : exec (.tunnelOutSend a0 a1) s = .next t) : t.mask 1081442 = s.mask 1081442 := by
  have k := execTunnelOutSend_foot (w := 1081442) (by decide) a0 a1 s
  have h : execTunnelOutSend a0 a1 s = .next t := h
  rw [h] at k
  exact keeps_next.mp k
theorem tunnelOutSend_row_valves {a0} {a1} {s t : State} (h : s.ValvesSafe) (e : exec (.tunnelOutSend a0 a1) s = .next t) : t.ValvesSafe := by
  exact valves_keep (mask_mono (by decide) (tunnelOutSend_row_frame e)) h
theorem gvspPacketReceived_row_fields {a0} {a1} {a2} {a3} : fieldSet (mayChange (.gvspPacketReceived a0 a1 a2 a3)) = 89161834 := rfl
theorem gvspPacketReceived_row_frame {a0} {a1} {a2} {a3} {s t : State} (h : exec (.gvspPacketReceived a0 a1 a2 a3) s = .next t) : t.mask 89161834 = s.mask 89161834 := by
  have k := execGvspPacketReceived_foot (w := 89161834) (by decide) a0 a1 a2 a3 s
  have h : execGvspPacketReceived a0 a1 a2 a3 s = .next t := h
  rw [h] at k
  exact keeps_next.mp k
theorem gvspPacketReceived_row_valves {a0} {a1} {a2} {a3} {s t : State} (h : s.ValvesSafe) (e : exec (.gvspPacketReceived a0 a1 a2 a3) s = .next t) : t.ValvesSafe := by
  exact valves_keep (mask_mono (by decide) (gvspPacketReceived_row_frame e)) h
theorem gvspBlockTimeout_row_fields {a0} {a1} : fieldSet (mayChange (.gvspBlockTimeout a0 a1)) = 89161834 := rfl
theorem gvspBlockTimeout_row_frame {a0} {a1} {s t : State} (h : exec (.gvspBlockTimeout a0 a1) s = .next t) : t.mask 89161834 = s.mask 89161834 := by
  have k := execGvspBlockTimeout_foot (w := 89161834) (by decide) a0 a1 s
  have h : execGvspBlockTimeout a0 a1 s = .next t := h
  rw [h] at k
  exact keeps_next.mp k
theorem gvspBlockTimeout_row_valves {a0} {a1} {s t : State} (h : s.ValvesSafe) (e : exec (.gvspBlockTimeout a0 a1) s = .next t) : t.ValvesSafe := by
  exact valves_keep (mask_mono (by decide) (gvspBlockTimeout_row_frame e)) h
theorem ptpMessageSend_row_fields {a0} {a1} {a2} : fieldSet (mayChange (.ptpMessageSend a0 a1 a2)) = 16777250 := rfl
theorem ptpMessageSend_row_frame {a0} {a1} {a2} {s t : State} (h : exec (.ptpMessageSend a0 a1 a2) s = .next t) : t.mask 16777250 = s.mask 16777250 := by
  have k := execPtpMessageSend_foot (w := 16777250) (by decide) a0 a1 a2 s
  have h : execPtpMessageSend a0 a1 a2 s = .next t := h
  rw [h] at k
  exact keeps_next.mp k
theorem ptpMessageSend_row_valves {a0} {a1} {a2} {s t : State} (h : s.ValvesSafe) (e : exec (.ptpMessageSend a0 a1 a2) s = .next t) : t.ValvesSafe := by
  exact valves_keep (mask_mono (by decide) (ptpMessageSend_row_frame e)) h
theorem ptpMessageReceived_row_fields {a0} {a1} {a2} : fieldSet (mayChange (.ptpMessageReceived a0 a1 a2)) = 55607398 := rfl
theorem ptpMessageReceived_row_frame {a0} {a1} {a2} {s t : State} (h : exec (.ptpMessageReceived a0 a1 a2) s = .next t) : t.mask 55607398 = s.mask 55607398 := by
  have k := execPtpMessageReceived_foot (w := 55607398) (by decide) a0 a1 a2 s
  have h : execPtpMessageReceived a0 a1 a2 s = .next t := h
  rw [h] at k
  exact keeps_next.mp k
theorem ptpMessageReceived_row_valves {a0} {a1} {a2} {s t : State} (h : s.ValvesSafe) (e : exec (.ptpMessageReceived a0 a1 a2) s = .next t) : t.ValvesSafe := by
  exact valves_keep (mask_mono (by decide) (ptpMessageReceived_row_frame e)) h
theorem ctxCreate_row_fields {a0} {a1} : fieldSet (mayChange (.ctxCreate a0 a1)) = 121864258 := rfl
theorem ctxCreate_row_frame {a0} {a1} {s t : State} (h : exec (.ctxCreate a0 a1) s = .next t) : t.mask 121864258 = s.mask 121864258 := by
  have k := execCtxCreate_foot (w := 121864258) (by decide) a0 a1 s
  have h : execCtxCreate a0 a1 s = .next t := h
  rw [h] at k
  exact keeps_next.mp k
theorem ctxCreate_row_valves {a0} {a1} {s t : State} (h : s.ValvesSafe) (e : exec (.ctxCreate a0 a1) s = .next t) : t.ValvesSafe := by
  exact valves_keep (mask_mono (by decide) (ctxCreate_row_frame e)) h
theorem ctxSet_row_fields {a0} {a1} : fieldSet (mayChange (.ctxSet a0 a1)) = 105087042 := rfl
theorem ctxSet_row_frame {a0} {a1} {s t : State} (h : exec (.ctxSet a0 a1) s = .next t) : t.mask 105087042 = s.mask 105087042 := by
  have k := execCtxSet_foot (w := 105087042) (by decide) a0 a1 s
  have h : execCtxSet a0 a1 s = .next t := h
  rw [h] at k
  exact keeps_next.mp k
theorem ctxSet_row_valves {a0} {a1} {s t : State} (h : s.ValvesSafe) (e : exec (.ctxSet a0 a1) s = .next t) : t.ValvesSafe := by
  exact valves_keep (mask_mono (by decide) (ctxSet_row_frame e)) h
theorem ctxAssign_row_fields {a0} {a1} : fieldSet (mayChange (.ctxAssign a0 a1)) = 239305794 := rfl
theorem ctxAssign_row_frame {a0} {a1} {s t : State} (h : exec (.ctxAssign a0 a1) s = .next t) : t.mask 239305794 = s.mask 239305794 := by
  have k := execCtxAssign_foot (w := 239305794) (by decide) a0 a1 s
  have h : execCtxAssign a0 a1 s = .next t := h
  rw [h] at k
  exact keeps_next.mp k
theorem ctxAssign_row_valves {a0} {a1} {s t : State} (h : s.ValvesSafe) (e : exec (.ctxAssign a0 a1) s = .next t) : t.ValvesSafe := by
  exact valves_keep (mask_mono (by decide) (ctxAssign_row_frame e)) h
theorem ctxStart_row_fields {a0} {a1} : fieldSet (mayChange (.ctxStart a0 a1)) = 108234070 := rfl
theorem ctxStart_row_frame {a0} {a1} {s t : State} (h : exec (.ctxStart a0 a1) s = .next t) : t.mask 108234070 = s.mask 108234070 := by
  have k := execCtxStart_foot (w := 108234070) (by decide) a0 a1 s
  have h : execCtxStart a0 a1 s = .next t := h
  rw [h] at k
  exact keeps_next.mp k
theorem ctxStart_row_valves {a0} {a1} {s t : State} (h : s.ValvesSafe) (e : exec (.ctxStart a0 a1) s = .next t) : t.ValvesSafe := by
  exact valves_keep (mask_mono (by decide) (ctxStart_row_frame e)) h
theorem ctxStop_row_fields {a0} {a1} : fieldSet (mayChange (.ctxStop a0 a1)) = 105087042 := rfl
theorem ctxStop_row_frame {a0} {a1} {s t : State} (h : exec (.ctxStop a0 a1) s = .next t) : t.mask 105087042 = s.mask 105087042 := by
  have k := execCtxStop_foot (w := 105087042) (by decide) a0 a1 s
  have h : execCtxStop a0 a1 s = .next t := h
  rw [h] at k
  exact keeps_next.mp k
theorem ctxStop_row_valves {a0} {a1} {s t : State} (h : s.ValvesSafe) (e : exec (.ctxStop a0 a1) s = .next t) : t.ValvesSafe := by
  exact valves_keep (mask_mono (by decide) (ctxStop_row_frame e)) h
theorem ctxStopped_row_fields {a0} : fieldSet (mayChange (.ctxStopped a0)) = 68190274 := rfl
theorem ctxStopped_row_frame {a0} {s t : State} (h : exec (.ctxStopped a0) s = .next t) : t.mask 68190274 = s.mask 68190274 := by
  have k := execCtxStopped_foot (w := 68190274) (by decide) a0 s
  have h : execCtxStopped a0 s = .next t := h
  rw [h] at k
  exact keeps_next.mp k
theorem ctxStopped_row_valves {a0} {s t : State} (h : s.ValvesSafe) (e : exec (.ctxStopped a0) s = .next t) : t.ValvesSafe := by
  exact valves_keep (mask_mono (by decide) (ctxStopped_row_frame e)) h
theorem ctxRelease_row_fields {a0} {a1} : fieldSet (mayChange (.ctxRelease a0 a1)) = 239304770 := rfl
theorem ctxRelease_row_frame {a0} {a1} {s t : State} (h : exec (.ctxRelease a0 a1) s = .next t) : t.mask 239304770 = s.mask 239304770 := by
  have k := execCtxRelease_foot (w := 239304770) (by decide) a0 a1 s
  have h : execCtxRelease a0 a1 s = .next t := h
  rw [h] at k
  exact keeps_next.mp k
theorem ctxRelease_row_valves {a0} {a1} {s t : State} (h : s.ValvesSafe) (e : exec (.ctxRelease a0 a1) s = .next t) : t.ValvesSafe := by
  exact valves_keep (mask_mono (by decide) (ctxRelease_row_frame e)) h
theorem ctxDestroy_row_fields {a0} {a1} : fieldSet (mayChange (.ctxDestroy a0 a1)) = 73119531082 := rfl
theorem ctxDestroy_row_frame {a0} {a1} {s t : State} (h : exec (.ctxDestroy a0 a1) s = .next t) : t.mask 73119531082 = s.mask 73119531082 := by
  have k := execCtxDestroy_foot (w := 73119531082) (by decide) a0 a1 s
  have h : execCtxDestroy a0 a1 s = .next t := h
  rw [h] at k
  exact keeps_next.mp k
theorem ctxDestroy_row_valves {a0} {a1} {s t : State} (h : s.ValvesSafe) (e : exec (.ctxDestroy a0 a1) s = .next t) : t.ValvesSafe := by
  exact valves_keep (mask_mono (by decide) (ctxDestroy_row_frame e)) h
theorem ctxGetStatus_row_fields {a0} {a1} : fieldSet (mayChange (.ctxGetStatus a0 a1)) = 105087042 := rfl
theorem ctxGetStatus_row_frame {a0} {a1} {s t : State} (h : exec (.ctxGetStatus a0 a1) s = .next t) : t.mask 105087042 = s.mask 105087042 := by
  have k := execCtxGetStatus_foot (w := 105087042) (by decide) a0 a1 s
  have h : execCtxGetStatus a0 a1 s = .next t := h
  rw [h] at k
  exact keeps_next.mp k
theorem ctxGetStatus_row_valves {a0} {a1} {s t : State} (h : s.ValvesSafe) (e : exec (.ctxGetStatus a0 a1) s = .next t) : t.ValvesSafe := by
  exact valves_keep (mask_mono (by decide) (ctxGetStatus_row_frame e)) h
theorem intakeSetPartition_row_fields {a0} {a1} : fieldSet (mayChange (.intakeSetPartition a0 a1)) = 306413634 := rfl
theorem intakeSetPartition_row_frame {a0} {a1} {s t : State} (h : exec (.intakeSetPartition a0 a1) s = .next t) : t.mask 306413634 = s.mask 306413634 := by
  have k := execIntakeSetPartition_foot (w := 306413634) (by decide) a0 a1 s
  have h : execIntakeSetPartition a0 a1 s = .next t := h
  rw [h] at k
  exact keeps_next.mp k
theorem intakeSetPartition_row_valves {a0} {a1} {s t : State} (h : s.ValvesSafe) (e : exec (.intakeSetPartition a0 a1) s = .next t) : t.ValvesSafe := by
  exact valves_keep (mask_mono (by decide) (intakeSetPartition_row_frame e)) h
theorem combSetSpare_row_fields {a0} {a1} : fieldSet (mayChange (.combSetSpare a0 a1)) = 172195922 := rfl
theorem combSetSpare_row_frame {a0} {a1} {s t : State} (h : exec (.combSetSpare a0 a1) s = .next t) : t.mask 172195922 = s.mask 172195922 := by
  have k := execCombSetSpare_foot (w := 172195922) (by decide) a0 a1 s
  have h : execCombSetSpare a0 a1 s = .next t := h
  rw [h] at k
  exact keeps_next.mp k
theorem combSetSpare_row_valves {a0} {a1} {s t : State} (h : s.ValvesSafe) (e : exec (.combSetSpare a0 a1) s = .next t) : t.ValvesSafe := by
  exact valves_keep (mask_mono (by decide) (combSetSpare_row_frame e)) h
theorem combGetStatus_row_fields {a0} {a1} : fieldSet (mayChange (.combGetStatus a0 a1)) = 37978178 := rfl
theorem combGetStatus_row_frame {a0} {a1} {s t : State} (h : exec (.combGetStatus a0 a1) s = .next t) : t.mask 37978178 = s.mask 37978178 := by
  have k := execCombGetStatus_foot (w := 37978178) (by decide) a0 a1 s
  have h : execCombGetStatus a0 a1 s = .next t := h
  rw [h] at k
  exact keeps_next.mp k
theorem combGetStatus_row_valves {a0} {a1} {s t : State} (h : s.ValvesSafe) (e : exec (.combGetStatus a0 a1) s = .next t) : t.ValvesSafe := by
  exact valves_keep (mask_mono (by decide) (combGetStatus_row_frame e)) h
theorem lineTimeoutExpiry_row_fields {a0} {a1} : fieldSet (mayChange (.lineTimeoutExpiry a0 a1)) = 68190314 := rfl
theorem lineTimeoutExpiry_row_frame {a0} {a1} {s t : State} (h : exec (.lineTimeoutExpiry a0 a1) s = .next t) : t.mask 68190314 = s.mask 68190314 := by
  have k := execLineTimeoutExpiry_foot (w := 68190314) (by decide) a0 a1 s
  have h : execLineTimeoutExpiry a0 a1 s = .next t := h
  rw [h] at k
  exact keeps_next.mp k
theorem lineTimeoutExpiry_row_valves {a0} {a1} {s t : State} (h : s.ValvesSafe) (e : exec (.lineTimeoutExpiry a0 a1) s = .next t) : t.ValvesSafe := by
  exact valves_keep (mask_mono (by decide) (lineTimeoutExpiry_row_frame e)) h
theorem frameTimeoutExpiry_row_fields {a0} : fieldSet (mayChange (.frameTimeoutExpiry a0)) = 68190306 := rfl
theorem frameTimeoutExpiry_row_frame {a0} {s t : State} (h : exec (.frameTimeoutExpiry a0) s = .next t) : t.mask 68190306 = s.mask 68190306 := by
  have k := execFrameTimeoutExpiry_foot (w := 68190306) (by decide) a0 s
  have h : execFrameTimeoutExpiry a0 s = .next t := h
  rw [h] at k
  exact keeps_next.mp k
theorem frameTimeoutExpiry_row_valves {a0} {s t : State} (h : s.ValvesSafe) (e : exec (.frameTimeoutExpiry a0) s = .next t) : t.ValvesSafe := by
  exact valves_keep (mask_mono (by decide) (frameTimeoutExpiry_row_frame e)) h
theorem stripeStart_row_fields {a0} {a1} : fieldSet (mayChange (.stripeStart a0 a1)) = 8792342634 := rfl
theorem stripeStart_row_frame {a0} {a1} {s t : State} (h : exec (.stripeStart a0 a1) s = .next t) : t.mask 8792342634 = s.mask 8792342634 := by
  have k := execStripeStart_foot (w := 8792342634) (by decide) a0 a1 s
  have h : execStripeStart a0 a1 s = .next t := h
  rw [h] at k
  exact keeps_next.mp k
theorem stripeStart_row_valves {a0} {a1} {s t : State} (h : s.ValvesSafe) (e : exec (.stripeStart a0 a1) s = .next t) : t.ValvesSafe := by
  exact valves_keep (mask_mono (by decide) (stripeStart_row_frame e)) h
theorem combUngate_row_fields {a0} {a1} : fieldSet (mayChange (.combUngate a0 a1)) = 134217760 := rfl
theorem combUngate_row_frame {a0} {a1} {s t : State} (h : exec (.combUngate a0 a1) s = .next t) : t.mask 134217760 = s.mask 134217760 := by
  have k := execCombUngate_foot (w := 134217760) (by decide) a0 a1 s
  have h : execCombUngate a0 a1 s = .next t := h
  rw [h] at k
  exact keeps_next.mp k
theorem combUngate_row_valves {a0} {a1} {s t : State} (h : s.ValvesSafe) (e : exec (.combUngate a0 a1) s = .next t) : t.ValvesSafe := by
  exact valves_keep (mask_mono (by decide) (combUngate_row_frame e)) h
theorem combLine_row_fields {a0} {a1} : fieldSet (mayChange (.combLine a0 a1)) = 8792342638 := rfl
theorem combLine_row_frame {a0} {a1} {s t : State} (h : exec (.combLine a0 a1) s = .next t) : t.mask 8792342638 = s.mask 8792342638 := by
  have k := execCombLine_foot (w := 8792342638) (by decide) a0 a1 s
  have h : execCombLine a0 a1 s = .next t := h
  rw [h] at k
  exact keeps_next.mp k
theorem combLine_row_valves {a0} {a1} {s t : State} (h : s.ValvesSafe) (e : exec (.combLine a0 a1) s = .next t) : t.ValvesSafe := by
  exact valves_keep (mask_mono (by decide) (combLine_row_frame e)) h
theorem combFault_row_fields {a0} {a1} : fieldSet (mayChange (.combFault a0 a1)) = 8830120058 := rfl
theorem combFault_row_frame {a0} {a1} {s t : State} (h : exec (.combFault a0 a1) s = .next t) : t.mask 8830120058 = s.mask 8830120058 := by
  have k := execCombFault_foot (w := 8830120058) (by decide) a0 a1 s
  have h : execCombFault a0 a1 s = .next t := h
  rw [h] at k
  exact keeps_next.mp k
theorem combFault_row_valves {a0} {a1} {s t : State} (h : s.ValvesSafe) (e : exec (.combFault a0 a1) s = .next t) : t.ValvesSafe := by
  exact valves_keep (mask_mono (by decide) (combFault_row_frame e)) h
theorem spareCopyDone_row_fields {a0} {a1} : fieldSet (mayChange (.spareCopyDone a0 a1)) = 201326624 := rfl
theorem spareCopyDone_row_frame {a0} {a1} {s t : State} (h : exec (.spareCopyDone a0 a1) s = .next t) : t.mask 201326624 = s.mask 201326624 := by
  have k := execSpareCopyDone_foot (w := 201326624) (by decide) a0 a1 s
  have h : execSpareCopyDone a0 a1 s = .next t := h
  rw [h] at k
  exact keeps_next.mp k
theorem spareCopyDone_row_valves {a0} {a1} {s t : State} (h : s.ValvesSafe) (e : exec (.spareCopyDone a0 a1) s = .next t) : t.ValvesSafe := by
  exact valves_keep (mask_mono (by decide) (spareCopyDone_row_frame e)) h
theorem corrSetNoise_row_fields {a0} {a1} : fieldSet (mayChange (.corrSetNoise a0 a1)) = 8696070218 := rfl
theorem corrSetNoise_row_frame {a0} {a1} {s t : State} (h : exec (.corrSetNoise a0 a1) s = .next t) : t.mask 8696070218 = s.mask 8696070218 := by
  have k := execCorrSetNoise_foot (w := 8696070218) (by decide) a0 a1 s
  have h : execCorrSetNoise a0 a1 s = .next t := h
  rw [h] at k
  exact keeps_next.mp k
theorem corrSetNoise_row_valves {a0} {a1} {s t : State} (h : s.ValvesSafe) (e : exec (.corrSetNoise a0 a1) s = .next t) : t.ValvesSafe := by
  exact valves_keep (mask_mono (by decide) (corrSetNoise_row_frame e)) h
theorem corrSetTemporal_row_fields {a0} {a1} : fieldSet (mayChange (.corrSetTemporal a0 a1)) = 8696070218 := rfl
theorem corrSetTemporal_row_frame {a0} {a1} {s t : State} (h : exec (.corrSetTemporal a0 a1) s = .next t) : t.mask 8696070218 = s.mask 8696070218 := by
  have k := execCorrSetTemporal_foot (w := 8696070218) (by decide) a0 a1 s
  have h : execCorrSetTemporal a0 a1 s = .next t := h
  rw [h] at k
  exact keeps_next.mp k
theorem corrSetTemporal_row_valves {a0} {a1} {s t : State} (h : s.ValvesSafe) (e : exec (.corrSetTemporal a0 a1) s = .next t) : t.ValvesSafe := by
  exact valves_keep (mask_mono (by decide) (corrSetTemporal_row_frame e)) h
theorem corrSetSpatial_row_fields {a0} {a1} : fieldSet (mayChange (.corrSetSpatial a0 a1)) = 8696070218 := rfl
theorem corrSetSpatial_row_frame {a0} {a1} {s t : State} (h : exec (.corrSetSpatial a0 a1) s = .next t) : t.mask 8696070218 = s.mask 8696070218 := by
  have k := execCorrSetSpatial_foot (w := 8696070218) (by decide) a0 a1 s
  have h : execCorrSetSpatial a0 a1 s = .next t := h
  rw [h] at k
  exact keeps_next.mp k
theorem corrSetSpatial_row_valves {a0} {a1} {s t : State} (h : s.ValvesSafe) (e : exec (.corrSetSpatial a0 a1) s = .next t) : t.ValvesSafe := by
  exact valves_keep (mask_mono (by decide) (corrSetSpatial_row_frame e)) h
theorem corrSetBlack_row_fields {a0} {a1} : fieldSet (mayChange (.corrSetBlack a0 a1)) = 8696070218 := rfl
theorem corrSetBlack_row_frame {a0} {a1} {s t : State} (h : exec (.corrSetBlack a0 a1) s = .next t) : t.mask 8696070218 = s.mask 8696070218 := by
  have k := execCorrSetBlack_foot (w := 8696070218) (by decide) a0 a1 s
  have h : execCorrSetBlack a0 a1 s = .next t := h
  rw [h] at k
  exact keeps_next.mp k
theorem corrSetBlack_row_valves {a0} {a1} {s t : State} (h : s.ValvesSafe) (e : exec (.corrSetBlack a0 a1) s = .next t) : t.ValvesSafe := by
  exact valves_keep (mask_mono (by decide) (corrSetBlack_row_frame e)) h
theorem corrSetRegistration_row_fields {a0} {a1} : fieldSet (mayChange (.corrSetRegistration a0 a1)) = 8696070218 := rfl
theorem corrSetRegistration_row_frame {a0} {a1} {s t : State} (h : exec (.corrSetRegistration a0 a1) s = .next t) : t.mask 8696070218 = s.mask 8696070218 := by
  have k := execCorrSetRegistration_foot (w := 8696070218) (by decide) a0 a1 s
  have h : execCorrSetRegistration a0 a1 s = .next t := h
  rw [h] at k
  exact keeps_next.mp k
theorem corrSetRegistration_row_valves {a0} {a1} {s t : State} (h : s.ValvesSafe) (e : exec (.corrSetRegistration a0 a1) s = .next t) : t.ValvesSafe := by
  exact valves_keep (mask_mono (by decide) (corrSetRegistration_row_frame e)) h
theorem corrSetEnable_row_fields {a0} {a1} : fieldSet (mayChange (.corrSetEnable a0 a1)) = 8696070218 := rfl
theorem corrSetEnable_row_frame {a0} {a1} {s t : State} (h : exec (.corrSetEnable a0 a1) s = .next t) : t.mask 8696070218 = s.mask 8696070218 := by
  have k := execCorrSetEnable_foot (w := 8696070218) (by decide) a0 a1 s
  have h : execCorrSetEnable a0 a1 s = .next t := h
  rw [h] at k
  exact keeps_next.mp k
theorem corrSetEnable_row_valves {a0} {a1} {s t : State} (h : s.ValvesSafe) (e : exec (.corrSetEnable a0 a1) s = .next t) : t.ValvesSafe := by
  exact valves_keep (mask_mono (by decide) (corrSetEnable_row_frame e)) h
theorem corrLoadTable_row_fields {a0} {a1} : fieldSet (mayChange (.corrLoadTable a0 a1)) = 12991037514 := rfl
theorem corrLoadTable_row_frame {a0} {a1} {s t : State} (h : exec (.corrLoadTable a0 a1) s = .next t) : t.mask 12991037514 = s.mask 12991037514 := by
  have k := execCorrLoadTable_foot (w := 12991037514) (by decide) a0 a1 s
  have h : execCorrLoadTable a0 a1 s = .next t := h
  rw [h] at k
  exact keeps_next.mp k
theorem corrLoadTable_row_valves {a0} {a1} {s t : State} (h : s.ValvesSafe) (e : exec (.corrLoadTable a0 a1) s = .next t) : t.ValvesSafe := by
  exact valves_keep (mask_mono (by decide) (corrLoadTable_row_frame e)) h
theorem segSetBackground_row_fields {a0} {a1} : fieldSet (mayChange (.segSetBackground a0 a1)) = 8696070218 := rfl
theorem segSetBackground_row_frame {a0} {a1} {s t : State} (h : exec (.segSetBackground a0 a1) s = .next t) : t.mask 8696070218 = s.mask 8696070218 := by
  have k := execSegSetBackground_foot (w := 8696070218) (by decide) a0 a1 s
  have h : execSegSetBackground a0 a1 s = .next t := h
  rw [h] at k
  exact keeps_next.mp k
theorem segSetBackground_row_valves {a0} {a1} {s t : State} (h : s.ValvesSafe) (e : exec (.segSetBackground a0 a1) s = .next t) : t.ValvesSafe := by
  exact valves_keep (mask_mono (by decide) (segSetBackground_row_frame e)) h
theorem segSetThreshold_row_fields {a0} {a1} : fieldSet (mayChange (.segSetThreshold a0 a1)) = 8696070218 := rfl
theorem segSetThreshold_row_frame {a0} {a1} {s t : State} (h : exec (.segSetThreshold a0 a1) s = .next t) : t.mask 8696070218 = s.mask 8696070218 := by
  have k := execSegSetThreshold_foot (w := 8696070218) (by decide) a0 a1 s
  have h : execSegSetThreshold a0 a1 s = .next t := h
  rw [h] at k
  exact keeps_next.mp k
theorem segSetThreshold_row_valves {a0} {a1} {s t : State} (h : s.ValvesSafe) (e : exec (.segSetThreshold a0 a1) s = .next t) : t.ValvesSafe := by
  exact valves_keep (mask_mono (by decide) (segSetThreshold_row_frame e)) h
theorem segSetMorph_row_fields {a0} {a1} : fieldSet (mayChange (.segSetMorph a0 a1)) = 8696070218 := rfl
theorem segSetMorph_row_frame {a0} {a1} {s t : State} (h : exec (.segSetMorph a0 a1) s = .next t) : t.mask 8696070218 = s.mask 8696070218 := by
  have k := execSegSetMorph_foot (w := 8696070218) (by decide) a0 a1 s
  have h : execSegSetMorph a0 a1 s = .next t := h
  rw [h] at k
  exact keeps_next.mp k
theorem segSetMorph_row_valves {a0} {a1} {s t : State} (h : s.ValvesSafe) (e : exec (.segSetMorph a0 a1) s = .next t) : t.ValvesSafe := by
  exact valves_keep (mask_mono (by decide) (segSetMorph_row_frame e)) h
theorem segCaptureBackground_row_fields {a0} {a1} : fieldSet (mayChange (.segCaptureBackground a0 a1)) = 8696070218 := rfl
theorem segCaptureBackground_row_frame {a0} {a1} {s t : State} (h : exec (.segCaptureBackground a0 a1) s = .next t) : t.mask 8696070218 = s.mask 8696070218 := by
  have k := execSegCaptureBackground_foot (w := 8696070218) (by decide) a0 a1 s
  have h : execSegCaptureBackground a0 a1 s = .next t := h
  rw [h] at k
  exact keeps_next.mp k
theorem segCaptureBackground_row_valves {a0} {a1} {s t : State} (h : s.ValvesSafe) (e : exec (.segCaptureBackground a0 a1) s = .next t) : t.ValvesSafe := by
  exact valves_keep (mask_mono (by decide) (segCaptureBackground_row_frame e)) h
theorem bgCaptured_row_fields {a0} : fieldSet (mayChange (.bgCaptured a0)) = 68190274 := rfl
theorem bgCaptured_row_frame {a0} {s t : State} (h : exec (.bgCaptured a0) s = .next t) : t.mask 68190274 = s.mask 68190274 := by
  have k := execBgCaptured_foot (w := 68190274) (by decide) a0 s
  have h : execBgCaptured a0 s = .next t := h
  rw [h] at k
  exact keeps_next.mp k
theorem bgCaptured_row_valves {a0} {s t : State} (h : s.ValvesSafe) (e : exec (.bgCaptured a0) s = .next t) : t.ValvesSafe := by
  exact valves_keep (mask_mono (by decide) (bgCaptured_row_frame e)) h
theorem segLoadBackground_row_fields {a0} {a1} : fieldSet (mayChange (.segLoadBackground a0 a1)) = 12991037514 := rfl
theorem segLoadBackground_row_frame {a0} {a1} {s t : State} (h : exec (.segLoadBackground a0 a1) s = .next t) : t.mask 12991037514 = s.mask 12991037514 := by
  have k := execSegLoadBackground_foot (w := 12991037514) (by decide) a0 a1 s
  have h : execSegLoadBackground a0 a1 s = .next t := h
  rw [h] at k
  exact keeps_next.mp k
theorem segLoadBackground_row_valves {a0} {a1} {s t : State} (h : s.ValvesSafe) (e : exec (.segLoadBackground a0 a1) s = .next t) : t.ValvesSafe := by
  exact valves_keep (mask_mono (by decide) (segLoadBackground_row_frame e)) h
theorem cellSetFormat_row_fields {a0} {a1} : fieldSet (mayChange (.cellSetFormat a0 a1)) = 105087042 := rfl
theorem cellSetFormat_row_frame {a0} {a1} {s t : State} (h : exec (.cellSetFormat a0 a1) s = .next t) : t.mask 105087042 = s.mask 105087042 := by
  have k := execCellSetFormat_foot (w := 105087042) (by decide) a0 a1 s
  have h : execCellSetFormat a0 a1 s = .next t := h
  rw [h] at k
  exact keeps_next.mp k
theorem cellSetFormat_row_valves {a0} {a1} {s t : State} (h : s.ValvesSafe) (e : exec (.cellSetFormat a0 a1) s = .next t) : t.ValvesSafe := by
  exact valves_keep (mask_mono (by decide) (cellSetFormat_row_frame e)) h
theorem stitchConfigure_row_fields {a0} {a1} : fieldSet (mayChange (.stitchConfigure a0 a1)) = 1648590930 := rfl
theorem stitchConfigure_row_frame {a0} {a1} {s t : State} (h : exec (.stitchConfigure a0 a1) s = .next t) : t.mask 1648590930 = s.mask 1648590930 := by
  have k := execStitchConfigure_foot (w := 1648590930) (by decide) a0 a1 s
  have h : execStitchConfigure a0 a1 s = .next t := h
  rw [h] at k
  exact keeps_next.mp k
theorem stitchConfigure_row_valves {a0} {a1} {s t : State} (h : s.ValvesSafe) (e : exec (.stitchConfigure a0 a1) s = .next t) : t.ValvesSafe := by
  exact valves_keep (mask_mono (by decide) (stitchConfigure_row_frame e)) h
theorem asmObject_row_fields {a0} {a1} : fieldSet (mayChange (.asmObject a0 a1)) = 475773567086 := rfl
theorem asmObject_row_frame {a0} {a1} {s t : State} (h : exec (.asmObject a0 a1) s = .next t) : t.mask 475773567086 = s.mask 475773567086 := by
  have k := execAsmObject_foot (w := 475773567086) (by decide) a0 a1 s
  have h : execAsmObject a0 a1 s = .next t := h
  rw [h] at k
  exact keeps_next.mp k
theorem asmObject_row_valves {a0} {a1} {s t : State} (h : s.ValvesSafe) (e : exec (.asmObject a0 a1) s = .next t) : t.ValvesSafe := by
  exact valves_keep (mask_mono (by decide) (asmObject_row_frame e)) h
theorem stitchTimeout_row_fields {a0} {a1} {a2} : fieldSet (mayChange (.stitchTimeout a0 a1 a2)) = 473626083438 := rfl
theorem stitchTimeout_row_frame {a0} {a1} {a2} {s t : State} (h : exec (.stitchTimeout a0 a1 a2) s = .next t) : t.mask 473626083438 = s.mask 473626083438 := by
  have k := execStitchTimeout_foot (w := 473626083438) (by decide) a0 a1 a2 s
  have h : execStitchTimeout a0 a1 a2 s = .next t := h
  rw [h] at k
  exact keeps_next.mp k
theorem stitchTimeout_row_valves {a0} {a1} {a2} {s t : State} (h : s.ValvesSafe) (e : exec (.stitchTimeout a0 a1 a2) s = .next t) : t.ValvesSafe := by
  exact valves_keep (mask_mono (by decide) (stitchTimeout_row_frame e)) h
theorem unpairedWindowEnd_row_fields {a0} {a1} : fieldSet (mayChange (.unpairedWindowEnd a0 a1)) = 472552341610 := rfl
theorem unpairedWindowEnd_row_frame {a0} {a1} {s t : State} (h : exec (.unpairedWindowEnd a0 a1) s = .next t) : t.mask 472552341610 = s.mask 472552341610 := by
  have k := execUnpairedWindowEnd_foot (w := 472552341610) (by decide) a0 a1 s
  have h : execUnpairedWindowEnd a0 a1 s = .next t := h
  rw [h] at k
  exact keeps_next.mp k
theorem unpairedWindowEnd_row_valves {a0} {a1} {s t : State} (h : s.ValvesSafe) (e : exec (.unpairedWindowEnd a0 a1) s = .next t) : t.ValvesSafe := by
  exact valves_keep (mask_mono (by decide) (unpairedWindowEnd_row_frame e)) h
theorem cellDelivery_row_fields {a0} {a1} : fieldSet (mayChange (.cellDelivery a0 a1)) = 8658124898 := rfl
theorem cellDelivery_row_frame {a0} {a1} {s t : State} (h : exec (.cellDelivery a0 a1) s = .next t) : t.mask 8658124898 = s.mask 8658124898 := by
  have k := execCellDelivery_foot (w := 8658124898) (by decide) a0 a1 s
  have h : execCellDelivery a0 a1 s = .next t := h
  rw [h] at k
  exact keeps_next.mp k
theorem cellDelivery_row_valves {a0} {a1} {s t : State} (h : s.ValvesSafe) (e : exec (.cellDelivery a0 a1) s = .next t) : t.ValvesSafe := by
  exact valves_keep (mask_mono (by decide) (cellDelivery_row_frame e)) h
theorem pgConfigure_row_fields {a0} {a1} : fieldSet (mayChange (.pgConfigure a0 a1)) = 17217847378 := rfl
theorem pgConfigure_row_frame {a0} {a1} {s t : State} (h : exec (.pgConfigure a0 a1) s = .next t) : t.mask 17217847378 = s.mask 17217847378 := by
  have k := execPgConfigure_foot (w := 17217847378) (by decide) a0 a1 s
  have h : execPgConfigure a0 a1 s = .next t := h
  rw [h] at k
  exact keeps_next.mp k
theorem pgConfigure_row_valves {a0} {a1} {s t : State} (h : s.ValvesSafe) (e : exec (.pgConfigure a0 a1) s = .next t) : t.ValvesSafe := by
  exact valves_keep (mask_mono (by decide) (pgConfigure_row_frame e)) h
theorem pgSetRow_row_fields {a0} {a1} : fieldSet (mayChange (.pgSetRow a0 a1)) = 17218109506 := rfl
theorem pgSetRow_row_frame {a0} {a1} {s t : State} (h : exec (.pgSetRow a0 a1) s = .next t) : t.mask 17218109506 = s.mask 17218109506 := by
  have k := execPgSetRow_foot (w := 17218109506) (by decide) a0 a1 s
  have h : execPgSetRow a0 a1 s = .next t := h
  rw [h] at k
  exact keeps_next.mp k
theorem pgSetRow_row_valves {a0} {a1} {s t : State} (h : s.ValvesSafe) (e : exec (.pgSetRow a0 a1) s = .next t) : t.ValvesSafe := by
  exact valves_keep (mask_mono (by decide) (pgSetRow_row_frame e)) h
theorem pgLoadRules_row_fields {a0} {a1} : fieldSet (mayChange (.pgLoadRules a0 a1)) = 17218109506 := rfl
theorem pgLoadRules_row_frame {a0} {a1} {s t : State} (h : exec (.pgLoadRules a0 a1) s = .next t) : t.mask 17218109506 = s.mask 17218109506 := by
  have k := execPgLoadRules_foot (w := 17218109506) (by decide) a0 a1 s
  have h : execPgLoadRules a0 a1 s = .next t := h
  rw [h] at k
  exact keeps_next.mp k
theorem pgLoadRules_row_valves {a0} {a1} {s t : State} (h : s.ValvesSafe) (e : exec (.pgLoadRules a0 a1) s = .next t) : t.ValvesSafe := by
  exact valves_keep (mask_mono (by decide) (pgLoadRules_row_frame e)) h
theorem rulesReadComplete_row_fields {a0} {a1} {a2} : fieldSet (mayChange (.rulesReadComplete a0 a1 a2)) = 17218109506 := rfl
theorem rulesReadComplete_row_frame {a0} {a1} {a2} {s t : State} (h : exec (.rulesReadComplete a0 a1 a2) s = .next t) : t.mask 17218109506 = s.mask 17218109506 := by
  have k := execRulesReadComplete_foot (w := 17218109506) (by decide) a0 a1 a2 s
  have h : execRulesReadComplete a0 a1 a2 s = .next t := h
  rw [h] at k
  exact keeps_next.mp k
theorem rulesReadComplete_row_valves {a0} {a1} {a2} {s t : State} (h : s.ValvesSafe) (e : exec (.rulesReadComplete a0 a1 a2) s = .next t) : t.ValvesSafe := by
  exact valves_keep (mask_mono (by decide) (rulesReadComplete_row_frame e)) h
theorem pgSetSteering_row_fields {a0} {a1} : fieldSet (mayChange (.pgSetSteering a0 a1)) = 85938372674 := rfl
theorem pgSetSteering_row_frame {a0} {a1} {s t : State} (h : exec (.pgSetSteering a0 a1) s = .next t) : t.mask 85938372674 = s.mask 85938372674 := by
  have k := execPgSetSteering_foot (w := 85938372674) (by decide) a0 a1 s
  have h : execPgSetSteering a0 a1 s = .next t := h
  rw [h] at k
  exact keeps_next.mp k
theorem pgSetSteering_row_valves {a0} {a1} {s t : State} (h : s.ValvesSafe) (e : exec (.pgSetSteering a0 a1) s = .next t) : t.ValvesSafe := by
  exact valves_keep (mask_mono (by decide) (pgSetSteering_row_frame e)) h
theorem pgGetStatus_row_fields {a0} {a1} : fieldSet (mayChange (.pgGetStatus a0 a1)) = 34397716546 := rfl
theorem pgGetStatus_row_frame {a0} {a1} {s t : State} (h : exec (.pgGetStatus a0 a1) s = .next t) : t.mask 34397716546 = s.mask 34397716546 := by
  have k := execPgGetStatus_foot (w := 34397716546) (by decide) a0 a1 s
  have h : execPgGetStatus a0 a1 s = .next t := h
  rw [h] at k
  exact keeps_next.mp k
theorem pgGetStatus_row_valves {a0} {a1} {s t : State} (h : s.ValvesSafe) (e : exec (.pgGetStatus a0 a1) s = .next t) : t.ValvesSafe := by
  exact valves_keep (mask_mono (by decide) (pgGetStatus_row_frame e)) h
theorem decisionRecordBind_row_fields {a0} {a1} : fieldSet (mayChange (.decisionRecordBind a0 a1)) = 446715428970 := rfl
theorem decisionRecordBind_row_frame {a0} {a1} {s t : State} (h : exec (.decisionRecordBind a0 a1) s = .next t) : t.mask 446715428970 = s.mask 446715428970 := by
  have k := execDecisionRecordBind_foot (w := 446715428970) (by decide) a0 a1 s
  have h : execDecisionRecordBind a0 a1 s = .next t := h
  rw [h] at k
  exact keeps_next.mp k
theorem decisionRecordBind_row_valves {a0} {a1} {s t : State} (h : s.ValvesSafe) (e : exec (.decisionRecordBind a0 a1) s = .next t) : t.ValvesSafe := by
  exact valves_keep (mask_mono (by decide) (decisionRecordBind_row_frame e)) h
theorem decisionDeadline_row_fields {a0} : fieldSet (mayChange (.decisionDeadline a0)) = 446715428970 := rfl
theorem decisionDeadline_row_frame {a0} {s t : State} (h : exec (.decisionDeadline a0) s = .next t) : t.mask 446715428970 = s.mask 446715428970 := by
  have k := execDecisionDeadline_foot (w := 446715428970) (by decide) a0 s
  have h : execDecisionDeadline a0 s = .next t := h
  rw [h] at k
  exact keeps_next.mp k
theorem decisionDeadline_row_valves {a0} {s t : State} (h : s.ValvesSafe) (e : exec (.decisionDeadline a0) s = .next t) : t.ValvesSafe := by
  exact valves_keep (mask_mono (by decide) (decisionDeadline_row_frame e)) h
theorem pendingEntryFree_row_fields {a0} : fieldSet (mayChange (.pendingEntryFree a0)) = 137438953504 := rfl
theorem pendingEntryFree_row_frame {a0} {s t : State} (h : exec (.pendingEntryFree a0) s = .next t) : t.mask 137438953504 = s.mask 137438953504 := by
  have k := execPendingEntryFree_foot (w := 137438953504) (by decide) a0 s
  have h : execPendingEntryFree a0 s = .next t := h
  rw [h] at k
  exact keeps_next.mp k
theorem pendingEntryFree_row_valves {a0} {s t : State} (h : s.ValvesSafe) (e : exec (.pendingEntryFree a0) s = .next t) : t.ValvesSafe := by
  exact valves_keep (mask_mono (by decide) (pendingEntryFree_row_frame e)) h
theorem ejectActionsReceived_row_fields {a0} {a1} {a2} : fieldSet (mayChange (.ejectActionsReceived a0 a1 a2)) = 309276475498 := rfl
theorem ejectActionsReceived_row_frame {a0} {a1} {a2} {s t : State} (h : exec (.ejectActionsReceived a0 a1 a2) s = .next t) : t.mask 309276475498 = s.mask 309276475498 := by
  have k := execEjectActionsReceived_foot (w := 309276475498) (by decide) a0 a1 a2 s
  have h : execEjectActionsReceived a0 a1 a2 s = .next t := h
  rw [h] at k
  exact keeps_next.mp k
theorem ejectActionsReceived_row_valves {a0} {a1} {a2} {s t : State} (h : s.ValvesSafe) (e : exec (.ejectActionsReceived a0 a1 a2) s = .next t) : t.ValvesSafe := by
  exact valves_keep (mask_mono (by decide) (ejectActionsReceived_row_frame e)) h
theorem ejectDecisionReceived_row_fields {a0} {a1} {a2} : fieldSet (mayChange (.ejectDecisionReceived a0 a1 a2)) = 446715428970 := rfl
theorem ejectDecisionReceived_row_frame {a0} {a1} {a2} {s t : State} (h : exec (.ejectDecisionReceived a0 a1 a2) s = .next t) : t.mask 446715428970 = s.mask 446715428970 := by
  have k := execEjectDecisionReceived_foot (w := 446715428970) (by decide) a0 a1 a2 s
  have h : execEjectDecisionReceived a0 a1 a2 s = .next t := h
  rw [h] at k
  exact keeps_next.mp k
theorem ejectDecisionReceived_row_valves {a0} {a1} {a2} {s t : State} (h : s.ValvesSafe) (e : exec (.ejectDecisionReceived a0 a1 a2) s = .next t) : t.ValvesSafe := by
  exact valves_keep (mask_mono (by decide) (ejectDecisionReceived_row_frame e)) h
theorem vpConfigure_row_fields {a0} {a1} : fieldSet (mayChange (.vpConfigure a0 a1)) = 549793792066 := rfl
theorem vpConfigure_row_frame {a0} {a1} {s t : State} (h : exec (.vpConfigure a0 a1) s = .next t) : t.mask 549793792066 = s.mask 549793792066 := by
  have k := execVpConfigure_foot (w := 549793792066) (by decide) a0 a1 s
  have h : execVpConfigure a0 a1 s = .next t := h
  rw [h] at k
  exact keeps_next.mp k
theorem vpConfigure_row_valves {a0} {a1} {s t : State} (h : s.ValvesSafe) (e : exec (.vpConfigure a0 a1) s = .next t) : t.ValvesSafe := by
  have k : OutcomeValves (execVpConfigure a0 a1 s) := execVpConfigure_valves a0 a1 s h
  have h : execVpConfigure a0 a1 s = .next t := e
  rw [h] at k
  exact k
theorem vpSetMode_row_fields {a0} {a1} : fieldSet (mayChange (.vpSetMode a0 a1)) = 549796939090 := rfl
theorem vpSetMode_row_frame {a0} {a1} {s t : State} (h : exec (.vpSetMode a0 a1) s = .next t) : t.mask 549796939090 = s.mask 549796939090 := by
  have k := execVpSetMode_foot (w := 549796939090) (by decide) a0 a1 s
  have h : execVpSetMode a0 a1 s = .next t := h
  rw [h] at k
  exact keeps_next.mp k
theorem vpSetMode_row_valves {a0} {a1} {s t : State} (h : s.ValvesSafe) (e : exec (.vpSetMode a0 a1) s = .next t) : t.ValvesSafe := by
  have k : OutcomeValves (execVpSetMode a0 a1 s) := execVpSetMode_valves a0 a1 s h
  have h : execVpSetMode a0 a1 s = .next t := e
  rw [h] at k
  exact k
theorem vpTestFire_row_fields {a0} {a1} : fieldSet (mayChange (.vpTestFire a0 a1)) = 274915885122 := rfl
theorem vpTestFire_row_frame {a0} {a1} {s t : State} (h : exec (.vpTestFire a0 a1) s = .next t) : t.mask 274915885122 = s.mask 274915885122 := by
  have k := execVpTestFire_foot (w := 274915885122) (by decide) a0 a1 s
  have h : execVpTestFire a0 a1 s = .next t := h
  rw [h] at k
  exact keeps_next.mp k
theorem vpTestFire_row_valves {a0} {a1} {s t : State} (h : s.ValvesSafe) (e : exec (.vpTestFire a0 a1) s = .next t) : t.ValvesSafe := by
  exact valves_keep (mask_mono (by decide) (vpTestFire_row_frame e)) h
theorem vpGetStatus_row_fields {a0} {a1} : fieldSet (mayChange (.vpGetStatus a0 a1)) = 549793792066 := rfl
theorem vpGetStatus_row_frame {a0} {a1} {s t : State} (h : exec (.vpGetStatus a0 a1) s = .next t) : t.mask 549793792066 = s.mask 549793792066 := by
  have k := execVpGetStatus_foot (w := 549793792066) (by decide) a0 a1 s
  have h : execVpGetStatus a0 a1 s = .next t := h
  rw [h] at k
  exact keeps_next.mp k
theorem vpGetStatus_row_valves {a0} {a1} {s t : State} (h : s.ValvesSafe) (e : exec (.vpGetStatus a0 a1) s = .next t) : t.ValvesSafe := by
  have k : OutcomeValves (execVpGetStatus a0 a1 s) := execVpGetStatus_valves a0 a1 s h
  have h : execVpGetStatus a0 a1 s = .next t := e
  rw [h] at k
  exact k
theorem vpClearFault_row_fields {a0} {a1} : fieldSet (mayChange (.vpClearFault a0 a1)) = 549793792066 := rfl
theorem vpClearFault_row_frame {a0} {a1} {s t : State} (h : exec (.vpClearFault a0 a1) s = .next t) : t.mask 549793792066 = s.mask 549793792066 := by
  have k := execVpClearFault_foot (w := 549793792066) (by decide) a0 a1 s
  have h : execVpClearFault a0 a1 s = .next t := h
  rw [h] at k
  exact keeps_next.mp k
theorem vpClearFault_row_valves {a0} {a1} {s t : State} (h : s.ValvesSafe) (e : exec (.vpClearFault a0 a1) s = .next t) : t.ValvesSafe := by
  have k : OutcomeValves (execVpClearFault a0 a1 s) := execVpClearFault_valves a0 a1 s h
  have h : execVpClearFault a0 a1 s = .next t := e
  rw [h] at k
  exact k
theorem valveFrameLatch_row_fields {a0} : fieldSet (mayChange (.valveFrameLatch a0)) = 824634802282 := rfl
theorem valveFrameLatch_row_frame {a0} {s t : State} (h : exec (.valveFrameLatch a0) s = .next t) : t.mask 824634802282 = s.mask 824634802282 := by
  have k := execValveFrameLatch_foot (w := 824634802282) (by decide) a0 s
  have h : execValveFrameLatch a0 s = .next t := h
  rw [h] at k
  exact keeps_next.mp k
theorem valveFrameLatch_row_valves {a0} {s t : State} (h : s.ValvesSafe) (e : exec (.valveFrameLatch a0) s = .next t) : t.ValvesSafe := by
  have k : OutcomeValves (execValveFrameLatch a0 s) := execValveFrameLatch_valves a0 s h
  have h : execValveFrameLatch a0 s = .next t := e
  rw [h] at k
  exact k
theorem feedbackFrameReceived_row_fields {a0} {a1} {a2} : fieldSet (mayChange (.feedbackFrameReceived a0 a1 a2)) = 549794672738 := rfl
theorem feedbackFrameReceived_row_frame {a0} {a1} {a2} {s t : State} (h : exec (.feedbackFrameReceived a0 a1 a2) s = .next t) : t.mask 549794672738 = s.mask 549794672738 := by
  have k := execFeedbackFrameReceived_foot (w := 549794672738) (by decide) a0 a1 a2 s
  have h : execFeedbackFrameReceived a0 a1 a2 s = .next t := h
  rw [h] at k
  exact keeps_next.mp k
theorem feedbackFrameReceived_row_valves {a0} {a1} {a2} {s t : State} (h : s.ValvesSafe) (e : exec (.feedbackFrameReceived a0 a1 a2) s = .next t) : t.ValvesSafe := by
  have k : OutcomeValves (execFeedbackFrameReceived a0 a1 a2 s) := execFeedbackFrameReceived_valves a0 a1 a2 s h
  have h : execFeedbackFrameReceived a0 a1 a2 s = .next t := e
  rw [h] at k
  exact k
theorem feedbackMissed_row_fields {a0} : fieldSet (mayChange (.feedbackMissed a0)) = 549794672738 := rfl
theorem feedbackMissed_row_frame {a0} {s t : State} (h : exec (.feedbackMissed a0) s = .next t) : t.mask 549794672738 = s.mask 549794672738 := by
  have k := execFeedbackMissed_foot (w := 549794672738) (by decide) a0 s
  have h : execFeedbackMissed a0 s = .next t := h
  rw [h] at k
  exact keeps_next.mp k
theorem feedbackMissed_row_valves {a0} {s t : State} (h : s.ValvesSafe) (e : exec (.feedbackMissed a0) s = .next t) : t.ValvesSafe := by
  have k : OutcomeValves (execFeedbackMissed a0 s) := execFeedbackMissed_valves a0 s h
  have h : execFeedbackMissed a0 s = .next t := e
  rw [h] at k
  exact k
theorem valvePortReadbackFault_row_fields {a0} {a1} : fieldSet (mayChange (.valvePortReadbackFault a0 a1)) = 549793624162 := rfl
theorem valvePortReadbackFault_row_frame {a0} {a1} {s t : State} (h : exec (.valvePortReadbackFault a0 a1) s = .next t) : t.mask 549793624162 = s.mask 549793624162 := by
  have k := execValvePortReadbackFault_foot (w := 549793624162) (by decide) a0 a1 s
  have h : execValvePortReadbackFault a0 a1 s = .next t := h
  rw [h] at k
  exact keeps_next.mp k
theorem valvePortReadbackFault_row_valves {a0} {a1} {s t : State} (h : s.ValvesSafe) (e : exec (.valvePortReadbackFault a0 a1) s = .next t) : t.ValvesSafe := by
  have k : OutcomeValves (execValvePortReadbackFault a0 a1 s) := execValvePortReadbackFault_valves a0 a1 s h
  have h : execValvePortReadbackFault a0 a1 s = .next t := e
  rw [h] at k
  exact k
theorem hostLinkUp_row_fields {a0} {a1} {a2} {a3} : fieldSet (mayChange (.hostLinkUp a0 a1 a2 a3)) = 231996428386 := rfl
theorem hostLinkUp_row_frame {a0} {a1} {a2} {a3} {s t : State} (h : exec (.hostLinkUp a0 a1 a2 a3) s = .next t) : t.mask 231996428386 = s.mask 231996428386 := by
  have k := execHostLinkUp_foot (w := 231996428386) (by decide) a0 a1 a2 a3 s
  have h : execHostLinkUp a0 a1 a2 a3 s = .next t := h
  rw [h] at k
  exact keeps_next.mp k
theorem hostLinkUp_row_valves {a0} {a1} {a2} {a3} {s t : State} (h : s.ValvesSafe) (e : exec (.hostLinkUp a0 a1 a2 a3) s = .next t) : t.ValvesSafe := by
  exact valves_keep (mask_mono (by decide) (hostLinkUp_row_frame e)) h
theorem hostLinkDown_row_fields {a0} {a1} : fieldSet (mayChange (.hostLinkDown a0 a1)) = 236329628274 := rfl
theorem hostLinkDown_row_frame {a0} {a1} {s t : State} (h : exec (.hostLinkDown a0 a1) s = .next t) : t.mask 236329628274 = s.mask 236329628274 := by
  have k := execHostLinkDown_foot (w := 236329628274) (by decide) a0 a1 s
  have h : execHostLinkDown a0 a1 s = .next t := h
  rw [h] at k
  exact keeps_next.mp k
theorem hostLinkDown_row_valves {a0} {a1} {s t : State} (h : s.ValvesSafe) (e : exec (.hostLinkDown a0 a1) s = .next t) : t.ValvesSafe := by
  exact valves_keep (mask_mono (by decide) (hostLinkDown_row_frame e)) h
theorem steerRestore_row_fields {a0} {a1} {a2} : fieldSet (mayChange (.steerRestore a0 a1 a2)) = 85900427362 := rfl
theorem steerRestore_row_frame {a0} {a1} {a2} {s t : State} (h : exec (.steerRestore a0 a1 a2) s = .next t) : t.mask 85900427362 = s.mask 85900427362 := by
  have k := execSteerRestore_foot (w := 85900427362) (by decide) a0 a1 a2 s
  have h : execSteerRestore a0 a1 a2 s = .next t := h
  rw [h] at k
  exact keeps_next.mp k
theorem steerRestore_row_valves {a0} {a1} {a2} {s t : State} (h : s.ValvesSafe) (e : exec (.steerRestore a0 a1 a2) s = .next t) : t.ValvesSafe := by
  exact valves_keep (mask_mono (by decide) (steerRestore_row_frame e)) h
theorem perstAssert_row_fields {a0} {a1} : fieldSet (mayChange (.perstAssert a0 a1)) = 236329628274 := rfl
theorem perstAssert_row_frame {a0} {a1} {s t : State} (h : exec (.perstAssert a0 a1) s = .next t) : t.mask 236329628274 = s.mask 236329628274 := by
  have k := execPerstAssert_foot (w := 236329628274) (by decide) a0 a1 s
  have h : execPerstAssert a0 a1 s = .next t := h
  rw [h] at k
  exact keeps_next.mp k
theorem perstAssert_row_valves {a0} {a1} {s t : State} (h : s.ValvesSafe) (e : exec (.perstAssert a0 a1) s = .next t) : t.ValvesSafe := by
  exact valves_keep (mask_mono (by decide) (perstAssert_row_frame e)) h
theorem perstDeassert_row_fields {a0} {a1} : fieldSet (mayChange (.perstDeassert a0 a1)) = 32802 := rfl
theorem perstDeassert_row_frame {a0} {a1} {s t : State} (h : exec (.perstDeassert a0 a1) s = .next t) : t.mask 32802 = s.mask 32802 := by
  have k := execPerstDeassert_foot (w := 32802) (by decide) a0 a1 s
  have h : execPerstDeassert a0 a1 s = .next t := h
  rw [h] at k
  exact keeps_next.mp k
theorem perstDeassert_row_valves {a0} {a1} {s t : State} (h : s.ValvesSafe) (e : exec (.perstDeassert a0 a1) s = .next t) : t.ValvesSafe := by
  exact valves_keep (mask_mono (by decide) (perstDeassert_row_frame e)) h
theorem configWrite_row_fields {a0} {a1} {a2} {a3} : fieldSet (mayChange (.configWrite a0 a1 a2 a3)) = 236329603698 := rfl
theorem configWrite_row_frame {a0} {a1} {a2} {a3} {s t : State} (h : exec (.configWrite a0 a1 a2 a3) s = .next t) : t.mask 236329603698 = s.mask 236329603698 := by
  have k := execConfigWrite_foot (w := 236329603698) (by decide) a0 a1 a2 a3 s
  have h : execConfigWrite a0 a1 a2 a3 s = .next t := h
  rw [h] at k
  exact keeps_next.mp k
theorem configWrite_row_valves {a0} {a1} {a2} {a3} {s t : State} (h : s.ValvesSafe) (e : exec (.configWrite a0 a1 a2 a3) s = .next t) : t.ValvesSafe := by
  exact valves_keep (mask_mono (by decide) (configWrite_row_frame e)) h
theorem flr_row_fields {a0} {a1} : fieldSet (mayChange (.flr a0 a1)) = 236329603698 := rfl
theorem flr_row_frame {a0} {a1} {s t : State} (h : exec (.flr a0 a1) s = .next t) : t.mask 236329603698 = s.mask 236329603698 := by
  have k := execFlr_foot (w := 236329603698) (by decide) a0 a1 s
  have h : execFlr a0 a1 s = .next t := h
  rw [h] at k
  exact keeps_next.mp k
theorem flr_row_valves {a0} {a1} {s t : State} (h : s.ValvesSafe) (e : exec (.flr a0 a1) s = .next t) : t.ValvesSafe := by
  exact valves_keep (mask_mono (by decide) (flr_row_frame e)) h
theorem flrComplete_row_fields {a0} {a1} : fieldSet (mayChange (.flrComplete a0 a1)) = 231996493930 := rfl
theorem flrComplete_row_frame {a0} {a1} {s t : State} (h : exec (.flrComplete a0 a1) s = .next t) : t.mask 231996493930 = s.mask 231996493930 := by
  have k := execFlrComplete_foot (w := 231996493930) (by decide) a0 a1 s
  have h : execFlrComplete a0 a1 s = .next t := h
  rw [h] at k
  exact keeps_next.mp k
theorem flrComplete_row_valves {a0} {a1} {s t : State} (h : s.ValvesSafe) (e : exec (.flrComplete a0 a1) s = .next t) : t.ValvesSafe := by
  exact valves_keep (mask_mono (by decide) (flrComplete_row_frame e)) h
theorem translationCompletion_row_fields {a0} {a1} {a2} : fieldSet (mayChange (.translationCompletion a0 a1 a2)) = 8696332354 := rfl
theorem translationCompletion_row_frame {a0} {a1} {a2} {s t : State} (h : exec (.translationCompletion a0 a1 a2) s = .next t) : t.mask 8696332354 = s.mask 8696332354 := by
  have k := execTranslationCompletion_foot (w := 8696332354) (by decide) a0 a1 a2 s
  have h : execTranslationCompletion a0 a1 a2 s = .next t := h
  rw [h] at k
  exact keeps_next.mp k
theorem translationCompletion_row_valves {a0} {a1} {a2} {s t : State} (h : s.ValvesSafe) (e : exec (.translationCompletion a0 a1 a2) s = .next t) : t.ValvesSafe := by
  exact valves_keep (mask_mono (by decide) (translationCompletion_row_frame e)) h
theorem invalidationRequest_row_fields {a0} {a1} {a2} {a3} : fieldSet (mayChange (.invalidationRequest a0 a1 a2 a3)) = 32770 := rfl
theorem invalidationRequest_row_frame {a0} {a1} {a2} {a3} {s t : State} (h : exec (.invalidationRequest a0 a1 a2 a3) s = .next t) : t.mask 32770 = s.mask 32770 := by
  have k := execInvalidationRequest_foot (w := 32770) (by decide) a0 a1 a2 a3 s
  have h : execInvalidationRequest a0 a1 a2 a3 s = .next t := h
  rw [h] at k
  exact keeps_next.mp k
theorem invalidationRequest_row_valves {a0} {a1} {a2} {a3} {s t : State} (h : s.ValvesSafe) (e : exec (.invalidationRequest a0 a1 a2 a3) s = .next t) : t.ValvesSafe := by
  exact valves_keep (mask_mono (by decide) (invalidationRequest_row_frame e)) h
theorem readCompletionReceived_row_fields {a0} {a1} {a2} {a3} {a4} : fieldSet (mayChange (.readCompletionReceived a0 a1 a2 a3 a4)) = 8658124898 := rfl
theorem readCompletionReceived_row_frame {a0} {a1} {a2} {a3} {a4} {s t : State} (h : exec (.readCompletionReceived a0 a1 a2 a3 a4) s = .next t) : t.mask 8658124898 = s.mask 8658124898 := by
  have k := execReadCompletionReceived_foot (w := 8658124898) (by decide) a0 a1 a2 a3 a4 s
  have h : execReadCompletionReceived a0 a1 a2 a3 a4 s = .next t := h
  rw [h] at k
  exact keeps_next.mp k
theorem readCompletionReceived_row_valves {a0} {a1} {a2} {a3} {a4} {s t : State} (h : s.ValvesSafe) (e : exec (.readCompletionReceived a0 a1 a2 a3 a4) s = .next t) : t.ValvesSafe := by
  exact valves_keep (mask_mono (by decide) (readCompletionReceived_row_frame e)) h
theorem completionTimeout_row_fields {a0} {a1} : fieldSet (mayChange (.completionTimeout a0 a1)) = 8658124898 := rfl
theorem completionTimeout_row_frame {a0} {a1} {s t : State} (h : exec (.completionTimeout a0 a1) s = .next t) : t.mask 8658124898 = s.mask 8658124898 := by
  have k := execCompletionTimeout_foot (w := 8658124898) (by decide) a0 a1 s
  have h : execCompletionTimeout a0 a1 s = .next t := h
  rw [h] at k
  exact keeps_next.mp k
theorem completionTimeout_row_valves {a0} {a1} {s t : State} (h : s.ValvesSafe) (e : exec (.completionTimeout a0 a1) s = .next t) : t.ValvesSafe := by
  exact valves_keep (mask_mono (by decide) (completionTimeout_row_frame e)) h
theorem tagQuarantineEnd_row_fields {a0} {a1} : fieldSet (mayChange (.tagQuarantineEnd a0 a1)) = 32802 := rfl
theorem tagQuarantineEnd_row_frame {a0} {a1} {s t : State} (h : exec (.tagQuarantineEnd a0 a1) s = .next t) : t.mask 32802 = s.mask 32802 := by
  have k := execTagQuarantineEnd_foot (w := 32802) (by decide) a0 a1 s
  have h : execTagQuarantineEnd a0 a1 s = .next t := h
  rw [h] at k
  exact keeps_next.mp k
theorem tagQuarantineEnd_row_valves {a0} {a1} {s t : State} (h : s.ValvesSafe) (e : exec (.tagQuarantineEnd a0 a1) s = .next t) : t.ValvesSafe := by
  exact valves_keep (mask_mono (by decide) (tagQuarantineEnd_row_frame e)) h
theorem linkL1Entry_row_fields {a0} {a1} {a2} : fieldSet (mayChange (.linkL1Entry a0 a1 a2)) = 32802 := rfl
theorem linkL1Entry_row_frame {a0} {a1} {a2} {s t : State} (h : exec (.linkL1Entry a0 a1 a2) s = .next t) : t.mask 32802 = s.mask 32802 := by
  have k := execLinkL1Entry_foot (w := 32802) (by decide) a0 a1 a2 s
  have h : execLinkL1Entry a0 a1 a2 s = .next t := h
  rw [h] at k
  exact keeps_next.mp k
theorem linkL1Entry_row_valves {a0} {a1} {a2} {s t : State} (h : s.ValvesSafe) (e : exec (.linkL1Entry a0 a1 a2) s = .next t) : t.ValvesSafe := by
  exact valves_keep (mask_mono (by decide) (linkL1Entry_row_frame e)) h
theorem doeRequest_row_fields {a0} {a1} : fieldSet (mayChange (.doeRequest a0 a1)) = 582 := rfl
theorem doeRequest_row_frame {a0} {a1} {s t : State} (h : exec (.doeRequest a0 a1) s = .next t) : t.mask 582 = s.mask 582 := by
  have k := execDoeRequest_foot (w := 582) (by decide) a0 a1 s
  have h : execDoeRequest a0 a1 s = .next t := h
  rw [h] at k
  exact keeps_next.mp k
theorem doeRequest_row_valves {a0} {a1} {s t : State} (h : s.ValvesSafe) (e : exec (.doeRequest a0 a1) s = .next t) : t.ValvesSafe := by
  exact valves_keep (mask_mono (by decide) (doeRequest_row_frame e)) h
theorem qPartition_row_fields {a0} {a1} : fieldSet (mayChange (.qPartition a0 a1)) = 37978194 := rfl
theorem qPartition_row_frame {a0} {a1} {s t : State} (h : exec (.qPartition a0 a1) s = .next t) : t.mask 37978194 = s.mask 37978194 := by
  have k := execQPartition_foot (w := 37978194) (by decide) a0 a1 s
  have h : execQPartition a0 a1 s = .next t := h
  rw [h] at k
  exact keeps_next.mp k
theorem qPartition_row_valves {a0} {a1} {s t : State} (h : s.ValvesSafe) (e : exec (.qPartition a0 a1) s = .next t) : t.ValvesSafe := by
  exact valves_keep (mask_mono (by decide) (qPartition_row_frame e)) h
theorem qCreate_row_fields {a0} {a1} : fieldSet (mayChange (.qCreate a0 a1)) = 39027778 := rfl
theorem qCreate_row_frame {a0} {a1} {s t : State} (h : exec (.qCreate a0 a1) s = .next t) : t.mask 39027778 = s.mask 39027778 := by
  have k := execQCreate_foot (w := 39027778) (by decide) a0 a1 s
  have h : execQCreate a0 a1 s = .next t := h
  rw [h] at k
  exact keeps_next.mp k
theorem qCreate_row_valves {a0} {a1} {s t : State} (h : s.ValvesSafe) (e : exec (.qCreate a0 a1) s = .next t) : t.ValvesSafe := by
  exact valves_keep (mask_mono (by decide) (qCreate_row_frame e)) h
theorem qEnable_row_fields {a0} {a1} : fieldSet (mayChange (.qEnable a0 a1)) = 8696070210 := rfl
theorem qEnable_row_frame {a0} {a1} {s t : State} (h : exec (.qEnable a0 a1) s = .next t) : t.mask 8696070210 = s.mask 8696070210 := by
  have k := execQEnable_foot (w := 8696070210) (by decide) a0 a1 s
  have h : execQEnable a0 a1 s = .next t := h
  rw [h] at k
  exact keeps_next.mp k
theorem qEnable_row_valves {a0} {a1} {s t : State} (h : s.ValvesSafe) (e : exec (.qEnable a0 a1) s = .next t) : t.ValvesSafe := by
  exact valves_keep (mask_mono (by decide) (qEnable_row_frame e)) h
theorem qDisable_row_fields {a0} {a1} : fieldSet (mayChange (.qDisable a0 a1)) = 8696070210 := rfl
theorem qDisable_row_frame {a0} {a1} {s t : State} (h : exec (.qDisable a0 a1) s = .next t) : t.mask 8696070210 = s.mask 8696070210 := by
  have k := execQDisable_foot (w := 8696070210) (by decide) a0 a1 s
  have h : execQDisable a0 a1 s = .next t := h
  rw [h] at k
  exact keeps_next.mp k
theorem qDisable_row_valves {a0} {a1} {s t : State} (h : s.ValvesSafe) (e : exec (.qDisable a0 a1) s = .next t) : t.ValvesSafe := by
  exact valves_keep (mask_mono (by decide) (qDisable_row_frame e)) h
theorem qDisabled_row_fields {a0} : fieldSet (mayChange (.qDisabled a0)) = 68190274 := rfl
theorem qDisabled_row_frame {a0} {s t : State} (h : exec (.qDisabled a0) s = .next t) : t.mask 68190274 = s.mask 68190274 := by
  have k := execQDisabled_foot (w := 68190274) (by decide) a0 s
  have h : execQDisabled a0 s = .next t := h
  rw [h] at k
  exact keeps_next.mp k
theorem qDisabled_row_valves {a0} {s t : State} (h : s.ValvesSafe) (e : exec (.qDisabled a0) s = .next t) : t.ValvesSafe := by
  exact valves_keep (mask_mono (by decide) (qDisabled_row_frame e)) h
theorem qReset_row_fields {a0} {a1} : fieldSet (mayChange (.qReset a0 a1)) = 106135618 := rfl
theorem qReset_row_frame {a0} {a1} {s t : State} (h : exec (.qReset a0 a1) s = .next t) : t.mask 106135618 = s.mask 106135618 := by
  have k := execQReset_foot (w := 106135618) (by decide) a0 a1 s
  have h : execQReset a0 a1 s = .next t := h
  rw [h] at k
  exact keeps_next.mp k
theorem qReset_row_valves {a0} {a1} {s t : State} (h : s.ValvesSafe) (e : exec (.qReset a0 a1) s = .next t) : t.ValvesSafe := by
  exact valves_keep (mask_mono (by decide) (qReset_row_frame e)) h
theorem qDestroy_row_fields {a0} {a1} : fieldSet (mayChange (.qDestroy a0 a1)) = 94595416138 := rfl
theorem qDestroy_row_frame {a0} {a1} {s t : State} (h : exec (.qDestroy a0 a1) s = .next t) : t.mask 94595416138 = s.mask 94595416138 := by
  have k := execQDestroy_foot (w := 94595416138) (by decide) a0 a1 s
  have h : execQDestroy a0 a1 s = .next t := h
  rw [h] at k
  exact keeps_next.mp k
theorem qDestroy_row_valves {a0} {a1} {s t : State} (h : s.ValvesSafe) (e : exec (.qDestroy a0 a1) s = .next t) : t.ValvesSafe := by
  exact valves_keep (mask_mono (by decide) (qDestroy_row_frame e)) h
theorem qSetNotify_row_fields {a0} {a1} : fieldSet (mayChange (.qSetNotify a0 a1)) = 39026754 := rfl
theorem qSetNotify_row_frame {a0} {a1} {s t : State} (h : exec (.qSetNotify a0 a1) s = .next t) : t.mask 39026754 = s.mask 39026754 := by
  have k := execQSetNotify_foot (w := 39026754) (by decide) a0 a1 s
  have h : execQSetNotify a0 a1 s = .next t := h
  rw [h] at k
  exact keeps_next.mp k
theorem qSetNotify_row_valves {a0} {a1} {s t : State} (h : s.ValvesSafe) (e : exec (.qSetNotify a0 a1) s = .next t) : t.ValvesSafe := by
  exact valves_keep (mask_mono (by decide) (qSetNotify_row_frame e)) h
theorem qGetStatus_row_fields {a0} {a1} : fieldSet (mayChange (.qGetStatus a0 a1)) = 39026754 := rfl
theorem qGetStatus_row_frame {a0} {a1} {s t : State} (h : exec (.qGetStatus a0 a1) s = .next t) : t.mask 39026754 = s.mask 39026754 := by
  have k := execQGetStatus_foot (w := 39026754) (by decide) a0 a1 s
  have h : execQGetStatus a0 a1 s = .next t := h
  rw [h] at k
  exact keeps_next.mp k
theorem qGetStatus_row_valves {a0} {a1} {s t : State} (h : s.ValvesSafe) (e : exec (.qGetStatus a0 a1) s = .next t) : t.ValvesSafe := by
  exact valves_keep (mask_mono (by decide) (qGetStatus_row_frame e)) h
theorem descriptorFetchComplete_row_fields {a0} : fieldSet (mayChange (.descriptorFetchComplete a0)) = 8658124866 := rfl
theorem descriptorFetchComplete_row_frame {a0} {s t : State} (h : exec (.descriptorFetchComplete a0) s = .next t) : t.mask 8658124866 = s.mask 8658124866 := by
  have k := execDescriptorFetchComplete_foot (w := 8658124866) (by decide) a0 s
  have h : execDescriptorFetchComplete a0 s = .next t := h
  rw [h] at k
  exact keeps_next.mp k
theorem descriptorFetchComplete_row_valves {a0} {s t : State} (h : s.ValvesSafe) (e : exec (.descriptorFetchComplete a0) s = .next t) : t.ValvesSafe := by
  exact valves_keep (mask_mono (by decide) (descriptorFetchComplete_row_frame e)) h
theorem notifyCoalTimeout_row_fields {a0} : fieldSet (mayChange (.notifyCoalTimeout a0)) = 1081378 := rfl
theorem notifyCoalTimeout_row_frame {a0} {s t : State} (h : exec (.notifyCoalTimeout a0) s = .next t) : t.mask 1081378 = s.mask 1081378 := by
  have k := execNotifyCoalTimeout_foot (w := 1081378) (by decide) a0 s
  have h : execNotifyCoalTimeout a0 s = .next t := h
  rw [h] at k
  exact keeps_next.mp k
theorem notifyCoalTimeout_row_valves {a0} {s t : State} (h : s.ValvesSafe) (e : exec (.notifyCoalTimeout a0) s = .next t) : t.ValvesSafe := by
  exact valves_keep (mask_mono (by decide) (notifyCoalTimeout_row_frame e)) h
theorem sourcePacketSend_row_fields {a0} {a1} : fieldSet (mayChange (.sourcePacketSend a0 a1)) = 1081442 := rfl
theorem sourcePacketSend_row_frame {a0} {a1} {s t : State} (h : exec (.sourcePacketSend a0 a1) s = .next t) : t.mask 1081442 = s.mask 1081442 := by
  have k := execSourcePacketSend_foot (w := 1081442) (by decide) a0 a1 s
  have h : execSourcePacketSend a0 a1 s = .next t := h
  rw [h] at k
  exact keeps_next.mp k
theorem sourcePacketSend_row_valves {a0} {a1} {s t : State} (h : s.ValvesSafe) (e : exec (.sourcePacketSend a0 a1) s = .next t) : t.ValvesSafe := by
  exact valves_keep (mask_mono (by decide) (sourcePacketSend_row_frame e)) h
theorem frameRecordStart_row_fields {a0} {a1} : fieldSet (mayChange (.frameRecordStart a0 a1)) = 68190306 := rfl
theorem frameRecordStart_row_frame {a0} {a1} {s t : State} (h : exec (.frameRecordStart a0 a1) s = .next t) : t.mask 68190306 = s.mask 68190306 := by
  have k := execFrameRecordStart_foot (w := 68190306) (by decide) a0 a1 s
  have h : execFrameRecordStart a0 a1 s = .next t := h
  rw [h] at k
  exact keeps_next.mp k
theorem frameRecordStart_row_valves {a0} {a1} {s t : State} (h : s.ValvesSafe) (e : exec (.frameRecordStart a0 a1) s = .next t) : t.ValvesSafe := by
  exact valves_keep (mask_mono (by decide) (frameRecordStart_row_frame e)) h
theorem frameRecordClose_row_fields {a0} {a1} : fieldSet (mayChange (.frameRecordClose a0 a1)) = 68190306 := rfl
theorem frameRecordClose_row_frame {a0} {a1} {s t : State} (h : exec (.frameRecordClose a0 a1) s = .next t) : t.mask 68190306 = s.mask 68190306 := by
  have k := execFrameRecordClose_foot (w := 68190306) (by decide) a0 a1 s
  have h : execFrameRecordClose a0 a1 s = .next t := h
  rw [h] at k
  exact keeps_next.mp k
theorem frameRecordClose_row_valves {a0} {a1} {s t : State} (h : s.ValvesSafe) (e : exec (.frameRecordClose a0 a1) s = .next t) : t.ValvesSafe := by
  exact valves_keep (mask_mono (by decide) (frameRecordClose_row_frame e)) h
theorem timeGetStatus_row_fields {a0} {a1} : fieldSet (mayChange (.timeGetStatus a0 a1)) = 37978178 := rfl
theorem timeGetStatus_row_frame {a0} {a1} {s t : State} (h : exec (.timeGetStatus a0 a1) s = .next t) : t.mask 37978178 = s.mask 37978178 := by
  have k := execTimeGetStatus_foot (w := 37978178) (by decide) a0 a1 s
  have h : execTimeGetStatus a0 a1 s = .next t := h
  rw [h] at k
  exact keeps_next.mp k
theorem timeGetStatus_row_valves {a0} {a1} {s t : State} (h : s.ValvesSafe) (e : exec (.timeGetStatus a0 a1) s = .next t) : t.ValvesSafe := by
  exact valves_keep (mask_mono (by decide) (timeGetStatus_row_frame e)) h
theorem timeSetSource_row_fields {a0} {a1} : fieldSet (mayChange (.timeSetSource a0 a1)) = 39026786 := rfl
theorem timeSetSource_row_frame {a0} {a1} {s t : State} (h : exec (.timeSetSource a0 a1) s = .next t) : t.mask 39026786 = s.mask 39026786 := by
  have k := execTimeSetSource_foot (w := 39026786) (by decide) a0 a1 s
  have h : execTimeSetSource a0 a1 s = .next t := h
  rw [h] at k
  exact keeps_next.mp k
theorem timeSetSource_row_valves {a0} {a1} {s t : State} (h : s.ValvesSafe) (e : exec (.timeSetSource a0 a1) s = .next t) : t.ValvesSafe := by
  exact valves_keep (mask_mono (by decide) (timeSetSource_row_frame e)) h
theorem timeSetExtOffset_row_fields {a0} {a1} : fieldSet (mayChange (.timeSetExtOffset a0 a1)) = 37978210 := rfl
theorem timeSetExtOffset_row_frame {a0} {a1} {s t : State} (h : exec (.timeSetExtOffset a0 a1) s = .next t) : t.mask 37978210 = s.mask 37978210 := by
  have k := execTimeSetExtOffset_foot (w := 37978210) (by decide) a0 a1 s
  have h : execTimeSetExtOffset a0 a1 s = .next t := h
  rw [h] at k
  exact keeps_next.mp k
theorem timeSetExtOffset_row_valves {a0} {a1} {s t : State} (h : s.ValvesSafe) (e : exec (.timeSetExtOffset a0 a1) s = .next t) : t.ValvesSafe := by
  exact valves_keep (mask_mono (by decide) (timeSetExtOffset_row_frame e)) h
theorem timeSetPps_row_fields {a0} {a1} : fieldSet (mayChange (.timeSetPps a0 a1)) = 37978210 := rfl
theorem timeSetPps_row_frame {a0} {a1} {s t : State} (h : exec (.timeSetPps a0 a1) s = .next t) : t.mask 37978210 = s.mask 37978210 := by
  have k := execTimeSetPps_foot (w := 37978210) (by decide) a0 a1 s
  have h : execTimeSetPps a0 a1 s = .next t := h
  rw [h] at k
  exact keeps_next.mp k
theorem timeSetPps_row_valves {a0} {a1} {s t : State} (h : s.ValvesSafe) (e : exec (.timeSetPps a0 a1) s = .next t) : t.ValvesSafe := by
  exact valves_keep (mask_mono (by decide) (timeSetPps_row_frame e)) h
theorem sourceValidityChange_row_fields {a0} {a1} {a2} : fieldSet (mayChange (.sourceValidityChange a0 a1 a2)) = 17858658 := rfl
theorem sourceValidityChange_row_frame {a0} {a1} {a2} {s t : State} (h : exec (.sourceValidityChange a0 a1 a2) s = .next t) : t.mask 17858658 = s.mask 17858658 := by
  have k := execSourceValidityChange_foot (w := 17858658) (by decide) a0 a1 a2 s
  have h : execSourceValidityChange a0 a1 a2 s = .next t := h
  rw [h] at k
  exact keeps_next.mp k
theorem sourceValidityChange_row_valves {a0} {a1} {a2} {s t : State} (h : s.ValvesSafe) (e : exec (.sourceValidityChange a0 a1 a2) s = .next t) : t.ValvesSafe := by
  exact valves_keep (mask_mono (by decide) (sourceValidityChange_row_frame e)) h
theorem sourcePromotion_row_fields {a0} : fieldSet (mayChange (.sourcePromotion a0)) = 1081442 := rfl
theorem sourcePromotion_row_frame {a0} {s t : State} (h : exec (.sourcePromotion a0) s = .next t) : t.mask 1081442 = s.mask 1081442 := by
  have k := execSourcePromotion_foot (w := 1081442) (by decide) a0 s
  have h : execSourcePromotion a0 s = .next t := h
  rw [h] at k
  exact keeps_next.mp k
theorem sourcePromotion_row_valves {a0} {s t : State} (h : s.ValvesSafe) (e : exec (.sourcePromotion a0) s = .next t) : t.ValvesSafe := by
  exact valves_keep (mask_mono (by decide) (sourcePromotion_row_frame e)) h
theorem ppsEdge_row_fields {a0} {a1} : fieldSet (mayChange (.ppsEdge a0 a1)) = 38830182 := rfl
theorem ppsEdge_row_frame {a0} {a1} {s t : State} (h : exec (.ppsEdge a0 a1) s = .next t) : t.mask 38830182 = s.mask 38830182 := by
  have k := execPpsEdge_foot (w := 38830182) (by decide) a0 a1 s
  have h : execPpsEdge a0 a1 s = .next t := h
  rw [h] at k
  exact keeps_next.mp k
theorem ppsEdge_row_valves {a0} {a1} {s t : State} (h : s.ValvesSafe) (e : exec (.ppsEdge a0 a1) s = .next t) : t.ValvesSafe := by
  exact valves_keep (mask_mono (by decide) (ppsEdge_row_frame e)) h
theorem extOffsetApply_row_fields : fieldSet (mayChange (.extOffsetApply)) = 1081442 := rfl
theorem extOffsetApply_row_frame {s t : State} (h : exec (.extOffsetApply) s = .next t) : t.mask 1081442 = s.mask 1081442 := by
  have k := execExtOffsetApply_foot (w := 1081442) (by decide) s
  have h : execExtOffsetApply s = .next t := h
  rw [h] at k
  exact keeps_next.mp k
theorem extOffsetApply_row_valves {s t : State} (h : s.ValvesSafe) (e : exec (.extOffsetApply) s = .next t) : t.ValvesSafe := by
  exact valves_keep (mask_mono (by decide) (extOffsetApply_row_frame e)) h
theorem ppsOutRise_row_fields {a0} : fieldSet (mayChange (.ppsOutRise a0)) = 34 := rfl
theorem ppsOutRise_row_frame {a0} {s t : State} (h : exec (.ppsOutRise a0) s = .next t) : t.mask 34 = s.mask 34 := by
  have k := execPpsOutRise_foot (w := 34) (by decide) a0 s
  have h : execPpsOutRise a0 s = .next t := h
  rw [h] at k
  exact keeps_next.mp k
theorem ppsOutRise_row_valves {a0} {s t : State} (h : s.ValvesSafe) (e : exec (.ppsOutRise a0) s = .next t) : t.ValvesSafe := by
  exact valves_keep (mask_mono (by decide) (ppsOutRise_row_frame e)) h
theorem ppsOutFall_row_fields : fieldSet (mayChange (.ppsOutFall)) = 34 := rfl
theorem ppsOutFall_row_frame {s t : State} (h : exec (.ppsOutFall) s = .next t) : t.mask 34 = s.mask 34 := by
  have k := execPpsOutFall_foot (w := 34) (by decide) s
  have h : execPpsOutFall s = .next t := h
  rw [h] at k
  exact keeps_next.mp k
theorem ppsOutFall_row_valves {s t : State} (h : s.ValvesSafe) (e : exec (.ppsOutFall) s = .next t) : t.ValvesSafe := by
  exact valves_keep (mask_mono (by decide) (ppsOutFall_row_frame e)) h
theorem schedAdd_row_fields {a0} {a1} : fieldSet (mayChange (.schedAdd a0 a1)) = 17317414273098 := rfl
theorem schedAdd_row_frame {a0} {a1} {s t : State} (h : exec (.schedAdd a0 a1) s = .next t) : t.mask 17317414273098 = s.mask 17317414273098 := by
  have k := execSchedAdd_foot (w := 17317414273098) (by decide) a0 a1 s
  have h : execSchedAdd a0 a1 s = .next t := h
  rw [h] at k
  exact keeps_next.mp k
theorem schedAdd_row_valves {a0} {a1} {s t : State} (h : s.ValvesSafe) (e : exec (.schedAdd a0 a1) s = .next t) : t.ValvesSafe := by
  have k : OutcomeValves (execSchedAdd a0 a1 s) := execSchedAdd_valves a0 a1 s h
  have h : execSchedAdd a0 a1 s = .next t := e
  rw [h] at k
  exact k
theorem schedCancel_row_fields {a0} {a1} : fieldSet (mayChange (.schedCancel a0 a1)) = 274915885122 := rfl
theorem schedCancel_row_frame {a0} {a1} {s t : State} (h : exec (.schedCancel a0 a1) s = .next t) : t.mask 274915885122 = s.mask 274915885122 := by
  have k := execSchedCancel_foot (w := 274915885122) (by decide) a0 a1 s
  have h : execSchedCancel a0 a1 s = .next t := h
  rw [h] at k
  exact keeps_next.mp k
theorem schedCancel_row_valves {a0} {a1} {s t : State} (h : s.ValvesSafe) (e : exec (.schedCancel a0 a1) s = .next t) : t.ValvesSafe := by
  exact valves_keep (mask_mono (by decide) (schedCancel_row_frame e)) h
theorem schedGetStatus_row_fields {a0} {a1} : fieldSet (mayChange (.schedGetStatus a0 a1)) = 274915885122 := rfl
theorem schedGetStatus_row_frame {a0} {a1} {s t : State} (h : exec (.schedGetStatus a0 a1) s = .next t) : t.mask 274915885122 = s.mask 274915885122 := by
  have k := execSchedGetStatus_foot (w := 274915885122) (by decide) a0 a1 s
  have h : execSchedGetStatus a0 a1 s = .next t := h
  rw [h] at k
  exact keeps_next.mp k
theorem schedGetStatus_row_valves {a0} {a1} {s t : State} (h : s.ValvesSafe) (e : exec (.schedGetStatus a0 a1) s = .next t) : t.ValvesSafe := by
  exact valves_keep (mask_mono (by decide) (schedGetStatus_row_frame e)) h
theorem actionExecute_row_fields {a0} {a1} : fieldSet (mayChange (.actionExecute a0 a1)) = 17317416173674 := rfl
theorem actionExecute_row_frame {a0} {a1} {s t : State} (h : exec (.actionExecute a0 a1) s = .next t) : t.mask 17317416173674 = s.mask 17317416173674 := by
  have k := execActionExecute_foot (w := 17317416173674) (by decide) a0 a1 s
  have h : execActionExecute a0 a1 s = .next t := h
  rw [h] at k
  exact keeps_next.mp k
theorem actionExecute_row_valves {a0} {a1} {s t : State} (h : s.ValvesSafe) (e : exec (.actionExecute a0 a1) s = .next t) : t.ValvesSafe := by
  have k : OutcomeValves (execActionExecute a0 a1 s) := execActionExecute_valves a0 a1 s h
  have h : execActionExecute a0 a1 s = .next t := e
  rw [h] at k
  exact k
theorem wgConfigure_row_fields {a0} {a1} : fieldSet (mayChange (.wgConfigure a0 a1)) = 8796131000386 := rfl
theorem wgConfigure_row_frame {a0} {a1} {s t : State} (h : exec (.wgConfigure a0 a1) s = .next t) : t.mask 8796131000386 = s.mask 8796131000386 := by
  have k := execWgConfigure_foot (w := 8796131000386) (by decide) a0 a1 s
  have h : execWgConfigure a0 a1 s = .next t := h
  rw [h] at k
  exact keeps_next.mp k
theorem wgConfigure_row_valves {a0} {a1} {s t : State} (h : s.ValvesSafe) (e : exec (.wgConfigure a0 a1) s = .next t) : t.ValvesSafe := by
  exact valves_keep (mask_mono (by decide) (wgConfigure_row_frame e)) h
theorem wgConnect_row_fields {a0} {a1} : fieldSet (mayChange (.wgConnect a0 a1)) = 8796131000386 := rfl
theorem wgConnect_row_frame {a0} {a1} {s t : State} (h : exec (.wgConnect a0 a1) s = .next t) : t.mask 8796131000386 = s.mask 8796131000386 := by
  have k := execWgConnect_foot (w := 8796131000386) (by decide) a0 a1 s
  have h : execWgConnect a0 a1 s = .next t := h
  rw [h] at k
  exact keeps_next.mp k
theorem wgConnect_row_valves {a0} {a1} {s t : State} (h : s.ValvesSafe) (e : exec (.wgConnect a0 a1) s = .next t) : t.ValvesSafe := by
  exact valves_keep (mask_mono (by decide) (wgConnect_row_frame e)) h
theorem wgSetGroup_row_fields {a0} {a1} : fieldSet (mayChange (.wgSetGroup a0 a1)) = 8796131000386 := rfl
theorem wgSetGroup_row_frame {a0} {a1} {s t : State} (h : exec (.wgSetGroup a0 a1) s = .next t) : t.mask 8796131000386 = s.mask 8796131000386 := by
  have k := execWgSetGroup_foot (w := 8796131000386) (by decide) a0 a1 s
  have h : execWgSetGroup a0 a1 s = .next t := h
  rw [h] at k
  exact keeps_next.mp k
theorem wgSetGroup_row_valves {a0} {a1} {s t : State} (h : s.ValvesSafe) (e : exec (.wgSetGroup a0 a1) s = .next t) : t.ValvesSafe := by
  exact valves_keep (mask_mono (by decide) (wgSetGroup_row_frame e)) h
theorem wgExport_row_fields {a0} {a1} : fieldSet (mayChange (.wgExport a0 a1)) = 8796131262530 := rfl
theorem wgExport_row_frame {a0} {a1} {s t : State} (h : exec (.wgExport a0 a1) s = .next t) : t.mask 8796131262530 = s.mask 8796131262530 := by
  have k := execWgExport_foot (w := 8796131262530) (by decide) a0 a1 s
  have h : execWgExport a0 a1 s = .next t := h
  rw [h] at k
  exact keeps_next.mp k
theorem wgExport_row_valves {a0} {a1} {s t : State} (h : s.ValvesSafe) (e : exec (.wgExport a0 a1) s = .next t) : t.ValvesSafe := by
  exact valves_keep (mask_mono (by decide) (wgExport_row_frame e)) h
theorem wgGetStatus_row_fields {a0} {a1} : fieldSet (mayChange (.wgGetStatus a0 a1)) = 8796131000386 := rfl
theorem wgGetStatus_row_frame {a0} {a1} {s t : State} (h : exec (.wgGetStatus a0 a1) s = .next t) : t.mask 8796131000386 = s.mask 8796131000386 := by
  have k := execWgGetStatus_foot (w := 8796131000386) (by decide) a0 a1 s
  have h : execWgGetStatus a0 a1 s = .next t := h
  rw [h] at k
  exact keeps_next.mp k
theorem wgGetStatus_row_valves {a0} {a1} {s t : State} (h : s.ValvesSafe) (e : exec (.wgGetStatus a0 a1) s = .next t) : t.ValvesSafe := by
  exact valves_keep (mask_mono (by decide) (wgGetStatus_row_frame e)) h
theorem producerOccurrence_row_fields {a0} {a1} {a2} : fieldSet (mayChange (.producerOccurrence a0 a1 a2)) = 17042469060714 := rfl
theorem producerOccurrence_row_frame {a0} {a1} {a2} {s t : State} (h : exec (.producerOccurrence a0 a1 a2) s = .next t) : t.mask 17042469060714 = s.mask 17042469060714 := by
  have k := execProducerOccurrence_foot (w := 17042469060714) (by decide) a0 a1 a2 s
  have h : execProducerOccurrence a0 a1 a2 s = .next t := h
  rw [h] at k
  exact keeps_next.mp k
theorem producerOccurrence_row_valves {a0} {a1} {a2} {s t : State} (h : s.ValvesSafe) (e : exec (.producerOccurrence a0 a1 a2) s = .next t) : t.ValvesSafe := by
  have k : OutcomeValves (execProducerOccurrence a0 a1 a2 s) := execProducerOccurrence_valves a0 a1 a2 s h
  have h : execProducerOccurrence a0 a1 a2 s = .next t := e
  rw [h] at k
  exact k
theorem channelDelayFire_row_fields {a0} : fieldSet (mayChange (.channelDelayFire a0)) = 17042469060714 := rfl
theorem channelDelayFire_row_frame {a0} {s t : State} (h : exec (.channelDelayFire a0) s = .next t) : t.mask 17042469060714 = s.mask 17042469060714 := by
  have k := execChannelDelayFire_foot (w := 17042469060714) (by decide) a0 s
  have h : execChannelDelayFire a0 s = .next t := h
  rw [h] at k
  exact keeps_next.mp k
theorem channelDelayFire_row_valves {a0} {s t : State} (h : s.ValvesSafe) (e : exec (.channelDelayFire a0) s = .next t) : t.ValvesSafe := by
  have k : OutcomeValves (execChannelDelayFire a0 s) := execChannelDelayFire_valves a0 s h
  have h : execChannelDelayFire a0 s = .next t := e
  rw [h] at k
  exact k
theorem wgImportReceived_row_fields {a0} {a1} {a2} {a3} : fieldSet (mayChange (.wgImportReceived a0 a1 a2 a3)) = 9070972010594 := rfl
theorem wgImportReceived_row_frame {a0} {a1} {a2} {a3} {s t : State} (h : exec (.wgImportReceived a0 a1 a2 a3) s = .next t) : t.mask 9070972010594 = s.mask 9070972010594 := by
  have k := execWgImportReceived_foot (w := 9070972010594) (by decide) a0 a1 a2 a3 s
  have h : execWgImportReceived a0 a1 a2 a3 s = .next t := h
  rw [h] at k
  exact keeps_next.mp k
theorem wgImportReceived_row_valves {a0} {a1} {a2} {a3} {s t : State} (h : s.ValvesSafe) (e : exec (.wgImportReceived a0 a1 a2 a3) s = .next t) : t.ValvesSafe := by
  exact valves_keep (mask_mono (by decide) (wgImportReceived_row_frame e)) h
theorem encConfigure_row_fields {a0} {a1} : fieldSet (mayChange (.encConfigure a0 a1)) = 1099549605954 := rfl
theorem encConfigure_row_frame {a0} {a1} {s t : State} (h : exec (.encConfigure a0 a1) s = .next t) : t.mask 1099549605954 = s.mask 1099549605954 := by
  have k := execEncConfigure_foot (w := 1099549605954) (by decide) a0 a1 s
  have h : execEncConfigure a0 a1 s = .next t := h
  rw [h] at k
  exact keeps_next.mp k
theorem encConfigure_row_valves {a0} {a1} {s t : State} (h : s.ValvesSafe) (e : exec (.encConfigure a0 a1) s = .next t) : t.ValvesSafe := by
  exact valves_keep (mask_mono (by decide) (encConfigure_row_frame e)) h
theorem encSetCount_row_fields {a0} {a1} : fieldSet (mayChange (.encSetCount a0 a1)) = 1099549605954 := rfl
theorem encSetCount_row_frame {a0} {a1} {s t : State} (h : exec (.encSetCount a0 a1) s = .next t) : t.mask 1099549605954 = s.mask 1099549605954 := by
  have k := execEncSetCount_foot (w := 1099549605954) (by decide) a0 a1 s
  have h : execEncSetCount a0 a1 s = .next t := h
  rw [h] at k
  exact keeps_next.mp k
theorem encSetCount_row_valves {a0} {a1} {s t : State} (h : s.ValvesSafe) (e : exec (.encSetCount a0 a1) s = .next t) : t.ValvesSafe := by
  exact valves_keep (mask_mono (by decide) (encSetCount_row_frame e)) h
theorem encGetStatus_row_fields {a0} {a1} : fieldSet (mayChange (.encGetStatus a0 a1)) = 1099549605954 := rfl
theorem encGetStatus_row_frame {a0} {a1} {s t : State} (h : exec (.encGetStatus a0 a1) s = .next t) : t.mask 1099549605954 = s.mask 1099549605954 := by
  have k := execEncGetStatus_foot (w := 1099549605954) (by decide) a0 a1 s
  have h : execEncGetStatus a0 a1 s = .next t := h
  rw [h] at k
  exact keeps_next.mp k
theorem encGetStatus_row_valves {a0} {a1} {s t : State} (h : s.ValvesSafe) (e : exec (.encGetStatus a0 a1) s = .next t) : t.ValvesSafe := by
  exact valves_keep (mask_mono (by decide) (encGetStatus_row_frame e)) h
theorem emuConfigure_row_fields {a0} {a1} : fieldSet (mayChange (.emuConfigure a0 a1)) = 2199061233730 := rfl
theorem emuConfigure_row_frame {a0} {a1} {s t : State} (h : exec (.emuConfigure a0 a1) s = .next t) : t.mask 2199061233730 = s.mask 2199061233730 := by
  have k := execEmuConfigure_foot (w := 2199061233730) (by decide) a0 a1 s
  have h : execEmuConfigure a0 a1 s = .next t := h
  rw [h] at k
  exact keeps_next.mp k
theorem emuConfigure_row_valves {a0} {a1} {s t : State} (h : s.ValvesSafe) (e : exec (.emuConfigure a0 a1) s = .next t) : t.ValvesSafe := by
  exact valves_keep (mask_mono (by decide) (emuConfigure_row_frame e)) h
theorem gpioConfigure_row_fields {a0} {a1} : fieldSet (mayChange (.gpioConfigure a0 a1)) = 4398084489282 := rfl
theorem gpioConfigure_row_frame {a0} {a1} {s t : State} (h : exec (.gpioConfigure a0 a1) s = .next t) : t.mask 4398084489282 = s.mask 4398084489282 := by
  have k := execGpioConfigure_foot (w := 4398084489282) (by decide) a0 a1 s
  have h : execGpioConfigure a0 a1 s = .next t := h
  rw [h] at k
  exact keeps_next.mp k
theorem gpioConfigure_row_valves {a0} {a1} {s t : State} (h : s.ValvesSafe) (e : exec (.gpioConfigure a0 a1) s = .next t) : t.ValvesSafe := by
  exact valves_keep (mask_mono (by decide) (gpioConfigure_row_frame e)) h
theorem gpioWrite_row_fields {a0} {a1} : fieldSet (mayChange (.gpioWrite a0 a1)) = 4398084489282 := rfl
theorem gpioWrite_row_frame {a0} {a1} {s t : State} (h : exec (.gpioWrite a0 a1) s = .next t) : t.mask 4398084489282 = s.mask 4398084489282 := by
  have k := execGpioWrite_foot (w := 4398084489282) (by decide) a0 a1 s
  have h : execGpioWrite a0 a1 s = .next t := h
  rw [h] at k
  exact keeps_next.mp k
theorem gpioWrite_row_valves {a0} {a1} {s t : State} (h : s.ValvesSafe) (e : exec (.gpioWrite a0 a1) s = .next t) : t.ValvesSafe := by
  exact valves_keep (mask_mono (by decide) (gpioWrite_row_frame e)) h
theorem gpioGetStatus_row_fields {a0} {a1} : fieldSet (mayChange (.gpioGetStatus a0 a1)) = 4398084489282 := rfl
theorem gpioGetStatus_row_frame {a0} {a1} {s t : State} (h : exec (.gpioGetStatus a0 a1) s = .next t) : t.mask 4398084489282 = s.mask 4398084489282 := by
  have k := execGpioGetStatus_foot (w := 4398084489282) (by decide) a0 a1 s
  have h : execGpioGetStatus a0 a1 s = .next t := h
  rw [h] at k
  exact keeps_next.mp k
theorem gpioGetStatus_row_valves {a0} {a1} {s t : State} (h : s.ValvesSafe) (e : exec (.gpioGetStatus a0 a1) s = .next t) : t.ValvesSafe := by
  exact valves_keep (mask_mono (by decide) (gpioGetStatus_row_frame e)) h
theorem encoderEdge_row_fields {a0} {a1} {a2} {a3} : fieldSet (mayChange (.encoderEdge a0 a1 a2 a3)) = 1099512709226 := rfl
theorem encoderEdge_row_frame {a0} {a1} {a2} {a3} {s t : State} (h : exec (.encoderEdge a0 a1 a2 a3) s = .next t) : t.mask 1099512709226 = s.mask 1099512709226 := by
  have k := execEncoderEdge_foot (w := 1099512709226) (by decide) a0 a1 a2 a3 s
  have h : execEncoderEdge a0 a1 a2 a3 s = .next t := h
  rw [h] at k
  exact keeps_next.mp k
theorem encoderEdge_row_valves {a0} {a1} {a2} {a3} {s t : State} (h : s.ValvesSafe) (e : exec (.encoderEdge a0 a1 a2 a3) s = .next t) : t.ValvesSafe := by
  exact valves_keep (mask_mono (by decide) (encoderEdge_row_frame e)) h
theorem encoderIndex_row_fields {a0} {a1} : fieldSet (mayChange (.encoderIndex a0 a1)) = 1099512709226 := rfl
theorem encoderIndex_row_frame {a0} {a1} {s t : State} (h : exec (.encoderIndex a0 a1) s = .next t) : t.mask 1099512709226 = s.mask 1099512709226 := by
  have k := execEncoderIndex_foot (w := 1099512709226) (by decide) a0 a1 s
  have h : execEncoderIndex a0 a1 s = .next t := h
  rw [h] at k
  exact keeps_next.mp k
theorem encoderIndex_row_valves {a0} {a1} {s t : State} (h : s.ValvesSafe) (e : exec (.encoderIndex a0 a1) s = .next t) : t.ValvesSafe := by
  exact valves_keep (mask_mono (by decide) (encoderIndex_row_frame e)) h
theorem speedUpdate_row_fields {a0} {a1} : fieldSet (mayChange (.speedUpdate a0 a1)) = 1099511627808 := rfl
theorem speedUpdate_row_frame {a0} {a1} {s t : State} (h : exec (.speedUpdate a0 a1) s = .next t) : t.mask 1099511627808 = s.mask 1099511627808 := by
  have k := execSpeedUpdate_foot (w := 1099511627808) (by decide) a0 a1 s
  have h : execSpeedUpdate a0 a1 s = .next t := h
  rw [h] at k
  exact keeps_next.mp k
theorem speedUpdate_row_valves {a0} {a1} {s t : State} (h : s.ValvesSafe) (e : exec (.speedUpdate a0 a1) s = .next t) : t.ValvesSafe := by
  exact valves_keep (mask_mono (by decide) (speedUpdate_row_frame e)) h
theorem standstill_row_fields {a0} : fieldSet (mayChange (.standstill a0)) = 1099511627808 := rfl
theorem standstill_row_frame {a0} {s t : State} (h : exec (.standstill a0) s = .next t) : t.mask 1099511627808 = s.mask 1099511627808 := by
  have k := execStandstill_foot (w := 1099511627808) (by decide) a0 s
  have h : execStandstill a0 s = .next t := h
  rw [h] at k
  exact keeps_next.mp k
theorem standstill_row_valves {a0} {s t : State} (h : s.ValvesSafe) (e : exec (.standstill a0) s = .next t) : t.ValvesSafe := by
  exact valves_keep (mask_mono (by decide) (standstill_row_frame e)) h
theorem encoderHistorySample_row_fields {a0} {a1} : fieldSet (mayChange (.encoderHistorySample a0 a1)) = 1099511627808 := rfl
theorem encoderHistorySample_row_frame {a0} {a1} {s t : State} (h : exec (.encoderHistorySample a0 a1) s = .next t) : t.mask 1099511627808 = s.mask 1099511627808 := by
  have k := execEncoderHistorySample_foot (w := 1099511627808) (by decide) a0 a1 s
  have h : execEncoderHistorySample a0 a1 s = .next t := h
  rw [h] at k
  exact keeps_next.mp k
theorem encoderHistorySample_row_valves {a0} {a1} {s t : State} (h : s.ValvesSafe) (e : exec (.encoderHistorySample a0 a1) s = .next t) : t.ValvesSafe := by
  exact valves_keep (mask_mono (by decide) (encoderHistorySample_row_frame e)) h
theorem ssiFrame_row_fields {a0} {a1} {a2} {a3} : fieldSet (mayChange (.ssiFrame a0 a1 a2 a3)) = 1099512709226 := rfl
theorem ssiFrame_row_frame {a0} {a1} {a2} {a3} {s t : State} (h : exec (.ssiFrame a0 a1 a2 a3) s = .next t) : t.mask 1099512709226 = s.mask 1099512709226 := by
  have k := execSsiFrame_foot (w := 1099512709226) (by decide) a0 a1 a2 a3 s
  have h : execSsiFrame a0 a1 a2 a3 s = .next t := h
  rw [h] at k
  exact keeps_next.mp k
theorem ssiFrame_row_valves {a0} {a1} {a2} {a3} {s t : State} (h : s.ValvesSafe) (e : exec (.ssiFrame a0 a1 a2 a3) s = .next t) : t.ValvesSafe := by
  exact valves_keep (mask_mono (by decide) (ssiFrame_row_frame e)) h
theorem emulationStep_row_fields {a0} {a1} : fieldSet (mayChange (.emulationStep a0 a1)) = 2199024337002 := rfl
theorem emulationStep_row_frame {a0} {a1} {s t : State} (h : exec (.emulationStep a0 a1) s = .next t) : t.mask 2199024337002 = s.mask 2199024337002 := by
  have k := execEmulationStep_foot (w := 2199024337002) (by decide) a0 a1 s
  have h : execEmulationStep a0 a1 s = .next t := h
  rw [h] at k
  exact keeps_next.mp k
theorem emulationStep_row_valves {a0} {a1} {s t : State} (h : s.ValvesSafe) (e : exec (.emulationStep a0 a1) s = .next t) : t.ValvesSafe := by
  exact valves_keep (mask_mono (by decide) (emulationStep_row_frame e)) h
theorem gpioEdge_row_fields {a0} {a1} {a2} : fieldSet (mayChange (.gpioEdge a0 a1 a2)) = 4398047592546 := rfl
theorem gpioEdge_row_frame {a0} {a1} {a2} {s t : State} (h : exec (.gpioEdge a0 a1 a2) s = .next t) : t.mask 4398047592546 = s.mask 4398047592546 := by
  have k := execGpioEdge_foot (w := 4398047592546) (by decide) a0 a1 a2 s
  have h : execGpioEdge a0 a1 a2 s = .next t := h
  rw [h] at k
  exact keeps_next.mp k
theorem gpioEdge_row_valves {a0} {a1} {a2} {s t : State} (h : s.ValvesSafe) (e : exec (.gpioEdge a0 a1 a2) s = .next t) : t.ValvesSafe := by
  exact valves_keep (mask_mono (by decide) (gpioEdge_row_frame e)) h
theorem hiveGetStatus_row_fields {a0} {a1} : fieldSet (mayChange (.hiveGetStatus a0 a1)) = 37978178 := rfl
theorem hiveGetStatus_row_frame {a0} {a1} {s t : State} (h : exec (.hiveGetStatus a0 a1) s = .next t) : t.mask 37978178 = s.mask 37978178 := by
  have k := execHiveGetStatus_foot (w := 37978178) (by decide) a0 a1 s
  have h : execHiveGetStatus a0 a1 s = .next t := h
  rw [h] at k
  exact keeps_next.mp k
theorem hiveGetStatus_row_valves {a0} {a1} {s t : State} (h : s.ValvesSafe) (e : exec (.hiveGetStatus a0 a1) s = .next t) : t.ValvesSafe := by
  exact valves_keep (mask_mono (by decide) (hiveGetStatus_row_frame e)) h
theorem hiveListDevices_row_fields {a0} {a1} : fieldSet (mayChange (.hiveListDevices a0 a1)) = 37978182 := rfl
theorem hiveListDevices_row_frame {a0} {a1} {s t : State} (h : exec (.hiveListDevices a0 a1) s = .next t) : t.mask 37978182 = s.mask 37978182 := by
  have k := execHiveListDevices_foot (w := 37978182) (by decide) a0 a1 s
  have h : execHiveListDevices a0 a1 s = .next t := h
  rw [h] at k
  exact keeps_next.mp k
theorem hiveListDevices_row_valves {a0} {a1} {s t : State} (h : s.ValvesSafe) (e : exec (.hiveListDevices a0 a1) s = .next t) : t.ValvesSafe := by
  exact valves_keep (mask_mono (by decide) (hiveListDevices_row_frame e)) h
theorem hiveSetPolicy_row_fields {a0} {a1} : fieldSet (mayChange (.hiveSetPolicy a0 a1)) = 37978178 := rfl
theorem hiveSetPolicy_row_frame {a0} {a1} {s t : State} (h : exec (.hiveSetPolicy a0 a1) s = .next t) : t.mask 37978178 = s.mask 37978178 := by
  have k := execHiveSetPolicy_foot (w := 37978178) (by decide) a0 a1 s
  have h : execHiveSetPolicy a0 a1 s = .next t := h
  rw [h] at k
  exact keeps_next.mp k
theorem hiveSetPolicy_row_valves {a0} {a1} {s t : State} (h : s.ValvesSafe) (e : exec (.hiveSetPolicy a0 a1) s = .next t) : t.ValvesSafe := by
  exact valves_keep (mask_mono (by decide) (hiveSetPolicy_row_frame e)) h
theorem hiveResetDevice_row_fields {a0} {a1} : fieldSet (mayChange (.hiveResetDevice a0 a1)) = 37978194 := rfl
theorem hiveResetDevice_row_frame {a0} {a1} {s t : State} (h : exec (.hiveResetDevice a0 a1) s = .next t) : t.mask 37978194 = s.mask 37978194 := by
  have k := execHiveResetDevice_foot (w := 37978194) (by decide) a0 a1 s
  have h : execHiveResetDevice a0 a1 s = .next t := h
  rw [h] at k
  exact keeps_next.mp k
theorem hiveResetDevice_row_valves {a0} {a1} {s t : State} (h : s.ValvesSafe) (e : exec (.hiveResetDevice a0 a1) s = .next t) : t.ValvesSafe := by
  exact valves_keep (mask_mono (by decide) (hiveResetDevice_row_frame e)) h
theorem hiveResetDone_row_fields {a0} {a1} : fieldSet (mayChange (.hiveResetDone a0 a1)) = 34635858 := rfl
theorem hiveResetDone_row_frame {a0} {a1} {s t : State} (h : exec (.hiveResetDone a0 a1) s = .next t) : t.mask 34635858 = s.mask 34635858 := by
  have k := execHiveResetDone_foot (w := 34635858) (by decide) a0 a1 s
  have h : execHiveResetDone a0 a1 s = .next t := h
  rw [h] at k
  exact keeps_next.mp k
theorem hiveResetDone_row_valves {a0} {a1} {s t : State} (h : s.ValvesSafe) (e : exec (.hiveResetDone a0 a1) s = .next t) : t.ValvesSafe := by
  exact valves_keep (mask_mono (by decide) (hiveResetDone_row_frame e)) h
theorem hiveRemote_row_fields {a0} {a1} : fieldSet (mayChange (.hiveRemote a0 a1)) = 17452599083006 := rfl
theorem hiveRemote_row_frame {a0} {a1} {s t : State} (h : exec (.hiveRemote a0 a1) s = .next t) : t.mask 17452599083006 = s.mask 17452599083006 := by
  have k := execHiveRemote_foot (w := 17452599083006) (by decide) a0 a1 s
  have h : execHiveRemote a0 a1 s = .next t := h
  rw [h] at k
  exact keeps_next.mp k
theorem hiveRemote_row_valves {a0} {a1} {s t : State} (h : s.ValvesSafe) (e : exec (.hiveRemote a0 a1) s = .next t) : t.ValvesSafe := by
  have k : OutcomeValves (execHiveRemote a0 a1 s) := execHiveRemote_valves a0 a1 s h
  have h : execHiveRemote a0 a1 s = .next t := e
  rw [h] at k
  exact k
theorem remoteReqReceived_row_fields {a0} {a1} {a2} : fieldSet (mayChange (.remoteReqReceived a0 a1 a2)) = 17452599083006 := rfl
theorem remoteReqReceived_row_frame {a0} {a1} {a2} {s t : State} (h : exec (.remoteReqReceived a0 a1 a2) s = .next t) : t.mask 17452599083006 = s.mask 17452599083006 := by
  have k := execRemoteReqReceived_foot (w := 17452599083006) (by decide) a0 a1 a2 s
  have h : execRemoteReqReceived a0 a1 a2 s = .next t := h
  rw [h] at k
  exact keeps_next.mp k
theorem remoteReqReceived_row_valves {a0} {a1} {a2} {s t : State} (h : s.ValvesSafe) (e : exec (.remoteReqReceived a0 a1 a2) s = .next t) : t.ValvesSafe := by
  have k : OutcomeValves (execRemoteReqReceived a0 a1 a2 s) := execRemoteReqReceived_valves a0 a1 a2 s h
  have h : execRemoteReqReceived a0 a1 a2 s = .next t := e
  rw [h] at k
  exact k
theorem remoteRespReceived_row_fields {a0} {a1} : fieldSet (mayChange (.remoteRespReceived a0 a1)) = 8813311131714 := rfl
theorem remoteRespReceived_row_frame {a0} {a1} {s t : State} (h : exec (.remoteRespReceived a0 a1) s = .next t) : t.mask 8813311131714 = s.mask 8813311131714 := by
  have k := execRemoteRespReceived_foot (w := 8813311131714) (by decide) a0 a1 s
  have h : execRemoteRespReceived a0 a1 s = .next t := h
  rw [h] at k
  exact keeps_next.mp k
theorem remoteRespReceived_row_valves {a0} {a1} {s t : State} (h : s.ValvesSafe) (e : exec (.remoteRespReceived a0 a1) s = .next t) : t.ValvesSafe := by
  exact valves_keep (mask_mono (by decide) (remoteRespReceived_row_frame e)) h
theorem hiveRemoteTimeout_row_fields {a0} {a1} : fieldSet (mayChange (.hiveRemoteTimeout a0 a1)) = 38240354 := rfl
theorem hiveRemoteTimeout_row_frame {a0} {a1} {s t : State} (h : exec (.hiveRemoteTimeout a0 a1) s = .next t) : t.mask 38240354 = s.mask 38240354 := by
  have k := execHiveRemoteTimeout_foot (w := 38240354) (by decide) a0 a1 s
  have h : execHiveRemoteTimeout a0 a1 s = .next t := h
  rw [h] at k
  exact keeps_next.mp k
theorem hiveRemoteTimeout_row_valves {a0} {a1} {s t : State} (h : s.ValvesSafe) (e : exec (.hiveRemoteTimeout a0 a1) s = .next t) : t.ValvesSafe := by
  exact valves_keep (mask_mono (by decide) (hiveRemoteTimeout_row_frame e)) h
theorem hmsgForward_row_fields {a0} {a1} : fieldSet (mayChange (.hmsgForward a0 a1)) = 17590038560766 := rfl
theorem hmsgForward_row_frame {a0} {a1} {s t : State} (h : exec (.hmsgForward a0 a1) s = .next t) : t.mask 17590038560766 = s.mask 17590038560766 := by
  have k := execHmsgForward_foot (w := 17590038560766) (by decide) a0 a1 s
  have h : execHmsgForward a0 a1 s = .next t := h
  rw [h] at k
  exact keeps_next.mp k
theorem hmsgForward_row_valves {a0} {a1} {s t : State} (h : s.ValvesSafe) (e : exec (.hmsgForward a0 a1) s = .next t) : t.ValvesSafe := by
  have k : OutcomeValves (execHmsgForward a0 a1 s) := execHmsgForward_valves a0 a1 s h
  have h : execHmsgForward a0 a1 s = .next t := e
  rw [h] at k
  exact k
theorem hiveFormAlone_row_fields : fieldSet (mayChange (.hiveFormAlone)) = 35160162 := rfl
theorem hiveFormAlone_row_frame {s t : State} (h : exec (.hiveFormAlone) s = .next t) : t.mask 35160162 = s.mask 35160162 := by
  have k := execHiveFormAlone_foot (w := 35160162) (by decide) s
  have h : execHiveFormAlone s = .next t := h
  rw [h] at k
  exact keeps_next.mp k
theorem hiveFormAlone_row_valves {s t : State} (h : s.ValvesSafe) (e : exec (.hiveFormAlone) s = .next t) : t.ValvesSafe := by
  exact valves_keep (mask_mono (by decide) (hiveFormAlone_row_frame e)) h
theorem electionListenEnd_row_fields : fieldSet (mayChange (.electionListenEnd)) = 33554464 := rfl
theorem electionListenEnd_row_frame {s t : State} (h : exec (.electionListenEnd) s = .next t) : t.mask 33554464 = s.mask 33554464 := by
  have k := execElectionListenEnd_foot (w := 33554464) (by decide) s
  have h : execElectionListenEnd s = .next t := h
  rw [h] at k
  exact keeps_next.mp k
theorem electionListenEnd_row_valves {s t : State} (h : s.ValvesSafe) (e : exec (.electionListenEnd) s = .next t) : t.ValvesSafe := by
  exact valves_keep (mask_mono (by decide) (electionListenEnd_row_frame e)) h
theorem announceSend_row_fields : fieldSet (mayChange (.announceSend)) = 37748736 := rfl
theorem announceSend_row_frame {s t : State} (h : exec (.announceSend) s = .next t) : t.mask 37748736 = s.mask 37748736 := by
  have k := execAnnounceSend_foot (w := 37748736) (by decide) s
  have h : execAnnounceSend s = .next t := h
  rw [h] at k
  exact keeps_next.mp k
theorem announceSend_row_valves {s t : State} (h : s.ValvesSafe) (e : exec (.announceSend) s = .next t) : t.ValvesSafe := by
  exact valves_keep (mask_mono (by decide) (announceSend_row_frame e)) h
theorem announceReceived_row_fields {a0} {a1} {a2} {a3} {a4} : fieldSet (mayChange (.announceReceived a0 a1 a2 a3 a4)) = 37748736 := rfl
theorem announceReceived_row_frame {a0} {a1} {a2} {a3} {a4} {s t : State} (h : exec (.announceReceived a0 a1 a2 a3 a4) s = .next t) : t.mask 37748736 = s.mask 37748736 := by
  have k := execAnnounceReceived_foot (w := 37748736) (by decide) a0 a1 a2 a3 a4 s
  have h : execAnnounceReceived a0 a1 a2 a3 a4 s = .next t := h
  rw [h] at k
  exact keeps_next.mp k
theorem announceReceived_row_valves {a0} {a1} {a2} {a3} {a4} {s t : State} (h : s.ValvesSafe) (e : exec (.announceReceived a0 a1 a2 a3 a4) s = .next t) : t.ValvesSafe := by
  exact valves_keep (mask_mono (by decide) (announceReceived_row_frame e)) h
theorem electionWin_row_fields : fieldSet (mayChange (.electionWin)) = 39366754 := rfl
theorem electionWin_row_frame {s t : State} (h : exec (.electionWin) s = .next t) : t.mask 39366754 = s.mask 39366754 := by
  have k := execElectionWin_foot (w := 39366754) (by decide) s
  have h : execElectionWin s = .next t := h
  rw [h] at k
  exact keeps_next.mp k
theorem electionWin_row_valves {s t : State} (h : s.ValvesSafe) (e : exec (.electionWin) s = .next t) : t.ValvesSafe := by
  exact valves_keep (mask_mono (by decide) (electionWin_row_frame e)) h
theorem joinRequestSend_row_fields {a0} : fieldSet (mayChange (.joinRequestSend a0)) = 37748736 := rfl
theorem joinRequestSend_row_frame {a0} {s t : State} (h : exec (.joinRequestSend a0) s = .next t) : t.mask 37748736 = s.mask 37748736 := by
  have k := execJoinRequestSend_foot (w := 37748736) (by decide) a0 s
  have h : execJoinRequestSend a0 s = .next t := h
  rw [h] at k
  exact keeps_next.mp k
theorem joinRequestSend_row_valves {a0} {s t : State} (h : s.ValvesSafe) (e : exec (.joinRequestSend a0) s = .next t) : t.ValvesSafe := by
  exact valves_keep (mask_mono (by decide) (joinRequestSend_row_frame e)) h
theorem joinRequestReceived_row_fields {a0} {a1} {a2} {a3} {a4} : fieldSet (mayChange (.joinRequestReceived a0 a1 a2 a3 a4)) = 38830146 := rfl
theorem joinRequestReceived_row_frame {a0} {a1} {a2} {a3} {a4} {s t : State} (h : exec (.joinRequestReceived a0 a1 a2 a3 a4) s = .next t) : t.mask 38830146 = s.mask 38830146 := by
  have k := execJoinRequestReceived_foot (w := 38830146) (by decide) a0 a1 a2 a3 a4 s
  have h : execJoinRequestReceived a0 a1 a2 a3 a4 s = .next t := h
  rw [h] at k
  exact keeps_next.mp k
theorem joinRequestReceived_row_valves {a0} {a1} {a2} {a3} {a4} {s t : State} (h : s.ValvesSafe) (e : exec (.joinRequestReceived a0 a1 a2 a3 a4) s = .next t) : t.ValvesSafe := by
  exact valves_keep (mask_mono (by decide) (joinRequestReceived_row_frame e)) h
theorem joinChallengeReceived_row_fields {a0} {a1} {a2} : fieldSet (mayChange (.joinChallengeReceived a0 a1 a2)) = 37748736 := rfl
theorem joinChallengeReceived_row_frame {a0} {a1} {a2} {s t : State} (h : exec (.joinChallengeReceived a0 a1 a2) s = .next t) : t.mask 37748736 = s.mask 37748736 := by
  have k := execJoinChallengeReceived_foot (w := 37748736) (by decide) a0 a1 a2 s
  have h : execJoinChallengeReceived a0 a1 a2 s = .next t := h
  rw [h] at k
  exact keeps_next.mp k
theorem joinChallengeReceived_row_valves {a0} {a1} {a2} {s t : State} (h : s.ValvesSafe) (e : exec (.joinChallengeReceived a0 a1 a2) s = .next t) : t.ValvesSafe := by
  exact valves_keep (mask_mono (by decide) (joinChallengeReceived_row_frame e)) h
theorem joinResponseReceived_row_fields {a0} {a1} {a2} {a3} : fieldSet (mayChange (.joinResponseReceived a0 a1 a2 a3)) = 38830150 := rfl
theorem joinResponseReceived_row_frame {a0} {a1} {a2} {a3} {s t : State} (h : exec (.joinResponseReceived a0 a1 a2 a3) s = .next t) : t.mask 38830150 = s.mask 38830150 := by
  have k := execJoinResponseReceived_foot (w := 38830150) (by decide) a0 a1 a2 a3 s
  have h : execJoinResponseReceived a0 a1 a2 a3 s = .next t := h
  rw [h] at k
  exact keeps_next.mp k
theorem joinResponseReceived_row_valves {a0} {a1} {a2} {a3} {s t : State} (h : s.ValvesSafe) (e : exec (.joinResponseReceived a0 a1 a2 a3) s = .next t) : t.ValvesSafe := by
  exact valves_keep (mask_mono (by decide) (joinResponseReceived_row_frame e)) h
theorem joinAcceptReceived_row_fields {a0} {a1} {a2} {a3} {a4} {a5} : fieldSet (mayChange (.joinAcceptReceived a0 a1 a2 a3 a4 a5)) = 39366758 := rfl
theorem joinAcceptReceived_row_frame {a0} {a1} {a2} {a3} {a4} {a5} {s t : State} (h : exec (.joinAcceptReceived a0 a1 a2 a3 a4 a5) s = .next t) : t.mask 39366758 = s.mask 39366758 := by
  have k := execJoinAcceptReceived_foot (w := 39366758) (by decide) a0 a1 a2 a3 a4 a5 s
  have h : execJoinAcceptReceived a0 a1 a2 a3 a4 a5 s = .next t := h
  rw [h] at k
  exact keeps_next.mp k
theorem joinAcceptReceived_row_valves {a0} {a1} {a2} {a3} {a4} {a5} {s t : State} (h : s.ValvesSafe) (e : exec (.joinAcceptReceived a0 a1 a2 a3 a4 a5) s = .next t) : t.ValvesSafe := by
  exact valves_keep (mask_mono (by decide) (joinAcceptReceived_row_frame e)) h
theorem joinRefuseReceived_row_fields {a0} {a1} : fieldSet (mayChange (.joinRefuseReceived a0 a1)) = 34635842 := rfl
theorem joinRefuseReceived_row_frame {a0} {a1} {s t : State} (h : exec (.joinRefuseReceived a0 a1) s = .next t) : t.mask 34635842 = s.mask 34635842 := by
  have k := execJoinRefuseReceived_foot (w := 34635842) (by decide) a0 a1 s
  have h : execJoinRefuseReceived a0 a1 s = .next t := h
  rw [h] at k
  exact keeps_next.mp k
theorem joinRefuseReceived_row_valves {a0} {a1} {s t : State} (h : s.ValvesSafe) (e : exec (.joinRefuseReceived a0 a1) s = .next t) : t.ValvesSafe := by
  exact valves_keep (mask_mono (by decide) (joinRefuseReceived_row_frame e)) h
theorem joinRetry_row_fields : fieldSet (mayChange (.joinRetry)) = 37748768 := rfl
theorem joinRetry_row_frame {s t : State} (h : exec (.joinRetry) s = .next t) : t.mask 37748768 = s.mask 37748768 := by
  have k := execJoinRetry_foot (w := 37748768) (by decide) s
  have h : execJoinRetry s = .next t := h
  rw [h] at k
  exact keeps_next.mp k
theorem joinRetry_row_valves {s t : State} (h : s.ValvesSafe) (e : exec (.joinRetry) s = .next t) : t.ValvesSafe := by
  exact valves_keep (mask_mono (by decide) (joinRetry_row_frame e)) h
theorem aliveSend_row_fields {a0} : fieldSet (mayChange (.aliveSend a0)) = 37748768 := rfl
theorem aliveSend_row_frame {a0} {s t : State} (h : exec (.aliveSend a0) s = .next t) : t.mask 37748768 = s.mask 37748768 := by
  have k := execAliveSend_foot (w := 37748768) (by decide) a0 s
  have h : execAliveSend a0 s = .next t := h
  rw [h] at k
  exact keeps_next.mp k
theorem aliveSend_row_valves {a0} {s t : State} (h : s.ValvesSafe) (e : exec (.aliveSend a0) s = .next t) : t.ValvesSafe := by
  exact valves_keep (mask_mono (by decide) (aliveSend_row_frame e)) h
theorem aliveReceived_row_fields {a0} {a1} {a2} : fieldSet (mayChange (.aliveReceived a0 a1 a2)) = 39354470 := rfl
theorem aliveReceived_row_frame {a0} {a1} {a2} {s t : State} (h : exec (.aliveReceived a0 a1 a2) s = .next t) : t.mask 39354470 = s.mask 39354470 := by
  have k := execAliveReceived_foot (w := 39354470) (by decide) a0 a1 a2 s
  have h : execAliveReceived a0 a1 a2 s = .next t := h
  rw [h] at k
  exact keeps_next.mp k
theorem aliveReceived_row_valves {a0} {a1} {a2} {s t : State} (h : s.ValvesSafe) (e : exec (.aliveReceived a0 a1 a2) s = .next t) : t.ValvesSafe := by
  exact valves_keep (mask_mono (by decide) (aliveReceived_row_frame e)) h
theorem uplinkLoss_row_fields {a0} : fieldSet (mayChange (.uplinkLoss a0)) = 39354466 := rfl
theorem uplinkLoss_row_frame {a0} {s t : State} (h : exec (.uplinkLoss a0) s = .next t) : t.mask 39354466 = s.mask 39354466 := by
  have k := execUplinkLoss_foot (w := 39354466) (by decide) a0 s
  have h : execUplinkLoss a0 s = .next t := h
  rw [h] at k
  exact keeps_next.mp k
theorem uplinkLoss_row_valves {a0} {s t : State} (h : s.ValvesSafe) (e : exec (.uplinkLoss a0) s = .next t) : t.ValvesSafe := by
  exact valves_keep (mask_mono (by decide) (uplinkLoss_row_frame e)) h
theorem rerouteReceived_row_fields {a0} {a1} {a2} : fieldSet (mayChange (.rerouteReceived a0 a1 a2)) = 38830146 := rfl
theorem rerouteReceived_row_frame {a0} {a1} {a2} {s t : State} (h : exec (.rerouteReceived a0 a1 a2) s = .next t) : t.mask 38830146 = s.mask 38830146 := by
  have k := execRerouteReceived_foot (w := 38830146) (by decide) a0 a1 a2 s
  have h : execRerouteReceived a0 a1 a2 s = .next t := h
  rw [h] at k
  exact keeps_next.mp k
theorem rerouteReceived_row_valves {a0} {a1} {a2} {s t : State} (h : s.ValvesSafe) (e : exec (.rerouteReceived a0 a1 a2) s = .next t) : t.ValvesSafe := by
  exact valves_keep (mask_mono (by decide) (rerouteReceived_row_frame e)) h
theorem uplinkRestore_row_fields {a0} : fieldSet (mayChange (.uplinkRestore a0)) = 38842466 := rfl
theorem uplinkRestore_row_frame {a0} {s t : State} (h : exec (.uplinkRestore a0) s = .next t) : t.mask 38842466 = s.mask 38842466 := by
  have k := execUplinkRestore_foot (w := 38842466) (by decide) a0 s
  have h : execUplinkRestore a0 s = .next t := h
  rw [h] at k
  exact keeps_next.mp k
theorem uplinkRestore_row_valves {a0} {s t : State} (h : s.ValvesSafe) (e : exec (.uplinkRestore a0) s = .next t) : t.ValvesSafe := by
  exact valves_keep (mask_mono (by decide) (uplinkRestore_row_frame e)) h
theorem standbyTakeover_row_fields {a0} : fieldSet (mayChange (.standbyTakeover a0)) = 39383142 := rfl
theorem standbyTakeover_row_frame {a0} {s t : State} (h : exec (.standbyTakeover a0) s = .next t) : t.mask 39383142 = s.mask 39383142 := by
  have k := execStandbyTakeover_foot (w := 39383142) (by decide) a0 s
  have h : execStandbyTakeover a0 s = .next t := h
  rw [h] at k
  exact keeps_next.mp k
theorem standbyTakeover_row_valves {a0} {s t : State} (h : s.ValvesSafe) (e : exec (.standbyTakeover a0) s = .next t) : t.ValvesSafe := by
  exact valves_keep (mask_mono (by decide) (standbyTakeover_row_frame e)) h
theorem standbyReady_row_fields : fieldSet (mayChange (.standbyReady)) = 38842434 := rfl
theorem standbyReady_row_frame {s t : State} (h : exec (.standbyReady) s = .next t) : t.mask 38842434 = s.mask 38842434 := by
  have k := execStandbyReady_foot (w := 38842434) (by decide) s
  have h : execStandbyReady s = .next t := h
  rw [h] at k
  exact keeps_next.mp k
theorem standbyReady_row_valves {s t : State} (h : s.ValvesSafe) (e : exec (.standbyReady) s = .next t) : t.ValvesSafe := by
  exact valves_keep (mask_mono (by decide) (standbyReady_row_frame e)) h
theorem mirrorReceived_row_fields {a0} {a1} {a2} {a3} {a4} : fieldSet (mayChange (.mirrorReceived a0 a1 a2 a3 a4)) = 33554464 := rfl
theorem mirrorReceived_row_frame {a0} {a1} {a2} {a3} {a4} {s t : State} (h : exec (.mirrorReceived a0 a1 a2 a3 a4) s = .next t) : t.mask 33554464 = s.mask 33554464 := by
  have k := execMirrorReceived_foot (w := 33554464) (by decide) a0 a1 a2 a3 a4 s
  have h : execMirrorReceived a0 a1 a2 a3 a4 s = .next t := h
  rw [h] at k
  exact keeps_next.mp k
theorem mirrorReceived_row_valves {a0} {a1} {a2} {a3} {a4} {s t : State} (h : s.ValvesSafe) (e : exec (.mirrorReceived a0 a1 a2 a3 a4) s = .next t) : t.ValvesSafe := by
  exact valves_keep (mask_mono (by decide) (mirrorReceived_row_frame e)) h
theorem extOffsetMsgReceived_row_fields {a0} {a1} {a2} {a3} : fieldSet (mayChange (.extOffsetMsgReceived a0 a1 a2 a3)) = 1081442 := rfl
theorem extOffsetMsgReceived_row_frame {a0} {a1} {a2} {a3} {s t : State} (h : exec (.extOffsetMsgReceived a0 a1 a2 a3) s = .next t) : t.mask 1081442 = s.mask 1081442 := by
  have k := execExtOffsetMsgReceived_foot (w := 1081442) (by decide) a0 a1 a2 a3 s
  have h : execExtOffsetMsgReceived a0 a1 a2 a3 s = .next t := h
  rw [h] at k
  exact keeps_next.mp k
theorem extOffsetMsgReceived_row_valves {a0} {a1} {a2} {a3} {s t : State} (h : s.ValvesSafe) (e : exec (.extOffsetMsgReceived a0 a1 a2 a3) s = .next t) : t.ValvesSafe := by
  exact valves_keep (mask_mono (by decide) (extOffsetMsgReceived_row_frame e)) h
theorem cellServerReceived_row_fields {a0} {a1} {a2} : fieldSet (mayChange (.cellServerReceived a0 a1 a2)) = 37748800 := rfl
theorem cellServerReceived_row_frame {a0} {a1} {a2} {s t : State} (h : exec (.cellServerReceived a0 a1 a2) s = .next t) : t.mask 37748800 = s.mask 37748800 := by
  have k := execCellServerReceived_foot (w := 37748800) (by decide) a0 a1 a2 s
  have h : execCellServerReceived a0 a1 a2 s = .next t := h
  rw [h] at k
  exact keeps_next.mp k
theorem cellServerReceived_row_valves {a0} {a1} {a2} {s t : State} (h : s.ValvesSafe) (e : exec (.cellServerReceived a0 a1 a2) s = .next t) : t.ValvesSafe := by
  exact valves_keep (mask_mono (by decide) (cellServerReceived_row_frame e)) h
theorem cellForward_row_fields {a0} {a1} {a2} : fieldSet (mayChange (.cellForward a0 a1 a2)) = 8594128960 := rfl
theorem cellForward_row_frame {a0} {a1} {a2} {s t : State} (h : exec (.cellForward a0 a1 a2) s = .next t) : t.mask 8594128960 = s.mask 8594128960 := by
  have k := execCellForward_foot (w := 8594128960) (by decide) a0 a1 a2 s
  have h : execCellForward a0 a1 a2 s = .next t := h
  rw [h] at k
  exact keeps_next.mp k
theorem cellForward_row_valves {a0} {a1} {a2} {s t : State} (h : s.ValvesSafe) (e : exec (.cellForward a0 a1 a2) s = .next t) : t.ValvesSafe := by
  exact valves_keep (mask_mono (by decide) (cellForward_row_frame e)) h
theorem updateReceived_row_fields {a0} {a1} : fieldSet (mayChange (.updateReceived a0 a1)) = 37749330 := rfl
theorem updateReceived_row_frame {a0} {a1} {s t : State} (h : exec (.updateReceived a0 a1) s = .next t) : t.mask 37749330 = s.mask 37749330 := by
  have k := execUpdateReceived_foot (w := 37749330) (by decide) a0 a1 s
  have h : execUpdateReceived a0 a1 s = .next t := h
  rw [h] at k
  exact keeps_next.mp k
theorem updateReceived_row_valves {a0} {a1} {s t : State} (h : s.ValvesSafe) (e : exec (.updateReceived a0 a1) s = .next t) : t.ValvesSafe := by
  exact valves_keep (mask_mono (by decide) (updateReceived_row_frame e)) h
theorem updateResultReceived_row_fields {a0} {a1} {a2} : fieldSet (mayChange (.updateResultReceived a0 a1 a2)) = 37748800 := rfl
theorem updateResultReceived_row_frame {a0} {a1} {a2} {s t : State} (h : exec (.updateResultReceived a0 a1 a2) s = .next t) : t.mask 37748800 = s.mask 37748800 := by
  have k := execUpdateResultReceived_foot (w := 37748800) (by decide) a0 a1 a2 s
  have h : execUpdateResultReceived a0 a1 a2 s = .next t := h
  rw [h] at k
  exact keeps_next.mp k
theorem updateResultReceived_row_valves {a0} {a1} {a2} {s t : State} (h : s.ValvesSafe) (e : exec (.updateResultReceived a0 a1 a2) s = .next t) : t.ValvesSafe := by
  exact valves_keep (mask_mono (by decide) (updateResultReceived_row_frame e)) h
theorem faultSummaryReceived_row_fields {a0} {a1} {a2} : fieldSet (mayChange (.faultSummaryReceived a0 a1 a2)) = 34635842 := rfl
theorem faultSummaryReceived_row_frame {a0} {a1} {a2} {s t : State} (h : exec (.faultSummaryReceived a0 a1 a2) s = .next t) : t.mask 34635842 = s.mask 34635842 := by
  have k := execFaultSummaryReceived_foot (w := 34635842) (by decide) a0 a1 a2 s
  have h : execFaultSummaryReceived a0 a1 a2 s = .next t := h
  rw [h] at k
  exact keeps_next.mp k
theorem faultSummaryReceived_row_valves {a0} {a1} {a2} {s t : State} (h : s.ValvesSafe) (e : exec (.faultSummaryReceived a0 a1 a2) s = .next t) : t.ValvesSafe := by
  exact valves_keep (mask_mono (by decide) (faultSummaryReceived_row_frame e)) h
theorem honeySummaryReceived_row_fields {a0} {a1} : fieldSet (mayChange (.honeySummaryReceived a0 a1)) = 64 := rfl
theorem honeySummaryReceived_row_frame {a0} {a1} {s t : State} (h : exec (.honeySummaryReceived a0 a1) s = .next t) : t.mask 64 = s.mask 64 := by
  have k := execHoneySummaryReceived_foot (w := 64) (by decide) a0 a1 s
  have h : execHoneySummaryReceived a0 a1 s = .next t := h
  rw [h] at k
  exact keeps_next.mp k
theorem honeySummaryReceived_row_valves {a0} {a1} {s t : State} (h : s.ValvesSafe) (e : exec (.honeySummaryReceived a0 a1) s = .next t) : t.ValvesSafe := by
  exact valves_keep (mask_mono (by decide) (honeySummaryReceived_row_frame e)) h
theorem hiveResetReceived_row_fields {a0} : fieldSet (mayChange (.hiveResetReceived a0)) = 16 := rfl
theorem hiveResetReceived_row_frame {a0} {s t : State} (h : exec (.hiveResetReceived a0) s = .next t) : t.mask 16 = s.mask 16 := by
  have k := execHiveResetReceived_foot (w := 16) (by decide) a0 s
  have h : execHiveResetReceived a0 s = .next t := h
  rw [h] at k
  exact keeps_next.mp k
theorem hiveResetReceived_row_valves {a0} {s t : State} (h : s.ValvesSafe) (e : exec (.hiveResetReceived a0) s = .next t) : t.ValvesSafe := by
  exact valves_keep (mask_mono (by decide) (hiveResetReceived_row_frame e)) h
theorem fwGetStatus_row_fields {a0} {a1} : fieldSet (mayChange (.fwGetStatus a0 a1)) = 37978178 := rfl
theorem fwGetStatus_row_frame {a0} {a1} {s t : State} (h : exec (.fwGetStatus a0 a1) s = .next t) : t.mask 37978178 = s.mask 37978178 := by
  have k := execFwGetStatus_foot (w := 37978178) (by decide) a0 a1 s
  have h : execFwGetStatus a0 a1 s = .next t := h
  rw [h] at k
  exact keeps_next.mp k
theorem fwGetStatus_row_valves {a0} {a1} {s t : State} (h : s.ValvesSafe) (e : exec (.fwGetStatus a0 a1) s = .next t) : t.ValvesSafe := by
  exact valves_keep (mask_mono (by decide) (fwGetStatus_row_frame e)) h
theorem fwWrite_row_fields {a0} {a1} : fieldSet (mayChange (.fwWrite a0 a1)) = 37978706 := rfl
theorem fwWrite_row_frame {a0} {a1} {s t : State} (h : exec (.fwWrite a0 a1) s = .next t) : t.mask 37978706 = s.mask 37978706 := by
  have k := execFwWrite_foot (w := 37978706) (by decide) a0 a1 s
  have h : execFwWrite a0 a1 s = .next t := h
  rw [h] at k
  exact keeps_next.mp k
theorem fwWrite_row_valves {a0} {a1} {s t : State} (h : s.ValvesSafe) (e : exec (.fwWrite a0 a1) s = .next t) : t.ValvesSafe := by
  exact valves_keep (mask_mono (by decide) (fwWrite_row_frame e)) h
theorem fwPieceProgrammed_row_fields : fieldSet (mayChange (.fwPieceProgrammed)) = 530 := rfl
theorem fwPieceProgrammed_row_frame {s t : State} (h : exec (.fwPieceProgrammed) s = .next t) : t.mask 530 = s.mask 530 := by
  have k := execFwPieceProgrammed_foot (w := 530) (by decide) s
  have h : execFwPieceProgrammed s = .next t := h
  rw [h] at k
  exact keeps_next.mp k
theorem fwPieceProgrammed_row_valves {s t : State} (h : s.ValvesSafe) (e : exec (.fwPieceProgrammed) s = .next t) : t.ValvesSafe := by
  exact valves_keep (mask_mono (by decide) (fwPieceProgrammed_row_frame e)) h
theorem fwVerified_row_fields {a0} : fieldSet (mayChange (.fwVerified a0)) = 38834770 := rfl
theorem fwVerified_row_frame {a0} {s t : State} (h : exec (.fwVerified a0) s = .next t) : t.mask 38834770 = s.mask 38834770 := by
  have k := execFwVerified_foot (w := 38834770) (by decide) a0 s
  have h : execFwVerified a0 s = .next t := h
  rw [h] at k
  exact keeps_next.mp k
theorem fwVerified_row_valves {a0} {s t : State} (h : s.ValvesSafe) (e : exec (.fwVerified a0) s = .next t) : t.ValvesSafe := by
  exact valves_keep (mask_mono (by decide) (fwVerified_row_frame e)) h
theorem fwActivate_row_fields {a0} {a1} : fieldSet (mayChange (.fwActivate a0 a1)) = 37978706 := rfl
theorem fwActivate_row_frame {a0} {a1} {s t : State} (h : exec (.fwActivate a0 a1) s = .next t) : t.mask 37978706 = s.mask 37978706 := by
  have k := execFwActivate_foot (w := 37978706) (by decide) a0 a1 s
  have h : execFwActivate a0 a1 s = .next t := h
  rw [h] at k
  exact keeps_next.mp k
theorem fwActivate_row_valves {a0} {a1} {s t : State} (h : s.ValvesSafe) (e : exec (.fwActivate a0 a1) s = .next t) : t.ValvesSafe := by
  exact valves_keep (mask_mono (by decide) (fwActivate_row_frame e)) h
theorem fwCommitSvn_row_fields {a0} {a1} {a2} : fieldSet (mayChange (.fwCommitSvn a0 a1 a2)) = 39027266 := rfl
theorem fwCommitSvn_row_frame {a0} {a1} {a2} {s t : State} (h : exec (.fwCommitSvn a0 a1 a2) s = .next t) : t.mask 39027266 = s.mask 39027266 := by
  have k := execFwCommitSvn_foot (w := 39027266) (by decide) a0 a1 a2 s
  have h : execFwCommitSvn a0 a1 a2 s = .next t := h
  rw [h] at k
  exact keeps_next.mp k
theorem fwCommitSvn_row_valves {a0} {a1} {a2} {s t : State} (h : s.ValvesSafe) (e : exec (.fwCommitSvn a0 a1 a2) s = .next t) : t.ValvesSafe := by
  exact valves_keep (mask_mono (by decide) (fwCommitSvn_row_frame e)) h
theorem fwDistribute_row_fields {a0} {a1} : fieldSet (mayChange (.fwDistribute a0 a1)) = 37978194 := rfl
theorem fwDistribute_row_frame {a0} {a1} {s t : State} (h : exec (.fwDistribute a0 a1) s = .next t) : t.mask 37978194 = s.mask 37978194 := by
  have k := execFwDistribute_foot (w := 37978194) (by decide) a0 a1 s
  have h : execFwDistribute a0 a1 s = .next t := h
  rw [h] at k
  exact keeps_next.mp k
theorem fwDistribute_row_valves {a0} {a1} {s t : State} (h : s.ValvesSafe) (e : exec (.fwDistribute a0 a1) s = .next t) : t.ValvesSafe := by
  exact valves_keep (mask_mono (by decide) (fwDistribute_row_frame e)) h
theorem fwDistributed_row_fields : fieldSet (mayChange (.fwDistributed)) = 34635858 := rfl
theorem fwDistributed_row_frame {s t : State} (h : exec (.fwDistributed) s = .next t) : t.mask 34635858 = s.mask 34635858 := by
  have k := execFwDistributed_foot (w := 34635858) (by decide) s
  have h : execFwDistributed s = .next t := h
  rw [h] at k
  exact keeps_next.mp k
theorem fwDistributed_row_valves {s t : State} (h : s.ValvesSafe) (e : exec (.fwDistributed) s = .next t) : t.ValvesSafe := by
  exact valves_keep (mask_mono (by decide) (fwDistributed_row_frame e)) h
theorem trustSetOwnerPolicy_row_fields {a0} {a1} {a2} : fieldSet (mayChange (.trustSetOwnerPolicy a0 a1 a2)) = 39027286 := rfl
theorem trustSetOwnerPolicy_row_frame {a0} {a1} {a2} {s t : State} (h : exec (.trustSetOwnerPolicy a0 a1 a2) s = .next t) : t.mask 39027286 = s.mask 39027286 := by
  have k := execTrustSetOwnerPolicy_foot (w := 39027286) (by decide) a0 a1 a2 s
  have h : execTrustSetOwnerPolicy a0 a1 a2 s = .next t := h
  rw [h] at k
  exact keeps_next.mp k
theorem trustSetOwnerPolicy_row_valves {a0} {a1} {a2} {s t : State} (h : s.ValvesSafe) (e : exec (.trustSetOwnerPolicy a0 a1 a2) s = .next t) : t.ValvesSafe := by
  exact valves_keep (mask_mono (by decide) (trustSetOwnerPolicy_row_frame e)) h
theorem trustGetCert_row_fields {a0} {a1} : fieldSet (mayChange (.trustGetCert a0 a1)) = 37978178 := rfl
theorem trustGetCert_row_frame {a0} {a1} {s t : State} (h : exec (.trustGetCert a0 a1) s = .next t) : t.mask 37978178 = s.mask 37978178 := by
  have k := execTrustGetCert_foot (w := 37978178) (by decide) a0 a1 s
  have h : execTrustGetCert a0 a1 s = .next t := h
  rw [h] at k
  exact keeps_next.mp k
theorem trustGetCert_row_valves {a0} {a1} {s t : State} (h : s.ValvesSafe) (e : exec (.trustGetCert a0 a1) s = .next t) : t.ValvesSafe := by
  exact valves_keep (mask_mono (by decide) (trustGetCert_row_frame e)) h
theorem trustSpdm_row_fields {a0} {a1} : fieldSet (mayChange (.trustSpdm a0 a1)) = 38240838 := rfl
theorem trustSpdm_row_frame {a0} {a1} {s t : State} (h : exec (.trustSpdm a0 a1) s = .next t) : t.mask 38240838 = s.mask 38240838 := by
  have k := execTrustSpdm_foot (w := 38240838) (by decide) a0 a1 s
  have h : execTrustSpdm a0 a1 s = .next t := h
  rw [h] at k
  exact keeps_next.mp k
theorem trustSpdm_row_valves {a0} {a1} {s t : State} (h : s.ValvesSafe) (e : exec (.trustSpdm a0 a1) s = .next t) : t.ValvesSafe := by
  exact valves_keep (mask_mono (by decide) (trustSpdm_row_frame e)) h
theorem trustChallenge_row_fields {a0} {a1} : fieldSet (mayChange (.trustChallenge a0 a1)) = 37978694 := rfl
theorem trustChallenge_row_frame {a0} {a1} {s t : State} (h : exec (.trustChallenge a0 a1) s = .next t) : t.mask 37978694 = s.mask 37978694 := by
  have k := execTrustChallenge_foot (w := 37978694) (by decide) a0 a1 s
  have h : execTrustChallenge a0 a1 s = .next t := h
  rw [h] at k
  exact keeps_next.mp k
theorem trustChallenge_row_valves {a0} {a1} {s t : State} (h : s.ValvesSafe) (e : exec (.trustChallenge a0 a1) s = .next t) : t.ValvesSafe := by
  exact valves_keep (mask_mono (by decide) (trustChallenge_row_frame e)) h
theorem nonceExpiry_row_fields : fieldSet (mayChange (.nonceExpiry)) = 544 := rfl
theorem nonceExpiry_row_frame {s t : State} (h : exec (.nonceExpiry) s = .next t) : t.mask 544 = s.mask 544 := by
  have k := execNonceExpiry_foot (w := 544) (by decide) s
  have h : execNonceExpiry s = .next t := h
  rw [h] at k
  exact keeps_next.mp k
theorem nonceExpiry_row_valves {s t : State} (h : s.ValvesSafe) (e : exec (.nonceExpiry) s = .next t) : t.ValvesSafe := by
  exact valves_keep (mask_mono (by decide) (nonceExpiry_row_frame e)) h
theorem debugUnlock_row_fields {a0} {a1} : fieldSet (mayChange (.debugUnlock a0 a1)) = 39027266 := rfl
theorem debugUnlock_row_frame {a0} {a1} {s t : State} (h : exec (.debugUnlock a0 a1) s = .next t) : t.mask 39027266 = s.mask 39027266 := by
  have k := execDebugUnlock_foot (w := 39027266) (by decide) a0 a1 s
  have h : execDebugUnlock a0 a1 s = .next t := h
  rw [h] at k
  exact keeps_next.mp k
theorem debugUnlock_row_valves {a0} {a1} {s t : State} (h : s.ValvesSafe) (e : exec (.debugUnlock a0 a1) s = .next t) : t.ValvesSafe := by
  exact valves_keep (mask_mono (by decide) (debugUnlock_row_frame e)) h
theorem healthGetSensors_row_fields {a0} {a1} : fieldSet (mayChange (.healthGetSensors a0 a1)) = 37978178 := rfl
theorem healthGetSensors_row_frame {a0} {a1} {s t : State} (h : exec (.healthGetSensors a0 a1) s = .next t) : t.mask 37978178 = s.mask 37978178 := by
  have k := execHealthGetSensors_foot (w := 37978178) (by decide) a0 a1 s
  have h : execHealthGetSensors a0 a1 s = .next t := h
  rw [h] at k
  exact keeps_next.mp k
theorem healthGetSensors_row_valves {a0} {a1} {s t : State} (h : s.ValvesSafe) (e : exec (.healthGetSensors a0 a1) s = .next t) : t.ValvesSafe := by
  exact valves_keep (mask_mono (by decide) (healthGetSensors_row_frame e)) h
theorem logRead_row_fields {a0} {a1} : fieldSet (mayChange (.logRead a0 a1)) = 37978178 := rfl
theorem logRead_row_frame {a0} {a1} {s t : State} (h : exec (.logRead a0 a1) s = .next t) : t.mask 37978178 = s.mask 37978178 := by
  have k := execLogRead_foot (w := 37978178) (by decide) a0 a1 s
  have h : execLogRead a0 a1 s = .next t := h
  rw [h] at k
  exact keeps_next.mp k
theorem logRead_row_valves {a0} {a1} {s t : State} (h : s.ValvesSafe) (e : exec (.logRead a0 a1) s = .next t) : t.ValvesSafe := by
  exact valves_keep (mask_mono (by decide) (logRead_row_frame e)) h
theorem honeyRead_row_fields {a0} {a1} : fieldSet (mayChange (.honeyRead a0 a1)) = 37978178 := rfl
theorem honeyRead_row_frame {a0} {a1} {s t : State} (h : exec (.honeyRead a0 a1) s = .next t) : t.mask 37978178 = s.mask 37978178 := by
  have k := execHoneyRead_foot (w := 37978178) (by decide) a0 a1 s
  have h : execHoneyRead a0 a1 s = .next t := h
  rw [h] at k
  exact keeps_next.mp k
theorem honeyRead_row_valves {a0} {a1} {s t : State} (h : s.ValvesSafe) (e : exec (.honeyRead a0 a1) s = .next t) : t.ValvesSafe := by
  exact valves_keep (mask_mono (by decide) (honeyRead_row_frame e)) h
theorem honeyReset_row_fields {a0} {a1} : fieldSet (mayChange (.honeyReset a0 a1)) = 37982914 := rfl
theorem honeyReset_row_frame {a0} {a1} {s t : State} (h : exec (.honeyReset a0 a1) s = .next t) : t.mask 37982914 = s.mask 37982914 := by
  have k := execHoneyReset_foot (w := 37982914) (by decide) a0 a1 s
  have h : execHoneyReset a0 a1 s = .next t := h
  rw [h] at k
  exact keeps_next.mp k
theorem honeyReset_row_valves {a0} {a1} {s t : State} (h : s.ValvesSafe) (e : exec (.honeyReset a0 a1) s = .next t) : t.ValvesSafe := by
  exact valves_keep (mask_mono (by decide) (honeyReset_row_frame e)) h
theorem calRead_row_fields {a0} {a1} : fieldSet (mayChange (.calRead a0 a1)) = 37978178 := rfl
theorem calRead_row_frame {a0} {a1} {s t : State} (h : exec (.calRead a0 a1) s = .next t) : t.mask 37978178 = s.mask 37978178 := by
  have k := execCalRead_foot (w := 37978178) (by decide) a0 a1 s
  have h : execCalRead a0 a1 s = .next t := h
  rw [h] at k
  exact keeps_next.mp k
theorem calRead_row_valves {a0} {a1} {s t : State} (h : s.ValvesSafe) (e : exec (.calRead a0 a1) s = .next t) : t.ValvesSafe := by
  exact valves_keep (mask_mono (by decide) (calRead_row_frame e)) h
theorem calWrite_row_fields {a0} {a1} : fieldSet (mayChange (.calWrite a0 a1)) = 4332946002 := rfl
theorem calWrite_row_frame {a0} {a1} {s t : State} (h : exec (.calWrite a0 a1) s = .next t) : t.mask 4332946002 = s.mask 4332946002 := by
  have k := execCalWrite_foot (w := 4332946002) (by decide) a0 a1 s
  have h : execCalWrite a0 a1 s = .next t := h
  rw [h] at k
  exact keeps_next.mp k
theorem calWrite_row_valves {a0} {a1} {s t : State} (h : s.ValvesSafe) (e : exec (.calWrite a0 a1) s = .next t) : t.ValvesSafe := by
  exact valves_keep (mask_mono (by decide) (calWrite_row_frame e)) h
theorem flashWritten_row_fields {a0} {a1} : fieldSet (mayChange (.flashWritten a0 a1)) = 1086034 := rfl
theorem flashWritten_row_frame {a0} {a1} {s t : State} (h : exec (.flashWritten a0 a1) s = .next t) : t.mask 1086034 = s.mask 1086034 := by
  have k := execFlashWritten_foot (w := 1086034) (by decide) a0 a1 s
  have h : execFlashWritten a0 a1 s = .next t := h
  rw [h] at k
  exact keeps_next.mp k
theorem flashWritten_row_valves {a0} {a1} {s t : State} (h : s.ValvesSafe) (e : exec (.flashWritten a0 a1) s = .next t) : t.ValvesSafe := by
  exact valves_keep (mask_mono (by decide) (flashWritten_row_frame e)) h
theorem pwrSetBootOptions_row_fields {a0} {a1} : fieldSet (mayChange (.pwrSetBootOptions a0 a1)) = 37978706 := rfl
theorem pwrSetBootOptions_row_frame {a0} {a1} {s t : State} (h : exec (.pwrSetBootOptions a0 a1) s = .next t) : t.mask 37978706 = s.mask 37978706 := by
  have k := execPwrSetBootOptions_foot (w := 37978706) (by decide) a0 a1 s
  have h : execPwrSetBootOptions a0 a1 s = .next t := h
  rw [h] at k
  exact keeps_next.mp k
theorem pwrSetBootOptions_row_valves {a0} {a1} {s t : State} (h : s.ValvesSafe) (e : exec (.pwrSetBootOptions a0 a1) s = .next t) : t.ValvesSafe := by
  exact valves_keep (mask_mono (by decide) (pwrSetBootOptions_row_frame e)) h
theorem pwrSetState_row_fields {a0} {a1} : fieldSet (mayChange (.pwrSetState a0 a1)) = 200512978 := rfl
theorem pwrSetState_row_frame {a0} {a1} {s t : State} (h : exec (.pwrSetState a0 a1) s = .next t) : t.mask 200512978 = s.mask 200512978 := by
  have k := execPwrSetState_foot (w := 200512978) (by decide) a0 a1 s
  have h : execPwrSetState a0 a1 s = .next t := h
  rw [h] at k
  exact keeps_next.mp k
theorem pwrSetState_row_valves {a0} {a1} {s t : State} (h : s.ValvesSafe) (e : exec (.pwrSetState a0 a1) s = .next t) : t.ValvesSafe := by
  exact valves_keep (mask_mono (by decide) (pwrSetState_row_frame e)) h
theorem pwrEntryDone_row_fields {a0} : fieldSet (mayChange (.pwrEntryDone a0)) = 1081698 := rfl
theorem pwrEntryDone_row_frame {a0} {s t : State} (h : exec (.pwrEntryDone a0) s = .next t) : t.mask 1081698 = s.mask 1081698 := by
  have k := execPwrEntryDone_foot (w := 1081698) (by decide) a0 s
  have h : execPwrEntryDone a0 s = .next t := h
  rw [h] at k
  exact keeps_next.mp k
theorem pwrEntryDone_row_valves {a0} {s t : State} (h : s.ValvesSafe) (e : exec (.pwrEntryDone a0) s = .next t) : t.ValvesSafe := by
  exact valves_keep (mask_mono (by decide) (pwrEntryDone_row_frame e)) h
theorem pwrWake_row_fields {a0} {a1} : fieldSet (mayChange (.pwrWake a0 a1)) = 7374194 := rfl
theorem pwrWake_row_frame {a0} {a1} {s t : State} (h : exec (.pwrWake a0 a1) s = .next t) : t.mask 7374194 = s.mask 7374194 := by
  have k := execPwrWake_foot (w := 7374194) (by decide) a0 a1 s
  have h : execPwrWake a0 a1 s = .next t := h
  rw [h] at k
  exact keeps_next.mp k
theorem pwrWake_row_valves {a0} {a1} {s t : State} (h : s.ValvesSafe) (e : exec (.pwrWake a0 a1) s = .next t) : t.ValvesSafe := by
  exact valves_keep (mask_mono (by decide) (pwrWake_row_frame e)) h
theorem pwrGetStatus_row_fields {a0} {a1} : fieldSet (mayChange (.pwrGetStatus a0 a1)) = 37978178 := rfl
theorem pwrGetStatus_row_frame {a0} {a1} {s t : State} (h : exec (.pwrGetStatus a0 a1) s = .next t) : t.mask 37978178 = s.mask 37978178 := by
  have k := execPwrGetStatus_foot (w := 37978178) (by decide) a0 a1 s
  have h : execPwrGetStatus a0 a1 s = .next t := h
  rw [h] at k
  exact keeps_next.mp k
theorem pwrGetStatus_row_valves {a0} {a1} {s t : State} (h : s.ValvesSafe) (e : exec (.pwrGetStatus a0 a1) s = .next t) : t.ValvesSafe := by
  exact valves_keep (mask_mono (by decide) (pwrGetStatus_row_frame e)) h
theorem devReset_row_fields {a0} {a1} : fieldSet (mayChange (.devReset a0 a1)) = 37978194 := rfl
theorem devReset_row_frame {a0} {a1} {s t : State} (h : exec (.devReset a0 a1) s = .next t) : t.mask 37978194 = s.mask 37978194 := by
  have k := execDevReset_foot (w := 37978194) (by decide) a0 a1 s
  have h : execDevReset a0 a1 s = .next t := h
  rw [h] at k
  exact keeps_next.mp k
theorem devReset_row_valves {a0} {a1} {s t : State} (h : s.ValvesSafe) (e : exec (.devReset a0 a1) s = .next t) : t.ValvesSafe := by
  exact valves_keep (mask_mono (by decide) (devReset_row_frame e)) h
theorem compatGetInfo_row_fields {a0} {a1} : fieldSet (mayChange (.compatGetInfo a0 a1)) = 37978178 := rfl
theorem compatGetInfo_row_frame {a0} {a1} {s t : State} (h : exec (.compatGetInfo a0 a1) s = .next t) : t.mask 37978178 = s.mask 37978178 := by
  have k := execCompatGetInfo_foot (w := 37978178) (by decide) a0 a1 s
  have h : execCompatGetInfo a0 a1 s = .next t := h
  rw [h] at k
  exact keeps_next.mp k
theorem compatGetInfo_row_valves {a0} {a1} {s t : State} (h : s.ValvesSafe) (e : exec (.compatGetInfo a0 a1) s = .next t) : t.ValvesSafe := by
  exact valves_keep (mask_mono (by decide) (compatGetInfo_row_frame e)) h
theorem diagPrbs_row_fields {a0} {a1} : fieldSet (mayChange (.diagPrbs a0 a1)) = 37978194 := rfl
theorem diagPrbs_row_frame {a0} {a1} {s t : State} (h : exec (.diagPrbs a0 a1) s = .next t) : t.mask 37978194 = s.mask 37978194 := by
  have k := execDiagPrbs_foot (w := 37978194) (by decide) a0 a1 s
  have h : execDiagPrbs a0 a1 s = .next t := h
  rw [h] at k
  exact keeps_next.mp k
theorem diagPrbs_row_valves {a0} {a1} {s t : State} (h : s.ValvesSafe) (e : exec (.diagPrbs a0 a1) s = .next t) : t.ValvesSafe := by
  exact valves_keep (mask_mono (by decide) (diagPrbs_row_frame e)) h
theorem diagDone_row_fields {a0} : fieldSet (mayChange (.diagDone a0)) = 5275762 := rfl
theorem diagDone_row_frame {a0} {s t : State} (h : exec (.diagDone a0) s = .next t) : t.mask 5275762 = s.mask 5275762 := by
  have k := execDiagDone_foot (w := 5275762) (by decide) a0 s
  have h : execDiagDone a0 s = .next t := h
  rw [h] at k
  exact keeps_next.mp k
theorem diagDone_row_valves {a0} {s t : State} (h : s.ValvesSafe) (e : exec (.diagDone a0) s = .next t) : t.ValvesSafe := by
  exact valves_keep (mask_mono (by decide) (diagDone_row_frame e)) h
theorem diagBankRead_row_fields {a0} {a1} : fieldSet (mayChange (.diagBankRead a0 a1)) = 37981254 := rfl
theorem diagBankRead_row_frame {a0} {a1} {s t : State} (h : exec (.diagBankRead a0 a1) s = .next t) : t.mask 37981254 = s.mask 37981254 := by
  have k := execDiagBankRead_foot (w := 37981254) (by decide) a0 a1 s
  have h : execDiagBankRead a0 a1 s = .next t := h
  rw [h] at k
  exact keeps_next.mp k
theorem diagBankRead_row_valves {a0} {a1} {s t : State} (h : s.ValvesSafe) (e : exec (.diagBankRead a0 a1) s = .next t) : t.ValvesSafe := by
  exact valves_keep (mask_mono (by decide) (diagBankRead_row_frame e)) h
theorem diagInject_row_fields {a0} {a1} : fieldSet (mayChange (.diagInject a0 a1)) = 27102803034 := rfl
theorem diagInject_row_frame {a0} {a1} {s t : State} (h : exec (.diagInject a0 a1) s = .next t) : t.mask 27102803034 = s.mask 27102803034 := by
  have k := execDiagInject_foot (w := 27102803034) (by decide) a0 a1 s
  have h : execDiagInject a0 a1 s = .next t := h
  rw [h] at k
  exact keeps_next.mp k
theorem diagInject_row_valves {a0} {a1} {s t : State} (h : s.ValvesSafe) (e : exec (.diagInject a0 a1) s = .next t) : t.ValvesSafe := by
  exact valves_keep (mask_mono (by decide) (diagInject_row_frame e)) h
theorem ctxSetLaunch_row_fields {a0} {a1} : fieldSet (mayChange (.ctxSetLaunch a0 a1)) = 105087042 := rfl
theorem ctxSetLaunch_row_frame {a0} {a1} {s t : State} (h : exec (.ctxSetLaunch a0 a1) s = .next t) : t.mask 105087042 = s.mask 105087042 := by
  have k := execCtxSetLaunch_foot (w := 105087042) (by decide) a0 a1 s
  have h : execCtxSetLaunch a0 a1 s = .next t := h
  rw [h] at k
  exact keeps_next.mp k
theorem ctxSetLaunch_row_valves {a0} {a1} {s t : State} (h : s.ValvesSafe) (e : exec (.ctxSetLaunch a0 a1) s = .next t) : t.ValvesSafe := by
  exact valves_keep (mask_mono (by decide) (ctxSetLaunch_row_frame e)) h
theorem compatLaneConfigure_row_fields {a0} {a1} : fieldSet (mayChange (.compatLaneConfigure a0 a1)) = 66303042 := rfl
theorem compatLaneConfigure_row_frame {a0} {a1} {s t : State} (h : exec (.compatLaneConfigure a0 a1) s = .next t) : t.mask 66303042 = s.mask 66303042 := by
  have k := execCompatLaneConfigure_foot (w := 66303042) (by decide) a0 a1 s
  have h : execCompatLaneConfigure a0 a1 s = .next t := h
  rw [h] at k
  exact keeps_next.mp k
theorem compatLaneConfigure_row_valves {a0} {a1} {s t : State} (h : s.ValvesSafe) (e : exec (.compatLaneConfigure a0 a1) s = .next t) : t.ValvesSafe := by
  exact valves_keep (mask_mono (by decide) (compatLaneConfigure_row_frame e)) h
theorem compatLaneGetStatus_row_fields {a0} {a1} : fieldSet (mayChange (.compatLaneGetStatus a0 a1)) = 56852546 := rfl
theorem compatLaneGetStatus_row_frame {a0} {a1} {s t : State} (h : exec (.compatLaneGetStatus a0 a1) s = .next t) : t.mask 56852546 = s.mask 56852546 := by
  have k := execCompatLaneGetStatus_foot (w := 56852546) (by decide) a0 a1 s
  have h : execCompatLaneGetStatus a0 a1 s = .next t := h
  rw [h] at k
  exact keeps_next.mp k
theorem compatLaneGetStatus_row_valves {a0} {a1} {s t : State} (h : s.ValvesSafe) (e : exec (.compatLaneGetStatus a0 a1) s = .next t) : t.ValvesSafe := by
  exact valves_keep (mask_mono (by decide) (compatLaneGetStatus_row_frame e)) h
theorem compatCtxCreate_row_fields {a0} {a1} : fieldSet (mayChange (.compatCtxCreate a0 a1)) = 121864258 := rfl
theorem compatCtxCreate_row_frame {a0} {a1} {s t : State} (h : exec (.compatCtxCreate a0 a1) s = .next t) : t.mask 121864258 = s.mask 121864258 := by
  have k := execCompatCtxCreate_foot (w := 121864258) (by decide) a0 a1 s
  have h : execCompatCtxCreate a0 a1 s = .next t := h
  rw [h] at k
  exact keeps_next.mp k
theorem compatCtxCreate_row_valves {a0} {a1} {s t : State} (h : s.ValvesSafe) (e : exec (.compatCtxCreate a0 a1) s = .next t) : t.ValvesSafe := by
  exact valves_keep (mask_mono (by decide) (compatCtxCreate_row_frame e)) h
theorem compatCtxAssign_row_fields {a0} {a1} : fieldSet (mayChange (.compatCtxAssign a0 a1)) = 239305794 := rfl
theorem compatCtxAssign_row_frame {a0} {a1} {s t : State} (h : exec (.compatCtxAssign a0 a1) s = .next t) : t.mask 239305794 = s.mask 239305794 := by
  have k := execCompatCtxAssign_foot (w := 239305794) (by decide) a0 a1 s
  have h : execCompatCtxAssign a0 a1 s = .next t := h
  rw [h] at k
  exact keeps_next.mp k
theorem compatCtxAssign_row_valves {a0} {a1} {s t : State} (h : s.ValvesSafe) (e : exec (.compatCtxAssign a0 a1) s = .next t) : t.ValvesSafe := by
  exact valves_keep (mask_mono (by decide) (compatCtxAssign_row_frame e)) h
theorem compatCtxStart_row_fields {a0} {a1} : fieldSet (mayChange (.compatCtxStart a0 a1)) = 108234070 := rfl
theorem compatCtxStart_row_frame {a0} {a1} {s t : State} (h : exec (.compatCtxStart a0 a1) s = .next t) : t.mask 108234070 = s.mask 108234070 := by
  have k := execCompatCtxStart_foot (w := 108234070) (by decide) a0 a1 s
  have h : execCompatCtxStart a0 a1 s = .next t := h
  rw [h] at k
  exact keeps_next.mp k
theorem compatCtxStart_row_valves {a0} {a1} {s t : State} (h : s.ValvesSafe) (e : exec (.compatCtxStart a0 a1) s = .next t) : t.ValvesSafe := by
  exact valves_keep (mask_mono (by decide) (compatCtxStart_row_frame e)) h
theorem compatCtxStop_row_fields {a0} {a1} : fieldSet (mayChange (.compatCtxStop a0 a1)) = 105087042 := rfl
theorem compatCtxStop_row_frame {a0} {a1} {s t : State} (h : exec (.compatCtxStop a0 a1) s = .next t) : t.mask 105087042 = s.mask 105087042 := by
  have k := execCompatCtxStop_foot (w := 105087042) (by decide) a0 a1 s
  have h : execCompatCtxStop a0 a1 s = .next t := h
  rw [h] at k
  exact keeps_next.mp k
theorem compatCtxStop_row_valves {a0} {a1} {s t : State} (h : s.ValvesSafe) (e : exec (.compatCtxStop a0 a1) s = .next t) : t.ValvesSafe := by
  exact valves_keep (mask_mono (by decide) (compatCtxStop_row_frame e)) h
theorem compatCtxRelease_row_fields {a0} {a1} : fieldSet (mayChange (.compatCtxRelease a0 a1)) = 239304770 := rfl
theorem compatCtxRelease_row_frame {a0} {a1} {s t : State} (h : exec (.compatCtxRelease a0 a1) s = .next t) : t.mask 239304770 = s.mask 239304770 := by
  have k := execCompatCtxRelease_foot (w := 239304770) (by decide) a0 a1 s
  have h : execCompatCtxRelease a0 a1 s = .next t := h
  rw [h] at k
  exact keeps_next.mp k
theorem compatCtxRelease_row_valves {a0} {a1} {s t : State} (h : s.ValvesSafe) (e : exec (.compatCtxRelease a0 a1) s = .next t) : t.ValvesSafe := by
  exact valves_keep (mask_mono (by decide) (compatCtxRelease_row_frame e)) h
theorem compatCtxDestroy_row_fields {a0} {a1} : fieldSet (mayChange (.compatCtxDestroy a0 a1)) = 73119531082 := rfl
theorem compatCtxDestroy_row_frame {a0} {a1} {s t : State} (h : exec (.compatCtxDestroy a0 a1) s = .next t) : t.mask 73119531082 = s.mask 73119531082 := by
  have k := execCompatCtxDestroy_foot (w := 73119531082) (by decide) a0 a1 s
  have h : execCompatCtxDestroy a0 a1 s = .next t := h
  rw [h] at k
  exact keeps_next.mp k
theorem compatCtxDestroy_row_valves {a0} {a1} {s t : State} (h : s.ValvesSafe) (e : exec (.compatCtxDestroy a0 a1) s = .next t) : t.ValvesSafe := by
  exact valves_keep (mask_mono (by decide) (compatCtxDestroy_row_frame e)) h
theorem compatCtxGetStatus_row_fields {a0} {a1} : fieldSet (mayChange (.compatCtxGetStatus a0 a1)) = 105087042 := rfl
theorem compatCtxGetStatus_row_frame {a0} {a1} {s t : State} (h : exec (.compatCtxGetStatus a0 a1) s = .next t) : t.mask 105087042 = s.mask 105087042 := by
  have k := execCompatCtxGetStatus_foot (w := 105087042) (by decide) a0 a1 s
  have h : execCompatCtxGetStatus a0 a1 s = .next t := h
  rw [h] at k
  exact keeps_next.mp k
theorem compatCtxGetStatus_row_valves {a0} {a1} {s t : State} (h : s.ValvesSafe) (e : exec (.compatCtxGetStatus a0 a1) s = .next t) : t.ValvesSafe := by
  exact valves_keep (mask_mono (by decide) (compatCtxGetStatus_row_frame e)) h
theorem compatIntakeSetPartition_row_fields {a0} {a1} : fieldSet (mayChange (.compatIntakeSetPartition a0 a1)) = 306413634 := rfl
theorem compatIntakeSetPartition_row_frame {a0} {a1} {s t : State} (h : exec (.compatIntakeSetPartition a0 a1) s = .next t) : t.mask 306413634 = s.mask 306413634 := by
  have k := execCompatIntakeSetPartition_foot (w := 306413634) (by decide) a0 a1 s
  have h : execCompatIntakeSetPartition a0 a1 s = .next t := h
  rw [h] at k
  exact keeps_next.mp k
theorem compatIntakeSetPartition_row_valves {a0} {a1} {s t : State} (h : s.ValvesSafe) (e : exec (.compatIntakeSetPartition a0 a1) s = .next t) : t.ValvesSafe := by
  exact valves_keep (mask_mono (by decide) (compatIntakeSetPartition_row_frame e)) h
theorem compatCorrSetBlack_row_fields {a0} {a1} : fieldSet (mayChange (.compatCorrSetBlack a0 a1)) = 8696070218 := rfl
theorem compatCorrSetBlack_row_frame {a0} {a1} {s t : State} (h : exec (.compatCorrSetBlack a0 a1) s = .next t) : t.mask 8696070218 = s.mask 8696070218 := by
  have k := execCompatCorrSetBlack_foot (w := 8696070218) (by decide) a0 a1 s
  have h : execCompatCorrSetBlack a0 a1 s = .next t := h
  rw [h] at k
  exact keeps_next.mp k
theorem compatCorrSetBlack_row_valves {a0} {a1} {s t : State} (h : s.ValvesSafe) (e : exec (.compatCorrSetBlack a0 a1) s = .next t) : t.ValvesSafe := by
  exact valves_keep (mask_mono (by decide) (compatCorrSetBlack_row_frame e)) h
theorem compatCorrSetEnable_row_fields {a0} {a1} : fieldSet (mayChange (.compatCorrSetEnable a0 a1)) = 8696070218 := rfl
theorem compatCorrSetEnable_row_frame {a0} {a1} {s t : State} (h : exec (.compatCorrSetEnable a0 a1) s = .next t) : t.mask 8696070218 = s.mask 8696070218 := by
  have k := execCompatCorrSetEnable_foot (w := 8696070218) (by decide) a0 a1 s
  have h : execCompatCorrSetEnable a0 a1 s = .next t := h
  rw [h] at k
  exact keeps_next.mp k
theorem compatCorrSetEnable_row_valves {a0} {a1} {s t : State} (h : s.ValvesSafe) (e : exec (.compatCorrSetEnable a0 a1) s = .next t) : t.ValvesSafe := by
  exact valves_keep (mask_mono (by decide) (compatCorrSetEnable_row_frame e)) h
theorem compatCorrLoadTable_row_fields {a0} {a1} : fieldSet (mayChange (.compatCorrLoadTable a0 a1)) = 12991037514 := rfl
theorem compatCorrLoadTable_row_frame {a0} {a1} {s t : State} (h : exec (.compatCorrLoadTable a0 a1) s = .next t) : t.mask 12991037514 = s.mask 12991037514 := by
  have k := execCompatCorrLoadTable_foot (w := 12991037514) (by decide) a0 a1 s
  have h : execCompatCorrLoadTable a0 a1 s = .next t := h
  rw [h] at k
  exact keeps_next.mp k
theorem compatCorrLoadTable_row_valves {a0} {a1} {s t : State} (h : s.ValvesSafe) (e : exec (.compatCorrLoadTable a0 a1) s = .next t) : t.ValvesSafe := by
  exact valves_keep (mask_mono (by decide) (compatCorrLoadTable_row_frame e)) h
theorem compatPgSetSteering_row_fields {a0} {a1} : fieldSet (mayChange (.compatPgSetSteering a0 a1)) = 85938372674 := rfl
theorem compatPgSetSteering_row_frame {a0} {a1} {s t : State} (h : exec (.compatPgSetSteering a0 a1) s = .next t) : t.mask 85938372674 = s.mask 85938372674 := by
  have k := execCompatPgSetSteering_foot (w := 85938372674) (by decide) a0 a1 s
  have h : execCompatPgSetSteering a0 a1 s = .next t := h
  rw [h] at k
  exact keeps_next.mp k
theorem compatPgSetSteering_row_valves {a0} {a1} {s t : State} (h : s.ValvesSafe) (e : exec (.compatPgSetSteering a0 a1) s = .next t) : t.ValvesSafe := by
  exact valves_keep (mask_mono (by decide) (compatPgSetSteering_row_frame e)) h
theorem compatQPartition_row_fields {a0} {a1} : fieldSet (mayChange (.compatQPartition a0 a1)) = 37978194 := rfl
theorem compatQPartition_row_frame {a0} {a1} {s t : State} (h : exec (.compatQPartition a0 a1) s = .next t) : t.mask 37978194 = s.mask 37978194 := by
  have k := execCompatQPartition_foot (w := 37978194) (by decide) a0 a1 s
  have h : execCompatQPartition a0 a1 s = .next t := h
  rw [h] at k
  exact keeps_next.mp k
theorem compatQPartition_row_valves {a0} {a1} {s t : State} (h : s.ValvesSafe) (e : exec (.compatQPartition a0 a1) s = .next t) : t.ValvesSafe := by
  exact valves_keep (mask_mono (by decide) (compatQPartition_row_frame e)) h
theorem compatQCreate_row_fields {a0} {a1} : fieldSet (mayChange (.compatQCreate a0 a1)) = 39027778 := rfl
theorem compatQCreate_row_frame {a0} {a1} {s t : State} (h : exec (.compatQCreate a0 a1) s = .next t) : t.mask 39027778 = s.mask 39027778 := by
  have k := execCompatQCreate_foot (w := 39027778) (by decide) a0 a1 s
  have h : execCompatQCreate a0 a1 s = .next t := h
  rw [h] at k
  exact keeps_next.mp k
theorem compatQCreate_row_valves {a0} {a1} {s t : State} (h : s.ValvesSafe) (e : exec (.compatQCreate a0 a1) s = .next t) : t.ValvesSafe := by
  exact valves_keep (mask_mono (by decide) (compatQCreate_row_frame e)) h
theorem compatQEnable_row_fields {a0} {a1} : fieldSet (mayChange (.compatQEnable a0 a1)) = 8696070210 := rfl
theorem compatQEnable_row_frame {a0} {a1} {s t : State} (h : exec (.compatQEnable a0 a1) s = .next t) : t.mask 8696070210 = s.mask 8696070210 := by
  have k := execCompatQEnable_foot (w := 8696070210) (by decide) a0 a1 s
  have h : execCompatQEnable a0 a1 s = .next t := h
  rw [h] at k
  exact keeps_next.mp k
theorem compatQEnable_row_valves {a0} {a1} {s t : State} (h : s.ValvesSafe) (e : exec (.compatQEnable a0 a1) s = .next t) : t.ValvesSafe := by
  exact valves_keep (mask_mono (by decide) (compatQEnable_row_frame e)) h
theorem compatQDisable_row_fields {a0} {a1} : fieldSet (mayChange (.compatQDisable a0 a1)) = 8696070210 := rfl
theorem compatQDisable_row_frame {a0} {a1} {s t : State} (h : exec (.compatQDisable a0 a1) s = .next t) : t.mask 8696070210 = s.mask 8696070210 := by
  have k := execCompatQDisable_foot (w := 8696070210) (by decide) a0 a1 s
  have h : execCompatQDisable a0 a1 s = .next t := h
  rw [h] at k
  exact keeps_next.mp k
theorem compatQDisable_row_valves {a0} {a1} {s t : State} (h : s.ValvesSafe) (e : exec (.compatQDisable a0 a1) s = .next t) : t.ValvesSafe := by
  exact valves_keep (mask_mono (by decide) (compatQDisable_row_frame e)) h
theorem compatQReset_row_fields {a0} {a1} : fieldSet (mayChange (.compatQReset a0 a1)) = 106135618 := rfl
theorem compatQReset_row_frame {a0} {a1} {s t : State} (h : exec (.compatQReset a0 a1) s = .next t) : t.mask 106135618 = s.mask 106135618 := by
  have k := execCompatQReset_foot (w := 106135618) (by decide) a0 a1 s
  have h : execCompatQReset a0 a1 s = .next t := h
  rw [h] at k
  exact keeps_next.mp k
theorem compatQReset_row_valves {a0} {a1} {s t : State} (h : s.ValvesSafe) (e : exec (.compatQReset a0 a1) s = .next t) : t.ValvesSafe := by
  exact valves_keep (mask_mono (by decide) (compatQReset_row_frame e)) h
theorem compatQDestroy_row_fields {a0} {a1} : fieldSet (mayChange (.compatQDestroy a0 a1)) = 94595416138 := rfl
theorem compatQDestroy_row_frame {a0} {a1} {s t : State} (h : exec (.compatQDestroy a0 a1) s = .next t) : t.mask 94595416138 = s.mask 94595416138 := by
  have k := execCompatQDestroy_foot (w := 94595416138) (by decide) a0 a1 s
  have h : execCompatQDestroy a0 a1 s = .next t := h
  rw [h] at k
  exact keeps_next.mp k
theorem compatQDestroy_row_valves {a0} {a1} {s t : State} (h : s.ValvesSafe) (e : exec (.compatQDestroy a0 a1) s = .next t) : t.ValvesSafe := by
  exact valves_keep (mask_mono (by decide) (compatQDestroy_row_frame e)) h
theorem compatQSetNotify_row_fields {a0} {a1} : fieldSet (mayChange (.compatQSetNotify a0 a1)) = 39026754 := rfl
theorem compatQSetNotify_row_frame {a0} {a1} {s t : State} (h : exec (.compatQSetNotify a0 a1) s = .next t) : t.mask 39026754 = s.mask 39026754 := by
  have k := execCompatQSetNotify_foot (w := 39026754) (by decide) a0 a1 s
  have h : execCompatQSetNotify a0 a1 s = .next t := h
  rw [h] at k
  exact keeps_next.mp k
theorem compatQSetNotify_row_valves {a0} {a1} {s t : State} (h : s.ValvesSafe) (e : exec (.compatQSetNotify a0 a1) s = .next t) : t.ValvesSafe := by
  exact valves_keep (mask_mono (by decide) (compatQSetNotify_row_frame e)) h
theorem compatQGetStatus_row_fields {a0} {a1} : fieldSet (mayChange (.compatQGetStatus a0 a1)) = 39026754 := rfl
theorem compatQGetStatus_row_frame {a0} {a1} {s t : State} (h : exec (.compatQGetStatus a0 a1) s = .next t) : t.mask 39026754 = s.mask 39026754 := by
  have k := execCompatQGetStatus_foot (w := 39026754) (by decide) a0 a1 s
  have h : execCompatQGetStatus a0 a1 s = .next t := h
  rw [h] at k
  exact keeps_next.mp k
theorem compatQGetStatus_row_valves {a0} {a1} {s t : State} (h : s.ValvesSafe) (e : exec (.compatQGetStatus a0 a1) s = .next t) : t.ValvesSafe := by
  exact valves_keep (mask_mono (by decide) (compatQGetStatus_row_frame e)) h
theorem compatTimeGetStatus_row_fields {a0} {a1} : fieldSet (mayChange (.compatTimeGetStatus a0 a1)) = 37978178 := rfl
theorem compatTimeGetStatus_row_frame {a0} {a1} {s t : State} (h : exec (.compatTimeGetStatus a0 a1) s = .next t) : t.mask 37978178 = s.mask 37978178 := by
  have k := execCompatTimeGetStatus_foot (w := 37978178) (by decide) a0 a1 s
  have h : execCompatTimeGetStatus a0 a1 s = .next t := h
  rw [h] at k
  exact keeps_next.mp k
theorem compatTimeGetStatus_row_valves {a0} {a1} {s t : State} (h : s.ValvesSafe) (e : exec (.compatTimeGetStatus a0 a1) s = .next t) : t.ValvesSafe := by
  exact valves_keep (mask_mono (by decide) (compatTimeGetStatus_row_frame e)) h
theorem compatTimeSetSource_row_fields {a0} {a1} : fieldSet (mayChange (.compatTimeSetSource a0 a1)) = 39026786 := rfl
theorem compatTimeSetSource_row_frame {a0} {a1} {s t : State} (h : exec (.compatTimeSetSource a0 a1) s = .next t) : t.mask 39026786 = s.mask 39026786 := by
  have k := execCompatTimeSetSource_foot (w := 39026786) (by decide) a0 a1 s
  have h : execCompatTimeSetSource a0 a1 s = .next t := h
  rw [h] at k
  exact keeps_next.mp k
theorem compatTimeSetSource_row_valves {a0} {a1} {s t : State} (h : s.ValvesSafe) (e : exec (.compatTimeSetSource a0 a1) s = .next t) : t.ValvesSafe := by
  exact valves_keep (mask_mono (by decide) (compatTimeSetSource_row_frame e)) h
theorem compatTimeSetExtOffset_row_fields {a0} {a1} : fieldSet (mayChange (.compatTimeSetExtOffset a0 a1)) = 37978210 := rfl
theorem compatTimeSetExtOffset_row_frame {a0} {a1} {s t : State} (h : exec (.compatTimeSetExtOffset a0 a1) s = .next t) : t.mask 37978210 = s.mask 37978210 := by
  have k := execCompatTimeSetExtOffset_foot (w := 37978210) (by decide) a0 a1 s
  have h : execCompatTimeSetExtOffset a0 a1 s = .next t := h
  rw [h] at k
  exact keeps_next.mp k
theorem compatTimeSetExtOffset_row_valves {a0} {a1} {s t : State} (h : s.ValvesSafe) (e : exec (.compatTimeSetExtOffset a0 a1) s = .next t) : t.ValvesSafe := by
  exact valves_keep (mask_mono (by decide) (compatTimeSetExtOffset_row_frame e)) h
theorem compatTimeSetPps_row_fields {a0} {a1} : fieldSet (mayChange (.compatTimeSetPps a0 a1)) = 37978210 := rfl
theorem compatTimeSetPps_row_frame {a0} {a1} {s t : State} (h : exec (.compatTimeSetPps a0 a1) s = .next t) : t.mask 37978210 = s.mask 37978210 := by
  have k := execCompatTimeSetPps_foot (w := 37978210) (by decide) a0 a1 s
  have h : execCompatTimeSetPps a0 a1 s = .next t := h
  rw [h] at k
  exact keeps_next.mp k
theorem compatTimeSetPps_row_valves {a0} {a1} {s t : State} (h : s.ValvesSafe) (e : exec (.compatTimeSetPps a0 a1) s = .next t) : t.ValvesSafe := by
  exact valves_keep (mask_mono (by decide) (compatTimeSetPps_row_frame e)) h
theorem compatSchedAdd_row_fields {a0} {a1} : fieldSet (mayChange (.compatSchedAdd a0 a1)) = 17317414273098 := rfl
theorem compatSchedAdd_row_frame {a0} {a1} {s t : State} (h : exec (.compatSchedAdd a0 a1) s = .next t) : t.mask 17317414273098 = s.mask 17317414273098 := by
  have k := execCompatSchedAdd_foot (w := 17317414273098) (by decide) a0 a1 s
  have h : execCompatSchedAdd a0 a1 s = .next t := h
  rw [h] at k
  exact keeps_next.mp k
theorem compatSchedAdd_row_valves {a0} {a1} {s t : State} (h : s.ValvesSafe) (e : exec (.compatSchedAdd a0 a1) s = .next t) : t.ValvesSafe := by
  have k : OutcomeValves (execCompatSchedAdd a0 a1 s) := execCompatSchedAdd_valves a0 a1 s h
  have h : execCompatSchedAdd a0 a1 s = .next t := e
  rw [h] at k
  exact k
theorem compatSchedCancel_row_fields {a0} {a1} : fieldSet (mayChange (.compatSchedCancel a0 a1)) = 274915885122 := rfl
theorem compatSchedCancel_row_frame {a0} {a1} {s t : State} (h : exec (.compatSchedCancel a0 a1) s = .next t) : t.mask 274915885122 = s.mask 274915885122 := by
  have k := execCompatSchedCancel_foot (w := 274915885122) (by decide) a0 a1 s
  have h : execCompatSchedCancel a0 a1 s = .next t := h
  rw [h] at k
  exact keeps_next.mp k
theorem compatSchedCancel_row_valves {a0} {a1} {s t : State} (h : s.ValvesSafe) (e : exec (.compatSchedCancel a0 a1) s = .next t) : t.ValvesSafe := by
  exact valves_keep (mask_mono (by decide) (compatSchedCancel_row_frame e)) h
theorem compatSchedGetStatus_row_fields {a0} {a1} : fieldSet (mayChange (.compatSchedGetStatus a0 a1)) = 274915885122 := rfl
theorem compatSchedGetStatus_row_frame {a0} {a1} {s t : State} (h : exec (.compatSchedGetStatus a0 a1) s = .next t) : t.mask 274915885122 = s.mask 274915885122 := by
  have k := execCompatSchedGetStatus_foot (w := 274915885122) (by decide) a0 a1 s
  have h : execCompatSchedGetStatus a0 a1 s = .next t := h
  rw [h] at k
  exact keeps_next.mp k
theorem compatSchedGetStatus_row_valves {a0} {a1} {s t : State} (h : s.ValvesSafe) (e : exec (.compatSchedGetStatus a0 a1) s = .next t) : t.ValvesSafe := by
  exact valves_keep (mask_mono (by decide) (compatSchedGetStatus_row_frame e)) h
theorem sysRstNAssert_row_fields {a0} : fieldSet (mayChange (.sysRstNAssert a0)) = 17592186044414 := rfl
theorem sysRstNAssert_row_frame {a0} {s t : State} (h : exec (.sysRstNAssert a0) s = .next t) : t.mask 17592186044414 = s.mask 17592186044414 := by
  have k := execSysRstNAssert_foot (w := 17592186044414) (by decide) a0 s
  have h : execSysRstNAssert a0 s = .next t := h
  rw [h] at k
  exact keeps_next.mp k
theorem sysRstNAssert_row_valves {a0} {s t : State} (h : s.ValvesSafe) (e : exec (.sysRstNAssert a0) s = .next t) : t.ValvesSafe := by
  have k : OutcomeValves (execSysRstNAssert a0 s) := execSysRstNAssert_valves a0 s h
  have h : execSysRstNAssert a0 s = .next t := e
  rw [h] at k
  exact k
theorem sysRstNRelease_row_fields {a0} : fieldSet (mayChange (.sysRstNRelease a0)) = 37810418 := rfl
theorem sysRstNRelease_row_frame {a0} {s t : State} (h : exec (.sysRstNRelease a0) s = .next t) : t.mask 37810418 = s.mask 37810418 := by
  have k := execSysRstNRelease_foot (w := 37810418) (by decide) a0 s
  have h : execSysRstNRelease a0 s = .next t := h
  rw [h] at k
  exact keeps_next.mp k
theorem sysRstNRelease_row_valves {a0} {s t : State} (h : s.ValvesSafe) (e : exec (.sysRstNRelease a0) s = .next t) : t.ValvesSafe := by
  exact valves_keep (mask_mono (by decide) (sysRstNRelease_row_frame e)) h
theorem bootOptionsRead_row_fields {a0} : fieldSet (mayChange (.bootOptionsRead a0)) = 37810770 := rfl
theorem bootOptionsRead_row_frame {a0} {s t : State} (h : exec (.bootOptionsRead a0) s = .next t) : t.mask 37810770 = s.mask 37810770 := by
  have k := execBootOptionsRead_foot (w := 37810770) (by decide) a0 s
  have h : execBootOptionsRead a0 s = .next t := h
  rw [h] at k
  exact keeps_next.mp k
theorem bootOptionsRead_row_valves {a0} {s t : State} (h : s.ValvesSafe) (e : exec (.bootOptionsRead a0) s = .next t) : t.ValvesSafe := by
  exact valves_keep (mask_mono (by decide) (bootOptionsRead_row_frame e)) h
theorem bootImageLoaded_row_fields {a0} : fieldSet (mayChange (.bootImageLoaded a0)) = 37810770 := rfl
theorem bootImageLoaded_row_frame {a0} {s t : State} (h : exec (.bootImageLoaded a0) s = .next t) : t.mask 37810770 = s.mask 37810770 := by
  have k := execBootImageLoaded_foot (w := 37810770) (by decide) a0 s
  have h : execBootImageLoaded a0 s = .next t := h
  rw [h] at k
  exact keeps_next.mp k
theorem bootImageLoaded_row_valves {a0} {s t : State} (h : s.ValvesSafe) (e : exec (.bootImageLoaded a0) s = .next t) : t.ValvesSafe := by
  exact valves_keep (mask_mono (by decide) (bootImageLoaded_row_frame e)) h
theorem keeperReady_row_fields {a0} : fieldSet (mayChange (.keeperReady a0)) = 17590038560766 := rfl
theorem keeperReady_row_frame {a0} {s t : State} (h : exec (.keeperReady a0) s = .next t) : t.mask 17590038560766 = s.mask 17590038560766 := by
  have k := execKeeperReady_foot (w := 17590038560766) (by decide) a0 s
  have h : execKeeperReady a0 s = .next t := h
  rw [h] at k
  exact keeps_next.mp k
theorem keeperReady_row_valves {a0} {s t : State} (h : s.ValvesSafe) (e : exec (.keeperReady a0) s = .next t) : t.ValvesSafe := by
  have k : OutcomeValves (execKeeperReady a0 s) := execKeeperReady_valves a0 s h
  have h : execKeeperReady a0 s = .next t := e
  rw [h] at k
  exact k
theorem softDeviceReset_row_fields {a0} {a1} {a2} {a3} : fieldSet (mayChange (.softDeviceReset a0 a1 a2 a3)) = 17592185503742 := rfl
theorem softDeviceReset_row_frame {a0} {a1} {a2} {a3} {s t : State} (h : exec (.softDeviceReset a0 a1 a2 a3) s = .next t) : t.mask 17592185503742 = s.mask 17592185503742 := by
  have k := execSoftDeviceReset_foot (w := 17592185503742) (by decide) a0 a1 a2 a3 s
  have h : execSoftDeviceReset a0 a1 a2 a3 s = .next t := h
  rw [h] at k
  exact keeps_next.mp k
theorem softDeviceReset_row_valves {a0} {a1} {a2} {a3} {s t : State} (h : s.ValvesSafe) (e : exec (.softDeviceReset a0 a1 a2 a3) s = .next t) : t.ValvesSafe := by
  have k : OutcomeValves (execSoftDeviceReset a0 a1 a2 a3 s) := execSoftDeviceReset_valves a0 a1 a2 a3 s h
  have h : execSoftDeviceReset a0 a1 a2 a3 s = .next t := e
  rw [h] at k
  exact k
theorem fullResetByHive_row_fields {a0} : fieldSet (mayChange (.fullResetByHive a0)) = 17592186044414 := rfl
theorem fullResetByHive_row_frame {a0} {s t : State} (h : exec (.fullResetByHive a0) s = .next t) : t.mask 17592186044414 = s.mask 17592186044414 := by
  have k := execFullResetByHive_foot (w := 17592186044414) (by decide) a0 s
  have h : execFullResetByHive a0 s = .next t := h
  rw [h] at k
  exact keeps_next.mp k
theorem fullResetByHive_row_valves {a0} {s t : State} (h : s.ValvesSafe) (e : exec (.fullResetByHive a0) s = .next t) : t.ValvesSafe := by
  have k : OutcomeValves (execFullResetByHive a0 s) := execFullResetByHive_valves a0 s h
  have h : execFullResetByHive a0 s = .next t := e
  rw [h] at k
  exact k
theorem keeperRestart_row_fields {a0} {a1} : fieldSet (mayChange (.keeperRestart a0 a1)) = 4333011570 := rfl
theorem keeperRestart_row_frame {a0} {a1} {s t : State} (h : exec (.keeperRestart a0 a1) s = .next t) : t.mask 4333011570 = s.mask 4333011570 := by
  have k := execKeeperRestart_foot (w := 4333011570) (by decide) a0 a1 s
  have h : execKeeperRestart a0 a1 s = .next t := h
  rw [h] at k
  exact keeps_next.mp k
theorem keeperRestart_row_valves {a0} {a1} {s t : State} (h : s.ValvesSafe) (e : exec (.keeperRestart a0 a1) s = .next t) : t.ValvesSafe := by
  exact valves_keep (mask_mono (by decide) (keeperRestart_row_frame e)) h
theorem keeperFault_row_fields {a0} {a1} : fieldSet (mayChange (.keeperFault a0 a1)) = 4333040242 := rfl
theorem keeperFault_row_frame {a0} {a1} {s t : State} (h : exec (.keeperFault a0 a1) s = .next t) : t.mask 4333040242 = s.mask 4333040242 := by
  have k := execKeeperFault_foot (w := 4333040242) (by decide) a0 a1 s
  have h : execKeeperFault a0 a1 s = .next t := h
  rw [h] at k
  exact keeps_next.mp k
theorem keeperFault_row_valves {a0} {a1} {s t : State} (h : s.ValvesSafe) (e : exec (.keeperFault a0 a1) s = .next t) : t.ValvesSafe := by
  exact valves_keep (mask_mono (by decide) (keeperFault_row_frame e)) h
theorem fwTrialEnd_row_fields : fieldSet (mayChange (.fwTrialEnd)) = 544 := rfl
theorem fwTrialEnd_row_frame {s t : State} (h : exec (.fwTrialEnd) s = .next t) : t.mask 544 = s.mask 544 := by
  have k := execFwTrialEnd_foot (w := 544) (by decide) s
  have h : execFwTrialEnd s = .next t := h
  rw [h] at k
  exact keeps_next.mp k
theorem fwTrialEnd_row_valves {s t : State} (h : s.ValvesSafe) (e : exec (.fwTrialEnd) s = .next t) : t.ValvesSafe := by
  exact valves_keep (mask_mono (by decide) (fwTrialEnd_row_frame e)) h
theorem jtagInstruction_row_fields {a0} : fieldSet (mayChange (.jtagInstruction a0)) = 33362 := rfl
theorem jtagInstruction_row_frame {a0} {s t : State} (h : exec (.jtagInstruction a0) s = .next t) : t.mask 33362 = s.mask 33362 := by
  have k := execJtagInstruction_foot (w := 33362) (by decide) a0 s
  have h : execJtagInstruction a0 s = .next t := h
  rw [h] at k
  exact keeps_next.mp k
theorem jtagInstruction_row_valves {a0} {s t : State} (h : s.ValvesSafe) (e : exec (.jtagInstruction a0) s = .next t) : t.ValvesSafe := by
  exact valves_keep (mask_mono (by decide) (jtagInstruction_row_frame e)) h
theorem bankRetentionEntry_row_fields {a0} : fieldSet (mayChange (.bankRetentionEntry a0)) = 1024 := rfl
theorem bankRetentionEntry_row_frame {a0} {s t : State} (h : exec (.bankRetentionEntry a0) s = .next t) : t.mask 1024 = s.mask 1024 := by
  have k := execBankRetentionEntry_foot (w := 1024) (by decide) a0 s
  have h : execBankRetentionEntry a0 s = .next t := h
  rw [h] at k
  exact keeps_next.mp k
theorem bankRetentionEntry_row_valves {a0} {s t : State} (h : s.ValvesSafe) (e : exec (.bankRetentionEntry a0) s = .next t) : t.ValvesSafe := by
  exact valves_keep (mask_mono (by decide) (bankRetentionEntry_row_frame e)) h
theorem bankWake_row_fields {a0} : fieldSet (mayChange (.bankWake a0)) = 1024 := rfl
theorem bankWake_row_frame {a0} {s t : State} (h : exec (.bankWake a0) s = .next t) : t.mask 1024 = s.mask 1024 := by
  have k := execBankWake_foot (w := 1024) (by decide) a0 s
  have h : execBankWake a0 s = .next t := h
  rw [h] at k
  exact keeps_next.mp k
theorem bankWake_row_valves {a0} {s t : State} (h : s.ValvesSafe) (e : exec (.bankWake a0) s = .next t) : t.ValvesSafe := by
  exact valves_keep (mask_mono (by decide) (bankWake_row_frame e)) h
theorem eccCorrected_row_fields {a0} {a1} {a2} : fieldSet (mayChange (.eccCorrected a0 a1 a2)) = 1082474 := rfl
theorem eccCorrected_row_frame {a0} {a1} {a2} {s t : State} (h : exec (.eccCorrected a0 a1 a2) s = .next t) : t.mask 1082474 = s.mask 1082474 := by
  have k := execEccCorrected_foot (w := 1082474) (by decide) a0 a1 a2 s
  have h : execEccCorrected a0 a1 a2 s = .next t := h
  rw [h] at k
  exact keeps_next.mp k
theorem eccCorrected_row_valves {a0} {a1} {a2} {s t : State} (h : s.ValvesSafe) (e : exec (.eccCorrected a0 a1 a2) s = .next t) : t.ValvesSafe := by
  exact valves_keep (mask_mono (by decide) (eccCorrected_row_frame e)) h
theorem eccUncorrectable_row_fields {a0} {a1} {a2} {a3} : fieldSet (mayChange (.eccUncorrectable a0 a1 a2 a3)) = 425442211450 := rfl
theorem eccUncorrectable_row_frame {a0} {a1} {a2} {a3} {s t : State} (h : exec (.eccUncorrectable a0 a1 a2 a3) s = .next t) : t.mask 425442211450 = s.mask 425442211450 := by
  have k := execEccUncorrectable_foot (w := 425442211450) (by decide) a0 a1 a2 a3 s
  have h : execEccUncorrectable a0 a1 a2 a3 s = .next t := h
  rw [h] at k
  exact keeps_next.mp k
theorem eccUncorrectable_row_valves {a0} {a1} {a2} {a3} {s t : State} (h : s.ValvesSafe) (e : exec (.eccUncorrectable a0 a1 a2 a3) s = .next t) : t.ValvesSafe := by
  exact valves_keep (mask_mono (by decide) (eccUncorrectable_row_frame e)) h
theorem writeLost_row_fields {a0} {a1} {a2} : fieldSet (mayChange (.writeLost a0 a1 a2)) = 3136 := rfl
theorem writeLost_row_frame {a0} {a1} {a2} {s t : State} (h : exec (.writeLost a0 a1 a2) s = .next t) : t.mask 3136 = s.mask 3136 := by
  have k := execWriteLost_foot (w := 3136) (by decide) a0 a1 a2 s
  have h : execWriteLost a0 a1 a2 s = .next t := h
  rw [h] at k
  exact keeps_next.mp k
theorem writeLost_row_valves {a0} {a1} {a2} {s t : State} (h : s.ValvesSafe) (e : exec (.writeLost a0 a1 a2) s = .next t) : t.ValvesSafe := by
  exact valves_keep (mask_mono (by decide) (writeLost_row_frame e)) h
theorem backgroundTestWindow_row_fields {a0} {a1} {a2} {a3} {a4} : fieldSet (mayChange (.backgroundTestWindow a0 a1 a2 a3 a4)) = 38861922 := rfl
theorem backgroundTestWindow_row_frame {a0} {a1} {a2} {a3} {a4} {s t : State} (h : exec (.backgroundTestWindow a0 a1 a2 a3 a4) s = .next t) : t.mask 38861922 = s.mask 38861922 := by
  have k := execBackgroundTestWindow_foot (w := 38861922) (by decide) a0 a1 a2 a3 a4 s
  have h : execBackgroundTestWindow a0 a1 a2 a3 a4 s = .next t := h
  rw [h] at k
  exact keeps_next.mp k
theorem backgroundTestWindow_row_valves {a0} {a1} {a2} {a3} {a4} {s t : State} (h : s.ValvesSafe) (e : exec (.backgroundTestWindow a0 a1 a2 a3 a4) s = .next t) : t.ValvesSafe := by
  exact valves_keep (mask_mono (by decide) (backgroundTestWindow_row_frame e)) h
theorem testWindowSurrender_row_fields {a0} {a1} : fieldSet (mayChange (.testWindowSurrender a0 a1)) = 3168 := rfl
theorem testWindowSurrender_row_frame {a0} {a1} {s t : State} (h : exec (.testWindowSurrender a0 a1) s = .next t) : t.mask 3168 = s.mask 3168 := by
  have k := execTestWindowSurrender_foot (w := 3168) (by decide) a0 a1 s
  have h : execTestWindowSurrender a0 a1 s = .next t := h
  rw [h] at k
  exact keeps_next.mp k
theorem testWindowSurrender_row_valves {a0} {a1} {s t : State} (h : s.ValvesSafe) (e : exec (.testWindowSurrender a0 a1) s = .next t) : t.ValvesSafe := by
  exact valves_keep (mask_mono (by decide) (testWindowSurrender_row_frame e)) h
theorem memValveGuard_row_fields {a0} {a1} : fieldSet (mayChange (.memValveGuard a0 a1)) = 824634802274 := rfl
theorem memValveGuard_row_frame {a0} {a1} {s t : State} (h : exec (.memValveGuard a0 a1) s = .next t) : t.mask 824634802274 = s.mask 824634802274 := by
  have k := execMemValveGuard_foot (w := 824634802274) (by decide) a0 a1 s
  have h : execMemValveGuard a0 a1 s = .next t := h
  rw [h] at k
  exact keeps_next.mp k
theorem memValveGuard_row_valves {a0} {a1} {s t : State} (h : s.ValvesSafe) (e : exec (.memValveGuard a0 a1) s = .next t) : t.ValvesSafe := by
  have k : OutcomeValves (execMemValveGuard a0 a1 s) := execMemValveGuard_valves a0 a1 s h
  have h : execMemValveGuard a0 a1 s = .next t := e
  rw [h] at k
  exact k
theorem assemblerFault_row_fields {a0} {a1} : fieldSet (mayChange (.assemblerFault a0 a1)) = 26949513314 := rfl
theorem assemblerFault_row_frame {a0} {a1} {s t : State} (h : exec (.assemblerFault a0 a1) s = .next t) : t.mask 26949513314 = s.mask 26949513314 := by
  have k := execAssemblerFault_foot (w := 26949513314) (by decide) a0 a1 s
  have h : execAssemblerFault a0 a1 s = .next t := h
  rw [h] at k
  exact keeps_next.mp k
theorem assemblerFault_row_valves {a0} {a1} {s t : State} (h : s.ValvesSafe) (e : exec (.assemblerFault a0 a1) s = .next t) : t.ValvesSafe := by
  exact valves_keep (mask_mono (by decide) (assemblerFault_row_frame e)) h
theorem clockLoss_row_fields {a0} {a1} : fieldSet (mayChange (.clockLoss a0 a1)) = 66121954 := rfl
theorem clockLoss_row_frame {a0} {a1} {s t : State} (h : exec (.clockLoss a0 a1) s = .next t) : t.mask 66121954 = s.mask 66121954 := by
  have k := execClockLoss_foot (w := 66121954) (by decide) a0 a1 s
  have h : execClockLoss a0 a1 s = .next t := h
  rw [h] at k
  exact keeps_next.mp k
theorem clockLoss_row_valves {a0} {a1} {s t : State} (h : s.ValvesSafe) (e : exec (.clockLoss a0 a1) s = .next t) : t.ValvesSafe := by
  exact valves_keep (mask_mono (by decide) (clockLoss_row_frame e)) h
theorem sysclkHoldoverEnd_row_fields : fieldSet (mayChange (.sysclkHoldoverEnd)) = 160 := rfl
theorem sysclkHoldoverEnd_row_frame {s t : State} (h : exec (.sysclkHoldoverEnd) s = .next t) : t.mask 160 = s.mask 160 := by
  have k := execSysclkHoldoverEnd_foot (w := 160) (by decide) s
  have h : execSysclkHoldoverEnd s = .next t := h
  rw [h] at k
  exact keeps_next.mp k
theorem sysclkHoldoverEnd_row_valves {s t : State} (h : s.ValvesSafe) (e : exec (.sysclkHoldoverEnd) s = .next t) : t.ValvesSafe := by
  exact valves_keep (mask_mono (by decide) (sysclkHoldoverEnd_row_frame e)) h
theorem supplyExcursion_row_fields {a0} {a1} {a2} : fieldSet (mayChange (.supplyExcursion a0 a1 a2)) = 549793624290 := rfl
theorem supplyExcursion_row_frame {a0} {a1} {a2} {s t : State} (h : exec (.supplyExcursion a0 a1 a2) s = .next t) : t.mask 549793624290 = s.mask 549793624290 := by
  have k := execSupplyExcursion_foot (w := 549793624290) (by decide) a0 a1 a2 s
  have h : execSupplyExcursion a0 a1 a2 s = .next t := h
  rw [h] at k
  exact keeps_next.mp k
theorem supplyExcursion_row_valves {a0} {a1} {a2} {s t : State} (h : s.ValvesSafe) (e : exec (.supplyExcursion a0 a1 a2) s = .next t) : t.ValvesSafe := by
  have k : OutcomeValves (execSupplyExcursion a0 a1 a2 s) := execSupplyExcursion_valves a0 a1 a2 s h
  have h : execSupplyExcursion a0 a1 a2 s = .next t := e
  rw [h] at k
  exact k
theorem flashFault_row_fields {a0} {a1} : fieldSet (mayChange (.flashFault a0 a1)) = 37810274 := rfl
theorem flashFault_row_frame {a0} {a1} {s t : State} (h : exec (.flashFault a0 a1) s = .next t) : t.mask 37810274 = s.mask 37810274 := by
  have k := execFlashFault_foot (w := 37810274) (by decide) a0 a1 s
  have h : execFlashFault a0 a1 s = .next t := h
  rw [h] at k
  exact keeps_next.mp k
theorem flashFault_row_valves {a0} {a1} {s t : State} (h : s.ValvesSafe) (e : exec (.flashFault a0 a1) s = .next t) : t.ValvesSafe := by
  exact valves_keep (mask_mono (by decide) (flashFault_row_frame e)) h
theorem faultRaised_row_fields : fieldSet (mayChange (.faultRaised)) = 1097794 := rfl
theorem faultRaised_row_frame {s t : State} (h : exec (.faultRaised) s = .next t) : t.mask 1097794 = s.mask 1097794 := by
  have k := execFaultRaised_foot (w := 1097794) (by decide) s
  have h : execFaultRaised s = .next t := h
  rw [h] at k
  exact keeps_next.mp k
theorem faultRaised_row_valves {s t : State} (h : s.ValvesSafe) (e : exec (.faultRaised) s = .next t) : t.ValvesSafe := by
  exact valves_keep (mask_mono (by decide) (faultRaised_row_frame e)) h
theorem faultCleared_row_fields {a0} {a1} {a2} : fieldSet (mayChange (.faultCleared a0 a1 a2)) = 38842466 := rfl
theorem faultCleared_row_frame {a0} {a1} {a2} {s t : State} (h : exec (.faultCleared a0 a1 a2) s = .next t) : t.mask 38842466 = s.mask 38842466 := by
  have k := execFaultCleared_foot (w := 38842466) (by decide) a0 a1 a2 s
  have h : execFaultCleared a0 a1 a2 s = .next t := h
  rw [h] at k
  exact keeps_next.mp k
theorem faultCleared_row_valves {a0} {a1} {a2} {s t : State} (h : s.ValvesSafe) (e : exec (.faultCleared a0 a1 a2) s = .next t) : t.ValvesSafe := by
  exact valves_keep (mask_mono (by decide) (faultCleared_row_frame e)) h
theorem keeperSleep_row_fields {a0} : fieldSet (mayChange (.keeperSleep a0)) = 96 := rfl
theorem keeperSleep_row_frame {a0} {s t : State} (h : exec (.keeperSleep a0) s = .next t) : t.mask 96 = s.mask 96 := by
  have k := execKeeperSleep_foot (w := 96) (by decide) a0 s
  have h : execKeeperSleep a0 s = .next t := h
  rw [h] at k
  exact keeps_next.mp k
theorem keeperSleep_row_valves {a0} {s t : State} (h : s.ValvesSafe) (e : exec (.keeperSleep a0) s = .next t) : t.ValvesSafe := by
  exact valves_keep (mask_mono (by decide) (keeperSleep_row_frame e)) h
theorem keeperTick_row_fields : fieldSet (mayChange (.keeperTick)) = 134217920 := rfl
theorem keeperTick_row_frame {s t : State} (h : exec (.keeperTick) s = .next t) : t.mask 134217920 = s.mask 134217920 := by
  have k := execKeeperTick_foot (w := 134217920) (by decide) s
  have h : execKeeperTick s = .next t := h
  rw [h] at k
  exact keeps_next.mp k
theorem keeperTick_row_valves {s t : State} (h : s.ValvesSafe) (e : exec (.keeperTick) s = .next t) : t.ValvesSafe := by
  exact valves_keep (mask_mono (by decide) (keeperTick_row_frame e)) h
theorem sensorSample_row_fields {a0} {a1} {a2} : fieldSet (mayChange (.sensorSample a0 a1 a2)) = 1081410 := rfl
theorem sensorSample_row_frame {a0} {a1} {a2} {s t : State} (h : exec (.sensorSample a0 a1 a2) s = .next t) : t.mask 1081410 = s.mask 1081410 := by
  have k := execSensorSample_foot (w := 1081410) (by decide) a0 a1 a2 s
  have h : execSensorSample a0 a1 a2 s = .next t := h
  rw [h] at k
  exact keeps_next.mp k
theorem sensorSample_row_valves {a0} {a1} {a2} {s t : State} (h : s.ValvesSafe) (e : exec (.sensorSample a0 a1 a2) s = .next t) : t.ValvesSafe := by
  exact valves_keep (mask_mono (by decide) (sensorSample_row_frame e)) h
theorem logEntryProgram_row_fields : fieldSet (mayChange (.logEntryProgram)) = 4162 := rfl
theorem logEntryProgram_row_frame {s t : State} (h : exec (.logEntryProgram) s = .next t) : t.mask 4162 = s.mask 4162 := by
  have k := execLogEntryProgram_foot (w := 4162) (by decide) s
  have h : execLogEntryProgram s = .next t := h
  rw [h] at k
  exact keeps_next.mp k
theorem logEntryProgram_row_valves {s t : State} (h : s.ValvesSafe) (e : exec (.logEntryProgram) s = .next t) : t.ValvesSafe := by
  exact valves_keep (mask_mono (by decide) (logEntryProgram_row_frame e)) h
theorem honeySave_row_fields : fieldSet (mayChange (.honeySave)) = 37753058 := rfl
theorem honeySave_row_frame {s t : State} (h : exec (.honeySave) s = .next t) : t.mask 37753058 = s.mask 37753058 := by
  have k := execHoneySave_foot (w := 37753058) (by decide) s
  have h : execHoneySave s = .next t := h
  rw [h] at k
  exact keeps_next.mp k
theorem honeySave_row_valves {s t : State} (h : s.ValvesSafe) (e : exec (.honeySave) s = .next t) : t.ValvesSafe := by
  exact valves_keep (mask_mono (by decide) (honeySave_row_frame e)) h
theorem thermalTrip_row_fields {a0} {a1} : fieldSet (mayChange (.thermalTrip a0 a1)) = 17592186044414 := rfl
theorem thermalTrip_row_frame {a0} {a1} {s t : State} (h : exec (.thermalTrip a0 a1) s = .next t) : t.mask 17592186044414 = s.mask 17592186044414 := by
  have k := execThermalTrip_foot (w := 17592186044414) (by decide) a0 a1 s
  have h : execThermalTrip a0 a1 s = .next t := h
  rw [h] at k
  exact keeps_next.mp k
theorem thermalTrip_row_valves {a0} {a1} {s t : State} (h : s.ValvesSafe) (e : exec (.thermalTrip a0 a1) s = .next t) : t.ValvesSafe := by
  have k : OutcomeValves (execThermalTrip a0 a1 s) := execThermalTrip_valves a0 a1 s h
  have h : execThermalTrip a0 a1 s = .next t := e
  rw [h] at k
  exact k
theorem thermalTripClear_row_fields {a0} : fieldSet (mayChange (.thermalTripClear a0)) = 17592186044414 := rfl
theorem thermalTripClear_row_frame {a0} {s t : State} (h : exec (.thermalTripClear a0) s = .next t) : t.mask 17592186044414 = s.mask 17592186044414 := by
  have k := execThermalTripClear_foot (w := 17592186044414) (by decide) a0 s
  have h : execThermalTripClear a0 s = .next t := h
  rw [h] at k
  exact keeps_next.mp k
theorem thermalTripClear_row_valves {a0} {s t : State} (h : s.ValvesSafe) (e : exec (.thermalTripClear a0) s = .next t) : t.ValvesSafe := by
  have k : OutcomeValves (execThermalTripClear a0 s) := execThermalTripClear_valves a0 s h
  have h : execThermalTripClear a0 s = .next t := e
  rw [h] at k
  exact k
theorem vddAonRise_row_fields : fieldSet (mayChange (.vddAonRise)) = 192 := rfl
theorem vddAonRise_row_frame {s t : State} (h : exec (.vddAonRise) s = .next t) : t.mask 192 = s.mask 192 := by
  have k := execVddAonRise_foot (w := 192) (by decide) s
  have h : execVddAonRise s = .next t := h
  rw [h] at k
  exact keeps_next.mp k
theorem vddAonRise_row_valves {s t : State} (h : s.ValvesSafe) (e : exec (.vddAonRise) s = .next t) : t.ValvesSafe := by
  exact valves_keep (mask_mono (by decide) (vddAonRise_row_frame e)) h
theorem dozeResumeDone_row_fields {a0} {a1} : fieldSet (mayChange (.dozeResumeDone a0 a1)) = 2097184 := rfl
theorem dozeResumeDone_row_frame {a0} {a1} {s t : State} (h : exec (.dozeResumeDone a0 a1) s = .next t) : t.mask 2097184 = s.mask 2097184 := by
  have k := execDozeResumeDone_foot (w := 2097184) (by decide) a0 a1 s
  have h : execDozeResumeDone a0 a1 s = .next t := h
  rw [h] at k
  exact keeps_next.mp k
theorem dozeResumeDone_row_valves {a0} {a1} {s t : State} (h : s.ValvesSafe) (e : exec (.dozeResumeDone a0 a1) s = .next t) : t.ValvesSafe := by
  exact valves_keep (mask_mono (by decide) (dozeResumeDone_row_frame e)) h
theorem clockReturn_row_fields {a0} {a1} : fieldSet (mayChange (.clockReturn a0 a1)) = 4256 := rfl
theorem clockReturn_row_frame {a0} {a1} {s t : State} (h : exec (.clockReturn a0 a1) s = .next t) : t.mask 4256 = s.mask 4256 := by
  have k := execClockReturn_foot (w := 4256) (by decide) a0 a1 s
  have h : execClockReturn a0 a1 s = .next t := h
  rw [h] at k
  exact keeps_next.mp k
theorem clockReturn_row_valves {a0} {a1} {s t : State} (h : s.ValvesSafe) (e : exec (.clockReturn a0 a1) s = .next t) : t.ValvesSafe := by
  exact valves_keep (mask_mono (by decide) (clockReturn_row_frame e)) h
theorem supplyReturn_row_fields {a0} {a1} : fieldSet (mayChange (.supplyReturn a0 a1)) = 4256 := rfl
theorem supplyReturn_row_frame {a0} {a1} {s t : State} (h : exec (.supplyReturn a0 a1) s = .next t) : t.mask 4256 = s.mask 4256 := by
  have k := execSupplyReturn_foot (w := 4256) (by decide) a0 a1 s
  have h : execSupplyReturn a0 a1 s = .next t := h
  rw [h] at k
  exact keeps_next.mp k
theorem supplyReturn_row_valves {a0} {a1} {s t : State} (h : s.ValvesSafe) (e : exec (.supplyReturn a0 a1) s = .next t) : t.ValvesSafe := by
  exact valves_keep (mask_mono (by decide) (supplyReturn_row_frame e)) h

end Sys2Proof.Machine
end

