-- ==== Sys2Proof/WellFormed.lean ====
section
/-! DEFINITION. Well-formed commands: operands inside the ranges that the records they stand for have. The meanings are
total and do not consult it; it names what a sender can really send. -/
namespace Sys2Proof

/-- A pixel format of Table 4-4, or none of them. -/
def GvspFormat.wf : GvspFormat → Bool
  | .mono b .whole => b == 8 || b == 10 || b == 12 || b == 14 || b == 16
  | .mono b _ => b == 10 || b == 12
  | _ => true
/-- A GVSP packet's fields within their widths. -/
def GvspPacket.wf (p : GvspPacket) : Bool :=
  p.blockId < 2 ^ 64 && p.packetId < 2 ^ 32 && (match p.body with
  | .leader k t l => k < 65536 && t < 2 ^ 64 && l.all fun x => x.format.wf && x.width < 2 ^ 32 && x.height < 2 ^ 32
  | .payload _ o d => o < 2 ^ 63 && d.length ≤ 16128
  | .chunk d => d.length ≤ 65535
  | _ => true)

/-- Counts, widths and lengths of operands that carry wire data. -/
def Instr.wf : Instr → Bool
  | .registerWrite _ bar _ d => (bar == 0 || bar == 2 || bar == 4) && 1 ≤ d.length && d.length ≤ 4096
  | .decisionApertureWrite _ _ d _ => 1 ≤ d.length && d.length ≤ 4096
  | .peerWindowWrite _ _ d _ => 1 ≤ d.length && d.length ≤ 4096
  | .fecFrameReceived _ y _ => y.length == 2805 || y.length == 5610
  | .huntPeriod _ y _ => y.length == 2805 || y.length == 5610
  | .packetReceived _ p _ => p.header.length == 16 && p.payload.length ≤ 65535
  | .lineSegmentReceived _ g _ => g.x < 65536 && g.lineNo < 2 ^ 32 && g.tExp32 < 2 ^ 32 && g.payload.length ≤ 16384
  | .fmarkReceived _ _ _ n c _ => n < 2 ^ 32 && c < 2 ^ 32
  | .cctlRequestReceived _ _ tag a n d _ => tag < 256 && a < 2 ^ 32 && n < 65536 && d.length ≤ 512
  | .cctlAckReceived _ _ tag st d _ => tag < 256 && st < 256 && d.length ≤ 512
  | .cctlTimeout _ tag => tag < 256
  | .testPacketReceived _ q p => q < 2 ^ 32 && p.length ≤ 16384
  | .eventBlockReceived _ _ k g q t32 _ => k < 8 && g < 16 && q < 4096 && t32 < 2 ^ 32
  | .timeBlockReceived _ k x _ _ v _ => k < 4 && x < 64 && v < 2 ^ 48
  | .lmsgReceived _ c q _ => c < 256 && q < 256
  | .ethFrameReceived _ f _ _ _ => f.length ≤ 65535
  | .gvspPacketReceived _ _ p _ => p.wf
  | .doeRequest _ o => o.length % 4 == 0 && o.length ≤ 4096
  | .ejectActionsReceived src b _ => src < 65536 && b.length ≤ 2032
  | .ejectDecisionReceived src b _ => src < 65536 && b.length == 16
  | .wgImportReceived src _ b _ => src < 65536 && b.length == 16
  | .hmsgForward _ m => m.htype < 256 && m.hsub < 256 && m.hops < 256 && m.body.length ≤ 2032
  | .producerOccurrence p _ _ => p < 65536
  | .ssiFrame _ _ b _ => 8 ≤ b.length && b.length ≤ 49
  | .sensorSample t v r => t.length == 32 && v.length == 24 && r.length == 8
  | _ => true

end Sys2Proof
end

section
/-! Counters saturate (R8): the rules of `countN`, and the obligation they settle. -/
namespace Sys2Proof.Machine

/-- The counter that counts adds `n` and stops at all ones of its width. -/
@[simp] theorem cnt_countN_self (w : Nat) (c : Counts) (i n : Nat) :
    cnt (countN w c i n) i = min (cnt c i + n) (2 ^ w - 1) :=
  Table.getD_put c i (satAdd w (cnt c i) n) 0

/-- A counter at all ones keeps that value through any further count. -/
theorem cnt_countN_of_allOnes {w : Nat} {c : Counts} {i : Nat} (n : Nat) (full : cnt c i = 2 ^ w - 1) :
    cnt (countN w c i n) i = 2 ^ w - 1 := by
  rw [cnt_countN_self, full]
  exact Nat.min_eq_right (Nat.le_add_right _ n)

/-- Settles O59: the counter itself, the counter already full, and the frame within the unit. -/
theorem countersSaturate : Obligations.CountersSaturate := by
  unfold Obligations.CountersSaturate
  intro w c i n
  exact ⟨cnt_countN_self w c i n, cnt_countN_of_allOnes n, fun j other => cnt_countN_ne w c i j n other⟩

end Sys2Proof.Machine
end

section
/-! Rules of the lane and link operations: what each leaves of the units it touches, for the rows of lane training,
signals, bonds and power (02_lane_physical_layer.md). -/
namespace Sys2Proof.Machine

@[simp] theorem lane_countLane (l : Nat) (k : LaneCnt) (s : State) :
    (countLane l k s).lane l = { s.lane l with counts := count (s.lane l).counts k.ctorIdx } := by
  simp [countLane]
@[simp] theorem now_countLane (l : Nat) (k : LaneCnt) (s : State) : (countLane l k s).now = s.now := by
  simp [countLane]

/-- A counter of 32 bits of a link counts one. -/
theorem link_countLink {k : LinkCnt} (narrow : k ≠ .corrSym) (l : Nat) (s : State) :
    (countLink l k s).link l = { s.link l with counts := count (s.link l).counts k.ctorIdx } := by
  cases k with
  | corrSym => contradiction
  | _ => simp [countLink, countLinkN, count]
@[simp] theorem eth_countLink (l : Nat) (k : LinkCnt) (s : State) (i : Nat) : (countLink l k s).eth i = s.eth i := by
  simp [countLink, countLinkN]

/-- The lane after entry to TRAIN_CDR (Table 2-8). -/
def Lane.inCdr (fast : Bool) (now : Nat) (v : Lane) : Lane :=
  let taps := if fast then v.stored.getD (presetTaps v.cfg.preset) else presetTaps v.cfg.preset
  { v with
    train := .cdr, timerAt := now, fastAt := if fast then some now else none, validRun := 0, readyRun := 0, roleRun := 0
    mismatch := false, tx := {}, rx := {}, preTap := taps.1, postTap := taps.2, frozen := false, drifting := false
    power := .active, ask := none, resuming := false }

/-- Entry to TRAIN_CDR puts the lane's own record. -/
@[simp] theorem lane_enterCdr (fast : Bool) (l : Nat) (s : State) :
    (enterCdr fast l s).lane l = (s.lane l).inCdr fast s.now := by
  simp [enterCdr, Lane.inCdr]
/-- No other lane notices it. -/
theorem lane_enterCdr_ne (fast : Bool) (l : Nat) (s : State) (j : Nat) (h : j ≠ l) : (enterCdr fast l s).lane j = s.lane j := by
  simp [enterCdr, lane_modLane_ne _ _ _ _ h]

/-- A return from DATA is one entry to TRAIN_CDR, counted (R41). -/
@[simp] theorem lane_retrain (l : Nat) (s : State) :
    (retrain l s).lane l =
      { (s.lane l).inCdr false s.now with counts := count (s.lane l).counts LaneCnt.retrain.ctorIdx } := by
  simp [retrain, Lane.inCdr]
@[simp] theorem now_retrain (l : Nat) (s : State) : (retrain l s).now = s.now := by
  simp [retrain]

end Sys2Proof.Machine
end

section
/-! Lane commands (R340, R341, R343, R50): where no check fails, each command's run is its commit. -/
namespace Sys2Proof.Machine

/-- LANE_CONFIGURE that passes its checks commits the settings. -/
theorem laneConfigure_of_passed {r : Req} {s : State} (h : (cmdLaneConfigure.run r s).failed = false) :
    cmdLaneConfigure.run r s = .ok (laneCommit r s) [] := by
  simp only [cmdLaneConfigure, laneConfigure] at h ⊢
  exact checked_pass h

/-- LANE_GET_STATUS that passes its checks returns the status, and clears with CLEAR. -/
theorem laneGetStatus_of_passed {r : Req} {s : State} (h : (cmdLaneGetStatus.run r s).failed = false) :
    cmdLaneGetStatus.run r s = .ok (if r.clear then laneClear (r.u32 0) s else s) (laneStatus s (r.u32 0)) := by
  simp only [cmdLaneGetStatus] at h ⊢
  exact checked_pass h

/-- LANE_SET_POWER that passes its checks and names another state asks the far end for DOZE or SLEEP of an Abaend lane in
DATA, and else enters the state. -/
theorem laneSetPower_of_passed {r : Req} {s : State} (h : (cmdLaneSetPower.run r s).failed = false)
    (moves : powerCode (s.lane (r.u32 0)).power ≠ r.u32 4) :
    cmdLaneSetPower.run r s =
      if (r.u32 4 = 1 ∨ r.u32 4 = 2) ∧ (s.lane (r.u32 0)).cfg.mode.abaend = true ∧ (s.lane (r.u32 0)).train = .data then
        .wait { askPower (r.u32 4 == 2) (r.u32 0) s with
          waiting := some { fn := r.fn, mbx := r.mbx, since := s.now, what := .power (r.u32 0) (r.u32 4) } } false
      else .ok (setPower (r.u32 4) (r.u32 0) s) [] := by
  simp only [cmdLaneSetPower, laneSetPower] at h ⊢
  rw [checked_pass h, if_neg moves]

/-- LANE_EYE_SCAN that passes its checks returns what the sampler measured. -/
theorem laneEyeScan_of_passed {a b e : Nat} {r : Req} {s : State} (h : ((cmdLaneEyeScan a b e).run r s).failed = false) :
    (cmdLaneEyeScan a b e).run r s = .ok s (b32 a ++ b32 b ++ b32 e) := by
  simp only [cmdLaneEyeScan] at h ⊢
  exact checked_pass h

/-- In RUN no command wakes the device first (R547). -/
theorem serveWaking_of_run {s : State} (c : Cmd) (p : Req → Bool) (f m : Nat) (run : s.sys.devState = .run) :
    serveWaking c p f m s = serve c f m s := by
  have awake : wakeDevice 6 s = s := by
    unfold wakeDevice
    rw [if_pos run]
  unfold serveWaking
  simp only [awake, ite_self]

/-- In RUN the row of LANE_SET_POWER is the service of its command. -/
theorem exec_laneSetPower_of_run {f : Fn} {m : Mbx} {s : State} (run : s.sys.devState = .run) :
    exec (.laneSetPower f m) s = .next (serve cmdLaneSetPower f m s) :=
  congrArg Host.Outcome.next (serveWaking_of_run cmdLaneSetPower (fun r => r.u32 4 == 0) f m run)

/-- Settles O3, command by command: the checks have passed, so the run is the commit, and its answer is concluded. -/
theorem laneCommandsComplete : Obligations.LaneCommandsComplete := by
  unfold Obligations.LaneCommandsComplete
  refine ⟨?configure, ?status, ?power, ?powerAsked, ?eye⟩
  case configure =>
    intro f m s h
    exact accepted_commits f.isLt h (cmdLaneConfigure_foot (w := 66106434) (by decide) _ s rfl) rfl rfl
      (laneConfigure_of_passed h.run_eq.2)
  case status =>
    intro f m s h
    exact accepted_commits f.isLt h (cmdLaneGetStatus_foot (w := 23068672) (by decide) _ s rfl) rfl rfl
      (laneGetStatus_of_passed h.run_eq.2)
  case power =>
    intro f m s h run r moves alone
    have enters := (laneSetPower_of_passed h.run_eq.2 moves).trans (if_neg alone)
    rw [exec_laneSetPower_of_run run]
    exact accepted_commits f.isLt h (cmdLaneSetPower_foot (w := 31719426) (by decide) _ s rfl) rfl rfl enters
  case powerAsked =>
    intro f m s h run r moves dozes abaend data
    have asks := (laneSetPower_of_passed h.run_eq.2 moves).trans (if_pos ⟨dozes, abaend, data⟩)
    rw [exec_laneSetPower_of_run run, accepted_waits h asks]
    have kept : (askPower (r.u32 4 == 2) (r.u32 0) s).mbxs = s.mbxs :=
      mask_mbxs (w := 6291458) rfl (askPower_foot (by decide) ..)
    exact ⟨_, rfl, rfl, rfl, rfl, rfl, kept⟩
  case eye =>
    intro f m a b e s h
    exact accepted_commits f.isLt h (cmdLaneEyeScan_foot (w := 0) (by decide) a b e _ s rfl) rfl rfl
      (laneEyeScan_of_passed h.run_eq.2)

end Sys2Proof.Machine
end

section
/-! Lane training (R33 to R41, R63): what each event does where its guard is open. -/
namespace Sys2Proof.Machine

/-! ### The PLL of a quad (R23, R41) -/

theorem lane_startLane_ne (l : Nat) (s : State) (j : Nat) (h : j ≠ l) : (startLane l s).lane j = s.lane j := by
  unfold startLane
  split <;> simp [lane_enterCdr_ne, lane_modLane_ne, h]
@[simp] theorem pll_startLane (l q p : Nat) (s : State) : (startLane l s).pll q p = s.pll q p := by
  unfold startLane
  split <;> simp

/-- What the lock of a PLL tuned to `tuned` does for one lane of its quad. -/
def startWaiting (tuned : Nat) (s : State) (l : Nat) : State :=
  if (s.lane l).train = .pll ∧ pllGroup (s.lane l).cfg.rate = tuned then startLane l s else s

theorem lane_startWaiting (tuned : Nat) (s : State) (l j : Nat) (h : (s.lane j).train ≠ .pll) :
    (startWaiting tuned s l).lane j = s.lane j := by
  unfold startWaiting
  split
  case isTrue waits => exact lane_startLane_ne l s j fun e => h (e ▸ waits.1)
  case isFalse => rfl
theorem pll_startWaiting (tuned : Nat) (s : State) (l q p : Nat) : (startWaiting tuned s l).pll q p = s.pll q p := by
  unfold startWaiting
  split <;> simp

/-- The lanes that begin with a PLL leave the PLLs, and every lane that waits for none, as they were. -/
theorem foldl_startWaiting (tuned : Nat) (ls : List Nat) (s : State) :
    (∀ q p, (ls.foldl (startWaiting tuned) s).pll q p = s.pll q p) ∧
      ∀ j, (s.lane j).train ≠ .pll → (ls.foldl (startWaiting tuned) s).lane j = s.lane j := by
  induction ls generalizing s with
  | nil => exact ⟨fun _ _ => rfl, fun _ _ => rfl⟩
  | cons l ls ih =>
    obtain ⟨plls, lanes⟩ := ih (startWaiting tuned s l)
    refine ⟨fun q p => (plls q p).trans (pll_startWaiting ..), fun j h => ?_⟩
    have kept := lane_startWaiting tuned s l j h
    exact (lanes j (kept ▸ h)).trans kept

/-- PLL_LOCK of powered PLL `i` that was out of lock, `i` its number in the quad. -/
theorem exec_pllLock {q : Fin 24} {p : Pll} {i : Nat} {s : State} (t : Nat) (number : i = match p with | .a => 0 | .b => 1)
    (powered : (s.pll q i).powered = true) (unlocked : (s.pll q i).locked = false) :
    exec (.pllLock q p t) s = .next (((List.range 4).map (4 * q.val + ·)).foldl (startWaiting (s.pll q i).tuned)
      (modPll q i (fun x => { x with locked := true }) (advTo t s))) := by
  show execPllLock q p t s = _
  cases p <;> subst number <;> simp [execPllLock, powered, unlocked] <;> rfl

/-- After PLL_LOCK the PLL is locked, and lanes that did not wait for a PLL are as they were. -/
theorem pllLock_locks {q : Fin 24} {p : Pll} {i : Nat} {s : State} (t : Nat) (number : i = match p with | .a => 0 | .b => 1)
    (powered : (s.pll q i).powered = true) (unlocked : (s.pll q i).locked = false) :
    ∃ u, exec (.pllLock q p t) s = .next u ∧ (u.pll q i).locked = true ∧
      ∀ l, (s.lane l).train ≠ .pll → u.lane l = s.lane l := by
  refine ⟨_, exec_pllLock t number powered unlocked, ?_, fun l h => ?_⟩
  · rw [(foldl_startWaiting ..).1]
    simp
  · exact ((foldl_startWaiting ..).2 l (by simpa using h)).trans (by simp)

/-! ### Training frames (R35 to R40) -/

/-- A lane whose training frames are looked at: it trains, and no ROLE mismatch has stopped it. -/
def Lane.Trains (v : Lane) : Prop := (v.train = .cdr ∨ v.train = .eq ∨ v.train = .tend) ∧ v.mismatch = false

/-- A frame without its marker or with a CHK that fails ends every run of frames and is counted (R36). -/
theorem exec_trainingFrame_bad {l : LaneId} {x : TrainFrame} {s : State} (t : Nat) (trains : (s.lane l).Trains)
    (bad : x.marker = .missing ∨ chkOk x.control.toNat = false ∨ chkOk x.status.toNat = false) :
    exec (.trainingFrameReceived l x t) s = .next (countLane l .trainChk
      (modLane l (fun v => { v with validRun := 0, readyRun := 0, roleRun := 0 }) (advTo t s))) := by
  show execTrainingFrameReceived l x t s = _
  simp [execTrainingFrameReceived, trains.1, trains.2, bad]
/-- Every other frame is taken in. -/
theorem exec_trainingFrame_valid {l : LaneId} {x : TrainFrame} {s : State} (t : Nat) (trains : (s.lane l).Trains)
    (marker : x.marker ≠ .missing) (control : chkOk x.control.toNat = true) (status : chkOk x.status.toNat = true) :
    exec (.trainingFrameReceived l x t) s = .next (acceptFrame l x (advTo t s)) := by
  show execTrainingFrameReceived l x t s = _
  simp [execTrainingFrameReceived, trains.1, trains.2, marker, control, status]

/-- A valid frame in TRAIN_CDR from a far end of a fitting ROLE: the eighth in a row enters TRAIN_EQ (R40). -/
theorem lane_acceptFrame_cdr {l : Nat} {x : TrainFrame} {s : State} (cdr : (s.lane l).train = .cdr)
    (pairs : rolesPair (roleOf (s.lane l).cfg.mode) (bits x.status.toNat 14 2) = true) :
    ((acceptFrame l x s).lane l).validRun = (s.lane l).validRun + 1 ∧
      ((acceptFrame l x s).lane l).rxInverted = (x.marker == .inverted) ∧
      ((acceptFrame l x s).lane l).rx = readFields x.control.toNat x.status.toNat ∧
      ((acceptFrame l x s).lane l).train = if 8 ≤ (s.lane l).validRun + 1 then .eq else .cdr := by
  have role : rolesPair (roleOf (s.lane l).cfg.mode) (readFields x.control.toNat x.status.toNat).role = true := pairs
  unfold acceptFrame
  by_cases eighth : 8 ≤ (s.lane l).validRun + 1 <;> simp [role, cdr, eighth]

/-! ### Transmit coefficients (R33, R38) -/

/-- A change of PRE asked for while its status reads not updated. -/
theorem exec_coefficientUpdate_pre {l : LaneId} {s : State} (t : Nat) (eq : (s.lane l).train = .eq)
    (noPreset : (s.lane l).rx.presetReq = false) (asked : (s.lane l).rx.preReq ≠ 0) (ready : (s.lane l).tx.preSts = 0) :
    exec (.coefficientUpdate l .pre t) s = .next (modLane l (fun v =>
      { v with preTap := (tapStep (s.lane l).rx.preReq (s.lane l).preTap 16).1
               tx := { v.tx with preSts := (tapStep (s.lane l).rx.preReq (s.lane l).preTap 16).2 } }) (advTo t s)) := by
  show execCoefficientUpdate l .pre t s = _
  simp [execCoefficientUpdate, eq, noPreset, asked, ready]
/-- A change of POST asked for while its status reads not updated. -/
theorem exec_coefficientUpdate_post {l : LaneId} {s : State} (t : Nat) (eq : (s.lane l).train = .eq)
    (noPreset : (s.lane l).rx.presetReq = false) (asked : (s.lane l).rx.postReq ≠ 0) (ready : (s.lane l).tx.postSts = 0) :
    exec (.coefficientUpdate l .post t) s = .next (modLane l (fun v =>
      { v with postTap := (tapStep (s.lane l).rx.postReq (s.lane l).postTap 24).1
               tx := { v.tx with postSts := (tapStep (s.lane l).rx.postReq (s.lane l).postTap 24).2 } }) (advTo t s)) := by
  show execCoefficientUpdate l .post t s = _
  simp [execCoefficientUpdate, eq, noPreset, asked, ready]
/-- A preset asked for and not yet acknowledged. -/
theorem exec_coefficientUpdate_preset {l : LaneId} {s : State} (t : Nat) (eq : (s.lane l).train = .eq)
    (asked : (s.lane l).rx.presetReq = true) (ready : (s.lane l).tx.presetAck = false) :
    exec (.coefficientUpdate l .preset t) s = .next (modLane l (fun v =>
      { v with preTap := (presetTaps (s.lane l).rx.presetVal).1, postTap := (presetTaps (s.lane l).rx.presetVal).2
               tx := { v.tx with presetAck := true } }) (advTo t s)) := by
  show execCoefficientUpdate l .preset t s = _
  simp [execCoefficientUpdate, eq, asked, ready]
/-- A tap below its limit that is to rise, and one at it. -/
theorem tapStep_raise (cur lim : Nat) : tapStep 1 cur lim = if cur < lim then (cur + 1, 1) else (cur, 2) := rfl
/-- A tap that is to fall: at 0 it stays. -/
theorem tapStep_lower (cur lim : Nat) : tapStep 2 cur lim = (cur - 1, if 0 < cur then 1 else 2) := by
  unfold tapStep
  by_cases positive : 0 < cur
  · simp [positive]
  · simp [Nat.eq_zero_of_not_pos positive]

/-! ### The ends of training (R40, R41, R63) -/

/-- RX_READY with an eye of at least 30 mV. -/
theorem exec_rxReady {l : LaneId} {e : Nat} {s : State} (t : Nat) (eq : (s.lane l).train = .eq)
    (paired : (s.lane l).mismatch = false) (wide : 30 ≤ e) :
    exec (.rxReady l e t) s = .next (modLane l (fun v =>
      { v with train := .tend, eye := e
               tx := { v.tx with rxReady := true, preReq := 0, postReq := 0, presetReq := false } }) (advTo t s)) := by
  show execRxReady l e t s = _
  simp [execRxReady, eq, paired, wide]
/-- TRAIN_END_DONE after 8 frames with the far RX_READY. -/
theorem exec_trainEndDone {l : LaneId} {s : State} (t : Nat) (tend : (s.lane l).train = .tend)
    (paired : (s.lane l).mismatch = false) (ready : 8 ≤ (s.lane l).readyRun) :
    exec (.trainEndDone l t) s = .next (enterData l (advTo t s)) := by
  show execTrainEndDone l t s = _
  simp [execTrainEndDone, tend, paired, ready]
/-- The lane gives up training: the failure is counted and reported, and the transmitter falls idle. -/
def failTraining (l : Nat) (s : State) : State :=
  raise 0x0103 sevE l 0 0 (s.laneTo l) (countLane l .trainFail (emit (.laneIdle l)
    (modLane l (fun v => { v with train := .fail, failAt := s.now, fastAt := none }) s)))
@[simp] theorem lane_failTraining (l : Nat) (s : State) :
    (failTraining l s).lane l =
      { s.lane l with
        train := .fail, failAt := s.now, fastAt := none, counts := count (s.lane l).counts LaneCnt.trainFail.ctorIdx } := by
  simp [failTraining]
@[simp] theorem now_failTraining (l : Nat) (s : State) : (failTraining l s).now = s.now := by
  simp [failTraining]
/-- TRAINING_TIMER_EXPIRY of a lane that trains. -/
theorem exec_trainingTimerExpiry {l : LaneId} {s : State} (trains : (s.lane l).Trains) :
    exec (.trainingTimerExpiry l) s = .next (failTraining l (advTo ((s.lane l).timerAt + 45000000) s)) :=
  congrArg Host.Outcome.next (if_pos trains)
/-- TRAIN_FAIL_RETRY. -/
theorem exec_trainFailRetry {l : LaneId} {s : State} (fail : (s.lane l).train = .fail) :
    exec (.trainFailRetry l) s = .next (enterCdr false l (advTo ((s.lane l).failAt + 10000000) s)) :=
  congrArg Host.Outcome.next (if_pos fail)
/-- LOCK_TIMEOUT of an Abaend lane in DATA out of lock. -/
theorem exec_lockTimeout {l : LaneId} {s : State} (data : (s.lane l).train = .data)
    (abaend : (s.lane l).cfg.mode.abaend = true) (unlocked : (s.link l).locked = false) :
    exec (.lockTimeout l) s = .next (retrain l (advTo ((s.lane l).dataAt + 100000) s)) :=
  congrArg Host.Outcome.next (if_pos ⟨data, abaend, unlocked⟩)

/-- Settles O1, event by event: the rule of the event, then what it leaves in the lane's record. -/
theorem laneTrainingEventsAct : Obligations.LaneTrainingEventsAct := by
  unfold Obligations.LaneTrainingEventsAct
  refine ⟨?pllLock, ?badFrame, ?validFrame, ?pre, ?post, ?preset, ?rxReady, ?trainEnd, ?timer, ?retry, ?lockTimeout⟩
  case pllLock =>
    intro q p t s powered unlocked
    exact pllLock_locks t rfl powered unlocked
  case badFrame =>
    intro l x t s trains paired bad
    exact ⟨_, exec_trainingFrame_bad t ⟨trains, paired⟩ bad, by simp⟩
  case validFrame =>
    intro l x t s cdr paired marker control status pairs
    refine ⟨_, exec_trainingFrame_valid t ⟨.inl cdr, paired⟩ marker control status, ?_⟩
    simpa using lane_acceptFrame_cdr (s := advTo t s) (by simpa using cdr) (by simpa using pairs)
  case pre =>
    intro l t s eq noPreset raises ready
    refine ⟨_, exec_coefficientUpdate_pre t eq noPreset (by simp [raises]) ready, ?_⟩
    by_cases below : (s.lane l).preTap < 16 <;> simp [raises, tapStep_raise, below]
  case post =>
    intro l t s eq noPreset lowers ready
    exact ⟨_, exec_coefficientUpdate_post t eq noPreset (by simp [lowers]) ready, by simp [lowers, tapStep_lower]⟩
  case preset =>
    intro l t s eq asked ready
    exact ⟨_, exec_coefficientUpdate_preset t eq asked ready, by simp⟩
  case rxReady =>
    intro l e t s eq paired wide
    exact ⟨_, exec_rxReady t eq paired wide, by simp⟩
  case trainEnd =>
    intro l t s tend paired ready
    exact ⟨_, exec_trainEndDone t tend paired ready, by simp [enterData_lane]⟩
  case timer =>
    intro l s trains paired
    exact ⟨_, exec_trainingTimerExpiry ⟨trains, paired⟩, by simp [Nat.le_max_right]⟩
  case retry =>
    intro l s fail
    exact ⟨_, exec_trainFailRetry fail, by simp [Lane.inCdr, Nat.le_max_right]⟩
  case lockTimeout =>
    intro l s data abaend unlocked
    exact ⟨_, exec_lockTimeout data abaend unlocked, by simp [Lane.inCdr, Nat.le_max_right]⟩

end Sys2Proof.Machine
end

section
/-! The receiver's monitors, signal loss and the power states of a lane (R40 to R54): what each event does where its guard
is open. -/
namespace Sys2Proof.Machine

/-! ### Adaptation and the eye (R43 to R49) -/

/-- IDLE_FREEZE of an Abaend lane in DATA that adapts. -/
theorem exec_idleFreeze {l : LaneId} {s : State} (e t : Nat) (data : (s.lane l).train = .data)
    (abaend : (s.lane l).cfg.mode.abaend = true) (adapts : (s.lane l).frozen = false) (settled : (s.lane l).drifting = false) :
    exec (.idleFreeze l e t) s =
      .next (modLane l (fun v => { v with frozen := true, hFreeze := e, eye := e }) (advTo t s)) := by
  show execIdleFreeze l e t s = _
  simp [execIdleFreeze, data, abaend, adapts, settled]
/-- ADAPTATION_RESUME of a frozen lane. -/
theorem exec_adaptationResume {l : LaneId} {s : State} (t : Nat) (frozen : (s.lane l).frozen = true) :
    exec (.adaptationResume l t) s = .next (modLane l (fun v => { v with frozen := false }) (advTo t s)) := by
  show execAdaptationResume l t s = _
  simp [execAdaptationResume, frozen]

/-- The measurement of EYE_WINDOW: kept, and counted and reported where it is below EYE_FLOOR (R49). -/
def takeEye (l e : Nat) (s : State) : State :=
  let low := decide (e < (s.lane l).cfg.eyeFloor)
  let s1 := modLane l (fun v => { v with eye := e, lastLow := low }) s
  let s2 := if low then honey (hoLane l 0x48) (countLane l .eyeLow s1) else s1
  if low && !(s.lane l).lastLow then raise 0x0106 sevW l e 0 (s.laneTo l) s2 else s2
theorem lane_takeEye (l e : Nat) (s : State) :
    (takeEye l e s).lane l = { s.lane l with
      eye := e, lastLow := decide (e < (s.lane l).cfg.eyeFloor)
      counts := if e < (s.lane l).cfg.eyeFloor then count (s.lane l).counts LaneCnt.eyeLow.ctorIdx else (s.lane l).counts } := by
  unfold takeEye
  by_cases low : e < (s.lane l).cfg.eyeFloor <;> by_cases was : (s.lane l).lastLow <;> simp [low, was]
/-- EYE_WINDOW of a lane whose receiver runs: a frozen one is also judged against H_freeze (R45). -/
theorem exec_eyeWindow {l : LaneId} {s : State} (e t : Nat) (on : (s.lane l).cfg.mode ≠ .off)
    (active : (s.lane l).power = .active) :
    exec (.eyeWindow l e t) s =
      .next (if (s.lane l).frozen && decide (100 * e < 60 * (s.lane l).hFreeze) then laneDrift l e (takeEye l e (advTo t s))
        else takeEye l e (advTo t s)) := by
  show execEyeWindow l e t s = _
  simp [execEyeWindow, takeEye, on, active]
/-- The drift of a frozen eye unfreezes the receiver and is counted (R45). -/
@[simp] theorem lane_laneDrift (l e : Nat) (s : State) :
    (laneDrift l e s).lane l = { s.lane l with
      frozen := false, drifting := true, counts := count (s.lane l).counts LaneCnt.driftUnfreeze.ctorIdx } := by
  simp [laneDrift]
/-- DRIFT_ADAPT_END of a drifting lane: frozen again where the last frame's content is idle. -/
theorem exec_driftAdaptEnd {l : LaneId} {s : State} (e t : Nat) (drifting : (s.lane l).drifting = true) :
    exec (.driftAdaptEnd l e t) s = .next (modLane l (fun v =>
      { v with drifting := false, hFreeze := e, eye := e, frozen := (((s.link l).content).map idleContent).getD false })
      (advTo t s)) := by
  show execDriftAdaptEnd l e t s = _
  cases content : (s.link l).content <;> simp [execDriftAdaptEnd, drifting, content]

/-! ### Signal loss (R40, R47, R48) -/

/-- LOS_ASSERT of a lane whose receiver runs: counted once. -/
theorem lane_losDetected {l : Nat} {s : State} (signal : (s.lane l).los = false) (on : (s.lane l).cfg.mode ≠ .off)
    (outside : (s.lane l).cfg.mode ≠ .loop) (active : (s.lane l).power = .active) :
    (losDetected l s).lane l = { s.lane l with
      los := true, losAt := s.now, counts := count (s.lane l).counts LaneCnt.los.ctorIdx } := by
  unfold losDetected
  by_cases camera : (s.lane l).cfg.mode = .ethCam <;> simp [signal, on, outside, active, camera]
/-- LOS_DEASSERT: a lane in SLEEP wakes (R54). -/
theorem exec_losDeassert {l : LaneId} {s : State} (t : Nat) (los : (s.lane l).los = true) :
    exec (.losDeassert l t) s =
      .next (if (s.lane l).power = .sleep then wakeSleeping l (modLane l (fun v => { v with los := false }) (advTo t s))
        else modLane l (fun v => { v with los := false }) (advTo t s)) := by
  show execLosDeassert l t s = _
  simp [execLosDeassert, los]
/-- LOS_RETRAIN after more than 2 µs of LOS in DATA. -/
theorem exec_losRetrain {l : LaneId} {t : Nat} {s : State} (data : (s.lane l).train = .data)
    (abaend : (s.lane l).cfg.mode.abaend = true) (los : (s.lane l).los = true) (long : (s.lane l).losAt + 2000 < max s.now t) :
    exec (.losRetrain l t) s = .next (retrain l (advTo t s)) := by
  show execLosRetrain l t s = _
  simp only [execLosRetrain, advTo_units, now_advTo, data, abaend, los, long, and_self, if_true]
/-- LOL_ASSERT of an Abaend lane in DATA with signal: counted, reported, a fault of the lane, and training starts anew. -/
theorem exec_lolAssert {l : LaneId} {s : State} (t : Nat) (locked : (s.lane l).lol = false)
    (abaend : (s.lane l).cfg.mode.abaend = true) (active : (s.lane l).power = .active) (data : (s.lane l).train = .data)
    (signal : (s.lane l).los = false) :
    exec (.lolAssert l t) s = .next (retrain l (laneFault l (raise 0x0102 sevE l 0 0 (s.laneTo l)
      (honey (hoLane l 4) (countLane l .lol (modLane l (fun v => { v with lol := true }) (advTo t s))))))) := by
  have on : (s.lane l).cfg.mode ≠ .off := fun e => by simp [e, LaneMode.abaend] at abaend
  have outside : (s.lane l).cfg.mode ≠ .loop := fun e => by simp [e, LaneMode.abaend] at abaend
  show execLolAssert l t s = _
  simp [execLolAssert, locked, abaend, active, data, signal, on, outside]

/-! ### Power states (R52 to R54) -/

@[simp] theorem bondOf_advTo (t l : Nat) (s : State) : (advTo t s).bondOf l = s.bondOf l := by
  simp [State.bondOf]
/-- FAST_RESUME_TIMEOUT of a lane still out of DATA: the resume is given up and counted, and training goes on. -/
theorem exec_fastResumeTimeout {l : LaneId} {a : Nat} {s : State} (resumes : (s.lane l).fastAt = some a)
    (trains : (s.lane l).train ≠ .data) :
    exec (.fastResumeTimeout l) s = .next (countLane l .fastResumeFail (modLane l (fun v =>
      { v with fastAt := none, preTap := (presetTaps (s.lane l).cfg.preset).1, postTap := (presetTaps (s.lane l).cfg.preset).2 })
      (advTo (a + 300000) s))) := by
  show execFastResumeTimeout l s = _
  simp [execFastResumeTimeout, resumes, trains]

/-- Settles O2, event by event: the rule of the event, then what it leaves in the lane's record. -/
theorem laneSignalEventsAct : Obligations.LaneSignalEventsAct := by
  unfold Obligations.LaneSignalEventsAct
  refine ⟨?freeze, ?resume, ?eye, ?drift, ?driftEnd, ?los, ?signal, ?wake, ?losRetrain, ?lol, ?dozeWake, ?dozeResume, ?fastResume⟩
  case freeze =>
    intro l e t s data abaend adapts settled
    exact ⟨_, exec_idleFreeze e t data abaend adapts settled, by simp⟩
  case resume =>
    intro l t s frozen
    exact ⟨_, exec_adaptationResume t frozen, by simp⟩
  case eye =>
    intro l e t s on active adapts
    refine ⟨_, exec_eyeWindow e t on active, ?_⟩
    simp [adapts, lane_takeEye]
  case drift =>
    intro l e t s on active frozen enough fell
    refine ⟨_, exec_eyeWindow e t on active, ?_⟩
    simp [frozen, fell, lane_takeEye, Nat.not_lt.mpr enough]
  case driftEnd =>
    intro l e t s drifting
    exact ⟨_, exec_driftAdaptEnd e t drifting, by simp⟩
  case los =>
    intro l t s signal on outside active
    refine ⟨losDetected l (advTo t s), rfl, ?_⟩
    rw [lane_losDetected] <;> simp [signal, on, outside, active]
  case signal =>
    intro l t s los awake
    exact ⟨_, exec_losDeassert t los, by simp [awake]⟩
  case wake =>
    intro l t s los sleeps abaend
    exact ⟨_, exec_losDeassert t los, by simp [sleeps, wakeSleeping, abaend, Lane.inCdr]⟩
  case losRetrain =>
    intro l t s data abaend los long
    exact ⟨_, exec_losRetrain data abaend los long, by simp [Lane.inCdr]⟩
  case lol =>
    intro l t s locked abaend active data signal
    exact ⟨_, exec_lolAssert t locked abaend active data signal, by simp [Lane.inCdr]⟩
  case dozeWake =>
    intro l t s dozes stays
    show execDozeSelfWake l t s = _
    simp [execDozeSelfWake, dozes, stays]
  case dozeResume =>
    intro l t s dozes resumes
    show execDozeResumeDone l t s = _
    simp [execDozeResumeDone, dozes, resumes]
  case fastResume =>
    intro l a s resumes trains
    exact ⟨_, exec_fastResumeTimeout resumes trains, by simp [Nat.le_max_right]⟩

end Sys2Proof.Machine
end

section
/-! Bonds, lane power exchanges and the time exchange (R52, R81 to R89). -/
namespace Sys2Proof.Machine

/-! ### Reads that the clock does not touch -/

/-- Hive time in 2^-8 ns moves no lane and no link. -/
@[simp] theorem lane_advTo256 (t : Nat) (s : State) (i : Nat) : (advTo256 t s).lane i = s.lane i := by
  unfold advTo256
  split <;> rfl
@[simp] theorem link_advTo256 (t : Nat) (s : State) (i : Nat) : (advTo256 t s).link i = s.link i := by
  unfold advTo256
  split <;> rfl
@[simp] theorem inData_advTo256 (t l : Nat) (s : State) : (advTo256 t s).inData l = s.inData l := by
  simp [State.inData]
@[simp] theorem head_advTo256 (t l : Nat) (s : State) : (advTo256 t s).head l = s.head l := by
  simp [State.head]
@[simp] theorem asleep_advTo256 (t l : Nat) (s : State) : (advTo256 t s).asleep l = s.asleep l := by
  simp [State.asleep]

/-! ### Links -/

@[simp] theorem link_sendBlock (l : Nat) (b : List Byte) (s : State) (i : Nat) : (sendBlock l b s).link i = s.link i := by
  simp [sendBlock]
@[simp] theorem clock_sendBlock (l : Nat) (b : List Byte) (s : State) : (sendBlock l b s).clock = s.clock := by
  simp [sendBlock]
@[simp] theorem link_modTimeEx (l : Nat) (g : TimeEx → TimeEx) (s : State) :
    (modTimeEx l g s).link l = { s.link l with time := g (s.link l).time } := by
  simp [modTimeEx]
@[simp] theorem clock_modTimeEx (l : Nat) (g : TimeEx → TimeEx) (s : State) : (modTimeEx l g s).clock = s.clock := by
  simp [modTimeEx]

/-! ### Bonds (R84 to R89) -/

/-- A MARK beyond 32 blocks of skew leaves its lane outside the bond, counted and reported (R85). -/
theorem alignMark_skewed {l bfc k : Nat} {s : State} (bonded : s.bonded l = true) (carries : s.carries l = true) (far : 32 < k) :
    alignMark l bfc k s = raise 0x0109 sevW l k 0 (s.laneTo l) (countLink (s.head l) .bondSkew
      (modLink (s.head l) (fun v => { v with deskewed := clearBit v.deskewed (l - s.head l) }) s)) := by
  simp [alignMark, bonded, carries, far]
/-- The time of its deskew is no deskew. -/
theorem deskewed_modLink_alignAt (l h n : Nat) (s : State) :
    ((modLink l (fun k => { k with alignAt := n }) s).link h).deskewed = (s.link h).deskewed := by
  by_cases same : h = l
  · subst same
    simp
  · rw [link_modLink_ne _ _ _ _ same]
/-- A MARK within 32 blocks deskews its lane; while the link is up nothing else begins (R85). -/
theorem deskewed_alignMark {l bfc k : Nat} {s : State} (bonded : s.bonded l = true) (carries : s.carries l = true)
    (near : k ≤ 32) (up : s.linkUp (s.head l) = true) :
    ((alignMark l bfc k s).link (s.head l)).deskewed = setBit (s.link (s.head l)).deskewed (l - s.head l) := by
  unfold alignMark
  cases new : bit (s.link (s.head l)).deskewed (l - s.head l) <;>
    simp [bonded, carries, up, new, Nat.not_lt.mpr near, deskewed_modLink_alignAt]

/-! ### Power exchanges (R52, R83) -/

/-- A request for DOZE that no answer was given to before: NAK where a policy or waiting packets forbid it, else ACK and
the bond enters DOZE. -/
theorem answerPower_doze {h q : Nat} {s : State} (first : (s.link h).lmsgDone = none) :
    answerPower h 1 q s =
      if (s.lane h).cfg.powerLock || (s.link h).creditWaits || (s.link h).sendingDegrade then
        sendLmsg h 4 q (modLink h (fun k => { k with lmsgDone := some (q, 4) }) s)
      else enterPower .doze h (sendLmsg h 3 q (modLink h (fun k => { k with lmsgDone := some (q, 3) }) s)) := by
  simp only [answerPower, first, answerPower.fresh]
  cases (s.lane h).cfg.powerLock || (s.link h).creditWaits || (s.link h).sendingDegrade <;> simp [askedState]
/-- DOZE_REQ to a lane in DATA is answered. -/
theorem exec_dozeRequest {l : LaneId} {s : State} (q t : Nat) (data : s.inData (s.head l) = true) :
    exec (.lmsgReceived l 1 q t) s = .next (answerPower (s.head l) 1 q (advTo t s)) := by
  show execLmsgReceived l 1 q t s = _
  simp [execLmsgReceived, lmsgReceived, data]

/-! ### The time exchange (R81, R82) -/

/-- TIME_SYNC_SEND: whatever reports go out after it, the SYNC has begun an exchange. -/
theorem timeSyncSend_begins {l : LaneId} {s : State} (t : Nat) (data : s.inData l = true)
    (outside : (s.lane l).cfg.mode ≠ .loop) (awake : s.asleep (s.head l) = false) :
    ∃ u, exec (.timeSyncSend l t) s = .next u ∧ (u.link l).time.exch = ((s.link l).time.exch + 1) % 64 ∧
      (u.link l).time.depart = some (u.clock.t16 / 256) ∧ (u.link l).time.arrivedFar = none := by
  refine ⟨_, rfl, ?_⟩
  cases arrived : (s.link l).time.arrived <;> simp [data, outside, awake, arrived]
/-- The first part of a far exchange: its arrival is kept, and the far report of its departure is still to come. -/
theorem exec_timeBlock_sync {l : LaneId} {x p t : Nat} {v z : Bool} {s : State} (data : s.inData l = true)
    (locked : (s.link l).locked = true) :
    exec (.timeBlockReceived l 0 x v z p t) s = .next (modTimeEx l (fun y =>
      { y with farExch := x % 64, arrived := some t, departFar := none, farValid := v, farSource := z }) (advTo256 t s)) := by
  show execTimeBlockReceived l 0 x v z p t s = _
  simp [execTimeBlockReceived, timeBlockIn, data, locked]
/-- An own exchange without an answer is given up and counted; nothing of a far one was there to judge. -/
theorem exec_timeExchangeMissed {l : LaneId} {d : Nat} {s : State} (data : s.inData l = true)
    (departed : (s.link l).time.depart = some d) (silent : (s.link l).time.arrived = none) :
    exec (.timeExchangeMissed l) s = .next (modTimeEx l (fun x =>
      { x with depart := none, arrivedFar := none, departFar := none, arrived := none, misses := x.misses + 1 })
      (countLink l .timeMiss s)) := by
  show execTimeExchangeMissed l s = _
  simp [execTimeExchangeMissed, data, departed, silent]

/-- Settles O6, event by event. -/
theorem bondPowerAndTimeEventsAct : Obligations.BondPowerAndTimeEventsAct := by
  unfold Obligations.BondPowerAndTimeEventsAct
  refine ⟨?markSend, ?skewed, ?deskewed, ?degrade, ?farDegrade, ?restripe, ?restore, ?farRestore, ?nak, ?ack, ?timeout,
    ?syncSend, ?syncReceived, ?missed⟩
  case markSend =>
    intro l t s lowest bonded data
    show execAlignMarkSend l t s = _
    simp [execAlignMarkSend, lowest, bonded, data]
  case skewed =>
    intro l c k t s bonded carries far
    refine ⟨alignMark l c.toNat k (advTo t s), rfl, ?_⟩
    rw [alignMark_skewed (by simpa using bonded) (by simpa using carries) far]
    simp [link_countLink]
  case deskewed =>
    intro l c k t s bonded carries near up
    refine ⟨alignMark l c.toNat k (advTo t s), rfl, ?_⟩
    simpa using deskewed_alignMark (s := advTo t s) (by simpa using bonded) (by simpa using carries) near (by simpa using up)
  case degrade =>
    intro l t k s bonded lost inMask granted rest nonempty
    show execLinkDegrade l t s = _
    simp [execLinkDegrade, bonded, lost, inMask, granted, ← rest, nonempty]
  case farDegrade =>
    intro l m t s bonded data nonempty narrower
    show execAlignDegradeReceived l m t s = _
    simp [execAlignDegradeReceived, alignDegrade, bonded, data, nonempty, narrower]
  case restripe =>
    intro l m t s bonded data nonempty
    refine ⟨_, rfl, ?_⟩
    simp [alignRestripe, bonded, data, nonempty]
  case restore =>
    intro l t s bonded carries deskewed outside ms
    show execBondLaneRestore l t s = _
    simp only [execBondLaneRestore, bonded_advTo, carries_advTo, head_advTo, advTo_units, bonded, carries, deskewed, outside,
      ms, decide_true, Bool.not_false, Bool.and_self, if_true]
  case farRestore =>
    intro l m t s bonded data nonempty
    show execAlignRestoreReceived l m t s = _
    simp [execAlignRestoreReceived, alignRestore, bonded, data, nonempty]
  case nak =>
    intro l q t s data first lock
    rw [exec_dozeRequest q t data, answerPower_doze (by simpa using first)]
    simp [lock]
  case ack =>
    intro l q t s data first lock credit degrade
    rw [exec_dozeRequest q t data, answerPower_doze (by simpa using first)]
    simp [lock, credit, degrade]
  case timeout =>
    intro l a s asked
    show execPowerExchangeTimeout l s = _
    simp only [execPowerExchangeTimeout, asked]
  case syncSend =>
    intro l t s data outside awake
    exact timeSyncSend_begins t data outside awake
  case syncReceived =>
    intro l x p t v z s data locked
    exact ⟨_, exec_timeBlock_sync data locked, by simp⟩
  case missed =>
    intro l d s data departed silent
    exact ⟨_, exec_timeExchangeMissed data departed silent, by simp [link_countLink]⟩

end Sys2Proof.Machine
end

section
/-! The Ethernet camera ports (R42, R92 to R96, R110 to R112): what each event does where its guard is open. -/
namespace Sys2Proof.Machine

@[simp] theorem eth_countEth (l : Nat) (k : EthCnt) (s : State) :
    (countEth l k s).eth l = { s.eth l with counts := count (s.eth l).counts k.ctorIdx } := by
  simp [countEth]
@[simp] theorem out_countEth (l : Nat) (k : EthCnt) (s : State) : (countEth l k s).out = s.out := by
  simp [countEth]
@[simp] theorem out_sendPtp (l kind seq time : Nat) (data : List Nat) (s : State) :
    (sendPtp l kind seq time data s).out = s.out ++ [.ptp l kind seq time ((s.eth l).cfg.domain :: data)] := rfl
@[simp] theorem eth_sendPtp (l kind seq time : Nat) (data : List Nat) (s : State) (i : Nat) :
    (sendPtp l kind seq time data s).eth i = s.eth i := by
  simp [sendPtp]
@[simp] theorem now_sendPtp (l kind seq time : Nat) (data : List Nat) (s : State) :
    (sendPtp l kind seq time data s).now = s.now := by
  simp [sendPtp]
@[simp] theorem eth_sendEth (l : Nat) (f : List Byte) (s : State) (i : Nat) : (sendEth l f s).eth i = s.eth i := by
  simp [sendEth]

/-! ### Received frames (R42, R92 to R94) -/

/-- A codeword that FEC cannot correct is counted on the link and takes the frame with it. -/
theorem exec_ethFrame_uncorrected {l : LaneId} {s : State} (x : List Byte) (c : Bool) (t : Nat) (up : s.ethUp l = true) :
    exec (.ethFrameReceived l x c false t) s =
      .next (honeyN 64 (hoLane l 0x10) 1 (countLink l .uncorr (advTo t s))) := by
  show execEthFrameReceived l x c false t s = _
  simp [execEthFrameReceived, up]
/-- A frame of a wrong length or FCS is counted. -/
theorem exec_ethFrame_bad {l : LaneId} {x : List Byte} {c : Bool} {s : State} (t : Nat) (up : s.ethUp l = true)
    (bad : x.length < 64 ∨ 16128 < x.length ∨ c = false) :
    exec (.ethFrameReceived l x c true t) s = .next (countEth l .rxErr (advTo t s)) := by
  show execEthFrameReceived l x c true t s = _
  simp [execEthFrameReceived, up, bad]
/-- A whole untagged frame for this port, no flow control: one of the reserved EtherType 0x88A8 is dropped, any other goes
on (R94). -/
theorem exec_ethFrame_untagged {l : LaneId} {x : List Byte} {s : State} (t : Nat) (up : s.ethUp l = true)
    (long : 64 ≤ x.length) (short : x.length ≤ 16128)
    (mine : (s.eth l).cfg.takesMac (beAt (x.take (x.length - 4)) 0 6) = true)
    (noPause : beAt (x.take (x.length - 4)) 12 2 ≠ 0x8808) (untagged : beAt (x.take (x.length - 4)) 12 2 ≠ 0x8100) :
    exec (.ethFrameReceived l x true true t) s =
      .next (if beAt (x.take (x.length - 4)) 12 2 = 0x88A8 then countEth l .drop (advTo t s)
        else takeEthFrame l (x.take (x.length - 4)) (advTo t s)) := by
  show execEthFrameReceived l x true true t s = _
  simp [execEthFrameReceived, up, Nat.not_lt.mpr long, Nat.not_lt.mpr short, mine, noPause, untagged]
/-- ETH_LINK_UP of an active lane whose link was down. -/
theorem exec_ethLinkUp {l : LaneId} {s : State} (t : Nat) (camera : (s.lane l).cfg.mode = .ethCam)
    (active : (s.lane l).power = .active) (clocked : (s.lane l).train ≠ .pll) (down : (s.eth l).linkUp = false) :
    exec (.ethLinkUp l t) s = .next (faultOk ((advTo t s).laneClass l) l (some (advTo t s).now)
      (modLane l (fun v => { v with dataAt := (advTo t s).now }) (modEth l (fun e => { e with linkUp := true }) (advTo t s)))) := by
  show execEthLinkUp l t s = _
  simp [execEthLinkUp, camera, active, clocked, down]

/-! ### The keeper's answers (R96) -/

theorem length_leBytes (n v : Nat) : (leBytes n v).length = n := by
  induction n generalizing v with
  | zero => rfl
  | succ n ih => simp [leBytes, ih]
@[simp] theorem length_beBytes (n v : Nat) : (beBytes n v).length = n := by
  simp [beBytes, length_leBytes]
/-- An ARP reply is 18 bytes short of the least frame. -/
theorem length_arpReply (c : EthCfg) (mac ip : Nat) : (arpReply c mac ip).length = 42 := by
  simp [arpReply]

/-- The keeper answers the ARP request that waits first. -/
theorem exec_arpAnswer {l : LaneId} {a i : Nat} {r : List KeeperFrame} {s : State} (t : Nat) (up : s.ethUp l = true)
    (ready : s.sys.ready = true) (first : (s.eth l).answers = .arp a i :: r) :
    exec (.arpIcmpAnswer l t) s =
      .next (sendEth l (arpReply (s.eth l).cfg a i) (modEth l (fun e => { e with answers := r }) (advTo t s))) := by
  show execArpIcmpAnswer l t s = _
  simp [execArpIcmpAnswer, up, ready, first]
/-- Beyond 100 echoes in a second the request that waits first is dropped. -/
theorem exec_echoDrop {l : LaneId} {x : List Byte} {r : List KeeperFrame} {t : Nat} {s : State} (up : s.ethUp l = true)
    (ready : s.sys.ready = true) (first : (s.eth l).answers = .echo x :: r)
    (full : 100 ≤ (lastSecond (advTo t s).now (s.eth l).echoAt).length) :
    exec (.arpIcmpAnswer l t) s =
      .next (countEth l .drop (modEth l (fun e => { e with answers := r }) (advTo t s))) := by
  show execArpIcmpAnswer l t s = _
  simp only [execArpIcmpAnswer, ethUp_advTo, advTo_frame, advTo_units, up, ready, first, Nat.not_lt.mpr full]
  simp

/-! ### PTP (R110 to R112) -/

/-- A master's Sync and its Follow_Up. -/
theorem exec_ptpSync {l : LaneId} {s : State} (t : Nat) (up : s.ethUp l = true) (master : (s.eth l).cfg.slave = false) :
    exec (.ptpMessageSend l .sync t) s = .next (modEth l (fun e => { e with syncSeq := (e.syncSeq + 1) % 65536 })
      (sendPtp l 8 (s.eth l).syncSeq (advTo t s).now [] (sendPtp l 0 (s.eth l).syncSeq 0 [] (advTo t s)))) := by
  show execPtpMessageSend l .sync t s = _
  simp [execPtpMessageSend, up, master]
/-- A master's Announce. -/
theorem exec_ptpAnnounce {l : LaneId} {s : State} (t : Nat) (up : s.ethUp l = true) (master : (s.eth l).cfg.slave = false) :
    exec (.ptpMessageSend l .announce t) s =
      .next (modEth l (fun e => { e with announceSeq := (e.announceSeq + 1) % 65536 })
        (sendPtp l 11 (s.eth l).announceSeq 0
          [(s.eth l).cfg.priority1, (advTo t s).clockClass, (s.eth l).cfg.priority2] (advTo t s))) := by
  show execPtpMessageSend l .announce t s = _
  simp [execPtpMessageSend, up, master]
/-- A slave's Delay_Req to the master it follows. -/
theorem exec_ptpDelayReq {l : LaneId} {i : Nat} {s : State} (t : Nat) (up : s.ethUp l = true)
    (slave : (s.eth l).cfg.slave = true) (follows : (s.eth l).selected = some i) :
    exec (.ptpMessageSend l .delayReq t) s = .next (modEth l (fun e =>
      { e with delaySeq := (e.delaySeq + 1) % 65536, delaySent := some (advTo t s).now })
      (sendPtp l 1 (s.eth l).delaySeq 0 [] (advTo t s))) := by
  show execPtpMessageSend l .delayReq t s = _
  simp [execPtpMessageSend, up, slave, follows]
/-- A Delay_Req at a master is answered, at most 64 in a second. -/
theorem exec_ptpDelayReq_received {l : LaneId} {s : State} (i q t : Nat) (up : s.ethUp l = true)
    (master : (s.eth l).cfg.slave = false) :
    exec (.ptpMessageReceived l (.delayReq i q) t) s =
      let near := lastSecond (advTo t s).now (s.eth l).delayAt
      .next (if near.length < 64 then
          sendPtp l 9 q (advTo t s).now [i] (modEth l (fun e => { e with delayAt := near ++ [(advTo t s).now] }) (advTo t s))
        else countEth l .ptpDrop (advTo t s)) := by
  show execPtpMessageReceived l (.delayReq i q) t s = _
  simp [execPtpMessageReceived, up, master]
/-- The Delay_Resp that a slave waits for gives the mean path delay. -/
theorem exec_ptpDelayResp {l : LaneId} {i a : Nat} {p : Nat × Nat} {s : State} (t r : Nat) (up : s.ethUp l = true)
    (slave : (s.eth l).cfg.slave = true) (sent : (s.eth l).delaySent = some a) (pair : (s.eth l).lastPair = some p)
    (follows : (s.eth l).selected = some i) :
    exec (.ptpMessageReceived l (.delayResp i r) t) s = .next (modEth l (fun e =>
      { e with delaySent := none, pathDelay := some (((p.2 : Int) - p.1 + ((r : Int) - a)) / 2) }) (advTo t s)) := by
  show execPtpMessageReceived l (.delayResp i r) t s = _
  simp [execPtpMessageReceived, slaveMessage, up, slave, sent, pair, follows]

/-- Settles O7, event by event: the rule of the event, then what it leaves in the port's record and sends. The frame check
sequence `fcs32` is the model's presumed reading (log entry 4). -/
theorem ethernetPortEventsAct : Obligations.EthernetPortEventsAct := by
  unfold Obligations.EthernetPortEventsAct
  refine ⟨?uncorrected, ?bad, ?reserved, ?untagged, ?linkUp, ?arp, ?echo, ?sync, ?announce, ?delayReq, ?answered, ?dropped,
    ?delayResp⟩
  case uncorrected =>
    intro l x c t s up
    exact ⟨_, exec_ethFrame_uncorrected x c t up, by simp [link_countLink]⟩
  case bad =>
    intro l x c t s up bad
    exact ⟨_, exec_ethFrame_bad t up bad, by simp⟩
  case reserved =>
    intro l x t s up long short mine reserved
    refine ⟨_, exec_ethFrame_untagged t up long short mine (by simp [reserved]) (by simp [reserved]), ?_⟩
    simp [reserved]
  case untagged =>
    intro l x t s up long short mine noPause plain untagged
    rw [exec_ethFrame_untagged t up long short mine noPause untagged, if_neg plain]
  case linkUp =>
    intro l t s camera active clocked down
    exact ⟨_, exec_ethLinkUp t camera active clocked down, by simp⟩
  case arp =>
    intro l t a i r s up ready first
    exact ⟨_, exec_arpAnswer t up ready first, by simp, by simp [sendEth, length_arpReply]⟩
  case echo =>
    intro l t x r s up ready first full
    exact ⟨_, exec_echoDrop up ready first full, by simp⟩
  case sync =>
    intro l t s up master
    exact ⟨_, exec_ptpSync t up master, by simp⟩
  case announce =>
    intro l t s up master
    exact ⟨_, exec_ptpAnnounce t up master, by simp⟩
  case delayReq =>
    intro l t i s up slave follows
    exact ⟨_, exec_ptpDelayReq t up slave follows, by simp⟩
  case answered =>
    intro l t i q s up master room
    refine ⟨_, exec_ptpDelayReq_received i q t up master, ?_⟩
    simp only [if_pos room]
    simp
  case dropped =>
    intro l t i q s up master full
    refine ⟨_, exec_ptpDelayReq_received i q t up master, ?_⟩
    simp only [if_neg (Nat.not_lt.mpr full)]
    simp
  case delayResp =>
    intro l t i r a p s up slave sent pair follows
    exact ⟨_, exec_ptpDelayResp t r up slave sent pair follows, by simp⟩

end Sys2Proof.Machine
end

section
/-! Frames, credits and packets on an Abaend link (R60 to R73): what each event does where its guard is open. -/
namespace Sys2Proof.Machine

/-! ### Hunting and lock (R61, R62) -/

/-- The mismatches of the last four hunt periods on lane `l`, the period `x` that ends now first. -/
def State.huntKept (s : State) (l : Nat) (x : List (Fin 4)) : List (List Nat) :=
  (huntMismatches (pam4 (s.lane l).cfg.rate) (s.lane l).rxInverted (pam4 (s.lane l).cfg.rate && (s.lane l).rx.precodeOn)
    (s.link l).lastSym x :: (s.link l).mis).take 4
/-- Hunt period `x` joins the periods kept. -/
def keepPeriod (l : Nat) (x : List (Fin 4)) (s : State) : State :=
  modLink l (fun k =>
    { k with mis := s.huntKept l x, periods := min 4 (k.periods + 1), lastSym := lastUpright (s.lane l).rxInverted x }) s
@[simp] theorem link_keepPeriod (l : Nat) (x : List (Fin 4)) (s : State) :
    (keepPeriod l x s).link l =
      { s.link l with
        mis := s.huntKept l x, periods := min 4 ((s.link l).periods + 1), lastSym := lastUpright (s.lane l).rxInverted x } := by
  simp [keepPeriod]
@[simp] theorem bonded_keepPeriod (l : Nat) (x : List (Fin 4)) (s : State) (i : Nat) :
    (keepPeriod l x s).bonded i = s.bonded i := by
  simp [keepPeriod]
@[simp] theorem huntKept_advTo (t l : Nat) (x : List (Fin 4)) (s : State) : (advTo t s).huntKept l x = s.huntKept l x := by
  simp [State.huntKept]

section
variable {l : LaneId} {x : List (Fin 4)} {s : State} (t : Nat) (data : s.inData l = true)
  (hunts : (s.link l).locked = false) (whole : x.length = frameSymbols (s.lane l).cfg.rate)
include data hunts whole

/-- Before the fourth period a hunt only keeps what it saw. -/
theorem exec_huntPeriod_early (early : (s.link l).periods + 1 < 4) :
    exec (.huntPeriod l x t) s = .next (keepPeriod l x (advTo t s)) := by
  show execHuntPeriod l x t s = _
  simp [execHuntPeriod, data, hunts, whole, Nat.not_le.mpr early, keepPeriod, State.huntKept]
/-- From the fourth period on, a best offset of at most 6 mismatches locks the lane. -/
theorem exec_huntPeriod_locks {best c : Nat} (enough : 4 ≤ (s.link l).periods + 1)
    (least : leastAt (huntSums (s.huntKept l x)) 0 = some (best, c)) (close : best ≤ 6) :
    exec (.huntPeriod l x t) s = .next (lockLane l c (keepPeriod l x (advTo t s))) := by
  unfold State.huntKept at least
  show execHuntPeriod l x t s = _
  simp only [execHuntPeriod, inData_advTo, advTo_units, data, hunts, whole, least, if_pos enough, if_pos close,
    beq_self_eq_true, Bool.not_false, Bool.and_self, if_true]
  simp only [keepPeriod, State.huntKept, advTo_units]
end

/-- A bonded lane that locks changes its own receiver alone; its link waits for the bond. -/
theorem link_lockLane_bonded {l c : Nat} {s : State} (bonded : s.bonded l = true) :
    (lockLane l c s).link l =
      { s.link l with locked := true, offset := c, mis := [], periods := 0, hdrRun := 0, uncorrRun := 0 } := by
  simp [lockLane, bonded]

/-! ### Frames (R60, R63) -/

/-- FEC_CORR_SYM_CNT counts in 48 bits, every other counter of a link in 32 (R90). -/
theorem link_countLinkN_corrSym (l n : Nat) (s : State) :
    (countLinkN l .corrSym n s).link l =
      { s.link l with counts := countN 48 (s.link l).counts LinkCnt.corrSym.ctorIdx n } := by
  simp [countLinkN]
theorem link_countLinkN_hdrErr (l n : Nat) (s : State) :
    (countLinkN l .hdrErr n s).link l =
      { s.link l with counts := countN 32 (s.link l).counts LinkCnt.hdrErr.ctorIdx n } := by
  simp [countLinkN]
@[simp] theorem lane_countLinkN (l : Nat) (k : LinkCnt) (n : Nat) (s : State) (i : Nat) :
    (countLinkN l k n s).lane i = s.lane i := by
  simp [countLinkN]
@[simp] theorem lane_countLink (l : Nat) (k : LinkCnt) (s : State) (i : Nat) : (countLink l k s).lane i = s.lane i := by
  simp [countLink]

/-- The counters of a link after a frame of headers `v` with `n` corrected symbols. -/
def frameCounts (v : List (Nat × Nat)) (n : Nat) (c : Counts) : Counts :=
  let bad := (v.filter fun b => b.1 == 0 || b.1 == 3).length
  let both := countN 32 (countN 48 c LinkCnt.corrSym.ctorIdx n) LinkCnt.hdrErr.ctorIdx bad
  if n = 0 then both else count both LinkCnt.corrFrame.ctorIdx
/-- The other counters of a frame leave FEC_CORR_SYM_CNT as the corrections made it. -/
theorem corrSym_frameCounts (v : List (Nat × Nat)) (n : Nat) (c : Counts) :
    cnt (frameCounts v n c) 0 = cnt (countN 48 c 0 n) 0 := by
  have header (bad : Nat) : cnt (countN 32 (countN 48 c 0 n) LinkCnt.hdrErr.ctorIdx bad) 0 = cnt (countN 48 c 0 n) 0 :=
    cnt_countN_ne _ _ _ _ _ (by decide)
  unfold frameCounts
  split
  · exact header _
  · exact (cnt_countN_ne _ _ _ _ _ (by decide)).trans (header _)

/-- A decoded frame of an active lane: its content is taken and its corrections are counted. -/
theorem link_takeFrame_active {l n : Nat} {v : List (Nat × Nat)} {s : State} (active : (s.lane l).power = .active) :
    (takeFrame l (some (v, n)) s).link l =
      { s.link l with content := some v, uncorrRun := 0, counts := frameCounts v n (s.link l).counts } := by
  by_cases clean : n = 0 <;> 
    simp [takeFrame, dozeFrame, active, clean, frameCounts, link_countLinkN_corrSym, link_countLinkN_hdrErr, link_countLink]

/-- A locked lane's frame with few false headers: the decoded content, and the end of every run of bad frames. -/
theorem fecFrame_decoded {l : LaneId} {x : List (Fin 4)} {n c : Nat} {v : List (Nat × Nat)} {s : State} (t : Nat)
    (data : s.inData l = true) (locked : (s.link l).locked = true) (whole : x.length = frameSymbols (s.lane l).cfg.rate)
    (decoded : decodeFrame (rxBits (pam4 (s.lane l).cfg.rate) (s.lane l).rxInverted
      (pam4 (s.lane l).cfg.rate && (s.lane l).rx.precodeOn) (s.link l).lastSym x) = (n, some (v, c)))
    (few : n ≤ 24) (active : (s.lane l).power = .active) :
    ∃ u, exec (.fecFrameReceived l x t) s = .next u ∧
      u.link l = { s.link l with
        lastSym := lastUpright (s.lane l).rxInverted x, hdrRun := 0, content := some v, uncorrRun := 0
        counts := frameCounts v c (s.link l).counts } := by
  refine ⟨takeFrame l (some (v, c)) (modLink l (fun k =>
    { k with lastSym := lastUpright (s.lane l).rxInverted x, hdrRun := 0 }) (advTo t s)), ?runs, ?left⟩
  case runs =>
    show execFecFrameReceived l x t s = _
    simp [execFecFrameReceived, data, locked, whole, decoded, Nat.not_lt.mpr few, link_takeFrame_active, active]
  case left =>
    rw [link_takeFrame_active (by simpa using active)]
    simp

/-! ### Credits (R70, R71) -/

/-- A CREDIT block of a lane in DATA sets the grant of its VC on the link. -/
theorem exec_creditBlock {l : LaneId} {s : State} (v : Fin 16) (g : BitVec 32) (data : s.inData l = true) :
    exec (.creditBlockReceived l v g) s =
      .next (modLink (s.head l) (fun k => { k with txGrant := k.txGrant.put v g.toNat }) s) :=
  congrArg Host.Outcome.next (if_pos data)
/-- CREDIT_REPEAT on a link that is up. -/
theorem exec_creditRepeat {l : LaneId} {s : State} (up : s.linkUp (s.head l) = true) (data : s.inData (s.head l) = true) :
    exec (.creditRepeat l) s = .next ((s.link (s.head l)).rxGrant.foldl
      (fun x e => if e.2 = 0 then x else sendCredit (s.head l) e.1 x) s) :=
  congrArg Host.Outcome.next (if_pos ⟨up, data⟩)
/-- No packet is free: its header alone costs a credit. -/
theorem creditCost_ne_zero (payload : Nat) : creditCost payload ≠ 0 := by
  unfold creditCost ceilDiv
  omega

/-! ### The transmitter (R53, R73) -/

@[simp] theorem link_sendPacket (h : Nat) (b : List Byte) (s : State) (i : Nat) : (sendPacket h b s).link i = s.link i := rfl
@[simp] theorem out_sendPacket (h : Nat) (b : List Byte) (s : State) :
    (sendPacket h b s).out = s.out ++ [.packet h (b ++ b32 (crc32c b))] := rfl

/-- The link once the credited packet `p` at place `i` has left: its credits are consumed, and CELL packets take turns. -/
def Link.afterCredited (k : Link) (i : Nat) (p : TxPacket) : Link :=
  { k with
    txq := k.txq.eraseIdx i
    txUsed := k.txUsed.put p.vc ((k.txUsed.getD p.vc 0 + creditCost (p.bytes.length - 16)) % 2 ^ 32)
    cellRr := if p.ptype = ptCell then (if p.vc = 15 then 4 else p.vc + 1) else k.cellRr }

section
variable {l : LaneId} {i : Nat} {p : TxPacket} {s : State} (up : s.linkUp (s.head l) = true)
  (data : s.inData (s.head l) = true) (chosen : (s.link (s.head l)).choose = some i)
  (waits : (s.link (s.head l)).txq[i]? = some p)
include up data chosen waits

/-- The chosen packet leaves an awake link. -/
theorem exec_packetTransmit_credited (awake : s.asleep (s.head l) = false) (whole : p.brood = none)
    (costs : credited p.ptype = true) :
    exec (.packetTransmit l) s =
      .next (sendPacket (s.head l) p.bytes (modLink (s.head l) (fun k => k.afterCredited i p) s)) := by
  show execPacketTransmit l s = _
  simp [execPacketTransmit, up, data, chosen, waits, awake, whole, costs, creditCost_ne_zero, Link.afterCredited]
/-- A packet for a link in DOZE wakes it and waits on. -/
theorem exec_packetTransmit_asleep (asleep : s.asleep (s.head l) = true) (stays : (s.lane (s.head l)).resuming = false) :
    exec (.packetTransmit l) s = .next (wakeDozing (s.head l) s) := by
  show execPacketTransmit l s = _
  simp [execPacketTransmit, up, data, chosen, waits, asleep, stays]
end

/-! ### The receiver (R64 to R67) -/

/-- A control block of a locked lane acts by its type. -/
theorem exec_controlBlock {l : LaneId} {s : State} (p : BitVec 64) (t : Nat) (data : s.inData l = true)
    (locked : (s.link l).locked = true) :
    exec (.controlBlockReceived l p t) s = .next (controlBlock l (leBytes 8 p.toNat) (256 * t) (advTo t s)) := by
  show execControlBlockReceived l p t s = _
  simp [execControlBlockReceived, data, locked]
/-- A packet on a link that is up and awake: a data block outside a packet is a framing error, any other packet is taken
in. -/
theorem exec_packetReceived {l : LaneId} {s : State} (p : RxPacket) (t : Nat) (data : s.inData (s.head l) = true)
    (up : s.linkUp (s.head l) = true) (awake : s.asleep (s.head l) = false) :
    exec (.packetReceived l p t) s = .next (if p.flaw = .outsideData then countLink (s.head l) .framingErr (advTo t s)
      else packetIn (s.head l) p (advTo t s)) := by
  show execPacketReceived l p t s = _
  simp [execPacketReceived, data, up, awake]

/-- Settles O4, event by event: the rule of the event, then what it leaves in the link's record and sends. -/
theorem frameAndCreditEventsAct : Obligations.FrameAndCreditEventsAct := by
  unfold Obligations.FrameAndCreditEventsAct
  refine ⟨?hunt, ?lock, ?frame, ?credit, ?creditRepeat, ?leaves, ?wakes, ?block, ?packet, ?outside⟩
  case hunt =>
    intro l x t s data hunts whole early
    exact ⟨_, exec_huntPeriod_early t data hunts whole early, by simp [hunts, State.huntKept]⟩
  case lock =>
    intro l x t best c s data hunts whole enough least close bonded
    exact ⟨_, exec_huntPeriod_locks t data hunts whole enough least close, by simp [link_lockLane_bonded, bonded]⟩
  case frame =>
    intro l x t n c v s data locked whole decoded few active _
    obtain ⟨u, runs, left⟩ := fecFrame_decoded t data locked whole decoded few active
    exact ⟨u, runs, by simp [left, locked, corrSym_frameCounts]⟩
  case credit =>
    intro l v g s data
    exact ⟨_, exec_creditBlock v g data, by simp⟩
  case creditRepeat =>
    intro l s up data
    exact exec_creditRepeat up data
  case leaves =>
    intro l i p s up data chosen waits awake whole costs
    exact ⟨_, exec_packetTransmit_credited up data chosen waits awake whole costs, by simp [Link.afterCredited]⟩
  case wakes =>
    intro l i p s up data chosen waits asleep stays
    exact exec_packetTransmit_asleep up data chosen waits asleep stays
  case block =>
    intro l p t s data locked
    exact exec_controlBlock p t data locked
  case packet =>
    intro l p t s data up awake inside
    rw [exec_packetReceived p t data up awake, if_neg inside]
  case outside =>
    intro l p t s data up awake outside
    refine ⟨_, exec_packetReceived p t data up awake, ?_⟩
    simp [outside, link_countLink]

end Sys2Proof.Machine
end

section
/-! The steps of a queue (R98, R302 to R320): what each does where its guard is open. -/
namespace Sys2Proof.Machine

/-! ### Reads that the clock does not touch -/

@[simp] theorem frontEntry_advTo (kind t : Nat) (s : State) (v : Queue) :
    frontEntry kind (advTo t s) v = frontEntry kind s v := by
  simp [frontEntry]
@[simp] theorem steerQueue_advTo (t c : Nat) (s : State) : (advTo t s).steerQueue c = s.steerQueue c := by
  simp [State.steerQueue]
@[simp] theorem recordLen_advTo (t : Nat) (x : Ctx) (s : State) : x.recordLen (advTo t s) = x.recordLen s := by
  simp [Ctx.recordLen, Ctx.chunkOn]

/-! ### Fetch, drain and notification (R302, R303, R307) -/

section
variable {q : QId} {v : Queue} {s : State} (found : s.queue q = some v)
include found

/-- An entry fetched that breaks its type stops the queue with reason 4. -/
theorem exec_descriptorFetch_broken (enabled : v.state = .enabled) (came : v.arrived.isEmpty = false)
    (judged : v.kind = qtCell ∨ v.kind = qtFrame ∨ v.kind = qtTunnelIn)
    (broken : v.arrived.all (fun e => descOk v e.2) = false) :
    exec (.descriptorFetchComplete q) s = .next (queueError q 4 s) := by
  show execDescriptorFetchComplete q s = _
  simp [execDescriptorFetchComplete, found, enabled, came, judged, broken]
/-- Entries that keep their type, and all entries of a queue whose type is judged later, are put in use. -/
theorem exec_descriptorFetch_taken (enabled : v.state = .enabled) (came : v.arrived.isEmpty = false)
    (kept : v.kind = qtCell ∨ v.kind = qtFrame ∨ v.kind = qtTunnelIn → v.arrived.all (fun e => descOk v e.2) = true) :
    exec (.descriptorFetchComplete q) s = .next (fetchMore q (v.arrived.foldl (fun s e => readBuffer q v e s)
      (setQueue q { v with fetched := v.fetched ++ v.arrived, arrived := [] } s))) := by
  have passes : ¬((v.kind = qtCell ∨ v.kind = qtFrame ∨ v.kind = qtTunnelIn) ∧
      (!(v.arrived.all fun e => descOk v e.2)) = true) := fun ⟨judged, broken⟩ => by simp [kept judged] at broken
  show execDescriptorFetchComplete q s = _
  simp only [execDescriptorFetchComplete, found, enabled, came, if_neg passes]
  simp
/-- Q_DISABLED of a draining queue with nothing under way. -/
theorem exec_qDisabled (draining : v.state = .draining) (done : s.drained q v = true) :
    exec (.qDisabled q) s =
      .next (raise 0x0602 sevI q v.headNow 0 [v.owner] (modQueue q Queue.stopped (notify q (endFrames q s)))) := by
  show execQDisabled q s = _
  simp [execQDisabled, found, draining, done]
/-- NOTIFY_COAL_TIMEOUT of a queue with entries not notified, at the end of the coalescing time. -/
theorem exec_notifyCoalTimeout (waits : v.unnotified ≠ 0) (runs : v.state ≠ .error) (reached : s.available v.owner = true) :
    exec (.notifyCoalTimeout q) s = .next (notify q (advTo (v.unnotifiedSince + 1000 * v.settings.coalTime) s)) := by
  show execNotifyCoalTimeout q s = _
  simp [execNotifyCoalTimeout, found, waits, runs, reached]
end

/-! ### TUNNEL_OUT (R98, R308) -/

section
variable {q : QId} {slot : Nat} {v : Queue} {desc : List Byte} {d : Option (List Byte)} {s : State} (t : Nat)
  (found : s.queue q = some v) (front : frontEntry qtTunnelOut s v = some (slot, desc, d)) (room : v.cplFull = false)
include found front room

/-- A length out of range, or a lane there is not. -/
theorem exec_tunnelOut_badLength (bad : d = none ∨ 96 ≤ bits (descCtrl desc) 0 7) :
    exec (.tunnelOutSend q t) s =
      .next (finishEntry q slot desc cstBadLength 0 (bits (descCtrl desc) 0 7) 0 (advTo t s)) := by
  show execTunnelOutSend q t s = _
  cases d with
  | none => simp [execTunnelOutSend, found, front, room]
  | some y =>
    have beyond : 96 ≤ bits (descCtrl desc) 0 7 := by simpa using bad
    simp [execTunnelOutSend, found, front, room, beyond]
/-- The lane of another owner is denied; an own one that is no Ethernet port with its link up is down. -/
theorem exec_tunnelOut_refused (read : d.isSome = true) (inRange : bits (descCtrl desc) 0 7 < 96)
    (closed : s.ownerOf .lane (bits (descCtrl desc) 0 7) ≠ v.owner ∨
      (s.lane (bits (descCtrl desc) 0 7)).cfg.mode ≠ .ethCam ∨ (s.eth (bits (descCtrl desc) 0 7)).linkUp = false) :
    exec (.tunnelOutSend q t) s = .next (finishEntry q slot desc
      (if s.ownerOf .lane (bits (descCtrl desc) 0 7) ≠ v.owner then cstDenied else cstLinkDown)
      0 (bits (descCtrl desc) 0 7) 0 (advTo t s)) := by
  obtain ⟨y, rfl⟩ := Option.isSome_iff_exists.mp read
  show execTunnelOutSend q t s = _
  by_cases own : s.ownerOf .lane (bits (descCtrl desc) 0 7) = v.owner
  · have down := closed.resolve_left (not_not_intro own)
    simp [execTunnelOutSend, found, front, room, Nat.not_le.mpr inRange, own, down]
  · simp [execTunnelOutSend, found, front, room, Nat.not_le.mpr inRange, own]
end

/-- A frame for an own Ethernet port with its link up leaves unchanged before its FCS (`fcs32`, log entry 4). -/
theorem exec_tunnelOut_sends {q : QId} {slot : Nat} {v : Queue} {desc y : List Byte} {s : State} (t : Nat)
    (found : s.queue q = some v) (front : frontEntry qtTunnelOut s v = some (slot, desc, some y)) (room : v.cplFull = false)
    (inRange : bits (descCtrl desc) 0 7 < 96) (own : s.ownerOf .lane (bits (descCtrl desc) 0 7) = v.owner)
    (camera : (s.lane (bits (descCtrl desc) 0 7)).cfg.mode = .ethCam)
    (up : (s.eth (bits (descCtrl desc) 0 7)).linkUp = true) :
    exec (.tunnelOutSend q t) s = .next (finishEntry q slot desc cstOk y.length (bits (descCtrl desc) 0 7) (max s.now t)
      (emit (.ethFrame (bits (descCtrl desc) 0 7) (y ++ b32 (fcs32 y))) (advTo t s))) := by
  show execTunnelOutSend q t s = _
  simp [execTunnelOutSend, found, front, room, Nat.not_le.mpr inRange, own, camera, up]

/-! ### SOURCE (R309) -/

/-- A length out of range. -/
theorem exec_source_badLength {q : QId} {slot : Nat} {v : Queue} {desc : List Byte} {s : State} (t : Nat)
    (found : s.queue q = some v) (front : frontEntry qtSource s v = some (slot, desc, none)) (room : v.cplFull = false) :
    exec (.sourcePacketSend q t) s = .next (finishEntry q slot desc cstBadLength 0 v.settings.lane 0 (advTo t s)) := by
  show execSourcePacketSend q t s = _
  simp [execSourcePacketSend, found, front, room]

section
variable {q : QId} {slot : Nat} {v : Queue} {desc y : List Byte} {s : State} (t : Nat) (found : s.queue q = some v)
  (front : frontEntry qtSource s v = some (slot, desc, some y)) (room : v.cplFull = false)
include found front room

/-- A packet that breaks its format is judged before the link that is down. -/
theorem exec_source_refused (closed : sourceOk y = false ∨ s.linkUp v.settings.lane = false) :
    exec (.sourcePacketSend q t) s = .next (finishEntry q slot desc (if sourceOk y then cstLinkDown else cstBadPacket) 0
      v.settings.lane 0 (advTo t s)) := by
  show execSourcePacketSend q t s = _
  cases ok : sourceOk y with
  | false => simp [execSourcePacketSend, found, front, room, ok]
  | true =>
    have down : s.linkUp v.settings.lane = false := by simpa [ok] using closed
    simp [execSourcePacketSend, found, front, room, ok, down]
/-- A good packet on a link that is up leaves; a timed LINE waits for its time, and after it leaves LATE. -/
theorem exec_source_sends (ok : sourceOk y = true) (up : s.linkUp v.settings.lane = true) :
    let timed := bit (descCtrl desc) 15 && byteAt y 0 / 16 == ptLine
    let due := extTime 32 (max s.now t) (u32At y 12)
    exec (.sourcePacketSend q t) s = .next (if timed && decide (max s.now t < due) then advTo t s
      else finishEntry q slot desc (if timed && decide (due < max s.now t) then cstLate else cstOk) y.length
        v.settings.lane (max s.now t) (sendPacket v.settings.lane y (advTo t s))) := by
  show execSourcePacketSend q t s = _
  simp [execSourcePacketSend, found, front, room, ok, up]
end

/-! ### Frame records (R314, R315) -/

section
variable {c : CtxId} {x : Ctx} {s : State} (t : Nat) (here : s.ctx c = some x)
include here

section
variable (opened : x.recs.any (·.phase == .opened) = true)
include opened

/-- A context that steers to no queue loses the frame. -/
theorem exec_frameRecordStart_unsteered (nowhere : s.steerQueue c = none) :
    exec (.frameRecordStart c t) s = .next (refuseRec c (advTo t s)) := by
  show execFrameRecordStart c t s = _
  simp [execFrameRecordStart, here, opened, nowhere]
/-- With an ENABLED FRAME queue whose host is there, the descriptors posted and those fetched decide. -/
theorem exec_frameRecordStart_steered {q : Nat} {v : Queue} (steered : s.steerQueue c = some q) (found : s.queue q = some v)
    (frames : v.kind = qtFrame) (enabled : v.state = .enabled) (reached : s.available v.owner = true) :
    let d := ceilDiv (x.recordLen s) (max 1 v.settings.bufSize)
    exec (.frameRecordStart c t) s = .next (
      if v.posted < d then raise 0x0605 sevE q 0 (objectId s.deviceId c x.frameSeq) [v.owner]
        (countQ q .nobuf (refuseRec c (advTo t s)))
      else if v.fetched.length < d then fetchMore q (advTo t s)
      else takeRec c q d v (advTo t s)) := by
  show execFrameRecordStart c t s = _
  simp [execFrameRecordStart, here, opened, steered, found, frames, enabled, reached, apply_ite Host.Outcome.next]
end

/-- The first record, closed by its comb and refused, is dropped. -/
theorem exec_frameRecordClose_refused {w : FrameWrite} {l : List FrameWrite} (first : x.recs = w :: l)
    (closed : w.isOpen = false) (refused : w.phase = .refused) :
    exec (.frameRecordClose c t) s = .next (modCtx c (fun x => { x with recs := l }) (advTo t s)) := by
  show execFrameRecordClose c t s = _
  simp [execFrameRecordClose, here, first, closed, refused]
end

/-- Settles O19, step by step. The frame check sequence `fcs32` is the model's presumed reading (log entry 4). -/
theorem queueEventsAct : Obligations.QueueEventsAct := by
  unfold Obligations.QueueEventsAct
  refine ⟨?broken, ?taken, ?disabled, ?notified, ?outBadLength, ?outRefused, ?outSends, ?sourceBadLength, ?sourceRefused,
    ?sourceSends, ?unsteered, ?takesBuffers, ?noBuffers, ?dropped⟩
  case broken =>
    intro q v s found enabled came judged broken
    exact exec_descriptorFetch_broken found enabled came judged broken
  case taken =>
    intro q v s found enabled came kept
    exact exec_descriptorFetch_taken found enabled came kept
  case disabled =>
    intro q v s found draining done
    exact exec_qDisabled found draining done
  case notified =>
    intro q v s found waits runs reached
    exact exec_notifyCoalTimeout found waits runs reached
  case outBadLength =>
    intro q t slot v desc d s found front room bad
    exact exec_tunnelOut_badLength t found front room bad
  case outRefused =>
    intro q t slot v desc d s found front room read inRange closed
    exact exec_tunnelOut_refused t found front room read inRange closed
  case outSends =>
    rintro q t slot v desc _ y s found front room rfl inRange own camera up
    exact exec_tunnelOut_sends t found front room inRange own camera up
  case sourceBadLength =>
    rintro q t slot v desc _ s found front room rfl
    exact exec_source_badLength t found front room
  case sourceRefused =>
    rintro q t slot v desc _ y s found front room rfl closed
    exact exec_source_refused t found front room closed
  case sourceSends =>
    rintro q t slot v desc _ y _ _ s found front room rfl ok up rfl rfl
    exact exec_source_sends t found front room ok up
  case unsteered =>
    intro c t x s here opened nowhere
    exact exec_frameRecordStart_unsteered t here opened nowhere
  case takesBuffers =>
    rintro c t q _ x v s here opened steered found frames enabled reached rfl posted fetched
    rw [exec_frameRecordStart_steered t here opened steered found frames enabled reached, if_neg (Nat.not_lt.mpr posted),
      if_neg (Nat.not_lt.mpr fetched)]
  case noBuffers =>
    intro c t q x v s here opened steered found frames enabled reached short
    rw [exec_frameRecordStart_steered t here opened steered found frames enabled reached, if_pos short]
  case dropped =>
    intro c t x w l s here first closed refused
    exact exec_frameRecordClose_refused t here first closed refused

end Sys2Proof.Machine
end

section
/-! Context commands (R114 to R121, R344, R345): where no check fails, each command's run is its commit. -/
namespace Sys2Proof.Machine

/-- A command that names a context there is goes on with it. -/
theorem withCtx_of_found {r : Req} {s : State} {x : Ctx} (found : s.ctx (r.u32 0) = some x) (g : Nat → Ctx → Answer) :
    withCtx r s g = g (r.u32 0) x := by
  simp [withCtx, found]

/-! ### CTX_CREATE (R114, R344) -/

/-- The context that a CTX_CREATE request describes. -/
def Req.madeCtx (r : Req) : Ctx :=
  if r.u32 4 = 3 then newCtx r.fn .passthru (r.u32 8) none 1 [] { width := 16, format := 0, height := 0, rate := 1 }
  else newCtx r.fn (ctxKind (r.u32 4)) (r.u32 8) (optWord (r.u32 0x0C)) (r.u32 0x10)
    ((List.range (r.u32 0x10)).map (srcEntry r)) (geoOf r 0x24)

/-- CTX_CREATE of a lane's context that passes its checks puts the context under the ID it was given or found. -/
theorem ctxCreate_of_passed {r : Req} {s : State} {c : Nat} (h : (cmdCtxCreate.run r s).failed = false)
    (direct : r.u32 0x0C = wordNone) (id : (if r.u32 0 = wordNone then s.freeCtx else some (r.u32 0)) = some c) :
    cmdCtxCreate.run r s = .ok { s with ctxs := s.ctxs.put c r.madeCtx } (b32 c) := by
  simp only [cmdCtxCreate, ctxCreate] at h ⊢
  rw [checked_pass h]
  simp [direct, id, optWord, Req.madeCtx]
/-- CTX_CREATE on an Ethernet channel that passes its checks also starts the channel's stream anew, its counters kept. -/
theorem ctxCreate_channel_of_passed {r : Req} {s : State} {c : Nat} (h : (cmdCtxCreate.run r s).failed = false)
    (sourced : r.u32 4 ≠ 3) (channel : r.u32 0x0C ≠ wordNone)
    (id : (if r.u32 0 = wordNone then s.freeCtx else some (r.u32 0)) = some c) :
    cmdCtxCreate.run r s =
      .ok { modEth (r.u32 8) (fun e => { e with
              streams := e.streams.put (r.u32 0x0C) { counts := (e.streams.getD (r.u32 0x0C) {}).counts } }) s with
            ctxs := s.ctxs.put c r.madeCtx } (b32 c) := by
  simp only [cmdCtxCreate, ctxCreate] at h ⊢
  rw [checked_pass h]
  simp [sourced, channel, id, optWord, Req.madeCtx]

/-- Of KIND 3 the context is a pass-through of the lane. -/
theorem madeCtx_passthru {r : Req} (pass : r.u32 4 = 3) :
    r.madeCtx = newCtx r.fn .passthru (r.u32 8) none 1 [] { width := 16, format := 0, height := 0, rate := 1 } :=
  if_pos pass
/-- Of another KIND it has the source and the geometry given. -/
theorem madeCtx_sourced {r : Req} (sourced : r.u32 4 ≠ 3) :
    r.madeCtx = newCtx r.fn (ctxKind (r.u32 4)) (r.u32 8) (optWord (r.u32 0x0C)) (r.u32 0x10)
      ((List.range (r.u32 0x10)).map (srcEntry r)) (geoOf r 0x24) :=
  if_neg sourced

section
variable {r : Req} {s : State} {x : Ctx} (found : s.ctx (r.u32 0) = some x)
include found

/-! ### CTX_SET (R120) -/

/-- CTX_SET changes nothing of a pass-through. -/
theorem ctxSet_of_passthru (pass : x.kind = .passthru) : cmdCtxSet.run r s = .ok s [] := by
  simp only [cmdCtxSet, withCtx_of_found found, if_pos pass]
/-- CTX_SET of another context that passes its checks: a change of WIDTH returns the columns to their defaults and drops the
tables, and settings of a context that does not run are in force at once. -/
theorem ctxSet_of_passed (h : (cmdCtxSet.run r s).failed = false) (sourced : x.kind ≠ .passthru) {y : Ctx}
    (set : y = if (geoOf r 4).width = x.geo.width then { x with geo := geoOf r 4 }
      else { x with
        geo := geoOf r 4, seg := { x.seg with segX0 := 0, segX1 := (geoOf r 4).width - 1 }
        flat := none, defects := [], bgTable := none, flatCopy := none, defectsCopy := none, bgCopy := none }) :
    cmdCtxSet.run r s = .ok { s with ctxs := s.ctxs.put (r.u32 0) (if x.state = .running then y else
      { y with inForce := { corr := y.corr, seg := y.seg, gapBridge := (geoOf r 4).gapBridge } }) } [] := by
  subst set
  simp only [cmdCtxSet, withCtx_of_found found, if_neg sourced] at h ⊢
  exact checked_pass h

/-! ### CTX_ASSIGN (R117, R139, R345) -/

section
variable (h : (cmdCtxAssign.run r s).failed = false) (fits : admission s (r.u32 0) (r.u32 4) x (r.u32 8) = none)
include h fits

/-- CTX_ASSIGN that passes its checks and is admitted wakes the banks of assembler and comb, and takes a FREE comb in use. -/
theorem ctxAssign_of_passed (sourced : x.kind ≠ .passthru) {y z : State}
    (admitted : y = { wakeBank (broodBank (r.u32 8)) (wakeBank (lineBank (r.u32 4)) s) with
      ctxs := (wakeBank (broodBank (r.u32 8)) (wakeBank (lineBank (r.u32 4)) s)).ctxs.put (r.u32 0)
        { x with state := .admitted, comb := some (r.u32 4), asm := some (r.u32 8) } })
    (taken : z = if (s.comb (r.u32 4)).state = .free then modComb (r.u32 4) (fun _ => { state := .inUse }) y else y) :
    cmdCtxAssign.run r s =
      .ok z (assignFigures s (r.u32 0) (r.u32 4) x (r.u32 8) (z.isProtected (r.u32 0))) := by
  subst admitted taken
  simp only [cmdCtxAssign, ctxAssign, withCtx_of_found found] at h ⊢
  rw [checked_pass h]
  simp [fits, sourced]
/-- CTX_ASSIGN of a pass-through that passes its checks and is admitted: it has no comb. -/
theorem ctxAssign_passthru_of_passed (pass : x.kind = .passthru) {y : State}
    (admitted : y = { wakeBank (broodBank (r.u32 8)) s with
      ctxs := (wakeBank (broodBank (r.u32 8)) s).ctxs.put (r.u32 0)
        { x with state := .admitted, comb := none, asm := some (r.u32 8) } }) :
    cmdCtxAssign.run r s =
      .ok y (assignFigures s (r.u32 0) (r.u32 4) x (r.u32 8) (y.isProtected (r.u32 0))) := by
  subst admitted
  simp only [cmdCtxAssign, ctxAssign, withCtx_of_found found] at h ⊢
  rw [checked_pass h]
  simp [fits, pass]
end

/-! ### CTX_START, CTX_STOP, CTX_RELEASE, CTX_DESTROY (R118, R119, R120) -/

/-- CTX_START that passes its checks, with no item of the descriptor that differs. -/
theorem ctxStart_of_passed (h : (cmdCtxStart.run r s).failed = false)
    (agrees : (s.descOf x).bind (descMismatch x) = none) :
    cmdCtxStart.run r s =
      .ok (announceServer (r.u32 0) x.lane { s with ctxs := s.ctxs.put (r.u32 0) (startCtx x) }) [] := by
  simp only [cmdCtxStart, ctxStart, withCtx_of_found found] at h ⊢
  rw [checked_pass h]
  simp [agrees]
/-- CTX_RELEASE that passes its checks returns the context to DEFINED, without comb, assembler and what it held. -/
theorem ctxRelease_of_passed (h : (cmdCtxRelease.run r s).failed = false) {y : State}
    (released : y = { s with
      ctxs := s.ctxs.put (r.u32 0)
        { x with state := .defined, comb := none, asm := none, slots := [], work := [], recs := [] } }) :
    cmdCtxRelease.run r s = .ok (x.comb.elim y fun k => freeComb k y) [] := by
  subst released
  simp only [cmdCtxRelease, ctxRelease, withCtx_of_found found] at h ⊢
  rw [checked_pass h]
  cases x.comb <;> rfl
/-- CTX_DESTROY that passes its checks. -/
theorem ctxDestroy_of_passed (h : (cmdCtxDestroy.run r s).failed = false) :
    cmdCtxDestroy.run r s = .ok (removeCtx (r.u32 0) s) [] := by
  simp only [cmdCtxDestroy, ctxDestroy, withCtx_of_found found] at h ⊢
  exact checked_pass h

section
variable (h : (cmdCtxStop.run r s).failed = false)
include h

/-- CTX_STOP of a LINE_SCAN context stops at the last line accepted. -/
theorem ctxStop_lineScan_of_passed (kind : x.kind = .lineScan) :
    cmdCtxStop.run r s = .started { s with
      ctxs := s.ctxs.put (r.u32 0)
        (({ x with state := .stopping, stopAt := x.upTo, slots := x.slots ++ [Slot.stop s.now] } : Ctx).settle s.now) } [] := by
  simp only [cmdCtxStop, ctxStop, withCtx_of_found found, kind] at h ⊢
  exact checked_pass h
/-- CTX_STOP of a pass-through places no stop point among lines. -/
theorem ctxStop_passthru_of_passed (kind : x.kind = .passthru) :
    cmdCtxStop.run r s = .started { s with
      ctxs := s.ctxs.put (r.u32 0) (({ x with state := .stopping } : Ctx).settle s.now) } [] := by
  simp only [cmdCtxStop, ctxStop, withCtx_of_found found, kind] at h ⊢
  exact checked_pass h
/-- CTX_STOP of a context of frames stops after the frame under way, or here where there is none. -/
theorem ctxStop_frames_of_passed (sourced : x.kind ≠ .passthru) (framed : x.kind ≠ .lineScan) :
    cmdCtxStop.run r s = .started { s with
      ctxs := s.ctxs.put (r.u32 0)
        (({ x with state := .stopping, slots := if x.frame.isSome then x.slots else x.slots ++ [Slot.stop s.now] } :
          Ctx).settle s.now) } [] := by
  simp only [cmdCtxStop, ctxStop, withCtx_of_found found] at h ⊢
  exact checked_pass h
end
end

/-! ### The rows: where the run commits, the answer is concluded (R327, R354) -/

section
variable {f : Fn} {m : Mbx} {s x : State} {p : List Byte}

theorem exec_ctxCreate_commits (h : Accepted cmdCtxCreate f m s)
    (e : cmdCtxCreate.run (s.reqOf f m) s = .ok x p) :
    ∃ u, exec (.ctxCreate f m) s = .next u ∧ Commits s u f m p x :=
  accepted_commits f.isLt h (cmdCtxCreate_foot (w := 83886080) (by decide) _ s rfl) rfl rfl e
theorem exec_ctxSet_commits (h : Accepted cmdCtxSet f m s)
    (e : cmdCtxSet.run (s.reqOf f m) s = .ok x p) :
    ∃ u, exec (.ctxSet f m) s = .next u ∧ Commits s u f m p x :=
  accepted_commits f.isLt h (cmdCtxSet_foot (w := 67108864) (by decide) _ s rfl) rfl rfl e
theorem exec_ctxAssign_commits (h : Accepted cmdCtxAssign f m s)
    (e : cmdCtxAssign.run (s.reqOf f m) s = .ok x p) :
    ∃ u, exec (.ctxAssign f m) s = .next u ∧ Commits s u f m p x :=
  accepted_commits f.isLt h (cmdCtxAssign_foot (w := 201327616) (by decide) _ s rfl) rfl rfl e
theorem exec_ctxStop_starts (h : Accepted cmdCtxStop f m s)
    (e : cmdCtxStop.run (s.reqOf f m) s = .started x p) :
    ∃ u, exec (.ctxStop f m) s = .next u ∧ Starts s u f m p x :=
  accepted_starts f.isLt h (cmdCtxStop_foot (w := 67108864) (by decide) _ s rfl) rfl rfl e
theorem exec_ctxRelease_commits (h : Accepted cmdCtxRelease f m s)
    (e : cmdCtxRelease.run (s.reqOf f m) s = .ok x p) :
    ∃ u, exec (.ctxRelease f m) s = .next u ∧ Commits s u f m p x :=
  accepted_commits f.isLt h (cmdCtxRelease_foot (w := 201326592) (by decide) _ s rfl) rfl rfl e
end

/-- In RUN the row of CTX_START is the service of its command. -/
theorem exec_ctxStart_of_run {f : Fn} {m : Mbx} {s : State} (run : s.sys.devState = .run) :
    exec (.ctxStart f m) s = .next (serve cmdCtxStart f m s) :=
  congrArg Host.Outcome.next (serveWaking_of_run cmdCtxStart (fun _ => true) f m run)

/-- Settles O9, command by command: the checks have passed, so the run is the commit, and its answer is concluded. -/
theorem contextCommandsComplete : Obligations.ContextCommandsComplete := by
  unfold Obligations.ContextCommandsComplete
  refine ⟨?create, ?createPass, ?createChannel, ?setPass, ?set, ?setDefined, ?assign, ?assignFree, ?assignPass, ?start,
    ?stopLine, ?stopPass, ?stopFrames, ?release, ?releaseComb, ?destroy, ?status⟩
  case create =>
    intro f m s c h r sourced direct id
    have made := ctxCreate_of_passed h.run_eq.2 direct id
    rw [madeCtx_sourced sourced, optWord, if_pos direct] at made
    exact exec_ctxCreate_commits h made
  case createPass =>
    intro f m s c h r pass direct id
    have made := ctxCreate_of_passed h.run_eq.2 direct id
    rw [madeCtx_passthru pass] at made
    exact exec_ctxCreate_commits h made
  case createChannel =>
    intro f m s c h r sourced channel id
    have made := ctxCreate_channel_of_passed h.run_eq.2 sourced channel id
    rw [madeCtx_sourced sourced, optWord, if_neg channel] at made
    exact exec_ctxCreate_commits h made
  case setPass =>
    intro f m s x h r found pass
    exact exec_ctxSet_commits h (ctxSet_of_passthru found pass)
  case set =>
    intro f m s x y h r found sourced set
    exact exec_ctxSet_commits h (ctxSet_of_passed found h.run_eq.2 sourced set)
  case setDefined =>
    intro f m s x h r found sourced defined same
    have idle : x.state ≠ .running := by simp [defined]
    have set := ctxSet_of_passed found h.run_eq.2 sourced rfl
    rw [if_pos same, if_neg idle] at set
    exact exec_ctxSet_commits h set
  case assign =>
    intro f m s x y h r found sourced inUse fits admitted
    have busy : (s.comb (r.u32 4)).state ≠ .free := by simp [inUse]
    exact exec_ctxAssign_commits h (ctxAssign_of_passed found h.run_eq.2 fits sourced admitted (if_neg busy).symm)
  case assignFree =>
    intro f m s x y h r found sourced free fits taken
    exact exec_ctxAssign_commits h (ctxAssign_of_passed found h.run_eq.2 fits sourced rfl (taken.trans (if_pos free).symm))
  case assignPass =>
    intro f m s x y h r found pass fits admitted
    exact exec_ctxAssign_commits h (ctxAssign_passthru_of_passed found h.run_eq.2 fits pass admitted)
  case start =>
    intro f m s x h run r found agrees
    rw [exec_ctxStart_of_run run]
    exact accepted_commits f.isLt h (cmdCtxStart_foot (w := 104857668) (by decide) _ s rfl) rfl rfl
      (ctxStart_of_passed found h.run_eq.2 agrees)
  case stopLine =>
    intro f m s x h r found kind
    exact exec_ctxStop_starts h (ctxStop_lineScan_of_passed found h.run_eq.2 kind)
  case stopPass =>
    intro f m s x h r found kind
    exact exec_ctxStop_starts h (ctxStop_passthru_of_passed found h.run_eq.2 kind)
  case stopFrames =>
    intro f m s x h r found sourced framed
    exact exec_ctxStop_starts h (ctxStop_frames_of_passed found h.run_eq.2 sourced framed)
  case release =>
    intro f m s x h r found alone
    have released := ctxRelease_of_passed found h.run_eq.2 rfl
    rw [alone] at released
    exact exec_ctxRelease_commits h released
  case releaseComb =>
    intro f m s x k h r found held
    have released := ctxRelease_of_passed found h.run_eq.2 rfl
    rw [held] at released
    exact exec_ctxRelease_commits h released
  case destroy =>
    intro f m s x h r found
    exact accepted_commits f.isLt h (cmdCtxDestroy_foot (w := 73081552904) (by decide) _ s rfl) rfl rfl
      (ctxDestroy_of_passed found h.run_eq.2)
  case status =>
    intro f m s x h r found
    exact accepted_commits f.isLt h (cmdCtxGetStatus_foot (w := 67108864) (by decide) _ s rfl) rfl rfl
      (show ctxStatus ctxCounters r s = _ from withCtx_of_found found _)

end Sys2Proof.Machine
end

section
/-! Uplinks, failover, hive messages and forwarded cells (R116, R381, R438 to R453): what each does where its guard is
open. -/
namespace Sys2Proof.Machine

/-! ### Reads that the clock does not touch -/

@[simp] theorem admitted_advTo (t h : Nat) (s : State) : (advTo t s).admitted h = s.admitted h := by
  simp [State.admitted, State.hiveLink]
@[simp] theorem hiveLinks_advTo (t : Nat) (s : State) : (advTo t s).hiveLinks = s.hiveLinks := by
  simp [State.hiveLinks]
@[simp] theorem isMember_advTo (t : Nat) (s : State) : (advTo t s).isMember = s.isMember := by
  simp [State.isMember]
@[simp] theorem uplinkInForce_advTo (t : Nat) (s : State) : (advTo t s).uplinkInForce = s.uplinkInForce := by
  simp [State.uplinkInForce]

@[simp] theorem extWaiting_advTo (t : Nat) (s : State) : (advTo t s).clock.extWaiting = s.clock.extWaiting := by
  unfold advTo
  split <;> rfl

/-! ### Roles -/

theorem inHive_of_manager {s : State} (manager : s.hive.state = .manager) : s.inHive = true := by
  simp [State.inHive, manager]
theorem inHive_of_isMember {s : State} (member : s.isMember = true) : s.inHive = true := by
  unfold State.isMember at member
  unfold State.inHive
  split at member <;> simp_all
theorem isMember_of_member {s : State} (member : s.hive.state = .member) : s.isMember = true := by
  simp [State.isMember, member]
theorem isMember_of_standby {s : State} (standby : s.hive.state = .standby) : s.isMember = true := by
  simp [State.isMember, standby]

/-! ### ALIVE (R436, R437, R447) -/

@[simp] theorem sys_sendAlive (serial h : Nat) (s : State) : (sendAlive serial h s).sys = s.sys :=
  mask_sys (w := 37748736) rfl (sendAlive_foot (by decide) ..)
/-- A run of ALIVE messages carries one serial throughout. -/
theorem foldl_sendAlive (l : List Nat) (s : State) :
    l.foldl (fun x h => sendAlive x.sys.serial h x) s = l.foldl (fun x h => sendAlive s.sys.serial h x) s := by
  induction l generalizing s with
  | nil => rfl
  | cons h l ih =>
    simp only [List.foldl_cons]
    rw [ih, sys_sendAlive]
/-- The manager sends ALIVE on every hive link. -/
theorem exec_aliveSend_manager {s : State} (t : Nat) (manager : s.hive.state = .manager) :
    exec (.aliveSend t) s = .next (s.hiveLinks.foldl (fun x h => sendAlive s.sys.serial h x) (advTo t s)) := by
  show execAliveSend t s = _
  simp [execAliveSend, manager, foldl_sendAlive]
/-- ALIVE ends the election of a device that joins. -/
theorem alive_joining {s : State} (h serial : Nat) (joining : s.hive.state = .joining) :
    alive h serial s =
      modHive (fun x => { x with listenSince := none, announceSince := none, quiet := true, managerSerial := serial }) s := by
  simp [alive, joining]
/-- ALIVE of another hive's manager refuses the link at a manager. -/
theorem alive_otherHive {s : State} {h serial : Nat} (manager : s.hive.state = .manager) (other : serial ≠ s.sys.serial)
    (first : (s.hiveLink h).foreign = false) :
    alive h serial s = refuseLink h 2 serial (modHiveLink h (fun k => { k with foreign := true }) s) := by
  simp [alive, manager, other, first]

/-! ### Uplinks (R445, R446) -/

section
variable {s : State} (t : Nat)

/-- The manager loses the members it can no longer reach. -/
theorem exec_uplinkLoss_manager (manager : s.hive.state = .manager) :
    exec (.uplinkLoss t) s = .next (loseMembers (advTo t s).cutOff (advTo t s)) := by
  show execUplinkLoss t s = _
  simp [execUplinkLoss, manager]
/-- A member without an uplink in force gives it up. -/
theorem exec_uplinkLoss_member (member : s.hive.state = .member) (lost : s.uplinkInForce = none) :
    exec (.uplinkLoss t) s = .next (dropUplink (advTo t s)) := by
  show execUplinkLoss t s = _
  simp [execUplinkLoss, member, isMember_of_member, lost]
/-- A standby without an uplink in force first waits for ALIVE. -/
theorem exec_uplinkLoss_standby (standby : s.hive.state = .standby) (lost : s.uplinkInForce = none)
    (fresh : s.hive.lostAt = none) :
    exec (.uplinkLoss t) s = .next (modHive (fun x => { x with lostAt := some (max s.now t) }) (advTo t s)) := by
  show execUplinkLoss t s = _
  simp [execUplinkLoss, standby, isMember_of_standby, lost, fresh]
/-- An uplink in DATA for 1 ms again is restored, and the faults of its lanes are resolved. -/
theorem exec_uplinkRestore {h : Nat} {y z : State} (uplink : s.hive.uplink = some h) (member : s.isMember = true)
    (switched : s.hive.switched = true) (up : s.linkUp h = true) (admitted : s.admitted h = true)
    (long : (s.lane h).dataAt + 1000000 ≤ max s.now t)
    (rerouted : y = sendReroute h true (modHive (fun x => { x with switched := false }) (advTo t s)))
    (resolved : z = (y.bondLanes h).foldl (fun s l => resolveFault (s.laneClass l) l s) y) :
    exec (.uplinkRestore t) s = .next (raise 0x0A06 sevW z.deviceId (h + 2147483648) 0 [z.sys.trusted] z) := by
  subst rerouted resolved
  show execUplinkRestore t s = _
  simp [execUplinkRestore, uplink, member, switched, up, admitted, long]
end

/-- A REROUTE along the path in force changes nothing. -/
theorem reroute_of_routed {s : State} {h device : Nat} (restore : Bool) (routed : s.routeTo device = some h) :
    reroute h device restore s = s := by
  simp [reroute, routed]
/-- A REROUTE that the device's bit follows, at the manager. -/
theorem reroute_manager {s x : State} {h device : Nat} {restore : Bool} (manager : s.hive.state = .manager)
    (elsewhere : s.routeTo device ≠ some h)
    (flipped : x = modHive (fun y => { y with
      flipped := if restore then y.flipped.filter (· != device) else y.flipped.filter (· != device) ++ [device] }) s)
    (follows : x.routeTo device = some h) :
    reroute h device restore s = raise 0x0A06 sevW device (h + 2147483648 * b2n restore) 0 [s.sys.trusted] x := by
  subst flipped
  simp [reroute, inHive_of_manager manager, elsewhere, follows, manager]

/-! ### The standby (R438, R447, R448) -/

/-- A standby whose mirror is complete takes over 4 us after the loss without ALIVE. -/
theorem exec_standbyTakeover {s x y : State} {t d : Nat} (lost : s.hive.lostAt = some d) (standby : s.hive.state = .standby)
    (ready : s.hive.reportedReady = true) (waited : d + 4000 ≤ max s.now t) (silent : s.hive.lastAlive ≤ d)
    (mirrored : x = modHive (fun x => { x with ids := x.mirror.map fun p => (p.1, p.2, none) }) (advTo t s))
    (founded : y = modHive (fun v => { v with
      ids := x.hive.ids
      members := v.routes.filterMap fun r => (x.hive.ids.find? fun e => e.2.1 == r.dest).map fun e =>
        { id := r.dest, serial := e.1, parent := (becomeManager x.deviceId x).deviceId, depth := r.hops, worst := r.hops
          role := 1, parent2 := none, faults := 0 } }) (becomeManager x.deviceId x)) :
    ∃ z, z = y.hiveLinks.foldl (fun s h => sendAlive s.sys.serial h s) (setWorst y) ∧
      exec (.standbyTakeover t) s =
        .next (chooseStandby (detectFault clsManager s.hive.managerId
          (raise 0x0A07 sevW z.deviceId s.hive.managerId 0 z.functions z))) := by
  subst mirrored founded
  refine ⟨_, rfl, ?_⟩
  show execStandbyTakeover t s = _
  simp [execStandbyTakeover, lost, standby, ready, waited, silent]
/-- Its standby's report resolves the manager's MANAGER fault. -/
theorem exec_standbyReady_manager {s : State} (manager : s.hive.state = .manager) (chosen : s.hive.standbyId.isSome = true) :
    exec .standbyReady s = .next (electionDone (modHive (fun x => { x with mirrorDone := true }) s)) := by
  show execStandbyReady s = _
  simp [execStandbyReady, manager, chosen]
/-- A willing member whose mirror is complete becomes standby. -/
theorem exec_standbyReady_member {s : State} (member : s.hive.state = .member) (capable : s.managerCapable = true)
    (willing : s.hive.willing = true) (complete : s.hive.mirrorDone = true) :
    exec .standbyReady s =
      .next (hiveChanged (modHive (fun x => { x with
        state := .standby, standbyId := some s.deviceId, reportedReady := true }) s)) := by
  show execStandbyReady s = _
  simp [execStandbyReady, member, isMember_of_member, capable, willing, complete]

/-! ### MIRROR and EXT_OFFSET (R381, R438, R452) -/

/-- A MIRROR piece takes the place of what the mirror held of its serials. -/
theorem hive_mirror {s : State} (l : List (Nat × Nat)) (o : Int) (frac since : Nat) (last : Bool) (member : s.isMember = true) :
    (mirror l o frac since last s).hive = { s.hive with
      mirror := (s.hive.mirror.filter fun p => !(l.any fun q => q.1 == p.1)) ++ l
      mirrorDone := s.hive.mirrorDone || last } := by
  rw [mirror, if_neg (by simp [member])]
  dsimp only
  split <;> simp
/-- Its EXT_OFFSET is in force where it is newer and not to come. -/
theorem clock_mirror {s : State} (l : List (Nat × Nat)) (o : Int) (frac : Nat) {since : Nat} (last : Bool)
    (member : s.isMember = true) (newer : s.clock.extSince < since) (due : since ≤ s.now) :
    (mirror l o frac since last s).clock =
      { s.clock with extOffset := o, extFrac := frac, extSince := since, extEver := true } := by
  simp [mirror, member, newer, due]
/-- An EXT_OFFSET to come is held until its EXT_SINCE. -/
theorem extOffsetMsg_ahead {s : State} (o : Int) (frac : Nat) {since : Nat} (member : s.isMember = true)
    (ahead : s.now < since) :
    extOffsetMsg o frac since s = modClock (fun c => { c with
      extWaiting := c.extWaiting ++ [{ since := since, offset := o, frac := frac, reason := 5 }] }) s := by
  simp [extOffsetMsg, member, ahead]

/-! ### Summaries at the manager (R453) -/

theorem faultSummary_ejectDenied {s : State} (src : Nat) (body : List Byte) (manager : s.hive.state = .manager) :
    faultSummary src 1 body s = raise 0x0A0A sevE src (u16At body 0) (u64At body 2) [s.sys.trusted] s := by
  simp [faultSummary, manager]
theorem faultSummary_faults {s : State} (src : Nat) {sub : Nat} (body : List Byte) (manager : s.hive.state = .manager)
    (faults : sub ≠ 1) :
    faultSummary src sub body s =
      raise 0x0A09 sevE src (u16At body 0 + 65536 * u16At body 2) 0 [s.sys.trusted] (modHive (fun x => { x with
        members := x.members.map fun m => if m.id = src then { m with faults := u16At body 2 } else m }) s) := by
  simp [faultSummary, manager, faults]
theorem honeySummary_manager {s : State} (src : Nat) (body : List Byte) (manager : s.hive.state = .manager) :
    honeySummary src body s = logNow 0x0C86 sevI src (u32At body 8) (u16At body 0x18) s := by
  simp [honeySummary, manager]

/-! ### Cells of other devices (R449, R450) -/

/-- CELL SERVER for this device ends here: the cell route and the context it names are recorded. -/
theorem exec_cellServer_here {s : State} (l : LaneId) (ctx : Nat) (member : s.inHive = true) :
    exec (.cellServerReceived l s.deviceId ctx) s = .next (modHive (fun x => { x with
      cellRoutes := x.cellRoutes.put s.deviceId (s.head l), cellServer := some ctx }) s) := by
  show execCellServerReceived l s.deviceId ctx s = _
  simp [execCellServerReceived, cellServer, member]
/-- The cell server of a member takes the fragment. -/
theorem forwardCell_served {s : State} {h src : Nat} {q : Nat × Nat} (pkt : List Byte) (member : s.inHive = true)
    (served : s.serves' src = some q) :
    forwardCell h src pkt s = cellFragment q.2 q.1 src pkt (honey (hoHive 8)) s := by
  simp [forwardCell, member, served]
/-- Any other device sends it on along the cell route. -/
theorem forwardCell_routed {s : State} {h src k : Nat} (pkt : List Byte) (member : s.inHive = true)
    (unserved : s.serves' src = none) (route : s.hive.cellRoutes.find src = some k) (onward : k ≠ h) :
    forwardCell h src pkt s = queuePacket k { ptype := ptCell, vc := byteAt pkt 0 % 16, bytes := pkt } s := by
  simp [forwardCell, member, unserved, route, onward]

/-! ### Messages that are routed (R441 to R443) -/

section
variable {s : State} {h : Nat} {m : HMsg} (member : s.inHive = true) (admitted : s.admitted h = true)
  (sound : hmsgLen m = true) (routed : hopByHop m = false)
include member admitted sound routed

/-- A member's message on an admitted link goes on where it does, and arrives where it is for this device. -/
theorem hmsgArrive_routed {s1 : State}
    (onward : s1 = if s.goesOn m then
        (if 8 ≤ m.hops then hmsgDrop s else (hroute { m with hops := m.hops + 1 } (some h) s).2)
      else s) :
    hmsgArrive h m s = if s.forMe h m then arrive h m s1 else s1 := by
  have hived : s.hive.state ≠ .standalone := fun alone => by simp [State.inHive, alone] at member
  subst onward
  simp [hmsgArrive, hived, sound, routed, member, admitted]
/-- A message for this device alone arrives. -/
theorem hmsgArrive_here (ends : s.goesOn m = false) (mine : s.forMe h m = true) : hmsgArrive h m s = arrive h m s := by
  rw [hmsgArrive_routed member admitted sound routed rfl, if_pos mine, if_neg (Bool.eq_false_iff.mp ends)]
/-- A message for others alone goes on, one hop further. -/
theorem hmsgArrive_onward (goes : s.goesOn m = true) (others : s.forMe h m = false) (near : m.hops < 8) :
    hmsgArrive h m s = (hroute { m with hops := m.hops + 1 } (some h) s).2 := by
  rw [hmsgArrive_routed member admitted sound routed rfl, if_neg (Bool.eq_false_iff.mp others), if_pos goes,
    if_neg (Nat.not_le.mpr near)]
/-- After 8 hops it is dropped. -/
theorem hmsgArrive_spent (goes : s.goesOn m = true) (others : s.forMe h m = false) (far : 8 ≤ m.hops) :
    hmsgArrive h m s = hmsgDrop s := by
  rw [hmsgArrive_routed member admitted sound routed rfl, if_neg (Bool.eq_false_iff.mp others), if_pos goes, if_pos far]
end

/-- Settles O36, event by event, each where its guard is open. -/
theorem hiveLinkAndMessageEventsAct : Obligations.HiveLinkAndMessageEventsAct := by
  unfold Obligations.HiveLinkAndMessageEventsAct
  refine ⟨?aliveSend, ?aliveJoining, ?aliveForeign, ?lossManager, ?lossMember, ?lossStandby, ?rerouteSame, ?reroute,
    ?restore, ?takeover, ?readyManager, ?readyMember, ?mirror, ?extOffset, ?denied, ?faults, ?honey, ?cellServer,
    ?cellServed, ?cellRouted, ?here, ?onward, ?spent⟩
  case aliveSend =>
    intro t s manager
    exact exec_aliveSend_manager t manager
  case aliveJoining =>
    intro l k t s joining
    have heard := alive_joining (s := advTo t s) (s.head l) k (by simp [joining])
    exact ⟨_, congrArg Host.Outcome.next heard, by simp, by simp⟩
  case aliveForeign =>
    intro l k t s manager other first
    exact congrArg Host.Outcome.next
      (alive_otherHive (s := advTo t s) (by simp [manager]) (by simp [other]) (by simpa [State.hiveLink] using first))
  case lossManager =>
    intro t s manager
    exact exec_uplinkLoss_manager t manager
  case lossMember =>
    intro t s member lost
    exact exec_uplinkLoss_member t member lost
  case lossStandby =>
    intro t s standby lost fresh
    exact ⟨_, exec_uplinkLoss_standby t standby lost fresh, by simp, by simp⟩
  case rerouteSame =>
    intro l d b s routed
    exact congrArg Host.Outcome.next (reroute_of_routed b routed)
  case reroute =>
    intro l d b x s manager elsewhere flipped follows
    exact congrArg Host.Outcome.next (reroute_manager manager elsewhere flipped follows)
  case restore =>
    intro t h y z s uplink member switched up admitted long rerouted resolved
    exact exec_uplinkRestore t uplink member switched up admitted long rerouted resolved
  case takeover =>
    intro t d x y s lost standby ready waited silent mirrored founded
    exact exec_standbyTakeover lost standby ready waited silent mirrored founded
  case readyManager =>
    intro s manager chosen
    exact exec_standbyReady_manager manager chosen
  case readyMember =>
    intro s member capable willing complete
    exact exec_standbyReady_member member capable willing complete
  case mirror =>
    intro l a b c w s member
    have kept := hive_mirror l (toSigned 64 a) b c w member
    refine ⟨_, rfl, congrArg Hive.mirror kept, congrArg Hive.mirrorDone kept, fun newer due => ?_⟩
    have set := clock_mirror l (toSigned 64 a) b w member newer due
    exact ⟨congrArg Clock.extOffset set, congrArg Clock.extFrac set, congrArg Clock.extSince set⟩
  case extOffset =>
    intro o r k t s member ahead
    have held := extOffsetMsg_ahead (s := advTo t s) (toSigned 64 o.toNat) r.toNat (since := k) (by simp [member])
      (by simpa using ahead)
    refine ⟨_, congrArg Host.Outcome.next held, ?_, ?_⟩
    · simp
    · exact now_advTo t s
  case denied =>
    rintro d w b s manager rfl
    exact congrArg Host.Outcome.next (faultSummary_ejectDenied d b manager)
  case faults =>
    intro d w b s manager faults
    exact congrArg Host.Outcome.next (faultSummary_faults d b manager faults)
  case honey =>
    intro d b s manager
    exact congrArg Host.Outcome.next (honeySummary_manager d b manager)
  case cellServer =>
    rintro l d k s member rfl
    exact ⟨_, exec_cellServer_here l k member, by simp⟩
  case cellServed =>
    intro l d b q s member served
    exact congrArg Host.Outcome.next (forwardCell_served b member served)
  case cellRouted =>
    intro l d k b s member unserved route onward
    exact congrArg Host.Outcome.next (forwardCell_routed b member unserved route onward)
  case here =>
    intro l m s member admitted sound routed ends mine
    exact congrArg Host.Outcome.next (hmsgArrive_here member admitted sound routed ends mine)
  case onward =>
    intro l m s member admitted sound routed goes others near
    exact congrArg Host.Outcome.next (hmsgArrive_onward member admitted sound routed goes others near)
  case spent =>
    intro l m s member admitted sound routed goes others far
    exact congrArg Host.Outcome.next (hmsgArrive_spent member admitted sound routed goes others far)

end Sys2Proof.Machine
end

section
/-! Correction commands (R154, R156 to R175, R346): where no check fails, each command's run changes the settings it names,
and a piece of a table is staged or commits it. -/
namespace Sys2Proof.Machine

section
variable {r : Req} {s : State} {x : Ctx} (found : s.ctx (r.u32 0) = some x)
include found

/-! ### Settings (R154, R346) -/

/-- A correction command that passes its checks on a context changes its corrections, as group `k` of CORR_APPLIED. -/
theorem correction_of_passed {checks : Nat → Ctx → List (Bool × Fail)} {k : Nat} {n : Ctx → CorrSet}
    (h : (withCtx r s fun c y => checked (checks c y) fun _ => changeCorr c k (n y) s).failed = false) :
    (withCtx r s fun c y => checked (checks c y) fun _ => changeCorr c k (n y) s) =
      .ok (changeCtx (r.u32 0) k (fun y => { y with corr := n x }) s) [] := by
  rw [withCtx_of_found found] at h ⊢
  exact checked_pass h

/-- CORR_SET_NOISE that passes its checks sets the noise model of the context's bands. -/
theorem corrSetNoise_of_passed (h : (cmdCorrSetNoise.run r s).failed = false) :
    cmdCorrSetNoise.run r s = .ok (changeCtx (r.u32 0) 1 (fun y => { y with corr := { x.corr with
      nmBlack := bandWords r x 4 x.corr.nmBlack, nmA := bandWords r x 0x14 x.corr.nmA
      nmB := bandWords r x 0x24 x.corr.nmB } }) s) [] := by
  simp only [cmdCorrSetNoise, corrCmd] at h ⊢
  exact correction_of_passed found h
/-- CORR_SET_TEMPORAL that passes its checks sets the words that its MODE uses. -/
theorem corrSetTemporal_of_passed (h : (cmdCorrSetTemporal.run r s).failed = false) :
    cmdCorrSetTemporal.run r s =
      .ok (changeCtx (r.u32 0) 2 (fun y => { y with corr := temporalOf r x.corr }) s) [] := by
  simp only [cmdCorrSetTemporal, corrCmd] at h ⊢
  exact correction_of_passed found h
/-- CORR_SET_SPATIAL that passes its checks sets the hold and the two thresholds. -/
theorem corrSetSpatial_of_passed (h : (cmdCorrSetSpatial.run r s).failed = false) :
    cmdCorrSetSpatial.run r s = .ok (changeCtx (r.u32 0) 3 (fun y => { y with corr := { x.corr with
      spHold := r.u32 4 == 1, kSp := r.u32 8, kOut := r.u32 0x0C } }) s) [] := by
  simp only [cmdCorrSetSpatial, corrCmd] at h ⊢
  exact correction_of_passed found h
/-- CORR_SET_BLACK that passes its checks sets the dark columns only where they are tracked (R168). -/
theorem corrSetBlack_of_passed (h : (cmdCorrSetBlack.run r s).failed = false) :
    cmdCorrSetBlack.run r s = .ok (changeCtx (r.u32 0) 4 (fun y => { y with corr := { x.corr with
      blackTrack := r.u32 4 == 1, black := bandWords r x 8 x.corr.black
      darkX0 := if r.u32 4 == 1 then bandWords r x 0x18 x.corr.darkX0 else x.corr.darkX0
      darkN := if r.u32 4 == 1 then bandWords r x 0x28 x.corr.darkN else x.corr.darkN
      pedestal := r.u32 0x38 } }) s) [] := by
  simp only [cmdCorrSetBlack, corrCmd] at h ⊢
  exact correction_of_passed found h
/-- CORR_SET_REGISTRATION that passes its checks sets the hold and the shifts of the context's bands. -/
theorem corrSetRegistration_of_passed (h : (cmdCorrSetRegistration.run r s).failed = false) :
    cmdCorrSetRegistration.run r s = .ok (changeCtx (r.u32 0) 5 (fun y => { y with corr := { x.corr with
      regHold := r.u32 4, regV := bandWords r x 8 x.corr.regV
      regX0 := (List.range 4).map fun k => if k < x.bands then s32At r.body (0x18 + 4 * k) else x.corr.regX0.getD k 0
      regScale := bandWords r x 0x28 x.corr.regScale } }) s) [] := by
  simp only [cmdCorrSetRegistration, corrCmd] at h ⊢
  exact correction_of_passed found h
/-- A command that sets the enables, of whichever bits may be set, and passes its checks sets them. -/
theorem setEnables_of_passed {allowed : Nat} (h : (setEnables allowed r s).failed = false) :
    setEnables allowed r s =
      .ok (changeCtx (r.u32 0) 6 (fun y => { y with corr := { x.corr with enables := r.u32 4 } }) s) [] :=
  correction_of_passed found h

/-! ### Tables (R171 to R173) -/

/-- A first piece that passes its checks and is not the last takes the place of what was staged of its table. -/
theorem loadTable_stages {allowed : Nat → Bool} (h : (loadTable allowed r s).failed = false)
    (first : bit (r.u32 8) 0 = true) (more : bit (r.u32 8) 1 = false) :
    loadTable allowed r s = .ok { s with
      staging := (s.staging.filter fun y => !(y.ctx == r.u32 0 && y.table == r.u32 4)) ++
        [{ ctx := r.u32 0, table := r.u32 4, size := x.tableSize (r.u32 4)
           writes := [(r.u32 0x0C, r.body.drop 0x14)] }] } [] := by
  simp only [loadTable, withCtx_of_found found] at h ⊢
  rw [checked_pass h]
  simp [first, more]
/-- A single piece that passes its checks commits its table, and answers the table's length and whether it is protected. -/
theorem loadTable_commits {allowed : Nat → Bool} (h : (loadTable allowed r s).failed = false)
    (first : bit (r.u32 8) 0 = true) (last : bit (r.u32 8) 1 = true) {t : List Byte} {y : State}
    (built : t = buildTable x (r.u32 4) [(r.u32 0x0C, r.body.drop 0x14)])
    (committed : y = commitTable (r.u32 0) (r.u32 4) t
      { s with staging := s.staging.filter fun y => !(y.ctx == r.u32 0 && y.table == r.u32 4) }) :
    loadTable allowed r s =
      .ok y (b32 t.length ++ b32 (b2n ((y.ctx (r.u32 0)).any fun v => v.comb.isSome && y.isProtected (r.u32 0)))) := by
  subst built committed
  simp only [loadTable, withCtx_of_found found] at h ⊢
  rw [checked_pass h]
  simp [first, last]
end

/-! ### The rows: where the run commits, the answer is concluded (R327) -/

section
variable {f : Fn} {m : Mbx} {s y : State} {p : List Byte}

theorem exec_corrSetBlack_commits (h : Accepted cmdCorrSetBlack f m s)
    (e : cmdCorrSetBlack.run (s.reqOf f m) s = .ok y p) :
    ∃ u, exec (.corrSetBlack f m) s = .next u ∧ Commits s u f m p y :=
  accepted_commits f.isLt h (cmdCorrSetBlack_foot (w := 8658124874) (by decide) _ s rfl) rfl rfl e
theorem exec_corrLoadTable_commits (h : Accepted cmdCorrLoadTable f m s)
    (e : loadTable (fun k => k == 0 || k == 1) (s.reqOf f m) s = .ok y p) :
    ∃ u, exec (.corrLoadTable f m) s = .next u ∧ Commits s u f m p y :=
  accepted_commits f.isLt h (cmdCorrLoadTable_foot (w := 12953092170) (by decide) _ s rfl) rfl rfl e
end

/-- Settles O11, command by command: the checks have passed, so the run is the change, and its answer is concluded. -/
theorem correctionCommandsComplete : Obligations.CorrectionCommandsComplete := by
  unfold Obligations.CorrectionCommandsComplete
  refine ⟨?noise, ?temporal, ?spatial, ?blackFixed, ?blackTracked, ?registration, ?enable, ?stage, ?commit⟩
  case noise =>
    intro f m s y h r found
    exact accepted_commits f.isLt h (cmdCorrSetNoise_foot (w := 8658124874) (by decide) _ s rfl) rfl rfl
      (corrSetNoise_of_passed found h.run_eq.2)
  case temporal =>
    intro f m s y h r found
    exact accepted_commits f.isLt h (cmdCorrSetTemporal_foot (w := 8658124874) (by decide) _ s rfl) rfl rfl
      (corrSetTemporal_of_passed found h.run_eq.2)
  case spatial =>
    intro f m s y h r found
    exact accepted_commits f.isLt h (cmdCorrSetSpatial_foot (w := 8658124874) (by decide) _ s rfl) rfl rfl
      (corrSetSpatial_of_passed found h.run_eq.2)
  case blackFixed =>
    intro f m s y h r found fixed
    have set := corrSetBlack_of_passed found h.run_eq.2
    simp only [fixed, Nat.reduceBEq, Bool.false_eq_true, if_false] at set
    exact exec_corrSetBlack_commits h set
  case blackTracked =>
    intro f m s y h r found tracked
    have set := corrSetBlack_of_passed found h.run_eq.2
    simp only [tracked, beq_self_eq_true, if_true] at set
    exact exec_corrSetBlack_commits h set
  case registration =>
    intro f m s y h r found
    exact accepted_commits f.isLt h (cmdCorrSetRegistration_foot (w := 8658124874) (by decide) _ s rfl) rfl rfl
      (corrSetRegistration_of_passed found h.run_eq.2)
  case enable =>
    intro f m s y h r found
    exact accepted_commits f.isLt h (cmdCorrSetEnable_foot (w := 8658124874) (by decide) _ s rfl) rfl rfl
      (setEnables_of_passed found h.run_eq.2)
  case stage =>
    intro f m s x h r found first more
    have staged := loadTable_stages (allowed := fun k => k == 0 || k == 1) found h.run_eq.2 first more
    exact exec_corrLoadTable_commits h staged
  case commit =>
    intro f m s x y h r found first last committed
    have answered := loadTable_commits (allowed := fun k => k == 0 || k == 1) found h.run_eq.2 first last rfl committed
    rw [← committed]
    exact exec_corrLoadTable_commits h answered

end Sys2Proof.Machine
end

section
/-! Segmentation and cell commands (R183, R186 to R189, R203, R208, R347): where no check fails, each command's run is its
commit, or the start of the capture. -/
namespace Sys2Proof.Machine

section
variable {r : Req} {s : State} {x : Ctx} (found : s.ctx (r.u32 0) = some x)
include found

/-- A command on a context there is that passes its checks gives its answer. -/
theorem withCtx_checked_of_passed {checks : Nat → Ctx → List (Bool × Fail)} {a : Nat → Ctx → Answer}
    (h : (withCtx r s fun c y => checked (checks c y) fun _ => a c y).failed = false) :
    (withCtx r s fun c y => checked (checks c y) fun _ => a c y) = a (r.u32 0) x := by
  rw [withCtx_of_found found] at h ⊢
  exact checked_pass h

/-! ### Settings (R183, R189, R203) -/

/-- SEG_SET_BACKGROUND that passes its checks sets whether the background is tracked, and the divisor. -/
theorem segSetBackground_of_passed (h : (cmdSegSetBackground.run r s).failed = false) :
    cmdSegSetBackground.run r s = .ok (changeCtx (r.u32 0) 9
      (fun y => { y with seg := { y.seg with bgTrack := r.u32 4 == 1, trackDiv := r.u32 8 } }) s) [] := by
  simp only [cmdSegSetBackground, corrCmd] at h ⊢
  exact withCtx_checked_of_passed found h
/-- SEG_SET_THRESHOLD that passes its checks sets the columns, the thresholds, and the context's bands' words. -/
theorem segSetThreshold_of_passed (h : (cmdSegSetThreshold.run r s).failed = false) :
    cmdSegSetThreshold.run r s = .ok (changeCtx (r.u32 0) 9 (fun y => { y with seg := { y.seg with
      segX0 := r.u32 4, segX1 := r.u32 8
      pol := bandWords r y 0x0C y.seg.pol, weight := bandWords r y 0x1C y.seg.weight
      combine := r.u32 0x2C, tLow := r.u32 0x30, tHigh := r.u32 0x34, minArea := r.u32 0x38 } }) s) [] := by
  simp only [cmdSegSetThreshold, corrCmd] at h ⊢
  exact withCtx_checked_of_passed found h
/-- SEG_SET_MORPH that passes its checks sets the operation. -/
theorem segSetMorph_of_passed (h : (cmdSegSetMorph.run r s).failed = false) :
    cmdSegSetMorph.run r s =
      .ok (changeCtx (r.u32 0) 9 (fun y => { y with seg := { y.seg with morph := r.u32 4 } }) s) [] := by
  simp only [cmdSegSetMorph, corrCmd] at h ⊢
  exact withCtx_checked_of_passed found h
/-- CELL_SET_FORMAT that passes its checks gives the context the cell format of the request (R203). -/
theorem cellSetFormat_of_passed (h : (cmdCellSetFormat.run r s).failed = false) :
    cmdCellSetFormat.run r s = .ok { s with ctxs := s.ctxs.put (r.u32 0) { x with fmt := cellFmt r } } [] := by
  simp only [cmdCellSetFormat] at h ⊢
  exact withCtx_checked_of_passed found h

/-! ### The capture of a background (R186) -/

/-- SEG_CAPTURE_BACKGROUND that passes its checks, of a context whose lines are segmented, ends the objects under way and
starts the capture. -/
theorem segCaptureBackground_of_passed (h : (cmdSegCaptureBackground.run r s).failed = false)
    (segmented : x.kind ≠ .fullFrame) :
    cmdSegCaptureBackground.run r s = .started (modCtx (r.u32 0)
      (fun y => { y with dyn := { y.dyn with capture := some { want := r.u32 4, got := 0, table := [] } } })
      (segResult (r.u32 0) s.now
        (endLabels (s.segCtx (r.u32 0) x) (segFlush (s.segCtx (r.u32 0) x) { dyn := x.dyn })) s)) [] := by
  simp only [cmdSegCaptureBackground, corrCmd] at h ⊢
  rw [withCtx_checked_of_passed found h, if_neg segmented]
end

/-! ### Stitch groups (R208) -/

section
variable {r : Req} {s : State} (h : (cmdStitchConfigure.run r s).failed = false)
include h

/-- STITCH_CONFIGURE of no members that passes its check removes the group, its fragments and its owner. -/
theorem stitchConfigure_removes (empty : r.u32 4 = 0) :
    cmdStitchConfigure.run r s = .ok (dropOwner .stitch (r.u32 0)
      { s with stitches := s.stitches.erase (r.u32 0), frags := s.frags.erase (r.u32 0) }) [] := by
  simp only [cmdStitchConfigure, if_pos empty] at h ⊢
  exact checked_pass h
/-- STITCH_CONFIGURE of members that passes its checks makes the group, owned by the caller. -/
theorem stitchConfigure_makes (members : r.u32 4 ≠ 0) :
    cmdStitchConfigure.run r s = .ok (setOwner .stitch (r.u32 0) r.fn { s with
      stitches := s.stitches.put (r.u32 0)
        { members := stitchMembers r
          offsets := (List.range (stitchMembers r).length).map fun k => s32At r.body (0x28 + 4 * k)
          tol := r.u32 0x48, timeout := r.u32 0x4C } }) [] := by
  simp only [cmdStitchConfigure, if_neg members] at h ⊢
  exact checked_pass h
end

/-- Settles O12, command by command: the checks have passed, so the run is the change, and its answer is concluded. -/
theorem segmentationCommandsComplete : Obligations.SegmentationCommandsComplete := by
  unfold Obligations.SegmentationCommandsComplete
  refine ⟨?background, ?threshold, ?morph, ?stage, ?capture, ?format, ?unstitch, ?stitch⟩
  case background =>
    intro f m s y h r found
    exact accepted_commits f.isLt h (cmdSegSetBackground_foot (w := 8658124874) (by decide) _ s rfl) rfl rfl
      (segSetBackground_of_passed found h.run_eq.2)
  case threshold =>
    intro f m s y h r found
    exact accepted_commits f.isLt h (cmdSegSetThreshold_foot (w := 8658124874) (by decide) _ s rfl) rfl rfl
      (segSetThreshold_of_passed found h.run_eq.2)
  case morph =>
    intro f m s y h r found
    exact accepted_commits f.isLt h (cmdSegSetMorph_foot (w := 8658124874) (by decide) _ s rfl) rfl rfl
      (segSetMorph_of_passed found h.run_eq.2)
  case stage =>
    intro f m s x h r found first more
    exact accepted_commits f.isLt h (cmdSegLoadBackground_foot (w := 12953092170) (by decide) _ s rfl) rfl rfl
      (loadTable_stages (allowed := fun k => k == 2) found h.run_eq.2 first more)
  case capture =>
    intro f m s x h r found segmented
    exact accepted_starts f.isLt h (cmdSegCaptureBackground_foot (w := 8658124874) (by decide) _ s rfl) rfl rfl
      (segCaptureBackground_of_passed found h.run_eq.2 segmented)
  case format =>
    intro f m s x h r found
    exact accepted_commits f.isLt h (cmdCellSetFormat_foot (w := 67108864) (by decide) _ s rfl) rfl rfl
      (cellSetFormat_of_passed found h.run_eq.2)
  case unstitch =>
    intro f m s h r empty
    exact accepted_commits f.isLt h (cmdStitchConfigure_foot (w := 1610612752) (by decide) _ s rfl) rfl rfl
      (stitchConfigure_removes h.run_eq.2 empty)
  case stitch =>
    intro f m s h r members
    exact accepted_commits f.isLt h (cmdStitchConfigure_foot (w := 1610612752) (by decide) _ s rfl) rfl rfl
      (stitchConfigure_makes h.run_eq.2 members)

end Sys2Proof.Machine
end

section
/-! Pairing and assembly (R207, R211, R222, R241, R251, R252, R311, R316): what each event does where its guard is open. -/
namespace Sys2Proof.Machine

/-! ### What the clock and the lists of waiting objects leave of a context's assembler -/

@[simp] theorem asmOf_advTo (t c : Nat) (s : State) : (advTo t s).asmOf c = s.asmOf c := by
  simp [State.asmOf]
@[simp] theorem asmOf_modUnpaired (g : Nat) (h : List Unpaired → List Unpaired) (c : Nat) (s : State) :
    (modUnpaired g h s).asmOf c = s.asmOf c := by
  simp [State.asmOf]

/-! ### Assemblers and seams (R207, R211) -/

/-- An assembler takes the item of its input to the object IDs, or to the cells (R207). -/
def takeItem (a : Nat) (i : AsmItem) (s : State) : State :=
  match i with
  | .obj o => takeObject a o s
  | .cell c d => takeCell a c d s
/-- ASM_OBJECT of a running assembler, with what waits at its input once the final fragments are settled. -/
theorem exec_asmObject {a : AsmId} {t : Nat} {i : AsmItem} {l : List AsmItem} {s : State} (runs : (s.asm a).failed = false)
    (waits : ((settleAll a (advTo t s)).asm a).queue = i :: l) :
    exec (.asmObject a t) s = .next (settleAll a
      (takeItem a i (modAsm a (fun v => { v with queue := l }) (settleAll a (advTo t s))))) := by
  show execAsmObject a t s = _
  cases i <;> simp [execAsmObject, takeItem, runs, waits]

/-- STITCH_TIMEOUT of a fragment whose wait is over: final alone, counted and reported. -/
theorem exec_stitchTimeout {g : Fin 32} {frag t : Nat} {st : Stitch} {v : Fragment} {s : State}
    (group : s.stitches.find g.val = some st) (held : ((s.frags.getD g.val []).find? fun y => y.id == frag) = some v)
    (waited : v.since + 1000 * st.timeout ≤ max s.now t) :
    let x := countCtx v.obj.ctx .stitchTimeout (modFrags g (fun l => l.filter fun y => y.id != frag) (advTo t s))
    exec (.stitchTimeout g frag t) s = .next (raise 0x0405 sevW g v.obj.ctx
      (objectId x.deviceId v.obj.ctx (takeSeq v.obj.ctx v.obj x).1) [x.ownerOf .stitch g]
      (mergeFinal (s.asmOf v.obj.ctx) g st [v] true x)) := by
  show execStitchTimeout g frag t s = _
  simp [execStitchTimeout, group, held, waited]

/-! ### Objects that stay unpaired (R222) -/

/-- UNPAIRED_WINDOW_END of an object that waits: it is emitted alone as its view's, and counted for its view. -/
theorem exec_unpairedWindowEnd {g : Fin 32} {id : Nat} {p : PGroup} {v : Unpaired} {s : State}
    (group : s.pgs.find g.val = some p) (waits : (p.unpaired.find? fun y => y.obj.id == id) = some v) :
    exec (.unpairedWindowEnd g id) s = .next (emitObjects g (s.asmOf v.obj.ctx)
      (if v.obj.view = 1 then none else some v.obj) (if v.obj.view = 1 then some v.obj else none) true
      (countPg g (if v.obj.view = 1 then .unpairedB else .unpairedA)
        (modUnpaired g (fun l => l.filter fun x => x.obj.id != id) (advTo v.ends s)))) := by
  show execUnpairedWindowEnd g id s = _
  by_cases viewB : v.obj.view = 1 <;> simp [execUnpairedWindowEnd, group, waits, viewB]

/-! ### Queues: cells delivered and decisions bound (R241, R311, R316) -/

section
variable {q : QId} {t slot : Nat} {v : Queue} {s : State} (found : s.queue q = some v) (reached : s.available v.owner = true)
  (room : v.cplFull = false)
include found reached room

/-- CELL_DELIVERY with a waiting cell and a prefetched buffer: the cell is cut to the buffer, written, freed and completed. -/
theorem exec_cellDelivery {w : WaitCell} {l : List WaitCell} {desc : List Byte} {fs : List (Nat × List Byte)} {x : BroodCell}
    (waits : v.waiting = w :: l) (enabled : v.state = .enabled) (buffer : v.fetched = (slot, desc) :: fs)
    (kept : (s.asm w.asm).cells.find w.cell = some x) :
    let d := fitCell x.data (descLen desc)
    let y := (takeDesc q (setQueue q { v with waiting := l } (advTo t s))).2
    exec (.cellDelivery q t) s = .next (noteWait q (fetchMore q (complete q slot
      (cplBytes slot (if d.2 then cstTruncated else cstOk) 1 (descTag desc) d.1.length
        (u16At d.1 4 + 65536 * x.group.getD 255) x.id x.deadline)
      (freeCell w.asm w.cell
        (dma v.owner q (.write (descAddr desc) d.1) (if d.2 then countQ q .bufTrunc y else y)))))) := by
  show execCellDelivery q t s = _
  simp [execCellDelivery, found, reached, room, waits, enabled, buffer, kept]
/-- DECISION_RECORD_BIND with a fetched record of an ENABLED queue: the record is bound and its completion says how. -/
theorem exec_decisionRecordBind {rec : List Byte} {l : List (Nat × List Byte)} (record : v.fetched = (slot, rec) :: l)
    (decisions : v.kind = qtDecision) (enabled : v.state = .enabled) :
    let z := bindDecision v.owner rec (takeDesc q (advTo t s)).2
    exec (.decisionRecordBind q t) s = .next (fetchMore q (complete q slot
      (cplBytes slot cstOk 1 (byteAt rec 0x0F) 16 z.1 (u64At rec 0) (max s.now t)) z.2)) := by
  show execDecisionRecordBind q t s = _
  simp [execDecisionRecordBind, found, reached, room, record, decisions, enabled]
end

/-! ### Rules read (R241, R350) -/

/-- RULES_READ_COMPLETE of the request that waits, with rules that all keep their ranges: they take the set's place. -/
theorem exec_rulesReadComplete {f : Fn} {m : Mbx} {b : List Byte} {w : Waiting} {g n : Nat} {s : State}
    (waits : s.waiting = some w) (ofFn : w.fn = f.val) (ofMbx : w.mbx = m.val) (rules : w.what = .rules g n)
    (commits : ((s.mbx f.val m.val).request f.val m.val).checkOnly = false) (good : (rulesOf n b).all ruleOk = true) :
    exec (.rulesReadComplete f m (some b)) s =
      .next (finishWait w (.ok (setRules g (rulesOf n b) { s with waiting := none }) (b32 n)) s) := by
  show execRulesReadComplete f m (some b) s = _
  simp [execRulesReadComplete, waits, ofFn, ofMbx, rules, commits, good]

/-! ### Messages of the hive (R251, R252) -/

/-- A forwarded decision on an object of this device binds, with the hive as its sender. -/
theorem exec_ejectDecisionReceived {src t : Nat} {body : List Byte} {s : State} (whole : body.length = 16)
    (own : u64At body 0 / 2 ^ 48 = s.deviceId) (foreign : src ≠ s.deviceId) :
    exec (.ejectDecisionReceived src body t) s = .next (bindDecision ownHive body (advTo t s)).2 := by
  show execEjectDecisionReceived src body t s = _
  simp only [execEjectDecisionReceived, ejectDecision, advTo_frame, whole, own]
  simp [foreign]

/-- The valves that an EJECT ACTIONS message lists (R251). -/
def ejectValves (body : List Byte) : List Nat :=
  (List.range (byteAt body 0x14)).map fun k => u16At body (0x18 + 2 * k)
/-- A message whose valves are all the hive's own: none of them is dropped, and every pulse is placed. -/
theorem ejectPulses_of_owned {src : Nat} {body : List Byte} {s : State} (inHive : s.inHive = true)
    (count : 1 ≤ byteAt body 0x14 ∧ byteAt body 0x14 ≤ 64) (whole : body.length = 24 + 2 * byteAt body 0x14)
    (owned : ∀ v ∈ ejectValves body, v < 4096 ∧ s.ownerOf .valvePort (v / 512) = ownHive) :
    ejectPulses src body s = placePulses (byteAt body 0x15 % 32) (u64At body 0)
      (Config.rowGap src (byteAt body 0x15 % 32)) (u64At body 8) (u32At body 0x10) [] (ejectValves body) s := by
  have passes : ¬(byteAt body 0x14 < 1 ∨ 64 < byteAt body 0x14 ∨ body.length ≠ 24 + 2 * byteAt body 0x14 ∨
      (!s.inHive) = true) := by
    simp [inHive, whole]; omega
  have listed : ((List.range (byteAt body 0x14)).map fun k => u16At body (0x18 + 2 * k)) = ejectValves body := rfl
  have valves : (ejectValves body).filter (· < 4096) = ejectValves body :=
    List.filter_eq_self.mpr fun v h => decide_eq_true (owned v h).1
  have mine : ((ejectValves body).filter fun v => s.ownerOf .valvePort (v / 512) == ownHive) = ejectValves body :=
    List.filter_eq_self.mpr fun v h => beq_iff_eq.mpr (owned v h).2
  have denied : ((ejectValves body).filter fun v => s.ownerOf .valvePort (v / 512) != ownHive) = [] :=
    List.filter_eq_nil_iff.mpr fun v h => by simp [(owned v h).2]
  simp only [ejectPulses, if_neg passes, listed, valves, mine, denied, List.foldl_nil]

/-- Settles O15, event by event: the guard is open, so the step is what the event's rule says. -/
theorem pairingAndAssemblyEventsAct : Obligations.PairingAndAssemblyEventsAct := by
  unfold Obligations.PairingAndAssemblyEventsAct
  refine ⟨?object, ?stitch, ?unpaired, ?cell, ?rules, ?decision, ?forwarded, ?actions⟩
  case object =>
    rintro a t i l _ s runs rfl waits
    exact exec_asmObject runs waits
  case stitch =>
    rintro g frag t _ st v _ s group held waited rfl rfl
    exact exec_stitchTimeout group held waited
  case unpaired =>
    intro g id p v s group waits
    exact exec_unpairedWindowEnd group waits
  case cell =>
    rintro q t slot v w l desc fs x _ _ s found waits enabled reached room buffer kept rfl rfl
    exact exec_cellDelivery found reached room waits enabled buffer kept
  case rules =>
    intro f m b w g n s waits ofFn ofMbx rules commits good
    exact exec_rulesReadComplete waits ofFn ofMbx rules commits good
  case decision =>
    rintro q t slot v rec l _ _ s found record decisions enabled reached room rfl rfl
    exact exec_decisionRecordBind found reached room record decisions enabled
  case forwarded =>
    intro src body t s whole own foreign
    exact exec_ejectDecisionReceived whole own foreign
  case actions =>
    rintro src body t _ s inHive rfl count whole owned
    have hive : (advTo t s).inHive = true := by simpa [State.inHive] using inHive
    refine congrArg Host.Outcome.next (ejectPulses_of_owned hive count whole fun v listed => ?_)
    obtain ⟨k, hk, rfl⟩ := List.mem_map.mp listed
    simpa using owned k (List.mem_range.mp hk)

end Sys2Proof.Machine
end

section
/-! Pairing commands (R216, R218, R230, R241, R244, R253, R348 to R351): where no check fails, each command's run is its
commit, or the request it waits for. -/
namespace Sys2Proof.Machine

/-! ### PG_CONFIGURE (R216, R218, R348) -/

/-- The settings of the request, or of the calibration record where it asks for them (R348). -/
def Req.pgSet (r : Req) (vb : Option View) (s : State) : PgSet :=
  pgSettings (pgWord r (if bit (r.u32 4) 0 then s.pgCal (r.u32 0) else none)) vb.isNone
/-- A group of the request's views and settings: one that there is keeps its rows, its rules and its steering. -/
def Req.pgConfigured (r : Req) (vb : Option View) (s : State) : Option PGroup → PGroup
  | some p => { p with viewA := (viewWord (r.u32 8)).getD (.ctx 0), viewB := vb, set := r.pgSet vb s }
  | none => { viewA := (viewWord (r.u32 8)).getD (.ctx 0), viewB := vb, set := r.pgSet vb s }

section
variable {r : Req} {s : State} (h : (cmdPgConfigure.run r s).failed = false)
include h

/-- PG_CONFIGURE with RELEASE that passes its checks removes the group and its owner. -/
theorem pgConfigure_frees (release : pgRelease r = true) :
    cmdPgConfigure.run r s = .ok (dropOwner .pairing (r.u32 0) { s with pgs := s.pgs.erase (r.u32 0) }) [] := by
  simp only [cmdPgConfigure, pgFree, if_pos release] at h ⊢
  exact checked_pass h
/-- PG_CONFIGURE without RELEASE that passes its checks configures the group there is, or makes it, and the
caller owns it. -/
theorem pgConfigure_sets {vb : Option View} (kept : pgRelease r = false)
    (viewB : vb = if r.u32 0xC = wordNone then none else viewWord (r.u32 0xC)) :
    cmdPgConfigure.run r s = .ok (setOwner .pairing (r.u32 0) r.fn
      { s with pgs := s.pgs.put (r.u32 0) (r.pgConfigured vb s (s.pgs.find (r.u32 0))) }) [] := by
  subst viewB
  simp only [cmdPgConfigure, pgSetup, kept, Bool.false_eq_true, if_false] at h ⊢
  rw [checked_pass h]
  cases s.pgs.find (r.u32 0) <;> rfl
end

/-! ### PG_SET_ROW (R230, R349) -/

section
variable {r : Req} {s : State} {p : PGroup} (found : s.pgs.find (r.u32 0) = some p)
include found

/-- The commit of PG_SET_ROW on a group there is: the row is set, or deleted. -/
theorem pgSetRowCommit_of_found :
    pgSetRowCommit r s = { s with
      pgs := s.pgs.put (r.u32 0)
        { p with rows := p.rows.set (r.u32 4) (if bit (r.u32 8) 0 then none else some (rowOf r)) } } := by
  simp only [pgSetRowCommit, found]

variable (h : (cmdPgSetRow.run r s).failed = false)
include h

/-- PG_SET_ROW of a LOCAL row, or that deletes one, and passes its checks commits. -/
theorem pgSetRow_commits (here : (rowOf r).device = none ∨ bit (r.u32 8) 0 = true) :
    cmdPgSetRow.run r s = .ok (pgSetRowCommit r s) [] := by
  simp only [cmdPgSetRow, found] at h ⊢
  rw [checked_pass h]
  cases device : (rowOf r).device with
  | none => rfl
  | some d =>
    have deletes : bit (r.u32 8) 0 = true := here.resolve_left (by simp [device])
    exact if_pos deletes
/-- PG_SET_ROW of a row on another device that passes its checks asks that device for the owners of the row's ports. -/
theorem pgSetRow_asks {d : Nat} (there : (rowOf r).device = some d) (sets : bit (r.u32 8) 0 = false)
    (foreign : d ≠ s.deviceId ∨ s.inHive = false) :
    cmdPgSetRow.run r s = askOwner r d 4 (rowOf r).ports s := by
  have notOwn : ¬(d = s.deviceId ∧ s.inHive = true) := by
    rintro ⟨own, inHive⟩
    exact foreign.elim (· own) (by simp [inHive])
  simp only [cmdPgSetRow, found] at h ⊢
  rw [checked_pass h]
  simp only [there, sets, Bool.false_eq_true, if_false, if_neg notOwn]
end

/-- A device that can be reached is asked for the first owner, and the keeper waits. -/
theorem askOwner_of_sent {r : Req} {device kind i : Nat} {left l : List Nat} {s x : State} (first : left = i :: l)
    (sent : sendRemote device r.fn 0x0004 0 r.tag (b32 kind ++ b32 i) s = (true, x)) :
    askOwner r device kind left s = .wait { x with
      waiting := some { fn := r.fn, mbx := r.mbx, since := s.now, what := .owners device kind left } } true := by
  subst first
  simp only [askOwner, sent, if_true]

/-! ### PG_LOAD_RULES (R241, R350) -/

section
variable {r : Req} {s : State} (h : (cmdPgLoadRules.run r s).failed = false)
include h

/-- PG_LOAD_RULES of no rules that passes its checks clears the rule set. -/
theorem pgLoadRules_clears (empty : r.u32 4 = 0) :
    cmdPgLoadRules.run r s = .ok (setRules (r.u32 0) [] s) (b32 0) := by
  simp only [cmdPgLoadRules] at h ⊢
  rw [checked_pass h, if_pos empty]
/-- PG_LOAD_RULES of rules that passes its checks reads them from the caller's host memory, and waits. -/
theorem pgLoadRules_reads (listed : r.u32 4 ≠ 0) (host : r.fn ≠ ownHive) (reached : s.available r.fn = true) :
    cmdPgLoadRules.run r s = .wait (dma r.fn (65536 + r.mbx) (.read (u64At r.body 8) (64 * r.u32 4) (.rules r.mbx))
      { s with waiting := some { fn := r.fn, mbx := r.mbx, since := s.now, what := .rules (r.u32 0) (r.u32 4) } })
      true := by
  simp only [cmdPgLoadRules] at h ⊢
  rw [checked_pass h, if_neg listed, if_neg host, if_pos reached]
end

/-! ### PG_SET_STEERING (R244, R351) -/

/-- The steering entries of a context (`t.1`), or of a group where it exists, are replaced. -/
def setSteer (t : Bool × Nat) (l : List SteerEntry) (s : State) : State :=
  if t.1 then { s with ctxSteer := s.ctxSteer.put t.2 l }
  else { s with pgs := match s.pgs.find t.2 with
    | some p => s.pgs.put t.2 { p with steer := l }
    | none => s.pgs }
/-- PG_SET_STEERING that passes its checks sets the entries of its group or context, each on its backup where its primary's
function is not available. -/
theorem pgSetSteering_of_passed {r : Req} {s : State} {l : List SteerEntry}
    (h : (cmdPgSetSteering.run r s).failed = false)
    (entries : l = ((List.range (min (r.u32 4) 16)).map (steerWords r)).map (newSteer s)) :
    cmdPgSetSteering.run r s = .ok (steerStarts (steerTarget r) l (setSteer (steerTarget r) l s)) [] := by
  subst entries
  simp only [cmdPgSetSteering, setSteering] at h ⊢
  exact checked_pass h

/-! ### The rows: where the run commits, the answer is concluded (R327) -/

section
variable {f : Fn} {m : Mbx} {s x : State} {p : List Byte}

theorem exec_pgConfigure_commits (h : Accepted cmdPgConfigure f m s)
    (e : cmdPgConfigure.run (s.reqOf f m) s = .ok x p) :
    ∃ u, exec (.pgConfigure f m) s = .next u ∧ Commits s u f m p x :=
  accepted_commits f.isLt h (cmdPgConfigure_foot (w := 17179869200) (by decide) _ s rfl) rfl rfl e
end

/-- A mailbox's requests are a function's, never the hive's. -/
theorem reqOf_fn_ne_hive (f : Fn) (m : Nat) (s : State) : (s.reqOf f m).fn ≠ ownHive :=
  Nat.ne_of_lt f.isLt

/-- Settles O13, command by command: the checks have passed, so the run is the commit, and its answer is concluded; where
another device or the host is asked, the keeper waits. -/
theorem pairingCommandsComplete : Obligations.PairingCommandsComplete := by
  unfold Obligations.PairingCommandsComplete
  refine ⟨?release, ?configure, ?make, ?row, ?remoteRow, ?clearRules, ?readRules, ?steering, ?status⟩
  case release =>
    intro f m s h r release
    exact exec_pgConfigure_commits h (pgConfigure_frees h.run_eq.2 release)
  case configure =>
    intro f m s p vb h r kept found viewB
    have sets := pgConfigure_sets h.run_eq.2 kept viewB
    rw [found] at sets
    exact exec_pgConfigure_commits h sets
  case make =>
    intro f m s vb h r kept absent viewB
    have sets := pgConfigure_sets h.run_eq.2 kept viewB
    rw [absent] at sets
    exact exec_pgConfigure_commits h sets
  case row =>
    intro f m s p h r found here
    have commits := pgSetRow_commits (r := s.reqOf f m) found h.run_eq.2 here
    rw [pgSetRowCommit_of_found found] at commits
    exact accepted_commits f.isLt h (cmdPgSetRow_foot (w := 17217880128) (by decide) _ s rfl) rfl rfl commits
  case remoteRow =>
    intro f m s x p d i l h r found there sets foreign first sent
    have asks := (pgSetRow_asks (r := s.reqOf f m) found h.run_eq.2 there sets foreign).trans (askOwner_of_sent first sent)
    exact congrArg Host.Outcome.next (accepted_waits h asks)
  case clearRules =>
    intro f m s h r empty
    exact accepted_commits f.isLt h (cmdPgLoadRules_foot (w := 17180164098) (by decide) _ s rfl) rfl rfl
      (pgLoadRules_clears h.run_eq.2 empty)
  case readRules =>
    intro f m s h r listed reached
    have reads := pgLoadRules_reads h.run_eq.2 listed (reqOf_fn_ne_hive f m s) reached
    exact congrArg Host.Outcome.next (accepted_waits h reads)
  case steering =>
    rintro f m s _ l h r rfl entries
    exact accepted_commits f.isLt h (cmdPgSetSteering_foot (w := 85900427330) (by decide) _ s rfl) rfl rfl
      (pgSetSteering_of_passed h.run_eq.2 entries)
  case status =>
    rintro f m s _ h r rfl
    exact accepted_commits f.isLt h (cmdPgGetStatus_foot (w := 34359771136) (by decide) _ s rfl) rfl rfl rfl

end Sys2Proof.Machine
end

section
/-! Decisions (R237, R238, R247 to R249, Table 8-5): how a record binds, what a verdict places, and when an entry that has
settled is freed. -/
namespace Sys2Proof.Machine

/-! ### Binding (R247, Table 8-5) -/

/-- The verdict of a record is ACCEPT, REJECT, ALT or DEFER, and its object ID is this device's. -/
def bindsHere (rec : List Byte) (s : State) : Prop :=
  (byteAt rec 8 ≤ 2 ∨ byteAt rec 8 = 0xFF) ∧ u64At rec 0 / 2 ^ 48 = s.deviceId

/-- A record for an object without an entry is ignored, and counted for the function that sent it. -/
theorem bindDecision_unknown {sender : Nat} {rec : List Byte} {s : State} (here : bindsHere rec s)
    (absent : s.entryOf (u64At rec 0) = none) :
    bindDecision sender rec s = (brUnknown, if sender < 4 then countHp sender .unknownDec s else s) := by
  obtain ⟨verdict, own⟩ := here
  simp [bindDecision, verdict, own, absent, -Nat.reducePow]
/-- A record for an object with an entry: the decider, the deadline, the entry's state and DEFER, in the table's order. -/
theorem bindDecision_of_entry {sender n : Nat} {p : Pending} {rec : List Byte} {s : State} (here : bindsHere rec s)
    (entry : s.entryOf (u64At rec 0) = some (n, p)) :
    bindDecision sender rec s =
      if p.decider ≠ some sender ∧ s.ownerOf .pairing p.group ≠ sender then
        (brNotDecider, countPg p.group .notDecider s)
      else if p.deadline < s.now then (brLate, lateDecision p (u64At rec 0) s)
      else if p.settled then (brDuplicate, countPg p.group .dup s)
      else if byteAt rec 8 = 0xFF then (brDeferred, countPg p.group .defer s)
      else (brSettled, settle n (byteAt rec 8) (if bit (byteAt rec 9) 0 then toSigned 16 (u16At rec 0x0A) else 0)
        (if bit (byteAt rec 9) 1 then some (u16At rec 0x0C, byteAt rec 0x0E) else none)
        (countPg p.group .hostVerdict s)) := by
  obtain ⟨verdict, own⟩ := here
  simp [bindDecision, verdict, own, entry, -Nat.reducePow]

/-! ### Settlement (R248, R249) -/

/-- The entry at slot `n` is SETTLED, and remembers whether the schedule holds an action of it (R238). -/
def markSettled (n : Nat) (s : State) : State :=
  modPend n (fun p => { p with settled := true, acted := s.flight.actions.any fun a => a.2.entries.contains n }) s

section
variable {n : Nat} {p : Pending} {s : State} (entry : s.pend.find n = some p)
include entry

section
variable (ext : Int) (o : Option (Nat × Nat))

/-- ACCEPT places no action. -/
theorem settle_accept : settle n vAccept ext o s = markSettled n s := by
  simp [settle, markSettled, entry, vAccept, vReject, vAlt]
/-- REJECT places the primary row. -/
theorem settle_reject : settle n vReject ext o s = markSettled n (placeRow n p 0 ext o s) := by
  simp [settle, markSettled, entry]
/-- ALT places the alternate row, or without one the primary row, counted. -/
theorem settle_alt :
    settle n vAlt ext o s = markSettled n (if ((s.pgs.find p.group).bind (·.row 1)).isSome then placeRow n p 1 ext o s
      else placeRow n p 0 ext o (countPg p.group .altNoRow s)) := by
  simp [settle, markSettled, entry, vReject, vAlt]
end

/-- An entry with a rule verdict settles on it, unless it is ABSTAIN. -/
theorem settleOwn_rule {v : Nat} (rule : p.rule = some v) :
    settleOwn n s = if v < 3 then settle n v 0 none (countPg p.group .ruleVerdict s)
      else settle n p.dflt 0 none (countPg p.group .defaultVerdict s) := by
  simp [settleOwn, entry, rule]
/-- An entry without a rule verdict settles on its default. -/
theorem settleOwn_default (rule : p.rule = none) :
    settleOwn n s = settle n p.dflt 0 none (countPg p.group .defaultVerdict s) := by
  simp [settleOwn, entry, rule]

/-- DECISION_DEADLINE of a WAITING entry: it settles by itself, at its deadline. -/
theorem exec_decisionDeadline (waits : p.settled = false) :
    exec (.decisionDeadline n) s = .next (settleOwn n (advTo p.deadline s)) := by
  show execDecisionDeadline n s = _
  simp [execDecisionDeadline, entry, waits]
/-- PENDING_ENTRY_FREE of a SETTLED entry none of whose actions waits (R238). -/
theorem exec_pendingEntryFree (settled : p.settled = true) (done : ∀ a ∈ s.flight.actions, n ∉ a.2.entries) :
    exec (.pendingEntryFree n) s =
      .next { (if p.acted then s else advTo p.tCross s) with pend := s.pend.erase n } := by
  have idle : (s.flight.actions.any fun a => a.2.entries.contains n) = false := by simpa using done
  show execPendingEntryFree n s = _
  simp only [execPendingEntryFree, entry, settled, idle]
  rfl
end

/-- Settles O14: the rows of Table 8-5 in their order, the placements of each verdict, and the ends of a waiting and of a
settled entry. -/
theorem decisionsBindByTable : Obligations.DecisionsBindByTable := by
  unfold Obligations.DecisionsBindByTable
  refine ⟨?unknown, ?known, ?placements, ?ruled, ?unruled, ?free⟩
  case unknown =>
    intro k rec s function verdict own absent
    rw [bindDecision_unknown ⟨verdict, own⟩ absent, if_pos function]
    rfl
  case known =>
    intro k n p rec s verdict own entry
    exact bindDecision_of_entry ⟨verdict, own⟩ entry
  case placements =>
    intro n p ext o s entry w
    exact ⟨settle_accept entry ext o, settle_reject entry ext o, settle_alt entry ext o⟩
  case ruled =>
    intro n v p s entry waits rule
    have entryThen : (advTo p.deadline s).pend.find n = some p := by simpa using entry
    rw [exec_decisionDeadline entry waits, settleOwn_rule entryThen rule]
  case unruled =>
    intro n p s entry waits rule
    have entryThen : (advTo p.deadline s).pend.find n = some p := by simpa using entry
    rw [exec_decisionDeadline entry waits, settleOwn_default entryThen rule]
  case free =>
    intro n p s entry settled done
    refine ⟨_, exec_pendingEntryFree entry settled done, rfl, ?unacted, ?acted⟩
    case unacted =>
      intro unacted
      simp only [unacted, Bool.false_eq_true, if_false]
      exact now_advTo p.tCross s
    case acted =>
      intro acted
      simp only [acted, if_true]

end Sys2Proof.Machine
end

section
/-! The valve ports stay safe (R255, R256, R258, R259, R352, R513): at reset, through every command and event, and so through
every step. -/
namespace Sys2Proof.Machine

/-- A port out of reset has its settings of Table 9-3. -/
theorem vp_reset (v : Nat) : State.reset.vp v = {} := rfl

/-- A port in OFF with no valve opened yet is safe. -/
theorem safe_default : ValvePort.Safe {} :=
  ⟨fun _ _ => ⟨rfl, rfl⟩, fun _ => rfl, fun _ => ⟨rfl, rfl⟩, by decide, by decide, by decide⟩

/-- Settles O55: each port has its reset values, and these are safe. -/
theorem resetPortsAreSafe : Obligations.ResetPortsAreSafe := by
  unfold Obligations.ResetPortsAreSafe
  exact ⟨fun v => vp_reset v ▸ ⟨rfl, rfl, rfl, rfl⟩, fun v => vp_reset v ▸ safe_default⟩

/-- Every command and event keeps the valve ports safe: each row by its own law. -/
theorem exec_valves {c : Instr} {s t : State} (safe : s.ValvesSafe) (next : exec c s = .next t) : t.ValvesSafe := by
  cases c with
  | registerWrite => exact registerWrite_row_valves safe next
  | hbTimeLoRead => exact hbTimeLoRead_row_valves safe next
  | mbxGo => exact mbxGo_row_valves safe next
  | mbxAbort => exact mbxAbort_row_valves safe next
  | abortComplete => exact abortComplete_row_valves safe next
  | qdbTailWrite => exact qdbTailWrite_row_valves safe next
  | qdbCplHeadWrite => exact qdbCplHeadWrite_row_valves safe next
  | decisionApertureWrite => exact decisionApertureWrite_row_valves safe next
  | pwCommitWrite => exact pwCommitWrite_row_valves safe next
  | peerWindowWrite => exact peerWindowWrite_row_valves safe next
  | wgFireWrite => exact wgFireWrite_row_valves safe next
  | devGetInfo => exact devGetInfo_row_valves safe next
  | devGetPortStatus => exact devGetPortStatus_row_valves safe next
  | devAssign => exact devAssign_row_valves safe next
  | devGetOwner => exact devGetOwner_row_valves safe next
  | laneConfigure => exact laneConfigure_row_valves safe next
  | laneGetStatus => exact laneGetStatus_row_valves safe next
  | laneSetPower => exact laneSetPower_row_valves safe next
  | laneEyeScan => exact laneEyeScan_row_valves safe next
  | pllLock => exact pllLock_row_valves safe next
  | trainingFrameReceived => exact trainingFrameReceived_row_valves safe next
  | coefficientUpdate => exact coefficientUpdate_row_valves safe next
  | rxReady => exact rxReady_row_valves safe next
  | trainEndDone => exact trainEndDone_row_valves safe next
  | trainingTimerExpiry => exact trainingTimerExpiry_row_valves safe next
  | trainFailRetry => exact trainFailRetry_row_valves safe next
  | lockTimeout => exact lockTimeout_row_valves safe next
  | idleFreeze => exact idleFreeze_row_valves safe next
  | adaptationResume => exact adaptationResume_row_valves safe next
  | eyeWindow => exact eyeWindow_row_valves safe next
  | driftAdaptEnd => exact driftAdaptEnd_row_valves safe next
  | losAssert => exact losAssert_row_valves safe next
  | losDeassert => exact losDeassert_row_valves safe next
  | losRetrain => exact losRetrain_row_valves safe next
  | lolAssert => exact lolAssert_row_valves safe next
  | dozeSelfWake => exact dozeSelfWake_row_valves safe next
  | fastResumeTimeout => exact fastResumeTimeout_row_valves safe next
  | fecFrameReceived => exact fecFrameReceived_row_valves safe next
  | huntPeriod => exact huntPeriod_row_valves safe next
  | controlBlockReceived => exact controlBlockReceived_row_valves safe next
  | packetReceived => exact packetReceived_row_valves safe next
  | lineSegmentReceived => exact lineSegmentReceived_row_valves safe next
  | fmarkReceived => exact fmarkReceived_row_valves safe next
  | cctlRequestReceived => exact cctlRequestReceived_row_valves safe next
  | cctlAckReceived => exact cctlAckReceived_row_valves safe next
  | cctlTimeout => exact cctlTimeout_row_valves safe next
  | testPacketReceived => exact testPacketReceived_row_valves safe next
  | eventBlockReceived => exact eventBlockReceived_row_valves safe next
  | creditBlockReceived => exact creditBlockReceived_row_valves safe next
  | creditRepeat => exact creditRepeat_row_valves safe next
  | packetTransmit => exact packetTransmit_row_valves safe next
  | generatedLine => exact generatedLine_row_valves safe next
  | timeSyncSend => exact timeSyncSend_row_valves safe next
  | timeBlockReceived => exact timeBlockReceived_row_valves safe next
  | timeExchangeMissed => exact timeExchangeMissed_row_valves safe next
  | lmsgReceived => exact lmsgReceived_row_valves safe next
  | powerExchangeTimeout => exact powerExchangeTimeout_row_valves safe next
  | alignMarkSend => exact alignMarkSend_row_valves safe next
  | alignMarkReceived => exact alignMarkReceived_row_valves safe next
  | linkDegrade => exact linkDegrade_row_valves safe next
  | alignDegradeReceived => exact alignDegradeReceived_row_valves safe next
  | alignRestripeReceived => exact alignRestripeReceived_row_valves safe next
  | bondLaneRestore => exact bondLaneRestore_row_valves safe next
  | alignRestoreReceived => exact alignRestoreReceived_row_valves safe next
  | descriptorRead => exact descriptorRead_row_valves safe next
  | descriptorReadRetry => exact descriptorReadRetry_row_valves safe next
  | ethFrameReceived => exact ethFrameReceived_row_valves safe next
  | ethLinkUp => exact ethLinkUp_row_valves safe next
  | arpIcmpAnswer => exact arpIcmpAnswer_row_valves safe next
  | tunnelOutSend => exact tunnelOutSend_row_valves safe next
  | gvspPacketReceived => exact gvspPacketReceived_row_valves safe next
  | gvspBlockTimeout => exact gvspBlockTimeout_row_valves safe next
  | ptpMessageSend => exact ptpMessageSend_row_valves safe next
  | ptpMessageReceived => exact ptpMessageReceived_row_valves safe next
  | ctxCreate => exact ctxCreate_row_valves safe next
  | ctxSet => exact ctxSet_row_valves safe next
  | ctxAssign => exact ctxAssign_row_valves safe next
  | ctxStart => exact ctxStart_row_valves safe next
  | ctxStop => exact ctxStop_row_valves safe next
  | ctxStopped => exact ctxStopped_row_valves safe next
  | ctxRelease => exact ctxRelease_row_valves safe next
  | ctxDestroy => exact ctxDestroy_row_valves safe next
  | ctxGetStatus => exact ctxGetStatus_row_valves safe next
  | intakeSetPartition => exact intakeSetPartition_row_valves safe next
  | combSetSpare => exact combSetSpare_row_valves safe next
  | combGetStatus => exact combGetStatus_row_valves safe next
  | lineTimeoutExpiry => exact lineTimeoutExpiry_row_valves safe next
  | frameTimeoutExpiry => exact frameTimeoutExpiry_row_valves safe next
  | stripeStart => exact stripeStart_row_valves safe next
  | combUngate => exact combUngate_row_valves safe next
  | combLine => exact combLine_row_valves safe next
  | combFault => exact combFault_row_valves safe next
  | spareCopyDone => exact spareCopyDone_row_valves safe next
  | corrSetNoise => exact corrSetNoise_row_valves safe next
  | corrSetTemporal => exact corrSetTemporal_row_valves safe next
  | corrSetSpatial => exact corrSetSpatial_row_valves safe next
  | corrSetBlack => exact corrSetBlack_row_valves safe next
  | corrSetRegistration => exact corrSetRegistration_row_valves safe next
  | corrSetEnable => exact corrSetEnable_row_valves safe next
  | corrLoadTable => exact corrLoadTable_row_valves safe next
  | segSetBackground => exact segSetBackground_row_valves safe next
  | segSetThreshold => exact segSetThreshold_row_valves safe next
  | segSetMorph => exact segSetMorph_row_valves safe next
  | segCaptureBackground => exact segCaptureBackground_row_valves safe next
  | bgCaptured => exact bgCaptured_row_valves safe next
  | segLoadBackground => exact segLoadBackground_row_valves safe next
  | cellSetFormat => exact cellSetFormat_row_valves safe next
  | stitchConfigure => exact stitchConfigure_row_valves safe next
  | asmObject => exact asmObject_row_valves safe next
  | stitchTimeout => exact stitchTimeout_row_valves safe next
  | unpairedWindowEnd => exact unpairedWindowEnd_row_valves safe next
  | cellDelivery => exact cellDelivery_row_valves safe next
  | pgConfigure => exact pgConfigure_row_valves safe next
  | pgSetRow => exact pgSetRow_row_valves safe next
  | pgLoadRules => exact pgLoadRules_row_valves safe next
  | rulesReadComplete => exact rulesReadComplete_row_valves safe next
  | pgSetSteering => exact pgSetSteering_row_valves safe next
  | pgGetStatus => exact pgGetStatus_row_valves safe next
  | decisionRecordBind => exact decisionRecordBind_row_valves safe next
  | decisionDeadline => exact decisionDeadline_row_valves safe next
  | pendingEntryFree => exact pendingEntryFree_row_valves safe next
  | ejectActionsReceived => exact ejectActionsReceived_row_valves safe next
  | ejectDecisionReceived => exact ejectDecisionReceived_row_valves safe next
  | vpConfigure => exact vpConfigure_row_valves safe next
  | vpSetMode => exact vpSetMode_row_valves safe next
  | vpTestFire => exact vpTestFire_row_valves safe next
  | vpGetStatus => exact vpGetStatus_row_valves safe next
  | vpClearFault => exact vpClearFault_row_valves safe next
  | valveFrameLatch => exact valveFrameLatch_row_valves safe next
  | feedbackFrameReceived => exact feedbackFrameReceived_row_valves safe next
  | feedbackMissed => exact feedbackMissed_row_valves safe next
  | valvePortReadbackFault => exact valvePortReadbackFault_row_valves safe next
  | hostLinkUp => exact hostLinkUp_row_valves safe next
  | hostLinkDown => exact hostLinkDown_row_valves safe next
  | steerRestore => exact steerRestore_row_valves safe next
  | perstAssert => exact perstAssert_row_valves safe next
  | perstDeassert => exact perstDeassert_row_valves safe next
  | configWrite => exact configWrite_row_valves safe next
  | flr => exact flr_row_valves safe next
  | flrComplete => exact flrComplete_row_valves safe next
  | translationCompletion => exact translationCompletion_row_valves safe next
  | invalidationRequest => exact invalidationRequest_row_valves safe next
  | readCompletionReceived => exact readCompletionReceived_row_valves safe next
  | completionTimeout => exact completionTimeout_row_valves safe next
  | tagQuarantineEnd => exact tagQuarantineEnd_row_valves safe next
  | linkL1Entry => exact linkL1Entry_row_valves safe next
  | doeRequest => exact doeRequest_row_valves safe next
  | qPartition => exact qPartition_row_valves safe next
  | qCreate => exact qCreate_row_valves safe next
  | qEnable => exact qEnable_row_valves safe next
  | qDisable => exact qDisable_row_valves safe next
  | qDisabled => exact qDisabled_row_valves safe next
  | qReset => exact qReset_row_valves safe next
  | qDestroy => exact qDestroy_row_valves safe next
  | qSetNotify => exact qSetNotify_row_valves safe next
  | qGetStatus => exact qGetStatus_row_valves safe next
  | descriptorFetchComplete => exact descriptorFetchComplete_row_valves safe next
  | notifyCoalTimeout => exact notifyCoalTimeout_row_valves safe next
  | sourcePacketSend => exact sourcePacketSend_row_valves safe next
  | frameRecordStart => exact frameRecordStart_row_valves safe next
  | frameRecordClose => exact frameRecordClose_row_valves safe next
  | timeGetStatus => exact timeGetStatus_row_valves safe next
  | timeSetSource => exact timeSetSource_row_valves safe next
  | timeSetExtOffset => exact timeSetExtOffset_row_valves safe next
  | timeSetPps => exact timeSetPps_row_valves safe next
  | sourceValidityChange => exact sourceValidityChange_row_valves safe next
  | sourcePromotion => exact sourcePromotion_row_valves safe next
  | ppsEdge => exact ppsEdge_row_valves safe next
  | extOffsetApply => exact extOffsetApply_row_valves safe next
  | ppsOutRise => exact ppsOutRise_row_valves safe next
  | ppsOutFall => exact ppsOutFall_row_valves safe next
  | schedAdd => exact schedAdd_row_valves safe next
  | schedCancel => exact schedCancel_row_valves safe next
  | schedGetStatus => exact schedGetStatus_row_valves safe next
  | actionExecute => exact actionExecute_row_valves safe next
  | wgConfigure => exact wgConfigure_row_valves safe next
  | wgConnect => exact wgConnect_row_valves safe next
  | wgSetGroup => exact wgSetGroup_row_valves safe next
  | wgExport => exact wgExport_row_valves safe next
  | wgGetStatus => exact wgGetStatus_row_valves safe next
  | producerOccurrence => exact producerOccurrence_row_valves safe next
  | channelDelayFire => exact channelDelayFire_row_valves safe next
  | wgImportReceived => exact wgImportReceived_row_valves safe next
  | encConfigure => exact encConfigure_row_valves safe next
  | encSetCount => exact encSetCount_row_valves safe next
  | encGetStatus => exact encGetStatus_row_valves safe next
  | emuConfigure => exact emuConfigure_row_valves safe next
  | gpioConfigure => exact gpioConfigure_row_valves safe next
  | gpioWrite => exact gpioWrite_row_valves safe next
  | gpioGetStatus => exact gpioGetStatus_row_valves safe next
  | encoderEdge => exact encoderEdge_row_valves safe next
  | encoderIndex => exact encoderIndex_row_valves safe next
  | speedUpdate => exact speedUpdate_row_valves safe next
  | standstill => exact standstill_row_valves safe next
  | encoderHistorySample => exact encoderHistorySample_row_valves safe next
  | ssiFrame => exact ssiFrame_row_valves safe next
  | emulationStep => exact emulationStep_row_valves safe next
  | gpioEdge => exact gpioEdge_row_valves safe next
  | hiveGetStatus => exact hiveGetStatus_row_valves safe next
  | hiveListDevices => exact hiveListDevices_row_valves safe next
  | hiveSetPolicy => exact hiveSetPolicy_row_valves safe next
  | hiveResetDevice => exact hiveResetDevice_row_valves safe next
  | hiveResetDone => exact hiveResetDone_row_valves safe next
  | hiveRemote => exact hiveRemote_row_valves safe next
  | remoteReqReceived => exact remoteReqReceived_row_valves safe next
  | remoteRespReceived => exact remoteRespReceived_row_valves safe next
  | hiveRemoteTimeout => exact hiveRemoteTimeout_row_valves safe next
  | hmsgForward => exact hmsgForward_row_valves safe next
  | hiveFormAlone => exact hiveFormAlone_row_valves safe next
  | electionListenEnd => exact electionListenEnd_row_valves safe next
  | announceSend => exact announceSend_row_valves safe next
  | announceReceived => exact announceReceived_row_valves safe next
  | electionWin => exact electionWin_row_valves safe next
  | joinRequestSend => exact joinRequestSend_row_valves safe next
  | joinRequestReceived => exact joinRequestReceived_row_valves safe next
  | joinChallengeReceived => exact joinChallengeReceived_row_valves safe next
  | joinResponseReceived => exact joinResponseReceived_row_valves safe next
  | joinAcceptReceived => exact joinAcceptReceived_row_valves safe next
  | joinRefuseReceived => exact joinRefuseReceived_row_valves safe next
  | joinRetry => exact joinRetry_row_valves safe next
  | aliveSend => exact aliveSend_row_valves safe next
  | aliveReceived => exact aliveReceived_row_valves safe next
  | uplinkLoss => exact uplinkLoss_row_valves safe next
  | rerouteReceived => exact rerouteReceived_row_valves safe next
  | uplinkRestore => exact uplinkRestore_row_valves safe next
  | standbyTakeover => exact standbyTakeover_row_valves safe next
  | standbyReady => exact standbyReady_row_valves safe next
  | mirrorReceived => exact mirrorReceived_row_valves safe next
  | extOffsetMsgReceived => exact extOffsetMsgReceived_row_valves safe next
  | cellServerReceived => exact cellServerReceived_row_valves safe next
  | cellForward => exact cellForward_row_valves safe next
  | updateReceived => exact updateReceived_row_valves safe next
  | updateResultReceived => exact updateResultReceived_row_valves safe next
  | faultSummaryReceived => exact faultSummaryReceived_row_valves safe next
  | honeySummaryReceived => exact honeySummaryReceived_row_valves safe next
  | hiveResetReceived => exact hiveResetReceived_row_valves safe next
  | fwGetStatus => exact fwGetStatus_row_valves safe next
  | fwWrite => exact fwWrite_row_valves safe next
  | fwPieceProgrammed => exact fwPieceProgrammed_row_valves safe next
  | fwVerified => exact fwVerified_row_valves safe next
  | fwActivate => exact fwActivate_row_valves safe next
  | fwCommitSvn => exact fwCommitSvn_row_valves safe next
  | fwDistribute => exact fwDistribute_row_valves safe next
  | fwDistributed => exact fwDistributed_row_valves safe next
  | trustSetOwnerPolicy => exact trustSetOwnerPolicy_row_valves safe next
  | trustGetCert => exact trustGetCert_row_valves safe next
  | trustSpdm => exact trustSpdm_row_valves safe next
  | trustChallenge => exact trustChallenge_row_valves safe next
  | nonceExpiry => exact nonceExpiry_row_valves safe next
  | debugUnlock => exact debugUnlock_row_valves safe next
  | healthGetSensors => exact healthGetSensors_row_valves safe next
  | logRead => exact logRead_row_valves safe next
  | honeyRead => exact honeyRead_row_valves safe next
  | honeyReset => exact honeyReset_row_valves safe next
  | calRead => exact calRead_row_valves safe next
  | calWrite => exact calWrite_row_valves safe next
  | flashWritten => exact flashWritten_row_valves safe next
  | pwrSetBootOptions => exact pwrSetBootOptions_row_valves safe next
  | pwrSetState => exact pwrSetState_row_valves safe next
  | pwrEntryDone => exact pwrEntryDone_row_valves safe next
  | pwrWake => exact pwrWake_row_valves safe next
  | pwrGetStatus => exact pwrGetStatus_row_valves safe next
  | devReset => exact devReset_row_valves safe next
  | compatGetInfo => exact compatGetInfo_row_valves safe next
  | diagPrbs => exact diagPrbs_row_valves safe next
  | diagDone => exact diagDone_row_valves safe next
  | diagBankRead => exact diagBankRead_row_valves safe next
  | diagInject => exact diagInject_row_valves safe next
  | ctxSetLaunch => exact ctxSetLaunch_row_valves safe next
  | compatLaneConfigure => exact compatLaneConfigure_row_valves safe next
  | compatLaneGetStatus => exact compatLaneGetStatus_row_valves safe next
  | compatCtxCreate => exact compatCtxCreate_row_valves safe next
  | compatCtxAssign => exact compatCtxAssign_row_valves safe next
  | compatCtxStart => exact compatCtxStart_row_valves safe next
  | compatCtxStop => exact compatCtxStop_row_valves safe next
  | compatCtxRelease => exact compatCtxRelease_row_valves safe next
  | compatCtxDestroy => exact compatCtxDestroy_row_valves safe next
  | compatCtxGetStatus => exact compatCtxGetStatus_row_valves safe next
  | compatIntakeSetPartition => exact compatIntakeSetPartition_row_valves safe next
  | compatCorrSetBlack => exact compatCorrSetBlack_row_valves safe next
  | compatCorrSetEnable => exact compatCorrSetEnable_row_valves safe next
  | compatCorrLoadTable => exact compatCorrLoadTable_row_valves safe next
  | compatPgSetSteering => exact compatPgSetSteering_row_valves safe next
  | compatQPartition => exact compatQPartition_row_valves safe next
  | compatQCreate => exact compatQCreate_row_valves safe next
  | compatQEnable => exact compatQEnable_row_valves safe next
  | compatQDisable => exact compatQDisable_row_valves safe next
  | compatQReset => exact compatQReset_row_valves safe next
  | compatQDestroy => exact compatQDestroy_row_valves safe next
  | compatQSetNotify => exact compatQSetNotify_row_valves safe next
  | compatQGetStatus => exact compatQGetStatus_row_valves safe next
  | compatTimeGetStatus => exact compatTimeGetStatus_row_valves safe next
  | compatTimeSetSource => exact compatTimeSetSource_row_valves safe next
  | compatTimeSetExtOffset => exact compatTimeSetExtOffset_row_valves safe next
  | compatTimeSetPps => exact compatTimeSetPps_row_valves safe next
  | compatSchedAdd => exact compatSchedAdd_row_valves safe next
  | compatSchedCancel => exact compatSchedCancel_row_valves safe next
  | compatSchedGetStatus => exact compatSchedGetStatus_row_valves safe next
  | sysRstNAssert => exact sysRstNAssert_row_valves safe next
  | sysRstNRelease => exact sysRstNRelease_row_valves safe next
  | bootOptionsRead => exact bootOptionsRead_row_valves safe next
  | bootImageLoaded => exact bootImageLoaded_row_valves safe next
  | keeperReady => exact keeperReady_row_valves safe next
  | softDeviceReset => exact softDeviceReset_row_valves safe next
  | fullResetByHive => exact fullResetByHive_row_valves safe next
  | keeperRestart => exact keeperRestart_row_valves safe next
  | keeperFault => exact keeperFault_row_valves safe next
  | fwTrialEnd => exact fwTrialEnd_row_valves safe next
  | jtagInstruction => exact jtagInstruction_row_valves safe next
  | bankRetentionEntry => exact bankRetentionEntry_row_valves safe next
  | bankWake => exact bankWake_row_valves safe next
  | eccCorrected => exact eccCorrected_row_valves safe next
  | eccUncorrectable => exact eccUncorrectable_row_valves safe next
  | writeLost => exact writeLost_row_valves safe next
  | backgroundTestWindow => exact backgroundTestWindow_row_valves safe next
  | testWindowSurrender => exact testWindowSurrender_row_valves safe next
  | memValveGuard => exact memValveGuard_row_valves safe next
  | assemblerFault => exact assemblerFault_row_valves safe next
  | clockLoss => exact clockLoss_row_valves safe next
  | sysclkHoldoverEnd => exact sysclkHoldoverEnd_row_valves safe next
  | supplyExcursion => exact supplyExcursion_row_valves safe next
  | flashFault => exact flashFault_row_valves safe next
  | faultRaised => exact faultRaised_row_valves safe next
  | faultCleared => exact faultCleared_row_valves safe next
  | keeperSleep => exact keeperSleep_row_valves safe next
  | keeperTick => exact keeperTick_row_valves safe next
  | sensorSample => exact sensorSample_row_valves safe next
  | logEntryProgram => exact logEntryProgram_row_valves safe next
  | honeySave => exact honeySave_row_valves safe next
  | thermalTrip => exact thermalTrip_row_valves safe next
  | thermalTripClear => exact thermalTripClear_row_valves safe next
  | vddAonRise => exact vddAonRise_row_valves safe next
  | dozeResumeDone => exact dozeResumeDone_row_valves safe next
  | clockReturn => exact clockReturn_row_valves safe next
  | supplyReturn => exact supplyReturn_row_valves safe next

/-- Settles O54: a step is one fabric clock, or the front command with the queue's rest, where the ports are as before. -/
theorem valvePortsStaySafe : Obligations.ValvePortsStaySafe := by
  unfold Obligations.ValvePortsStaySafe
  intro s t safe next
  unfold step at next
  split at next
  case h_1 =>
    obtain rfl := Host.Outcome.next.inj next
    exact idleTick_valves s safe
  case h_2 c rest _ =>
    have safeThen : State.ValvesSafe { s with pending := rest } := valves_of_vps rfl safe
    exact exec_valves safeThen next

end Sys2Proof.Machine
end

section
/-! Valve port commands (R255, R256, R258, R263 to R266, R352): where no check fails, each command's run changes its port or
places its actions, and its answer is concluded. -/
namespace Sys2Proof.Machine

/-- The action that a test fire places for valve `b` of its port at `time`. -/
def Req.testAction (r : Req) (cls : ActClass) (time b : Nat) : Action :=
  { time := time, cls := cls, tol := 100000, target := 512 * r.u32 0 + b, placer := .testFire, order := 0, placedAt := 0 }
/-- A test fire of valve `b` (R265): it opens at the request's time, and closes after the request's duration in microseconds. -/
def Req.placeTest (r : Req) (s : State) (b : Nat) : State :=
  let start := u64At r.body 8
  let opened := placeAction (r.testAction .valveOpen start b) s
  (placeAction (r.testAction .valveClose (start + 1000 * r.u32 0x10) b) opened.2).2

section
variable {r : Req} {s : State}

/-- VP_CONFIGURE that passes its checks sets the period, the phase and the fault inhibition. -/
theorem vpConfigure_of_passed (h : (cmdVpConfigure.run r s).failed = false) :
    cmdVpConfigure.run r s =
      .ok (modVp (r.u32 0) (fun p => { p with period := r.u32 4, phase := r.u32 8, inhibit := r.u32 0xC == 1 }) s) [] := by
  simp only [cmdVpConfigure] at h ⊢
  exact checked_pass h

/-- VP_SET_MODE that passes its checks asks for the mode (R256). -/
theorem vpSetMode_of_passed (h : (cmdVpSetMode.run r s).failed = false) :
    cmdVpSetMode.run r s = .ok (modVp (r.u32 0) (fun p => { p with want := some (vpMode (r.u32 4)) }) s) [] := by
  simp only [cmdVpSetMode] at h ⊢
  exact checked_pass h

/-- VP_TEST_FIRE that passes its checks places, valve by valve, an open action and its close action (R265). -/
theorem vpTestFire_of_passed (h : (cmdVpTestFire.run r s).failed = false) :
    cmdVpTestFire.run r s = .ok ((testValves r).foldl r.placeTest s) [] := by
  simp only [cmdVpTestFire] at h ⊢
  exact checked_pass h

/-- VP_GET_STATUS that passes its checks returns the status of the port and of the valves asked for, and clears the
counters with CLEAR (R266). -/
theorem vpGetStatus_of_passed {p : ValvePort} {l : List Nat} (h : (cmdVpGetStatus.run r s).failed = false)
    (port : p = s.vp (r.u32 0)) (valves : l = (List.range (r.u32 8)).map (r.u32 4 + ·)) :
    cmdVpGetStatus.run r s = .ok
      (if r.clear then modVp (r.u32 0) (fun p =>
        l.foldl (fun p b => p.modValve b (fun x => { x with counts := [], onNs := 0 })) { p with counts := [] }) s else s)
      (b8 p.modeCode ++ b8 p.board ++ b8 (b2n (decide (p.sinceValid < 64))) ++ b8 0
        ++ b32 ((p.sent.head?.map (·.1)).getD 0) ++ cntBytes p.counts 0 6 ++ l.flatMap fun b => valveRecord (p.valve b)) := by
  subst port valves
  simp only [cmdVpGetStatus] at h ⊢
  rw [checked_pass h]
  cases (s.vp (r.u32 0)).sent <;> rfl

/-- VP_CLEAR_FAULT of one valve that passes its check releases that valve's inhibition at the next frame
(R263). -/
theorem vpClearFault_valve_of_passed {b : Nat} (h : (cmdVpClearFault.run r s).failed = false)
    (one : optWord (r.u32 4) = some b) :
    cmdVpClearFault.run r s = .ok (modVp (r.u32 0) (fun p => { p with clearing := p.clearing ++ [b] }) s) [] := by
  simp only [cmdVpClearFault, one] at h ⊢
  exact checked_pass h

/-- VP_CLEAR_FAULT of the port that passes its check releases every valve's inhibition at the next frame
(R263). -/
theorem vpClearFault_port_of_passed (h : (cmdVpClearFault.run r s).failed = false) (all : optWord (r.u32 4) = none) :
    cmdVpClearFault.run r s =
      .ok (modVp (r.u32 0) (fun p => { p with clearing := p.clearing ++ p.valves.map (·.1) }) s) [] := by
  simp only [cmdVpClearFault, all] at h ⊢
  exact checked_pass h
end

/-! ### The rows: where the run commits, the answer is concluded (R327) -/

/-- In RUN the row of VP_SET_MODE is the service of its command. -/
theorem exec_vpSetMode_of_run {f : Fn} {m : Mbx} {s : State} (run : s.sys.devState = .run) :
    exec (.vpSetMode f m) s = .next (serve cmdVpSetMode f m s) :=
  congrArg Host.Outcome.next
    (serveWaking_of_run cmdVpSetMode (fun r => vpMode (r.u32 4) == .run || r.u32 4 == 3) f m run)
theorem exec_vpClearFault_commits {f : Fn} {m : Mbx} {s x : State} {p : List Byte} (h : Accepted cmdVpClearFault f m s)
    (e : cmdVpClearFault.run (s.reqOf f m) s = .ok x p) :
    ∃ u, exec (.vpClearFault f m) s = .next u ∧ Commits s u f m p x :=
  accepted_commits f.isLt h (cmdVpClearFault_foot (w := 549755813888) (by decide) _ s rfl) rfl rfl e

/-- Settles O16, command by command: the checks have passed, so the run is the change, and its answer is concluded. -/
theorem valvePortCommandsComplete : Obligations.ValvePortCommandsComplete := by
  unfold Obligations.ValvePortCommandsComplete
  refine ⟨?configure, ?setMode, ?testFire, ?status, ?clearValve, ?clearPort⟩
  case configure =>
    intro f m s h
    exact accepted_commits f.isLt h (cmdVpConfigure_foot (w := 549755813888) (by decide) _ s rfl) rfl rfl
      (vpConfigure_of_passed h.run_eq.2)
  case setMode =>
    intro f m s run h
    rw [exec_vpSetMode_of_run run]
    exact accepted_commits f.isLt h (cmdVpSetMode_foot (w := 549755813888) (by decide) _ s rfl) rfl rfl
      (vpSetMode_of_passed h.run_eq.2)
  case testFire =>
    intro f m s h
    exact accepted_commits f.isLt h (cmdVpTestFire_foot (w := 274877906944) (by decide) _ s rfl) rfl rfl
      (vpTestFire_of_passed h.run_eq.2)
  case status =>
    intro f m s p l h r port valves
    exact accepted_commits f.isLt h (cmdVpGetStatus_foot (w := 549755813888) (by decide) _ s rfl) rfl rfl
      (vpGetStatus_of_passed h.run_eq.2 port valves)
  case clearValve =>
    intro f m s b h r one
    exact exec_vpClearFault_commits h (vpClearFault_valve_of_passed h.run_eq.2 one)
  case clearPort =>
    intro f m s h r all
    exact exec_vpClearFault_commits h (vpClearFault_port_of_passed h.run_eq.2 all)

end Sys2Proof.Machine
end

section
/-! Writes of a host (R275 to R277, R289, R306, R317 to R319, R403): what each does at a function that decodes, where its
checks pass. -/
namespace Sys2Proof.Machine

/-! ### What a TLP and the clock leave of what a write looks up -/

@[simp] theorem owns_tlp (f g : Nat) (k : Kind) (i : Nat) (s : State) : (tlp f s).owns g k i = s.owns g k i := rfl
@[simp] theorem chan_tlp (f c : Nat) (s : State) : (tlp f s).chan c = s.chan c := rfl
@[simp] theorem win_tlp (f w : Nat) (s : State) : (tlp f s).win f w = s.win f w := by
  simp [State.win]
@[simp] theorem commitCheck_tlp (f w : Nat) (x : PeerWin) (s : State) :
    commitCheck f w x (tlp f s) = commitCheck f w x s := by
  rw [commitCheck, hp_tlp_self]
  rfl
@[simp] theorem win_modWin (f w : Nat) (g : PeerWin → PeerWin) (s : State) : (modWin f w g s).win f w = g (s.win f w) := by
  simp [State.win, modWin]
/-- Only INTA of the function's own port follows its status and mask (R289). -/
theorem hp_intxUpdate (f : Nat) (s : State) :
    (intxUpdate f s).hp f = { s.hp f with inta := (s.hp f).intxActive != 0 && !(s.hp f).intDisable } := by
  unfold intxUpdate
  dsimp only
  split
  · next same => rw [same]
  · simp

/-- A function that decodes exists, its link is up, and PERSTp_N is not asserted. -/
theorem reached_of_decodes {s : State} {f : Nat} (decodes : s.decodes f = true) :
    s.present f = true ∧ (s.hp f).up = true ∧ (s.hp f).perst = false := by
  simp only [State.decodes, Bool.and_eq_true, Bool.not_eq_true'] at decodes
  obtain ⟨⟨⟨⟨⟨present, up⟩, released⟩, -⟩, -⟩, -⟩ := decodes
  exact ⟨present, up, released⟩

/-! ### BAR 0 and BAR 2 (R275, R276, R289) -/

section
variable {f : Fn} {off : Nat} {d : List (Option Byte)} {s : State} (shape : barShape off d.length = true)
include shape

/-- A write that keeps R275's shape has data, so REGISTER_WRITE is the write to the address space. -/
theorem exec_registerWrite (bar : Fin 5) : exec (.registerWrite f bar off d) s = .next (registerWrite f bar off d s) := by
  have data : d.isEmpty = false := by
    cases d with
    | nil => simp [barShape] at shape
    | cons => rfl
  show execRegisterWrite f bar off d s = _
  simp [execRegisterWrite, data]

variable (decodes : s.decodes f = true)
include decodes

theorem exec_registerWrite_bar0 (within : off < 0x100000) :
    exec (.registerWrite f 0 off d) s = .next (bar0Write f off d (tlp f s)) := by
  rw [exec_registerWrite shape]
  simp [registerWrite, within, decodes, shape]
theorem exec_registerWrite_bar2 (within : off < 0x400000) :
    exec (.registerWrite f 2 off d) s = .next (doorbellBlock f (off / 64) (off % 64) d (tlp f s)) := by
  rw [exec_registerWrite shape]
  simp [registerWrite, within, decodes, shape]
end

/-- A write to the HB block sets the mask's writable bits and clears the status bits written 1 (Table 10-7). -/
theorem hp_hbWrite (f : Nat) (l : List (Nat × Byte)) (s : State) :
    ((hbWrite f l s).hp f).intxMask = putField (s.hp f).intxMask 0x1FFF 0x00C l ∧
      ((hbWrite f l s).hp f).intxStatus = (s.hp f).intxStatus &&& (0xFFFFFFFF ^^^ regBits 0x008 l) := by
  simp [hbWrite, hp_intxUpdate]

/-- HB_TIME_LO of a function that decodes: the capture, and the low word (R277). -/
theorem exec_hbTimeLoRead {f : Fn} {s : State} (t : Nat) (decodes : s.decodes f = true) :
    exec (.hbTimeLoRead f t) s = .next (emit (.readData f ((advTo t s).now % 2 ^ 32))
      (modHp f (fun h => { h with captured := (advTo t s).clock.t16 }) (tlp f (advTo t s)))) := by
  obtain ⟨present, up, released⟩ := reached_of_decodes decodes
  show execHbTimeLoRead f t s = _
  simp [execHbTimeLoRead, decodes, present, up, released]

/-! ### Doorbells of queues (R306) -/

section
variable {q : Nat} {v : Queue} {s : State} (found : s.queue q = some v)
include found

/-- A tail in range acts: the queue fetches up to it. -/
theorem actTail_inRange {n : Nat} (inRange : n < v.settings.ringSize) :
    actTail q n s = fetchMore q (setQueue q { v with tail := n } s) := by
  simp [actTail, found, Nat.not_le.mpr inRange]
/-- A completion head in range, not past the entries written, acts; the queue waits on where it waited and the head has
not moved. -/
theorem actHead_inRange {n : Nat} (inRange : n < v.settings.cplSize)
    (written : slotAdd v.settings.cplSize n (v.settings.cplSize - v.cplHead) ≤ v.cplUsed) :
    actHead q n s =
      fetchMore q (setQueue q { v with cplHead := n, cplWait := v.cplWait && n == v.cplHead } s) := by
  simp [actHead, found, Nat.not_le.mpr inRange, Nat.not_lt.mpr written]

variable (enabled : v.state = .enabled) (lo hi : Option Byte)
include enabled

/-- A write to the tail of an ENABLED queue is recorded, and acts. -/
theorem tailWrite_enabled (posts : v.kind ≠ qtEvent) :
    tailWrite q lo hi s = actTail q (mergeHalf v.recTail lo hi)
      (setQueue q { v with recTail := mergeHalf v.recTail lo hi } s) := by
  simp [tailWrite, found, enabled, posts]
/-- A write to the completion head of an ENABLED queue is recorded, and acts. -/
theorem headWrite_enabled :
    headWrite q lo hi s = actHead q (mergeHalf v.recHead lo hi)
      (setQueue q { v with recHead := mergeHalf v.recHead lo hi } s) := by
  simp [headWrite, found, enabled]
end

section
variable {f : Fn} {idx : Fin 65536} {s : State} {q : Nat} (lo hi : Option Byte) (decodes : s.decodes f = true)
  (own : s.localQueue f idx = some q)
include decodes own

theorem exec_qdbTailWrite : exec (.qdbTailWrite f idx lo hi) s = .next (tailWrite q lo hi (tlp f s)) := by
  show execQdbTailWrite f idx lo hi s = _
  simp [execQdbTailWrite, doorbell, decodes, own]
theorem exec_qdbCplHeadWrite : exec (.qdbCplHeadWrite f idx lo hi) s = .next (headWrite q lo hi (tlp f s)) := by
  show execQdbCplHeadWrite f idx lo hi s = _
  simp [execQdbCplHeadWrite, doorbell, decodes, own]
end

/-! ### BAR 4: the decision aperture and the peer windows (R317 to R319) -/

section
variable {f : Fn} {s : State} (decodes : s.decodes f = true) (native : s.sys.straps.compat = false)
include decodes native

/-- Records written to the page of an ENABLED DECISION queue bind, its owner their sender. -/
theorem exec_decisionApertureWrite {off : Nat} {d : List Byte} {e : Nat × Queue} (t : Nat) (within : off < 0x1000000)
    (onePage : crossesPage off d.length = false) (shape : apertureShape off d.length = true)
    (page : (s.queues.find? fun e => e.2.owner == f.val && e.2.settings.aperture == some (off / 4096)) = some e)
    (found : s.queue e.1 = some e.2) (enabled : e.2.state = .enabled) :
    exec (.decisionApertureWrite f off d t) s =
      .next (bindAll e.2.owner (d.length / 16) d (tlp f (advTo t s))) := by
  show execDecisionApertureWrite f off d t s = _
  simp [execDecisionApertureWrite, apertureWrite, apertureTo, decodes, native, Nat.not_le.mpr within, onePage, shape, page,
    found, enabled]

theorem exec_pwCommitWrite (w : Fin 16) {v : BitVec 32} (commit : bit v.toNat 0 = true) :
    exec (.pwCommitWrite f w v) s = .next (winCommit f w (bit v.toNat 1) (tlp f s)) := by
  show execPwCommitWrite f w v s = _
  simp [execPwCommitWrite, decodes, native, commit]

/-- A write into a window in force that is not a DECISION queue's acts on the doorbells that the window names. -/
theorem exec_peerWindowWrite {off w : Nat} {d : List (Option Byte)} {x : PeerWin} (t : Nat)
    (above : 0x1000000 ≤ off) (within : off < 0x4000000) (onePage : crossesPage off d.length = false)
    (shape : barShape off d.length = true)
    (hit : ((s.hp f).wins.find? fun e => e.2.active && decide (e.2.actBase ≤ off ∧ off < e.2.actBase + e.2.actSize)) =
      some (w, x))
    (doorbells : bits x.actTarget 30 2 ≠ 1) :
    exec (.peerWindowWrite f off d t) s = .next (doorbellBlock f (bits x.actTarget 0 16 + (off - x.actBase) / 64)
      ((off - x.actBase) % 64) d (tlp f (advTo t s))) := by
  show execPeerWindowWrite f off d t s = _
  simp [execPeerWindowWrite, peerWrite, decodes, native, Nat.not_lt.mpr above, Nat.not_le.mpr within, onePage, shape, hit,
    doorbells, -Bool.decide_and]
end

/-- After COMMIT the window is its shadows where the check passes, and else as it was, with the error (R318). -/
theorem win_winCommit (f w : Nat) (enable : Bool) (s : State) :
    (winCommit f w enable s).win f w =
      if commitCheck f w (s.win f w) s = 0 then
        { s.win f w with actBase := (s.win f w).base, actSize := (s.win f w).size, actTarget := (s.win f w).target
                         active := enable, commitErr := false, err := 0 }
      else { s.win f w with commitErr := true, err := commitCheck f w (s.win f w) s } := by
  simp [winCommit]

/-! ### The router (R403) -/

/-- A write that names only channels the function may fire makes each of them an origin. -/
theorem wgFire_of_allowed {f : Nat} {cs : List Nat} {s : State} (native : s.sys.straps.compat = false) (named : cs ≠ [])
    (allowed : ∀ c ∈ cs, s.owns f .channel c = true ∧ ((s.chan c).secure = true → f = s.sys.trusted)) :
    wgFire f cs s = originate cs false s := by
  have fires : ∀ c ∈ cs, (s.owns f .channel c && (!(s.chan c).secure || f == s.sys.trusted)) = true := by
    intro c listed
    obtain ⟨own, permits⟩ := allowed c listed
    cases secure : (s.chan c).secure with
    | false => simp [own]
    | true => simp [own, beq_iff_eq.mpr (permits secure)]
  simp only [wgFire, native, Bool.false_eq_true, if_false, List.all_eq_true.mpr fires, if_true,
    List.filter_eq_self.mpr fires, List.isEmpty_eq_false_iff.mpr named]

theorem exec_wgFireWrite {f : Fn} {s : State} (r : Fin 8) (b : BitVec 64) (t : Nat) (decodes : s.decodes f = true) :
    exec (.wgFireWrite f r b false t) s =
      .next (wgFire f ((setBits 32 b.toNat).map (32 * r.val + ·)) (tlp f (advTo t s))) := by
  show execWgFireWrite f r b false t s = _
  simp [execWgFireWrite, decodes]

/-- Settles O20, register by register: the function decodes and the write's checks pass, so the step is the write's
effect. -/
theorem registerWritesComplete : Obligations.RegisterWritesComplete := by
  unfold Obligations.RegisterWritesComplete
  refine ⟨?hostBlock, ?doorbells, ?time, ?tail, ?head, ?aperture, ?commit, ?window, ?fire⟩
  case hostBlock =>
    intro f off d s decodes within shape
    refine ⟨_, exec_registerWrite_bar0 shape decodes (by omega), ?_⟩
    simpa [bar0Write, within] using hp_hbWrite f (enabled off d) (tlp f s)
  case doorbells =>
    intro f off d s decodes within shape
    exact exec_registerWrite_bar2 shape decodes within
  case time =>
    intro f t s decodes
    exact ⟨_, exec_hbTimeLoRead t decodes, by simp [tlp], by simp [tlp], by simp⟩
  case tail =>
    intro f idx lo hi s q v decodes own found posts enabled inRange
    have acts := actTail_inRange (queue_setQueue q { v with recTail := mergeHalf v.recTail lo hi } (tlp f s)) inRange
    rw [exec_qdbTailWrite lo hi decodes own, tailWrite_enabled (s := tlp f s) found enabled lo hi posts, acts]
  case head =>
    intro f idx lo hi s q v decodes own found enabled inRange written
    have acts := actHead_inRange (queue_setQueue q { v with recHead := mergeHalf v.recHead lo hi } (tlp f s)) inRange
      written
    rw [exec_qdbCplHeadWrite lo hi decodes own, headWrite_enabled (s := tlp f s) found enabled lo hi, acts]
    exact ⟨_, rfl⟩
  case aperture =>
    intro f off d t s e decodes native within onePage shape page found enabled
    exact exec_decisionApertureWrite decodes native t within onePage shape page found enabled
  case commit =>
    intro f w v s decodes native commit
    refine ⟨_, exec_pwCommitWrite decodes native w commit, ?_⟩
    rw [win_winCommit, win_tlp, commitCheck_tlp]
  case window =>
    intro f off d t s w x decodes native above within onePage shape hit doorbells
    exact exec_peerWindowWrite decodes native t above within onePage shape hit doorbells
  case fire =>
    intro f r b t s decodes native named allowed
    rw [exec_wgFireWrite r b t decodes]
    refine congrArg Host.Outcome.next (wgFire_of_allowed (by simpa using native) (by simpa using named) fun c listed => ?_)
    simpa using allowed c listed

end Sys2Proof.Machine
end

section
/-! Links and resets of a host port (R268, R271, R290 to R298, R458 to R462): what each event does where its guard is
open. -/
namespace Sys2Proof.Machine

/-- The end of the wake signal changes nothing of the device's own record. -/
@[simp] theorem sys_endWake (f : Nat) (s : State) : (endWake f s).sys = s.sys := by
  unfold endWake
  split <;> rfl

/-! ### The link (R268, R271, R293, R296, R298) -/

/-- Function `f`'s link has trained, at `w` lanes and rate `r`, now. -/
def linkTrained (f w r : Nat) (s : State) : State :=
  withAvail f (modHp f fun h => { h with up := true, width := w, rate100 := r, pm := .l0, lastTlp := s.now }) s
theorem linkTrained_advTo (f w r t : Nat) (s : State) :
    linkTrained f w r (advTo t s) = withAvail f
      (modHp f fun h => { h with up := true, width := w, rate100 := r, pm := .l0, lastTlp := max s.now t }) (advTo t s) := by
  rw [linkTrained, now_advTo]
/-- A link below the port's maximum is counted and reported (R271). -/
def downtrain (f w r : Nat) (s : State) : State :=
  raise 0x0003 sevW f (w % 65536 + 65536 * (r % 65536)) 0 (s.linkTo f) (honey (hoPort f 4) (countHp f .downtrain s))

section
variable {f : Fn} {s : State} (present : s.present f = true)
include present

/-- HOST_LINK_UP of a link that was down, the device out of reset: the link is trained, a downtrain reported first. -/
theorem exec_hostLinkUp (w r t : Nat) (down : (s.hp f).up = false) (released : (s.hp f).perst = false)
    (out : s.sys.stage ≠ .held) (booted : s.sys.stage ≠ .rom) :
    let x := linkTrained f w r (advTo t s)
    let y := if decide (w < x.maxWidth f ∨ r < 640) then downtrain f w r x else x
    exec (.hostLinkUp f w r t) s = .next (raise 0x0002 sevI f 0 0 (y.linkTo f) y) := by
  have trains : (advTo t s).present f = true ∧ (!((advTo t s).hp f).up) = true ∧ (!((advTo t s).hp f).perst) = true ∧
      (advTo t s).sys.stage ≠ .held ∧ (advTo t s).sys.stage ≠ .rom := by
    simp [present, down, released, out, booted]
  exact congrArg Host.Outcome.next (if_pos trains)

theorem exec_hostLinkDown (t : Nat) (up : (s.hp f).up = true) :
    exec (.hostLinkDown f t) s = .next (linkFails f (advTo t s)) := by
  show execHostLinkDown f t s = _
  simp [execHostLinkDown, present, up]

/-- LINK_L1_ENTRY of a link in L0, quiet for 100 µs, that no cell or decision needs (R292). -/
theorem exec_linkL1Entry (k : IdleRequest) (t : Nat) (up : (s.hp f).up = true) (active : (s.hp f).pm = .l0)
    (quiet : (s.hp f).lastTlp + 100000 ≤ max s.now t) (idle : (advTo t s).sorting f = false) :
    exec (.linkL1Entry f k t) s = .next (emit (.linkRequest f k)
      (modHp f (fun h => { h with pm := match k with | .l1 => .l1 | .l0p => .l0p }) (advTo t s))) := by
  show execLinkL1Entry f k t s = _
  cases k <;> simp [execLinkL1Entry, present, up, active, quiet, idle]

/-! ### PERSTp_N and FLR (R290, R291, R458, R461, R462) -/

/-- PERST_ASSERT of a port whose link is up: D3cold, then the link's failure. -/
theorem exec_perstAssert_up (t : Nat) (up : (s.hp f).up = true) (released : (s.hp f).perst = false) :
    exec (.perstAssert f t) s =
      .next (linkFails f (withAvail f (modHp f fun h => { h with perst := true }) (advTo t s))) := by
  show execPerstAssert f t s = _
  simp [execPerstAssert, present, up, released]
theorem exec_perstDeassert (t : Nat) (asserted : (s.hp f).perst = true) (out : s.sys.stage ≠ .held)
    (booted : s.sys.stage ≠ .rom) :
    exec (.perstDeassert f t) s =
      .next (beginTraining f (endWake f (modHp f (fun h => { h with perst := false }) (advTo t s)))) := by
  show execPerstDeassert f t s = _
  simp [execPerstDeassert, present, asserted, out, booted]
theorem exec_flr (t : Nat) (released : (s.hp f).perst = false) :
    exec (.flr f t) s = .next (withAvail f (startReset f) (advTo t s)) := by
  show execFlr f t s = _
  simp [execFlr, startFlr, present, released]
end

/-- FLR_COMPLETE with the keeper READY: the queues, the windows and the mailboxes end, then the directory is rewritten. -/
theorem exec_flrComplete {f : Fn} {s : State} (t : Nat) (resets : (s.hp f).flr = true) (ready : s.sys.ready = true) :
    exec (.flrComplete f t) s = .next (withAvail f (modHp f fun h => { h with flr := false }) (rdRewrite f (endMailboxes f
      (modHp f (fun h => { h with wins := [] })
        (((advTo t s).queues.filter fun e => e.2.owner == f.val).foldl (fun s e => destroyQueue e.1 s) (advTo t s)))))) := by
  show execFlrComplete f t s = _
  simp [execFlrComplete, resets, ready]

/-- STEER_RESTORE of an entry on its backup whose primary queue is ENABLED and whose function is available (R295). -/
theorem exec_steerRestore {c : Bool} {i : Fin 256} {n : Fin 16} {e : SteerEntry} {v : Queue} {b a : Nat} {s : State}
    (entry : (s.steerOf c i)[n.val]? = some e) (found : s.queue e.primary = some v) (backup : e.backup = some b)
    (since : (s.hp v.owner).availSince = some a) (moved : e.onBackup = true) (kept : e.primaryGone = false)
    (enabled : v.state = .enabled) (reached : s.available v.owner = true) :
    exec (.steerRestore c i n) s = .next (steerEvent true c i n b e.primary
      (modSteer c i (fun l => l.modify n.val fun x => { x with onBackup := false }) (advTo (a + 1000000) s))) := by
  show execSteerRestore c i n s = _
  simp [execSteerRestore, entry, found, backup, since, moved, kept, enabled, reached]

/-- Settles O23, event by event: the guard is open, so the step is what the event's rule says. -/
theorem portLinkEventsAct : Obligations.PortLinkEventsAct := by
  unfold Obligations.PortLinkEventsAct
  refine ⟨?up, ?downtrained, ?down, ?assert, ?deassert, ?flr, ?complete, ?idle, ?restore⟩
  case up =>
    intro f w r t s present down released out booted fast x wide
    have same : x = linkTrained f w r (advTo t s) := (linkTrained_advTo ..).symm
    rw [same] at wide ⊢
    have full : ¬(w < (linkTrained f w r (advTo t s)).maxWidth f ∨ r < 640) :=
      not_or.mpr ⟨Nat.not_lt.mpr wide, Nat.not_lt.mpr fast⟩
    rw [exec_hostLinkUp present w r t down released out booted, decide_eq_false full]
    rfl
  case downtrained =>
    intro f w r t s present down released out booted x low
    have same : x = linkTrained f w r (advTo t s) := (linkTrained_advTo ..).symm
    rw [same] at low ⊢
    rw [exec_hostLinkUp present w r t down released out booted, decide_eq_true low]
    rfl
  case down =>
    intro f t s present up
    exact exec_hostLinkDown present t up
  case assert =>
    intro f t s present up released
    exact exec_perstAssert_up present t up released
  case deassert =>
    intro f t s present asserted out booted
    exact exec_perstDeassert present t asserted out booted
  case flr =>
    intro f t s present released
    exact exec_flr present t released
  case complete =>
    intro f t s resets ready
    exact exec_flrComplete t resets ready
  case idle =>
    intro f k t s present up active quiet idle
    exact exec_linkL1Entry present k t up active quiet idle
  case restore =>
    intro c i n e v b a s entry found backup since moved kept enabled reached
    exact exec_steerRestore entry found backup since moved kept enabled reached

end Sys2Proof.Machine
end

section
/-! Queue commands (R300 to R302, R322, R323, R355 to R357, R540): where no check fails, each command's run is its commit, or
the start of the drain. -/
namespace Sys2Proof.Machine

/-! ### The set of queues: Q_PARTITION and Q_CREATE (R300, R301, R356) -/

/-- The aperture page that a queue made by the request gets: a DECISION queue that asks for one gets the lowest free page of
its owner. -/
def Req.aperturePage (r : Req) (s : State) : Option Nat :=
  if r.u32 4 == qtDecision && r.u32 0x2C == 1 then s.freePage r.fn else none
/-- The settings of a queue that the request makes: only an EVENT queue has no submission ring, and only a FRAME queue has
buffers of a size of its own. -/
def Req.queueSettings (r : Req) (page : Option Nat) : QSettings :=
  let ring := r.u32 4 != qtEvent
  { ringAddr := if ring then u64At r.body 8 else 0, ringSize := if ring then r.u32 0x10 else 0
    cplAddr := u64At r.body 0x18, cplSize := r.u32 0x14, bufSize := if r.u32 4 = qtFrame then r.u32 0x20 else 0
    lane := r.u32 0x24, subjects := r.u32 0x28, aperture := page
    notifyAddr := u64At r.body 0x30, notifyData := r.u32 0x38, coalCount := r.u32 0x3C, coalTime := r.u32 0x40 }

section
variable {r : Req} {s : State}

/-- Q_PARTITION that passes its checks sets the counts. -/
theorem qPartition_of_passed (h : (cmdQPartition.run r s).failed = false) :
    cmdQPartition.run r s = .ok (modSys (fun y => { y with qPart := partitionOf r s }) s) [] := by
  simp only [cmdQPartition, qPartition] at h ⊢
  exact checked_pass h
/-- Q_CREATE that passes its checks makes the queue in its owner's range, and returns its device ID and page. -/
theorem qCreate_of_passed {q : Nat} (h : (cmdQCreate.run r s).failed = false) (id : q = s.qBase r.fn + r.u32 0) :
    cmdQCreate.run r s = .ok
      (setQueue q { kind := r.u32 4, owner := r.fn, settings := r.queueSettings (r.aperturePage s) }
        (wakeBank (queueBank (q / 16384)) s))
      (b32 q ++ b32 ((r.aperturePage s).getD wordNone)) := by
  subst id
  simp only [cmdQCreate, qCreate] at h ⊢
  exact checked_pass h
end

/-! ### A queue there is (R302, R322, R323, R357, R540) -/

section
variable {r : Req} {s : State} {v : Queue} (found : s.queue (r.u32 0) = some v)
include found

/-- A command on a queue there is goes on with it. -/
theorem withQueue_of_found (g : Nat → Queue → Answer) : withQueue r s g = g (r.u32 0) v := by
  simp only [withQueue, found]
/-- A command on a queue there is that passes its checks gives its answer. -/
theorem withQueue_checked_of_passed {checks : Nat → Queue → List (Bool × Fail)} {a : Nat → Queue → Answer}
    (h : (withQueue r s fun q y => checked (checks q y) fun _ => a q y).failed = false) :
    (withQueue r s fun q y => checked (checks q y) fun _ => a q y) = a (r.u32 0) v := by
  rw [withQueue_of_found found] at h ⊢
  exact checked_pass h

/-- Q_ENABLE that passes its check enables the queue, and the doorbell values recorded act (R357). -/
theorem qEnable_of_passed (h : (cmdQEnable.run r s).failed = false) :
    cmdQEnable.run r s = .ok (actRecorded (r.u32 0) (setQueue (r.u32 0) { v with state := .enabled } s)) [] := by
  simp only [cmdQEnable, qEnable] at h ⊢
  exact withQueue_checked_of_passed found h
/-- Q_DISABLE that passes its check begins the drain: waiting cells are refused and held frames are completed
(R302, R540). -/
theorem qDisable_of_passed (h : (cmdQDisable.run r s).failed = false) :
    cmdQDisable.run r s = .started (releaseHeld (r.u32 0)
      (refuseWaiting (r.u32 0) (setQueue (r.u32 0) { v with state := .draining } s))) [] := by
  simp only [cmdQDisable, qDisable] at h ⊢
  exact withQueue_checked_of_passed found h
/-- Q_RESET that passes its check ends what the queue has under way, and clears it (R322). -/
theorem qReset_of_passed (h : (cmdQReset.run r s).failed = false) :
    cmdQReset.run r s = .ok (setQueue (r.u32 0) v.cleared
      (endFrames (r.u32 0) (dmaDrop v.owner (r.u32 0) (deadReads (r.u32 0) s)))) [] := by
  simp only [cmdQReset, qReset] at h ⊢
  exact withQueue_checked_of_passed found h
/-- Q_DESTROY that passes its check removes the queue, and returns HEAD (R323). -/
theorem qDestroy_of_passed (h : (cmdQDestroy.run r s).failed = false) :
    cmdQDestroy.run r s = .ok (destroyQueue (r.u32 0) s) (b32 v.headNow) := by
  simp only [cmdQDestroy, qDestroy] at h ⊢
  exact withQueue_checked_of_passed found h
/-- Q_SET_NOTIFY that passes its checks leaves the change for the next entry written: at once where no entry waits for its
notification. -/
theorem qSetNotify_of_passed {y : Queue} (h : (cmdQSetNotify.run r s).failed = false)
    (set : y = { v with nextNotify := some (u64At r.body 8, r.u32 0x10, r.u32 0x14, r.u32 0x18) }) :
    cmdQSetNotify.run r s = .ok (setQueue (r.u32 0) (if v.unnotified = 0 then y.applyNotify else y) s) [] := by
  subst set
  simp only [cmdQSetNotify, qSetNotify] at h ⊢
  exact withQueue_checked_of_passed found h
end

/-- Q_SET_NOTIFY is concluded with the commit of its run (R327). -/
theorem exec_qSetNotify_commits {f : Fn} {m : Mbx} {s x : State} {p : List Byte} (h : Accepted cmdQSetNotify f m s)
    (e : cmdQSetNotify.run (s.reqOf f m) s = .ok x p) :
    ∃ u, exec (.qSetNotify f m) s = .next u ∧ Commits s u f m p x :=
  accepted_commits f.isLt h (cmdQSetNotify_foot (w := 1048576) (by decide) _ s rfl) rfl rfl e

/-- Settles O18, command by command: the checks have passed, so the run is the change of the queue, and its answer is
concluded. -/
theorem queueCommandsComplete : Obligations.QueueCommandsComplete := by
  unfold Obligations.QueueCommandsComplete
  refine ⟨?partition, ?create, ?enable, ?disable, ?reset, ?destroy, ?notifyNow, ?notifyNext, ?status⟩
  case partition =>
    intro f m s h
    exact accepted_commits f.isLt h (cmdQPartition_foot (w := 16) (by decide) _ s rfl) rfl rfl
      (qPartition_of_passed h.run_eq.2)
  case create =>
    intro f m s q k page h r id ring paged
    rw [ring, paged]
    exact accepted_commits f.isLt h (cmdQCreate_foot (w := 1049600) (by decide) _ s rfl) rfl rfl
      (qCreate_of_passed h.run_eq.2 id)
  case enable =>
    intro f m s v h r found
    exact accepted_commits f.isLt h (cmdQEnable_foot (w := 8658124866) (by decide) _ s rfl) rfl rfl
      (qEnable_of_passed found h.run_eq.2)
  case disable =>
    intro f m s v h r found
    exact accepted_starts f.isLt h (cmdQDisable_foot (w := 8658124866) (by decide) _ s rfl) rfl rfl
      (qDisable_of_passed found h.run_eq.2)
  case reset =>
    intro f m s v h r found
    exact accepted_commits f.isLt h (cmdQReset_foot (w := 68190208) (by decide) _ s rfl) rfl rfl
      (qReset_of_passed found h.run_eq.2)
  case destroy =>
    intro f m s v h r found
    exact accepted_commits f.isLt h (cmdQDestroy_foot (w := 94557470728) (by decide) _ s rfl) rfl rfl
      (qDestroy_of_passed found h.run_eq.2)
  case notifyNow =>
    intro f m s v h r found idle
    have sets := qSetNotify_of_passed found h.run_eq.2 rfl
    rw [if_pos idle] at sets
    exact exec_qSetNotify_commits h sets
  case notifyNext =>
    intro f m s v h r found waits
    have sets := qSetNotify_of_passed found h.run_eq.2 rfl
    rw [if_neg waits] at sets
    exact exec_qSetNotify_commits h sets
  case status =>
    intro f m s v h r found
    exact accepted_commits f.isLt h (cmdQGetStatus_foot (w := 1048576) (by decide) _ s rfl) rfl rfl
      (show qGetStatus r s = _ from withQueue_of_found found _)

end Sys2Proof.Machine
end

section
/-! The step of the block: one command or event is executed, it answers a next state, and it changes no field but those
listed for it (12_commands_setup.md, 95_what_each_step_holds.md, R374). -/
namespace Sys2Proof.Machine

/-- Settles O51: both clauses are the two ways a step can go. -/
theorem stepRunsTheFrontCommand : Obligations.StepRunsTheFrontCommand := by
  unfold Obligations.StepRunsTheFrontCommand
  refine ⟨fun c l s => rfl, fun s idle => ?_⟩
  unfold step
  rw [idle]

/-- States that agree outside a row's set of fields differ in those fields alone. -/
theorem unchanged_of_frame {l : List Field} {w : Nat} {s t : State} (fields : fieldSet l = w)
    (frame : t.mask w = s.mask w) : Unchanged l s t := by
  subst fields
  exact frame

/-- Settles O53, row by row: each has its set of fields and keeps the others. -/
theorem commandsChangeOnlyTheirFields : Obligations.CommandsChangeOnlyTheirFields := by
  unfold Obligations.CommandsChangeOnlyTheirFields
  intro c s t next
  cases c with
  | registerWrite => exact unchanged_of_frame registerWrite_row_fields (registerWrite_row_frame next)
  | hbTimeLoRead => exact unchanged_of_frame hbTimeLoRead_row_fields (hbTimeLoRead_row_frame next)
  | mbxGo => exact unchanged_of_frame mbxGo_row_fields (mbxGo_row_frame next)
  | mbxAbort => exact unchanged_of_frame mbxAbort_row_fields (mbxAbort_row_frame next)
  | abortComplete => exact unchanged_of_frame abortComplete_row_fields (abortComplete_row_frame next)
  | qdbTailWrite => exact unchanged_of_frame qdbTailWrite_row_fields (qdbTailWrite_row_frame next)
  | qdbCplHeadWrite => exact unchanged_of_frame qdbCplHeadWrite_row_fields (qdbCplHeadWrite_row_frame next)
  | decisionApertureWrite => exact unchanged_of_frame decisionApertureWrite_row_fields (decisionApertureWrite_row_frame next)
  | pwCommitWrite => exact unchanged_of_frame pwCommitWrite_row_fields (pwCommitWrite_row_frame next)
  | peerWindowWrite => exact unchanged_of_frame peerWindowWrite_row_fields (peerWindowWrite_row_frame next)
  | wgFireWrite => exact unchanged_of_frame wgFireWrite_row_fields (wgFireWrite_row_frame next)
  | devGetInfo => exact unchanged_of_frame devGetInfo_row_fields (devGetInfo_row_frame next)
  | devGetPortStatus => exact unchanged_of_frame devGetPortStatus_row_fields (devGetPortStatus_row_frame next)
  | devAssign => exact unchanged_of_frame devAssign_row_fields (devAssign_row_frame next)
  | devGetOwner => exact unchanged_of_frame devGetOwner_row_fields (devGetOwner_row_frame next)
  | laneConfigure => exact unchanged_of_frame laneConfigure_row_fields (laneConfigure_row_frame next)
  | laneGetStatus => exact unchanged_of_frame laneGetStatus_row_fields (laneGetStatus_row_frame next)
  | laneSetPower => exact unchanged_of_frame laneSetPower_row_fields (laneSetPower_row_frame next)
  | laneEyeScan => exact unchanged_of_frame laneEyeScan_row_fields (laneEyeScan_row_frame next)
  | pllLock => exact unchanged_of_frame pllLock_row_fields (pllLock_row_frame next)
  | trainingFrameReceived => exact unchanged_of_frame trainingFrameReceived_row_fields (trainingFrameReceived_row_frame next)
  | coefficientUpdate => exact unchanged_of_frame coefficientUpdate_row_fields (coefficientUpdate_row_frame next)
  | rxReady => exact unchanged_of_frame rxReady_row_fields (rxReady_row_frame next)
  | trainEndDone => exact unchanged_of_frame trainEndDone_row_fields (trainEndDone_row_frame next)
  | trainingTimerExpiry => exact unchanged_of_frame trainingTimerExpiry_row_fields (trainingTimerExpiry_row_frame next)
  | trainFailRetry => exact unchanged_of_frame trainFailRetry_row_fields (trainFailRetry_row_frame next)
  | lockTimeout => exact unchanged_of_frame lockTimeout_row_fields (lockTimeout_row_frame next)
  | idleFreeze => exact unchanged_of_frame idleFreeze_row_fields (idleFreeze_row_frame next)
  | adaptationResume => exact unchanged_of_frame adaptationResume_row_fields (adaptationResume_row_frame next)
  | eyeWindow => exact unchanged_of_frame eyeWindow_row_fields (eyeWindow_row_frame next)
  | driftAdaptEnd => exact unchanged_of_frame driftAdaptEnd_row_fields (driftAdaptEnd_row_frame next)
  | losAssert => exact unchanged_of_frame losAssert_row_fields (losAssert_row_frame next)
  | losDeassert => exact unchanged_of_frame losDeassert_row_fields (losDeassert_row_frame next)
  | losRetrain => exact unchanged_of_frame losRetrain_row_fields (losRetrain_row_frame next)
  | lolAssert => exact unchanged_of_frame lolAssert_row_fields (lolAssert_row_frame next)
  | dozeSelfWake => exact unchanged_of_frame dozeSelfWake_row_fields (dozeSelfWake_row_frame next)
  | fastResumeTimeout => exact unchanged_of_frame fastResumeTimeout_row_fields (fastResumeTimeout_row_frame next)
  | fecFrameReceived => exact unchanged_of_frame fecFrameReceived_row_fields (fecFrameReceived_row_frame next)
  | huntPeriod => exact unchanged_of_frame huntPeriod_row_fields (huntPeriod_row_frame next)
  | controlBlockReceived => exact unchanged_of_frame controlBlockReceived_row_fields (controlBlockReceived_row_frame next)
  | packetReceived => exact unchanged_of_frame packetReceived_row_fields (packetReceived_row_frame next)
  | lineSegmentReceived => exact unchanged_of_frame lineSegmentReceived_row_fields (lineSegmentReceived_row_frame next)
  | fmarkReceived => exact unchanged_of_frame fmarkReceived_row_fields (fmarkReceived_row_frame next)
  | cctlRequestReceived => exact unchanged_of_frame cctlRequestReceived_row_fields (cctlRequestReceived_row_frame next)
  | cctlAckReceived => exact unchanged_of_frame cctlAckReceived_row_fields (cctlAckReceived_row_frame next)
  | cctlTimeout => exact unchanged_of_frame cctlTimeout_row_fields (cctlTimeout_row_frame next)
  | testPacketReceived => exact unchanged_of_frame testPacketReceived_row_fields (testPacketReceived_row_frame next)
  | eventBlockReceived => exact unchanged_of_frame eventBlockReceived_row_fields (eventBlockReceived_row_frame next)
  | creditBlockReceived => exact unchanged_of_frame creditBlockReceived_row_fields (creditBlockReceived_row_frame next)
  | creditRepeat => exact unchanged_of_frame creditRepeat_row_fields (creditRepeat_row_frame next)
  | packetTransmit => exact unchanged_of_frame packetTransmit_row_fields (packetTransmit_row_frame next)
  | generatedLine => exact unchanged_of_frame generatedLine_row_fields (generatedLine_row_frame next)
  | timeSyncSend => exact unchanged_of_frame timeSyncSend_row_fields (timeSyncSend_row_frame next)
  | timeBlockReceived => exact unchanged_of_frame timeBlockReceived_row_fields (timeBlockReceived_row_frame next)
  | timeExchangeMissed => exact unchanged_of_frame timeExchangeMissed_row_fields (timeExchangeMissed_row_frame next)
  | lmsgReceived => exact unchanged_of_frame lmsgReceived_row_fields (lmsgReceived_row_frame next)
  | powerExchangeTimeout => exact unchanged_of_frame powerExchangeTimeout_row_fields (powerExchangeTimeout_row_frame next)
  | alignMarkSend => exact unchanged_of_frame alignMarkSend_row_fields (alignMarkSend_row_frame next)
  | alignMarkReceived => exact unchanged_of_frame alignMarkReceived_row_fields (alignMarkReceived_row_frame next)
  | linkDegrade => exact unchanged_of_frame linkDegrade_row_fields (linkDegrade_row_frame next)
  | alignDegradeReceived => exact unchanged_of_frame alignDegradeReceived_row_fields (alignDegradeReceived_row_frame next)
  | alignRestripeReceived => exact unchanged_of_frame alignRestripeReceived_row_fields (alignRestripeReceived_row_frame next)
  | bondLaneRestore => exact unchanged_of_frame bondLaneRestore_row_fields (bondLaneRestore_row_frame next)
  | alignRestoreReceived => exact unchanged_of_frame alignRestoreReceived_row_fields (alignRestoreReceived_row_frame next)
  | descriptorRead => exact unchanged_of_frame descriptorRead_row_fields (descriptorRead_row_frame next)
  | descriptorReadRetry => exact unchanged_of_frame descriptorReadRetry_row_fields (descriptorReadRetry_row_frame next)
  | ethFrameReceived => exact unchanged_of_frame ethFrameReceived_row_fields (ethFrameReceived_row_frame next)
  | ethLinkUp => exact unchanged_of_frame ethLinkUp_row_fields (ethLinkUp_row_frame next)
  | arpIcmpAnswer => exact unchanged_of_frame arpIcmpAnswer_row_fields (arpIcmpAnswer_row_frame next)
  | tunnelOutSend => exact unchanged_of_frame tunnelOutSend_row_fields (tunnelOutSend_row_frame next)
  | gvspPacketReceived => exact unchanged_of_frame gvspPacketReceived_row_fields (gvspPacketReceived_row_frame next)
  | gvspBlockTimeout => exact unchanged_of_frame gvspBlockTimeout_row_fields (gvspBlockTimeout_row_frame next)
  | ptpMessageSend => exact unchanged_of_frame ptpMessageSend_row_fields (ptpMessageSend_row_frame next)
  | ptpMessageReceived => exact unchanged_of_frame ptpMessageReceived_row_fields (ptpMessageReceived_row_frame next)
  | ctxCreate => exact unchanged_of_frame ctxCreate_row_fields (ctxCreate_row_frame next)
  | ctxSet => exact unchanged_of_frame ctxSet_row_fields (ctxSet_row_frame next)
  | ctxAssign => exact unchanged_of_frame ctxAssign_row_fields (ctxAssign_row_frame next)
  | ctxStart => exact unchanged_of_frame ctxStart_row_fields (ctxStart_row_frame next)
  | ctxStop => exact unchanged_of_frame ctxStop_row_fields (ctxStop_row_frame next)
  | ctxStopped => exact unchanged_of_frame ctxStopped_row_fields (ctxStopped_row_frame next)
  | ctxRelease => exact unchanged_of_frame ctxRelease_row_fields (ctxRelease_row_frame next)
  | ctxDestroy => exact unchanged_of_frame ctxDestroy_row_fields (ctxDestroy_row_frame next)
  | ctxGetStatus => exact unchanged_of_frame ctxGetStatus_row_fields (ctxGetStatus_row_frame next)
  | intakeSetPartition => exact unchanged_of_frame intakeSetPartition_row_fields (intakeSetPartition_row_frame next)
  | combSetSpare => exact unchanged_of_frame combSetSpare_row_fields (combSetSpare_row_frame next)
  | combGetStatus => exact unchanged_of_frame combGetStatus_row_fields (combGetStatus_row_frame next)
  | lineTimeoutExpiry => exact unchanged_of_frame lineTimeoutExpiry_row_fields (lineTimeoutExpiry_row_frame next)
  | frameTimeoutExpiry => exact unchanged_of_frame frameTimeoutExpiry_row_fields (frameTimeoutExpiry_row_frame next)
  | stripeStart => exact unchanged_of_frame stripeStart_row_fields (stripeStart_row_frame next)
  | combUngate => exact unchanged_of_frame combUngate_row_fields (combUngate_row_frame next)
  | combLine => exact unchanged_of_frame combLine_row_fields (combLine_row_frame next)
  | combFault => exact unchanged_of_frame combFault_row_fields (combFault_row_frame next)
  | spareCopyDone => exact unchanged_of_frame spareCopyDone_row_fields (spareCopyDone_row_frame next)
  | corrSetNoise => exact unchanged_of_frame corrSetNoise_row_fields (corrSetNoise_row_frame next)
  | corrSetTemporal => exact unchanged_of_frame corrSetTemporal_row_fields (corrSetTemporal_row_frame next)
  | corrSetSpatial => exact unchanged_of_frame corrSetSpatial_row_fields (corrSetSpatial_row_frame next)
  | corrSetBlack => exact unchanged_of_frame corrSetBlack_row_fields (corrSetBlack_row_frame next)
  | corrSetRegistration => exact unchanged_of_frame corrSetRegistration_row_fields (corrSetRegistration_row_frame next)
  | corrSetEnable => exact unchanged_of_frame corrSetEnable_row_fields (corrSetEnable_row_frame next)
  | corrLoadTable => exact unchanged_of_frame corrLoadTable_row_fields (corrLoadTable_row_frame next)
  | segSetBackground => exact unchanged_of_frame segSetBackground_row_fields (segSetBackground_row_frame next)
  | segSetThreshold => exact unchanged_of_frame segSetThreshold_row_fields (segSetThreshold_row_frame next)
  | segSetMorph => exact unchanged_of_frame segSetMorph_row_fields (segSetMorph_row_frame next)
  | segCaptureBackground => exact unchanged_of_frame segCaptureBackground_row_fields (segCaptureBackground_row_frame next)
  | bgCaptured => exact unchanged_of_frame bgCaptured_row_fields (bgCaptured_row_frame next)
  | segLoadBackground => exact unchanged_of_frame segLoadBackground_row_fields (segLoadBackground_row_frame next)
  | cellSetFormat => exact unchanged_of_frame cellSetFormat_row_fields (cellSetFormat_row_frame next)
  | stitchConfigure => exact unchanged_of_frame stitchConfigure_row_fields (stitchConfigure_row_frame next)
  | asmObject => exact unchanged_of_frame asmObject_row_fields (asmObject_row_frame next)
  | stitchTimeout => exact unchanged_of_frame stitchTimeout_row_fields (stitchTimeout_row_frame next)
  | unpairedWindowEnd => exact unchanged_of_frame unpairedWindowEnd_row_fields (unpairedWindowEnd_row_frame next)
  | cellDelivery => exact unchanged_of_frame cellDelivery_row_fields (cellDelivery_row_frame next)
  | pgConfigure => exact unchanged_of_frame pgConfigure_row_fields (pgConfigure_row_frame next)
  | pgSetRow => exact unchanged_of_frame pgSetRow_row_fields (pgSetRow_row_frame next)
  | pgLoadRules => exact unchanged_of_frame pgLoadRules_row_fields (pgLoadRules_row_frame next)
  | rulesReadComplete => exact unchanged_of_frame rulesReadComplete_row_fields (rulesReadComplete_row_frame next)
  | pgSetSteering => exact unchanged_of_frame pgSetSteering_row_fields (pgSetSteering_row_frame next)
  | pgGetStatus => exact unchanged_of_frame pgGetStatus_row_fields (pgGetStatus_row_frame next)
  | decisionRecordBind => exact unchanged_of_frame decisionRecordBind_row_fields (decisionRecordBind_row_frame next)
  | decisionDeadline => exact unchanged_of_frame decisionDeadline_row_fields (decisionDeadline_row_frame next)
  | pendingEntryFree => exact unchanged_of_frame pendingEntryFree_row_fields (pendingEntryFree_row_frame next)
  | ejectActionsReceived => exact unchanged_of_frame ejectActionsReceived_row_fields (ejectActionsReceived_row_frame next)
  | ejectDecisionReceived => exact unchanged_of_frame ejectDecisionReceived_row_fields (ejectDecisionReceived_row_frame next)
  | vpConfigure => exact unchanged_of_frame vpConfigure_row_fields (vpConfigure_row_frame next)
  | vpSetMode => exact unchanged_of_frame vpSetMode_row_fields (vpSetMode_row_frame next)
  | vpTestFire => exact unchanged_of_frame vpTestFire_row_fields (vpTestFire_row_frame next)
  | vpGetStatus => exact unchanged_of_frame vpGetStatus_row_fields (vpGetStatus_row_frame next)
  | vpClearFault => exact unchanged_of_frame vpClearFault_row_fields (vpClearFault_row_frame next)
  | valveFrameLatch => exact unchanged_of_frame valveFrameLatch_row_fields (valveFrameLatch_row_frame next)
  | feedbackFrameReceived => exact unchanged_of_frame feedbackFrameReceived_row_fields (feedbackFrameReceived_row_frame next)
  | feedbackMissed => exact unchanged_of_frame feedbackMissed_row_fields (feedbackMissed_row_frame next)
  | valvePortReadbackFault => exact unchanged_of_frame valvePortReadbackFault_row_fields (valvePortReadbackFault_row_frame next)
  | hostLinkUp => exact unchanged_of_frame hostLinkUp_row_fields (hostLinkUp_row_frame next)
  | hostLinkDown => exact unchanged_of_frame hostLinkDown_row_fields (hostLinkDown_row_frame next)
  | steerRestore => exact unchanged_of_frame steerRestore_row_fields (steerRestore_row_frame next)
  | perstAssert => exact unchanged_of_frame perstAssert_row_fields (perstAssert_row_frame next)
  | perstDeassert => exact unchanged_of_frame perstDeassert_row_fields (perstDeassert_row_frame next)
  | configWrite => exact unchanged_of_frame configWrite_row_fields (configWrite_row_frame next)
  | flr => exact unchanged_of_frame flr_row_fields (flr_row_frame next)
  | flrComplete => exact unchanged_of_frame flrComplete_row_fields (flrComplete_row_frame next)
  | translationCompletion => exact unchanged_of_frame translationCompletion_row_fields (translationCompletion_row_frame next)
  | invalidationRequest => exact unchanged_of_frame invalidationRequest_row_fields (invalidationRequest_row_frame next)
  | readCompletionReceived => exact unchanged_of_frame readCompletionReceived_row_fields (readCompletionReceived_row_frame next)
  | completionTimeout => exact unchanged_of_frame completionTimeout_row_fields (completionTimeout_row_frame next)
  | tagQuarantineEnd => exact unchanged_of_frame tagQuarantineEnd_row_fields (tagQuarantineEnd_row_frame next)
  | linkL1Entry => exact unchanged_of_frame linkL1Entry_row_fields (linkL1Entry_row_frame next)
  | doeRequest => exact unchanged_of_frame doeRequest_row_fields (doeRequest_row_frame next)
  | qPartition => exact unchanged_of_frame qPartition_row_fields (qPartition_row_frame next)
  | qCreate => exact unchanged_of_frame qCreate_row_fields (qCreate_row_frame next)
  | qEnable => exact unchanged_of_frame qEnable_row_fields (qEnable_row_frame next)
  | qDisable => exact unchanged_of_frame qDisable_row_fields (qDisable_row_frame next)
  | qDisabled => exact unchanged_of_frame qDisabled_row_fields (qDisabled_row_frame next)
  | qReset => exact unchanged_of_frame qReset_row_fields (qReset_row_frame next)
  | qDestroy => exact unchanged_of_frame qDestroy_row_fields (qDestroy_row_frame next)
  | qSetNotify => exact unchanged_of_frame qSetNotify_row_fields (qSetNotify_row_frame next)
  | qGetStatus => exact unchanged_of_frame qGetStatus_row_fields (qGetStatus_row_frame next)
  | descriptorFetchComplete => exact unchanged_of_frame descriptorFetchComplete_row_fields (descriptorFetchComplete_row_frame next)
  | notifyCoalTimeout => exact unchanged_of_frame notifyCoalTimeout_row_fields (notifyCoalTimeout_row_frame next)
  | sourcePacketSend => exact unchanged_of_frame sourcePacketSend_row_fields (sourcePacketSend_row_frame next)
  | frameRecordStart => exact unchanged_of_frame frameRecordStart_row_fields (frameRecordStart_row_frame next)
  | frameRecordClose => exact unchanged_of_frame frameRecordClose_row_fields (frameRecordClose_row_frame next)
  | timeGetStatus => exact unchanged_of_frame timeGetStatus_row_fields (timeGetStatus_row_frame next)
  | timeSetSource => exact unchanged_of_frame timeSetSource_row_fields (timeSetSource_row_frame next)
  | timeSetExtOffset => exact unchanged_of_frame timeSetExtOffset_row_fields (timeSetExtOffset_row_frame next)
  | timeSetPps => exact unchanged_of_frame timeSetPps_row_fields (timeSetPps_row_frame next)
  | sourceValidityChange => exact unchanged_of_frame sourceValidityChange_row_fields (sourceValidityChange_row_frame next)
  | sourcePromotion => exact unchanged_of_frame sourcePromotion_row_fields (sourcePromotion_row_frame next)
  | ppsEdge => exact unchanged_of_frame ppsEdge_row_fields (ppsEdge_row_frame next)
  | extOffsetApply => exact unchanged_of_frame extOffsetApply_row_fields (extOffsetApply_row_frame next)
  | ppsOutRise => exact unchanged_of_frame ppsOutRise_row_fields (ppsOutRise_row_frame next)
  | ppsOutFall => exact unchanged_of_frame ppsOutFall_row_fields (ppsOutFall_row_frame next)
  | schedAdd => exact unchanged_of_frame schedAdd_row_fields (schedAdd_row_frame next)
  | schedCancel => exact unchanged_of_frame schedCancel_row_fields (schedCancel_row_frame next)
  | schedGetStatus => exact unchanged_of_frame schedGetStatus_row_fields (schedGetStatus_row_frame next)
  | actionExecute => exact unchanged_of_frame actionExecute_row_fields (actionExecute_row_frame next)
  | wgConfigure => exact unchanged_of_frame wgConfigure_row_fields (wgConfigure_row_frame next)
  | wgConnect => exact unchanged_of_frame wgConnect_row_fields (wgConnect_row_frame next)
  | wgSetGroup => exact unchanged_of_frame wgSetGroup_row_fields (wgSetGroup_row_frame next)
  | wgExport => exact unchanged_of_frame wgExport_row_fields (wgExport_row_frame next)
  | wgGetStatus => exact unchanged_of_frame wgGetStatus_row_fields (wgGetStatus_row_frame next)
  | producerOccurrence => exact unchanged_of_frame producerOccurrence_row_fields (producerOccurrence_row_frame next)
  | channelDelayFire => exact unchanged_of_frame channelDelayFire_row_fields (channelDelayFire_row_frame next)
  | wgImportReceived => exact unchanged_of_frame wgImportReceived_row_fields (wgImportReceived_row_frame next)
  | encConfigure => exact unchanged_of_frame encConfigure_row_fields (encConfigure_row_frame next)
  | encSetCount => exact unchanged_of_frame encSetCount_row_fields (encSetCount_row_frame next)
  | encGetStatus => exact unchanged_of_frame encGetStatus_row_fields (encGetStatus_row_frame next)
  | emuConfigure => exact unchanged_of_frame emuConfigure_row_fields (emuConfigure_row_frame next)
  | gpioConfigure => exact unchanged_of_frame gpioConfigure_row_fields (gpioConfigure_row_frame next)
  | gpioWrite => exact unchanged_of_frame gpioWrite_row_fields (gpioWrite_row_frame next)
  | gpioGetStatus => exact unchanged_of_frame gpioGetStatus_row_fields (gpioGetStatus_row_frame next)
  | encoderEdge => exact unchanged_of_frame encoderEdge_row_fields (encoderEdge_row_frame next)
  | encoderIndex => exact unchanged_of_frame encoderIndex_row_fields (encoderIndex_row_frame next)
  | speedUpdate => exact unchanged_of_frame speedUpdate_row_fields (speedUpdate_row_frame next)
  | standstill => exact unchanged_of_frame standstill_row_fields (standstill_row_frame next)
  | encoderHistorySample => exact unchanged_of_frame encoderHistorySample_row_fields (encoderHistorySample_row_frame next)
  | ssiFrame => exact unchanged_of_frame ssiFrame_row_fields (ssiFrame_row_frame next)
  | emulationStep => exact unchanged_of_frame emulationStep_row_fields (emulationStep_row_frame next)
  | gpioEdge => exact unchanged_of_frame gpioEdge_row_fields (gpioEdge_row_frame next)
  | hiveGetStatus => exact unchanged_of_frame hiveGetStatus_row_fields (hiveGetStatus_row_frame next)
  | hiveListDevices => exact unchanged_of_frame hiveListDevices_row_fields (hiveListDevices_row_frame next)
  | hiveSetPolicy => exact unchanged_of_frame hiveSetPolicy_row_fields (hiveSetPolicy_row_frame next)
  | hiveResetDevice => exact unchanged_of_frame hiveResetDevice_row_fields (hiveResetDevice_row_frame next)
  | hiveResetDone => exact unchanged_of_frame hiveResetDone_row_fields (hiveResetDone_row_frame next)
  | hiveRemote => exact unchanged_of_frame hiveRemote_row_fields (hiveRemote_row_frame next)
  | remoteReqReceived => exact unchanged_of_frame remoteReqReceived_row_fields (remoteReqReceived_row_frame next)
  | remoteRespReceived => exact unchanged_of_frame remoteRespReceived_row_fields (remoteRespReceived_row_frame next)
  | hiveRemoteTimeout => exact unchanged_of_frame hiveRemoteTimeout_row_fields (hiveRemoteTimeout_row_frame next)
  | hmsgForward => exact unchanged_of_frame hmsgForward_row_fields (hmsgForward_row_frame next)
  | hiveFormAlone => exact unchanged_of_frame hiveFormAlone_row_fields (hiveFormAlone_row_frame next)
  | electionListenEnd => exact unchanged_of_frame electionListenEnd_row_fields (electionListenEnd_row_frame next)
  | announceSend => exact unchanged_of_frame announceSend_row_fields (announceSend_row_frame next)
  | announceReceived => exact unchanged_of_frame announceReceived_row_fields (announceReceived_row_frame next)
  | electionWin => exact unchanged_of_frame electionWin_row_fields (electionWin_row_frame next)
  | joinRequestSend => exact unchanged_of_frame joinRequestSend_row_fields (joinRequestSend_row_frame next)
  | joinRequestReceived => exact unchanged_of_frame joinRequestReceived_row_fields (joinRequestReceived_row_frame next)
  | joinChallengeReceived => exact unchanged_of_frame joinChallengeReceived_row_fields (joinChallengeReceived_row_frame next)
  | joinResponseReceived => exact unchanged_of_frame joinResponseReceived_row_fields (joinResponseReceived_row_frame next)
  | joinAcceptReceived => exact unchanged_of_frame joinAcceptReceived_row_fields (joinAcceptReceived_row_frame next)
  | joinRefuseReceived => exact unchanged_of_frame joinRefuseReceived_row_fields (joinRefuseReceived_row_frame next)
  | joinRetry => exact unchanged_of_frame joinRetry_row_fields (joinRetry_row_frame next)
  | aliveSend => exact unchanged_of_frame aliveSend_row_fields (aliveSend_row_frame next)
  | aliveReceived => exact unchanged_of_frame aliveReceived_row_fields (aliveReceived_row_frame next)
  | uplinkLoss => exact unchanged_of_frame uplinkLoss_row_fields (uplinkLoss_row_frame next)
  | rerouteReceived => exact unchanged_of_frame rerouteReceived_row_fields (rerouteReceived_row_frame next)
  | uplinkRestore => exact unchanged_of_frame uplinkRestore_row_fields (uplinkRestore_row_frame next)
  | standbyTakeover => exact unchanged_of_frame standbyTakeover_row_fields (standbyTakeover_row_frame next)
  | standbyReady => exact unchanged_of_frame standbyReady_row_fields (standbyReady_row_frame next)
  | mirrorReceived => exact unchanged_of_frame mirrorReceived_row_fields (mirrorReceived_row_frame next)
  | extOffsetMsgReceived => exact unchanged_of_frame extOffsetMsgReceived_row_fields (extOffsetMsgReceived_row_frame next)
  | cellServerReceived => exact unchanged_of_frame cellServerReceived_row_fields (cellServerReceived_row_frame next)
  | cellForward => exact unchanged_of_frame cellForward_row_fields (cellForward_row_frame next)
  | updateReceived => exact unchanged_of_frame updateReceived_row_fields (updateReceived_row_frame next)
  | updateResultReceived => exact unchanged_of_frame updateResultReceived_row_fields (updateResultReceived_row_frame next)
  | faultSummaryReceived => exact unchanged_of_frame faultSummaryReceived_row_fields (faultSummaryReceived_row_frame next)
  | honeySummaryReceived => exact unchanged_of_frame honeySummaryReceived_row_fields (honeySummaryReceived_row_frame next)
  | hiveResetReceived => exact unchanged_of_frame hiveResetReceived_row_fields (hiveResetReceived_row_frame next)
  | fwGetStatus => exact unchanged_of_frame fwGetStatus_row_fields (fwGetStatus_row_frame next)
  | fwWrite => exact unchanged_of_frame fwWrite_row_fields (fwWrite_row_frame next)
  | fwPieceProgrammed => exact unchanged_of_frame fwPieceProgrammed_row_fields (fwPieceProgrammed_row_frame next)
  | fwVerified => exact unchanged_of_frame fwVerified_row_fields (fwVerified_row_frame next)
  | fwActivate => exact unchanged_of_frame fwActivate_row_fields (fwActivate_row_frame next)
  | fwCommitSvn => exact unchanged_of_frame fwCommitSvn_row_fields (fwCommitSvn_row_frame next)
  | fwDistribute => exact unchanged_of_frame fwDistribute_row_fields (fwDistribute_row_frame next)
  | fwDistributed => exact unchanged_of_frame fwDistributed_row_fields (fwDistributed_row_frame next)
  | trustSetOwnerPolicy => exact unchanged_of_frame trustSetOwnerPolicy_row_fields (trustSetOwnerPolicy_row_frame next)
  | trustGetCert => exact unchanged_of_frame trustGetCert_row_fields (trustGetCert_row_frame next)
  | trustSpdm => exact unchanged_of_frame trustSpdm_row_fields (trustSpdm_row_frame next)
  | trustChallenge => exact unchanged_of_frame trustChallenge_row_fields (trustChallenge_row_frame next)
  | nonceExpiry => exact unchanged_of_frame nonceExpiry_row_fields (nonceExpiry_row_frame next)
  | debugUnlock => exact unchanged_of_frame debugUnlock_row_fields (debugUnlock_row_frame next)
  | healthGetSensors => exact unchanged_of_frame healthGetSensors_row_fields (healthGetSensors_row_frame next)
  | logRead => exact unchanged_of_frame logRead_row_fields (logRead_row_frame next)
  | honeyRead => exact unchanged_of_frame honeyRead_row_fields (honeyRead_row_frame next)
  | honeyReset => exact unchanged_of_frame honeyReset_row_fields (honeyReset_row_frame next)
  | calRead => exact unchanged_of_frame calRead_row_fields (calRead_row_frame next)
  | calWrite => exact unchanged_of_frame calWrite_row_fields (calWrite_row_frame next)
  | flashWritten => exact unchanged_of_frame flashWritten_row_fields (flashWritten_row_frame next)
  | pwrSetBootOptions => exact unchanged_of_frame pwrSetBootOptions_row_fields (pwrSetBootOptions_row_frame next)
  | pwrSetState => exact unchanged_of_frame pwrSetState_row_fields (pwrSetState_row_frame next)
  | pwrEntryDone => exact unchanged_of_frame pwrEntryDone_row_fields (pwrEntryDone_row_frame next)
  | pwrWake => exact unchanged_of_frame pwrWake_row_fields (pwrWake_row_frame next)
  | pwrGetStatus => exact unchanged_of_frame pwrGetStatus_row_fields (pwrGetStatus_row_frame next)
  | devReset => exact unchanged_of_frame devReset_row_fields (devReset_row_frame next)
  | compatGetInfo => exact unchanged_of_frame compatGetInfo_row_fields (compatGetInfo_row_frame next)
  | diagPrbs => exact unchanged_of_frame diagPrbs_row_fields (diagPrbs_row_frame next)
  | diagDone => exact unchanged_of_frame diagDone_row_fields (diagDone_row_frame next)
  | diagBankRead => exact unchanged_of_frame diagBankRead_row_fields (diagBankRead_row_frame next)
  | diagInject => exact unchanged_of_frame diagInject_row_fields (diagInject_row_frame next)
  | ctxSetLaunch => exact unchanged_of_frame ctxSetLaunch_row_fields (ctxSetLaunch_row_frame next)
  | compatLaneConfigure => exact unchanged_of_frame compatLaneConfigure_row_fields (compatLaneConfigure_row_frame next)
  | compatLaneGetStatus => exact unchanged_of_frame compatLaneGetStatus_row_fields (compatLaneGetStatus_row_frame next)
  | compatCtxCreate => exact unchanged_of_frame compatCtxCreate_row_fields (compatCtxCreate_row_frame next)
  | compatCtxAssign => exact unchanged_of_frame compatCtxAssign_row_fields (compatCtxAssign_row_frame next)
  | compatCtxStart => exact unchanged_of_frame compatCtxStart_row_fields (compatCtxStart_row_frame next)
  | compatCtxStop => exact unchanged_of_frame compatCtxStop_row_fields (compatCtxStop_row_frame next)
  | compatCtxRelease => exact unchanged_of_frame compatCtxRelease_row_fields (compatCtxRelease_row_frame next)
  | compatCtxDestroy => exact unchanged_of_frame compatCtxDestroy_row_fields (compatCtxDestroy_row_frame next)
  | compatCtxGetStatus => exact unchanged_of_frame compatCtxGetStatus_row_fields (compatCtxGetStatus_row_frame next)
  | compatIntakeSetPartition => exact unchanged_of_frame compatIntakeSetPartition_row_fields (compatIntakeSetPartition_row_frame next)
  | compatCorrSetBlack => exact unchanged_of_frame compatCorrSetBlack_row_fields (compatCorrSetBlack_row_frame next)
  | compatCorrSetEnable => exact unchanged_of_frame compatCorrSetEnable_row_fields (compatCorrSetEnable_row_frame next)
  | compatCorrLoadTable => exact unchanged_of_frame compatCorrLoadTable_row_fields (compatCorrLoadTable_row_frame next)
  | compatPgSetSteering => exact unchanged_of_frame compatPgSetSteering_row_fields (compatPgSetSteering_row_frame next)
  | compatQPartition => exact unchanged_of_frame compatQPartition_row_fields (compatQPartition_row_frame next)
  | compatQCreate => exact unchanged_of_frame compatQCreate_row_fields (compatQCreate_row_frame next)
  | compatQEnable => exact unchanged_of_frame compatQEnable_row_fields (compatQEnable_row_frame next)
  | compatQDisable => exact unchanged_of_frame compatQDisable_row_fields (compatQDisable_row_frame next)
  | compatQReset => exact unchanged_of_frame compatQReset_row_fields (compatQReset_row_frame next)
  | compatQDestroy => exact unchanged_of_frame compatQDestroy_row_fields (compatQDestroy_row_frame next)
  | compatQSetNotify => exact unchanged_of_frame compatQSetNotify_row_fields (compatQSetNotify_row_frame next)
  | compatQGetStatus => exact unchanged_of_frame compatQGetStatus_row_fields (compatQGetStatus_row_frame next)
  | compatTimeGetStatus => exact unchanged_of_frame compatTimeGetStatus_row_fields (compatTimeGetStatus_row_frame next)
  | compatTimeSetSource => exact unchanged_of_frame compatTimeSetSource_row_fields (compatTimeSetSource_row_frame next)
  | compatTimeSetExtOffset => exact unchanged_of_frame compatTimeSetExtOffset_row_fields (compatTimeSetExtOffset_row_frame next)
  | compatTimeSetPps => exact unchanged_of_frame compatTimeSetPps_row_fields (compatTimeSetPps_row_frame next)
  | compatSchedAdd => exact unchanged_of_frame compatSchedAdd_row_fields (compatSchedAdd_row_frame next)
  | compatSchedCancel => exact unchanged_of_frame compatSchedCancel_row_fields (compatSchedCancel_row_frame next)
  | compatSchedGetStatus => exact unchanged_of_frame compatSchedGetStatus_row_fields (compatSchedGetStatus_row_frame next)
  | sysRstNAssert => exact unchanged_of_frame sysRstNAssert_row_fields (sysRstNAssert_row_frame next)
  | sysRstNRelease => exact unchanged_of_frame sysRstNRelease_row_fields (sysRstNRelease_row_frame next)
  | bootOptionsRead => exact unchanged_of_frame bootOptionsRead_row_fields (bootOptionsRead_row_frame next)
  | bootImageLoaded => exact unchanged_of_frame bootImageLoaded_row_fields (bootImageLoaded_row_frame next)
  | keeperReady => exact unchanged_of_frame keeperReady_row_fields (keeperReady_row_frame next)
  | softDeviceReset => exact unchanged_of_frame softDeviceReset_row_fields (softDeviceReset_row_frame next)
  | fullResetByHive => exact unchanged_of_frame fullResetByHive_row_fields (fullResetByHive_row_frame next)
  | keeperRestart => exact unchanged_of_frame keeperRestart_row_fields (keeperRestart_row_frame next)
  | keeperFault => exact unchanged_of_frame keeperFault_row_fields (keeperFault_row_frame next)
  | fwTrialEnd => exact unchanged_of_frame fwTrialEnd_row_fields (fwTrialEnd_row_frame next)
  | jtagInstruction => exact unchanged_of_frame jtagInstruction_row_fields (jtagInstruction_row_frame next)
  | bankRetentionEntry => exact unchanged_of_frame bankRetentionEntry_row_fields (bankRetentionEntry_row_frame next)
  | bankWake => exact unchanged_of_frame bankWake_row_fields (bankWake_row_frame next)
  | eccCorrected => exact unchanged_of_frame eccCorrected_row_fields (eccCorrected_row_frame next)
  | eccUncorrectable => exact unchanged_of_frame eccUncorrectable_row_fields (eccUncorrectable_row_frame next)
  | writeLost => exact unchanged_of_frame writeLost_row_fields (writeLost_row_frame next)
  | backgroundTestWindow => exact unchanged_of_frame backgroundTestWindow_row_fields (backgroundTestWindow_row_frame next)
  | testWindowSurrender => exact unchanged_of_frame testWindowSurrender_row_fields (testWindowSurrender_row_frame next)
  | memValveGuard => exact unchanged_of_frame memValveGuard_row_fields (memValveGuard_row_frame next)
  | assemblerFault => exact unchanged_of_frame assemblerFault_row_fields (assemblerFault_row_frame next)
  | clockLoss => exact unchanged_of_frame clockLoss_row_fields (clockLoss_row_frame next)
  | sysclkHoldoverEnd => exact unchanged_of_frame sysclkHoldoverEnd_row_fields (sysclkHoldoverEnd_row_frame next)
  | supplyExcursion => exact unchanged_of_frame supplyExcursion_row_fields (supplyExcursion_row_frame next)
  | flashFault => exact unchanged_of_frame flashFault_row_fields (flashFault_row_frame next)
  | faultRaised => exact unchanged_of_frame faultRaised_row_fields (faultRaised_row_frame next)
  | faultCleared => exact unchanged_of_frame faultCleared_row_fields (faultCleared_row_frame next)
  | keeperSleep => exact unchanged_of_frame keeperSleep_row_fields (keeperSleep_row_frame next)
  | keeperTick => exact unchanged_of_frame keeperTick_row_fields (keeperTick_row_frame next)
  | sensorSample => exact unchanged_of_frame sensorSample_row_fields (sensorSample_row_frame next)
  | logEntryProgram => exact unchanged_of_frame logEntryProgram_row_fields (logEntryProgram_row_frame next)
  | honeySave => exact unchanged_of_frame honeySave_row_fields (honeySave_row_frame next)
  | thermalTrip => exact unchanged_of_frame thermalTrip_row_fields (thermalTrip_row_frame next)
  | thermalTripClear => exact unchanged_of_frame thermalTripClear_row_fields (thermalTripClear_row_frame next)
  | vddAonRise => exact unchanged_of_frame vddAonRise_row_fields (vddAonRise_row_frame next)
  | dozeResumeDone => exact unchanged_of_frame dozeResumeDone_row_fields (dozeResumeDone_row_frame next)
  | clockReturn => exact unchanged_of_frame clockReturn_row_fields (clockReturn_row_frame next)
  | supplyReturn => exact unchanged_of_frame supplyReturn_row_fields (supplyReturn_row_frame next)

/-- A set of fields without `pending` has its bit clear. -/
theorem fieldSet_pending {l : List Field} (h : l.contains .pending = false) : (fieldSet l).testBit 0 = false := by
  have keep : ∀ (l : List Field) (n : Nat), l.contains .pending = false → n.testBit 0 = false →
      (l.foldl (fun n f => n ||| 2 ^ f.ctorIdx) n).testBit 0 = false := by
    intro l
    induction l with
    | nil => exact fun n _ clear => clear
    | cons f l ih =>
      intro n h clear
      rw [List.contains_cons, Bool.or_eq_false_iff] at h
      have other : f.ctorIdx ≠ 0 := by
        cases f with
        | pending => exact absurd h.1 (by decide)
        | _ => decide
      refine ih _ h.2 ?_
      rw [Nat.testBit_or, clear, Nat.testBit_two_pow_of_ne other]
      rfl
  exact keep l 0 h (Nat.zero_testBit 0)
/-- No row lists the queue of waiting commands among the fields it may change. -/
theorem pending_not_listed (c : Instr) : (mayChange c).contains .pending = false := by
  cases c <;> rfl

/-! The rows whose meaning distinguishes cases before it answers: each case answers a next state. -/

theorem execCtxStopped_next (c : CtxId) (s : State) : ∃ x, execCtxStopped c s = .next x := by
  unfold execCtxStopped
  dsimp only
  repeat' split
  all_goals exact ⟨_, rfl⟩
theorem execLineTimeoutExpiry_next (c : CtxId) (lineNo : Nat) (s : State) : ∃ x, execLineTimeoutExpiry c lineNo s = .next x := by
  unfold execLineTimeoutExpiry
  repeat' split
  all_goals exact ⟨_, rfl⟩
theorem execFrameTimeoutExpiry_next (c : CtxId) (s : State) : ∃ x, execFrameTimeoutExpiry c s = .next x := by
  unfold execFrameTimeoutExpiry
  repeat' split
  all_goals exact ⟨_, rfl⟩
theorem execStripeStart_next (k : CombId) (t : Nat) (s : State) : ∃ x, execStripeStart k t s = .next x := by
  unfold execStripeStart
  dsimp only
  repeat' split
  all_goals exact ⟨_, rfl⟩
theorem execCombUngate_next (k : CombId) (t : Nat) (s : State) : ∃ x, execCombUngate k t s = .next x := by
  unfold execCombUngate
  dsimp only
  repeat' split
  all_goals exact ⟨_, rfl⟩
theorem execCombLine_next (k : CombId) (t : Nat) (s : State) : ∃ x, execCombLine k t s = .next x := by
  unfold execCombLine
  dsimp only
  repeat' split
  all_goals exact ⟨_, rfl⟩
theorem execSpareCopyDone_next (k : CombId) (t : Nat) (s : State) : ∃ x, execSpareCopyDone k t s = .next x := by
  unfold execSpareCopyDone
  dsimp only
  repeat' split
  all_goals exact ⟨_, rfl⟩
theorem execBgCaptured_next (c : CtxId) (s : State) : ∃ x, execBgCaptured c s = .next x := by
  unfold execBgCaptured
  repeat' split
  all_goals exact ⟨_, rfl⟩
theorem execAsmObject_next (a : AsmId) (t : Nat) (s : State) : ∃ x, execAsmObject a t s = .next x := by
  unfold execAsmObject
  dsimp only
  repeat' split
  all_goals exact ⟨_, rfl⟩
theorem execStitchTimeout_next (g : Fin 32) (frag : Nat) (t : Nat) (s : State) : ∃ x, execStitchTimeout g frag t s = .next x := by
  unfold execStitchTimeout
  dsimp only
  repeat' split
  all_goals exact ⟨_, rfl⟩
theorem execUnpairedWindowEnd_next (g : Fin 32) (objectId : Nat) (s : State) : ∃ x, execUnpairedWindowEnd g objectId s = .next x := by
  unfold execUnpairedWindowEnd
  dsimp only
  repeat' split
  all_goals exact ⟨_, rfl⟩
theorem execCellDelivery_next (q : QId) (t : Nat) (s : State) : ∃ x, execCellDelivery q t s = .next x := by
  unfold execCellDelivery
  dsimp only
  repeat' split
  all_goals exact ⟨_, rfl⟩
theorem execDecisionRecordBind_next (q : QId) (t : Nat) (s : State) : ∃ x, execDecisionRecordBind q t s = .next x := by
  unfold execDecisionRecordBind
  dsimp only
  repeat' split
  all_goals exact ⟨_, rfl⟩
theorem execDecisionDeadline_next (slot : Nat) (s : State) : ∃ x, execDecisionDeadline slot s = .next x := by
  unfold execDecisionDeadline
  repeat' split
  all_goals exact ⟨_, rfl⟩
theorem execPendingEntryFree_next (slot : Nat) (s : State) : ∃ x, execPendingEntryFree slot s = .next x := by
  unfold execPendingEntryFree
  dsimp only
  repeat' split
  all_goals exact ⟨_, rfl⟩
theorem execFrameRecordStart_next (c : CtxId) (t : Nat) (s : State) : ∃ x, execFrameRecordStart c t s = .next x := by
  unfold execFrameRecordStart
  dsimp only
  repeat' split
  all_goals exact ⟨_, rfl⟩
/-- A choice between next states is a next state. -/
theorem next_ite {p : Prop} [Decidable p] {a b : Host.Outcome State Fault Refusal} (yes : ∃ x, a = .next x)
    (no : ∃ x, b = .next x) : ∃ x, (if p then a else b) = .next x := by
  split
  · exact yes
  · exact no
theorem execFrameRecordClose_next (c : CtxId) (t : Nat) (s : State) : ∃ x, execFrameRecordClose c t s = .next x := by
  unfold execFrameRecordClose
  dsimp only
  split
  · exact ⟨_, rfl⟩
  · split
    · exact ⟨_, rfl⟩
    · refine next_ite ⟨_, rfl⟩ ?_
      split
      · exact next_ite ⟨_, rfl⟩ (next_ite (next_ite ⟨_, rfl⟩ ⟨_, rfl⟩) (next_ite ⟨_, rfl⟩ ⟨_, rfl⟩))
      · exact ⟨_, rfl⟩

/-- Every row answers a next state: most by their form, the others in each of their cases. -/
theorem exec_next (c : Instr) (s : State) : ∃ t, exec c s = .next t := by
  cases c with
  | ctxStopped c => exact execCtxStopped_next c s
  | lineTimeoutExpiry c lineNo => exact execLineTimeoutExpiry_next c lineNo s
  | frameTimeoutExpiry c => exact execFrameTimeoutExpiry_next c s
  | stripeStart k t => exact execStripeStart_next k t s
  | combUngate k t => exact execCombUngate_next k t s
  | combLine k t => exact execCombLine_next k t s
  | spareCopyDone k t => exact execSpareCopyDone_next k t s
  | bgCaptured c => exact execBgCaptured_next c s
  | asmObject a t => exact execAsmObject_next a t s
  | stitchTimeout g frag t => exact execStitchTimeout_next g frag t s
  | unpairedWindowEnd g objectId => exact execUnpairedWindowEnd_next g objectId s
  | cellDelivery q t => exact execCellDelivery_next q t s
  | decisionRecordBind q t => exact execDecisionRecordBind_next q t s
  | decisionDeadline slot => exact execDecisionDeadline_next slot s
  | pendingEntryFree slot => exact execPendingEntryFree_next slot s
  | frameRecordStart c t => exact execFrameRecordStart_next c t s
  | frameRecordClose c t => exact execFrameRecordClose_next c t s
  | _ => exact ⟨_, rfl⟩

/-- Settles O52: there is a next state, and the queue is not among the fields that its row may change. -/
theorem everyCommandCompletes : Obligations.EveryCommandCompletes := by
  unfold Obligations.EveryCommandCompletes
  intro c s
  obtain ⟨t, next⟩ := exec_next c s
  exact ⟨t, next, mask_pending (fieldSet_pending (pending_not_listed c)) (commandsChangeOnlyTheirFields c s t next)⟩

end Sys2Proof.Machine
end

section
/-! Checks and answers of the mailbox protocol (R327 to R334): a request that fails a check, one that only checks, and the
doorbells (R326, R330, R331). -/
namespace Sys2Proof.Machine

/-- What the service of a request that the keeper takes up comes to: BAD_LENGTH, or the command's answer. -/
theorem Served.serve_eq {c : Cmd} {f m : Nat} {s : State} (h : Served c f m s) :
    serve c f m s = if 1968 < (s.mbx f m).length then nextRequest (respondFail f m (failSt stBadLength) s)
      else conclude f m s (c.answer (s.reqOf f m) s) := by
  obtain ⟨taken, opcode, -, -⟩ := h
  unfold serve
  simp only [taken, opcode, beq_self_eq_true, Bool.and_true, if_true]
  rfl
/-- An answer that leaves the state as it is: the mailbox holds it, and only what an answer changes has changed. -/
theorem Served.answered {c : Cmd} {f m : Nat} {s : State} (hf : f < 4) (h : Served c f m s) (st d fl : Nat) (p : List Byte) :
    Replied s (nextRequest (respond f m st d fl p s)) f m st d fl p ∧
      Unchanged replyFields s (nextRequest (respond f m st d fl p s)) :=
  ⟨replied_next hf h rfl rfl st d fl p, answer_frame hf st d fl p s h.2.2.2⟩

/-! The checks of R334 in their order. -/

theorem answer_of_precheck {c : Cmd} {r : Req} {s : State} {e : Fail} (fails : c.precheck r s = some e) :
    c.answer r s = .fail e := by
  unfold Cmd.answer
  rw [fails]
theorem precheck_of_badLength {c : Cmd} {r : Req} {s : State} (fits : c.len r.body = false) :
    c.precheck r s = some { code := stBadLength } := by
  unfold Cmd.precheck
  rw [if_pos (.inl (by rw [fits]; rfl))]
  rfl
/-- Past the LENGTH, what is checked are the reserved RFLAGS, the command's names and owners, and the mode. -/
theorem precheck_of_length {c : Cmd} {r : Req} {s : State} (fits : c.len r.body = true) (short : r.body.length ≤ 1968) :
    c.precheck r s = if r.flags / 4 % 2 ^ 14 ≠ 0 then some { code := stBadField, field := 0x02 }
      else match c.named r s with
        | some e => some e
        | none => if s.opInMode c.op then none else some (failSt stNotInMode) := by
  unfold Cmd.precheck
  exact if_neg (by simp [fits, short])

/-- Settles O56: the failing check decides the answer, and an answer changes its own fields alone. -/
theorem failedChecksChangeNothing : Obligations.FailedChecksChangeNothing := by
  unfold Obligations.FailedChecksChangeNothing
  refine ⟨?fails, ?tooLong, fun c r s => ⟨?length, ?rflags, ?names, ?mode⟩⟩
  case fails =>
    intro c f m s e h short answer
    rw [h.serve_eq, if_neg (by omega), answer]
    exact h.answered f.isLt ..
  case tooLong =>
    intro c f m s h long
    rw [h.serve_eq, if_pos long]
    exact h.answered f.isLt ..
  case length => exact fun fits => answer_of_precheck (precheck_of_badLength fits)
  case rflags =>
    intro fits short reserved
    exact answer_of_precheck (by rw [precheck_of_length fits short, if_pos reserved])
  case names =>
    intro e fits short reserved names
    exact answer_of_precheck (by rw [precheck_of_length fits short, if_neg (fun other => other reserved), names])
  case mode =>
    intro fits short reserved names mode
    refine answer_of_precheck ?_
    rw [precheck_of_length fits short, if_neg (fun other => other reserved), names, mode]
    rfl

/-- Past the checks, a request whose effect is wanted is answered by the command's run. -/
theorem answer_of_wanted {c : Cmd} {r : Req} {s : State} (passed : c.precheck r s = none)
    (wanted : (r.checkOnly && !c.reads) = false) : c.answer r s = c.run r s := by
  unfold Cmd.answer
  rw [passed, wanted]
/-- With CHECK_ONLY, a commit or a start answers OK with its payload and leaves the state. -/
theorem answer_of_checkOnly {c : Cmd} {r : Req} {s x : State} {p : List Byte} (passed : c.precheck r s = none)
    (only : r.checkOnly = true) (changes : c.reads = false) (run : c.run r s = .ok x p ∨ c.run r s = .started x p) :
    c.answer r s = .ok s p := by
  unfold Cmd.answer
  rw [passed, only, changes]
  rcases run with run | run <;> rw [run] <;> rfl
/-- A failure of the command's own checks is the answer, with CHECK_ONLY or without. -/
theorem answer_of_ownFail {c : Cmd} {r : Req} {s : State} {e : Fail} (passed : c.precheck r s = none)
    (run : c.run r s = .fail e) : c.answer r s = .fail e := by
  unfold Cmd.answer
  rw [passed, run]
  cases r.checkOnly && !c.reads <;> rfl

/-- Settles O57: CHECK_ONLY keeps the answer and drops the effect. -/
theorem checkOnlyChangesNothing : Obligations.CheckOnlyChangesNothing := by
  unfold Obligations.CheckOnlyChangesNothing
  refine ⟨?commits, fun c r s e => answer_of_ownFail, ?wanted⟩
  case commits =>
    intro c f m s x p h short only changes passed run
    rw [h.serve_eq, if_neg (by omega), answer_of_checkOnly passed only changes run]
    have order : (rdRefresh s).goOrder = s.goOrder := mask_goOrder (w := 32768) rfl (rdRefresh_foot (by decide) s)
    have boxes : (rdRefresh s).mbxs = s.mbxs := mask_mbxs (w := 32768) rfl (rdRefresh_foot (by decide) s)
    refine ⟨replied_next f.isLt h boxes order .., ?_⟩
    refine (answer_frame f.isLt _ _ _ _ _ (order ▸ h.2.2.2)).trans ?_
    exact rdRefresh_foot (by decide) s
  case wanted =>
    intro c r s passed wanted
    refine answer_of_wanted passed ?_
    rcases wanted with wanted | wanted <;> simp [wanted]

/-! ### The doorbells -/

/-- With every waiting request one of a known opcode, the keeper answers none at once. -/
theorem drainUnknown_of_known (n : Nat) {s : State}
    (known : ∀ k ∈ s.goOrder, s.opKnown (s.mbx (k / 8) (k % 8)).opcode = true) : drainUnknown n s = s := by
  cases n with
  | zero => rfl
  | succ n =>
    unfold drainUnknown
    split
    · rfl
    · next k l order => simp [known k (by simp [order])]
theorem mbx_of_mbxs {s u : State} (boxes : u.mbxs = s.mbxs) (f m : Nat) : u.mbx f m = s.mbx f m := by
  unfold State.mbx
  rw [boxes]
/-- A change of a mailbox that leaves its request area keeps every mailbox's opcode. -/
theorem opcode_modMbx {f m a b : Nat} {g : Mailbox → Mailbox} {s : State} (kept : ∀ x, (g x).req = x.req) :
    ((modMbx f m g s).mbx a b).opcode = (s.mbx a b).opcode := by
  unfold Mailbox.opcode State.mbx modMbx
  by_cases here : 8 * a + b = 8 * f + m
  · rw [here, Table.getD_put, kept]
    rfl
  · rw [Table.getD_put_ne _ _ _ _ _ here]

/-- After a change of a mailbox that leaves its request area the keeper answers none at once, where every waiting request
is one of a known opcode. -/
theorem nextRequest_of_known {f m : Nat} {g : Mailbox → Mailbox} {s u : State} (boxes : u.mbxs = (modMbx f m g s).mbxs)
    (kept : ∀ x, (g x).req = x.req) (known : ∀ k ∈ u.goOrder, s.opKnown (s.mbx (k / 8) (k % 8)).opcode = true) :
    nextRequest u = u := by
  refine drainUnknown_of_known _ fun k waits => ?_
  have same : (u.mbx (k / 8) (k % 8)).opcode = (s.mbx (k / 8) (k % 8)).opcode := by
    rw [mbx_of_mbxs boxes, opcode_modMbx kept]
  rw [same]
  exact known k waits
/-- GO is taken up (R326): the mailbox is BUSY, and its request is the last of the order. -/
def acceptGo (f m : Nat) (s : State) : State :=
  { modMbx f m (fun b => { b with state := .busy, aborted := false, genGo := b.gen }) (keeperWork s) with
    goOrder := s.goOrder ++ [8 * f + m] }
/-- ABORT ends a request under way (R331). -/
def withdrawGo (f m : Nat) (s : State) : State :=
  let s := modMbx f m (fun b => { b with abort := true }) s
  { s with
    goOrder := s.goOrder.filter (· != 8 * f + m)
    waiting := match s.waiting with
      | some w => if w.fn = f ∧ w.mbx = m then none else some w
      | none => none }
theorem mbx_acceptGo (f m : Nat) (s : State) : (acceptGo f m s).mbx f m =
    { s.mbx f m with state := .busy, aborted := false, genGo := (s.mbx f m).gen } :=
  mbx_modMbx f m (fun b => { b with state := .busy, aborted := false, genGo := b.gen }) (keeperWork s)
theorem mbx_withdrawGo (f m : Nat) (s : State) : (withdrawGo f m s).mbx f m = { s.mbx f m with abort := true } :=
  mbx_modMbx f m (fun b => { b with abort := true }) s
theorem waiting_withdrawGo {f m : Nat} {s : State} {w : Waiting} (waits : s.waiting = some w) (caller : w.fn = f)
    (box : w.mbx = m) : (withdrawGo f m s).waiting = none := by
  unfold withdrawGo
  simp [waits, caller, box]

theorem exec_mbxGo {f : Fn} {s : State} (decodes : s.decodes f = true) (m : Mbx) :
    exec (.mbxGo f m) s = .next (mbxGo f m (tlp f s)) :=
  congrArg Host.Outcome.next (if_pos decodes)
theorem exec_mbxAbort {f : Fn} {s : State} (decodes : s.decodes f = true) (m : Mbx) :
    exec (.mbxAbort f m) s = .next (mbxAbort f m (tlp f s)) :=
  congrArg Host.Outcome.next (if_pos decodes)
theorem mbxGo_of_idle {f m : Nat} {s : State} (idle : (s.mbx f m).state ≠ .busy) (ready : s.readyFor f = true)
    (known : ∀ k ∈ s.goOrder ++ [8 * f + m], s.opKnown (s.mbx (k / 8) (k % 8)).opcode = true) :
    mbxGo f m s = acceptGo f m s :=
  (if_pos ⟨idle, ready⟩).trans
    (nextRequest_of_known (s := keeperWork s) (g := fun b => { b with state := .busy, aborted := false, genGo := b.gen })
      rfl (fun _ => rfl) known)
theorem mbxAbort_of_busy {f m : Nat} {s : State} (busy : (s.mbx f m).state = .busy)
    (known : ∀ k ∈ s.goOrder, s.opKnown (s.mbx (k / 8) (k % 8)).opcode = true) :
    mbxAbort f m s = withdrawGo f m s :=
  (if_pos busy).trans
    (nextRequest_of_known (s := s) (u := withdrawGo f m s) (g := fun b => { b with abort := true }) rfl (fun _ => rfl)
      fun k waits => known k (List.mem_filter.mp waits).1)
theorem mbxAbort_of_idle {f m : Nat} {s : State} (idle : (s.mbx f m).state ≠ .busy) :
    mbxAbort f m s = modMbx f m (fun b => { b with gen := (b.gen + 1) % 256, state := .idle }) s :=
  if_neg idle

/-- Settles O21: each doorbell in each state of its mailbox. -/
theorem mailboxDoorbellsAct : Obligations.MailboxDoorbellsAct := by
  unfold Obligations.MailboxDoorbellsAct
  refine ⟨?go, ?goBusy, ?abort, ?abortIdle, ?complete⟩
  case go =>
    intro f m s decodes ready idle known
    refine ⟨acceptGo f m (tlp f s), ?_, mbx_acceptGo f m _, rfl⟩
    rw [exec_mbxGo decodes, mbxGo_of_idle (s := tlp f s) idle ready known]
  case goBusy =>
    intro f m s decodes busy
    rw [exec_mbxGo decodes]
    unfold mbxGo
    rw [if_neg fun h => h.1 busy]
    rfl
  case abort =>
    intro f m s decodes busy known
    refine ⟨withdrawGo f m (tlp f s), ?_, mbx_withdrawGo f m _, rfl, fun w => waiting_withdrawGo⟩
    rw [exec_mbxAbort decodes, mbxAbort_of_busy (s := tlp f s) busy known]
  case abortIdle =>
    intro f m s decodes idle
    refine ⟨_, exec_mbxAbort decodes m, ?_⟩
    rw [mbxAbort_of_idle (s := tlp f s) idle]
    exact ⟨mbx_modMbx f m _ _, rfl⟩
  case complete =>
    intro f m s aborts busy ready
    refine ⟨_, congrArg Host.Outcome.next (if_pos ⟨aborts, busy, ready⟩), mbx_modMbx f m _ _, fun k other => ?_⟩
    exact Table.getD_put_ne _ _ _ _ _ other

end Sys2Proof.Machine
end

section
/-! Anti-rollback fuses (R471) and the edges of waggle producers (R396). -/
namespace Sys2Proof.Machine

/-- Settles O58: FUSE_SVN is the first fuse of the 64 that is not programmed. -/
theorem fuseSvnCountsConsecutiveFuses : Obligations.FuseSvnCountsConsecutiveFuses := by
  unfold Obligations.FuseSvnCountsConsecutiveFuses
  intro t n
  unfold Trust.fuseSvn
  cases first : (List.range 64).find? fun i => !bit t.fuses i with
  | none =>
    rw [List.find?_range_eq_none] at first
    have all : ∀ i, i < 64 → bit t.fuses i = true := by simpa using first
    constructor
    · rintro rfl
      exact ⟨Nat.le_refl _, all, fun h => absurd h (by decide)⟩
    · rintro ⟨most, -, ends⟩
      rcases Nat.lt_or_eq_of_le most with inside | full
      · exact absurd ((ends inside).symm.trans (all n inside)) Bool.false_ne_true
      · exact full.symm
  | some k =>
    rw [List.find?_range_eq_some] at first
    obtain ⟨clear, inside, below⟩ := first
    have clear : bit t.fuses k = false := by simpa using clear
    have inside : k < 64 := List.mem_range.mp inside
    have below : ∀ i, i < k → bit t.fuses i = true := by simpa using below
    constructor
    · rintro rfl
      exact ⟨Nat.le_of_lt inside, below, fun _ => clear⟩
    · rintro ⟨most, programmed, ends⟩
      show k = n
      rcases Nat.lt_trichotomy k n with less | same | more
      · exact absurd (programmed k less) (by simp [clear])
      · exact same
      · exact absurd (ends (by omega)) (by simp [below n more])

/-- The channels at which an occurrence of `producer` originates (R396). -/
def State.channelsOf (s : State) (producer : Nat) (rise : Bool) : List Nat :=
  (s.wag.chans.filter fun c => c.2.producer == some producer &&
    (!wgLevel producer || c.2.edge == 2 || (c.2.edge == 0 && rise) || (c.2.edge == 1 && !rise))).map (·.1)
theorem exec_producerOccurrence (p : Nat) (rise : Bool) (t : Nat) (s : State) :
    exec (.producerOccurrence p rise t) s =
      .next (if (s.channelsOf p rise).isEmpty then advTo t s else originate (s.channelsOf p rise) true (advTo t s)) := by
  have same : (advTo t s).channelsOf p rise = s.channelsOf p rise := by simp [State.channelsOf]
  rw [← same]
  rfl
theorem mem_channelsOf {s : State} {p c : Nat} {rise : Bool} :
    c ∈ s.channelsOf p rise ↔ ∃ v, (c, v) ∈ s.wag.chans ∧ v.producer = some p ∧
      (wgLevel p = true → v.edge = 2 ∨ (v.edge = 0 ∧ rise = true) ∨ (v.edge = 1 ∧ rise = false)) := by
  unfold State.channelsOf
  cases wgLevel p <;> simp [or_assoc]

/-- Settles O60: the channels are those that name the producer, of a level producer those that take its edge. -/
theorem edgeAppliesToLevelProducers : Obligations.EdgeAppliesToLevelProducers := by
  unfold Obligations.EdgeAppliesToLevelProducers
  intro p rise t s
  refine ⟨s.channelsOf p rise, ?_, fun c => mem_channelsOf⟩
  rw [exec_producerOccurrence]
  simp only [List.isEmpty_iff]

end Sys2Proof.Machine
end

section
/-! The mailbox commands of devices, waggle channels, hive time and the schedule (Tables 12-8, 13-5 to 13-8, 15-4 to 15-6):
an accepted request commits what its rule gives. -/
namespace Sys2Proof.Machine

/-! ### Devices and ownership (R338, R339) -/

/-- A caller of a mailbox is a function: DEV_GET_INFO answers from its own word and status. -/
theorem devGetInfo_of_fn {f : Fn} {r : Req} {s : State} (caller : r.fn = f.val) : cmdDevGetInfo.run r s =
    .ok s (b32 0x9600 ++ b8 0xB0 ++ b8 (b2n s.sys.gradeI) ++ b16 0 ++ b64 s.sys.serial ++ b32 s.sys.fwVersion
      ++ b32 s.sys.secVersion ++ b32 (strapWord s.sys.straps) ++ b32 (s.fnWord f % 16) ++ b32 s.deviceId
      ++ b32 (s.hbStatus f)) := by
  simp only [cmdDevGetInfo, caller, f.isLt, if_true]

/-- DEV_GET_PORT_STATUS returns the port's state and counters, which CLEAR clears. -/
theorem devGetPortStatus_run (r : Req) (s : State) : cmdDevGetPortStatus.run r s =
    .ok (if r.clear then modHp (r.u32 0) (fun h => { h with counts := cntClear h.counts 0 12 }) s else s)
      (b32 (b2n (s.hp (r.u32 0)).up + 2 * b2n (s.available (r.u32 0)) + 4 * (s.hp (r.u32 0)).dstate
        + 256 * ((s.hp (r.u32 0)).width % 16) + 65536 * ((s.hp (r.u32 0)).rate100 % 65536))
        ++ b32 (s.hp (r.u32 0)).maxPayload ++ cntBytes (s.hp (r.u32 0)).counts 0 12) := rfl

/-- Settles O22: each device command's run. -/
theorem deviceCommandsComplete : Obligations.DeviceCommandsComplete := by
  unfold Obligations.DeviceCommandsComplete
  refine ⟨?info, ?port, ?assign, ?owner⟩
  case info =>
    intro f m s h
    exact accepted_commits f.isLt h (cmdDevGetInfo_foot (w := 0) (by decide) _ s rfl) rfl rfl (devGetInfo_of_fn rfl)
  case port =>
    intro f m s h
    exact accepted_commits f.isLt h (cmdDevGetPortStatus_foot (w := 32768) (by decide) _ s rfl) rfl rfl
      (devGetPortStatus_run ..)
  case assign =>
    intro f m s k n o h r kind owner
    refine accepted_commits f.isLt h (cmdDevAssign_foot (w := 16) (by decide) _ s rfl) rfl rfl ?_
    have passed := h.run_eq.2
    simp only [cmdDevAssign] at passed ⊢
    rw [checked_pass passed]
    simp only [r, kind, owner]
  case owner =>
    intro f m s h
    refine accepted_commits f.isLt h (cmdDevGetOwner_foot (w := 0) (by decide) _ s rfl) rfl rfl ?_
    have passed := h.run_eq.2
    simp only [cmdDevGetOwner] at passed ⊢
    exact checked_pass passed

/-! ### Waggle channels (R362, R396 to R405) -/

section
variable {r : Req} {s : State} (h : (cmdWgExport.run r s).failed = false)
include h

/-- What WG_EXPORT removes, or gives to every device, is set at once. -/
theorem wgExport_of_own (own : bit (r.u32 8) 1 = false ∨ bit (r.u32 8) 0 = true) :
    cmdWgExport.run r s = .ok (wgExportCommit r s) [] := by
  simp only [cmdWgExport] at h ⊢
  rw [checked_pass h, if_pos]
  rcases own with own | own <;> simp [own]
/-- WG_EXPORT to a channel of another device waits for that device to say who owns the channel. -/
theorem wgExport_of_asked {x : State} (on : bit (r.u32 8) 1 = true) (single : bit (r.u32 8) 0 = false)
    (other : r.u32 4 ≠ s.deviceId)
    (sent : sendRemote (r.u32 4) r.fn 0x0004 0 r.tag (b32 5 ++ b32 (r.u32 0xC)) s = (true, x)) :
    cmdWgExport.run r s = .wait { x with
      waiting := some { fn := r.fn, mbx := r.mbx, since := s.now, what := .owners (r.u32 4) 5 [r.u32 0xC] } } true := by
  simp only [cmdWgExport] at h ⊢
  rw [checked_pass h, if_neg (by simp [on, single]), if_neg other]
  exact askOwner_of_sent rfl sent
end

/-- Settles O25: each waggle command's run. -/
theorem waggleCommandsComplete : Obligations.WaggleCommandsComplete := by
  unfold Obligations.WaggleCommandsComplete
  refine ⟨?configure, ?connect, ?group, ?own, ?asked, ?input, ?channel, ?imports⟩
  case configure =>
    intro f m s h
    refine accepted_commits f.isLt h (cmdWgConfigure_foot (w := 8796093022208) (by decide) _ s rfl) rfl rfl ?_
    have passed := h.run_eq.2
    simp only [cmdWgConfigure] at passed ⊢
    exact checked_pass passed
  case connect =>
    intro f m s h
    refine accepted_commits f.isLt h (cmdWgConnect_foot (w := 8796093022208) (by decide) _ s rfl) rfl rfl ?_
    have passed := h.run_eq.2
    simp only [cmdWgConnect] at passed ⊢
    exact checked_pass passed
  case group =>
    intro f m s h
    refine accepted_commits f.isLt h (cmdWgSetGroup_foot (w := 8796093022208) (by decide) _ s rfl) rfl rfl ?_
    have passed := h.run_eq.2
    simp only [cmdWgSetGroup] at passed ⊢
    exact checked_pass passed
  case own =>
    intro f m s h r own
    exact accepted_commits f.isLt h (cmdWgExport_foot (w := 8796131033152) (by decide) _ s rfl) rfl rfl
      (wgExport_of_own h.run_eq.2 own)
  case asked =>
    intro f m s x h r on single other sent
    exact congrArg Host.Outcome.next (accepted_waits h (wgExport_of_asked h.run_eq.2 on single other sent))
  case input =>
    intro f m s k h r view key
    subst key
    exact accepted_commits f.isLt h (cmdWgGetStatus_foot (w := 8796093022208) (by decide) _ s rfl) rfl rfl (if_pos view)
  case channel =>
    intro f m s c v h r view hc hv
    subst hc hv
    have view : bits ((s.reqOf f m).u32 0) 30 2 = 0 := view
    exact accepted_commits f.isLt h (cmdWgGetStatus_foot (w := 8796093022208) (by decide) _ s rfl) rfl rfl
      ((if_neg (by omega)).trans (if_pos view))
  case imports =>
    intro f m s c v h r view hc hv
    subst hc hv
    have view : bits ((s.reqOf f m).u32 0) 30 2 = 2 := view
    exact accepted_commits f.isLt h (cmdWgGetStatus_foot (w := 8796093022208) (by decide) _ s rfl) rfl rfl
      ((if_neg (by omega)).trans (if_neg (by omega)))

/-! ### Hive time (R358, R359, R377 to R385) -/

/-- Settles O27: each time command's run. -/
theorem timeCommandsComplete : Obligations.TimeCommandsComplete := by
  unfold Obligations.TimeCommandsComplete
  refine ⟨?status, ?source, ?offset, ?pps⟩
  case status =>
    intro f m s h
    exact accepted_commits f.isLt h (cmdTimeGetStatus_foot (w := 0) (by decide) _ s rfl) rfl rfl rfl
  case source =>
    intro f m s h
    refine accepted_commits f.isLt h (cmdTimeSetSource_foot (w := 1081442) (by decide) _ s rfl) rfl rfl ?_
    have passed := h.run_eq.2
    simp only [cmdTimeSetSource] at passed ⊢
    exact checked_pass passed
  case offset =>
    intro f m s h
    refine accepted_commits f.isLt h (cmdTimeSetExtOffset_foot (w := 37748832) (by decide) _ s rfl) rfl rfl ?_
    have passed := h.run_eq.2
    simp only [cmdTimeSetExtOffset] at passed ⊢
    exact checked_pass passed
  case pps =>
    intro f m s h
    refine accepted_commits f.isLt h (cmdTimeSetPps_foot (w := 32) (by decide) _ s rfl) rfl rfl ?_
    have passed := h.run_eq.2
    simp only [cmdTimeSetPps] at passed ⊢
    exact checked_pass passed

/-! ### The schedule (R360, R361, R389) -/

section
variable {op : Nat} {f : Fn} {m : Mbx} {s : State}

/-- SCHED_ADD under either of its opcodes places the actions of its request and judges them. -/
theorem schedAdd_commits (h : Accepted (cmdSchedAdd op) f m s) :
    let r := s.reqOf f m
    let x := (actionOffsets r).foldl (placeNext r) ([], s)
    ∃ u, (Host.Outcome.next (serve (cmdSchedAdd op) f m s) : Host.Outcome State Fault Refusal) = .next u ∧
      Commits s u f m (x.1.flatMap fun n => b32 (x.2.handle n)) (x.1.foldl judgeAction x.2) := by
  intro r x
  refine accepted_commits f.isLt h (cmdSchedAdd_foot (w := 17317414076490) (by decide) op _ s rfl) rfl rfl ?_
  have passed := h.run_eq.2
  simp only [cmdSchedAdd] at passed ⊢
  exact checked_pass passed
/-- SCHED_CANCEL frees what its handles name of the caller's. -/
theorem schedCancel_commits (h : Accepted (cmdSchedCancel op) f m s) :
    let r := s.reqOf f m
    let x := (List.range (r.u32 0)).foldl (cancelNext r) (0, s)
    ∃ u, (Host.Outcome.next (serve (cmdSchedCancel op) f m s) : Host.Outcome State Fault Refusal) = .next u ∧
      Commits s u f m (b32 x.1 ++ b32 (r.u32 0 - x.1)) x.2 := by
  intro r x
  refine accepted_commits f.isLt h (cmdSchedCancel_foot (w := 274877906944) (by decide) op _ s rfl) rfl rfl ?_
  have passed := h.run_eq.2
  simp only [cmdSchedCancel] at passed ⊢
  exact checked_pass passed
/-- SCHED_GET_STATUS returns the free entries, the caller's actions and the counters. -/
theorem schedGetStatus_commits (h : Accepted (cmdSchedGetStatus op) f m s) :
    let r := s.reqOf f m
    ∃ u, (Host.Outcome.next (serve (cmdSchedGetStatus op) f m s) : Host.Outcome State Fault Refusal) = .next u ∧
      Commits s u f m
        (b32 s.flightFree ++ b32 (s.placedBy r.fn) ++ (List.range 6).flatMap fun i => b32 (cnt s.flight.counts i) ++ b32 (cnt s.flight.counts (6 + i)))
        (if r.clear then modFlight (fun f => { f with counts := cntClear f.counts 0 12 }) s else s) :=
  accepted_commits f.isLt h (cmdSchedGetStatus_foot (w := 274877906944) (by decide) op _ s rfl) rfl rfl rfl
end

/-- Settles O29: the three schedule commands, under their native opcodes. -/
theorem scheduleCommandsComplete : Obligations.ScheduleCommandsComplete := by
  unfold Obligations.ScheduleCommandsComplete
  exact ⟨fun _ _ _ => schedAdd_commits, fun _ _ _ => schedCancel_commits, fun _ _ _ => schedGetStatus_commits⟩

end Sys2Proof.Machine
end

section
/-! The mailbox commands of power, diagnostics, firmware, trust, keeper records and the hive (Tables 13-9 to 13-15): an
accepted request commits, begins or waits as its rule gives. -/
namespace Sys2Proof.Machine

/-! ### Power and diagnostics (R369, R371, R503, R544 to R551) -/

/-- PWR_SET_STATE that passes its checks returns the device to RUN, or takes it to DOZE or SLEEP. -/
theorem pwrSetState_of_passed {r : Req} {s : State} (h : (cmdPwrSetState.run r s).failed = false) :
    cmdPwrSetState.run r s =
      .ok (if r.u32 0 = 0 then wakeDevice 6 s else enterDevice (r.u32 0 == 2) (r.u32 4) s) [] := by
  simp only [cmdPwrSetState] at h ⊢
  exact checked_pass h
/-- DIAG_PRBS that passes its checks begins a test, or with DURATION 0 ends the one in force. -/
theorem diagPrbs_of_passed {r : Req} {s : State} (h : (cmdDiagPrbs.run r s).failed = false) :
    cmdDiagPrbs.run r s = if r.u32 4 = 0 then
        .ok (modLink (r.u32 0) (fun k => { k with prbs := k.prbs.map fun p => { p with due := min p.due s.now } }) s) []
      else .started (hold (.prbs (r.u32 0)) (modLink (r.u32 0) (fun k => { k with
        prbs := some { fn := r.fn, since := s.now, due := s.now + 1000000 * r.u32 4, share := r.u32 8 } }) s)) [] := by
  simp only [cmdDiagPrbs, diagPrbs] at h ⊢
  exact checked_pass h

/-- Settles O43: each power and diagnostic command's run. -/
theorem powerAndDiagnosticCommandsComplete : Obligations.PowerAndDiagnosticCommandsComplete := by
  unfold Obligations.PowerAndDiagnosticCommandsComplete
  refine ⟨?run, ?down, ?status, ?reset, ?test, ?testEnd, ?bank, ?inject⟩
  case run =>
    intro f m s h r up
    exact accepted_commits f.isLt h (cmdPwrSetState_foot (w := 166761938) (by decide) _ s rfl) rfl rfl
      ((pwrSetState_of_passed h.run_eq.2).trans (by rw [if_pos up]))
  case down =>
    intro f m s h r low
    exact accepted_commits f.isLt h (cmdPwrSetState_foot (w := 166761938) (by decide) _ s rfl) rfl rfl
      ((pwrSetState_of_passed h.run_eq.2).trans (by rw [if_neg low]))
  case status =>
    intro f m s n h lanes
    subst lanes
    exact accepted_commits f.isLt h (cmdPwrGetStatus_foot (w := 0) (by decide) _ s rfl) rfl rfl rfl
  case reset =>
    intro f m s h r
    refine accepted_commits f.isLt h (cmdDevReset_foot (w := 16) (by decide) _ s rfl) rfl rfl ?_
    have passed := h.run_eq.2
    simp only [cmdDevReset] at passed ⊢
    exact checked_pass passed
  case test =>
    intro f m s h r long
    exact accepted_starts f.isLt h (cmdDiagPrbs_foot (w := 4194320) (by decide) _ s rfl) rfl rfl
      ((diagPrbs_of_passed h.run_eq.2).trans (if_neg long))
  case testEnd =>
    intro f m s h r ends
    exact accepted_commits f.isLt h (cmdDiagPrbs_foot (w := 4194320) (by decide) _ s rfl) rfl rfl
      ((diagPrbs_of_passed h.run_eq.2).trans (if_pos ends))
  case bank =>
    intro f m s h r
    refine accepted_commits f.isLt h (cmdDiagBankRead_foot (w := 3140) (by decide) _ s rfl) rfl rfl ?_
    have passed := h.run_eq.2
    simp only [cmdDiagBankRead] at passed ⊢
    exact checked_pass passed
  case inject =>
    intro f m s h r
    refine accepted_commits f.isLt h (cmdDiagInject_foot (w := 27102606426) (by decide) _ s rfl) rfl rfl ?_
    have passed := h.run_eq.2
    simp only [cmdDiagInject] at passed ⊢
    exact checked_pass passed

/-! ### Firmware and trust (R364 to R366, R475 to R485) -/

/-- The piece of a FW_WRITE waits for the flash. -/
def queuePiece (r : Req) (s : State) : State :=
  modSys (fun y => { y with fwWaiting := y.fwWaiting ++ [(r.u32 0, r.u32 8, r.body.drop 16)] }) s
/-- A FW_WRITE with data that is not the first piece and passes its checks queues its piece; the last holds the slot. -/
theorem fwWrite_of_passed {r : Req} {s : State} (h : (cmdFwWrite.run r s).failed = false)
    (later : bit (r.u32 4) 0 = false) (data : r.u32 0xC ≠ 0) :
    let push : FwPush := { fn := r.fn, taken := r.u32 8 + r.u32 0xC, committed := bit (r.u32 4) 1 }
    let x := modTrust (fun t => { t with writing := t.writing.put (r.u32 0) push }) (queuePiece r s)
    cmdFwWrite.run r s = if bit (r.u32 4) 1 then .started (hold (.fwSlot (r.u32 0)) x) [] else .ok x [] := by
  simp only [cmdFwWrite, fwWriteRun] at h ⊢
  rw [checked_pass h]
  simp only [later, data, if_false, queuePiece, Bool.false_eq_true]
/-- FW_COMMIT_SVN that passes its checks, with fuses enough burnt, burns them and returns what they read. -/
theorem fwCommitSvn_of_passed {k : Nat} {r : Req} {s x : State} (h : ((cmdFwCommitSvn k).run r s).failed = false)
    (effect : r.checkOnly = false) (burns : min 64 (imgSvn s.trust.running) - s.trust.fuseSvn ≤ k)
    (burnt : x = dropOld (burnFuses s.trust.fuseSvn (min 64 (imgSvn s.trust.running) - s.trust.fuseSvn) s)) :
    (cmdFwCommitSvn k).run r s =
      .ok (raise 0x0B07 sevI x.trust.fuseSvn x.trust.validBits 0 x.functions x) (b32 x.trust.fuseSvn) := by
  subst burnt
  simp only [cmdFwCommitSvn] at h ⊢
  rw [checked_pass h]
  simp only [effect, burns, if_true, if_false, Bool.false_eq_true]
/-- TRUST_SET_OWNER_POLICY that passes its checks, with the hash burnt before or now, puts the policy in force. -/
theorem trustSetOwnerPolicy_of_passed {k : Bool} {r : Req} {s x : State}
    (h : ((cmdTrustSetOwnerPolicy k).run r s).failed = false) (burns : s.trust.ownerHash.isNone = false ∨ k = true)
    (took : x = (takePolicy (r.body.drop 4) (burnHash (r.body.drop 4) s)).functions.foldl (fun s f => rdRewrite f s)
      (takePolicy (r.body.drop 4) (burnHash (r.body.drop 4) s))) :
    (cmdTrustSetOwnerPolicy k).run r s = .started (startFlash { item := 3, fn := r.fn, data := r.body.drop 4, opts := none }
      (raise 0x0B05 sevI 1 x.trustedWord (u32At (r.body.drop 4) 8) x.functions x)) [] := by
  subst took
  simp only [cmdTrustSetOwnerPolicy] at h ⊢
  rw [checked_pass h, if_neg]
  rcases burns with burns | burns <;> simp [burns]

/-- Settles O39: each trust and firmware command's run. -/
theorem trustCommandsComplete : Obligations.TrustCommandsComplete := by
  unfold Obligations.TrustCommandsComplete
  refine ⟨?status, ?piece, ?last, ?activate, ?svn, ?policy, ?options, ?cert, ?challenge, ?unlock⟩
  case status =>
    intro f m s h
    exact accepted_commits f.isLt h (cmdFwGetStatus_foot (w := 0) (by decide) _ s rfl) rfl rfl rfl
  case piece =>
    intro f m s h r flags data
    have flags : (s.reqOf f m).u32 4 = 0 := flags
    have run := fwWrite_of_passed h.run_eq.2 (by rw [flags]; decide) data
    rw [flags] at run
    exact accepted_commits f.isLt h (cmdFwWrite_foot (w := 594) (by decide) _ s rfl) rfl rfl run
  case last =>
    intro f m s h r flags data
    have flags : (s.reqOf f m).u32 4 = 2 := flags
    have run := fwWrite_of_passed h.run_eq.2 (by rw [flags]; decide) data
    rw [flags] at run
    exact accepted_starts f.isLt h (cmdFwWrite_foot (w := 594) (by decide) _ s rfl) rfl rfl run
  case activate =>
    intro f m s h r
    refine accepted_commits f.isLt h (cmdFwActivate_foot (w := 530) (by decide) _ s rfl) rfl rfl ?_
    have passed := h.run_eq.2
    simp only [cmdFwActivate] at passed ⊢
    exact checked_pass passed
  case svn =>
    intro f m k s x h r effect burns burnt
    exact accepted_commits f.isLt h (cmdFwCommitSvn_foot (w := 1081922) (by decide) k _ s rfl) rfl rfl
      (fwCommitSvn_of_passed h.run_eq.2 effect burns burnt)
  case policy =>
    intro f m k s x h r burns took
    exact accepted_starts f.isLt h (cmdTrustSetOwnerPolicy_foot (w := 1081942) (by decide) k _ s rfl) rfl rfl
      (trustSetOwnerPolicy_of_passed h.run_eq.2 burns took)
  case options =>
    intro f m s h r
    refine accepted_starts f.isLt h (cmdPwrSetBootOptions_foot (w := 528) (by decide) _ s rfl) rfl rfl ?_
    have passed := h.run_eq.2
    simp only [cmdPwrSetBootOptions] at passed ⊢
    exact checked_pass passed
  case cert =>
    intro f m s h r
    refine accepted_commits f.isLt h (cmdTrustGetCert_foot (w := 0) (by decide) _ s rfl) rfl rfl ?_
    have passed := h.run_eq.2
    simp only [cmdTrustGetCert] at passed ⊢
    exact checked_pass passed
  case challenge =>
    intro f m s h r
    refine accepted_commits f.isLt h (cmdTrustChallenge_foot (w := 516) (by decide) _ s rfl) rfl rfl ?_
    have passed := h.run_eq.2
    simp only [cmdTrustChallenge] at passed ⊢
    exact checked_pass passed
  case unlock =>
    intro f m s k h r key
    refine accepted_commits f.isLt h (cmdDebugUnlock_foot (w := 1081922) (by decide) _ s rfl) rfl rfl ?_
    simp only [cmdDebugUnlock, show s.unlockKey 1 (s.reqOf f m).body = some k from key]

/-! ### Keeper records (R366, R368, R480, R519 to R529) -/

/-- CAL_WRITE that passes its checks stages its piece behind those staged, or puts the record in use. -/
theorem calWrite_of_passed {r : Req} {s : State} {writes : List (Nat × List Byte)}
    (h : (cmdCalWrite.run r s).failed = false) (all : (if bit (r.u32 4) 0 then [] else
      ((s.staging.find? fun y => y.table == 3).map (·.writes)).getD []) ++ [(r.u32 8, r.body.drop 16)] = writes) :
    cmdCalWrite.run r s = if bit (r.u32 4) 1 then
        .started (startFlash { item := 2, fn := r.fn, data := stagedCal writes, opts := none }
          (modKeeper (fun k => { k with cal := stagedCal writes }) { s with staging := s.staging.filter fun y => y.table != 3 })) []
      else .ok { s with staging := (s.staging.filter fun y => y.table != 3) ++
        [{ ctx := 256 + r.fn, table := 3, size := 65536, writes := writes }] } [] := by
  subst all
  simp only [cmdCalWrite] at h ⊢
  exact checked_pass h

/-- Settles O41: each keeper record command's run. -/
theorem keeperRecordCommandsComplete : Obligations.KeeperRecordCommandsComplete := by
  unfold Obligations.KeeperRecordCommandsComplete
  refine ⟨?sensors, ?log, ?honey, ?honeyReset, ?cal, ?stage, ?use, ?spdm⟩
  case sensors =>
    intro f m s h
    exact accepted_commits f.isLt h (cmdHealthGetSensors_foot (w := 0) (by decide) _ s rfl) rfl rfl rfl
  case log =>
    intro f m s h r k l
    refine accepted_commits f.isLt h (cmdLogRead_foot (w := 0) (by decide) 63 _ s rfl) rfl rfl ?_
    have passed := h.run_eq.2
    simp only [cmdLogRead] at passed ⊢
    exact checked_pass passed
  case honey =>
    intro f m s h r
    refine accepted_commits f.isLt h (cmdHoneyRead_foot (w := 0) (by decide) _ s rfl) rfl rfl ?_
    have passed := h.run_eq.2
    simp only [cmdHoneyRead] at passed ⊢
    exact checked_pass passed
  case honeyReset =>
    intro f m s k h r key
    refine accepted_commits f.isLt h (cmdHoneyReset_foot (w := 4802) (by decide) _ s rfl) rfl rfl ?_
    simp only [cmdHoneyReset, show s.unlockKey 2 (s.reqOf f m).body = some k from key]
  case cal =>
    intro f m s h r
    refine accepted_commits f.isLt h (cmdCalRead_foot (w := 0) (by decide) _ s rfl) rfl rfl ?_
    have passed := h.run_eq.2
    simp only [cmdCalRead] at passed ⊢
    exact checked_pass passed
  case stage =>
    intro f m s h r first more
    have run := calWrite_of_passed h.run_eq.2 (by rw [if_pos first])
    rw [if_neg (by simp [show bit ((s.reqOf f m).u32 4) 1 = false from more])] at run
    exact accepted_commits f.isLt h (cmdCalWrite_foot (w := 4294967888) (by decide) _ s rfl) rfl rfl run
  case use =>
    intro f m s y h r later last staged
    have run := calWrite_of_passed h.run_eq.2 (by rw [if_neg (by simp [show bit ((s.reqOf f m).u32 4) 0 = false from later]), staged])
    rw [if_pos last] at run
    exact accepted_starts f.isLt h (cmdCalWrite_foot (w := 4294967888) (by decide) _ s rfl) rfl rfl run
  case spdm =>
    intro f m s h r own
    refine accepted_commits f.isLt h (cmdTrustSpdm_foot (w := 38011460) (by decide) _ s rfl) rfl rfl ?_
    have caller : (s.reqOf f m).fn < 4 := f.isLt
    simp only [cmdTrustSpdm]
    rw [if_pos (.inl own), if_pos caller]

end Sys2Proof.Machine
end

section
/-! The mailbox commands of the hive (Table 13-13) and of encoders, emulation outputs and pins (Table 12-17). -/
namespace Sys2Proof.Machine

/-! ### The hive (R354, R363 to R367, R436, R451, R466) -/

section
variable {r : Req} {s : State} (h : (cmdHiveResetDevice.run r s).failed = false)
include h

/-- HIVE_RESET_DEVICE of the device itself: its reset is due in 100 µs. -/
theorem hiveResetDevice_of_own (own : r.u32 0 = s.deviceId) : cmdHiveResetDevice.run r s =
    .started (resetLater 0 100000 (hold (.device (r.u32 0))
      (modHive (fun h => { h with resets := h.resets.put (r.u32 0) r.fn }) s))) [] := by
  simp only [cmdHiveResetDevice] at h ⊢
  rw [checked_pass h, if_pos (by simp [own])]
/-- HIVE_RESET_DEVICE of a member sends it a RESET message. -/
theorem hiveResetDevice_of_member {x : State} (other : r.u32 0 ≠ s.deviceId) (member : (s.member (r.u32 0)).isSome = true)
    (sent : hsend 5 6 0 (r.u32 0) (b8 (r.u32 4)) s = (true, x)) : cmdHiveResetDevice.run r s =
    .started (hold (.device (r.u32 0)) (modHive (fun h => { h with resets := h.resets.put (r.u32 0) r.fn }) x)) [] := by
  simp only [cmdHiveResetDevice] at h ⊢
  rw [checked_pass h, if_neg (by simp [other]), if_neg (by simp [Option.isSome_iff_ne_none.mp member]), sent]
  rfl
end

/-- FW_DISTRIBUTE that passes its checks, to every member or to one that is there, sends the image and holds it. -/
theorem fwDistribute_of_passed {r : Req} {s : State} {q : Option Nat} {im : List Byte}
    (h : (cmdFwDistribute.run r s).failed = false) (there : r.u32 0 = wordNone ∨ (s.member (r.u32 0)).isSome = true) :
    q = (if r.u32 0 = wordNone then none else some (r.u32 0)) → im = (s.trust.slot s.inactive).image →
    cmdFwDistribute.run r s = .started (hold .distribute (modHive (fun h => { h with
        dist := some { fn := r.fn, slot := s.inactive, target := q, activate := r.u32 4
                       waiting := (match q with | some x => [x] | none => h.members.map (·.id))
                       verified := 0, failed := 0, rounds := [] } })
      (sendUpdate q 2 (b8 (r.u32 4)) (sendRange q im 0 (imageLen im)
        (sendUpdate q 0 (b32 (imgVersion im) ++ b32 (imgSvn im) ++ b32 (imageLen im)) s))))) [] := by
  rintro rfl rfl
  simp only [cmdFwDistribute] at h ⊢
  have reached : ¬(r.u32 0 ≠ wordNone ∧ (s.member (r.u32 0)).isNone = true) := by
    rintro ⟨single, absent⟩
    rcases there with all | member
    · exact single all
    · exact Option.isSome_iff_ne_none.mp member (Option.isNone_iff_eq_none.mp absent)
  exact (checked_pass h).trans (if_neg reached)
/-- HIVE_REMOTE to another device sends the request and waits for its response. -/
theorem hiveRemote_of_sent {r : Req} {s x : State} (h : (cmdHiveRemote.run r s).failed = false)
    (other : r.u32 0 ≠ s.deviceId) (sent : hsend 5 4 0 (r.u32 0) (b8 r.fn ++ r.body.drop 8) s = (true, x)) :
    cmdHiveRemote.run r s = .wait { x with
      waiting := some { fn := r.fn, mbx := r.mbx, since := s.now, what := .remote (r.u32 0) s.hive.seq } } false := by
  simp only [cmdHiveRemote, hiveRemote] at h ⊢
  rw [checked_pass h, if_neg other, sent]
  rfl

/-- Settles O37: each hive command's run. -/
theorem hiveCommandsComplete : Obligations.HiveCommandsComplete := by
  unfold Obligations.HiveCommandsComplete
  refine ⟨?status, ?list, ?policy, ?own, ?member, ?distribute, ?remote⟩
  case status =>
    intro f m s h
    exact accepted_commits f.isLt h (cmdHiveGetStatus_foot (w := 0) (by decide) _ s rfl) rfl rfl rfl
  case list =>
    intro f m s l h r sorted
    subst sorted
    refine accepted_commits f.isLt h (cmdHiveListDevices_foot (w := 4) (by decide) _ s rfl) rfl rfl ?_
    have passed := h.run_eq.2
    simp only [cmdHiveListDevices] at passed ⊢
    exact checked_pass passed
  case policy =>
    intro f m s h r
    refine accepted_commits f.isLt h (cmdHiveSetPolicy_foot (w := 33554432) (by decide) _ s rfl) rfl rfl ?_
    have passed := h.run_eq.2
    simp only [cmdHiveSetPolicy] at passed ⊢
    exact checked_pass passed
  case own =>
    intro f m s h r own
    exact accepted_starts f.isLt h (cmdHiveResetDevice_foot (w := 37748816) (by decide) _ s rfl) rfl rfl
      (hiveResetDevice_of_own h.run_eq.2 own)
  case member =>
    intro f m s x h r other member sent
    exact accepted_starts f.isLt h (cmdHiveResetDevice_foot (w := 37748816) (by decide) _ s rfl) rfl rfl
      (hiveResetDevice_of_member h.run_eq.2 other member sent)
  case distribute =>
    intro f m s q im h r target image there
    exact accepted_starts f.isLt h (cmdFwDistribute_foot (w := 37748816) (by decide) _ s rfl) rfl rfl
      (fwDistribute_of_passed h.run_eq.2 there target image)
  case remote =>
    intro f m s x h r other sent
    exact congrArg Host.Outcome.next (accepted_waits h (hiveRemote_of_sent h.run_eq.2 other sent))

/-! ### Encoders, emulation outputs and pins (R328, R353, R414, R423, R428) -/

/-! An answer leaves encoders, emulation outputs and pins as the command left them. -/

theorem Unchanged.enc {s t : State} (h : Unchanged replyFields s t) (e : Nat) : t.enc e = s.enc e := by
  unfold State.enc
  rw [mask_encs (w := fieldSet replyFields) rfl h]
theorem Unchanged.emu {s t : State} (h : Unchanged replyFields s t) (o : Nat) : t.emu o = s.emu o := by
  unfold State.emu
  rw [mask_emus (w := fieldSet replyFields) rfl h]
theorem Unchanged.pin {s t : State} (h : Unchanged replyFields s t) (p : Nat) : t.pin p = s.pin p := by
  unfold State.pin
  rw [mask_pins (w := fieldSet replyFields) rfl h]

/-- An encoder as ENC_CONFIGURE sets it. -/
def Req.encSettings (r : Req) (v : Enc) : Enc :=
  let base := ({ v with ssi := r.u32 4 == 1, standstill := r.u32 0x10, cRef := none, ssiLast := none } : Enc).restart []
  if r.u32 4 == 1 then { base with ssiBits := r.u32 0x1C, ssiGray := r.u32 0x20 == 1, ssiClk := r.u32 0x24, ssiPeriod := r.u32 0x28 }
  else { base with filter := r.u32 8, invert := r.u32 0xC == 1, rezero := r.u32 0x14 == 1, indexPeriod := r.u32 0x18 }
theorem encConfigure_of_passed {r : Req} {s : State} (h : (cmdEncConfigure.run r s).failed = false) :
    cmdEncConfigure.run r s = .ok (modEnc (r.u32 0) (fun _ => r.encSettings (s.enc (r.u32 0))) s) [] := by
  simp only [cmdEncConfigure] at h ⊢
  exact checked_pass h
/-- The settings of each kind of encoder. -/
theorem encSettings_ssi {r : Req} (ssi : r.u32 4 = 1) (v : Enc) : r.encSettings v =
    { ({ v with ssi := true, standstill := r.u32 0x10, cRef := none, ssiLast := none } : Enc).restart [] with
      ssiBits := r.u32 0x1C, ssiGray := r.u32 0x20 == 1, ssiClk := r.u32 0x24, ssiPeriod := r.u32 0x28 } := by
  simp [Req.encSettings, ssi]
theorem encSettings_quad {r : Req} (quad : r.u32 4 ≠ 1) (v : Enc) : r.encSettings v =
    { ({ v with ssi := false, standstill := r.u32 0x10, cRef := none, ssiLast := none } : Enc).restart [] with
      filter := r.u32 8, invert := r.u32 0xC == 1, rezero := r.u32 0x14 == 1, indexPeriod := r.u32 0x18 } := by
  have word : (r.u32 4 == 1) = false := beq_eq_false_iff_ne.mpr quad
  simp [Req.encSettings, word]

/-- EMU_CONFIGURE that passes its checks. -/
theorem emuConfigure_of_passed {r : Req} {s : State} (h : (cmdEmuConfigure.run r s).failed = false) :
    ∃ w : Emu, cmdEmuConfigure.run r s = .ok (setEmu (r.u32 0) (r.u32 0x18 == 1) (modEmu (r.u32 0) (fun _ => w) s)) [] ∧
      w.source = optWord (r.u32 4) ∧ w.zEvery = r.u32 0x14 ∧ w.o = (s.emu (r.u32 0)).o ∧
      ((optWord (r.u32 4)).isSome = true → w.n = r.u32 8 ∧ w.m = r.u32 0xC) ∧
      ((optWord (r.u32 4)).isSome = false → w.rate = s32At r.body 0x10) := by
  simp only [cmdEmuConfigure] at h ⊢
  refine ⟨_, checked_pass h, rfl, rfl, rfl, fun follows => ?_, fun free => ?_⟩
  · simp only [follows, if_true, and_self]
  · simp only [free, if_false, Bool.false_eq_true]
/-- What setting an output's enable leaves of it. -/
theorem emu_setEmu (o : Nat) (on : Bool) (s : State) :
    ((setEmu o on s).emu o).source = (s.emu o).source ∧ ((setEmu o on s).emu o).zEvery = (s.emu o).zEvery ∧
    ((setEmu o on s).emu o).enable = on ∧ ((setEmu o on s).emu o).o = (s.emu o).o ∧
    ((setEmu o on s).emu o).n = (s.emu o).n ∧ ((setEmu o on s).emu o).m = (s.emu o).m ∧
    ((setEmu o on s).emu o).rate = (s.emu o).rate := by
  unfold setEmu
  by_cases same : on = (s.emu o).enable
  · rw [if_pos same]
    exact ⟨rfl, rfl, same.symm, rfl, rfl, rfl, rfl⟩
  · rw [if_neg same]
    simp
theorem emu_setEmu_ne {o j : Nat} (other : j ≠ o) (on : Bool) (s : State) : (setEmu o on s).emu j = s.emu j := by
  unfold setEmu
  dsimp only
  split
  · rfl
  · exact emu_modEmu_ne _ _ _ _ other
/-- A pin as GPIO_CONFIGURE sets it, but for the level that a driven pin takes. -/
def Req.pinSettings (r : Req) (v : Pin) : Pin :=
  let cap := r.u32 4 == 1
  { v with
    mode := pinMode (r.u32 4), filter := r.u32 0xC
    edge := if cap then r.u32 0x10 else v.edge
    capEnc := if cap then optWord (r.u32 0x14) else v.capEnc
    openDrain := if (pinMode (r.u32 4)).drives then r.u32 0x18 == 1 else v.openDrain }
theorem pinSettings_mode (r : Req) (v : Pin) : (r.pinSettings v).mode = pinMode (r.u32 4) := rfl
theorem pinSettings_filter (r : Req) (v : Pin) : (r.pinSettings v).filter = r.u32 0xC := rfl
theorem pinSettings_openDrain {r : Req} (drives : (pinMode (r.u32 4)).drives = true) (v : Pin) :
    (r.pinSettings v).openDrain = (r.u32 0x18 == 1) :=
  if_pos drives
theorem pinSettings_capture {r : Req} (cap : r.u32 4 = 1) (v : Pin) :
    (r.pinSettings v).edge = r.u32 0x10 ∧ (r.pinSettings v).capEnc = optWord (r.u32 0x14) := by
  simp [Req.pinSettings, cap]
@[simp] theorem pin_setPin (p : Nat) (level : Bool) (s : State) : (setPin p level s).pin p = { s.pin p with out := level } := by
  simp [setPin]
theorem pin_setPin_ne {p q : Nat} (other : q ≠ p) (level : Bool) (s : State) : (setPin p level s).pin q = s.pin q := by
  simp [setPin, pin_modPin_ne _ _ _ _ other]
/-- Pins set one after another, each to its own level: those named have it, the others stay. -/
theorem pin_setPins (level : Nat → Bool) (l : List Nat) (s : State) (p : Nat) :
    (l.foldl (fun s p => setPin p (level p) s) s).pin p =
      if l.contains p then { s.pin p with out := level p } else s.pin p := by
  induction l generalizing s with
  | nil => rfl
  | cons q l ih =>
    rw [List.foldl_cons, ih]
    by_cases here : p = q
    · subst here
      simp
    · simp [pin_setPin_ne here, here]

theorem gpioConfigure_of_passed {r : Req} {s : State} (h : (cmdGpioConfigure.run r s).failed = false) :
    cmdGpioConfigure.run r s = .ok
      (if (pinMode (r.u32 4)).drives then setPin (r.u32 0) (r.u32 8 == 1) (modPin (r.u32 0) (fun _ => r.pinSettings (s.pin (r.u32 0))) s)
        else modPin (r.u32 0) (fun _ => r.pinSettings (s.pin (r.u32 0))) s) [] := by
  simp only [cmdGpioConfigure] at h ⊢
  exact checked_pass h
theorem gpioWrite_of_passed {r : Req} {s : State} (h : (cmdGpioWrite.run r s).failed = false) :
    cmdGpioWrite.run r s =
      .ok ((setBits 64 (u64At r.body 0)).foldl (fun s p => setPin p (bit (u64At r.body 8) p) s) s) [] := by
  simp only [cmdGpioWrite] at h ⊢
  exact checked_pass h
/-- GPIO_GET_STATUS of all the caller's pins, and of one. -/
theorem gpioGetStatus_of_all {r : Req} {s : State} (all : r.u32 0 = wordNone) : cmdGpioGetStatus.run r s =
    .ok s (b64 (mapOf 64 fun p => s.owns r.fn .gpio p && (s.pin p).reads)) := by
  simp [cmdGpioGetStatus, optWord, all]
theorem gpioGetStatus_of_one {r : Req} {s : State} {p : Nat} (one : r.u32 0 = p) (named : p ≠ wordNone) :
    cmdGpioGetStatus.run r s =
      .ok (modPin p (fun v => { v with unread := false, counts := if r.clear then cntClear v.counts 0 2 else v.counts }) s)
        (b64 (mapOf 64 fun p => s.owns r.fn .gpio p && (s.pin p).reads) ++ b64 (s.pin p).capTime
          ++ bs64 (s.pin p).capCount ++ cntBytes (s.pin p).counts 0 2) := by
  simp [cmdGpioGetStatus, optWord, one, named]

/-- Settles O34: each command's run, and the fields of the unit it leaves. -/
theorem encoderCommandsComplete : Obligations.EncoderCommandsComplete := by
  unfold Obligations.EncoderCommandsComplete
  refine ⟨?configure, ?count, ?output, ?pin, ?write, ?status⟩
  case configure =>
    intro f m s h r e
    obtain ⟨u, next, done, kept⟩ := accepted_commits f.isLt h
      (cmdEncConfigure_foot (w := 1099511627776) (by decide) _ s rfl) rfl rfl (encConfigure_of_passed h.run_eq.2)
    have here : u.enc e = r.encSettings (s.enc e) := (kept.enc e).trans (enc_modEnc ..)
    refine ⟨u, next, done, ?_⟩
    rw [here]
    have others : ∀ j, j ≠ e → u.enc j = s.enc j := fun j other => (kept.enc j).trans (enc_modEnc_ne _ _ _ _ other)
    by_cases ssi : r.u32 4 = 1
    · rw [encSettings_ssi ssi]
      exact ⟨by simp [ssi]; rfl, rfl, rfl, rfl, rfl, rfl, rfl, fun _ => ⟨rfl, rfl, rfl, rfl⟩, fun quad => absurd ssi quad, others⟩
    · rw [encSettings_quad ssi]
      exact ⟨(beq_eq_false_iff_ne.mpr ssi).symm, rfl, rfl, rfl, rfl, rfl, rfl, fun quad => absurd quad ssi,
        fun _ => ⟨rfl, rfl, rfl, rfl⟩, others⟩
  case count =>
    intro f m s h r e
    have run : cmdEncSetCount.run r s = .ok (modEnc e (fun v => { v with count := s64At r.body 8, cRef := none }) s) [] := by
      have passed := h.run_eq.2
      simp only [cmdEncSetCount] at passed ⊢
      exact checked_pass passed
    obtain ⟨u, next, done, kept⟩ := accepted_commits f.isLt h
      (cmdEncSetCount_foot (w := 1099511627776) (by decide) _ s rfl) rfl rfl run
    exact ⟨u, next, done, (kept.enc e).trans (enc_modEnc ..), fun j other => (kept.enc j).trans (enc_modEnc_ne _ _ _ _ other)⟩
  case output =>
    intro f m s h r o
    obtain ⟨w, run, source, every, position, ratio, rate⟩ := emuConfigure_of_passed h.run_eq.2
    obtain ⟨u, next, done, kept⟩ := accepted_commits f.isLt h
      (cmdEmuConfigure_foot (w := 2199023255552) (by decide) _ s rfl) rfl rfl run
    obtain ⟨source', every', enable', position', n', m', rate'⟩ := emu_setEmu o (r.u32 0x18 == 1) (modEmu o (fun _ => w) s)
    rw [emu_modEmu] at source' every' position' n' m' rate'
    refine ⟨u, next, done, ?_⟩
    rw [kept.emu o]
    refine ⟨source'.trans source, every'.trans every, enable', position'.trans position, fun follows => ?_, fun free => ?_,
      fun j other => ?_⟩
    · obtain ⟨n, m⟩ := ratio (by simp [optWord, show (s.reqOf f m).u32 4 ≠ wordNone from follows])
      exact ⟨n'.trans n, m'.trans m⟩
    · exact rate'.trans (rate (by simp [optWord, show (s.reqOf f m).u32 4 = wordNone from free]))
    · rw [kept.emu j, emu_setEmu_ne other, emu_modEmu_ne _ _ _ _ other]
  case pin =>
    intro f m s h r p
    obtain ⟨u, next, done, kept⟩ := accepted_commits f.isLt h
      (cmdGpioConfigure_foot (w := 4398046511106) (by decide) _ s rfl) rfl rfl (gpioConfigure_of_passed h.run_eq.2)
    refine ⟨u, next, done, ?_⟩
    rw [kept.pin p]
    have others : ∀ j, j ≠ p → u.pin j = s.pin j := fun j other => by
      rw [kept.pin j]
      split
      · rw [pin_setPin_ne other, pin_modPin_ne _ _ _ _ other]
      · rw [pin_modPin_ne _ _ _ _ other]
    by_cases drives : (pinMode (r.u32 4)).drives = true
    · rw [if_pos drives, pin_setPin, pin_modPin]
      dsimp only
      exact ⟨pinSettings_mode .., pinSettings_filter .., fun _ => ⟨rfl, pinSettings_openDrain drives _⟩,
        fun cap => pinSettings_capture cap _, others⟩
    · rw [if_neg drives, pin_modPin]
      exact ⟨pinSettings_mode .., pinSettings_filter .., fun yes => absurd yes drives,
        fun cap => pinSettings_capture cap _, others⟩
  case write =>
    intro f m s h r
    obtain ⟨u, next, done, kept⟩ := accepted_commits f.isLt h
      (cmdGpioWrite_foot (w := 4398046511106) (by decide) _ s rfl) rfl rfl (gpioWrite_of_passed h.run_eq.2)
    exact ⟨u, next, done, fun p => (kept.pin p).trans (pin_setPins (bit (u64At r.body 8)) _ s p)⟩
  case status =>
    intro f m s h r lv
    by_cases all : r.u32 0 = wordNone
    · obtain ⟨u, next, done, -⟩ := accepted_commits f.isLt h
        (cmdGpioGetStatus_foot (w := 4398046511104) (by decide) _ s rfl) rfl rfl (gpioGetStatus_of_all all)
      exact ⟨u, next, fun _ => done, fun p one named => absurd (one.symm.trans all) named⟩
    · obtain ⟨u, next, done, kept⟩ := accepted_commits f.isLt h
        (cmdGpioGetStatus_foot (w := 4398046511104) (by decide) _ s rfl) rfl rfl (gpioGetStatus_of_one rfl all)
      refine ⟨u, next, fun none => absurd none all, fun p one named => ?_⟩
      subst one
      refine ⟨done, ?_⟩
      rw [kept.pin, pin_modPin]

end Sys2Proof.Machine
end

section
/-! The commands of F4800 compatibility (R533 to R540, Table 23-2): each takes the run of its native command, under the
restrictions of the table. -/
namespace Sys2Proof.Machine

section
variable {f : Fn} {m : Mbx} {s x : State} {p : List Byte}

/-! ### The rows: where the run commits, the answer is concluded (R327, R354) -/

theorem exec_compatCtxCreate_commits (h : Accepted cmdCompatCtxCreate f m s)
    (e : cmdCompatCtxCreate.run (s.reqOf f m) s = .ok x p) : ∃ u, exec (.compatCtxCreate f m) s = .next u ∧ Commits s u f m p x :=
  accepted_commits f.isLt h (cmdCompatCtxCreate_foot (w := 83886080) (by decide) _ s rfl) rfl rfl e
theorem exec_compatCtxAssign_commits (h : Accepted cmdCompatCtxAssign f m s)
    (e : cmdCtxAssign.run (s.reqOf f m) s = .ok x p) : ∃ u, exec (.compatCtxAssign f m) s = .next u ∧ Commits s u f m p x :=
  accepted_commits f.isLt h (cmdCompatCtxAssign_foot (w := 201327616) (by decide) _ s rfl) rfl rfl e
theorem exec_compatCtxRelease_commits (h : Accepted cmdCompatCtxRelease f m s)
    (e : cmdCtxRelease.run (s.reqOf f m) s = .ok x p) : ∃ u, exec (.compatCtxRelease f m) s = .next u ∧ Commits s u f m p x :=
  accepted_commits f.isLt h (cmdCompatCtxRelease_foot (w := 201326592) (by decide) _ s rfl) rfl rfl e
theorem exec_compatCorrSetBlack_commits (h : Accepted cmdCompatCorrSetBlack f m s)
    (e : cmdCorrSetBlack.run (s.reqOf f m) s = .ok x p) : ∃ u, exec (.compatCorrSetBlack f m) s = .next u ∧ Commits s u f m p x :=
  accepted_commits f.isLt h (cmdCompatCorrSetBlack_foot (w := 8658124874) (by decide) _ s rfl) rfl rfl e
theorem exec_compatCorrLoadTable_commits (h : Accepted cmdCompatCorrLoadTable f m s)
    (e : loadTable (fun k => k == 0) (s.reqOf f m) s = .ok x p) :
    ∃ u, exec (.compatCorrLoadTable f m) s = .next u ∧ Commits s u f m p x :=
  accepted_commits f.isLt h (cmdCompatCorrLoadTable_foot (w := 12953092170) (by decide) _ s rfl) rfl rfl e
theorem exec_compatQSetNotify_commits (h : Accepted cmdCompatQSetNotify f m s)
    (e : cmdQSetNotify.run (s.reqOf f m) s = .ok x p) : ∃ u, exec (.compatQSetNotify f m) s = .next u ∧ Commits s u f m p x :=
  accepted_commits f.isLt h (cmdCompatQSetNotify_foot (w := 1048576) (by decide) _ s rfl) rfl rfl e
end
/-- In RUN the row of COMPAT_CTX_START is the service of its command. -/
theorem exec_compatCtxStart_of_run {f : Fn} {m : Mbx} {s : State} (run : s.sys.devState = .run) :
    exec (.compatCtxStart f m) s = .next (serve cmdCompatCtxStart f m s) :=
  congrArg Host.Outcome.next (serveWaking_of_run cmdCompatCtxStart (fun _ => true) f m run)

/-! ### Runs that compatibility restricts -/

section
variable {r : Req} {s : State}

/-- A lane that compatibility admits is configured as natively. -/
theorem compatLaneConfigure_of_passed (h : (cmdCompatLaneConfigure.run r s).failed = false) (lane : compatLane r = true) :
    cmdCompatLaneConfigure.run r s = .ok (laneCommit r s) [] := by
  simp only [cmdCompatLaneConfigure, if_pos lane] at h ⊢
  exact laneConfigure_of_passed h
/-- COMPAT_CTX_CREATE that passes its checks, on a lane and on a channel. -/
theorem compatCtxCreate_of_passed {c : Nat} (h : (cmdCompatCtxCreate.run r s).failed = false) (direct : r.u32 0x0C = wordNone)
    (id : (if r.u32 0 = wordNone then s.freeCtx else some (r.u32 0)) = some c) :
    cmdCompatCtxCreate.run r s = .ok { s with ctxs := s.ctxs.put c r.madeCtx } (b32 c) := by
  simp only [cmdCompatCtxCreate, ctxCreate] at h ⊢
  rw [checked_pass h]
  simp [direct, id, optWord, Req.madeCtx]
theorem compatCtxCreate_channel_of_passed {c : Nat} (h : (cmdCompatCtxCreate.run r s).failed = false) (sourced : r.u32 4 ≠ 3)
    (channel : r.u32 0x0C ≠ wordNone) (id : (if r.u32 0 = wordNone then s.freeCtx else some (r.u32 0)) = some c) :
    cmdCompatCtxCreate.run r s =
      .ok { modEth (r.u32 8) (fun e => { e with
              streams := e.streams.put (r.u32 0x0C) { counts := (e.streams.getD (r.u32 0x0C) {}).counts } }) s with
            ctxs := s.ctxs.put c r.madeCtx } (b32 c) := by
  simp only [cmdCompatCtxCreate, ctxCreate] at h ⊢
  rw [checked_pass h]
  simp [sourced, channel, id, optWord, Req.madeCtx]
theorem compatSetPartition_of_passed (h : (cmdCompatIntakeSetPartition.run r s).failed = false) :
    cmdCompatIntakeSetPartition.run r s =
      .ok { s with parts := (List.range 4).foldl (fun p i => p.put (4 * r.u32 0 + i) (r.u32 (4 + 4 * i))) s.parts } [] := by
  simp only [cmdCompatIntakeSetPartition, setPartition] at h ⊢
  exact checked_pass h
theorem compatPgSetSteering_of_passed {l : List SteerEntry} (h : (cmdCompatPgSetSteering.run r s).failed = false)
    (entries : l = ((List.range (min (r.u32 4) 16)).map (steerWords r)).map (newSteer s)) :
    cmdCompatPgSetSteering.run r s = .ok (steerStarts (steerTarget r) l (setSteer (steerTarget r) l s)) [] := by
  subst entries
  simp only [cmdCompatPgSetSteering, setSteering] at h ⊢
  exact checked_pass h
/-- CTX_SET_LAUNCH that passes its checks on a context there is sets whether its frames are held. -/
theorem ctxSetLaunch_of_passed {x : Ctx} (found : s.ctx (r.u32 0) = some x) (h : (cmdCtxSetLaunch.run r s).failed = false) :
    cmdCtxSetLaunch.run r s = .ok (modCtx (r.u32 0) (fun x => { x with launchTimed := r.u32 4 == 1 }) s) [] := by
  simp only [cmdCtxSetLaunch, withCtx_of_found found] at h ⊢
  exact checked_pass h
theorem compatQCreate_of_passed {q : Nat} (h : (cmdCompatQCreate.run r s).failed = false) (id : q = s.qBase r.fn + r.u32 0) :
    cmdCompatQCreate.run r s = .ok
      (setQueue q { kind := r.u32 4, owner := r.fn, settings := r.queueSettings (r.aperturePage s) }
        (wakeBank (queueBank (q / 16384)) s))
      (b32 q ++ b32 ((r.aperturePage s).getD wordNone)) := by
  subst id
  simp only [cmdCompatQCreate, qCreate] at h ⊢
  exact checked_pass h
end

/-- Settles O49, command by command: the run is that of the native command. -/
theorem compatibilityContextCommandsComplete : Obligations.CompatibilityContextCommandsComplete := by
  unfold Obligations.CompatibilityContextCommandsComplete
  refine ⟨?info, ?lane, ?laneStatus, ?create, ?createChannel, ?assign, ?assignFree, ?start, ?stop, ?release, ?releaseComb,
    ?destroy, ?status, ?partition, ?blackFixed, ?blackTracked, ?enable, ?stage, ?commit, ?steer, ?launch⟩
  case info =>
    intro f m s h
    exact accepted_commits f.isLt h (cmdCompatGetInfo_foot (w := 0) (by decide) _ s rfl) rfl rfl rfl
  case lane =>
    intro f m s h r lane
    exact accepted_commits f.isLt h (cmdCompatLaneConfigure_foot (w := 66106434) (by decide) _ s rfl) rfl rfl
      (compatLaneConfigure_of_passed h.run_eq.2 lane)
  case laneStatus =>
    intro f m s h r
    exact accepted_commits f.isLt h (cmdCompatLaneGetStatus_foot (w := 23068672) (by decide) _ s rfl) rfl rfl
      (laneGetStatus_of_passed h.run_eq.2)
  case create =>
    intro f m s c h r sourced direct id
    have made := compatCtxCreate_of_passed h.run_eq.2 direct id
    rw [madeCtx_sourced sourced, optWord, if_pos direct] at made
    exact exec_compatCtxCreate_commits h made
  case createChannel =>
    intro f m s c h r sourced channel id
    have made := compatCtxCreate_channel_of_passed h.run_eq.2 sourced channel id
    rw [madeCtx_sourced sourced, optWord, if_neg channel] at made
    exact exec_compatCtxCreate_commits h made
  case assign =>
    intro f m s x y h r found sourced inUse fits admitted
    have busy : (s.comb (r.u32 4)).state ≠ .free := by simp [inUse]
    exact exec_compatCtxAssign_commits h (ctxAssign_of_passed found h.run_eq.2 fits sourced admitted (if_neg busy).symm)
  case assignFree =>
    intro f m s x y h r found sourced free fits taken
    exact exec_compatCtxAssign_commits h
      (ctxAssign_of_passed found h.run_eq.2 fits sourced rfl (taken.trans (if_pos free).symm))
  case start =>
    intro f m s x h run r found agrees
    rw [exec_compatCtxStart_of_run run]
    exact accepted_commits f.isLt h (cmdCompatCtxStart_foot (w := 104857668) (by decide) _ s rfl) rfl rfl
      (ctxStart_of_passed found h.run_eq.2 agrees)
  case stop =>
    intro f m s x h r found sourced framed
    exact accepted_starts f.isLt h (cmdCompatCtxStop_foot (w := 67108864) (by decide) _ s rfl) rfl rfl
      (ctxStop_frames_of_passed found h.run_eq.2 sourced framed)
  case release =>
    intro f m s x h r found alone
    have released := ctxRelease_of_passed found h.run_eq.2 rfl
    rw [alone] at released
    exact exec_compatCtxRelease_commits h released
  case releaseComb =>
    intro f m s x k h r found held
    have released := ctxRelease_of_passed found h.run_eq.2 rfl
    rw [held] at released
    exact exec_compatCtxRelease_commits h released
  case destroy =>
    intro f m s x h r found
    exact accepted_commits f.isLt h (cmdCompatCtxDestroy_foot (w := 73081552904) (by decide) _ s rfl) rfl rfl
      (ctxDestroy_of_passed found h.run_eq.2)
  case status =>
    intro f m s x h r found
    exact accepted_commits f.isLt h (cmdCompatCtxGetStatus_foot (w := 67108864) (by decide) _ s rfl) rfl rfl
      (show ctxStatus (ctxCounters + 1) r s = _ from withCtx_of_found found _)
  case partition =>
    intro f m s h r
    exact accepted_commits f.isLt h (cmdCompatIntakeSetPartition_foot (w := 268435456) (by decide) _ s rfl) rfl rfl
      (compatSetPartition_of_passed h.run_eq.2)
  case blackFixed =>
    intro f m s y h r found fixed
    have set := corrSetBlack_of_passed found h.run_eq.2
    simp only [fixed, Nat.reduceBEq, Bool.false_eq_true, if_false] at set
    exact exec_compatCorrSetBlack_commits h set
  case blackTracked =>
    intro f m s y h r found tracked
    have set := corrSetBlack_of_passed found h.run_eq.2
    simp only [tracked, beq_self_eq_true, if_true] at set
    exact exec_compatCorrSetBlack_commits h set
  case enable =>
    intro f m s y h r found
    exact accepted_commits f.isLt h (cmdCompatCorrSetEnable_foot (w := 8658124874) (by decide) _ s rfl) rfl rfl
      (setEnables_of_passed found h.run_eq.2)
  case stage =>
    intro f m s x h r found first more
    exact exec_compatCorrLoadTable_commits h (loadTable_stages (allowed := fun k => k == 0) found h.run_eq.2 first more)
  case commit =>
    intro f m s x y h r found first last committed
    have answered := loadTable_commits (allowed := fun k => k == 0) found h.run_eq.2 first last rfl committed
    rw [← committed]
    exact exec_compatCorrLoadTable_commits h answered
  case steer =>
    intro f m s t l h r target entries
    subst target
    exact accepted_commits f.isLt h (cmdCompatPgSetSteering_foot (w := 85900427330) (by decide) _ s rfl) rfl rfl
      (compatPgSetSteering_of_passed h.run_eq.2 entries)
  case launch =>
    intro f m s x h r found
    exact accepted_commits f.isLt h (cmdCtxSetLaunch_foot (w := 67108864) (by decide) _ s rfl) rfl rfl
      (ctxSetLaunch_of_passed found h.run_eq.2)

/-- Settles O50, command by command: the run is that of the native command. -/
theorem compatibilityQueueAndTimeCommandsComplete : Obligations.CompatibilityQueueAndTimeCommandsComplete := by
  unfold Obligations.CompatibilityQueueAndTimeCommandsComplete
  refine ⟨?partition, ?create, ?enable, ?disable, ?reset, ?destroy, ?notifyNow, ?notifyNext, ?status, ?time, ?source,
    ?offset, ?pps, fun _ _ _ => schedAdd_commits, fun _ _ _ => schedCancel_commits, fun _ _ _ => schedGetStatus_commits⟩
  case partition =>
    intro f m s h
    exact accepted_commits f.isLt h (cmdCompatQPartition_foot (w := 16) (by decide) _ s rfl) rfl rfl
      (qPartition_of_passed h.run_eq.2)
  case create =>
    intro f m s q k page h r id ring paged
    rw [ring, paged]
    exact accepted_commits f.isLt h (cmdCompatQCreate_foot (w := 1049600) (by decide) _ s rfl) rfl rfl
      (compatQCreate_of_passed h.run_eq.2 id)
  case enable =>
    intro f m s v h r found
    exact accepted_commits f.isLt h (cmdCompatQEnable_foot (w := 8658124866) (by decide) _ s rfl) rfl rfl
      (qEnable_of_passed found h.run_eq.2)
  case disable =>
    intro f m s v h r found
    exact accepted_starts f.isLt h (cmdCompatQDisable_foot (w := 8658124866) (by decide) _ s rfl) rfl rfl
      (qDisable_of_passed found h.run_eq.2)
  case reset =>
    intro f m s v h r found
    exact accepted_commits f.isLt h (cmdCompatQReset_foot (w := 68190208) (by decide) _ s rfl) rfl rfl
      (qReset_of_passed found h.run_eq.2)
  case destroy =>
    intro f m s v h r found
    exact accepted_commits f.isLt h (cmdCompatQDestroy_foot (w := 94557470728) (by decide) _ s rfl) rfl rfl
      (qDestroy_of_passed found h.run_eq.2)
  case notifyNow =>
    intro f m s v h r found idle
    have sets := qSetNotify_of_passed found h.run_eq.2 rfl
    rw [if_pos idle] at sets
    exact exec_compatQSetNotify_commits h sets
  case notifyNext =>
    intro f m s v h r found waits
    have sets := qSetNotify_of_passed found h.run_eq.2 rfl
    rw [if_neg waits] at sets
    exact exec_compatQSetNotify_commits h sets
  case status =>
    intro f m s v h r found
    exact accepted_commits f.isLt h (cmdCompatQGetStatus_foot (w := 1048576) (by decide) _ s rfl) rfl rfl
      (show qGetStatus r s = _ from withQueue_of_found found _)
  case time =>
    intro f m s h
    exact accepted_commits f.isLt h (cmdCompatTimeGetStatus_foot (w := 0) (by decide) _ s rfl) rfl rfl rfl
  case source =>
    intro f m s h r
    refine accepted_commits f.isLt h (cmdCompatTimeSetSource_foot (w := 1081442) (by decide) _ s rfl) rfl rfl ?_
    have passed := h.run_eq.2
    simp only [cmdCompatTimeSetSource, cmdTimeSetSource] at passed ⊢
    exact checked_pass passed
  case offset =>
    intro f m s h r
    refine accepted_commits f.isLt h (cmdCompatTimeSetExtOffset_foot (w := 37748832) (by decide) _ s rfl) rfl rfl ?_
    have passed := h.run_eq.2
    simp only [cmdCompatTimeSetExtOffset, cmdTimeSetExtOffset] at passed ⊢
    exact checked_pass passed
  case pps =>
    intro f m s h r
    refine accepted_commits f.isLt h (cmdCompatTimeSetPps_foot (w := 32) (by decide) _ s rfl) rfl rfl ?_
    have passed := h.run_eq.2
    simp only [cmdCompatTimeSetPps, cmdTimeSetPps] at passed ⊢
    exact checked_pass passed

end Sys2Proof.Machine
end

section
/-! Time sources, the 1PPS pins and the external offset (R377, R381 to R385): what each event does where its guard is
open. -/
namespace Sys2Proof.Machine

/-- Reaching a time changes of the clock the count alone. -/
@[simp] theorem clock_advTo (t : Nat) (s : State) :
    (advTo t s).clock.valid = s.clock.valid ∧ (advTo t s).clock.ppsEdge = s.clock.ppsEdge ∧
    (advTo t s).clock.ppsDelay = s.clock.ppsDelay ∧ (advTo t s).clock.ppsLast = s.clock.ppsLast ∧
    (advTo t s).clock.ppsRejected = s.clock.ppsRejected ∧ (advTo t s).clock.outEnable = s.clock.outEnable ∧
    (advTo t s).clock.outWidth = s.clock.outWidth ∧ (advTo t s).clock.outBase = s.clock.outBase ∧
    (advTo t s).clock.ppsRise = s.clock.ppsRise ∧ (advTo t s).clock.extEver = s.clock.extEver ∧
    (advTo t s).clock.extOffset = s.clock.extOffset := by
  unfold advTo
  split <;> exact ⟨rfl, rfl, rfl, rfl, rfl, rfl, rfl, rfl, rfl, rfl, rfl⟩
@[simp] theorem isValid_advTo (t : Nat) (s : State) (k : TimeSource) : (advTo t s).clock.isValid k = s.clock.isValid k := by
  simp [Clock.isValid]

/-- A source whose condition has turned, and whose validity is not yet what it should be, changes it. -/
theorem exec_sourceValidityChange_turned {k : TimeSource} {b : Bool} {t : Nat} {s : State}
    (turned : sourceTurned k b (advTo t s) = true) (differs : s.clock.isValid k ≠ b) :
    exec (.sourceValidityChange k b t) s =
      .next (setValid k b (if k = .ptp then dropMaster (advTo t s) else advTo t s)) :=
  congrArg Host.Outcome.next (if_pos ⟨turned, by rwa [isValid_advTo]⟩)

/-! ### PPS_IN (R383) -/

section
variable {rise : Bool} {s : State} (t : Nat) (selected : rise = (s.clock.ppsEdge == 0))
include selected

/-- The edge selected, with an edge before it: it is judged by the time since. -/
theorem exec_ppsEdge_next {p d : Nat} (last : s.clock.ppsLast = some p) (at' : d = ((t : Int) - s.clock.ppsDelay).toNat) :
    exec (.ppsEdge rise t) s = .next (if 2000000000 ≤ d - p then ppsValid d (advTo t s)
      else if d - p < 999000000 ∨ 1001000000 < d - p then
        if s.clock.ppsRejected then advTo t s
        else raiseTime 0x0705 sevW (min (d - p) 0xFFFFFFFF) 0 0 (modClock (fun c => { c with ppsRejected := true }) (advTo t s))
      else ppsValid d (setValid .pps true (advTo t s))) := by
  subst at'
  show execPpsEdge rise t s = _
  simp [execPpsEdge, selected, last]
/-- The first edge is valid. -/
theorem exec_ppsEdge_first (none : s.clock.ppsLast = none) :
    exec (.ppsEdge rise t) s = .next (ppsValid ((t : Int) - s.clock.ppsDelay).toNat (advTo t s)) := by
  show execPpsEdge rise t s = _
  simp [execPpsEdge, selected, none]
end
/-- The other edge does nothing. -/
theorem exec_ppsEdge_other {rise : Bool} {s : State} (t : Nat) (other : rise ≠ (s.clock.ppsEdge == 0)) :
    exec (.ppsEdge rise t) s = .next (advTo t s) := by
  show execPpsEdge rise t s = _
  simp [execPpsEdge, other]

/-! ### PPS_OUT (R385) -/

/-- PPS_OUT rises at a whole second of its base, where it is enabled and its last pulse is over. -/
theorem exec_ppsOutRise_due {t : Nat} {s : State} (ahead : s.now ≤ t) (enabled : s.clock.outEnable = true)
    (whole : (if s.clock.outBase = 0 then t % 1000000000 == 0
      else s.clock.extEver && ((t : Int) + s.clock.extOffset) % 1000000000 == 0) = true)
    (past : ∀ r, s.clock.ppsRise = some r → r + s.clock.outWidth + 100 ≤ t) :
    exec (.ppsOutRise t) s =
      .next (emit (.ppsOut true) (modClock (fun c => { c with ppsOut := true, ppsRise := some t }) (advTo t s))) := by
  show execPpsOutRise t s = _
  simp only [execPpsOutRise, clock_advTo, now_advTo, Nat.max_eq_right ahead]
  refine congrArg Host.Outcome.next (if_pos ⟨enabled, whole, ?_, trivial⟩)
  cases rose : s.clock.ppsRise with
  | none => rfl
  | some r =>
    have apart := past r rose
    simp only [Bool.not_eq_true', decide_eq_false_iff_not]
    omega

/-- Settles O28: each event where its guard is open. -/
theorem timeEventsAct : Obligations.TimeEventsAct := by
  unfold Obligations.TimeEventsAct
  refine ⟨?validity, ?ptp, ?promotion, ?other, ?first, ?valid, ?rejected, ?offset, ?rise, ?riseExternal, ?fall⟩
  case validity =>
    intro k b t s notPtp turned differs
    rw [exec_sourceValidityChange_turned turned differs, if_neg notPtp]
  case ptp =>
    intro b t s turned differs
    exact exec_sourceValidityChange_turned turned differs
  case promotion =>
    intro t k s promotable
    show execSourcePromotion t s = _
    simp only [execSourcePromotion, promotable]
  case other => exact fun rise t s => exec_ppsEdge_other t
  case first => exact fun rise t s => exec_ppsEdge_first t
  case valid =>
    intro rise t p d s selected last at' within
    rw [exec_ppsEdge_next t selected last at', if_neg (by omega), if_neg (by omega)]
  case rejected =>
    intro rise t p d s selected last at' close outside
    rw [exec_ppsEdge_next t selected last at', if_neg (by omega), if_pos outside]
  case offset =>
    intro v s first
    show execExtOffsetApply s = _
    simp only [execExtOffsetApply, first]
  case rise =>
    intro t s ahead enabled hive whole past
    exact exec_ppsOutRise_due ahead enabled (by simp [hive, whole]) past
  case riseExternal =>
    intro t s ahead enabled external ever whole past
    exact exec_ppsOutRise_due ahead enabled (by simp [external, ever, whole]) past
  case fall =>
    intro t s rose high
    show execPpsOutFall s = _
    simp only [execPpsOutFall, rose, high, if_true]

end Sys2Proof.Machine
end

section
/-! Events of power, diagnostics, firmware and flash (R355, R364 to R371, R545 to R548): what each does where its guard is
open. -/
namespace Sys2Proof.Machine

/-- Settles O44: each event where its guard is open. -/
theorem powerAndDiagnosticEventsAct : Obligations.PowerAndDiagnosticEventsAct := by
  unfold Obligations.PowerAndDiagnosticEventsAct
  refine ⟨?entered, ?wakes, ?sleeps, ?tested⟩
  case entered =>
    intro t n s entering low count
    subst count
    show execPwrEntryDone t s = _
    simp only [execPwrEntryDone, advTo_frame]
    rw [if_pos ⟨entering, low⟩]
  case wakes =>
    intro c t s source named
    show execPwrWake c t s = _
    simp only [execPwrWake, advTo_frame]
    rw [if_pos ⟨source, named⟩]
  case sleeps =>
    intro c t s unnamed
    show execPwrWake c t s = _
    simp [execPwrWake, unnamed]
  case tested =>
    intro l p s test
    show execDiagDone l s = _
    simp only [execDiagDone, test]

/-! ### Firmware and flash (R364, R366, R368, R474, R526) -/

/-- The slot whose COMMIT came and whose pieces are all programmed is judged, and reported to the function that wrote it. -/
theorem exec_fwVerified_reported {b : Bool} {k : Nat} {w : FwPush} {j : Nat × State} {x s : State}
    (written : (s.trust.writing.find? fun (e : Nat × FwPush) =>
      e.2.committed && !(s.sys.fwWaiting.any fun p => p.1 == e.1)) = some (k, w))
    (mailbox : w.fn ≠ 5) (judged : j = judgeSlot k b s) (flashed : x = if b = true ∧ k ≠ 2 then flashOk k j.2 else j.2) :
    exec (.fwVerified b) s = .next (release (.fwSlot k)
      (raise 0x0B01 (if j.1 = stOk then sevI else sevE) k j.1
        (imgVersion (x.trust.slot k).image + 2 ^ 32 * imgSvn (x.trust.slot k).image) [w.fn]
        (modTrust (fun t => { t with writing := t.writing.erase k }) x))) := by
  subst judged flashed
  show execFwVerified b s = _
  simp only [execFwVerified, written]
  exact congrArg Host.Outcome.next (if_neg mailbox)

/-- Settles O40: each event where its guard is open. -/
theorem trustEventsAct : Obligations.TrustEventsAct := by
  unfold Obligations.TrustEventsAct
  refine ⟨?piece, ?verified, ?expiry, ?options, ?calibration⟩
  case piece =>
    intro k o d l s waits slot
    show execFwPieceProgrammed s = _
    simp only [execFwPieceProgrammed, waits]
    rw [if_neg slot]
  case verified =>
    intro b k w j x s written mailbox judged flashed
    exact exec_fwVerified_reported written mailbox judged flashed
  case expiry =>
    intro v s nonce
    show execNonceExpiry s = _
    simp only [execNonceExpiry, nonce]
  case options =>
    intro i o w l s first item one options
    show execFlashWritten i true s = _
    simp [execFlashWritten, first, ← item, one, options]
  case calibration =>
    intro i w l s first item two data
    show execFlashWritten i false s = _
    simp [execFlashWritten, first, ← item, two, data]

end Sys2Proof.Machine
end

section
/-! Resets, updates and remote requests of the hive (R354, R363, R367, R442, R451, R452, R466): what each does where its
guard is open. -/
namespace Sys2Proof.Machine

/-! ### UPDATE at a worker (R451) -/

section
variable {b : List Byte} {s : State} (member : s.isMember = true) (ready : s.sys.ready = true)
include member ready

theorem updateRx_offer_tooLong (begun : s.hive.update.isNone = false) (long : slotSize s.inactive < u32At b 8) :
    updateRx 0 b s = sendResult stAuthFail [] s := by
  simp [updateRx, member, ready, begun, long]

variable {v : UpdateRx} (begun : s.hive.update = some v)
include begun

theorem updateRx_data : updateRx 1 b s =
    modHive (fun h => { h with update := some { v with spans := v.spans ++ [(u32At b 0, (b.drop 4).length)] } })
      (modSys (fun y => { y with fwWaiting := y.fwWaiting ++ [(s.inactive, u32At b 0, b.drop 4)] }) s) := by
  simp [updateRx, member, ready, begun]
/-- END asks for the parts that no DATA brought, or commits the image. -/
theorem updateRx_end : updateRx 2 b s =
    let missing := (gaps v.spans v.length (2 * v.spans.length + 2) 0).take 64
    let x := modHive (fun h => { h with update := some { v with activate := byteAt b 0 } }) s
    if missing.isEmpty then modTrust (fun t => { t with
      writing := t.writing.put s.inactive { fn := 5, taken := v.length, committed := true } }) x
    else sendResult stInProgress missing x := by
  simp [updateRx, member, ready, begun]
end

/-! ### RESULT at the manager (R367, R451) -/

section
variable {d k : Nat} {l : List (Nat × Nat)} {v : Dist} {s : State} (under : s.hive.dist = some v)
  (manager : s.hive.state = .manager) (asked : v.waiting.contains d = true)
include under manager asked

/-- A worker that misses nothing, or that has been sent its parts three times, counts as verified or as failed. -/
theorem updateResult_counts (last : l = [] ∨ 3 ≤ v.rounds.getD d 0) : updateResult d k l s =
    modHive (fun h => { h with dist := some { v with
      waiting := v.waiting.filter (· != d)
      verified := if l = [] ∧ k = 0 then v.verified + 1 else v.verified
      failed := if l = [] ∧ k = 0 then v.failed else v.failed + 1 } }) s := by
  have counted : ¬((!l.isEmpty) = true ∧ v.rounds.getD d 0 < 3) := by
    rintro ⟨more, few⟩
    rcases last with rfl | many
    · cases more
    · omega
  simp only [updateResult, under, manager, asked, if_neg counted]
  simp
/-- A worker that misses parts is sent them again. -/
theorem updateResult_sends (more : l.isEmpty = false) (few : v.rounds.getD d 0 < 3) : updateResult d k l s =
    sendUpdate (some d) 2 (b8 v.activate) (modHive (fun h => { h with
        dist := some { v with rounds := v.rounds.put d (v.rounds.getD d 0 + 1) } })
      ((l.take 64).foldl (fun y p => sendRange (some d) (s.trust.slot v.slot).image p.1 p.2 y) s)) := by
  simp only [updateResult, under, manager, asked, more, few]
  simp
end

/-! ### REMOTE_REQ and REMOTE_RESP (R354, R363, R442) -/

/-- A REMOTE_REQ that the keeper can take up is served. -/
theorem exec_remoteReqReceived_served {d k : Nat} {b : List Byte} {s : State} (inHive : s.inHive = true)
    (ready : s.sys.ready = true) (free : s.hive.vc3.isEmpty = true) (may : remoteMay (u16At b 0) s = true)
    (fits : remoteFits b = true) : exec (.remoteReqReceived d k b) s = .next (remoteServe (remoteCall d k b) s) := by
  show execRemoteReqReceived d k b s = _
  simp [execRemoteReqReceived, remoteReq, inHive, ready, free, may, fits]
/-- Another waits in the VC 3 buffer. -/
theorem exec_remoteReqReceived_held {d k : Nat} {b : List Byte} {s : State} (inHive : s.inHive = true)
    (not : s.sys.ready = false ∨ s.hive.vc3.isEmpty = false ∨ remoteMay (u16At b 0) s = false) :
    exec (.remoteReqReceived d k b) s = .next (vc3Hold 0 (remoteMsg d k b s) s) := by
  have blocked : ¬(s.sys.ready = true ∧ s.hive.vc3.isEmpty = true ∧ remoteMay (u16At b 0) s = true) := by
    rintro ⟨ready, free, may⟩
    rcases not with not | not | not
    · exact absurd ready (by simp [not])
    · exact absurd free (by simp [not])
    · exact absurd may (by simp [not])
  show execRemoteReqReceived d k b s = _
  simp only [execRemoteReqReceived, inHive]
  exact congrArg Host.Outcome.next (if_neg blocked)
/-- The response that HIVE_REMOTE waits for answers it. -/
theorem remoteResp_of_remote {d n : Nat} {b : List Byte} {w : Waiting} {r : Req} {s : State} (waits : s.waiting = some w)
    (req : s.waitReq w = some r) (op : s.waitOp w = 0x0A05) (tag : u32At b 4 = u32At r.body 12)
    (what : w.what = .remote d n) : remoteResp d b s =
      nextRequest (respond w.fn w.mbx stOk (byteAt b 1) 0 (overlay b (b8 (byteAt b 0) ++ b8 0)) { s with waiting := none }) := by
  simp [remoteResp, waits, req, op, tag, what]

/-- Settles O38: each event where its guard is open. -/
theorem hiveWorkEventsAct : Obligations.HiveWorkEventsAct := by
  unfold Obligations.HiveWorkEventsAct
  refine ⟨?resetDone, ?reset, ?offer, ?data, ?missing, ?complete, ?counts, ?sends, ?distributed, ?held, ?served, ?resp,
    ?timeout⟩
  case resetDone =>
    intro d k q s begun manager member ready
    show execHiveResetDone d k s = _
    simp only [execHiveResetDone, begun]
    rw [if_pos ⟨manager, member, ready⟩]
  case reset =>
    intro k s member
    exact ⟨_, congrArg Host.Outcome.next (if_pos member), rfl⟩
  case offer =>
    intro b s member ready begun long
    exact congrArg Host.Outcome.next (updateRx_offer_tooLong member ready begun long)
  case data =>
    intro b v s member ready begun
    exact ⟨_, congrArg Host.Outcome.next (updateRx_data member ready begun), rfl, rfl⟩
  case missing =>
    intro b v s member ready begun some
    exact congrArg Host.Outcome.next ((updateRx_end member ready begun).trans (if_neg (by simp only [some, Bool.false_eq_true, not_false_eq_true])))
  case complete =>
    intro b v s member ready begun none
    exact congrArg Host.Outcome.next ((updateRx_end member ready begun).trans (if_pos none))
  case counts =>
    intro d k l v s under manager asked last
    exact ⟨_, congrArg Host.Outcome.next (updateResult_counts under manager asked last), rfl⟩
  case sends =>
    intro d k l v s under manager asked more few
    exact congrArg Host.Outcome.next (updateResult_sends under manager asked more few)
  case distributed =>
    intro v s under ready gone
    have none : (v.waiting.any fun i => (s.member i).isSome) = false := by
      rw [List.any_eq_false]
      exact fun i waits => by simp [gone i waits]
    show execFwDistributed s = _
    simp [execFwDistributed, under, ready, none]
  case held =>
    intro d k b s inHive not
    exact ⟨_, exec_remoteReqReceived_held inHive not, rfl⟩
  case served =>
    intro d k b s inHive ready free may fits
    exact exec_remoteReqReceived_served inHive ready free may fits
  case resp =>
    intro d n b w r s inHive ready waits req op tag what
    exact congrArg Host.Outcome.next ((if_pos ⟨inHive, ready⟩).trans (remoteResp_of_remote waits req op tag what))
  case timeout =>
    intro f m d n w s waits fn mbx what
    show execHiveRemoteTimeout f m s = _
    simp [execHiveRemoteTimeout, waits, fn, mbx, what]

end Sys2Proof.Machine
end

section
/-! The execution of scheduled actions (R387 to R390): an action runs at its due instant, and is carried out, carried out
late, or dropped. -/
namespace Sys2Proof.Machine

/-- What an action that runs comes to: dropped for its target, dropped for its lateness, or carried out. -/
theorem runAction_eq (n : Nat) (a : Action) (s : State) : runAction n a s =
    let late := s.now - s.due a
    let onTime := decide (a.placedAt + 1000 ≤ s.due a) && late == 0
    let f := freeAction n s
    let x := actEffect a f
    if !f.targetOk a then schedDrop (classCode a.cls) 2 late a.target (f.actTo a) f
    else if !onTime && (a.drop || decide (a.tol < late)) then schedDrop (classCode a.cls) 1 late a.target (f.actTo a) f
    else if !x.1 then schedDrop (classCode a.cls) 2 late a.target (f.actTo a) f
    else if onTime then x.2 else schedLate (classCode a.cls) late a.target (f.actTo a) x.2 := rfl

section
variable {n : Nat} {a : Action} {s : State}

theorem runAction_untaken (refuses : (freeAction n s).targetOk a = false) : runAction n a s =
    schedDrop (classCode a.cls) 2 (s.now - s.due a) a.target ((freeAction n s).actTo a) (freeAction n s) := by
  rw [runAction_eq]
  exact if_pos (by rw [refuses]; rfl)

variable (takes : (freeAction n s).targetOk a = true)
include takes

/-- On time, and taken by its target, an action has its effect. -/
theorem runAction_onTime (early : a.placedAt + 1000 ≤ s.due a) (now : s.now = s.due a)
    (done : (actEffect a (freeAction n s)).1 = true) : runAction n a s = (actEffect a (freeAction n s)).2 := by
  rw [runAction_eq]
  simp [takes, early, now, done]
/-- Late, it is dropped where it asks to be or where its tolerance is exceeded. -/
theorem runAction_tooLate (late : s.due a < s.now) (drops : a.drop = true ∨ a.tol < s.now - s.due a) :
    runAction n a s =
      schedDrop (classCode a.cls) 1 (s.now - s.due a) a.target ((freeAction n s).actTo a) (freeAction n s) := by
  have behind : s.now - s.due a ≠ 0 := by omega
  rw [runAction_eq]
  rcases drops with drops | drops <;> simp [takes, behind, drops]
/-- Late, and to be carried out all the same, it has its effect and is reported. -/
theorem runAction_late (late : s.due a < s.now) (keeps : a.drop = false) (within : s.now - s.due a ≤ a.tol)
    (done : (actEffect a (freeAction n s)).1 = true) : runAction n a s =
      schedLate (classCode a.cls) (s.now - s.due a) a.target ((freeAction n s).actTo a) (actEffect a (freeAction n s)).2 := by
  have behind : s.now - s.due a ≠ 0 := by omega
  rw [runAction_eq]
  simp [takes, behind, keeps, done, Nat.not_lt.mpr within]
end

@[simp] theorem mustWake_advTo (t : Nat) (s : State) (a : Action) : (advTo t s).mustWake a = s.mustWake a := by
  simp [State.mustWake]

/-- Settles O30: which action runs, and what its running comes to. -/
theorem actionsTakeEffect : Obligations.ActionsTakeEffect := by
  unfold Obligations.ActionsTakeEffect
  refine ⟨?runs, fun n a s => runAction_untaken, ?onTime, fun n a s => runAction_tooLate, fun n a s => runAction_late⟩
  case runs =>
    intro n d a s placed notOpen notClose first awake
    show execActionExecute n d s = _
    simp [execActionExecute, placed, notOpen, notClose, first, awake]
  case onTime =>
    intro n a s takes early now
    refine ⟨fun kind => ?_, fun kind => ?_, fun kind => ?_⟩
    all_goals
      rw [runAction_onTime takes early now (by simp only [actEffect, kind])]
      simp only [actEffect, kind]

end Sys2Proof.Machine
end

section
/-! Occurrences, delays, written firings and imports of the Waggle router (R394, R396, R401, R403, R407). -/
namespace Sys2Proof.Machine

/-- WG_FIRE_WRITE at a function that decodes fires the channels of the bits written. -/
theorem exec_wgFireWrite_eq {f : Fn} {s : State} (r : Fin 8) (b : BitVec 64) (wide : Bool) (t : Nat)
    (decodes : s.decodes f = true) :
    exec (.wgFireWrite f r b wide t) s =
      .next (wgFire f ((setBits (if wide && decide (r.val < 7) then 64 else 32) b.toNat).map (32 * r.val + ·))
        (tlp f (advTo t s))) := by
  show execWgFireWrite f r b wide t s = _
  simp [execWgFireWrite, decodes]

/-! ### Imports (R407) -/

section
variable {src : Nat} {sec : Bool} {body : List Byte} {s : State}

/-- An import of a channel the hive does not own, or of a SECURE one by a message that is not secure, is denied. -/
theorem wgImport_denied (denied : s.ownerOf .channel (byteAt body 8) ≠ ownHive ∨
    ((s.chan (byteAt body 8)).secure = true ∧ sec = false)) :
    wgImport src sec body s = countChan (byteAt body 8) .importDenied s :=
  if_pos (denied.imp_right fun ⟨secure, open'⟩ => by simp [secure, open'])

/-- The state in which an import is held for its agreed time. -/
def holdImport (src : Nat) (body : List Byte) (s : State) : State :=
  modChan (byteAt body 8) (fun v => { v with lastImport := u64At body 0 }) { s with wag := { s.wag with
    imports := s.wag.imports ++
      [{ id := s.wag.importIds, chan := byteAt body 8, due := u64At body 0, tol := Config.exportD src (byteAt body 9) }]
    importIds := s.wag.importIds + 1 } }
@[simp] theorem imports_holdImport : (holdImport src body s).wag.imports = s.wag.imports ++
    [{ id := s.wag.importIds, chan := byteAt body 8, due := u64At body 0, tol := Config.exportD src (byteAt body 9) }] := rfl
@[simp] theorem now_holdImport : (holdImport src body s).now = s.now := rfl
@[simp] theorem lastImport_holdImport : ((holdImport src body s).chan (byteAt body 8)).lastImport = u64At body 0 := by
  simp [holdImport]
theorem wgImport_held (owned : s.ownerOf .channel (byteAt body 8) = ownHive)
    (permits : (s.chan (byteAt body 8)).secure = true → sec = true) (room : s.wag.imports.length < 1024) :
    wgImport src sec body s = holdImport src body s := by
  have admitted : ¬(s.ownerOf .channel (byteAt body 8) ≠ ownHive ∨ ((s.chan (byteAt body 8)).secure && !sec) = true) := by
    simpa [owned] using permits
  exact (if_neg admitted).trans (if_neg (Nat.not_le.mpr room))
end

/-- Settles O26: the channels of a producer, the front of the delay stage, the channels written, and an import. -/
theorem waggleEventsAct : Obligations.WaggleEventsAct := by
  unfold Obligations.WaggleEventsAct
  refine ⟨?occurrence, ?delayed, ?written, ?denied, ?held⟩
  case occurrence =>
    intro p rise t l s which
    subst which
    exact exec_producerOccurrence p rise t s
  case delayed =>
    intro c h l x y s held at' marked
    subst at' marked
    show execChannelDelayFire c s = _
    simp only [execChannelDelayFire, held]
    rfl
  case written =>
    intro f i b wide t l s decodes native which named allowed
    subst which
    rw [exec_wgFireWrite_eq i b wide t decodes]
    refine congrArg Host.Outcome.next (wgFire_of_allowed (by simpa using native) named fun c listed => ?_)
    simpa using allowed c listed
  case denied =>
    intro src sec body t s denied
    exact congrArg Host.Outcome.next (wgImport_denied (by simpa using denied))
  case held =>
    intro src sec body t s owned permits room
    refine ⟨_, congrArg Host.Outcome.next (wgImport_held (by simpa using owned) (by simpa using permits)
      (by simpa using room)), ?_⟩
    simp

end Sys2Proof.Machine
end

section
/-! Encoders (R412 to R422): what an edge, an index, the estimator's events and an SSI frame make of the encoder. -/
namespace Sys2Proof.Machine

/-! ### What an event at an encoder leaves -/

@[simp] theorem enc_paced (k : Pace) (obj T i : Nat) (s : State) : (paced k obj T s).2.enc i = s.enc i := rfl
/-- Reporting at an encoder leaves the encoders. -/
@[simp] theorem enc_pacedEnc (k : Pace) (e code p1 p2 i : Nat) (s : State) : (pacedEnc k e code p1 p2 s).enc i = s.enc i := by
  unfold pacedEnc
  dsimp only
  split
  · simp
  · rfl
@[simp] theorem enc_emit (x : Out) (i : Nat) (s : State) : (emit x s).enc i = s.enc i := rfl
/-- A counted edge changes neither the count nor the levels, and leaves its own direction. -/
@[simp] theorem edge_keeps (v : Enc) (down : Bool) (t : Nat) :
    (v.edge down t).a = v.a ∧ (v.edge down t).b = v.b ∧ (v.edge down t).count = v.count ∧
    (v.edge down t).ssiLast = v.ssiLast ∧ (v.edge down t).down = down := by
  unfold Enc.edge
  split
  next same => exact ⟨rfl, rfl, rfl, rfl, same.symm⟩
  next => exact ⟨rfl, rfl, rfl, rfl, rfl⟩

/-! ### Quadrature (R412, R413) -/

/-- A wrapped count lies in the signed 48-bit range and differs from the count by a multiple of 2^48. -/
theorem wrap48_spec (i : Int) : -2 ^ 47 ≤ wrap48 i ∧ wrap48 i < 2 ^ 47 ∧ ∃ k : Int, wrap48 i = i + k * 2 ^ 48 := by
  have low : ((i % 281474976710656).toNat : Int) = i % 281474976710656 := Int.toNat_of_nonneg (by omega)
  have eq : wrap48 i = if 140737488355328 ≤ i % 281474976710656 then i % 281474976710656 - 281474976710656
      else i % 281474976710656 := by
    simp only [wrap48, toSigned, fromSigned, Nat.reducePow]
    omega
  rw [eq]
  refine ⟨by split <;> omega, by split <;> omega, ?_⟩
  split
  · exact ⟨-(i / 281474976710656) - 1, by omega⟩
  · exact ⟨-(i / 281474976710656), by omega⟩

/-- The sense in which an encoder counts a step from (A, B): that of Table 16-1, swapped with INVERT (R412). -/
def Enc.sense (v : Enc) (a b : Bool) : Int := if v.invert then -quadStep v.a v.b a b else quadStep v.a v.b a b
/-- A step of Table 16-1 changes one of A and B, and goes up where the place moves on by one. -/
theorem quadStep_spec : ∀ a b a' b' : Bool, quadStep a b a' b' ≠ 0 →
    ¬(a = a' ∧ b = b') ∧ ¬(a ≠ a' ∧ b ≠ b') ∧
    quadStep a b a' b' = if quadPlace a' b' == (quadPlace a b + 1) % 4 then 1 else -1 := by
  decide
/-- Whether ENCODER_EDGE counts up. -/
def Enc.up (v : Enc) (a b : Bool) : Bool := (quadPlace a b == (quadPlace v.a v.b + 1) % 4) != v.invert
theorem sense_eq {v : Enc} {a b : Bool} (step : quadStep v.a v.b a b ≠ 0) :
    v.sense a b = (if v.up a b then 1 else -1) ∧ (!v.up a b) = decide (v.sense a b < 0) := by
  obtain ⟨-, -, dir⟩ := quadStep_spec v.a v.b a b step
  unfold Enc.sense Enc.up
  rw [dir]
  cases v.invert <;> cases (quadPlace a b == (quadPlace v.a v.b + 1) % 4) <;> decide

/-- An edge that is a step of Table 16-1 moves the count by one in its sense. -/
theorem exec_encoderEdge_step {e : EncId} {a b : Bool} (t : Nat) {s : State} (quad : (s.enc e).ssi = false)
    (step : quadStep (s.enc e).a (s.enc e).b a b ≠ 0) :
    exec (.encoderEdge e a b t) s = .next (modEnc e (fun v => ({ v with
      a := a, b := b
      count := wrap48 (v.count + (if (s.enc e).up a b then 1 else -1))
      pos := v.pos + (if (s.enc e).up a b then 1 else -1) } : Enc).edge (!(s.enc e).up a b) t) (advTo t s)) := by
  obtain ⟨moved, single, -⟩ := quadStep_spec (s.enc e).a (s.enc e).b a b step
  show execEncoderEdge e a b t s = _
  simp only [execEncoderEdge, advTo_units, quad, Bool.false_eq_true, false_or]
  rw [if_neg moved, if_neg single]
  rfl
/-- An edge of A and of B at once is illegal. -/
theorem exec_encoderEdge_illegal {e : EncId} {a b : Bool} (t : Nat) {s : State} (quad : (s.enc e).ssi = false)
    (moveA : (s.enc e).a ≠ a) (moveB : (s.enc e).b ≠ b) :
    exec (.encoderEdge e a b t) s = .next (pacedEnc .encIllegal e 0x0901 0 (fromSigned 64 (s.enc e).count)
      (countEnc e .illegal (modEnc e (fun v => ({ v with a := a, b := b, illegal := true } : Enc).restart []) (advTo t s)))) := by
  show execEncoderEdge e a b t s = _
  simp [execEncoderEdge, quad, moveA, moveB]

/-- Settles O31: the step of Table 16-1, and the count that ENC_GET_STATUS returns. -/
theorem quadratureEdgeCounts : Obligations.QuadratureEdgeCounts := by
  unfold Obligations.QuadratureEdgeCounts
  refine ⟨?edge, ?status⟩
  case edge =>
    intro e a b t s quad step
    obtain ⟨moved, direction⟩ := sense_eq step
    obtain ⟨least, most, k, wraps⟩ := wrap48_spec ((s.enc e).count + (if (s.enc e).up a b then 1 else -1))
    refine ⟨_, exec_encoderEdge_step t quad step, ?_⟩
    simp only [enc_modEnc, advTo_units, edge_keeps, true_and]
    refine ⟨least, most, ⟨k, ?_⟩, direction, fun j other => ?_⟩
    · rw [wraps, ← moved]
      rfl
    · rw [enc_modEnc_ne _ _ _ _ other, (advTo_units t s).2.2.2.2.2.2.2.1]
  case status =>
    intro f m s h
    obtain ⟨u, step, done, -⟩ := accepted_commits f.isLt h (cmdEncGetStatus_foot (w := 1099511627776) (by decide) _ s rfl)
      rfl rfl rfl
    exact ⟨u, step, done⟩

/-! ### The index (R415, R416) -/

/-- The re-zeroing of an index event, where REZERO is set (R415). -/
def rezeroed (e : Nat) (on : Bool) (s : State) : State :=
  if on then modEnc e (fun v => { v with count := 0, cRef := some 0 }) s else s
@[simp] theorem enc_rezeroed (e : Nat) (on : Bool) (s : State) :
    ((rezeroed e on s).enc e).count = (if on then 0 else (s.enc e).count) ∧
    ((rezeroed e on s).enc e).cRef = (if on then some 0 else (s.enc e).cRef) ∧
    ((rezeroed e on s).enc e).counts = (s.enc e).counts := by
  cases on <;> simp [rezeroed]
/-- The deviation that an index event finds against the reference `r` (R416). -/
def Enc.deviation (v : Enc) (r : Int) : Int := if v.indexPeriod = 0 then 0 else indexDev v.count r v.indexPeriod
theorem deviation_eq_zero_iff (v : Enc) (r : Int) :
    v.deviation r = 0 ↔ v.indexPeriod = 0 ∨ indexDev v.count r v.indexPeriod = 0 := by
  unfold Enc.deviation
  split
  next free => exact iff_of_true rfl (Or.inl free)
  next periodic => exact ⟨Or.inr, fun even => even.resolve_left periodic⟩
/-- A deviation is counted, and nothing else of the encoder changes. -/
def countDeviation (e : Nat) (d : Int) (s : State) : State :=
  if d = 0 then s
  else pacedEnc .indexDev e 0x0902 (fromSigned 32 d) (fromSigned 64 (s.enc e).count)
    (honey (hoEnc e (devBin d.natAbs)) (countEnc e .indexDev s))
@[simp] theorem enc_countDeviation (e : Nat) (d : Int) (s : State) :
    (countDeviation e d s).enc e =
      if d = 0 then s.enc e else { s.enc e with counts := count (s.enc e).counts 1 } := by
  unfold countDeviation
  split <;> simp [countEnc, EncCnt.ctorIdx]

section
variable {e : EncId} (t : Nat) {s : State} (quad : (s.enc e).ssi = false)
include quad

theorem exec_encoderIndex_first (none : (s.enc e).cRef = none) :
    exec (.encoderIndex e t) s =
      .next (rezeroed e (s.enc e).rezero (modEnc e (fun v => { v with cRef := some v.count }) (advTo t s))) := by
  show execEncoderIndex e t s = _
  simp [execEncoderIndex, quad, none, rezeroed]
theorem exec_encoderIndex_next {r : Int} (known : (s.enc e).cRef = some r) :
    exec (.encoderIndex e t) s =
      .next (rezeroed e (s.enc e).rezero (countDeviation e ((s.enc e).deviation r) (advTo t s))) := by
  show execEncoderIndex e t s = _
  simp [execEncoderIndex, quad, known, rezeroed, countDeviation, Enc.deviation]
end

/-! ### SSI (R421, R422) -/

/-- A failed read counts an error, and nothing else of the encoder changes. -/
@[simp] theorem enc_ssiError (e raw : Nat) (s : State) :
    (ssiError e raw s).enc e = { s.enc e with counts := count (s.enc e).counts 2 } := by
  simp [ssiError, countEnc, EncCnt.ctorIdx]

/-- The number that an SSI frame gives, and its step from the last one, `old` (R421, R422). -/
def Enc.ssiNumber (v : Enc) (bits : List Bool) : Nat := ssiValue v.ssiGray (bits.take v.ssiBits)
def Enc.ssiStep (v : Enc) (bits : List Bool) (old : Nat) : Int :=
  toSigned v.ssiBits (v.ssiNumber bits + 2 ^ v.ssiBits - old)
/-- An encoder after a frame that steps on from the last one, at `at'`, by `d`. -/
def Enc.ssiStepped (v : Enc) (x t at' : Nat) (d : Int) : Enc :=
  let w := ({ v with ssiLast := some (x, t), count := wrap48 (v.count + d) } : Enc).edge (decide (d < 0)) t
  if w.valid then { w with speed := d * 256000000000 / ((t : Int) - (at' : Int)) } else w
@[simp] theorem ssiStepped_keeps (v : Enc) (x t at' : Nat) (d : Int) :
    (v.ssiStepped x t at' d).ssiLast = some (x, t) ∧ (v.ssiStepped x t at' d).count = wrap48 (v.count + d) := by
  unfold Enc.ssiStepped
  dsimp only
  split <;> simp

section
variable {e : EncId} {bits : List Bool} (t : Nat) {s : State} (ssi : (s.enc e).ssi = true)
include ssi

theorem exec_ssiFrame_busy : exec (.ssiFrame e false bits t) s = .next (ssiError e 0 (advTo t s)) := by
  show execSsiFrame e false bits t s = _
  simp [execSsiFrame, ssi]

variable (ended : bits.getD (s.enc e).ssiBits true = false)
include ended

/-- The first frame sets the count. -/
theorem exec_ssiFrame_first (none : (s.enc e).ssiLast = none) : exec (.ssiFrame e true bits t) s =
    .next (modEnc e (fun v => { v with
        ssiLast := some ((s.enc e).ssiNumber bits, t), count := wrap48 ((s.enc e).ssiNumber bits) })
      (emit (.ssiClock e ((s.enc e).ssiBits + 1)) (advTo t s))) := by
  show execSsiFrame e true bits t s = _
  simp only [execSsiFrame, advTo_units, ssi, ended, none]
  rfl
/-- A later one moves it by its step, which is not too large. -/
theorem exec_ssiFrame_next {old at' : Nat} (last : (s.enc e).ssiLast = some (old, at'))
    (fits : ((s.enc e).ssiStep bits old).natAbs ≤ 2 ^ ((s.enc e).ssiBits - 2)) : exec (.ssiFrame e true bits t) s =
    .next (modEnc e (fun v => if (s.enc e).ssiStep bits old = 0
        then { v with ssiLast := some ((s.enc e).ssiNumber bits, t) }
        else v.ssiStepped ((s.enc e).ssiNumber bits) t at' ((s.enc e).ssiStep bits old))
      (emit (.ssiClock e ((s.enc e).ssiBits + 1)) (advTo t s))) := by
  show execSsiFrame e true bits t s = _
  simp only [execSsiFrame, advTo_units, ssi, ended, last]
  refine congrArg Host.Outcome.next ((if_neg (Nat.not_lt.mpr fits)).trans ?_)
  by_cases stays : (s.enc e).ssiStep bits old = 0
  · simp only [stays, if_true]
    exact if_pos stays
  · simp only [stays, if_false]
    exact if_neg stays
end

/-- Settles O32: each event at an encoder. -/
theorem encoderEventsAct : Obligations.EncoderEventsAct := by
  unfold Obligations.EncoderEventsAct
  refine ⟨?illegal, ?index, ?speed, ?standstill, ?history, ?busy, ?frame⟩
  case illegal =>
    intro e a b t s quad moveA moveB
    refine ⟨_, exec_encoderEdge_illegal t quad moveA moveB, ?_⟩
    simp [countEnc, Enc.restart, EncCnt.ctorIdx]
  case index =>
    intro e t s quad
    cases ref : (s.enc e).cRef with
    | none => exact ⟨_, exec_encoderIndex_first t quad ref, by cases (s.enc e).rezero <;> simp⟩
    | some r =>
      refine ⟨_, exec_encoderIndex_next t quad ref, ?_⟩
      by_cases even : (s.enc e).deviation r = 0
      · have none' := (deviation_eq_zero_iff _ _).mp even
        cases (s.enc e).rezero <;> simp [even, ref, none']
      · have some' := mt (deviation_eq_zero_iff _ _).mpr even
        cases (s.enc e).rezero <;> simp [even, ref, some']
  case speed =>
    intro e t s quad
    refine ⟨modEnc e (fun v => v.estimate (advTo t s).now) (advTo t s), ?_, ?_, ?_⟩
    · show execSpeedUpdate e t s = _
      simp [execSpeedUpdate, quad]
    · simp [Enc.estimate]
    · simp [Enc.estimate]
  case standstill =>
    intro e s moves
    refine ⟨modEnc e (fun v => ({ v with still := true } : Enc).restart [])
      (advTo ((s.enc e).lastEdge + 1000 * (s.enc e).standstill) s), ?_, ?_⟩
    · show execStandstill e s = _
      simp [execStandstill, moves]
    · simp [Enc.restart, now_advTo, Nat.le_max_right]
  case history =>
    intro e t s
    refine ⟨_, rfl, by simp, ?_⟩
    rw [enc_modEnc]
    exact List.length_take_le _ _
  case busy =>
    intro e bits t s ssi
    exact ⟨_, exec_ssiFrame_busy t ssi, by simp⟩
  case frame =>
    intro e bits t s ssi ended fits
    cases last : (s.enc e).ssiLast with
    | none => exact ⟨_, exec_ssiFrame_first t ssi ended last, by simp [emit], by simp [Enc.ssiNumber], by simp [Enc.ssiNumber]⟩
    | some x =>
      obtain ⟨old, at'⟩ := x
      refine ⟨_, exec_ssiFrame_next t ssi ended last (fits _ last), by simp [emit], ?_, ?_⟩
      · simp only [enc_modEnc]
        split <;> simp [Enc.ssiNumber]
      · simp only [enc_modEnc, Enc.ssiStep, Enc.ssiNumber]
        split
        next stays => simp [stays]
        next steps => simp [steps]

end Sys2Proof.Machine
end

section
/-! Emulation outputs and pins (R423 to R427): a step of an output, and an edge at a pin. -/
namespace Sys2Proof.Machine

/-! ### Emulation outputs (R423 to R425) -/

/-- The state in which an output makes its step: 40 ns after the last one, with the lag reported where it was due before. -/
def emuReady (o : Nat) (s : State) : State :=
  let ahead := match (s.emu o).lastStep with | some l => advTo (l + 40) s | none => s
  if (match (s.emu o).lastStep with | some l => decide (s.now < l + 40) | none => false)
  then pacedEnc .emuLag o 0x0904 0 0 ahead else ahead
theorem encs_pacedEnc (k : Pace) (e code p1 p2 : Nat) (s : State) :
    (pacedEnc k e code p1 p2 s).encs = s.encs ∧ ∀ o, (pacedEnc k e code p1 p2 s).emu o = s.emu o := by
  unfold pacedEnc
  dsimp only
  split
  · simp only [raise_rest]
    exact ⟨rfl, fun _ => rfl⟩
  · exact ⟨rfl, fun _ => rfl⟩
/-- Waiting for its step leaves every encoder and output. -/
@[simp] theorem emuReady_keeps (o : Nat) (s : State) :
    (emuReady o s).encs = s.encs ∧ ∀ i, (emuReady o s).emu i = s.emu i := by
  unfold emuReady
  cases (s.emu o).lastStep with
  | none => exact ⟨rfl, fun _ => rfl⟩
  | some l =>
    dsimp only
    split <;> simp [encs_pacedEnc]

theorem exec_emulationStep_owed {o : EncId} {t : Nat} {s : State} (owes : emuOwes (advTo t s) (s.emu o) ≠ 0) :
    exec (.emulationStep o t) s =
      .next (emuMove o (emuOwes (advTo t s) (s.emu o)) (emuReady o (advTo t s))) := by
  have same : (advTo t s).emu o = s.emu o := by simp
  rw [← same] at owes ⊢
  exact congrArg Host.Outcome.next (if_neg owes)

@[simp] theorem getLast?_out_emit (x : Out) (s : State) : (emit x s).out.getLast? = some x := by simp [emit]
/-- A step moves the output's position, its levels with it, and marks the Z positions. -/
theorem emu_emuMove (o : Nat) (d : Int) (s : State) :
    ((emuMove o d s).emu o).o = (s.emu o).o + d ∧
    (((emuMove o d s).emu o).a, ((emuMove o d s).emu o).b) = quadLevels (((s.emu o).o + d) % 4).toNat ∧
    ((emuMove o d s).emu o).z = (decide (0 < (s.emu o).zEvery) && ((s.emu o).o + d) % ((s.emu o).zEvery : Int) == 0) ∧
    (emuMove o d s).out.getLast? = some (.emu o ((emuMove o d s).emu o).a ((emuMove o d s).emu o).b
      ((emuMove o d s).emu o).z) ∧
    (emuMove o d s).encs = s.encs := by
  simp [emuMove]

/-! ### Pins (R426, R427) -/

theorem pin_raise (code sev p0 p1 p2 : Nat) (rs : List Nat) (s : State) (i : Nat) :
    (raise code sev p0 p1 p2 rs s).pin i = s.pin i := by
  simp
/-- The counters of a capture: CAP_CNT, and CAP_LOST_CNT where the last one is unread. -/
def countCapture (p : Nat) (s : State) : State :=
  countPin p .cap (if (s.pin p).unread then countPin p .capLost s else s)
theorem pin_countCapture (p : Nat) (s : State) :
    ((countCapture p s).pin p).level = (s.pin p).level ∧
    cnt ((countCapture p s).pin p).counts 0 = cnt (count (s.pin p).counts 0) 0 := by
  unfold countCapture
  cases (s.pin p).unread <;> simp [countPin, PinCnt.ctorIdx, count, cnt_countN_ne]
/-- A capture records the time and the count of the encoder. -/
theorem pin_capture (p : Nat) (s : State) : ∃ report, (capture p s).pin p = { (countCapture p s).pin p with
    capTime := s.now, unread := true, lastReport := report
    capCount := match (s.pin p).capEnc with | some e => (s.enc e).count | none => 0 } := by
  unfold capture
  dsimp only
  split
  all_goals
    split
    · exact ⟨_, by rw [pin_raise, pin_modPin]; rfl⟩
    · exact ⟨_, by rw [pin_modPin]; rfl⟩

section
variable {p : Fin 64} {level : Bool} {t : Nat} {s : State} (changed : (s.pin p).level ≠ level)
include changed

/-- An edge to a new level takes it, and captures where the pin's mode and EDGE ask for it. -/
theorem exec_gpioEdge_changed : exec (.gpioEdge p level t) s =
    .next (if (s.pin p).mode = .capture ∧ ((s.pin p).edge = 2 ∨ ((s.pin p).edge = 0 ∧ level = true) ∨ ((s.pin p).edge = 1 ∧ level = false))
      then capture p (modPin p (fun v => { v with level := level }) (advTo t s))
      else modPin p (fun v => { v with level := level }) (advTo t s)) := by
  show execGpioEdge p level t s = _
  simp [execGpioEdge, changed]
end

/-- Settles O33: the step of an output, and the edge at a pin with its capture. -/
theorem pinAndOutputEventsAct : Obligations.PinAndOutputEventsAct := by
  unfold Obligations.PinAndOutputEventsAct
  refine ⟨?step, ?edge⟩
  case step =>
    intro o t s owes
    obtain ⟨position, levels, z, last, encs⟩ := emu_emuMove o (emuOwes (advTo t s) (s.emu o)) (emuReady o (advTo t s))
    simp only [emuReady_keeps, advTo_units, advTo_frame] at position levels z encs
    refine ⟨_, exec_emulationStep_owed owes, position, ?_, ?_, last, encs⟩
    · rw [position, levels]
    · rw [position, z]
  case edge =>
    intro p level t s changed
    rw [exec_gpioEdge_changed changed]
    by_cases captures : (s.pin p).mode = .capture ∧
        ((s.pin p).edge = 2 ∨ ((s.pin p).edge = 0 ∧ level = true) ∨ ((s.pin p).edge = 1 ∧ level = false))
    · rw [if_pos captures]
      obtain ⟨report, captured⟩ := pin_capture p (modPin p (fun v => { v with level := level }) (advTo t s))
      obtain ⟨same, counts⟩ := pin_countCapture p (modPin p (fun v => { v with level := level }) (advTo t s))
      refine ⟨_, rfl, by simp [captured, same], fun _ _ => ⟨?_, by rw [captured], ?_, by simp [captured, counts]⟩⟩
      · rw [captured, ← now_advTo]
        rfl
      · rw [captured]
        cases named : (s.pin p).capEnc <;> simp [named]
    · rw [if_neg captures]
      exact ⟨_, rfl, by simp, fun mode edge => absurd ⟨mode, edge⟩ captures⟩

end Sys2Proof.Machine
end

section
/-! Election and join (R431, R436, R439, R440): what each event does where its guard is open. -/
namespace Sys2Proof.Machine

/-! ### At the manager (R439, R440) -/

section
variable {h k w : Nat} {ups : List (Nat × Nat)} {nonce : List Byte} {s x : State} (manages : s.hive.state = .manager)
  (at' : x = modHive (fun y => { y with joins := y.joins.filter fun j => j.serial != k }) s)
include manages at'

/-- A request with room and depth is challenged and remembered. -/
theorem joinRequest_challenged (room : x.hive.joins.length < 64) (shallow : x.worstOf (x.parentOf ups) < 4) :
    joinRequest h k w ups nonce s = sendJoin h 1 k (nonce ++ b64 x.sys.serial) (modHive (fun y => { y with
      joins := y.joins ++ [{ serial := k, link := h, role := w, ups := ups, nonce := nonce, since := x.now }] }) x) := by
  subst at'
  exact (if_pos manages).trans ((if_neg (Nat.not_le.mpr room)).trans (if_neg (Nat.not_le.mpr shallow)))
/-- One without is refused for its capacity or for its depth. -/
theorem joinRequest_refused (excess : 64 ≤ x.hive.joins.length ∨ 4 ≤ x.worstOf (x.parentOf ups)) :
    joinRequest h k w ups nonce s = refuseJoin h k (if 64 ≤ x.hive.joins.length then 5 else 2) x := by
  subst at'
  refine (if_pos manages).trans ?_
  dsimp only
  split
  next => rfl
  next room => exact if_pos (excess.resolve_left room)
end

section
variable {h k : Nat} {signature cert : List Byte} {j : Join} {s : State} (manages : s.hive.state = .manager)
  (asked : (s.hive.joins.find? fun j => j.serial == k) = some j)
include manages asked

/-- A response by the key of its certificate is judged by the policy and the ID table. -/
theorem joinResponse_proved {key : List Byte} (certified : Config.certKey (imageSection s.trust.running 2) cert = some (k, key))
    (verified : Config.sm2Verify [] key (j.nonce ++ b64 k ++ b64 s.sys.serial) signature = true) :
    joinResponse h k signature cert s = if !s.policyAdmits k then refuseJoin h k 4 s
      else match s.pickId k with | none => refuseJoin h k 3 s | some id => acceptJoin j id s := by
  unfold joinResponse
  simp only [manages, if_true, asked, certified, verified, beq_self_eq_true, Bool.true_and, Bool.not_true,
    Bool.false_eq_true, if_false] <;> rfl
/-- One whose certificate gives no key is refused for its proof. -/
theorem joinResponse_uncertified (uncertified : Config.certKey (imageSection s.trust.running 2) cert = none) :
    joinResponse h k signature cert s = refuseJoin h k 1 s := by
  unfold joinResponse
  simp only [manages, if_true, asked, uncertified, Bool.not_false]
end

/-! ### At the joining device (R431, R436, R439) -/

/-- A device that has asked to join on link `h`, and waits for the answer. -/
structure State.Asks (s : State) (h : Nat) : Prop where
  joining : s.hive.state = .joining
  pending : s.hive.joinPending = true
  uplink : s.hive.uplink = some h

section
variable {h : Nat} {s : State} (asks : s.Asks h)
include asks

theorem joinChallenge_asked (nonce : List Byte) (k : Nat) : joinChallenge h nonce k s =
    hsendLink h 1 2 hfUp (b64 s.sys.serial ++ Config.sm2Sign (nonce ++ b64 s.sys.serial ++ b64 k) ++ Config.identityCert)
      (modHive (fun x => { x with managerSerial := k }) s) :=
  if_pos ⟨asks.joining, asks.pending, asks.uplink⟩
theorem joinAccept_asked (a : JoinAccept) :
    joinAccept h a s = completeJoin (modHive (fun x => { x with accepted := some a }) s) :=
  if_pos ⟨asks.joining, asks.pending, asks.uplink⟩
/-- A refusal sets when the device asks again, and is reported. -/
theorem hive_joinRefuse_asked (reason : Nat) : (joinRefuse h reason s).hive = { s.hive with
    joinPending := false, accepted := none, refusal := reason
    retryAt := some (s.now + (if reason = 5 then 100000000 else 10000000000)) } := by
  unfold joinRefuse
  rw [if_pos ⟨asks.joining, asks.pending, asks.uplink⟩]
  simp
end

/-- The device asks to join on an admitted link, a manager-capable one once its election is settled. -/
theorem exec_joinRequestSend_free {l : LaneId} {s : State} (joining : s.hive.state = .joining)
    (admitted : s.admittedLinks.contains (s.head l) = true) (idle : s.hive.joinPending = false)
    (waits : s.hive.retryAt = none)
    (settled : s.worker = true ∨ (s.hive.listenSince = none ∧ s.hive.announceSince = none)) :
    exec (.joinRequestSend l) s = .next (requestJoin (s.head l) s) := by
  refine congrArg Host.Outcome.next (if_pos ⟨joining, admitted, by simp [idle], by simp [waits], ?_⟩)
  simpa using settled
/-- A retry asks again on the same link. -/
theorem exec_joinRetry_due {t h : Nat} {s x : State} (due : s.hive.retryAt = some t) (uplink : s.hive.uplink = some h)
    (at' : x = modHive (fun x => { x with retryAt := none }) (advTo t s)) (joining : s.hive.state = .joining)
    (admitted : x.admittedLinks.contains h = true) : exec .joinRetry s = .next (requestJoin h x) := by
  subst at'
  have joining' : (modHive (fun x => { x with retryAt := none }) (advTo t s)).hive.state = .joining := by simpa using joining
  show execJoinRetry s = _
  simp only [execJoinRetry, due, uplink, joining', admitted, and_self, if_true]

/-- Settles O35: election, join and refusal, event by event. -/
theorem hiveElectionAndJoinEventsAct : Obligations.HiveElectionAndJoinEventsAct := by
  unfold Obligations.HiveElectionAndJoinEventsAct
  refine ⟨?alone, ?listened, ?announce, ?announcement, ?won, ?request, ?challenged, ?unchallenged, ?challenge, ?proved,
    ?uncertified, ?accepted, ?refused, ?retry⟩
  case alone =>
    intro s joining capable ready unlinked
    show execHiveFormAlone s = _
    simp only [execHiveFormAlone, joining, capable, ready, unlinked, and_self, if_true]
  case listened =>
    intro t s since joining capable
    refine ⟨modHive (fun h => { h with listenSince := none, announceSince := some (advTo (t + 200000000) s).now, quiet := false })
      (advTo (t + 200000000) s), ?_, ?_, ?_⟩
    · show execElectionListenEnd s = _
      simp [execElectionListenEnd, since, joining, capable]
    · simp [modHive, now_advTo]
    · simp [now_advTo]
  case announce =>
    intro s joining announces
    exact congrArg Host.Outcome.next (if_pos ⟨joining, announces⟩)
  case announcement =>
    intro l a p q h s hived
    exact congrArg Host.Outcome.next (if_neg hived)
  case won =>
    intro t s since joining
    show execElectionWin s = _
    simp [execElectionWin, since, joining]
  case request =>
    intro l s joining admitted idle waits settled
    exact exec_joinRequestSend_free joining admitted idle waits settled
  case challenged =>
    intro l k w ups nonce x s manages at' room shallow
    exact congrArg Host.Outcome.next (joinRequest_challenged manages at' room shallow)
  case unchallenged =>
    intro l k w ups nonce x s manages at' excess
    exact congrArg Host.Outcome.next (joinRequest_refused manages at' excess)
  case challenge =>
    intro l nonce k s joining pending uplink
    exact congrArg Host.Outcome.next (joinChallenge_asked ⟨joining, pending, uplink⟩ nonce k)
  case proved =>
    intro l k n signature cert key j s manages asked certified named verified
    subst named
    exact congrArg Host.Outcome.next (joinResponse_proved manages asked certified verified)
  case uncertified =>
    intro l k signature cert j s manages asked uncertified
    exact congrArg Host.Outcome.next (joinResponse_uncertified manages asked uncertified)
  case accepted =>
    intro l i d p w b s joining pending uplink
    exact congrArg Host.Outcome.next (joinAccept_asked ⟨joining, pending, uplink⟩ _)
  case refused =>
    intro l k s joining pending uplink
    exact ⟨_, rfl, hive_joinRefuse_asked ⟨joining, pending, uplink⟩ k⟩
  case retry =>
    intro t h x s due uplink at' joining admitted
    exact exec_joinRetry_due due uplink at' joining admitted

end Sys2Proof.Machine
end

section
/-! The keeper at work (R480, R518 to R524, R543) and the release of SYS_RST_N (R375, R430, R456, R458): what each event
does where its guard is open. -/
namespace Sys2Proof.Machine

/-! ### Saves of the honey counters (R524) -/

/-- The keeper runs its firmware and may save: READY is 1 and the loader is not what runs. -/
structure State.Serving (s : State) : Prop where
  ready : s.sys.ready = true
  loaded : s.sys.stage ≠ .loader
theorem State.Serving.not_idle {s : State} (h : s.Serving) : ¬((!s.sys.ready) = true ∨ s.sys.stage = .loader) := by
  simp [h.ready, h.loaded]

section
variable {s : State} (serves : s.Serving)
include serves

/-- The periodic save is made where no fault asks for an earlier one. -/
theorem exec_honeySave_periodic
    (first : ∀ d, s.keeper.faultSaveDue = some d → s.keeper.lastSave + 600000000000 < d) :
    exec .honeySave s = .next (saveHoney 1 (advTo (s.keeper.lastSave + 600000000000) s)) := by
  show execHoneySave s = _
  refine congrArg Host.Outcome.next ((if_neg serves.not_idle).trans ?_)
  cases due : s.keeper.faultSaveDue with
  | none => rfl
  | some d => exact if_neg (Nat.not_le.mpr (first d due))
/-- The save that a fault asked for is made where it is due first. -/
theorem exec_honeySave_fault {d : Nat} (due : s.keeper.faultSaveDue = some d)
    (first : d ≤ s.keeper.lastSave + 600000000000) :
    exec .honeySave s = .next (sendHoneySummary (saveHoney 3 (modKeeper (fun k => { k with
      faultSaveDue := none, lastFaultSave := some (max s.now d) }) (advTo d s)))) := by
  show execHoneySave s = _
  refine congrArg Host.Outcome.next ((if_neg serves.not_idle).trans ?_)
  rw [due]
  exact (if_pos first).trans (by simp only [now_advTo])
end

/-- Settles O42: the keeper's own events, and a DOE discovery. -/
theorem keeperEventsAct : Obligations.KeeperEventsAct := by
  unfold Obligations.KeeperEventsAct
  refine ⟨?sleep, ?tick, ?sample, ?entry, ?overflow, ?periodic, ?fault, ?discovery⟩
  case sleep =>
    intro t s ready noRequest noWait noLog noReport idle
    refine ⟨modKeeper (fun k => { k with asleep := true }) (advTo t s), ?_, by simp [modKeeper], by simp [now_advTo]⟩
    show execKeeperSleep t s = _
    simp [execKeeperSleep, ready, noRequest, noWait, noLog, noReport, now_advTo, idle]
  case tick =>
    intro x s ready loaded at'
    subst at'
    show execKeeperTick s = _
    simp only [execKeeperTick]
    rw [if_neg (State.Serving.not_idle ⟨ready, loaded⟩)]
  case sample =>
    intro ts vs ps s ready loaded tenth
    exact ⟨_, congrArg Host.Outcome.next (if_neg (by simp [ready, loaded, tenth])), rfl, rfl, rfl⟩
  case entry =>
    intro e l s ready kept oldest
    show execLogEntryProgram s = _
    simp [execLogEntryProgram, ready, kept, oldest]
  case overflow =>
    intro s ready replaced
    show execLogEntryProgram s = _
    simp [execLogEntryProgram, ready, replaced]
  case periodic =>
    intro s ready loaded first
    exact exec_honeySave_periodic ⟨ready, loaded⟩ first
  case fault =>
    intro d s ready loaded due first
    exact exec_honeySave_fault ⟨ready, loaded⟩ due first
  case discovery =>
    intro f d s present up out ready loaded length whole vendor discovery
    refine congrArg Host.Outcome.next ((if_neg ?_).trans (if_pos discovery))
    simpa [present, up, out, ready, loaded, vendor, length] using whole

/-! ### The release of SYS_RST_N (R375, R430, R456, R458) -/

/-- An entry of the log changes the keeper's record alone. -/
theorem logNow_keeps (code sev p0 p1 p2 : Nat) (s : State) :
    (logNow code sev p0 p1 p2 s).sys = s.sys ∧ (logNow code sev p0 p1 p2 s).clock = s.clock ∧
    (logNow code sev p0 p1 p2 s).mon = s.mon ∧ (logNow code sev p0 p1 p2 s).hive = s.hive := by
  have k := logNow_foot (w := 64) (by decide) code sev p0 p1 p2 s
  exact ⟨mask_sys (w := 64) rfl k, mask_clock (w := 64) rfl k, mask_mon (w := 64) rfl k, mask_hive (w := 64) rfl k⟩
/-- So does an entry made on a condition. -/
theorem logIf_keeps (c : Prop) [Decidable c] (code sev p0 p1 p2 : Nat) (s : State) :
    (if c then logNow code sev p0 p1 p2 s else s).sys = s.sys ∧
    (if c then logNow code sev p0 p1 p2 s else s).clock = s.clock ∧
    (if c then logNow code sev p0 p1 p2 s else s).mon = s.mon ∧
    (if c then logNow code sev p0 p1 p2 s else s).hive = s.hive := by
  split
  · exact logNow_keeps ..
  · exact ⟨rfl, rfl, rfl, rfl⟩
/-- With every clock and rail in order there is no fault to detect again. -/
theorem redetect_sound {s : State} (clocks : s.mon.lostClocks = []) (rails : s.mon.faultRails = []) : redetect s = s := by
  simp [redetect, clocks, rails]

/-- Settles O46: what the release makes of the device, and where it does nothing. -/
theorem releaseSamplesTheStraps : Obligations.ReleaseSamplesTheStraps := by
  unfold Obligations.ReleaseSamplesTheStraps
  refine ⟨?released, ?ignored⟩
  case released =>
    intro x s held untripped clocks rails
    refine ⟨_, congrArg Host.Outcome.next (if_pos ⟨held, by simp [untripped]⟩), ?_⟩
    unfold releaseReset
    dsimp only
    rw [redetect_sound (by simpa [logIf_keeps, logNow_keeps, settleAon] using clocks)
      (by simpa [logIf_keeps, logNow_keeps, settleAon] using rails)]
    refine ⟨?_, ?_, ?_⟩
    · simp only [logIf_keeps, logNow_keeps]
      rfl
    · simp only [State.now, logIf_keeps, logNow_keeps]
    · simp [logIf_keeps, logNow_keeps, standaloneRole, or_assoc]
  case ignored =>
    intro x s closed
    refine congrArg Host.Outcome.next (if_neg ?_)
    rintro ⟨held, untripped⟩
    rcases closed with notHeld | tripped
    · exact notHeld held
    · simp [tripped] at untripped

end Sys2Proof.Machine
end
